-- ==== Sys2Proof/Word.lean ====
section
/-! DEFINITION. The word types of the DN-9600 model and their plainest helpers. -/

namespace Sys2Proof

/-- A register word: every register is 32 bits wide (R7). -/
abbrev Word := BitVec 32

/-- One byte of a frame, of the flash or of a table form. -/
abbrev Byte := BitVec 8

/-- A packet ticket (R28, Table 1.2): 256 bits, bit 255 sent first. -/
abbrev Ticket := BitVec 256

end Sys2Proof
end

