-- ==== Sys2Proof/Syntax.lean ====
section
/-! DEFINITION. The commands of the block: one constructor of `Instr` for each row of spec/opcode_table.json, with
the operands the row's rule gives it. Operands name units by bounded numbers, so a unit that does not exist cannot
be named; what a number cannot say (a payload's length) is a check of WellFormed. -/

namespace Sys2Proof

/-- An upset of a unit row of the search array: the bits that it flips (R254, R255). -/
structure Upset where
  /-- In the value. -/
  val : BitVec 80 := 0
  /-- In the mask. -/
  mask : BitVec 80 := 0
  /-- In the valid bit. -/
  valid : Bool := false
  /-- In the parity bit. -/
  par : Bool := false
deriving DecidableEq, Repr

/-- A lookup that engine code issues (R270). -/
inductive XeLook where
  | route (vrf : BitVec 12) (v6 : Bool) (addr : BitVec 128)
  | em (t : Fin 4) (key : BitVec 128)
  | nextHop (i : BitVec 20) (h : BitVec 16)
  | tcm (al : Fin 32) (key : BitVec 320)
deriving DecidableEq, Repr

/-- What a thread's code does before it ends (R269, R270). The instruction set is not in the spec: the code is given by its effects, with
the values that it computes. -/
inductive XeAct where
  /-- Write a register. -/
  | reg (r : Fin 32) (v : BitVec 64)
  /-- Write a byte of scratch memory. -/
  | scratch (a : Fin 2048) (b : Byte)
  /-- A lookup; its result is the thread's. -/
  | look (q : XeLook)
  /-- Read the time base into a register. -/
  | time (r : Fin 32)
  /-- Read a program counter into a register. -/
  | pctr (r : Fin 32) (n : Fin 16384)
  /-- Read 8 bytes of the constants of the class's half into a register. -/
  | const (r : Fin 32) (a : Fin 16384)
  /-- Add a signed operand to a program counter. -/
  | add (n : Fin 16384) (v : Int)
deriving DecidableEq, Repr

/-- The role under which a write is made (R69). -/
inductive Role where
  | owner | timekeeper
deriving DecidableEq, Repr

/-- A chain frame as it arrives: header (Table 2.2), payload words, FCRC, and whether it ended with an error block (R56, R59). -/
structure ChainFrame where
  /-- The 16-byte header. -/
  hdr : BitVec 128
  /-- The payload words. -/
  payload : List Word
  /-- The frame check sequence. -/
  fcrc : Word
  /-- It ended with an error block. -/
  errEnd : Bool
deriving DecidableEq, Repr

/-- What the framer sees in one slice of a received OTUC frame (R159). -/
structure OtucSlice where
  /-- MFAS of the slice's instance. -/
  mfas : BitVec 8
  /-- SM BIP-8 received and computed. -/
  smBipRx : BitVec 8
  smBip : BitVec 8
  /-- SM BEI/BIAE received. -/
  smBei : BitVec 4
  /-- PM BIP-8 received and computed. -/
  pmBipRx : BitVec 8
  pmBip : BitVec 8
  /-- PM BEI received. -/
  pmBei : BitVec 4
deriving DecidableEq, Repr

/-- A received OTUC frame's overhead: slices, and of slice 1 the TTI bytes, BDI, IAE and STAT (R159); whether group and
instance IDs match OTN_GID and are distinct and 1 to n, and whether instance skew is over 2 µs (Table 5.5). -/
structure OtucFrame where
  slices : List OtucSlice
  smTti : Byte
  pmTti : Byte
  smBdi : Bool
  pmBdi : Bool
  smIae : Bool
  stat : BitVec 3
  /-- The FlexO group ID received. -/
  gid : BitVec 20
  /-- Instance IDs are distinct and 1 to n. -/
  idsOk : Bool
  /-- Instance skew over 2 µs. -/
  skewBig : Bool
deriving DecidableEq, Repr

/-- An OTUC frame to send: the group, and by slice the bytes that the client's mapping puts into it (R160). -/
structure OtucOut where
  g : Fin 16
  opu : List (List Byte)
deriving DecidableEq, Repr

/-- The lanes of a group whose own receiver, and whose partner's receiver, is ready in training (R137). -/
structure TrainReport where
  p : Fin 128
  own : BitVec 8
  partner : BitVec 8
deriving DecidableEq, Repr

/-- What the receiver of a port sees: lanes of the group with signal, with CDR lock and, in OTN mode, locked and deskewed; whether FEC and PCS
are aligned (R138, R140, R157). -/
structure LineRx where
  sig : BitVec 8
  cdr : BitVec 8
  lock : BitVec 8
  align : Bool
deriving DecidableEq, Repr

/-- A chain port that finds block lock on its lanes, and the blocks by which one lane lags the other (R55, R81). -/
structure BlockLock where
  port : Fin 4
  skew : Nat
deriving DecidableEq, Repr

/-- How a received frame ended: whole, cut short by loss of alignment, or touching blocks of an uncorrectable codeword (R131, R133). -/
inductive RxEnd where
  | whole | cutShort | badBlock
deriving DecidableEq, Repr

/-- Corrected lines of an HBM read: by the controller's code, and reported by the stack's on-die ECC (R357, R358). -/
structure EccCount where
  /-- Lines the controller corrected. -/
  lines : Nat
  /-- Lines whose correction the on-die ECC reported. -/
  onDie : Nat
deriving DecidableEq, Repr

/-- What a fabric lane receives in the time of one cell (R421): 8 transcoded blocks of 32 bytes, wherever the cells begin in them, and the
codewords found uncorrectable meanwhile. -/
structure FabCell where
  /-- The 256 bytes, in the order received. -/
  bytes : List Byte
  /-- Uncorrectable FEC codewords. -/
  uncorr : Nat := 0
deriving DecidableEq, Repr


/-- A reference input (Table 19.5) that is lost or returns. -/
inductive RefInput where
  | sysref
  | lref (g : Fin 16)
  | fref (k : Fin 4)
  | time10m
deriving DecidableEq, Repr
/-- The commands of the block. -/
inductive Instr where
  /-- REGISTER_WRITE (R16): A write to a register that has no row of its own takes effect by its access type (RW sets, W1C clears, ST stages the open value, WO acts). -/
  | registerWrite (slot : Fin 4) (role : Role) (addr : Word) (val : Word)
  /-- RC_READ (R18): A read of an RC field returns the value and clears it for the owner session only. -/
  | rcRead (slot : Fin 4) (addr : Word)
  /-- COUNTER_LOW_READ (R23): A read of a counter low word latches the high word for the reading adapter slot. -/
  | counterLowRead (slot : Fin 4) (addr : Word)
  /-- COUNTER_WRITE (R483): An owner write of a counter word sets the count bits and may clear OVF. -/
  | counterWrite (slot : Fin 4) (role : Role) (addr : Word) (val : Word)
  /-- TB_NS_LO_READ (R23): A read of TGT_TB_NS_LO latches TB_NS_HI and TB_FRAC for the reading slot. -/
  | tbNsLoRead (slot : Fin 4)
  /-- PPS_CAP_LO_READ (R401): A read of TGT_PPS_CAP_LO latches the high word and fraction of the capture for the reading slot. -/
  | ppsCapLoRead (slot : Fin 4)
  /-- ACCESS_GATE_TIMEOUT (R35): An access with no reply within 4 us completes as domain unavailable and raises ACC_TIMEOUT. -/
  | accessGateTimeout (addr : Word)
  /-- XDOM_STALL (R33): A dual-clock queue found full for 64 writer cycles with its reader clock stopped raises XDOM and fences the reader domain. -/
  | xdomStall (blk : Fin 21) (dom : Fin 256)
  /-- FURLONG_GO (R41): A GO write to DEV_FURLONG_COMMIT seals the open set, or is refused busy while a set is pending or an apply runs. -/
  | furlongGo (slot : Fin 4)
  /-- FURLONG_GO_AT (R47): A GO with AT seals the open set for the boundary named by DEV_FURLONG_AT, or is refused with BAD_AT. -/
  | furlongGoAt (slot : Fin 4)
  /-- FURLONG_CANCEL (R46): A CANCEL write discards an unarmed sealed set, or completes busy after arming. -/
  | furlongCancel (slot : Fin 4)
  /-- FURLONG_SEAL_COMPLETE (R41): The last ST domain acknowledges sealing; the GO reply returns and TARGET is fixed. -/
  | furlongSealComplete
  /-- FURLONG_ARM (R43): 512 ns before its boundary the controller arms the sealed set and sends the boundary time to every ST domain. -/
  | furlongArm
  /-- FURLONG_BOUNDARY (R37): A furlong boundary occurs; DEV_FURLONG_SEQ increases and an armed set applies at each domain's switch instant. -/
  | furlongBoundary
  /-- CHAIN_FRAME_RX (R62): A chain frame received on a port is checked, delivered, forwarded, wrapped or discarded. -/
  | chainFrameRx (port : Fin 4) (f : ChainFrame)
  /-- BCAST_FILTER_LAPSE (R63): The filter state of a source lapses 10 ms after its last accepted broadcast. -/
  | bcastFilterLapse (src : Fin 128)
  /-- ID_CHANGE_HOLDOFF_END (R65): 10 ms after reset or a node ID change the node may send broadcasts under its new ID starting at TAG 0. -/
  | idChangeHoldoffEnd
  /-- CHAIN_PORT_TX (R66): An output port picks the next frame by class priority and transit fairness and sends it. -/
  | chainPortTx (port : Fin 4)
  /-- CHAIN_REQUEST_RX (R72): A read or write request addressed to the device is queued, answered busy, or answered from the reply cache. -/
  | chainRequestRx (port : Fin 4) (f : ChainFrame)
  /-- READ_REQUEST (R68): A queued read request is carried out word by word and a read response is sent. -/
  | readRequest
  /-- WRITE_REQUEST (R69): A queued write request is carried out word by word under role and epoch checks and a write response is sent. -/
  | writeRequest
  /-- PKTCH_SEND (R77): A packet channel queue sends a packet to the host as TYPE 0x5 fragments, subject to its token buckets. -/
  | pktchSend (n : Fin 8)
  /-- PACKET_FROM_HOST (R79): A TYPE 0x6 injection fragment is checked and reassembled; a complete packet gets its ticket rewritten and crosses the Ell. -/
  | packetFromHost (f : ChainFrame)
  /-- INJECT_TIMEOUT (R79): An injected packet still incomplete 1 ms after its first fragment is dropped. -/
  | injectTimeout (slot : Fin 4) (pktId : Fin 4096)
  /-- LINK_STATUS_SEND (R80): Every port sends a link status frame every 1 us in both directions. -/
  | linkStatusSend
  /-- LINK_STATUS_RX (R81): A received link status frame drives the side state machine (STABLE to JOIN, JOIN to UP, DOWN_NOTICE). -/
  | linkStatusRx (port : Fin 4) (w0 : Word) (w1 : Word)
  /-- SIDE_STABLE_TIMER (R81): A side held in lock with valid link status for 10 ms moves from DOWN to STABLE. -/
  | sideStableTimer (east : Bool)
  /-- SIDE_JOIN_TIMEOUT (R81): A side 1 ms in JOIN returns to DOWN. -/
  | sideJoinTimeout (east : Bool)
  /-- SIDE_LS_TIMEOUT (R81): 3 us without valid link status on an UP side takes it DOWN and applies the wrap. -/
  | sideLsTimeout (port : Fin 4)
  /-- CHAIN_LOCK_LOSS (R81): Loss of block lock on a chain port takes its side DOWN and applies the wrap. -/
  | chainLockLoss (port : Fin 4)
  /-- ENUM_WALK (R85): A WALK frame from the owner gets this node's record appended and is forwarded. -/
  | enumWalk (port : Fin 4) (f : ChainFrame)
  /-- ENUM_ASSIGN (R85): An ASSIGN naming this serial sets the address and sends ACK; another device with the address drops to 0. -/
  | enumAssign (port : Fin 4) (f : ChainFrame)
  /-- ENUM_CLEAR (R85): A CLEAR returns every device to address 0. -/
  | enumClear (port : Fin 4) (f : ChainFrame)
  /-- ENUM_RING (R85): A RING frame stores the ring order used for ring choice. -/
  | enumRing (port : Fin 4) (f : ChainFrame)
  /-- LEASE_HEARTBEAT (R89): A HEARTBEAT installs, renews or is ignored under the device lease state machine. -/
  | leaseHeartbeat (f : ChainFrame)
  /-- LEASE_RELEASE (R89): A RELEASE from the holder with the current epoch returns the role to NONE. -/
  | leaseRelease (f : ChainFrame)
  /-- LEASE_YIELD (R89): A YIELD from the holder moves the role to HANDOVER naming the successor. -/
  | leaseYield (f : ChainFrame)
  /-- LEASE_TIMER_EXPIRE (R89): The 250 ms lease or handover timer expires and the role goes to NONE. -/
  | leaseTimerExpire (role : Role)
  /-- KEY_REVOKE (R100): A write of IMG_KEY_REVOKE with the right CONFIRM blows a key's revoke fuse. -/
  | keyRevoke (slot : Fin 4) (confirm : Fin 65536) (k : Fin 4)
  /-- BOOT_SEL_WRITE (R104): A write of IMG_BOOT_SEL ONCE or ONCE_TUN is written through to flash. -/
  | bootSelWrite (slot : Fin 4) (once : Bool) (t : Fin 4)
  /-- SLICE_LOAD (R108): IMG_SLICE_LOAD GO starts loading a role from a Tun into an IDLE or READY slice, or sets LOAD_ERR. -/
  | sliceLoad (slot : Fin 4) (sl : Fin 16) (t : Fin 4) (n : Fin 8)
  /-- SLICE_UNLOAD (R107): IMG_SLICE_LOAD UNLOAD returns a READY slice to IDLE. -/
  | sliceUnload (slot : Fin 4) (sl : Fin 16)
  /-- SLICE_LOAD_DONE (R107): A slice load finishes: READY with event 0x0C03, or IDLE with LOAD_ERR on failure. -/
  | sliceLoadDone (sl : Fin 9)
  /-- STEER_WRITE (R110): A write to IMG_STEER is checked and staged, or refused with STEER_REJ. -/
  | steerWrite (slot : Fin 4) (val : Word)
  /-- BARRIER_OPEN (R114): The old slice's merge passes all three tokens of an input and the new slice releases its held heads. -/
  | barrierOpen (inp : Fin 32)
  /-- DRAIN_COMPLETE (R116): A draining slice with open barriers, empty journal and no punted heads becomes READY. -/
  | drainComplete (sl : Fin 9)
  /-- APPLY_HITLESS (R119): IMG_APPLY GO with MODE 0 starts a hitless apply of a Tun or is refused. -/
  | applyHitless (slot : Fin 4) (t : Fin 4)
  /-- APPLY_COLD (R123): IMG_APPLY GO with MODE 1 deals with staged values and resets and boots the data path from a Tun. -/
  | applyCold (slot : Fin 4) (t : Fin 4)
  /-- APPLY_STOP (R122): IMG_APPLY STOP stops a running apply and leaves a consistent state in STOPPED. -/
  | applyStop (slot : Fin 4)
  /-- APPLY_PHASE_DONE (R120): A phase of a hitless apply completes and the sequencer moves to the next phase. -/
  | applyPhaseDone
  /-- GRP_MODE_WRITE (R129): A write of LP_GRP_MODE is checked and applied or refused with MODE_REJ. -/
  | grpModeWrite (slot : Fin 4) (g : Fin 16) (val : Word)
  /-- PORT_ENABLE (R138): EN written 1 makes a port start from OFF. -/
  | portEnable (slot : Fin 4) (p : Fin 128)
  /-- PORT_DISABLE (R141): EN written 0 completes the current frame and takes the port to OFF. -/
  | portDisable (slot : Fin 4) (p : Fin 128)
  /-- AN_COMPLETE (R136): Clause 73 auto-negotiation completes and the port moves to TRAIN or SYNC, or fails. -/
  | anComplete (p : Fin 128) (partner : BitVec 12)
  /-- AN_TIMEOUT (R138): AN_TIMEOUT expires and the port fails to HOLDOFF. -/
  | anTimeout (p : Fin 128)
  /-- TRAIN_COMPLETE (R137): Every lane reports its own and its partner's receiver ready and the port moves to SYNC. -/
  | trainComplete (r : TrainReport)
  /-- TRAIN_TIMEOUT (R138): TRAIN_TIMEOUT expires and the port fails to HOLDOFF. -/
  | trainTimeout (p : Fin 128)
  /-- SYNC_STABLE (R138): Alignment without fault held for UP_STABLE takes the port UP with LINK 1. -/
  | syncStable (p : Fin 128)
  /-- SYNC_TIMEOUT (R138): SYNC_TIMEOUT expires: a failure, or a new start when SYNC was entered from UP. -/
  | syncTimeout (p : Fin 128)
  /-- LINK_FAULT (R140): Local or remote fault in UP drops LINK and returns the port to SYNC. The receive condition that the port now has;
  `midFrame` says that a frame is being transmitted. -/
  | linkFault (p : Fin 128) (remote : Bool) (rx : LineRx) (midFrame : Bool)
  /-- HOLDOFF_EXPIRE (R139): The hold-off of a port expires and it makes a start. -/
  | holdoffExpire (p : Fin 128)
  /-- PARTNER_DETECT (R139): A partner detected on every lane in HOLDOFF ends the hold-off early. -/
  | partnerDetect (p : Fin 128)
  /-- MAC_FRAME_RX (R133): A received frame is checked, timestamped, split into head and body, or dropped and counted. -/
  | macFrameRx (p : Fin 128) (bytes : List Byte) (fin : RxEnd)
  /-- MAC_FRAME_TX (R146): The MAC joins head and body, applies one-step or two-step timestamping and transmits. -/
  | macFrameTx (p : Fin 128)
  /-- TXTS_HDR_READ (R147): An owner read of LP_TXTS_HDR returns and removes the oldest two-step entry. -/
  | txtsHdrRead (slot : Fin 4) (p : Fin 128)
  /-- DEG_SER_WINDOW (R132): At the end of each 10 ms window the corrected-symbol count sets or clears DEG_SER. -/
  | degSerWindow (p : Fin 128) (lane : Fin 8) (syms : List Word) (corr : Word) (uncorr : Word)
  /-- SYNCE_LANE_LOSS (R148): Loss of the source lane moves a recovered clock output to BACKUP or squelches it. -/
  | synceLaneLoss (j : Fin 2)
  /-- SYNCE_RELOCK (R148): A squelched output restarts on PRIMARY when that lane regains lock. -/
  | synceRelock (j : Fin 2)
  /-- SYNCE_CFG_WRITE (R148): A write of LP_SYNCE_CFG returns the output to PRIMARY or sets it. -/
  | synceCfgWrite (slot : Fin 4) (j : Fin 2) (val : Word)
  /-- FAS_SIGHTING (R155): The hunter sees the FlexO frame alignment word and creates a candidate or ignores the sighting. -/
  | fasSighting (g : Fin 16) (inst : Fin 16) (offset : Fin 696320)
  /-- CANDIDATE_CHECK (R155): One frame period after a sighting a candidate is confirmed, locked into IF or discarded. -/
  | candidateCheck (g : Fin 16) (inst : Fin 16) (offset : Fin 696320) (present : Bool)
  /-- LOCKED_FRAME_CHECK (R155): The word absent at the locked offset in 5 consecutive frames returns the instance to HUNT. -/
  | lockedFrameCheck (g : Fin 16) (inst : Fin 16) (present : Bool)
  /-- MF_ALIGN_TIMEOUT (R155): No multiframe alignment within 2 ms of IF bars the offset and returns to HUNT. -/
  | mfAlignTimeout (g : Fin 16) (inst : Fin 16)
  /-- OTUC_FRAME_RX (R159): An OTUC frame is received: MFAS, BIP, BEI, TTI and STAT are processed. -/
  | otucFrameRx (g : Fin 16) (f : OtucFrame)
  /-- OTUC_FRAME_TX (R160): The framer sends an OTUC frame with computed BIP, BEI and configured overhead. -/
  | otucFrameTx (o : OtucOut)
  /-- DEFECT_INTEGRATION_TIMER (R162): A defect's set or clear integration time expires and its bit changes. -/
  | defectIntegrationTimer (g : Fin 16) (d : Fin 4) (set : Bool) (lanes : BitVec 8)
  /-- DEG_SECOND (R162): A 1 s window ends and counts as a bad or good second for dSM_DEG and dPM_DEG. -/
  | degSecond (g : Fin 16)
  /-- TTI_RX_READ (R166): A read of TTI RX word 0 latches words 1-15 for the reading slot. -/
  | ttiRxRead (slot : Fin 4) (g : Fin 16) (pm : Bool)
  /-- HEAD_DEAL (R183): A head is dealt to the least-loaded track of its direction with an INSEQ and a journal entry. -/
  | headDeal (inp : Fin 32)
  /-- HEAD_STAGE (R176): A head passes one stage: keys built, lookups issued and one VLIW word executed per lane. -/
  | headStage (sl : Fin 9) (t : Fin 6) (k : Fin 1280)
  /-- HEAD_STAGE23_EXIT (R170): 1,280 cycles after parser entry a head leaves stage 23: deparsed, ticket completed, dropped or punted. -/
  | headStage23Exit (sl : Fin 9) (t : Fin 6)
  /-- MERGE_RELEASE (R184): The output merge releases the next head of an input in INSEQ order. -/
  | mergeRelease (sl : Fin 9) (inp : Fin 32)
  /-- PUNT_PORT_RELEASE (R186): A held punt enters its class queue when room appears and dealing resumes. -/
  | puntPortRelease (sl : Fin 9)
  /-- RETURN_ENTRY (R187): A returned head enters its stage in the first cycle with an empty lane. -/
  | returnEntry (sl : Fin 9) (eg : Bool)
  /-- RETURN_FORCE (R187): After RET_FORCE cycles without an empty lane the parser is refused one head. -/
  | returnForce (sl : Fin 9) (eg : Bool)
  /-- ADMIT_REPORT_RX (R189): An admission report arrives over the Ell and retires its journal entry or an engine SEND. -/
  | admitReportRx
  /-- SLICE_FENCE (R191): A class U or F fault of an ACTIVE slice pipeline fences it and sends a fence marker. -/
  | sliceFence (sl : Fin 9) (local' : Bool)
  /-- FENCE_ECHO_RX (R191): The echo of the fence marker arrives after the admission reports of earlier tickets. -/
  | fenceEchoRx
  /-- FAILOVER_STAGE (R194): Firmware stages and seals PAIRn := spare for the failed slice. -/
  | failoverStage
  /-- REPLAY_COMPLETE (R195): Every journal entry has been replayed and event 0x1802 is reported. -/
  | replayComplete (sl : Fin 9)
  /-- JRNL_DOMAIN_FAIL (R190): A journal domain fails, its heads are lost and the slice is replaced without replay. -/
  | jrnlDomainFail (sl : Fin 9)
  /-- TBL_CMD_WIN_WRITE (R218): Words written to TBL_CMD_WIN are assembled into queued descriptors or discarded. -/
  | tblCmdWinWrite (slot : Fin 4) (words : List Word)
  /-- TBL_NOP (R218): A NOP command completes with no effect. -/
  | tblNop
  /-- TBL_INSERT (R213): An INSERT adds a route or exact-match entry, or returns EXISTS or FULL. -/
  | tblInsert
  /-- TBL_UPSERT (R213): An UPSERT adds an entry or replaces the data of a present key. -/
  | tblUpsert
  /-- TBL_DELETE (R213): A DELETE removes an entry or returns NOT_FOUND, moving an overflow entry into a freed slot. -/
  | tblDelete
  /-- TBL_WRITE (R211): A WRITE sets an indexed next-hop, group or member entry. -/
  | tblWrite
  /-- TBL_READ (R219): A READ puts the found entry into TBL_READBACK, optionally clearing HIT. -/
  | tblRead
  /-- TBL_SIG_CHECK (R222): A SIG_CHECK compares an expected value with the running signature. -/
  | tblSigCheck
  /-- ROUTE_ROW_FREE (R208): Old rows of a split, merge or move are freed 2 us after the directory switch. -/
  | routeRowFree
  /-- TBL_FAIL_FIFO_READ (R219): An owner read of TBL_FAIL_FIFO returns and removes the oldest failure record. -/
  | tblFailFifoRead (slot : Fin 4)
  /-- SIG_SWEEP (R223): The background sweep recomputes a segment and raises SIG_DIFF on a mismatch. -/
  | sigSweep (tid : Fin 8) (view : Bool) (seg : Fin 256)
  /-- EM_REHASH_GO (R215): A GO to TBL_EM_REHASH starts or resumes a rehash of a table. -/
  | emRehashGo (slot : Fin 4) (t : Fin 4)
  /-- EM_REHASH_ABORT (R216): ABORT runs the cursor back and restores the old seed. -/
  | emRehashAbort (slot : Fin 4) (t : Fin 4)
  /-- REHASH_CURSOR_STEP (R217): Every 50 ns the rehash cursor moves one bucket's entries, or sticks. -/
  | rehashCursorStep (t : Fin 4)
  /-- LEARN_APPLY (R227): The learn engine applies the next queued request as a learn, move, refresh or refusal. -/
  | learnApply (sl : Fin 9)
  /-- LRN_INSERT_STATIC (R230): A host command writes a static learning entry. -/
  | lrnInsertStatic (sl : Fin 9)
  /-- LRN_INSERT_DYNAMIC (R230): A host command applies a learn request ignoring any hold. -/
  | lrnInsertDynamic (sl : Fin 9)
  /-- LRN_DELETE (R230): A host command removes a learning entry. -/
  | lrnDelete (sl : Fin 9)
  /-- LRN_READ_KEY (R230): A host command reads the entry of a key into LRN_HRESULT. -/
  | lrnReadKey (sl : Fin 9)
  /-- LRN_READ_INDEX (R230): A host command reads the entry at an index into LRN_HRESULT and LRN_HKEY. -/
  | lrnReadIndex (sl : Fin 9)
  /-- LRN_FLUSH_LOC (R230): A host command starts removing every dynamic entry of one location. -/
  | lrnFlushLoc (sl : Fin 9)
  /-- LRN_FLUSH_DYN (R230): A host command starts removing every dynamic entry. -/
  | lrnFlushDyn (sl : Fin 9)
  /-- LRN_FLUSH_DONE (R230): A flush completes and event 0x2004 is reported. -/
  | lrnFlushDone (sl : Fin 9)
  /-- LRN_NOTIFY_READ (R231): An owner read of LRN_NOTIFY removes one word of the oldest notification record. -/
  | lrnNotifyRead (slot : Fin 4) (sl : Fin 9)
  /-- LRN_SCAN_VISIT (R232): The scanner visits an entry: clears MOVED, removes old generations, ages on aging passes. -/
  | lrnScanVisit (sl : Fin 9) (index : Fin 264192) (hit : Bool)
  /-- LRN_COPY_GO (R235): LRN_COPY GO starts copying one slice's learning table into another, or sets COPY_REJ. -/
  | lrnCopyGo (slot : Fin 4) (val : Word)
  /-- LRN_COPY_STOP (R235): LRN_COPY STOP ends shadowing. -/
  | lrnCopyStop (slot : Fin 4) (val : Word)
  /-- LRN_COPY_DONE (R235): The copy completes and the destination starts shadowing the source. -/
  | lrnCopyDone
  /-- TCM_CMD_WIN_WRITE (R249): Words written to TCM_CMD_WIN are assembled into queued descriptors or discarded. -/
  | tcmCmdWinWrite (slot : Fin 4) (words : List Word)
  /-- TCM_NOP (R249): A NOP command completes with no effect. -/
  | tcmNop
  /-- TCM_WRITE (R248): A WRITE sets a valid entry at a bank and row in one cycle. -/
  | tcmWrite
  /-- TCM_CLEAR (R249): A CLEAR invalidates the entry at a bank and row. -/
  | tcmClear
  /-- TCM_READ (R249): A READ copies an entry into TCM_READBACK. -/
  | tcmRead
  /-- TCM_DATA (R249): A DATA command replaces only the associated data of an entry. -/
  | tcmData
  /-- BULK_BEGIN (R253): BULK_BEGIN opens a bulk session on a table. -/
  | bulkBegin
  /-- BULK_END (R253): BULK_END closes the session and starts its overlap check. -/
  | bulkEnd
  /-- TCM_SEARCH (R249): A SEARCH looks up a key as a stage would and reports the winner. -/
  | tcmSearch
  /-- BULK_CHECK_STEP (R253): The overlap check compares one session entry with the table every 100 ns. -/
  | bulkCheckStep
  /-- TCM_SCRUB_ROW (R255): The scrubber compares a row with its shadow and repairs a difference. -/
  | tcmScrubRow (p : Fin 96) (row : Fin 2048) (hit : Upset)
  /-- TCM_SUSPECT_WINDOW (R258): At the end of each 1 s window a bank with THRESHOLD events becomes SUSPECT. -/
  | tcmSuspectWindow
  /-- TCM_COPY_ROW (R258): Bank replacement copies one row from the shadow into the target every 20 ns. -/
  | tcmCopyRow (p : Fin 96)
  /-- TCM_BANK_FENCE (R259): A write of FENCE fences a bank at once. -/
  | tcmBankFence (slot : Fin 4) (p : Fin 96)
  /-- TCM_ALIAS_WRITE (R247): A write of TCM_ALIAS is checked and staged or refused with ALIAS_REJ. -/
  | tcmAliasWrite (slot : Fin 4) (a : Fin 32) (val : Word)
  /-- TCM_FAIL_FIFO_READ (R250): An owner read of TCM_FAIL_FIFO returns and removes the oldest failure record. -/
  | tcmFailFifoRead (slot : Fin 4)
  /-- XE_DISPATCH (R267): The dispatcher gives the front head of a class queue to a thread of a cluster. -/
  | xeDispatch
  /-- XE_RETURN (R271): A thread ends with RETURN to a stage. -/
  | xeReturn (e : Fin 128) (t : Fin 8) (stage : Fin 23) (vec : List (Fin 128 × Word)) (run : List XeAct)
  /-- XE_SEND (R271): A thread ends with SEND of a ticket and output head over the engines' Ell port. -/
  | xeSend (e : Fin 128) (t : Fin 8) (tkt : Ticket) (out : List Byte) (run : List XeAct)
  /-- XE_DROP (R271): A thread ends with DROP. -/
  | xeDrop (e : Fin 128) (t : Fin 8) (run : List XeAct)
  /-- XE_RETIRE (R273): A thread retires in ROB order and releases its outcome and counter adds. -/
  | xeRetire (e : Fin 128) (t : Fin 8)
  /-- XE_QWAIT_EXPIRE (R268): A head waiting longer than QWAIT_US is dropped at the front of its queue. -/
  | xeQwaitExpire (c : Fin 64)
  /-- XE_THREAD_OVERLIMIT (R276): A thread running past LIMIT_US fences its engine, or drops a RETRY head. -/
  | xeThreadOverlimit (e : Fin 128) (t : Fin 8)
  /-- XE_LAG_WINDOW (R278): At each 1 ms window end the cluster median is taken and laggard engines are fenced. -/
  | xeLagWindow
  /-- XE_ENGINE_FENCE (R276): A write of XE_ENGINE_FENCE fences an engine with reason 5. -/
  | xeEngineFence (slot : Fin 4) (val : Word)
  /-- XE_REC_DOMAIN_FAIL (R277): A cluster's record domain fails; its heads are lost and its engines fenced. -/
  | xeRecDomainFail (k : Fin 8)
  /-- XE_UCODE_LOAD (R279): A microcode load pauses a cluster. -/
  | xeUcodeLoad (k : Fin 8) (half : Bool)
  /-- XE_CLUSTER_DRAINED (R279): The paused cluster's threads have run out and its halves are written. -/
  | xeClusterDrained
  /-- XE_UCODE_WRITTEN (R279): The cluster's halves are written and it returns to dispatch. -/
  | xeUcodeWritten
  /-- XE_CLASS_WRITE (R265): A class register write is checked and staged or refused with CLASS_REJ. -/
  | xeClassWrite (slot : Fin 4) (role : Role) (c : Fin 64) (w : Fin 3) (val : Word)
  /-- ELL_FLIT_TX (R284): A bundle direction sends a DATA, CONTROL or TRAIN flit every 32 ns. -/
  | ellFlitTx (k : Fin 32)
  /-- ELL_FLIT_RX (R292): A received flit is checked for CRC and SEQ and its segments delivered, or a replay requested. -/
  | ellFlitRx (k : Fin 32) (hdr : List (Fin 128)) (rest : List (Fin 65408))
  /-- ELL_NAK_REPEAT (R292): The receiver repeats its NAK every 500 ns until NEXT_SEQ arrives. -/
  | ellNakRepeat (k : Fin 32)
  /-- ELL_LANE_BAD (R299): A lane that loses signal for 100 ns or shows LANE_THR parity errors is bad and a swap is requested. -/
  | ellLaneBad (k : Fin 32) (lane : Fin 66) (loss : Bool)
  /-- ELL_FULL_SEARCH_DONE (R297): A full search ends and the bundle direction goes UP or is fenced. -/
  | ellFullSearchDone (k : Fin 32) (clk : Bool) (bad : BitVec 66)
  /-- ELL_TRAIN_TIMEOUT (R296): 10 ms in TRAIN fences the bundle direction. -/
  | ellTrainTimeout (k : Fin 32)
  /-- ELL_RETRAIN_DONE (R295): Quick alignment ends: UP with replay, or a full search. -/
  | ellRetrainDone (k : Fin 32) (pass : Bool)
  /-- ELL_CLOCK_LOSS (R296): Loss of the clock lane, or a bad lane with no spare, fences the bundle direction. -/
  | ellClockLoss (k : Fin 32)
  /-- ELL_SLEEP_WRITE (R306): A write of ELL_BCFG SLEEP requests AWAKE, DOZE or OFF. -/
  | ellSleepWrite (slot : Fin 4) (k : Fin 32) (val : Word)
  /-- ELL_SLEEP_ENTER (R307): With the retry buffer empty the bundle direction enters DOZE or OFF. -/
  | ellSleepEnter (k : Fin 32)
  /-- ELL_WAKE (R308): A queued segment with AUTO_WAKE, or SLEEP 0, starts a wake. -/
  | ellWake (k : Fin 32)
  /-- ELL_WAKE_DONE (R296): Wake verification ends: UP, or a full search. -/
  | ellWakeDone (k : Fin 32) (pass : Bool)
  /-- ELL_BODY_AGE (R289): A body that has waited AGE_MS is freed and counted. -/
  | ellBodyAge (g : Fin 16) (entry : Fin 16384)
  /-- ELL_LANE_SEARCH_DONE (R301): Firmware's full search of a bad lane ends; a pass makes it a free spare. -/
  | ellLaneSearchDone (k : Fin 32) (lane : Fin 66) (pass : Bool)
  /-- ADMIT_POINTER (R319): An admission unit decides a pointer against a queue by the checks of Table 11.2. -/
  | admitPointer (u : Fin 32)
  /-- MC_OFFER (R332): The replicator offers one pointer per list entry to its target queue. -/
  | mcOffer (u : Fin 32)
  /-- HBM_RECORD_WRITE (R326): When copy-making ends, a spilled pointer's record is written as a data or reference record. -/
  | hbmRecordWrite (q : Fin 1048576)
  /-- HBM_WRITE_DONE (R324): A data record's write completes and the pointer's reference moves from the buffer to the record. -/
  | hbmWriteDone (q : Fin 1048576)
  /-- HBM_READ_AHEAD (R327): The read-ahead of a spilled queue issues a read of the front of its HBM part. -/
  | hbmReadAhead (q : Fin 1048576)
  /-- HBM_READ_DONE (R353): A read completes: the record joins the on-die part, or an error response applies. -/
  | hbmReadDone (q : Fin 1048576) (ce : EccCount) (ue : Fin 4) (lines : List (Fin 256))
  /-- MCG_WRITE (R330): A multicast group word write is checked and applied or refused with MC_REJ. -/
  | mcgWrite (slot : Fin 4) (g : Fin 65536) (eg : Bool) (val : Word)
  /-- HBM_BANK_IDLE (R355): A bank idle for IDLE_CYC cycles is precharged. -/
  | hbmBankIdle (c : Fin 64) (n : Fin 64)
  /-- HBM_REFRESH (R363): A per-bank refresh is issued at the interval in effect. -/
  | hbmRefresh (c : Fin 64) (n : Fin 64)
  /-- HBM_TEMP_READ (R364): A stack temperature is read every 1 ms, setting refresh rate, HOT or a fence. -/
  | hbmTempRead (k : Fin 4) (t : BitVec 8)
  /-- HBM_LAG_WINDOW (R361): At each 1 ms window end slow channels are closed. -/
  | hbmLagWindow
  /-- HBM_ERR_WINDOW (R360): At each 1 s window end error counts restart; a channel over threshold is closed for errors. -/
  | hbmErrWindow
  /-- HBM_TRAIN_DONE (R365): Full or quick training ends; passing channels open and failing ones are fenced. -/
  | hbmTrainDone (k : Fin 4) (fails : BitVec 16)
  /-- HBM_RETRAIN_START (R367): A channel due for retraining completes its writes and starts a pause. -/
  | hbmRetrainStart (c : Fin 64)
  /-- HBM_RETRAIN_DONE (R367): The retraining pause ends and held commands are released, or the channel is fenced. -/
  | hbmRetrainDone (c : Fin 64) (pass : Bool)
  /-- HBM_CHANNEL_FENCE (R368): A fenced channel loses its blocks and the affected HBM parts are discarded. -/
  | hbmChannelFence (c : Fin 64)
  /-- HBM_STACK_POWER_OFF (R369): HBM_STACK_CFG POWER 0 powers a stack down or sets PD_REJ. -/
  | hbmStackPowerOff (slot : Fin 4) (k : Fin 4)
  /-- HBM_STACK_POWER_ON (R369): HBM_STACK_CFG POWER 1 powers a stack and starts its training. -/
  | hbmStackPowerOn (slot : Fin 4) (k : Fin 4)
  /-- HBM_CH_REOPEN (R362): REOPEN ends a closure of a channel for slowness or errors. -/
  | hbmChReopen (slot : Fin 4) (c : Fin 64)
  /-- SCH_DEQUEUE (R380): An egress scheduler decision selects a queue through the hierarchy and dequeues its head pointer. -/
  | schDequeue (g : Fin 16)
  /-- SCH_NODE_WRITE (R376): A write to the node window stages a node field or sets STAGE_FULL. -/
  | schNodeWrite (slot : Fin 4) (role : Role) (w : Fin 8) (val : Word)
  /-- SCH_MAP_WRITE (R377): A write of SCH_N_MAP is checked and staged or refused with MAP_REJ. -/
  | schMapWrite (slot : Fin 4) (role : Role) (val : Word)
  /-- SCH_RESEED (R393): RESEED clears SEEDED of the selected queue. -/
  | schReseed (slot : Fin 4)
  /-- SCH_LINK_CHANGE (R389): A change of LINK reaches the port node and moves it between DOWN, UP and HOLD. -/
  | schLinkChange (p : Fin 128)
  /-- SCH_HOLD_EXPIRE (R389): The link hold timer expires and the port's queues refuse and are flushed. -/
  | schHoldExpire (p : Fin 128)
  /-- SCH_FLUSH_DONE (R390): The flush of a port completes and it goes to DOWN or UP. -/
  | schFlushDone (p : Fin 128)
  /-- FAB_TX_SELECT (R428): The fabric transmit scheduler selects an eligible VOQ and appends its packet to a stream. -/
  | fabTxSelect
  /-- TB_NONE (R399): TGT_TB_CMD OP 0 has no effect. -/
  | tbNone (slot : Fin 4)
  /-- TB_STEP (R399): A STEP command schedules adding TGT_TB_OFS to the time at T. -/
  | tbStep (slot : Fin 4)
  /-- TB_SLEW (R400): A SLEW command adds the offset to the slew remainder. -/
  | tbSlew (slot : Fin 4)
  /-- TB_CANCEL_SLEW (R399): CANCEL_SLEW discards the slew remainder. -/
  | tbCancelSlew (slot : Fin 4)
  /-- TB_SET_NOW (R399): SET_NOW schedules setting the time to TGT_TB_SET at T. -/
  | tbSetNow (slot : Fin 4)
  /-- TB_SET_AT_PPS (R399): SET_AT_PPS waits for the next 1PPS edge to set the time. -/
  | tbSetAtPps (slot : Fin 4)
  /-- TB_CMD_APPLY (R399): At T a STEP, SET_NOW or CANCEL_SLEW applies on both dies. -/
  | tbCmdApply
  /-- PPS_EDGE (R401): A 1PPS rising edge latches the time, sets PPS_OK and applies a waiting SET_AT_PPS. -/
  | ppsEdge
  /-- PPS_TIMEOUT (R401): 1.1 s without an edge clears PPS_OK and lapses a waiting SET_AT_PPS. -/
  | ppsTimeout
  /-- SLEW_DONE (R400): The slew remainder reaches 0 and SLEWING clears. -/
  | slewDone
  /-- TB_SRC_WRITE (R397): A write of SRC starts PLL lock to the 10 MHz input or returns to the system reference. -/
  | tbSrcWrite (slot : Fin 4) (val : Word)
  /-- TIME_REF_LOSS (R397): No 10 MHz edge for 1 us: the time base holds over and REF_OK clears. -/
  | timeRefLoss
  /-- TIME_REF_LOCK (R397): After 10 ms of valid input the PLL locks and REF_OK sets. -/
  | timeRefLock
  /-- GATE_SWITCH (R407): At S the new gate list takes over. -/
  | gateSwitch (p : Fin 128)
  /-- GATE_ENTRY_ADVANCE (R405): A list entry's INTERVAL ends and the next entry's states apply. -/
  | gateEntryAdvance (p : Fin 128)
  /-- GCL_WRITE (R408): A write to a list memory applies, or is refused with GCL_REJ when the memory is in use. -/
  | gclWrite (slot : Fin 4) (p : Fin 128) (mem : Bool) (e : Fin 1024) (w1 : Bool) (val : Word)
  /-- GATE_CFG_WRITE (R409): A write staging CYCLE or LEN out of range is refused with CFG_REJ. -/
  | gateCfgWrite (slot : Fin 4) (p : Fin 128) (regB : Bool) (val : Word)
  /-- FAB_LANE_ENABLE (R417): EN written 1 starts a fabric lane. -/
  | fabLaneEnable (slot : Fin 4) (l : Fin 192) (val : Word)
  /-- FAB_LANE_DISABLE (R417): EN written 0 takes a fabric lane to OFF. -/
  | fabLaneDisable (slot : Fin 4) (l : Fin 192) (val : Word)
  /-- FAB_LANE_TRAINED (R417): Both receivers trained; the lane moves to DELIN. -/
  | fabLaneTrained (l : Fin 192)
  /-- FAB_LANE_TRAIN_TIMEOUT (R417): 2,000 ms in TRAIN is a failure to HOLDOFF. -/
  | fabLaneTrainTimeout (l : Fin 192)
  /-- FAB_LANE_DELIN_STABLE (R417): FEC alignment and delineation held 10 ms take the lane UP. -/
  | fabLaneDelinStable (l : Fin 192)
  /-- FAB_LANE_DELIN_TIMEOUT (R417): 100 ms in DELIN is a failure or a restart. -/
  | fabLaneDelinTimeout (l : Fin 192)
  /-- FAB_LANE_LOSS (R417): Loss of lock or delineation removes an UP lane from the spray set. -/
  | fabLaneLoss (l : Fin 192) (cdr : Bool)
  /-- FAB_LANE_HOLDOFF_END (R417): The lane hold-off ends or a partner is detected. -/
  | fabLaneHoldoffEnd (l : Fin 192) (partner : Bool)
  /-- FAB_CELL_TX (R430): A cell is dealt to the next lane of the spray set and sent. -/
  | fabCellTx
  /-- FAB_CELL_RX (R437): A received DATA cell is checked, discarded, held or released to reassembly. -/
  | fabCellRx (l : Fin 192) (c : FabCell)
  /-- FAB_MSG_REQ (R425): A REQ message updates the egress side's request total for a flow. -/
  | fabMsgReq (d : Fin 256) (port : Fin 128) (cls : Fin 4) (total : Word)
  /-- FAB_MSG_CREDIT (R426): A CREDIT message updates the ingress side's CRED for a flow. -/
  | fabMsgCredit (d : Fin 256) (port : Fin 128) (cls : Fin 4) (total : Word)
  /-- FAB_MSG_ACK (R435): An ACK frees acknowledged cells from the Firkin or is ignored. -/
  | fabMsgAck (d : Fin 256) (st : Fin 2) (seq : BitVec 18)
  /-- FAB_MSG_NAK (R439): A NAK replays the marked unacknowledged cells after sending PEND. -/
  | fabMsgNak (d : Fin 256) (st : Fin 2) (seq : BitVec 18) (miss : BitVec 64)
  /-- FAB_MSG_PEND (R440): A PEND creates a replay-pending marker in the receive stream. -/
  | fabMsgPend (d : Fin 256) (st : Fin 2) (seq : BitVec 18) (seq2 : BitVec 18)
  /-- FAB_MSG_SYNC (R433): A SYNC resets or probes a receive stream and is answered. -/
  | fabMsgSync (d : Fin 256) (st : Fin 2) (probe : Bool) (seq : BitVec 18) (pl : Fin 2)
  /-- FAB_MSG_SYNC_ACK (R432): A SYNC_ACK opens a transmit stream or confirms a plane probe. -/
  | fabMsgSyncAck (d : Fin 256) (st : Fin 2) (probe : Bool) (seq : BitVec 18) (pl : Fin 2)
  /-- FAB_MSG_RESYNC (R432): A RESYNC returns an OPEN transmit stream to SYNCING, abandoning its cells. -/
  | fabMsgResync (d : Fin 256) (st : Fin 2)
  /-- FAB_MSG_HEARTBEAT (R442): A returning heartbeat gives a round-trip sample for the lane it names. -/
  | fabMsgHeartbeat (l : Fin 192) (ns : Word)
  /-- FAB_REQ_REFRESH (R425): REQ and CREDIT totals are resent every REFRESH_US. -/
  | fabReqRefresh
  /-- FAB_CREDIT_GRANT (R426): A credit generator with a QUANTUM of tokens grants it to a requesting flow. -/
  | fabCreditGrant (p : Fin 128)
  /-- FAB_ACK_TIMER (R435): No cell carried an acknowledgement within ACK_NS, so an ACK message is sent. -/
  | fabAckTimer (d : Fin 256) (st : Fin 2)
  /-- FAB_NAK_TIMER (R438): While a gap is open a NAK is sent every NAK_US. -/
  | fabNakTimer (d : Fin 256) (st : Fin 2)
  /-- FAB_ACK_TIMEOUT (R439): No ACK progress for ACK_TMO replays the 64 oldest unacknowledged cells. -/
  | fabAckTimeout (d : Fin 256) (st : Fin 2)
  /-- FAB_REORDER_TIMEOUT (R441): A gap open for the effective timeout with no marker outstanding is skipped. -/
  | fabReorderTimeout (d : Fin 256) (st : Fin 2)
  /-- FAB_MARKER_EXPIRE (R440): A replay-pending marker lapses MARKER_MAX_US after its arrival. -/
  | fabMarkerExpire (d : Fin 256) (st : Fin 2)
  /-- FAB_SYNC_TIMER (R432): A SYNCING stream resends SYNC NEW every 100 us. -/
  | fabSyncTimer (d : Fin 256) (st : Fin 2)
  /-- FAB_UNREACH_TIMER (R432): 1 ms after UNREACHABLE the stream returns to SYNCING. -/
  | fabUnreachTimer (d : Fin 256) (st : Fin 2)
  /-- FAB_HEARTBEAT_TIMER (R442): Every UP lane sends a HEARTBEAT every 10 us. -/
  | fabHeartbeatTimer (l : Fin 192)
  /-- FAB_LAG_WINDOW (R443): At each 1 ms window end slow lanes are removed from the spray set. -/
  | fabLagWindow
  /-- FAB_PLANE_FAIL (R444): A plane fails on heartbeat timeout or too few lanes; its lanes leave the spray set and cells are replayed. -/
  | fabPlaneFail (pl : Fin 2)
  /-- FAB_PLANE_READY (R445): A DOWN plane meeting its conditions for 10 ms enters PROBE and sends SYNC PROBE. -/
  | fabPlaneReady (pl : Fin 2)
  /-- FAB_PROBE_DONE (R445): All probes answered or 1 ms elapsed; the plane becomes UP. -/
  | fabProbeDone (pl : Fin 2)
  /-- FAB_REPROBE_TIMER (R445): An unanswered stream is probed again every 1 ms. -/
  | fabReprobeTimer (d : Fin 256) (st : Fin 2)
  /-- FAB_SWITCH (R447): FAB_CMD SWITCH, or failure of the ACTIVE plane, starts a switch-over. -/
  | fabSwitch (slot : Fin 4)
  /-- FAB_SWITCH_END (R447): After SWITCH_US the STANDBY plane becomes ACTIVE and unacknowledged cells are replayed. -/
  | fabSwitchEnd
  /-- FAB_DOWN_A (R444): FAB_CMD DOWN_A fails plane A by host. -/
  | fabDownA (slot : Fin 4)
  /-- FAB_DOWN_B (R444): FAB_CMD DOWN_B fails plane B by host. -/
  | fabDownB (slot : Fin 4)
  /-- FAB_CLEAR_A (R444): FAB_CMD CLEAR_A lifts a host DOWN of plane A. -/
  | fabClearA (slot : Fin 4)
  /-- FAB_CLEAR_B (R444): FAB_CMD CLEAR_B lifts a host DOWN of plane B. -/
  | fabClearB (slot : Fin 4)
  /-- FAB_LANE_REJOIN (R443): REJOIN ends a slow verdict on a lane. -/
  | fabLaneRejoin (slot : Fin 4) (l : Fin 192)
  /-- FAB_PEER_EN_WRITE (R431): A write of FAB_PEER_EN enables peers or abandons a disabled peer's streams. -/
  | fabPeerEnWrite (slot : Fin 4) (inst : Fin 8) (val : Word)
  /-- TWIN_ACT_IN_RISE (R449): TWIN_ACT_IN rising forces the group's transmitters idle and PSEL low and returns the group to STANDBY. -/
  | twinActInRise (g : Fin 16)
  /-- TWIN_ACT_IN_LOW (R450): ACT_IN low for 10 us with AUTO makes a STANDBY group claim. -/
  | twinActInLow (g : Fin 16)
  /-- TWIN_CLAIM_TIMER (R450): 10 us in CLAIMING: confirm and unblock, or withdraw. -/
  | twinClaimTimer (g : Fin 16)
  /-- TWIN_CONFIRM (R450): Ports aligned for 100 us or 1,990 us elapsed: PSEL rises and the group is ACTIVE. -/
  | twinConfirm (g : Fin 16) (aligned : Bool)
  /-- TWIN_CLAIM (R450): A CLAIM write claims the group. -/
  | twinClaim (slot : Fin 4) (g : Fin 16)
  /-- TWIN_RELEASE (R450): A RELEASE write drops ACT_OUT and enters RELEASING. -/
  | twinRelease (slot : Fin 4) (g : Fin 16)
  /-- FAULT_RISE (R455): A fault source rises: FLT_LIVE, FLT_STICKY and FLT_FIRST update and its action runs. -/
  | faultRise (blk : Fin 21) (bit : Fin 32) (inst : Fin 65536) (row : Word)
  /-- FAULT_OCCURRENCE_EXPIRE (R455): 1 ms after its last occurrence a kind O source's live bit falls. -/
  | faultOccurrenceExpire (blk : Fin 21) (bit : Fin 32)
  /-- FLT_STICKY_WRITE (R459): A W1C write of FLT_STICKY clears bits whose source is not live. -/
  | fltStickyWrite (slot : Fin 4) (blk : Fin 21) (val : Word)
  /-- FLT_FIRST_WRITE (R458): A write of VALID 1 clears and re-arms FLT_FIRST. -/
  | fltFirstWrite (slot : Fin 4) (blk : Fin 21) (val : Word)
  /-- DEV_UNFENCE (R464): DEV_UNFENCE GO starts the return of a fenced unit or is refused. -/
  | devUnfence (slot : Fin 4) (blk : Fin 64) (unit : Fin 65536)
  /-- EVENT_OCCURRENCE (R468): An occurrence of an event is accepted as a report or folded into PEND. -/
  | eventOccurrence (code : Fin 65536) (cls : Fin 4) (inst : Fin 65536) (d4 : Word) (d5 : Word)
  /-- REPORT_SEND (R472): The report queue sends its oldest report as an event frame and offers it to the flash log. -/
  | reportSend
  /-- REC_FLUSH (R469): REC_CMD FLUSH makes a flush report for each code with PEND above 0. -/
  | recFlush (slot : Fin 4)
  /-- REC_SAVE (R477): REC_CMD SAVE writes a life record. -/
  | recSave (slot : Fin 4)
  /-- OP_SEC_TICK (R473): Each second OP_SEC increases, samples are binned and an hourly flush and save run. -/
  | opSecTick
  /-- FLASH_RECORD_WRITE (R481): A queued record is written to the flash ring, erasing a block ahead when needed. -/
  | flashRecordWrite (good : Bool)
  /-- REC_RD_IDX_WRITE (R481): A write of REC_RD_IDX starts reading a log slot. -/
  | recRdIdxWrite (slot : Fin 4) (val : Word)
  /-- REC_SLOT_READ_DONE (R481): The slot's words appear in REC_RD_w with VALID. -/
  | recSlotReadDone
  /-- PMC_SET_GO (R485): PMC_SET_CMD GO requests a capture at the first boundary 512 ns later. -/
  | pmcSetGo (slot : Fin 4) (n : Fin 8)
  /-- PMC_COPY_DONE (R487): A capture is copied into a bank and BANK names it. -/
  | pmcCopyDone (n : Fin 8)
  /-- PMC_ENTRY_WRITE (R484): A snapshot entry write is checked and applied or refused with ENTRY_REJ. -/
  | pmcEntryWrite (slot : Fin 4) (n : Fin 8) (e : Fin 1024) (val : Word)
  /-- UPD_OFFER (R500): An OFFER is authorised and accepted, refused or answered BUSY. -/
  | updOffer (port : Fin 4) (f : ChainFrame)
  /-- UPD_CHUNK (R501): A CHUNK at NEXT is written to flash, otherwise discarded. -/
  | updChunk (port : Fin 4) (f : ChainFrame)
  /-- UPD_END (R501): END with all bytes received starts verification. -/
  | updEnd (port : Fin 4) (f : ChainFrame)
  /-- UPD_ABORT (R497): An ABORT frame ends the session. -/
  | updAbort (port : Fin 4) (f : ChainFrame)
  /-- UPD_ARM (R506): ARM copies TGT_ACT_AT as the scheduled time and starts or holds activation, or is refused. -/
  | updArm (port : Fin 4) (f : ChainFrame)
  /-- UPD_DISARM (R507): DISARM returns an armed activation to VERIFIED, or is refused. -/
  | updDisarm (port : Fin 4) (f : ChainFrame)
  /-- UPD_ANSWER_RX (R503): An ANSWER from the relay target advances or ends the relay. -/
  | updAnswerRx (port : Fin 4) (f : ChainFrame)
  /-- UPD_CHUNK_ACK_RX (R501): A CHUNK_ACK tells the relaying sender where to resume. -/
  | updChunkAckRx (port : Fin 4) (f : ChainFrame)
  /-- UPD_RESULT_RX (R503): A RESULT from the relay target ends the relay. -/
  | updResultRx (port : Fin 4) (f : ChainFrame)
  /-- UPD_VERIFY_DONE (R501): Verification ends: PRESENT is programmed and VERIFIED, or REFUSED. -/
  | updVerifyDone
  /-- UPD_IDLE_TIMEOUT (R497): IDLE_S seconds without an in-order chunk ends the session. -/
  | updIdleTimeout
  /-- UPD_CHUNK_ACK_TIMER (R501): 100 us after the last accepted chunk a CHUNK_ACK is sent. -/
  | updChunkAckTimer
  /-- UPD_ACTIVATE (R505): UPD_CMD ACTIVATE starts activation at once or sets ACT_REJ. -/
  | updActivate (slot : Fin 4) (cold : Bool)
  /-- UPD_CONFIRM (R509): UPD_CMD CONFIRM programs CONFIRMED and ends the trial. -/
  | updConfirm (slot : Fin 4)
  /-- UPD_CMD_ABORT (R497): UPD_CMD ABORT ends the session as an ABORT frame does. -/
  | updCmdAbort (slot : Fin 4)
  /-- UPD_RESTART (R512): UPD_CMD RESTART in recovery mode acts as a release of RESET_N. -/
  | updRestart (slot : Fin 4)
  /-- UPD_CONFIRM_EXPIRE (R510): The confirmation timer expires and fall-back starts. -/
  | updConfirmExpire
  /-- UPD_ARM_TIME (R506): The time base reaches T and a held cold or firmware activation starts. -/
  | updArmTime
  /-- UPD_RELAY_GO (R503): UPD_RELAY GO starts offering the device's verified content to another device. -/
  | updRelayGo (slot : Fin 4) (dst : Fin 64)
  /-- UPD_RELAY_TIMEOUT (R503): 10 s without progress ends the relay. -/
  | updRelayTimeout
  /-- FW_READY (R496): The running firmware reports ready. -/
  | fwReady
  /-- FW_READY_TIMEOUT (R496): No ready report within 2 s restarts the cores from ACTIVE_FW. -/
  | fwReadyTimeout
  /-- FEED_QUALIFIED (R517): A feed in range for 10 ms becomes PRESENT. -/
  | feedQualified (f : Fin 2)
  /-- FEED_UNDERVOLT (R517): A feed below 5.8 V for 5 us is LOST and the other feed takes the load. -/
  | feedUndervolt (f : Fin 2)
  /-- FEED_OVERVOLT (R517): A feed above 40.8 V is disconnected and ISOLATED. -/
  | feedOvervolt (f : Fin 2) (mv : Fin 131072)
  /-- FEED_IN_RANGE (R517): A LOST or ISOLATED feed back in range starts QUALIFYING. -/
  | feedInRange (f : Fin 2) (mv : Fin 65536)
  /-- BROWNOUT_ENTER (R519): 200 us without a PRESENT feed enters brown-out reset. -/
  | brownoutEnter
  /-- BROWNOUT_EXIT (R519): 10 ms after a feed returns the device leaves brown-out reset. -/
  | brownoutExit
  /-- DOM_SWITCH_ON (R525): PWR_DOM_CMD ON starts switching a domain on. -/
  | domSwitchOn (slot : Fin 4) (d : Fin 128)
  /-- DOM_SWITCH_OFF (R524): PWR_DOM_CMD OFF is checked and starts switching a domain off. -/
  | domSwitchOff (slot : Fin 4) (d : Fin 128)
  /-- DOM_SWITCH_DONE (R525): A domain switch completes and event 0x0401 is reported. -/
  | domSwitchDone (d : Fin 96)
  /-- DOM_TRIP (R529): A domain over its current limit for 2 us trips off and its units are fenced. -/
  | domTrip (d : Fin 96)
  /-- THERM_SAMPLE (R530): Die sensors are read every 100 us and thermal sources set or clear. -/
  | thermSample (f q : List (BitVec 16))
  /-- POWER_SAMPLE (R521): Feed voltage, current and input power are sampled every 100 us. -/
  | powerSample (va vb : Fin 65536) (ca cb : Fin 8192) (w : Fin 65536)
  /-- REF_INPUT_LOSS (R534): A reference input lost has the effect of its kind. -/
  | refInputLoss (r : RefInput)
  /-- REF_INPUT_RETURN (R534): A returning FREF reports event 0x0803 and its lanes restart. -/
  | refInputReturn (r : RefInput)
  /-- SYSREF_PRESENT (R533): SYSREF in range for 100 us moves the always-on island to it and starts chain ports and main PLLs. -/
  | sysrefPresent
  /-- POWER_ON (R536): The always-on island comes up from no power and CLK_RST_CAUSE shows POR. -/
  | powerOn
  /-- RESET_N_ASSERT (R536): RESET_N low for 10 us or more resets the device. -/
  | resetNAssert
  /-- RESET_N_RELEASE (R537): Release of RESET_N samples PROFILE_SEL and starts the boot. -/
  | resetNRelease (pins : Fin 4)
  /-- MAIN_RAILS_UP (R537): The main rails are up in order and the main PLLs locked. -/
  | mainRailsUp
  /-- STORE_CLEAR_DONE (R537): Shared SRAM, associative search and buffer state are cleared at boot. -/
  | storeClearDone
  /-- BOOT_TUN_VERIFIED (R104): The boot Tun choice is verified, falling back to another Tun if needed. -/
  | bootTunVerified
  /-- BOOT_SECTIONS_WRITTEN (R106): All boot sections are written, DIRECT clears and event 0x0801 is reported. -/
  | bootSectionsWritten
  /-- JTAG_BYPASS (R551): The BYPASS instruction. -/
  | jtagBypass
  /-- JTAG_IDCODE (R551): The IDCODE instruction shifts out 0x2960_0B5D. -/
  | jtagIdcode
  /-- JTAG_SAMPLE_PRELOAD (R551): The SAMPLE/PRELOAD instruction. -/
  | jtagSamplePreload (tdi : List Bool)
  /-- JTAG_EXTEST (R552): The EXTEST instruction drives outputs only while RESET_N is low. -/
  | jtagExtest (tdi : List Bool)
  /-- TRST_N_ASSERT (R551): TRST_N low holds the TAP in its reset state. -/
  | trstNAssert
  /-- CHAIN_BLOCK_LOCK (R81): A chain port gains block lock and lane alignment on its partner's signal, setting its LOCK bit and starting the 10 ms qualification of its side. -/
  | chainBlockLock (a : BlockLock)
  /-- FW_VERIFY_DONE (R496): The boot ROM finishes verifying a firmware slot and starts it, tries the other slot, or enters recovery mode. -/
  | fwVerifyDone
  /-- FAB_EN_WRITE (R432): A write of FAB_CFG.EN to 1 moves the UNSYNC streams of enabled peers to SYNCING. -/
  | fabEnWrite (slot : Fin 4) (val : Word)
  /-- TWIN_EN_WRITE (R450): A write of FAB_TWIN_CFG.EN starts a group's twin state machine in STANDBY, or with EN 0 moves an ACTIVE group to RELEASING. -/
  | twinEnWrite (slot : Fin 4) (g : Fin 16) (val : Word)
deriving DecidableEq, Repr

end Sys2Proof
end

