-- ==== Sys2Proof/Machine/Bits.lean ====
section
/-! DEFINITION. Bit fields, signed numbers, byte order and the CRCs that the spec names. -/

namespace Sys2Proof.Machine

/-- Bits [hi:lo] of a number. -/
def bitsOf (x hi lo : Nat) : Nat := (x >>> lo) % 2 ^ (hi + 1 - lo)

/-- Field [hi:lo] of a word, as a number. -/
def fld (w : Word) (hi lo : Nat) : Nat := bitsOf w.toNat hi lo

/-- Bit i of a word. -/
def tbit (w : Word) (i : Nat) : Bool := w.toNat.testBit i

/-- The word that holds `v` in field [hi:lo] and 0 elsewhere. -/
def mkF (hi lo v : Nat) : Word := BitVec.ofNat 32 ((v % 2 ^ (hi + 1 - lo)) <<< lo)

/-- A value in bits [hi:lo] of a number, zeros elsewhere. -/
def natF (hi lo v : Nat) : Nat := (v % 2 ^ (hi + 1 - lo)) <<< lo

/-- A one-bit field of a word. -/
def mkB (i : Nat) (b : Bool) : Word := if b then BitVec.ofNat 32 (1 <<< i) else 0

/-- The mask of field [hi:lo]. -/
def fmask (hi lo : Nat) : Word := mkF hi lo (2 ^ (hi + 1 - lo) - 1)

/-- `w` with field [hi:lo] set to `v`. -/
def setFld (w : Word) (hi lo v : Nat) : Word := (w &&& ~~~ (fmask hi lo)) ||| mkF hi lo v

/-- `w` with bit i set to `b`. -/
def setBit (w : Word) (i : Nat) (b : Bool) : Word := setFld w i i b.toNat

/-- A number as a word, its low 32 bits. -/
def lo32 (n : Nat) : Word := BitVec.ofNat 32 n

/-- Bits [63:32] of a number as a word. -/
def hi32 (n : Nat) : Word := BitVec.ofNat 32 (n >>> 32)

/-- Two's complement reading of the low `w` bits. -/
def signedOf (w n : Nat) : Int :=
  let m := n % 2 ^ w
  if m < 2 ^ (w - 1) then (m : Int) else (m : Int) - (2 ^ w : Nat)

/-- Two's complement code of an integer in `w` bits. -/
def codeOf (w : Nat) (i : Int) : Nat := (i % (2 ^ w : Nat)).toNat

/-- Clamp into a range. -/
def clamp (lo hi x : Nat) : Nat := if x < lo then lo else if hi < x then hi else x

/-- `n` bytes of a number, most significant first. -/
def beBytes : Nat → Nat → List Byte
  | 0, _ => []
  | n + 1, x => BitVec.ofNat 8 (x >>> (8 * n)) :: beBytes n x

/-- The number whose bytes these are, most significant first. -/
def beNat (l : List Byte) : Nat := l.foldl (fun a b => a * 256 + b.toNat) 0

/-- One bit of a CRC of width `w` with polynomial `poly`, most significant bit first. -/
def crcBit (w poly : Nat) (crc : Nat) (b : Bool) : Nat :=
  let top := crc.testBit (w - 1)
  let sh := (crc <<< 1) % 2 ^ w
  if top != b then sh ^^^ poly else sh

/-- The low `n` bits of a number, most significant first. -/
def msbBits : Nat → Nat → List Bool
  | 0, _ => []
  | n + 1, x => x.testBit n :: msbBits n x

/-- The low `n` bits of a number, least significant first. -/
def lsbBits : Nat → Nat → List Bool
  | 0, _ => []
  | n + 1, x => x.testBit 0 :: lsbBits n (x / 2)

/-- A CRC over a bit string, most significant bit first. -/
def crcBits (w poly init : Nat) (bs : List Bool) : Nat := bs.foldl (crcBit w poly) init

/-- Reverse the low `n` bits of a number. -/
def revBits (n x : Nat) : Nat := (lsbBits n x).foldl (fun a b => 2 * a + b.toNat) 0

/-- CRC-32 of IEEE 802.3 over bytes, each byte least significant bit first, result complemented (R60, R479). -/
def crc32 (l : List Byte) : Nat :=
  revBits 32 (crcBits 32 0x04C11DB7 0xFFFFFFFF (l.flatMap (fun b => lsbBits 8 b.toNat))) ^^^ 0xFFFFFFFF

/-- CRC-32C over bytes: polynomial 0x1EDC_6F41, initial value all ones, complemented result (R212, R221). -/
def crc32c (l : List Byte) : Nat :=
  revBits 32 (crcBits 32 0x1EDC6F41 0xFFFFFFFF (l.flatMap (fun b => lsbBits 8 b.toNat))) ^^^ 0xFFFFFFFF

/-- CRC-32C over bytes from a given initial value (R212). -/
def crc32cFrom (init : Nat) (l : List Byte) : Nat :=
  revBits 32 (crcBits 32 0x1EDC6F41 (revBits 32 init) (l.flatMap (fun b => lsbBits 8 b.toNat))) ^^^ 0xFFFFFFFF

/-- CRC-8 of the ticket: x^8 + x^2 + x + 1, initial value 0, over bits [255:8] (Table 1.2, CHK). -/
def ticketChk (t : Ticket) : Nat := crcBits 8 0x07 0 (msbBits 248 (t.toNat >>> 8))

/-- Field [hi:lo] of a ticket. -/
def tfld (t : Ticket) (hi lo : Nat) : Nat := bitsOf t.toNat hi lo

/-- A ticket with field [hi:lo] set. -/
def tset (t : Ticket) (hi lo v : Nat) : Ticket :=
  let m := (2 ^ (hi + 1 - lo) - 1) <<< lo
  BitVec.ofNat 256 ((t.toNat &&& (2 ^ 256 - 1 - m)) ||| ((v % 2 ^ (hi + 1 - lo)) <<< lo))

/-- A ticket with CHK computed (R28). -/
def tsealed (t : Ticket) : Ticket := tset t 7 0 (ticketChk t)

/-- A ticket is good when CHK matches and TYPE is not reserved (R30). -/
def ticketGood (t : Ticket) : Bool := tfld t 7 0 == ticketChk t && tfld t 255 252 ≤ 6

end Sys2Proof.Machine
end

