-- ==== Sys2Proof/Machine/SMap.lean ====
section
/-! DEFINITION. Sparse maps from numbers to plain data, kept in one canonical form: the keys strictly rise and
no entry equals what an unlisted key reads as. Every indexed unit of the device (a queue, a port, an entry of a
table, a byte of flash) is kept in one, so that State stays plain data and equal contents are equal data. -/

namespace Sys2Proof.Machine

/-- A sparse map: the listed entries. What an unlisted key reads as is an argument of the read and of the write. -/
structure SMap (α : Type) where
  entries : List (Nat × α) := []
deriving DecidableEq, Repr

variable {α : Type}

/-- The map that lists nothing. -/
def SMap.empty : SMap α := ⟨[]⟩

/-- The first entry under a key in a list. -/
def smLookup : List (Nat × α) → Nat → Option α
  | [], _ => none
  | (k, v) :: rest, key => if k = key then some v else smLookup rest key

/-- Insert before the first entry with a key not below. -/
def smInsert : List (Nat × α) → Nat → α → List (Nat × α)
  | [], key, v => [(key, v)]
  | (k, w) :: rest, key, v => if k < key then (k, w) :: smInsert rest key v else (key, v) :: (k, w) :: rest

/-- Drop every entry under a key. -/
def smErase : List (Nat × α) → Nat → List (Nat × α)
  | [], _ => []
  | (k, v) :: rest, key => if k = key then smErase rest key else (k, v) :: smErase rest key

/-- The entry under a key, if listed. -/
def SMap.find (m : SMap α) (key : Nat) : Option α := smLookup m.entries key

/-- The value under a key; `d` is what an unlisted key reads as. -/
def SMap.get (m : SMap α) (d : α) (key : Nat) : α := (m.find key).getD d

/-- List an entry, or with `none` drop it. -/
def SMap.put (m : SMap α) (key : Nat) (o : Option α) : SMap α :=
  match o with
  | none => ⟨smErase m.entries key⟩
  | some v => ⟨smInsert (smErase m.entries key) key v⟩

/-- Write a value under a key: writing what an unlisted key reads as removes the entry. -/
def SMap.set [DecidableEq α] (m : SMap α) (d : α) (key : Nat) (v : α) : SMap α :=
  m.put key (if v = d then none else some v)

/-- Change the value under a key. -/
def SMap.upd [DecidableEq α] (m : SMap α) (d : α) (key : Nat) (f : α → α) : SMap α :=
  m.set d key (f (m.get d key))

/-- The keys that are listed. -/
def SMap.keys (m : SMap α) : List Nat := m.entries.map Prod.fst

/-- Keep the listed entries that pass a test. -/
def SMap.filter (m : SMap α) (p : Nat → α → Bool) : SMap α := ⟨m.entries.filter (fun e => p e.1 e.2)⟩

/-- Is every key of the list above `lo` and do the keys strictly rise? -/
def smSorted : List (Nat × α) → Bool
  | [] => true
  | [_] => true
  | a :: b :: rest => decide (a.1 < b.1) && smSorted (b :: rest)

/-- The canonical form: the keys strictly rise. -/
def SMap.sorted (m : SMap α) : Bool := smSorted m.entries

/-- The canonical form with a default: the keys strictly rise and no entry equals what an unlisted key reads as. -/
def SMap.wf [DecidableEq α] (m : SMap α) (d : α) : Bool :=
  m.sorted && m.entries.all (fun e => !decide (e.2 = d))

end Sys2Proof.Machine
end

