-- ==== Sys2Proof/Machine/State/Pcs.lean ====
section
/-! DEFINITION. Blocks on a line and what an FEC encoder holds (R55, R130, R416), and the constant that gives what IEEE 802.3 fixes for a
port type and the manual does not restate. -/

namespace Sys2Proof.Machine

/-- A 64B/66B block: whether it is a control block, and its 64 bits in the order of transmission (R55). -/
structure LineBlock where
  /-- A control block. -/
  ctl : Bool := true
  /-- Its 64 bits, the first sent first. -/
  bits : List Bool := []
deriving DecidableEq, Repr

/-- What IEEE 802.3 fixes for the PCS of a port type (R130). -/
structure PcsForm where
  /-- Flows that the 64B/66B blocks are dealt to. -/
  flows : Nat
  /-- The blocks are scrambled before they are transcoded. -/
  scrFirst : Bool
  /-- Codewords interleaved in a flow. -/
  words : Nat
  /-- Lanes that the FEC distributes a flow to. -/
  lanes : Nat
  /-- Transcoded blocks from one alignment marker to the next. -/
  dist : Nat
  /-- The bits of the alignment markers of a flow. -/
  marker : List Bool
deriving DecidableEq, Repr, Inhabited

/-- The FEC encoder of one flow (R130). -/
structure FecTx where
  /-- Scrambler. -/
  scr : Nat := 0
  /-- Blocks that wait to be transcoded four at a time. -/
  wait : List LineBlock := []
  /-- Bits that wait to fill the messages of the next codewords. -/
  bits : List Bool := []
  /-- Transcoded blocks so far. -/
  n : Nat := 0
  /-- The symbols of the last transmission, each with its lane, in order. -/
  syms : List (Nat × Nat) := []
deriving DecidableEq, Repr

end Sys2Proof.Machine

namespace Sys2Proof.Config

/-- The PCS of a port type, by its place in Table 4.2: 4 × LANE_RATE + log2 of the width. -/
opaque pcsForm : Nat → Machine.PcsForm

end Sys2Proof.Config
end

