-- ==== Sys2Proof/Machine/State/Fab.lean ====
section
/-! DEFINITION. The state of the fabric interface (FAB): lanes, planes, streams, flows, and the twin groups. -/

namespace Sys2Proof.Machine

/-- A control message (Tables 15.3 and 15.4). -/
inductive FabMsg where
  | req (port cls total : Nat)
  | credit (port cls total : Nat)
  | ack (stream seq : Nat)
  /-- FROM and the MISS bitmap. -/
  | nak (stream seq miss : Nat)
  | pend (stream a b : Nat)
  | sync (stream : Nat) (probe : Bool) (seq : Nat)
  | syncAck (stream : Nat) (probe : Bool) (seq : Nat)
  | resync (stream : Nat)
  /-- The lane and the send time. -/
  | heartbeat (lane ns : Nat)
deriving DecidableEq, Repr

/-- A cell as the device sends it (Table 15.2). -/
structure FabOut where
  /-- 0 DATA, 1 CTRL, 2 IDLE. -/
  kind : Nat
  /-- DDEV. -/
  ddev : Nat
  /-- STREAM. -/
  stream : Nat := 0
  /-- PLANE: 0 A, 1 B. -/
  plane : Nat
  /-- REPLAY. -/
  replay : Bool := false
  /-- SEQ. -/
  seq : Nat := 0
  /-- FIRST; none is 0xFF. -/
  first : Option Nat := none
  /-- ACK_STREAM and ACK_SEQ when ACK_V. -/
  ack : Option (Nat × Nat) := none
  /-- Payload bytes of a DATA cell. -/
  payload : List Byte := []
  /-- Messages of a CTRL cell. -/
  msgs : List FabMsg := []
deriving DecidableEq, Repr

/-- A cell in the Firkin (R436). -/
structure TxCell where
  /-- SEQ. -/
  seq : Nat
  /-- Payload. -/
  bytes : List Byte
  /-- FIRST. -/
  first : Option Nat
  /-- Planes of its last transmission: bit 0 A, bit 1 B. -/
  planes : Nat := 0
  /-- The instant of its last transmission. -/
  at' : Nat := 0
  /-- Times it has been sent. -/
  n : Nat := 0
  /-- It is uncorrectable and is not replayed (FIRKIN_UE). -/
  bad : Bool := false
deriving DecidableEq, Repr

/-- States of a transmit stream (Table 15.5), in the order of their codes. -/
inductive TxState where
  | unsync | syncing | open' | unreachable
deriving DecidableEq, Repr

/-- A transmit stream. -/
structure TxStream where
  /-- State. -/
  st : TxState := .unsync
  /-- The next SEQ. -/
  seq : Nat := 0
  /-- Unacknowledged cells, oldest first. -/
  cells : List TxCell := []
  /-- Bytes not yet cut into cells, and the offsets in them at which tickets start. -/
  out : List Byte := []
  starts : List Nat := []
  /-- SEQs to be sent again, in order (R439). -/
  replay : List Nat := []
  /-- The instant of the next SYNC, or of the end of UNREACHABLE. -/
  at' : Nat := 0
  /-- The instant of the last ACK progress. -/
  prog : Nat := 0
  /-- Planes it uses (PL): bit 0 A, bit 1 B; bits 2 and 3, a probe is due an answer on A, on B. -/
  planes : Nat := 3
  /-- The instant of the next probe of an unanswered plane. -/
  probeAt : Nat := 0
deriving DecidableEq, Repr

/-- A receive stream (R433, R437 to R441). -/
structure RxStream where
  /-- OPEN. -/
  open' : Bool := false
  /-- NEXT. -/
  next : Nat := 0
  /-- Held cells by SEQ: payload and FIRST. -/
  held : SMap (List Byte × Option Nat) := {}
  /-- The instant the present gap opened. -/
  gapAt : Option Nat := none
  /-- The instant of the next NAK. -/
  nakAt : Nat := 0
  /-- Markers: SEQ2 and arrival. -/
  markers : List (Nat × Nat) := []
  /-- Released bytes not yet reassembled. -/
  buf : List Byte := []
  /-- Reassembly waits for the next FIRST. -/
  skip : Bool := false
  /-- The buffer of the packet being reassembled, none within when it could not be had; none before its ticket is complete. -/
  cur : Option (Option (Nat × Nat)) := none
  /-- An acknowledgement is due since this instant (R435). -/
  ackDue : Option Nat := none
  /-- The instant before which no RESYNC is sent again. -/
  resyncAt : Nat := 0
deriving DecidableEq, Repr

/-- An outgoing flow (R425). -/
structure TxFlow where
  /-- REQ, CRED and USED, modulo 2^32. -/
  req : Nat := 0
  cred : Nat := 0
  used : Nat := 0
  /-- REQ has to be sent. -/
  due : Bool := false
deriving DecidableEq, Repr

/-- An incoming flow (R426). -/
structure RxFlow where
  /-- REQ and CRED, modulo 2^32. -/
  req : Nat := 0
  cred : Nat := 0
  /-- CRED has to be sent. -/
  due : Bool := false
deriving DecidableEq, Repr

/-- States of a lane (Table 15.1), in the order of their codes. -/
inductive LaneState where
  | off | train | delin | up | holdoff
deriving DecidableEq, Repr

/-- A fabric lane. -/
structure FabLane where
  /-- STATE. -/
  st : LaneState := .off
  /-- The instant the state was entered. -/
  since : Nat := 0
  /-- The end of HOLDOFF. -/
  deadline : Nat := 0
  /-- DELIN was entered from UP. -/
  fromUp : Bool := false
  /-- FAILS. -/
  fails : Nat := 0
  /-- CDR_LOCK, FEC alignment and DELIN_OK. -/
  cdr : Bool := false
  fec : Bool := false
  delin : Bool := false
  /-- The instant since which FEC alignment and delineation have held unbroken (Table 15.1). -/
  goodAt : Option Nat := none
  /-- The last 8 blocks received, 256 bytes; consecutive good headers at each of the 8 block phases while the boundary is sought;
  the phase found; consecutive bad headers at it (R421). -/
  tail : List Byte := []
  runs : List Nat := []
  phase : Nat := 0
  bad : Nat := 0
  /-- SLOW. -/
  slow : Bool := false
  /-- Heartbeats of this window and the sum of their round trips; MEAN_RTT. -/
  n : Nat := 0
  sum : Nat := 0
  mean : Nat := 0
  /-- The instant of the next heartbeat. -/
  hbAt : Nat := 0
  /-- The last cell sent on the lane, and its 256 bytes (R419). -/
  last : Option FabOut := none
  wire : List Byte := []
  /-- The FEC encoder of the lane (R416). -/
  code : FecTx := {}
deriving DecidableEq, Repr

/-- States of a plane (FAB_STATUS A_STATE), in the order of their codes. -/
inductive PlaneState where
  | down | probe | up | standby | active
deriving DecidableEq, Repr

/-- A plane. -/
structure FabPlane where
  /-- State. -/
  st : PlaneState := .down
  /-- The instant the state was entered. -/
  since : Nat := 0
  /-- Host DOWN. -/
  host : Bool := false
  /-- The plane has failed and has not met the DOWN row since (STANDBY mode, R447). -/
  failed : Bool := false
  /-- The last heartbeat that returned through it, and the instant since which none was missing. -/
  lastHb : Option Nat := none
  hbSince : Nat := 0
  /-- Heartbeats returned since it left DOWN, up to 4,096. -/
  hbs : Nat := 0
deriving DecidableEq, Repr

/-- A twin group (R450). -/
structure TwinGrp where
  /-- STATE: 0 OFF, 1 STANDBY, 2 CLAIMING, 3 CONFIRMING, 4 ACTIVE, 5 RELEASING. -/
  st : Nat := 0
  /-- Pins. -/
  actIn : Bool := false
  /-- The instant ACT_IN fell. -/
  lowAt : Nat := 0
  actOut : Bool := false
  psel : Bool := false
  /-- ACT_OUT rose at this instant. -/
  roseAt : Nat := 0
  /-- LAST_GAP_US. -/
  gap : Nat := 0
deriving DecidableEq, Repr

/-- The fabric interface. -/
structure FabSt where
  /-- Lanes 0 to 191. -/
  lane : SMap FabLane := {}
  /-- Planes 0 A, 1 B. -/
  plane : SMap FabPlane := {}
  /-- Transmit streams by device × 2 + stream. -/
  tx : SMap TxStream := {}
  /-- Receive streams by device × 2 + stream. -/
  rx : SMap RxStream := {}
  /-- Outgoing flows by device × 512 + port × 4 + class. -/
  txf : SMap TxFlow := {}
  /-- Incoming flows by device × 512 + port × 4 + class. -/
  rxf : SMap RxFlow := {}
  /-- Control messages that wait: device, plane they must use, message. -/
  ctrl : List (Nat × Option Nat × FabMsg) := []
  /-- The last lane dealt to over the union, in plane A and in plane B, plus 1. -/
  rr : SMap Nat := {}
  /-- Flow served last by class, VOQ served last by flow, source served last by port and class, stream served last; each plus 1. -/
  rrFlow : SMap Nat := {}
  rrVoq : SMap Nat := {}
  rrSrc : SMap Nat := {}
  rrStrm : Nat := 0
  /-- Credit generators by port: tokens in 1/512 B. -/
  gen : SMap Nat := {}
  /-- EN has been 1 while a plane was out of DOWN, so that cells other than HEARTBEAT and IDLE may leave (R453). -/
  begun : Bool := false
  /-- SWITCHING: its end, and whether it was planned. -/
  sw : Option (Nat × Bool) := none
  /-- The present Firkin stall has been reported (R436). -/
  stall : Bool := false
  /-- PMODE as it last took effect. -/
  pmode : Nat := 0
  /-- The last window judged. -/
  win : Nat := 0
  /-- The instant up to which totals have been refreshed. -/
  refreshAt : Nat := 0
  /-- Twin groups. -/
  twin : SMap TwinGrp := {}
  /-- Hardware holds that have not lasted 1 µs yet: the instant at which they have, and the group (R550). -/
  holds : List (Nat × Nat) := []
deriving DecidableEq, Repr

end Sys2Proof.Machine
end

