-- ==== Sys2Proof/Machine/Cell.lean ====
section
/-! DEFINITION. The bits of a cell and of its control messages, and the search for cell boundaries (R419 to R421, R423, Tables 15.2 to 15.4). -/

namespace Sys2Proof.Machine

/-- HCRC: CRC-16 over header bits [127:16] (Table 15.2). -/
def hcrc (head : Nat) : Nat := crcBits 16 0x1021 0xFFFF (msbBits 112 (head >>> 16))

/-- A control message (Tables 15.3 and 15.4). -/
def msgWire : FabMsg → Nat
  | .req port cls total => natF 127 124 1 ||| natF 120 114 port ||| natF 113 112 cls ||| natF 31 0 total
  | .credit port cls total => natF 127 124 2 ||| natF 120 114 port ||| natF 113 112 cls ||| natF 31 0 total
  | .ack st q => natF 127 124 3 ||| natF 123 123 st ||| natF 111 94 q
  | .nak st q miss => natF 127 124 4 ||| natF 123 123 st ||| natF 111 94 q ||| natF 63 0 miss
  | .pend st a b => natF 127 124 5 ||| natF 123 123 st ||| natF 111 94 a ||| natF 93 76 b
  | .sync st probe q => natF 127 124 6 ||| natF 123 123 st ||| natF 122 121 probe.toNat ||| natF 111 94 q
  | .syncAck st probe q => natF 127 124 7 ||| natF 123 123 st ||| natF 122 121 probe.toNat ||| natF 111 94 q
  | .resync st => natF 127 124 8 ||| natF 123 123 st
  | .heartbeat lane ns => natF 127 124 9 ||| natF 47 40 lane ||| natF 31 0 ns

/-- The message that 16 bytes hold; none for Empty, a reserved MTYPE or a reserved SKIND, which are ignored (R423). -/
def msgOf (m : Nat) : Option FabMsg :=
  let st := bitsOf m 123 123
  let q := bitsOf m 111 94
  match bitsOf m 127 124, bitsOf m 122 121 with
  | 1, _ => some (.req (bitsOf m 120 114) (bitsOf m 113 112) (bitsOf m 31 0))
  | 2, _ => some (.credit (bitsOf m 120 114) (bitsOf m 113 112) (bitsOf m 31 0))
  | 3, _ => some (.ack st q)
  | 4, _ => some (.nak st q (bitsOf m 63 0))
  | 5, _ => some (.pend st q (bitsOf m 93 76))
  | 6, 0 => some (.sync st false q)
  | 6, 1 => some (.sync st true q)
  | 7, 0 => some (.syncAck st false q)
  | 7, 1 => some (.syncAck st true q)
  | 8, _ => some (.resync st)
  | 9, _ => some (.heartbeat (bitsOf m 47 40) (bitsOf m 31 0))
  | _, _ => none

/-- The 240 payload bytes of a cell: packed from byte 0, the rest zero. -/
def cellBody (c : FabOut) : List Byte :=
  let b := c.payload ++ c.msgs.flatMap (fun m => beBytes 16 (msgWire m))
  b ++ List.replicate (240 - b.length) 0

/-- The 256 bytes of a cell that device `sdev` sends (Table 15.2). -/
def cellWire (sdev : Nat) (c : FabOut) : List Byte :=
  let body := cellBody c
  let used := if c.kind = 0 then c.payload.length else 16 * c.msgs.length
  let ack := match c.ack with
    | some (st, q) => natF 72 72 1 ||| natF 71 71 st ||| natF 70 53 q
    | none => 0
  let head := natF 127 126 c.kind ||| natF 125 118 c.ddev ||| natF 117 110 sdev ||| natF 109 109 c.stream ||| natF 108 108 c.plane
    ||| natF 107 107 c.replay.toNat ||| natF 106 89 c.seq ||| natF 88 81 used ||| natF 80 73 (if c.kind = 0 then c.first.getD 0xFF else 0)
    ||| ack ||| natF 52 21 (crc32 body)
  beBytes 16 (head ||| hcrc head) ++ body

/-- The header of a received cell. -/
def cellHead (c : List Byte) : Nat := beNat (c.take 16)

/-- A whole cell with a good HCRC. -/
def headGood (c : List Byte) : Bool := c.length == 256 && hcrc (cellHead c) == bitsOf (cellHead c) 15 0

/-- A good PCRC. -/
def bodyGood (c : List Byte) : Bool := crc32 (c.drop 16) == bitsOf (cellHead c) 52 21

/-- The messages of a CTRL cell (R423): USED / 16 of them, at most 15, packed from payload byte 0. -/
def cellMsgs (c : List Byte) : List FabMsg :=
  (List.range (min 15 (bitsOf (cellHead c) 88 81 / 16))).filterMap (fun i => msgOf (beNat ((c.drop (16 + 16 * i)).take 16)))

/-- The 8 blocks at block phase p that end within the blocks now received. -/
def phaseCell (x : FabLane) (b : List Byte) (p : Nat) : List Byte := if p = 0 then b else x.tail.drop (32 * p) ++ b.take (32 * p)

/-- A lane with its delineation given up: the search begins anew (R421). -/
def undelin (x : FabLane) : FabLane := { x with delin := false, runs := [], bad := 0, goodAt := none }

/-- A lane without block lock. -/
def unlocked (x : FabLane) : FabLane := { undelin x with fec := false, tail := [] }

/-- A lane receives 8 blocks (R421). While the boundary is sought all 8 phases are tried at once, and the lowest with 6 good headers in a row
is taken: DESIGN CHOICE (log entry 68). Afterwards the cell at the phase found goes out beside the lane; 7 bad ones in a row lose it. -/
def laneHear (x : FabLane) (now : Nat) (b : List Byte) : FabLane × Option (List Byte) :=
  let y := { x with cdr := true, fec := true, tail := b }
  if x.delin then
    let c := phaseCell x b x.phase
    let z := if headGood c then { y with bad := 0 } else if 6 ≤ x.bad then undelin y else { y with bad := x.bad + 1 }
    (z, some c)
  else
    let runs := (List.range 8).map (fun p => if headGood (phaseCell x b p) then x.runs.getD p 0 + 1 else 0)
    match (List.range 8).find? (fun p => decide (6 ≤ runs.getD p 0)) with
    | some p => ({ y with delin := true, runs := [], phase := p, bad := 0, goodAt := some now }, none)
    | none => ({ y with runs := runs }, none)

end Sys2Proof.Machine
end

