-- ==== Sys2Proof/Config.lean ====
section
/-! DEFINITION. What one device fixes, and the free values: constants without a body, so that no proof can see what
they are. A statement about one of them holds for every value of it. -/

namespace Sys2Proof.Config

/-- The fused 48-bit serial (R58). -/
opaque serial : BitVec 48

/-- The fused public key in a key slot (R100): a point of P-384. -/
opaque fuseKey : Nat → Nat × Nat

/-- The fused key flags: bits [3:0] PRESENT, [7:4] REVOKED (Table 3.20). -/
opaque keyFuses : Nat

/-- A value the spec bounds but does not fix (R558): draw number `n`. -/
opaque draw : Nat → Nat

/-- Contents of table memories and registers a spec row calls measured or not given, by use and argument. -/
opaque measured : Nat → Nat → Nat

end Sys2Proof.Config
end

