-- ==== Sys2Proof/Machine/Regs.lean ====
section
/-! DEFINITION. The register map: one row for each register the field maps of the spec define, with its address,
its index dimensions, its access masks (Table 0.4) and the value its own bits hold after RESET_N. Bits a row does
not put in a mask are read-only: hardware writes them or the view of Machine/Access.lean computes them. -/

namespace Sys2Proof.Machine

/-- The registers, one name for each row of the spec's field maps; indexed registers take their indices apart. -/
inductive Reg where
  /-- DEV_FURLONG_CFG, Table 1.5. -/
  | devFurlongCfg
  /-- DEV_FURLONG_COMMIT, Table 1.6. -/
  | devFurlongCommit
  /-- DEV_FURLONG_STATUS, Table 1.7. -/
  | devFurlongStatus
  /-- DEV_FURLONG_TARGET, Table 1.8. -/
  | devFurlongTarget
  /-- DEV_FURLONG_AT_LO, Table 1.9. -/
  | devFurlongAtLo
  /-- DEV_FURLONG_AT_HI, Table 1.9. -/
  | devFurlongAtHi
  /-- DEV_ID, Table 2.13. -/
  | devId
  /-- DEV_SERIAL_LO, Table 2.14. -/
  | devSerialLo
  /-- DEV_SERIAL_HI, Table 2.14. -/
  | devSerialHi
  /-- DEV_CHAIN_ADDR, Table 2.15. -/
  | devChainAddr
  /-- DEV_CHAIN_RING, Table 2.16. -/
  | devChainRing
  /-- DEV_LEASE_OWNER, Table 2.17. -/
  | devLeaseOwner
  /-- DEV_LEASE_TK, Table 2.17. -/
  | devLeaseTk
  /-- DEV_PKTCH_CFG, Table 2.18. -/
  | devPktchCfg
  /-- DEV_PKTCH_TOTAL, Table 2.19. -/
  | devPktchTotal
  /-- IMG_STATUS, Table 3.9. -/
  | imgStatus
  /-- IMG_ACTIVE_ID, Table 3.10. -/
  | imgActiveId
  /-- IMG_ACTIVE_VER, Table 3.10. -/
  | imgActiveVer
  /-- IMG_ACTIVE_LAYOUT, Table 3.10. -/
  | imgActiveLayout
  /-- IMG_ACTIVE_META, Table 3.10. -/
  | imgActiveMeta
  /-- IMG_ROLE_SRC, Table 3.11. -/
  | imgRoleSrc
  /-- IMG_TUN_INFO, Table 3.12. -/
  | imgTunInfo
  /-- IMG_BOOT_SEL, Table 3.13. -/
  | imgBootSel
  /-- IMG_APPLY, Table 3.14. -/
  | imgApply
  /-- IMG_SLICE_LOAD, Table 3.15. -/
  | imgSliceLoad
  /-- IMG_SLICE_STATE, Table 3.16. -/
  | imgSliceState
  /-- IMG_SLICE_ROLE, Table 3.16. -/
  | imgSliceRole
  /-- IMG_STEER, Table 3.17. -/
  | imgSteer
  /-- IMG_BARRIER_STATUS, Table 3.18. -/
  | imgBarrierStatus
  /-- IMG_BARRIER_MAX, Table 3.19. -/
  | imgBarrierMax
  /-- IMG_KEY_STATUS, Table 3.20. -/
  | imgKeyStatus
  /-- IMG_KEY_REVOKE, Table 3.20. -/
  | imgKeyRevoke
  /-- LP_GRP_MODE, Table 4.5. -/
  | lpGrpMode
  /-- LP_TMR_TRAIN, Table 4.6. -/
  | lpTmrTrain
  /-- LP_TMR_SYNC, Table 4.7. -/
  | lpTmrSync
  /-- LP_PORT_CFG, Table 4.8. -/
  | lpPortCfg
  /-- LP_PORT_STATUS, Table 4.9. -/
  | lpPortStatus
  /-- LP_PTP_ADJ, Table 4.10. -/
  | lpPtpAdj
  /-- LP_EGR_LAT, Table 4.10. -/
  | lpEgrLat
  /-- LP_TXTS_HDR, Table 4.11. -/
  | lpTxtsHdr
  /-- LP_TXTS_NS, Table 4.11. -/
  | lpTxtsNs
  /-- LP_TXTS_SUB, Table 4.11. -/
  | lpTxtsSub
  /-- LP_LANE_STATUS, Table 4.12. -/
  | lpLaneStatus
  /-- LP_LANE_TXEQ, Table 4.12. -/
  | lpLaneTxeq
  /-- LP_SYNCE_CFG, Table 4.13. -/
  | lpSynceCfg
  /-- OTN_CFG, Table 5.6. -/
  | otnCfg
  /-- OTN_GID, Table 5.7. -/
  | otnGid
  /-- OTN_DEG_SM, Table 5.8. -/
  | otnDegSm
  /-- OTN_DEG_PM, Table 5.8. -/
  | otnDegPm
  /-- OTN_DEF_LIVE, Table 5.9. -/
  | otnDefLive
  /-- OTN_DEF_LATCH, Table 5.9. -/
  | otnDefLatch
  /-- OTN_ALIGN, Table 5.10. -/
  | otnAlign
  /-- OTN_SM_TTI_RX, Table 5.11. -/
  | otnSmTtiRx
  /-- OTN_PM_TTI_RX, Table 5.11. -/
  | otnPmTtiRx
  /-- OTN_SM_TTI_EXP, Table 5.11. -/
  | otnSmTtiExp
  /-- OTN_PM_TTI_EXP, Table 5.11. -/
  | otnPmTtiExp
  /-- OTN_SM_TTI_TX, Table 5.11. -/
  | otnSmTtiTx
  /-- OTN_PM_TTI_TX, Table 5.11. -/
  | otnPmTtiTx
  /-- SLC_STATUS, Table 6.9. -/
  | slcStatus
  /-- SLC_CFG, Table 6.10. -/
  | slcCfg
  /-- SLC_JRNL_STATUS, Table 6.11. -/
  | slcJrnlStatus
  /-- SLC_JRNL_MAX, Table 6.11. -/
  | slcJrnlMax
  /-- SLC_HOLD_STATUS, Table 6.11. -/
  | slcHoldStatus
  /-- SLC_PUNT_STATUS, Table 6.11. -/
  | slcPuntStatus
  /-- SLC_PARSE_CAP, Table 6.12. -/
  | slcParseCap
  /-- SLC_PROG_DIGEST, Table 6.13. -/
  | slcProgDigest
  /-- SLC_TRACK_STATUS, Table 6.14. -/
  | slcTrackStatus
  /-- SLC_FAILOVER_CFG, Table 6.15. -/
  | slcFailoverCfg
  /-- SLC_FAILOVER_STATUS, Table 6.15. -/
  | slcFailoverStatus
  /-- SLC_INTAKE_STATUS, Table 6.16. -/
  | slcIntakeStatus
  /-- SLC_INTAKE_MAX, Table 6.16. -/
  | slcIntakeMax
  /-- TBL_REGION, Table 7.13. -/
  | tblRegion
  /-- TBL_VIEW, Table 7.14. -/
  | tblView
  /-- TBL_CMD_WIN, Table 7.15. -/
  | tblCmdWin
  /-- TBL_CMD_STATUS, Table 7.15. -/
  | tblCmdStatus
  /-- TBL_FAIL_FIFO, Table 7.15. -/
  | tblFailFifo
  /-- TBL_READBACK, Table 7.16. -/
  | tblReadback
  /-- TBL_EM_SEED, Table 7.17. -/
  | tblEmSeed
  /-- TBL_EM_REHASH, Table 7.17. -/
  | tblEmRehash
  /-- TBL_EM_USE, Table 7.17. -/
  | tblEmUse
  /-- TBL_OVF_USE, Table 7.18. -/
  | tblOvfUse
  /-- TBL_ROUTE_USE, Table 7.18. -/
  | tblRouteUse
  /-- TBL_SIG_SEL, Table 7.19. -/
  | tblSigSel
  /-- TBL_SIG_VAL, Table 7.19. -/
  | tblSigVal
  /-- LRN_CFG, Table 7.20. -/
  | lrnCfg
  /-- LRN_AGE_CFG, Table 7.20. -/
  | lrnAgeCfg
  /-- LRN_STATUS, Table 7.21. -/
  | lrnStatus
  /-- LRN_USE, Table 7.21. -/
  | lrnUse
  /-- LRN_HCMD, Table 7.22. -/
  | lrnHcmd
  /-- LRN_HKEY_HI, Table 7.22. -/
  | lrnHkeyHi
  /-- LRN_HKEY_LO, Table 7.22. -/
  | lrnHkeyLo
  /-- LRN_HDATA, Table 7.22. -/
  | lrnHdata
  /-- LRN_HRESULT, Table 7.22. -/
  | lrnHresult
  /-- LRN_NOTIFY, Table 7.23. -/
  | lrnNotify
  /-- LRN_NOTIFY_STATUS, Table 7.23. -/
  | lrnNotifyStatus
  /-- LRN_COPY, Table 7.24. -/
  | lrnCopy
  /-- TCM_BANK, Table 8.6. -/
  | tcmBank
  /-- TCM_TABLE, Table 8.7. -/
  | tcmTable
  /-- TCM_ALIAS, Table 8.8. -/
  | tcmAlias
  /-- TCM_ALIAS_STATUS, Table 8.8. -/
  | tcmAliasStatus
  /-- TCM_CMD_WIN, Table 8.9. -/
  | tcmCmdWin
  /-- TCM_CMD_STATUS, Table 8.9. -/
  | tcmCmdStatus
  /-- TCM_FAIL_FIFO, Table 8.9. -/
  | tcmFailFifo
  /-- TCM_READBACK, Table 8.10. -/
  | tcmReadback
  /-- TCM_BULK_STATUS, Table 8.11. -/
  | tcmBulkStatus
  /-- TCM_OVERLAP_FIRST, Table 8.11. -/
  | tcmOverlapFirst
  /-- TCM_OVERLAP_FIRST2, Table 8.11. -/
  | tcmOverlapFirst2
  /-- TCM_SUSPECT_CFG, Table 8.12. -/
  | tcmSuspectCfg
  /-- XE_CFG, Table 9.1. -/
  | xeCfg
  /-- XE_STATUS, Table 9.2. -/
  | xeStatus
  /-- XE_LAG_CFG, Table 9.3. -/
  | xeLagCfg
  /-- XE_ENGINE_FENCE, Table 9.4. -/
  | xeEngineFence
  /-- XE_CLUSTER_STATUS, Table 9.5. -/
  | xeClusterStatus
  /-- XE_ENGINE_STATUS, Table 9.6. -/
  | xeEngineStatus
  /-- XE_CLASS_A, Table 9.7. -/
  | xeClassA
  /-- XE_CLASS_B, Table 9.7. -/
  | xeClassB
  /-- XE_CLASS_C, Table 9.7. -/
  | xeClassC
  /-- XE_CLASS_STATUS, Table 9.7. -/
  | xeClassStatus
  /-- ELL_BCFG, Table 10.6. -/
  | ellBcfg
  /-- ELL_BSTATUS, Table 10.7. -/
  | ellBstatus
  /-- ELL_LANE_BAD_LO, Table 10.8. -/
  | ellLaneBadLo
  /-- ELL_LANE_BAD_HI, Table 10.8. -/
  | ellLaneBadHi
  /-- ELL_LANE_BAD_X, Table 10.8. -/
  | ellLaneBadX
  /-- ELL_DELAY, Table 10.9. -/
  | ellDelay
  /-- ELL_LANE_ALIGN, Table 10.10. -/
  | ellLaneAlign
  /-- ELL_HOME, Table 10.11. -/
  | ellHome
  /-- ELL_BODY_CFG, Table 10.11. -/
  | ellBodyCfg
  /-- ELL_TIME_SRC, Table 10.11. -/
  | ellTimeSrc
  /-- BPM_SPILL_CFG, Table 11.3. -/
  | bpmSpillCfg
  /-- BPM_QCNT_PAGE, Table 11.4. -/
  | bpmQcntPage
  /-- BPM_DFREE_CAP, Table 11.4. -/
  | bpmDfreeCap
  /-- BPM_STATUS, Table 11.4. -/
  | bpmStatus
  /-- BPM_POOL_CFG, Table 11.5. -/
  | bpmPoolCfg
  /-- BPM_POOL_FREE, Table 11.5. -/
  | bpmPoolFree
  /-- BPM_POOL_MIN, Table 11.5. -/
  | bpmPoolMin
  /-- BPM_PROF_MAX, Table 11.6. -/
  | bpmProfMax
  /-- BPM_PROF_MIN, Table 11.6. -/
  | bpmProfMin
  /-- BPM_PROF_SPILL, Table 11.6. -/
  | bpmProfSpill
  /-- BPM_PROF_ED, Table 11.6. -/
  | bpmProfEd
  /-- BPM_MCG_ING, Table 11.7. -/
  | bpmMcgIng
  /-- BPM_MCG_EG, Table 11.7. -/
  | bpmMcgEg
  /-- BPM_QCFG, Table 11.7. -/
  | bpmQcfg
  /-- BPM_QSTATE, Table 11.7. -/
  | bpmQstate
  /-- BPM_MCL_A, Table 11.7. -/
  | bpmMclA
  /-- BPM_MCL_B, Table 11.7. -/
  | bpmMclB
  /-- MIR_SESS_A, Table 11.9. -/
  | mirSessA
  /-- MIR_SESS_B, Table 11.9. -/
  | mirSessB
  /-- MIR_SESS_C, Table 11.9. -/
  | mirSessC
  /-- HBM_CFG, Table 12.4. -/
  | hbmCfg
  /-- HBM_LAG_CFG, Table 12.4. -/
  | hbmLagCfg
  /-- HBM_ECC_CFG, Table 12.4. -/
  | hbmEccCfg
  /-- HBM_UE_CAP, Table 12.5. -/
  | hbmUeCap
  /-- HBM_SPACE, Table 12.5. -/
  | hbmSpace
  /-- HBM_HREF, Table 12.5. -/
  | hbmHref
  /-- HBM_STACK_CFG, Table 12.6. -/
  | hbmStackCfg
  /-- HBM_STACK_STATUS, Table 12.6. -/
  | hbmStackStatus
  /-- HBM_CH_CFG, Table 12.7. -/
  | hbmChCfg
  /-- HBM_CH_STATUS, Table 12.7. -/
  | hbmChStatus
  /-- HBM_CH_LAT, Table 12.7. -/
  | hbmChLat
  /-- SCH_CFG, Table 13.3. -/
  | schCfg
  /-- SCH_QSPLIT, Table 13.4. -/
  | schQsplit
  /-- SCH_STATUS, Table 13.4. -/
  | schStatus
  /-- SCH_NSEL, Table 13.5. -/
  | schNsel
  /-- SCH_N_MAP, Table 13.6. -/
  | schNMap
  /-- SCH_N_CIR, Table 13.6. -/
  | schNCir
  /-- SCH_N_PIR, Table 13.6. -/
  | schNPir
  /-- SCH_N_BURST, Table 13.6. -/
  | schNBurst
  /-- SCH_N_CTOK, Table 13.6. -/
  | schNCtok
  /-- SCH_N_PTOK, Table 13.6. -/
  | schNPtok
  /-- SCH_N_QCFG, Table 13.6. -/
  | schNQcfg
  /-- SCH_N_QMAX, Table 13.6. -/
  | schNQmax
  /-- SCH_PORT_CFG, Table 13.7. -/
  | schPortCfg
  /-- SCH_PORT_STATUS, Table 13.7. -/
  | schPortStatus
  /-- SCH_POL_A, Table 13.8. -/
  | schPolA
  /-- SCH_POL_B, Table 13.8. -/
  | schPolB
  /-- SCH_POL_C, Table 13.8. -/
  | schPolC
  /-- SCH_QDELAY, Table 13.9. -/
  | schQdelay
  /-- SCH_POL_PAGE, Table 13.11. -/
  | schPolPage
  /-- TGT_TB_NS_LO, Table 14.4. -/
  | tgtTbNsLo
  /-- TGT_TB_NS_HI, Table 14.4. -/
  | tgtTbNsHi
  /-- TGT_TB_FRAC, Table 14.4. -/
  | tgtTbFrac
  /-- TGT_TB_CTRL, Table 14.4. -/
  | tgtTbCtrl
  /-- TGT_TB_RATE, Table 14.4. -/
  | tgtTbRate
  /-- TGT_TB_OFS_LO, Table 14.4. -/
  | tgtTbOfsLo
  /-- TGT_TB_OFS_HI, Table 14.4. -/
  | tgtTbOfsHi
  /-- TGT_TB_SET_LO, Table 14.4. -/
  | tgtTbSetLo
  /-- TGT_TB_SET_HI, Table 14.4. -/
  | tgtTbSetHi
  /-- TGT_TB_CMD, Table 14.4. -/
  | tgtTbCmd
  /-- TGT_TB_SLEW_LO, Table 14.4. -/
  | tgtTbSlewLo
  /-- TGT_TB_SLEW_HI, Table 14.4. -/
  | tgtTbSlewHi
  /-- TGT_PPS_CAP_LO, Table 14.4. -/
  | tgtPpsCapLo
  /-- TGT_PPS_CAP_HI, Table 14.4. -/
  | tgtPpsCapHi
  /-- TGT_PPS_CAP_FRAC, Table 14.4. -/
  | tgtPpsCapFrac
  /-- TGT_ACT_AT_LO, Table 14.4. -/
  | tgtActAtLo
  /-- TGT_ACT_AT_HI, Table 14.4. -/
  | tgtActAtHi
  /-- TGT_STATUS, Table 14.4. -/
  | tgtStatus
  /-- TGT_GCFG_A, Table 14.5. -/
  | tgtGcfgA
  /-- TGT_GCFG_B, Table 14.5. -/
  | tgtGcfgB
  /-- TGT_GBASE_LO, Table 14.5. -/
  | tgtGbaseLo
  /-- TGT_GBASE_HI, Table 14.5. -/
  | tgtGbaseHi
  /-- TGT_GSPAN, Table 14.5. -/
  | tgtGspan
  /-- TGT_GSTATUS, Table 14.5. -/
  | tgtGstatus
  /-- TGT_GSWITCH_LO, Table 14.5. -/
  | tgtGswitchLo
  /-- TGT_GSWITCH_HI, Table 14.5. -/
  | tgtGswitchHi
  /-- TGT_GMAXOPEN, Table 14.5. -/
  | tgtGmaxopen
  /-- FAB_CFG, Table 15.9. -/
  | fabCfg
  /-- FAB_RX_TMR, Table 15.10. -/
  | fabRxTmr
  /-- FAB_TX_TMR, Table 15.10. -/
  | fabTxTmr
  /-- FAB_LAG_CFG, Table 15.11. -/
  | fabLagCfg
  /-- FAB_PLANE_CFG, Table 15.11. -/
  | fabPlaneCfg
  /-- FAB_CMD, Table 15.11. -/
  | fabCmd
  /-- FAB_STATUS, Table 15.12. -/
  | fabStatus
  /-- FAB_FIRKIN, Table 15.12. -/
  | fabFirkin
  /-- FAB_FIRKIN_MAX, Table 15.12. -/
  | fabFirkinMax
  /-- FAB_CLASS_CFG, Table 15.13. -/
  | fabClassCfg
  /-- FAB_CREDIT_CFG, Table 15.13. -/
  | fabCreditCfg
  /-- FAB_PEER_EN, Table 15.14. -/
  | fabPeerEn
  /-- FAB_CR_CFG, Table 15.15. -/
  | fabCrCfg
  /-- FAB_LANE_CFG, Table 15.16. -/
  | fabLaneCfg
  /-- FAB_LANE_STATUS, Table 15.16. -/
  | fabLaneStatus
  /-- FAB_TWIN_CFG, Table 15.17. -/
  | fabTwinCfg
  /-- FAB_TWIN_STATUS, Table 15.17. -/
  | fabTwinStatus
  /-- FAB_STRM, Table 15.18. -/
  | fabStrm
  /-- FAB_VOQ_A, Table 15.19. -/
  | fabVoqA
  /-- FAB_VOQ_B, Table 15.19. -/
  | fabVoqB
  /-- DEV_FATAL, Table 16.5. -/
  | devFatal
  /-- DEV_UNFENCE, Table 16.7. -/
  | devUnfence
  /-- DEV_UNFENCE_STATUS, Table 16.7. -/
  | devUnfenceStatus
  /-- REC_CFG, Table 17.7. -/
  | recCfg
  /-- REC_CMD, Table 17.7. -/
  | recCmd
  /-- REC_STATUS, Table 17.7. -/
  | recStatus
  /-- REC_CYCLE, Table 17.7. -/
  | recCycle
  /-- REC_OP_SEC, Table 17.7. -/
  | recOpSec
  /-- REC_BOOT_SEC, Table 17.7. -/
  | recBootSec
  /-- REC_LOG_HEAD, Table 17.7. -/
  | recLogHead
  /-- REC_RD_IDX, Table 17.7. -/
  | recRdIdx
  /-- REC_HSEL, Table 17.7. -/
  | recHsel
  /-- REC_RD, Table 17.7. -/
  | recRd
  /-- REC_HBIN, Table 17.7. -/
  | recHbin
  /-- REC_EXT_LIFE, Table 17.7. -/
  | recExtLife
  /-- REC_EXT_MIN_AT, Table 17.7. -/
  | recExtMinAt
  /-- REC_EXT_MAX_AT, Table 17.7. -/
  | recExtMaxAt
  /-- REC_EXT_BOOT, Table 17.7. -/
  | recExtBoot
  /-- REC_EXT_NOW, Table 17.7. -/
  | recExtNow
  /-- REC_OVR_A, Table 17.7. -/
  | recOvrA
  /-- REC_OVR_B, Table 17.7. -/
  | recOvrB
  /-- PMC_SET_CFG, Table 17.8. -/
  | pmcSetCfg
  /-- PMC_SET_CMD, Table 17.8. -/
  | pmcSetCmd
  /-- PMC_SET_STATUS, Table 17.8. -/
  | pmcSetStatus
  /-- PMC_SU_CFG, Table 17.8. -/
  | pmcSuCfg
  /-- PMC_SU_SEQ, Table 17.8. -/
  | pmcSuSeq
  /-- PMC_STATUS, Table 17.8. -/
  | pmcStatus
  /-- PMC_SU, Table 17.8. -/
  | pmcSu
  /-- PMC_ENTRY, Table 17.8. -/
  | pmcEntry
  /-- UPD_STATUS, Table 18.6. -/
  | updStatus
  /-- UPD_SESSION, Table 18.7. -/
  | updSession
  /-- UPD_BYTES, Table 18.7. -/
  | updBytes
  /-- UPD_TOTAL, Table 18.7. -/
  | updTotal
  /-- UPD_DIGEST, Table 18.8. -/
  | updDigest
  /-- UPD_CFG, Table 18.9. -/
  | updCfg
  /-- UPD_CONFIRM_CFG, Table 18.9. -/
  | updConfirmCfg
  /-- UPD_CMD, Table 18.9. -/
  | updCmd
  /-- UPD_ARM_AT_LO, Table 18.9. -/
  | updArmAtLo
  /-- UPD_ARM_AT_HI, Table 18.9. -/
  | updArmAtHi
  /-- UPD_FW_STATUS, Table 18.10. -/
  | updFwStatus
  /-- UPD_FW_VER, Table 18.10. -/
  | updFwVer
  /-- UPD_RELAY, Table 18.11. -/
  | updRelay
  /-- PWR_FEED_A, Table 19.9. -/
  | pwrFeedA
  /-- PWR_FEED_B, Table 19.9. -/
  | pwrFeedB
  /-- PWR_INPUT, Table 19.9. -/
  | pwrInput
  /-- PWR_INPUT_PEAK, Table 19.9. -/
  | pwrInputPeak
  /-- PWR_THERM_CFG, Table 19.10. -/
  | pwrThermCfg
  /-- PWR_THERM_F, Table 19.10. -/
  | pwrThermF
  /-- PWR_THERM_Q, Table 19.10. -/
  | pwrThermQ
  /-- PWR_DOM_CMD, Table 19.11. -/
  | pwrDomCmd
  /-- PWR_DOM_REJ, Table 19.11. -/
  | pwrDomRej
  /-- PWR_DOM_STATE, Table 19.11. -/
  | pwrDomState
  /-- CLK_STATUS, Table 19.12. -/
  | clkStatus
  /-- CLK_LREF, Table 19.12. -/
  | clkLref
  /-- CLK_RST_CAUSE, Table 19.12. -/
  | clkRstCause
  /-- CLK_BOOT_TIME, Table 19.12. -/
  | clkBootTime
  /-- DEV_FURLONG_SEQ_LO, R38, R22. -/
  | devFurlongSeqLo
  /-- DEV_FURLONG_SEQ_HI, R38, R23. -/
  | devFurlongSeqHi
  /-- PMC_BANK_SEQ, R488. -/
  | pmcBankSeq
  /-- PMC_BANK_NS_LO, the bank layout under Table 17.8. -/
  | pmcBankNsLo
  /-- PMC_BANK_NS_HI, the bank layout under Table 17.8. -/
  | pmcBankNsHi
  /-- PMC_BANK_ZERO, the bank layout under Table 17.8. -/
  | pmcBankZero
  /-- PMC_BANK_VAL, the bank layout under Table 17.8. -/
  | pmcBankVal
  /-- PMC_BANK_EXT, the bank layout under Table 17.8. -/
  | pmcBankExt
  /-- PMC_BANK_END, R488. -/
  | pmcBankEnd
  /-- TGT_GCL_W0, Table 14.3. -/
  | tgtGclW0
  /-- TGT_GCL_W1, Table 14.3. -/
  | tgtGclW1
  /-- FLT_LIVE, Table 0.5. -/
  | fltLive
  /-- FLT_STICKY, Table 0.5. -/
  | fltSticky
  /-- FLT_FIRST, Table 0.5. -/
  | fltFirst
  /-- FLT_MASK, Table 0.5. -/
  | fltMask
  /-- FLT_CLASS, Table 0.5. -/
  | fltClass
  /-- FLT_FENCE, Table 0.5. -/
  | fltFence
deriving DecidableEq, Repr

/-- A row of the register map. -/
structure RegInfo where
  /-- Address of the register whose indices are all 0. -/
  base : Nat
  /-- Count and stride of each index, outermost first. -/
  dims : List (Nat × Nat) := []
  /-- Bits of type RW or OW. -/
  rw : Nat := 0
  /-- Bits of type ST. -/
  st : Nat := 0
  /-- Bits of type W1C. -/
  w1c : Nat := 0
  /-- Bits of type RC. -/
  rc : Nat := 0
  /-- Bits of type WO. -/
  wo : Nat := 0
  /-- Bits of type OP. -/
  op : Nat := 0
  /-- Reset of the bits that the row itself holds. -/
  rst : Nat := 0
deriving DecidableEq, Repr

/-- The register map. -/
def Reg.info : Reg → RegInfo
  | .devFurlongCfg => { base := 0x00000400, st := 0x0000001F, rst := 0x00000014 }
  | .devFurlongCommit => { base := 0x00000404, wo := 0x00000007 }
  | .devFurlongStatus => { base := 0x00000408, w1c := 0x3E000000 }
  | .devFurlongTarget => { base := 0x00000414 }
  | .devFurlongAtLo => { base := 0x00000418, rw := 0xFFFFFFFF }
  | .devFurlongAtHi => { base := 0x0000041C, rw := 0xFFFFFFFF }
  | .devId => { base := 0x00000000 }
  | .devSerialLo => { base := 0x00000004 }
  | .devSerialHi => { base := 0x00000008 }
  | .devChainAddr => { base := 0x00000100 }
  | .devChainRing => { base := 0x00000104 }
  | .devLeaseOwner => { base := 0x00000110 }
  | .devLeaseTk => { base := 0x00000114 }
  | .devPktchCfg => { base := 0x00000200, dims := [(8, 0x4)], rw := 0xFFFF0FFF, rst := 0x400A0040 }
  | .devPktchTotal => { base := 0x00000220, rw := 0x0FFF0FFF, rst := 0x01000064 }
  | .imgStatus => { base := 0x03000000, w1c := 0x00180000 }
  | .imgActiveId => { base := 0x03000004 }
  | .imgActiveVer => { base := 0x03000008 }
  | .imgActiveLayout => { base := 0x0300000C }
  | .imgActiveMeta => { base := 0x03000010 }
  | .imgRoleSrc => { base := 0x03000014 }
  | .imgTunInfo => { base := 0x03000020, dims := [(4, 0x4)] }
  | .imgBootSel => { base := 0x03000030, rw := 0x0000000B }
  | .imgApply => { base := 0x03000040, wo := 0xE0000003 }
  | .imgSliceLoad => { base := 0x03000050, wo := 0xC0000F37 }
  | .imgSliceState => { base := 0x03000054 }
  | .imgSliceRole => { base := 0x03000058 }
  | .imgSteer => { base := 0x03000060, st := 0xFFFFFFFF, rst := 0x76543210 }
  | .imgBarrierStatus => { base := 0x03000064 }
  | .imgBarrierMax => { base := 0x03000068, rc := 0x0000FFFF }
  | .imgKeyStatus => { base := 0x03000070 }
  | .imgKeyRevoke => { base := 0x03000074, wo := 0xFFFF0003 }
  | .lpGrpMode => { base := 0x04000000, dims := [(16, 0x80000)], rw := 0xE00000FF, w1c := 0x10000000 }
  | .lpTmrTrain => { base := 0x04000010, dims := [(16, 0x80000)], rw := 0xFFFFFFFF, rst := 0x07D003E8 }
  | .lpTmrSync => { base := 0x04000014, dims := [(16, 0x80000)], rw := 0x001FFFFF, rst := 0x00140064 }
  | .lpPortCfg => { base := 0x04001000, dims := [(16, 0x80000), (8, 0x100)], rw := 0xFCFF3FFF, rst := 0x60012400 }
  | .lpPortStatus => { base := 0x04001004, dims := [(16, 0x80000), (8, 0x100)] }
  | .lpPtpAdj => { base := 0x04001008, dims := [(16, 0x80000), (8, 0x100)], rw := 0xFFFFFFFF }
  | .lpEgrLat => { base := 0x0400100C, dims := [(16, 0x80000), (8, 0x100)] }
  | .lpTxtsHdr => { base := 0x04001010, dims := [(16, 0x80000), (8, 0x100)], rc := 0xC000FFFF }
  | .lpTxtsNs => { base := 0x04001014, dims := [(16, 0x80000), (8, 0x100)] }
  | .lpTxtsSub => { base := 0x04001018, dims := [(16, 0x80000), (8, 0x100)] }
  | .lpLaneStatus => { base := 0x04002000, dims := [(16, 0x80000), (8, 0x100)] }
  | .lpLaneTxeq => { base := 0x04002004, dims := [(16, 0x80000), (8, 0x100)], rw := 0xFFFFFFFF, rst := 0x00F66CF6 }
  | .lpSynceCfg => { base := 0x04800000, dims := [(2, 0x4)], rw := 0xE07F007F }
  | .otnCfg => { base := 0x05000000, dims := [(16, 0x80000)], rw := 0xFFC0FFFF }
  | .otnGid => { base := 0x05000004, dims := [(16, 0x80000)], rw := 0x000FFFFF }
  | .otnDegSm => { base := 0x05000008, dims := [(16, 0x80000)], rw := 0xF00FFFFF, rst := 0x70010000 }
  | .otnDegPm => { base := 0x0500000C, dims := [(16, 0x80000)], rw := 0xF00FFFFF, rst := 0x70010000 }
  | .otnDefLive => { base := 0x05000010, dims := [(16, 0x80000)] }
  | .otnDefLatch => { base := 0x05000014, dims := [(16, 0x80000)], w1c := 0x0000FFFF }
  | .otnAlign => { base := 0x05000018, dims := [(16, 0x80000)] }
  | .otnSmTtiRx => { base := 0x05000100, dims := [(16, 0x80000), (16, 0x4)] }
  | .otnPmTtiRx => { base := 0x05000140, dims := [(16, 0x80000), (16, 0x4)] }
  | .otnSmTtiExp => { base := 0x05000180, dims := [(16, 0x80000), (8, 0x4)], rw := 0xFFFFFFFF }
  | .otnPmTtiExp => { base := 0x050001A0, dims := [(16, 0x80000), (8, 0x4)], rw := 0xFFFFFFFF }
  | .otnSmTtiTx => { base := 0x050001C0, dims := [(16, 0x80000), (16, 0x4)], rw := 0xFFFFFFFF }
  | .otnPmTtiTx => { base := 0x05000200, dims := [(16, 0x80000), (16, 0x4)], rw := 0xFFFFFFFF }
  | .slcStatus => { base := 0x06000000, dims := [(9, 0x100000)] }
  | .slcCfg => { base := 0x06000004, dims := [(9, 0x100000)], rw := 0x0000FFFF, rst := 0x00000400 }
  | .slcJrnlStatus => { base := 0x06000010, dims := [(9, 0x100000)] }
  | .slcJrnlMax => { base := 0x06000014, dims := [(9, 0x100000)], rc := 0xFFFFFFFF }
  | .slcHoldStatus => { base := 0x06000018, dims := [(9, 0x100000)] }
  | .slcPuntStatus => { base := 0x0600001C, dims := [(9, 0x100000)] }
  | .slcParseCap => { base := 0x06000020, dims := [(9, 0x100000)], w1c := 0x80000000 }
  | .slcProgDigest => { base := 0x06000040, dims := [(9, 0x100000), (12, 0x4)] }
  | .slcTrackStatus => { base := 0x06000100, dims := [(9, 0x100000), (6, 0x4)] }
  | .slcFailoverCfg => { base := 0x06900000, rw := 0xC0000000, rst := 0xC0000000 }
  | .slcFailoverStatus => { base := 0x06900004 }
  | .slcIntakeStatus => { base := 0x06900100, dims := [(16, 0x4)] }
  | .slcIntakeMax => { base := 0x06900140, dims := [(16, 0x4)], rc := 0x0003FFFF }
  | .tblRegion => { base := 0x07000000, dims := [(16, 0x4)] }
  | .tblView => { base := 0x07000040, st := 0x0000003F }
  | .tblCmdWin => { base := 0x07000100, wo := 0xFFFFFFFF }
  | .tblCmdStatus => { base := 0x07000104, w1c := 0xC0000000 }
  | .tblFailFifo => { base := 0x07000108, op := 0xFFFFFFFF }
  | .tblReadback => { base := 0x07000110, dims := [(8, 0x4)] }
  | .tblEmSeed => { base := 0x07000200, dims := [(4, 0x10)], rw := 0xFFFFFFFF }
  | .tblEmRehash => { base := 0x07000204, dims := [(4, 0x10)], wo := 0xC0000000 }
  | .tblEmUse => { base := 0x07000208, dims := [(4, 0x10)] }
  | .tblOvfUse => { base := 0x07000240 }
  | .tblRouteUse => { base := 0x07000244 }
  | .tblSigSel => { base := 0x07000250, rw := 0x00001FFF }
  | .tblSigVal => { base := 0x07000254 }
  | .lrnCfg => { base := 0x08000000, dims := [(9, 0x100000)], rw := 0xF80FFFFF, rst := 0xF00003E8 }
  | .lrnAgeCfg => { base := 0x08000004, dims := [(9, 0x100000)], rw := 0x03FFCFFF, rst := 0x03E8C064 }
  | .lrnStatus => { base := 0x08000008, dims := [(9, 0x100000)] }
  | .lrnUse => { base := 0x0800000C, dims := [(9, 0x100000)] }
  | .lrnHcmd => { base := 0x08000010, dims := [(9, 0x100000)], wo := 0xF007FFFF }
  | .lrnHkeyHi => { base := 0x08000014, dims := [(9, 0x100000)], rw := 0xFFFFFFFF }
  | .lrnHkeyLo => { base := 0x08000018, dims := [(9, 0x100000)], rw := 0xFFFFFFFF }
  | .lrnHdata => { base := 0x0800001C, dims := [(9, 0x100000)], rw := 0x0000FFFF }
  | .lrnHresult => { base := 0x08000020, dims := [(9, 0x100000)] }
  | .lrnNotify => { base := 0x08000040, dims := [(9, 0x100000)], op := 0xFFFFFFFF }
  | .lrnNotifyStatus => { base := 0x08000044, dims := [(9, 0x100000)], w1c := 0x80000000 }
  | .lrnCopy => { base := 0x08900000, rw := 0x000000FF, w1c := 0x08000000, wo := 0xC0000000 }
  | .tcmBank => { base := 0x09000000, dims := [(96, 0x4)], wo := 0x80000000 }
  | .tcmTable => { base := 0x09000200, dims := [(32, 0x4)] }
  | .tcmAlias => { base := 0x09000300, dims := [(32, 0x4)], st := 0x0000001F }
  | .tcmAliasStatus => { base := 0x09000380, w1c := 0x80000000 }
  | .tcmCmdWin => { base := 0x09000400, wo := 0xFFFFFFFF }
  | .tcmCmdStatus => { base := 0x09000404, w1c := 0xC0000000 }
  | .tcmFailFifo => { base := 0x09000408, op := 0xFFFFFFFF }
  | .tcmReadback => { base := 0x09000440, dims := [(24, 0x4)] }
  | .tcmBulkStatus => { base := 0x09000500 }
  | .tcmOverlapFirst => { base := 0x09000504 }
  | .tcmOverlapFirst2 => { base := 0x09000508 }
  | .tcmSuspectCfg => { base := 0x09000600, rw := 0x800000FF, rst := 0x80000004 }
  | .xeCfg => { base := 0x0A000000, rw := 0x00003BFF, rst := 0x00002064 }
  | .xeStatus => { base := 0x0A000004, w1c := 0x00020000 }
  | .xeLagCfg => { base := 0x0A000008, rw := 0x8FF0FF00, rst := 0x84401000 }
  | .xeEngineFence => { base := 0x0A00000C, wo := 0x8000007F }
  | .xeClusterStatus => { base := 0x0A000100, dims := [(8, 0x4)] }
  | .xeEngineStatus => { base := 0x0A000200, dims := [(128, 0x4)] }
  | .xeClassA => { base := 0x0A001000, dims := [(64, 0x10)], st := 0xE0007FFF }
  | .xeClassB => { base := 0x0A001004, dims := [(64, 0x10)], st := 0xFFFFCFFF, rst := 0x00050000 }
  | .xeClassC => { base := 0x0A001008, dims := [(64, 0x10)], st := 0x00003FFF }
  | .xeClassStatus => { base := 0x0A00100C, dims := [(64, 0x10)] }
  | .ellBcfg => { base := 0x0B000000, dims := [(2, 0x10000), (16, 0x400)], rw := 0xE00000FF, rst := 0x20000008 }
  | .ellBstatus => { base := 0x0B000004, dims := [(2, 0x10000), (16, 0x400)] }
  | .ellLaneBadLo => { base := 0x0B000008, dims := [(2, 0x10000), (16, 0x400)] }
  | .ellLaneBadHi => { base := 0x0B00000C, dims := [(2, 0x10000), (16, 0x400)] }
  | .ellLaneBadX => { base := 0x0B000010, dims := [(2, 0x10000), (16, 0x400)] }
  | .ellDelay => { base := 0x0B000014, dims := [(2, 0x10000), (16, 0x400)] }
  | .ellLaneAlign => { base := 0x0B000040, dims := [(2, 0x10000), (16, 0x400), (66, 0x4)] }
  | .ellHome => { base := 0x0B020000, st := 0xFFFFFFFF, rst := 0xFFFFFFFF }
  | .ellBodyCfg => { base := 0x0B020004, rw := 0xFFC00FFF, rst := 0x05000020 }
  | .ellTimeSrc => { base := 0x0B020008 }
  | .bpmSpillCfg => { base := 0x0C000000, rw := 0x0000FFFF, rst := 0x00000040 }
  | .bpmQcntPage => { base := 0x0C000004, rw := 0x000003FF }
  | .bpmDfreeCap => { base := 0x0C000008, w1c := 0x80000000 }
  | .bpmStatus => { base := 0x0C00000C, w1c := 0x80000000 }
  | .bpmPoolCfg => { base := 0x0C000100, dims := [(4, 0x10)] }
  | .bpmPoolFree => { base := 0x0C000104, dims := [(4, 0x10)] }
  | .bpmPoolMin => { base := 0x0C000108, dims := [(4, 0x10)], rc := 0x000FFFFF }
  | .bpmProfMax => { base := 0x0C010000, dims := [(256, 0x20), (4, 0x4)], st := 0x03FFFFFF }
  | .bpmProfMin => { base := 0x0C010010, dims := [(256, 0x20)], st := 0xF00FFFFF }
  | .bpmProfSpill => { base := 0x0C010014, dims := [(256, 0x20)], st := 0x8FFF0FFF }
  | .bpmProfEd => { base := 0x0C010018, dims := [(256, 0x20)], st := 0x8FFFFFFF, rst := 0x08000000 }
  | .bpmMcgIng => { base := 0x0C200000, dims := [(65536, 0x8)], rw := 0xFFE3FFFF }
  | .bpmMcgEg => { base := 0x0C200004, dims := [(65536, 0x8)], rw := 0xFFE3FFFF }
  | .bpmQcfg => { base := 0x0C400000, dims := [(1048576, 0x4)], st := 0x800000FF }
  | .bpmQstate => { base := 0x0C800000, dims := [(1048576, 0x4)] }
  | .bpmMclA => { base := 0x0CC00000, dims := [(262144, 0x8)], rw := 0x000FFFFF }
  | .bpmMclB => { base := 0x0CC00004, dims := [(262144, 0x8)], rw := 0x800FFFFF }
  | .mirSessA => { base := 0x14000010, dims := [(15, 0x10)], st := 0xFFEFFFFF }
  | .mirSessB => { base := 0x14000014, dims := [(15, 0x10)], st := 0xBFFFFFFF }
  | .mirSessC => { base := 0x14000018, dims := [(15, 0x10)], st := 0xFFF00FFF, rst := 0x00000040 }
  | .hbmCfg => { base := 0x0D000000, rw := 0xFFF00000, rst := 0x64A00000 }
  | .hbmLagCfg => { base := 0x0D000004, rw := 0x8FFFFFFF, rst := 0x84080400 }
  | .hbmEccCfg => { base := 0x0D000008, rw := 0x8000FFFF, rst := 0x800003E8 }
  | .hbmUeCap => { base := 0x0D00000C, w1c := 0x80000000 }
  | .hbmSpace => { base := 0x0D000010 }
  | .hbmHref => { base := 0x0D000014 }
  | .hbmStackCfg => { base := 0x0D000100, dims := [(4, 0x10)], rw := 0x80000000, w1c := 0x40000000, rst := 0x80000000 }
  | .hbmStackStatus => { base := 0x0D000104, dims := [(4, 0x10)] }
  | .hbmChCfg => { base := 0x0D001000, dims := [(64, 0x10)], rw := 0x000000FF, st := 0x80000000, wo := 0x40000000, rst := 0x80000030 }
  | .hbmChStatus => { base := 0x0D001004, dims := [(64, 0x10)] }
  | .hbmChLat => { base := 0x0D001008, dims := [(64, 0x10)] }
  | .schCfg => { base := 0x0E000000, rw := 0xF00000FF, rst := 0x40000000 }
  | .schQsplit => { base := 0x0E000004 }
  | .schStatus => { base := 0x0E000008, w1c := 0xC0000000 }
  | .schNsel => { base := 0x0E000010, rw := 0xE00FFFFF }
  | .schNMap => { base := 0x0E000020, st := 0xFFFFFFFF, rst := 0x00040000 }
  | .schNCir => { base := 0x0E000024, st := 0xFFFFFFFF }
  | .schNPir => { base := 0x0E000028, st := 0xFFFFFFFF }
  | .schNBurst => { base := 0x0E00002C, st := 0xFFFFFFFF, rst := 0x00400040 }
  | .schNCtok => { base := 0x0E000030 }
  | .schNPtok => { base := 0x0E000034 }
  | .schNQcfg => { base := 0x0E000038, st := 0xFFFFFFFF }
  | .schNQmax => { base := 0x0E00003C, rc := 0xFFFFFFFE, wo := 0x00000001 }
  | .schPortCfg => { base := 0x0E001000, dims := [(128, 0x10)], rw := 0x03FF00FF, rst := 0x00320000 }
  | .schPortStatus => { base := 0x0E001004, dims := [(128, 0x10)] }
  | .schPolA => { base := 0x0E200000, dims := [(65536, 0x10)], st := 0xFFFFFFFF }
  | .schPolB => { base := 0x0E200004, dims := [(65536, 0x10)], st := 0xFFFFFFFF }
  | .schPolC => { base := 0x0E200008, dims := [(65536, 0x10)], st := 0xFCFFFFFF, rst := 0x1C040040 }
  | .schQdelay => { base := 0x0E400000, dims := [(1048576, 0x4)] }
  | .schPolPage => { base := 0x0E00000C, rw := 0x0000003F }
  | .tgtTbNsLo => { base := 0x0F000000 }
  | .tgtTbNsHi => { base := 0x0F000004 }
  | .tgtTbFrac => { base := 0x0F000008 }
  | .tgtTbCtrl => { base := 0x0F000010, rw := 0x0FFF0000, rst := 0x00640000 }
  | .tgtTbRate => { base := 0x0F000014, rw := 0xFFFFFFFF }
  | .tgtTbOfsLo => { base := 0x0F000018, rw := 0xFFFFFFFF }
  | .tgtTbOfsHi => { base := 0x0F00001C, rw := 0xFFFFFFFF }
  | .tgtTbSetLo => { base := 0x0F000020, rw := 0xFFFFFFFF }
  | .tgtTbSetHi => { base := 0x0F000024, rw := 0xFFFFFFFF }
  | .tgtTbCmd => { base := 0x0F000028, wo := 0xE0000000 }
  | .tgtTbSlewLo => { base := 0x0F00002C }
  | .tgtTbSlewHi => { base := 0x0F000030 }
  | .tgtPpsCapLo => { base := 0x0F000040 }
  | .tgtPpsCapHi => { base := 0x0F000044 }
  | .tgtPpsCapFrac => { base := 0x0F000048, rc := 0x80000000 }
  | .tgtActAtLo => { base := 0x0F000050, rw := 0xFFFFFFFF }
  | .tgtActAtHi => { base := 0x0F000054, rw := 0xFFFFFFFF }
  | .tgtStatus => { base := 0x0F000058, w1c := 0xE0000000 }
  | .tgtGcfgA => { base := 0x0F010000, dims := [(128, 0x40)], st := 0xF0FF07FF, rst := 0x00FF0001 }
  | .tgtGcfgB => { base := 0x0F010004, dims := [(128, 0x40)], st := 0xFFFFFFFF, rst := 0x000F4240 }
  | .tgtGbaseLo => { base := 0x0F010008, dims := [(128, 0x40)], st := 0xFFFFFFFF }
  | .tgtGbaseHi => { base := 0x0F01000C, dims := [(128, 0x40)], st := 0xFFFFFFFF }
  | .tgtGspan => { base := 0x0F010010, dims := [(128, 0x40)], st := 0xFFFFFFFF, rst := 0x00000010 }
  | .tgtGstatus => { base := 0x0F010014, dims := [(128, 0x40)] }
  | .tgtGswitchLo => { base := 0x0F010018, dims := [(128, 0x40)] }
  | .tgtGswitchHi => { base := 0x0F01001C, dims := [(128, 0x40)] }
  | .tgtGmaxopen => { base := 0x0F010020, dims := [(128, 0x40), (8, 0x4)] }
  | .fabCfg => { base := 0x10000000, rw := 0x800000FF, st := 0x70000000 }
  | .fabRxTmr => { base := 0x10000004, rw := 0xFFFFC3FF, rst := 0x08114064 }
  | .fabTxTmr => { base := 0x10000008, rw := 0xFFFF003F, rst := 0x08820028 }
  | .fabLagCfg => { base := 0x1000000C, rw := 0x8FFFFFFF, rst := 0x84080040 }
  | .fabPlaneCfg => { base := 0x10000010, rw := 0x0000007F, rst := 0x00000030 }
  | .fabCmd => { base := 0x10000014, wo := 0xF8000000 }
  | .fabStatus => { base := 0x10000018 }
  | .fabFirkin => { base := 0x1000001C }
  | .fabFirkinMax => { base := 0x10000020, rc := 0x0003FFFF }
  | .fabClassCfg => { base := 0x10000024, st := 0x0000000F }
  | .fabCreditCfg => { base := 0x10000028, rw := 0xFFFFFFFF, rst := 0x1010000A }
  | .fabPeerEn => { base := 0x10000040, dims := [(8, 0x4)], rw := 0xFFFFFFFF }
  | .fabCrCfg => { base := 0x10001000, dims := [(128, 0x4)], rw := 0x83FFFFFF, rst := 0x80001000 }
  | .fabLaneCfg => { base := 0x10002000, dims := [(192, 0x8)], rw := 0xC0000000, wo := 0x20000000, rst := 0x40000000 }
  | .fabLaneStatus => { base := 0x10002004, dims := [(192, 0x8)] }
  | .fabTwinCfg => { base := 0x10003000, dims := [(16, 0x8)], rw := 0xE0000000, wo := 0x18000000 }
  | .fabTwinStatus => { base := 0x10003004, dims := [(16, 0x8)] }
  | .fabStrm => { base := 0x10004000, dims := [(256, 0x4)] }
  | .fabVoqA => { base := 0x10400000, dims := [(1048576, 0x8)], st := 0xFFFF8000 }
  | .fabVoqB => { base := 0x10400004, dims := [(1048576, 0x8)], st := 0x000FFFFF }
  | .devFatal => { base := 0x00000608 }
  | .devUnfence => { base := 0x00000600, wo := 0xBF00FFFF }
  | .devUnfenceStatus => { base := 0x00000604, w1c := 0x80000000 }
  | .recCfg => { base := 0x11000000, rw := 0x80FFFFFF, rst := 0x004003E8 }
  | .recCmd => { base := 0x11000004, wo := 0xC0000000 }
  | .recStatus => { base := 0x11000008 }
  | .recCycle => { base := 0x11000010 }
  | .recOpSec => { base := 0x11000014 }
  | .recBootSec => { base := 0x11000018 }
  | .recLogHead => { base := 0x11000020 }
  | .recRdIdx => { base := 0x11000024, rw := 0x001FFFFF }
  | .recHsel => { base := 0x11000030, rw := 0x00000007 }
  | .recRd => { base := 0x11000040, dims := [(16, 0x4)] }
  | .recHbin => { base := 0x11000080, dims := [(16, 0x4)] }
  | .recExtLife => { base := 0x110000C0 }
  | .recExtMinAt => { base := 0x110000C4 }
  | .recExtMaxAt => { base := 0x110000C8 }
  | .recExtBoot => { base := 0x110000CC }
  | .recExtNow => { base := 0x110000D0 }
  | .recOvrA => { base := 0x11000100, dims := [(64, 0x8)], rw := 0x8000FFFF }
  | .recOvrB => { base := 0x11000104, dims := [(64, 0x8)], rw := 0xFFFF00FF, rst := 0x03E80040 }
  | .pmcSetCfg => { base := 0x12000000, dims := [(8, 0x10)], rw := 0xBFFF07FF }
  | .pmcSetCmd => { base := 0x12000004, dims := [(8, 0x10)], wo := 0x80000000 }
  | .pmcSetStatus => { base := 0x12000008, dims := [(8, 0x10)], rc := 0x0000FFFF }
  | .pmcSuCfg => { base := 0x12000100, rw := 0x80003FFF, rst := 0x80000001 }
  | .pmcSuSeq => { base := 0x12000104 }
  | .pmcStatus => { base := 0x12000108, w1c := 0x80000000 }
  | .pmcSu => { base := 0x12000400, dims := [(9, 0x80), (2, 0x40), (16, 0x4)] }
  | .pmcEntry => { base := 0x12010000, dims := [(8, 0x1000), (1024, 0x4)], rw := 0xDFFFFFFC }
  | .updStatus => { base := 0x13000000, w1c := 0x08000000 }
  | .updSession => { base := 0x13000004 }
  | .updBytes => { base := 0x13000008 }
  | .updTotal => { base := 0x1300000C }
  | .updDigest => { base := 0x13000010, dims := [(12, 0x4)] }
  | .updCfg => { base := 0x13000040, rw := 0x8FFFFF00, rst := 0x81F40A00 }
  | .updConfirmCfg => { base := 0x13000050, rw := 0x0000FFFF, rst := 0x00000258 }
  | .updCmd => { base := 0x13000044, wo := 0xF8000000 }
  | .updArmAtLo => { base := 0x13000048 }
  | .updArmAtHi => { base := 0x1300004C }
  | .updFwStatus => { base := 0x13000060 }
  | .updFwVer => { base := 0x13000064, dims := [(2, 0x4)] }
  | .updRelay => { base := 0x13000070, rw := 0x0000003F, wo := 0x80000000 }
  | .pwrFeedA => { base := 0x01000000 }
  | .pwrFeedB => { base := 0x01000004 }
  | .pwrInput => { base := 0x01000008 }
  | .pwrInputPeak => { base := 0x0100000C, rc := 0x0000FFFF }
  | .pwrThermCfg => { base := 0x01000010, rw := 0x000000FF, rst := 0x00000096 }
  | .pwrThermF => { base := 0x01000014 }
  | .pwrThermQ => { base := 0x01000018 }
  | .pwrDomCmd => { base := 0x01000100, wo := 0xC000007F }
  | .pwrDomRej => { base := 0x01000104, w1c := 0x80000000 }
  | .pwrDomState => { base := 0x01000110, dims := [(6, 0x4)] }
  | .clkStatus => { base := 0x02000000 }
  | .clkLref => { base := 0x02000004 }
  | .clkRstCause => { base := 0x02000008, w1c := 0xE0000000, rst := 0x80000000 }
  | .clkBootTime => { base := 0x0200000C }
  | .devFurlongSeqLo => { base := 0x0000040C }
  | .devFurlongSeqHi => { base := 0x00000410 }
  | .pmcBankSeq => { base := 0x12100000, dims := [(8, 0x8000), (2, 0x4000)] }
  | .pmcBankNsLo => { base := 0x12100004, dims := [(8, 0x8000), (2, 0x4000)] }
  | .pmcBankNsHi => { base := 0x12100008, dims := [(8, 0x8000), (2, 0x4000)] }
  | .pmcBankZero => { base := 0x1210000C, dims := [(8, 0x8000), (2, 0x4000)] }
  | .pmcBankVal => { base := 0x12100010, dims := [(8, 0x8000), (2, 0x4000), (1024, 0x8)] }
  | .pmcBankExt => { base := 0x12100014, dims := [(8, 0x8000), (2, 0x4000), (1024, 0x8)] }
  | .pmcBankEnd => { base := 0x12103FFC, dims := [(8, 0x8000), (2, 0x4000)] }
  | .tgtGclW0 => { base := 0x0F200000, dims := [(128, 0x4000), (2, 0x2000), (1024, 0x8)] }
  | .tgtGclW1 => { base := 0x0F200004, dims := [(128, 0x4000), (2, 0x2000), (1024, 0x8)] }
  | .fltLive => { base := 0x00F00000, dims := [(21, 0x1000000)] }
  | .fltSticky => { base := 0x00F00004, dims := [(21, 0x1000000)], w1c := 0xFFFFFFFF }
  | .fltFirst => { base := 0x00F00008, dims := [(21, 0x1000000)], w1c := 0xC0000000 }
  | .fltMask => { base := 0x00F0000C, dims := [(21, 0x1000000)], rw := 0xFFFFFFFF }
  | .fltClass => { base := 0x00F00010, dims := [(21, 0x1000000)] }
  | .fltFence => { base := 0x00F00014, dims := [(21, 0x1000000)] }

/-- The registers of a block other than its fault registers. -/
def blockRegs : Nat → List Reg
  | 0x00 => [.devFurlongCfg, .devFurlongCommit, .devFurlongStatus, .devFurlongTarget, .devFurlongAtLo, .devFurlongAtHi,
      .devId, .devSerialLo, .devSerialHi, .devChainAddr, .devChainRing, .devLeaseOwner,
      .devLeaseTk, .devPktchCfg, .devPktchTotal, .devFatal, .devUnfence, .devUnfenceStatus,
      .devFurlongSeqLo, .devFurlongSeqHi]
  | 0x01 => [.pwrFeedA, .pwrFeedB, .pwrInput, .pwrInputPeak, .pwrThermCfg, .pwrThermF,
      .pwrThermQ, .pwrDomCmd, .pwrDomRej, .pwrDomState]
  | 0x02 => [.clkStatus, .clkLref, .clkRstCause, .clkBootTime]
  | 0x03 => [.imgStatus, .imgActiveId, .imgActiveVer, .imgActiveLayout, .imgActiveMeta, .imgRoleSrc,
      .imgTunInfo, .imgBootSel, .imgApply, .imgSliceLoad, .imgSliceState, .imgSliceRole,
      .imgSteer, .imgBarrierStatus, .imgBarrierMax, .imgKeyStatus, .imgKeyRevoke]
  | 0x04 => [.lpGrpMode, .lpTmrTrain, .lpTmrSync, .lpPortCfg, .lpPortStatus, .lpPtpAdj,
      .lpEgrLat, .lpTxtsHdr, .lpTxtsNs, .lpTxtsSub, .lpLaneStatus, .lpLaneTxeq,
      .lpSynceCfg]
  | 0x05 => [.otnCfg, .otnGid, .otnDegSm, .otnDegPm, .otnDefLive, .otnDefLatch,
      .otnAlign, .otnSmTtiRx, .otnPmTtiRx, .otnSmTtiExp, .otnPmTtiExp, .otnSmTtiTx,
      .otnPmTtiTx]
  | 0x06 => [.slcStatus, .slcCfg, .slcJrnlStatus, .slcJrnlMax, .slcHoldStatus, .slcPuntStatus,
      .slcParseCap, .slcProgDigest, .slcTrackStatus, .slcFailoverCfg, .slcFailoverStatus, .slcIntakeStatus,
      .slcIntakeMax]
  | 0x07 => [.tblRegion, .tblView, .tblCmdWin, .tblCmdStatus, .tblFailFifo, .tblReadback,
      .tblEmSeed, .tblEmRehash, .tblEmUse, .tblOvfUse, .tblRouteUse, .tblSigSel,
      .tblSigVal]
  | 0x08 => [.lrnCfg, .lrnAgeCfg, .lrnStatus, .lrnUse, .lrnHcmd, .lrnHkeyHi,
      .lrnHkeyLo, .lrnHdata, .lrnHresult, .lrnNotify, .lrnNotifyStatus, .lrnCopy]
  | 0x09 => [.tcmBank, .tcmTable, .tcmAlias, .tcmAliasStatus, .tcmCmdWin, .tcmCmdStatus,
      .tcmFailFifo, .tcmReadback, .tcmBulkStatus, .tcmOverlapFirst, .tcmOverlapFirst2, .tcmSuspectCfg]
  | 0x0A => [.xeCfg, .xeStatus, .xeLagCfg, .xeEngineFence, .xeClusterStatus, .xeEngineStatus,
      .xeClassA, .xeClassB, .xeClassC, .xeClassStatus]
  | 0x0B => [.ellBcfg, .ellBstatus, .ellLaneBadLo, .ellLaneBadHi, .ellLaneBadX, .ellDelay,
      .ellLaneAlign, .ellHome, .ellBodyCfg, .ellTimeSrc]
  | 0x0C => [.bpmSpillCfg, .bpmQcntPage, .bpmDfreeCap, .bpmStatus, .bpmPoolCfg, .bpmPoolFree,
      .bpmPoolMin, .bpmProfMax, .bpmProfMin, .bpmProfSpill, .bpmProfEd, .bpmMcgIng,
      .bpmMcgEg, .bpmQcfg, .bpmQstate, .bpmMclA, .bpmMclB]
  | 0x0D => [.hbmCfg, .hbmLagCfg, .hbmEccCfg, .hbmUeCap, .hbmSpace, .hbmHref,
      .hbmStackCfg, .hbmStackStatus, .hbmChCfg, .hbmChStatus, .hbmChLat]
  | 0x0E => [.schCfg, .schQsplit, .schStatus, .schNsel, .schNMap, .schNCir,
      .schNPir, .schNBurst, .schNCtok, .schNPtok, .schNQcfg, .schNQmax,
      .schPortCfg, .schPortStatus, .schPolA, .schPolB, .schPolC, .schQdelay,
      .schPolPage]
  | 0x0F => [.tgtTbNsLo, .tgtTbNsHi, .tgtTbFrac, .tgtTbCtrl, .tgtTbRate, .tgtTbOfsLo,
      .tgtTbOfsHi, .tgtTbSetLo, .tgtTbSetHi, .tgtTbCmd, .tgtTbSlewLo, .tgtTbSlewHi,
      .tgtPpsCapLo, .tgtPpsCapHi, .tgtPpsCapFrac, .tgtActAtLo, .tgtActAtHi, .tgtStatus,
      .tgtGcfgA, .tgtGcfgB, .tgtGbaseLo, .tgtGbaseHi, .tgtGspan, .tgtGstatus,
      .tgtGswitchLo, .tgtGswitchHi, .tgtGmaxopen, .tgtGclW0, .tgtGclW1]
  | 0x10 => [.fabCfg, .fabRxTmr, .fabTxTmr, .fabLagCfg, .fabPlaneCfg, .fabCmd,
      .fabStatus, .fabFirkin, .fabFirkinMax, .fabClassCfg, .fabCreditCfg, .fabPeerEn,
      .fabCrCfg, .fabLaneCfg, .fabLaneStatus, .fabTwinCfg, .fabTwinStatus, .fabStrm,
      .fabVoqA, .fabVoqB]
  | 0x11 => [.recCfg, .recCmd, .recStatus, .recCycle, .recOpSec, .recBootSec,
      .recLogHead, .recRdIdx, .recHsel, .recRd, .recHbin, .recExtLife,
      .recExtMinAt, .recExtMaxAt, .recExtBoot, .recExtNow, .recOvrA, .recOvrB]
  | 0x12 => [.pmcSetCfg, .pmcSetCmd, .pmcSetStatus, .pmcSuCfg, .pmcSuSeq, .pmcStatus,
      .pmcSu, .pmcEntry, .pmcBankSeq, .pmcBankNsLo, .pmcBankNsHi, .pmcBankZero,
      .pmcBankVal, .pmcBankExt, .pmcBankEnd]
  | 0x13 => [.updStatus, .updSession, .updBytes, .updTotal, .updDigest, .updCfg,
      .updConfirmCfg, .updCmd, .updArmAtLo, .updArmAtHi, .updFwStatus, .updFwVer,
      .updRelay]
  | 0x14 => [.mirSessA, .mirSessB, .mirSessC]
  | _ => []

/-- The fault registers of every block (Table 0.5). -/
def fltRegs : List Reg := [.fltLive, .fltSticky, .fltFirst, .fltMask, .fltClass, .fltFence]

/-- Split an offset into the indices of a row; none where it names no register of the row. -/
def splitDims : List (Nat × Nat) → Nat → Option (List Nat)
  | [], off => if off = 0 then some [] else none
  | (count, stride) :: rest, off =>
    if off / stride < count then (splitDims rest (off % stride)).map (fun l => off / stride :: l) else none

/-- The offset of the indices of a row. -/
def joinDims : List (Nat × Nat) → List Nat → Nat
  | (_, stride) :: rest, i :: is => i * stride + joinDims rest is
  | _, _ => 0

/-- The address of a register with its indices. -/
def Reg.addr (r : Reg) (idx : List Nat) : Nat := r.info.base + joinDims r.info.dims idx

/-- Does the row answer at the address, and with which indices? -/
def Reg.at (r : Reg) (a : Nat) : Option (List Nat) :=
  if r.info.base ≤ a then splitDims r.info.dims (a - r.info.base) else none

/-- The first row of a list that answers at the address. -/
def regIn : List Reg → Nat → Option (Reg × List Nat)
  | [], _ => none
  | r :: rest, a => match r.at a with
    | some idx => some (r, idx)
    | none => regIn rest a

/-- The register at an address (R8, R10, R12); none where the manual defines none. -/
def regAt (a : Nat) : Option (Reg × List Nat) :=
  if 0xF00000 ≤ a % 0x1000000 then regIn fltRegs a else regIn (blockRegs (a / 0x1000000)) a

/-- The value the register's own bits hold after RESET_N is released (R15). TCM_ALIAS_a holds a (Table 8.8). -/
def Reg.reset (r : Reg) (idx : List Nat) : Word :=
  match r, idx with
  | .tcmAlias, [a] => BitVec.ofNat 32 a
  | r, _ => BitVec.ofNat 32 r.info.rst

end Sys2Proof.Machine
end

