-- ==== Sys2Proof/Machine/State/Common.lean ====
section
/-! DEFINITION. State shared by all blocks: counters, token buckets, the fault registers, the furlong controller,
the event recorder, the performance counter block and the time base. -/

namespace Sys2Proof.Machine

/-- A 48-bit counter with its OVF flag (R22, R24). -/
structure Ctr where
  /-- Count bits [47:0]. -/
  cnt : BitVec 48 := 0
  /-- OVF, set by a wrap, cleared only by a write of 1. -/
  ovf : Bool := false
deriving DecidableEq, Repr

/-- A token bucket kept lazily: its level at an instant. The unit of the level is the user's. -/
structure Bucket where
  /-- Level at the instant `at'`. -/
  lvl : Nat := 0
  /-- The instant (ns of `now`) at which the level was last brought up to date. -/
  at' : Nat := 0
deriving DecidableEq, Repr

/-- The fault registers of one block (Tables 16.1 and 16.2); FLT_CLASS and FLT_FENCE follow from them and from the fences. -/
structure FltRegs where
  /-- FLT_LIVE. -/
  live : Word := 0
  /-- FLT_STICKY. -/
  sticky : Word := 0
  /-- FLT_FIRST.VALID. -/
  valid : Bool := false
  /-- FLT_FIRST.OVF. -/
  ovf : Bool := false
  /-- FLT_FIRST.CLASS. -/
  cls : Nat := 0
  /-- FLT_FIRST.SOURCE. -/
  src : Nat := 0
  /-- FLT_FIRST.INSTANCE. -/
  inst : Nat := 0
  /-- The instant at which FLT_FIRST took its source (R458). -/
  latchAt : Nat := 0
  /-- The instant of the last rise of a source that is not masked. -/
  riseAt : Nat := 0
  /-- The rises of that instant: class, source, unit (R458). -/
  rises : List (Nat × Nat × Nat) := []
deriving DecidableEq, Repr

/-- The fault state of the device (chapter Fault Handling and Fencing). -/
structure FltSt where
  /-- Fault registers by block code. -/
  blk : SMap FltRegs := {}
  /-- For a kind S source, the units that hold its condition, by (block × 32 + bit) × 2^16 + unit (R455). -/
  held : SMap Bool := {}
  /-- For a kind O source, the instant 1 ms after its last occurrence, by block × 32 + bit (R455). -/
  occUntil : SMap Nat := {}
  /-- Fenced units by block × 2^16 + unit (R463, Table 16.6). -/
  fenced : SMap Bool := {}
  /-- DEV_FATAL.FATAL: the device is in the fatal state (R462). -/
  fatal : Bool := false
  /-- A class F source that is not masked has risen, so FATAL_N is asserted (R462). -/
  pin : Bool := false
  /-- DEV_FATAL BLOCK, SOURCE, INSTANCE: the first class F source to rise. -/
  firstF : Option (Nat × Nat × Nat) := none
  /-- DEV_UNFENCE_STATUS.REASON. -/
  unfReason : Nat := 0
  /-- DEV_UNFENCE_STATUS.BLOCK. -/
  unfBlock : Nat := 0
  /-- DEV_UNFENCE_STATUS.UNIT. -/
  unfUnit : Nat := 0
deriving DecidableEq, Repr

/-- The furlong controller (R37 to R50, R559). -/
structure FurSt where
  /-- DEV_FURLONG_SEQ: boundaries generated since reset (R38). -/
  seq : Nat := 0
  /-- Time-base nanoseconds of the next boundary (R37). -/
  nextB : Nat := 1048576
  /-- DIRECT: boot direct mode (R50). -/
  direct : Bool := true
  /-- A GO has been taken and its sealing has not completed; `some t` holds the scheduled time of a GO with AT. -/
  sealing : Option (Option Nat) := none
  /-- PENDING: a sealed set waits for its boundary. -/
  pend : Bool := false
  /-- ARMED. -/
  armed : Bool := false
  /-- The scheduled time of the sealed set, for a GO with AT (R47). -/
  sched : Option Nat := none
  /-- The time of the boundary that the set is armed for, which every ST domain has been sent (R43, R559). -/
  armB : Nat := 0
  /-- The time has moved while the set is armed: it applies at the next boundary generated (R559). -/
  moved : Bool := false
  /-- DEV_FURLONG_TARGET. -/
  target : Nat := 0
  /-- Open values by register address (or node key), R41, R44. -/
  opn : SMap Word := {}
  /-- Sealed values by register address (or node key). -/
  sld : SMap Word := {}
  /-- Domains that lost open values since the last seal, each as block × 1,024 + switched domain + 1 (R49). -/
  lostOpn : List Nat := []
  /-- Domains whose values the sealed set has lost, coded alike (R48, R49). -/
  lostSld : List Nat := []
  /-- The set now sealed or sealing belongs to the apply sequencer (R121). -/
  byApply : Bool := false
  /-- The set now sealed or sealing holds the failover value (R194). -/
  byFail : Bool := false
deriving DecidableEq, Repr

/-- A report waiting in the report queue (R468, R472). -/
structure Report where
  /-- Event code (R4). -/
  code : Nat
  /-- Class 0 information, 1 C, 2 U, 3 F. -/
  cls : Nat
  /-- LOST (R468). -/
  lost : Bool
  /-- FOLDED (R468). -/
  folded : Nat
  /-- INSTANCE. -/
  inst : Nat
  /-- DATA word 4. -/
  d4 : Word
  /-- DATA word 5. -/
  d5 : Word
  /-- Time-base nanoseconds of the occurrence or the flush. -/
  ns : Nat
  /-- Time-base fraction. -/
  frac : Nat
  /-- TV: a copy of TIME_VALID (R474). -/
  tv : Bool
  /-- A flush report (R469). -/
  flush : Bool
deriving DecidableEq, Repr

/-- What a block keeps for one event code (R466, R467). -/
structure CodeSt where
  /-- PEND, the occurrences not yet reported. -/
  pend : Nat := 0
  /-- SAT. -/
  sat : Bool := false
  /-- INSTANCE, DATA and class of the last folded occurrence (R469). -/
  last : Option (Nat × Word × Word × Nat) := none
deriving DecidableEq, Repr

/-- Lifetime extremes of one quantity (R476). -/
structure Extremes where
  /-- Lifetime minimum and maximum, none before the first sample. -/
  life : Option (Int × Int) := none
  /-- OP_SEC at which the lifetime minimum was first reached. -/
  minAt : Nat := 0
  /-- OP_SEC at which the lifetime maximum was first reached. -/
  maxAt : Nat := 0
  /-- Minimum and maximum since the last power-up. -/
  boot : Option (Int × Int) := none
  /-- The last sample. -/
  now' : Int := 0
  /-- The sample being gathered over this second: maximum so far, or sum and count for a mean. -/
  acc : Option (Int × Nat) := none
deriving DecidableEq, Repr

/-- A record waiting for flash: its words and whether it goes to the life ring (R477, R481). -/
structure FlashRec where
  /-- All words of the record, CRC and MARK included. -/
  words : List Word
  /-- True for the life ring. -/
  life : Bool
deriving DecidableEq, Repr

/-- The event recorder (chapter Event Recorder and Performance Counters). -/
structure RecSt where
  /-- PEND and SAT by event code. -/
  codes : SMap CodeSt := {}
  /-- Report buckets by event code, in 10^-9 of a report; a code that is not listed has `dfltB`. -/
  buckets : SMap Bucket := {}
  /-- The bucket of every code that is not listed. -/
  dfltB : Bucket := { lvl := 64000000000 }
  /-- The report queue, oldest first, at most 256 (R472). -/
  queue : List Report := []
  /-- Flush reports that wait for a free queue entry (R469). -/
  flushWait : List Report := []
  /-- Codes of the flush that is running, when one runs (R469). -/
  flushing : Option Nat := none
  /-- OP_SEC (R473). -/
  opSec : Nat := 0
  /-- OP_SEC at the last power-up (REC_BOOT_SEC). -/
  bootSec : Nat := 0
  /-- CYCLE (R473). -/
  cycle : Nat := 0
  /-- The instant (ns of `now`) of the next whole second of OP_SEC. -/
  nextSec : Nat := 1000000000
  /-- Life bins by 16 × Q + bin, unsaved seconds included (R475). -/
  bins : SMap Nat := {}
  /-- Extremes by quantity. -/
  ext : SMap Extremes := {}
  /-- SAVE_SEQ of the last life record. -/
  saveSeq : Nat := 0
  /-- Records waiting for flash, at most 1,024 (R481). -/
  flashq : List FlashRec := []
  /-- Next slot of the event log. -/
  head : Nat := 0
  /-- The log has wrapped at least once. -/
  wrapped : Bool := false
  /-- Next record of the life ring, 0 to 1,023. -/
  lifeHead : Nat := 0
  /-- REC_STATUS.FLASH_OK. -/
  flashOk : Bool := false
  /-- The slot of which a read is running. -/
  reading : Option Nat := none
  /-- REC_RD_IDX.READY. -/
  rdReady : Bool := false
  /-- REC_RD_IDX.VALID. -/
  rdValid : Bool := false
  /-- REC_RD_w. -/
  rdWords : List Word := []
deriving DecidableEq, Repr

/-- One captured entry of a bank (R486, R488): VALID, OVF and the 48-bit value. -/
structure CapVal where
  /-- VALID. -/
  valid : Bool := false
  /-- OVF. -/
  ovf : Bool := false
  /-- The value. -/
  val : BitVec 48 := 0
deriving DecidableEq, Repr

/-- One bank of a snapshot set (R488). -/
structure Bank where
  /-- SEQ. -/
  seq : Word := 0
  /-- SEQ_END, written last. -/
  seqEnd : Word := 0
  /-- The boundary's time-base nanoseconds. -/
  ns : Nat := 0
  /-- Captured entries by entry number. -/
  vals : SMap CapVal := {}
deriving DecidableEq, Repr

/-- One snapshot set (R484 to R488). -/
structure SnapSet where
  /-- A GO waits for the first boundary from this instant (ns of `now`) on (R485). -/
  go : Option Nat := none
  /-- A capture that is being copied: its bank contents. -/
  copying : Option Bank := none
  /-- BANK: the bank of the last completed capture. -/
  bank : Bool := false
  /-- A capture has completed since reset. -/
  any : Bool := false
  /-- Bank 0. -/
  bank0 : Bank := {}
  /-- Bank 1. -/
  bank1 : Bank := {}
deriving DecidableEq, Repr

/-- The PMC block. -/
structure PmcSt where
  /-- Snapshot sets 0 to 7. -/
  sets : SMap SnapSet := {}
  /-- PMC_SU_SEQ. -/
  suSeq : Word := 0
  /-- PMC_SU_s_d_f by (s × 2 + d) × 16 + f. -/
  su : SMap Nat := {}
  /-- The slot counters at the previous slot-use capture, by counter address, and its time (R489). -/
  suPrev : Option (Nat × SMap Nat) := none
deriving DecidableEq, Repr

/-- A time command that waits for its instant T or for an armed set (R399). -/
structure TbCmd where
  /-- OP of Table 14.1. -/
  op : Nat
  /-- TGT_TB_OFS when the command was taken, signed, in 2^-16 ns. -/
  ofs : Int
  /-- TGT_TB_SET when the command was taken. -/
  set : Nat
  /-- The instant T (ns of `now`); none while the command waits for an armed set to apply. -/
  at' : Option Nat
deriving DecidableEq, Repr

/-- The gates of one line port (R404 to R413). -/
structure GateSt where
  /-- The operational list: memory, LEN, CYCLE, BASE; none where no list is operational. -/
  oper : Option (Nat × Nat × Nat × Nat) := none
  /-- The pending switch: S (time-base ns) and the new list's memory, LEN, CYCLE, BASE. -/
  pend : Option (Nat × Nat × Nat × Nat × Nat) := none
  /-- TGT_GSWITCH: S of the last or pending switch. -/
  lastS : Nat := 0
  /-- Present entry of the operational list. -/
  entry : Nat := 0
  /-- MAXOPEN by gate (R412); an unlisted gate reads 0xFFFF_FFFF. -/
  maxOpen : SMap Nat := {}
deriving DecidableEq, Repr

/-- The time base and the time gates. One unit of time-base time is 2^-40 / 15,625 ns, so that RATE and SLEW_PPM are exact. -/
structure TgtSt where
  /-- The time base, in units. -/
  tb : Nat := 0
  /-- TIME_VALID (R396). -/
  valid : Bool := false
  /-- The slew remainder in units, signed (R400). -/
  slew : Int := 0
  /-- The slew remainder has reached 0 by running out, and its completion has not been reported (R400). -/
  slewEnd : Bool := false
  /-- REF_OK: the 10 MHz input is locked (R397). -/
  refOk : Bool := false
  /-- The instant from which the 10 ms of valid input is counted: the change of SRC to 1, or the loss (R397). -/
  refSince : Option Nat := none
  /-- PPS_OK (R401). -/
  ppsOk : Bool := false
  /-- The instant of the last 1PPS edge. -/
  ppsAt : Option Nat := none
  /-- A waiting SET_AT_PPS: the set value and the instant it was taken (PPS_WAIT). -/
  ppsWait : Option (Nat × Nat) := none
  /-- TGT_PPS_CAP in units. -/
  ppsCap : Nat := 0
  /-- Time commands taken and not yet applied, in order. -/
  cmds : List TbCmd := []
  /-- Gate state by port. -/
  gates : SMap GateSt := {}
  /-- List entries by (port × 2 + list) × 1,024 + entry: STATES and INTERVAL. -/
  lists : SMap (Nat × Nat) := {}
  /-- The time-transfer path: 0 bundle 0, 1 bundle 8, 2 sideband, 3 none (R286). -/
  ttPath : Nat := 0
deriving DecidableEq, Repr

end Sys2Proof.Machine
end

