-- ==== Sys2Proof/Machine/State/Chain.lean ====
section
/-! DEFINITION. The state of the chain node (chapter The Githar Chain), and of power, clocks, boot and JTAG. -/

namespace Sys2Proof.Machine

/-- States of a chain side (Table 2.9). -/
inductive SideState where
  | down | stable | join | up
deriving DecidableEq, Repr

/-- One side of the node: west (WA, WB) or east (EA, EB). -/
structure Side where
  /-- State (Table 2.9). -/
  st : SideState := .down
  /-- The wrap of this side is in place: frames that would leave by it leave by the other side (R82). -/
  wrapped : Bool := true
  /-- The instant from which both ports have qualified without a break (DOWN to STABLE). -/
  since : Option Nat := none
  /-- The instant JOIN was entered. -/
  joinAt : Nat := 0
  /-- The neighbour's serial by its link status, of the ring port and of the counter port. -/
  ser : SMap Nat := {}
  /-- The instant of the last valid link status on each of the two ports, by port number. -/
  lsAt : SMap Nat := {}
  /-- Node ID last seen on this side. -/
  node : Nat := 0
deriving DecidableEq, Repr

/-- States of a device's lease record (Table 2.12). -/
inductive LeaseState where
  | none | live | handover
deriving DecidableEq, Repr

/-- A role under lease (R89). -/
structure Lease where
  /-- State. -/
  st : LeaseState := .none
  /-- Holder slot; the last holder in NONE. -/
  slot : Nat := 0
  /-- Holder priority. -/
  prio : Nat := 0
  /-- Holder serial. -/
  serial : Nat := 0
  /-- Current or last recorded epoch. -/
  epoch : Nat := 0
  /-- An epoch has been recorded since reset. -/
  recorded : Bool := false
  /-- The successor named by YIELD. -/
  succ : Nat := 0
  /-- The instant the 250 ms timer expires. -/
  deadline : Nat := 0
deriving DecidableEq, Repr

/-- The filter state of a broadcast source (R63). -/
structure BcastSt where
  /-- The last TAG accepted. -/
  tag : Nat
  /-- The instant it lapses. -/
  until' : Nat
deriving DecidableEq, Repr

/-- A reply kept for retries (R73). -/
structure Reply where
  /-- TAG, TYPE, ADDR, OP and LEN of the request. -/
  key : Nat × Nat × Nat × Nat × Nat
  /-- The response. -/
  resp : ChainFrame
deriving DecidableEq, Repr

/-- A packet being reassembled from TYPE 0x6 fragments (R79). -/
structure Inject where
  /-- Source slot and packet number. -/
  slot : Nat
  pktId : Nat
  /-- The next fragment number. -/
  nextFrag : Nat
  /-- TOTAL. -/
  total : Nat
  /-- The packet's ticket. -/
  ticket : Ticket
  /-- Bytes so far. -/
  bytes : List Byte
  /-- 1 ms after the first fragment. -/
  deadline : Nat
  /-- Every fragment has arrived: the packet waits only for the Ell. -/
  full : Bool := false
deriving DecidableEq, Repr

/-- A queue of frames of one class at one output port: transit frames and local frames (R66). -/
structure TxQ where
  /-- Transit frames, oldest first. -/
  transit : List ChainFrame := []
  /-- Frames the node originates, oldest first. -/
  localQ : List ChainFrame := []
  /-- Transit frames sent in a row while a local frame waited. -/
  run : Nat := 0
deriving DecidableEq, Repr

/-- What names the device on the chain and who may command it. -/
structure SelfSt where
  /-- DEV_CHAIN_ADDR; 0 none (R58). -/
  addr : Nat := 0
  /-- The owner lease (R89). -/
  owner : Lease := {}
  /-- The timekeeper lease (R89). -/
  tk : Lease := {}
deriving DecidableEq, Repr

/-- The transmitter of a chain port (R55). -/
structure ChainLine where
  /-- Scrambler. -/
  scr : Nat := 0
  /-- Blocks dealt. -/
  n : Nat := 0
  /-- The blocks of the last frame, each with its lane. -/
  blocks : List (Nat × LineBlock) := []
deriving DecidableEq, Repr

/-- The chain ports and queues. Ports: 0 WA, 1 EA, 2 WB, 3 EB. -/
structure ChainSt where
  /-- What the transmitter of a port holds and sends last (R55). -/
  line : SMap ChainLine := {}
  /-- Block lock by port (DEV_CHAIN_RING.LOCK). -/
  lock : SMap Bool := {}
  /-- The west side. -/
  west : Side := {}
  /-- The east side. -/
  east : Side := {}
  /-- Filter state by source ID. -/
  bcast : SMap BcastSt := {}
  /-- The TAG of the next broadcast (R65). -/
  nextTag : Nat := 0
  /-- The instant from which broadcasts may be sent under the present ID (R65). -/
  holdUntil : Nat := 10000000
  /-- The earliest instant of the next ring state frame (R83). -/
  ringStateAt : Nat := 0
  /-- A change of side state waits for its ring state frame. -/
  ringStateDue : Bool := false
  /-- The ring order of the last RING frame: node ID and serial of each record, and the node ID of the owner (R85). -/
  ring : Option (Nat × List (Nat × Nat)) := none
  /-- Output queues by port × 3 + class (0 control, 1 transaction, 2 packet channel). -/
  txq : SMap TxQ := {}
  /-- Requests waiting to be carried out, with the port each arrived on, oldest first, at most 128 (R72). -/
  reqs : List (Nat × ChainFrame) := []
  /-- A response that waits for a sealing or a time command to complete: the port its request arrived on, request and response
  (R41, R399). -/
  heldResp : Option (Nat × ChainFrame × ChainFrame) := none
  /-- The reply cache by adapter slot, oldest first, at most 32 each (R73). -/
  replies : SMap (List Reply) := {}
  /-- Bucket of packet channel queue n, in 1/800 byte. -/
  pktB : SMap Bucket := {}
  /-- Bucket of the device total, in 1/800 byte. -/
  totB : Bucket := { lvl := 256 * 1024 * 800 }
  /-- The next PKT_ID. -/
  pktId : Nat := 0
  /-- Packets being reassembled (R79). -/
  injects : List Inject := []
  /-- The last frame sent at each port. -/
  sent : SMap ChainFrame := {}
  /-- The last link status frame sent at each port (R80). -/
  sentLs : SMap ChainFrame := {}
  /-- The earliest instant of the next link status frames (R80). -/
  lsDue : Nat := 0
deriving DecidableEq, Repr

/-- States of a feed (Table 19.1), coded as PWR_FEED_x.STATE. -/
inductive FeedState where
  | lost | present | isolated | qualifying
deriving DecidableEq, Repr

/-- One feed's input stage. -/
structure Feed where
  /-- State (Table 19.1). -/
  st : FeedState := .present
  /-- In QUALIFYING, the instant from which the feed has been in range; none while it is not. -/
  since : Option Nat := none
  /-- FEED_x_LOST stands for this feed. -/
  lostF : Bool := false
  /-- FEED_RANGE stands for this feed. -/
  rangeF : Bool := false
  /-- CARRY. -/
  carry : Bool := false
  /-- CURRENT, 0.1 A. -/
  cur : Nat := 0
  /-- VOLTAGE, mV. -/
  volt : Nat := 0
deriving DecidableEq, Repr

/-- States of a switched domain, coded as PWR_DOM_STATE. -/
inductive DomState where
  | off | on | switching | tripped
deriving DecidableEq, Repr

/-- A switched power domain. -/
structure Dom where
  /-- State. -/
  st : DomState := .on
  /-- While SWITCHING: the target, true on. -/
  toOn : Bool := false
  /-- A switch off waits until an armed set has applied (R528). -/
  waitSet : Bool := false
deriving DecidableEq, Repr

/-- Steps of the boot of Table 19.7 that have completed. -/
structure BootSt where
  /-- RESET_N is low, or brown-out reset holds. -/
  held : Bool := false
  /-- t0. -/
  t0 : Nat := 0
  /-- SYSREF counts as present and the island runs on it (R533). -/
  sysref : Bool := false
  /-- The main rails are up and the main PLLs locked. -/
  rails : Bool := false
  /-- The firmware slot that runs; none before a slot is verified. -/
  fw : Option Nat := none
  /-- The running firmware reported ready. -/
  fwReady : Bool := false
  /-- Shared SRAM, associative search and buffer state are cleared. -/
  cleared : Bool := false
  /-- The boot Tun that passed its checks. -/
  tun : Option Nat := none
  /-- Every boot section is written. -/
  done : Bool := false
  /-- The RESET_N pin is low since this instant. -/
  lowSince : Option Nat := none
deriving DecidableEq, Repr

/-- Power, clocks and reset. -/
structure PwrSt where
  /-- Feed A. -/
  feedA : Feed := {}
  /-- Feed B. -/
  feedB : Feed := {}
  /-- A feed has been PRESENT since the island came up (R519). -/
  everPresent : Bool := true
  /-- The instant from which no feed has been PRESENT. -/
  noFeed : Option Nat := none
  /-- Brown-out reset holds the device. -/
  brown : Bool := false
  /-- In brown-out reset: the instant a feed returned to PRESENT. -/
  feedBack : Option Nat := none
  /-- PWR_INPUT.POWER, 0.1 W. -/
  power : Nat := 0
  /-- Hottest F-die reading (1/16 °C, signed) and its sensor. -/
  thermF : Int × Nat := (0, 0)
  /-- Hottest Q-die reading and its sensor. -/
  thermQ : Int × Nat := (0, 0)
  /-- The instant from which the hottest reading has been above HI_C (while THERM_HI is down) or at or below HI_C − 3 (while it stands). -/
  hiSince : Option Nat := none
  /-- The instant from which the hottest reading has been at or above 160 °C. -/
  critSince : Option Nat := none
  /-- The instants from which the feeds and the temperatures are sampled next: every 100 µs (R521, R530). -/
  powerDue : Nat := 0
  thermDue : Nat := 0
  /-- Domains 0 to 95. -/
  doms : SMap Dom := {}
  /-- Switch requests of the host that wait while 32 domains ramp: domain and on, oldest first (R527). -/
  rampq : List (Nat × Bool) := []
  /-- PWR_DOM_REJ.REASON. -/
  rejReason : Nat := 0
  /-- PWR_DOM_REJ.DOMAIN. -/
  rejDom : Nat := 0
  /-- HBM PLL lock by stack. -/
  hbmLock : SMap Bool := {}
  /-- FREF_k is lost (R534). -/
  frefGone : SMap Bool := {}
  /-- LREF_g is lost. -/
  lrefGone : SMap Bool := {}
  /-- Line core PLL of group g locked. -/
  lpll : SMap Bool := {}
  /-- fclk PLL locked. -/
  fclk : Bool := false
  /-- qclk PLL locked. -/
  qclk : Bool := false
  /-- CLK_BOOT_TIME.MS. -/
  bootMs : Nat := 0
  /-- PROFILE_SEL pins. -/
  profPins : Nat := 0
  /-- PROFILE_SEL sampled at the last release of RESET_N. -/
  profSampled : Nat := 0
  /-- The boot. -/
  boot : BootSt := {}
deriving DecidableEq, Repr

/-- JTAG instructions (R551). -/
inductive JtagInstr where
  | bypass | idcode | samplePreload | extest
deriving DecidableEq, Repr

/-- The test access port (R551, R552). -/
structure JtagSt where
  /-- TRST_N is low, and the TAP is in its reset state. -/
  trst : Bool := false
  /-- The instruction in effect. -/
  instr : JtagInstr := .idcode
  /-- What the selected data register captured, in the order in which it shifts out. -/
  dr : List Bool := []
  /-- The boundary register's update latches, by cell. -/
  bsr : List Bool := []
deriving DecidableEq, Repr

end Sys2Proof.Machine
end

