-- ==== Sys2Proof/Machine/State/Ell.lean ====
section
/-! DEFINITION. The state of the Ell seam. Bundle direction d × 16 + b: direction 0 leads from the F-die to the Q-die. -/

namespace Sys2Proof.Machine

/-- A segment (Table 10.2). -/
inductive Seg where
  /-- Ticket and output head; the body tag, none for LAST = 1. -/
  | head (g : Nat) (tkt : Ticket) (bytes : List Byte) (tag : Option Nat)
  /-- Group, tag, length of the whole body, bytes, LAST. -/
  | body (g tag total : Nat) (bytes : List Byte) (last : Bool)
  /-- An admission report: slice, outcome, JRNL. -/
  | admitPtr (slice outcome jrnl : Nat)
  | release (tag : Nat)
  /-- The marker or its echo for a slice, with the port group. -/
  | fence (g slice : Nat)
  /-- An egress barrier token. -/
  | barrier (g slice : Nat)
  | carry (g : Nat)
  /-- Body tags and bytes granted. -/
  | credit (g : Nat) (tags : List Nat) (bytes : Nat)
  /-- A segment of a reserved TYPE, 9 to 15 (R285). -/
  | other (ty g : Nat) (bytes : List Byte)
deriving DecidableEq, Repr

/-- The CONTROL field of a flit (Table 10.1): one of these. -/
inductive FlitCtl where
  | none
  | time (ns frac : Nat)
  | sleep (v : Nat)
deriving DecidableEq, Repr

/-- A flit (Table 10.1). -/
structure Flit where
  /-- DATA flits: SEQ and segments; none for a CONTROL flit. -/
  data : Option (Nat × List Seg)
  /-- The bundle direction whose SEQ it carries (R302). -/
  orig : Nat
  /-- ACK and NAK. -/
  ack : Nat
  nak : Bool
  /-- SWAP_OP, SWAP_LANE, and the physical lane that takes its bytes (SWAP_SPARE). -/
  swapOp : Nat
  lane : Nat
  spare : Nat
  /-- CONTROL: none, a time word (nanoseconds [39:0] and fraction), or a sleep notice. -/
  ctl : FlitCtl := .none
  /-- A TRAIN flit (R297). -/
  train : Bool := false
deriving DecidableEq, Repr

/-- States of a bundle direction (Table 10.3), in the order of their codes. -/
inductive BState where
  | down | train | up | retrain | doze | off | wake | fenced
deriving DecidableEq, Repr

/-- A bundle direction. -/
structure Bundle where
  /-- STATE. -/
  st : BState := .down
  /-- The instant the state was entered. -/
  since : Nat := 0
  /-- Segments queued at the transmitter. -/
  segq : List Seg := []
  /-- Segments that the full queue holds back at their sources, in order (R291). -/
  held : List Seg := []
  /-- The next SEQ. -/
  seq : Nat := 0
  /-- The retry buffer: SEQ, segments and how often it was replayed, oldest first, at most 32. -/
  retry : List (Nat × List Seg × Nat) := []
  /-- Flits of the retry buffer still to be sent again: the SEQ from which a replay stands. -/
  replay : Option Nat := none
  /-- Flits on the way, oldest first. -/
  wire : List Flit := []
  /-- Receiver: NEXT_SEQ. -/
  next : Nat := 0
  /-- Receiver: a NAK stands, and is repeated at this instant. -/
  nakAt : Option Nat := none
  /-- Receiver: a NAK is due in the next reverse flit. -/
  nakDue : Bool := false
  /-- Receiver: swap requests due in the next reverse flits, one each: logical lane, physical lane that takes its bytes (R284, R300). -/
  swapReq : List (Nat × Nat) := []
  /-- Transmitter: swaps to make in the next flits, one each. -/
  swapDo : List (Nat × Nat) := []
  /-- Physical lane of each logical lane that is not on its own (R300). -/
  moved : SMap Nat := {}
  /-- Bad physical lanes, bits 0 to 65; bit 66 the clock lane. -/
  bad : Nat := 0
  /-- Parity errors by physical lane within the present 1 µs: count and the instant it began. -/
  par : SMap (Nat × Nat) := {}
  /-- CLK_OK. -/
  clk : Bool := false
  /-- Alignment results are stored (R298). -/
  stored : Bool := false
  /-- Flits sent, counted for the time word (R286). -/
  sent : Nat := 0
  /-- The instant of the next flit. -/
  nextAt : Nat := 0
  /-- The traffic of this bundle goes by the partner (R302, R304, R308). -/
  carried : Bool := false
  /-- The partner sends a flit of this bundle next (round robin, R302). -/
  turn : Bool := false
  /-- Receiver: segments of the home bundle are held until the CARRY segment (R304): held flits' segments. -/
  holding : Option (List (List Seg)) := none
  /-- A sleep notice is due. -/
  notice : Option Nat := none
deriving DecidableEq, Repr

/-- A body that waits on the Q-die. -/
structure BodyWait where
  /-- Bytes so far. -/
  bytes : List Byte := []
  /-- Its last segment has arrived. -/
  full : Bool := false
  /-- The buffer: pool × 2^20 + index and generation; none where none was had (R314). -/
  buf : Option (Nat × Nat) := none
  /-- Arrival of its first segment. -/
  at' : Nat := 0
deriving DecidableEq, Repr

/-- An ingress body on the Q-die, by its tag without the generation (R287, R289). -/
structure IngBody where
  /-- Generation of the tag. -/
  gen : Nat := 0
  /-- The body that waits under the tag. -/
  wait : Option BodyWait := none
  /-- Body bytes granted with the tag and still charged. -/
  charged : Nat := 0
deriving DecidableEq, Repr

/-- Body credit of a port group in one direction. -/
structure BodyCredit where
  /-- Tags the sender holds. -/
  tags : List Nat := []
  /-- Bytes the sender may still send. -/
  bytes : Nat := 0
  /-- Tags never granted so far start at this index. -/
  fresh : Nat := 0
  /-- Freed tags to be granted again. -/
  freed : List Nat := []
  /-- Bytes granted or in use. -/
  used : Nat := 0
deriving DecidableEq, Repr

/-- The seam. -/
structure EllSt where
  /-- Bundle directions d × 16 + b. -/
  b : SMap Bundle := {}
  /-- Ingress bodies by group × 2^14 + index. -/
  body : SMap IngBody := {}
  /-- Body credit by direction × 16 + group. -/
  credit : SMap BodyCredit := {}
deriving DecidableEq, Repr

end Sys2Proof.Machine
end

