-- ==== Sys2Proof/Machine/State/Img.lean ====
section
/-! DEFINITION. The state of images and Tuns (IMG) and of updates (UPD). -/

namespace Sys2Proof.Machine

/-- The result of the last check of a Tun (IMG_TUN_INFO_n). -/
structure TunInfo where
  /-- VALID. -/
  valid : Bool := false
  /-- REASON. -/
  reason : Nat := 0
  /-- KEY. -/
  key : Nat := 0
  /-- FMT. -/
  fmt : Nat := 0
  /-- VER_LO. -/
  verLo : Nat := 0
deriving DecidableEq, Repr

/-- APPLY_STATE (Table 3.9), in the order of its codes. -/
inductive ApplyPhase where
  | idle | verify | downstream | rotate | cleanup | done | stopped
deriving DecidableEq, Repr

/-- What the apply sequencer waits for within a phase. -/
inductive ApplyWait where
  /-- The phase's own work: APPLY_PHASE_DONE ends it. -/
  | work
  /-- A commit of the sequencer that is sealed or sealing. -/
  | commit
  /-- The load of the spare. -/
  | load
  /-- The drain of the former owner of a pair. -/
  | drain
deriving DecidableEq, Repr

/-- The apply sequencer (R119 to R122). -/
structure ApplySt where
  /-- APPLY_STATE. -/
  phase : ApplyPhase := .idle
  /-- The Tun being applied. -/
  tun : Nat := 0
  /-- What it waits for. -/
  wait : ApplyWait := .work
  /-- ROT_STEP. -/
  step : Nat := 0
  /-- The role that is rotated now, and the roles still to rotate after it. -/
  role : Nat := 0
  todo : List Nat := []
  /-- The scheduled time of the DOWNSTREAM commit (R506). -/
  at' : Option Nat := none
  /-- The values of DOWNSTREAM are armed or in effect. -/
  down : Bool := false
  /-- Clusters that hold the image's microcode (R279). -/
  clus : List Nat := []
  /-- It stops once the commit that is sealed has applied (R122). -/
  stopping : Bool := false
  /-- Stopped after DOWNSTREAM: the state is mixed, and both Tuns stay locked (R122). -/
  mixed : Option (Nat × Nat) := none
deriving DecidableEq, Repr

/-- Images and Tuns. -/
structure ImgSt where
  /-- Tuns 0 to 3. -/
  tun : SMap TunInfo := {}
  /-- BOOT_TUN. -/
  bootTun : Nat := 0
  /-- BOOT_SRC. -/
  bootSrc : Nat := 0
  /-- REASON of IMG_STATUS. -/
  reason : Nat := 0
  /-- The Tun last booted or applied to DONE. -/
  effTun : Option Nat := none
  /-- The microcode half that holds the code of the image in effect (R279). -/
  half : Bool := false
  /-- LAYOUT_ID values compatible with the layout in effect (COMPAT of the image in effect). -/
  compat : List Nat := []
  /-- Keys revoked by R100, beside those fused. -/
  revoked : SMap Bool := {}
  /-- The first choice of the boot that runs: Tun, and whether ONCE named it. -/
  choice : Nat × Bool := (0, false)
  /-- Tuns already tried in the boot that runs. -/
  tried : List Nat := []
  /-- The boot that runs is that of a cold apply (R123). -/
  coldTun : Option Nat := none
  /-- A cold apply of this Tun waits for an armed set to apply (R123). -/
  coldWait : Option Nat := none
  /-- The apply sequencer. -/
  apply : ApplySt := {}
deriving DecidableEq, Repr

/-- STATE of UPD_STATUS (Table 18.2), in the order of its codes. -/
inductive UpdState where
  | idle | receiving | verifying | verified | armed | activating | trial | fallback
deriving DecidableEq, Repr

/-- STATE of UPD_RELAY (Table 18.11), in the order of its codes. -/
inductive RelayState where
  | idle | offering | sending | verified | refused | busy | timeout
deriving DecidableEq, Repr

/-- The relay (R503). -/
structure Relay where
  /-- STATE. -/
  st : RelayState := .idle
  /-- REASON. -/
  reason : Nat := 0
  /-- The device offered to. -/
  dst : Nat := 0
  /-- The Tun or firmware slot it sends from: TARGET of the session. -/
  target : Nat := 0
  /-- The byte offset to send next. -/
  next : Nat := 0
  /-- The last NEXT the target has reported. -/
  acked : Nat := 0
  /-- END has been sent. -/
  ended : Bool := false
  /-- The instant at which 10 s without progress have passed. -/
  deadline : Nat := 0
deriving DecidableEq, Repr

/-- The update engine. -/
structure UpdSt where
  /-- STATE. -/
  st : UpdState := .idle
  /-- Recovery mode (R512). -/
  recovery : Bool := false
  /-- Recovery mode was entered for want of a Tun rather than of firmware; its event waits for a side in UP. -/
  recTun : Bool := false
  recTold : Bool := false
  /-- SESSION_ID. -/
  id : Nat := 0
  /-- TARGET. -/
  target : Nat := 0
  /-- FROM_TUN. -/
  fromTun : Nat := 0
  /-- ORIGIN. -/
  origin : Nat := 0
  /-- REASON. -/
  reason : Nat := 0
  /-- RELAYED. -/
  relayed : Bool := false
  /-- SRC, and the port its frames arrive on. -/
  src : Nat := 0
  port : Nat := 0
  /-- The SRC of the last OFFER, CHUNK or END of the session, to which its answers go (R498). -/
  ansTo : Nat := 0
  /-- NEXT. -/
  next : Nat := 0
  /-- TOTAL_LEN. -/
  total : Nat := 0
  /-- The session digest. -/
  digest : Nat := 0
  /-- The instant at which the session ends for want of a chunk. -/
  idleAt : Nat := 0
  /-- Chunks accepted since the last CHUNK_ACK, and the instant a CHUNK_ACK is due. -/
  unacked : Nat := 0
  ackAt : Option Nat := none
  /-- T of the armed activation, and its mode. -/
  armAt : Nat := 0
  cold : Bool := false
  /-- The instant the confirmation timer expires. -/
  confirmAt : Nat := 0
  /-- The apply that runs is the activation's own, or that of a fall-back. -/
  applying : Bool := false
  falling : Bool := false
  /-- Reason of event 0x4C08 for the fall-back that runs (Table 18.13). -/
  fallReason : Nat := 0
  /-- The instant and port of the offer taken in the present offer slot. -/
  offerAt : Option (Nat × Nat) := none
  /-- With TARGET 8: the firmware slot of the session. -/
  fwSlot : Nat := 0
  /-- Firmware: the running slot, started as TRY_FW, verified slots, FMT_ACCEPT of the running firmware. -/
  running : Nat := 0
  trying : Bool := false
  fwValid : SMap Bool := {}
  fmtAccept : Nat := 0
  /-- The management cores are paused for a firmware restart (R508). -/
  paused : Bool := false
  /-- The restart starts from ACTIVE_FW. -/
  fromActive : Bool := false
  /-- The instant by which the running firmware must report ready. -/
  readyBy : Option Nat := none
  /-- The relay. -/
  relay : Relay := {}
deriving DecidableEq, Repr

end Sys2Proof.Machine
end

