-- ==== Sys2Proof/Machine/State/Line.lean ====
section
/-! DEFINITION. The state of the line ports, the OTN framers and the recovered clock outputs. -/

namespace Sys2Proof.Machine

/-- States of a port (Table 4.3). -/
inductive PortState where
  | off | an | train | sync | up | holdoff
deriving DecidableEq, Repr

/-- A frame that waits at a MAC for transmission: its egress ticket, its rewritten head, its body and the timestamp
descriptor of the egress track (R146). -/
structure TxFrame where
  /-- The egress ticket. -/
  ticket : Ticket
  /-- The rewritten head. -/
  head : List Byte
  /-- The body. -/
  body : List Byte
  /-- Timestamp descriptor (Table 4.4). -/
  desc : BitVec 64
  /-- Slice and egress journal slot to retire (Table 6.7). -/
  slice : Nat
  slot : Nat
  /-- The egress body tag, to free at the start of transmission (R290). -/
  tag : Option Nat
deriving DecidableEq, Repr

/-- One line port. -/
structure LpPort where
  /-- State. -/
  st : PortState := .off
  /-- The instant the timer of the state expires: AN_TIMEOUT, TRAIN_TIMEOUT, SYNC_TIMEOUT or the hold-off. -/
  deadline : Nat := 0
  /-- The instant the present state was entered. -/
  since : Nat := 0
  /-- SYNC was entered from UP. -/
  fromUp : Bool := false
  /-- LINK, and its changes not yet passed to the scheduler, oldest first (R141). -/
  link : Bool := false
  linkq : List Bool := []
  /-- LF. -/
  lf : Bool := false
  /-- RF. -/
  rf : Bool := false
  /-- ALIGN. -/
  align : Bool := false
  /-- The receiver reports FEC and PCS alignment, or in OTN mode PCS alignment of the demapped client (R138, R143). -/
  pcs : Bool := false
  /-- The RS sends remote fault to the partner (R140). -/
  rfTx : Bool := false
  /-- In SYNC, the instant since which alignment without fault has held unbroken (Table 4.3). -/
  goodAt : Option Nat := none
  /-- The instant since which ALIGN has been 1 and LF 0 (Table 15.8). -/
  alignAt : Option Nat := none
  /-- The technology abilities advertised in AN, bit 4 × LANE_RATE + log2 of the width of Table 4.2 (R136). -/
  adv : Nat := 0
  /-- The instant the present 10 ms window ends (R132). -/
  winAt : Nat := 0
  /-- DEG_SER. -/
  degSer : Bool := false
  /-- Consecutive windows below the threshold (R132). -/
  degGood : Nat := 0
  /-- FAILS. -/
  fails : Nat := 0
  /-- LAST_FAIL. -/
  lastFail : Nat := 0
  /-- Two-step timestamp queue, oldest first, at most 64: time-base ns [47:0] with fraction (64 bits), SEQID (R147). -/
  txts : List (Nat × Nat) := []
  /-- TXTS_HDR.OVF. -/
  txtsOvf : Bool := false
  /-- The latched two-step time. -/
  txtsLatch : Nat := 0
  /-- Frames that wait for transmission, oldest first. -/
  txq : List TxFrame := []
  /-- The last frame on the line: preamble, SFD, the frame and its FCS (R135). -/
  sent : List Byte := []
  /-- The inter-packet gap after it, in bytes, and the deficit idle count (R135). -/
  gap : Nat := 0
  dic : Nat := 0
  /-- 64B/66B blocks dealt to the flows of the PCS, and the encoder of each flow (R130). -/
  turn : Nat := 0
  fec : SMap FecTx := {}
deriving DecidableEq, Repr

/-- One FlexO instance's hunter and multiframe state (Table 5.2, R157). -/
structure OtnInst where
  /-- The instance is IF. -/
  inFrame : Bool := false
  /-- Candidates: offset, count, instant of the last sighting; at most four. -/
  cands : List (Nat × Nat × Nat) := []
  /-- Barred offsets, oldest first, at most four. -/
  bars : List Nat := []
  /-- The locked offset. -/
  locked : Nat := 0
  /-- Consecutive frames without the word at the locked offset. -/
  miss : Nat := 0
  /-- The instant IF was entered. -/
  ifAt : Nat := 0
  /-- IM. -/
  im : Bool := false
  /-- IM was reached within 2 ms of IF (Table 5.2). -/
  imOk : Bool := false
  /-- The last MFAS value. -/
  mfas : Option Nat := none
  /-- Consecutive OTUC frames whose MFAS increased by one. -/
  good : Nat := 0
  /-- Consecutive mismatches. -/
  bad : Nat := 0
deriving DecidableEq, Repr

/-- One layer's trace identifier (R161). -/
structure TtiSt where
  /-- Bytes gathered in the present 64-frame multiframe, by position. -/
  buf : SMap Byte := {}
  /-- How many positions have arrived in order since position 0; 0 between multiframes and after a break. -/
  got : Nat := 0
  /-- The last complete multiframe. -/
  last : List Byte := []
  /-- Consecutive multiframes that carried `last`. -/
  run : Nat := 0
  /-- The accepted TTI; none since reset. -/
  acc : Option (List Byte) := none
  /-- The accepted TTI is compared with the expected one: it was accepted since the integration began, or R163 excepts it. -/
  cmp : Bool := false
deriving DecidableEq, Repr

/-- What the framer last sent in the overhead (R160). -/
structure OtucTx where
  /-- Electrical idle (TX_SQUELCH). -/
  idle : Bool
  /-- The ODUCn is replaced by all-ones. -/
  ais : Bool
  /-- MFAS. -/
  mfas : Nat
  /-- SM BEI/BIAE by slice. -/
  smBei : List Nat
  /-- PM BEI by slice. -/
  pmBei : List Nat
  /-- SM BDI, PM BDI and SM IAE. -/
  smBdi : Bool
  pmBdi : Bool
  smIae : Bool
  /-- STAT. -/
  stat : Nat
  /-- TTI bytes sent in slice 1. -/
  smTti : Byte
  pmTti : Byte
  /-- BIP-8 by slice (R160). -/
  smBip : List Byte
  pmBip : List Byte
  /-- FlexO group ID. -/
  gid : Nat
  /-- The general communication channels of the OTUCn and of the ODUCn, APS/PCC, FTFL and the experimental bytes (R154). -/
  gcc0 : Byte
  gcc12 : Byte
  aps : Byte
  ftfl : Byte
  exp : Byte
deriving DecidableEq, Repr

/-- One port group's framer. -/
structure OtnGrp where
  /-- Instances. -/
  inst : SMap OtnInst := {}
  /-- Lanes locked and deskewed. -/
  laneLock : Nat := 0
  /-- For defects 15 to 12, whether the set condition stands and since when it or its opposite has (Table 5.5). -/
  conds : SMap (Bool × Nat) := {}
  /-- Instance skew over 2 µs. -/
  skewBig : Bool := false
  /-- OTN_DEF_LIVE.DEF. -/
  live : Nat := 0
  /-- SM trace. -/
  sm : TtiSt := {}
  /-- PM trace. -/
  pm : TtiSt := {}
  /-- Accepted STAT. -/
  stat : Nat := 0
  /-- The last STAT received and its run. -/
  statLast : Nat := 0
  statRun : Nat := 0
  /-- Runs of SM BDI, PM BDI and SM IAE: value and length. -/
  smBdi : Bool × Nat := (false, 0)
  pmBdi : Bool × Nat := (false, 0)
  smIae : Bool × Nat := (false, 0)
  /-- Run of group or instance ID mismatches (true) or matches. -/
  gid : Bool × Nat := (false, 0)
  /-- dSM_TIM and dPM_TIM stood when the hold of R163 began. -/
  heldTim : Bool × Bool := (false, false)
  /-- SM and PM errored blocks of the present second. -/
  smBlk : Nat := 0
  pmBlk : Nat := 0
  /-- Runs of bad (true) or good seconds, SM and PM. -/
  smSec : Bool × Nat := (false, 0)
  pmSec : Bool × Nat := (false, 0)
  /-- The instant the present second ends. -/
  secAt : Nat := 0
  /-- BIP errors of the last received frame by slice, SM and PM. -/
  smErr : List Nat := []
  pmErr : List Nat := []
  /-- MFAS to send next. -/
  txMfas : Nat := 0
  /-- BIP-8 by slice of the last two frames sent, the later first (R160). -/
  bips : List (List Byte) := []
  /-- What was last sent. -/
  tx : Option OtucTx := none
deriving DecidableEq, Repr

/-- The line side. -/
structure LpSt where
  /-- Ports by number 8 × g + i. -/
  ports : SMap LpPort := {}
  /-- The equalisation each lane transmits with; none while it sends electrical idle (R137, R139, R143). -/
  coef : SMap (Option Word) := {}
  /-- Framers by group. -/
  otn : SMap OtnGrp := {}
deriving DecidableEq, Repr

end Sys2Proof.Machine
end

