-- ==== Sys2Proof/Machine/State/Queue.lean ====
section
/-! DEFINITION. The state of buffers and queues (BPM, MIR), of the HBM controller (HBM) and of the scheduler (SCH). -/

namespace Sys2Proof.Machine

/-- A buffer of the on-die store (R311, R315, R331). -/
structure Buf where
  /-- The bitmap shows it allocated. -/
  used : Bool := false
  /-- Generation. -/
  gen : Nat := 0
  /-- REF. -/
  ref : Nat := 0
  /-- The packet, without FCS. -/
  pkt : List Byte := []
  /-- The offset at which the packet begins in the buffer, or at which its body stands while the head is awaited (R313). -/
  off : Nat := 0
  /-- A line of it is uncorrectable (STORE_UE, Table 16.8). -/
  bad : Bool := false
deriving DecidableEq, Repr

/-- Where a pointer's packet lies. -/
inductive PLoc where
  /-- A buffer: pool × 2^20 + index, and its generation. -/
  | buf (k gen : Nat)
  /-- A data record in HBM. -/
  | hbm
deriving DecidableEq, Repr

/-- A pointer (R319, R392). -/
structure Ptr where
  /-- The ticket it carries. -/
  tkt : Ticket
  /-- L. -/
  len : Nat
  /-- Admission time, ns of `now`. -/
  at' : Nat
  /-- The packet. -/
  loc : PLoc
deriving DecidableEq, Repr

/-- State of a record of a queue's HBM part (R326, R353). -/
inductive RecStage where
  /-- Its kind is not yet known. -/
  | reserved
  /-- Queued for writing. -/
  | writing
  /-- The write is complete. -/
  | written
  /-- The read-ahead has asked for it. -/
  | reading
deriving DecidableEq, Repr

/-- A record of a queue's HBM part (R349). -/
structure HRec where
  /-- The pointer. -/
  p : Ptr
  /-- A data record; otherwise a reference record. -/
  data : Bool := false
  /-- State. -/
  st : RecStage := .reserved
  /-- Its write is complete (it may be read before: R354). -/
  done : Bool := false
  /-- Lines it occupies: block (channel × 2^18 + block), first line, count. -/
  lines : List (Nat × Nat × Nat) := []
  /-- The packet of a data record. -/
  pkt : List Byte := []
  /-- The packet's copy-making has ended, so its kind is known (R326). -/
  ready : Bool := false
  /-- Issue of its read, the buffer it is read into, and whether it was forwarded (R327, R354). -/
  readAt : Nat := 0
  rbuf : Option (Nat × Nat) := none
  fwd : Bool := false
  /-- The record does not go back to the queue: it is discarded or flushed while its write or read runs (R329, R359). -/
  dead : Bool := false
deriving DecidableEq, Repr

/-- A queue (R319, R323, R393). -/
structure QSt where
  /-- STATE is SPILL. -/
  spill : Bool := false
  /-- The on-die part, front first. -/
  on : List Ptr := []
  /-- The HBM part, front first. -/
  hbm : List HRec := []
  /-- A flush waits for writes and reads in flight before the queue is ON_DIE (R329). -/
  flush : Bool := false
  /-- The block being filled, and its next free line; the last block's channel. -/
  blk : Option (Nat × Nat) := none
  lastCh : Nat := 63
  /-- SEEDED and AVG (R393). -/
  seeded : Bool := false
  avg : Nat := 0
  /-- Largest delay sample since the last read, 16 ns. -/
  qmax : Nat := 0
deriving DecidableEq, Repr

/-- What an admission unit has before it (R317). -/
inductive AdmItem where
  /-- An ingress HEAD segment: ticket, output head, body tag. -/
  | ing (tkt : Ticket) (out : List Byte) (tag : Option Nat)
  /-- A complete egress packet: ticket and buffer. -/
  | eg (tkt : Ticket) (k gen : Nat)
  /-- A fence marker of a slice: it is echoed once everything before it has been reported (R191). -/
  | fence (slice : Nat)
deriving DecidableEq, Repr

/-- A multicast packet in a replicator (R332). -/
structure McJob where
  /-- Ticket and buffer. -/
  tkt : Ticket
  k : Nat
  gen : Nat
  /-- BASE and LEN of the group word it read when its replication started. -/
  list : Option (Nat × Nat) := none
  /-- Offers made and accepted. -/
  i : Nat := 0
  acc : Nat := 0
deriving DecidableEq, Repr

/-- Buffers, queues, mirroring. -/
structure BpmSt where
  /-- Buffers by pool × 2^20 + index. -/
  bufs : SMap Buf := {}
  /-- Lowest FREE since the last read of BPM_POOL_MIN_p; none before an allocation. -/
  poolMin : SMap Nat := {}
  /-- Event 0x3001 has been reported, and FREE has not risen above COUNT / 16 since. -/
  told : SMap Bool := {}
  /-- Queues. -/
  q : SMap QSt := {}
  /-- Admission units 0 to 31. -/
  unit : SMap (List AdmItem) := {}
  /-- Replicators 0 to 31. -/
  mc : SMap (List McJob) := {}
  /-- Event 0x3004 has been reported for a unit, and its queue has not fallen below 2,048 since. -/
  mcTold : SMap Bool := {}
  /-- Sampling countdowns by session × 32 + point: 0 to 15 units, 16 to 24 slices (R340). -/
  count : SMap Nat := {}
  /-- Buckets of sessions, in bits × 100 ns. -/
  mirB : SMap (Nat × Nat) := {}
deriving DecidableEq, Repr

/-! ## HBM -/

/-- STATE of a channel (Table 12.7), in the order of its codes; CLOSED is OPEN with a cause. -/
inductive ChState where
  | down | training | open' | paused | fenced
deriving DecidableEq, Repr

/-- An HBM channel. -/
structure HCh where
  /-- State; CLOSED shows when a cause stands while it is open. -/
  st : ChState := .down
  /-- Closed as slow, for errors, thermally. -/
  slow : Bool := false
  err : Bool := false
  hot : Bool := false
  /-- Reads completed in this 1 ms window, and the sum of their latencies. -/
  n : Nat := 0
  sum : Nat := 0
  /-- A retraining pause fell in this window. -/
  pauseIn : Bool := false
  /-- MEAN of the last window. -/
  mean : Nat := 0
  /-- Corrected and uncorrectable lines of this 1 s window. -/
  ce : Nat := 0
  ue : Nat := 0
  /-- The instant and the temperature of the last training. -/
  trainAt : Nat := 0
  trainT : Int := 0
  /-- The retraining is due at once (R362). -/
  due : Bool := false
deriving DecidableEq, Repr

/-- STATE of a stack (Table 12.6), in the order of its codes. -/
inductive StackState where
  | off | training | up | enteringOff | fenced
deriving DecidableEq, Repr

/-- An HBM stack. -/
structure HStack where
  /-- STATE. -/
  st : StackState := .off
  /-- STORED. -/
  stored : Bool := false
  /-- REF_X2. -/
  x2 : Bool := true
  /-- Reads since the last training, up to 4,096. -/
  reads : Nat := 0
  /-- HOT. -/
  hot : Bool := false
  /-- The last temperature reading. -/
  temp : Option Int := none
  /-- The training that runs is full. -/
  full : Bool := true
  /-- The next temperature reading is due. -/
  tempAt : Nat := 0
deriving DecidableEq, Repr

/-- A DRAM bank: the open row, its last access, and its last refresh. -/
structure DBank where
  /-- Open row. -/
  row : Option Nat := none
  /-- Instant of the last access. -/
  at' : Nat := 0
  /-- Instant of the last refresh. -/
  ref : Nat := 0
deriving DecidableEq, Repr

/-- The HBM controller. -/
structure HbmSt where
  /-- Stacks 0 to 3. -/
  st : SMap HStack := {}
  /-- Channels 0 to 63. -/
  ch : SMap HCh := {}
  /-- Blocks in use, by channel × 2^18 + block: records that start or end in the block, and commands queued to it. -/
  blk : SMap Nat := {}
  /-- Banks by (channel × 2 + pseudo-channel) × 32 + bank. -/
  bank : SMap DBank := {}
  /-- The channel being retrained. -/
  retrain : Option Nat := none
  /-- Training has completed once, so HBM_SPACE is set (R370). -/
  trained : Bool := false
  /-- Numbers of the last 1 ms and 1 s windows judged. -/
  win : Nat := 0
  winS : Nat := 0
deriving DecidableEq, Repr

/-! ## Scheduler -/

/-- Buckets, deficit and round-robin positions of a node or queue (R379 to R386). -/
structure NodeSt where
  /-- CT and PT in 1/8,000,000 B; none while the bucket is full at burst and not charged since. -/
  ct : Option Int := none
  pt : Option Int := none
  /-- Time-base ns at which they were last brought up to date. -/
  at' : Nat := 0
  /-- DEF, bytes. -/
  defi : Int := 0
  /-- Last child served per priority, committed and by deficit, plus 1; 0 none. -/
  rrC : SMap Nat := {}
  rrD : SMap Nat := {}
deriving DecidableEq, Repr

/-- STATE of a port node (Table 13.2), in the order of its codes. -/
inductive SchState where
  | down | up | hold | flush
deriving DecidableEq, Repr

/-- A port node's link state. -/
structure SchPort where
  /-- STATE. -/
  st : SchState := .down
  /-- LINK as last received. -/
  link : Bool := false
  /-- The hold timer's expiry, and the instant the hold began. -/
  until' : Nat := 0
  since : Nat := 0
deriving DecidableEq, Repr

/-- A policer's two buckets, in 1/8,000,000 B (R387). -/
structure PolSt where
  /-- Committed and peak buckets; none while full at burst. -/
  tc : Option Nat := none
  tp : Option Nat := none
  /-- Time-base ns. -/
  at' : Nat := 0
deriving DecidableEq, Repr

/-- The scheduler. -/
structure SchSt where
  /-- Nodes and queues by level × 2^20 + index. -/
  node : SMap NodeSt := {}
  /-- Ports. -/
  port : SMap SchPort := {}
  /-- The port served last, by group, plus 1. -/
  rr : SMap Nat := {}
  /-- Policers. -/
  pol : SMap PolSt := {}
deriving DecidableEq, Repr

end Sys2Proof.Machine
end

