-- ==== Sys2Proof/Machine/State/Prog.lean ====
section
/-! DEFINITION. What an image's section asks of the hardware, as data: the slice program (chapter Match-Action Slices)
and the settings a section carries. How a section's bytes spell it is not in the spec (R1): the readings are constants
without a body, at the end. -/

namespace Sys2Proof.Machine

/-- A container (R172): a word K0 to K127, and which part of it: 0 whole, 1 H1, 2 H0, 3 to 6 Q3 to Q0. -/
structure Cont where
  /-- Word number. -/
  word : Nat
  /-- Part. -/
  part : Nat
deriving DecidableEq, Repr

/-- Where a VLIW slot or a stateful unit takes an operand from. -/
inductive Operand where
  /-- An immediate. -/
  | imm (v : Nat)
  /-- A container. -/
  | cont (c : Cont)
  /-- `w` bits from bit `lo` of a lookup result: 0 and 1 the stage's local ones, 2 its destination lookup, 3 + n the shared lookup issued in
  stage n (R176). -/
  | res (k lo w : Nat)
  /-- FOUND, or hit, of a lookup result, as 1 or 0. -/
  | hit (k : Nat)
  /-- ERR of a lookup result, as 1 or 0 (R204). -/
  | err (k : Nat)
deriving DecidableEq, Repr

/-- Operations of a VLIW slot (Table 6.6). -/
inductive SlotOp where
  | set (a : Operand)
  | add (sat : Bool) (a b : Operand)
  | sub (sat : Bool) (a b : Operand)
  | min (a b : Operand)
  | max (a b : Operand)
  | and (a b : Operand)
  | or (a b : Operand)
  | xor (a b : Operand)
  | not (a : Operand)
  | shl (n : Nat) (a : Operand)
  | shr (n : Nat) (a : Operand)
  /-- CRC-32 over a key builder's key. -/
  | hash32 (key : Nat)
  /-- CRC-16 over a key builder's key. -/
  | hash16 (key : Nat)
  /-- Set or clear a HDR_VALID bit. -/
  | hdr (i : Nat) (b : Bool)
  /-- Start a stateful unit and take its result. -/
  | stateful (u : Nat)
deriving DecidableEq, Repr

/-- A VLIW slot: its operation, and the one container it writes (R178). -/
structure Slot where
  /-- Operation. -/
  op : SlotOp
  /-- Destination. -/
  dst : Option Cont
deriving DecidableEq, Repr

/-- Operations of a stateful unit (R179). -/
inductive StOp where
  | add | satAdd | set | clear | cas | bucket
deriving DecidableEq, Repr

/-- A stateful unit's binding. -/
structure StUnit where
  /-- Word of local SRAM. -/
  addr : Operand
  /-- Operation. -/
  op : StOp
  /-- Operand. -/
  arg : Operand
  /-- It returns the old value. -/
  old : Bool
deriving DecidableEq, Repr

/-- A shared lookup (R176): what it searches, with the key builder it uses. -/
inductive SharedLk where
  | route (key : Nat)
  | em (t key : Nat)
  | nextHop (key : Nat)
  | tcm (al key : Nat)
deriving DecidableEq, Repr

/-- What selects the VLIW word of a lane in a stage (R178). -/
inductive WordSel where
  | default'
  /-- The action index at bit `lo` of result `k`; a miss selects the miss word. -/
  | byResult (k lo miss : Nat)
deriving DecidableEq, Repr

/-- One lane of one stage (Table 6.2). -/
structure Lane where
  /-- Key builders: byte selections of the header vector, first byte first. -/
  keys : List (List Nat) := []
  /-- Local lookups: key builder and local table. -/
  locals' : List (Nat × Nat) := []
  /-- Shared lookup. -/
  shared : Option SharedLk := none
  /-- Destination lookup of the learning table, by the number of LRNCFG's destination key (R225). -/
  dest : Option Nat := none
  /-- Stateful units. -/
  units : List StUnit := []
  /-- Word selection. -/
  sel : WordSel := .default'
  /-- Default word. -/
  dflt : Nat := 0
deriving DecidableEq, Repr

/-- One stage: six lanes and the action store of each direction. -/
structure Stage where
  /-- Lanes 0 to 5. -/
  lanes : List Lane := []
  /-- VLIW words, ingress. -/
  ing : List (List Slot) := []
  /-- VLIW words, egress. -/
  eg : List (List Slot) := []
deriving DecidableEq, Repr

/-- LENGTH of a parser node (Table 6.4). -/
inductive LenOf where
  | fixed (n : Nat)
  /-- A field of `w` bits at bit `off`, times `mul`, plus `add`. -/
  | field (off w mul add : Nat)
deriving DecidableEq, Repr

/-- A node of the parse graph (R174, Table 6.4). -/
structure PNode where
  /-- LENGTH. -/
  len : LenOf
  /-- EXTRACT: bit offset, width, container. -/
  extracts : List (Nat × Nat × Cont) := []
  /-- VALID. -/
  valid : Option Nat := none
  /-- TPID: bit offset of the field, the four values, the PARSE_FLAGS bit and the bit of the select value that the match sets. -/
  tpid : Option (Nat × List Nat × Nat × Nat) := none
  /-- CSUM4: the PARSE_FLAGS bit. -/
  csum : Option Nat := none
  /-- SELECT: bit offset and width of each field. -/
  select : List (Nat × Nat) := []
  /-- BRANCH: value, mask, next node (none for END). -/
  branches : List (Nat × Nat × Option Nat) := []
  /-- The default branch. -/
  dflt : Option Nat := none
  /-- REPEAT: re-enter the node up to so many times while bit `repBit` of the select value is 0. -/
  rep : Nat := 0
  repBit : Nat := 0
deriving DecidableEq, Repr

/-- A header the deparser can emit (R180): its HDR_VALID bit and its fields, container and width in bits. -/
structure HdrOut where
  /-- HDR_VALID bit. -/
  valid : Nat
  /-- Fields in order. -/
  fields : List (Cont × Nat)
deriving DecidableEq, Repr

/-- LRNCFG (R225). -/
structure LrnCfgP where
  /-- Learning stage. -/
  stage : Nat
  /-- Source key and destination keys: byte selections. -/
  srcKey : List Nat
  dests : List (List Nat)
  /-- Location container; none for IN_PORT. -/
  loc : Option Cont
  /-- Inhibit bit. -/
  inhibit : Option (Cont × Nat)
  /-- Seeds of the two ways. -/
  seed0 : Nat
  seed1 : Nat
  /-- LRN_CFG and LRN_AGE_CFG. -/
  cfg : Word
  age : Word
deriving DecidableEq, Repr

/-- The program of a role. -/
structure Prog where
  /-- Shapes of K0 to K109: 0 whole, 1 halves, 2 quarters. -/
  shapes : List Nat := []
  /-- Parse graph; node 0 first. -/
  nodes : List PNode := []
  /-- Headers in deparse order. -/
  hdrs : List HdrOut := []
  /-- Stages 0 to 23. -/
  stages : List Stage := []
  /-- Local tables: entries of key and associated data. -/
  tables : List (List (Nat × Nat)) := []
  /-- Bits that an entry of each local table takes in the local SRAM, and the 64-bit words there that stateful units use (R171). -/
  tabBits : List Nat := []
  words : Nat := 0
  /-- LRNCFG, when the image has it. -/
  lrn : Option LrnCfgP := none
deriving DecidableEq, Repr, Inhabited

/-- A half of a cluster's memories (R270): its instructions, 128 bits each, and its constants. -/
structure XeCode where
  /-- Instructions, at most 32,768. -/
  code : List (BitVec 128)
  /-- Constants, at most 128 KiB. -/
  consts : List Byte
deriving DecidableEq, Repr, Inhabited

/-- A settings section as the loader applies it: register addresses (or node keys) and values, in order. -/
structure Settings where
  /-- The section keeps the rules of its chapter; otherwise the loader refuses it with reason 0x09. -/
  good : Bool
  /-- Writes. -/
  writes : List (Nat × Word)
  /-- Further numbers of the section, by use. -/
  extra : List Nat
deriving DecidableEq, Repr, Inhabited

end Sys2Proof.Machine

namespace Sys2Proof.Config

/-- The program that a role's PARSE, STAGE and LRNCFG sections spell (R1, R95). -/
opaque program : List Byte → List Byte → List Byte → Machine.Prog

/-- The microcode that an XEUCODE section carries. -/
opaque ucode : List Byte → Machine.XeCode

/-- The settings that a device section of a type spells. -/
opaque settings : Nat → List Byte → Machine.Settings

/-- A function the spec names without its definition: use and argument. -/
opaque func : Nat → Nat → Nat

end Sys2Proof.Config
end

