-- ==== Sys2Proof/Machine/State/Slice.lean ====
section
/-! DEFINITION. The state of the slices (SLC) and of the exception engines (XE). An input is the ingress stream of a port
group (0 to 15) or the egress stream to one (16 to 31). -/

namespace Sys2Proof.Machine

/-- A head as a slice receives it (R173, R188). -/
structure Head where
  /-- Input. -/
  inp : Nat
  /-- IN_PORT. -/
  port : Nat
  /-- The head's bytes, up to 256. -/
  bytes : List Byte
  /-- IN_LEN. -/
  len : Nat
  /-- IN_TS: nanoseconds and fraction. -/
  ns : Nat
  frac : Nat
  /-- The body tag, when there is a body. -/
  tag : Option Nat := none
  /-- Egress: the received ticket. -/
  tkt : Option Ticket := none
deriving DecidableEq, Repr

/-- A lookup's result as a stage sees it. -/
structure LkRes where
  /-- Hit or FOUND. -/
  found : Bool := false
  /-- ERR. -/
  err : Bool := false
  /-- Result bits. -/
  val : Nat := 0
deriving DecidableEq, Repr

/-- The values in effect that a head keeps from its parser entry (R52, Table 1.11): EPOCH, TBL_VIEW, the map of aliases and the
mirror sessions. -/
structure Snap where
  /-- Furlong sequence modulo 4. -/
  epoch : Nat
  /-- TBL_VIEW. -/
  views : Word
  /-- Tables of aliases 0 to 31. -/
  aliases : List Nat
  /-- The registers of the mirror sessions that are not at reset. -/
  mir : SMap Word
deriving DecidableEq, Repr

/-- A head in a track, between parser entry and stage 23 exit, or a barrier token (R114). -/
structure Flight where
  /-- The head. -/
  head : Head
  /-- It is a barrier token. -/
  token : Bool := false
  /-- Its place in the order of its input; none for a head returned by an engine (R184). -/
  seq : Option Nat
  /-- Journal slot, and the slice whose journal it is. -/
  slot : Nat
  jsl : Nat
  /-- The header vector: K0 to K127. -/
  vec : SMap Word := {}
  /-- Values of its parser entry. -/
  snap : Snap
  /-- The next stage, 0 to 23; 24 when all are done. -/
  stage : Nat := 0
  /-- The instant the present stage ends. -/
  readyAt : Nat
  /-- The instant it leaves stage 23. -/
  exitAt : Nat
  /-- Shared lookups issued: the stage that issued it, and the result, which is available from two stages on (R176). -/
  shared : List (Nat × LkRes) := []
  /-- Bytes of the head that a node parsed. -/
  parsed : Nat := 0
  /-- Punts of the head so far. -/
  punts : Nat := 0
deriving DecidableEq, Repr

/-- A head that has left stage 23 for the merge. -/
structure OutHead where
  /-- Input. -/
  inp : Nat
  /-- Journal slot, and the slice whose journal it is. -/
  slot : Nat
  jsl : Nat
  /-- The ticket: at ingress completed, at egress as received. -/
  tkt : Ticket
  /-- The output head. -/
  bytes : List Byte
  /-- Body tag. -/
  tag : Option Nat
  /-- Egress: TS_DESC. -/
  desc : BitVec 64
deriving DecidableEq, Repr

/-- An item of a track's output queue (R184, R185). -/
inductive OutItem where
  | head (seq : Option Nat) (h : OutHead)
  | skip (inp seq : Nat)
  | token (inp seq : Nat)
deriving DecidableEq, Repr

/-- A track of a slice. -/
structure Track where
  /-- Heads between parser entry and stage 23 exit, oldest first. -/
  flights : List Flight := []
  /-- The output queue, oldest first. -/
  outq : List OutItem := []
  /-- Cycles in which a head entered, not yet set against the cycle count (R197). -/
  entered : Nat := 0
  /-- Cycles to be charged RETURN. -/
  returns : Nat := 0
deriving DecidableEq, Repr

/-- An entry of a slice's journal (R188). -/
structure JEntry where
  /-- The head as received. -/
  head : Head
  /-- INSEQ. -/
  seq : Nat
  /-- PUNTED. -/
  punted : Bool := false
  /-- Its ticket has been sent over the Ell. -/
  sent : Bool := false
deriving DecidableEq, Repr

/-- A head as the punt port passes it to the engines (R186, R275). -/
structure Punt where
  /-- PUNT_CLASS. -/
  cls : Nat
  /-- PUNT_REASON. -/
  reason : Nat
  /-- The head as received. -/
  head : Head
  /-- The output head. -/
  out : List Byte
  /-- The header vector at stage 23 exit. -/
  vec : SMap Word
  /-- Slice that punted it last (R187). -/
  slice : Nat
  /-- Its journal slot, and the slice whose journal that is. -/
  slot : Nat
  jsl : Nat
  /-- Punts so far, this one included. -/
  punts : Nat
  /-- Bytes parsed. -/
  parsed : Nat
deriving DecidableEq, Repr

/-- A head that an engine returned (R187). -/
structure Returned where
  /-- The stage named. -/
  stage : Nat
  /-- The head. -/
  p : Punt
  /-- The instant it began to wait. -/
  since : Nat
  /-- The parser has been refused a head for it: the instant at which the empty lane reaches the stage. -/
  forced : Option Nat := none
deriving DecidableEq, Repr

/-- States of a slice (Table 3.6), in the order of their codes. -/
inductive SliceState where
  | idle | loading | ready | active | drain | fenced
deriving DecidableEq, Repr

/-- One slice. -/
structure SliceSt where
  /-- State (IMG_SLICE_STATE). -/
  st : SliceState := .idle
  /-- Role whose program it holds. -/
  role : Nat := 0
  /-- Tun the program was loaded from, META_ID and accepted set of its image. -/
  tun : Nat := 0
  meta' : Nat := 0
  accepts : List Nat := []
  /-- The program. -/
  prog : Option Prog := none
  /-- SLC_PROG_DIGEST, 384 bits. -/
  digest : Nat := 0
  /-- In DRAIN: the pair it served. -/
  pair : Nat := 0
  /-- Tracks 0 to 5. -/
  tracks : SMap Track := {}
  /-- By input: the places dealt to the slice and not yet passed by the merge, in order. -/
  order : SMap (List Nat) := {}
  /-- Barrier tokens still to pass, by input. -/
  tokens : SMap Nat := {}
  /-- Barrier tokens that wait for a slot of their track's output queue (R185): track and token. -/
  tokWait : List (Nat × Flight) := []
  /-- Ingress journal by slot. -/
  jIn : SMap JEntry := {}
  /-- Egress journal by slot. -/
  jEg : SMap JEntry := {}
  /-- JRNL_OK. -/
  jOk : Bool := true
  /-- Heads that the punt port holds (R186). -/
  punt : List Punt := []
  /-- Return queues by direction. -/
  retq : SMap (List Returned) := {}
  /-- Hold buffers by input (R115). -/
  hold : SMap (List OutItem) := {}
  /-- Words of local SRAM, 64 bits (R179). -/
  sram : SMap Nat := {}
  /-- Fence markers sent whose echo has not come back (R191). -/
  fencing : Nat := 0
  /-- Heads of the failed slice still to replay into this slice, in order (R195): direction, slot there, entry. -/
  replay : List (Nat × Nat × JEntry) := []
  /-- Places of replayed heads that pass a closed barrier, by input (R117). -/
  bypass : SMap (List Nat) := {}
  /-- A replay runs: the failed slice, ingress and egress heads replayed. -/
  replaying : Option (Nat × Nat × Nat) := none
  /-- A hold buffer of a direction is full, and the stall has been counted (R115). -/
  stalled : SMap Bool := {}
deriving DecidableEq, Repr

/-- A load of a slice that runs (R107). -/
structure SliceLoad where
  /-- Tun and role. -/
  tun : Nat
  role : Nat
  /-- Who asked: 0 the host, 1 the apply sequencer, 2 failover. -/
  by' : Nat
deriving DecidableEq, Repr

/-- STATE of SLC_FAILOVER_STATUS (Table 6.15). -/
inductive FailState where
  | idle | fencing | loading | staged | replay | noSpare
deriving DecidableEq, Repr

/-- The failover (R192 to R194, R564). -/
structure Failover where
  /-- STATE. -/
  st : FailState := .idle
  /-- FAILED, SPARE and PAIR. -/
  failed : Nat := 0
  spare : Nat := 0
  pair : Nat := 0
  /-- The first load of the spare failed (R193). -/
  retried : Bool := false
  /-- A second slice that failed meanwhile, with its pair (R564). -/
  second : Option (Nat × Nat) := none
deriving DecidableEq, Repr

/-- The intake of a port group (R182). -/
structure Intake where
  /-- Heads that wait, oldest first. -/
  heads : List Head := []
  /-- FULL. -/
  full : Bool := false
  /-- Event 0x1805 has been reported, and the use has not fallen below half since. -/
  told : Bool := false
deriving DecidableEq, Repr

/-- A barrier of an input that is closed (R114, R115). -/
structure Barrier where
  /-- The old slice and the new one. -/
  old : Nat
  new : Nat
  /-- The switch instant. -/
  since : Nat
deriving DecidableEq, Repr

/-- The slices. -/
structure SlcBlk where
  /-- Slices 0 to 8; unlisted, as `initSlice` gives at reset. -/
  sl : SMap SliceSt := {}
  /-- The next INSEQ by input. -/
  inseq : SMap Nat := {}
  /-- Intakes by group. -/
  intake : SMap Intake := {}
  /-- Egress heads that have crossed the Ell and wait to be dealt, by group; one without a ticket is a barrier token (R114). -/
  egress : SMap (List Head) := {}
  /-- Egress bodies that wait at the MAC, by body tag: bytes so far, complete (R290). -/
  egBody : SMap (List Byte × Bool) := {}
  /-- The slice that serves each pair in effect: differs from IMG_STEER only where R111 keeps a pair. -/
  owner : SMap Nat := {}
  /-- The slice that egress heads of a group still go to, until its barrier token arrives (R113). -/
  egOwner : SMap Nat := {}
  /-- Closed barriers by input. -/
  barrier : SMap Barrier := {}
  /-- The failover. -/
  fail : Failover := {}
  /-- The slice loads that run, by slice. -/
  loads : SMap SliceLoad := {}
  /-- Admission reports that have crossed the Ell: slice, outcome, JRNL. -/
  reports : List (Nat × Nat × Nat) := []
  /-- Echoes of fence markers that have crossed the Ell. -/
  echoes : List Nat := []
  /-- fclk cycles counted so far, 8 in 5 ns. -/
  cycles : Nat := 0
deriving DecidableEq, Repr

/-! ## Exception engines -/

/-- The outcome of a thread (R271). -/
inductive XeOutcome where
  /-- RETURN to a stage, with the containers of the header vector that the engine wrote. -/
  | ret (stage : Nat) (vec : List (Nat × Word))
  | send (tkt : Ticket) (out : List Byte)
  | drop
deriving DecidableEq, Repr

/-- A dispatch record (R275): the head with what its dispatch fixed. -/
structure XeRec where
  /-- The head. -/
  p : Punt
  /-- Class registers at dispatch. -/
  a : Word
  b : Word
  c : Word := 0
  /-- TBL_VIEW, aliases and EPOCH at dispatch (Table 1.11). -/
  snap : Snap := { epoch := 0, views := 0, aliases := [], mir := {} }
  /-- How long the head has waited in the queue of its class so far, ns (R268). -/
  waited : Nat := 0
  /-- The cluster that keeps the record. -/
  clu : Nat := 0
  /-- Furlong sequence at dispatch, modulo 4. -/
  epoch : Nat
  /-- ROB entry, when the class is ordered. -/
  rob : Option Nat
  /-- RETRY. -/
  retry : Bool := false
deriving DecidableEq, Repr

/-- A busy thread. -/
structure XeThread where
  /-- Its record. -/
  r : XeRec
  /-- Dispatch instant. -/
  start : Nat
  /-- The output head. -/
  outHead : List Byte := []
  /-- The header vector. -/
  vec : SMap Word := {}
  /-- The 32 registers of 64 bits, 0 at dispatch. -/
  regs : SMap (BitVec 64) := {}
  /-- The 2 KiB of scratch memory, 0 at dispatch. -/
  scratch : SMap Byte := {}
  /-- The result of the last lookup. -/
  res : LkRes := {}
  /-- The adds to program counters so far (R272). -/
  adds : List (Nat × Int) := []
  /-- The outcome, once it has ended (R271). -/
  out : Option XeOutcome := none
  /-- The instant it ended. -/
  ended : Nat := 0
deriving DecidableEq, Repr

/-- An engine. -/
structure XeEngine where
  /-- REASON; the engine is fenced when it is not 0. -/
  reason : Nat := 0
  /-- Busy threads by number 0 to 7. -/
  threads : SMap XeThread := {}
  /-- Completions of the present window and the sum of their times, ns (R278). -/
  n : Nat := 0
  sum : Nat := 0
  /-- MEAN of the last window, 10 ns. -/
  mean : Nat := 0
deriving DecidableEq, Repr

/-- A head that waits in a class queue. -/
structure XeWait where
  /-- The head. -/
  p : Punt
  /-- The instant it joined the queue. -/
  since : Nat
  /-- A re-dispatch: its record (R276). -/
  re : Option XeRec := none
deriving DecidableEq, Repr

/-- A dispatch class. -/
structure XeClass where
  /-- The queue, front first. -/
  q : List XeWait := []
  /-- ROB: entries in dispatch order. -/
  rob : List Nat := []
  /-- The next ROB entry number. -/
  next : Nat := 0
  /-- Event 0x2805 has been reported for the present lack of engines. -/
  told : Bool := false
deriving DecidableEq, Repr

/-- A cluster. -/
structure XeCluster where
  /-- Completions since reset or since the last load, up to 4,096 (R278). -/
  done : Nat := 0
  /-- MEDIAN, 10 ns. -/
  median : Nat := 0
  /-- PAUSED. -/
  paused : Bool := false
  /-- REC_OK. -/
  recOk : Bool := true
  /-- The instruction and constants memories of halves 0 and 1, none before they are loaded (R270). -/
  half0 : Option XeCode := none
  half1 : Option XeCode := none
  /-- The instant of its last dispatch (R267). -/
  lastAt : Option Nat := none
deriving DecidableEq, Repr

/-- LOAD_STATE of XE_STATUS (Table 9.2). -/
inductive XeLoadState where
  | idle | drain | load | resume
deriving DecidableEq, Repr

/-- The exception engines. -/
structure XeSt where
  /-- Engines 0 to 127. -/
  eng : SMap XeEngine := {}
  /-- Classes 0 to 63. -/
  cls : SMap XeClass := {}
  /-- Clusters 0 to 7. -/
  clu : SMap XeCluster := {}
  /-- The class served last (R267). -/
  rr : Nat := 63
  /-- Records whose SEND waits for its admission report, by slice × 2^16 + journal slot (R273). -/
  sends : SMap Bool := {}
  /-- Microcode load: state, cluster and half. -/
  load : XeLoadState := .idle
  loadClu : Nat := 0
  loadHalf : Nat := 0
  /-- The end of the last 1 ms window judged, by number. -/
  window : Nat := 0
deriving DecidableEq, Repr

end Sys2Proof.Machine
end

