-- ==== Sys2Proof/Machine/State/Tables.lean ====
section
/-! DEFINITION. The state of the shared tables (TBL), of the learning tables (LRN) and of associative search (TCM). -/

namespace Sys2Proof.Machine

/-- An exact-match entry (R212, R214, R215). -/
structure EmEntry where
  /-- Key, right-aligned. -/
  key : Nat
  /-- Data, right-aligned. -/
  data : Nat
  /-- HIT. -/
  hit : Bool := false
  /-- The seed flag: placed under the new seed of a rehash. -/
  moved : Bool := false
deriving DecidableEq, Repr

/-- An overflow entry: an exact-match entry with its table number and its view (R201). -/
structure EmOvf where
  /-- Exact-match table 0 to 3. -/
  t : Nat
  /-- View. -/
  view : Nat
  /-- The entry. -/
  ent : EmEntry
deriving DecidableEq, Repr

/-- STATE of TBL_EM_REHASH. -/
inductive RehashState where
  | idle | way0 | way1 | stuck | aborting
deriving DecidableEq, Repr

/-- The rehash of an exact-match table (R215 to R217). -/
structure Rehash where
  /-- STATE. -/
  st : RehashState := .idle
  /-- The way being moved, 0 or 1, while STATE is not IDLE. -/
  way : Nat := 0
  /-- CURSOR. -/
  cursor : Nat := 0
  /-- The seed moved to. -/
  newSeed : Nat := 0
  /-- The instant of the cursor's next step. -/
  nextAt : Nat := 0
  /-- The cursor's last step ran back: it stands at the bucket before CURSOR's. -/
  back : Bool := false
deriving DecidableEq, Repr

/-- The shared tables. -/
structure TblSt where
  /-- Words of the present request not yet a whole descriptor (R218). -/
  win : List Word := []
  /-- The command queue, oldest first, at most 4,096 descriptors of 8 words (R218). -/
  queue : List (List Word) := []
  /-- TBL_FAIL_FIFO, oldest first, at most 1,024 (R219). -/
  fails : List Word := []
  /-- TBL_READBACK_0 to 7; zeros before the first READ. -/
  readback : List Word := []
  /-- Routes: next-hop index by route key (view, VRF, family, length, address) (R205). -/
  routes : SMap Nat := {}
  /-- Rows freed by the route manager 2 µs after a directory switch: the instant, oldest first (R208). -/
  rowFree : List Nat := []
  /-- Exact-match slots by table, view, way, bucket, slot. -/
  em : SMap EmEntry := {}
  /-- The overflow store, at most 16,384 (R201). -/
  ovf : List EmOvf := []
  /-- Bits of a key of exact-match table t, as the layout splits an entry (R212). -/
  keyBits : SMap Nat := {}
  /-- The seed in use by table and way (t × 2 + way); unlisted, all ones for way 0 and 0 for way 1. -/
  seeds : SMap Nat := {}
  /-- Rehash by table. -/
  rehash : SMap Rehash := {}
  /-- Next-hop entries by view × 2^20 + index. -/
  nh : SMap Nat := {}
  /-- Groups. -/
  grp : SMap Nat := {}
  /-- Members. -/
  mem : SMap Nat := {}
  /-- Running signatures by (view × 16 + TBL_ID) × 256 + segment (R221). -/
  sig : SMap Nat := {}
  /-- The rows with an uncorrectable error, by bank × 2^15 + row: the elements in each that the host has not rewritten or deleted since
  (R204). -/
  bad : SMap (List Nat) := {}
deriving DecidableEq, Repr

/-- A learning entry (Table 7.9); VALID is its being listed. -/
structure LrnEntry where
  /-- KEY, 64 bits. -/
  key : Nat
  /-- LOCATION. -/
  loc : Nat
  /-- STATIC. -/
  stat : Bool := false
  /-- HIT. -/
  hit : Bool := false
  /-- AGE. -/
  age : Nat := 0
  /-- MOVED. -/
  moved : Bool := false
  /-- MOVE_T. -/
  moveT : Nat := 0
  /-- GEN. -/
  gen : Nat := 0
deriving DecidableEq, Repr

/-- An item of a slice's learn queue. -/
inductive LrnItem where
  /-- A learn or move request of a head: key, location, IN_TS nanoseconds and fraction (R226). -/
  | learn (key loc ns frac : Nat)
  /-- A host command: OP, INDEX, key and location (R230). -/
  | host (op index key loc : Nat)
  /-- A shadowed change: the entry now held, none when it was removed (R235). -/
  | shadow (key : Nat) (e : Option LrnEntry)
deriving DecidableEq, Repr

/-- The learning table of a slice. -/
structure LrnSt where
  /-- Entries by READ_INDEX slot: 0 to 262,143 table, 262,144 to 264,191 overflow (Table 7.11). -/
  ents : SMap LrnEntry := {}
  /-- Seeds of ways 0 and 1, from LRNCFG. -/
  seed0 : Nat := 0xFFFFFFFF
  seed1 : Nat := 0
  /-- The learn queue, oldest first (R226, R230). -/
  queue : List LrnItem := []
  /-- GEN. -/
  gen : Nat := 0
  /-- PAIR, with PAIR_VALID (R234). -/
  pair : Option Nat := none
  /-- The notification FIFO: the records' words, oldest first (R231). -/
  notes : List (List Word) := []
  /-- Words of the oldest record that have been read. -/
  noteRead : Nat := 0
  /-- A flush runs: entries removed, and the instant it has at most to end (R230). -/
  flush : Option (Nat × Nat) := none
  /-- The scanner's next slot. -/
  scan : Nat := 0
  /-- Number of the present sweep. -/
  sweep : Nat := 1
  /-- The instant the next sweep may begin. -/
  sweepAt : Nat := 0
deriving DecidableEq, Repr

/-- STATE of LRN_COPY. -/
inductive CopyState where
  | idle | copying | shadowing
deriving DecidableEq, Repr

/-- The learning block: one table a slice, and the copy. -/
structure LrnBlk where
  /-- Learning tables by slice. -/
  sl : SMap LrnSt := {}
  /-- STATE of LRN_COPY. -/
  copy : CopyState := .idle
  /-- Source and destination of the running copy. -/
  src : Nat := 0
  dst : Nat := 0
  /-- Changes of the source, by key, that wait for room in the destination's learn queue, oldest first (R235). -/
  shadow : List (Nat × Option LrnEntry) := []
deriving DecidableEq, Repr

/-- STATE of a search bank (Table 8.6), in the order of its codes. -/
inductive BankState where
  | unbound | inService | suspect | copying | fenced
deriving DecidableEq, Repr

/-- A bank of the search array (R239, R241). -/
structure TcmBank where
  /-- STATE. -/
  st : BankState := .unbound
  /-- Width in units: 1, 2 or 4; 0 before the bank is bound. -/
  width : Nat := 0
  /-- TABLE. -/
  table : Nat := 0
  /-- The logical number where it differs from the physical one. -/
  logical : Option Nat := none
  /-- Events under R255 and R256 in the present window (R258). -/
  errs : Nat := 0
  /-- The bank replaces another (R260). -/
  replaces : Bool := false
  /-- It is fenced without replacement (R259). -/
  lost : Bool := false
deriving DecidableEq, Repr

/-- An entry of the search array with its associated data (R239, R246). -/
structure TcmEnt where
  /-- VALID. -/
  valid : Bool := false
  /-- VALUE, 0 under a mask bit of 0 (R243). -/
  val : Nat := 0
  /-- MASK. -/
  mask : Nat := 0
  /-- Care count, computed at the write (R243). -/
  care : Nat := 0
  /-- Associated data; 0 in the shadow. -/
  data : Nat := 0
deriving DecidableEq, Repr

/-- A replacement that is copying (R258). -/
structure TcmCopy where
  /-- The target. -/
  to' : Nat
  /-- The next row. -/
  row : Nat := 0
  /-- The instant of the next copy step. -/
  nextAt : Nat
deriving DecidableEq, Repr

/-- A bulk session and its overlap check (R253). -/
structure TcmBulk where
  /-- OPEN. -/
  open' : Bool := false
  /-- TABLE. -/
  table : Nat := 0
  /-- Entries written in the session, by logical bank × 2,048 + row. -/
  written : List Nat := []
  /-- The check runs: the entries that are left to check, and the instant of the next one. -/
  todo : Option (List Nat × Nat) := none
  /-- Pairs counted, each as its lower and its higher entry. -/
  pairs : List (Nat × Nat) := []
  /-- The first pair found. -/
  first : Option (Nat × Nat) := none
deriving DecidableEq, Repr

/-- Associative search. -/
structure TcmSt where
  /-- Banks by physical number. -/
  banks : SMap TcmBank := {}
  /-- Entries of the array with their data, by physical bank × 2,048 + first row. -/
  ents : SMap TcmEnt := {}
  /-- Parity bits of an entry's unit rows, bit u for unit u, by the same key (R254). -/
  par : SMap Nat := {}
  /-- The shadow memory: a copy of every entry with its care count (R254). -/
  shadow : SMap TcmEnt := {}
  /-- Rows whose associated data has a double-bit error (R256). -/
  dataBad : SMap Bool := {}
  /-- Rows whose shadow word is uncorrectable (R257). -/
  shadowBad : SMap Bool := {}
  /-- Words of the present request not yet a whole descriptor (R249). -/
  win : List Word := []
  /-- The command queue, at most 1,024 descriptors of 24 words (R249). -/
  queue : List (List Word) := []
  /-- TCM_FAIL_FIFO (R250). -/
  fails : List Word := []
  /-- TCM_READBACK_0 to 23. -/
  readback : List Word := []
  /-- The bulk session. -/
  bulk : TcmBulk := {}
  /-- Replacements by suspect bank. -/
  copies : SMap TcmCopy := {}
  /-- Number of the present 1 s window of the time base. -/
  window : Nat := 0
deriving DecidableEq, Repr

end Sys2Proof.Machine
end

