-- ==== Sys2Proof/Machine/State.lean ====
section
/-! DEFINITION. The state of the block, its reset, and the reasons a step can stop. -/

namespace Sys2Proof.Machine

/-- Reasons the block stops. There are none: the spec gives every command an effect, and the block's own faults are state (R454). -/
inductive Fault where
deriving DecidableEq, Repr

/-- Reasons a command has no meaning. -/
inductive Refusal where
  /-- Raised by no command, since every row has its meaning; the name of a row that had none would stand in it. Safe. -/
  | notModelled (mnemonic : String)
deriving DecidableEq, Repr

/-- The state of the block. Registers by address hold their own bits only; what a register shows of other state is computed when it
is read (View). Units that are not listed in a map are at their defaults. -/
structure State where
  /-- The commands that wait, first in, first out. -/
  pending : List Instr := []
  /-- Nanoseconds since power came; the model's own clock, which every deadline is counted in. -/
  now : Nat := 0
  /-- The number of the next free value: the model's own field, not the spec's (R558). -/
  free : Nat := 0
  /-- Status and data of the last single register access, as its response would carry them (R70). -/
  acc : Nat × Word := (0, 0)
  /-- A register's own bits by address (R7, R16); node words of the scheduler at 2^32 and above (R376). -/
  regs : SMap Word := {}
  /-- Counters by the address of their low word (R22). -/
  ctr : SMap Ctr := {}
  /-- High words latched by a read of a low word, by slot: the one latch of its counter pairs (R23), and those of other field maps by address. -/
  latch : SMap Word := {}
  /-- Flash by byte address; an unlisted byte is erased, 0xFF (R102, R478, R492). -/
  flash : SMap Byte := {}
  /-- The furlong controller. -/
  fur : FurSt := {}
  /-- Fault registers and fences. -/
  flt : FltSt := {}
  /-- The event recorder. -/
  rcd : RecSt := {}
  /-- The performance counter block. -/
  pmc : PmcSt := {}
  /-- The time base and the gates. -/
  tgt : TgtSt := {}
  /-- The device's chain address and the leases. -/
  node : SelfSt := {}
  /-- The chain ports and queues. -/
  chain : ChainSt := {}
  /-- Power, clocks, reset and boot. -/
  pwr : PwrSt := {}
  /-- The test access port. -/
  jtag : JtagSt := {}
  /-- Line ports and framers. -/
  lp : LpSt := {}
  /-- The shared tables. -/
  tbl : TblSt := {}
  /-- Learning. -/
  lrn : LrnBlk := {}
  /-- Associative search. -/
  tcm : TcmSt := {}
  /-- The slices. -/
  slc : SlcBlk := {}
  /-- The exception engines. -/
  xe : XeSt := {}
  /-- The Ell seam. -/
  ell : EllSt := {}
  /-- Buffers and queues. -/
  bpm : BpmSt := {}
  /-- The HBM controller. -/
  hbm : HbmSt := {}
  /-- The scheduler. -/
  sch : SchSt := {}
  /-- The fabric interface and the twin groups. -/
  fab : FabSt := {}
  /-- Images. -/
  img : ImgSt := {}
  /-- Updates. -/
  upd : UpdSt := {}
deriving DecidableEq, Repr

/-- The block right after reset: power has come, both feeds are PRESENT, RESET_N has just been released, flash is erased, and
nothing of the boot has happened yet. Every field is at the value its declaration gives (log entries 1 and 2). -/
def State.reset : State := {}

end Sys2Proof.Machine
end

