-- ==== Sys2Proof/Machine/Ops.lean ====
section
/-! DEFINITION. The named operations every block uses: time, the register file, counters, availability of a
register, events, fault sources and the fatal state. -/

namespace Sys2Proof.Machine

/-- The outcome of every command that has its meaning. -/
abbrev Res := Host.Outcome State Fault Refusal

/-- A command that answers the state `s`. -/
def ok (s : State) : Res := .next s

/-! ## Time -/

/-- Units of time-base time in 1 ns. -/
def tbUnit : Nat := 2 ^ 40 * 15625

/-- Time-base nanoseconds (R396). -/
def tbNs (s : State) : Nat := s.tgt.tb / tbUnit

/-- The 16-bit fraction of the time base. -/
def tbFrac (s : State) : Nat := s.tgt.tb % tbUnit * 65536 / tbUnit

/-- Take the next free value (R558). -/
def draw (s : State) : Nat × State := (Config.draw s.free, { s with free := s.free + 1 })

/-! ## The register file -/

/-- The value of a register's own bits, by its address. -/
def regRaw (s : State) (r : Reg) (idx : List Nat) : Word := s.regs.get (r.reset idx) (r.addr idx)

/-- Field [hi:lo] of a register's own bits. -/
def rf (s : State) (r : Reg) (idx : List Nat) (hi lo : Nat) : Nat := fld (regRaw s r idx) hi lo

/-- Bit i of a register's own bits. -/
def rb (s : State) (r : Reg) (idx : List Nat) (i : Nat) : Bool := (rf s r idx i i) == 1

/-- Write a register's own bits. -/
def setReg (s : State) (r : Reg) (idx : List Nat) (v : Word) : State :=
  { s with regs := s.regs.set (r.reset idx) (r.addr idx) v }

/-- Write field [hi:lo] of a register's own bits. -/
def setRF (s : State) (r : Reg) (idx : List Nat) (hi lo v : Nat) : State :=
  setReg s r idx (setFld (regRaw s r idx) hi lo v)

/-- Write bit i of a register's own bits. -/
def setRB (s : State) (r : Reg) (idx : List Nat) (i : Nat) (b : Bool) : State := setRF s r idx i i b.toNat

/-- A field that keeps the highest value it has seen. -/
def maxRF (s : State) (r : Reg) (idx : List Nat) (hi lo v : Nat) : State :=
  if rf s r idx hi lo < v then setRF s r idx hi lo v else s

/-! ## Counters -/

/-- The counter whose low word is at address `a`. -/
def ctrAt (s : State) (a : Nat) : Ctr := s.ctr.get {} a

/-- Add to a counter: it wraps and sets OVF past 48 bits (R24). -/
def Ctr.add (c : Ctr) (n : Nat) : Ctr :=
  { cnt := BitVec.ofNat 48 (c.cnt.toNat + n), ovf := c.ovf || decide (2 ^ 48 ≤ c.cnt.toNat + n) }

/-- Add `n` to the counter at address `a`. -/
def bumpN (s : State) (a n : Nat) : State := { s with ctr := s.ctr.upd {} a (fun c => c.add n) }

/-- Add 1 to the counter at address `a`. -/
def bump (s : State) (a : Nat) : State := bumpN s a 1

/-- Address of a counter: block code and offset from the block's counter window (R10). -/
def cOff (blk off : Nat) : Nat := blk * 0x1000000 + 0xE00000 + off

/-- Count in a counter of a block. -/
def count (s : State) (blk off : Nat) : State := bump s (cOff blk off)

/-! ## Guards -/

/-- The always-on island runs: neither RESET_N nor brown-out holds it (R536). -/
def onIsland (s : State) : Bool := !s.pwr.boot.held

/-- The chain runs: the island is on SYSREF (R533). -/
def onChain (s : State) : Bool := onIsland s && s.pwr.boot.sysref

/-- The domains outside the island run: main rails up, and not in the fatal state (R462, R537). -/
def onData (s : State) : Bool := onIsland s && s.pwr.boot.rails && !s.flt.fatal

/-- The management cores are not paused by a firmware restart (R508). -/
def fwRuns (s : State) : Bool := !s.upd.paused

/-- State of a switched power domain. -/
def domSt (s : State) (d : Nat) : DomState := (s.pwr.doms.get {} d).st

/-- A switched power domain is on. -/
def domOn (s : State) (d : Nat) : Bool := domSt s d == .on

/-- A unit of Table 16.6 is fenced. -/
def isFenced (s : State) (blk unit : Nat) : Bool := s.flt.fenced.get false (blk * 65536 + unit)

/-- The clock-domain fence of R33: some unit 0xFF00 + r of the block is fenced. -/
def clockFenced (s : State) (blk : Nat) : Bool :=
  s.flt.fenced.keys.any (fun k => blk * 65536 + 0xFF00 ≤ k && k < (blk + 1) * 65536)

/-- A block whose units are none of Table 16.6 runs: its clock domain is not fenced (R33, R463). -/
def blkOn (s : State) (blk : Nat) : Bool := onData s && !clockFenced s blk

/-- Blocks whose clock has one instance per port group or HBM stack (Table 1.4), so that a fence of one instance takes the registers of
its own unit only. -/
def clockPerUnit (blk : Nat) : Bool := blk == 4 || blk == 5 || blk == 0xD

/-- Blocks whose registers lie in the always-on island: DEV, PWR, CLK, IMG, REC and UPD (Table 1.1, R456, R537). -/
def islandBlock (blk : Nat) : Bool := blk == 0 || blk == 1 || blk == 2 || blk == 3 || blk == 0x11 || blk == 0x13

/-- SLC_STATUS of a slice, which the island holds (R563). -/
def slcStatusAddr (a : Nat) : Bool := a / 0x1000000 == 6 && a % 0x100000 == 0 && decide (a % 0x1000000 < 0x900000)

/-- The unit a register or counter address lies in: the switched domain, and the unit that a fence would make
unavailable (Tables 16.6 and 19.3). -/
def unitOfAddr (a : Nat) : Option (Nat × Option (Nat × Nat)) :=
  let blk := a / 0x1000000
  let off := a % 0x1000000
  if blk = 4 ∨ blk = 5 then
    if off < 0x800000 then some (off / 0x80000, some (4, off / 0x80000))
    else if 0xE00000 ≤ off ∧ off < 0xE80000 then some ((off - 0xE00000) / 0x8000, some (4, (off - 0xE00000) / 0x8000))
    else none
  else if blk = 6 ∨ blk = 8 then
    if off < 0x900000 then
      if slcStatusAddr a then none
      else some (18 + off / 0x100000, some (6, off / 0x100000))
    else if 0xE00000 ≤ off ∧ off < 0xE48000 then
      some (18 + (off - 0xE00000) / 0x8000, some (6, (off - 0xE00000) / 0x8000))
    else none
  else if blk = 0xD then
    if 0x100 ≤ off ∧ off < 0x140 then some (84 + (off - 0x100) / 0x10, some (0xD, 64 + (off - 0x100) / 0x10))
    else if 0x1000 ≤ off ∧ off < 0x1400 then some (84 + (off - 0x1000) / 0x100, some (0xD, 64 + (off - 0x1000) / 0x100))
    else if 0xE00000 ≤ off ∧ off < 0xE01000 then some (84 + (off - 0xE00000) / 0x400, some (0xD, 64 + (off - 0xE00000) / 0x400))
    else none
  else if blk = 0x10 then
    if 0x2000 ≤ off ∧ off < 0x2600 then some (16 + (off - 0x2000) / 0x300, none)
    else if 0xE40000 ≤ off ∧ off < 0xE41800 then some (16 + (off - 0xE40000) / 0xC00, none)
    else none
  else none

/-- Is the domain of an address available (R13, R34)? The fault registers and SLC_STATUS always are (R456, R563); in recovery mode
only DEV, IMG, REC and UPD are beside the fault registers (R512). -/
def availAddr (s : State) (a : Nat) : Bool :=
  let blk := a / 0x1000000
  if decide (0xF00000 ≤ a % 0x1000000) then true
  else if islandBlock blk then !(s.upd.recovery && (blk == 1 || blk == 2))
  else if slcStatusAddr a then !s.upd.recovery
  else if onData s && (clockPerUnit blk || !clockFenced s blk) then
    match unitOfAddr a with
    | none => true
    | some (d, u) => domOn s d && (match u with | none => true | some (b, n) => !isFenced s b n)
  else false

/-! ## The recorder's flash queue -/

/-- A record of Table 17.3 from its words 0 to n − 3. -/
def sealRec (l : List Word) : List Word :=
  l ++ [lo32 (crc32 (l.flatMap (fun w => beBytes 4 w.toNat))), 0x5A3CC3A5]

/-- Words 0 and 1 of a record, a body, and zeros up to `n` − 2 words, sealed (R479). -/
def mkRec (s : State) (rtype n : Nat) (body : List Word) : List Word :=
  let l := [mkF 31 28 rtype ||| mkF 27 24 (n / 16 - 1) ||| mkF 23 0 s.rcd.cycle, lo32 s.rcd.opSec] ++ body
  sealRec (l ++ List.replicate (n - 2 - l.length) 0)

/-- Queue a log record; a full queue counts it in REC_FLASH_SKIP unless it bypasses (R481). -/
def logRec (s : State) (words : List Word) (bypass : Bool) : State :=
  if bypass || decide (s.rcd.flashq.length < 1024) then
    { s with rcd := { s.rcd with flashq := s.rcd.flashq ++ [{ words := words, life := false }] } }
  else count s 0x11 0x28

/-- The life record of the recorder's present state (Table 17.4). -/
def lifeBody (s : State) : List Word :=
  let ext (q : Nat) : List Word :=
    let e := s.rcd.ext.get {} q
    match e.life with
    | none => [0, 0, 0, 0]
    | some (lo, hi) => [mkF 31 16 (codeOf 16 lo) ||| mkF 15 0 (codeOf 16 hi), lo32 e.minAt, lo32 e.maxAt, 0]
  [lo32 (s.rcd.saveSeq + 1), 0]
    ++ (List.range 96).map (fun i => lo32 (s.rcd.bins.get 0 i))
    ++ (List.range 6).flatMap ext

/-- Write a life record (R477): SAVE_SEQ increases by 1 and the record goes to the life ring. -/
def saveLife (s : State) : State :=
  let w := mkRec s 4 256 (lifeBody s)
  { s with rcd := { s.rcd with
      saveSeq := s.rcd.saveSeq + 1
      flashq := s.rcd.flashq ++ [{ words := w, life := true }] } }

/-! ## Events -/

/-- The enabled override of lowest number that names a code (REC_OVR_A_n). -/
def ovrOf (s : State) (code : Nat) : Option Nat :=
  (List.range 64).find? (fun n => rb s .recOvrA [n] 31 && rf s .recOvrA [n] 15 0 == code)

/-- RATE and BURST of a code (R467); a BURST of 0 acts as 1. -/
def rateBurst (s : State) (code : Nat) : Nat × Nat :=
  let (r, b) := match ovrOf s code with
    | some n => (rf s .recOvrB [n] 31 16, rf s .recOvrB [n] 7 0)
    | none => (rf s .recCfg [] 15 0, rf s .recCfg [] 23 16)
  (r, if b = 0 then 1 else b)

/-- A lazily kept bucket brought up to an instant: it refills at `rate` per ns up to `cap`. -/
def Bucket.refill (b : Bucket) (rate cap now : Nat) : Bucket :=
  { lvl := min cap (b.lvl + rate * (now - b.at')), at' := now }

/-- The report bucket of a code, up to date, in 10^-9 of a report (R467). -/
def codeBucket (s : State) (code : Nat) : Bucket :=
  let (r, b) := rateBurst s code
  ((s.rcd.buckets.find code).getD s.rcd.dfltB).refill r (b * 1000000000) s.now

/-- The report of an occurrence, with FOLDED := PEND and LOST := SAT (R468). -/
def mkReport (s : State) (code cls inst : Nat) (d4 d5 : Word) : Report :=
  let c := s.rcd.codes.get {} code
  { code := code, cls := cls, lost := c.sat, folded := c.pend, inst := inst, d4 := d4, d5 := d5,
    ns := tbNs s, frac := tbFrac s, tv := s.tgt.valid, flush := false }

/-- An occurrence is accepted when its bucket holds a token and the report queue has a free entry (R468). -/
def accepts (s : State) (code : Nat) : Bool :=
  decide (1000000000 ≤ (codeBucket s code).lvl) && decide (s.rcd.queue.length < 256)

/-- An accepted occurrence: one token, one report, PEND and SAT cleared (R468). -/
def acceptOcc (s : State) (code cls inst : Nat) (d4 d5 : Word) : State :=
  let c := s.rcd.codes.get {} code
  let b := codeBucket s code
  let s1 := { s with rcd := { s.rcd with
    queue := s.rcd.queue ++ [mkReport s code cls inst d4 d5]
    buckets := s.rcd.buckets.put code (some { b with lvl := b.lvl - 1000000000 })
    codes := s.rcd.codes.set {} code {} } }
  let s2 := bumpN (count s1 0x11 0x00) (cOff 0x11 0x10) c.pend
  if c.sat then count s2 0x11 0x18 else s2

/-- A folded occurrence: PEND rises and saturates at 0xFFFF; SAT sets once an occurrence is no longer counted, so that a report with
LOST stands for at least 1 + FOLDED occurrences (R466, R468, R470). DEDUCED. -/
def foldOcc (s : State) (code cls inst : Nat) (d4 d5 : Word) : State :=
  { s with rcd := { s.rcd with codes := s.rcd.codes.upd {} code (fun c =>
      { pend := min (c.pend + 1) 0xFFFF, sat := c.sat || decide (0xFFFF ≤ c.pend),
        last := some (inst, d4, d5, cls) }) } }

/-- One occurrence of an event: accepted or folded (R468). -/
def occur (s : State) (code cls inst : Nat) (d4 d5 : Word) : State :=
  if accepts s code then acceptOcc s code cls inst d4 d5 else foldOcc s code cls inst d4 d5

/-- An information event (class 0) with INSTANCE and DATA word 4. -/
def event (s : State) (code inst d4 : Nat) : State := occur s code 0 inst (lo32 d4) 0

/-- An information event with both DATA words. -/
def event2 (s : State) (code inst d4 d5 : Nat) : State := occur s code 0 inst (lo32 d4) (lo32 d5)

/-! ## Fault sources -/

/-- A source of Table 16.8: class 1 C, 2 U, 3 F; kind S or O; its event code. -/
structure FltInfo where
  /-- Class. -/
  cls : Nat
  /-- Kind S (a condition). -/
  kindS : Bool
  /-- Event code; 0 for the code of R461. -/
  code : Nat
deriving DecidableEq, Repr

/-- Class and kind of the sources of a block, bit by bit: (class, kind S, event) (Table 16.8). -/
def fltTable : Nat → List (Nat × Bool × Nat)
  | 0x00 => [(2, false, 0), (2, true, 0), (3, true, 0), (3, true, 0)]
  | 0x01 => [(1, true, 0), (1, true, 0), (1, true, 0), (2, true, 0), (3, true, 0), (2, true, 0), (3, true, 0)]
  | 0x02 => [(3, true, 0), (3, true, 0), (3, true, 0), (2, true, 0), (2, true, 0), (2, true, 0)]
  | 0x03 => [(1, false, 0), (2, false, 0)]
  | 0x04 => [(1, false, 0), (2, false, 0), (2, true, 0)]
  | 0x05 => [(1, false, 0), (2, false, 0)]
  | 0x06 => [(1, false, 0), (2, false, 0), (2, false, 0), (1, false, 0), (2, true, 0x1807), (2, false, 0), (2, true, 0x1801)]
  | 0x07 => [(1, false, 0), (2, false, 0x1C01), (2, false, 0x1C02)]
  | 0x08 => [(1, false, 0), (2, false, 0)]
  | 0x09 => [(1, false, 0x2402), (2, false, 0x2401), (1, false, 0), (2, false, 0), (2, false, 0x2403), (1, false, 0x2406), (2, true, 0x2407)]
  | 0x0A => [(2, false, 0x2801), (1, false, 0), (2, false, 0), (1, false, 0), (2, true, 0x2804), (2, false, 0x2801), (2, false, 0x2801)]
  | 0x0B => [(1, false, 0), (1, false, 0x2C01), (2, true, 0x2C03), (2, true, 0x2C07), (2, false, 0x2C08), (2, false, 0), (1, true, 0x2C06)]
  | 0x0C => [(2, false, 0x3002), (1, false, 0), (2, false, 0)]
  | 0x0D => [(1, false, 0), (2, false, 0x3402), (2, true, 0x3401), (2, true, 0x3403), (2, true, 0x3405), (2, true, 0), (2, false, 0x3407)]
  | 0x0E => [(1, false, 0), (2, false, 0)]
  | 0x0F => [(2, false, 0), (1, false, 0), (2, true, 0)]
  | 0x10 => [(1, false, 0), (2, false, 0), (1, false, 0), (2, true, 0x4003), (2, false, 0x4008), (2, false, 0x4007)]
  | 0x11 => [(2, false, 0)]
  | 0x13 => [(2, false, 0)]
  | _ => []

/-- A source of Table 16.8, or XDOM, bit 31 of every block (R454); none for a reserved bit. -/
def fltInfo (blk bit : Nat) : Option FltInfo :=
  if bit = 31 then
    if blk < 21 then some { cls := 2, kindS := true, code := blk * 0x400 + 0x3FF } else none
  else match (fltTable blk)[bit]? with
    | none => none
    | some (c, k, e) => some { cls := c, kindS := k, code := if e = 0 then blk * 0x400 + 0x3E0 + bit else e }

/-- FLT_MASK of a block. -/
def fltMask (s : State) (blk : Nat) : Word := regRaw s .fltMask [blk]

/-- The fault registers of a block. -/
def fltOf (s : State) (blk : Nat) : FltRegs := s.flt.blk.get {} blk

/-- Set the fault registers of a block. -/
def setFlt (s : State) (blk : Nat) (r : FltRegs) : State := { s with flt := { s.flt with blk := s.flt.blk.set {} blk r } }

/-- FLT_FIRST takes a source. -/
def FltRegs.take (r : FltRegs) (now cls src inst : Nat) : FltRegs :=
  { r with valid := true, cls := cls, src := src, inst := inst, latchAt := now }

/-- FLT_FIRST at the rise of a source that is not masked (R458). Rises of one nanosecond are rises of one cycle: the one of the
highest class, and then of the lowest bit, is latched, and the others set OVF. The nanosecond as the cycle is the model's choice
(log entry 69). -/
def FltRegs.latch (r : FltRegs) (now cls src inst : Nat) : FltRegs :=
  if !r.valid then r.take now cls src inst
  else if decide (r.latchAt = now) && (decide (r.cls < cls) || (decide (r.cls = cls) && decide (src < r.src)))
    then { r.take now cls src inst with ovf := true }
  else { r with ovf := true }

/-- The rises of the cycle `now`. -/
def FltRegs.risesAt (r : FltRegs) (now : Nat) : List (Nat × Nat × Nat) := if r.riseAt = now then r.rises else []

/-- FLT_LIVE and FLT_STICKY at a rise, and FLT_FIRST unless the source is masked (R455, R458). -/
def FltRegs.rise (r : FltRegs) (masked : Bool) (now cls src inst : Nat) : FltRegs :=
  let r1 := { r with live := setBit r.live src true, sticky := setBit r.sticky src true }
  if masked then r1
  else FltRegs.latch { r1 with riseAt := now, rises := r.risesAt now ++ [(cls, src, inst)] } now cls src inst

/-- A write of VALID = 1 to FLT_FIRST: it clears the latch and re-arms it, and a rise of the same cycle is then latched (R458). -/
def FltRegs.rearm (r : FltRegs) (now : Nat) : FltRegs :=
  (r.risesAt now).foldl (fun x e => x.latch now e.1 e.2.1 e.2.2) { r with valid := false, ovf := false, cls := 0, src := 0, inst := 0 }

/-- Enter the fatal state at the rise of a class F source (R462): DEV_FATAL takes the first one, the pin follows the
masks, and the recorder writes a fatal record and a life record (R477, R481). -/
def fatalEnter (s : State) (blk bit inst : Nat) (masked : Bool) : State :=
  let pin := s.flt.pin || !masked
  if s.flt.fatal then { s with flt := { s.flt with pin := pin } }
  else
    let s1 := { s with flt := { s.flt with fatal := true, pin := pin, firstF := some (blk, bit, inst) } }
    let w : Word := mkF 31 31 1 ||| mkB 30 pin ||| mkF 29 24 blk ||| mkF 20 16 bit ||| mkF 15 0 inst
    let ns := tbNs s1
    saveLife (logRec s1 (mkRec s1 3 16 [w, lo32 (ns >>> 16), mkF 31 16 ns]) true)

/-- A source rises: FLT_LIVE, FLT_STICKY, FLT_FIRST, its event, and for class F the fatal state (R455, R458, R461,
R462). `inst` is the unit; the action of Table 16.8 is the caller's. -/
def faultRise (s : State) (blk bit inst : Nat) (d4 d5 : Word) : State :=
  match fltInfo blk bit with
  | none => s
  | some i =>
    let masked := tbit (fltMask s blk) bit
    let key := blk * 32 + bit
    let s1 := setFlt s blk ((fltOf s blk).rise masked s.now i.cls bit inst)
    let s2 := if i.kindS then { s1 with flt := { s1.flt with held := s1.flt.held.set false (key * 65536 + inst % 65536) true } }
      else { s1 with flt := { s1.flt with occUntil := s1.flt.occUntil.set 0 key (s1.now + 1000000) } }
    let s3 := if masked then s2 else occur s2 i.code i.cls (inst % 65536) d4 d5
    if i.cls = 3 then fatalEnter s3 blk bit inst masked else s3

/-- A rise whose event carries the DATA of R461: the source bit in word 4. -/
def faultRise0 (s : State) (blk bit inst : Nat) : State := faultRise s blk bit inst (lo32 bit) 0

/-- Does the unit hold the condition of a kind S source? -/
def holds (s : State) (blk bit unit : Nat) : Bool := s.flt.held.get false ((blk * 32 + bit) * 65536 + unit)

/-- Does any unit hold the condition of a kind S source? -/
def anyHolds (s : State) (blk bit : Nat) : Bool := s.flt.held.keys.any (fun k => k / 65536 == blk * 32 + bit)

/-- A unit leaves the condition of a kind S source; FLT_LIVE falls with the last one (R455, R460). -/
def faultFall (s : State) (blk bit unit : Nat) : State :=
  let s1 := { s with flt := { s.flt with held := s.flt.held.set false ((blk * 32 + bit) * 65536 + unit) false } }
  if anyHolds s1 blk bit then s1
  else setFlt s1 blk { fltOf s1 blk with live := setBit (fltOf s1 blk).live bit false }

/-- A condition that begins: the source rises unless the unit already holds it. -/
def condRise (s : State) (blk bit unit : Nat) (d4 d5 : Word) : State :=
  if holds s blk bit unit then s else faultRise s blk bit unit d4 d5

/-- Mark a unit of Table 16.6 fenced or not (FLT_FENCE). -/
def setFenced (s : State) (blk unit : Nat) (b : Bool) : State :=
  { s with flt := { s.flt with fenced := s.flt.fenced.set false (blk * 65536 + unit) b } }

/-- The fenced units of a block, ascending. -/
def fencedUnits (s : State) (blk : Nat) : List Nat :=
  (s.flt.fenced.keys.filter (fun k => k / 65536 == blk)).map (fun k => k % 65536)

/-! ## Staged values -/

/-- The address a staged value belongs to: a node key (2^32 and above) belongs to SCH. -/
def keyBlock (k : Nat) : Nat := if 2 ^ 32 ≤ k then 0x0E else k / 0x1000000

/-- Is the ST domain that holds a staged value available? -/
def keyAvail (s : State) (k : Nat) : Bool := if 2 ^ 32 ≤ k then onData s && !clockFenced s 0x0E else availAddr s k

/-- The domains of a list of staged keys, each as block × 1,024 + switched domain + 1 (0 for the block's own), without repeats.
What counts as one domain in event 0x0022 is the model's choice (log entry 53): a block's part of a switched domain, so that a lost
clock domain of Table 1.4 counts once per block. -/
def keyDoms (l : List Nat) : List Nat :=
  (l.map (fun k => keyBlock k * 1024 + (match unitOfAddr k with | some (d, _) => d + 1 | none => 0))).eraseDups

/-- Domains that have become unavailable lose their open and sealed values, and the controller records the loss
(R48, R49). Run after every operation that fences a unit or takes a domain down. -/
def dropLost (s : State) : State :=
  let lo := s.fur.opn.keys.filter (fun k => !keyAvail s k)
  let ls := s.fur.sld.keys.filter (fun k => !keyAvail s k)
  { s with fur := { s.fur with
      opn := s.fur.opn.filter (fun k _ => keyAvail s k)
      sld := s.fur.sld.filter (fun k _ => keyAvail s k)
      lostOpn := (s.fur.lostOpn ++ keyDoms lo).eraseDups
      lostSld := (s.fur.lostSld ++ keyDoms ls).eraseDups } }

/-- The value that a write to an ST register stages over: the open value if one is written, else the value in effect. -/
def openOr (s : State) (r : Reg) (idx : List Nat) : Word := (s.fur.opn.find (r.addr idx)).getD (regRaw s r idx)

/-- Stage a value for an ST register (R19). In direct mode the caller applies it at once (R50). -/
def stage (s : State) (r : Reg) (idx : List Nat) (v : Word) : State :=
  { s with fur := { s.fur with opn := s.fur.opn.put (r.addr idx) (some v) } }

/-- Fold an operation over a list of numbers. -/
def forEach (l : List Nat) (f : Nat → State → State) (s : State) : State := l.foldl (fun t n => f n t) s

/-- The clusters that a CLASS_B value names. -/
def clustersOf (b : Word) : List Nat := (List.range 8).filter (fun k => tbit b (24 + k))

end Sys2Proof.Machine
end

