-- ==== Sys2Proof/Machine/Counters.lean ====
section
/-! DEFINITION. The counter map: where each counter's two words stand (R11, R22), and the two paged windows. -/

namespace Sys2Proof.Machine

/-- The counters of a block, by the offset of a row's first low word from 0x00E0_0000 and its index dimensions. A row
of eight-byte steps stands for as many counters. -/
def ctrRows : Nat → List (Nat × List (Nat × Nat))
  | 0x00 => [(0x000, [(4, 8)]), (0x040, [(8, 8)]), (0x080, [(8, 8)]), (0x0C0, [(8, 8)]), (0x100, [(1, 8)])]
  | 0x01 => [(0, [(4, 8)])]
  | 0x03 => [(0, [(5, 8)])]
  | 0x04 => [(0, [(16, 0x8000), (8, 0x400), (16, 8)]), (0x2000, [(16, 0x8000), (8, 8)])]
  | 0x05 => [(0, [(16, 0x8000), (8, 8)])]
  | 0x06 => [(0, [(9, 0x8000), (6, 0x40), (8, 8)]), (0x200, [(9, 0x8000), (10, 8)]), (0x80000, [(16, 8)])]
  | 0x07 => [(0, [(8, 8)])]
  | 0x08 => [(0, [(9, 0x8000), (9, 8)])]
  | 0x09 => [(0, [(9, 8)]), (0x100, [(32, 0x10), (2, 8)])]
  | 0x0A => [(0, [(11, 8)]), (0x400, [(64, 8)]), (0x40000, [(16384, 8)])]
  | 0x0B => [(0, [(32, 0x400), (5, 8)]), (0x100, [(32, 0x400), (66, 8)]), (0x80000, [(3, 8)]), (0x80100, [(16, 8)])]
  | 0x0C => [(0, [(10, 8)]), (0x50, [(8, 8)])]
  | 0x0D => [(0, [(64, 0x40), (6, 8)]), (0x80000, [(4, 8)])]
  | 0x0E => [(0, [(128, 0x40), (5, 8)]), (0x20000, [(1, 8)])]
  | 0x0F => [(0, [(128, 0x20), (2, 8)]), (0x80000, [(2, 8)])]
  | 0x10 => [(0, [(21, 8)]), (0x40000, [(192, 0x20), (4, 8)])]
  | 0x11 => [(0, [(7, 8)])]
  | 0x12 => [(0, [(8, 8)]), (0x40, [(8, 8)])]
  | 0x13 => [(0, [(8, 8)])]
  | 0x14 => [(0x20, [(15, 0x20), (4, 8)])]
  | _ => []

/-- Key of counter `off` of egress or ingress queue q, beyond every address (R344). -/
def qCtr (q off : Nat) : Nat := 2 ^ 40 + q * 0x20 + off

/-- Key of counter `off` of policer i (R394). -/
def polCtr (i off : Nat) : Nat := 2 ^ 41 + i * 0x20 + off

/-- The counter whose low word stands at an address: its key. The windows of BPM queues and SCH policers show the page
that BPM_QCNT_PAGE or SCH_POL_PAGE holds (R344, R394). -/
def ctrLow (s : State) (a : Nat) : Option Nat :=
  let blk := a / 0x1000000
  let off := a % 0x1000000
  if off < 0xE00000 ∨ 0xF00000 ≤ off then none
  else
    let o := off - 0xE00000
    if blk = 0x0C ∧ 0x80000 ≤ o ∧ o < 0x88000 then
      if o % 8 = 0 then some (qCtr (rf s .bpmQcntPage [] 9 0 * 1024 + (o - 0x80000) / 0x20) (o % 0x20)) else none
    else if blk = 0x0E ∧ 0x80000 ≤ o ∧ o < 0x88000 then
      if o % 8 = 0 ∧ o % 0x20 < 0x18 then
        some (polCtr (rf s .schPolPage [] 5 0 * 1024 + (o - 0x80000) / 0x20) (o % 0x20)) else none
    else if (ctrRows blk).any (fun r => decide (r.1 ≤ o) && (splitDims r.2 (o - r.1)).isSome) then some a
    else none

/-- The counter word at an address: its counter's key, and whether it is the high word. -/
def ctrWord (s : State) (a : Nat) : Option (Nat × Bool) :=
  match ctrLow s a with
  | some k => some (k, false)
  | none => if a < 4 then none else (ctrLow s (a - 4)).map (fun k => (k, true))

/-- The high word of a counter (R22). -/
def Ctr.hi (c : Ctr) : Word := mkF 15 0 (c.cnt.toNat >>> 32) ||| mkB 31 c.ovf

/-- The key of a latch, by adapter slot and place: place 0 is the one latch that the slot's counter pairs share (R23), and any other
the address of a word that a field map latches with another. -/
def latchKey (slot k : Nat) : Nat := slot * 2 ^ 48 + k

/-- A read of a low word latches the high word for the reading slot (R23). -/
def ctrReadLow (s : State) (slot k : Nat) : State × Word :=
  let c := ctrAt s k
  ({ s with latch := s.latch.set 0 (latchKey slot 0) c.hi }, lo32 c.cnt.toNat)

/-- A read of a high word returns the slot's one latch, whichever counter's low word the slot read last (R23). -/
def ctrReadHigh (s : State) (slot : Nat) : Word := s.latch.get 0 (latchKey slot 0)

/-- An owner write of a low word sets count bits [31:0] and clears [47:32] (R483). -/
def ctrWriteLow (s : State) (k : Nat) (v : Word) : State :=
  { s with ctr := s.ctr.upd {} k (fun c => { c with cnt := BitVec.ofNat 48 v.toNat }) }

/-- An owner write of a high word sets bits [47:32], and a 1 in bit 31 clears OVF (R483). -/
def ctrWriteHigh (s : State) (k : Nat) (v : Word) : State :=
  { s with ctr := s.ctr.upd {} k (fun c =>
      { cnt := BitVec.ofNat 48 (c.cnt.toNat % 2 ^ 32 + fld v 15 0 * 2 ^ 32), ovf := c.ovf && !tbit v 31 }) }

/-- The offsets that index dimensions (count, stride) span from an offset. -/
def dimOffs : List (Nat × Nat) → Nat → List Nat
  | [], o => [o]
  | (n, st) :: rest, o => (List.range n).flatMap (fun i => dimOffs rest (o + i * st))

/-- The keys of the counters of a block. -/
def ctrKeys (blk : Nat) : List Nat := (ctrRows blk).flatMap (fun r => (dimOffs r.2 r.1).map (cOff blk))

/-- The keys of the counters that lie in a switched domain (Table 19.3). -/
def domCtrs (d : Nat) : List Nat :=
  ([4, 5, 6, 8, 0xD, 0x10].flatMap ctrKeys).filter (fun k => match unitOfAddr k with | some (x, _) => x == d | none => false)

/-- The counters of a domain that is powered again restart at 0 with OVF set (R482). -/
def restartCtrs (s : State) (d : Nat) : State :=
  forEach (domCtrs d) (fun k t => { t with ctr := t.ctr.set {} k { cnt := 0, ovf := true } }) s

/-- The power-up restore: RW and ST bits of the domain's registers keep the values in effect, and its other bits are as after
reset (R525). LP_EGR_LAT_i follows the mode, which is restored. -/
def domRestore (s : State) (d : Nat) : State :=
  { s with regs := s.regs.entries.foldl (fun m e =>
      match unitOfAddr e.1 with
      | some (x, _) => if x = d then
          match regAt e.1 with
          | some (r, idx) =>
            let keep := if r = .lpEgrLat then (0xFFFFFFFF : Word) else r.info.rw ||| r.info.st
            m.set (r.reset idx) e.1 ((e.2 &&& keep) ||| (r.reset idx &&& ~~~keep))
          | none => m
        else m
      | none => m) s.regs }

/-- A switched domain has been switched: PWR_SWITCHES, event 0x0401, and when it is on its registers are restored and its
counters restart (R482, R524, R525). -/
def domSwitched (s : State) (d : Nat) (on : Bool) : State :=
  let s1 := { s with pwr := { s.pwr with doms := s.pwr.doms.set {} d { st := if on then .on else .off } } }
  let s2 := event (count s1 1 0x10) 0x0401 d on.toNat
  if on then restartCtrs (domRestore s2 d) d else s2

/-- Domains that ramp now: up to 32 at once (R527). -/
def ramping (s : State) : Nat := (s.pwr.doms.entries.filter (fun e => e.2.st == .switching)).length

/-- The switch of a domain begins: its gate closes, and what was staged in a domain that goes off is lost (R524, R525). DOMAIN_OC falls for a
domain that had tripped (R529). -/
def rampStart (s : State) (d : Nat) (on : Bool) : State :=
  let s1 := { s with pwr := { s.pwr with doms := s.pwr.doms.set {} d { st := .switching, toOn := on } } }
  let s2 := if holds s1 1 3 d then faultFall s1 1 3 d else s1
  if on then s2 else dropLost s2

/-- Waiting requests begin in order, as far as domains may ramp (R527); one whose domain is so already has no effect (R523). -/
def rampGo (s : State) : List (Nat × Bool) → State
  | [] => { s with pwr := { s.pwr with rampq := [] } }
  | (d, on) :: rest =>
    if 32 ≤ ramping s || domSt s d == .switching then { s with pwr := { s.pwr with rampq := (d, on) :: rest } }
    else if (if on then domSt s d == .on else (domSt s d == .off || domSt s d == .tripped)) then rampGo s rest
    else rampGo (rampStart s d on) rest

/-- A place to ramp may be free (R527). -/
def rampNext (s : State) : State := if s.pwr.rampq.isEmpty then s else rampGo s s.pwr.rampq

/-- A switch that the host asks for waits its turn (R527). -/
def rampAsk (s : State) (d : Nat) (on : Bool) : State :=
  rampNext { s with pwr := { s.pwr with rampq := s.pwr.rampq ++ [(d, on)] } }

/-- A switch off that waits until the armed set has applied, or waits no longer (R528). -/
def domWait (s : State) (d : Nat) (w : Bool) : State :=
  { s with pwr := { s.pwr with doms := s.pwr.doms.upd {} d (fun x => { x with waitSet := w }) } }

/-- A block switches a domain that it controls (Table 19.3): a domain already in the state asked for stays as it is, and a
tripped one stays off until the owner switches it on (R529). A host's switch that still runs is completed first (R527). -/
def blockSwitch (s : State) (d : Nat) (on : Bool) : State :=
  match domSt s d, on with
  | .off, true => domSwitched s d true
  | .on, true => domWait s d false
  | .on, false => if s.fur.armed then domWait s d true else domSwitched s d false
  | .switching, _ =>
    let dom := s.pwr.doms.get {} d
    let s1 := domSwitched s d dom.toOn
    if dom.toOn = on then s1 else domSwitched s1 d on
  | _, _ => s

/-- A sealed furlong set holds values for the domain (R528). -/
def sealedFor (s : State) (d : Nat) : Bool :=
  s.fur.sld.keys.any (fun k => decide (k < 2 ^ 32) && (match unitOfAddr k with | some (x, _) => x == d | none => false))

end Sys2Proof.Machine
end

