-- ==== Sys2Proof/Machine/ChainTx.lean ====
section
/-! DEFINITION. Chain frames: their header fields and checks, and how the node launches and queues them
(chapter The Githar Chain). -/

namespace Sys2Proof.Machine

/-- Field [hi:lo] of a frame's header (Table 2.2). -/
def hf (f : ChainFrame) (hi lo : Nat) : Nat := bitsOf f.hdr.toNat hi lo

/-- TYPE. -/
def fType (f : ChainFrame) : Nat := hf f 127 124
/-- LRING. -/
def fLring (f : ChainFrame) : Nat := hf f 123 123
/-- WRAPS. -/
def fWraps (f : ChainFrame) : Nat := hf f 122 121
/-- HOPS. -/
def fHops (f : ChainFrame) : Nat := hf f 119 112
/-- DST. -/
def fDst (f : ChainFrame) : Nat := hf f 111 105
/-- SRC. -/
def fSrc (f : ChainFrame) : Nat := hf f 104 98
/-- TAG. -/
def fTag (f : ChainFrame) : Nat := hf f 97 86
/-- EPOCH. -/
def fEpoch (f : ChainFrame) : Nat := hf f 85 70
/-- LEN. -/
def fLen (f : ChainFrame) : Nat := hf f 69 60
/-- STATUS. -/
def fStatus (f : ChainFrame) : Nat := hf f 59 52
/-- OP. -/
def fOp (f : ChainFrame) : Nat := hf f 51 48
/-- ADDR. -/
def fAddr (f : ChainFrame) : Nat := hf f 47 16
/-- Payload word i, 0 beyond the payload. -/
def fWord (f : ChainFrame) (i : Nat) : Word := f.payload.getD i 0

/-- A header with field [hi:lo] set. -/
def hset (h : BitVec 128) (hi lo v : Nat) : BitVec 128 :=
  let m := (2 ^ (hi + 1 - lo) - 1) <<< lo
  BitVec.ofNat 128 ((h.toNat &&& (2 ^ 128 - 1 - m)) ||| ((v % 2 ^ (hi + 1 - lo)) <<< lo))

/-- HCRC over bits [127:16] (Table 2.2). -/
def hcrcOf (h : BitVec 128) : Nat := crcBits 16 0x1021 0xFFFF (msbBits 112 (h.toNat >>> 16))

/-- FCRC over header and payload, with HOPS, WRAPS and HCRC taken as zero (R60). -/
def fcrcOf (h : BitVec 128) (payload : List Word) : Nat :=
  crc32 (beBytes 16 (hset (hset (hset h 119 112 0) 122 121 0) 15 0 0).toNat
    ++ payload.flatMap (fun w => beBytes 4 w.toNat))

/-- The frame with its HCRC computed. -/
def rehash (f : ChainFrame) : ChainFrame := { f with hdr := hset f.hdr 15 0 (hcrcOf f.hdr) }

/-- The frame with FCRC and HCRC computed. -/
def sealFrame (f : ChainFrame) : ChainFrame :=
  rehash { f with fcrc := BitVec.ofNat 32 (fcrcOf f.hdr f.payload) }

/-- Is HCRC right, and does LEN fit the payload? -/
def headOk (f : ChainFrame) : Bool := hf f 15 0 == hcrcOf f.hdr

/-- Is FCRC right, and does LEN agree with the payload (R59, R61)? -/
def frameOk (f : ChainFrame) : Bool := f.fcrc.toNat == fcrcOf f.hdr f.payload && fLen f == f.payload.length

/-- A frame the node originates: HOPS 160, WRAPS 0, LEN the payload's length, PRIO for the control types. -/
def mkFrame (ty ring dst src tag epoch status op addr : Nat) (payload : List Word) : ChainFrame :=
  let h := ty <<< 124 ||| (ring % 2) <<< 123 ||| (if 8 ≤ ty ∧ ty ≤ 10 then 1 else 0) <<< 120 ||| 160 <<< 112
    ||| (dst % 128) <<< 105 ||| (src % 128) <<< 98 ||| (tag % 4096) <<< 86 ||| (epoch % 65536) <<< 70
    ||| (payload.length % 1024) <<< 60 ||| (status % 256) <<< 52 ||| (op % 16) <<< 48 ||| (addr % 2 ^ 32) <<< 16
  sealFrame { hdr := BitVec.ofNat 128 h, payload := payload, fcrc := 0, errEnd := false }

/-- Change the chain state. -/
def modChain (s : State) (f : ChainSt → ChainSt) : State := { s with chain := f s.chain }

/-- The node ID of the device (R58). -/
def nodeId (s : State) : Nat := s.node.addr

/-- The 48-bit serial as a number. -/
def serialNat : Nat := Config.serial.toNat

/-- Class of a frame type: 0 control, 1 transaction, 2 packet channel (Table 2.3). -/
def classOf (ty : Nat) : Nat := if 8 ≤ ty ∧ ty ≤ 10 then 0 else if ty = 5 ∨ ty = 6 then 2 else 1

/-- The side on which a ring leaves the node: ring A by the east, ring B by the west (R54). -/
def exitSide (s : State) (ring : Nat) : Side := if ring % 2 = 0 then s.chain.east else s.chain.west

/-- The port at which a ring leaves: EA for ring A, WB for ring B (R54). -/
def exitPort (ring : Nat) : Nat := if ring % 2 = 0 then 1 else 2

/-- Bytes a frame takes in a transit buffer: header, payload and FCRC. -/
def frameBytes (f : ChainFrame) : Nat := 20 + 4 * f.payload.length

/-- Queue a frame at an output port; a transit frame that does not fit in 64 KiB is dropped and counted (R66). -/
def pushPort (s : State) (port : Nat) (f : ChainFrame) (transit : Bool) : State :=
  let k := port * 3 + classOf (fType f)
  let q := s.chain.txq.get {} k
  if transit then
    if (q.transit.map frameBytes).sum + frameBytes f ≤ 65536 then
      modChain s (fun c => { c with txq := c.txq.set {} k { q with transit := q.transit ++ [f] } })
    else count s 0x00 0x48
  else modChain s (fun c => { c with txq := c.txq.set {} k { q with localQ := q.localQ ++ [f] } })

/-- Send a frame on a ring, wrapping it where its exit side is wrapped; a third wrap, or an isolated node, discards
it and counts it in DEV_CH_HOPDROP (R62, R82). -/
def sendOn (s : State) (ring : Nat) (f : ChainFrame) (transit : Bool) : State :=
  if (exitSide s ring).wrapped then
    if (exitSide s (ring + 1)).wrapped ∨ fWraps f = 2 then count s 0x00 0x40
    else pushPort s (exitPort (ring + 1)) (rehash { f with hdr := hset f.hdr 122 121 (fWraps f + 1) }) transit
  else pushPort s (exitPort ring) f transit

/-- A device without an address originates no frame but ring state frames and the ACK of an enumeration, beside link status (R64). -/
def mayOriginate (s : State) (f : ChainFrame) : Bool := decide (nodeId s ≠ 0) || fType f == 9 || (fType f == 7 && fOp f == 3)

/-- Launch a frame the node originates: LRING names the ring. -/
def launch (s : State) (ring : Nat) (f : ChainFrame) : State :=
  if mayOriginate s f then sendOn s ring (sealFrame { f with hdr := hset f.hdr 123 123 (ring % 2) }) false else s

/-- May the node send broadcasts under an ID of its own (R64, R65)? -/
def mayBroadcast (s : State) : Bool := onChain s && decide (nodeId s ≠ 0) && decide (s.chain.holdUntil ≤ s.now)

/-- Launch a broadcast on ring A with the next TAG (R63, R65, R67). -/
def broadcast (s : State) (ty op : Nat) (payload : List Word) : State :=
  let f := mkFrame ty 0 63 (nodeId s) s.chain.nextTag 0 0 op 0 payload
  launch (modChain s (fun c => { c with nextTag := (c.nextTag + 1) % 4096 })) 0 f

/-- A side's code in ring state frames, walk records and DEV_CHAIN_RING. -/
def SideState.code : SideState → Nat
  | .down => 0 | .stable => 1 | .join => 2 | .up => 3

/-- Send the ring state frame of R83, at most one per 10 µs; a change that comes earlier waits. While the node has no
address, or during the 10 ms of R65, it is sent with SRC 0. -/
def sendRingState (s : State) : State :=
  if s.now < s.chain.ringStateAt then modChain s (fun c => { c with ringStateDue := true })
  else
    let s1 := modChain s (fun c => { c with ringStateDue := false, ringStateAt := s.now + 10000 })
    let p : List Word := [mkF 31 25 (nodeId s) ||| mkF 3 2 s.chain.west.st.code ||| mkF 1 0 s.chain.east.st.code,
      lo32 (serialNat >>> 32), lo32 serialNat]
    if mayBroadcast s then broadcast s1 9 0 p
    else launch s1 0 (mkFrame 9 0 63 0 0 0 0 0 0 p)

/-- A node ID change: broadcasts wait 10 ms and restart at TAG 0 (R65). -/
def setNodeId (s : State) (a : Nat) : State :=
  if a = s.node.addr then s
  else modChain { s with node := { s.node with addr := a } } (fun c => { c with nextTag := 0, holdUntil := s.now + 10000000 })

/-- Place in a list of the first element that passes a test. -/
def indexWhere {α : Type} (p : α → Bool) : List α → Nat → Option Nat
  | [], _ => none
  | a :: rest, i => if p a then some i else indexWhere p rest (i + 1)

/-- The ring for a unicast frame the device originates, by the ring order of the last RING frame (R67). -/
def ringFor (s : State) (dst : Nat) : Nat :=
  match s.chain.ring with
  | none => 0
  | some (own, recs) =>
    let nodes : List (Nat × Nat) := (own, 2 ^ 48) :: recs
    match indexWhere (fun r => r.2 == serialNat) nodes 0, indexWhere (fun r => r.1 == dst) nodes 0 with
    | some me, some you =>
      let n := nodes.length
      let fwd := (you + n - me) % n
      let bwd := (me + n - you) % n
      if bwd < fwd then 1 else 0
    | _, _ => 0

/-- Launch a unicast frame. -/
def unicast (s : State) (f : ChainFrame) : State := launch s (ringFor s (fDst f)) f

/-- Does a lease name this slot as a live holder (R71)? -/
def liveSlot (l : Lease) (slot : Nat) : Bool := l.st == .live && l.slot == slot

/-- The owner session: the slot that holds the live owner lease (R17). -/
def isOwner (s : State) (slot : Nat) : Bool := liveSlot s.node.owner slot

/-- The timekeeper session. -/
def isTk (s : State) (slot : Nat) : Bool := liveSlot s.node.tk slot

end Sys2Proof.Machine
end

