-- ==== Sys2Proof/Machine/Blocks.lean ====
section
/-! DEFINITION. What a chain port puts on its two lanes for a frame: 64B/66B blocks, scrambled and dealt, with lane markers (R55, R56). The
layout of the blocks is that of IEEE 802.3 Clause 82; what the manual leaves open beside it is in log entry 55. -/

namespace Sys2Proof.Machine

/-- Bytes in the order of transmission, each least significant bit first. -/
def octetBits (l : List Byte) : List Bool := l.flatMap (fun b => lsbBits 8 b.toNat)

/-- The bytes of a frame in the order of transmission: header, payload, FCRC (R59). -/
def frameOctets (f : ChainFrame) : List Byte :=
  beBytes 16 f.hdr.toNat ++ f.payload.flatMap (fun w => beBytes 4 w.toNat) ++ beBytes 4 f.fcrc.toNat

/-- A control block: its type, up to seven bytes, and control characters of value 0. -/
def ctlBlock (type : Byte) (l : List Byte) : LineBlock := { ctl := true, bits := octetBits (type :: (l ++ List.replicate (7 - l.length) 0)) }

/-- The start block carries the first seven bytes. -/
def startBlock (l : List Byte) : LineBlock := ctlBlock 0x78 l

/-- The terminate block with the last bytes of a frame, 0 to 7 of them. -/
def endBlock (l : List Byte) : LineBlock := ctlBlock ([0x87, 0x99, 0xAA, 0xB4, 0xCC, 0xD2, 0xE1, 0xFF].getD l.length 0x87) l

/-- Eight error characters. -/
def errorBlock : LineBlock := { ctl := true, bits := lsbBits 8 0x1E ++ (List.replicate 8 (lsbBits 7 0x1E)).flatten }

/-- Eight idle characters. -/
def idleBlock : LineBlock := ctlBlock 0x1E []

/-- The lane marker: an ordered set with O code 0xA and the lane in its first data byte. -/
def laneMarker (lane : Nat) : LineBlock := ctlBlock 0x4B [BitVec.ofNat 8 lane, 0, 0, 0x0A]

/-- The data blocks of the rest of a frame, and the block that ends it. -/
def restBlocks (bad : Bool) : Nat → List Byte → List LineBlock
  | 0, _ => []
  | n + 1, l =>
    if l.length < 8 then [if bad then errorBlock else endBlock l]
    else { ctl := false, bits := octetBits (l.take 8) } :: restBlocks bad n (l.drop 8)

/-- A frame as blocks: start, data, terminate, or an error block where the frame is known to be bad, and the two idle blocks that separate it from
the next (R56). -/
def frameBlocks (f : ChainFrame) : List LineBlock :=
  let l := frameOctets f
  startBlock (l.take 7) :: (restBlocks f.errEnd (l.length / 8 + 1) (l.drop 7) ++ [idleBlock, idleBlock])

/-- One bit through the self-synchronising scrambler x^58 + x^39 + 1: the state holds the last 58 bits sent, the latest lowest. -/
def scrambleBit (st : Nat) (b : Bool) : Bool × Nat :=
  let o := b != (st.testBit 38 != st.testBit 57)
  (o, (2 * st + o.toNat) % 2 ^ 58)

/-- The bits of a block through the scrambler. -/
def scramble : List Bool → Nat → List Bool × Nat
  | [], st => ([], st)
  | b :: rest, st =>
    let x := scrambleBit st b
    let y := scramble rest x.2
    (x.1 :: y.1, y.2)

/-- A block is scrambled and dealt to the lane whose turn it is; after 16,384 blocks each lane carries its marker (R55). -/
def dealLine (x : ChainLine) (b : LineBlock) : ChainLine :=
  let m := if x.n ≠ 0 ∧ x.n % 32768 = 0 then [(0, laneMarker 0), (1, laneMarker 1)] else []
  let y := scramble b.bits x.scr
  { x with scr := y.2, n := x.n + 1, blocks := x.blocks ++ m ++ [(x.n % 2, { b with bits := y.1 })] }

/-- A port puts a frame on its lanes. -/
def lineSend (port : Nat) (f : ChainFrame) (c : ChainSt) : ChainSt :=
  { c with line := c.line.upd {} port (fun x => (frameBlocks f).foldl dealLine { x with blocks := [] }) }

end Sys2Proof.Machine
end

