-- ==== Sys2Proof/Machine/Pcs.lean ====
section
/-! DEFINITION. The PCS and the RS(544,514) FEC of a transmitter (R130, R416): 64B/66B blocks of an Ethernet frame, 256B/257B transcoding,
scrambling, alignment markers, codewords and their distribution to lanes. PRESUMED from IEEE 802.3, which the rules name; what it fixes by
port type is Config.pcsForm (log entry 55). -/

namespace Sys2Proof.Machine

/-! ## RS(544,514) over GF(2^10) -/

/-- Multiplication by x modulo x^10 + x^3 + 1. -/
def gfX (a : Nat) : Nat := if a.testBit 9 then (2 * a) ^^^ 0x409 else 2 * a

/-- Product of two symbols. -/
def gfMul (a b : Nat) : Nat := (msbBits 10 b).foldl (fun r t => gfX r ^^^ (if t then a else 0)) 0

/-- Power of the primitive element. -/
def gfPow (j : Nat) : Nat := (List.range j).foldl (fun r _ => gfX r) 1

/-- The generator polynomial, with the 30 roots from the power 0 on, highest coefficient first. -/
def rsGen : List Nat := (List.range 30).foldl (fun g j => (g ++ [0]).zipWith (· ^^^ ·) (0 :: g.map (gfMul (gfPow j)))) [1]

/-- The 30 parity symbols of a message. -/
def rsParity (m : List Nat) : List Nat :=
  m.foldl (fun r c => ((r.drop 1) ++ [0]).zipWith (· ^^^ ·) ((rsGen.drop 1).map (gfMul (c ^^^ r.headD 0)))) (List.replicate 30 0)

/-- A codeword: 514 message symbols and their parity, in the order of transmission. -/
def rsWord (m : List Nat) : List Nat := m ++ rsParity m

/-! ## Blocks -/

/-- Four 64B/66B blocks as one of 257 bits: four data blocks behind a 1; else a 0, a bit for each block that is 1 for data, and the blocks
without the second half of the type of the first control block. -/
def xcode (l : List LineBlock) : List Bool :=
  let p := l.flatMap LineBlock.bits
  match l.findIdx? LineBlock.ctl with
  | none => true :: p
  | some c => false :: (l.map (fun b => !b.ctl) ++ p.take (64 * c + 4) ++ p.drop (64 * c + 8))

/-- The first five bits of a transcoded block of scrambled blocks are changed by the bits eight places behind. -/
def xcodeHead (t : List Bool) : List Bool := (t.take 5).zipWith (· != ·) (t.drop 8) ++ t.drop 5

/-- Ten bits as a symbol, the first bit lowest. -/
def symOf (l : List Bool) : Nat := l.foldr (fun b n => 2 * n + b.toNat) 0

/-- `n` symbols of a bit string. -/
def symsOf (n : Nat) (l : List Bool) : List Nat := (List.range n).map (fun i => symOf ((l.drop (10 * i)).take 10))

/-- The codewords of one group of messages: their symbols take turns. -/
def fecWords (g : PcsForm) (l : List Bool) : List (List Nat) :=
  let m := symsOf (514 * g.words) l
  (List.range g.words).map (fun w => rsWord ((m.zipIdx.filter (fun x => x.2 % g.words == w)).map Prod.fst))

/-- The symbols of interleaved codewords on the lanes, row by row; the codeword that a lane begins with alternates. -/
def fecLanes (g : PcsForm) (c : List (List Nat)) : List (Nat × Nat) :=
  (List.range (544 * g.words / g.lanes)).flatMap (fun k => (List.range g.lanes).map (fun l =>
    (l, (c.getD ((l + k) % g.words) []).getD (g.lanes / g.words * k + l / g.words) 0)))

/-- Codewords are sent as long as the bits fill their messages. -/
def fecCut (g : PcsForm) : Nat → FecTx → FecTx
  | 0, x => x
  | n + 1, x =>
    if g.words = 0 ∨ x.bits.length < 5140 * g.words then x
    else fecCut g n { x with bits := x.bits.drop (5140 * g.words), syms := x.syms ++ fecLanes g (fecWords g x.bits) }

/-- A transcoded block goes to the FEC, at its place behind the alignment markers. -/
def fecPut (g : PcsForm) (x : FecTx) (t : List Bool) : FecTx :=
  let b := x.bits ++ (if x.n % g.dist = 0 then g.marker else []) ++ t
  fecCut g b.length { x with bits := b, n := x.n + 1 }

/-- A transcoded block of blocks not yet scrambled is scrambled as a whole. -/
def fecScr (g : PcsForm) (x : FecTx) (t : List Bool) : FecTx :=
  let y := scramble t x.scr
  fecPut g { x with scr := y.2 } y.1

/-- A 64B/66B block of a flow; every fourth completes a transcoded block. -/
def fecBlock (g : PcsForm) (x : FecTx) (b : LineBlock) : FecTx :=
  let y := if g.scrFirst then scramble b.bits x.scr else (b.bits, x.scr)
  let w := x.wait ++ [{ b with bits := y.1 }]
  if w.length < 4 then { x with scr := y.2, wait := w }
  else
    let x1 := { x with scr := y.2, wait := [] }
    if g.scrFirst then fecPut g x1 (xcodeHead (xcode w)) else fecScr g x1 (xcode w)

/-- The blocks of an Ethernet frame, from its preamble to its FCS, and of the `gap` bytes behind it: the start block stands for the first byte
of the preamble, and the terminate block for the last bytes and the first of the gap. -/
def ethBlocks (l : List Byte) (gap : Nat) : List LineBlock :=
  startBlock ((l.drop 1).take 7) :: (restBlocks false (l.length / 8) (l.drop 8) ++ List.replicate ((gap + l.length % 8) / 8 - 1) idleBlock)

/-- Blocks are dealt to the flows of a port, whose last transmission they are. -/
def pcsSend (g : PcsForm) (m : SMap FecTx) (turn : Nat) (l : List LineBlock) : SMap FecTx :=
  l.zipIdx.foldl (fun (m : SMap FecTx) b => m.upd {} ((turn + b.2) % g.flows) (fun x => fecBlock g x b.1))
    ⟨m.entries.map (fun e => (e.1, { e.2 with syms := [] }))⟩

/-- A cell on a fabric lane is eight transcoded blocks of data (R416, R421). -/
def cellSend (g : PcsForm) (x : FecTx) (c : List Byte) : FecTx :=
  (List.range 8).foldl (fun y i => fecScr g y (true :: octetBits ((c.drop (32 * i)).take 32))) { x with syms := [] }

end Sys2Proof.Machine
end

