-- ==== Sys2Proof/Machine/Rec.lean ====
section
/-! DEFINITION. The event recorder: reports, flushes, the flash rings, histograms (R466 to R481). The register
commands' write checks are made in Machine/Access.lean; the effects are here. -/

namespace Sys2Proof.Machine

/-- Change the recorder state. -/
def modRec (s : State) (f : RecSt → RecSt) : State := { s with rcd := f s.rcd }

/-- The flush report of a code (R469). -/
def flushReport (s : State) (code : Nat) (c : CodeSt) : Report :=
  let (inst, d4, d5, cls) := c.last.getD (0, 0, 0, 0)
  { code := code, cls := cls, lost := c.sat, folded := if c.sat then 0xFFFF else c.pend - 1, inst := inst,
    d4 := d4, d5 := d5, ns := tbNs s, frac := tbFrac s, tv := s.tgt.valid, flush := true }

/-- Put waiting flush reports into free queue entries, in order (R469). -/
def fillQueue : List Report → State → State
  | [], s => modRec s (fun r => { r with flushWait := [] })
  | r :: rest, s =>
    if s.rcd.queue.length < 256 then
      let s1 := modRec s (fun x => { x with queue := x.queue ++ [r] })
      let s2 := bumpN (count (count s1 0x11 0x00) 0x11 0x08) (cOff 0x11 0x10) r.folded
      fillQueue rest (if r.lost then count s2 0x11 0x18 else s2)
    else modRec s (fun x => { x with flushWait := r :: rest })

/-- Move waiting flush reports to the queue; the flush completes, with event 0x4402, when the last one is queued (R469). -/
def stepFlush (s : State) : State :=
  match s.rcd.flushing with
  | none => s
  | some n =>
    let s1 := fillQueue s.rcd.flushWait s
    if s1.rcd.flushWait.isEmpty then event (modRec s1 (fun r => { r with flushing := none })) 0x4402 0 n else s1

/-- A flush: each code with PEND above 0 gives a flush report and PEND := 0; a life record is written (R469, R477). -/
def doFlush (s : State) : State :=
  let due := s.rcd.codes.entries.filter (fun e => decide (0 < e.2.pend))
  let reps := due.map (fun e => flushReport s e.1 e.2)
  let s1 := modRec s (fun r => { r with
    codes := r.codes.filter (fun _ c => c.pend == 0)
    flushWait := r.flushWait ++ reps
    flushing := some (r.flushing.getD 0 + reps.length) })
  saveLife (stepFlush s1)

/-- The event frame payload of a report (Table 2.6). -/
def eventPayload (r : Report) : List Word :=
  [mkF 31 16 r.code ||| mkF 15 14 r.cls ||| mkB 13 r.lost, mkF 31 16 r.folded ||| mkF 15 0 r.inst,
   lo32 (r.ns >>> 16), mkF 31 16 r.ns ||| mkF 15 0 r.frac, r.d4, r.d5]

/-- The body of a report's log record (Table 17.4). -/
def eventBody (r : Report) : List Word :=
  [mkF 31 16 r.code ||| mkF 15 14 r.cls ||| mkB 13 r.lost ||| mkB 12 r.flush ||| mkB 11 r.tv,
   mkF 31 16 r.folded ||| mkF 15 0 r.inst, lo32 (r.ns >>> 16), mkF 31 16 r.ns ||| mkF 15 0 r.frac, r.d4, r.d5]

/-- Send the oldest report as an event frame, and offer it to the log: every class C, U or F report, and class 0 ones
with LOG_INFO (R64, R65, R76, R472, R481). -/
def reportSend (s : State) : State :=
  match s.rcd.queue with
  | [] => s
  | r :: rest =>
    if mayBroadcast s then
      let s1 := broadcast (modRec s (fun x => { x with queue := rest })) 4 0 (eventPayload r)
      let s2 := if decide (0 < r.cls) || rb s .recCfg [] 31 then logRec s1 (mkRec s1 1 16 (eventBody r)) false else s1
      stepFlush s2
    else s

/-! ## Flash -/

/-- A byte of flash; an erased byte reads 0xFF (R478). -/
def flashByte (s : State) (a : Nat) : Byte := s.flash.get 0xFF a

/-- `n` bytes of flash from an address. -/
def flashBytes (s : State) (a n : Nat) : List Byte := (List.range n).map (fun i => flashByte s (a + i))

/-- A word of flash, most significant byte first. -/
def flashWord (s : State) (a : Nat) : Word := BitVec.ofNat 32 (beNat (flashBytes s a 4))

/-- Erase a range of flash. -/
def flashErase (s : State) (lo hi : Nat) : State :=
  { s with flash := s.flash.filter (fun k _ => decide (k < lo) || decide (hi ≤ k)) }

/-- Program bytes of flash. -/
def flashProg (s : State) (a : Nat) : List Byte → State
  | [] => s
  | b :: rest => flashProg { s with flash := s.flash.set 0xFF a b } (a + 1) rest

/-- Program words of flash, each most significant byte first. -/
def flashProgW (s : State) (a : Nat) (l : List Word) : State := flashProg s a (l.flatMap (fun w => beBytes 4 w.toNat))

/-- Address of slot i of the event log, and of life record i (Table 17.2). -/
def logAddr (i : Nat) : Nat := 0x18100000 + i * 64
/-- Address of life record i. -/
def lifeAddr (i : Nat) : Nat := 0x18000000 + i * 1024

/-- A writer that enters an erase block erases it whole: REC_ERASES, and in the event log event 0x4401 (R480). -/
def enterBlock (s : State) (life : Bool) (a : Nat) : State :=
  if a % 0x40000 = 0 then
    let s1 := count (flashErase s a (a + 0x40000)) 0x11 0x30
    if life then s1 else event s1 0x4401 0 ((a - 0x18100000) / 0x40000)
  else s

/-- Move a ring's writer to its next slot (R480). -/
def nextSlot (life : Bool) (r : RecSt) : RecSt :=
  if life then { r with lifeHead := (r.lifeHead + 1) % 1024 }
  else { r with head := (r.head + 1) % 2080768, wrapped := r.wrapped || decide (r.head + 1 = 2080768) }

/-- Write the oldest queued record, or with `good` false fail to (R480, R481): a failed write counts in
REC_FLASH_SKIP, raises REC FLASH_WR, and the writer moves on. -/
def writeRecord (s : State) (good : Bool) : State :=
  match s.rcd.flashq with
  | [] => s
  | r :: rest =>
    let a := if r.life then lifeAddr s.rcd.lifeHead else logAddr s.rcd.head
    let s1 := enterBlock (modRec s (fun x => { x with flashq := rest })) r.life a
    let s2 := modRec s1 (nextSlot r.life)
    if good then count (flashProgW s2 a r.words) 0x11 0x20
    else faultRise0 (count s2 0x11 0x28) 0x11 0 0

/-- Is a 16-word record valid (R479)? -/
def recValid (l : List Word) : Bool :=
  l.length == 16 && l.getD 15 0 == 0x5A3CC3A5
    && (l.getD 14 0).toNat == crc32 ((l.take 14).flatMap (fun w => beBytes 4 w.toNat))

/-- The owner names a log slot: its read starts (R481). -/
def recRdIdx (s : State) (v : Word) : State :=
  modRec (setRF s .recRdIdx [] 20 0 (fld v 20 0)) (fun r =>
    { r with reading := some (fld v 20 0), rdReady := false, rdValid := false })

/-- The slot's words appear (R481). A slot beyond the ring holds no record: its words are free values. -/
def recSlotDone (s : State) : State :=
  match s.rcd.reading with
  | none => s
  | some i =>
    let w := if i < 2080768 then (List.range 16).map (fun k => flashWord s (logAddr i + 4 * k))
      else (List.range 16).map (fun k => BitVec.ofNat 32 (Config.measured 1 (i * 16 + k)))
    modRec s (fun r => { r with reading := none, rdReady := true, rdValid := decide (i < 2080768) && recValid w, rdWords := w })

/-! ## Histograms -/

/-- Lower edges of bins 1 to 15 of a quantity, in the units of VALUE (Table 17.1). -/
def binEdges : Nat → List Int
  | 0 => [-20, 0, 20, 40, 60, 70, 80, 90, 100, 110, 120, 130, 140, 145, 150].map (· * 16)
  | 1 => [-20, 0, 20, 40, 60, 70, 80, 90, 100, 110, 120, 130, 140, 145, 150].map (· * 16)
  | 2 => [0, 20, 40, 50, 60, 70, 75, 80, 85, 90, 95, 100, 103, 105, 115].map (· * 16)
  | 3 => [150, 200, 250, 300, 350, 400, 450, 500, 550, 600, 625, 650, 675, 700, 725].map (· * 10)
  | _ => [1, 6, 8, 10, 12, 14, 16, 20, 24, 28, 32, 36, 38, 40, 42].map (· * 500)

/-- The bin of a sample: a bin's lower edge belongs to it (R475). -/
def binOf (q : Nat) (v : Int) : Nat := ((binEdges q).filter (fun e => decide (e ≤ v))).length

/-- Gather a reading into the sample of this second: the maximum, or for a feed voltage in mV what its mean needs (Table 17.1). -/
def gather (s : State) (q : Nat) (v : Int) : State :=
  modRec s (fun r => { r with ext := r.ext.upd {} q (fun e => { e with acc := some (match e.acc with
    | none => (v, 1)
    | some (a, n) => if 4 ≤ q then (a + v, n + 1) else (max a v, n + 1)) }) })

/-- The extremes after a sample taken at OP_SEC `t` (R476). -/
def Extremes.sample (e : Extremes) (v : Int) (t : Nat) : Extremes :=
  let e1 := match e.life with
    | none => { e with life := some (v, v), minAt := t, maxAt := t }
    | some (lo, hi) => { e with
        life := some (min lo v, max hi v)
        minAt := if v < lo then t else e.minAt
        maxAt := if hi < v then t else e.maxAt }
  { e1 with
    boot := some (match e.boot with | none => (v, v) | some (lo, hi) => (min lo v, max hi v))
    now' := v, acc := none }

/-- Take the sample of a quantity, a mean in 2 mV rounded down (DESIGN CHOICE, log entry 70): its bin rises and saturates, its extremes follow (R475, R476). -/
def takeSample (q : Nat) (s : State) : State :=
  let e := s.rcd.ext.get {} q
  match e.acc with
  | none => s
  | some (a, n) =>
    let v := if 4 ≤ q then a / (2 * n : Int) else a
    modRec s (fun r => { r with
      bins := r.bins.upd 0 (16 * q + binOf q v) (fun c => min (c + 1) 0xFFFFFFFF)
      ext := r.ext.set {} q (e.sample v r.opSec) })

/-- A second of OP_SEC passes: samples are binned, and at each whole hour a flush runs (R469, R473, R475). -/
def opSecTick (s : State) : State :=
  let s1 := modRec s (fun r => { r with opSec := r.opSec + 1, nextSec := r.nextSec + 1000000000 })
  let s2 := forEach (List.range 6) takeSample s1
  if s2.rcd.opSec % 3600 = 0 then doFlush s2 else s2

/-- After a change of a rate or a burst, every bucket keeps its tokens and is clamped to its new burst (the note under
Table 17.7): the buckets are first brought up to date under the old settings. -/
def settleBuckets (s : State) : State :=
  modRec s (fun r => { r with
    buckets := ⟨r.buckets.entries.map (fun e => (e.1, codeBucket s e.1))⟩
    dfltB := r.dfltB.refill (rf s .recCfg [] 15 0)
      ((if rf s .recCfg [] 23 16 = 0 then 1 else rf s .recCfg [] 23 16) * 1000000000) s.now })

/-- Give codes that an override names, or stops naming, a bucket of their own, then change the settings. -/
def recCfgWrite (s : State) (codes : List Nat) (f : State → State) : State :=
  let own (r : RecSt) : SMap Bucket := codes.foldl (fun m c => m.put c (some ((m.find c).getD r.dfltB))) r.buckets
  let s0 := modRec s (fun r => { r with buckets := own r })
  let s1 := f (settleBuckets s0)
  let cap := (if rf s1 .recCfg [] 23 16 = 0 then 1 else rf s1 .recCfg [] 23 16) * 1000000000
  modRec s1 (fun r => { r with
    buckets := ⟨r.buckets.entries.map (fun e => (e.1, { e.2 with lvl := min e.2.lvl ((rateBurst s1 e.1).2 * 1000000000) }))⟩
    dfltB := { r.dfltB with lvl := min r.dfltB.lvl cap } })

/-! ## Commands -/

/-- EVENT_OCCURRENCE (R466, R468). -/
def execEventOccurrence (code : Fin 65536) (cls : Fin 4) (inst : Fin 65536) (d4 d5 : Word) (s : State) : Res :=
  ok (if onIsland s then occur s code.val cls.val inst.val d4 d5 else s)

/-- REPORT_SEND (R472): the queue does not drain during a firmware restart (R508). -/
def execReportSend (s : State) : Res := ok (if fwRuns s then reportSend s else s)

/-- OP_SEC_TICK (R473): takes effect once a second has passed. -/
def execOpSecTick (s : State) : Res := ok (if s.rcd.nextSec ≤ s.now then opSecTick s else s)

/-- FLASH_RECORD_WRITE (R481). -/
def execFlashRecordWrite (good : Bool) (s : State) : Res := ok (if onIsland s && fwRuns s then writeRecord s good else s)

/-- REC_SLOT_READ_DONE (R481). -/
def execRecSlotReadDone (s : State) : Res := ok (if onIsland s then recSlotDone s else s)

end Sys2Proof.Machine
end

