-- ==== Sys2Proof/Machine/Tgt.lean ====
section
/-! DEFINITION. The time base's advance and references, and the gate control lists of the line ports
(chapter Time Base and Time Gates). -/

namespace Sys2Proof.Machine

/-- Change the time state. -/
def modTgt (s : State) (f : TgtSt → TgtSt) : State := { s with tgt := f s.tgt }

/-- SLEW_PPM, clamped to 1 to 1,000 (TGT_TB_CTRL). -/
def slewPpm (s : State) : Nat := clamp 1 1000 (rf s .tgtTbCtrl [] 25 16)

/-- What one ns of the frequency source adds to the time base without a slew, in units: (1 + RATE × 2^-40) ns (R397). -/
def rateUnits (s : State) : Int := (tbUnit : Int) + 15625 * signedOf 32 (rf s .tgtTbRate [] 31 0)

/-- One ns passes: the time base advances at its rate, plus the slew, whose remainder falls by what it adds (R397, R400). -/
def tickTime (s : State) : State :=
  let q : Int := (slewPpm s : Int) * 2 ^ 34
  let d : Int := if s.tgt.slew = 0 then 0 else if 0 < s.tgt.slew then min q s.tgt.slew else max (-q) s.tgt.slew
  { s with
    now := s.now + 1
    tgt := { s.tgt with
      tb := ((s.tgt.tb : Int) + rateUnits s + d).toNat
      slew := s.tgt.slew - d
      slewEnd := s.tgt.slewEnd || (decide (s.tgt.slew ≠ 0) && decide (s.tgt.slew - d = 0)) } }

/-! ## Gate lists -/

/-- Gate state of a port. -/
def gateOf (s : State) (p : Nat) : GateSt := s.tgt.gates.get {} p

/-- Change the gate state of a port. -/
def setGate (s : State) (p : Nat) (g : GateSt) : State := modTgt s (fun t => { t with gates := t.gates.set {} p g })

/-- Entry e of list memory l of port p: STATES and INTERVAL, where values below 8 act as 8 (Table 14.3). -/
def gclEntry (s : State) (p l e : Nat) : Nat × Nat :=
  let x := s.tgt.lists.get (0, 0) ((p * 2 + l) * 1024 + e)
  (x.1, max 8 x.2)

/-- The states and times of one cycle: entries in turn, the last held to the end, the list cut at the end (R405). -/
def cycleSlots (s : State) (p l : Nat) : List Nat → Nat → List (Nat × Nat)
  | [], _ => []
  | [e], left => if left = 0 then [] else [((gclEntry s p l e).1, left)]
  | e :: rest, left =>
    if left = 0 then []
    else
      let x := gclEntry s p l e
      if left ≤ x.2 then [(x.1, left)] else x :: cycleSlots s p l rest (left - x.2)

/-- One cycle of a list given as memory, LEN, CYCLE, BASE. -/
def slotsOf (s : State) (p : Nat) (d : Nat × Nat × Nat × Nat) : List (Nat × Nat) :=
  cycleSlots s p d.1 (List.range d.2.1) d.2.2.1

/-- The phase of a time in a list's cycle, for every integer n of BASE + n × CYCLE (R405). -/
def phaseAt (d : Nat × Nat × Nat × Nat) (t : Nat) : Nat := (((t : Int) - d.2.2.2) % (max 1 d.2.2.1 : Nat)).toNat

/-- The slot at a phase: its number, its states, and the time left in it. -/
def slotAt : List (Nat × Nat) → Nat → Nat → Nat × Nat × Nat
  | [], _, i => (i, 0xFF, 1)
  | (st, d) :: rest, ph, i => if ph < d then (i, st, d - ph) else slotAt rest (ph - d) (i + 1)

/-- The longest run of a gate in twice a cycle. -/
def runsOf (g : Nat) : List (Nat × Nat) → Nat → Nat → Nat
  | [], cur, best => max cur best
  | (st, d) :: rest, cur, best => if st.testBit g then runsOf g rest (cur + d) best else runsOf g rest 0 (max cur best)

/-- MAXOPEN_g of a list: 0xFFFF_FFFF when the gate is never closed (R412). -/
def maxOpenOf (sl : List (Nat × Nat)) (g : Nat) : Nat :=
  if sl.all (fun x => x.1.testBit g) then 0xFFFFFFFF else runsOf g (sl ++ sl) 0 0

/-- The list settings in effect: memory, LEN, CYCLE, BASE. -/
def gateCfg (s : State) (p : Nat) : Nat × Nat × Nat × Nat :=
  (rf s .tgtGcfgA [p] 30 30, rf s .tgtGcfgA [p] 10 0, rf s .tgtGcfgB [p] 31 0,
   rf s .tgtGbaseLo [p] 31 0 + rf s .tgtGbaseHi [p] 31 0 * 2 ^ 32)

/-- GATE_EN in effect. -/
def gateEn (s : State) (p : Nat) : Bool := rb s .tgtGcfgA [p] 31

/-- LP_EGR_LAT_i.NS of line port p, whose group is p / 8 (R406). -/
def egrLat (s : State) (p : Nat) : Nat := rf s .lpEgrLat [p / 8, p % 8] 15 0

/-- The gate time of a decision taken now (R406). -/
def gateTime (s : State) (p : Nat) : Nat := tbNs s + egrLat s p

/-- INIT_STATES. -/
def initStates (s : State) (p : Nat) : Nat := rf s .tgtGcfgA [p] 23 16

/-- The list that runs at time t: from S on that of a pending switch, before S the operational one (R407). -/
def listAt (s : State) (p t : Nat) : Option (Nat × Nat × Nat × Nat) :=
  match (gateOf s p).pend with
  | some (sw, d) => if sw ≤ t then some d else (gateOf s p).oper
  | none => (gateOf s p).oper

/-- The states of a port's gates at gate time t (R405, R407, R410). -/
def gateStatesAt (s : State) (p t : Nat) : Nat :=
  if !s.tgt.valid then initStates s p
  else if !gateEn s p then 0xFF
  else match listAt s p t with
    | none => initStates s p
    | some d => (slotAt (slotsOf s p d) (phaseAt d t) 0).2.1

/-- A switch that applies at boundary B (R407): S is the first cycle start of the operational list at or after both B and
the new BASE, or with no operational list the later of the two. While TIME_VALID is 0 it waits (R410). -/
def gateSwitchAt (s : State) (p b : Nat) : State :=
  if !s.tgt.valid then s
  else
    let d := gateCfg s p
    let x := max b d.2.2.2
    let g := gateOf s p
    let sw := match g.oper with
      | none => x
      | some o => let ph := phaseAt o x; if ph = 0 then x else x + (o.2.2.1 - ph)
    setGate s p { g with pend := some (sw, d), lastS := sw }

/-- GATE_EN turned to 0: every gate of the port is open, and no list is operational or pending (R405, R407). -/
def gateOff (s : State) (p : Nat) : State := setGate s p { gateOf s p with oper := none, pend := none, entry := 0 }

/-- At S the new list takes over: MAXOPEN is computed, the switch is counted and reported (R407, R412). -/
def gateTake (s : State) (p : Nat) : State :=
  let g := gateOf s p
  match g.pend with
  | none => s
  | some (sw, d) =>
    let sl := slotsOf s p d
    let mo := (List.range 8).foldl (fun m k => m.set 0xFFFFFFFF k (maxOpenOf sl k)) (SMap.empty : SMap Nat)
    let s1 := setGate s p { g with oper := some d, pend := none, lastS := sw, entry := (slotAt sl (phaseAt d sw) 0).1, maxOpen := mo }
    event (bump s1 (cOff 0x0F (p * 0x20))) 0x3C06 p d.1

/-- The entry that holds at the present gate time. -/
def entryNow (s : State) (p : Nat) : Nat :=
  match listAt s p (gateTime s p) with
  | none => 0
  | some d => (slotAt (slotsOf s p d) (phaseAt d (gateTime s p)) 0).1

/-- The end of the entry that holds at time t: the entry's own, or S of a pending switch that comes before it; none while no list is to
end INIT_STATES. -/
def entryEnd (s : State) (p t : Nat) : Option Nat :=
  let own := (listAt s p t).map (fun d => t + (slotAt (slotsOf s p d) (phaseAt d t) 0).2.2)
  match (gateOf s p).pend with
  | some (sw, _) => if t < sw then some (min sw (own.getD sw)) else own
  | none => own

/-- The close time of gate g after time t, at which it is open, searched up to `fuel` entries ahead across cycle starts and a pending
switch; none when the gate stays open through them (R411). -/
def closeTime (s : State) (p g : Nat) : Nat → Nat → Option Nat
  | 0, _ => none
  | fuel + 1, t => match entryEnd s p t with
    | none => none
    | some e => if (gateStatesAt s p e).testBit g then closeTime s p g fuel e else some e

/-- May a head pointer of L bytes start on gate g of port p, whose rate is R Gbit/s (R410, R411)? -/
def gateAllows (s : State) (p g len rate : Nat) : Bool :=
  let t := gateTime s p
  if !(gateStatesAt s p t).testBit g then false
  else if !s.tgt.valid || !gateEn s p then true
  else
    let w := ((len + 24) * 8 + rate - 1) / max 1 rate
    match rf s .tgtGcfgA [p] 29 28, closeTime s p g 16 t with
    | _, none => true
    | 1, some c => decide (t + rf s .tgtGspan [p] 31 16 ≤ c)
    | 2, some _ => true
    | _, some c => decide (t + w + rf s .tgtGspan [p] 15 0 ≤ c)

/-- Can a head pointer of L bytes never start on an open gate g (R412)? -/
def gateImpossible (s : State) (p g len rate : Nat) : Bool :=
  match (gateOf s p).oper with
  | none => false
  | some _ =>
    if !s.tgt.valid || !gateEn s p then false
    else
      let mo := (gateOf s p).maxOpen.get 0xFFFFFFFF g
      let w := ((len + 24) * 8 + rate - 1) / max 1 rate
      match rf s .tgtGcfgA [p] 29 28 with
      | 1 => decide (mo ≤ rf s .tgtGspan [p] 31 16)
      | 2 => false
      | _ => decide (mo < w + rf s .tgtGspan [p] 15 0)

/-- Is list memory l of port p operational, or named by a pending switch (R408)? -/
def gclInUse (s : State) (p l : Nat) : Bool :=
  let g := gateOf s p
  (match g.oper with | some d => d.1 == l | none => false) || (match g.pend with | some (_, d) => d.1 == l | none => false)

/-- Write a word of a list entry: no effect and GCL_REJ when the memory is in use (R408). -/
def gclWrite (s : State) (p l e : Nat) (w1 : Bool) (v : Word) : State :=
  if gclInUse s p l then setRB s .tgtStatus [] 30 true
  else
    let k := (p * 2 + l) * 1024 + e
    modTgt s (fun t => { t with lists := t.lists.upd (0, 0) k (fun x => if w1 then (x.1, v.toNat) else (fld v 7 0, x.2)) })

/-- Would the write stage a CYCLE or LEN out of range (R409)? -/
def gateCfgBad (regB : Bool) (v : Word) : Bool :=
  if regB then !(decide (1000 ≤ v.toNat) && decide (v.toNat ≤ 1000000000))
  else !(decide (1 ≤ fld v 10 0) && decide (fld v 10 0 ≤ 1024))

/-- TIME_VALID becomes 1: every port with GATE_EN = 1 switches with B that instant (R410). -/
def gatesOnValid (s : State) : State :=
  forEach (List.range 128) (fun p t => if gateEn t p then gateSwitchAt t p (tbNs t) else t) s

/-- A set that has applied at B changed the port's settings from `a`, `d` (GATE_EN and list) to those now in effect (R407). -/
def gateApplied (s : State) (p b : Nat) (en : Bool) (d : Nat × Nat × Nat × Nat) : State :=
  if !gateEn s p then (if en then gateOff s p else s)
  else if !en || !decide (gateCfg s p = d) then gateSwitchAt s p b else s

/-! ## Frequency reference -/

/-- SRC of TGT_TB_CTRL; 2 and 3 act as 0 (R397). -/
def tbSrc (s : State) : Nat := if rf s .tgtTbCtrl [] 27 26 = 1 then 1 else 0

/-- A write of TGT_TB_CTRL: a change of SRC to 1 starts the lock; a change to 0 clears REF_OK without an event (R397). -/
def tbCtrlWrite (s : State) (v : Word) : State :=
  let s1 := setRF (setRF s .tgtTbCtrl [] 27 26 (fld v 27 26)) .tgtTbCtrl [] 25 16 (fld v 25 16)
  if tbSrc s1 = 1 then
    if tbSrc s = 1 then s1 else modTgt s1 (fun t => { t with refOk := false, refSince := some s.now })
  else modTgt s1 (fun t => { t with refOk := false, refSince := none })

/-- The 10 MHz input is lost (R397). -/
def refLoss (s : State) : State :=
  if tbSrc s = 1 then
    if s.tgt.refOk then
      event (modTgt s (fun t => { t with refOk := false, refSince := some s.now })) 0x3C04 0 (rf s .tgtTbCtrl [] 27 26)
    else modTgt s (fun t => { t with refSince := some s.now })
  else s

/-- The PLL locks after 10 ms of valid input (R397). -/
def refLock (s : State) : State :=
  match s.tgt.refSince with
  | some t0 =>
    if tbSrc s = 1 ∧ ¬ s.tgt.refOk ∧ t0 + 10000000 ≤ s.now then
      let s1 := event (modTgt s (fun t => { t with refOk := true, refSince := none })) 0x3C05 0 (rf s .tgtTbCtrl [] 27 26)
      if holds s1 2 5 0 then faultFall s1 2 5 0 else s1
    else s
  | none => s

/-! ## Commands -/

/-- GATE_SWITCH (R407): at S, in time-base time. -/
def execGateSwitch (p : Fin 128) (s : State) : Res :=
  ok (match (gateOf s p.val).pend with
    | some (sw, _) => if blkOn s 0xF && decide (sw ≤ tbNs s) then gateTake s p.val else s
    | none => s)

/-- GATE_ENTRY_ADVANCE (R405). -/
def execGateEntryAdvance (p : Fin 128) (s : State) : Res :=
  ok (if blkOn s 0xF then setGate s p.val { gateOf s p.val with entry := entryNow s p.val } else s)

/-- TIME_REF_LOSS (R397). -/
def execTimeRefLoss (s : State) : Res := ok (if onIsland s then refLoss s else s)

/-- TIME_REF_LOCK (R397). -/
def execTimeRefLock (s : State) : Res := ok (if onIsland s then refLock s else s)

/-- SLEW_DONE (R400): the remainder has run to 0. -/
def execSlewDone (s : State) : Res :=
  ok (if s.tgt.slewEnd then event (modTgt s (fun t => { t with slewEnd := false })) 0x3C03 0 0 else s)

/-- PPS_TIMEOUT (R399, R401): 1.1 s without an edge clears PPS_OK and lapses a waiting SET_AT_PPS. -/
def execPpsTimeout (s : State) : Res :=
  let s1 := match s.tgt.ppsAt with
    | some t0 => if t0 + 1100000000 ≤ s.now then modTgt s (fun t => { t with ppsOk := false }) else s
    | none => s
  ok (match s.tgt.ppsWait with
    | some (_, t0) =>
      if t0 + 1100000000 ≤ s.now then bump (modTgt s1 (fun t => { t with ppsWait := none })) (cOff 0x0F 0x80008) else s1
    | none => s1)

end Sys2Proof.Machine
end

