-- ==== Sys2Proof/Machine/Lp.lean ====
section
/-! DEFINITION. Line ports: group modes, the port state machine, degraded lanes and the recovered clock outputs
(chapter Line Ports). The MAC is in Machine/Mac.lean. -/

namespace Sys2Proof.Machine

/-- Change the line state. -/
def modLp (s : State) (f : LpSt → LpSt) : State := { s with lp := f s.lp }

/-- A port's state. -/
def portOf (s : State) (p : Nat) : LpPort := s.lp.ports.get {} p

/-- Write a port's state. -/
def setPort (s : State) (p : Nat) (x : LpPort) : State := modLp s (fun l => { l with ports := l.ports.set {} p x })

/-- Count in a counter of port p (R150). -/
def countLp (s : State) (p off : Nat) : State := bump s (cOff 4 (p / 8 * 0x8000 + p % 8 * 0x400 + off))

/-- Add to a counter of port p. -/
def countLpN (s : State) (p off n : Nat) : State := bumpN s (cOff 4 (p / 8 * 0x8000 + p % 8 * 0x400 + off)) n

/-- Lanes from a start to the next start, or to lane 8. -/
def laneRun (starts : Nat) : Nat → Nat → Nat
  | _, 0 => 0
  | l, k + 1 => if starts.testBit l then 0 else 1 + laneRun starts (l + 1) k

/-- Width in lanes of the port that starts at lane l (R126). -/
def portWidth (starts l : Nat) : Nat := 1 + laneRun starts (l + 1) (7 - l)

/-- Ethernet rate in Gbit/s by LANE_RATE and width; 0 where Table 4.2 lists none. -/
def ethRate (rate w : Nat) : Nat :=
  if w ≠ 1 ∧ w ≠ 2 ∧ w ≠ 4 ∧ w ≠ 8 then 0
  else match rate with
    | 0 => 200 * w
    | 1 => 100 * w
    | 2 => if w = 1 then 0 else 50 * w
    | _ => 0

/-- OTN mode of a group. -/
def grpOtn (s : State) (g : Nat) : Bool := rb s .lpGrpMode [g] 31

/-- LANE_START of a group. -/
def grpStarts (s : State) (g : Nat) : Nat := rf s .lpGrpMode [g] 7 0

/-- Does a port start at index i of group g (R128, R143)? -/
def portExists (s : State) (p : Nat) : Bool := (grpStarts s (p / 8)).testBit (p % 8)

/-- Rate of a port in Gbit/s (Tables 4.2 and 5.1). -/
def portRate (s : State) (p : Nat) : Nat :=
  ethRate (rf s .lpGrpMode [p / 8] 30 29) (portWidth (grpStarts s (p / 8)) (p % 8))

/-- Is a group mode among the arrangements of Tables 4.2 and 5.1, so that R129 and R151 accept it? -/
def modeOk (v : Word) : Bool :=
  let rate := fld v 30 29
  let starts := fld v 7 0
  if tbit v 31 then decide (starts = 1) && decide (rate ≠ 3)
  else
    (starts == 0 || starts.testBit 0) &&
    (List.range 8).all (fun l =>
      if starts.testBit l then
        let w := portWidth starts l
        decide (ethRate rate w ≠ 0) && decide (l % w = 0)
      else true)

/-- Is any port of the group enabled? -/
def grpAnyEn (s : State) (g : Nat) : Bool := (List.range 8).any (fun i => rb s .lpPortCfg [g, i] 31)

/-! ## The interlock of twin mode -/

/-- Twin group g. -/
def twinOf (s : State) (g : Nat) : TwinGrp := s.fab.twin.get {} g
/-- FAB_TWIN_CFG.EN: the group is protected. -/
def twinEn (s : State) (g : Nat) : Bool := rb s .fabTwinCfg [g] 31

/-- The hardware hold of a group: for as long as ACT_IN is high, and for at least 1 µs from its rise (R449, R550). -/
def twinHeld (s : State) (g : Nat) : Bool := (twinOf s g).actIn || s.fab.holds.any (fun h => h.2 == g)

/-- The interlock forbids transmission, and TWIN_BLOCK is 1 (R142): the hardware holds the group (R449), or a protected group is in none of
CONFIRMING, ACTIVE and RELEASING (R450). -/
def twinForbids (s : State) (g : Nat) : Bool :=
  twinHeld s g || (twinEn s g && !((twinOf s g).st == 3 || (twinOf s g).st == 4 || (twinOf s g).st == 5))

/-! ## Group modes -/

/-- A group that leaves OTN mode has no hunters, bars or defects (R156, R165). -/
def otnLeave (s : State) (g : Nat) : State :=
  let o := s.lp.otn.get {} g
  let o1 : OtnGrp := { sm := { o.sm with run := 0, cmp := false }, pm := { o.pm with run := 0, cmp := false }, stat := o.stat, txMfas := o.txMfas, tx := o.tx }
  modLp s (fun l => { l with otn := l.otn.set {} g o1 })

/-- Set the mode of a group, and with it LP_EGR_LAT of its ports: a measured value of 200 to 2,000 ns (Table 4.10). -/
def setMode (s : State) (g : Nat) (v : Word) : State :=
  let s1 := setReg (if grpOtn s g && !tbit v 31 then otnLeave s g else s) .lpGrpMode [g] ((v &&& 0xE00000FF) ||| (regRaw s .lpGrpMode [g] &&& 0x10000000))
  forEach (List.range 8) (fun i t =>
    setRF t .lpEgrLat [g, i] 15 0 (if (fld v 7 0).testBit i
      then 200 + Config.measured 2 (fld v 31 29 * 16 + portWidth (fld v 7 0) i) % 1801 else 0)) s1

/-- A write of LP_GRP_MODE (R129, R151). -/
def grpModeWrite (s : State) (g : Nat) (v : Word) : State :=
  let s0 := if tbit v 28 then setRB s .lpGrpMode [g] 28 false else s
  if grpAnyEn s0 g || !modeOk v then event (setRB s0 .lpGrpMode [g] 28 true) 0x1007 g 0
  else setMode s0 g v

/-- A timer of LP_TMR_TRAIN or LP_TMR_SYNC in ns, clamped to its range. -/
def anTimeout (s : State) (g : Nat) : Nat := clamp 100 10000 (rf s .lpTmrTrain [g] 15 0) * 1000000
/-- TRAIN_TIMEOUT in ns. -/
def trainTimeout (s : State) (g : Nat) : Nat := clamp 100 10000 (rf s .lpTmrTrain [g] 31 16) * 1000000
/-- SYNC_TIMEOUT in ns. -/
def syncTimeout (s : State) (g : Nat) : Nat := clamp 1 1000 (rf s .lpTmrSync [g] 15 0) * 1000000

/-- The line group works: its domain is on, it is not fenced, and the dies run. -/
def grpLive (s : State) (g : Nat) : Bool := onData s && domOn s g && !isFenced s 4 g

/-- May port p leave OFF (Table 4.3)? -/
def mayStart (s : State) (p : Nat) : Bool :=
  grpLive s (p / 8) && portExists s p && rb s .lpPortCfg [p / 8, p % 8] 31 && !twinForbids s (p / 8)

/-- The state a start enters: SYNC in OTN mode, else AN, TRAIN or SYNC by AN_EN and TRAIN_EN (R138, R143). -/
def startState (s : State) (p : Nat) : PortState :=
  if grpOtn s (p / 8) then .sync
  else if rb s .lpPortCfg [p / 8, p % 8] 30 then .an
  else if rb s .lpPortCfg [p / 8, p % 8] 29 then .train
  else .sync

/-- The timer of a state, in ns. -/
def stateTimeout (s : State) (g : Nat) : PortState → Nat
  | .an => anTimeout s g
  | .train => trainTimeout s g
  | .sync => syncTimeout s g
  | _ => 0

/-- The place of a port's type in Table 4.2: 4 × LANE_RATE + log2 of the width. -/
def portType (s : State) (p : Nat) : Nat :=
  4 * rf s .lpGrpMode [p / 8] 30 29 + (portWidth (grpStarts s (p / 8)) (p % 8)).log2

/-- Enter AN, TRAIN or SYNC and start its timer. AN advertises the configured type alone (R136). A SYNC not entered from UP begins without
alignment, hence with a local fault. -/
def enterPort (s : State) (p : Nat) (st : PortState) (fromUp : Bool) : State :=
  let x := portOf s p
  let y := { x with st := st, since := s.now, deadline := s.now + stateTimeout s (p / 8) st, fromUp := fromUp,
                    adv := if st = .an then 1 <<< portType s p else 0 }
  setPort s p (if fromUp then y
    else { y with pcs := false, align := false, rf := false, lf := st == .sync, rfTx := st == .sync, goodAt := none, alignAt := none })

/-- The lanes of a port. -/
def portLanes (s : State) (p : Nat) : List Nat := (List.range (portWidth (grpStarts s (p / 8)) (p % 8))).map (fun k => p + k)

/-- The lanes of the port transmit with fixed coefficients: TRAIN_EN = 0, or FlexO (R137, R143). -/
def fixedEq (s : State) (p : Nat) : Bool := grpOtn s (p / 8) || !rb s .lpPortCfg [p / 8, p % 8] 29

/-- Set what the lanes of a port transmit with. -/
def setCoef (s : State) (p : Nat) (f : Nat → Option Word) : State :=
  forEach (portLanes s p) (fun n t => modLp t (fun l => { l with coef := l.coef.set none n (f n) })) s

/-- The transmitters of a port are enabled: with LP_LANE_TXEQ where that is fixed, else with what the training protocol begins with, which
the spec does not give. -/
def txEnable (s : State) (p : Nat) : State :=
  setCoef s p (fun n => some (if fixedEq s p then regRaw s .lpLaneTxeq [n / 8, n % 8] else lo32 (Config.measured 4 n)))

/-- The transmitters of a port send electrical idle. -/
def txIdle (s : State) (p : Nat) : State := setCoef s p (fun _ => none)

/-- Lanes that transmit with fixed coefficients follow LP_LANE_TXEQ (R137). -/
def txFollow (s : State) (p : Nat) : State :=
  if fixedEq s p then setCoef s p (fun n => (s.lp.coef.get none n).map (fun _ => regRaw s .lpLaneTxeq [n / 8, n % 8])) else s

/-- The port that a lane belongs to. -/
def portOfLane (s : State) (n : Nat) : Option Nat :=
  ((List.range 8).find? (fun i => (grpStarts s (n / 8)).testBit i && decide (i ≤ n % 8)
    && decide (n % 8 < i + portWidth (grpStarts s (n / 8)) i))).map (fun i => n / 8 * 8 + i)

/-- FlexO instances of a group (Table 5.1). -/
def otnN (s : State) (g : Nat) : Nat := match rf s .lpGrpMode [g] 30 29 with | 0 => 16 | 1 => 8 | _ => 4

/-- The set condition of dLOM, dLOF, dLOL or dLOS (bits 12 to 15) stands in the group (Table 5.5). That one lane without signal is enough
for dLOS follows from its clear rule. DEDUCED. -/
def otnBad (s : State) (g d : Nat) : Bool :=
  let o := s.lp.otn.get {} g
  let r := List.range (otnN s g)
  if d = 15 then (List.range 8).any (fun l => !rb s .lpLaneStatus [g, l] 31)
  else if d = 14 then o.laneLock != 0xFF
  else if d = 13 then r.any (fun i => !(o.inst.get {} i).inFrame)
  else o.skewBig || r.any (fun i => !(o.inst.get {} i).im)

/-- The conditions of the four defects, each since now unless it stood before. -/
def otnConds (s : State) (g : Nat) (old : SMap (Bool × Nat)) : SMap (Bool × Nat) :=
  [12, 13, 14, 15].foldl (fun m d =>
    match old.find d with
    | some c => if c.1 = otnBad s g d then m.put d (some c) else m.put d (some (otnBad s g d, s.now))
    | none => m.put d (some (otnBad s g d, s.now))) {}

/-- The framer's integration begins at a start of the port in OTN mode: every defect is 0 (R162). -/
def otnStart (s : State) (g : Nat) : State :=
  let o := s.lp.otn.get {} g
  let o1 : OtnGrp := { inst := o.inst, laneLock := o.laneLock, skewBig := o.skewBig, conds := otnConds s g {}, bips := o.bips, sm := { o.sm with run := 0, cmp := false }, pm := { o.pm with run := 0, cmp := false }, stat := o.stat,
                       txMfas := o.txMfas, tx := o.tx, secAt := s.now + 1000000000 }
  modLp s (fun l => { l with otn := l.otn.set {} g o1 })

/-- A start (R138): the transmitters are enabled, and no lane has reported a trained receiver yet. -/
def startPort (s : State) (p : Nat) : State :=
  let s1 := if grpOtn s (p / 8) then otnStart s (p / 8) else s
  let s2 := forEach (portLanes s1 p) (fun n t => setRF t .lpLaneStatus [n / 8, n % 8] 29 28 0) (txEnable s1 p)
  enterPort s2 p (startState s p) false

/-- A port whose start is possible makes one. Its 10 ms windows begin when it leaves OFF (R132). DESIGN CHOICE: the spec does not place
them. -/
def tryStart (s : State) (p : Nat) : State :=
  if mayStart s p && (portOf s p).st == .off then startPort (setPort s p { portOf s p with winAt := s.now + 10000000 }) p else s

/-- LINK falls, with event 0x1002 and LP_LINK_DOWN (R141). -/
def linkFall (s : State) (p reason : Nat) : State :=
  if (portOf s p).link then
    event (countLp (setPort s p { portOf s p with link := false, linkq := (portOf s p).linkq ++ [false] }) p 0x50) 0x1002 p reason
  else s

/-- The port goes to OFF: reason 2 disabled, 3 twin interlock (Table 4.3). -/
def portOff (s : State) (p reason : Nat) : State :=
  let s1 := txIdle (linkFall s p reason) p
  setPort s1 p { portOf s1 p with
    st := .off, pcs := false, align := false, lf := false, rf := false, rfTx := false, goodAt := none, alignAt := none, adv := 0, deadline := 0 }

/-- A failure (R139): the transmitters send electrical idle in HOLDOFF. -/
def portFail (s : State) (p reason : Nat) : State :=
  let x := portOf s p
  let fails := min 15 (x.fails + 1)
  let hold := min (2 ^ (fails - 1)) 16
  let s1 := setPort (txIdle s p) p { x with
    st := .holdoff, since := s.now, fails := fails, lastFail := reason, deadline := s.now + hold * 1000000000,
    pcs := false, align := false, lf := false, rf := false, rfTx := false, goodAt := none, alignAt := none, adv := 0 }
  event (countLp s1 p 0x58) 0x1003 p (hold <<< 16 ||| fails <<< 8 ||| reason)

/-- The part of a lane's status register that the receiver sets. -/
def setLane (s : State) (lane : Nat) (sig cdr : Bool) : State :=
  setRB (setRB s .lpLaneStatus [lane / 8, lane % 8] 31 sig) .lpLaneStatus [lane / 8, lane % 8] 30 cdr

/-- A write of LP_PORT_CFG_i: an inert port ignores it (R128); EN starts or stops the port (R138, R141). -/
def portCfgWrite (s : State) (p : Nat) (v : Word) : State :=
  if !portExists s p then s
  else
    let was := rb s .lpPortCfg [p / 8, p % 8] 31
    let s1 := txFollow (setReg s .lpPortCfg [p / 8, p % 8] (v &&& 0xFCFF3FFF)) p
    if tbit v 31 then (if was then s1 else tryStart s1 p)
    else
      let s2 := portOff s1 p 2
      setPort s2 p { portOf s2 p with fails := 0 }

/-- The line group follows the interlock of twin mode: it holds every port in OFF, or a port with EN = 1 makes a start (R142). -/
def twinApply (s : State) (g : Nat) : State :=
  forEach (List.range 8) (fun i t =>
    let p := 8 * g + i
    if twinForbids s g then (if (portOf t p).st == .off then t else portOff t p 3) else tryStart t p) s

/-- The ports of a fenced or lost group are held in OFF (Table 16.6). -/
def groupDown (s : State) (g : Nat) : State :=
  forEach (List.range 8) (fun i t => if (portOf t (8 * g + i)).st == .off then t else portOff t (8 * g + i) 0) s

/-- On return of a group, its ports with EN = 1 make a start (Table 16.6). -/
def groupReturn (s : State) (g : Nat) : State := forEach (List.range 8) (fun i t => tryStart t (8 * g + i)) s

/-- LP_LANE_TXEQ magnitude sum; a write over 128 has no effect (the note under Table 4.12). -/
def txeqOk (v : Word) : Bool :=
  let m (hi lo : Nat) : Nat := (signedOf 8 (fld v hi lo)).natAbs
  decide (m 31 24 + m 23 16 + m 15 8 + m 7 0 ≤ 128)

/-- A write of LP_LANE_TXEQ_l. -/
def txeqWrite (s : State) (g l : Nat) (v : Word) : State :=
  if txeqOk v then
    let s1 := setReg s .lpLaneTxeq [g, l] v
    match portOfLane s1 (8 * g + l) with
    | some p => txFollow s1 p
    | none => s1
  else s

/-- Is lane n of 128 locked? -/
def laneLocked (s : State) (n : Nat) : Bool := rb s .lpLaneStatus [n / 8, n % 8] 30

/-! ## Commands -/

/-- The highest ability that both partners advertise. -/
def highestCommon (a b : Nat) : Option Nat := (List.range 12).reverse.find? (fun k => a.testBit k && b.testBit k)

/-- AN_COMPLETE (R136, R138): `partner` is what the partner advertises. -/
def execAnComplete (p : Fin 128) (partner : BitVec 12) (s : State) : Res :=
  ok (if (portOf s p.val).st = .an then
      if highestCommon (portOf s p.val).adv partner.toNat = some (portType s p.val) then enterPort s p.val (if rb s .lpPortCfg [p.val / 8, p.val % 8] 29 then .train else .sync) false
      else portFail s p.val 2
    else s)

/-- AN_TIMEOUT (R138). -/
def execAnTimeout (p : Fin 128) (s : State) : Res :=
  ok (if (portOf s p.val).st = .an ∧ (portOf s p.val).deadline ≤ s.now then portFail s p.val 1 else s)

/-- A lane's coefficients as its partner's requests have left them: a free value. -/
def trainLane (n : Nat) (s : State) : State :=
  let d := draw s
  modLp d.2 (fun l => { l with coef := l.coef.set none n (some (lo32 d.1)) })

/-- TRAIN_COMPLETE (R137, R138): the lanes of the group whose own and whose partner's receiver is ready; when every lane of the port has
both, training is done. -/
def execTrainComplete (r : TrainReport) (s : State) : Res :=
  ok (if (portOf s r.p.val).st = .train then
      let s1 := forEach (portLanes s r.p.val) (fun n t => setRB (setRB t .lpLaneStatus [n / 8, n % 8] 29 (r.own.toNat.testBit (n % 8)))
        .lpLaneStatus [n / 8, n % 8] 28 (r.partner.toNat.testBit (n % 8))) s
      if (portLanes s r.p.val).all (fun n => r.own.toNat.testBit (n % 8) && r.partner.toNat.testBit (n % 8)) then
        enterPort (forEach (portLanes s r.p.val) trainLane s1) r.p.val .sync false
      else s1
    else s)

/-- TRAIN_TIMEOUT (R138). -/
def execTrainTimeout (p : Fin 128) (s : State) : Res :=
  ok (if (portOf s p.val).st = .train ∧ (portOf s p.val).deadline ≤ s.now then portFail s p.val 3 else s)

/-- SYNC_TIMEOUT (R138): a failure, or a new start when SYNC was entered from UP. -/
def execSyncTimeout (p : Fin 128) (s : State) : Res :=
  let x := portOf s p.val
  ok (if x.st = .sync ∧ x.deadline ≤ s.now then
      if x.fromUp then startPort s p.val else portFail s p.val 4
    else s)

/-- HOLDOFF_EXPIRE (R139). -/
def execHoldoffExpire (p : Fin 128) (s : State) : Res :=
  ok (if (portOf s p.val).st = .holdoff ∧ (portOf s p.val).deadline ≤ s.now then startPort s p.val else s)

/-- PARTNER_DETECT (R139): a partner is detected on every lane and the hold-off ends early. Without AN and TRAIN, and on FlexO lanes,
that is signal with CDR lock (Table 4.3, R143). -/
def execPartnerDetect (p : Fin 128) (s : State) : Res :=
  ok (if (portOf s p.val).st = .holdoff then
      let both0 := grpOtn s (p.val / 8) || !(rb s .lpPortCfg [p.val / 8, p.val % 8] 30 || rb s .lpPortCfg [p.val / 8, p.val % 8] 29)
      startPort (forEach (portLanes s p.val) (fun n t => setLane t n true (laneLocked t n || both0)) s) p.val
    else s)

/-- DEG_SER_WINDOW (R131, R132): the corrected symbols by lane of the group and the codewords of a 10 ms window that has ended. A window
with exactly 2^DEG_EXP corrected symbols counts as below the threshold; which lane event 0x1004 names the spec does not say, so `lane` gives
it: DESIGN CHOICE (log entry 57). -/
def execDegSerWindow (p : Fin 128) (lane : Fin 8) (syms : List Word) (corr uncorr : Word) (s : State) : Res :=
  let x := portOf s p.val
  let lanes := portLanes s p.val
  let n (l : Nat) : Nat := (syms.getD (l % 8) 0).toNat
  let total := (lanes.map n).sum
  let s0 := forEach lanes (fun l t => bumpN t (cOff 4 (p.val / 8 * 0x8000 + 0x2000 + l % 8 * 8)) (n l)) s
  let s1 := countLpN (countLpN s0 p.val 0x60 corr.toNat) p.val 0x68 uncorr.toNat
  let y := { x with winAt := x.winAt + 10000000 }
  ok (if ¬ grpLive s (p.val / 8) ∨ x.st = .off ∨ s.now < x.winAt then s
    else if 2 ^ clamp 10 30 (rf s .lpTmrSync [p.val / 8] 20 16) < total then
      event (setPort s1 p.val { y with degSer := true, degGood := 0 }) 0x1004 p.val lane.val
    else if x.degSer then
      if 10 ≤ x.degGood + 1 then setPort s1 p.val { y with degSer := false, degGood := 0 }
      else setPort s1 p.val { y with degGood := x.degGood + 1 }
    else setPort s1 p.val y)

end Sys2Proof.Machine
end

