-- ==== Sys2Proof/Machine/Lrn.lean ====
section
/-! DEFINITION. The learning tables (R224 to R235). -/

namespace Sys2Proof.Machine

/-- Learning table of a slice. -/
def lrnOf (s : State) (sl : Nat) : LrnSt := s.lrn.sl.get {} sl

/-- Change the learning table of a slice. -/
def modLrn (s : State) (sl : Nat) (f : LrnSt → LrnSt) : State :=
  { s with lrn := { s.lrn with sl := s.lrn.sl.upd {} sl f } }

/-- Count in an LRN counter of a slice (Table 7.26). -/
def countLrn (s : State) (sl off : Nat) : State := bump s (cOff 8 (sl * 0x8000 + off))

/-- First overflow slot, by READ_INDEX. -/
def lrnOvfBase : Nat := 262144

/-- The bucket of a key in a way (R212, R224). The 8-byte key is hashed. -/
def lrnBucket (l : LrnSt) (way key : Nat) : Nat :=
  crc32cFrom (if way = 0 then l.seed0 else l.seed1) (beBytes 8 key) * 32768 / 2 ^ 32

/-- First slot of a bucket. -/
def lrnSlot0 (way b : Nat) : Nat := (way * 32768 + b) * 4

/-- The slot that holds a key, among the entries of the present generation (R234). -/
def lrnFind (l : LrnSt) (key : Nat) : Option Nat :=
  let here (i : Nat) : Bool := match l.ents.find i with | some e => e.key == key && e.gen == l.gen | none => false
  let inWay (way : Nat) : Option Nat :=
    ((List.range 4).map (fun j => lrnSlot0 way (lrnBucket l way key) + j)).find? here
  match inWay 0 with
  | some i => some i
  | none => match inWay 1 with
    | some i => some i
    | none => (l.ents.keys.filter (fun k => decide (lrnOvfBase ≤ k))).find? here

/-- A slot for a new key (R213, R224): the emptier bucket, way 0 at a tie, else an overflow slot, else none. -/
def lrnPlace (l : LrnSt) (key : Nat) : Option Nat :=
  let slots (way : Nat) : List Nat := (List.range 4).map (fun j => lrnSlot0 way (lrnBucket l way key) + j)
  let free (way : Nat) : List Nat := (slots way).filter (fun i => (l.ents.find i).isNone)
  let f := if (free 1).length ≤ (free 0).length then free 0 else free 1
  match f.head? with
  | some i => some i
  | none => ((List.range 2048).map (fun i => lrnOvfBase + i)).find? (fun i => (l.ents.find i).isNone)

/-- A freed table slot takes an overflow entry whose bucket in that way is the freed one (R213). -/
def lrnRefill (l : LrnSt) (i : Nat) : LrnSt :=
  if lrnOvfBase ≤ i then l
  else
    match l.ents.entries.find? (fun x => decide (lrnOvfBase ≤ x.1) && lrnBucket l (i / 131072) x.2.key == i / 4 % 32768) with
    | some x => { l with ents := (l.ents.put x.1 none).put i (some x.2) }
    | none => l

/-- Write or remove the entry at a slot. -/
def lrnPut (l : LrnSt) (i : Nat) (e : Option LrnEntry) : LrnSt :=
  let l1 := { l with ents := l.ents.put i e }
  if e.isSome then l1 else lrnRefill l1 i

/-- The state of a slice's copy: `some d` when the slice's changes are shadowed in slice d (R235). -/
def shadowOf (s : State) (sl : Nat) : Option Nat :=
  if s.lrn.copy = .shadowing ∧ s.lrn.src = sl then some s.lrn.dst else none

/-- Learn and move requests in a queue, and host commands in it. -/
def isHostItem : LrnItem → Bool
  | .host .. => true
  | _ => false

/-- Requests in a slice's learn queue, without host commands. -/
def lrnWaiting (s : State) (sl : Nat) : Nat := ((lrnOf s sl).queue.filter (fun x => !isHostItem x)).length

/-- A request enters the learn queue of 1,024; one that finds it full is dropped (R226). Sixteen further slots are for host
commands (R230). -/
def lrnRequest (s : State) (sl : Nat) (it : LrnItem) : State :=
  if lrnWaiting s sl < 1024 then modLrn s sl (fun l => { l with queue := l.queue ++ [it] })
  else countLrn s sl 0x30

/-- Changes to be shadowed enter the destination's learn queue in order, as far as it has room: none is lost (R235). -/
def shadowFeed (s : State) : State :=
  if s.lrn.copy = .shadowing then
    let n := 1024 - lrnWaiting s s.lrn.dst
    let s1 := modLrn s s.lrn.dst (fun l => { l with queue := l.queue ++ (s.lrn.shadow.take n).map (fun x => LrnItem.shadow x.1 x.2) })
    { s1 with lrn := { s1.lrn with shadow := s.lrn.shadow.drop n } }
  else s

/-- Changes of a slice's table are to be made in the slice that shadows it, too (R235). -/
def lrnShadowAll (s : State) (sl : Nat) (l : List (Nat × Option LrnEntry)) : State :=
  match shadowOf s sl with
  | some _ => shadowFeed { s with lrn := { s.lrn with shadow := s.lrn.shadow ++ l } }
  | none => s

/-- A change of a slice's entry. -/
def lrnChange (s : State) (sl i key : Nat) (e : Option LrnEntry) : State :=
  lrnShadowAll (modLrn s sl (fun l => lrnPut l i e)) sl [(key, e)]

/-! ## Notifications -/

/-- A record enters the notification FIFO; one that finds it full is dropped (R231). -/
def lrnNotify (s : State) (sl type newLoc oldLoc key ns frac : Nat) : State :=
  let w : List Word := [mkF 31 28 type ||| mkF 27 24 sl ||| mkF 15 0 newLoc, mkF 31 16 oldLoc, lo32 (key / 2 ^ 32), lo32 key,
    lo32 (ns / 2 ^ 16), mkF 31 16 ns ||| mkF 15 0 frac]
  if (lrnOf s sl).notes.length < 4096 then modLrn s sl (fun l => { l with notes := l.notes ++ [w] })
  else event (setRB (countLrn s sl 0x38) .lrnNotifyStatus [sl] 31 true) 0x2003 sl 0

/-- A record that its enable bit of LRN_CFG gates (R231). -/
def lrnNotifyIf (s : State) (sl bit type newLoc oldLoc key ns frac : Nat) : State :=
  if rb s .lrnCfg [sl] bit then lrnNotify s sl type newLoc oldLoc key ns frac else s

/-- An owner read of LRN_NOTIFY: one word, and the record leaves with its last (R231). -/
def lrnNotifyPop (s : State) (sl : Nat) : State × Word :=
  let l := lrnOf s sl
  match l.notes with
  | [] => (s, 0)
  | r :: rest =>
    let w := r.getD l.noteRead 0
    if l.noteRead + 1 < r.length then (modLrn s sl (fun x => { x with noteRead := x.noteRead + 1 }), w)
    else (modLrn s sl (fun x => { x with notes := rest, noteRead := 0 }), w)

/-! ## The engine -/

/-- MOVE_HOLD in ns (Table 7.20). -/
def moveHold (s : State) (sl : Nat) : Nat := min 1000000 (rf s .lrnCfg [sl] 19 0) * 1000

/-- IN_TS [33:14] of a time in ns. -/
def tsSteps (ns : Nat) : Nat := ns / 2 ^ 14 % 2 ^ 20

/-- Is an entry held against a request of time ns (R228)? -/
def held (s : State) (sl : Nat) (e : LrnEntry) (ns : Nat) : Bool :=
  e.moved && decide ((tsSteps ns + 2 ^ 20 - e.moveT) % 2 ^ 20 * 16384 < moveHold s sl)

/-- The learn engine applies a request by the entry as it stands (Table 7.10); `nohold` for INSERT_DYNAMIC. The status is that of
a host command (Table 7.22). -/
def lrnApply (s : State) (sl key loc ns frac : Nat) (nohold : Bool) : State × Nat :=
  let l := lrnOf s sl
  match lrnFind l key with
  | none =>
    match lrnPlace l key with
    | some i =>
      let s1 := countLrn (lrnChange s sl i key (some { key := key, loc := loc, hit := true, gen := l.gen })) sl 0x00
      (lrnNotifyIf s1 sl 31 1 loc 0 key ns frac, 0)
    | none =>
      (lrnNotify (event (countLrn s sl 0x28) 0x2002 sl loc) sl 6 loc 0 key ns frac, 2)
  | some i =>
    let e := (l.ents.find i).getD { key := key, loc := loc }
    if e.loc = loc then (lrnChange s sl i key (some { e with hit := true }), if e.stat && nohold then 3 else 0)
    else if e.stat then
      let s1 := event (countLrn s sl 0x18) 0x2006 sl (e.loc * 65536 + loc)
      (lrnNotifyIf s1 sl 28 5 loc e.loc key ns frac, 3)
    else if held s sl e ns && !nohold then
      (lrnNotify (event (countLrn s sl 0x10) 0x2001 sl (e.loc * 65536 + loc)) sl 3 loc e.loc key ns frac, 0)
    else
      let e1 := { e with loc := loc, moved := true, moveT := tsSteps ns, hit := true, age := 0 }
      let s1 := countLrn (lrnChange s sl i key (some e1)) sl 0x08
      (lrnNotifyIf s1 sl 29 2 loc e.loc key ns frac, 0)

/-- A shadowed change is made in the shadowing slice's table (R235). -/
def lrnShadow (s : State) (sl key : Nat) (e : Option LrnEntry) : State :=
  let l := lrnOf s sl
  match lrnFind l key, e with
  | some i, _ => modLrn s sl (fun x => lrnPut x i (e.map (fun y => { y with gen := x.gen })))
  | none, some y =>
    match lrnPlace l key with
    | some i => modLrn s sl (fun x => lrnPut x i (some { y with gen := x.gen }))
    | none => event (countLrn s sl 0x28) 0x2002 sl y.loc
  | none, none => s

/-- A source lookup of a head (R226): a hit with the same location sets HIT, any other outcome issues a request. -/
def lrnSource (s : State) (sl key loc ns frac : Nat) : State :=
  let l := lrnOf s sl
  let req := lrnRequest s sl (.learn key loc ns frac)
  match lrnFind l key with
  | none => req
  | some i =>
    let e := (l.ents.find i).getD { key := key, loc := loc }
    if e.loc = loc then modLrn s sl (fun x => { x with ents := x.ents.put i (some { e with hit := true }) }) else req

/-- A destination lookup (R225): LOCATION and STATIC, and HIT with DST_REFRESH. -/
def lrnDest (s : State) (sl key : Nat) : State × Option (Nat × Bool) :=
  let l := lrnOf s sl
  match lrnFind l key with
  | none => (s, none)
  | some i =>
    let e := (l.ents.find i).getD { key := key, loc := 0 }
    (if rb s .lrnCfg [sl] 27 then modLrn s sl (fun x => { x with ents := x.ents.put i (some { e with hit := true }) }) else s,
      some (e.loc, e.stat))

/-! ## Host commands -/

/-- LRN_HRESULT of a completed command (Table 7.22). -/
def lrnResult (s : State) (sl st : Nat) (e : Option LrnEntry) : State :=
  let w : Word := match e with
    | none => mkF 31 31 1 ||| mkF 30 28 st
    | some e => mkF 31 31 1 ||| mkF 30 28 st ||| mkF 27 27 1 ||| mkB 26 e.stat ||| mkB 25 e.hit ||| mkF 24 23 e.age
        ||| mkB 22 e.moved ||| mkF 15 0 e.loc
  setReg s .lrnHresult [sl] w

/-- A write of LRN_HCMD by the owner (R230): none is the busy status, when the 16 slots are full. -/
def lrnHcmd (s : State) (sl : Nat) (v : Word) : Option State :=
  let op := fld v 31 28
  if ((lrnOf s sl).queue.filter isHostItem).length < 16 then
    let key := rf s .lrnHkeyHi [sl] 31 0 * 2 ^ 32 + rf s .lrnHkeyLo [sl] 31 0
    let s1 := setReg s .lrnHresult [sl] 0
    some (modLrn s1 sl (fun l => { l with queue := l.queue ++ [.host op (fld v 18 0) key (rf s .lrnHdata [sl] 15 0)] }))
  else none

/-- Remove every dynamic entry that passes a test: the new state, and how many. -/
def lrnSweepOut (s : State) (sl : Nat) (p : LrnEntry → Bool) : State × Nat :=
  let out := (lrnOf s sl).ents.entries.filter (fun x => !x.2.stat && p x.2)
  let s1 := modLrn s sl (fun l => (out.map Prod.fst).foldl lrnRefill { l with ents := l.ents.filter (fun _ e => e.stat || !p e) })
  (lrnShadowAll s1 sl (out.map (fun x => (x.2.key, none))), out.length)

/-- A flush starts (R230): its entries are removed, and LRN_FLUSH_DONE reports it. -/
def lrnFlush (s : State) (sl : Nat) (p : LrnEntry → Bool) : State :=
  let r := lrnSweepOut s sl p
  modLrn r.1 sl (fun l => { l with flush := some (r.2, s.now + 2000000) })

/-- The time base as request times take it: ns and fraction. -/
def nowTs (s : State) : Nat × Nat := (tbNs s, tbFrac s)

/-- Carry out a host command (Table 7.11). -/
def lrnHost (s : State) (sl op index key loc : Nat) : State :=
  let l := lrnOf s sl
  match op with
  | 1 =>
    let e : LrnEntry := { key := key, loc := loc, stat := true, gen := l.gen }
    match lrnFind l key with
    | some i => lrnResult (lrnChange s sl i key (some e)) sl 0 none
    | none => match lrnPlace l key with
      | some i => lrnResult (lrnChange s sl i key (some e)) sl 0 none
      | none => lrnResult s sl 2 none
  | 2 =>
    let r := match lrnFind l key with
      | some i => if ((l.ents.find i).map LrnEntry.stat).getD false then (s, 3)
        else lrnApply s sl key loc (nowTs s).1 (nowTs s).2 true
      | none => lrnApply s sl key loc (nowTs s).1 (nowTs s).2 true
    lrnResult r.1 sl r.2 none
  | 3 => match lrnFind l key with
    | some i => lrnResult (lrnChange s sl i key none) sl 0 none
    | none => lrnResult s sl 1 none
  | 4 => match lrnFind l key with
    | some i => lrnResult s sl 0 (l.ents.find i)
    | none => lrnResult s sl 1 none
  | 5 =>
    if index < 264192 then
      match l.ents.find index with
      | some e => lrnResult (setReg (setReg s .lrnHkeyHi [sl] (lo32 (e.key / 2 ^ 32))) .lrnHkeyLo [sl] (lo32 e.key)) sl 0 (some e)
      | none => lrnResult (setReg (setReg s .lrnHkeyHi [sl] 0) .lrnHkeyLo [sl] 0) sl 0 none
    else lrnResult s sl 4 none
  | 6 => lrnFlush s sl (fun e => e.loc == loc)
  | 7 => lrnFlush s sl (fun _ => true)
  | _ => lrnResult s sl 4 none

/-- Does the learning block of a slice run? -/
def lrnLive (s : State) (sl : Nat) : Bool := onData s && domOn s (18 + sl) && !isFenced s 6 sl

/-- The engine takes the front of a slice's learn queue, and a shadowed change may follow at its end. -/
def lrnPop (s : State) (sl : Nat) : State := shadowFeed (modLrn s sl (fun l => { l with queue := l.queue.drop 1 }))

/-- Carry out the host command at the head of a slice's learn queue, when its OP is this one. A flush waits for the one that runs. -/
def lrnHeadHost (sl op : Nat) (s : State) : State :=
  match (lrnOf s sl).queue with
  | .host o index key loc :: _ =>
    if o = op ∧ lrnLive s sl = true ∧ (op < 6 ∨ (lrnOf s sl).flush.isNone) then
      lrnHost (lrnPop s sl) sl op index key loc
    else s
  | _ => s

/-! ## Scanner, generations and copy -/

/-- PASS of LRN_AGE_CFG, and AGE_LIMIT, where 0 acts as 1. -/
def ageLimit (s : State) (sl : Nat) : Nat := max 1 (rf s .lrnAgeCfg [sl] 15 14)

/-- SWEEP_MS in ns (Table 7.20). -/
def sweepNs (s : State) (sl : Nat) : Nat := clamp 100 1000 (rf s .lrnAgeCfg [sl] 25 16) * 1000000

/-- A visit of the scanner to an entry (R232, R233). -/
def lrnVisit (s : State) (sl i : Nat) (hit : Bool) : State :=
  let l := lrnOf s sl
  match l.ents.find i with
  | none => s
  | some e0 =>
    let ns := tbNs s
    let e := if e0.moved && decide (moveHold s sl ≤ (tsSteps ns + 2 ^ 20 - e0.moveT) % 2 ^ 20 * 16384) then { e0 with moved := false } else e0
    let pass := rf s .lrnAgeCfg [sl] 11 0
    if e.gen ≠ l.gen then modLrn s sl (fun x => lrnPut x i none)
    else if pass = 0 ∨ l.sweep % max 1 pass ≠ 0 ∨ e.stat = true then
      if e = e0 then s else lrnChange s sl i e.key (some e)
    else if e.hit then lrnChange s sl i e.key (some { e with hit := false, age := 0 })
    else if e.age + 1 < ageLimit s sl then lrnChange s sl i e.key (some { e with age := e.age + 1 })
    else if hit then countLrn (lrnChange s sl i e.key (some { e with hit := true })) sl 0x40
    else
      let s1 := countLrn (lrnChange s sl i e.key none) sl 0x20
      lrnNotifyIf s1 sl 30 4 e.loc e.loc e.key ns (tbFrac s)

/-- May the scanner visit slot i next: no entry stands between its position and the slot, and a new sweep is due where i is behind it? -/
def scanDue (s : State) (sl i : Nat) : Bool :=
  let l := lrnOf s sl
  if l.scan ≤ i then l.ents.keys.all (fun k => decide (k < l.scan) || decide (i ≤ k))
  else decide (l.sweepAt ≤ s.now) && l.ents.keys.all (fun k => decide (k < l.scan) && decide (i ≤ k))

/-- The scanner moves to slot i and visits it. -/
def scanStep (s : State) (sl i : Nat) (hit : Bool) : State :=
  let fresh := decide (i < (lrnOf s sl).scan)
  let s1 := modLrn s sl (fun l => { l with
    scan := i + 1
    sweep := l.sweep + fresh.toNat
    sweepAt := if fresh ∨ l.sweepAt = 0 then s.now + sweepNs s sl else l.sweepAt })
  lrnVisit s1 sl i hit

/-- A slice becomes ACTIVE for a pair: GEN advances unless it last served that pair (R234). -/
def lrnPair (s : State) (sl pair : Nat) : State :=
  modLrn s sl (fun l => if l.pair = some pair then l else { l with gen := (l.gen + 1) % 4, pair := some pair })

/-- A slice load clears the slice's table (R234). -/
def lrnClear (s : State) (sl : Nat) : State := modLrn s sl (fun l => { l with ents := {}, queue := [] })

/-- GO of LRN_COPY (R235), where the two conditions on the slices' states are the caller's. -/
def copyGo (s : State) (src dst : Nat) (good : Bool) : State :=
  if good && s.lrn.copy != .copying then
    let s1 := modLrn s dst (fun l => { l with ents := {} })
    { s1 with lrn := { s1.lrn with copy := .copying, src := src, dst := dst } }
  else setRB s .lrnCopy [] 27 true

/-- Shadowing ends (R235). -/
def copyEnd (s : State) : State :=
  if s.lrn.copy = .shadowing then { s with lrn := { s.lrn with copy := .idle, shadow := [] } } else s

/-- Shadowing ends when its source leaves DRAIN (R235). -/
def copySrcGone (s : State) (sl : Nat) : State := if s.lrn.src = sl then copyEnd s else s

/-- The copy of a destination that can no longer take it is dropped. -/
def copyDrop (s : State) (sl : Nat) : State :=
  if s.lrn.copy ≠ .idle ∧ (s.lrn.src = sl ∨ s.lrn.dst = sl) then
    { s with lrn := { s.lrn with copy := .idle, shadow := [] } } else s

/-- The copy completes (R235): every entry is in the destination, which takes the source's pair and generation. -/
def copyDone (s : State) : State :=
  if s.lrn.copy = .copying then
    let src := lrnOf s s.lrn.src
    let put (l : LrnSt) (x : Nat × LrnEntry) : LrnSt := match lrnPlace l x.2.key with
      | some i => { l with ents := l.ents.put i (some x.2) }
      | none => l
    let s1 := modLrn s s.lrn.dst (fun l => src.ents.entries.foldl put { l with ents := {}, pair := src.pair, gen := src.gen })
    event { s1 with lrn := { s1.lrn with copy := .shadowing } } 0x2005 s.lrn.dst (s.lrn.src * 16 + s.lrn.dst)
  else s

/-! ## Commands -/

/-- LEARN_APPLY (R227): the engine applies the next request, or the next shadowed change (R235); a host command with a reserved OP, which no
other command takes, is BAD (Table 7.11). -/
def execLearnApply (sl : Fin 9) (s : State) : Res :=
  ok (if lrnLive s sl.val then
      match (lrnOf s sl.val).queue with
      | .learn key loc ns frac :: _ => (lrnApply (lrnPop s sl.val) sl.val key loc ns frac false).1
      | .shadow key e :: _ => lrnShadow (lrnPop s sl.val) sl.val key e
      | .host op _ _ _ :: _ => if op = 0 ∨ 8 ≤ op then lrnResult (lrnPop s sl.val) sl.val 4 none else s
      | [] => s
    else s)

/-- LRN_INSERT_STATIC (R230). -/
def execLrnInsertStatic (sl : Fin 9) (s : State) : Res := ok (lrnHeadHost sl.val 1 s)
/-- LRN_INSERT_DYNAMIC (R230). -/
def execLrnInsertDynamic (sl : Fin 9) (s : State) : Res := ok (lrnHeadHost sl.val 2 s)
/-- LRN_DELETE (R230). -/
def execLrnDelete (sl : Fin 9) (s : State) : Res := ok (lrnHeadHost sl.val 3 s)
/-- LRN_READ_KEY (R230). -/
def execLrnReadKey (sl : Fin 9) (s : State) : Res := ok (lrnHeadHost sl.val 4 s)
/-- LRN_READ_INDEX (R230). -/
def execLrnReadIndex (sl : Fin 9) (s : State) : Res := ok (lrnHeadHost sl.val 5 s)
/-- LRN_FLUSH_LOC (R230). -/
def execLrnFlushLoc (sl : Fin 9) (s : State) : Res := ok (lrnHeadHost sl.val 6 s)
/-- LRN_FLUSH_DYN (R230). -/
def execLrnFlushDyn (sl : Fin 9) (s : State) : Res := ok (lrnHeadHost sl.val 7 s)

/-- LRN_FLUSH_DONE (R230): event 0x2004 with the number of entries removed. -/
def execLrnFlushDone (sl : Fin 9) (s : State) : Res :=
  ok (match (lrnOf s sl.val).flush with
    | some (n, _) => event (lrnResult (modLrn s sl.val (fun l => { l with flush := none })) sl.val 0 none) 0x2004 sl.val n
    | none => s)

/-- LRN_SCAN_VISIT (R232, R233): `hit` says that a lookup hit falls in the same cycle. -/
def execLrnScanVisit (sl : Fin 9) (index : Fin 264192) (hit : Bool) (s : State) : Res :=
  ok (if lrnLive s sl.val && scanDue s sl.val index.val then scanStep s sl.val index.val hit else s)

/-- LRN_COPY_DONE (R235). -/
def execLrnCopyDone (s : State) : Res := ok (if onData s then copyDone s else s)

end Sys2Proof.Machine
end

