-- ==== Sys2Proof/Machine/Tbl.lean ====
section
/-! DEFINITION. The shared tables: layout, routes, next hops, exact-match tables and their rehash, the command queue,
signatures (chapter Routes, Exact-Match Tables and Learning, R200 to R223). -/

namespace Sys2Proof.Machine

/-- Change the table state. -/
def modTbl (s : State) (f : TblSt → TblSt) : State := { s with tbl := f s.tbl }

/-! ## Layout -/

/-- Region KIND of a TBL_ID (Tables 7.2 and 7.13). -/
def tblKind : Nat → Nat
  | 0 => 1
  | 5 => 4
  | 6 => 5
  | 7 => 6
  | _ => 3

/-- The region register of a table: the one of its KIND, and for an exact-match table of its EMT. -/
def tblRegionOf (s : State) (tid : Nat) : Option Nat :=
  (List.range 16).find? (fun r =>
    rf s .tblRegion [r] 31 28 == tblKind tid && (tblKind tid != 3 || rf s .tblRegion [r] 27 26 == tid - 1))

/-- Banks of a table; 0 when it is not bound. -/
def tblBanks (s : State) (tid : Nat) : Nat :=
  match tblRegionOf s tid with | some r => rf s .tblRegion [r] 15 8 | none => 0

/-- Has the table two views (R202)? -/
def tblViews (s : State) (tid : Nat) : Bool :=
  match tblRegionOf s tid with
  | some r => rb s .tblRegion [r] 24 && (tid ≤ 5)
  | none => false

/-- Is the table, with this view, in the layout? -/
def tblBound (s : State) (tid view : Nat) : Bool :=
  decide (0 < tblBanks s tid) && (view == 0 || tblViews s tid)

/-- Number of views. -/
def viewCount (s : State) (tid : Nat) : Nat := if tblViews s tid then 2 else 1

/-- Elements of an indexed table, per view (Table 7.1). -/
def idxBound (s : State) (tid : Nat) : Nat :=
  (if tid = 7 then 131072 else 65536) * tblBanks s tid / viewCount s tid

/-- Units bound to routes (R207). -/
def unitsBound (s : State) : Nat := 65536 * tblBanks s 0

/-- Is exact-match table t wide? -/
def emWide (s : State) (t : Nat) : Bool :=
  match tblRegionOf s (t + 1) with | some r => rb s .tblRegion [r] 25 | none => false

/-- Buckets in one way of one view of exact-match table t (R201, R212, Table 7.1). -/
def emBuckets (s : State) (t : Nat) : Nat :=
  tblBanks s (t + 1) / 2 * (if emWide s t then 8192 else 16384) / viewCount s (t + 1)

/-- The view that lookups use (R202). -/
def viewInEffect (s : State) (tid : Nat) : Nat :=
  if tid = 0 then rf s .tblView [] 0 0
  else if tid ≤ 4 then rf s .tblView [] tid tid
  else if tid = 5 then rf s .tblView [] 5 5
  else 0

/-! ## Routes -/

/-- The key of a route: view, VRF, family, length, address. -/
def routeKey (view vrf fam len addr : Nat) : Nat := (((view * 4096 + vrf) * 2 + fam) * 256 + len) * 2 ^ 128 + addr

/-- Length field of a route key. -/
def rkLen (k : Nat) : Nat := k / 2 ^ 128 % 256
/-- Family of a route key. -/
def rkFam (k : Nat) : Nat := k / 2 ^ 136 % 2

/-- Bits of an address of a family. -/
def famBits (fam : Nat) : Nat := if fam = 0 then 32 else 128

/-- An address with the bits beyond a length cleared (R205). -/
def maskAddr (fam len addr : Nat) : Nat := addr % 2 ^ famBits fam / 2 ^ (famBits fam - len) * 2 ^ (famBits fam - len)

/-- Units a prefix costs (R205). -/
def routeCost (fam len : Nat) : Nat := if fam = 0 then 1 else if len ≤ 64 then 2 else 4

/-- Route units in use, both views. -/
def routeUnits (s : State) : Nat := (s.tbl.routes.keys.map (fun k => routeCost (rkFam k) (rkLen k))).sum

/-- The longest stored prefix from length `n` down that covers an address (R206). -/
def longest (s : State) (view vrf fam addr : Nat) : Nat → Option Nat
  | 0 =>
    let k := routeKey view vrf fam 0 0
    (s.tbl.routes.find k).map (fun _ => k)
  | n + 1 =>
    let k := routeKey view vrf fam (n + 1) (maskAddr fam (n + 1) addr)
    match s.tbl.routes.find k with
    | some _ => some k
    | none => longest s view vrf fam addr n

/-- The banks of a table's region: the first, and how many. -/
def regionBanks (s : State) (tid : Nat) : Nat × Nat :=
  match tblRegionOf s tid with | some r => (rf s .tblRegion [r] 23 16, rf s .tblRegion [r] 15 8) | none => (0, 0)

/-- Elements of an indexed table in a row (Table 7.1). -/
def perRow (tid : Nat) : Nat := if tid = 7 then 4 else 2

/-- The slot key of table, view, way, bucket, slot. -/
def emKey (t view way b slot : Nat) : Nat := (((t * 2 + view) * 2 + way) * 2 ^ 18 + b) * 4 + slot

/-- Rows of a bucket of exact-match table t: four entries of 64 or of 128 bits in rows of 128 bits. -/
def bucketRows (s : State) (t : Nat) : Nat := if emWide s t then 4 else 2

/-- The row of a slot of an exact-match table: the ways take half the banks each, and the views follow one another (R201, R202). Which
row of its bank a bucket is, is the model's choice (log entry 60). -/
def emRow (s : State) (t k : Nat) : Nat :=
  let rb := regionBanks s (t + 1)
  let row := ((k / 2 ^ 21 % 2 * emBuckets s t + k / 4 % 2 ^ 18) * bucketRows s t) + k % 4 * bucketRows s t / 4
  (rb.1 + k / 2 ^ 20 % 2 * (rb.2 / 2)) * 2 ^ 15 + row

/-- The row of an element of an indexed table, by its place view × 2^20 + index (log entry 60). -/
def idxRow (s : State) (tid k : Nat) : Nat :=
  (regionBanks s tid).1 * 2 ^ 15 + (k / 2 ^ 20 * idxBound s tid + k % 2 ^ 20) / perRow tid

/-- Is a row damaged (R204)? -/
def rowBad (s : State) (row : Nat) : Bool := (s.tbl.bad.find row).isSome

/-- Is an element in a damaged row, and not rewritten since? -/
def elemBad (s : State) (row k : Nat) : Bool := ((s.tbl.bad.find row).getD []).contains k

/-- Does the lookup with this key read a row of the routes or of their directory? The route manager's layout is its own (R208), so the
rows that a lookup reads are a free value. -/
def routeReads (row key : Nat) : Bool := Config.measured 6 (key * 2 ^ 23 + row) % 2 == 1

/-- Does a route lie in a row of the route units? A free value likewise. -/
def routeIn (row key : Nat) : Bool := Config.measured 7 (key * 2 ^ 23 + row) % 2 == 1

/-- The damaged row of the routes or their directory that a lookup meets. -/
def routeMeets (s : State) (key : Nat) : Option Nat :=
  s.tbl.bad.keys.find? (fun row =>
    (List.range 16).any (fun r => (rf s .tblRegion [r] 31 28 == 1 || rf s .tblRegion [r] 31 28 == 2)
      && decide (rf s .tblRegion [r] 23 16 ≤ row / 2 ^ 15) && decide (row / 2 ^ 15 < rf s .tblRegion [r] 23 16 + rf s .tblRegion [r] 15 8))
    && routeReads row key)

/-- The host rewrites or deletes an element: its row is good again once all its elements have been (R204). -/
def unBad (s : State) (row k : Nat) : State :=
  match s.tbl.bad.find row with
  | none => s
  | some l => modTbl s (fun t => { t with bad := t.bad.put row (if (l.erase k).isEmpty then none else some (l.erase k)) })

/-- What the host reads of an element: what a damaged row yields is not given, a measured value. -/
def readBack (s : State) (row k v w : Nat) : Nat := if elemBad s row k then Config.measured 8 (row * 2 ^ 160 + k) % 2 ^ w else v

/-- The result of a lookup: FOUND, ERR and the result bits. -/
structure Found where
  /-- FOUND. -/
  found : Bool := false
  /-- ERR (R204, R210). -/
  err : Bool := false
  /-- The index or data. -/
  val : Nat := 0
  /-- The TBL_ID and the row of the damaged row that the lookup met. -/
  bad : Option (Nat × Nat) := none
deriving DecidableEq, Repr

/-- A miss with ERR in a damaged row of a table. -/
def missErr (tid row : Nat) : Found := { err := true, bad := some (tid, row) }

/-- A lookup that met a damaged row counts in TBL_ECC_UNCORR and reports event 0x1C01 with bank and row (R204). -/
def metBad (s : State) (f : Found) : State :=
  match f.bad with
  | none => s
  | some (tid, row) => faultRise (count s 7 0x20) 7 1 tid (mkF 23 16 (row / 2 ^ 15) ||| mkF 14 0 row) 0

/-- A route lookup in the view in effect (R204, R206). -/
def routeLookup (s : State) (view vrf fam addr : Nat) : Found :=
  match routeMeets s (routeKey view vrf fam (famBits fam) addr), longest s view vrf fam addr (famBits fam) with
  | some row, _ => missErr 0 row
  | none, none => {}
  | none, some k => { found := true, val := s.tbl.routes.get 0 k }

/-! ## Next hops and ECMP -/

/-- Next-hop entry at an index of a view. -/
def nhAt (s : State) (view i : Nat) : Nat := s.tbl.nh.get 0 (view * 2 ^ 20 + i)
/-- KIND of a next-hop entry (Table 7.3). -/
def nhKind (e : Nat) : Nat := bitsOf e 63 62

/-- A next-hop lookup with index and hash operand (R210): the entry and the index returned, and whether TBL_LOOKUP_ERR counts. -/
def nhLookup (s : State) (view i h : Nat) : Found × Nat × Bool :=
  let e := nhAt s view i
  if rowBad s (idxRow s 5 (view * 2 ^ 20 + i)) then (missErr 5 (idxRow s 5 (view * 2 ^ 20 + i)), 0, false)
  else match nhKind e with
    | 0 => ({}, 0, false)
    | 2 =>
      let g := bitsOf e 61 46
      let ge := s.tbl.grp.get 0 g
      if rowBad s (idxRow s 6 g) then (missErr 6 (idxRow s 6 g), 0, false)
      else if !ge.testBit 63 then ({ err := true }, 0, true)
      else
        let m := bitsOf ge 51 32 + h % 65536 * bitsOf ge 25 16 / 65536
        let n := s.tbl.mem.get 0 m % 2 ^ 20
        let e2 := nhAt s view n
        if rowBad s (idxRow s 7 m) then (missErr 7 (idxRow s 7 m), 0, false)
        else if rowBad s (idxRow s 5 (view * 2 ^ 20 + n)) then (missErr 5 (idxRow s 5 (view * 2 ^ 20 + n)), 0, false)
        else if nhKind e2 = 0 ∨ nhKind e2 = 2 then ({ err := true }, 0, true)
        else ({ found := true, val := e2 }, n, false)
    | _ => ({ found := true, val := e }, i, false)

/-! ## Exact-match tables -/

/-- The seed in use in a way of a table. -/
def seedOf (s : State) (t way : Nat) : Nat := s.tbl.seeds.get (if way = 0 then 0xFFFFFFFF else 0) (t * 2 + way)

/-- The rehash of a table. -/
def rehashOf (s : State) (t : Nat) : Rehash := s.tbl.rehash.get {} t

/-- The bucket of a key under a seed among N (R212). The key is hashed as 16 bytes, right-aligned. -/
def bucketUnder (seed key n : Nat) : Nat := crc32cFrom seed (beBytes 16 key) * n / 2 ^ 32

/-- The bucket of a key in a way, and whether it is by the new seed (R212, R215). -/
def bucketOf (s : State) (t way key : Nat) : Nat × Bool :=
  let n := emBuckets s t
  let r := rehashOf s t
  let o := bucketUnder (seedOf s t way) key n
  if r.st = .idle ∨ r.way < way then (o, false)
  else if way < r.way then (bucketUnder r.newSeed key n, true)
  else if r.cursor ≤ o then (o, false)
  else (bucketUnder r.newSeed key n, true)

/-- The slots of a bucket in use. -/
def bucketUsed (s : State) (t view way b : Nat) : Nat :=
  ((List.range 4).filter (fun i => (s.tbl.em.find (emKey t view way b i)).isSome)).length

/-- A free slot of a bucket. -/
def freeSlot (s : State) (t view way b : Nat) : Option Nat :=
  (List.range 4).find? (fun i => (s.tbl.em.find (emKey t view way b i)).isNone)

/-- Where a key stands: a slot of a bucket, or a place in the overflow store. -/
inductive EmPlace where
  | slot (k : Nat)
  | over (i : Nat)
deriving DecidableEq, Repr

/-- Find a key in a table and view (R212). -/
def emFind (s : State) (t view key : Nat) : Option EmPlace :=
  let inWay (way : Nat) : Option EmPlace :=
    ((List.range 4).find? (fun i => match s.tbl.em.find (emKey t view way (bucketOf s t way key).1 i) with
      | some e => e.key == key
      | none => false)).map (fun i => .slot (emKey t view way (bucketOf s t way key).1 i))
  match inWay 0 with
  | some p => some p
  | none => match inWay 1 with
    | some p => some p
    | none => (s.tbl.ovf.findIdx? (fun o => o.t == t && o.view == view && o.ent.key == key)).map .over

/-- The entry at a place. -/
def emAt (s : State) : EmPlace → EmEntry
  | .slot k => (s.tbl.em.find k).getD { key := 0, data := 0 }
  | .over i => ((s.tbl.ovf[i]?).map EmOvf.ent).getD { key := 0, data := 0 }

/-- The host has rewritten or deleted the entry at a place. -/
def emUnBad (s : State) (t : Nat) : EmPlace → State
  | .slot k => unBad s (emRow s t k) k
  | .over _ => s

/-- Write the entry at a place. -/
def emPut (s : State) (e : EmEntry) : EmPlace → State
  | .slot k => modTbl s (fun t => { t with em := t.em.put k (some e) })
  | .over i => modTbl s (fun t => { t with ovf := t.ovf.modify i (fun o => { o with ent := e }) })

/-- Place an entry in a bucket, if it has a free slot. -/
def putBucket (s : State) (t view way : Nat) (e : EmEntry) (b : Nat × Bool) : Option State :=
  (freeSlot s t view way b.1).map (fun i =>
    modTbl (emUnBad s t (.slot (emKey t view way b.1 i)))
      (fun x => { x with em := x.em.put (emKey t view way b.1 i) (some { e with moved := b.2 }) }))

/-- Place an entry in the overflow store, if it has room. -/
def putOvf (s : State) (t view : Nat) (e : EmEntry) : Option State :=
  if s.tbl.ovf.length < 16384 then
    some (modTbl s (fun x => { x with ovf := x.ovf ++ [{ t := t, view := view, ent := { e with moved := false } }] }))
  else none

/-- Place a new key (R213): the emptier bucket, way 0 at a tie, else the overflow store, else none (FULL). -/
def emPlaceNew (s : State) (t view : Nat) (e : EmEntry) : Option State :=
  let b0 := bucketOf s t 0 e.key
  let b1 := bucketOf s t 1 e.key
  let way := if bucketUsed s t view 0 b0.1 ≤ bucketUsed s t view 1 b1.1 then 0 else 1
  match putBucket s t view way e (if way = 0 then b0 else b1) with
  | some s1 => some s1
  | none => (putOvf s t view e).map (fun s1 => count s1 7 0x28)

/-- A slot freed by a delete takes an overflow entry of the table whose bucket in that way is the freed one (R213). -/
def emRefill (s : State) (t view way b : Nat) : State :=
  match s.tbl.ovf.find? (fun o => o.t == t && o.view == view && (bucketOf s t way o.ent.key).1 == b) with
  | none => s
  | some o =>
    match putBucket s t view way o.ent (bucketOf s t way o.ent.key) with
    | some s1 => modTbl s1 (fun x => { x with ovf := x.ovf.erase o })
    | none => s

/-- Remove the entry at a place. -/
def emRemove (s : State) (t view : Nat) : EmPlace → State
  | .slot k =>
    let s1 := modTbl (emUnBad s t (.slot k)) (fun x => { x with em := x.em.put k none })
    emRefill s1 t view (k / 2 ^ 20 % 2) (k / 4 % 2 ^ 18)
  | .over i => modTbl s (fun x => { x with ovf := x.ovf.eraseIdx i })

/-- The damaged row among those of both buckets that a lookup of a key reads (R204, R212). -/
def emMeets (s : State) (t view key : Nat) : Option Nat :=
  ([0, 1].flatMap (fun w => (List.range 4).map (fun i => emRow s t (emKey t view w (bucketOf s t w key).1 i)))).find? (rowBad s)

/-- An exact-match lookup in a view: a hit sets HIT (R212, R214); one that reads a damaged row is a miss with ERR (R204). -/
def emLookup (s : State) (t view key : Nat) : Found × State :=
  match emMeets s t view key, emFind s t view key with
  | some row, _ => (missErr (t + 1) row, s)
  | none, none => ({}, s)
  | none, some p => ({ found := true, val := (emAt s p).data }, emPut s { emAt s p with hit := true } p)

/-! ## Signatures -/

/-- The key part of the canonical form of a route (Table 7.8). -/
def routeForm (k : Nat) : List Byte :=
  let a := k % 2 ^ 128
  beBytes 1 (k / 2 ^ 149) ++ beBytes 2 (k / 2 ^ 137 % 4096) ++ beBytes 1 (rkFam k) ++ beBytes 1 (rkLen k)
    ++ (if rkFam k = 0 then beBytes 4 a ++ beBytes 12 0 else beBytes 16 a)

/-- The key part of the canonical form of an exact-match entry. -/
def emForm (view tid key : Nat) : List Byte := beBytes 1 view ++ beBytes 1 tid ++ beBytes 16 key

/-- The key part of the canonical form of an indexed entry. -/
def idxForm (view tid i : Nat) : List Byte := beBytes 1 view ++ beBytes 1 tid ++ beBytes 4 i

/-- The segment of an entry: bits [31:24] of the CRC-32C of its key part (R221). -/
def segOf (keyPart : List Byte) : Nat := crc32c keyPart / 2 ^ 24

/-- Key of a running signature. -/
def sigKey (view tid seg : Nat) : Nat := (view * 16 + tid) * 256 + seg

/-- The running signature of a segment. -/
def sigOf (s : State) (view tid seg : Nat) : Nat := s.tbl.sig.get 0 (sigKey view tid seg)

/-- An entry with this key part and rest joins or leaves its segment's running signature (R221). -/
def sigXor (s : State) (view tid : Nat) (keyPart rest : List Byte) : State :=
  modTbl s (fun x => { x with sig := x.sig.upd 0 (sigKey view tid (segOf keyPart)) (fun v => v ^^^ crc32c (keyPart ++ rest)) })

/-- The XOR of all 256 segments. -/
def sigAll (s : State) (view tid : Nat) : Nat := (List.range 256).foldl (fun a g => a ^^^ sigOf s view tid g) 0

/-- What an entry contributes to its segment as computed from memory; one in a damaged row gives a measured value (R204, R223). -/
def formCrc (damaged : Bool) (keyPart rest : List Byte) : Nat :=
  if damaged then Config.measured 3 (beNat (keyPart ++ rest)) % 2 ^ 32 else crc32c (keyPart ++ rest)

/-- The entries of a table and view: whether the entry is in a damaged row, its key part and the rest of its canonical form. -/
def tblForms (s : State) (tid view : Nat) : List (Bool × List Byte × List Byte) :=
  if tid = 0 then
    (s.tbl.routes.entries.filter (fun e => e.1 / 2 ^ 149 == view)).map (fun e =>
      (s.tbl.bad.entries.any (fun x => x.2.contains e.1), routeForm e.1, beBytes 4 e.2))
  else if tid ≤ 4 then
    ((s.tbl.em.entries.filter (fun e => e.1 / 2 ^ 21 == (tid - 1) * 2 + view)).map
      (fun e => (elemBad s (emRow s (tid - 1) e.1) e.1, emForm view tid e.2.key, beBytes 16 e.2.data)))
    ++ ((s.tbl.ovf.filter (fun o => o.t == tid - 1 && o.view == view)).map
      (fun o => (false, emForm view tid o.ent.key, beBytes 16 o.ent.data)))
  else
    let m := if tid = 5 then s.tbl.nh else if tid = 6 then s.tbl.grp else s.tbl.mem
    (m.entries.filter (fun e => e.1 / 2 ^ 20 == view)).map
      (fun e => (elemBad s (idxRow s tid e.1) e.1, idxForm view tid (e.1 % 2 ^ 20), beBytes 8 e.2))

/-- A segment recomputed from memory (R223). -/
def sigComputed (s : State) (tid view seg : Nat) : Nat :=
  (tblForms s tid view).foldl (fun a e => if segOf e.2.1 = seg then a ^^^ formCrc e.1 e.2.1 e.2.2 else a) 0

/-! ## Commands of the queue -/

/-- Word i of a descriptor. -/
def dw (d : List Word) (i : Nat) : Word := d.getD i 0

/-- The number in words i and up of a descriptor. -/
def dNum (d : List Word) (i n : Nat) : Nat := ((List.range n).map (fun k => (dw d (i + k)).toNat)).foldl (fun a b => a * 2 ^ 32 + b) 0

/-- KEY of a descriptor. -/
def dKey (d : List Word) : Nat := dNum d 2 4
/-- DATA of a descriptor. -/
def dData (d : List Word) : Nat := dNum d 6 2
/-- OP of a descriptor. -/
def dOp (d : List Word) : Nat := fld (dw d 0) 31 28
/-- TBL_ID of a descriptor. -/
def dTid (d : List Word) : Nat := fld (dw d 0) 27 24
/-- VIEW of a descriptor. -/
def dView (d : List Word) : Nat := fld (dw d 0) 23 23

/-- A descriptor that meets a full command queue, or any, is queued or discarded (R218). -/
def tblEnqueue (s : State) (d : List Word) : State :=
  if s.tbl.queue.length < 4096 then modTbl s (fun t => { t with queue := t.queue ++ [d] })
  else event (setRB (count s 7 0x10) .tblCmdStatus [] 31 true) 0x1C07 (dTid d) 0

/-- A word written to TBL_CMD_WIN (R218). -/
def tblWinWord (s : State) (w : Word) : State :=
  if s.tbl.win.length < 7 then modTbl s (fun t => { t with win := t.win ++ [w] })
  else tblEnqueue (modTbl s (fun t => { t with win := [] })) (s.tbl.win ++ [w])

/-- The end of a write request: words left over are discarded and counted (R218). -/
def tblWinEnd (s : State) : State :=
  if s.tbl.win.isEmpty then s else count (modTbl s (fun t => { t with win := [] })) 7 0x10

/-- A command completes: OK counts in TBL_CMD_DONE, another status in TBL_CMD_FAILS with a record in TBL_FAIL_FIFO, where a
full FIFO loses it and sets FAIL_OVF (R219). -/
def tblDone (s : State) (d : List Word) (st : Nat) : State :=
  if st = 0 then count s 7 0x00
  else
    let s1 := count s 7 0x08
    let w := mkF 31 28 (dOp d) ||| mkF 27 24 (dTid d) ||| mkF 23 16 st ||| mkF 15 0 (fld (dw d 0) 15 0)
    if s1.tbl.fails.length < 1024 then modTbl s1 (fun t => { t with fails := t.fails ++ [w] })
    else setRB s1 .tblCmdStatus [] 30 true

/-- READ puts the descriptor with FOUND, HIT and the stored data into TBL_READBACK (R219). -/
def tblReadback (s : State) (d : List Word) (found hit : Bool) (data : Nat) : State :=
  let w0 := setBit (setBit (dw d 0) 21 found) 20 hit
  modTbl s (fun t => { t with readback := [w0] ++ (d.drop 1).take 5 ++ [hi32 data, lo32 data] })

/-- FULL (R207, R213): event 0x1C06, and the insert is refused. -/
def tblFull (s : State) (d : List Word) : State × Nat := (event s 0x1C06 (dTid d) (fld (dw d 0) 15 0), 3)

/-- A route command writes rows of its bucket anew: a damaged row that holds the route counts it as rewritten or deleted, and a row of
the directory that the command's lookup reads is rewritten with it (R204, R208). -/
def routeUnBad (s : State) (k : Nat) : State :=
  s.tbl.bad.keys.foldl (fun u row => if routeReads row k || elemBad u row k then unBad u row k else u) s

/-- Set or remove a route, with its running signature (R221). -/
def setRoute (s : State) (k : Nat) (nh : Option Nat) : State :=
  let v := k / 2 ^ 149
  let s1 := match s.tbl.routes.find k with
    | some old => sigXor s v 0 (routeForm k) (beBytes 4 old)
    | none => s
  let s2 := match nh with
    | some n => sigXor s1 v 0 (routeForm k) (beBytes 4 n)
    | none => s1
  routeUnBad (modTbl s2 (fun t => { t with routes := t.routes.put k nh })) k

/-- The route manager switches the directory for a change: old rows are freed 2 µs later (R208). -/
def routeMoved (s : State) : State := modTbl s (fun t => { t with rowFree := t.rowFree ++ [s.now + 2000] })

/-- A route command (R205 to R208): the state and the status. -/
def routeCmd (s : State) (d : List Word) : State × Nat :=
  let w1 := dw d 1
  let vrf := fld w1 27 16
  let fam := fld w1 8 8
  let len := fld w1 7 0
  let addr := if fam = 0 then (dw d 2).toNat else dKey d
  let op := dOp d
  let clean := decide ((w1 &&& 0xF000FE00) = 0) && decide (len ≤ famBits fam)
    && (fam == 1 || (decide (dw d 3 = 0) && decide (dw d 4 = 0) && decide (dw d 5 = 0)))
    && !tbit (dw d 0) 22
    && decide (dw d 6 = 0) && (if op = 1 ∨ op = 2 then decide ((dw d 7).toNat < 2 ^ 20) else decide (dw d 7 = 0))
  if !clean then (s, 4)
  else
    let k := routeKey (dView d) vrf fam len (maskAddr fam len addr)
    let nh := (dw d 7).toNat
    match op, s.tbl.routes.find k with
    | 1, some _ => (s, 1)
    | 1, none =>
      if unitsBound s < routeUnits s + routeCost fam len then tblFull s d else (routeMoved (setRoute s k (some nh)), 0)
    | 2, some _ => (setRoute s k (some nh), 0)
    | 2, none =>
      if unitsBound s < routeUnits s + routeCost fam len then tblFull s d else (routeMoved (setRoute s k (some nh)), 0)
    | 3, some _ => (routeMoved (setRoute s k none), 0)
    | 3, none => (s, 2)
    | 5, o =>
      let row := (s.tbl.bad.keys.find? (fun row => elemBad s row k)).getD 0
      (tblReadback s d o.isSome false (match o with | some v => readBack s row k v 20 | none => 0), 0)
    | _, _ => (s, 4)

/-- An exact-match command (R212 to R214): the state and the status. -/
def emCmd (s : State) (d : List Word) : State × Nat :=
  let t := dTid d - 1
  let view := dView d
  let op := dOp d
  let key := dKey d
  let data := dData d
  let kb := s.tbl.keyBits.get 0 t
  let db := (if emWide s t then 128 else 64) - kb
  let clean := decide (dw d 1 = 0) && decide (key < 2 ^ kb)
    && (op == 5 || !tbit (dw d 0) 22)
    && (if op = 1 ∨ op = 2 then decide (data < 2 ^ db) else decide (data = 0))
  if !clean then (s, 4)
  else
    let form := emForm view (dTid d) key
    let add (s : State) : State × Nat :=
      match emPlaceNew s t view { key := key, data := data } with
      | some s1 => (sigXor s1 view (dTid d) form (beBytes 16 data), 0)
      | none => tblFull s d
    match op, emFind s t view key with
    | 1, some _ => (s, 1)
    | 1, none => add s
    | 2, some p =>
      let e := emAt s p
      let s1 := sigXor (sigXor s view (dTid d) form (beBytes 16 e.data)) view (dTid d) form (beBytes 16 data)
      (emPut (emUnBad s1 t p) { e with data := data } p, 0)
    | 2, none => add s
    | 3, some p =>
      let s1 := sigXor s view (dTid d) form (beBytes 16 (emAt s p).data)
      (emRemove s1 t view p, 0)
    | 3, none => (s, 2)
    | 5, some p =>
      let e := emAt s p
      let v := match p with | .slot k => readBack s (emRow s t k) k e.data db | .over _ => e.data
      let s1 := tblReadback s d true e.hit v
      (if tbit (dw d 0) 22 then emPut s1 { e with hit := false } p else s1, 0)
    | 5, none => (tblReadback s d false false 0, 0)
    | _, _ => (s, 4)

/-- Is an entry written to an indexed table well formed (R211, Tables 7.3 and 7.4)? -/
def idxEntryOk (s : State) (tid e : Nat) : Bool :=
  if tid = 5 then nhKind e != 2 || bitsOf e 45 0 == 0
  else if tid = 6 then
    bitsOf e 62 52 == 0 && bitsOf e 31 26 == 0 && bitsOf e 15 0 == 0
      && decide (1 ≤ bitsOf e 25 16) && decide (bitsOf e 25 16 ≤ 512)
      && decide (bitsOf e 51 32 + bitsOf e 25 16 ≤ idxBound s 7)
  else decide (e < 2 ^ 20)

/-- Write an indexed entry, with its running signature (R211, R221). -/
def setIdx (s : State) (tid view i e : Nat) : State :=
  let k := view * 2 ^ 20 + i
  let m := if tid = 5 then s.tbl.nh else if tid = 6 then s.tbl.grp else s.tbl.mem
  let old := m.get 0 k
  let form := idxForm view tid i
  let s1 := if old = 0 then s else sigXor s view tid form (beBytes 8 old)
  let s2 := if e = 0 then s1 else sigXor s1 view tid form (beBytes 8 e)
  let m' := m.set 0 k e
  unBad (modTbl s2 (fun t =>
    if tid = 5 then { t with nh := m' } else if tid = 6 then { t with grp := m' } else { t with mem := m' })) (idxRow s tid k) k

/-- A command on next hops, groups or members: the state and the status. -/
def idxCmd (s : State) (d : List Word) : State × Nat :=
  let tid := dTid d
  let i := fld (dw d 1) 19 0
  let e := dData d
  let clean := decide ((dw d 1).toNat < 2 ^ 20) && decide (dKey d = 0) && !tbit (dw d 0) 22 && decide (i < idxBound s tid)
  if !clean then (s, 4)
  else match dOp d with
    | 4 => if idxEntryOk s tid e then (setIdx s tid (dView d) i e, 0) else (s, 4)
    | 5 =>
      let m := if tid = 5 then s.tbl.nh else if tid = 6 then s.tbl.grp else s.tbl.mem
      let v := m.get 0 (dView d * 2 ^ 20 + i)
      let k := dView d * 2 ^ 20 + i
      if e = 0 then (tblReadback s d (v != 0) false (readBack s (idxRow s tid k) k v 64), 0) else (s, 4)
    | _ => (s, 4)

/-- SIG_CHECK (R222): the state and the status. -/
def sigCheck (s : State) (d : List Word) : State × Nat :=
  let w1 := dw d 1
  let tid := dTid d
  let clean := decide ((w1 &&& 0xFFFFFE00) = 0) && decide (dKey d = 0) && decide (dw d 6 = 0) && !tbit (dw d 0) 22
    && (!tbit w1 8 || fld w1 7 0 == 0)
  if !clean then (s, 4)
  else
    let v := if tbit w1 8 then sigAll s (dView d) tid else sigOf s (dView d) tid (fld w1 7 0)
    if v = (dw d 7).toNat then (s, 0)
    else
      let d4 := dView d * 256 + fld w1 7 0 + (if tbit w1 8 then 512 else 0)
      (event (count s 7 0x30) 0x1C03 tid d4, 6)

/-- Carry out a descriptor: the state and the status (Tables 7.6 and 7.7). -/
def tblExec (s : State) (d : List Word) : State × Nat :=
  let w0 := dw d 0
  let tid := dTid d
  if dOp d = 0 then
    if (w0 &&& 0x00FF0000) = 0 ∧ (d.drop 1).all (fun w => decide (w = 0)) = true then (s, 0) else (s, 4)
  else if 7 ≤ dOp d ∨ 8 ≤ tid ∨ (w0 &&& 0x003F0000) ≠ 0 then (s, 4)
  else if !tblBound s tid (dView d) then (s, 5)
  else if dOp d = 6 then sigCheck s d
  else if tid = 0 then routeCmd s d
  else if tid ≤ 4 then emCmd s d
  else idxCmd s d

/-- Carry out the descriptor at the head of the queue when its OP passes a test (R218). -/
def tblHead (p : Nat → Bool) (s : State) : State :=
  match s.tbl.queue with
  | [] => s
  | d :: rest =>
    if blkOn s 7 && p (dOp d) then
      let r := tblExec (modTbl s (fun t => { t with queue := rest })) d
      tblDone r.1 d r.2
    else s

/-- An owner read of TBL_FAIL_FIFO: the oldest record leaves; 0 when empty (R219). -/
def tblFailPop (s : State) : State × Word :=
  match s.tbl.fails with
  | [] => (s, 0)
  | w :: rest => (modTbl s (fun t => { t with fails := rest }), w)

/-- The elements of a table that a row holds. -/
def rowElems (s : State) (kind emt row : Nat) : List Nat :=
  match kind with
  | 1 => s.tbl.routes.keys.filter (routeIn row)
  | 3 => s.tbl.em.keys.filter (fun k => k / 2 ^ 22 == emt && emRow s emt k == row)
  | 4 => s.tbl.nh.keys.filter (fun k => idxRow s 5 k == row)
  | 5 => s.tbl.grp.keys.filter (fun k => idxRow s 6 k == row)
  | 6 => s.tbl.mem.keys.filter (fun k => idxRow s 7 k == row)
  | _ => []

/-- An uncorrectable error at a bank and row damages the row, with what it holds (R204). -/
def tblDamage (s : State) (bank row : Nat) : State :=
  match (List.range 16).find? (fun r => decide (rf s .tblRegion [r] 31 28 ≠ 0) && decide (rf s .tblRegion [r] 23 16 ≤ bank)
      && decide (bank < rf s .tblRegion [r] 23 16 + rf s .tblRegion [r] 15 8)) with
  | none => s
  | some r =>
    let at' := bank * 2 ^ 15 + row % 2 ^ 15
    modTbl s (fun t => { t with bad := t.bad.put at' (some (rowElems s (rf s .tblRegion [r] 31 28) (rf s .tblRegion [r] 27 26) at')) })

/-! ## Binding (R203) -/

/-- The TBL_ID of the table of a region, by the region's register; none for an unbound one and for the route directory. -/
def regionTid (v : Word) : Option Nat :=
  match fld v 31 28 with
  | 1 => some 0
  | 3 => some (1 + fld v 27 26)
  | 4 => some 5
  | 5 => some 6
  | 6 => some 7
  | _ => none

/-- A table is empty, with running signatures of 0. -/
def clearTable (s : State) (tid : Nat) : State :=
  modTbl s (fun t => { t with
    routes := if tid = 0 then {} else t.routes
    em := t.em.filter (fun k _ => k / 2 ^ 22 + 1 != tid)
    ovf := t.ovf.filter (fun o => o.t + 1 != tid)
    nh := if tid = 5 then {} else t.nh
    grp := if tid = 6 then {} else t.grp
    mem := if tid = 7 then {} else t.mem
    sig := t.sig.filter (fun k _ => k / 256 % 16 != tid) })

/-- The banks of a region are cleared: its table is empty and its rows are good. -/
def clearRegion (s : State) (v : Word) : State :=
  let s1 := match regionTid v with | some tid => clearTable s tid | none => s
  modTbl s1 (fun t => { t with bad := t.bad.filter (fun k _ =>
    !(decide (fld v 23 16 ≤ k / 2 ^ 15) && decide (k / 2 ^ 15 < fld v 23 16 + fld v 15 8))) })

/-- Region r is bound as the layout has it: banks newly bound are cleared first, and what stays bound keeps its contents. -/
def bindRegion (s : State) (r : Nat) (v : Word) : State :=
  if regRaw s .tblRegion [r] = 0 then setReg (clearRegion s v) .tblRegion [r] v else s

/-- Region r is what the layout in effect has: one used only by the old image is unbound. -/
def unbindRegion (s : State) (r : Nat) (v : Word) : State :=
  if regRaw s .tblRegion [r] = v then s else setReg (clearRegion (clearRegion s (regRaw s .tblRegion [r])) v) .tblRegion [r] v

/-! ## Rehash -/

/-- Set the rehash of a table. -/
def setRehash (s : State) (t : Nat) (r : Rehash) : State := modTbl s (fun x => { x with rehash := x.rehash.set {} t r })

/-- Does a table rehash at this instant? -/
def rehashBusy (s : State) (t : Nat) : Bool :=
  (List.range 4).any (fun u => u != t && (rehashOf s u).st != .idle)

/-- A GO to TBL_EM_REHASH_t (R215 to R217): none is the busy status. A GO while the table itself moves has no effect. -/
def rehashGo (s : State) (t : Nat) : Option State :=
  let r := rehashOf s t
  if rehashBusy s t then none
  else match r.st with
    | .idle =>
      if emBuckets s t = 0 then some s
      else some (setRehash s t { st := .way0, way := 0, cursor := 0, newSeed := rf s .tblEmSeed [t] 31 0, nextAt := s.now + 50 })
    | .stuck => some (setRehash s t { r with st := if r.way = 0 then .way0 else .way1, nextAt := s.now + 50, back := false })
    | _ => some s

/-- ABORT (R216). -/
def rehashAbort (s : State) (t : Nat) : State :=
  let r := rehashOf s t
  match r.st with
  | .idle => s
  | .aborting => s
  | _ => setRehash s t { r with st := .aborting, nextAt := s.now + 50, back := decide (0 < r.cursor) }

/-- Clear the seed flags of a table, when one seed holds for both ways again. -/
def clearFlags (s : State) (t : Nat) : State :=
  modTbl s (fun x => { x with em := ⟨x.em.entries.map (fun e => (e.1, if e.1 / 2 ^ 22 = t then { e.2 with moved := false } else e.2))⟩ })

/-- Move the entries at these slots, by the three steps of R215, from way w of a view; false when one of them sticks. A bucket
moves as one (DEDUCED from R216, the table stays consistent): where one entry sticks the callers keep the state before. -/
def moveAll (t view w : Nat) : List Nat → State → State × Bool
  | [], s => (s, true)
  | k :: rest, s =>
    match s.tbl.em.find k with
    | none => moveAll t view w rest s
    | some e =>
      let s0 := modTbl (emUnBad s t (.slot k)) (fun x => { x with em := x.em.put k none })
      match putBucket s0 t view w e (bucketOf s t w e.key) with
      | some s1 => moveAll t view w rest s1
      | none => match putBucket s0 t view (1 - w) e (bucketOf s t (1 - w) e.key) with
        | some s1 => moveAll t view w rest s1
        | none => match putOvf s0 t view e with
          | some s1 => moveAll t view w rest s1
          | none => (s, false)

/-- Slots of the cursor's bucket placed under the old seed. -/
def oldSlots (s : State) (t view w b : Nat) : List Nat :=
  ((List.range 4).map (emKey t view w b)).filter (fun k => match s.tbl.em.find k with | some e => !e.moved | none => false)

/-- Slots of a way placed under the new seed whose old-seed bucket is b. -/
def newSlots (s : State) (t view w b : Nat) : List Nat :=
  (s.tbl.em.entries.filter (fun e => e.1 / 2 ^ 20 == (t * 2 + view) * 2 + w && e.2.moved
    && bucketUnder (seedOf s t w) e.2.key (emBuckets s t) == b)).map Prod.fst

/-- Move both views' entries. -/
def moveViews (s : State) (t w : Nat) (slots : Nat → State → List Nat) : State × Bool :=
  let r0 := moveAll t 0 w (slots 0 s) s
  if r0.2 ∧ tblViews s (t + 1) then moveAll t 1 w (slots 1 r0.1) r0.1 else r0

/-- Event 0x1C05: the cursor stops at bucket b. -/
def rehashStick (s : State) (t : Nat) (r : Rehash) (b : Nat) : State :=
  event (setRehash s t { r with st := .stuck }) 0x1C05 (t + 1) (r.way * 2 ^ 18 + b)

/-- One forward step of the cursor (R215). -/
def rehashForward (s : State) (t : Nat) (r : Rehash) : State :=
  let n := emBuckets s t
  -- the cursor passes bucket c: from now on keys of old bucket c use their new bucket
  let s0 := setRehash s t { r with cursor := r.cursor + 1, nextAt := s.now + 50 }
  let m := moveViews s0 t r.way (fun v x => oldSlots x t v r.way r.cursor)
  if !m.2 then rehashStick s t r r.cursor
  else if r.cursor + 1 < n then m.1
  else if r.way = 0 then setRehash m.1 t { r with st := .way1, way := 1, cursor := 0, nextAt := s.now + 50 }
  else
    let s1 := modTbl m.1 (fun x => { x with
      seeds := (x.seeds.set 0xFFFFFFFF (t * 2) r.newSeed).set 0 (t * 2 + 1) r.newSeed })
    event (clearFlags (setRehash s1 t {}) t) 0x1C04 (t + 1) 0

/-- One step back of the cursor (R216). -/
def rehashBack (s : State) (t : Nat) (r : Rehash) : State :=
  if r.cursor = 0 then
    if r.way = 0 then clearFlags (setRehash s t {}) t
    else setRehash s t { r with way := 0, cursor := emBuckets s t, nextAt := s.now + 50, back := true }
  else
    let c := r.cursor - 1
    let s0 := setRehash s t { r with cursor := c, nextAt := s.now + 50, back := decide (0 < c) }
    let m := moveViews s0 t r.way (fun v x => newSlots x t v r.way c)
    if m.2 then m.1 else rehashStick s t { r with back := true } c

/-- A step of the rehash of table t, once 50 ns have passed (R217). -/
def rehashStep (s : State) (t : Nat) : State :=
  let r := rehashOf s t
  if r.nextAt ≤ s.now then
    match r.st with
    | .way0 => rehashForward s t r
    | .way1 => rehashForward s t r
    | .aborting => rehashBack s t r
    | _ => s
  else s

/-! ## Commands -/

/-- TBL_NOP (R218): OP 0; a reserved OP completes BAD the same way (Table 7.6). -/
def execTblNop (s : State) : Res := ok (tblHead (fun o => o == 0 || decide (7 ≤ o)) s)
/-- TBL_INSERT (R205, R207, R213). -/
def execTblInsert (s : State) : Res := ok (tblHead (· == 1) s)
/-- TBL_UPSERT (R213). -/
def execTblUpsert (s : State) : Res := ok (tblHead (· == 2) s)
/-- TBL_DELETE (R213). -/
def execTblDelete (s : State) : Res := ok (tblHead (· == 3) s)
/-- TBL_WRITE (R211). -/
def execTblWrite (s : State) : Res := ok (tblHead (· == 4) s)
/-- TBL_READ (R214, R219). -/
def execTblRead (s : State) : Res := ok (tblHead (· == 5) s)
/-- TBL_SIG_CHECK (R222). -/
def execTblSigCheck (s : State) : Res := ok (tblHead (· == 6) s)

/-- ROUTE_ROW_FREE (R208): rows freed 2 µs after the directory switch. -/
def execRouteRowFree (s : State) : Res :=
  ok (match s.tbl.rowFree with
    | t :: rest => if t ≤ s.now then modTbl s (fun x => { x with rowFree := rest }) else s
    | [] => s)

/-- SIG_SWEEP (R223): a segment recomputed from memory differs from its running value. -/
def execSigSweep (tid : Fin 8) (view : Bool) (seg : Fin 256) (s : State) : Res :=
  ok (if blkOn s 7 && tblBound s tid.val view.toNat
        && sigComputed s tid.val view.toNat seg.val != sigOf s view.toNat tid.val seg.val then
      faultRise s 7 2 tid.val (lo32 (view.toNat * 256 + seg.val)) 0
    else s)

/-- REHASH_CURSOR_STEP (R215 to R217). -/
def execRehashCursorStep (t : Fin 4) (s : State) : Res := ok (if blkOn s 7 then rehashStep s t.val else s)

end Sys2Proof.Machine
end

