-- ==== Sys2Proof/Machine/Tcm.lean ====
section
/-! DEFINITION. Associative search (chapter Associative Search, R239 to R263). -/

namespace Sys2Proof.Machine

/-- Change the search state. -/
def modTcm (s : State) (f : TcmSt → TcmSt) : State := { s with tcm := f s.tcm }

/-- Bank p. -/
def tcmBank (s : State) (p : Nat) : TcmBank := s.tcm.banks.get {} p

/-- Write bank p. -/
def setBank (s : State) (p : Nat) (b : TcmBank) : State := modTcm s (fun t => { t with banks := t.banks.set {} p b })

/-- Logical number of physical bank p (R241). -/
def logicalOf (s : State) (p : Nat) : Nat := (tcmBank s p).logical.getD p

/-- A bank that answers lookups: in service or suspect. -/
def bankUp (s : State) (p : Nat) : Bool := (tcmBank s p).st == .inService || (tcmBank s p).st == .suspect

/-- The physical bank that a logical number names in a table: one in service, else one fenced without replacement. -/
def physOf (s : State) (t l : Nat) : Option Nat :=
  let mine (p : Nat) : Bool := logicalOf s p == l && (tcmBank s p).table == t
  match (List.range 96).find? (fun p => mine p && bankUp s p) with
  | some p => some p
  | none => (List.range 96).find? (fun p => mine p && (tcmBank s p).st == .fenced && decide (0 < (tcmBank s p).width))

/-- Width in units of a table that is bound: that of its banks, fenced ones among them. -/
def tcmWidth (s : State) (t : Nat) : Option Nat :=
  ((List.range 96).find? (fun p => (tcmBank s p).table == t && decide (0 < (tcmBank s p).width) && (tcmBank s p).st != .unbound
    && (tcmBank s p).st != .copying)).map (fun p => (tcmBank s p).width)

/-- The banks in service of a table, by ascending logical number (R244). -/
def tcmBanks (s : State) (t : Nat) : List Nat :=
  (List.range 96).filterMap (fun l =>
    (List.range 96).find? (fun p => bankUp s p && (tcmBank s p).table == t && logicalOf s p == l))

/-- Key of an entry. -/
def entKey (p row : Nat) : Nat := p * 2048 + row

/-- The entry at a physical bank and row. -/
def entAt (s : State) (p row : Nat) : TcmEnt := s.tcm.ents.get {} (entKey p row)

/-- Number of bits set among the low `n`. -/
def popCount (n x : Nat) : Nat := ((List.range n).filter (fun i => x.testBit i)).length

/-- Care count of an entry, as computed at its write (R243). -/
def careOf (e : TcmEnt) : Nat := e.care

/-- Unit u of a value or mask (R242). -/
def unitAt (x u : Nat) : Nat := x / 2 ^ (80 * u) % 2 ^ 80

/-- A value or mask with unit u replaced. -/
def unitSet (x u v : Nat) : Nat := x - unitAt x u * 2 ^ (80 * u) + v % 2 ^ 80 * 2 ^ (80 * u)

/-- Width of physical bank p in rows. -/
def bankWidth (s : State) (p : Nat) : Nat := max 1 (tcmBank s p).width

/-- The parity of unit u of an entry: over its value, its mask and, in the first row, the valid bit (R254). -/
def unitParity (e : TcmEnt) (u : Nat) : Nat :=
  (popCount 80 (unitAt e.val u) + popCount 80 (unitAt e.mask u) + (if u = 0 then e.valid.toNat else 0)) % 2

/-- The parity bits of an entry of w units. -/
def entParity (w : Nat) (e : TcmEnt) : Nat := ((List.range w).map (fun u => unitParity e u * 2 ^ u)).sum

/-- The shadow's copy of the entry at a physical bank and row. -/
def shadowAt (s : State) (p row : Nat) : TcmEnt := s.tcm.shadow.get {} (entKey p row)

/-- The parity bits held for an entry. -/
def parAt (s : State) (p row : Nat) : Nat := s.tcm.par.get 0 (entKey p row)

/-- Write the entry at a physical bank and row: array with parity, shadow with care count, and data at once (R248, R254). -/
def setEnt (s : State) (p row : Nat) (e : TcmEnt) : State :=
  let w := bankWidth s p
  let e' := { e with care := popCount 320 e.mask }
  modTcm s (fun t => { t with
    ents := t.ents.set {} (entKey p row) e'
    par := t.par.set 0 (entKey p row) (entParity w e')
    shadow := t.shadow.set {} (entKey p row) { e' with data := 0 }
    shadowBad := t.shadowBad.filter (fun k _ => !(decide (entKey p row ≤ k) && decide (k < entKey p row + w)))
    dataBad := t.dataBad.set false (entKey p row) false })

/-- Write the associated data of the entry at a physical bank and row. -/
def setData (s : State) (p row data : Nat) : State :=
  modTcm s (fun t => { t with
    ents := t.ents.upd {} (entKey p row) (fun e => { e with data := data })
    dataBad := t.dataBad.set false (entKey p row) false })

/-- The first row of the entry that holds a row. -/
def firstRow (s : State) (p row : Nat) : Nat := row - row % bankWidth s p

/-- Does a row of the array, with its parity bit, differ from what the shadow holds (R255)? -/
def rowDiffers (s : State) (p row : Nat) : Bool :=
  let f := firstRow s p row
  let u := row - f
  let e := entAt s p f
  let h := shadowAt s p f
  unitAt e.val u != unitAt h.val u || unitAt e.mask u != unitAt h.mask u || (u == 0 && e.valid != h.valid)
    || (parAt s p f).testBit u != (unitParity h u).testBit 0

/-- Put unit u of an entry, with its parity and in the first row its valid bit and care count, into the array. -/
def putUnit (s : State) (p f u : Nat) (h : TcmEnt) : State :=
  modTcm s (fun t => { t with
    ents := t.ents.upd {} (entKey p f) (fun e => { e with
      val := unitSet e.val u (unitAt h.val u), mask := unitSet e.mask u (unitAt h.mask u)
      valid := if u = 0 then h.valid else e.valid, care := if u = 0 then h.care else e.care })
    par := t.par.upd 0 (entKey p f) (fun x => x - (x / 2 ^ u % 2) * 2 ^ u + unitParity h u * 2 ^ u) })

/-- Rewrite a row of the array from the shadow; a row whose shadow word is uncorrectable stays as it is (R255 to R257). -/
def rowFromShadow (s : State) (p row : Nat) : State :=
  if s.tcm.shadowBad.get false (entKey p row) then s
  else putUnit s p (firstRow s p row) (row - firstRow s p row) (shadowAt s p (firstRow s p row))

/-- Rewrite an entry from the shadow (R256). -/
def entFromShadow (s : State) (p f : Nat) : State :=
  forEach (List.range (bankWidth s p)) (fun u t => rowFromShadow t p (f + u)) s

/-- An upset flips bits of a row of the array (R254, R255). -/
def upsetRow (s : State) (p row : Nat) (x : Upset) : State :=
  let f := firstRow s p row
  let u := row - f
  modTcm s (fun t => { t with
    ents := t.ents.upd {} (entKey p f) (fun e => { e with
      val := unitSet e.val u (unitAt e.val u ^^^ x.val.toNat), mask := unitSet e.mask u (unitAt e.mask u ^^^ x.mask.toNat)
      valid := if u = 0 then e.valid != x.valid else e.valid })
    par := t.par.upd 0 (entKey p f) (fun b => b ^^^ x.par.toNat * 2 ^ u) })

/-- Every row, shadow word and data word of a bank is cleared. -/
def clearBank (s : State) (p : Nat) : State :=
  modTcm s (fun t => { t with
    ents := t.ents.filter (fun k _ => k / 2048 != p)
    par := t.par.filter (fun k _ => k / 2048 != p)
    shadow := t.shadow.filter (fun k _ => k / 2048 != p)
    dataBad := t.dataBad.filter (fun k _ => k / 2048 != p)
    shadowBad := t.shadowBad.filter (fun k _ => k / 2048 != p) })

/-- Does an entry match a key (R243)? -/
def tcmMatch (key : Nat) (e : TcmEnt) : Bool := e.valid && (key &&& e.mask) == e.val

/-- The valid entries of a bank in service, by ascending row. -/
def bankEnts (s : State) (p : Nat) : List (Nat × TcmEnt) :=
  ((s.tcm.ents.entries.filter (fun x => x.1 / 2048 == p && x.2.valid)).map (fun x => (x.1 % 2048, x.2)))

/-- The valid entries of a table in the order of R244: (physical bank, row, entry). -/
def tableEnts (s : State) (t : Nat) : List (Nat × Nat × TcmEnt) :=
  (tcmBanks s t).flatMap (fun p => (bankEnts s p).map (fun x => (p, x.1, x.2)))

/-- The selection of R244: highest care count, the earlier bank and row at a tie. -/
def tcmBest (key : Nat) : List (Nat × Nat × TcmEnt) → Option (Nat × Nat × TcmEnt) → Option (Nat × Nat × TcmEnt)
  | [], best => best
  | x :: rest, best =>
    let better := match best with | none => true | some b => decide (careOf b.2.2 < careOf x.2.2)
    tcmBest key rest (if tcmMatch key x.2.2 && better then some x else best)

/-- The winner of a lookup of a key in a table (R242 to R244). -/
def tcmWinner (s : State) (t key : Nat) : Option (Nat × Nat × TcmEnt) :=
  tcmBest (key % 2 ^ (80 * (tcmWidth s t).getD 0)) (tableEnts s t) none

/-- An error under R255 or R256 counts against a bank (R258). -/
def bankErr (s : State) (p : Nat) : State :=
  if bankUp s p then setBank s p { tcmBank s p with errs := (tcmBank s p).errs + 1 } else s

/-- A lookup's counters (Table 8.13). -/
def tcmCount (s : State) (t : Nat) (hit : Bool) : State :=
  let s1 := count s 9 (0x100 + t * 0x10)
  if hit then count s1 9 (0x108 + t * 0x10) else s1

/-- A parity error on an entry that won a lookup: counted, class U, event 0x2401, and the entry is rewritten from the shadow (R256). -/
def parityHit (s : State) (p row : Nat) : State :=
  entFromShadow (bankErr (faultRise (count s 9 0x18) 9 1 (logicalOf s p) (lo32 row) 0) p) p row

/-- The data word of an entry that won a lookup has a double-bit error (R256). -/
def dataHit (s : State) (p row : Nat) : State :=
  bankErr (faultRise (count s 9 0x30) 9 3 (logicalOf s p) 3 (lo32 row)) p

/-- A lookup by table as a stage makes it (R244 to R246, R256): the winner, and ERR. -/
def tcmLookup (s : State) (t key : Nat) : Option (Nat × Nat × TcmEnt) × Bool × State :=
  if (tcmWidth s t).isNone then (none, true, count s 9 0x40)
  else match tcmWinner s t key with
    | none => (none, false, tcmCount s t false)
    | some w =>
      let parBad := parAt s w.1 w.2.1 != entParity (bankWidth s w.1) w.2.2
      let dataBad := s.tcm.dataBad.get false (entKey w.1 w.2.1)
      let s1 := tcmCount s t (!parBad && !dataBad)
      let s2 := if parBad then parityHit s1 w.1 w.2.1 else s1
      let s3 := if dataBad then dataHit s2 w.1 w.2.1 else s2
      (if parBad || dataBad then none else some w, parBad || dataBad, s3)

/-! ## Commands of the queue -/

/-- OP of a search descriptor. -/
def cOp (d : List Word) : Nat := fld (dw d 0) 31 28
/-- TABLE. -/
def cTable (d : List Word) : Nat := fld (dw d 0) 27 23
/-- BANK. -/
def cBank (d : List Word) : Nat := fld (dw d 1) 22 16
/-- ROW. -/
def cRow (d : List Word) : Nat := fld (dw d 1) 10 0
/-- VALUE. -/
def cVal (d : List Word) : Nat := dNum d 2 10
/-- MASK. -/
def cMask (d : List Word) : Nat := dNum d 12 10
/-- DATA. -/
def cData (d : List Word) : Nat := dNum d 22 2

/-- A descriptor is queued, or discarded by a full queue (R249). -/
def tcmEnqueue (s : State) (d : List Word) : State :=
  if s.tcm.queue.length < 1024 then modTcm s (fun t => { t with queue := t.queue ++ [d] })
  else event (setRB (count s 9 0x10) .tcmCmdStatus [] 31 true) 0x2408 0 0

/-- A word written to TCM_CMD_WIN (R249). -/
def tcmWinWord (s : State) (w : Word) : State :=
  if s.tcm.win.length < 23 then modTcm s (fun t => { t with win := t.win ++ [w] })
  else tcmEnqueue (modTcm s (fun t => { t with win := [] })) (s.tcm.win ++ [w])

/-- The end of a write request: words left over are discarded, counted and set DISCARD (R249). -/
def tcmWinEnd (s : State) : State :=
  if s.tcm.win.isEmpty then s
  else setRB (count (modTcm s (fun t => { t with win := [] })) 9 0x10) .tcmCmdStatus [] 31 true

/-- A command completes (R250). -/
def tcmDone (s : State) (d : List Word) (st : Nat) : State :=
  if st = 0 then count s 9 0x00
  else
    let s1 := count s 9 0x08
    let w := mkF 31 28 (cOp d) ||| mkF 27 24 st ||| mkF 20 16 (cTable d) ||| mkF 15 0 (fld (dw d 0) 15 0)
    if s1.tcm.fails.length < 1024 then modTcm s1 (fun t => { t with fails := t.fails ++ [w] })
    else setRB s1 .tcmCmdStatus [] 30 true

/-- The n words of a number, most significant first. -/
def wordsOf : Nat → Nat → List Word
  | 0, _ => []
  | n + 1, x => lo32 (x / 2 ^ (32 * n)) :: wordsOf n x

/-- READ and SEARCH put an entry into TCM_READBACK (R249, R250). -/
def tcmReadback (s : State) (d : List Word) (found : Bool) (bank row : Nat) (e : TcmEnt) : State :=
  let w0 := setBit (dw d 0) 22 found
  let w1 := mkF 31 23 (careOf e) ||| mkF 22 16 bank ||| mkF 10 0 row
  modTcm s (fun t => { t with readback := [w0, w1] ++ wordsOf 10 e.val ++ wordsOf 10 e.mask ++ wordsOf 2 e.data })

/-- A write to a bank, and to its target while a replacement copies (R258). -/
def tcmBoth (s : State) (p : Nat) (f : State → Nat → State) : State :=
  match s.tcm.copies.find p with
  | some c => f (f s p) c.to'
  | none => f s p

/-- Write an entry. -/
def tcmPut (s : State) (p row : Nat) (e : TcmEnt) : State := tcmBoth s p (fun t q => setEnt t q row e)

/-- Record an entry written in the open session of its table (R253). -/
def bulkNote (s : State) (t l row : Nat) : State :=
  if s.tcm.bulk.open' && s.tcm.bulk.table == t then
    modTcm s (fun x => { x with bulk := { x.bulk with written := (x.bulk.written.filter (· != entKey l row)) ++ [entKey l row] } })
  else s

/-- An entry is written or cleared, so that no earlier WRITE of a session has left it: it is none of those to check (R253). -/
def bulkDrop (s : State) (t l row : Nat) : State :=
  if s.tcm.bulk.table == t then
    modTcm s (fun x => { x with bulk := { x.bulk with
      written := x.bulk.written.filter (· != entKey l row)
      todo := x.bulk.todo.map (fun y => (y.1.filter (· != entKey l row), y.2)) } })
  else s

/-- The check ends: event 0x2404 when OVERLAPS is above 0 (R253). -/
def bulkFinish (s : State) : State :=
  let n := s.tcm.bulk.pairs.length
  let s1 := modTcm s (fun x => { x with bulk := { x.bulk with todo := none } })
  if 0 < n then event s1 0x2404 s.tcm.bulk.table n else s1

/-- Insert into an ascending list. -/
def insertAsc (a : Nat) : List Nat → List Nat
  | [] => [a]
  | b :: rest => if a ≤ b then a :: b :: rest else b :: insertAsc a rest

/-- BULK_END (R253): the check takes the session's entries by bank and row. -/
def bulkEnd (s : State) : State :=
  let b := s.tcm.bulk
  let l := b.written.foldr insertAsc []
  let s1 := modTcm s (fun x => { x with bulk := { x.bulk with open' := false, written := [], todo := some (l, s.now + 100) } })
  if l.isEmpty then bulkFinish s1 else s1

/-- Do two entries overlap (R252)? -/
def tcmOverlap (a b : TcmEnt) : Bool :=
  a.valid && b.valid && careOf a == careOf b && (a.val &&& b.mask) == (b.val &&& a.mask)

/-- Check one entry, by logical bank and row, against the table (R253). -/
def bulkCheck (s : State) (k : Nat) : State :=
  let t := s.tcm.bulk.table
  match (tableEnts s t).find? (fun x => entKey (logicalOf s x.1) x.2.1 == k) with
  | none => s
  | some me =>
    let mates := ((tableEnts s t).filter (fun x => entKey (logicalOf s x.1) x.2.1 != k && tcmOverlap me.2.2 x.2.2)).map
      (fun x => entKey (logicalOf s x.1) x.2.1)
    mates.foldl (fun s o =>
      let pr := (min k o, max k o)
      if s.tcm.bulk.pairs.contains pr then s
      else count (modTcm s (fun x => { x with bulk := { x.bulk with
        pairs := x.bulk.pairs ++ [pr], first := some (x.bulk.first.getD pr) } })) 9 0x38) s

/-- A step of the check, one entry per 100 ns (R253). -/
def bulkStep (s : State) : State :=
  match s.tcm.bulk.todo with
  | none => s
  | some (l, t) =>
    if t ≤ s.now then
      match l with
      | [] => bulkFinish s
      | k :: rest =>
        let s1 := bulkCheck (modTcm s (fun x => { x with bulk := { x.bulk with todo := some (rest, s.now + 100) } })) k
        if rest.isEmpty then bulkFinish s1 else s1
    else s

/-- No field of a descriptor that its OP leaves reserved is set (Table 8.4). -/
def tcmClean (d : List Word) : Bool :=
  let w1 := dw d 1
  let op := cOp d
  let zero (a n : Nat) : Bool := ((d.drop a).take n).all (fun w => decide (w = 0))
  decide ((dw d 0 &&& 0x007F0000) = 0) && decide (op ≤ 7) && (op != 0 || cTable d == 0)
    && (if 1 ≤ op ∧ op ≤ 4 then decide ((w1 &&& 0xFF80F800) = 0) else decide (w1 = 0))
    && (op == 1 || op == 7 || zero 2 10) && (op == 1 || zero 12 10) && (op == 1 || op == 4 || zero 22 2)

/-- WRITE, CLEAR, READ and DATA on the row of physical bank p: the state and the status (Tables 8.4 and 8.5). -/
def tcmRowExec (s : State) (d : List Word) (p : Nat) : State × Nat :=
  let row := cRow d
  let e := entAt s p row
  match cOp d with
  | 1 => (bulkNote (bulkDrop (tcmPut s p row
      { valid := true, val := cVal d &&& cMask d, mask := cMask d, data := cData d }) (cTable d) (cBank d) row)
      (cTable d) (cBank d) row, 0)
  | 2 => (bulkDrop (tcmPut s p row { e with valid := false }) (cTable d) (cBank d) row, 0)
  | 3 => (tcmReadback s d e.valid (cBank d) row e, 0)
  | 4 => (tcmBoth s p (fun t q => setData t q row (cData d)), 0)
  | _ => (s, 1)

/-- SEARCH: the answer of a lookup goes to the readback registers (R249, R250). -/
def tcmSearchExec (s : State) (d : List Word) : State :=
  let r := tcmLookup s (cTable d) (cVal d)
  match r.1 with
  | some x => tcmReadback r.2.2 d true (logicalOf s x.1) x.2.1 x.2.2
  | none => tcmReadback r.2.2 d false 0 0 {}

/-- Carry out a descriptor: the state and the status (Tables 8.4 and 8.5). -/
def tcmExec (s : State) (d : List Word) : State × Nat :=
  let op := cOp d
  let t := cTable d
  if !tcmClean d then (s, 1)
  else if op = 0 then (s, 0)
  else match tcmWidth s t with
    | none => (s, 2)
    | some w =>
      if (op == 1 || op == 7) && !(decide (cVal d < 2 ^ (80 * w)) && decide (cMask d < 2 ^ (80 * w))) then (s, 1)
      else if op = 5 then
        if s.tcm.bulk.open' || s.tcm.bulk.todo.isSome then (s, 4)
        else (modTcm s (fun x => { x with bulk := { open' := true, table := t } }), 0)
      else if op = 6 then
        if s.tcm.bulk.open' && s.tcm.bulk.table == t then (bulkEnd s, 0) else (s, 4)
      else if op = 7 then (tcmSearchExec s d, 0)
      else if cRow d % w ≠ 0 then (s, 1)
      else match physOf s t (cBank d) with
        | none => (s, 2)
        | some p => if !bankUp s p then (s, 3) else tcmRowExec s d p

/-- Carry out the descriptor at the head of the queue when its OP passes a test (R249). -/
def tcmHead (p : Nat → Bool) (s : State) : State :=
  match s.tcm.queue with
  | [] => s
  | d :: rest =>
    if onData s && p (cOp d) then
      let r := tcmExec (modTcm s (fun t => { t with queue := rest })) d
      tcmDone r.1 d r.2
    else s

/-- An owner read of TCM_FAIL_FIFO (R250). -/
def tcmFailPop (s : State) : State × Word :=
  match s.tcm.fails with
  | [] => (s, 0)
  | w :: rest => (modTcm s (fun t => { t with fails := rest }), w)

/-! ## Aliases -/

/-- A write of TCM_ALIAS_a is refused when the table named is not bound, or its width is not that of the table that the register maps
in effect (R247). -/
def aliasOk (s : State) (a : Nat) (v : Word) : Bool :=
  match tcmWidth s (fld v 4 0), tcmWidth s (rf s .tcmAlias [a] 4 0) with
  | some w, some w' => w == w'
  | some _, none => true
  | none, _ => false

/-! ## Replacement and fencing -/

/-- A bank fenced without replacement: its entries are lost, event 0x2407 (R259). One that served as a replacement serves so no longer. -/
def bankLose (s : State) (p : Nat) : State :=
  let n := (bankEnts s p).length
  let s1 := setFenced (setBank s p { tcmBank s p with st := .fenced, errs := 0, replaces := false, lost := true }) 9 p true
  condRise (clearBank s1 p) 9 6 (logicalOf s p) (lo32 n) 0

/-- A replacement ends without taking place: the target is unbound again (R258). -/
def copyStop (s : State) (p : Nat) : State :=
  match s.tcm.copies.find p with
  | none => s
  | some c =>
    let s1 := clearBank (modTcm s (fun t => { t with copies := t.copies.put p none })) c.to'
    if (tcmBank s1 c.to').st = .copying then setBank s1 c.to' {} else s1

/-- FENCE of bank p (R259): at once; a replacement that the bank takes part in ends. -/
def tcmFence (s : State) (p : Nat) : State :=
  if (tcmBank s p).st = .fenced then s
  else
    let s1 := copyStop s p
    let s2 := s1.tcm.copies.keys.foldl (fun t k =>
      match t.tcm.copies.find k with | some c => if c.to' = p then copyStop t k else t | none => t) s1
    bankLose s2 p

/-- A fenced bank returns: it is unbound (R259, Table 16.6). Its fault condition falls with the last lost bank of its logical number. -/
def tcmReturn (s : State) (p : Nat) : State :=
  let s1 := setBank s p {}
  if (tcmBank s p).lost && !(List.range 96).any (fun q => (tcmBank s1 q).lost && logicalOf s1 q == logicalOf s p) then
    faultFall s1 9 6 (logicalOf s p)
  else s1

/-- THRESHOLD; 0 acts as 1. -/
def tcmThreshold (s : State) : Nat := max 1 (rf s .tcmSuspectCfg [] 7 0)

/-- A bank becomes SUSPECT (R258, R259): it is replaced from the lowest unbound bank, or event 0x2405 is reported. -/
def bankSuspect (s : State) (p : Nat) : State :=
  let b := tcmBank s p
  let s1 := setBank s p { b with st := .suspect }
  let target := (List.range 96).find? (fun q => (tcmBank s q).st == .unbound)
  match rb s .tcmSuspectCfg [] 31, target with
  | true, some q =>
    modTcm (setBank (blockSwitch s1 (92 + q / 24) true) q { st := .copying, width := b.width, table := b.table })
      (fun t => { t with copies := t.copies.put p (some { to' := q, nextAt := s.now + 10000 }) })
  | _, _ => event s1 0x2405 (logicalOf s p) b.table

/-- The end of a 1 s window (R258): every bank with THRESHOLD events becomes SUSPECT, and the counts start afresh. -/
def suspectWindow (s : State) : State :=
  let s1 := forEach (List.range 96) (fun p t =>
    let b := tcmBank t p
    let t1 := setBank t p { b with errs := 0 }
    if b.st == .inService && decide (tcmThreshold t ≤ b.errs) then bankSuspect t1 p else t1) s
  modTcm s1 (fun t => { t with window := tbNs s / 1000000000 })

/-- The swap that ends a replacement: the target takes the logical number, the suspect bank is fenced and replaces none any more
(R258). -/
def bankSwap (s : State) (p q : Nat) : State :=
  let l := logicalOf s p
  let b := tcmBank s q
  let s1 := setBank s q { b with st := .inService, logical := (if l = q then none else some l), replaces := true, errs := 0 }
  let s2 := setFenced (setBank s1 p { tcmBank s1 p with st := .fenced, errs := 0, logical := none, replaces := false }) 9 p true
  let s3 := clearBank (modTcm s2 (fun t => { t with copies := t.copies.put p none })) p
  faultRise s3 9 5 l (lo32 (p * 256 + q)) 0

/-- Copy a row into a target with its parity and shadow, and with the entry's first row its data; a row whose shadow word is
uncorrectable is copied from the array (R258). -/
def copyUnit (s : State) (p q row : Nat) : State :=
  let f := firstRow s p row
  let h := if s.tcm.shadowBad.get false (entKey p row) then entAt s p f else shadowAt s p f
  let s1 := putUnit s q f (row - f) h
  let s2 := if row = f then
      modTcm (setData s1 q f (entAt s p f).data) (fun t => { t with
        dataBad := t.dataBad.set false (entKey q f) (s.tcm.dataBad.get false (entKey p f)) })
    else s1
  modTcm s2 (fun t => { t with shadow := t.shadow.set {} (entKey q f) { entAt s2 q f with data := 0 } })

/-- Copy the next row of a replacement, one per 20 ns (R258). -/
def copyRow (s : State) (p : Nat) : State :=
  match s.tcm.copies.find p with
  | none => s
  | some c =>
    if c.nextAt ≤ s.now then
      let s1 := modTcm (copyUnit s p c.to' c.row)
        (fun t => { t with copies := t.copies.put p (some { c with row := c.row + 1, nextAt := s.now + 20 }) })
      if c.row + 1 < 2048 then s1 else bankSwap s1 p c.to'
    else s

/-- The scrubber compares a row of a bound bank with its shadow and repairs a difference; it skips a row whose shadow word is
uncorrectable (R255, R257). -/
def scrubRow (s : State) (p row : Nat) : State :=
  if s.tcm.shadowBad.get false (entKey p row) || !rowDiffers s p row then s
  else bankErr (faultRise (count (rowFromShadow s p row) 9 0x20) 9 0 (logicalOf s p) (lo32 row) 0) p

/-! ## Commands -/

/-- TCM_NOP (R249): OP 0; a reserved OP completes BAD the same way (Table 8.4). -/
def execTcmNop (s : State) : Res := ok (tcmHead (fun o => o == 0 || decide (8 ≤ o)) s)
/-- TCM_WRITE (R248). -/
def execTcmWrite (s : State) : Res := ok (tcmHead (· == 1) s)
/-- TCM_CLEAR (R249). -/
def execTcmClear (s : State) : Res := ok (tcmHead (· == 2) s)
/-- TCM_READ (R249). -/
def execTcmRead (s : State) : Res := ok (tcmHead (· == 3) s)
/-- TCM_DATA (R249). -/
def execTcmData (s : State) : Res := ok (tcmHead (· == 4) s)
/-- BULK_BEGIN (R253). -/
def execBulkBegin (s : State) : Res := ok (tcmHead (· == 5) s)
/-- BULK_END (R253). -/
def execBulkEnd (s : State) : Res := ok (tcmHead (· == 6) s)
/-- TCM_SEARCH (R249, R251). -/
def execTcmSearch (s : State) : Res := ok (tcmHead (· == 7) s)
/-- BULK_CHECK_STEP (R253). -/
def execBulkCheckStep (s : State) : Res := ok (if onData s then bulkStep s else s)

/-- TCM_SCRUB_ROW (R255): the scrubber visits a row of a bound bank, and `hit` is the upset that strikes the row after the visit, all
zeros where none does. -/
def execTcmScrubRow (p : Fin 96) (row : Fin 2048) (hit : Upset) (s : State) : Res :=
  ok (if onData s && bankUp s p.val then upsetRow (scrubRow s p.val row.val) p.val row.val hit else s)

/-- TCM_SUSPECT_WINDOW (R258): at the end of each 1 s window of the time base. -/
def execTcmSuspectWindow (s : State) : Res :=
  ok (if onData s && decide (s.tcm.window ≠ tbNs s / 1000000000) then suspectWindow s else s)

/-- TCM_COPY_ROW (R258). -/
def execTcmCopyRow (p : Fin 96) (s : State) : Res := ok (if onData s then copyRow s p.val else s)

end Sys2Proof.Machine
end

