-- ==== Sys2Proof/Machine/Path.lean ====
section
/-! DEFINITION. The joints of the packet path that several blocks use: slices and their owners, the journal, segments queued to
the Ell, body tags and their credit, and punts queued to the engines. -/

namespace Sys2Proof.Machine

/-! ## Slices -/

/-- Change the slice block. -/
def modSlc (s : State) (f : SlcBlk → SlcBlk) : State := { s with slc := f s.slc }

/-- Slice i at reset: IDLE, with role i for S0 to S7 and 0 for S8 (Table 3.16). -/
def initSlice (i : Nat) : SliceSt := { role := if i < 8 then i else 0 }

/-- Slice i. -/
def sliceOf (s : State) (i : Nat) : SliceSt := s.slc.sl.get (initSlice i) i

/-- Change slice i. -/
def modSlice (s : State) (i : Nat) (f : SliceSt → SliceSt) : State :=
  modSlc s (fun b => { b with sl := b.sl.set (initSlice i) i (f (b.sl.get (initSlice i) i)) })

/-- Count in a counter of slice i (Table 6.17). -/
def countSlc (s : State) (i off : Nat) : State := bump s (cOff 6 (i * 0x8000 + off))

/-- Track t of slice i. -/
def trackOf (s : State) (i t : Nat) : Track := (sliceOf s i).tracks.get {} t

/-- Change a track. -/
def modTrack (s : State) (i t : Nat) (f : Track → Track) : State :=
  modSlice s i (fun x => { x with tracks := x.tracks.upd {} t f })

/-- The slice that owns a pair of port groups in effect (R27, R111). -/
def ownerOf (s : State) (pair : Nat) : Nat := s.slc.owner.get pair pair

/-- The pair that a slice owns. -/
def pairOwned (s : State) (i : Nat) : Option Nat := (List.range 8).find? (fun n => ownerOf s n == i)

/-- Pair of an input. -/
def pairOfInput (inp : Nat) : Nat := inp % 16 / 2

/-- Direction of an input: 0 ingress, 1 egress. -/
def dirOf (inp : Nat) : Nat := inp / 16

/-- A slice's pipeline runs: its domain is on and it is not fenced. -/
def sliceLive (s : State) (i : Nat) : Bool := onData s && domOn s (18 + i) && !isFenced s 6 i

/-! ## Egress bodies and credit -/

/-- Change the seam. -/
def modEll (s : State) (f : EllSt → EllSt) : State := { s with ell := f s.ell }

/-- Bundle direction k. -/
def bundleOf (s : State) (k : Nat) : Bundle := s.ell.b.get {} k

/-- Change bundle direction k. -/
def modBundle (s : State) (k : Nat) (f : Bundle → Bundle) : State :=
  modEll s (fun e => { e with b := e.b.upd {} k f })

/-- Body credit of direction d, group g. -/
def creditOf (s : State) (d g : Nat) : BodyCredit := s.ell.credit.get {} (d * 16 + g)

/-- Change body credit. -/
def modCredit (s : State) (d g : Nat) (f : BodyCredit → BodyCredit) : State :=
  modEll s (fun e => { e with credit := e.credit.upd {} (d * 16 + g) f })

/-- Fields of a body tag (R287): group and index. -/
def tagGroup (tag : Nat) : Nat := tag / 2 ^ 14 % 16
/-- Index of a body tag. -/
def tagIndex (tag : Nat) : Nat := tag % 2 ^ 14
/-- Generation of a body tag. -/
def tagGen (tag : Nat) : Nat := tag / 2 ^ 18 % 4
/-- A tag from its fields. -/
def mkTag (gen g i : Nat) : Nat := gen * 2 ^ 18 + g * 2 ^ 14 + i

/-- The sender takes a tag and body credit (R288, R290): none when it holds no tag or too few bytes. -/
def takeTag (s : State) (d g n : Nat) : Option (Nat × State) :=
  let c := creditOf s d g
  match c.tags with
  | [] => none
  | t :: rest =>
    if n ≤ c.bytes then some (t, modCredit s d g (fun x => { x with tags := rest, bytes := x.bytes - n })) else none

/-- A tag returns to its group with its generation incremented (R289), and with it the bytes of its body. -/
def giveTag (s : State) (d tag n : Nat) : State :=
  modCredit s d (tagGroup tag) (fun x => { x with
    freed := x.freed ++ [mkTag ((tagGen tag + 1) % 4) (tagGroup tag) (tagIndex tag)]
    used := x.used - n })

/-- Segments a bundle direction's queue holds before it holds back its sources (R291). -/
def segqMax : Nat := 1024

/-- Room in the segment queue of a bundle direction. -/
def segRoom (s : State) (k : Nat) : Bool := decide ((bundleOf s k).segq.length < segqMax) && (bundleOf s k).held.isEmpty

/-- Held segments enter the queue as far as it has room (R291). -/
def Bundle.refill (b : Bundle) : Bundle :=
  { b with segq := b.segq ++ b.held.take (segqMax - b.segq.length), held := b.held.drop (segqMax - b.segq.length) }

/-- Queue segments at a bundle direction's transmitter, in order; what finds no room is held back (R291). -/
def ellPushAll (s : State) (k : Nat) (l : List Seg) : State := modBundle s k (fun b => { b with held := b.held ++ l }.refill)

/-- Queue a segment at a bundle direction's transmitter. -/
def ellPush (s : State) (k : Nat) (g : Seg) : State := ellPushAll s k [g]

/-- The bundle of a ticket at ingress (R283). -/
def bundleOfTicket (t : Ticket) : Nat :=
  let sp := tfld t 227 220
  if 128 ≤ sp then sp % 16 else sp / 8

/-- An egress body at the MAC is freed (R290). -/
def freeEgBody (s : State) (tag : Nat) : State :=
  let b := s.slc.egBody.get ([], false) tag
  giveTag (modSlc s (fun x => { x with egBody := x.egBody.put tag none })) 1 tag b.1.length

/-- The body of a head that goes nowhere is given up: an ingress body by a RELEASE segment, an egress body at the MAC (R289, R290). -/
def dropBody (s : State) (h : Head) : State :=
  match h.tag with
  | none => s
  | some t => if h.inp < 16 then ellPush s h.inp (.release t) else freeEgBody s t

/-! ## Journal -/

/-- Entries of a journal by direction. -/
def jrnlOf (x : SliceSt) (dir : Nat) : SMap JEntry := if dir = 0 then x.jIn else x.jEg

/-- Write or retire an entry (R189). -/
def jPut (x : SliceSt) (dir slot : Nat) (e : Option JEntry) : SliceSt :=
  if dir = 0 then { x with jIn := x.jIn.put slot e } else { x with jEg := x.jEg.put slot e }

/-- Retire an entry. -/
def jRetire (s : State) (i dir slot : Nat) : State := modSlice s i (fun x => jPut x dir slot none)

/-- Capacity of a journal (R188). -/
def jCap (dir : Nat) : Nat := if dir = 0 then 16384 else 8192

/-- First number not in an ascending list. -/
def firstGap : List Nat → Nat → Nat
  | [], n => n
  | k :: rest, n => if k = n then firstGap rest (n + 1) else n

/-- A free slot of a journal. -/
def jFree (x : SliceSt) (dir : Nat) : Option Nat :=
  let m := jrnlOf x dir
  if m.entries.length < jCap dir then some (firstGap m.keys 0) else none

/-! ## Punts to the engines -/

/-- Change the engines. -/
def modXe (s : State) (f : XeSt → XeSt) : State := { s with xe := f s.xe }

/-- Class c. -/
def xeClassOf (s : State) (c : Nat) : XeClass := s.xe.cls.get {} c

/-- Change class c. -/
def modClass (s : State) (c : Nat) (f : XeClass → XeClass) : State :=
  modXe s (fun x => { x with cls := x.cls.upd {} c f })

/-- Engine e. -/
def xeEng (s : State) (e : Nat) : XeEngine := s.xe.eng.get {} e

/-- Change engine e. -/
def modEng (s : State) (e : Nat) (f : XeEngine → XeEngine) : State :=
  modXe s (fun x => { x with eng := x.eng.upd {} e f })

/-- Cluster k. -/
def xeClu (s : State) (k : Nat) : XeCluster := s.xe.clu.get {} k

/-- Change cluster k. -/
def modClu (s : State) (k : Nat) (f : XeCluster → XeCluster) : State :=
  modXe s (fun x => { x with clu := x.clu.upd {} k f })

/-- The engines of cluster k. -/
def engsOf (k : Nat) : List Nat := (List.range 16).map (fun j => 16 * k + j)

/-- Event 0x2805, once, for a valid class whose cluster set has no engine left that is not fenced (R268). -/
def xeLack (s : State) : State :=
  forEach (List.range 64) (fun c t =>
    let b := regRaw t .xeClassB [c]
    let lack := rb t .xeClassA [c] 31 && (clustersOf b).all (fun k => (engsOf k).all (fun e => (xeEng t e).reason != 0))
    let told := (xeClassOf t c).told
    if lack && !told then event (modClass t c (fun x => { x with told := true })) 0x2805 c c
    else if told && !lack then modClass t c (fun x => { x with told := false })
    else t) s

/-- QMAX of a class in effect. -/
def xeQmax (s : State) (c : Nat) : Nat := clamp 1 8192 (rf s .xeClassC [c] 13 0)

/-- MAX_PUNTS; 0 acts as 1. -/
def xeMaxPunts (s : State) : Nat := max 1 (rf s .xeCfg [] 13 11)

/-- A punted head that is dropped: its journal entry is retired and its body given up (R266, R268). -/
def puntDrop (s : State) (p : Punt) : State := jRetire (dropBody s p.head) p.jsl (dirOf p.head.inp) p.slot

/-- The punt port passes a head on (R186, R266, R268): to its class queue, or it is dropped for an invalid class or for too many
punts; none when the queue is full. -/
def puntPass (s : State) (p : Punt) : Option State :=
  if !rb s .xeClassA [p.cls] 31 then some (puntDrop (count s 0xA 0x40) p)
  else if xeMaxPunts s < p.punts then some (puntDrop (event (count s 0xA 0x38) 0x2808 p.cls p.slice) p)
  else if (xeClassOf s p.cls).q.length < xeQmax s p.cls then
    some (modClass s p.cls (fun c => { c with q := c.q ++ [{ p := p, since := s.now }] }))
  else none

end Sys2Proof.Machine
end

