-- ==== Sys2Proof/Machine/Mir.lean ====
section
/-! DEFINITION. Mirror sessions (R337 to R343): which packet is copied, its length, its ticket and its policing. -/

namespace Sys2Proof.Machine

/-- Change the buffer block. -/
def modBpm (s : State) (f : BpmSt → BpmSt) : State := { s with bpm := f s.bpm }

/-- Count in a counter of session n (Table 11.10). -/
def countMir (s : State) (n off k : Nat) : State := bumpN s (cOff 0x14 (n * 0x20 + off)) k

/-- The settings of a session that a copy's making goes by: MIR_SESS_A_s and MIR_SESS_B_s (Table 11.9). -/
structure MirSess where
  /-- MIR_SESS_A_s. -/
  a : Word
  /-- MIR_SESS_B_s. -/
  b : Word
deriving DecidableEq, Repr

/-- The settings of session n in a register file: those in effect, or those that a head keeps from its parser entry (R52). -/
def mirSess (regs : SMap Word) (n : Nat) : MirSess :=
  { a := regs.get (Reg.reset .mirSessA [n - 1]) (Reg.addr .mirSessA [n - 1])
    b := regs.get (Reg.reset .mirSessB [n - 1]) (Reg.addr .mirSessB [n - 1]) }

/-- A session that is in use. -/
def mirEn (m : MirSess) (n : Nat) : Bool := decide (1 ≤ n) && decide (n ≤ 15) && tbit m.a 31

/-- N of a session; a mirror behaves as 1 (R340). -/
def mirN (m : MirSess) : Nat := if tbit m.a 30 then fld m.b 15 0 + 1 else 1

/-- The reload of a countdown (R340). -/
def mirReload (s : State) (m : MirSess) : Nat × State :=
  if tbit m.a 30 && tbit m.b 31 then
    let d := draw s
    (1 + d.1 % (2 * mirN m - 1), d.2)
  else (mirN m, s)

/-- Load the countdown of a session at a point. -/
def mirLoad (s : State) (m : MirSess) (n point : Nat) : State :=
  let r := mirReload s m
  modBpm r.2 (fun b => { b with count := b.count.set 1 (n * 32 + point) r.1 })

/-- A packet names session n at a point: the countdown decreases, and at 0 the packet is to be copied (R340). -/
def mirTake (s : State) (m : MirSess) (n point : Nat) : Bool × State :=
  let c := s.bpm.count.get 1 (n * 32 + point)
  if c ≤ 1 ∨ tbit m.a 30 = false then (true, mirLoad s m n point)
  else (false, modBpm s (fun b => { b with count := b.count.set 1 (n * 32 + point) (c - 1) }))

/-- TRUNC; 1 to 63 act as 64. -/
def mirTrunc (m : MirSess) : Nat :=
  let t := fld m.b 29 16
  if t = 0 then 0 else max 64 t

/-- The copy length (R341). -/
def mirLen (m : MirSess) (len : Nat) : Nat := if mirTrunc m = 0 then len else min len (mirTrunc m)

/-- RATE of session n. -/
def mirRate (s : State) (n : Nat) : Nat := rf s .mirSessC [n - 1] 31 20

/-- The content of session n's bucket now, in 1/800 B (R342): it starts full, and RATE and BURST in effect refill it. -/
def mirLevel (s : State) (n : Nat) : Nat :=
  let b := rf s .mirSessC [n - 1] 11 0
  let cap := (if b = 0 then 13 else b) * 1024 * 800
  match s.bpm.mirB.find n with
  | none => cap
  | some (l, t) => min cap (l + mirRate s n * (s.now - t))

/-- The session's bucket takes a copy of `len` bytes (R342): none when it does not conform. The bucket is the session's own, not a
head's, so it goes by the values in effect. -/
def mirPolice (s : State) (n len : Nat) : Option State :=
  if mirRate s n = 0 then some s
  else if len * 800 ≤ mirLevel s n then
    some (modBpm s (fun x => { x with mirB := x.mirB.put n (some (mirLevel s n - len * 800, s.now)) }))
  else none

/-- Bring a session's bucket up to now, before RATE or BURST changes: the new rate counts from the boundary (R52). -/
def mirSettle (s : State) (n : Nat) : State :=
  if (s.bpm.mirB.find n).isSome then modBpm s (fun x => { x with mirB := x.mirB.put n (some (mirLevel s n, s.now)) }) else s

/-- The session's target queue (R337). -/
def mirTarget (m : MirSess) : Nat := if tbit m.a 29 then 0xFFFF8 + fld m.a 2 0 else fld m.a 19 0

/-- The copy's ticket (R339). -/
def mirTicket (m : MirSess) (t : Ticket) (len : Nat) : Ticket :=
  let t1 := tset t 255 252 (if tbit m.a 30 then 4 else 2)
  let t2 := tset (tset (tset t1 249 248 (fld m.a 22 21)) 247 245 (fld m.a 25 23)) 244 244 (fld m.a 26 26)
  let t3 := tset (tset (tset t2 241 228 len) 215 196 (mirTarget m)) 111 108 0
  let t4 := if tbit m.a 27 then tset t3 95 82 (tfld t 241 228) else t3
  tsealed t4

end Sys2Proof.Machine
end

