-- ==== Sys2Proof/Machine/Buf.lean ====
section
/-! DEFINITION. The on-die store: pools, buffers, reference counts (R311 to R316, R331), and the counters of queues. -/

namespace Sys2Proof.Machine

/-! ## Pools -/

/-- Bytes of a buffer of pool p (Table 11.1). -/
def poolBytes (p : Nat) : Nat := if p = 0 then 256 else if p = 1 then 1024 else if p = 2 then 4096 else 12288

/-- The pool with the smallest buffers that hold a need (R313). -/
def poolFor (need : Nat) : Nat := if need ≤ 256 then 0 else if need ≤ 1024 then 1 else if need ≤ 4096 then 2 else 3

/-- The need of a packet with a body of n bytes (R313). -/
def bodyNeed (n : Nat) : Nat := min (n + 320) 12288

/-- COUNT and RES of a pool. -/
def poolCount (s : State) (p : Nat) : Nat := rf s .bpmPoolCfg [p] 19 0
/-- RES × 64. -/
def poolRes (s : State) (p : Nat) : Nat := rf s .bpmPoolCfg [p] 31 24 * 64

/-- Key of buffer i of pool p. -/
def bufKey (p i : Nat) : Nat := p * 2 ^ 20 + i

/-- The buffers of a pool that are allocated, ascending. -/
def poolUsed (s : State) (p : Nat) : List Nat :=
  ((s.bpm.bufs.entries.filter (fun e => e.1 / 2 ^ 20 == p && e.2.used)).map (fun e => e.1 % 2 ^ 20))

/-- FREE of a pool. -/
def poolFree (s : State) (p : Nat) : Nat := poolCount s p - (poolUsed s p).length

/-- FREE_B (R322): free bytes above the reserves, none of the terms of a sum below 0 as a whole. -/
def freeBytes (s : State) : Nat :=
  (((List.range 4).map (fun p => ((poolFree s p : Int) - poolRes s p) * poolBytes p)).sum).toNat

/-- Buffer k. -/
def bufOf (s : State) (k : Nat) : Buf := s.bpm.bufs.get {} k

/-- Change buffer k. -/
def modBuf (s : State) (k : Nat) (f : Buf → Buf) : State := modBpm s (fun b => { b with bufs := b.bufs.upd {} k f })

/-- BPM_POOL_MIN keeps the lowest FREE (Table 11.5). -/
def poolLow (s : State) (p : Nat) : State :=
  let f := poolFree s p
  let m := s.bpm.poolMin.find p
  modBpm s (fun b => { b with poolMin := b.poolMin.put p (some (match m with | some x => min x f | none => f)) })

/-- Take the lowest free buffer of a pool for a packet: generation + 1, REF 1 (R314, R315, R331). `reserve`: the
read-ahead may use the reserve. -/
def bufAlloc (s : State) (p : Nat) (reserve : Bool) (pkt : List Byte) : Option (Nat × Nat × State) :=
  if (if reserve then 0 else poolRes s p) < poolFree s p then
    let k := bufKey p (firstGap (poolUsed s p) 0)
    let gen := ((bufOf s k).gen + 1) % 16
    some (k, gen, poolLow (modBuf s k (fun _ => { used := true, gen := gen, ref := 1, pkt := pkt })) p)
  else none

/-- An allocation that fails counts, and the first one is reported (R314). -/
def allocFail (s : State) (p : Nat) : State :=
  let s1 := count s 0xC (0x30 + p * 8)
  if s.bpm.told.get false p then s1
  else event (modBpm s1 (fun b => { b with told := b.told.set false p true })) 0x3001 p (min (2 ^ 26 - 1) (freeBytes s / 1024))

/-- A refused free (R315). -/
def bufRefuse (s : State) (k gen : Nat) (cause : Bool) : State :=
  let s1 := count s 0xC 0x50
  let cap := mkF 31 31 1 ||| mkB 30 cause ||| mkF 29 28 (k / 2 ^ 20) ||| mkF 27 24 gen ||| mkF 19 0 (k % 2 ^ 20)
  let s2 := if rb s1 .bpmDfreeCap [] 31 then s1 else setReg s1 .bpmDfreeCap [] cap
  faultRise s2 0xC 0 (k / 2 ^ 20) (mkB 31 cause ||| mkF 19 0 (k % 2 ^ 20)) 0

/-- A pool whose FREE is above COUNT / 16 may report being empty again (R314). -/
def poolEase (s : State) (p : Nat) : State :=
  if poolCount s p / 16 < poolFree s p then modBpm s (fun b => { b with told := b.told.set false p false }) else s

/-- One reference to a packet is released; at 0 the buffer is free (R315, R331). -/
def bufDec (s : State) (k gen : Nat) : State :=
  let b := bufOf s k
  if !b.used then bufRefuse s k gen false
  else if b.gen ≠ gen ∨ b.ref = 0 then bufRefuse s k gen true
  else if b.ref = 1 then poolEase (modBuf s k (fun x => { gen := x.gen })) (k / 2 ^ 20)
  else modBuf s k (fun x => { x with ref := x.ref - 1 })

/-- One reference more. -/
def bufInc (s : State) (k : Nat) : State := modBuf s k (fun x => { x with ref := x.ref + 1 })

/-- Release the reference of a pointer to a buffer; a pointer to a data record holds none. -/
def ptrRelease (s : State) (p : Ptr) : State := match p.loc with | .buf k gen => bufDec s k gen | .hbm => s

/-- The packet a pointer carries: the first L bytes of what is stored. -/
def ptrBytes (s : State) (p : Ptr) : List Byte := match p.loc with | .buf k _ => ((bufOf s k).pkt).take p.len | .hbm => []

/-! ## Queues -/

/-- Queue q. -/
def qOf (s : State) (q : Nat) : QSt := s.bpm.q.get {} q

/-- Change queue q. -/
def modQ (s : State) (q : Nat) (f : QSt → QSt) : State := modBpm s (fun b => { b with q := b.q.upd {} q f })

/-- ONDIE(q). -/
def onDie (x : QSt) : Nat := (x.on.map (fun p => p.len)).sum

/-- DEPTH(q): on-die and in HBM (R319). -/
def qDepth (x : QSt) : Nat := onDie x + ((x.hbm.filter (fun r => !r.dead)).map (fun r => r.p.len)).sum

/-- Count in a counter of queue q (Table 11.8). -/
def countQ (s : State) (q off : Nat) : State := bump s (qCtr q off)

/-- Add to a counter of BPM. -/
def countB (s : State) (off : Nat) : State := count s 0xC off

/-- The first packet channel queue. -/
def pktQ0 : Nat := 0xFFFF8

/-- EG_BASE. -/
def egBase (s : State) : Nat := rf s .schQsplit [] 19 0

/-- An egress queue (R373). -/
def isEgQ (s : State) (q : Nat) : Bool := decide (egBase s ≤ q) && decide (q < pktQ0)

/-- Register word w of scheduler node (level, index): its key in `regs` (R376). -/
def nodeKey (lvl idx w : Nat) : Nat := 2 ^ 32 + ((lvl * 2 ^ 20 + idx) * 8 + w)

/-- Reset value of word w of a node (Table 13.6). -/
def nodeReset (w : Nat) : Word := if w = 0 then 0x00040000 else if w = 3 then 0x00400040 else 0

/-- Word w of a node, its own bits. -/
def nodeRaw (s : State) (lvl idx w : Nat) : Word := s.regs.get (nodeReset w) (nodeKey lvl idx w)

/-- Field of a node word. -/
def nf (s : State) (lvl idx w hi lo : Nat) : Nat := fld (nodeRaw s lvl idx w) hi lo

/-- Write word w of a node. -/
def setNode (s : State) (lvl idx w : Nat) (v : Word) : State :=
  { s with regs := s.regs.set (nodeReset w) (nodeKey lvl idx w) v }

/-- EN of a node. -/
def nodeEn (s : State) (lvl idx : Nat) : Bool := nf s lvl idx 0 31 31 == 1

/-! ## Scheduler nodes -/

/-- Change the scheduler. -/
def modSch (s : State) (f : SchSt → SchSt) : State := { s with sch := f s.sch }

/-- Key of node (level, index). -/
def nkey (lvl idx : Nat) : Nat := lvl * 2 ^ 20 + idx

/-- Buckets, deficit and positions of a node. -/
def nodeSt (s : State) (lvl idx : Nat) : NodeSt := s.sch.node.get {} (nkey lvl idx)

/-- Change them. -/
def modNode (s : State) (lvl idx : Nat) (f : NodeSt → NodeSt) : State :=
  modSch s (fun x => { x with node := x.node.upd {} (nkey lvl idx) f })

/-- The children of a node in use, ascending (R375). -/
def childrenOf (s : State) (lvl idx : Nat) : List Nat :=
  let lo := nodeKey (lvl + 1) 0 0
  let hi := nodeKey (lvl + 2) 0 0
  (s.regs.entries.filter (fun e => decide (lo ≤ e.1) && decide (e.1 < hi) && e.1 % 8 == 0 && tbit e.2 31 && fld e.2 17 0 == idx)).filterMap
    (fun e => let i := (e.1 - lo) / 8; if lvl = 3 ∧ !isEgQ s i then none else some i)

/-- Does a node's subtree hold a pointer? `b` levels above the queues. -/
def holdsPtr (s : State) : Nat → Nat → Bool
  | 0, q => !(qOf s q).on.isEmpty || (qOf s q).hbm.any (fun r => !r.dead)
  | b + 1, idx => (childrenOf s (3 - b) idx).any (holdsPtr s b)

/-- A child whose queue or subtree holds no pointer has its DEF set to 0 (R381). -/
def defClear (s : State) (q : Nat) : State :=
  let n3 := nf s 4 q 0 17 0
  let n2 := nf s 3 n3 0 17 0
  let n1 := nf s 2 n2 0 17 0
  [(0, 4, q), (1, 3, n3), (2, 2, n2), (3, 1, n1)].foldl (fun t x =>
    if holdsPtr t x.1 x.2.2 then t else modNode t x.2.1 x.2.2 (fun y => { y with defi := 0 })) s

/-- The port that an egress queue's chain of parents leads to (R390). -/
def portOfQ (s : State) (q : Nat) : Nat := nf s 1 (nf s 2 (nf s 3 (nf s 4 q 0 17 0) 0 17 0) 0 17 0) 0 17 0 % 128

/-- The state of a port node. -/
def schPort (s : State) (p : Nat) : SchPort := s.sch.port.get {} p

/-- Is queue q refusing under the link-hold rules: an egress queue whose port is in DOWN or FLUSH, except as R391 gives? -/
def refusing (s : State) (q : Nat) : Bool :=
  isEgQ s q && (let x := schPort s (portOfQ s q); x.st == .down || (x.st == .flush && !x.link))

end Sys2Proof.Machine
end

