-- ==== Sys2Proof/Machine/Flit.lean ====
section
/-! DEFINITION. The layout of a flit and of its segments, lane striping, lane parity and CRC-64 (R284, R285, Tables 10.1 and 10.2). -/

namespace Sys2Proof.Machine

/-- The CRC-64 of a byte string (Table 10.1): polynomial 0x42F0E1EBA9EA3693, initial value all ones, result complemented. -/
def crc64 (l : List Byte) : Nat :=
  (2 ^ 64 - 1) ^^^ crcBits 64 0x42F0E1EBA9EA3693 (2 ^ 64 - 1) (l.flatMap (fun b => msbBits 8 b.toNat))

/-- A segment header: TYPE, port group, body length, body tag and LAST (R285). -/
def segHead (ty g len tag : Nat) (last : Bool) : List Byte :=
  beBytes 8 (ty * 2 ^ 60 + g % 16 * 2 ^ 56 + len % 2 ^ 14 * 2 ^ 42 + tag % 2 ^ 20 * 2 ^ 22 + last.toNat * 2 ^ 21)

/-- The bytes of a segment (Table 10.2). The bodies of FENCE, BARRIER and CREDIT are not laid out by the spec: 4 B for a slice or a byte
count and 4 B for each tag (log entry 63). -/
def segWire : Seg → List Byte
  | .head g t bytes tag => segHead 1 g (32 + bytes.length) (tag.getD 0) tag.isNone ++ beBytes 32 t.toNat ++ bytes
  | .body g tag _ bytes last => segHead 2 g bytes.length tag last ++ bytes
  | .admitPtr sl o j => segHead 3 0 4 0 false ++ beBytes 4 (sl % 16 * 2 ^ 28 + o % 4 * 2 ^ 26 + j % 2 ^ 16)
  | .release tag => segHead 4 (tag / 2 ^ 14 % 16) 4 tag false ++ beBytes 4 (tag % 2 ^ 20)
  | .fence g sl => segHead 5 g 4 0 false ++ beBytes 4 sl
  | .barrier g sl => segHead 6 g 4 0 false ++ beBytes 4 sl
  | .carry g => segHead 7 g 0 0 false
  | .credit g tags bytes => segHead 8 g (4 + 4 * tags.length) 0 false ++ beBytes 4 bytes ++ tags.flatMap (fun t => beBytes 4 t)
  | .other ty g bytes => segHead ty g bytes.length 0 false ++ bytes

/-- HEADER (Table 10.1): FTYPE, SEQ, ACK, NAK, SWAP_OP, SWAP_LANE and SWAP_SPARE. -/
def flitHead (f : Flit) : Nat :=
  let ftype := if f.train then 2 else if f.data.isSome then 0 else 1
  ftype * 2 ^ 60 + (match f.data with | some (q, _) => q % 4096 | none => 0) * 2 ^ 48 + f.ack % 4096 * 2 ^ 36 + f.nak.toNat * 2 ^ 35
    + f.swapOp % 4 * 2 ^ 33 + f.lane % 64 * 2 ^ 26 + (f.spare == 65).toNat * 2 ^ 25

/-- CONTROL (Table 10.1). -/
def flitCtl (f : Flit) : Nat :=
  match f.ctl with
  | .none => 0
  | .time ns frac => 1 * 2 ^ 60 + ns % 2 ^ 40 * 2 ^ 16 + frac % 2 ^ 16
  | .sleep v => 2 * 2 ^ 60 + v % 4

/-- Bytes 0 to 8,175: HEADER, CONTROL and PAYLOAD, which a TRAIN flit fills with the alignment word on every lane (R297) and another pads
with zeros, PAD segments. -/
def flitFront (f : Flit) : List Byte :=
  let segs := match f.data with | some (_, l) => l.flatMap segWire | none => []
  let pay := if f.train then (List.replicate 2040 (beBytes 4 0x6B1E93C5)).flatten else segs ++ List.replicate (8160 - segs.length) 0
  beBytes 8 (flitHead f) ++ beBytes 8 (flitCtl f) ++ pay

/-- The logical lane that carries bit p of a flit, most significant bit of byte 0 first: byte 4l + j of each 256-byte cycle. -/
def laneOfBit (p : Nat) : Nat := p / 8 % 256 / 4

/-- The place of bit l of LANE_PAR. -/
def parPlace (l : Nat) : Nat := 8176 * 8 + (63 - l)

/-- Does lane l carry an odd number of the bits at these places, its own LANE_PAR bit among them wherever it travels? -/
def laneOdd (places : List Nat) (l : Nat) : Bool :=
  (places.filter (fun p => laneOfBit p == l || p == parPlace l)).length % 2 == 1

/-- Bit p of a byte string. -/
def bitAt (l : List Byte) (p : Nat) : Bool := (l.getD (p / 8) 0).toNat.testBit (7 - p % 8)

/-- The places of the bits that are 1. -/
def onePlaces (l : List Byte) : List Nat := (List.range (8 * l.length)).filter (bitAt l)

/-- A flit with a value of LANE_PAR, and its CRC over bytes 0 to 8,183. -/
def flitWith (front : List Byte) (par : Nat) : List Byte :=
  let l := front ++ beBytes 8 par
  l ++ beBytes 8 (crc64 l)

/-- LANE_PAR and CRC cover each other on lanes 60 to 63: the value of LANE_PAR is the one under which every lane has even parity. -/
def flitWire (f : Flit) : List Byte :=
  let front := flitFront f
  let low := ((List.range 60).filter (laneOdd (onePlaces front))).map (fun l => 2 ^ l)
  let good (par : Nat) : Bool := (List.range 64).all (fun l => !laneOdd (onePlaces (flitWith front par)) l)
  flitWith front (((List.range 16).map (fun h => low.sum + h * 2 ^ 60)).find? good |>.getD low.sum)

/-- x^n modulo the CRC's polynomial. -/
def crcPow : Nat → Nat
  | 0 => 1
  | n + 1 => let r := 2 * crcPow n; if r.testBit 64 then r ^^^ (2 ^ 64 + 0x42F0E1EBA9EA3693) else r

/-- The receiver's CRC sees these wrong bits: the CRC is linear, so they go unseen only where their remainders cancel. -/
def crcSees (bits : List Nat) : Bool := bits.foldl (fun a p => a ^^^ crcPow (65535 - p)) 0 != 0

end Sys2Proof.Machine
end

