-- ==== Sys2Proof/Machine/Ell.lean ====
section
/-! DEFINITION. The Ell seam (R282 to R310): flits, segments, retry, bring-up, spares, fence and partner, sleep. -/

namespace Sys2Proof.Machine

/-- The reverse direction of a bundle direction. -/
def revOf (k : Nat) : Nat := (k + 16) % 32

/-- The partner of a bundle direction (R283). -/
def partnerOf (k : Nat) : Nat := if k % 2 = 0 then k + 1 else k - 1

/-- Count in a counter of bundle direction k (Table 10.12). -/
def countEll (s : State) (k off : Nat) : State := bump s (cOff 0xB (k * 0x400 + off))

/-- Index list of bundle direction k. -/
def ellIdx (k : Nat) : List Nat := [k / 16, k % 16]

/-! ## Bodies -/

/-- ING_BYTES in bytes. -/
def ingBytes (s : State) : Nat := clamp 1 64 (rf s .ellBodyCfg [] 11 0) * 65536

/-- AGE_MS in ns. -/
def ageNs (s : State) : Nat := clamp 1 1000 (rf s .ellBodyCfg [] 31 22) * 1000000

/-- An ingress body by its tag. -/
def ingBodyOf (s : State) (tag : Nat) : IngBody := s.ell.body.get {} (tag % 2 ^ 18)

/-- Change an ingress body. -/
def modIngBody (s : State) (tag : Nat) (f : IngBody → IngBody) : State :=
  modEll s (fun e => { e with body := e.body.upd {} (tag % 2 ^ 18) f })

/-- The body that waits under a tag, when the generation is the tag's (R289). -/
def waitingBody (s : State) (tag : Nat) : Option BodyWait :=
  let b := ingBodyOf s tag
  if b.gen = tagGen tag then b.wait else none

/-- A waiting ingress body is freed, and its tag returns (R289). Its buffer is given up unless `keep`. -/
def freeIngBody (s : State) (tag : Nat) (keep : Bool) : State :=
  match waitingBody s tag with
  | none => s
  | some w =>
    let s1 := match w.buf with | some (k, g) => if keep then s else bufDec s k g | none => s
    let s2 := giveTag s1 0 tag (ingBodyOf s tag).charged
    modIngBody s2 tag (fun b => { gen := (b.gen + 1) % 4, wait := none, charged := 0 })

/-- A BODY segment at the Q-die (R287, R288, R313, R314). -/
def ingBodyRx (s : State) (tag total : Nat) (bytes : List Byte) (last : Bool) : State :=
  match waitingBody s tag with
  | some w => modIngBody s tag (fun b => { b with wait := some { w with bytes := w.bytes ++ bytes, full := last } })
  | none =>
    let p := poolFor (bodyNeed total)
    let r := match bufAlloc s p false [] with
      | some (k, g, s1) => (some (k, g), modBuf s1 k (fun b => { b with off := min 320 (12288 - total) }))
      | none => (none, allocFail s p)
    modIngBody r.2 tag (fun _ => { gen := tagGen tag, charged := total,
                                   wait := some { bytes := bytes, full := last, buf := r.1, at' := s.now } })

/-- ELL_BODY_AGE (R289): a body has waited AGE_MS. -/
def bodyAge (s : State) (g i : Nat) : State :=
  let b := s.ell.body.get {} (g * 2 ^ 14 + i)
  let tag := mkTag b.gen g i
  match b.wait with
  | none => s
  | some w =>
    if w.at' + ageNs s ≤ s.now then event (count (freeIngBody s tag false) 0xB 0x80008) 0x2C05 g tag else s

/-! ## Segments -/

/-- Bytes of a segment in a flit, its header included (R285, Table 10.2). -/
def segBytes : Seg → Nat
  | .head _ _ bytes _ => 8 + 32 + bytes.length
  | .body _ _ _ bytes _ => 8 + bytes.length
  | .admitPtr .. => 12
  | .release _ => 12
  | .fence .. => 12
  | .barrier .. => 12
  | .carry _ => 8
  | .credit _ tags _ => 12 + 4 * tags.length
  | .other _ _ bytes => 8 + bytes.length

/-- As many segments of a queue as fit in `room` bytes, and the rest. -/
def segFit : List Seg → Nat → List Seg × List Seg
  | [], _ => ([], [])
  | x :: rest, room =>
    if segBytes x ≤ room then let r := segFit rest (room - segBytes x); (x :: r.1, r.2) else ([], x :: rest)

/-- Send an admission report to the F-die, on the bundle of the ticket (R283, R320). -/
def admitReportTx (s : State) (b slice outcome jrnl : Nat) : State :=
  if jrnl < 0x4000 then ellPush s (16 + b) (.admitPtr slice outcome jrnl) else s

/-- Put an item before an admission unit (R317). -/
def unitPush (s : State) (u : Nat) (x : AdmItem) : State :=
  modBpm s (fun b => { b with unit := b.unit.upd [] u (fun l => l ++ [x]) })

/-- A ticket that fails the check of R30 is counted and raised. -/
def ticketBad (s : State) (g : Nat) (t : Ticket) : State :=
  faultRise (count s 0xB 0x80000) 0xB 4 g (lo32 (tfld t 255 252)) 0

/-- A full time from a short timestamp: the time nearest to now with the same low bits (Table 14.2). -/
def expandShort (now ns : Nat) : Nat :=
  let base := now / 2 ^ 32 * 2 ^ 32 + ns % 2 ^ 32
  if base + 2 ^ 31 ≤ now then base + 2 ^ 32 else if now + 2 ^ 31 < base then base - 2 ^ 32 else base

/-- A HEAD segment at the Q-die: the ticket is checked and goes to admission (R30, R317). -/
def headRxQ (s : State) (g : Nat) (t : Ticket) (out : List Byte) (tag : Option Nat) : State :=
  if ticketGood t then unitPush s g (.ing t out tag)
  else
    let s1 := ticketBad s g t
    let s2 := match tag with | some x => freeIngBody s1 x false | none => s1
    admitReportTx s2 g (tfld t 219 216) 2 (tfld t 31 16)

/-- A HEAD segment at the F-die: the ticket is checked and the head waits to be dealt (R30, R173, R182). -/
def headRxF (s : State) (g : Nat) (t : Ticket) (out : List Byte) (tag : Option Nat) : State :=
  if ticketGood t then
    let ts := tfld t 159 112
    let ns := expandShort (tbNs s) (ts / 65536)
    let h : Head := { inp := 16 + g, port := tfld t 215 196 % 128, bytes := out, len := tfld t 241 228, ns := ns % 2 ^ 48,
                      frac := ts % 65536, tag := tag, tkt := some t }
    modSlc s (fun b => { b with egress := b.egress.upd [] g (fun l => l ++ [h]) })
  else
    let s1 := ticketBad s g t
    match tag with | some x => freeEgBody s1 x | none => s1

/-- Body tags and bytes granted reach the sender of direction d (R288, R290). -/
def creditRx (s : State) (d g : Nat) (tags : List Nat) (bytes : Nat) : State :=
  modCredit s d g (fun c => { c with tags := c.tags ++ tags, bytes := c.bytes + bytes })

/-- A segment is delivered in direction d: 0 at the Q-die, 1 at the F-die (Table 10.2). A CARRY segment ends the hold of
the home bundle direction (R304). A segment of a reserved TYPE is dropped and raises SEG_BAD, and so does one of a type that its direction does
not carry (R285). -/
def segRx (d : Nat) (s : State) : Seg → State
  | .head g t out tag => if d = 0 then headRxQ s g t out tag else headRxF s g t out tag
  | .body _ tag total bytes last =>
    if d = 0 then ingBodyRx s tag total bytes last
    else modSlc s (fun b => { b with egBody := b.egBody.upd ([], false) tag (fun x => (x.1 ++ bytes, last)) })
  | .admitPtr sl o j => if d = 1 then modSlc s (fun b => { b with reports := b.reports ++ [(sl, o, j)] }) else faultRise0 s 0xB 5 0
  | .release tag => if d = 0 then freeIngBody s tag false else faultRise0 s 0xB 5 16
  | .fence _ sl => if d = 0 then s else modSlc s (fun b => { b with echoes := b.echoes ++ [sl] })
  | .barrier g sl =>
    if d = 1 then
      modSlc s (fun b => { b with egress := b.egress.upd [] g (fun l => l ++
        [{ inp := 16 + g, port := sl, bytes := [], len := 0, ns := 0, frac := 0 }]) })
    else faultRise0 s 0xB 5 g
  | .carry _ => s
  | .credit g tags bytes => creditRx s (1 - d) g tags bytes
  | .other _ g _ => faultRise0 s 0xB 5 (d * 16 + g)

/-- Deliver segments of bundle direction k in order. A fence marker goes to the admission unit of the bundle it came by,
behind the tickets before it (R191); a CARRY releases what the home bundle direction holds (R304). -/
def segsRx (s : State) (k : Nat) (l : List Seg) : State :=
  l.foldl (fun t x =>
    match x with
    | .fence _ sl => if k < 16 then unitPush t k (.fence sl) else segRx 1 t x
    | .carry g =>
      let h := k / 16 * 16 + g
      match (bundleOf t h).holding with
      | none => t
      | some held =>
        event (held.foldl (fun u fl => fl.foldl (segRx (h / 16)) u) (modBundle t h (fun b => { b with holding := none }))) 0x2C04 h 0
    | _ => segRx (k / 16) t x) s

/-! ## Credit -/

/-- The body bytes that direction d, group g may have granted (R288, R290). -/
def creditLimit (s : State) (d : Nat) : Nat := if d = 0 then ingBytes s else 1048576

/-- A CREDIT segment that the receiver of direction d' bodies has to send on bundle direction k of the other direction: freed
tags first, then tags never granted, at most 64, and the bytes up to the limit. -/
def creditDue (s : State) (k : Nat) : Option (Seg × State) :=
  let d := 1 - k / 16
  let g := k % 16
  let c := creditOf s d g
  let fromFreed := c.freed.take 64
  let nFresh := min (64 - fromFreed.length) (16384 - c.fresh)
  let want := decide (c.tags.length < 64)
  let tags := if want then fromFreed ++ (List.range nFresh).map (fun i => mkTag 0 g (c.fresh + i)) else []
  let bytes := creditLimit s d - c.used
  if tags.isEmpty && bytes == 0 then none
  else some (.credit g tags bytes, modCredit s d g (fun x => { x with
    freed := if want then x.freed.drop 64 else x.freed
    fresh := if want then x.fresh + nFresh else x.fresh
    used := x.used + bytes }))

/-! ## Transmit -/

/-- The entry of a retry buffer from which a replay goes on. -/
def replayEntry (b : Bundle) : Option (Nat × List Seg × Nat) :=
  b.replay.bind (fun q => b.retry.find? (fun e => e.1 == q))

/-- The SEQ after q in a retry buffer, when there is one. -/
def replayNext (b : Bundle) (q : Nat) : Option Nat :=
  if b.retry.any (fun e => e.1 == (q + 1) % 4096) then some ((q + 1) % 4096) else none

/-- Send the next replayed flit of bundle direction l (R293): the data, and the state with the replay moved on. -/
def sendReplay (s : State) (k l : Nat) : Option ((Nat × List Seg) × State) :=
  (replayEntry (bundleOf s l)).map (fun e =>
    let s1 := modBundle s l (fun b => { b with
      replay := replayNext b e.1
      retry := b.retry.map (fun x => if x.1 = e.1 then (x.1, x.2.1, x.2.2 + 1) else x) })
    ((e.1, e.2.1), countEll s1 k 0x10))

/-- Send a new flit on bundle direction k with segments of bundle direction l's queue (R284, R291). -/
def sendNew (s : State) (k l : Nat) : Option ((Nat × List Seg) × State) :=
  if 32 ≤ (bundleOf s k).retry.length then none
  else
    let r : List Seg × State := match creditDue s l with | some (x, s1) => ([x], s1) | none => ([], s)
    let used := (r.1.map segBytes).sum
    let f := segFit (bundleOf r.2 l).segq (8160 - used)
    let segs := r.1 ++ f.1
    if segs.isEmpty then none
    else
      let q := (bundleOf s k).seq
      let s1 := modBundle r.2 l (fun b => { b with segq := f.2 }.refill)
      some ((q, segs), modBundle s1 k (fun b => { b with seq := (q + 1) % 4096, retry := b.retry ++ [(q, segs, 0)] }))

/-- The hold at the receiver of a home bundle direction is full (R305). -/
def holdFull (b : Bundle) : Bool := match b.holding with | some l => decide (64 ≤ l.length + b.retry.length) | none => false

/-- Data of bundle direction k itself: replay ahead of new; none while its traffic is on the partner (R293, R304). -/
def ownData (s : State) (k : Nat) : Option ((Nat × Nat × List Seg) × State) :=
  let b := bundleOf s k
  if b.carried then none
  else match sendReplay s k k with
    | some (d, s1) => some ((k, d), s1)
    | none => if holdFull b then none else (sendNew s k k).map (fun r => ((k, r.1), r.2))

/-- Data of the partner that bundle direction k carries: first every flit of the partner's retry buffer under its own number,
then, once those are acknowledged, new segments in flits of k (R302). -/
def carriedData (s : State) (k : Nat) : Option ((Nat × Nat × List Seg) × State) :=
  let l := partnerOf k
  let b := bundleOf s l
  if !b.carried then none
  else match sendReplay s k l with
    | some (d, s1) => some ((l, d), s1)
    | none => if b.retry.isEmpty then (sendNew s k l).map (fun r => ((k, r.1), r.2)) else none

/-- A sleeping partner without AUTO_WAKE whose segments wait is carried from now on (R308). -/
def carrySleeper (s : State) (k : Nat) : State :=
  let l := partnerOf k
  let b := bundleOf s l
  if (b.st = .doze ∨ b.st = .off) ∧ !rb s .ellBcfg (ellIdx l) 29 ∧ !b.segq.isEmpty ∧ !b.carried then
    modBundle s l (fun x => { x with carried := true })
  else s

/-- The data of the next flit of k: its own and the partner's flit by flit in round robin (R302). -/
def nextData (s : State) (k : Nat) : Option ((Nat × Nat × List Seg) × State) :=
  if (bundleOf s k).turn then
    match carriedData s k with | some r => some r | none => ownData s k
  else
    match ownData s k with | some r => some r | none => carriedData s k

/-- A flit of bundle direction l that a replay would send again has been replayed 64 times without being accepted (R295). -/
def replayedOut64 (s : State) (l : Nat) : Bool :=
  match replayEntry (bundleOf s l) with | some e => decide (64 ≤ e.2.2) | none => false

/-- The retry buffer keeps its flits, to be sent again from the oldest (R295). -/
def replayAll (s : State) (l : Nat) : State :=
  modBundle s l (fun x => { x with replay := x.retry.head?.map Prod.fst, retry := x.retry.map (fun e => (e.1, e.2.1, 0)) })

/-- The time word of a flit (R286). -/
def timeWord (s : State) (k : Nat) : Option (Nat × Nat) :=
  if ((k = 0 ∧ s.tgt.ttPath = 0) ∨ (k = 8 ∧ s.tgt.ttPath = 1)) ∧ (bundleOf s k).sent % 8 = 0 then
    some (tbNs s % 2 ^ 40, tbFrac s)
  else none

/-- Send a flit on bundle direction k (R284, R291 to R293): DATA in UP, else CONTROL; header fields for the reverse of the
bundle direction whose number it carries. -/
def flitTx (s0 : State) (k : Nat) : State :=
  let s := carrySleeper s0 k
  let st := (bundleOf s k).st
  let r := if st = .up then nextData s k else none
  let orig := match r with
    | some (d, _) => d.1
    | none => if (bundleOf s k).turn && (bundleOf s (partnerOf k)).carried then partnerOf k else k
  let s1 := match r with | some (_, s1) => s1 | none => s
  let rv := bundleOf s1 (revOf orig)
  let b := bundleOf s1 k
  let rk := bundleOf s1 (revOf k)
  let swap : Nat × Nat × Nat := match b.swapDo, rk.swapReq with
    | x :: _, _ => (2, x.1, x.2)
    | [], x :: _ => (1, x.1, x.2)
    | [], [] => (0, 0, 0)
  let word := timeWord s1 k
  let ctl : FlitCtl := match word, b.notice with
    | some w, _ => .time w.1 w.2
    | none, some v => .sleep v
    | none, none => .none
  let f : Flit := { data := r.map (fun x => x.1.2), orig := orig, ack := (rv.next + 4095) % 4096, nak := rv.nakDue,
                    swapOp := swap.1, lane := swap.2.1, spare := swap.2.2, ctl := ctl }
  let s2 := modBundle s1 (revOf orig) (fun x => { x with nakDue := false })
  let s3 := if b.swapDo.isEmpty then modBundle s2 (revOf k) (fun x => { x with swapReq := x.swapReq.drop 1 }) else s2
  modBundle s3 k (fun x => { x with
    wire := x.wire ++ [f], swapDo := x.swapDo.drop 1, notice := if word.isSome then x.notice else none,
    sent := x.sent + 1, nextAt := s.now + 32, turn := !x.turn })

/-- The time-transfer path follows what can carry it (R286): TT_PATH at a change, TT_LOST with none. -/
def ttPathNow (s : State) : Nat :=
  let runs (k : Nat) : Bool := (bundleOf s k).st == .up || (bundleOf s k).st == .doze
  if runs 0 then 0 else if runs 8 then 1 else if onChain s then 2 else 3

/-- Bring the time-transfer path up to date. -/
def ttUpdate (s : State) : State :=
  let p := ttPathNow s
  if p = s.tgt.ttPath then s
  else
    let s1 := faultRise0 (modTgt s (fun t => { t with ttPath := p })) 0xF 1 0
    if p = 3 then condRise s1 0xF 2 0 (lo32 2) 0 else faultFall s1 0xF 2 0

/-- BOTH_DOWN stands while a fenced bundle direction's partner is not UP (R303). -/
def bothDown (s : State) (k : Nat) : State :=
  let p := partnerOf k
  let down := (bundleOf s k).st == .fenced && (bundleOf s p).st != .up
  if down then condRise s 0xB 3 k (lo32 (p % 16)) 0
  else if holds s 0xB 3 k then faultFall s 0xB 3 k else s

/-- Both of a pair of partners are looked at again. -/
def pairCheck (s : State) (k : Nat) : State := bothDown (bothDown s k) (partnerOf k)

/-- A TRAIN flit (R284, R297). -/
def trainTx (s : State) (k : Nat) : State :=
  modBundle s k (fun x => { x with
    wire := x.wire ++ [{ data := none, orig := k, ack := 0, nak := false, swapOp := 0, lane := 0, spare := 0, train := true }]
    nextAt := s.now + 32 })

/-- RETRAIN (R295): what the bundle direction sent, its own and its partner's, is replayed from the oldest flit afterwards. -/
def ellRetrain (s : State) (k : Nat) : State :=
  let s1 := if (bundleOf s (partnerOf k)).carried then replayAll (replayAll s k) (partnerOf k) else replayAll s k
  let s2 := modBundle s1 k (fun x => { x with st := .retrain, since := s.now, wire := [] })
  ttUpdate (pairCheck (countEll s2 k 0x18) k)

/-- ELL_FLIT_TX (R284): every 32 ns a bundle direction that runs sends a flit, and one that trains or verifies a TRAIN flit (R297). One that
would replay a flit, its own or one it carries, for the 65th time goes to RETRAIN (R295). -/
def ellTx (s : State) (k : Nat) : State :=
  let b := bundleOf s k
  if s.now < b.nextAt then s
  else if b.st = .up ∨ b.st = .doze then
    if b.st = .up ∧ (replayedOut64 s k || ((bundleOf s (partnerOf k)).carried && replayedOut64 s (partnerOf k))) then ellRetrain s k
    else flitTx s k
  else if b.st = .train ∨ b.st = .retrain ∨ b.st = .wake then trainTx s k
  else s

/-! ## Fence and partner -/

/-- Hardware clears the HOME bit of a bundle direction, in effect and in the open value (R304). -/
def homeClear (s : State) (k : Nat) : State :=
  let a := Reg.addr .ellHome []
  let s1 := setRB s .ellHome [] k false
  match s1.fur.opn.find a with
  | some v => { s1 with fur := { s1.fur with opn := s1.fur.opn.put a (some (setBit v k false)) } }
  | none => s1

/-- A bundle direction is fenced (R302): its traffic and its unacknowledged flits go by the partner. A partner whose own
traffic it carried goes home. Cause 0 training, 1 clock lane, 2 no spare; event 0x2C03 on every entry (Table 10.3). -/
def ellFence (s : State) (k cause : Nat) : State :=
  let p := partnerOf k
  let home := (bundleOf s p).carried && (bundleOf s p).st == .up
  let s1 := if home then modBundle s p (fun b => { b with carried := false, replay := b.retry.head?.map Prod.fst }) else s
  let s2 := modBundle s1 k (fun b => { b with
    st := .fenced, since := s.now, wire := [], carried := true, replay := b.retry.head?.map Prod.fst,
    swapReq := [], swapDo := [], nakAt := none, nakDue := false, clk := false })
  let s3 := setFenced (homeClear s2 k) 0xB k true
  let s4 := if holds s3 0xB 2 k then event s3 0x2C03 k cause else condRise s3 0xB 2 k (lo32 cause) 0
  ttUpdate (pairCheck s4 k)

/-- A bundle direction enters TRAIN (Table 10.3). -/
def ellTrain (s : State) (k : Nat) : State :=
  ttUpdate (modBundle s k (fun b => { b with st := .train, since := s.now, wire := [], bad := 0, moved := {}, par := {} }))

/-- The traffic of bundle direction k returns home (R304): what waits goes by the partner with a CARRY segment behind it, and
the receiver holds what comes by the home bundle until the CARRY arrives. -/
def homeReturn (s : State) (k : Nat) : State :=
  let b := bundleOf s k
  if b.st = .up ∧ b.carried ∧ b.retry.isEmpty ∧ rb s .ellHome [] k then
    let s1 := ellPushAll s (partnerOf k) (b.segq ++ b.held ++ [.carry (k % 16)])
    modBundle s1 k (fun x => { x with carried := false, segq := [], held := [], holding := some [] })
  else s

/-- A bundle direction becomes UP (Table 10.3). -/
def ellUp (s : State) (k : Nat) : State :=
  let s1 := modBundle s k (fun b => { b with st := .up, since := s.now, nextAt := s.now, wire := b.wire.filter (fun f => !f.train),
                                             replay := if b.carried then b.replay else b.retry.head?.map Prod.fst })
  let s2 := if holds s1 0xB 2 k then faultFall s1 0xB 2 k else s1
  homeReturn (ttUpdate (pairCheck s2 k)) k

/-! ## Lanes -/

/-- The physical lane of a logical lane. -/
def lanePhys (b : Bundle) (l : Nat) : Nat := (b.moved.find l).getD l

/-- The logical lane that a physical lane carries. -/
def logicalOn (b : Bundle) (ph : Nat) : Option Nat := (List.range 64).find? (fun l => lanePhys b l == ph)

/-- Free good spares, ascending: physical lanes that carry no data and are not bad (R300, R301). -/
def freeSpares (b : Bundle) : List Nat :=
  (List.range 66).filter (fun ph => (logicalOn b ph).isNone && !b.bad.testBit ph && !(b.swapReq ++ b.swapDo).any (fun x => x.2 == ph))

/-- Mark a physical lane bad. -/
def markBad (s : State) (k ph : Nat) : State := modBundle s k (fun b => { b with bad := b.bad ||| 1 <<< ph })

/-- LANE_THR; 0 acts as 1. -/
def laneThr (s : State) (k : Nat) : Nat := max 1 (rf s .ellBcfg (ellIdx k) 7 0)

/-- Parity errors of a physical lane within the present 1 µs. -/
def parCount (b : Bundle) (now ph : Nat) : Nat :=
  let x := b.par.get (0, 0) ph
  if now < x.2 + 1000 then x.1 else 0

/-- One parity error on a physical lane (R299). -/
def parErr (s : State) (k ph : Nat) : State :=
  let s1 := countEll s k (0x100 + ph * 8)
  modBundle s1 k (fun b => { b with par := b.par.upd (0, 0) ph (fun x => if s.now < x.2 + 1000 then (x.1 + 1, x.2) else (1, s.now)) })

/-- ELL_LANE_BAD (R299 to R301): a lane loses signal, or has shown LANE_THR parity errors. -/
def laneBad (s : State) (k ph : Nat) (loss : Bool) : State :=
  let b := bundleOf s k
  if b.bad.testBit ph || !(loss || decide (laneThr s k ≤ parCount b s.now ph)) then s
  else
    let s1 := markBad s k ph
    if b.st ≠ .up then s1
    else match logicalOn b ph with
      | none => s1
      | some l =>
        match freeSpares (bundleOf s1 k) with
        | [] => ellFence s1 k 2
        | sp :: _ => modBundle s1 k (fun x => { x with swapReq := x.swapReq ++ [(l, sp)] })

/-- The receiver of bundle direction k uses the new map (R300): a lane is replaced. -/
def swapTaken (s : State) (k l sp : Nat) : State :=
  let s1 := countEll (modBundle s k (fun b => { b with moved := b.moved.set l l sp })) k 0x20
  if (freeSpares (bundleOf s1 k)).isEmpty then condRise s1 0xB 6 k (mkF 13 8 l ||| mkB 0 (sp == 65)) 0
  else faultRise s1 0xB 1 k (mkF 13 8 l ||| mkB 0 (sp == 65)) 0

/-- ELL_LANE_SEARCH_DONE (R301): a bad lane passes a full search and becomes a free spare. -/
def laneSearchDone (s : State) (k ph : Nat) (pass : Bool) : State :=
  let b := bundleOf s k
  if b.bad.testBit ph && pass then
    let s1 := modBundle s k (fun x => { x with bad := x.bad ^^^ 1 <<< ph, par := x.par.set (0, 0) ph (0, 0) })
    if holds s1 0xB 6 k then faultFall s1 0xB 6 k else s1
  else s

/-! ## Receive -/

/-- A cumulative ACK reaches the transmitter of bundle direction l; with NAK it replays what remains (R291, R293). -/
def ackRx (s : State) (l ack : Nat) (nak : Bool) : State :=
  modBundle s l (fun b =>
    let rest := b.retry.filter (fun e => decide ((e.1 + 4096 - ack - 1) % 4096 < 2048))
    { b with
      retry := rest
      replay := if nak then rest.head?.map Prod.fst
                else b.replay.bind (fun q => if rest.any (fun e => e.1 == q) then some q else none) })

/-- Ask for a replay (R292): NAK in the next reverse flit, repeated every 500 ns. -/
def askReplay (s : State) (l : Nat) : State :=
  modBundle s l (fun b => { b with nakDue := true, nakAt := some (s.now + 500) })

/-- A discard asks for a replay (R292); while a request stands, the flits discarded behind it ask for none of their own. -/
def discardRx (s : State) (l : Nat) : State := if (bundleOf s l).nakAt.isSome then s else askReplay s l

/-- What a lost flit of bundle direction k carried beside its DATA is sent again: the next reverse flit repeats a NAK while the request
stands (R293), and a swap is asked for or made again. -/
def headLost (s : State) (k : Nat) (f : Flit) : State :=
  let s1 := if f.nak then modBundle s (revOf f.orig) (fun b => { b with nakDue := b.nakDue || b.nakAt.isSome }) else s
  if f.swapOp = 1 then modBundle s1 (revOf k) (fun b => { b with swapReq := (f.lane, f.spare) :: b.swapReq })
  else if f.swapOp = 2 then modBundle s1 k (fun b => { b with swapDo := (f.lane, f.spare) :: b.swapDo })
  else s1

/-- The DATA of a flit numbered `q` of bundle direction o, which came by k (R292, R304). -/
def dataRx (s : State) (k o q : Nat) (segs : List Seg) : State :=
  let b := bundleOf s o
  if q = b.next then
    let s1 := countEll (modBundle s o (fun x => { x with next := (q + 1) % 4096, nakAt := none, nakDue := false })) k 0x00
    match b.holding with
    | some held => if o = k then modBundle s1 o (fun x => { x with holding := some (held ++ [segs]) }) else segsRx s1 o segs
    | none => segsRx s1 o segs
  else if (q + 4096 - b.next) % 4096 < 2048 then discardRx s o
  else s

/-- Every logical lane with a parity error counts it against its physical lane (R299). -/
def laneErrs (s : State) (k : Nat) (bits : List Nat) : State :=
  ((List.range 64).filter (laneOdd bits)).foldl (fun t l => parErr t k (lanePhys (bundleOf s k) l)) s

/-- ELL_FLIT_RX (R292): the oldest flit on the way arrives with these bits wrong. A TRAIN flit carries nothing. -/
def ellRx (s : State) (k : Nat) (bits : List Nat) : State :=
  match (bundleOf s k).wire with
  | [] => s
  | f :: rest =>
    let s0 := modBundle s k (fun b => { b with wire := rest })
    if f.train then s0
    else
      let s1 := laneErrs s0 k bits
      if crcSees bits then
        let s2 := faultRise0 (discardRx (countEll s1 k 0x08) k) 0xB 0 k
        let s3 := if (bundleOf s2 (partnerOf k)).carried then discardRx s2 (partnerOf k) else s2
        headLost s3 k f
      else
        let s2 := homeReturn (ackRx s1 (revOf f.orig) f.ack f.nak) (revOf f.orig)
        let s3 := if f.swapOp = 1 then modBundle s2 (revOf k) (fun b => { b with swapDo := b.swapDo ++ [(f.lane, f.spare)] })
                  else if f.swapOp = 2 then swapTaken s2 k f.lane f.spare else s2
        match f.data with
        | some (q, segs) => dataRx s3 k f.orig q segs
        | none => s3

/-- ELL_NAK_REPEAT (R292). -/
def nakRepeat (s : State) (k : Nat) : State :=
  match (bundleOf s k).nakAt with
  | some t => if t ≤ s.now then askReplay s k else s
  | none => s

/-! ## Training and sleep -/

/-- Good lanes of a mask of bad ones. -/
def goodLanes (bad : Nat) : Nat := ((List.range 66).filter (fun l => !bad.testBit l)).length

/-- Map the logical lanes of bad physical lanes onto the good spares (Table 10.3). -/
def mapLanes (bad : Nat) : SMap Nat :=
  let sp := [64, 65].filter (fun l => !bad.testBit l)
  (((List.range 64).filter (fun l => bad.testBit l)).zip sp).foldl (fun m x => m.set x.1 x.1 x.2) {}

/-- Store the alignment of every lane: its values are the search's (R297, R298). -/
def storeAlign (s : State) (k bad : Nat) : State :=
  let s1 := forEach (List.range 66) (fun l t =>
    let d := draw t
    setReg d.2 .ellLaneAlign (ellIdx k ++ [l])
      (if bad.testBit l then 0 else mkF 31 31 1 ||| mkF 20 16 d.1 ||| mkF 13 8 (d.1 / 32) ||| mkF 1 0 (d.1 / 2048))) s
  if k = 0 ∨ k = 8 then
    let d := draw s1
    setReg d.2 .ellDelay (ellIdx k) (mkF 15 0 d.1)
  else s1

/-- ELL_FULL_SEARCH_DONE (R297, Table 10.3). -/
def fullSearchDone (s : State) (k : Nat) (clk : Bool) (bad : Nat) : State :=
  if (bundleOf s k).st ≠ .train then s
  else if clk ∧ 64 ≤ goodLanes bad ∧ s.now ≤ (bundleOf s k).since + 10000000 then
    let s1 := storeAlign s k bad
    let s2 := modBundle s1 k (fun b => { b with clk := true, bad := bad, moved := mapLanes bad, stored := true, par := {} })
    event (ellUp s2 k) 0x2C02 k (2 ^ 31 + goodLanes bad)
  else ellFence (modBundle s k (fun b => { b with bad := if clk then bad else bad ||| 1 <<< 66 })) k 0

/-- ELL_TRAIN_TIMEOUT (R296). -/
def trainTimeoutEll (s : State) (k : Nat) : State :=
  let b := bundleOf s k
  if b.st = .train ∧ b.since + 10000000 ≤ s.now then ellFence s k 0 else s

/-- ELL_RETRAIN_DONE (R295, R298): quick alignment passes within 20 µs, or a full search follows. -/
def retrainDone (s : State) (k : Nat) (pass : Bool) : State :=
  let b := bundleOf s k
  if b.st ≠ .retrain then s
  else if pass ∧ s.now ≤ b.since + 20000 then ellUp s k
  else ellTrain s k

/-- ELL_CLOCK_LOSS (R296): the clock lane of an UP bundle direction is lost. -/
def clockLoss (s : State) (k : Nat) : State :=
  if (bundleOf s k).st = .up then ellFence (markBad s k 66) k 1 else s

/-- SLEEP as it acts: 3 acts as 0. -/
def sleepOf (s : State) (k : Nat) : Nat :=
  let v := rf s .ellBcfg (ellIdx k) 31 30
  if v = 3 then 0 else v

/-- May a bundle direction go to OFF (R307)? -/
def offAllowed (s : State) (k : Nat) : Bool :=
  let r := (bundleOf s (revOf k)).st
  !(r == .up || r == .wake) && k != 0 && k != 8

/-- The switched domain of an Ell bundle direction follows its state (Table 19.3). -/
def ellDom (s : State) (k : Nat) (on : Bool) : State := blockSwitch s (52 + k) on

/-- ELL_SLEEP_ENTER (R306, R307). -/
def sleepEnter (s : State) (k : Nat) : State :=
  let b := bundleOf s k
  let v := sleepOf s k
  let to' : BState := if v = 2 ∧ offAllowed s k then .off else .doze
  if v ≠ 0 ∧ ((b.st = .up ∧ b.retry.isEmpty) ∨ (b.st = .doze ∧ to' = .off)) then
    let s1 := modBundle s k (fun x => { x with st := to', since := s.now, clk := to' == .doze, wire := if to' = .off then [] else x.wire })
    ttUpdate (pairCheck (if to' = .off then ellDom s1 k false else s1) k)
  else s

/-- ELL_WAKE (R308): SLEEP 0, or a queued segment with AUTO_WAKE, or one that the partner cannot carry. -/
def ellWake (s : State) (k : Nat) : State :=
  let b := bundleOf s k
  let seg := !b.segq.isEmpty && (rb s .ellBcfg (ellIdx k) 29 || (bundleOf s (partnerOf k)).st != .up)
  if (b.st = .doze ∨ b.st = .off) ∧ (sleepOf s k = 0 ∨ seg) then
    ttUpdate (modBundle (if b.st = .off then ellDom s k true else s) k (fun x => { x with st := .wake, since := s.now }))
  else s

/-- ELL_WAKE_DONE (Table 10.3). -/
def wakeDone (s : State) (k : Nat) (pass : Bool) : State :=
  if (bundleOf s k).st ≠ .wake then s
  else if pass then ellUp (modBundle s k (fun b => { b with clk := true })) k
  else ellTrain s k

/-- A write of ELL_BCFG (R306): the new SLEEP value goes out in a notice. -/
def bcfgWrite (s : State) (k : Nat) (v : Word) : State :=
  let old := sleepOf s k
  let s1 := setReg s .ellBcfg (ellIdx k) (v &&& 0xE00000FF)
  if sleepOf s1 k = old then s1 else modBundle s1 k (fun b => { b with notice := some (sleepOf s1 k) })

/-! ## Commands -/

/-- ELL_FLIT_TX (R284). -/
def execEllFlitTx (k : Fin 32) (s : State) : Res := ok (if onData s then ellTx s k.val else s)

/-- ELL_FLIT_RX (R292): `hdr` and `rest` are the bits received wrong, in HEADER and CONTROL and after them. -/
def execEllFlitRx (k : Fin 32) (hdr : List (Fin 128)) (rest : List (Fin 65408)) (s : State) : Res :=
  ok (if onData s then ellRx s k.val (hdr.map (fun x => x.val) ++ rest.map (fun x => 128 + x.val)) else s)

/-- ELL_NAK_REPEAT (R292). -/
def execEllNakRepeat (k : Fin 32) (s : State) : Res := ok (if onData s then nakRepeat s k.val else s)

/-- ELL_LANE_BAD (R299, R300). -/
def execEllLaneBad (k : Fin 32) (lane : Fin 66) (loss : Bool) (s : State) : Res :=
  ok (if onData s then laneBad s k.val lane.val loss else s)

/-- ELL_FULL_SEARCH_DONE (R297). -/
def execEllFullSearchDone (k : Fin 32) (clk : Bool) (bad : BitVec 66) (s : State) : Res :=
  ok (if onData s && fwRuns s then fullSearchDone s k.val clk bad.toNat else s)

/-- ELL_TRAIN_TIMEOUT (R296). -/
def execEllTrainTimeout (k : Fin 32) (s : State) : Res := ok (if onData s then trainTimeoutEll s k.val else s)

/-- ELL_RETRAIN_DONE (R295). -/
def execEllRetrainDone (k : Fin 32) (pass : Bool) (s : State) : Res := ok (if onData s then retrainDone s k.val pass else s)

/-- ELL_CLOCK_LOSS (R296). -/
def execEllClockLoss (k : Fin 32) (s : State) : Res := ok (if onData s then clockLoss s k.val else s)

/-- ELL_SLEEP_ENTER (R307). -/
def execEllSleepEnter (k : Fin 32) (s : State) : Res := ok (if onData s then sleepEnter s k.val else s)

/-- ELL_WAKE (R308). -/
def execEllWake (k : Fin 32) (s : State) : Res := ok (if onData s then ellWake s k.val else s)

/-- ELL_WAKE_DONE (R296). -/
def execEllWakeDone (k : Fin 32) (pass : Bool) (s : State) : Res := ok (if onData s then wakeDone s k.val pass else s)

/-- ELL_BODY_AGE (R289). -/
def execEllBodyAge (g : Fin 16) (i : Fin 16384) (s : State) : Res := ok (if onData s then bodyAge s g.val i.val else s)

/-- ELL_LANE_SEARCH_DONE (R301). -/
def execEllLaneSearchDone (k : Fin 32) (lane : Fin 66) (pass : Bool) (s : State) : Res :=
  ok (if onData s && fwRuns s then laneSearchDone s k.val lane.val pass else s)

end Sys2Proof.Machine
end

