-- ==== Sys2Proof/Machine/Adm.lean ====
section
/-! DEFINITION. Admission, policers, multicast replication and mirror copies at ingress (R317 to R343, R374, R387, R388, R425). -/

namespace Sys2Proof.Machine

/-! ## Policers -/

/-- A burst field in 1/8,000,000 B; 0 acts as 1 (R384). -/
def burstUnits (n : Nat) : Nat := max 1 n * 256 * 8000000

/-- A policer's bucket brought up to the time base `t`. -/
def polFill (o : Option Nat) (rate cap at' t : Nat) : Nat :=
  match o with | none => cap | some l => min cap (l + rate * (t - at'))

/-- Colour of L bytes at policer i by RFC 2698: 0 green, 1 yellow, 2 red, and the state with the tokens taken (R387, R388). -/
def polMark (s : State) (i len dp : Nat) : Nat × State :=
  let c := regRaw s .schPolC [i]
  let cir := (regRaw s .schPolA [i]).toNat
  let pir := max cir (regRaw s .schPolB [i]).toNat
  let x := s.sch.pol.get {} i
  let t := tbNs s
  let tc := polFill x.tc cir (burstUnits (fld c 11 0)) x.at' t
  let tp := polFill x.tp pir (burstUnits (fld c 23 12)) x.at' t
  let b := len * 8000000
  let pre := if tbit c 30 then (if fld c 27 26 ≤ dp then 2 else if fld c 29 28 ≤ dp then 1 else 0) else 0
  let colour := if pre = 2 ∨ tp < b then 2 else if pre = 1 ∨ tc < b then 1 else 0
  let tp' := if colour = 2 then tp else tp - b
  let tc' := if colour = 0 then tc - b else tc
  (colour, { s with sch := { s.sch with pol := s.sch.pol.set {} i { tc := some tc', tp := some tp', at' := t } } })

/-- A pointer of L bytes with DP offered to queue q is metered; its DP after (R387). -/
def police (s : State) (q len dp : Nat) : Nat × State :=
  if isEgQ s q && nf s 4 q 6 31 31 == 1 then
    let i := nf s 4 q 6 15 0
    let c := regRaw s .schPolC [i]
    if tbit c 31 then
      let r := polMark s i len dp
      let s1 := bumpN r.2 (polCtr i (r.1 * 8)) len
      (if r.1 = 0 then dp else if r.1 = 1 then max dp (fld c 29 28) else max dp (fld c 27 26), s1)
    else (dp, s)
  else (dp, s)

/-! ## HBM space -/

/-- A channel. -/
def hbmCh (s : State) (c : Nat) : HCh := s.hbm.ch.get {} c

/-- A channel takes new blocks: it is open for every cause (R351, R360 to R364). -/
def chOpen (s : State) (c : Nat) : Bool :=
  let x := hbmCh s c
  (x.st == .open' || x.st == .paused) && rb s .hbmChCfg [c] 31 && !x.slow && !x.err && !x.hot && domOn s (84 + c / 16)

/-- Blocks in use in a channel (USED). -/
def chUsed (s : State) (c : Nat) : Nat := (s.hbm.blk.keys.filter (fun k => k / 2 ^ 18 == c)).length

/-- Free blocks in open channels (HBM_SPACE), 0 until training has completed (R370). -/
def hbmSpace (s : State) : Nat :=
  if s.hbm.trained then ((List.range 64).map (fun c => if chOpen s c then 262144 - chUsed s c else 0)).sum else 0

/-- Lines of a data record of L bytes (R326, R349). -/
def recLines (len : Nat) : Nat := (len + 63) / 64 + 1

/-- Every record of every queue's HBM part. -/
def allRecs (s : State) : List HRec := s.bpm.q.entries.flatMap (fun e => e.2.hbm)

/-- Lines reserved for records not yet written. -/
def resLines (s : State) : Nat := ((allRecs s).map (fun r => if r.st = .reserved then recLines r.p.len else 0)).sum

/-- Held-reference entries in use or reserved (R326, R350). -/
def hrefHeld (s : State) : Nat := ((allRecs s).filter (fun r => !r.dead && (r.st == .reserved || !r.data))).length

/-- Held-reference entries in use (HBM_HREF). -/
def hrefUsed (s : State) : Nat := ((allRecs s).filter (fun r => !r.dead && r.st != .reserved && !r.data)).length

/-! ## Spill -/

/-- PREF_KIB in bytes. -/
def prefBytes (s : State) : Nat := clamp 16 4096 (rf s .bpmSpillCfg [] 15 0) * 1024

/-- Profile number of a queue. -/
def profOf (s : State) (q : Nat) : Nat := rf s .bpmQcfg [q] 7 0

/-- SPILL_EN of a queue; never for a packet channel queue (R318). -/
def spillEn (s : State) (q : Nat) : Bool := rb s .bpmProfSpill [profOf s q] 31 && decide (q < pktQ0)

/-- SPILL_HI and SPILL_LO in bytes. -/
def spillHi (s : State) (q : Nat) : Nat := rf s .bpmProfSpill [profOf s q] 27 16 * 65536
/-- A SPILL_LO above HI acts as HI. -/
def spillLo (s : State) (q : Nat) : Nat := min (rf s .bpmProfSpill [profOf s q] 11 0 * 65536) (spillHi s q)

/-- A queue leaves SPILL when its HBM part is empty and DEPTH is below SPILL_LO (R328). -/
def spillExit (s : State) (q : Nat) : State :=
  let x := qOf s q
  if x.spill && x.hbm.isEmpty && decide (qDepth x < spillLo s q) then countB (modQ s q (fun y => { y with spill := false })) 0x60
  else s

/-! ## Flows -/

/-- The flow that a VOQ belongs to (R424): device × 512 + port × 4 + class. -/
def flowOf (s : State) (q : Nat) : Nat := rf s .fabVoqA [q] 31 24 * 512 + rf s .fabVoqA [q] 23 17 * 4 + rf s .fabVoqA [q] 16 15

/-- Change an outgoing flow. -/
def modTxf (s : State) (f : Nat) (g : TxFlow → TxFlow) : State :=
  { s with fab := { s.fab with txf := s.fab.txf.upd {} f g } }

/-- A pointer admitted to a VOQ adds L + 32 to its flow's REQ (R425). -/
def reqAdd (s : State) (q len : Nat) : State :=
  if q < egBase s then modTxf s (flowOf s q) (fun f => { f with req := (f.req + len + 32) % 2 ^ 32, due := true }) else s

/-! ## Table 11.2 -/

/-- What a packet in hand is: its buffer, or its bytes while it has none; pointers accepted so far. -/
structure Hand where
  /-- Buffer and generation. -/
  buf : Option (Nat × Nat)
  /-- The packet. -/
  raw : List Byte
  /-- Accepted pointers. -/
  acc : Nat := 0
deriving DecidableEq, Repr

/-- MAX_d in bytes. -/
def maxD (s : State) (q d : Nat) : Nat := rf s .bpmProfMax [profOf s q, d] 25 0 * 1024

/-- Early drop selects a pointer (R321): a 16-bit draw below the probability. -/
def earlyDrop (s : State) (q d : Nat) : Bool × State :=
  let ed := regRaw s .bpmProfEd [profOf s q]
  let mx := maxD s q d
  let lo := mx * max 1 (fld ed 27 24) / 16
  let dep := qDepth (qOf s q)
  if tbit ed 31 && decide (lo ≤ dep) then
    let r := draw s
    (decide ((r.1 % 65536) * (64 * (mx - lo)) < 65536 * (fld ed (6 * d + 5) (6 * d) * (dep - lo))), r.2)
  else (false, s)

/-- The share check (R322). -/
def shareOk (s : State) (q len : Nat) : Bool :=
  let m := regRaw s .bpmProfMin [profOf s q]
  let min' := fld m 19 0 * 1024
  let o := onDie (qOf s q) + len
  let a := signedOf 4 (fld m 31 28)
  decide (o ≤ min') || (if 0 ≤ a then decide (o - min' ≤ freeBytes s * 2 ^ a.toNat) else decide ((o - min') * 2 ^ (-a).toNat ≤ freeBytes s))

/-- A refusal: a counter of the block and one of the queue. -/
def refuse (s : State) (q off qoff : Nat) : State := countQ (countB s off) q qoff

/-- Is the queue valid for an offer at an ingress or egress unit (R318, R374)? -/
def validFor (s : State) (u q : Nat) : Bool :=
  rb s .bpmQcfg [q] 31 && (if u < 16 then decide (q < egBase s) || decide (pktQ0 ≤ q) else isEgQ s q)

/-- A buffer for a packet in hand that has none (step 7, R314). -/
def handBuf (s : State) (h : Hand) : Option ((Nat × Nat) × State) :=
  match h.buf with
  | some b => some (b, s)
  | none => (bufAlloc s (poolFor h.raw.length) false h.raw).map (fun r => ((r.1, r.2.1), r.2.2))

/-- The accept: DEPTH, counters, the flow's REQ. -/
def accepted (s : State) (q len : Nat) : State := reqAdd (countQ (countB s 0x00) q 0x00) q len

/-- Place a pointer on-die (step 7). -/
def placeOn (s : State) (q : Nat) (t : Ticket) (len : Nat) (h : Hand) : Bool × Hand × State :=
  match handBuf s h with
  | none => (false, h, countQ (allocFail s (poolFor h.raw.length)) q 0x08)
  | some ((k, g), s1) =>
    let s2 := modQ (bufInc s1 k) q (fun x => { x with on := x.on ++ [{ tkt := t, len := len, at' := s.now, loc := .buf k g }] })
    (true, { h with buf := some (k, g), acc := h.acc + 1 }, accepted s2 q len)

/-- Place a pointer in the HBM part (step 5, R325, R326): an entry and the space of a data record are reserved. A second
pointer of a packet keeps the packet on-die, so it takes a buffer. -/
def placeHbm (s : State) (u q : Nat) (t : Ticket) (len : Nat) (h : Hand) : Bool × Hand × State :=
  if hbmSpace s * 63 < resLines s + recLines len then
    (false, h, event (count (refuse s q 0x20 0x18) 0xD 0x80010) 0x3003 u q)
  else if 262144 ≤ hrefHeld s then (false, h, count (refuse s q 0x20 0x18) 0xD 0x80018)
  else
    let need := decide (1 ≤ h.acc) && h.buf.isNone
    match if need then handBuf s h else some (h.buf.getD (0, 0), s) with
    | none => (false, h, countQ (allocFail s (poolFor h.raw.length)) q 0x08)
    | some (b, s1) =>
      let buf := if need then some b else h.buf
      let loc : PLoc := match buf with | some (k, g) => .buf k g | none => .hbm
      let r : HRec := { p := { tkt := t, len := len, at' := s.now, loc := loc }, pkt := if buf.isNone then h.raw else [] }
      let s2 := modQ (match buf with | some (k, _) => bufInc s1 k | none => s1) q (fun x => { x with hbm := x.hbm ++ [r] })
      (true, { h with buf := buf, acc := h.acc + 1 }, accepted s2 q len)

/-- The checks of Table 11.2 on a pointer of `len` bytes offered by unit u to queue q (R319). -/
def offer (s0 : State) (u q : Nat) (t0 : Ticket) (len : Nat) (h : Hand) : Bool × Hand × State :=
  let pol := police s0 q len (tfld t0 249 248)
  let d := pol.1
  let t := tsealed (tset t0 249 248 d)
  let s := pol.2
  if !validFor s u q then (false, h, refuse s q 0x28 0x08)
  else if refusing s q then (false, h, refuse s q 0x18 0x10)
  else if maxD s q d < qDepth (qOf s q) + len then (false, h, refuse s q 0x08 0x08)
  else
    let e := earlyDrop s q d
    if e.1 then (false, h, refuse e.2 q 0x10 0x08)
    else
      let s1 := spillExit e.2 q
      let fits := (!spillEn s1 q || decide (onDie (qOf s1 q) + len ≤ spillHi s1 q)) && shareOk s1 q len
      if (qOf s1 q).spill then placeHbm s1 u q t len h
      else if fits then placeOn s1 q t len h
      else if spillEn s1 q then placeHbm (countB (modQ s1 q (fun x => { x with spill := true })) 0x58) u q t len h
      else (false, h, refuse s1 q 0x08 0x08)

/-! ## The end of a packet's copy-making -/

/-- The records of a packet whose copy-making has ended learn their kind: a data record only for the one accepted pointer
(R324, R326). -/
def recsReady (s : State) (buf : Option (Nat × Nat)) (acc : Nat) : State :=
  let mine (r : HRec) : Bool := r.st == .reserved && !r.ready && (match buf with
    | some (k, g) => r.p.loc == .buf k g || r.p.loc == .hbm
    | none => r.p.loc == .hbm)
  let fix (r : HRec) : HRec :=
    if mine r then
      match buf with
      | some (k, g) => { r with ready := true, data := acc == 1, p := { r.p with loc := .buf k g }, pkt := [] }
      | none => { r with ready := true, data := true }
    else r
  let late := match buf with | some _ => ((allRecs s).filter (fun r => mine r && r.p.loc == .hbm)).length | none => 0
  let s1 := modBpm s (fun b => { b with q := ⟨b.q.entries.map (fun e => (e.1, { e.2 with hbm := e.2.hbm.map fix }))⟩ })
  match buf with | some (k, _) => modBuf s1 k (fun x => { x with ref := x.ref + late }) | none => s1

/-- Replication and copy-making end: the admission hold is removed (R331). -/
def handEnd (s : State) (h : Hand) : State :=
  let s1 := recsReady s h.buf h.acc
  match h.buf with | some (k, g) => bufDec s1 k g | none => s1

/-- The mirror or sample copy of a packet decided at ingress unit u (R338 to R342). -/
def mirrorCopy (s : State) (u : Nat) (t : Ticket) (h : Hand) (origAcc : Bool) : Hand × State :=
  let n := tfld t 111 108
  let m := mirSess s.regs n
  if 16 ≤ u ∨ !mirEn m n then (h, s)
  else
    let r := mirTake s m n u
    if r.1 && (origAcc || tbit m.a 28) then
      let len := mirLen m (tfld t 241 228)
      match mirPolice r.2 n len with
      | none => (h, countMir r.2 n 0x10 1)
      | some s1 =>
        let o := offer s1 u (mirTarget m) (mirTicket m t len) len h
        if o.1 then (o.2.1, countMir (countMir o.2.2 n 0x00 1) n 0x08 len) else (o.2.1, countMir o.2.2 n 0x18 1)
    else (h, r.2)

/-! ## Units -/

/-- The target queue of a ticket that is not multicast (R318). -/
def targetQ (t : Ticket) : Nat := if tfld t 255 252 = 3 then pktQ0 + tfld t 198 196 else tfld t 215 196

/-- The admission report of an ingress ticket (R320). -/
def report (s : State) (u : Nat) (t : Ticket) (acc : Bool) : State :=
  if u < 16 then admitReportTx s u (tfld t 219 216) (if acc then 0 else 1) (tfld t 31 16) else s

/-- A unicast packet: the decision on its pointer, its copy, its report, the end of its hold. -/
def admitUnicast (s : State) (u : Nat) (t : Ticket) (h : Hand) : State :=
  let o := offer s u (targetQ t) t (tfld t 241 228) h
  let m := mirrorCopy o.2.2 u t o.2.1 o.1
  report (handEnd m.2 m.1) u t o.1

/-- Replicator queue of unit u. -/
def mcOf (s : State) (u : Nat) : List McJob := s.bpm.mc.get [] u

/-- Change a replicator queue. -/
def modMc (s : State) (u : Nat) (f : List McJob → List McJob) : State :=
  modBpm s (fun b => { b with mc := b.mc.upd [] u f })

/-- A multicast packet joins the replicator, or is dropped when its queue is full (R334). -/
def admitMulticast (s : State) (u : Nat) (t : Ticket) (h : Hand) : State :=
  match handBuf s h with
  | none => report (allocFail s (poolFor h.raw.length)) u t false
  | some ((k, g), s1) =>
    if 4096 ≤ (mcOf s1 u).length then
      let s2 := countB (bufDec s1 k g) 0x88
      let s3 := if s2.bpm.mcTold.get false u then s2
        else event (modBpm s2 (fun b => { b with mcTold := b.mcTold.set false u true })) 0x3004 u (tfld t 215 196 % 65536)
      report s3 u t false
    else modMc s1 u (fun l => l ++ [{ tkt := t, k := k, gen := g }])

/-- A packet with its ticket: multicast by TYPE 0x1, unicast otherwise. -/
def admitPacket (s : State) (u : Nat) (t : Ticket) (h : Hand) : State :=
  if tfld t 255 252 = 1 then admitMulticast s u t h else admitUnicast s u t h

/-- Take the item at the front of a unit. -/
def unitPop (s : State) (u : Nat) : State := modBpm s (fun b => { b with unit := b.unit.upd [] u (fun l => l.drop 1) })

/-- The ingress packet of a head with a body (R289, R313): none while its body is still arriving. -/
def admitBody (s : State) (u : Nat) (t : Ticket) (out : List Byte) (tag : Nat) : State :=
  let miss : State := report (count (freeIngBody (unitPop s u) tag false) 0xB 0x80010) u t false
  match waitingBody s tag with
  | none => report (count (unitPop s u) 0xB 0x80010) u t false
  | some w =>
    if !w.full then s
    else match w.buf with
      | none => miss
      | some (k, g) =>
        let pkt := out ++ w.bytes
        admitPacket (modBuf (freeIngBody (unitPop s u) tag true) k (fun b => { b with pkt := pkt, off := b.off - out.length })) u t
          { buf := some (k, g), raw := pkt }

/-- ADMIT_POINTER at unit u (R317 to R323). -/
def admitHead (s : State) (u : Nat) : State :=
  match s.bpm.unit.get [] u with
  | [] => s
  | .ing t out tag :: _ =>
    match tag with
    | some x => admitBody s u t out x
    | none => admitPacket (unitPop s u) u t { buf := none, raw := out }
  | .eg t k g :: _ => admitPacket (unitPop s u) u t { buf := some (k, g), raw := (bufOf s k).pkt }
  | .fence sl :: _ => if (mcOf s u).isEmpty then ellPush (unitPop s u) (16 + u % 16) (.fence (u % 16) sl) else s

/-! ## Multicast -/

/-- The group word of a packet in unit u (R330). -/
def groupWord (s : State) (u : Nat) (t : Ticket) : Word :=
  let g := tfld t 215 196 % 65536
  if u < 16 then regRaw s .bpmMcgIng [g] else regRaw s .bpmMcgEg [g]

/-- The offer of list entry i (R330, R332). -/
def mcEntry (s : State) (u : Nat) (j : McJob) (base : Nat) : Bool × State :=
  let i := base + j.i
  let q := rf s .bpmMclA [i] 19 0
  let t := if rb s .bpmMclB [i] 31 then tset j.tkt 195 176 (rf s .bpmMclB [i] 19 0) else j.tkt
  let o := offer s u q t (tfld j.tkt 241 228) { buf := some (j.k, j.gen), raw := [], acc := j.acc }
  (o.1, countB o.2.2 (if o.1 then 0x70 else 0x78))

/-- Replication of the packet at the front of a replicator ends (R331 to R334, R338). -/
def mcEnd (s : State) (u : Nat) (j : McJob) : State :=
  let s1 := if j.acc = 0 then countB s 0x80 else s
  let s2 := modMc s1 u (fun l => l.drop 1)
  let s3 := if (mcOf s2 u).length < 2048 then modBpm s2 (fun b => { b with mcTold := b.mcTold.set false u false }) else s2
  let m := mirrorCopy s3 u j.tkt { buf := some (j.k, j.gen), raw := [], acc := j.acc } (j.acc != 0)
  report (handEnd m.2 m.1) u j.tkt (j.acc != 0)

/-- MC_OFFER at unit u (R332). -/
def mcOffer (s : State) (u : Nat) : State :=
  match mcOf s u with
  | [] => s
  | j0 :: _ =>
    let w := groupWord s u j0.tkt
    let start := j0.list.isNone
    let bl := match j0.list with | some x => x | none => (fld w 17 0, fld w 31 21)
    let s1 := if start then countB s 0x68 else s
    if bl.2 ≤ j0.i then mcEnd s1 u j0
    else
      let r := mcEntry s1 u j0 bl.1
      let j : McJob := { j0 with list := some bl, i := j0.i + 1, acc := if r.1 then j0.acc + 1 else j0.acc }
      let s2 := modMc r.2 u (fun l => j :: l.drop 1)
      if bl.2 ≤ j.i then mcEnd s2 u j else s2

/-- A write of a group word: refused with MC_REJ for LEN above 1,024 or a list beyond the memory (R330). -/
def mcgWrite (s : State) (g : Nat) (eg : Bool) (v : Word) : State :=
  if 1024 < fld v 31 21 ∨ 262144 < fld v 17 0 + fld v 31 21 then setRB s .bpmStatus [] 31 true
  else setReg s (if eg then .bpmMcgEg else .bpmMcgIng) [g] (v &&& 0xFFE3FFFF)

/-! ## Commands -/

/-- ADMIT_POINTER (R317 to R343). -/
def execAdmitPointer (u : Fin 32) (s : State) : Res := ok (if blkOn s 0xC then admitHead s u.val else s)

/-- MC_OFFER (R332). -/
def execMcOffer (u : Fin 32) (s : State) : Res := ok (if blkOn s 0xC then mcOffer s u.val else s)

end Sys2Proof.Machine
end

