-- ==== Sys2Proof/Machine/Mac.lean ====
section
/-! DEFINITION. The MAC of the line ports: frames received and sent, timestamps, the split of head and body, the intake
(R133, R134, R141, R144 to R147, R182, R288). -/

namespace Sys2Proof.Machine

/-- The FCS of a frame's bytes as it stands at the frame's end: the CRC-32 of IEEE 802.3, its first bits in the first byte. -/
def fcsBytes (l : List Byte) : List Byte :=
  let c := crc32 l
  [BitVec.ofNat 8 c, BitVec.ofNat 8 (c / 2 ^ 8), BitVec.ofNat 8 (c / 2 ^ 16), BitVec.ofNat 8 (c / 2 ^ 24)]

/-- MAX_FRAME (Table 4.8). -/
def maxFrame (s : State) (p : Nat) : Nat := clamp 64 12288 (rf s .lpPortCfg [p / 8, p % 8] 13 0)

/-- LOOP; 3 acts as 0. -/
def loopOf (s : State) (p : Nat) : Nat :=
  let l := rf s .lpPortCfg [p / 8, p % 8] 28 27
  if l = 3 then 0 else l

/-- A timestamp taken now, in 2^-16 ns, with the adjustment of the port. Its error is a free value within R144's bound that the port, the
direction and the group's mode fix, so that it is the same after every realignment. -/
def stamp (s : State) (p hi lo : Nat) : Nat :=
  let bound := (if rf s .lpGrpMode [p / 8] 30 29 = 2 then 5 else 3) * 65536
  let e : Int := (Config.measured 5 ((regRaw s .lpGrpMode [p / 8]).toNat * 4096 + p * 32 + hi) % (2 * bound + 1) : Nat) - (bound : Int)
  let t : Int := (tbNs s * 65536 + tbFrac s : Nat) + signedOf 16 (rf s .lpPtpAdj [p / 8, p % 8] hi lo) * 4096 + e
  t.toNat

/-- Cells of a head (R182). -/
def cellsOf (h : Head) : Nat := (h.bytes.length + 63) / 64

/-- Intake of a group. -/
def intakeOf (s : State) (g : Nat) : Intake := s.slc.intake.get {} g

/-- Cells in use in an intake. -/
def intakeUsed (s : State) (g : Nat) : Nat := ((intakeOf s g).heads.map cellsOf).sum

/-- Change an intake. -/
def modIntake (s : State) (g : Nat) (f : Intake → Intake) : State := modSlc s (fun b => { b with intake := b.intake.upd {} g f })

/-- An intake whose use has fallen below half may report being full again (R182). -/
def intakeEase (s : State) (g : Nat) : State :=
  if intakeUsed s g < 65536 then modIntake s g (fun i => { i with told := false }) else s

/-- A frame whose head does not fit is dropped whole (R182). -/
def intakeDrop (s : State) (g : Nat) : State :=
  let s1 := modIntake (count s 6 (0x80000 + g * 8)) g (fun i => { i with full := true })
  if (intakeOf s g).told then s1 else event (modIntake s1 g (fun i => { i with told := true })) 0x1805 g g

/-- Cut a body into segments that each fit a flit (R284, R285): 8,152 B after the segment header. -/
def bodySegs (g tag total : Nat) : Nat → List Byte → List Seg
  | 0, _ => []
  | n + 1, l => if l.length ≤ 8152 then [.body g tag total l true] else .body g tag total (l.take 8152) false :: bodySegs g tag total n (l.drop 8152)

/-- An accepted frame, without FCS, is split, and its head joins the intake (R182, R288). -/
def macSplit (s : State) (p : Nat) (pkt : List Byte) : State :=
  let g := p / 8
  let ts := stamp s p 15 0
  let h : Head := { inp := g, port := p, bytes := pkt.take 256, len := pkt.length, ns := ts / 65536, frac := ts % 65536 }
  if 131072 < intakeUsed s g + cellsOf h then intakeDrop s g
  else
    let s1 := modIntake s g (fun i => { i with full := false })
    let body := pkt.drop 256
    let put (s : State) (h : Head) : State :=
      let s2 := modIntake s g (fun i => { i with heads := i.heads ++ [h] })
      maxRF s2 .slcIntakeMax [g] 17 0 (intakeUsed s2 g)
    if body.isEmpty then put s1 h
    else match takeTag s1 0 g body.length with
      | none => count s1 0xB (0x80100 + g * 8)
      | some (tag, s2) => put (ellPushAll s2 g (bodySegs g tag body.length 3 body)) { h with tag := some tag }

/-- A frame is received at the MAC of port p, FCS included (R133, R134); one that touches blocks of a codeword that the FEC could
not correct fails its FCS check (R131). Where several reasons to drop it hold, the first below counts it: DESIGN CHOICE
(log entry 57). -/
def macRx (s : State) (p : Nat) (f : List Byte) (fin : RxEnd) : State :=
  if fin == .cutShort || !(portOf s p).link then countLp s p 0x28
  else if f.length < 64 then countLp s p 0x18
  else if maxFrame s p < f.length then countLp s p 0x20
  else
    let pkt := f.take (f.length - 4)
    if fin = .badBlock ∨ f.drop (f.length - 4) ≠ fcsBytes pkt then countLp s p 0x10
    else if pkt.getD 12 0 = 0x88 ∧ pkt.getD 13 0 = 0x08 then countLp s p 0x30
    else macSplit (countLpN (countLp s p 0x00) p 0x08 f.length) p pkt

/-! ## Transmission -/

/-- Replace `new.length` bytes at an offset. -/
def putAt (l : List Byte) (o : Nat) (new : List Byte) : List Byte := l.take o ++ new ++ l.drop (o + new.length)

/-- `n` bytes at an offset, as a number. -/
def numAt (l : List Byte) (o n : Nat) : Nat := beNat ((l.drop o).take n)

/-- Ones'-complement sum of 16-bit words of a field, in the lanes it has at an offset's parity. -/
def onesSum (o : Nat) (l : List Byte) : Nat :=
  (l.zipIdx.map (fun x => x.1.toNat * (if (x.2 + o) % 2 = 0 then 256 else 1))).sum

/-- Fold a sum to 16 bits with end-around carry. -/
def fold16 (n : Nat) : Nat :=
  let a := n % 65536 + n / 65536
  let b := a % 65536 + a / 65536
  b % 65536 + b / 65536

/-- A UDP checksum after a change of a field of the frame (R146): incremental, in ones' complement; `o` has the parity of the field's
distance from the checksum, which begins a word of the datagram. -/
def csumUpdate (c o : Nat) (old new : List Byte) : Nat :=
  let neg := (old.zipIdx.map (fun x => (255 - x.1.toNat) * (if (x.2 + o) % 2 = 0 then 256 else 1))).sum
  65535 - fold16 ((65535 - c) + neg + onesSum o new)

/-- One-step update of a frame without FCS (R146): none when it is sent unchanged and counts in LP_PTP_ERR. -/
def ptpOneStep (f : List Byte) (desc : BitVec 64) (tx ts : Nat) : Option (List Byte) :=
  let kind := bitsOf desc.toNat 63 62
  let o := bitsOf desc.toNat 61 54
  let c := bitsOf desc.toNat 53 46
  let n := if kind = 0 then 10 else 8
  let lim := min 256 f.length
  if 2 ≤ kind ∨ lim < o + n ∨ (c ≠ 0 ∧ lim < c + 2) then none
  else
    let old := (f.drop o).take n
    let ns := tx / 65536
    let new := if kind = 0 then beBytes 6 (ns / 1000000000) ++ beBytes 4 (ns % 1000000000)
      else beBytes 8 ((numAt f o 8 + (tx % 2 ^ 48 + 2 ^ 48 - ts % 2 ^ 48) % 2 ^ 48) % 2 ^ 64)
    let f1 := putAt f o new
    some (if c = 0 then f1 else putAt f1 c (beBytes 2 (csumUpdate (numAt f c 2) (o + c) old new)))

/-- A frame leaves the MAC's queue: the egress journal entry is retired and the body freed (R290, Table 6.7). -/
def macPop (s : State) (p : Nat) (f : TxFrame) : State :=
  let s1 := setPort s p { portOf s p with txq := (portOf s p).txq.drop 1 }
  let s2 := jRetire s1 f.slice 1 f.slot
  match f.tag with | some t => freeEgBody s2 t | none => s2

/-- Two-step capture (R147). -/
def txtsPut (s : State) (p tx seqid : Nat) : State :=
  let x := portOf s p
  if x.txts.length < 64 then setPort s p { x with txts := x.txts ++ [(tx, seqid)] }
  else event (countLp (setPort s p { x with txtsOvf := true }) p 0x70) 0x1005 p (seqid % 65536)

/-- Preamble and SFD (R135). -/
def preamble : List Byte := List.replicate 7 0x55 ++ [0xD5]

/-- The gap after a frame of `n` bytes, FCS included, and the next deficit idle count (R135): a start falls on a block of eight bytes, and
the gaps average 12 bytes. PRESUMED: the count of IEEE 802.3 for blocks of eight bytes (log entry 57). -/
def nextGap (dic n : Nat) : Nat × Nat :=
  let m := (8 + n + 12) % 8
  if dic + m ≤ 7 then (12 - m, dic + m) else (20 - m, dic - (8 - m))

/-- The line carries bytes from the preamble on, and the gap behind them: as blocks and codewords, in OTN mode as the client of the framer,
without codewords of its own (R130, R153). -/
def lineOut (s : State) (p gap : Nat) (wire : List Byte) (x : LpPort) : LpPort :=
  if grpOtn s (p / 8) then { x with sent := wire }
  else
    let b := ethBlocks wire gap
    { x with sent := wire, turn := x.turn + b.length, fec := pcsSend (Config.pcsForm (portType s p)) x.fec x.turn b }

/-- The MAC sends the frame at the front of port p's queue (R135, R146, R147). In near-end loopback the line sends idle, and in far-end
loopback the frame is discarded (Table 4.8). -/
def macTx (s : State) (p : Nat) : State :=
  let x := portOf s p
  match x.txq with
  | [] => s
  | f :: _ =>
    if !x.link then s
    else
      let s1 := macPop s p f
      if loopOf s p = 2 then countLp s1 p 0x48
      else
        let tx := stamp s1 p 31 16
        let pkt := f.head ++ f.body
        let ptp := tfld f.ticket 243 242
        let on := rb s .lpPortCfg [p / 8, p % 8] 26
        let ts := tfld f.ticket 159 112
        let (out, s2) :=
          if on && ptp == 1 then
            match ptpOneStep pkt f.desc tx ts with
            | some q => (q, s1)
            | none => (pkt, countLp s1 p 0x78)
          else if on && ptp == 2 then (pkt, txtsPut s1 p tx (bitsOf f.desc.toNat 15 0))
          else (pkt, s1)
        let wire := out ++ fcsBytes out
        let s3 := countLpN (countLp s2 p 0x38) p 0x40 wire.length
        let gap := nextGap x.dic wire.length
        let s4 := setPort s3 p { portOf s3 p with gap := gap.1, dic := gap.2 }
        if loopOf s p = 1 then macRx s4 p wire .whole else setPort s4 p (lineOut s4 p gap.1 (preamble ++ wire) (portOf s4 p))

/-- A read of LP_TXTS_HDR_i: the word; an owner's read removes the entry and latches its time (R147). -/
def txtsHdr (s : State) (p : Nat) : Word :=
  let x := portOf s p
  match x.txts with
  | [] => mkB 30 x.txtsOvf
  | e :: _ => mkB 31 true ||| mkB 30 x.txtsOvf ||| mkF 15 0 e.2

/-- The owner's read of LP_TXTS_HDR_i. -/
def txtsPop (s : State) (p : Nat) : State :=
  let x := portOf s p
  setPort s p (match x.txts with
    | [] => { x with txtsOvf := false }
    | e :: rest => { x with txts := rest, txtsLatch := e.1, txtsOvf := false })

/-! ## Commands -/

/-- MAC_FRAME_RX (R133): in near-end loopback the line's frames do not reach the MAC; in far-end loopback they are sent back. -/
def execMacFrameRx (p : Fin 128) (bytes : List Byte) (fin : RxEnd) (s : State) : Res :=
  ok (if !grpLive s (p.val / 8) || !portExists s p.val || loopOf s p.val == 1 then s
    else
      let s1 := macRx s p.val bytes fin
      if loopOf s p.val = 2 then 
        let gap := nextGap (portOf s1 p.val).dic bytes.length
        setPort s1 p.val (lineOut s1 p.val gap.1 (preamble ++ bytes) { portOf s1 p.val with gap := gap.1, dic := gap.2 })
      else s1)

/-- MAC_FRAME_TX (R135, R146). -/
def execMacFrameTx (p : Fin 128) (s : State) : Res := ok (if grpLive s (p.val / 8) then macTx s p.val else s)

end Sys2Proof.Machine
end

