-- ==== Sys2Proof/Machine/SlcProg.lean ====
section
/-! DEFINITION. What a slice's program does to a head: parser, keys, lookups, VLIW words, stateful units, deparser (R172 to R181).
The program is data (Machine/State/Prog.lean). -/

namespace Sys2Proof.Machine

/-! ## Containers -/

/-- The bits [hi:lo] of its word that a container is (R172). -/
def contBits (c : Cont) : Nat × Nat :=
  match c.part with
  | 0 => (31, 0)
  | 1 => (31, 16)
  | 2 => (15, 0)
  | 3 => (31, 24)
  | 4 => (23, 16)
  | 5 => (15, 8)
  | _ => (7, 0)

/-- Width of a container. -/
def contWidth (c : Cont) : Nat := (contBits c).1 + 1 - (contBits c).2

/-- Word w of a header vector. -/
def vget (v : SMap Word) (w : Nat) : Word := v.get 0 w

/-- Read a container. -/
def contGet (v : SMap Word) (c : Cont) : Nat := fld (vget v c.word) (contBits c).1 (contBits c).2

/-- Write a container. -/
def contSet (v : SMap Word) (c : Cont) (x : Nat) : SMap Word :=
  v.set 0 c.word (setFld (vget v c.word) (contBits c).1 (contBits c).2 x)

/-- The bits of a word that a program may write: hardware fields and reserved bits are not (Table 6.3). -/
def progMask (w : Nat) : Word :=
  if w = 112 ∨ w = 113 ∨ w = 114 then 0
  else if w = 115 then fmask 29 26
  else if w = 117 then fmask 31 16
  else 0xFFFFFFFF

/-- A program's write of a container. -/
def progSet (v : SMap Word) (c : Cont) (x : Nat) : SMap Word :=
  let old := vget v c.word
  let new := setFld old (contBits c).1 (contBits c).2 x
  v.set 0 c.word ((old &&& ~~~ (progMask c.word)) ||| (new &&& progMask c.word))

/-- HDR_VALID bit i: bit i of the 64 bits of K110 and K111, K110 the upper word. -/
def hdrBit (v : SMap Word) (i : Nat) : Bool := tbit (vget v (if i < 32 then 111 else 110)) (i % 32)

/-- Set or clear HDR_VALID bit i. -/
def hdrSet (v : SMap Word) (i : Nat) (b : Bool) : SMap Word :=
  let w := if i < 32 then 111 else 110
  v.set 0 w (setBit (vget v w) (i % 32) b)

/-- Byte i of the header vector: byte 0 is K0 [31:24]. -/
def vecByte (v : SMap Word) (i : Nat) : Byte := BitVec.ofNat 8 ((vget v (i / 4)).toNat >>> (8 * (3 - i % 4)))

/-- A key from a key builder's byte selections (R171). -/
def keyOf (v : SMap Word) (sel : List Nat) : Nat := beNat (sel.map (vecByte v))

/-- A key builder's key with its length in bytes. -/
def builtKey (v : SMap Word) (sel : List Nat) : Nat × Nat := (sel.length, keyOf v sel)

/-! ## The parser -/

/-- `w` bits at bit offset `o` of a byte string, most significant bit first; bits beyond the end read 0. -/
def bitsAt (l : List Byte) (o w : Nat) : Nat :=
  let first := o / 8
  let n := (o % 8 + w + 7) / 8
  let x := beNat (((l.drop first).take n) ++ List.replicate (n - ((l.drop first).take n).length) 0)
  (x >>> (8 * n - o % 8 - w)) % 2 ^ w

/-- Parser state. -/
structure PState where
  /-- Header vector. -/
  v : SMap Word
  /-- Byte offset of the present header. -/
  off : Nat := 0
  /-- Node visits. -/
  visits : Nat := 0
  /-- Repeats of the present node. -/
  reps : Nat := 0
  /-- PARSE_ERR, and the node at which parsing stopped. -/
  err : Nat := 0
  node : Nat := 0
deriving DecidableEq, Repr

/-- LENGTH of a node over the head from its header on. -/
def lenOf (h : List Byte) : LenOf → Nat
  | .fixed n => n
  | .field o w m a => bitsAt h o w * m + a

/-- The ones'-complement checksum over a header is wrong (CSUM4). -/
def csumBad (h : List Byte) : Bool := fold16 (onesSum 0 h) != 65535

/-- Visit nodes from node n until END or an error (R174, R175). -/
def parseFrom (nodes : List PNode) (head : List Byte) : Nat → Nat → PState → PState
  | 0, _, p => p
  | fuel + 1, n, p =>
    match nodes[n]? with
    | none => p
    | some nd =>
      if 24 ≤ p.visits then { p with err := 2, node := n }
      else
        let h := head.drop p.off
        let len := lenOf h nd.len
        let need := nd.extracts.foldl (fun a e => max a ((e.1 + e.2.1 + 7) / 8)) 0
        let isField := match nd.len with | .field .. => true | .fixed _ => false
        if head.length < p.off + len then { p with err := 1, node := n, visits := p.visits + 1 }
        else if isField && decide (len < need) then { p with err := 3, node := n, visits := p.visits + 1 }
        else
          let v1 := nd.extracts.foldl (fun v e => progSet v e.2.2 (bitsAt h e.1 e.2.1)) p.v
          let v2 := match nd.valid with | some i => hdrSet v1 i true | none => v1
          let tpid := match nd.tpid with | some (o, vs, _) => vs.contains (bitsAt h o 16) | none => false
          let v3 := match nd.tpid with
            | some (_, _, b, _) => if tpid then v2.set 0 116 (setBit (vget v2 116) b true) else v2
            | none => v2
          let v4 := match nd.csum with
            | some b => if csumBad (h.take len) then v3.set 0 116 (setBit (vget v3 116) b true) else v3
            | none => v3
          let p1 := { p with v := v4, off := p.off + len, visits := p.visits + 1, node := n }
          let fields := nd.select.foldl (fun a f => a * 2 ^ f.2 + bitsAt (h.take (len + 32)) f.1 f.2) 0 % 2 ^ 32
          let sv := match nd.tpid with | some (_, _, _, b) => if tpid then fields ||| 1 <<< b else fields | none => fields
          if decide (p.reps < nd.rep) && !sv.testBit nd.repBit then parseFrom nodes head fuel n { p1 with reps := p.reps + 1 }
          else
            let next := match nd.branches.find? (fun b => (sv &&& b.2.1) == (b.1 &&& b.2.1)) with
              | some b => b.2.2
              | none => nd.dflt
            match next with
            | none => p1
            | some m => parseFrom nodes head fuel m { p1 with reps := 0 }

/-- A ticket as words K120 to K127. -/
def ticketWords (t : Ticket) : List (Nat × Word) := (List.range 8).map (fun i => (120 + i, lo32 (t.toNat / 2 ^ (32 * (7 - i)))))

/-- The ticket that K120 to K127 hold. -/
def vecTicket (v : SMap Word) : Ticket :=
  BitVec.ofNat 256 ((List.range 8).foldl (fun a i => a * 2 ^ 32 + (vget v (120 + i)).toNat) 0)

/-- The header vector at parser entry: Table 6.3's hardware fields, every other container 0 (R172, R173). -/
def initVec (h : Head) (epoch seq : Nat) : SMap Word :=
  let k112 := mkF 31 24 h.port ||| mkF 23 10 h.len ||| mkF 9 1 h.bytes.length ||| mkF 0 0 (h.inp / 16)
  let ts := h.ns % 2 ^ 48 * 2 ^ 16 + h.frac
  let base : List (Nat × Word) := [(112, k112), (113, hi32 ts), (114, lo32 ts), (115, mkF 31 30 epoch ||| mkF 15 0 seq)]
  let tk := match h.tkt with | some t => ticketWords t | none => []
  (base ++ tk).foldl (fun v e => v.set 0 e.1 e.2) SMap.empty

/-- Parse a head under a program (R174, R175). -/
def parseHead (pr : Prog) (h : Head) (epoch seq : Nat) : PState :=
  let p := parseFrom pr.nodes h.bytes 40 0 { v := initVec h epoch seq }
  if p.err = 0 then p else { p with v := p.v.set 0 115 (setFld (vget p.v 115) 29 26 p.err) }

/-! ## Lookups of a stage -/

/-- A local lookup: the entry of the local table with the key (R176). -/
def localLookup (pr : Prog) (t key : Nat) : LkRes :=
  match (pr.tables.getD t []).find? (fun e => e.1 == key) with
  | some e => { found := true, val := e.2 }
  | none => {}

/-- A search result as Table 8.2 lays it out. -/
def tcmResult (s : State) (w : Nat × Nat × TcmEnt) : Nat :=
  let e := w.2.2
  2 ^ 95 + logicalOf s w.1 * 2 ^ 87 + w.2.1 * 2 ^ 76 + careOf e * 2 ^ 64 + e.data

/-- A shared lookup with the views and aliases of the head's parser entry (R176, R202, R247). The key of a route is VRF, family and
address, that of a next hop is index and hash operand. -/
def sharedLookup (s : State) (sn : Snap) (keys : List Nat) : SharedLk → LkRes × State
  | .route k =>
    let key := keys.getD k 0
    let f := routeLookup s (fld sn.views 0 0) (key / 2 ^ 129 % 4096) (key / 2 ^ 128 % 2) (key % 2 ^ 128)
    ({ found := f.found, err := f.err, val := f.val }, metBad s f)
  | .em t k =>
    let r := emLookup s t (fld sn.views (t + 1) (t + 1)) (keys.getD k 0)
    ({ found := r.1.found, err := r.1.err, val := r.1.val }, metBad r.2 r.1)
  | .nextHop k =>
    let key := keys.getD k 0
    let r := nhLookup s (fld sn.views 5 5) (key / 2 ^ 16 % 2 ^ 20) (key % 2 ^ 16)
    ({ found := r.1.found, err := r.1.err, val := r.2.1 * 2 ^ 64 + r.1.val }, metBad (if r.2.2 then count s 7 0x38 else s) r.1)
  | .tcm a k =>
    let r := tcmLookup s (sn.aliases.getD a a) (keys.getD k 0)
    match r.1 with
    | some w => ({ found := true, err := r.2.1, val := tcmResult s w }, r.2.2)
    | none => ({ err := r.2.1, val := if r.2.1 then 2 ^ 94 else 0 }, r.2.2)

/-! ## VLIW words -/

/-- The value of an operand. -/
def operandVal (v : SMap Word) (res : List LkRes) : Operand → Nat
  | .imm n => n
  | .cont c => contGet v c
  | .res k lo w => ((res.getD k {}).val >>> lo) % 2 ^ w
  | .hit k => (res.getD k {}).found.toNat
  | .err k => (res.getD k {}).err.toNat

/-- Token bucket and CRC-16 of a stateful unit and of a Hash slot are not defined further by the spec: functions without a body. -/
def hash16 (key : Nat × Nat) : Nat := Config.func 0 (key.2 * 64 + key.1) % 2 ^ 16

/-- A stateful unit's update of its word: new word, and the value it returns (R179). Compare-and-set takes the operand's upper half as the
value compared and its lower half as the value set. -/
def stUpdate (u : StUnit) (old arg : Nat) : Nat × Nat :=
  let new := match u.op with
    | .add => (old + arg) % 2 ^ 64
    | .satAdd => min (old + arg) (2 ^ 64 - 1)
    | .set => arg % 2 ^ 64
    | .clear => 0
    | .cas => if old = arg / 2 ^ 32 then arg % 2 ^ 32 else old
    | .bucket => Config.func 1 (old * 2 ^ 64 + arg) % 2 ^ 64
  (new, if u.old then old else new)

/-- The result of a slot, of width w, and the local SRAM after it. -/
def slotVal (v : SMap Word) (keys : List (Nat × Nat)) (res : List LkRes) (units : List StUnit) (sram : SMap Nat) (w : Nat) :
    SlotOp → Nat × SMap Nat
  | .set a => (operandVal v res a, sram)
  | .add sat a b =>
    let x := operandVal v res a + operandVal v res b
    (if sat then min x (2 ^ w - 1) else x % 2 ^ w, sram)
  | .sub sat a b =>
    let x := operandVal v res a
    let y := operandVal v res b
    (if sat then x - y else (x % 2 ^ w + 2 ^ w - y % 2 ^ w) % 2 ^ w, sram)
  | .min a b => (min (operandVal v res a) (operandVal v res b), sram)
  | .max a b => (max (operandVal v res a) (operandVal v res b), sram)
  | .and a b => (operandVal v res a &&& operandVal v res b, sram)
  | .or a b => (operandVal v res a ||| operandVal v res b, sram)
  | .xor a b => (operandVal v res a ^^^ operandVal v res b, sram)
  | .not a => (2 ^ w - 1 - operandVal v res a % 2 ^ w, sram)
  | .shl n a => (operandVal v res a * 2 ^ n % 2 ^ w, sram)
  | .shr n a => (operandVal v res a / 2 ^ n, sram)
  | .hash32 k => (crc32 (beBytes (keys.getD k (0, 0)).1 (keys.getD k (0, 0)).2), sram)
  | .hash16 k => (hash16 (keys.getD k (0, 0)), sram)
  | .hdr _ _ => (0, sram)
  | .stateful u =>
    match units[u]? with
    | none => (0, sram)
    | some x =>
      let a := operandVal v res x.addr % 2 ^ 18
      let r := stUpdate x (sram.get 0 a) (operandVal v res x.arg)
      (r.2, sram.set 0 a r.1)

/-- Run the slots of a VLIW word: every slot reads the header vector as it stood before the word (R178). -/
def runSlots (v0 : SMap Word) (keys : List (Nat × Nat)) (res : List LkRes) (units : List StUnit) :
    List Slot → SMap Word → SMap Nat → SMap Word × SMap Nat
  | [], v, sram => (v, sram)
  | sl :: rest, v, sram =>
    let w := match sl.dst with | some c => contWidth c | none => 32
    let r := slotVal v0 keys res units sram w sl.op
    let v1 := match sl.op, sl.dst with
      | .hdr i b, _ => hdrSet v i b
      | _, some c => progSet v c r.1
      | _, none => v
    runSlots v0 keys res units rest v1 r.2

/-- The VLIW word a lane selects (R178). -/
def wordOf (ln : Lane) (res : List LkRes) : Nat :=
  match ln.sel with
  | .default' => ln.dflt
  | .byResult k lo miss =>
    let r := res.getD k {}
    if r.found then (r.val >>> lo) % 512 else miss

/-- The result of a lane's destination lookup in its slice's learning table, with LRNCFG's destination key (R225). An image without LRNCFG
binds none (R95). -/
def destLookup (s : State) (i : Nat) (pr : Prog) (ln : Lane) (v : SMap Word) : State × LkRes :=
  match pr.lrn, ln.dest with
  | some l, some k =>
    let d := lrnDest s i (keyOf v (l.dests.getD k []) % 2 ^ 64)
    (d.1, match d.2 with
      | some (loc, b) => { found := true, val := b.toNat * 65536 + loc }
      | none => {})
  | _, _ => (s, {})

/-- The source lookup of an ingress lane at the learning stage (R225). -/
def sourceLookup (s : State) (i lane : Nat) (pr : Prog) (f : Flight) : State :=
  match pr.lrn with
  | some l =>
    let inh := match l.inhibit with | some (c, b) => (contGet f.vec c).testBit b | none => false
    if lane < 3 ∧ l.stage = f.stage ∧ inh = false then
      lrnSource s i (keyOf f.vec l.srcKey % 2 ^ 64)
        (match l.loc with | some c => contGet f.vec c % 2 ^ 16 | none => fld (vget f.vec 112) 31 24) f.head.ns f.head.frac
    else s
  | none => s

/-- One stage of a head in a lane (R176 to R179, R225): keys, lookups, one VLIW word. -/
def stageRun (s : State) (i lane : Nat) (pr : Prog) (f : Flight) : Flight × State :=
  let st := pr.stages.getD f.stage {}
  let ln := st.lanes.getD lane {}
  let built := ln.keys.map (builtKey f.vec)
  let keys := built.map Prod.snd
  let loc (n : Nat) : LkRes := match ln.locals'[n]? with
    | some (k, t) => localLookup pr t (keys.getD k 0)
    | none => {}
  let sh (n : Nat) : LkRes :=
    if n + 2 ≤ f.stage then ((f.shared.find? (fun x => x.1 == n)).map Prod.snd).getD {} else {}
  let d := destLookup s i pr ln f.vec
  let s2 := sourceLookup d.1 i lane pr f
  let (shared, s3) := match ln.shared with
    | some q => let r := sharedLookup s2 f.snap keys q; (f.shared ++ [(f.stage, r.1)], r.2)
    | none => (f.shared, s2)
  let res := [loc 0, loc 1, d.2] ++ (List.range 22).map sh
  let words := if lane < 3 then st.ing else st.eg
  let slots := words.getD (wordOf ln res) []
  let r := runSlots f.vec built res ln.units slots f.vec (sliceOf s3 i).sram
  ({ f with vec := r.1, shared := shared, stage := f.stage + 1, readyAt := f.readyAt + 30 },
    modSlice s3 i (fun x => { x with sram := r.2 }))

/-! ## Deparser -/

/-- Bits as bytes, most significant bit first; a last part of a byte is filled with zeros. -/
def packBits : Nat → List Bool → List Byte
  | 0, _ => []
  | _, [] => []
  | n + 1, l =>
    let b := l.take 8
    BitVec.ofNat 8 ((b ++ List.replicate (8 - b.length) false).foldl (fun a x => 2 * a + x.toNat) 0) :: packBits n (l.drop 8)

/-- The bytes of a header as emitted from its containers (R180). -/
def hdrBytes (v : SMap Word) (h : HdrOut) : List Byte :=
  packBits 512 (h.fields.flatMap (fun f => msbBits f.2 (contGet v f.1)))

/-- The output head: each valid header in order, then the received bytes that no node parsed (R180). -/
def deparse (pr : Prog) (v : SMap Word) (h : Head) (parsed : Nat) : List Byte :=
  ((pr.hdrs.filter (fun x => hdrBit v x.valid)).flatMap (hdrBytes v)) ++ h.bytes.drop parsed

/-- Is the output head within the limits of R180? -/
def deparseOk (h : Head) (out : List Byte) : Bool :=
  decide (out.length ≤ h.bytes.length + 64) && decide (out.length ≤ 320)
    && decide (h.len + out.length ≤ 12284 + h.bytes.length)

/-- The ticket completed at ingress (R181). -/
def ingressTicket (v : SMap Word) (h : Head) (out : List Byte) (slice slot : Nat) : Ticket :=
  let t := vecTicket v
  let t1 := tset (tset (tset t 251 250 (fld (vget v 115) 31 30)) 227 220 h.port) 219 216 slice
  let t2 := tset (tset t1 159 112 (h.ns % 2 ^ 32 * 2 ^ 16 + h.frac)) 31 16 slot
  let t3 := tset (tset (tset t2 241 228 (h.len + out.length - h.bytes.length)) 99 96 0) 15 8 0
  tsealed t3

end Sys2Proof.Machine
end

