-- ==== Sys2Proof/Machine/Slc.lean ====
section
/-! DEFINITION. The slices' pipeline: dealing, stages, stage 23 exit, merge, punt and return, the journal, slot accounting
(R169 to R190, R195, R197). Fencing and failover are in Machine/Failover.lean. -/

namespace Sys2Proof.Machine

/-! ## Dealing -/

/-- Heads of a track between dealing and the merge (R183). -/
def trackLoad (t : Track) : Nat := t.flights.length + t.outq.length

/-- The tracks of a direction (R169). -/
def dirTracks (dir : Nat) : List Nat := if dir = 0 then [0, 1, 2] else [3, 4, 5]

/-- The track of a direction with the fewest heads; a tie goes to the lowest (R183). -/
def bestTrack (s : State) (i dir : Nat) : Nat :=
  (dirTracks dir).foldl (fun b t => if trackLoad (trackOf s i t) < trackLoad (trackOf s i b) then t else b) (if dir = 0 then 0 else 3)

/-- Heads in a slice's hold buffer of a direction (R115). -/
def holdCount (x : SliceSt) (dir : Nat) : Nat :=
  ((x.hold.entries.filter (fun e => e.1 / 16 == dir)).map (fun e => e.2.length)).sum

/-- The values that a parser entry now would take (R52, R53). -/
def snapNow (s : State) : Snap :=
  { epoch := s.fur.seq % 4, views := regRaw s .tblView [], aliases := (List.range 32).map (fun a => rf s .tcmAlias [a] 4 0)
    mir := s.regs.filter (fun k _ => k / 0x1000000 == 0x14) }

/-- The program of a slice. -/
def progOf (s : State) (i : Nat) : Prog := ((sliceOf s i).prog).getD {}

/-- Capture and count a parse error (R175). -/
def parseErr (s : State) (i : Nat) (h : Head) (p : PState) : State :=
  if p.err = 0 then s
  else
    let s1 := countSlc s i 0x218
    let s2 := if rb s1 .slcParseCap [i] 31 then s1
      else setReg s1 .slcParseCap [i] (mkF 31 31 1 ||| mkF 27 24 p.err ||| mkF 23 16 p.node ||| mkF 15 15 (dirOf h.inp) ||| mkF 6 0 h.port)
    event s2 0x1806 i (p.err * 2 ^ 24 + p.node * 2 ^ 16 + h.port)

/-- Highest use of the journal (SLC_JRNL_MAX). -/
def jrnlMax (s : State) (i dir : Nat) : State :=
  let n := (jrnlOf (sliceOf s i) dir).entries.length
  if dir = 0 then maxRF s .slcJrnlMax [i] 31 16 n else maxRF s .slcJrnlMax [i] 15 0 n

/-- A head enters track t of slice i with place `seq`: journal entry, parser, HEADS counter (R170, R183, R188). It leaves stage 23 1,280
cycles later, which is 800 ns. -/
def dealInto (s : State) (i t : Nat) (h : Head) (seq slot : Nat) : State :=
  let dir := dirOf h.inp
  let sn := snapNow s
  let p := parseHead (progOf s i) h sn.epoch seq
  let f : Flight := { head := h, seq := some seq, slot := slot, jsl := i, vec := p.v, snap := sn,
                      readyAt := s.now + 80 + 30, exitAt := s.now + 800, parsed := p.off }
  let s1 := modSlice s i (fun x => jPut x dir slot (some { head := h, seq := seq }))
  let s2 := modTrack s1 i t (fun x => { x with flights := x.flights ++ [f], entered := x.entered + 1 })
  parseErr (countSlc (jrnlMax s2 i dir) i (if dir = 0 then 0x208 else 0x210)) i h p

/-- Why no head of an input enters a parser. -/
inductive DealBlock where
  | frozen | out | jrnl
deriving DecidableEq, Repr

/-- A slice that has taken over waits for the echo of the failed slice's fence markers before it takes heads (R191, R195). -/
def replayHeld (s : State) (x : SliceSt) : Bool :=
  match x.replaying with | some (f, _, _) => (sliceOf s f).fencing != 0 | none => false

/-- The parser of a track has a cycle left by the end of this nanosecond: it takes one head a cycle, 8 cycles in 5 ns (R169, R197). -/
def cycleFree (s : State) (i t : Nat) : Bool :=
  decide ((trackOf s i t).entered + (trackOf s i t).returns < (s.now + 1) * 8 / 5 - s.slc.cycles)

/-- Is a slice's direction held back: slice, punt port, output queue, hold buffer or journal (R183, R185, R186, R115)? -/
def dealBlock (s : State) (i dir : Nat) : Option DealBlock :=
  let x := sliceOf s i
  if !sliceLive s i || !(x.st == .active || (dir == 1 && x.st == .drain)) then some .frozen
  else if !x.punt.isEmpty || decide (2048 ≤ trackLoad (trackOf s i (bestTrack s i dir))) || decide (6144 ≤ holdCount x dir) then some .out
  else if !x.jOk || (jFree x dir).isNone || replayHeld s x then some .jrnl
  else none

/-- Heads that wait for an input of slice i: at ingress in the intake, at egress behind the Ell. -/
def waiting (s : State) (inp : Nat) : List Head :=
  if inp < 16 then (intakeOf s inp).heads else s.slc.egress.get [] (inp - 16)

/-- Take the front head of an input from where it waits. -/
def popWaiting (s : State) (inp : Nat) : State :=
  if inp < 16 then intakeEase (modIntake s inp (fun i => { i with heads := i.heads.drop 1 })) inp
  else modSlc s (fun b => { b with egress := b.egress.upd [] (inp - 16) (fun l => l.drop 1) })

/-- The next replayed head of an input in a slice's list (R195). -/
def nextReplay (x : SliceSt) (inp : Nat) : Option (Nat × Nat × JEntry) := x.replay.find? (fun r => r.2.2.head.inp == inp)

/-- Replay a head into slice i: it keeps its place and its body tag, and the failed slice's journal retires it (R189, R195). -/
def dealReplay (s : State) (i t : Nat) (r : Nat × Nat × JEntry) (slot : Nat) : State :=
  let old := match (sliceOf s i).replaying with | some (f, _, _) => f | none => i
  let s1 := modSlice s i (fun x => { x with
    replay := x.replay.erase r
    replaying := x.replaying.map (fun y => if r.1 = 0 then (y.1, y.2.1 + 1, y.2.2) else (y.1, y.2.1, y.2.2 + 1)) })
  countSlc (dealInto (jRetire s1 old r.1 r.2.1) i t r.2.2.head r.2.2.seq slot) i 0x240

/-- A waiting barrier token enters its track when a slot of the output queue is free (R185). -/
def tokenIn (s : State) (i t : Nat) : State :=
  match (sliceOf s i).tokWait.find? (fun w => w.1 == t) with
  | some w =>
    if trackLoad (trackOf s i t) < 2048 then
      modTrack (modSlice s i (fun x => { x with tokWait := x.tokWait.erase w })) i t (fun x => { x with flights := x.flights ++ [w.2] })
    else s
  | none => s

/-- Place a barrier token of an input into each of a slice's tracks of its direction (R114): each takes the next place in order, and enters
its track with a slot of the output queue (R185). -/
def placeTokens (s : State) (i inp : Nat) : State :=
  (dirTracks (dirOf inp)).foldl (fun s t =>
    let seq := s.slc.inseq.get 0 inp
    let f : Flight := { head := { inp := inp, port := 0, bytes := [], len := 0, ns := 0, frac := 0 }, token := true, seq := some seq,
                        slot := 0, jsl := i, snap := snapNow s, stage := 24, readyAt := s.now, exitAt := s.now + 800 }
    let s1 := modSlc s (fun b => { b with inseq := b.inseq.set 0 inp ((seq + 1) % 65536) })
    tokenIn (modSlice s1 i (fun x => { x with
      tokWait := x.tokWait ++ [(t, f)]
      order := x.order.upd [] inp (fun l => l ++ [seq])
      tokens := x.tokens.upd 0 inp (fun n => n + 1) })) i t) s

/-- The slice that an input's heads go to: at egress the old slice until the barrier token has come (R113). -/
def dealOwner (s : State) (inp : Nat) : Nat :=
  if inp < 16 then ownerOf s (pairOfInput inp) else (s.slc.egOwner.find (inp - 16)).getD (ownerOf s (pairOfInput inp))

/-- An egress barrier token has come to the slices: it goes into the old slice's tracks, and the new slice takes over (R114). -/
def egressToken (s : State) (inp : Nat) : State :=
  let s1 := popWaiting s inp
  match s.slc.egOwner.find (inp - 16) with
  | none => s1
  | some i => modSlc (placeTokens s1 i inp) (fun b => { b with egOwner := b.egOwner.put (inp - 16) none })

/-- HEAD_DEAL of an input: its next head, replayed heads first, goes to the least-loaded track (R182, R183). -/
def deal (s : State) (inp : Nat) : State :=
  let i := dealOwner s inp
  let dir := dirOf inp
  if decide (16 ≤ inp) && (match waiting s inp with | h :: _ => h.tkt.isNone | [] => false) then egressToken s inp
  else
    let t := bestTrack s i dir
    match if cycleFree s i t then dealBlock s i dir else some .out, jFree (sliceOf s i) dir with
    | none, some slot =>
      match nextReplay (sliceOf s i) inp with
      | some r => dealReplay s i t r slot
      | none =>
        match waiting s inp with
        | [] => s
        | h :: _ =>
          let seq := s.slc.inseq.get 0 inp
          let s1 := modSlc (popWaiting s inp) (fun b => { b with inseq := b.inseq.set 0 inp ((seq + 1) % 65536) })
          let s2 := modSlice s1 i (fun x => { x with order := x.order.upd [] inp (fun l => l ++ [seq]) })
          dealInto s2 i t h seq slot
    | _, _ => s

/-! ## Stages and stage 23 exit -/

/-- It is the turn of a flight of track t: every flight of the slice that ended its stage earlier, or in the same instant in a lower lane, has
passed on, so that updates of local SRAM come in order of cycle and lane (R179). -/
def stageTurn (s : State) (i t : Nat) (f : Flight) : Bool :=
  (List.range 6).all (fun u => (trackOf s i u).flights.all (fun g =>
    g.token || decide (24 ≤ g.stage) || decide (f.readyAt < g.readyAt) || (g.readyAt == f.readyAt && decide (t ≤ u))))

/-- Pass flight k of a track through its next stage, once the stage before has ended (R170, R176). -/
def headStage (s : State) (i t k : Nat) : State :=
  match (trackOf s i t).flights[k]? with
  | none => s
  | some f =>
    if f.token || decide (24 ≤ f.stage) || decide (s.now < f.readyAt) || !stageTurn s i t f then s
    else
      let r := stageRun s i t (progOf s i) f
      modTrack r.2 i t (fun x => { x with flights := x.flights.set k r.1 })

/-- Charge the cycle in which a head entered to its category (R197, Table 6.8). -/
def chargeHead (s : State) (i t cat : Nat) (f : Flight) : State :=
  if f.seq.isSome && !f.token then countSlc s i (t * 0x40 + cat * 8) else s

/-- A head that goes nowhere leaves a skip marker when it has a place in order (R184). -/
def skipMark (s : State) (i t : Nat) (f : Flight) : State :=
  match f.seq with
  | some n => modTrack s i t (fun x => { x with outq := x.outq ++ [.skip f.head.inp n] })
  | none => s

/-- A head dropped at stage 23 exit: its entry is retired and its body given up (R180, R181, R189). -/
def exitDrop (s : State) (i t : Nat) (f : Flight) (off : Nat) : State :=
  skipMark (chargeHead (jRetire (dropBody (countSlc s i off) f.head) f.jsl (dirOf f.head.inp) f.slot) i t 2 f) i t f

/-- A head punted at stage 23 exit (R186). -/
def exitPunt (s : State) (i t : Nat) (f : Flight) (out : List Byte) : State :=
  let w := vget f.vec 117
  let p : Punt := { cls := fld w 29 24, reason := fld w 23 16, head := f.head, out := out, vec := f.vec, slice := i,
                    slot := f.slot, jsl := f.jsl, punts := f.punts + 1, parsed := f.parsed }
  let dir := dirOf f.head.inp
  let s1 := modSlice (countSlc s i 0x220) f.jsl (fun x => match (jrnlOf x dir).find f.slot with
    | some e => jPut x dir f.slot (some { e with punted := true })
    | none => x)
  let s2 := skipMark (chargeHead s1 i t 1 f) i t f
  let hold (s : State) : State := modSlice s i (fun x => { x with punt := x.punt ++ [p] })
  if (sliceOf s2 i).punt.isEmpty then
    match puntPass s2 p with
    | some s3 => s3
    | none => hold s2
  else hold s2

/-- The egress mirror copy of a head passed to the MAC (R343). -/
def egressMirror (s : State) (i : Nat) (f : Flight) (out : List Byte) : State :=
  let t := vecTicket f.vec
  let n := tfld t 111 108
  let port := tfld t 215 196 % 128
  let m := mirSess f.snap.mir n
  if mirEn m n then
    let r := mirTake s m n (16 + i)
    if r.1 then
      let len := mirLen m out.length
      match mirPolice r.2 n len with
      | none => countMir r.2 n 0x10 1
      | some s1 =>
        let b := port / 8
        if segRoom s1 b then
          let t1 := tset (tset (tset (tset t 227 220 port) 219 216 i) 251 250 f.snap.epoch) 31 16 0xFFFF
          ellPush s1 b (.head b (mirTicket m t1 len) (out.take len) none)
        else countMir s1 n 0x18 1
    else r.2
  else s

/-- A head that goes on to the merge (R181). -/
def exitMerge (s : State) (i t : Nat) (f : Flight) (out : List Byte) : State :=
  let ing := f.head.inp < 16
  let tkt := if ing then ingressTicket f.vec f.head out f.jsl f.slot else (f.head.tkt).getD 0
  let h : OutHead := { inp := f.head.inp, slot := f.slot, jsl := f.jsl, tkt := tkt, bytes := out, tag := f.head.tag,
                       desc := BitVec.ofNat 64 ((vget f.vec 118).toNat * 2 ^ 32 + (vget f.vec 119).toNat) }
  let s1 := modTrack (chargeHead s i t 0 f) i t (fun x => { x with outq := x.outq ++ [.head f.seq h] })
  if ing then s1 else egressMirror s1 i f out

/-- The oldest flight of a track that is due at stage 23 exit leaves it (R170, R180, R181, R186). -/
def exit23 (s : State) (i t : Nat) : State :=
  match (trackOf s i t).flights.find? (fun f => decide (24 ≤ f.stage) && decide (f.exitAt ≤ s.now)) with
  | none => s
  | some f =>
    let s1 := modTrack s i t (fun x => { x with flights := x.flights.erase f })
    if f.token then
      modTrack s1 i t (fun x => { x with outq := x.outq ++ [.token f.head.inp (f.seq.getD 0)] })
    else
      let w := vget f.vec 117
      let out := deparse (progOf s1 i) f.vec f.head f.parsed
      if tbit w 31 then exitDrop s1 i t f 0x230
      else if !deparseOk f.head out then exitDrop s1 i t f 0x238
      else if tbit w 30 then exitPunt s1 i t f out
      else exitMerge s1 i t f out

/-- Stage 23 exit, after which a waiting barrier token may find a slot (R185). -/
def stage23 (s : State) (i t : Nat) : State := tokenIn (exit23 s i t) i t

/-! ## Merge -/

/-- The item of a slice's output queues that the merge of an input may release next: a returned head, or the next in order (R184). -/
def mergeNext (s : State) (i inp : Nat) : Option (Nat × OutItem) :=
  let want := ((sliceOf s i).order.get [] inp).head?
  let good : OutItem → Bool
    | .head none h => h.inp == inp
    | .head (some n) h => h.inp == inp && want == some n
    | .skip p n => p == inp && want == some n
    | .token p n => p == inp && want == some n
  (dirTracks (dirOf inp)).findSome? (fun t => ((trackOf s i t).outq.find? good).map (fun x => (t, x)))

/-- Frames that a MAC holds before it holds back the merge. -/
def macQueueMax : Nat := 64

/-- May a head leave the slice now: room in the Ell's segment queue, or at the MAC with its body there (R185)? -/
def emitRoom (s : State) (h : OutHead) : Bool :=
  if h.inp < 16 then segRoom s (bundleOfTicket h.tkt)
  else
    let p := tfld h.tkt 215 196 % 128
    decide ((portOf s p).txq.length < macQueueMax) && (match h.tag with
      | some t => (s.slc.egBody.get ([], false) t).2
      | none => true)

/-- A head leaves the slice: its ticket and head cross the Ell, or the MAC takes it (R181, R189). -/
def emitHead (s : State) (i : Nat) (h : OutHead) : State :=
  if h.inp < 16 then
    let b := bundleOfTicket h.tkt
    let s1 := ellPush s b (.head b h.tkt h.bytes h.tag)
    modSlice s1 h.jsl (fun x => match x.jIn.find h.slot with
      | some e => jPut x 0 h.slot (some { e with sent := true })
      | none => x)
  else
    let p := tfld h.tkt 215 196 % 128
    let body := match h.tag with | some t => (s.slc.egBody.get ([], false) t).1 | none => []
    let f : TxFrame := { ticket := h.tkt, head := h.bytes, body := body, desc := h.desc, slice := h.jsl, slot := h.slot, tag := h.tag }
    setPort (modSlice s i id) p { portOf s p with txq := (portOf s p).txq ++ [f] }

/-- Is the barrier of an input closed for this slice (R115)? -/
def barrierFor (s : State) (i inp : Nat) : Bool :=
  match s.slc.barrier.find inp with | some b => b.new == i | none => false

/-- Take an item out of a track's output queue, and its place out of the order. -/
def takeOut (s : State) (i inp t : Nat) (x : OutItem) : State :=
  let s1 := modTrack s i t (fun y => { y with outq := y.outq.erase x })
  let placed := match x with | .head none _ => false | _ => true
  tokenIn (if placed then modSlice s1 i (fun y => { y with order := y.order.upd [] inp (fun l => l.drop 1) }) else s1) i t

/-- A hold buffer that fills stalls the tracks of its direction (R115). -/
def holdStall (s : State) (i dir : Nat) : State :=
  if (sliceOf s i).stalled.get false dir then s
  else event (count (modSlice s i (fun x => { x with stalled := x.stalled.set false dir true })) 3 0x18) 0x0C09 i (i * 16 + dir)

/-- The merge handles the next item of an input (R114, R115, R184). Held heads go before what follows them, once the barrier is open. -/
def mergeStep (s : State) (i inp : Nat) : State :=
  let closed := barrierFor s i inp
  match closed, (sliceOf s i).hold.get [] inp with
  | false, .head _ h :: rest =>
    if emitRoom s h then
      emitHead (modSlice s i (fun x => { x with hold := x.hold.set [] inp rest, stalled := x.stalled.set false (dirOf inp) false })) i h
    else s
  | false, _ :: rest => modSlice s i (fun x => { x with hold := x.hold.set [] inp rest })
  | _, _ =>
    match mergeNext s i inp with
    | none => s
    | some (t, x) =>
      match x with
      | .skip _ _ => takeOut s i inp t x
      | .token _ _ => modSlice (takeOut s i inp t x) i (fun y => { y with tokens := y.tokens.upd 0 inp (fun n => n - 1) })
      | .head seq h =>
        let pass := match seq with | none => true | some n => ((sliceOf s i).bypass.get [] inp).contains n
        if closed && !pass then
          if holdCount (sliceOf s i) (dirOf inp) < 6144 then
            let s1 := modSlice (takeOut s i inp t x) i (fun y => { y with hold := y.hold.upd [] inp (fun l => l ++ [x]) })
            if holdCount (sliceOf s1 i) (dirOf inp) < 6144 then s1 else holdStall s1 i (dirOf inp)
          else s
        else if emitRoom s h then
          let s1 := modSlice (takeOut s i inp t x) i (fun y => match seq with
            | some n => { y with bypass := y.bypass.upd [] inp (fun l => l.erase n) }
            | none => y)
          emitHead s1 i h
        else s

/-! ## Barriers -/

/-- The barrier of an input opens (R114): IMG_BARRIER_MAX keeps the longest time. -/
def barrierOpen (s : State) (inp : Nat) : State :=
  match s.slc.barrier.find inp with
  | none => s
  | some b =>
    maxRF (modSlc s (fun x => { x with barrier := x.barrier.put inp none })) .imgBarrierMax [] 15 0 (min 0xFFFF (s.now - b.since))

/-! ## Punt and return -/

/-- The slice that runs a returned head: the one that punted it while it is ACTIVE or in DRAIN, else the owner of its input (R187). -/
def returnSlice (s : State) (p : Punt) : Nat :=
  let x := sliceOf s p.slice
  if x.st = .active ∨ x.st = .drain then p.slice else ownerOf s (pairOfInput p.head.inp)

/-- Room in the return queue that a head would join. -/
def returnRoom (s : State) (p : Punt) : Bool :=
  decide (((sliceOf s (returnSlice s p)).retq.get [] (dirOf p.head.inp)).length < 256)

/-- A head joins the return queue (R187). -/
def returnPut (s : State) (p : Punt) (stage : Nat) : State :=
  modSlice s (returnSlice s p) (fun x => { x with
    retq := x.retq.upd [] (dirOf p.head.inp) (fun l => l ++ [{ stage := stage, p := p, since := s.now }]) })

/-- The lane of a stage on a track has an empty cycle in this nanosecond: fewer flights enter the stage now than cycles begin (R187). -/
def laneEmpty (s : State) (i t stage : Nat) : Bool :=
  decide (((trackOf s i t).flights.filter (fun f => !f.token && f.stage == stage && f.readyAt == s.now + 30)).length
    < (s.now + 1) * 8 / 5 - s.now * 8 / 5)

/-- The first head of a return queue enters its stage with a slot of the output queue, in an empty lane or one forced empty (R185, R187). -/
def returnEntry (s : State) (i dir : Nat) : State :=
  match (sliceOf s i).retq.get [] dir with
  | [] => s
  | r :: rest =>
    let t := bestTrack s i dir
    let forced := match r.forced with | some at' => decide (at' ≤ s.now) | none => false
    if sliceLive s i && decide (trackLoad (trackOf s i t) < 2048) && (forced || laneEmpty s i t r.stage) then
      let sn := snapNow s
      let v := r.p.vec.set 0 115 (setFld (vget r.p.vec 115) 31 30 sn.epoch)
      let v1 := v.set 0 117 (setBit (vget v 117) 30 false)
      let f : Flight := { head := r.p.head, seq := none, slot := r.p.slot, jsl := r.p.jsl, vec := v1, snap := sn, stage := r.stage,
                          readyAt := s.now + 30, exitAt := s.now + 30 * (24 - r.stage), parsed := r.p.parsed, punts := r.p.punts }
      let s1 := modSlice s i (fun x => { x with retq := x.retq.set [] dir rest })
      countSlc (modTrack s1 i t (fun x => { x with flights := x.flights ++ [f] })) i 0x228
    else s

/-- RET_FORCE in ns; values below 64 act as 64 (Table 6.10): a cycle is 5/8 ns. -/
def retForceNs (s : State) (i : Nat) : Nat := max 64 (rf s .slcCfg [i] 15 0) * 5 / 8

/-- The parser of the track with the fewest heads is refused one head (R187): the cycle is used up and counts as RETURN, and the empty lane
reaches the stage when a head entering now would. -/
def returnForce (s : State) (i dir : Nat) : State :=
  match (sliceOf s i).retq.get [] dir with
  | [] => s
  | r :: rest =>
    let t := bestTrack s i dir
    if r.forced.isNone && decide (r.since + retForceNs s i ≤ s.now) && cycleFree s i t then
      modTrack (modSlice s i (fun x => { x with
        retq := x.retq.set [] dir ({ r with forced := some (s.now + 80 + 30 * r.stage) } :: rest) })) i t
        (fun x => { x with returns := x.returns + 1 })
    else s

/-! ## Slot accounting -/

/-- The category of a cycle of a track in which no head entered (Table 6.8). -/
def idleCategory (s : State) (i t : Nat) : Nat :=
  let dir := if t < 3 then 0 else 1
  let pend := (match pairOwned s i with
      | some n => !(waiting s (dir * 16 + 2 * n)).isEmpty || !(waiting s (dir * 16 + 2 * n + 1)).isEmpty
      | none => false)
    || (sliceOf s i).replay.any (fun r => r.1 == dir)
  if (sliceOf s i).st ≠ .active then 7
  else match dealBlock s i dir with
    | some .frozen => 7
    | some .out => if pend then 5 else 4
    | some .jrnl => if pend then 6 else 4
    | none => 4

/-- Charge `n` cycles to track t: heads that entered are charged at stage 23 exit, a refused cycle to RETURN, the rest to one category. -/
def chargeTrack (i n t : Nat) (s : State) : State :=
  let x := trackOf s i t
  let e := min x.entered n
  let r := min x.returns (n - e)
  let s1 := modTrack s i t (fun y => { y with entered := y.entered - e, returns := y.returns - r })
  let s2 := if r = 0 then s1 else bumpN s1 (cOff 6 (i * 0x8000 + t * 0x40 + 24)) r
  if n - e - r = 0 then s2 else bumpN s2 (cOff 6 (i * 0x8000 + t * 0x40 + idleCategory s i t * 8)) (n - e - r)

/-- The fclk cycles that end by now are charged in every slice whose domain runs (R197): 8 cycles in 5 ns. -/
def tickCycles (s : State) : State :=
  if onData s then
    let n := s.now * 8 / 5 - s.slc.cycles
    let s1 := modSlc s (fun b => { b with cycles := s.now * 8 / 5 })
    if n = 0 then s1
    else forEach (List.range 9) (fun i t =>
      if sliceLive t i then forEach (List.range 6) (chargeTrack i n) (bumpN t (cOff 6 (i * 0x8000 + 0x200)) n) else t) s1
  else modSlc s (fun b => { b with cycles := s.now * 8 / 5 })

/-! ## Admission reports -/

/-- An admission report retires its journal entry, or an engine's SEND (R189, R273). -/
def admitReport (s : State) : State :=
  match s.slc.reports with
  | [] => s
  | (sl, _, j) :: rest =>
    let s1 := modSlc s (fun b => { b with reports := rest })
    let k := sl * 65536 + j
    modXe (jRetire s1 sl 0 j) (fun x => { x with sends := x.sends.set false k false })

/-! ## Commands -/

/-- HEAD_DEAL (R182, R183). -/
def execHeadDeal (inp : Fin 32) (s : State) : Res := ok (deal s inp.val)

/-- HEAD_STAGE (R176 to R179). -/
def execHeadStage (sl : Fin 9) (t : Fin 6) (k : Fin 1280) (s : State) : Res :=
  ok (if sliceLive s sl.val then headStage s sl.val t.val k.val else s)

/-- HEAD_STAGE23_EXIT (R170, R180, R181). -/
def execHeadStage23Exit (sl : Fin 9) (t : Fin 6) (s : State) : Res :=
  ok (if sliceLive s sl.val then stage23 s sl.val t.val else s)

/-- MERGE_RELEASE (R184). -/
def execMergeRelease (sl : Fin 9) (inp : Fin 32) (s : State) : Res :=
  ok (if sliceLive s sl.val then mergeStep s sl.val inp.val else s)

/-- PUNT_PORT_RELEASE (R186). -/
def execPuntPortRelease (sl : Fin 9) (s : State) : Res :=
  ok (match (sliceOf s sl.val).punt with
    | [] => s
    | p :: rest =>
      if onData s then
        match puntPass (modSlice s sl.val (fun x => { x with punt := rest })) p with
        | some s1 => s1
        | none => s
      else s)

/-- RETURN_ENTRY (R187). -/
def execReturnEntry (sl : Fin 9) (eg : Bool) (s : State) : Res := ok (returnEntry s sl.val eg.toNat)

/-- RETURN_FORCE (R187). -/
def execReturnForce (sl : Fin 9) (eg : Bool) (s : State) : Res :=
  ok (if sliceLive s sl.val then returnForce s sl.val eg.toNat else s)

/-- ADMIT_REPORT_RX (R189). -/
def execAdmitReportRx (s : State) : Res := ok (if onData s then admitReport s else s)

end Sys2Proof.Machine
end

