-- ==== Sys2Proof/Machine/Xe.lean ====
section
/-! DEFINITION. The exception engines (R264 to R281): dispatch, outcomes, retirement, re-dispatch, laggards, microcode. -/

namespace Sys2Proof.Machine

/-! ## Engines, clusters, classes -/

/-- An engine may run threads: not fenced, and its domain on (Table 19.3). -/
def engRuns (s : State) (e : Nat) : Bool := (xeEng s e).reason == 0 && domOn s (36 + e / 16)

/-- Free threads of an engine that may run threads. -/
def engFree (s : State) (e : Nat) : Nat := if engRuns s e then 8 - (xeEng s e).threads.entries.length else 0

/-- A cluster may take a dispatch: not paused, its record domain available, and none made to it in this cycle (R267, R277, R279). A
command's cycle is its nanosecond. -/
def cluTakes (s : State) (k : Nat) : Bool :=
  !(xeClu s k).paused && (xeClu s k).recOk && domOn s (44 + k) && (xeClu s k).lastAt != some s.now

/-- Free threads of a cluster, 0 when it takes no dispatch. -/
def cluFree (s : State) (k : Nat) : Nat := if cluTakes s k then ((engsOf k).map (engFree s)).sum else 0

/-- The number of a list with the highest score, the first of several; none when every score is 0. -/
def bestBy (f : Nat → Nat) (l : List Nat) : Option Nat :=
  let b := l.foldl (fun b n => match b with | none => some n | some m => if f m < f n then some n else some m) none
  b.bind (fun n => if f n = 0 then none else some n)

/-- LIMIT_US of a CLASS_B value in ns; 0 acts as 1. -/
def limitNs (b : Word) : Nat := clamp 1 1000 (fld b 23 14) * 1000

/-- QWAIT_US in ns; 0 acts as 1. -/
def qwaitNs (s : State) : Nat := clamp 1 1000 (rf s .xeCfg [] 9 0) * 1000

/-- The class values that a waiting head's dispatch uses (R264, R276). -/
def waitVals (s : State) (c : Nat) (w : XeWait) : Word × Word × Word :=
  match w.re with
  | some r => (r.a, r.b, r.c)
  | none => (regRaw s .xeClassA [c], regRaw s .xeClassB [c], regRaw s .xeClassC [c])

/-- May the front head of a class be dispatched, and to which cluster and engine (R267)? -/
def xeTarget (s : State) (c : Nat) : Option (XeWait × Nat × Nat) :=
  match (xeClassOf s c).q with
  | [] => none
  | w :: _ =>
    let v := waitVals s c w
    let robOk := w.re.isSome || !tbit v.1 30 || decide ((xeClassOf s c).rob.length < clamp 16 2048 (fld v.2.1 11 0))
    if robOk then
      (bestBy (cluFree s) (clustersOf v.2.1)).bind (fun k => (bestBy (engFree s) (engsOf k)).map (fun e => (w, k, e)))
    else none

/-! ## Dispatch -/

/-- A dispatch of the front head of class c to engine e of cluster k (R267, R269, R275). -/
def xeDispatchTo (s : State) (c : Nat) (w : XeWait) (k e : Nat) : State :=
  let v := waitVals s c w
  let cl := xeClassOf s c
  let th := firstGap (xeEng s e).threads.keys 0
  let fresh : XeRec := { p := w.p, a := v.1, b := v.2.1, c := v.2.2, snap := snapNow s, epoch := s.fur.seq % 4,
                         rob := if tbit v.1 30 then some cl.next else none }
  let r : XeRec := { w.re.getD fresh with clu := k, waited := s.now - w.since }
  let s1 := modClass s c (fun x => { x with q := x.q.drop 1 })
  let s2 := match w.re with
    | some _ => s1
    | none => if tbit v.1 30 then modClass s1 c (fun x => { x with rob := x.rob ++ [cl.next], next := cl.next + 1 }) else s1
  let s3 := modClu (modEng s2 e (fun x => { x with
    threads := x.threads.put th (some { r := r, start := s.now, outHead := r.p.out, vec := r.p.vec }) })) k
    (fun x => { x with lastAt := some s.now })
  modXe (count (count s3 0xA 0x00) 0xA (0x400 + c * 8)) (fun x => { x with rr := c })

/-- The class that the round robin serves next: after the last one served, the first that can dispatch (R267). -/
def xeNextClass (s : State) : Option Nat :=
  ((List.range 64).map (fun j => (s.xe.rr + 1 + j) % 64)).find? (fun c => (xeTarget s c).isSome)

/-- XE_DISPATCH (R267). -/
def xeDispatch (s : State) : State :=
  match xeNextClass s with
  | none => s
  | some c =>
    match xeTarget s c with
    | none => s
    | some (w, k, e) => xeDispatchTo s c w k e

/-! ## Outcomes and retirement -/

/-- The half that a record's class runs in (R270). -/
def recCode (s : State) (r : XeRec) : Option XeCode := if tbit r.a 29 then (xeClu s r.clu).half1 else (xeClu s r.clu).half0

/-- A lookup as a stage's key builder would make it. -/
def lookOf : XeLook → Nat × SharedLk
  | .route vrf v6 addr => (vrf.toNat * 2 ^ 129 + v6.toNat * 2 ^ 128 + addr.toNat, .route 0)
  | .em t key => (key.toNat, .em t.val 0)
  | .nextHop i h => (i.toNat * 2 ^ 16 + h.toNat, .nextHop 0)
  | .tcm al key => (key.toNat, .tcm al.val 0)

/-- Write a register of a thread. -/
def XeThread.setReg (th : XeThread) (r : Fin 32) (v : BitVec 64) : XeThread := { th with regs := th.regs.set 0 r.val v }

/-- What a thread's code does (R269, R270). Its lookups use the values in effect at its dispatch (Table 1.11). -/
def xeAct (s : State) (th : XeThread) : XeAct → State × XeThread
  | .reg r v => (s, th.setReg r v)
  | .scratch a b => (s, { th with scratch := th.scratch.set 0 a.val b })
  | .look q =>
    let x := sharedLookup s th.r.snap [(lookOf q).1] (lookOf q).2
    (x.2, { th with res := x.1 })
  | .time r => (s, th.setReg r (BitVec.ofNat 64 (tbNs s)))
  | .pctr r n => (s, th.setReg r (BitVec.ofNat 64 (s.ctr.get {} (cOff 0xA (0x40000 + n.val * 8))).cnt.toNat))
  | .const r a =>
    (s, th.setReg r (BitVec.ofNat 64 (beNat ((((recCode s th.r).map XeCode.consts).getD []).drop (8 * a.val) |>.take 8))))
  | .add n v => (s, { th with adds := th.adds ++ [(n.val, v)] })

/-- The code of a thread up to its end. -/
def xeRun : List XeAct → State → XeThread → State × XeThread
  | [], s, th => (s, th)
  | a :: rest, s, th => xeRun rest (xeAct s th a).1 (xeAct s th a).2

/-- A thread that is running ends with an outcome (R271); the engine's window takes its time (R278). -/
def xeEnd (s : State) (e t : Nat) (o : XeOutcome) (run : List XeAct) : State :=
  match (xeEng s e).threads.find t with
  | none => s
  | some th =>
    if engRuns s e && th.out.isNone then
      let x := xeRun run s th
      let th1 := match o with
        | .ret _ vec => { x.2 with vec := vec.foldl (fun (m : SMap Word) (w : Nat × Word) => m.set 0 w.1 w.2) x.2.vec }
        | .send _ out => { x.2 with outHead := out }
        | .drop => x.2
      let s1 := modEng x.1 e (fun g => { g with
        threads := g.threads.put t (some { th1 with out := some o, ended := s.now })
        n := g.n + 1, sum := g.sum + (s.now - th.start) })
      modClu s1 (e / 16) (fun g => { g with done := min 4096 (g.done + 1) })
    else s

/-- Add a signed number to a program counter; it wraps and sets OVF (R24, R270). -/
def Ctr.addInt (c : Ctr) (n : Int) : Ctr :=
  let v := (c.cnt.toNat : Int) + n
  { cnt := BitVec.ofInt 48 v, ovf := c.ovf || decide (v < 0) || decide ((2 ^ 48 : Int) ≤ v) }

/-- The adds of a thread (R272). -/
def xeAdds (s : State) (l : List (Nat × Int)) : State :=
  l.foldl (fun t a => { t with ctr := t.ctr.upd {} (cOff 0xA (0x40000 + a.1 * 8)) (fun c => c.addInt a.2) }) s

/-- The ticket that a SEND gives the Ell: the fields the hardware writes (R271). -/
def xeTicket (r : XeRec) (tkt : Ticket) (out : List Byte) : Ticket :=
  let len := r.p.head.len - r.p.head.bytes.length + out.length
  tsealed (tset (tset (tset (tset tkt 219 216 r.p.jsl) 31 16 r.p.slot) 251 250 r.epoch) 241 228 len)

/-- A SEND that becomes a drop (R271): at egress, a TYPE other than 0 to 4, or an output head above the limits of R180. -/
def xeSendBad (r : XeRec) (tkt : Ticket) (out : List Byte) : Bool :=
  decide (16 ≤ r.p.head.inp) || decide (4 < tfld tkt 255 252) || decide (r.p.head.bytes.length + 64 < out.length) ||
    decide (320 < out.length) || decide (12284 < r.p.head.len - r.p.head.bytes.length + out.length)

/-- Can the outcome of a thread be placed now (R274)? -/
def xeRoom (s : State) (th : XeThread) : Bool :=
  match th.out with
  | some (.ret _ _) => returnRoom s th.r.p
  | some (.send tkt out) => xeSendBad th.r tkt out || segRoom s (bundleOfTicket (xeTicket th.r tkt out))
  | _ => true

/-- The outcome of a retiring thread takes effect (R271, R273). -/
def xeRelease (s : State) (th : XeThread) (o : XeOutcome) : State :=
  let r := th.r
  match o with
  | .ret stage _ => returnPut (count s 0xA 0x08) { r.p with vec := th.vec } stage
  | .send tkt out =>
    if xeSendBad r tkt out then puntDrop (count s 0xA 0x48) r.p
    else
      let t := xeTicket r tkt out
      let b := bundleOfTicket t
      let s1 := ellPush (count s 0xA 0x10) b (.head b t out r.p.head.tag)
      modXe s1 (fun x => { x with sends := x.sends.set false (r.p.jsl * 65536 + r.p.slot) true })
  | .drop => puntDrop (count s 0xA 0x18) r.p

/-- Free a thread, and with it its ROB entry. -/
def xeFreeThread (s : State) (e t : Nat) (r : XeRec) : State :=
  let s1 := modEng s e (fun x => { x with threads := x.threads.put t none })
  match r.rob with
  | some n => modClass s1 r.p.cls (fun x => { x with rob := x.rob.erase n })
  | none => s1

/-- Every thread, with its engine and number. -/
def xeThreads (s : State) : List (Nat × Nat × XeThread) :=
  s.xe.eng.entries.flatMap (fun en => en.2.threads.entries.map (fun x => (en.1, x.1, x.2)))

/-- An earlier retirement of the class waits for its place (R274). -/
def xeBlocked (s : State) (th : XeThread) : Bool :=
  (xeThreads s).any (fun x => x.2.2.r.p.cls == th.r.p.cls && x.2.2.out.isSome && decide (x.2.2.ended < th.ended) &&
    x.2.2.r.rob.isNone && !xeRoom s x.2.2)

/-- It is a thread's turn to retire (R273, R274). -/
def xeTurn (s : State) (th : XeThread) : Bool :=
  xeRoom s th && (match th.r.rob with
    | some n => (xeClassOf s th.r.p.cls).rob.head? == some n
    | none => !xeBlocked s th)

/-- XE_RETIRE of a thread (R272, R273): one atomic step. -/
def xeRetire (s : State) (e t : Nat) : State :=
  match (xeEng s e).threads.find t with
  | none => s
  | some th =>
    match th.out with
    | none => s
    | some o =>
      if engRuns s e && xeTurn s th then xeFreeThread (xeRelease (xeAdds s th.adds) th o) e t th.r else s

/-- XE_QWAIT_EXPIRE of a class (R268): the front head has waited too long. -/
def xeQwait (s : State) (c : Nat) : State :=
  match (xeClassOf s c).q with
  | [] => s
  | w :: rest =>
    if w.since + qwaitNs s < s.now then
      let rob := w.re.bind (fun r => r.rob)
      let s1 := modClass s c (fun x => { x with q := rest, rob := match rob with | some n => x.rob.erase n | none => x.rob })
      puntDrop (count s1 0xA 0x30) w.p
    else s

/-! ## Fences -/

/-- Engine e is fenced (R276): its threads are abandoned and their heads go to the front of their class queues. -/
def xeFence (s : State) (e reason : Nat) : State :=
  if (xeEng s e).reason = 0 then
    let ths := (xeEng s e).threads.entries.map Prod.snd
    let s1 := modEng s e (fun x => { x with reason := reason, threads := {} })
    let s2 := ths.reverse.foldl (fun u th =>
      count (modClass u th.r.p.cls (fun c => { c with q := { p := th.r.p, since := s.now - th.r.waited, re := some { th.r with retry := true } } :: c.q }))
        0xA 0x20) s1
    xeLack (setFenced s2 0xA e true)
  else s

/-- XE_ENGINE_FENCE by the host (R276): reason 5, event 0x2801. -/
def xeHostFence (s : State) (e : Nat) : State :=
  if (xeEng s e).reason = 0 then event (xeFence s e 5) 0x2801 e 5 else s

/-- An engine fenced by a source of the XE block: the source's event is 0x2801 (R276, Table 16.8). -/
def xeFaultFence (s : State) (bit e reason : Nat) : State := faultRise (xeFence s e reason) 0xA bit e (lo32 reason) 0

/-- XE_THREAD_OVERLIMIT (R276, R277). -/
def xeOverlimit (s : State) (e t : Nat) : State :=
  match (xeEng s e).threads.find t with
  | none => s
  | some th =>
    if engRuns s e && th.out.isNone && decide (th.start + limitNs th.r.b < s.now) then
      if th.r.retry then
        let s1 := puntDrop (xeFreeThread (count s 0xA 0x28) e t th.r) th.r.p
        event s1 0x2802 e (th.r.p.cls * 256 + th.r.p.slice)
      else xeFaultFence s 6 e 2
    else s

/-- A cluster's record domain fails (R277): the heads it holds are lost and its engines are fenced with reason 4. -/
def xeRecFail (s : State) (k : Nat) : State :=
  if (xeClu s k).recOk then
    let ths := (engsOf k).flatMap (fun e => (xeEng s e).threads.entries.map (fun x => x.2.r))
    let res := s.xe.cls.entries.flatMap (fun c => (c.2.q.filterMap (fun w => w.re)).filter (fun r => r.clu == k))
    let lost := ths ++ res
    let gone (c n : Nat) : Bool := lost.any (fun r => decide (r.rob = some n) && decide (r.p.cls = c))
    let s1 := modXe s (fun x => { x with cls :=
      ⟨x.cls.entries.map (fun c => (c.1, { c.2 with
        q := c.2.q.filter (fun w => !(match w.re with | some r => r.clu == k | none => false))
        rob := c.2.rob.filter (fun n => !(gone c.1 n)) }))⟩ })
    let s2 := lost.foldl (fun u r => puntDrop (count u 0xA 0x50) r.p) s1
    let s3 := modClu s2 k (fun x => { x with recOk := false })
    let s4 := forEach (engsOf k) (fun e u =>
      if (xeEng u e).reason = 0 then setFenced (modEng u e (fun x => { x with reason := 4, threads := {} })) 0xA e true else u) s3
    xeLack (condRise (setFenced s4 0xA (128 + k) true) 0xA 4 k (lo32 (min 0xFFFF lost.length)) 0)
  else s

/-- An uncorrectable error in a cluster's memories (Table 16.8): every engine of the cluster is fenced, reason 3, and
the memories hold nothing until they are loaded again. -/
def xeImemUe (s : State) (k : Nat) (row : Word) : State :=
  let s1 := forEach (engsOf k) (fun e u => if (xeEng u e).reason = 0 then event (xeFence u e 3) 0x2801 e 3 else u)
    (faultRise s 0xA 2 k (lo32 2) row)
  modClu s1 k (fun x => { x with median := x.median, half0 := none, half1 := none })

/-! ## Laggards -/

/-- RATIO; values below 2 act as 2. -/
def lagRatio (s : State) : Nat := max 2 (rf s .xeLagCfg [] 27 24)

/-- MIN_SAMPLES; 0 acts as 1. -/
def lagMin (s : State) : Nat := max 1 (rf s .xeLagCfg [] 15 8)

/-- Insert into a list of means (sum, count) in ascending order. -/
def meanInsert (m : Nat × Nat) : List (Nat × Nat) → List (Nat × Nat)
  | [] => [m]
  | x :: rest => if m.1 * x.2 < x.1 * m.2 then m :: x :: rest else x :: meanInsert m rest

/-- The median of cluster k (R278): the 8th smallest mean, or the smallest when fewer than 8 engines qualify; sum and count. -/
def xeMedian (s : State) (k : Nat) : Option (Nat × Nat) :=
  let ms := ((engsOf k).filter (fun e => (xeEng s e).reason == 0 && decide (lagMin s ≤ (xeEng s e).n))).map
    (fun e => ((xeEng s e).sum, (xeEng s e).n))
  let l := ms.foldl (fun l m => meanInsert m l) []
  if l.length < 8 then l.head? else l[7]?

/-- Engines of cluster k that are fenced. -/
def cluFenced (s : State) (k : Nat) : Nat := ((engsOf k).filter (fun e => (xeEng s e).reason != 0)).length

/-- The verdict on engine e at a window end (R278). -/
def xeJudge (s : State) (k e : Nat) (med : Nat × Nat) : State :=
  let x := xeEng s e
  if x.reason == 0 && decide (lagMin s ≤ x.n) && decide (lagRatio s * med.1 * x.n < x.sum * med.2) then
    if rf s .xeLagCfg [] 23 20 ≤ cluFenced s k then event s 0x2807 k e else xeFaultFence s 5 e 1
  else s

/-- A mean in units of 10 ns, saturated. -/
def meanUnits (sat : Nat) (m : Nat × Nat) : Nat := if m.2 = 0 then 0 else min sat (m.1 / (m.2 * 10))

/-- The window end of cluster k (R278): median, means, verdicts, and a new window. -/
def xeWindow (s : State) (k : Nat) : State :=
  let med := xeMedian s k
  let s1 := modClu s k (fun x => { x with median := match med with | some m => meanUnits 0x1FFF m | none => 0 })
  let judge := rb s .xeLagCfg [] 31 && decide (4096 ≤ (xeClu s k).done)
  let s2 := match med with
    | some m => if judge then forEach (engsOf k) (fun e u => xeJudge u k e m) s1 else s1
    | none => s1
  forEach (engsOf k) (fun e u => modEng u e (fun x => { x with mean := meanUnits 0xFFFF (x.sum, x.n), n := 0, sum := 0 })) s2

/-- XE_LAG_WINDOW (R278): a window of 1 ms of the time base has ended; a step of the time base into another window ends the one before. -/
def xeLagWindow (s : State) : State :=
  let w := tbNs s / 1000000
  if s.xe.window ≠ w then forEach (List.range 8) (fun k u => xeWindow u k) (modXe s (fun x => { x with window := w })) else s

/-! ## Class registers -/

/-- The open value of word w of class c, with a new value laid over one of them (R265). -/
def classOpen (s : State) (c w : Nat) (v : Word) (c' w' : Nat) : Word :=
  if c' = c ∧ w' = w then v
  else openOr s (if w' = 0 then .xeClassA else if w' = 1 then .xeClassB else .xeClassC) [c']

/-- A write of `v` to word w of class c gives open values that R265 allows. -/
def classWriteOk (s : State) (c w : Nat) (v : Word) : Bool :=
  let o := classOpen s c w v
  let valid := (List.range 64).filter (fun c' => tbit (o c' 0) 31)
  let half (c' k : Nat) : Option XeCode := if tbit (o c' 0) 29 then (xeClu s k).half1 else (xeClu s k).half0
  valid.all (fun c' => decide (2 ≤ (clustersOf (o c' 1)).length) && (clustersOf (o c' 1)).all (fun k => (half c' k).isSome)) &&
  decide (((valid.filter (fun c' => tbit (o c' 0) 30)).map (fun c' => fld (o c' 1) 11 0)).sum ≤ 16384) &&
  decide ((valid.map (fun c' => fld (o c' 2) 13 0)).sum ≤ 8192)

/-- Class register word w. -/
def classReg (w : Nat) : Reg := if w = 0 then .xeClassA else if w = 1 then .xeClassB else .xeClassC

/-! ## Commands -/

/-- XE_DISPATCH (R267). -/
def execXeDispatch (s : State) : Res := ok (if onData s then xeDispatch s else s)

/-- XE_RETURN (R271). `stage` counts from 0 for stage 1. -/
def execXeReturn (e : Fin 128) (t : Fin 8) (stage : Fin 23) (vec : List (Fin 128 × Word)) (run : List XeAct) (s : State) : Res :=
  ok (if onData s then
    xeEnd s e.val t.val (.ret (stage.val + 1) (vec.map (fun x => (x.1.val, x.2)))) run else s)

/-- XE_SEND (R271). -/
def execXeSend (e : Fin 128) (t : Fin 8) (tkt : Ticket) (out : List Byte) (run : List XeAct) (s : State) : Res :=
  ok (if onData s then xeEnd s e.val t.val (.send tkt out) run else s)

/-- XE_DROP (R271). -/
def execXeDrop (e : Fin 128) (t : Fin 8) (run : List XeAct) (s : State) : Res :=
  ok (if onData s then xeEnd s e.val t.val .drop run else s)

/-- XE_RETIRE (R272 to R274). -/
def execXeRetire (e : Fin 128) (t : Fin 8) (s : State) : Res := ok (if onData s then xeRetire s e.val t.val else s)

/-- XE_QWAIT_EXPIRE (R268). -/
def execXeQwaitExpire (c : Fin 64) (s : State) : Res := ok (if onData s then xeQwait s c.val else s)

/-- XE_THREAD_OVERLIMIT (R276, R277). -/
def execXeThreadOverlimit (e : Fin 128) (t : Fin 8) (s : State) : Res := ok (if onData s then xeOverlimit s e.val t.val else s)

/-- XE_LAG_WINDOW (R278). -/
def execXeLagWindow (s : State) : Res := ok (if onData s then xeLagWindow s else s)

/-- XE_REC_DOMAIN_FAIL (R277). -/
def execXeRecDomainFail (k : Fin 8) (s : State) : Res := ok (if onData s then xeRecFail s k.val else s)

end Sys2Proof.Machine
end

