-- ==== Sys2Proof/Machine/Hbm.lean ====
section
/-! DEFINITION. The HBM controller (R346 to R372): blocks and records, read-back, errors, slow channels, refresh,
temperature, training, stack power. -/

namespace Sys2Proof.Machine

/-- Change the HBM controller. -/
def modHbm (s : State) (f : HbmSt → HbmSt) : State := { s with hbm := f s.hbm }

/-- Change channel c. -/
def modCh (s : State) (c : Nat) (f : HCh → HCh) : State := modHbm s (fun h => { h with ch := h.ch.upd {} c f })

/-- Stack k. -/
def stackOf (s : State) (k : Nat) : HStack := s.hbm.st.get {} k

/-- Change stack k. -/
def modStack (s : State) (k : Nat) (f : HStack → HStack) : State := modHbm s (fun h => { h with st := h.st.upd {} k f })

/-- Add to a counter of channel c (Table 12.8). -/
def countCh (s : State) (c off n : Nat) : State := bumpN s (cOff 0xD (c * 0x40 + off)) n

/-! ## DRAM banks -/

/-- The bank of a block: pseudo-channel × 32 + bank. R348 gives no mapping. -/
def blockBank (b : Nat) : Nat := b / 2 ^ 18 * 64 + Config.measured 12 b % 64

/-- An access to a line of a block opens its row (R348, R355). -/
def bankTouch (s : State) (b line : Nat) : State :=
  let row := b % 2 ^ 18 * 4 + line / 16
  let idle := rf s .hbmChCfg [b / 2 ^ 18] 7 0
  modHbm s (fun h => { h with bank := h.bank.upd {} (blockBank b) (fun x => { x with row := if idle = 0 then none else some row, at' := s.now }) })

/-- HBM_BANK_IDLE (R355): IDLE_CYC cycles of 1.2 GHz without an access precharge the bank. -/
def bankIdle (s : State) (c n : Nat) : State :=
  let x := s.hbm.bank.get {} (c * 64 + n)
  if x.row.isSome ∧ x.at' * 6 + rf s .hbmChCfg [c] 7 0 * 5 ≤ s.now * 6 then
    modHbm s (fun h => { h with bank := h.bank.set {} (c * 64 + n) { x with row := none } })
  else s

/-- HBM_REFRESH (R363): the bank is precharged and refreshed at the interval in effect. -/
def bankRefresh (s : State) (c n : Nat) : State :=
  let x := s.hbm.bank.get {} (c * 64 + n)
  let iv := if (stackOf s (c / 16)).x2 then 1950 else 3900
  if (stackOf s (c / 16)).st ≠ .off ∧ x.ref + iv ≤ s.now then
    modHbm s (fun h => { h with bank := h.bank.set {} (c * 64 + n) { x with row := none, ref := s.now } })
  else s

/-! ## Blocks -/

/-- The next open channel with a free block after channel c, wrapping (R351). -/
def nextChannel (s : State) (c : Nat) : Option Nat :=
  ((List.range 64).map (fun j => (c + 1 + j) % 64)).find? (fun x => chOpen s x && decide (chUsed s x < 262144))

/-- The lowest free block of a channel. -/
def freeBlock (s : State) (c : Nat) : Nat :=
  c * 2 ^ 18 + firstGap ((s.hbm.blk.keys.filter (fun k => k / 2 ^ 18 == c)).map (fun k => k % 2 ^ 18)) 0

/-- One record more, or less, starts, ends or passes in a block; at 0 the block is free (R352). -/
def blkAdd (s : State) (b : Nat) (up : Bool) : State :=
  modHbm s (fun h => { h with blk := h.blk.upd 0 b (fun n => if up then n + 1 else n - 1) })

/-- Take `n` lines for queue q, going on in new blocks as one fills (R348, R351); none when no block can be had. -/
def takeLines (q : Nat) : Nat → Nat → State → Option (List (Nat × Nat × Nat) × State)
  | 0, _, _ => none
  | fuel + 1, n, s =>
    if n = 0 then some ([], s)
    else
      let x := qOf s q
      let here : Option (Nat × Nat × State) := match x.blk with
        | some (b, l) => if l < 64 then some (b, l, s) else none
        | none => none
      let got : Option (Nat × Nat × State) := match here with
        | some r => some r
        | none => (nextChannel s x.lastCh).map (fun c =>
            let b := freeBlock s c
            (b, 1, countCh (modQ s q (fun y => { y with lastCh := c, blk := some (b, 1) })) c 0x08 1))
      match got with
      | none => none
      | some (b, l, s1) =>
        let k := min n (64 - l)
        let s2 := blkAdd (modQ s1 q (fun y => { y with blk := some (b, l + k) })) b true
        (takeLines q fuel (n - k) s2).map (fun r => ((b, l, k) :: r.1, r.2))

/-- The lines of a record are given up; a block that holds nothing more is no longer the one being filled (R352). -/
def giveLines (s : State) (q : Nat) (lines : List (Nat × Nat × Nat)) : State :=
  lines.foldl (fun t x =>
    let t1 := blkAdd t x.1 false
    if t1.hbm.blk.get 0 x.1 = 0 then
      modQ t1 q (fun y => { y with blk := match y.blk with | some (b, l) => if b = x.1 then none else some (b, l) | none => none })
    else t1) s

/-! ## Records -/

/-- Change the record at position i of a queue's HBM part. -/
def modHRec (s : State) (q i : Nat) (f : HRec → HRec) : State :=
  modQ s q (fun x => { x with hbm := x.hbm.modify i f })

/-- Drop the record at position i. -/
def dropRec (s : State) (q i : Nat) : State := modQ s q (fun x => { x with hbm := x.hbm.eraseIdx i })

/-- The pseudo-channel of a block: channel × 2 + pseudo-channel. -/
def pseudoOf (b : Nat) : Nat := blockBank b / 32

/-- Lines of some records in a pseudo-channel. -/
def linesIn (l : List HRec) (pc : Nat) : Nat :=
  ((l.flatMap (fun r => r.lines)).map (fun x => if pseudoOf x.1 = pc then x.2.2 else 0)).sum

/-- A pseudo-channel's write queue of 128 lines and its read queue of 256 lines have room for a record's lines, or hold nothing (R353). -/
def roomFor (busy : List HRec) (lines : List (Nat × Nat × Nat)) (cap : Nat) : Bool :=
  lines.all (fun x => let n := linesIn busy (pseudoOf x.1); n == 0 || decide (n + x.2.2 ≤ cap))

/-- Writes, and reads not forwarded, that are queued to the DRAM. -/
def writesQueued (s : State) : List HRec := (allRecs s).filter (fun r => r.st != .reserved && !r.done)
/-- Reads queued to the DRAM. -/
def readsQueued (s : State) : List HRec := (allRecs s).filter (fun r => r.st == .reading && !r.fwd)

/-- A record lies in a channel that is in a retraining pause, whose commands are held (R367). -/
def recHeld (s : State) (r : HRec) : Bool := r.lines.any (fun x => (hbmCh s (x.1 / 2 ^ 18)).st == .paused)

/-- HBM_RECORD_WRITE (R324, R326): the first record not yet written, once its packet's copy-making has ended. -/
def recWrite (s : State) (q : Nat) : State :=
  match (qOf s q).hbm.findIdx? (fun r => r.st == .reserved && !r.dead) with
  | none => s
  | some i =>
    match (qOf s q).hbm[i]? with
    | none => s
    | some r =>
      if !r.ready then s
      else match takeLines q 256 (if r.data then recLines r.p.len else 1) s with
        | none => s
        | some (lines, s1) =>
          if !roomFor (writesQueued s) lines 128 then s else
          let pkt := if !r.data then [] else match r.p.loc with | .buf .. => ptrBytes s r.p | .hbm => r.pkt
          let s2 := modHRec s1 q i (fun x => { x with st := .writing, lines := lines, pkt := pkt })
          lines.foldl (fun t x => bankTouch (countCh t (x.1 / 2 ^ 18) 0x08 x.2.2) x.1 (x.2.1 + x.2.2 - 1)) s2

/-- A flush is complete once nothing of it is in flight: the queue is ON_DIE, unless new records stand in it (R329). -/
def flushEnd (s : State) (q : Nat) : State :=
  let x := qOf s q
  if x.flush && x.hbm.all (fun r => !r.dead) then
    let s1 := modQ s q (fun y => { y with flush := false, spill := y.spill && !y.hbm.isEmpty })
    if x.spill && x.hbm.isEmpty then countB s1 0x60 else s1
  else s

/-- HBM_WRITE_DONE (R324, R331, R353): the first write in flight completes. A data record's pointer leaves its buffer; a record
that is no longer wanted is given up. -/
def writeDone (s : State) (q : Nat) : State :=
  match (qOf s q).hbm.findIdx? (fun r => r.st != .reserved && !r.done) with
  | none => s
  | some i =>
    match (qOf s q).hbm[i]? with
    | none => s
    | some r =>
      if recHeld s r then s
      else
        let s1 := if r.data then (match r.p.loc with | .buf k g => bufDec s k g | .hbm => s) else s
        if r.dead && r.st != .reading then flushEnd (giveLines (dropRec s1 q i) q r.lines) q
        else modHRec s1 q i (fun x => { x with
          done := true, st := if x.st = .writing then .written else x.st
          p := if x.data then { x.p with loc := .hbm } else x.p })

/-- A buffer of any pool that holds the packet, reserve included (R327). -/
def readBuf (s : State) (len : Nat) : Option (Nat × Nat × State) :=
  ((List.range 4).filter (fun p => decide (len ≤ poolBytes p))).findSome? (fun p => bufAlloc s p true [])

/-- HBM_READ_AHEAD (R327, R354): the front record not yet asked for is read, or forwarded from the write queue. -/
def readAhead (s : State) (q : Nat) : State :=
  let x := qOf s q
  if !x.spill || decide (prefBytes s ≤ onDie x) then s
  else match x.hbm.findIdx? (fun r => r.st != .reading && !r.dead) with
    | none => s
    | some i =>
      match x.hbm[i]? with
      | none => s
      | some r =>
        if r.st = .reserved ∨ (r.st ≠ .writing ∧ !roomFor (readsQueued s) r.lines 256) then s
        else match if r.data then (readBuf s r.p.len).map (fun b => (some (b.1, b.2.1), b.2.2)) else some (none, s) with
          | none => s
          | some (b, s1) =>
            let s2 := modHRec s1 q i (fun y => { y with st := .reading, readAt := s.now, rbuf := b, fwd := r.st == .writing })
            if r.st = .writing then r.lines.foldl (fun t l => countCh t (l.1 / 2 ^ 18) 0x20 l.2.2) s2
            else r.lines.foldl (fun t l => bankTouch (countCh t (l.1 / 2 ^ 18) 0x00 l.2.2) l.1 (l.2.1 + l.2.2 - 1)) s2

/-! ## Errors -/

/-- A channel is closed for a cause of the rules: CH_CLOSED rises with event 0x3401 (R360, R361). -/
def chClose (s : State) (c cause : Nat) : State :=
  condRise (modCh s c (fun x => if cause = 2 then { x with slow := true, due := true } else { x with err := true })) 0xD 2 c (lo32 cause) 0

/-- The error rule of R360. -/
def errCheck (s : State) (c : Nat) : State :=
  let x := hbmCh s c
  if rb s .hbmEccCfg [] 31 && !x.err && (decide (max 1 (rf s .hbmEccCfg [] 15 0) ≤ x.ce) || decide (2 ≤ x.ue)) then chClose s c 3 else s

/-- Corrected lines of a channel (R357, R358). -/
def ceLines (s : State) (c n : Nat) : State :=
  if n = 0 then s
  else errCheck (forEach (List.range n) (fun _ t => faultRise0 t 0xD 0 c) (modCh (countCh s c 0x10 n) c (fun x => { x with ce := x.ce + n }))) c

/-- An uncorrectable line of a block: kind 0 packet bytes, 1 descriptor or header (R358). -/
def ueLine (s : State) (b line kind : Nat) : State :=
  let c := b / 2 ^ 18
  let d := mkF 30 30 kind ||| mkF 23 18 line ||| mkF 17 0 b
  let s1 := modCh (countCh s c 0x18 1) c (fun x => { x with ue := x.ue + 1 })
  let s2 := if rb s1 .hbmUeCap [] 31 then s1 else setReg s1 .hbmUeCap [] (mkF 31 31 1 ||| mkF 29 24 c ||| d)
  errCheck (faultRise s2 0xD 1 c d 0) c

/-- The block and line of line `n` of a record. -/
def lineAt : List (Nat × Nat × Nat) → Nat → Nat × Nat
  | [], _ => (0, 0)
  | (b, l, k) :: rest, n => if n < k then (b, l + n) else lineAt rest (n - k)

/-- The admission unit of a record's queue, for event 0x3404. -/
def unitOfQ (s : State) (q : Nat) (t : Ticket) : Nat := if isEgQ s q then 16 + portOfQ s q / 8 else bundleOfTicket t

/-- A record is discarded or flushed: its references and its lines. One whose write or read is in flight stays, dead, until that has
completed, and keeps the buffer that its write reads or its read fills (R329, R352, R359). -/
def recGone (s : State) (q : Nat) (r : HRec) : State × Option HRec :=
  let busy := (r.st != .reserved && !r.done)
  let x := if busy && r.data then (s, r) else (ptrRelease s r.p, { r with p := { r.p with loc := .hbm } })
  if busy || r.st == .reading then (x.1, some { x.2 with dead := true }) else (giveLines x.1 q r.lines, none)

/-- Discard or flush the records of a queue from position i on, with an action for each. -/
def recsGone (s : State) (q i : Nat) (each : State → State) : State :=
  let x := qOf s q
  let r := (x.hbm.drop i).foldl (fun (a : State × List HRec) h =>
    if h.dead then (a.1, a.2 ++ [h])
    else let g := recGone (each a.1) q h; (g.1, a.2 ++ g.2.toList)) (s, [])
  modQ r.1 q (fun y => { y with hbm := x.hbm.take i ++ r.2 })

/-- The discard of R359: records from position i to the tail. -/
def discard (s : State) (q i : Nat) : State :=
  match (qOf s q).hbm[i]? with
  | none => s
  | some r =>
    let s1 := defClear (recsGone s q i (fun t => countQ (count t 0xD 0x80008) q 0x18)) q
    event s1 0x3404 (unitOfQ s q r.p.tkt) q

/-- The statistics of a completed read (R361): every line read from a channel is a read of it. A read forwarded from the write queue reaches
no DRAM and is none: DESIGN CHOICE (log entry 65). -/
def readStat (s : State) (r : HRec) : State :=
  if r.fwd then s
  else r.lines.foldl (fun t x =>
    let c := x.1 / 2 ^ 18
    modStack (modCh t c (fun h => { h with n := h.n + x.2.2, sum := h.sum + x.2.2 * (s.now - r.readAt) })) (c / 16)
      (fun k => { k with reads := min 4096 (k.reads + x.2.2) })) s

/-- A record leaves the HBM part after its read; one whose write is still in flight stays, dead (R352, R354). The reference of a reference
record has gone with its pointer. -/
def recRead (s : State) (q i : Nat) (r : HRec) : State :=
  if r.done then giveLines (dropRec s q i) q r.lines
  else modHRec s q i (fun x => { x with dead := true, st := .writing, rbuf := none, p := if x.data then x.p else { x.p with loc := .hbm } })

/-- The buffer that a read fills is given up. -/
def rbufDrop (s : State) (r : HRec) : State := match r.rbuf with | some (k, g) => bufDec s k g | none => s

/-- The read of the record at position i has ended without its packet (R358, R359). -/
def readEnds (s : State) (q i : Nat) (r : HRec) : State :=
  modHRec (rbufDrop s r) q i (fun x => { x with st := if x.done then .written else .writing, rbuf := none })

/-- HBM_READ_DONE (R353, R358, R359): the oldest read of the queue completes. `ce` gives corrected lines, and those that the on-die ECC
reports, which only count (R357). `ue`: 0 none, 1 the packet bytes of the lines listed, 2 a descriptor and 3 a block header with neither copy
passing; `lines` counts from the record's first. -/
def readDone (s : State) (q : Nat) (ce : EccCount) (ue : Nat) (lines : List Nat) : State :=
  match (qOf s q).hbm.findIdx? (fun r => r.st == .reading) with
  | none => s
  | some i =>
    match (qOf s q).hbm[i]? with
    | none => s
    | some r =>
      if recHeld s r && !r.fwd then s
      else
        let b0 := match r.lines with | x :: _ => x.1 | [] => 0
        let c0 := b0 / 2 ^ 18
        let s1 := ceLines (countCh (readStat s r) c0 0x10 ce.onDie) c0 ce.lines
        if r.dead then flushEnd (recRead (rbufDrop s1 r) q i r) q
        else if ue = 2 then spillExit (discard (readEnds (ueLine s1 (lineAt r.lines 0).1 (lineAt r.lines 0).2 1) q i r) q i) q
        else if ue = 3 then spillExit (discard (readEnds (ueLine s1 (lineAt r.lines (lines.headD 0)).1 0 1) q i r) q i) q
        else if ue = 1 ∧ r.data then
          let s2 := lines.foldl (fun t n => ueLine t (lineAt r.lines n).1 (lineAt r.lines n).2 0) s1
          spillExit (defClear (recRead (rbufDrop (count s2 0xD 0x80000) r) q i r) q) q
        else
          let p : Ptr := match r.rbuf with | some (k, g) => { r.p with loc := .buf k g } | none => r.p
          let s2 := match r.rbuf with | some (k, _) => modBuf s1 k (fun b => { b with pkt := r.pkt }) | none => s1
          spillExit (modQ (recRead s2 q i r) q (fun x => { x with on := x.on ++ [p] })) q

/-- The pointers and records of a queue are flushed, `n` on-die pointers from the front; each counts (R329, R390). -/
def flushQueue (s : State) (q n : Nat) (withHbm : Bool) : State :=
  let cnt (t : State) : State := countQ (countB t 0x18) q 0x10
  let gone := (qOf s q).on.take n
  let s1 := gone.foldl (fun t p => cnt (ptrRelease t p)) (modQ s q (fun x => { x with on := x.on.drop n }))
  if withHbm then
    flushEnd (modQ (recsGone s1 q 0 cnt) q (fun x => { x with flush := true })) q
  else s1

/-! ## Channels and stacks -/

/-- A record touches a channel. -/
def touches (r : HRec) (c : Nat) : Bool := r.lines.any (fun l => l.1 / 2 ^ 18 == c)

/-- Queues with a record in channel c, each with the position of the first. -/
def queuesIn (s : State) (c : Nat) : List (Nat × Nat) :=
  s.bpm.q.entries.filterMap (fun e => (e.2.hbm.findIdx? (fun r => touches r c && !r.dead)).map (fun i => (e.1, i)))

/-- Channel c is fenced (R368). -/
def chFence (s : State) (c : Nat) : State :=
  if (hbmCh s c).st = .fenced then s
  else
    let qs := queuesIn s c
    let s1 := qs.foldl (fun t x => discard t x.1 x.2) s
    let ghosts := s1.bpm.q.entries.flatMap (fun e => (e.2.hbm.filter (fun r => r.dead && touches r c)).map (fun r => (e.1, r)))
    let s1 := ghosts.foldl (fun t x => giveLines (ptrRelease (rbufDrop t x.2) x.2.p) x.1 x.2.lines) s1
    let s2 := modCh s1 c (fun x => { x with st := .fenced, due := false })
    let s3 := modHbm s2 (fun h => { h with
      blk := h.blk.filter (fun k _ => k / 2 ^ 18 != c)
      retrain := if h.retrain = some c then none else h.retrain })
    let s4 := modBpm s3 (fun b => { b with q := ⟨b.q.entries.map (fun e => (e.1, { e.2 with
      blk := match e.2.blk with | some (k, l) => if k / 2 ^ 18 = c then none else some (k, l) | none => none
      hbm := e.2.hbm.filter (fun r => !(r.dead && touches r c)) }))⟩ })
    let s5 := s4.bpm.q.keys.foldl flushEnd s4
    condRise (setFenced s5 0xD c true) 0xD 3 c (lo32 (min (2 ^ 20 - 1) qs.length)) 0

/-- Stack k is fenced: its 16 channels are (R364, R368). -/
def stackFence (s : State) (k : Nat) : State :=
  let s1 := forEach (List.range 16) (fun j t => chFence t (16 * k + j)) (modStack s k (fun x => { x with st := .fenced }))
  condRise (setFenced s1 0xD (64 + k) true) 0xD 5 k (lo32 5) 0

/-- Start training stack k: quick when results are stored, full otherwise (R365, R369). -/
def stackTrain (s : State) (k : Nat) : State :=
  let full := !(stackOf s k).stored
  let s1 := modStack s k (fun x => { x with st := .training, full := full, x2 := true, temp := none, hot := false, reads := 0 })
  forEach (List.range 16) (fun j t => modCh t (16 * k + j) (fun x => { x with st := .training, hot := false })) s1

/-- A channel that had been fenced is open again: CH_FENCED falls (Table 16.6). -/
def chOpened (s : State) (c : Nat) : State := if holds s 0xD 3 c then faultFall s 0xD 3 c else s

/-- HBM_TRAIN_DONE (R365, R366, R370): channels of the mask fail and are fenced, the others open. -/
def trainDone (s : State) (k fails : Nat) : State :=
  let x := stackOf s k
  if x.st ≠ .training then s
  else
    let s1 := modStack s k (fun y => { y with st := .up, stored := true, tempAt := s.now })
    let s2 := forEach (List.range 16) (fun j t =>
      let c := 16 * k + j
      if (hbmCh t c).st ≠ .training then t
      else if fails.testBit j then faultRise (chFence (modCh t c (fun h => { h with st := .down })) c) 0xD 6 k (lo32 c) 0
      else chOpened (modCh t c (fun h => { h with st := .open', trainAt := s.now, trainT := 0, due := false, n := 0, sum := 0 })) c) s1
    let n := ((List.range 16).filter (fun j => (hbmCh s2 (16 * k + j)).st == .open')).length
    let s3 := event s2 0x3406 k ((if x.full then 2 ^ 31 else 0) + n)
    let done := (List.range 4).all (fun j => (stackOf s3 j).st != .training)
    let s4 := if done then modHbm s3 (fun h => { h with trained := true }) else s3
    if holds s4 0xD 5 k then faultFall s4 0xD 5 k else s4

/-- A stack is at its thermal limit, or no longer (R364). -/
def hotSet (s : State) (k : Nat) (b : Bool) : State :=
  forEach (List.range 16) (fun j t => modCh t (16 * k + j) (fun c => { c with hot := b })) (modStack s k (fun y => { y with hot := b }))

/-- HBM_TEMP_READ (R363, R364): a reading of stack k in °C. -/
def tempRead (s : State) (k : Nat) (t : Int) : State :=
  let x := stackOf s k
  if x.st ≠ .up ∨ s.now < x.tempAt then s
  else
    let x2 := decide (85 ≤ t) || (x.x2 && x.temp.isSome && decide (83 ≤ t))
    let first := x.temp.isNone
    let s1 := modStack s k (fun y => { y with temp := some t, x2 := x2, tempAt := s.now + 1000000 })
    let s1 := gather s1 2 (t * 16)
    let s2 := if first then forEach (List.range 16) (fun j u => modCh u (16 * k + j) (fun c => { c with trainT := t })) s1 else s1
    let d := lo32 (codeOf 8 t)
    let s3 := if decide (105 ≤ t) && !x.hot then condRise (hotSet s2 k true) 0xD 4 k d 0
              else if decide (t < 100) && x.hot then faultFall (hotSet s2 k false) 0xD 4 k else s2
    if 115 ≤ t then stackFence s3 k else s3

/-- HBM_LAG_WINDOW (R361): at the end of a 1 ms window slow channels are closed. -/
def hbmLagWindow (s : State) : State :=
  let w := tbNs s / 1000000
  if w = s.hbm.win then s
  else
    let minN := max 1 (rf s .hbmLagCfg [] 15 0)
    let ratio := max 2 (rf s .hbmLagCfg [] 27 24)
    let cs := (List.range 64).filter (fun c => chOpen s c && decide (minN ≤ (hbmCh s c).n))
    let ms := cs.foldl (fun l c => meanInsert ((hbmCh s c).sum, (hbmCh s c).n) l) []
    let s1 := modHbm s (fun h => { h with win := w })
    let s2 := match ms[(cs.length + 1) / 2 - 1]? with
      | none => s1
      | some med =>
        if cs.length < 8 || !rb s .hbmLagCfg [] 31 then s1
        else forEach cs (fun c t =>
          let x := hbmCh t c
          if decide (ratio * med.1 * x.n < x.sum * med.2) && decide (4096 ≤ (stackOf t (c / 16)).reads) && !x.pauseIn then
            let closed := ((List.range 64).filter (fun j => (hbmCh t j).slow || (hbmCh t j).err || (hbmCh t j).hot)).length
            if rf t .hbmLagCfg [] 23 16 ≤ closed then event t 0x3408 c (min 0xFFFF (x.sum / x.n)) else chClose t c 2
          else t) s1
    forEach (List.range 64) (fun c t => modCh t c (fun x => { x with
      mean := if x.n = 0 then 0 else min 0xFFFF (x.sum / x.n), n := 0, sum := 0, pauseIn := x.st == .paused })) s2

/-- HBM_ERR_WINDOW (R360): at the end of a 1 s window the error counts start again. -/
def hbmErrWindow (s : State) : State :=
  let w := tbNs s / 1000000000
  if w = s.hbm.winS then s
  else forEach (List.range 64) (fun c t => modCh t c (fun x => { x with ce := 0, ue := 0 })) (modHbm s (fun h => { h with winS := w }))

/-- A channel is due for retraining (R362, R367). -/
def retrainDue (s : State) (c : Nat) : Bool :=
  let x := hbmCh s c
  let ms := max 1 (rf s .hbmCfg [] 31 24)
  let dt := max 1 (rf s .hbmCfg [] 23 20)
  x.due || decide (x.trainAt + ms * 1000000 ≤ s.now) || (match (stackOf s (c / 16)).temp with
    | some t => decide (dt ≤ (t - x.trainT).natAbs)
    | none => false)

/-- Complete the queued writes of channel c (R367). -/
def flushWrites (s : State) (c : Nat) : State :=
  s.bpm.q.entries.foldl (fun t e =>
    let n := match (e.2.hbm.reverse.findIdx? (fun r => touches r c && !r.done)) with | some i => e.2.hbm.length - i | none => 0
    let k := ((e.2.hbm.take n).filter (fun r => r.st != .reserved && !r.done)).length
    (List.range k).foldl (fun u _ => writeDone u e.1) t) s

/-- HBM_RETRAIN_START (R367): one channel of the device at a time. -/
def retrainStart (s : State) (c : Nat) : State :=
  if s.hbm.retrain.isNone ∧ (hbmCh s c).st = .open' ∧ retrainDue s c then
    let s1 := modCh (flushWrites s c) c (fun x => { x with st := .paused, pauseIn := true })
    let s2 := forEach (List.range 64) (fun n t => modHbm t (fun h => { h with
      bank := h.bank.upd {} (c * 64 + n) (fun x => { x with row := none }) })) (modHbm s1 (fun h => { h with retrain := some c }))
    countCh s2 c 0x28 1
  else s

/-- HBM_RETRAIN_DONE (R367). -/
def hbmRetrainDone (s : State) (c : Nat) (pass : Bool) : State :=
  let back := (hbmCh s c).st == .training && (stackOf s (c / 16)).st == .up
  if (hbmCh s c).st ≠ .paused ∧ !back then s
  else
    let s1 := if back then s else modHbm s (fun h => { h with retrain := none })
    if pass then
      chOpened (modCh s1 c (fun x => { x with st := .open', trainAt := s.now, due := false, trainT := ((stackOf s (c / 16)).temp).getD x.trainT })) c
    else faultRise (chFence s1 c) 0xD 6 (c / 16) (lo32 c) 0

/-- REOPEN (R362). -/
def chReopen (s : State) (c : Nat) : State :=
  let s1 := modCh s c (fun x => { x with slow := false, err := false })
  if holds s1 0xD 2 c then faultFall s1 0xD 2 c else s1

/-- The domains of stack k: controller and PHY, and DRAM supplies (Table 19.3). -/
def stackDoms (s : State) (k : Nat) (on : Bool) : State := blockSwitch (blockSwitch s (84 + k) on) (88 + k) on

/-- HBM_STACK_CFG POWER written 0 (R369): refused with PD_REJ while a channel of the stack holds a block, or a sealed set holds
values for the stack (R528). -/
def stackOff (s : State) (k : Nat) : State :=
  if (List.range 16).any (fun j => chUsed s (16 * k + j) != 0) || sealedFor s (84 + k) then setRB s .hbmStackCfg [k] 30 true
  else
    let s1 := setRB s .hbmStackCfg [k] 31 false
    if (stackOf s1 k).st = .off then s1
    else
      let s2 := modStack s1 k (fun x => { x with st := .off, hot := false, temp := none, reads := 0 })
      let s3 := forEach (List.range 16) (fun j t => modCh t (16 * k + j) (fun x => { x with st := .down })) s2
      event (dropLost (stackDoms s3 k false)) 0x3409 k 0

/-- Both domains of stack k are on. -/
def stackPowered (s : State) (k : Nat) : Bool := domOn s (84 + k) && domOn s (88 + k)

/-- HBM_STACK_CFG POWER written 1 (R369): a stack that is off is powered and trained; one whose domain has tripped waits for
the owner to switch it on (R529). -/
def stackOn (s : State) (k : Nat) : State :=
  let s1 := setRB s .hbmStackCfg [k] 31 true
  if (stackOf s1 k).st = .off then
    let s2 := stackDoms s1 k true
    if stackPowered s2 k then event (stackTrain s2 k) 0x3409 k 1 else s2
  else s1

/-! ## Commands -/

/-- HBM_RECORD_WRITE (R326). -/
def execHbmRecordWrite (q : Fin 1048576) (s : State) : Res := ok (if onData s then recWrite s q.val else s)

/-- HBM_WRITE_DONE (R324). -/
def execHbmWriteDone (q : Fin 1048576) (s : State) : Res := ok (if onData s then writeDone s q.val else s)

/-- HBM_READ_AHEAD (R327, R354). -/
def execHbmReadAhead (q : Fin 1048576) (s : State) : Res := ok (if onData s then readAhead s q.val else s)

/-- HBM_READ_DONE (R353, R358, R359). -/
def execHbmReadDone (q : Fin 1048576) (ce : EccCount) (ue : Fin 4) (lines : List (Fin 256)) (s : State) : Res :=
  ok (if onData s then readDone s q.val ce ue.val (lines.map Fin.val) else s)

/-- HBM_BANK_IDLE (R355). -/
def execHbmBankIdle (c : Fin 64) (n : Fin 64) (s : State) : Res := ok (if onData s then bankIdle s c.val n.val else s)

/-- HBM_REFRESH (R363). -/
def execHbmRefresh (c : Fin 64) (n : Fin 64) (s : State) : Res := ok (if onData s then bankRefresh s c.val n.val else s)

/-- HBM_TEMP_READ (R364). -/
def execHbmTempRead (k : Fin 4) (t : BitVec 8) (s : State) : Res := ok (if onData s then tempRead s k.val t.toInt else s)

/-- HBM_LAG_WINDOW (R361). -/
def execHbmLagWindow (s : State) : Res := ok (if onData s then hbmLagWindow s else s)

/-- HBM_ERR_WINDOW (R360). -/
def execHbmErrWindow (s : State) : Res := ok (if onData s then hbmErrWindow s else s)

/-- HBM_TRAIN_DONE (R365). -/
def execHbmTrainDone (k : Fin 4) (fails : BitVec 16) (s : State) : Res := ok (if onData s && fwRuns s then trainDone s k.val fails.toNat else s)

/-- HBM_RETRAIN_START (R367). -/
def execHbmRetrainStart (c : Fin 64) (s : State) : Res := ok (if onData s && fwRuns s then retrainStart s c.val else s)

/-- HBM_RETRAIN_DONE (R367). -/
def execHbmRetrainDone (c : Fin 64) (pass : Bool) (s : State) : Res := ok (if onData s && fwRuns s then hbmRetrainDone s c.val pass else s)

/-- HBM_CHANNEL_FENCE (R368). -/
def execHbmChannelFence (c : Fin 64) (s : State) : Res := ok (if onData s then chFence s c.val else s)

end Sys2Proof.Machine
end

