-- ==== Sys2Proof/Machine/Sch.lean ====
section
/-! DEFINITION. The egress scheduler (R373 to R395): nodes, buckets, selection, dequeue, port state, node window. -/

namespace Sys2Proof.Machine

/-- Change a port node's link state. -/
def modSchPort (s : State) (p : Nat) (f : SchPort → SchPort) : State :=
  modSch s (fun x => { x with port := x.port.upd {} p f })

/-- Count in a counter of port p (Table 13.10). -/
def countSchN (s : State) (p off n : Nat) : State := bumpN s (cOff 0xE (p * 0x40 + off)) n

/-! ## Buckets -/

/-- PIR of a node. -/
def nodePir (s : State) (lvl idx : Nat) : Nat := (nodeRaw s lvl idx 2).toNat

/-- CIR of a node; above a non-zero PIR it acts as PIR (R379). -/
def nodeCir (s : State) (lvl idx : Nat) : Nat :=
  let c := (nodeRaw s lvl idx 1).toNat
  let p := nodePir s lvl idx
  if p ≠ 0 ∧ p < c then p else c

/-- A bucket at time-base `t`, in 1/8,000,000 B: T := min(T + rate × Δt, burst) (R384). -/
def bktAt (o : Option Int) (rate cap at' t : Nat) : Int :=
  match o with | none => (cap : Int) | some l => min (cap : Int) (l + (rate * (t - at') : Nat))

/-- CT of a node now. -/
def ctNow (s : State) (lvl idx : Nat) : Int :=
  let x := nodeSt s lvl idx
  bktAt x.ct (nodeCir s lvl idx) (burstUnits (nf s lvl idx 3 15 0)) x.at' (tbNs s)

/-- PT of a node now. -/
def ptNow (s : State) (lvl idx : Nat) : Int :=
  let x := nodeSt s lvl idx
  bktAt x.pt (nodePir s lvl idx) (burstUnits (nf s lvl idx 3 31 16)) x.at' (tbNs s)

/-- The peak bucket lets the node be served (R379). -/
def peakOk (s : State) (lvl idx : Nat) : Bool := nodePir s lvl idx == 0 || decide (0 < ptNow s lvl idx)

/-- A node is committed when CIR > 0 and CT > 0 (R379). -/
def committed (s : State) (lvl idx : Nat) : Bool := decide (0 < nodeCir s lvl idx) && decide (0 < ctNow s lvl idx)

/-- Bring a node's buckets up to date (R384, R385). -/
def settle (s : State) (lvl idx : Nat) : State :=
  let c := ctNow s lvl idx
  let p := ptNow s lvl idx
  modNode s lvl idx (fun x => { x with ct := x.ct.map (fun _ => c), pt := x.pt.map (fun _ => p), at' := tbNs s })

/-- Charge a node (R382): PT when PIR is not 0, CT when CIR > 0 and CT > 0. -/
def chargeNode (s : State) (lvl idx bytes : Nat) : State :=
  let c := ctNow s lvl idx
  let p := ptNow s lvl idx
  let b : Int := (bytes * 8000000 : Nat)
  let cm := committed s lvl idx
  let pk := nodePir s lvl idx != 0
  modNode s lvl idx (fun x => { x with
    ct := if cm then some (c - b) else x.ct.map (fun _ => c)
    pt := if pk then some (p - b) else x.pt.map (fun _ => p)
    at' := tbNs s })

/-! ## Eligibility -/

/-- The line port whose gates apply: in OTN mode the client's, at index 0 (R404). -/
def gatePort (s : State) (p : Nat) : Nat := if grpOtn s (p / 8) then p / 8 * 8 else p

/-- The head pointer of queue q may start on its gate, or can never start and is to be dropped (R379, R411, R412). -/
def gateOkQ (s : State) (p q len : Nat) : Bool :=
  let gp := gatePort s p
  let g := nf s 4 q 6 30 28
  let r := portRate s gp
  gateAllows s gp g len r || (gateImpossible s gp g len r && (gateStatesAt s gp (gateTime s gp)).testBit g)

/-- A queue is eligible (R379). -/
def eligQ (s : State) (p q : Nat) : Bool :=
  nodeEn s 4 q && peakOk s 4 q && (match (qOf s q).on with | [] => false | x :: _ => gateOkQ s p q x.len)

/-- A node `b` levels above the queues is eligible (R379). -/
def elig (s : State) (p : Nat) : Nat → Nat → Bool
  | 0, q => eligQ s p q
  | b + 1, idx => nodeEn s (3 - b) idx && peakOk s (3 - b) idx && (childrenOf s (3 - b) idx).any (elig s p b)

/-- The next of a list in round robin by ascending number after the one last served, held plus 1 (R380). -/
def rrNext (l : List Nat) (last : Nat) : Option Nat :=
  match l.find? (fun n => decide (last ≤ n)) with | some n => some n | none => l.head?

/-- PRIO, and quantum in bytes, of a node. -/
def prioOf (s : State) (lvl idx : Nat) : Nat := nf s lvl idx 0 30 28
/-- Q = WEIGHT × 256 B; 0 acts as 1 (R381). -/
def quantum (s : State) (lvl idx : Nat) : Int := (max 1 (nf s lvl idx 0 27 18) * 256 : Nat)

/-- The children of lowest PRIO. -/
def lowestPrio (s : State) (lvl : Nat) (l : List Nat) : List Nat :=
  let m := (l.map (prioOf s lvl)).foldl min 8
  l.filter (fun c => prioOf s lvl c == m)

/-- The loop of deficit round robin (R381). -/
def drrLoop (lvl : Nat) (cs : List Nat) : Nat → Nat → State → Nat × State
  | 0, last, s => (last - 1, s)
  | fuel + 1, last, s =>
    match rrNext cs last with
    | none => (last - 1, s)
    | some c =>
      let q := quantum s lvl c
      let d := min ((nodeSt s lvl c).defi + q) q
      let s1 := modNode s lvl c (fun x => { x with defi := d })
      if 0 < d then (c, s1) else drrLoop lvl cs fuel (c + 1) s1

/-- A node picks one of its eligible children (R380): the child, and whether by deficit round robin. -/
def pickChild (s : State) (lvl idx : Nat) (cs : List Nat) : Option (Nat × Bool × State) :=
  let cm := cs.filter (committed s (lvl + 1))
  if !cm.isEmpty then
    let l := lowestPrio s (lvl + 1) cm
    (rrNext l ((nodeSt s lvl idx).rrC.get 0 (prioOf s (lvl + 1) (l.headD 0)))).map (fun c =>
      (c, false, modNode s lvl idx (fun x => { x with rrC := x.rrC.set 0 (prioOf s (lvl + 1) c) (c + 1) })))
  else
    let l := lowestPrio s (lvl + 1) cs
    match l with
    | [] => none
    | c0 :: _ =>
      let pr := prioOf s (lvl + 1) c0
      let last := (nodeSt s lvl idx).rrD.get 0 pr
      let keep := decide (1 ≤ last) && l.contains (last - 1) && decide (0 < (nodeSt s (lvl + 1) (last - 1)).defi)
      let r := if keep then (last - 1, s) else drrLoop (lvl + 1) l (64 * l.length + 64) last s
      some (r.1, true, modNode r.2 lvl idx (fun x => { x with rrD := x.rrD.set 0 pr (r.1 + 1) }))

/-- Descend from a node `b` levels above the queues to a queue: the path below it, each with whether DRR picked it. -/
def descend (p : Nat) : Nat → Nat → State → Option (List (Nat × Nat × Bool) × State)
  | 0, _, s => some ([], s)
  | b + 1, idx, s =>
    let lvl := 3 - b
    match pickChild s lvl idx ((childrenOf s lvl idx).filter (elig s p b)) with
    | none => none
    | some (c, drr, s1) => (descend p b c s1).map (fun r => ((lvl + 1, c, drr) :: r.1, r.2))

/-- The Ell holds egress credit for a packet of n bytes of group g, and its segment queue and the heads before the slices
have room (R191, R290, R379). -/
def egressRoom (s : State) (g n : Nat) : Bool :=
  segRoom s (16 + g) && decide ((s.slc.egress.get [] g).length < segqMax) &&
    (decide (n ≤ 256) || (takeTag s 1 g (n - 256)).isSome)

/-- A port that may be served: state UP, eligible, and credit for what it would select (R379). -/
def portPick (s : State) (p : Nat) : Option (List (Nat × Nat × Bool) × State) :=
  if (schPort s p).st = .up ∧ elig s p 4 p then
    match descend p 4 p s with
    | none => none
    | some r =>
      match r.1.getLast? with
      | none => none
      | some (_, q, _) => match (qOf s q).on with
        | [] => none
        | x :: _ => if egressRoom s (p / 8) x.len then some r else none
  else none

/-! ## Dequeue -/

/-- A delay sample of a dequeued pointer (R393). -/
def delaySample (s : State) (q : Nat) (d : Nat) : State :=
  let u := d / 16
  let w := rf s .schCfg [] 31 28
  modQ s q (fun x =>
    let avg : Int := if x.seeded then (x.avg : Int) + Int.tdiv ((u : Int) - x.avg) (2 ^ w) else u
    { x with seeded := true, avg := min 0x7FFFFFFF avg.toNat, qmax := min 0x7FFFFFFF (max x.qmax u) })

/-- Take the head pointer of a queue. -/
def popPtr (s : State) (q : Nat) : State := modQ s q (fun x => { x with on := x.on.drop 1 })

/-- A pointer is too old for its queue (R392). -/
def tooOld (s : State) (q : Nat) (x : Ptr) : Bool :=
  let a := nf s 4 q 6 27 16
  a != 0 && decide (x.at' + a * 1000000 < s.now)

/-- A line of the packet is uncorrectable (STORE_UE). -/
def ptrBad (s : State) (x : Ptr) : Bool := match x.loc with | .buf k _ => (bufOf s k).bad | .hbm => false

/-- The egress ticket of a packet for port p (Table 1.3, R343). -/
def egressTicket (x : Ptr) (p : Nat) : Ticket :=
  tsealed (tset (tset (tset (tset (tset x.tkt 255 252 6) 215 196 p) 111 108 0) 241 228 x.len) 31 16 0xFFFF)

/-- A packet leaves for the F-die: ticket, head and body, with credit (R290). -/
def egressSend (s : State) (p : Nat) (x : Ptr) : State :=
  let g := p / 8
  let pkt := ptrBytes s x
  let body := pkt.drop 256
  if body.isEmpty then ellPush s (16 + g) (.head g (egressTicket x p) pkt none)
  else match takeTag s 1 g body.length with
    | none => s
    | some (tag, s1) =>
      ellPushAll s1 (16 + g) (.head g (egressTicket x p) (pkt.take 256) (some tag) :: bodySegs g tag body.length 3 body)

/-- L + ADJ, at least 1 (R382). -/
def chargeBytes (len adj : Nat) : Nat := (max 1 ((len : Int) + signedOf 8 adj)).toNat

/-- The selected pointer goes out: charges, deficits, delay, counters (R331, R382, R393). -/
def dequeue (s : State) (p q : Nat) (x : Ptr) (path : List (Nat × Nat × Bool)) : State :=
  let ch := chargeBytes x.len (rf s .schPortCfg [p] 7 0)
  let s1 := ((0, p, false) :: path).foldl (fun t n =>
    let t1 := chargeNode t n.1 n.2.1 ch
    if n.2.2 then modNode t1 n.1 n.2.1 (fun y => { y with defi := y.defi - ch }) else t1) s
  let s2 := egressSend s1 p x
  let s3 := delaySample (ptrRelease (popPtr s2 q) x) q (s.now - x.at')
  defClear (countSchN (countSchN s3 p 0x00 1) p 0x08 ch) q

/-- A decision of the egress scheduler of group g (R380, R392, R412). -/
def schDequeue (s : State) (g : Nat) : State :=
  let ports := (List.range 8).map (fun i => 8 * g + i)
  let ok := ports.filter (fun p => (portPick s p).isSome)
  match rrNext ok (s.sch.rr.get 0 g) with
  | none => s
  | some p =>
    match portPick s p with
    | none => s
    | some (path, s1) =>
      let q := match path.getLast? with | some (_, q, _) => q | none => 0
      match (qOf s q).on with
      | [] => s
      | x :: _ =>
        let turn (t : State) : State := modSch t (fun y => { y with rr := y.rr.set 0 g (p + 1) })
        let drop (t : State) : State := defClear (ptrRelease (popPtr t q) x) q
        let gp := gatePort s p
        if ptrBad s x then turn (drop s)
        else if tooOld s q x then turn (drop (countSchN s p 0x10 1))
        else if gateImpossible s gp (nf s 4 q 6 30 28) x.len (portRate s gp) then turn (drop (bump s (cOff 0xF (gp * 0x20 + 8))))
        else turn (dequeue s1 p q x path)

/-! ## Port state -/

/-- HOLD_MS; larger values act as 1,000. -/
def holdMs (s : State) (p : Nat) : Nat := min 1000 (rf s .schPortCfg [p] 25 16)

/-- The queues of a port that hold something (R390). -/
def queuesOfPort (s : State) (p : Nat) : List Nat := s.bpm.q.keys.filter (fun q => isEgQ s q && portOfQ s q == p)

/-- The flush of a port starts (Table 13.2, R390): every pointer its queues hold now is removed. -/
def flushStart (s : State) (p : Nat) : State :=
  let qs := queuesOfPort s p
  let n := (qs.map (fun q => (qOf s q).on.length + ((qOf s q).hbm.filter (fun r => !r.dead)).length)).sum
  let s1 := event (modSchPort s p (fun x => { x with st := .flush, since := s.now })) 0x3803 p (min (2 ^ 20 - 1) n)
  forEach qs (fun q t => defClear (flushQueue t q (qOf t q).on.length true) q) s1

/-- The oldest change of a port's LINK not yet passed reaches the scheduler (R389, Table 13.2). -/
def linkChange (s0 : State) (p : Nat) : State :=
  let x := schPort s0 p
  match (portOf s0 p).linkq with
  | [] => s0
  | l :: rest =>
  let s := setPort s0 p { portOf s0 p with linkq := rest }
  if x.link = l then s
  else
    let s1 := modSchPort s p (fun y => { y with link := l })
    match x.st, l with
    | .down, true => modSchPort s1 p (fun y => { y with st := .up, since := s.now })
    | .up, false =>
      let h := holdMs s p
      if h = 0 then flushStart s1 p
      else event (countSchN (modSchPort s1 p (fun y => { y with st := .hold, since := s.now, until' := s.now + h * 1000000 })) p 0x18 1) 0x3801 p h
    | .hold, true =>
      event (countSchN (modSchPort s1 p (fun y => { y with st := .up, since := s.now })) p 0x20 1) 0x3802 p ((s.now - x.since) / 1000000)
    | _, _ => s1

/-- SCH_HOLD_EXPIRE (Table 13.2). -/
def holdExpire (s : State) (p : Nat) : State :=
  let x := schPort s p
  if x.st = .hold ∧ x.until' ≤ s.now then flushStart s p else s

/-- SCH_FLUSH_DONE (Table 13.2): nothing of the flush is in flight any more. -/
def flushDone (s : State) (p : Nat) : State :=
  let x := schPort s p
  if x.st = .flush ∧ (queuesOfPort s p).all (fun q => (qOf s q).hbm.all (fun r => !r.dead)) then
    event (modSchPort s p (fun y => { y with st := if y.link then .up else .down, since := s.now })) 0x3804 p (if x.link then 1 else 0)
  else s

/-! ## Changes of node values -/

/-- A node word takes effect (R378, R385, R386). -/
def applyNode (s : State) (key : Nat) (v : Word) : State :=
  let k := key - 2 ^ 32
  let w := k % 8
  let lvl := k / 8 / 2 ^ 20
  let idx := k / 8 % 2 ^ 20
  let s0 := settle s lvl idx
  let old := nodeRaw s lvl idx w
  let s1 := setNode s0 lvl idx w v
  if w = 0 then
    let s2 := if !tbit old 31 && tbit v 31 then
        forEach (childrenOf s1 lvl idx) (fun c t => if lvl < 4 then modNode t (lvl + 1) c (fun x => { x with defi := 0 }) else t)
          (modNode s1 lvl idx (fun x => { x with ct := none, pt := none, defi := 0, rrC := {}, rrD := {} }))
      else s1
    if lvl = 4 ∧ fld old 17 0 ≠ fld v 17 0 then modNode s2 lvl idx (fun x => { x with defi := 0 }) else s2
  else if w = 1 then
    if old = 0 ∨ v = 0 then modNode s1 lvl idx (fun x => { x with ct := none }) else s1
  else if w = 2 then
    if old = 0 ∨ v = 0 then modNode s1 lvl idx (fun x => { x with pt := none }) else s1
  else if w = 3 then
    let c : Int := (burstUnits (fld v 15 0) : Nat)
    let p : Int := (burstUnits (fld v 31 16) : Nat)
    let oc : Int := (burstUnits (fld old 15 0) : Nat)
    let op : Int := (burstUnits (fld old 31 16) : Nat)
    -- a bucket that stood full keeps its tokens: a lower burst clamps it, a higher burst adds none
    modNode s1 lvl idx (fun x => { x with
      ct := some (min c (x.ct.getD oc)), pt := some (min p (x.pt.getD op)) })
  else s1

/-- A policer word takes effect (R388): its buckets count at the old rates up to now; EN from 0 to 1 fills them. -/
def applyPol (s : State) (r : Reg) (i : Nat) (v : Word) : State :=
  let c := regRaw s .schPolC [i]
  let cir := (regRaw s .schPolA [i]).toNat
  let pir := max cir (regRaw s .schPolB [i]).toNat
  let x := s.sch.pol.get {} i
  let t := tbNs s
  let tc := polFill x.tc cir (burstUnits (fld c 11 0)) x.at' t
  let tp := polFill x.tp pir (burstUnits (fld c 23 12)) x.at' t
  let s1 := setReg s r [i] v
  let n := regRaw s1 .schPolC [i]
  let fresh := !tbit c 31 && tbit n 31
  let y : PolSt := if fresh then { at' := t }
    else { tc := some (min tc (burstUnits (fld n 11 0))), tp := some (min tp (burstUnits (fld n 23 12))), at' := t }
  modSch s1 (fun z => { z with pol := z.pol.set {} i y })

/-- Every bucket of nodes and policers is brought up to the time base as it stands (R384). -/
def settleAll (s : State) : State :=
  let pol (i : Nat) (x : PolSt) : PolSt :=
    let c := regRaw s .schPolC [i]
    let cir := (regRaw s .schPolA [i]).toNat
    { tc := some (polFill x.tc cir (burstUnits (fld c 11 0)) x.at' (tbNs s))
      tp := some (polFill x.tp (max cir (regRaw s .schPolB [i]).toNat) (burstUnits (fld c 23 12)) x.at' (tbNs s)), at' := tbNs s }
  modSch (forEach s.sch.node.keys (fun k t => settle t (k / 2 ^ 20) (k % 2 ^ 20)) s) (fun z => { z with
    pol := ⟨z.pol.entries.map (fun e => (e.1, pol e.1 e.2))⟩ })

/-- After a backward step of the time base every bucket counts on from the new time; what it has gained it keeps. DEDUCED (log entry 66). -/
def bucketsFrom (s : State) : State :=
  modSch s (fun z => { z with
    pol := ⟨z.pol.entries.map (fun e => (e.1, { e.2 with at' := tbNs s }))⟩
    node := ⟨z.node.entries.map (fun e => (e.1, { e.2 with at' := tbNs s }))⟩ })

/-! ## The node window -/

/-- The selected node: level and index; none when the index lies outside the level (Table 13.5). -/
def selNode (s : State) : Option (Nat × Nat) :=
  let l := min 4 (rf s .schNsel [] 31 29)
  let i := rf s .schNsel [] 19 0
  let n := if l = 0 then 128 else if l = 1 then 8192 else if l = 2 then 65536 else if l = 3 then 262144 else 1048576
  if i < n then some (l, i) else none

/-- The value a node word's write stages over. -/
def nodeOpen (s : State) (lvl idx w : Nat) : Word := (s.fur.opn.find (nodeKey lvl idx w)).getD (nodeRaw s lvl idx w)

/-- Node words in the open set (STAGED). -/
def stagedNodes (s : State) : Nat := (s.fur.opn.keys.filter (fun k => decide (2 ^ 32 ≤ k))).length

/-- Writable bits of a window word. -/
def nodeMask (w : Nat) : Word := if w ≤ 3 ∨ w = 6 then 0xFFFFFFFF else 0

/-- A write of SCH_N_MAP that R377 refuses. -/
def mapBad (s : State) (lvl idx : Nat) (v : Word) : Bool :=
  let par := fld v 17 0
  let lim := if lvl = 1 then 128 else if lvl = 2 then 8192 else if lvl = 3 then 65536 else 262144
  let flat := lvl == 4 && !isEgQ s idx
  if flat then decide ((v ^^^ nodeOpen s lvl idx 0) &&& 0x7FFFFFFF ≠ 0) else lvl != 0 && decide (lim ≤ par)

/-- A write of window word w (R376, R377, R393): staged per node, in direct mode at once. -/
def nodeWrite (s : State) (w : Nat) (v : Word) : State :=
  match selNode s with
  | none => s
  | some (lvl, idx) =>
    if w = 7 then
      if lvl = 4 ∧ tbit v 0 then modQ s idx (fun x => { x with seeded := false }) else s
    else if w = 4 ∨ w = 5 ∨ (w = 6 ∧ lvl ≠ 4) then s
    else if w = 0 ∧ mapBad s lvl idx v then setRB s .schStatus [] 31 true
    else
      let k := nodeKey lvl idx w
      if s.fur.direct then applyNode s k v
      else if (s.fur.opn.find k).isNone ∧ 16384 ≤ stagedNodes s then event (setRB s .schStatus [] 30 true) 0x3805 0 0
      else { s with fur := { s.fur with opn := s.fur.opn.put k (some v) } }

/-! ## Commands -/

/-- SCH_DEQUEUE (R380). -/
def execSchDequeue (g : Fin 16) (s : State) : Res := ok (if blkOn s 0xE then schDequeue s g.val else s)

/-- SCH_LINK_CHANGE (R389). -/
def execSchLinkChange (p : Fin 128) (s : State) : Res := ok (if blkOn s 0xE then linkChange s p.val else s)

/-- SCH_HOLD_EXPIRE (R389). -/
def execSchHoldExpire (p : Fin 128) (s : State) : Res := ok (if blkOn s 0xE then holdExpire s p.val else s)

/-- SCH_FLUSH_DONE (R390). -/
def execSchFlushDone (p : Fin 128) (s : State) : Res := ok (if blkOn s 0xE then flushDone s p.val else s)

end Sys2Proof.Machine
end

