-- ==== Sys2Proof/Machine/Fab.lean ====
section
/-! DEFINITION. The fabric interface (R416 to R447, R451 to R453): lanes, planes, flows and credits, streams, the Firkin,
reordering and reassembly, replay, heartbeats, switch-over. -/

namespace Sys2Proof.Machine

/-- Change the fabric interface. -/
def modFab (s : State) (f : FabSt → FabSt) : State := { s with fab := f s.fab }

/-- Lane l. -/
def laneOf (s : State) (l : Nat) : FabLane := s.fab.lane.get {} l
/-- Change lane l. -/
def modLane (s : State) (l : Nat) (f : FabLane → FabLane) : State := modFab s (fun x => { x with lane := x.lane.upd {} l f })
/-- Plane pl. -/
def planeOf (s : State) (pl : Nat) : FabPlane := s.fab.plane.get {} pl
/-- Change plane pl. -/
def modPlane (s : State) (pl : Nat) (f : FabPlane → FabPlane) : State := modFab s (fun x => { x with plane := x.plane.upd {} pl f })
/-- Transmit stream (device, stream). -/
def txOf (s : State) (d st : Nat) : TxStream := s.fab.tx.get {} (d * 2 + st)
/-- Change a transmit stream. -/
def modTx (s : State) (d st : Nat) (f : TxStream → TxStream) : State := modFab s (fun x => { x with tx := x.tx.upd {} (d * 2 + st) f })
/-- Receive stream (device, stream). -/
def rxOf (s : State) (d st : Nat) : RxStream := s.fab.rx.get {} (d * 2 + st)
/-- Change a receive stream. -/
def modRx (s : State) (d st : Nat) (f : RxStream → RxStream) : State := modFab s (fun x => { x with rx := x.rx.upd {} (d * 2 + st) f })

/-- Add to a device counter of FAB (Table 15.20). -/
def countFab (s : State) (off n : Nat) : State := bumpN s (cOff 0x10 off) n
/-- Count in a counter of lane l. -/
def countLane (s : State) (l off : Nat) : State := bump s (cOff 0x10 (0x40000 + l * 0x20 + off))

/-- A timer field in µs, as ns; 0 acts as 1. -/
def usNs (n : Nat) : Nat := max 1 n * 1000

/-- NAK_US, ACK_NS, MARKER_MAX_US, ACK_TMO_US, PLANE_TMO_US in ns. -/
def nakNs (s : State) : Nat := usNs (rf s .fabRxTmr [] 23 20)
/-- ACK_NS. -/
def ackNs (s : State) : Nat := max 1 (rf s .fabRxTmr [] 19 14) * 100
/-- MARKER_MAX_US. -/
def markerNs (s : State) : Nat := usNs (rf s .fabRxTmr [] 9 0)
/-- ACK_TMO_US. -/
def ackTmoNs (s : State) : Nat := usNs (rf s .fabTxTmr [] 31 24)
/-- PLANE_TMO_US. -/
def planeTmoNs (s : State) : Nat := usNs (rf s .fabTxTmr [] 19 16)
/-- SWITCH_US; values above 40 act as 40. -/
def switchNs (s : State) : Nat := min 40 (rf s .fabTxTmr [] 5 0) * 1000
/-- REPLAY_LIMIT; 0 acts as 1. -/
def replayLimit (s : State) : Nat := max 1 (rf s .fabTxTmr [] 23 20)
/-- STANDBY mode: PMODE 1 as it last took effect. -/
def standbyMode (s : State) : Bool := s.fab.pmode == 1
/-- PREF. -/
def pref (s : State) : Nat := rf s .fabCfg [] 28 28
/-- FAB_CFG.EN. -/
def fabEn (s : State) : Bool := rb s .fabCfg [] 31
/-- DEV_ID. -/
def devId (s : State) : Nat := rf s .fabCfg [] 7 0
/-- A device is an enabled peer (R431). -/
def peerEn (s : State) (d : Nat) : Bool := rb s .fabPeerEn [d / 32] (d % 32)

/-! ## Planes and the spray set -/

/-- A lane of a plane is UP and not slow. -/
def laneGood (s : State) (l : Nat) : Bool := (laneOf s l).st == .up && !(laneOf s l).slow

/-- The lanes of a plane. -/
def planeLanes (pl : Nat) : List Nat := (List.range 96).map (fun j => pl * 96 + j)

/-- Lanes of a plane that are UP and not slow. -/
def goodLanesOf (s : State) (pl : Nat) : List Nat := (planeLanes pl).filter (laneGood s)

/-- A plane may carry traffic: UP in DUAL mode, or ACTIVE and not failed in STANDBY mode; not while SWITCHING (R430, R447). -/
def mayCarry (s : State) (pl : Nat) : Bool :=
  let p := planeOf s pl
  (p.st == .up || (p.st == .active && !p.failed)) && s.fab.sw.isNone

/-- The spray set of a plane (R430). -/
def sprayOf (s : State) (pl : Nat) : List Nat := if mayCarry s pl then goodLanesOf s pl else []

/-- Planes that may carry traffic. -/
def carryPlanes (s : State) : List Nat := [0, 1].filter (mayCarry s)

/-- PLANE_MIN. -/
def planeMin (s : State) : Nat := clamp 1 96 (rf s .fabPlaneCfg [] 6 0)

/-- The heartbeats of a plane have not stopped for PLANE_TMO_US. -/
def hbFresh (s : State) (pl : Nat) : Bool :=
  match (planeOf s pl).lastHb with | some t => decide (s.now < t + planeTmoNs s) | none => false

/-- A lane leaves the spray set: event 0x4001 with its cause (0 lock, 1 host, 2 slow). -/
def laneLeft (s : State) (l cause : Nat) (was : Bool) : State := if was then event s 0x4001 l cause else s

/-- Is a lane in the spray set? -/
def inSpray (s : State) (l : Nat) : Bool := laneGood s l && mayCarry s (l / 96)

/-! ## Lanes (Table 15.1) -/

/-- A lane's domain is on. -/
def laneOn (s : State) (l : Nat) : Bool := blkOn s 0x10 && domOn s (16 + l / 96)

/-- Start a lane as from OFF. -/
def laneStart (s : State) (l : Nat) : State :=
  modLane s l (fun x => { unlocked x with st := if rb s .fabLaneCfg [l] 30 then .train else .delin, since := s.now, fromUp := false, cdr := false })

/-- A failure (R139, R417): hold-offs from 1 s doubling to 16 s. -/
def laneFail (s : State) (l : Nat) : State :=
  let x := laneOf s l
  let f := min 15 (x.fails + 1)
  modLane s l (fun y => { unlocked y with st := .holdoff, since := s.now, fails := f, deadline := s.now + min 16 (2 ^ (f - 1)) * 1000000000, cdr := false })

/-- A lane goes to OFF. -/
def laneOff (s : State) (l : Nat) : State :=
  let was := inSpray s l
  laneLeft (modLane s l (fun x => { unlocked x with st := .off, since := s.now, cdr := false })) l 1 was

/-- REJOIN ends a slow verdict (R443). -/
def laneRejoin (s : State) (l : Nat) : State :=
  let was := inSpray s l
  let s1 := modLane s l (fun x => { x with slow := false })
  if !was && inSpray s1 l then event s1 0x4002 l 0 else s1

/-- A write of FAB_LANE_CFG_l (R417, R443). EN 0 returns FAILS to 0 (R139). -/
def laneCfgWrite (s : State) (l : Nat) (v : Word) : State :=
  let s1 := setReg s .fabLaneCfg [l] (v &&& 0xC0000000)
  let s2 := if tbit v 29 then laneRejoin s1 l else s1
  let st := (laneOf s2 l).st
  if tbit v 31 then (if st = .off then laneStart s2 l else s2)
  else modLane (if st = .off then s2 else laneOff s2 l) l (fun x => { x with fails := 0 })

/-- FAB_LANE_TRAINED. -/
def laneTrained (s : State) (l : Nat) : State :=
  if (laneOf s l).st = .train then modLane s l (fun x => { unlocked x with st := .delin, since := s.now, fromUp := false }) else s

/-- FAB_LANE_TRAIN_TIMEOUT: 2,000 ms in TRAIN. -/
def laneTrainTimeout (s : State) (l : Nat) : State :=
  let x := laneOf s l
  if x.st = .train ∧ x.since + 2000000000 ≤ s.now then laneFail s l else s

/-- FAB_LANE_DELIN_STABLE: FEC alignment and delineation have held for 10 ms. -/
def laneUp (s : State) (l : Nat) : State :=
  match (laneOf s l).st, (laneOf s l).goodAt with
  | .delin, some t =>
    if t + 10000000 ≤ s.now then
      let s1 := modLane s l (fun y => { y with st := .up, since := s.now, fails := 0, hbAt := s.now })
      if inSpray s1 l then event s1 0x4002 l 0 else s1
    else s
  | _, _ => s

/-- FAB_LANE_DELIN_TIMEOUT: 100 ms in DELIN. -/
def laneDelinTimeout (s : State) (l : Nat) : State :=
  let x := laneOf s l
  if x.st = .delin ∧ x.since + 100000000 ≤ s.now then (if x.fromUp then laneStart s l else laneFail s l) else s

/-- A lane takes on a new receive state; an UP lane without alignment or delineation goes to DELIN (Table 15.1). -/
def laneTakes (s : State) (l : Nat) (y : FabLane) : State :=
  let was := inSpray s l
  if y.st = .up ∧ !(y.fec && y.delin) then
    laneLeft (modLane s l (fun _ => { y with st := .delin, since := s.now, fromUp := true })) l 0 was
  else modLane s l (fun _ => y)

/-- FAB_LANE_LOSS: loss of CDR lock, or of FEC alignment alone. -/
def laneLoss (s : State) (l : Nat) (cdr : Bool) : State :=
  let x := laneOf s l
  if x.st = .up ∨ x.st = .delin then laneTakes s l { unlocked x with cdr := x.cdr && !cdr } else s

/-- FAB_LANE_HOLDOFF_END. -/
def laneHoldoffEnd (s : State) (l : Nat) (partner : Bool) : State :=
  let x := laneOf s l
  if x.st = .holdoff ∧ (partner ∨ x.deadline ≤ s.now) then laneStart s l else s

/-- Send a cell on a lane, whose FEC is that of a one-lane 200GbE port (R416). -/
def laneSend (s : State) (l : Nat) (c : FabOut) : State :=
  let o := { c with plane := l / 96 }
  let c := cellWire (devId s) o
  countLane (modLane s l (fun x => { x with last := some o, wire := c, code := cellSend (Config.pcsForm 0) x.code c })) l 0x00

/-! ## Messages -/

/-- Queue a control message to a device, on a given plane or on any. -/
def sendMsg (s : State) (d : Nat) (pl : Option Nat) (m : FabMsg) : State := modFab s (fun x => { x with ctrl := x.ctrl ++ [(d, pl, m)] })

/-- Queue a message on every plane that may carry traffic. -/
def sendAll (s : State) (d : Nat) (m : FabMsg) : State := (carryPlanes s).foldl (fun t pl => sendMsg t d (some pl) m) s

/-! ## Transmit streams (Table 15.5) -/

/-- Every pair of an enabled peer and a stream. -/
def peerStreams (s : State) : List (Nat × Nat) :=
  ((List.range 256).filter (peerEn s)).flatMap (fun d => [(d, 0), (d, 1)])

/-- UNSYNC streams enter SYNCING when EN is 1, the peer is enabled and some plane may carry traffic (R432); cells may leave once EN has been
1 with a plane out of DOWN (R453). -/
def fabStart (s0 : State) : State :=
  let s := modFab s0 (fun x => { x with begun := x.begun || fabEn s0 && [0, 1].any (fun pl => (planeOf s0 pl).st != .down) })
  if fabEn s && !(carryPlanes s).isEmpty then
    (peerStreams s).foldl (fun t x =>
      if (txOf t x.1 x.2).st = .unsync then modTx t x.1 x.2 (fun y => { y with st := .syncing, at' := t.now }) else t) s
  else s

/-- Unacknowledged cells are abandoned and leave the Firkin (R432): the number goes out beside the state. -/
def abandon (s : State) (d st : Nat) : Nat × State :=
  let n := (txOf s d st).cells.length
  (n, modFab (modTx (countFab s 0x10 n) d st (fun x => { x with cells := [], replay := [] })) (fun f => { f with stall := f.stall && n == 0 }))

/-- DATA word 4 of a stream event: the stream and a number of cells. -/
def strmWord (st n : Nat) : Word := mkF 31 31 st ||| mkF 17 0 (min (2 ^ 18 - 1) n)

/-- OPEN to UNREACHABLE (R432). -/
def unreach (s : State) (d st : Nat) : State :=
  let r := abandon s d st
  faultRise (modTx r.2 d st (fun x => { x with st := .unreachable, at' := s.now + 1000000 })) 0x10 4 d (strmWord st r.1) 0

/-- FAB_SYNC_TIMER: a SYNCING stream sends SYNC NEW on every usable plane, every 100 µs. -/
def syncTimer (s : State) (d st : Nat) : State :=
  let x := txOf s d st
  if x.st = .syncing ∧ x.at' ≤ s.now then
    modTx (sendAll s d (.sync st false x.seq)) d st (fun y => { y with at' := s.now + 100000 })
  else s

/-- FAB_UNREACH_TIMER. -/
def unreachTimer (s : State) (d st : Nat) : State :=
  let x := txOf s d st
  if x.st = .unreachable ∧ x.at' ≤ s.now then modTx s d st (fun y => { y with st := .syncing, at' := s.now }) else s

/-- Bytes that wait in a flow's VOQs, each pointer with 32 (R425, R434). -/
def flowWaiting (s : State) (f : Nat) : Nat :=
  ((s.bpm.q.entries.filter (fun e => decide (e.1 < egBase s) && flowOf s e.1 == f)).map (fun e =>
    qDepth e.2 + 32 * (e.2.on.length + (e.2.hbm.filter (fun r => !r.dead)).length))).sum

/-- The ingress side resets its flows to a device (R434). -/
def resetTxFlows (s : State) (d : Nat) : State :=
  forEach (List.range 512) (fun i t =>
    let f := d * 512 + i
    let w := flowWaiting t f
    if (t.fab.txf.find f).isSome || w != 0 then modTxf t f (fun _ => { req := w % 2 ^ 32, due := w != 0 }) else t) s

/-- FAB_MSG_SYNC_ACK (R432, R445). -/
def msgSyncAck (s : State) (d st : Nat) (probe : Bool) (seq pl : Nat) : State :=
  let x := txOf s d st
  if probe then
    if x.st = .open' ∧ x.planes.testBit (2 + pl) then
      modTx s d st (fun y => { y with planes := (y.planes ||| 2 ^ pl) &&& (15 - 2 ^ (2 + pl)) })
    else s
  else if x.st = .syncing ∧ seq = x.seq then
    let s1 := modTx s d st (fun y => { y with st := .open', prog := s.now, planes := 3 })
    if st = 0 then resetTxFlows s1 d else s1
  else s

/-- FAB_MSG_RESYNC (R432): event 0x400A. -/
def msgResync (s : State) (d st : Nat) : State :=
  if (txOf s d st).st = .open' then
    let r := abandon s d st
    event (modTx r.2 d st (fun x => { x with st := .syncing, at' := s.now })) 0x400A d (strmWord st r.1).toNat
  else s

/-! ## Replay (R439) -/

/-- Send cells of a stream again: PEND over their range on every plane that may carry traffic, then the cells in order. A cell
that has been sent REPLAY_LIMIT times makes the stream UNREACHABLE instead (R432). -/
def replayCells (s : State) (d st : Nat) (want : TxCell → Bool) : State :=
  let x := txOf s d st
  let cs := x.cells.filter (fun c => want c && !c.bad && !x.replay.contains c.seq)
  match cs.head?, cs.getLast? with
  | some a, some b =>
    if cs.any (fun c => decide (replayLimit s ≤ c.n)) then unreach s d st
    else modTx (sendAll s d (.pend st a.seq b.seq)) d st (fun y => { y with replay := y.replay ++ cs.map (fun c => c.seq) })
  | _, _ => s

/-- FAB_MSG_NAK (R439). -/
def msgNak (s : State) (d st fromSeq miss : Nat) : State :=
  replayCells s d st (fun c =>
    let i := (c.seq + 2 ^ 18 - fromSeq) % 2 ^ 18
    decide (i < 64) && miss.testBit i && decide (c.at' + 2 * nakNs s < s.now))

/-- FAB_ACK_TIMEOUT (R439): the 64 oldest unacknowledged cells. -/
def ackTimeout (s : State) (d st : Nat) : State :=
  let x := txOf s d st
  if x.st = .open' ∧ !x.cells.isEmpty ∧ x.prog + ackTmoNs s ≤ s.now then
    let old := (x.cells.take 64).map (fun c => c.seq)
    replayCells (modTx s d st (fun y => { y with prog := s.now })) d st (fun c => old.contains c.seq)
  else s

/-- FAB_MSG_ACK (R435): cumulative, or ignored and counted. -/
def msgAck (s : State) (d st seq : Nat) : State :=
  let x := txOf s d st
  if !peerEn s d then s
  else match x.cells.findIdx? (fun c => c.seq == seq) with
  | none => countFab s 0x80 1
  | some i =>
    let gone := (x.cells.take (i + 1)).map (fun c => c.seq)
    let s1 := modTx s d st (fun y => { y with cells := y.cells.drop (i + 1), replay := y.replay.filter (fun q => !gone.contains q), prog := s.now })
    modFab s1 (fun f => { f with stall := false })

/-! ## Plane states (R444 to R447) -/

/-- A plane has the conditions of the DOWN row of Table 15.6. -/
def planeMeets (s : State) (pl : Nat) : Bool :=
  decide (planeMin s ≤ (goodLanesOf s pl).length) && hbFresh s pl && decide ((planeOf s pl).hbSince + 10000000 ≤ s.now) &&
    !(planeOf s pl).host && domOn s (16 + pl)

/-- Send SYNC PROBE on a plane for each OPEN stream, whose use of the plane waits for the answer (R445). -/
def probeAll (s : State) (pl : Nat) : State :=
  (peerStreams s).foldl (fun t x =>
    let y := txOf t x.1 x.2
    if y.st = .open' then
      modTx (sendMsg t x.1 (some pl) (.sync x.2 true y.seq)) x.1 x.2 (fun z => { z with
        planes := (z.planes ||| 2 ^ (2 + pl)) &&& (15 - 2 ^ pl), probeAt := s.now + 1000000 })
    else t) s

/-- PLANE_FAIL falls when a plane works again. -/
def planeWorks (s : State) (pl : Nat) : State := if holds s 0x10 3 pl then faultFall s 0x10 3 pl else s

/-- FAB_PLANE_READY (R445, R447). -/
def planeReady (s : State) (pl : Nat) : State :=
  let p := planeOf s pl
  if !planeMeets s pl then s
  else if standbyMode s then
    if p.st = .down then
      let act := (planeOf s (1 - pl)).st != .active && pl == pref s
      planeWorks (fabStart (modPlane s pl (fun x => { x with st := if act then .active else .standby, since := s.now, failed := false, hbs := 0 }))) pl
    else if p.failed then planeWorks (fabStart (modPlane s pl (fun x => { x with failed := false, since := s.now }))) pl
    else s
  else if p.st = .down then probeAll (fabStart (modPlane s pl (fun x => { x with st := .probe, since := s.now, hbs := 0 }))) pl
  else s

/-- Streams whose probe on a plane has no answer yet. -/
def unprobed (s : State) (pl : Nat) : Nat :=
  ((peerStreams s).filter (fun x => (txOf s x.1 x.2).st == .open' && (txOf s x.1 x.2).planes.testBit (2 + pl))).length

/-- FAB_PROBE_DONE (R445). -/
def probeDone (s : State) (pl : Nat) : State :=
  let p := planeOf s pl
  if p.st = .probe ∧ (unprobed s pl = 0 ∨ p.since + 1000000 ≤ s.now) then
    let s1 := event (modPlane s pl (fun x => { x with st := .up, since := s.now })) 0x4004 pl (min 511 (unprobed s pl))
    fabStart (planeWorks s1 pl)
  else s

/-- FAB_REPROBE_TIMER (R445): a stream without an answer is probed again every 1 ms. -/
def reprobe (s : State) (d st : Nat) : State :=
  let x := txOf s d st
  if x.st = .open' ∧ x.probeAt ≤ s.now then
    let pls := [0, 1].filter (fun pl => x.planes.testBit (2 + pl) && (planeOf s pl).st == .up)
    if pls.isEmpty then s
    else modTx (pls.foldl (fun t pl => sendMsg t d (some pl) (.sync st true x.seq)) s) d st (fun y => { y with probeAt := s.now + 1000000 })
  else s

/-- A switch-over starts (R447): event 0x4005 with the plane that is to become ACTIVE. -/
def switchStart (s : State) (planned : Bool) : State :=
  match [0, 1].find? (fun pl => (planeOf s pl).st == .standby) with
  | some pl => event (modFab s (fun x => { x with sw := some (s.now + switchNs s, planned) })) 0x4005 pl planned.toNat
  | none => s

/-- A plane fails (R444, R447). Cause 0 heartbeat, 1 lanes below PLANE_MIN, 2 host. -/
def planeFail (s : State) (pl cause : Nat) : State :=
  let p := planeOf s pl
  let s1 := condRise (countFab s (if pl = 0 then 0x98 else 0xA0) 1) 0x10 3 pl (lo32 cause) 0
  if standbyMode s then
    if p.st = .active then
      if (planeOf s (1 - pl)).st = .standby then switchStart (modPlane s1 pl (fun x => { x with st := .down, since := s.now })) false
      else modPlane s1 pl (fun x => { x with failed := true, since := s.now })
    else modPlane s1 pl (fun x => { x with st := .down, since := s.now })
  else
    let s2 := modPlane s1 pl (fun x => { x with st := .down, since := s.now })
    (peerStreams s2).foldl (fun t x =>
      if x.2 = 0 ∧ (txOf t x.1 0).st = .open' then replayCells t x.1 0 (fun c => c.planes == 2 ^ pl) else t) s2

/-- A plane carries heartbeats and is judged: in PROBE, UP, STANDBY, or ACTIVE and not failed. -/
def planeJudged (s : State) (pl : Nat) : Bool := (planeOf s pl).st != .down && !(planeOf s pl).failed

/-- FAB_PLANE_FAIL (R444): heartbeats have stopped, or too few lanes. While SWITCHING no cell is sent, heartbeats among them, and neither
plane is judged for it. DEDUCED (log entry 68). -/
def planeCheck (s : State) (pl : Nat) : State :=
  if !planeJudged s pl || s.fab.sw.isSome then s
  else if !hbFresh s pl then planeFail s pl 0
  else if (goodLanesOf s pl).length < planeMin s then planeFail s pl 1
  else s

/-- FAB_CMD DOWN_A, DOWN_B (R444). -/
def planeHostDown (s : State) (pl : Nat) : State :=
  let s1 := modPlane s pl (fun x => { x with host := true })
  if planeJudged s pl then planeFail s1 pl 2 else s1

/-- FAB_CMD CLEAR_A, CLEAR_B. -/
def planeHostClear (s : State) (pl : Nat) : State := modPlane s pl (fun x => { x with host := false })

/-- FAB_CMD SWITCH (R447): no effect when the plane to switch to has failed. -/
def plannedSwitch (s : State) : State :=
  if standbyMode s && s.fab.sw.isNone && [0, 1].any (fun pl => (planeOf s pl).st == .active) then switchStart s true else s

/-- Every flow's totals are to be sent again. -/
def refreshTotals (s : State) : State :=
  modFab s (fun x => { x with
    txf := ⟨x.txf.entries.map (fun e => (e.1, { e.2 with due := true }))⟩
    rxf := ⟨x.rxf.entries.map (fun e => (e.1, { e.2 with due := true }))⟩ })

/-- FAB_SWITCH_END (R447): the former STANDBY plane becomes ACTIVE, and every unacknowledged cell is replayed on it. -/
def switchEnd (s : State) : State :=
  match s.fab.sw with
  | none => s
  | some (t, planned) =>
    if s.now < t then s
    else match [0, 1].find? (fun pl => (planeOf s pl).st == .standby) with
      | none => modFab s (fun x => { x with sw := none })
      | some pl =>
        let s1 := modFab s (fun x => { x with sw := none })
        let s2 := if planned then modPlane s1 (1 - pl) (fun x => { x with st := if x.st = .active then .standby else x.st, since := s.now }) else s1
        let s3 := fabStart (modPlane s2 pl (fun x => { x with st := .active, since := s.now, failed := false, lastHb := some s.now }))
        let s4 := (peerStreams s3).foldl (fun u x => if (txOf u x.1 x.2).st = .open' then replayCells u x.1 x.2 (fun _ => true) else u) s3
        let n := ((peerStreams s4).map (fun x => (txOf s4 x.1 x.2).replay.length)).sum
        event (refreshTotals (countFab s4 0x90 1)) 0x4006 pl (min (2 ^ 18 - 1) n)

/-- A PMODE change that has applied at a boundary (R447). -/
def pmodeApply (s : State) : State :=
  let m := if rf s .fabCfg [] 30 29 = 1 then 1 else 0
  if m = s.fab.pmode then s
  else
    let s1 := modFab s (fun x => { x with pmode := m, sw := none })
    fabStart <| if m = 1 then
      let a := pref s
      let s2 := modPlane s1 a (fun x => { x with st := .active, failed := x.st != .up, since := s.now })
      modPlane s2 (1 - a) (fun x => { x with st := if x.st = .down then .down else .standby, since := s.now })
    else
      [0, 1].foldl (fun t pl =>
        let p := planeOf t pl
        if p.st = .active then modPlane t pl (fun x => { x with st := if x.failed then .down else .up, failed := false, since := s.now })
        else if p.st = .standby then probeAll (modPlane t pl (fun x => { x with st := .probe, since := s.now })) pl
        else t) s1

/-! ## Heartbeats (R442, R443) -/

/-- FAB_HEARTBEAT_TIMER: an UP lane sends a HEARTBEAT to its own device every 10 µs. -/
def heartbeatTx (s : State) (l : Nat) : State :=
  let x := laneOf s l
  if x.st = .up ∧ x.hbAt ≤ s.now ∧ s.fab.sw.isNone then
    let c : FabOut := { kind := 1, ddev := devId s, plane := l / 96, msgs := [.heartbeat l (tbNs s % 2 ^ 32)] }
    laneSend (modLane s l (fun y => { y with hbAt := s.now + 10000 })) l c
  else s

/-- FAB_MSG_HEARTBEAT: a heartbeat returns and gives the lane it names a round trip. -/
def heartbeatRx (s : State) (l ns : Nat) : State :=
  let rtt := (tbNs s + 2 ^ 32 - ns % 2 ^ 32) % 2 ^ 32
  let pl := l / 96
  let s1 := modLane s l (fun x => { x with n := x.n + 1, sum := x.sum + rtt })
  modPlane s1 pl (fun p => { p with
    hbSince := if hbFresh s pl then p.hbSince else s.now
    lastHb := some s.now
    hbs := if p.st = .down then p.hbs else min 4096 (p.hbs + 1) })

/-- The slow-lane rule on a plane at a window end (R443). -/
def lagPlane (s : State) (pl : Nat) : State :=
  let minN := max 1 (rf s .fabLagCfg [] 15 0)
  let ratio := max 2 (rf s .fabLagCfg [] 27 24)
  let ls := (planeLanes pl).filter (fun l => (laneOf s l).st == .up && decide (minN ≤ (laneOf s l).n))
  let ms := ls.foldl (fun a l => meanInsert ((laneOf s l).sum, (laneOf s l).n) a) []
  let s1 := match ms[(ls.length + 1) / 2 - 1]? with
    | none => s
    | some med =>
      if !rb s .fabLagCfg [] 31 || decide ((planeOf s pl).hbs < 4096) then s
      else forEach ls (fun l t =>
        let x := laneOf t l
        if !x.slow && decide (ratio * med.1 * x.n < x.sum * med.2) then
          if rf t .fabLagCfg [] 23 16 ≤ ((planeLanes pl).filter (fun j => (laneOf t j).slow)).length then event t 0x400E l (min 0xFFFF (x.sum / x.n))
          else laneLeft (modLane t l (fun y => { y with slow := true })) l 2 true
        else t) s
  forEach (planeLanes pl) (fun l t => modLane t l (fun x => { x with
    mean := if x.n = 0 then 0 else min 0xFFFF (x.sum / x.n), n := 0, sum := 0 })) s1

/-- FAB_LAG_WINDOW (R443). -/
def fabLagWindow (s : State) : State :=
  let w := tbNs s / 1000000
  if w = s.fab.win then s else lagPlane (lagPlane (modFab s (fun x => { x with win := w })) 0) 1

/-! ## Flows and credits (R425 to R427) -/

/-- a − b as a signed 32-bit value. -/
def diff32 (a b : Nat) : Int := signedOf 32 (a + 2 ^ 32 - b % 2 ^ 32)

/-- Change an incoming flow. -/
def modRxf (s : State) (f : Nat) (g : RxFlow → RxFlow) : State := modFab s (fun x => { x with rxf := x.rxf.upd {} f g })

/-- FAB_MSG_REQ. -/
def msgReq (s : State) (d port cls total : Nat) : State :=
  if peerEn s d then modRxf s (d * 512 + port * 4 + cls) (fun f => { f with req := total }) else s

/-- The surplus of a flow whose VOQs are all empty is given up (R427). -/
def surplus (s : State) (f : Nat) : State :=
  let x := s.fab.txf.get {} f
  let d := diff32 x.cred x.used
  if flowWaiting s f = 0 ∧ 0 < d then countFab (modTxf s f (fun y => { y with used := y.cred })) 0x78 d.toNat else s

/-- FAB_MSG_CREDIT: the total, and the surplus of a flow without packets (R427). -/
def msgCredit (s : State) (d port cls total : Nat) : State :=
  let f := d * 512 + port * 4 + cls
  if peerEn s d then surplus (modTxf s f (fun f => { f with cred := total })) f else s

/-- FAB_REQ_REFRESH: every REFRESH_US. -/
def reqRefresh (s : State) : State :=
  if s.fab.refreshAt ≤ s.now then
    modFab (refreshTotals s) (fun x => { x with refreshAt := s.now + usNs (rf s .fabCreditCfg [] 15 0) })
  else s

/-- QUANTUM in bytes. -/
def quantumBytes (s : State) : Nat := max 1 (rf s .fabCreditCfg [] 25 16) * 256

/-- The egress depth of a port. -/
def portDepth (s : State) (p : Nat) : Nat := ((queuesOfPort s p).map (fun q => qDepth (qOf s q))).sum

/-- A credit generator runs (R426, R447). -/
def genRuns (s : State) (p : Nat) : Bool :=
  rb s .fabCrCfg [p] 31 && (schPort s p).st == .up && decide (portDepth s p < rf s .fabCrCfg [p] 25 0 * 1024) && s.fab.sw.isNone

/-- Tokens of a generator, in 1/512 B. -/
def genNow (s : State) (p : Nat) : Nat := s.fab.gen.get 0 p

/-- One nanosecond of the generators of ports that the scheduler knows: the port's rate × (1 + SPEEDUP / 64), up to one QUANTUM (R426). -/
def genTick (s : State) : State :=
  s.sch.port.entries.foldl (fun t e =>
    if genRuns t e.1 then
      let n := min (quantumBytes t * 512) (genNow t e.1 + portRate t e.1 * (64 + rf t .fabCreditCfg [] 31 26))
      modFab t (fun x => { x with gen := x.gen.set 0 e.1 n })
    else t) s

/-- Requesting flows of a port and class, by source device, ascending. -/
def requesting (s : State) (p cls : Nat) : List Nat :=
  (s.fab.rxf.entries.filter (fun e => e.1 % 512 == p * 4 + cls && decide (0 < diff32 e.2.req e.2.cred))).map (fun e => e.1 / 512)

/-- FAB_CREDIT_GRANT (R426). -/
def creditGrant (s : State) (p : Nat) : State :=
  let lvl := genNow s p
  let q := quantumBytes s
  let keep (t : State) (n : Nat) : State := modFab t (fun x => { x with gen := x.gen.set 0 p n })
  if genRuns s p && decide (q * 512 ≤ lvl) then
    match (List.range 4).find? (fun c => !(requesting s p c).isEmpty) with
    | none => keep s lvl
    | some c =>
      match rrNext (requesting s p c) (s.fab.rrSrc.get 0 (p * 4 + c)) with
      | none => keep s lvl
      | some d =>
        let f := d * 512 + p * 4 + c
        let x := s.fab.rxf.get {} f
        let dem := (diff32 x.req x.cred).toNat
        let add := min q ((dem + 255) / 256 * 256)
        let s1 := modRxf s f (fun y => { y with cred := (y.cred + add) % 2 ^ 32, due := true })
        keep (modFab s1 (fun y => { y with rrSrc := y.rrSrc.set 0 (p * 4 + c) (d + 1) })) (lvl - q * 512)
  else keep s lvl

/-! ## Transmit selection (R428, R429) -/

/-- A VOQ is eligible for the fabric. -/
def voqElig (s : State) (q : Nat) : Bool :=
  let f := flowOf s q
  let x := s.fab.txf.get {} f
  decide (q < egBase s) && !(qOf s q).on.isEmpty && nodeEn s 4 q && peakOk s 4 q && decide (0 < diff32 x.cred x.used) &&
    (txOf s (f / 512) 0).st == .open'

/-- Eligible VOQs, ascending. -/
def eligVoqs (s : State) : List Nat := s.bpm.q.keys.filter (voqElig s)

/-- The VOQ that the transmit scheduler selects: lowest FCLASS, round robin over flows, lowest PRIO, round robin over VOQs. -/
def voqPick (s : State) : Option Nat :=
  let qs := eligVoqs s
  match (List.range 4).find? (fun c => qs.any (fun q => flowOf s q % 4 == c)) with
  | none => none
  | some c =>
    let fs := ((qs.foldl (fun (m : SMap Unit) q => m.put (flowOf s q) (some ())) {}).keys).filter (fun f => f % 4 == c)
    (rrNext fs (s.fab.rrFlow.get 0 c)).bind (fun f =>
      rrNext (lowestPrio s 4 (qs.filter (fun q => flowOf s q == f))) (s.fab.rrVoq.get 0 f))

/-- The ticket a packet carries over the fabric (R428): EGQ for TYPE 0, 2, 4 and 5, and TWIN. -/
def fabTicket (s : State) (q : Nat) (x : Ptr) : Ticket :=
  let ty := tfld x.tkt 255 252
  let t := if ty = 0 ∨ ty = 2 ∨ ty = 4 ∨ ty = 5 then tset x.tkt 215 196 (rf s .fabVoqB [q] 19 0) else x.tkt
  let tw := tfld x.tkt 244 244 == 1 || (rf s .fabClassCfg [] 3 0).testBit (flowOf s q % 4)
  tsealed (tset t 244 244 tw.toNat)

/-- FAB_TX_SELECT (R428, R429, R392). -/
def txSelect (s : State) : State :=
  match voqPick s with
  | none => s
  | some q =>
    match (qOf s q).on with
    | [] => s
    | x :: _ =>
      let f := flowOf s q
      let turn (t : State) : State := modFab t (fun y => { y with rrFlow := y.rrFlow.set 0 (f % 4) (f + 1), rrVoq := y.rrVoq.set 0 f (q + 1) })
      if ptrBad s x then surplus (turn (ptrRelease (popPtr s q) x)) f
      else if tooOld s q x then surplus (turn (count (ptrRelease (popPtr s q) x) 0xE 0x20000)) f
      else
        let t := fabTicket s q x
        let st := tfld t 244 244
        let bytes := beBytes 32 t.toNat ++ ptrBytes s x
        let s1 := chargeNode s 4 q (chargeBytes x.len (rf s .schCfg [] 7 0))
        let s2 := modTxf s1 f (fun y => { y with used := (y.used + x.len + 32) % 2 ^ 32 })
        let s3 := modTx s2 (f / 512) st (fun y => { y with starts := y.starts ++ [y.out.length], out := y.out ++ bytes })
        surplus (turn (delaySample (ptrRelease (popPtr s3 q) x) q (s.now - x.at'))) f

/-! ## Cells (R429, R430, R435, R436) -/

/-- Cells in the Firkin. -/
def firkinUsed (s : State) : Nat := (s.fab.tx.entries.map (fun e => e.2.cells.length)).sum

/-- The acknowledgement that rides in a cell to a device: of a stream for which one is due (R435). -/
def rideAck (s : State) (d : Nat) : Option (Nat × Nat) × State :=
  match [0, 1].find? (fun st => (rxOf s d st).open' && (rxOf s d st).ackDue.isSome) with
  | none => (none, s)
  | some st => (some (st, ((rxOf s d st).next + 2 ^ 18 - 1) % 2 ^ 18), modRx s d st (fun x => { x with ackDue := none }))

/-- Deal a cell to the next lane over the union of the spray sets of some planes (R430): the lane. -/
def dealLane (s : State) (pls : List Nat) : Option (Nat × State) :=
  (rrNext (pls.flatMap (sprayOf s)) (s.fab.rr.get 0 0)).map (fun l => (l, modFab s (fun x => { x with rr := x.rr.set 0 0 (l + 1) })))

/-- Deal to the next lane of one plane's set. -/
def dealPlane (s : State) (pl : Nat) : Option (Nat × State) :=
  (rrNext (sprayOf s pl) (s.fab.rr.get 0 (1 + pl))).map (fun l => (l, modFab s (fun x => { x with rr := x.rr.set 0 (1 + pl) (l + 1) })))

/-- Messages of changed totals to device d, at most n (R425, R426); only while the bulk stream to it is OPEN (R434). -/
def dueMsgs (s : State) (d n : Nat) : List FabMsg × State :=
  if (txOf s d 0).st = .open' then
    let ts := ((s.fab.txf.entries.filter (fun e => e.1 / 512 == d && e.2.due)).map (fun e => e.1)).take n
    let rs := ((s.fab.rxf.entries.filter (fun e => e.1 / 512 == d && e.2.due)).map (fun e => e.1)).take (n - ts.length)
    let ms := ts.map (fun f => FabMsg.req (f % 512 / 4) (f % 4) (s.fab.txf.get {} f).req) ++
      rs.map (fun f => FabMsg.credit (f % 512 / 4) (f % 4) (s.fab.rxf.get {} f).cred)
    let s1 := ts.foldl (fun t f => modTxf t f (fun y => { y with due := false })) s
    (ms, rs.foldl (fun t f => modRxf t f (fun y => { y with due := false })) s1)
  else ([], s)

/-- The device that the next CTRL cell goes to, and its plane: the first message that waits, or a changed total. -/
def ctrlTarget (s : State) : Option (Nat × Option Nat) :=
  match s.fab.ctrl with
  | (d, pl, _) :: _ => some (d, pl)
  | [] =>
    match (s.fab.txf.entries.find? (fun e => e.2.due && (txOf s (e.1 / 512) 0).st == .open')).map (fun e => e.1 / 512) with
    | some d => some (d, none)
    | none => ((s.fab.rxf.entries.find? (fun e => e.2.due && (txOf s (e.1 / 512) 0).st == .open')).map (fun e => e.1 / 512)).map (fun d => (d, none))

/-- The lane of a CTRL cell. A message for a plane that may not carry traffic goes on that plane's good lanes when it belongs to a probe
(R445), and in STANDBY mode on the ACTIVE plane (R446). -/
def ctrlLane (s : State) : Option Nat → Option (Nat × State)
  | none => dealLane s (carryPlanes s)
  | some p => match dealPlane s p with
    | some r => some r
    | none => if standbyMode s then dealLane s (carryPlanes s) else ((goodLanesOf s p).head?).map (fun l => (l, s))

/-- Send a CTRL cell with up to 15 messages (R423). -/
def sendCtrl (s : State) (d : Nat) (pl : Option Nat) : State :=
  let mine (x : Nat × Option Nat × FabMsg) : Bool := x.1 == d && x.2.1 == pl
  let ms := ((s.fab.ctrl.filter mine).map (fun x => x.2.2)).take 15
  let rest := (s.fab.ctrl.filter mine).drop 15 ++ s.fab.ctrl.filter (fun x => !mine x)
  let s1 := modFab s (fun x => { x with ctrl := rest })
  let due := dueMsgs s1 d (15 - ms.length)
  let a := rideAck due.2 d
  let c : FabOut := { kind := 1, ddev := d, plane := 0, ack := a.1, msgs := ms ++ due.1 }
  match ctrlLane a.2 pl with | some (l, s2) => laneSend s2 l c | none => s1

/-- Planes that a stream may use now. -/
def strmPlanes (s : State) (d st : Nat) : List Nat :=
  (carryPlanes s).filter (fun pl => (txOf s d st).planes.testBit pl && !(sprayOf s pl).isEmpty)

/-- Send a DATA cell of a stream on given planes, one copy on each, or dealt over the union when bulk. -/
def sendData (s : State) (d st : Nat) (c : TxCell) (replay : Bool) (pls : List Nat) (both : Bool) : State :=
  let a := rideAck s d
  let o : FabOut := { kind := 0, ddev := d, stream := st, plane := 0, replay := replay, seq := c.seq, first := c.first, ack := a.1, payload := c.bytes }
  let lanes : List Nat × State :=
    if both then pls.foldl (fun (r : List Nat × State) pl => match dealPlane r.2 pl with | some (l, t) => (r.1 ++ [l], t) | none => r) ([], a.2)
    else match dealLane a.2 pls with | some (l, t) => ([l], t) | none => ([], a.2)
  if lanes.1.isEmpty then s
  else
    let mask := (if lanes.1.any (fun l => decide (l < 96)) then 1 else 0) + (if lanes.1.any (fun l => decide (96 ≤ l)) then 2 else 0)
    let s1 := lanes.1.foldl (fun t l => countFab (laneSend t l o) 0x00 1) lanes.2
    let s2 := if replay then countFab s1 0x08 1 else s1
    modTx s2 d st (fun x => { x with
      cells := x.cells.map (fun y => if y.seq = c.seq then { y with planes := mask, at' := s.now, n := y.n + 1 } else y)
      replay := if replay then x.replay.erase c.seq else x.replay })

/-- The plane on which a cell is replayed: the other one when it may carry traffic, else the same (R439). -/
def replayPlane (s : State) (d st : Nat) (c : TxCell) : List Nat :=
  let ok := strmPlanes s d st
  let other := ok.filter (fun pl => !c.planes.testBit pl)
  if other.isEmpty then ok.take 1 else other.take 1

/-- A stream whose next cell may be sent now: a replayed cell, or a new one (R432, R436). -/
def strmReady (s : State) (d st : Nat) (new : Bool) : Bool :=
  let x := txOf s d st
  x.st == .open' && !(strmPlanes s d st).isEmpty &&
    (if new then !x.out.isEmpty && decide (x.cells.length < 65536) else !x.replay.isEmpty)

/-- Streams that may send, in round robin after the one served last. -/
def strmNext (s : State) (new : Bool) : Option (Nat × Nat) :=
  (rrNext ((s.fab.tx.keys).filter (fun k => peerEn s (k / 2) && strmReady s (k / 2) (k % 2) new)) s.fab.rrStrm).map (fun k => (k / 2, k % 2))

/-- Cut the next cell of a stream: up to 240 bytes, FIRST the first ticket that starts in it (R429). -/
def cutCell (x : TxStream) : TxCell × TxStream :=
  let bytes := x.out.take 240
  let c : TxCell := { seq := x.seq, bytes := bytes, first := x.starts.find? (fun o => decide (o < 240)) }
  (c, { x with out := x.out.drop 240, starts := (x.starts.filter (fun o => decide (240 ≤ o))).map (fun o => o - 240),
               seq := (x.seq + 1) % 2 ^ 18, cells := x.cells ++ [c], prog := x.prog })

/-- Send a new DATA cell of a stream; while the Firkin is full none is sent, and the stall is reported once (R436). -/
def sendNewCell (s : State) (d st : Nat) : State :=
  if 131072 ≤ firkinUsed s then
    if s.fab.stall then s else event (modFab s (fun x => { x with stall := true })) 0x4009 0 0
  else
    let x := txOf s d st
    let r := cutCell x
    let s1 := modTx s d st (fun _ => if x.cells.isEmpty then { r.2 with prog := s.now } else r.2)
    let s2 := sendData s1 d st r.1 false (strmPlanes s d st) (st == 1)
    maxRF (modFab s2 (fun y => { y with rrStrm := d * 2 + st + 1 })) .fabFirkinMax [] 17 0 (firkinUsed s2)

/-- An IDLE cell fills a lane that has nothing to send (R420). It goes to the first peer that an acknowledgement is due to, else to the
device itself: DESIGN CHOICE (log entry 68). -/
def sendIdle (s : State) : State :=
  let d := ((peerStreams s).find? (fun x => (rxOf s x.1 x.2).open' && (rxOf s x.1 x.2).ackDue.isSome)).elim (devId s) (fun x => x.1)
  match dealLane s (carryPlanes s) with
  | some (l, s1) => let a := rideAck s1 d; laneSend a.2 l { kind := 2, ddev := d, plane := 0, ack := a.1 }
  | none => s

/-- FAB_CELL_TX (R430): control messages first, then replays, then new cells, each in the order of log entry 68, and IDLE when there is
nothing to send. -/
def cellTx (s : State) : State :=
  if s.fab.sw.isSome then s
  else if !s.fab.begun then sendIdle s
  else match ctrlTarget s with
    | some (d, pl) => sendCtrl s d pl
    | none =>
      match strmNext s false with
      | some (d, st) =>
        match (txOf s d st).replay with
        | [] => s
        | q :: _ =>
          match (txOf s d st).cells.find? (fun c => c.seq == q) with
          | some c => sendData (modFab s (fun y => { y with rrStrm := d * 2 + st + 1 })) d st c true (replayPlane s d st c) false
          | none => modTx s d st (fun x => { x with replay := x.replay.drop 1 })
      | none => match strmNext s true with
        | some (d, st) => sendNewCell s d st
        | none => sendIdle s

/-! ## Reassembly (R437) -/

/-- The admission unit of a packet from device d: of its egress queue's port group, or SDEV mod 16 for multicast. -/
def egUnit (s : State) (d : Nat) (t : Ticket) : Nat :=
  16 + (if tfld t 255 252 = 1 then d % 16 else portOfQ s (tfld t 215 196) / 8)

/-- The bytes that a stream has released are made into packets. `tail` bytes of the buffer are those from the FIRST offset of the newest cell
on: a bad ticket that starts before them drops the bytes up to there, another all of them up to the FIRST of a later cell. -/
def reassemble (d st tail : Nat) : Nat → State → State
  | 0, s => s
  | fuel + 1, s =>
    let x := rxOf s d st
    if x.buf.length < 32 then s
    else
      let t : Ticket := BitVec.ofNat 256 (beNat (x.buf.take 32))
      let len := tfld t 241 228
      if x.cur.isNone && !ticketGood t then
        let s1 := countFab s 0x60 1
        if tail < x.buf.length ∧ 0 < tail then reassemble d st tail fuel (modRx s1 d st (fun y => { y with buf := y.buf.drop (y.buf.length - tail) }))
        else modRx s1 d st (fun y => { y with buf := [], skip := true })
      else
        let s1 := match x.cur with
          | some _ => s
          | none => match bufAlloc s (poolFor len) false [] with
            | some (k, g, s') => modRx s' d st (fun y => { y with cur := some (some (k, g)) })
            | none => modRx (allocFail s (poolFor len)) d st (fun y => { y with cur := some none })
        if x.buf.length < 32 + len then s1
        else
          let pkt := (x.buf.drop 32).take len
          let s2 := modRx s1 d st (fun y => { y with buf := x.buf.drop (32 + len), cur := none })
          let s3 := match (rxOf s1 d st).cur with
            | some (some (k, g)) => unitPush (modBuf s2 k (fun b => { b with pkt := pkt })) (egUnit s2 d t) (.eg t k g)
            | _ => countFab s2 0x68 1
          reassemble d st tail fuel s3

/-- A released cell passes to reassembly. -/
def cellRelease (s : State) (d st : Nat) (c : List Byte × Option Nat) : State :=
  let s1 := countFab (modRx s d st (fun x =>
    { x with next := (x.next + 1) % 2 ^ 18, ackDue := some (x.ackDue.getD s.now) })) 0x18 1
  let s2 := if (rxOf s d st).skip then
      match c.2 with
      | some o => modRx s1 d st (fun x => { x with skip := false, buf := c.1.drop o })
      | none => s1
    else modRx s1 d st (fun x => { x with buf := x.buf ++ c.1 })
  reassemble d st (match c.2 with | some o => c.1.length - o | none => 0) 16 s2

/-- Release held cells that follow in order; markers that NEXT has passed are no longer outstanding (R437, R440). -/
def releaseHeld (d st : Nat) : Nat → State → State
  | 0, s => s
  | fuel + 1, s =>
    let x := rxOf s d st
    match x.held.find x.next with
    | some c => releaseHeld d st fuel (cellRelease (modRx s d st (fun y => { y with held := y.held.put x.next none })) d st c)
    | none => modRx s d st (fun y => { y with
        gapAt := if y.held.entries.isEmpty then none else y.gapAt
        markers := y.markers.filter (fun m => decide ((m.1 + 2 ^ 18 - y.next) % 2 ^ 18 < 131072)) })

/-- Cells in the reorder store. -/
def heldTotal (s : State) : Nat := (s.fab.rx.entries.map (fun e => e.2.held.entries.length)).sum

/-- A DATA cell of an OPEN stream (R437). -/
def dataCell (s : State) (d st seq : Nat) (c : List Byte × Option Nat) : State :=
  let x := rxOf s d st
  let ahead := (seq + 2 ^ 18 - x.next) % 2 ^ 18
  if 131072 ≤ ahead ∨ (x.held.find seq).isSome then countFab s 0x20 1
  else if ahead = 0 then releaseHeld d st 32769 (cellRelease s d st c)
  else if 32768 ≤ heldTotal s then countFab s 0x40 1
  else modRx s d st (fun y => { y with
    held := y.held.put seq (some c)
    gapAt := match y.gapAt with | some t => some t | none => some s.now
    nakAt := match y.gapAt with | some _ => y.nakAt | none => s.now + nakNs s })

/-- A receive stream that is UNSYNC answers RESYNC at most once per 10 µs (R433). -/
def answerResync (s : State) (d st : Nat) : State :=
  if (rxOf s d st).resyncAt ≤ s.now then modRx (sendMsg s d none (.resync st)) d st (fun x => { x with resyncAt := s.now + 10000 }) else s

/-- The partial packet of a stream is given up. -/
def dropPartial (s : State) (d st : Nat) : State :=
  let s1 := match (rxOf s d st).cur with | some (some (k, g)) => bufDec s k g | _ => s
  modRx s1 d st (fun x => { x with buf := [], cur := none, skip := true })

/-- FAB_MSG_SYNC (R433, R434). -/
def msgSync (s : State) (d st : Nat) (probe : Bool) (seq pl : Nat) : State :=
  if !peerEn s d then s
  else
    let x := rxOf s d st
    if probe then
      if x.open' && decide ((seq + 2 ^ 18 - x.next) % 2 ^ 18 < 131072) then sendMsg s d (some pl) (.syncAck st true seq)
      else sendMsg s d none (.resync st)
    else
      let s1 := modRx (dropPartial s d st) d st (fun y => { y with open' := true, next := seq, held := {}, gapAt := none, markers := [], ackDue := none })
      let s2 := if st = 0 then modFab s1 (fun f => { f with rxf := f.rxf.filter (fun k _ => k / 512 != d) }) else s1
      sendMsg s2 d none (.syncAck st false seq)

/-- FAB_MSG_PEND (R440): a marker, outstanding unless NEXT has passed its SEQ2 already. -/
def msgPend (s : State) (d st b : Nat) : State :=
  if (rxOf s d st).open' ∧ (b + 2 ^ 18 - (rxOf s d st).next) % 2 ^ 18 < 131072 then modRx s d st (fun x => { x with markers := x.markers ++ [(b, s.now)] }) else s

/-- A control message from device d that arrives on plane pl (R423). -/
def msgRx (s : State) (d pl : Nat) : FabMsg → State
  | .req port cls total => msgReq s d port cls total
  | .credit port cls total => msgCredit s d port cls total
  | .ack st q => msgAck s d st q
  | .nak st q miss => msgNak s d st q miss
  | .pend st _ b => msgPend s d st b
  | .sync st probe q => msgSync s d st probe q pl
  | .syncAck st probe q => msgSyncAck s d st probe q pl
  | .resync st => msgResync s d st
  | .heartbeat lane ns => if d = devId s ∧ lane < 192 then heartbeatRx s lane ns else s

/-- A whole cell received on lane l (R420, R423, R431, R433, R437). -/
def cellIn (s : State) (l : Nat) (c : List Byte) : State :=
  let h := cellHead c
  let d := bitsOf h 117 110
  let st := bitsOf h 109 109
  let s1 := countLane s l 0x08
  if !headGood c || bitsOf h 127 126 == 3 then countFab (countLane s1 l 0x10) 0x28 1
  else if !bodyGood c then countFab s1 0x30 1
  else if bitsOf h 125 118 ≠ devId s then countFab s1 0x28 1
  else
    let s2 := if bitsOf h 72 72 = 1 then msgAck s1 d (bitsOf h 71 71) (bitsOf h 70 53) else s1
    if bitsOf h 127 126 = 1 then (cellMsgs c).foldl (fun t m => msgRx t d (l / 96) m) s2
    else if bitsOf h 127 126 ≠ 0 ∨ !peerEn s d then s2
    else if (rxOf s2 d st).open' then
      dataCell s2 d st (bitsOf h 106 89) ((c.drop 16).take (min 240 (bitsOf h 88 81)),
        if bitsOf h 80 73 = 0xFF then none else some (bitsOf h 80 73))
    else answerResync (countFab s2 0x38 1) d st

/-- FAB_CELL_RX (R417, R421): a lane in DELIN or UP hears 8 blocks; the cells of an UP lane are received. -/
def cellRx (s : State) (l : Nat) (c : FabCell) : State :=
  let x := laneOf s l
  if x.st = .up ∨ x.st = .delin then
    let h := laneHear x s.now c.bytes
    let s1 := laneTakes (bumpN s (cOff 0x10 (0x40000 + l * 0x20 + 0x18)) c.uncorr) l h.1
    match h.2 with
    | some b => if x.st = .up then cellIn s1 l b else s1
    | none => s1
  else s

/-- FAB_MARKER_EXPIRE (R440). -/
def markerExpire (s : State) (d st : Nat) : State :=
  modRx s d st (fun x => { x with markers := x.markers.filter (fun m => decide (s.now < m.2 + markerNs s)) })

/-- FAB_ACK_TIMER (R435). -/
def ackTimer (s : State) (d st : Nat) : State :=
  let x := rxOf s d st
  match x.ackDue with
  | some t =>
    if x.open' && decide (t + ackNs s ≤ s.now) then
      modRx (sendMsg s d none (.ack st ((x.next + 2 ^ 18 - 1) % 2 ^ 18))) d st (fun y => { y with ackDue := none })
    else s
  | none => s

/-- The MISS bitmap of a NAK: cells from NEXT that are missing below the highest SEQ held (R438). -/
def missMap (x : RxStream) : Nat :=
  let top := (x.held.keys.map (fun k => (k + 2 ^ 18 - x.next) % 2 ^ 18)).foldl max 0
  ((List.range 64).filter (fun i => decide (i < top) && (x.held.find ((x.next + i) % 2 ^ 18)).isNone)).foldl (fun m i => m + 2 ^ i) 0

/-- FAB_NAK_TIMER (R438). -/
def nakTimer (s : State) (d st : Nat) : State :=
  let x := rxOf s d st
  if x.open' && x.gapAt.isSome && decide (x.nakAt ≤ s.now) then
    countFab (modRx (sendMsg s d none (.nak st x.next (missMap x))) d st (fun y => { y with nakAt := s.now + nakNs s })) 0x70 1
  else s

/-- The effective reorder timeout, ns (R441). -/
def roTimeout (s : State) : Nat :=
  let t := max 1 (rf s .fabRxTmr [] 31 24)
  (if standbyMode s then max t (min 40 (rf s .fabTxTmr [] 5 0) + 10) else max t (max 1 (rf s .fabTxTmr [] 19 16) + 4)) * 1000

/-- The held cell nearest after NEXT: its distance. -/
def firstHeld (x : RxStream) : Option Nat :=
  (x.held.keys.map (fun k => (k + 2 ^ 18 - x.next) % 2 ^ 18)).foldl (fun b n => match b with | none => some n | some m => some (min m n)) none

/-- FAB_REORDER_TIMEOUT (R441): a skip, when no marker is outstanding. -/
def reorderTimeout (s : State) (d st : Nat) : State :=
  let x := rxOf s d st
  match x.gapAt, firstHeld x with
  | some t, some n =>
    if x.open' && decide (t + roTimeout s ≤ s.now) && x.markers.all (fun m => decide (m.2 + markerNs s ≤ s.now)) then
      let s1 := countFab (countFab (countFab s 0x48 1) 0x50 n) 0x58 1
      let s2 := modRx (dropPartial s1 d st) d st (fun y => { y with next := (y.next + n) % 2 ^ 18, gapAt := some s.now })
      releaseHeld d st 32769 (faultRise s2 0x10 5 d (strmWord st n) 0)
    else s
  | _, _ => s

/-! ## Configuration and reset -/

/-- A write of FAB_PEER_EN_i (R431, R432). -/
def peerEnWrite (s : State) (i : Nat) (v : Word) : State :=
  let old := regRaw s .fabPeerEn [i]
  let s1 := setReg s .fabPeerEn [i] v
  let off := (List.range 32).filter (fun j => tbit old j && !tbit v j)
  let s2 := off.foldl (fun t j =>
    [0, 1].foldl (fun u st =>
      let d := 32 * i + j
      let r := if (txOf u d st).st = .open' then (abandon u d st).2 else u
      modRx (dropPartial (modTx r d st (fun x => { x with st := .unsync, cells := [], replay := [], out := [], starts := [] })) d st) d st (fun _ => {})) t) s1
  fabStart s2

/-- A write of FAB_CFG (Table 15.9): EN and DEV_ID at once, DEV_ID not while EN is 1; PMODE and PREF are staged. -/
def fabCfgWrite (s : State) (v : Word) : State :=
  let en := fabEn s
  let s1 := setRB s .fabCfg [] 31 (tbit v 31)
  let s2 := if en then s1 else setRF s1 .fabCfg [] 7 0 (fld v 7 0)
  let s3 := if s2.fur.direct then setRF s2 .fabCfg [] 30 28 (fld v 30 28)
            else stage s2 .fabCfg [] (setFld (openOr s .fabCfg []) 30 28 (fld v 30 28))
  fabStart s3

/-- The fabric interface as after RESET_N (R453); the twin groups stay. -/
def fabReset (s : State) : State :=
  let held := s.fab.rx.entries.filterMap (fun e => match e.2.cur with | some (some x) => some x | _ => none)
  let s1 := held.foldl (fun t x => bufDec t x.1 x.2) s
  modFab s1 (fun f => { twin := f.twin, pmode := if rf s .fabCfg [] 30 29 = 1 then 1 else 0 })

/-! ## Commands -/

/-- FAB_TX_SELECT (R428). -/
def execFabTxSelect (s : State) : Res := ok (if blkOn s 0x10 then txSelect s else s)
/-- FAB_LANE_TRAINED (R417). -/
def execFabLaneTrained (l : Fin 192) (s : State) : Res := ok (if laneOn s l.val && fwRuns s then laneTrained s l.val else s)
/-- FAB_LANE_TRAIN_TIMEOUT (R417). -/
def execFabLaneTrainTimeout (l : Fin 192) (s : State) : Res := ok (if laneOn s l.val then laneTrainTimeout s l.val else s)
/-- FAB_LANE_DELIN_STABLE (R417). -/
def execFabLaneDelinStable (l : Fin 192) (s : State) : Res := ok (if laneOn s l.val then laneUp s l.val else s)
/-- FAB_LANE_DELIN_TIMEOUT (R417). -/
def execFabLaneDelinTimeout (l : Fin 192) (s : State) : Res := ok (if laneOn s l.val then laneDelinTimeout s l.val else s)
/-- FAB_LANE_LOSS (R417, R418). -/
def execFabLaneLoss (l : Fin 192) (cdr : Bool) (s : State) : Res := ok (if laneOn s l.val then laneLoss s l.val cdr else s)
/-- FAB_LANE_HOLDOFF_END (R417). -/
def execFabLaneHoldoffEnd (l : Fin 192) (partner : Bool) (s : State) : Res := ok (if laneOn s l.val then laneHoldoffEnd s l.val partner else s)
/-- FAB_CELL_TX (R430). -/
def execFabCellTx (s : State) : Res := ok (if blkOn s 0x10 then cellTx s else s)
/-- FAB_CELL_RX (R437). -/
def execFabCellRx (l : Fin 192) (c : FabCell) (s : State) : Res := ok (if laneOn s l.val then cellRx s l.val c else s)
/-- FAB_MSG_REQ (R425). -/
def execFabMsgReq (d : Fin 256) (port : Fin 128) (cls : Fin 4) (total : Word) (s : State) : Res :=
  ok (if blkOn s 0x10 then msgReq s d.val port.val cls.val total.toNat else s)
/-- FAB_MSG_CREDIT (R426). -/
def execFabMsgCredit (d : Fin 256) (port : Fin 128) (cls : Fin 4) (total : Word) (s : State) : Res :=
  ok (if blkOn s 0x10 then msgCredit s d.val port.val cls.val total.toNat else s)
/-- FAB_MSG_ACK (R435). -/
def execFabMsgAck (d : Fin 256) (st : Fin 2) (seq : BitVec 18) (s : State) : Res :=
  ok (if blkOn s 0x10 then msgAck s d.val st.val seq.toNat else s)
/-- FAB_MSG_NAK (R439). -/
def execFabMsgNak (d : Fin 256) (st : Fin 2) (seq : BitVec 18) (miss : BitVec 64) (s : State) : Res :=
  ok (if blkOn s 0x10 then msgNak s d.val st.val seq.toNat miss.toNat else s)
/-- FAB_MSG_PEND (R440). -/
def execFabMsgPend (d : Fin 256) (st : Fin 2) (_seq seq2 : BitVec 18) (s : State) : Res :=
  ok (if blkOn s 0x10 then msgPend s d.val st.val seq2.toNat else s)
/-- FAB_MSG_SYNC (R433). -/
def execFabMsgSync (d : Fin 256) (st : Fin 2) (probe : Bool) (seq : BitVec 18) (pl : Fin 2) (s : State) : Res :=
  ok (if blkOn s 0x10 then msgSync s d.val st.val probe seq.toNat pl.val else s)
/-- FAB_MSG_SYNC_ACK (R432, R445). -/
def execFabMsgSyncAck (d : Fin 256) (st : Fin 2) (probe : Bool) (seq : BitVec 18) (pl : Fin 2) (s : State) : Res :=
  ok (if blkOn s 0x10 then msgSyncAck s d.val st.val probe seq.toNat pl.val else s)
/-- FAB_MSG_RESYNC (R432). -/
def execFabMsgResync (d : Fin 256) (st : Fin 2) (s : State) : Res := ok (if blkOn s 0x10 then msgResync s d.val st.val else s)
/-- FAB_MSG_HEARTBEAT (R442). -/
def execFabMsgHeartbeat (l : Fin 192) (ns : Word) (s : State) : Res := ok (if blkOn s 0x10 then heartbeatRx s l.val ns.toNat else s)
/-- FAB_REQ_REFRESH (R425, R426). -/
def execFabReqRefresh (s : State) : Res := ok (if blkOn s 0x10 then reqRefresh s else s)
/-- FAB_CREDIT_GRANT (R426). -/
def execFabCreditGrant (p : Fin 128) (s : State) : Res := ok (if blkOn s 0x10 then creditGrant s p.val else s)
/-- FAB_ACK_TIMER (R435). -/
def execFabAckTimer (d : Fin 256) (st : Fin 2) (s : State) : Res := ok (if blkOn s 0x10 then ackTimer s d.val st.val else s)
/-- FAB_NAK_TIMER (R438). -/
def execFabNakTimer (d : Fin 256) (st : Fin 2) (s : State) : Res := ok (if blkOn s 0x10 then nakTimer s d.val st.val else s)
/-- FAB_ACK_TIMEOUT (R439). -/
def execFabAckTimeout (d : Fin 256) (st : Fin 2) (s : State) : Res := ok (if blkOn s 0x10 then ackTimeout s d.val st.val else s)
/-- FAB_REORDER_TIMEOUT (R441). -/
def execFabReorderTimeout (d : Fin 256) (st : Fin 2) (s : State) : Res := ok (if blkOn s 0x10 then reorderTimeout s d.val st.val else s)
/-- FAB_MARKER_EXPIRE (R440). -/
def execFabMarkerExpire (d : Fin 256) (st : Fin 2) (s : State) : Res := ok (if blkOn s 0x10 then markerExpire s d.val st.val else s)
/-- FAB_SYNC_TIMER (R432). -/
def execFabSyncTimer (d : Fin 256) (st : Fin 2) (s : State) : Res := ok (if blkOn s 0x10 then syncTimer s d.val st.val else s)
/-- FAB_UNREACH_TIMER (R432). -/
def execFabUnreachTimer (d : Fin 256) (st : Fin 2) (s : State) : Res := ok (if blkOn s 0x10 then unreachTimer s d.val st.val else s)
/-- FAB_HEARTBEAT_TIMER (R442). -/
def execFabHeartbeatTimer (l : Fin 192) (s : State) : Res := ok (if laneOn s l.val then heartbeatTx s l.val else s)
/-- FAB_LAG_WINDOW (R443). -/
def execFabLagWindow (s : State) : Res := ok (if blkOn s 0x10 then fabLagWindow s else s)
/-- FAB_PLANE_FAIL (R444). -/
def execFabPlaneFail (pl : Fin 2) (s : State) : Res := ok (if blkOn s 0x10 then planeCheck s pl.val else s)
/-- FAB_PLANE_READY (R445). -/
def execFabPlaneReady (pl : Fin 2) (s : State) : Res := ok (if blkOn s 0x10 then planeReady s pl.val else s)
/-- FAB_PROBE_DONE (R445). -/
def execFabProbeDone (pl : Fin 2) (s : State) : Res := ok (if blkOn s 0x10 then probeDone s pl.val else s)
/-- FAB_REPROBE_TIMER (R445). -/
def execFabReprobeTimer (d : Fin 256) (st : Fin 2) (s : State) : Res := ok (if blkOn s 0x10 then reprobe s d.val st.val else s)
/-- FAB_SWITCH_END (R447). -/
def execFabSwitchEnd (s : State) : Res := ok (if blkOn s 0x10 then switchEnd s else s)

end Sys2Proof.Machine
end

