-- ==== Sys2Proof/Machine/Commit.lean ====
section
/-! DEFINITION. The commit protocol of the furlong controller: boundaries to come, sealing, arming, cancelling (R37 to R50,
R559). What a set does when it applies is in Machine/Boundary.lean. -/

namespace Sys2Proof.Machine

/-- Change the furlong controller. -/
def modFur (s : State) (f : FurSt → FurSt) : State := { s with fur := f s.fur }

/-- The period 2^K in ns; K is kept within 10 to 24 where it is staged (R37). -/
def furPeriod (s : State) : Nat := 2 ^ clamp 10 24 (rf s .devFurlongCfg [] 4 0)

/-- The first whole multiple of `p` after `t`. -/
def nextMultiple (p t : Nat) : Nat := (t / p + 1) * p

/-- Set a flag of DEV_FURLONG_STATUS. -/
def furFlag (s : State) (bit : Nat) : State := setRB s .devFurlongStatus [] bit true

/-! ## Boundaries to come -/

/-- A boundary to come: ns until it, and the time-base times it passes: before it, and at it. -/
structure Coming where
  /-- ns from now. -/
  wait : Nat
  /-- Its time, or the time a step moves to. -/
  time : Nat
deriving DecidableEq, Repr

/-- The time a STEP or SET_NOW that has been taken moves to, from the time and TIME_VALID at its instant (Table 14.1). -/
def stepTo (valid : Bool) (c : TbCmd) (before : Nat) : Option Nat :=
  if c.op = 4 then some c.set
  else if c.op = 1 ∧ valid then
    let t : Int := (before : Int) + c.ofs / 65536
    if 0 ≤ t ∧ t < 2 ^ 64 then some t.toNat else none
  else none

/-- `n` boundaries of period `p` from `b`, when the time now is `t`. -/
def comingEvery (p b t : Nat) : Nat → List Coming
  | 0 => []
  | n + 1 => { wait := b - t, time := b } :: comingEvery p (b + p) t n

/-- The boundaries from `w` ns ahead on, when the time is then `t`, the next boundary `b` and TIME_VALID `v`, counting those that the
waiting commands will generate (R39, R559). -/
def comingCmds (now p : Nat) : List TbCmd → (b t w : Nat) → Bool → List Coming
  | [], b, t, w, _ => (comingEvery p b t 8).map (fun x => { x with wait := x.wait + w })
  | c :: rest, b, t, w, v =>
    let d := c.at'.getD 0 - now - w
    match stepTo v c (t + d) with
    | none => comingCmds now p rest b t w v
    | some to' =>
      let before := (comingEvery p b t 8).filter (fun x => decide (x.wait < d))
      let hop : List Coming := if b + before.length * p ≤ to' then [{ wait := w + d, time := to' }] else []
      before.map (fun x => { x with wait := x.wait + w }) ++ hop ++ comingCmds now p rest (nextMultiple p to') to' (w + d) true

/-- The next boundaries, counting those that a STEP or SET_NOW already executed will generate (R39, R559). -/
def coming (s : State) : List Coming :=
  comingCmds s.now (furPeriod s) (s.tgt.cmds.filter (fun c => c.at'.isSome && (c.op == 1 || c.op == 4))) s.fur.nextB (tbNs s) 0 s.tgt.valid

/-! ## Sealing -/

/-- A set is sealed or sealing. -/
def furBusy (s : State) : Bool := s.fur.pend || s.fur.sealing.isSome

/-- Move the open values into the sealed set and start its sealing; `at'` is the time of a scheduled set (R41, R44, R49). -/
def sealOpen (s : State) (at' : Option Nat) : State :=
  modFur s (fun f => { f with sealing := some at', sld := f.opn, opn := {}, lostSld := f.lostOpn, lostOpn := [], byApply := false,
                              byFail := false })

/-- Seal a set of values that firmware gives, leaving the open values open (R121, R194). -/
def sealValues (s : State) (vals : SMap Word) (at' : Option Nat) (apply fail : Bool) : State :=
  modFur s (fun f => { f with sealing := some at', sld := vals, lostSld := [], byApply := apply, byFail := fail })

/-- Drop the sealed set. -/
def dropSealed (s : State) : State :=
  modFur s (fun f => { f with sealing := none, pend := false, armed := false, sched := none, armB := 0, moved := false, sld := {},
                              lostSld := [], byApply := false, byFail := false })

/-- Sealing completes (R41, R42, R47): TARGET is fixed, or a scheduled set that is late is discarded. -/
def sealDone (s : State) : State :=
  match s.fur.sealing with
  | none => s
  | some none =>
    let near := ((coming s).filter (fun x => decide (x.wait < 512))).length
    modFur s (fun f => { f with sealing := none, pend := true, target := f.seq + near + 1 })
  | some (some t) =>
    if tbNs s + 512 ≤ t then modFur s (fun f => { f with sealing := none, pend := true, sched := some t })
    else event2 (furFlag (dropSealed s) 29) 0x0021 0 (t % 2 ^ 32) (t / 2 ^ 32)

/-- DEV_FURLONG_AT. -/
def furlongAt (s : State) : Nat := (regRaw s .devFurlongAtHi []).toNat * 2 ^ 32 + (regRaw s .devFurlongAtLo []).toNat

/-- GO of DEV_FURLONG_COMMIT; the answer is the status: 0 OK, 1 busy (R41, R45, R47, R50). -/
def furGo (s : State) (sched : Bool) : State × Bool :=
  if s.fur.direct then (s, false)
  else if furBusy s then (furFlag s 26, true)
  else if sched then
    if furlongAt s % furPeriod s = 0 then (sealOpen s (some (furlongAt s)), false) else (furFlag s 25, false)
  else (sealOpen s none, false)

/-- The boundary that applies the sealed set, among those to come. -/
def applyingAt (s : State) : Option Coming :=
  match s.fur.sched with
  | some t => (coming s).find? (fun x => decide (t ≤ x.time))
  | none => if s.fur.seq < s.fur.target then (coming s)[s.fur.target - s.fur.seq - 1]? else none

/-- FURLONG_ARM (R43): 512 ns before the boundary that applies the set; its TARGET is then known (Table 1.8). -/
def furArm (s : State) : State :=
  match s.fur.pend, s.fur.armed, applyingAt s with
  | true, false, some x =>
    if x.wait ≤ 512 then
      let n := ((coming s).filter (fun y => decide (y.wait < x.wait))).length
      modFur s (fun f => { f with armed := true, armB := x.time, target := f.seq + n + 1 })
    else s
  | _, _, _ => s

end Sys2Proof.Machine
end

