-- ==== Sys2Proof/Machine/Crypto.lean ====
section
/-! DEFINITION. The published algorithms the spec names for images: SHA-384 (FIPS 180-4) and the verification of an ECDSA
signature over curve P-384 (FIPS 186-4), as plain functions on numbers (R93, R94, R99, R499). -/

namespace Sys2Proof.Machine

/-! ## SHA-384 -/

/-- The primes below `n`, for `n` up to 441: no number from 2 to 20 divides them. -/
def smallPrimes (n : Nat) : List Nat := (List.range n).filter (fun p => decide (2 ≤ p) && (List.range 19).all (fun d => d + 2 == p || p % (d + 2) != 0))

/-- The greatest number of `k` bits whose power `e` is at most `x`. -/
def rootFloor (e x : Nat) : Nat → Nat
  | k => (List.range k).foldl (fun r i => let y := r + 2 ^ (k - 1 - i); if y ^ e ≤ x then y else r) 0

/-- The first 64 bits of the fraction of the root `e` of a prime (FIPS 180-4, 4.2.3 and 5.3.4). -/
def rootBits (e p : Nat) : Nat := rootFloor e (p * 2 ^ (64 * e)) 70 % 2 ^ 64

/-- The round constants: from the cube roots of the first 80 primes. -/
def shaK : List Nat := (smallPrimes 410).map (rootBits 3)

/-- The initial hash value of SHA-384: from the square roots of the ninth to the sixteenth prime. -/
def sha384H : List Nat := ((smallPrimes 54).drop 8).map (rootBits 2)

/-- Rotate a 64-bit word right. -/
def ror64 (x n : Nat) : Nat := (x >>> n ||| x <<< (64 - n)) % 2 ^ 64

/-- Complement of a 64-bit word. -/
def not64 (x : Nat) : Nat := 2 ^ 64 - 1 - x % 2 ^ 64

/-- The padded message: 0x80, zeros, and the length in bits, to a multiple of 128 bytes. -/
def shaPad (l : List Byte) : List Byte :=
  l ++ [0x80#8] ++ List.replicate ((239 - l.length % 128) % 128) 0 ++ beBytes 16 (8 * l.length)

/-- Two rotations of a word and a third, or a shift where `sh` holds, joined by exclusive or: the sigma functions. -/
def shaMix (sh : Bool) (i j k x : Nat) : Nat := ror64 x i ^^^ ror64 x j ^^^ (if sh then x >>> k else ror64 x k)

/-- The next word of the message schedule, from the words so far, newest first. -/
def shaNextW (w : List Nat) : Nat :=
  ([w.getD 6 0, w.getD 15 0, shaMix true 1 8 7 (w.getD 14 0), shaMix true 19 61 6 (w.getD 1 0)].foldl Nat.add 0) % 2 ^ 64

/-- Extend the schedule by `n` words. -/
def shaSchedule : Nat → List Nat → List Nat
  | 0, w => w
  | n + 1, w => shaSchedule n (shaNextW w :: w)

/-- Where the bits of `x` are 1 those of `y`, else those of `z`. -/
def shaPick (x y z : Nat) : Nat := (x &&& y) ||| (not64 x &&& z)

/-- The bits that at least two of the three words have. -/
def shaMost (x y z : Nat) : Nat := (x &&& (y ||| z)) ||| (y &&& z)

/-- One round over the eight working words, with a round constant and a word of the schedule. -/
def shaRound (v : List Nat) (kw : Nat × Nat) : List Nat :=
  let at' (i : Nat) : Nat := v.getD i 0
  let in' := at' 7 + kw.1 + kw.2 + shaMix false 14 18 41 (at' 4) + shaPick (at' 4) (at' 5) (at' 6)
  let new := in' + shaMix false 28 34 39 (at' 0) + shaMost (at' 0) (at' 1) (at' 2)
  (new % 2 ^ 64 :: v.take 3) ++ ((in' + at' 3) % 2 ^ 64 :: (v.drop 4).take 3)

/-- The words of a block of 128 bytes, oldest first. -/
def shaWords : Nat → List Byte → List Nat
  | 0, _ => []
  | n + 1, l => beNat (l.take 8) :: shaWords n (l.drop 8)

/-- Take one block into the hash value. -/
def shaBlock (h : List Nat) (blk : List Byte) : List Nat :=
  let w := (shaSchedule 64 (shaWords 16 blk).reverse).reverse
  let v := (shaK.zip w).foldl shaRound h
  (h.zip v).map (fun x => (x.1 + x.2) % 2 ^ 64)

/-- Take `n` blocks. -/
def shaBlocks : Nat → List Nat → List Byte → List Nat
  | 0, h, _ => h
  | n + 1, h, l => shaBlocks n (shaBlock h (l.take 128)) (l.drop 128)

/-- SHA-384 of a byte string, as a number of 384 bits. -/
def sha384 (l : List Byte) : Nat :=
  let p := shaPad l
  ((shaBlocks (p.length / 128) sha384H p).take 6).foldl (fun a w => a * 2 ^ 64 + w) 0

/-! ## ECDSA over P-384 -/

/-- The field prime of P-384. -/
def p384p : Nat := 0xfffffffffffffffffffffffffffffffffffffffffffffffffffffffffffffffeffffffff0000000000000000ffffffff
/-- The order of the base point. -/
def p384n : Nat := 0xffffffffffffffffffffffffffffffffffffffffffffffffc7634d81f4372ddf581a0db248b0a77aecec196accc52973
/-- Coefficient b; a is -3. -/
def p384b : Nat := 0xb3312fa7e23ee7e4988e056be3f82d19181d9c6efe8141120314088f5013875ac656398d8a2ed19d2a85c8edd3ec2aef
/-- The base point. -/
def p384g : Nat × Nat :=
  (0xaa87ca22be8b05378eb1c71ef320ad746e1d3b628ba79b9859f741e082542a385502f25dbf55296c3a545e3872760ab7,
   0x3617de4a96262c6f5d9e98bf9292dc29f8f41dbd289a147ce9da3113b5f0b8c00a60b1ce1d7e819d7a431d7c90ea0e5f)

/-- Power modulo `m`, `k` bits of the exponent. -/
def powMod (m : Nat) : Nat → Nat → Nat → Nat → Nat
  | 0, _, _, r => r
  | k + 1, b, e, r => powMod m k (b * b % m) (e / 2) (if e % 2 = 1 then r * b % m else r)

/-- Inverse modulo a prime. -/
def invMod (m a : Nat) : Nat := powMod m 384 (a % m) (m - 2) 1

/-- Difference modulo `m`. -/
def subMod (m a b : Nat) : Nat := (a % m + m - b % m) % m

/-- Sum of two points; none is the point at infinity. -/
def ecAdd (a b : Option (Nat × Nat)) : Option (Nat × Nat) :=
  match a, b with
  | none, _ => b
  | _, none => a
  | some (x1, y1), some (x2, y2) =>
    if x1 = x2 ∧ (y1 + y2) % p384p = 0 then none
    else
      let l := if x1 = x2 then subMod p384p (3 * x1 * x1) 3 * invMod p384p (2 * y1) % p384p
        else subMod p384p y2 y1 * invMod p384p (subMod p384p x2 x1) % p384p
      let x3 := subMod p384p (l * l) (x1 + x2)
      some (x3, subMod p384p (l * subMod p384p x1 x3) y1)

/-- `e` times a point, over `k` bits. -/
def ecMul : Nat → Nat → Option (Nat × Nat) → Option (Nat × Nat) → Option (Nat × Nat)
  | 0, _, _, r => r
  | k + 1, e, q, r => ecMul k (e / 2) (ecAdd q q) (if e % 2 = 1 then ecAdd r q else r)

/-- A point lies on the curve. -/
def onP384 (q : Nat × Nat) : Bool :=
  decide (q.1 < p384p) && decide (q.2 < p384p) && q.2 * q.2 % p384p == (subMod p384p (q.1 * q.1 * q.1) (3 * q.1) + p384b) % p384p

/-- Does the signature (r, s) of a digest verify under a public key (R99)? -/
def ecdsaOk (q : Nat × Nat) (digest r t : Nat) : Bool :=
  if r = 0 ∨ p384n ≤ r ∨ t = 0 ∨ p384n ≤ t ∨ onP384 q = false then false
  else
    let w := invMod p384n t
    match ecAdd (ecMul 384 (digest * w % p384n) (some p384g) none) (ecMul 384 (r * w % p384n) (some q) none) with
    | none => false
    | some (x, _) => x % p384n == r

end Sys2Proof.Machine
end

