-- ==== Sys2Proof/Machine/Image.lean ====
section
/-! DEFINITION. What flash holds of images and firmware: slots and slot records, control records, keys, the container and its
verification (R93 to R102, R492 to R495). -/

namespace Sys2Proof.Machine

/-- Change IMG. -/
def modImg (s : State) (f : ImgSt → ImgSt) : State := { s with img := f s.img }
/-- Change UPD. -/
def modUpd (s : State) (f : UpdSt → UpdSt) : State := { s with upd := f s.upd }

/-! ## Slots -/

/-- A word that is set (R493, R494). -/
def markWord : Word := 0x5A3CC3A5

/-- First byte of Tun n (R102). -/
def tunBase (n : Nat) : Nat := 0x08000000 + n * 0x04000000
/-- Image area of a Tun slot. -/
def tunArea : Nat := 66846720
/-- First byte of firmware slot n (Table 18.1). -/
def fwBase (n : Nat) : Nat := 0x00100000 + n * 0x02000000
/-- Image area of a firmware slot. -/
def fwArea : Nat := 33292288

/-- Word w of the slot record of a slot (R493). -/
def slotWord (s : State) (base area w : Nat) : Word := flashWord s (base + area + 4 * w)
/-- PRESENT. -/
def slotPresent (s : State) (base area : Nat) : Bool := slotWord s base area 0 == markWord
/-- CONFIRMED. -/
def slotConfirmed (s : State) (base area : Nat) : Bool := slotWord s base area 1 == markWord
/-- Erase a slot with its record. -/
def slotErase (s : State) (base area : Nat) : State := flashErase s base (base + area + 0x40000)
/-- PRESENT of Tun n. -/
def tunPresent (s : State) (n : Nat) : Bool := slotPresent s (tunBase n) tunArea
/-- CONFIRMED of Tun n. -/
def tunConfirmed (s : State) (n : Nat) : Bool := slotConfirmed s (tunBase n) tunArea

/-! ## Control records -/

/-- Control record slots that are not erased, both blocks, 0 to 8,191. -/
def ctlUsed (s : State) : List Nat := ((s.flash.keys.filter (fun k => decide (k < 0x80000))).map (fun k => k / 64)).eraseDups

/-- Word w of control record i. -/
def ctlWord (s : State) (i w : Nat) : Word := flashWord s (i * 64 + 4 * w)

/-- Control record i is valid (R494). -/
def ctlValid (s : State) (i : Nat) : Bool :=
  ctlWord s i 15 == markWord && (ctlWord s i 14).toNat == crc32 (flashBytes s (i * 64) 56)

/-- The control record in force: the valid one with the highest SEQ. -/
def ctlNow (s : State) : Option Nat :=
  ((ctlUsed s).filter (ctlValid s)).foldl (fun b i => match b with
    | none => some i
    | some j => if (ctlWord s j 0).toNat < (ctlWord s i 0).toNat then some i else b) none

/-- Word w of the record in force; 0 where there is none. -/
def ctl (s : State) (w : Nat) : Word := match ctlNow s with | some i => ctlWord s i w | none => 0

/-- ACTIVE_FW. -/
def activeFw (s : State) : Nat := fld (ctl s 1) 0 0
/-- TRY_VALID. -/
def tryValid (s : State) : Bool := tbit (ctl s 2) 31
/-- TRY_FW. -/
def tryFw (s : State) : Nat := fld (ctl s 2) 0 0
/-- ONCE. -/
def onceSet (s : State) : Bool := tbit (ctl s 3) 31
/-- ONCE_TUN. -/
def onceTun (s : State) : Nat := fld (ctl s 3) 1 0

/-- The slot the next control record takes: after the used ones of the block in force, or the start of the other block, which
is erased first (R494). -/
def ctlNext (s : State) : Nat × State :=
  let blk := match ctlNow s with | some i => i / 4096 | none => 0
  let used := (ctlUsed s).filter (fun i => i / 4096 == blk)
  let nxt := used.foldl (fun a i => max a (i + 1)) (blk * 4096)
  if nxt < (blk + 1) * 4096 then (nxt, s)
  else ((1 - blk) * 4096, flashErase s ((1 - blk) * 0x40000) ((2 - blk) * 0x40000))

/-- Append a control record with words 1 to 3 as given (R494). -/
def ctlWrite (s : State) (w1 w2 w3 : Word) : State :=
  let r := ctlNext s
  let body := [ctl s 0 + 1, w1, w2, w3] ++ List.replicate 10 0
  flashProgW r.2 (r.1 * 64) (body ++ [lo32 (crc32 (body.flatMap (fun w => beBytes 4 w.toNat))), markWord])

/-- ONCE and ONCE_TUN written through to flash (Table 3.13). -/
def onceWrite (s : State) (once : Bool) (t : Nat) : State := ctlWrite s (ctl s 1) (ctl s 2) (mkB 31 once ||| mkF 1 0 t)

/-! ## Keys -/

/-- Key k is present (R100). -/
def keyPresent (k : Nat) : Bool := Config.keyFuses.testBit k
/-- Key k is revoked. -/
def keyRevoked (s : State) (k : Nat) : Bool := Config.keyFuses.testBit (4 + k) || s.img.revoked.get false k
/-- Key k may verify a signature. -/
def keyGood (s : State) (k : Nat) : Bool := decide (k < 4) && keyPresent k && !keyRevoked s k

/-- IMG_KEY_REVOKE (R100): the last key present and not revoked stays. -/
def keyRevoke (s : State) (v : Word) : State :=
  let k := fld v 1 0
  if fld v 31 16 = 0x4B59 ∧ keyGood s k ∧ (List.range 4).any (fun j => decide (j ≠ k) && keyGood s j) then
    modImg s (fun i => { i with revoked := i.revoked.set false k true })
  else s

/-! ## The container -/

/-- A big-endian number in an image at `base`. -/
def imgNat (s : State) (base off n : Nat) : Nat := beNat (flashBytes s (base + off) n)

/-- A section table entry (Table 3.2). -/
structure Sect where
  /-- TYPE. -/
  type : Nat
  /-- TARGET. -/
  target : Nat
  /-- OFFSET. -/
  off : Nat
  /-- LENGTH. -/
  len : Nat
  /-- DIGEST. -/
  digest : Nat
  /-- The reserved bytes are zero. -/
  clean : Bool
deriving DecidableEq, Repr

/-- TOTAL_LEN. -/
def imgTotal (s : State) (base : Nat) : Nat := imgNat s base 0x1C 4
/-- FMT. -/
def imgFmt (s : State) (base : Nat) : Nat := imgNat s base 4 2
/-- IMAGE_ID. -/
def imgId (s : State) (base : Nat) : Nat := imgNat s base 0x0C 4
/-- VERSION. -/
def imgVersion (s : State) (base : Nat) : Nat := imgNat s base 0x10 4
/-- LAYOUT_ID. -/
def imgLayout (s : State) (base : Nat) : Nat := imgNat s base 0x14 4
/-- META_ID. -/
def imgMeta (s : State) (base : Nat) : Nat := imgNat s base 0x18 2
/-- KEY_INDEX. -/
def imgKey (s : State) (base : Nat) : Nat := imgNat s base 0x1A 1
/-- FMT_ACCEPT of a firmware image (R495). -/
def imgFmtAccept (s : State) (base : Nat) : Nat := imgNat s base 0x58 1

/-- Section table entry i. -/
def sectAt (s : State) (base i : Nat) : Sect :=
  let o := 0x100 + 64 * i
  { type := imgNat s base o 2, target := imgNat s base (o + 4) 2, off := imgNat s base (o + 8) 4, len := imgNat s base (o + 12) 4,
    digest := imgNat s base (o + 16) 48, clean := imgNat s base (o + 2) 2 == 0 && imgNat s base (o + 6) 2 == 0 }

/-- The section table. -/
def sects (s : State) (base : Nat) : List Sect := (List.range (imgNat s base 0x1B 1)).map (sectAt s base)

/-- The section of a type and target. -/
def sectOf (s : State) (base type target : Nat) : Option Sect :=
  (sects s base).find? (fun x => x.type == type && x.target == target)

/-- The bytes of a section. -/
def sectBytes (s : State) (base : Nat) (x : Sect) : List Byte := flashBytes s (base + x.off) x.len

/-- The bytes of a device section; none of them where the image has none. -/
def devSect (s : State) (base type : Nat) : List Byte :=
  match sectOf s base type 0xFFFF with | some x => sectBytes s base x | none => []

/-- The section's DIGEST matches its bytes (R98, R101). -/
def sectOk (s : State) (base : Nat) (x : Sect) : Bool := sha384 (sectBytes s base x) == x.digest

/-- The device sections of the types given match their digests, as the loader reads them again (R101). -/
def devSectsOk (s : State) (base : Nat) (types : List Nat) : Bool :=
  types.all (fun ty => match sectOf s base ty 0xFFFF with | some x => sectOk s base x | none => true)

/-- R94: sections start at multiples of 64, lie between the table and the signature, and do not overlap. -/
def sectsPlaced (total n : Nat) (l : List Sect) : Bool :=
  decide (1 ≤ n) && decide (n ≤ 64)
    && l.all (fun x => x.clean && x.off % 64 == 0 && decide (1 ≤ x.len) && decide (0x100 + 64 * n ≤ x.off) && decide (x.off + x.len + 96 ≤ total))
    && (List.range l.length).all (fun i => (List.range i).all (fun j =>
        match l[i]?, l[j]? with
        | some a, some b => decide (a.off + a.len ≤ b.off) || decide (b.off + b.len ≤ a.off)
        | _, _ => true))

/-- Occurrences of a type for a target. -/
def sectCount (l : List Sect) (type target : Nat) : Nat := (l.filter (fun x => x.type == type && x.target == target)).length

/-- A per-role type: once for each role 0 to 7, and for nothing else (R95). -/
def perRole (l : List Sect) (type : Nat) : Bool :=
  (List.range 8).all (fun n => sectCount l type n == 1) && (l.filter (fun x => x.type == type)).length == 8

/-- R95 for an image of format `fmt`. -/
def sectsOk (fmt : Nat) (l : List Sect) : Bool :=
  let n (ty : Nat) : Nat := (l.filter (fun x => x.type == ty)).length
  l.all (fun x => decide (1 ≤ x.type) && decide (x.type ≤ 14) && (decide (x.type ≤ 3) || x.target == 0xFFFF))
    && perRole l 1 && perRole l 2 && (n 3 == 0 || perRole l 3)
    && [4, 5, 6, 7, 8, 9, 10, 11, 12, 13, 14].all (fun ty => decide (n ty ≤ 1))
    && n 7 == 1 && n 8 == 1 && n 10 == 1 && n 13 == (if fmt = 3 then 1 else 0)

/-- R495 for firmware. -/
def fwSectsOk (l : List Sect) : Bool :=
  l.all (fun x => (x.type == 0x101 || x.type == 14) && x.target == 0xFFFF)
    && (l.filter (fun x => x.type == 0x101)).length == 1 && decide ((l.filter (fun x => x.type == 14)).length ≤ 1)

/-- Pairs of register address and value (REGINIT), most significant byte first. -/
def regPairs : List Byte → List (Nat × Word)
  | a :: b :: c :: d :: e :: f :: g :: h :: rest => (beNat [a, b, c, d], BitVec.ofNat 32 (beNat [e, f, g, h])) :: regPairs rest
  | _ => []

/-- The pairs of an image's REGINIT section. -/
def regInit (s : State) (base : Nat) : List (Nat × Word) := regPairs (devSect s base 12)

/-- R96: REGINIT stays out of DEV, PWR, CLK, IMG and UPD, of counters and of fault registers. -/
def regInitOk (l : List (Nat × Word)) : Bool :=
  l.all (fun x => let blk := x.1 / 0x1000000
    !(blk == 0 || blk == 1 || blk == 2 || blk == 3 || blk == 0x13) && decide (x.1 % 0x1000000 < 0xE00000))

/-- COMPAT (Table 3.4): accepted META_ID values and compatible LAYOUT_ID values. -/
def compatOf (s : State) (base : Nat) : List Nat × List Nat :=
  match sectOf s base 13 0xFFFF with
  | none => ([], [])
  | some x =>
    let w (i : Nat) : Nat := imgNat s base (x.off + 4 * i) 4
    let nm := w 0 / 65536
    ((List.range nm).map (fun i => w (1 + i) % 65536), (List.range (w 0 % 65536)).map (fun i => w (1 + nm + i)))

/-- The accepted set of an image (R97). -/
def acceptedSet (s : State) (base : Nat) : List Nat := imgMeta s base :: (compatOf s base).1

/-- COMPAT keeps the limits of Table 3.4 and the length its counts give. -/
def compatFits (s : State) (base : Nat) : Bool :=
  match sectOf s base 13 0xFFFF with
  | none => true
  | some x =>
    let w0 := imgNat s base x.off 4
    decide (w0 / 65536 ≤ 64) && decide (w0 % 65536 ≤ 64) && x.len == 4 * (1 + w0 / 65536 + w0 % 65536)
      && (List.range (w0 / 65536)).all (fun i => decide (imgNat s base (x.off + 4 * (1 + i)) 4 < 65536))

/-! ## Limits of a slice program -/

/-- The container that a slot writes; a Header slot writes its bit's word of HDR_VALID (R178). -/
def slotDst (x : Slot) : Option Cont :=
  match x.op with
  | .hdr i _ => some { word := if i < 32 then 111 else 110, part := 0 }
  | _ => x.dst

/-- The containers that a VLIW word writes: none twice, and no whole word beside a part of it (R178). -/
def wordClean (l : List Slot) : Bool :=
  let d := l.filterMap slotDst
  decide (l.length ≤ 32) && d.eraseDups.length == d.length
    && d.all (fun c => c.part != 0 || d.all (fun e => e.word != c.word || e.part == 0))

/-- A lane's resources in stage n (Table 6.2). -/
def laneFits (n : Nat) (x : Lane) : Bool :=
  decide (x.keys.length ≤ 2) && x.keys.all (fun k => decide (k.length ≤ 40)) && decide (x.locals'.length ≤ 2)
    && decide (x.units.length ≤ 2) && (x.shared.isNone || decide (n ≤ 21))

/-- The resources of Table 6.2 over all stages (R171, R177). -/
def stagesFit (l : List Stage) : Bool :=
  decide (l.length ≤ 24)
    && (List.range l.length).all (fun n => match l[n]? with
      | none => true
      | some x => decide (x.lanes.length ≤ 6) && x.lanes.all (laneFits n) && decide (x.ing.length ≤ 512) && decide (x.eg.length ≤ 512)
          && x.ing.all wordClean && x.eg.all wordClean)
    && (List.range 6).all (fun t => decide ((l.filter (fun x => match x.lanes[t]? with | some y => y.shared.isSome | none => false)).length ≤ 12))

/-- The local tables and the words of stateful units fit the local SRAM of 16 Mbit, and every entry fits its table's width (R171). -/
def localFits (p : Prog) : Bool :=
  decide ((p.tables.zipIdx.map (fun x => x.1.length * p.tabBits.getD x.2 0)).sum + 64 * p.words ≤ 2 ^ 24)
    && p.tables.zipIdx.all (fun x => x.1.all (fun e => decide (e.1.log2 + 1 ≤ p.tabBits.getD x.2 0)))

/-- The parser's limits (R172, R174, Table 6.4). -/
def parserFits (p : Prog) : Bool :=
  decide (p.shapes.length ≤ 110) && decide ((p.shapes.filter (· != 0)).length ≤ 96) && decide ((p.shapes.filter (· == 2)).length ≤ 32)
    && decide (p.nodes.length ≤ 256)
    && p.nodes.all (fun x => decide (x.extracts.length ≤ 8) && decide (x.select.length ≤ 2) && decide (x.branches.length ≤ 16) && decide (x.rep ≤ 8)
      && x.extracts.all (fun e => decide (1 ≤ e.2.1) && decide (e.2.1 ≤ 32)) && decide ((x.select.map Prod.snd).sum ≤ 32))

/-- The program that an image holds for a role. -/
def roleProg (s : State) (base n : Nat) : Prog :=
  let b (ty : Nat) : List Byte := match sectOf s base ty n with | some x => sectBytes s base x | none => []
  Config.program (b 1) (b 2) (b 3)

/-- Numbers in threes: TCMLAYOUT gives bank, width and table; GATES gives list entry, STATES and INTERVAL. -/
def triples : List Nat → List (Nat × Nat × Nat)
  | a :: b :: c :: rest => (a, b, c) :: triples rest
  | _ => []

/-- TCMLAYOUT's banks, widths and tables exist, no bank is bound twice, and every bank of a table has the table's width (R239, R240). -/
def tcmLayoutOk (l : List Nat) : Bool :=
  let b := triples l
  l.length % 3 == 0 && (b.map Prod.fst).eraseDups.length == b.length
    && b.all (fun x => decide (x.1 < 96) && (x.2.1 == 1 || x.2.1 == 2 || x.2.1 == 4) && decide (x.2.2 < 32)
      && b.all (fun y => y.2.2 != x.2.2 || y.2.1 == x.2.1))

/-- Banks of the regions of a KIND. -/
def kindBanks (l : List Word) (k : Nat) : Nat := ((l.filter (fun v => fld v 31 28 == k)).map (fun v => fld v 15 8)).sum

/-- TBLLAYOUT's regions are ranges of banks that exist and do not meet, within the sizes of Table 7.1; an exact-match table has an even
number of banks and its split lies within an entry (R200, R201, R212). -/
def tblLayoutOk (t : Settings) : Bool :=
  let l := (t.writes.map Prod.snd).filter (fun v => fld v 31 28 != 0)
  let banks := l.flatMap (fun v => (List.range (fld v 15 8)).map (fun i => fld v 23 16 + i))
  banks.all (fun b => decide (b < 160)) && banks.eraseDups.length == banks.length
    && l.all (fun v => decide (0 < fld v 15 8) && decide (fld v 31 28 ≤ 6) && (fld v 31 28 != 3 || (fld v 15 8 % 2 == 0
        && decide (t.extra.getD (fld v 27 26) 0 ≤ if tbit v 25 then 128 else 64))))
    && [1, 2, 4, 5, 6].all (fun k => decide ((l.filter (fun v => fld v 31 28 == k)).length ≤ 1))
    && (List.range 4).all (fun e => decide ((l.filter (fun v => fld v 31 28 == 3 && fld v 27 26 == e)).length ≤ 1))
    && decide (kindBanks l 1 ≤ 96) && kindBanks l 2 == (if kindBanks l 1 = 0 then 0 else 6) && decide (kindBanks l 3 ≤ 32)
    && decide (kindBanks l 4 ≤ 16) && decide (kindBanks l 5 ≤ 1) && decide (kindBanks l 6 ≤ 8)

/-- Class values that a section's writes give, over their reset values (R265): word w of class c. -/
def classIn (l : List (Nat × Word)) (c w : Nat) : Word :=
  ((l.filter (fun x => x.1 == 0x0A001000 + c * 0x10 + w * 4)).getLast?.map Prod.snd).getD (if w = 1 then mkF 23 14 20 else 0)

/-- The dispatch classes of an XEUCODE section break none of the rules of R265. -/
def classesOk (l : List (Nat × Word)) : Bool :=
  let valid := (List.range 64).filter (fun c => tbit (classIn l c 0) 31)
  valid.all (fun c => decide (2 ≤ (clustersOf (classIn l c 1)).length))
    && decide (((valid.filter (fun c => tbit (classIn l c 0) 30)).map (fun c => fld (classIn l c 1) 11 0)).sum ≤ 16384)
    && decide ((valid.map (fun c => fld (classIn l c 2) 13 0)).sum ≤ 8192)

/-- The pools that a BUFCFG section divides fit the 524,288 lines of the store (R312). -/
def poolsOk (l : List (Nat × Word)) : Bool :=
  let countIn (p : Nat) : Nat := ((l.filter (fun x => x.1 == 0x0C000100 + p * 0x10)).getLast?.map (fun x => fld x.2 19 0)).getD 0
  decide (countIn 0 + countIn 1 * 4 + countIn 2 * 16 + countIn 3 * 48 ≤ 524288)

/-- The contents of an image keep the limits of the blocks they set (check 0x09). -/
def contentsOk (s : State) (base : Nat) : Bool :=
  regInitOk (regInit s base) && (devSect s base 12).length % 8 == 0 && compatFits s base
    && (List.range 8).all (fun n => let p := roleProg s base n
      parserFits p && stagesFit p.stages && localFits p && (p.lrn.isSome == (sectOf s base 3 n).isSome))
    && ((sectOf s base 4 0xFFFF).isNone || tblLayoutOk (Config.settings 4 (devSect s base 4)))
    && ((sectOf s base 5 0xFFFF).isNone || tcmLayoutOk (Config.settings 5 (devSect s base 5)).extra)
    && ((sectOf s base 6 0xFFFF).isNone || classesOk (Config.settings 6 (devSect s base 6)).writes)
    && poolsOk (Config.settings 8 (devSect s base 8)).writes
    && (Config.settings 7 (devSect s base 7)).writes.all (fun x => x.1 != 0x0E000004 || fld x.2 19 0 % 1024 == 0)
    && [4, 5, 6, 7, 8, 9, 10, 11].all (fun ty => (sectOf s base ty 0xFFFF).isNone || (Config.settings ty (devSect s base ty)).good)

/-! ## Verification -/

/-- The first reason that applies, 0 where none does. -/
def firstReason : List (Nat × Bool) → Nat
  | [] => 0
  | (r, good) :: rest => if good then firstReason rest else r

/-- The reserved bytes of the header are zero; byte 0x058 of firmware is FMT_ACCEPT (R93, R495). -/
def headClean (s : State) (base : Nat) (fw : Bool) : Bool :=
  if fw then (flashBytes s (base + 0x59) 167).all (· == 0) && imgFmtAccept s base % 4 == 0 && decide (imgFmtAccept s base < 16)
    && imgLayout s base == 0 && imgMeta s base == 0
  else (flashBytes s (base + 0x58) 168).all (· == 0)

/-- The signature verifies (R99): r and s are the last 96 bytes, and cover all bytes before. -/
def sigOk (s : State) (base : Nat) : Bool :=
  let t := imgTotal s base
  ecdsaOk (Config.fuseKey (imgKey s base)) (sha384 (flashBytes s base (t - 96))) (imgNat s base (t - 96) 48) (imgNat s base (t - 48) 48)

/-- The checks of Table 3.5 in order on the container at `base`, of an image or of firmware: 0, or the first reason (R98, R495). -/
def verify (s : State) (base area : Nat) (fw : Bool) : Nat :=
  let t := imgTotal s base
  let n := imgNat s base 0x1B 1
  firstReason [
    (0x01, imgNat s base 0 4 == (if fw then 0x444E4657 else 0x444E494D) && (imgFmt s base == 2 || imgFmt s base == 3)
      && imgNat s base 6 2 == 256 && headClean s base fw),
    (0x02, imgNat s base 8 2 == 0x9600 && decide (imgNat s base 0x0A 1 ≤ 0xB0) && decide (0xB0 ≤ imgNat s base 0x0B 1)),
    (0x03, decide (t ≤ area) && (!fw || decide (t ≤ 0x1000000))),
    (0x04, keyGood s (imgKey s base)),
    (0x05, sigOk s base),
    (0x06, sha384 (flashBytes s (base + 0x100) (t - 96 - 0x100)) == imgNat s base 0x28 48),
    (0x07, sectsPlaced t n (sects s base) && (if fw then fwSectsOk (sects s base) else sectsOk (imgFmt s base) (sects s base))),
    (0x08, (sects s base).all (sectOk s base)),
    (0x09, fw || contentsOk s base)]

/-- Verification of Tun n. -/
def tunVerify (s : State) (n : Nat) : Nat := verify s (tunBase n) tunArea false
/-- Verification of firmware slot n. -/
def fwVerify (s : State) (n : Nat) : Nat := verify s (fwBase n) fwArea true

/-- A failed verification of Tun n is shown: VALID 0 with its reason, REASON, IMG_REFUSED and event 0x0C01 (R101, R122). -/
def tunRefused (s : State) (n r : Nat) : State :=
  let s1 := modImg s (fun i => { i with reason := r, tun := i.tun.upd {} n (fun x => { x with valid := false, reason := r }) })
  event (count s1 3 0) 0x0C01 n (n * 256 + r)

/-- Check a Tun (the note under Table 3.12): one that is not PRESENT shows VALID 0 and REASON 0. -/
def tunCheck (s : State) (n : Nat) : State :=
  if tunPresent s n then
    let b := tunBase n
    let r := tunVerify s n
    let x : TunInfo :=
      { valid := r == 0, reason := r, key := imgKey s b % 4, fmt := imgFmt s b % 4, verLo := imgVersion s b % 65536 }
    let s1 := modImg s (fun i => { i with tun := i.tun.set {} n x })
    if r = 0 then s1 else tunRefused s1 n r
  else modImg s (fun i => { i with tun := i.tun.set {} n {} })

/-- VALID of Tun n. -/
def tunValid (s : State) (n : Nat) : Bool := (s.img.tun.get {} n).valid

end Sys2Proof.Machine
end

