-- ==== Sys2Proof/Machine/Load.lean ====
section
/-! DEFINITION. Loading the program of a role into a slice (R103, R107, R108), and what a device section writes (R95). -/

namespace Sys2Proof.Machine

/-- Set a flag of IMG_STATUS: 20 STEER_REJ, 19 LOAD_ERR. -/
def imgFlag (s : State) (bit : Nat) : State := setRB s .imgStatus [] bit true

/-- LOAD_ERR. -/
def loadErr (s : State) : State := imgFlag s 19

/-- An apply is running, or a cold apply waits for an armed set (R119, R121, R123). -/
def applyRuns (s : State) : Bool :=
  s.img.coldWait.isSome || s.img.apply.phase == .verify || s.img.apply.phase == .downstream || s.img.apply.phase == .rotate
    || s.img.apply.phase == .cleanup

/-! ## Locks -/

/-- A slice runs a role: ACTIVE, or in DRAIN with work of the old steering. -/
def runsRole (x : SliceSt) : Bool := x.st == .active || x.st == .drain

/-- LOCKED (R103, R122, R503): a role runs a program of the Tun, or an apply, a slice load or a relay reads from it;
the boot of a cold apply is part of that apply. -/
def tunLocked (s : State) (n : Nat) : Bool :=
  (List.range 9).any (fun i => runsRole (sliceOf s i) && (sliceOf s i).tun == n)
    || s.slc.loads.entries.any (fun e => e.2.tun == n)
    || (applyRuns s && (s.img.apply.tun == n || s.img.effTun == some n))
    || (s.img.coldTun.isSome && (s.img.coldTun == some n || s.pwr.boot.tun == some n))
    || (match s.img.apply.mixed with | some (a, b) => a == n || b == n | none => false)
    || ((s.upd.relay.st == .offering || s.upd.relay.st == .sending) && s.upd.relay.target == n)

/-! ## Slice loads -/

/-- The accepted sets of R108: the image of Tun t for role n, and the programs of every other ACTIVE role, accept each other. -/
def rolesAgree (s : State) (t n : Nat) : Bool :=
  let acc := acceptedSet s (tunBase t)
  let m := imgMeta s (tunBase t)
  (List.range 9).all (fun i =>
    let x := sliceOf s i
    !(x.st == .active) || x.role == n || (acc.contains x.meta' && x.accepts.contains m))

/-- The target slice is IDLE or READY (R108). -/
def sliceTakes (s : State) (sl : Nat) : Bool := (sliceOf s sl).st == .idle || (sliceOf s sl).st == .ready

/-- R108, apart from its rule on a running apply. -/
def loadAllowed (s : State) (sl t n : Nat) : Bool := sliceTakes s sl && tunPresent s t && tunValid s t && rolesAgree s t n

/-- A load starts: the slice's two domains are switched on, and its old program goes (R107, R526). -/
def loadStart (s : State) (sl t n by' : Nat) : State :=
  let s1 := copyDrop (blockSwitch (blockSwitch s (18 + sl) true) (27 + sl) true) sl
  let s2 := modSlice s1 sl (fun x => { x with st := .loading, prog := none, digest := 0 })
  modSlc s2 (fun b => { b with loads := b.loads.put sl (some { tun := t, role := n, by' := by' }) })

/-- The per-role sections of role n in an image: PARSE, STAGE, and LRNCFG where there is one. -/
def roleSects (s : State) (base n : Nat) : List Sect := [1, 2, 3].filterMap (fun ty => sectOf s base ty n)

/-- SLC_PROG_DIGEST: SHA-384 over the role's sections (Table 6.13). -/
def roleDigest (s : State) (base n : Nat) : Nat := sha384 ((roleSects s base n).flatMap (sectBytes s base))

/-- LRNCFG's part of a load: the seeds and settings of the slice's learning table (R225, R234). -/
def lrnLoad (s : State) (sl : Nat) (p : Prog) : State :=
  let s1 := lrnClear s sl
  match p.lrn with
  | none => s1
  | some c =>
    setReg (setReg (modLrn s1 sl (fun l => { l with seed0 := c.seed0, seed1 := c.seed1 })) .lrnCfg [sl] (c.cfg &&& 0xF80FFFFF))
      .lrnAgeCfg [sl] (c.age &&& 0x03FFCFFF)

/-- A role's program is written into slice sl, which is then in state `st`. -/
def writeRole (s : State) (sl t n : Nat) (st : SliceState) : State :=
  let b := tunBase t
  let p := roleProg s b n
  lrnLoad (modSlice s sl (fun x => { x with
    st := st, role := n, pair := if st = .active then n else x.pair, tun := t, meta' := imgMeta s b, accepts := acceptedSet s b, prog := some p, digest := roleDigest s b n,
    sram := {} })) sl p

/-- A load ends without its program (Table 3.7): the slice is IDLE, LOAD_ERR, event 0x0C04. -/
def loadFail (s : State) (sl reason : Nat) : State :=
  let s1 := modSlice s sl (fun x => { x with st := .idle, prog := none, digest := 0 })
  let s2 := modSlc s1 (fun b => { b with loads := b.loads.put sl none })
  event (loadErr s2) 0x0C04 sl (sl * 256 + reason)

/-- A load ends (R101, R107): every section is checked again as it is written. -/
def loadEnd (s : State) (sl : Nat) : State :=
  match s.slc.loads.find sl with
  | none => s
  | some l =>
    let b := tunBase l.tun
    if (roleSects s b l.role).all (sectOk s b) then
      let s1 := modSlc (writeRole s sl l.tun l.role .ready) (fun x => { x with loads := x.loads.put sl none })
      event (count s1 3 8) 0x0C03 sl (sl * 256 + l.role)
    else loadFail (tunRefused s l.tun 8) sl 8

/-- IMG_SLICE_LOAD (R107, R108, Table 3.15): GO loads, UNLOAD without GO returns a READY slice to IDLE. -/
def sliceLoadGo (s : State) (sl t n : Nat) : State :=
  if onData s && decide (sl < 9) && loadAllowed s sl t n && !applyRuns s && !s.upd.recovery then loadStart s sl t n 0 else loadErr s

/-- UNLOAD. -/
def sliceUnload (s : State) (sl : Nat) : State :=
  if sl < 9 ∧ (sliceOf s sl).st = .ready ∧ s.upd.recovery = false then
    copyDrop (modSlice s sl (fun x => { x with st := .idle, prog := none, digest := 0 })) sl
  else loadErr s

/-- A write of IMG_SLICE_LOAD. -/
def sliceLoadWrite (s : State) (v : Word) : State :=
  if tbit v 31 then sliceLoadGo s (fld v 11 8) (fld v 5 4) (fld v 2 0)
  else if tbit v 30 then sliceUnload s (fld v 11 8)
  else s

/-! ## What a device section writes -/

/-- The settings of a device section of an image. -/
def sectSettings (s : State) (base ty : Nat) : Settings :=
  if (sectOf s base ty 0xFFFF).isSome then Config.settings ty (devSect s base ty) else { good := true, writes := [], extra := [] }

/-- The banks that TCMLAYOUT binds: logical bank, width, table. -/
def tcmBindings (s : State) (base : Nat) : List (Nat × Nat × Nat) := triples (sectSettings s base 5).extra

/-- The bits of an entry of each exact-match table that are key, for the tables that a test picks (R212). -/
def setKeyBits (s : State) (base : Nat) (pick : Nat → Bool) : State :=
  let bits := (sectSettings s base 4).extra
  modTbl s (fun t => { t with keyBits := ((List.range 4).filter pick).foldl (fun m i => m.set 0 i (bits.getD i 0)) t.keyBits })

/-- The list entries of GATES: (port × 2 + list) × 1,024 + entry, STATES, INTERVAL. -/
def gateEntries (s : State) (base : Nat) : List (Nat × Nat × Nat) := triples (sectSettings s base 11).extra

end Sys2Proof.Machine
end

