-- ==== Sys2Proof/Machine/Reset.lean ====
section
/-! DEFINITION. What each kind of reset clears (R535, Table 19.6). -/

namespace Sys2Proof.Machine

/-- The recorder after RESET_N: its counts of life and the records that wait for flash stay (R466, R467, R473, R476). -/
def recReset (r : RecSt) : RecSt :=
  { opSec := r.opSec, bootSec := r.bootSec, cycle := r.cycle, nextSec := r.nextSec, bins := r.bins, ext := r.ext, saveSeq := r.saveSeq,
    flashq := r.flashq, head := r.head, wrapped := r.wrapped, lifeHead := r.lifeHead, flashOk := r.flashOk }

/-- Power and clocks after RESET_N: the feeds' input stages and the pins are as they were (R517). -/
def pwrReset (p : PwrSt) (boot : BootSt) : PwrSt :=
  { feedA := p.feedA, feedB := p.feedB, everPresent := p.everPresent, noFeed := p.noFeed, brown := p.brown, feedBack := p.feedBack,
    frefGone := p.frefGone, lrefGone := p.lrefGone, profPins := p.profPins, profSampled := p.profSampled, boot := boot }

/-- The levels that the mates drive at TWIN_ACT_IN. -/
def twinPins (f : FabSt) : SMap TwinGrp :=
  f.twin.entries.foldl (fun m e => if e.2.actIn then m.put e.1 (some { actIn := true }) else m) {}

/-- Everything that RESET_N or a brown-out clears is as after reset; `boot` says where the boot stands (Table 19.6). -/
def fullReset (s : State) (boot : BootSt) : State :=
  let cause := regRaw s .clkRstCause []
  let s1 : State := {
    pending := s.pending, now := s.now, free := s.free, acc := s.acc, flash := s.flash
    rcd := { recReset s.rcd with dfltB := { lvl := 64000000000, at' := s.now } }
    pwr := pwrReset s.pwr boot
    jtag := s.jtag
    chain := { holdUntil := s.now + 10000000 }
    fab := { twin := twinPins s.fab, holds := s.fab.holds }
    slc := { cycles := s.now * 8 / 5 }
    img := { revoked := s.img.revoked } }
  setReg s1 .clkRstCause [] cause

/-! ## Cold apply -/

/-- A register that a cold apply leaves as it is: every register of the always-on island but IMG_STEER, whose pairs return to their own
slices with the boot (R106), the fault masks, the time base's own,
and FAB_PEER_EN (R123, R453, R456, R535). FAB_CFG.DEV_ID is put back apart. -/
def coldKeeps (a : Nat) : Bool :=
  if 2 ^ 32 ≤ a then false
  else if a = Reg.addr .imgSteer [] then false
  else islandBlock (a / 0x1000000) || decide (0xF00000 ≤ a % 0x1000000)
    || (decide (0x0F000010 ≤ a) && decide (a < 0x0F000058))
    || (decide (0x10000040 ≤ a) && decide (a < 0x10000060))

/-- Every source whose condition a unit outside the island holds is clear, and no such unit is fenced but a search bank (R260). -/
def coldFlt (f : FltSt) : FltSt :=
  let stays (blk : Nat) : Bool := islandBlock blk
  { f with
    held := f.held.filter (fun k _ => stays (k / 65536 / 32) || k / 65536 == 9 * 32 + 6)
    fenced := f.fenced.filter (fun k _ => k / 65536 == 9)
    blk := ⟨f.blk.entries.map (fun e => (e.1, if stays e.1 then e.2
      else { e.2 with live := if e.1 = 9 then e.2.live else (0 : Word) }))⟩ }

/-- Banks after a cold apply: what is fenced or replaced stays so, and everything else is unbound (R260, R261). -/
def coldBanks (t : TcmSt) : SMap TcmBank :=
  t.banks.entries.foldl (fun m e =>
    if e.2.st = .fenced then m.put e.1 (some { e.2 with errs := 0, width := 0, table := 0 })
    else if e.2.replaces then m.put e.1 (some { logical := e.2.logical, replaces := true })
    else m) {}

/-- Every switched domain is on but a tripped one (R522, R529). -/
def coldDoms (p : PwrSt) : SMap Dom := p.doms.filter (fun _ d => d.st == .tripped)

/-- The time base is kept; the gates are not (R123, R535). -/
def coldTgt (t : TgtSt) : TgtSt := { t with gates := {}, lists := {}, ttPath := 2 }

/-- The reset of a cold apply (R123, R535): the island, the chain address, the leases, the time base and stored training stay. -/
def coldReset (s : State) : State :=
  let devId := rf s .fabCfg [] 7 0
  let bund := s.ell.b.entries.foldl (fun m (e : Nat × Bundle) => m.set {} e.1 { stored := e.2.stored }) {}
  let stk := s.hbm.st.entries.foldl (fun m (e : Nat × HStack) => m.set {} e.1 { stored := e.2.stored }) {}
  let s1 : State := {
    pending := s.pending, now := s.now, free := s.free, acc := s.acc, flash := s.flash
    regs := s.regs.filter (fun k _ => coldKeeps k || (s.ell.b.entries.any (fun e => e.2.stored)
      && decide (0x0B000000 ≤ k) && decide (k < 0x0B020000) && decide (k % 0x400 ≥ 0x40)))
    ctr := s.ctr.filter (fun k _ => decide (k < 2 ^ 40) && islandBlock (k / 0x1000000))
    latch := s.latch
    fur := { s.fur with direct := true, opn := {}, lostOpn := [] }
    flt := coldFlt s.flt
    rcd := s.rcd
    tgt := coldTgt s.tgt
    node := s.node
    chain := { s.chain with injects := [] }
    pwr := { s.pwr with doms := coldDoms s.pwr, rampq := [] }
    jtag := s.jtag
    fab := { twin := twinPins s.fab, holds := s.fab.holds }
    slc := { cycles := s.now * 8 / 5 }
    tcm := { banks := coldBanks s.tcm, window := s.tcm.window }
    xe := { window := s.xe.window }
    ell := { b := bund }
    hbm := { st := stk, win := s.hbm.win, winS := s.hbm.winS }
    img := s.img
    upd := s.upd }
  setRF s1 .fabCfg [] 7 0 devId

/-! ## Power reaches the data path -/

/-- The main rails are up, at boot or after a cold apply: every bundle direction searches (Table 10.3) and every stack trains
(R365), those apart whose domain has tripped. -/
def dataUp (s : State) : State :=
  let s1 := forEach (List.range 32) (fun k t => if domOn t (52 + k) then ellTrain t k else t) s
  forEach (List.range 4) (fun k t => if stackPowered t k then stackTrain t k else t) s1

end Sys2Proof.Machine
end

