-- ==== Sys2Proof/Machine/Apply.lean ====
section
/-! DEFINITION. The apply sequencer (R119 to R123, R260, R562) and what the end of an apply does to the update session (R497,
R507, R509, R510). -/

namespace Sys2Proof.Machine

/-- Change the apply sequencer. -/
def modApply (s : State) (f : ApplySt → ApplySt) : State := modImg s (fun i => { i with apply := f i.apply })

/-- Code of APPLY_STATE (Table 3.9). -/
def ApplyPhase.code : ApplyPhase → Nat
  | .idle => 0 | .verify => 1 | .downstream => 2 | .rotate => 3 | .cleanup => 4 | .done => 5 | .stopped => 6

/-! ## Is an apply allowed (R119, R123) -/

/-- Is every bit that the value of a REGINIT pair sets, and its register, of type ST? -/
def isSt (a : Nat) : Bool := match regAt a with | some (r, _) => r.info.st != 0 | none => false

/-- The state is mixed, and Tun t is one of its two (R122). -/
def mixedTun (s : State) (t : Nat) : Bool := match s.img.apply.mixed with | some (a, b) => a == t || b == t | none => false

/-- The conditions that R119 sets for every apply. -/
def applyBase (s : State) (t : Nat) : Bool :=
  !s.fur.direct && !applyRuns s && !s.flt.fatal && !s.upd.recovery && tunPresent s t && tunValid s t

/-- The accepted sets of R119: every running role's program and the image accept each other. -/
def metasAgree (s : State) (t : Nat) : Bool :=
  let acc := acceptedSet s (tunBase t)
  let m := imgMeta s (tunBase t)
  (List.range 9).all (fun i =>
    let x := sliceOf s i
    !(x.st == .active) || (acc.contains x.meta' && x.accepts.contains m))

/-- The layout is the one in effect, or compatible with it (R119). -/
def layoutAgrees (s : State) (t : Nat) : Bool :=
  let l := imgLayout s (tunBase t)
  l == (regRaw s .imgActiveLayout []).toNat || s.img.compat.contains l

/-- PORTMAP equals the mode in effect of every group with a port enabled (R119). -/
def portmapAgrees (s : State) (t : Nat) : Bool :=
  (sectSettings s (tunBase t) 10).writes.all (fun w =>
    match regAt w.1 with
    | some (.lpGrpMode, [g]) => !grpAnyEn s g || ((regRaw s .lpGrpMode [g] ^^^ w.2) &&& 0xE00000FF) == 0
    | _ => true)

/-- No bank that serves as a replacement is bound by the image's TCMLAYOUT (R260). -/
def tcmAgrees (s : State) (t : Nat) : Bool := (tcmBindings s (tunBase t)).all (fun b => !(tcmBank s b.1).replaces)

/-- A hitless apply of Tun t is accepted (R119); against a mixed state, one of its two Tuns always is (R122). -/
def hitlessOk (s : State) (t : Nat) : Bool :=
  applyBase s t && (mixedTun s t
    || (metasAgree s t && layoutAgrees s t && (regInit s (tunBase t)).all (fun x => isSt x.1) && portmapAgrees s t && tcmAgrees s t))

/-! ## Placement of search banks (R260) -/

/-- The bank that replaces logical bank l, which is fenced. -/
def replacementOf (s : State) (l : Nat) : Option Nat :=
  if (tcmBank s l).st = .fenced then
    (List.range 96).find? (fun q => (tcmBank s q).replaces && (tcmBank s q).logical == some l && (tcmBank s q).st != .fenced)
  else none

/-- Place the logical banks of a layout: those replaced first, then those that need a substitute, each logical bank with its
physical bank; none when no substitute is left. -/
def placeBanks (s : State) (ls : List Nat) : Option (List (Nat × Nat)) :=
  let repl := ls.filterMap (fun l => (replacementOf s l).map (fun q => (l, q)))
  let rest := ls.filter (fun l => (replacementOf s l).isNone)
  let moved := rest.filter (fun l => (tcmBank s l).replaces || (tcmBank s l).st == .fenced)
  let own := (rest.filter (fun l => !moved.contains l)).map (fun l => (l, l))
  moved.foldl (fun acc l =>
    match acc with
    | none => none
    | some p =>
      match (List.range 96).find? (fun q =>
        (tcmBank s q).st != .fenced && !ls.contains q && !(p.map Prod.snd).contains q) with
      | some q => some (p ++ [(l, q)])
      | none => none) (some (repl ++ own))

/-- The placement of an image's layout. -/
def placement (s : State) (base : Nat) : Option (List (Nat × Nat)) := placeBanks s ((tcmBindings s base).map (fun b => b.1))

/-! ## The update session follows -/

/-- An update event: INSTANCE is TARGET (R514). -/
def updEvent (s : State) (code d4 : Nat) : State := event s code s.upd.target d4

/-- CONFIRM_S in ns; 0 acts as 1. -/
def confirmNs (s : State) : Nat := max 1 (rf s .updConfirmCfg [] 15 0) * 1000000000

/-- New content is in effect: TRIAL (Table 18.2). -/
def trialStart (s : State) : State :=
  let s1 := modUpd s (fun u => { u with st := .trial, applying := false, confirmAt := s.now + confirmNs s })
  updEvent (count s1 0x13 0x30) 0x4C06 (if s.upd.cold then 1 else 0)

/-- The fall-back ends: IDLE, event 0x4C08 (R510). -/
def fallEnd (s : State) (reason : Nat) : State :=
  updEvent (modUpd s (fun u => { u with st := .idle, applying := false, falling := false })) 0x4C08 reason

/-- An apply reached DONE, or the boot of a cold apply has ended. -/
def updApplied (s : State) : State :=
  if s.upd.falling then fallEnd s s.upd.fallReason
  else if s.upd.applying then trialStart s
  else s

/-! ## Start, phases and stop -/

/-- A hitless apply starts; `at'` is the scheduled time of its DOWNSTREAM commit (R120, R506). ROT_STEP, which Table 3.9 gives for the
present or last rotation, is cleared here: the model's choice (log entry 56). -/
def hitlessStart (s : State) (t : Nat) (at' : Option Nat) : State :=
  modApply s (fun a => { phase := .verify, tun := t, at' := at', mixed := a.mixed })

/-- The half that takes, or already holds, the microcode of the Tun being applied (R279). -/
def applyHalf (s : State) : Bool :=
  if s.img.apply.mixed.isSome ∧ s.img.effTun = some s.img.apply.tun then s.img.half else !s.img.half

/-- Does the image bring microcode? -/
def hasUcode (s : State) (t : Nat) : Bool := (sectOf s (tunBase t) 6 0xFFFF).isSome

/-- A half that a record or a class in effect names (R279). -/
def halfNamed (s : State) (half : Bool) : Bool :=
  (List.range 64).any (fun c => rb s .xeClassA [c] 31 && rb s .xeClassA [c] 29 == half) ||
  (xeThreads s).any (fun x => tbit x.2.2.r.a 29 == half) ||
  s.xe.cls.entries.any (fun c => c.2.q.any (fun w => match w.re with | some r => tbit r.a 29 == half | none => false))

/-- Microcode of the half is in every cluster whose engines are powered. -/
def ucodeIn (s : State) (half : Bool) : Bool :=
  (List.range 8).all (fun k => !domOn s (36 + k) || ((if half then (xeClu s k).half1 else (xeClu s k).half0).isSome
    && (s.img.apply.mixed.isSome || s.img.apply.clus.contains k)))

/-- Both list memories of a port are in use (R562). -/
def listsBusy (s : State) (p : Nat) : Bool := gclInUse s p 0 && gclInUse s p 1

/-- Ports that have entries in the image's GATES section. -/
def gatePorts (s : State) (base : Nat) : List Nat := ((gateEntries s base).map (fun e => e.1 / 2048)).eraseDups

/-- The list memory of a port that the sequencer writes, and the values of LIST that name it: the one not in use, the named one
where both are free. -/
def gateMemory (s : State) (base p : Nat) : Nat :=
  let named := match (gateEntries s base).find? (fun e => e.1 / 2048 == p) with | some e => e.1 / 1024 % 2 | none => 0
  if gclInUse s p named then 1 - named else named

/-- Write the entries of GATES; with `remap` into a free memory of each port (R562). -/
def writeLists (s : State) (base : Nat) (remap : Bool) : State :=
  let l := gateEntries s base
  modTgt s (fun t => { t with lists := l.foldl (fun m e =>
    let p := e.1 / 2048
    let mem := if remap then gateMemory s base p else e.1 / 1024 % 2
    m.set (0, 0) ((p * 2 + mem) * 1024 + e.1 % 1024) (e.2.1 % 256, e.2.2 % 2 ^ 32)) t.lists })

/-- A value that the sequencer stages: microcode halves and list memories are those it chose. -/
def applyValue (s : State) (base : Nat) (w : Nat × Word) : Nat × Word :=
  match regAt w.1 with
  | some (.xeClassA, _) => (w.1, setBit w.2 29 (applyHalf s))
  | some (.tgtGcfgA, [p]) => if (gatePorts s base).contains p then (w.1, setBit w.2 30 (gateMemory s base p == 1)) else w
  | _ => w

/-- The values of DOWNSTREAM: the ST registers and node words of QHIER, BUFCFG, FABCFG, GATES, XEUCODE and REGINIT (Table 3.8). -/
def downValues (s : State) (t : Nat) : SMap Word :=
  let b := tunBase t
  let l := [7, 8, 9, 11, 6].flatMap (fun ty => (sectSettings s b ty).writes) ++ regInit s b
  (l.filter (fun w => decide (2 ^ 32 ≤ w.1) || isSt w.1)).foldl (fun m w => m.put w.1 (some (applyValue s b w).2)) {}

/-- Banks of the image that are not bound yet are bound, and cleared first (R203, R261). -/
def bindBanks (s : State) (t : Nat) : State :=
  let b := tunBase t
  let s1 := (tcmBindings s b).foldl (fun u x =>
    if (tcmBank u x.1).st = .unbound ∧ (List.range 96).all (fun q => !(bankUp u q && logicalOf u q == x.1)) then
      setBank (clearBank u x.1) x.1 { st := .inService, width := x.2.1, table := x.2.2 }
    else u) s
  let s2 := (sectSettings s b 4).writes.foldl (fun u w => match regAt w.1 with
    | some (.tblRegion, [r]) => bindRegion u r w.2
    | _ => u) s1
  setKeyBits s2 b (fun t => tblBanks s (t + 1) == 0)

/-- Banks used only by the old image are unbound (Table 3.8, CLEANUP). -/
def unbindBanks (s : State) (t : Nat) : State :=
  let b := tunBase t
  let keep := (tcmBindings s b).map (fun x => x.1)
  let s1 := forEach (List.range 96) (fun p u =>
    if keep.contains (logicalOf u p) then u
    else if bankUp u p then setBank (clearBank (copyStop u p) p) p {}
    else if (tcmBank u p).st = .fenced then setBank u p { tcmBank u p with width := 0, table := 0 }
    else u) s
  let w := (sectSettings s b 4).writes
  forEach (List.range 16) (fun i u =>
    unbindRegion u i (match w.find? (fun x => x.1 == Reg.addr .tblRegion [i]) with | some x => x.2 | none => 0)) s1

/-- Does the image of Tun t set class c valid, in XEUCODE or REGINIT? -/
def setsClass (s : State) (t c : Nat) : Bool :=
  ((sectSettings s (tunBase t) 6).writes ++ regInit s (tunBase t)).any (fun x => x.1 == Reg.addr .xeClassA [c] && tbit x.2 31)

/-- The Tun of the old image: the one in effect, or against a mixed state the other of its two (R122). -/
def oldTun (s : State) (t : Nat) : Option Nat :=
  match s.img.apply.mixed with | some (a, b) => some (if a = t then b else a) | none => s.img.effTun

/-- The values of CLEANUP: classes valid in effect that only the old image sets are removed (Table 3.8). -/
def cleanValues (s : State) (t : Nat) : SMap Word :=
  ((List.range 64).filter (fun c => rb s .xeClassA [c] 31 && !setsClass s t c
      && (match oldTun s t with | some o => setsClass s o c | none => false))).foldl
    (fun m c => m.put (Reg.addr .xeClassA [c]) (some (setBit (regRaw s .xeClassA [c]) 31 false))) {}

/-- The image of Tun t is the one in effect (Table 3.10). -/
def imgInEffect (s : State) (t : Nat) : State :=
  let b := tunBase t
  let s1 := setReg (setReg s .imgActiveId [] (lo32 (imgId s b))) .imgActiveVer [] (lo32 (imgVersion s b))
  let s2 := setReg (setReg s1 .imgActiveLayout [] (lo32 (imgLayout s b))) .imgActiveMeta [] (lo32 (imgMeta s b))
  modImg s2 (fun i => { i with effTun := some t, compat := (compatOf s b).2 })

/-- DONE (Table 3.8). -/
def applyDone (s : State) : State :=
  let t := s.img.apply.tun
  let s1 := modImg (imgInEffect s t) (fun i => { i with half := if hasUcode s t then applyHalf s else i.half })
  let s2 := modApply s1 (fun a => { a with phase := .done, wait := .work, mixed := none, stopping := false })
  updApplied (event (count s2 3 0x20) 0x0C07 t t)

/-- A cold apply may run: R119, and a placement of its banks exists (R260). -/
def coldOk (s : State) (t : Nat) : Bool := applyBase s t && (placement s (tunBase t)).isSome

/-- A cold apply resets the data path and boots it from Tun t (R123): sealed sets that are not armed are dropped. APPLY_STATE returns to
IDLE and ROT_STEP to 0: the model's choice (log entry 56). -/
def coldNow (s : State) (t : Nat) : State :=
  let s1 := if furBusy s then furFlag (dropSealed s) 28 else s
  let s2 := coldReset s1
  let s3 := modImg s2 (fun i => { i with coldWait := none, coldTun := some t, tried := [t], apply := { tun := t } })
  dataUp { s3 with pwr := { s3.pwr with boot := { s3.pwr.boot with t0 := s3.now, cleared := false, tun := some t, done := false } } }

/-- A cold apply waits for an armed set to apply (R123). -/
def coldStart (s : State) (t : Nat) : State :=
  if s.fur.armed then modImg s (fun i => { i with coldWait := some t, apply := { i.apply with tun := t } }) else coldNow s t

/-- A cold apply that cannot be placed: REASON 0x09 (R260). -/
def coldRefused (s : State) (t : Nat) : State :=
  let s1 := loadErr s
  if applyBase s t then modImg s1 (fun i => { i with reason := 9 }) else s1

/-- IMG_APPLY GO with MODE 1 (R123). -/
def applyCold (s : State) (t : Nat) : State := if coldOk s t then coldStart s t else coldRefused s t
/-- IMG_APPLY GO with MODE 0 (R119). -/
def applyHitless (s : State) (t : Nat) : State := if hitlessOk s t then hitlessStart s t none else loadErr s

/-- Fall-back to FROM_TUN (R510): hitless where R119 allows it, else cold with FALLBACK_COLD, else the new Tun stays. -/
def tunFallback (s : State) (reason : Nat) : State :=
  let f := s.upd.fromTun
  let s1 := count (modUpd s (fun u => { u with st := .fallback, applying := false, falling := true, fallReason := reason })) 0x13 0x38
  if hitlessOk s1 f then hitlessStart s1 f none
  else if rb s1 .updCfg [] 31 && coldOk s1 f then coldStart s1 f
  else fallEnd s1 0x2B

/-- The apply of an activation has stopped (Table 18.2): before its values are in effect an armed one returns to VERIFIED with
`reason`; otherwise the device falls back. -/
def updStopped (s : State) (down : Bool) (reason : Nat) : State :=
  if s.upd.falling then fallEnd s 0x2B
  else if s.upd.applying then
    if s.upd.st = .armed ∧ !down then updEvent (modUpd s (fun u => { u with st := .verified, applying := false, reason := reason })) 0x4C05 reason
    else tunFallback s 1
  else s

/-- A load that a stopping apply had asked for goes on for nobody. -/
def loadsLoose (s : State) : State :=
  modSlc s (fun b => { b with loads := ⟨b.loads.entries.map (fun e => (e.1, if e.2.by' = 1 then { e.2 with by' := 0 } else e.2))⟩ })

/-- The load of microcode is over: a cluster that it had paused takes dispatch again (R279). -/
def ucodeOver (s : State) : State :=
  let s1 := if s.xe.load = .drain ∨ s.xe.load = .load then modClu s s.xe.loadClu (fun x => { x with paused := false }) else s
  modXe s1 (fun x => { x with load := .idle })

/-- STOPPED (R122): event 0x0C08 with the phase and the roles done; the state is mixed once DOWNSTREAM is in effect. -/
def applyHalt (s : State) (reason : Nat) : State :=
  let a := s.img.apply
  let s1 := modApply (ucodeOver (loadsLoose s)) (fun a => { a with
    phase := .stopped, wait := .work, stopping := false
    mixed := if a.mixed.isNone && a.down then some (a.tun, s.img.effTun.getD a.tun) else a.mixed })
  updStopped (event s1 0x0C08 a.tun (a.phase.code * 16 + a.step)) a.down reason

/-- Stop a running apply (R118, R122): a commit that is sealed is finished first; a scheduled DOWNSTREAM commit that is not yet
armed is cancelled. -/
def applyStop (s : State) : State :=
  let a := s.img.apply
  if a.phase = .verify ∨ a.phase = .downstream ∨ a.phase = .rotate ∨ a.phase = .cleanup then
    if a.wait = .commit then
      if a.phase = .downstream ∧ a.at'.isSome ∧ s.fur.armed = false then applyHalt (furFlag (dropSealed s) 28) 0x2C
      else modApply s (fun a => { a with stopping := true })
    else applyHalt s 0x2C
  else s

/-- The spare that a rotation loads: the lowest slice that is IDLE or READY. Which of several it is, is the model's choice (log entry
56). -/
def spareSlice (s : State) : Option Nat := (List.range 9).find? (fun i => sliceTakes s i)

/-- A failover runs: the spare is its own (R118). -/
def failoverRuns (s : State) : Bool := !(s.slc.fail.st == .idle || s.slc.fail.st == .noSpare)

/-- ROTATE goes on with the next role, or ends (Table 3.8). -/
def rotateNext (s : State) : State :=
  match s.img.apply.todo with
  | [] => modApply s (fun a => { a with phase := .cleanup, wait := .work })
  | n :: _ =>
    if failoverRuns s then s
    else match spareSlice s with
    | none =>
      if (List.range 9).any (fun i => (sliceOf s i).st == .drain || (sliceOf s i).st == .loading) then s
      else applyHalt s 0x2C
    | some sl =>
      if loadAllowed s sl s.img.apply.tun n then
        modApply (loadStart s sl s.img.apply.tun n 1) (fun a => { a with wait := .load, role := n, todo := a.todo.drop 1 })
      else applyHalt (loadErr s) 0x2C

/-- The roles that a rotation changes, in order: all, or those that do not already run the Tun's program (R122). -/
def rotateRoles (s : State) : List Nat :=
  (List.range 8).filter (fun n => s.img.apply.mixed.isNone || (sliceOf s (ownerOf s n)).tun != s.img.apply.tun)

/-- ROTATE begins. -/
def rotateStart (s : State) : State :=
  let l := rotateRoles s
  rotateNext (modApply s (fun a => { a with phase := .rotate, wait := .work, step := 8 - l.length, todo := l }))

/-- The load of the spare has ended well: its pair is steered to it in a commit of the sequencer (Table 3.8). -/
def rotateSteer (s : State) (sl : Nat) : State :=
  if s.img.apply.phase = .rotate ∧ s.img.apply.wait = .load then
    let n := s.img.apply.role
    let v := setFld (regRaw s .imgSteer []) (4 * n + 3) (4 * n) sl
    modApply (sealValues s (SMap.put {} (Reg.addr .imgSteer []) (some v)) none true false) (fun a => { a with wait := .commit })
  else s

/-- A slice has completed its drain: the role it served is changed. -/
def rotateDrained (s : State) : State :=
  if s.img.apply.phase = .rotate ∧ s.img.apply.wait = .drain then
    rotateNext (modApply s (fun a => { a with wait := .work, step := a.step + 1 }))
  else s

/-- A commit of the sequencer has applied (R120). A rotation whose steering was rejected at the boundary (R111) waits here for a drain
that never ends, until STOP: the model's choice (log entry 56), since the manual gives no outcome. -/
def applyCommitted (s : State) : State :=
  let a := s.img.apply
  if a.wait ≠ .commit then s
  else
    match a.phase with
    | .downstream =>
      let s1 := modApply (bindBanks s a.tun) (fun a => { a with down := true, wait := .work })
      let s2 := if s1.upd.applying && s1.upd.st == .armed then modUpd s1 (fun u => { u with st := .activating }) else s1
      if a.stopping then applyHalt s2 0x2C else rotateStart s2
    | .rotate =>
      let s1 := modApply s (fun a => { a with wait := .drain })
      if a.stopping then applyHalt s1 0x2C else s1
    | .cleanup =>
      let s1 := unbindBanks s a.tun
      if a.stopping then applyHalt s1 0x2C else applyDone s1
    | _ => s

/-- Ports whose list memories are both in use hold DOWNSTREAM back (R562). -/
def gatesFree (s : State) (t : Nat) : Bool := (gatePorts s (tunBase t)).all (fun p => !listsBusy s p)

/-- VERIFY ends: a Tun that fails is not valid, and the apply stops (R122); else DOWNSTREAM begins. -/
def verifyEnd (s : State) : State :=
  let t := s.img.apply.tun
  let r := tunVerify s t
  if r ≠ 0 then applyHalt (loadErr (tunRefused s t r)) r
  else
    modApply s (fun a => { a with phase := .downstream, wait := .work, clus := [] })

/-- A section of the Tun being applied fails its check when it is read again (R101): the Tun is not valid, and the apply stops. -/
def sectBroken (s : State) (t : Nat) : State := applyHalt (loadErr (tunRefused s t 8)) 8

/-- APPLY_PHASE_DONE (R120): the sequencer moves on where the phase's own work is done. -/
def phaseDone (s : State) : State :=
  let a := s.img.apply
  if a.wait ≠ .work ∨ a.stopping then s
  else
    match a.phase with
    | .verify => verifyEnd s
    | .downstream =>
      if furBusy s || (hasUcode s a.tun && !ucodeIn s (applyHalf s)) || !gatesFree s a.tun then s
      else if !devSectsOk s (tunBase a.tun) [4, 5, 6, 7, 8, 9, 11, 12] then sectBroken s a.tun
      else
        let v := downValues s a.tun
        modApply (sealValues (writeLists (ucodeOver s) (tunBase a.tun) true) v a.at' true false) (fun a => { a with wait := .commit })
    | .rotate => rotateNext s
    | .cleanup =>
      if furBusy s then s
      else modApply (sealValues s (cleanValues s a.tun) none true false) (fun a => { a with wait := .commit })
    | _ => s

end Sys2Proof.Machine
end

