-- ==== Sys2Proof/Machine/Failover.lean ====
section
/-! DEFINITION. Steering and the order barrier (R109 to R117), the fence of a slice and of a journal, failover and replay (R190 to
R196, R564). -/

namespace Sys2Proof.Machine

/-- Change the failover. -/
def modFail (s : State) (f : Failover → Failover) : State := modSlc s (fun b => { b with fail := f b.fail })

/-! ## Steering -/

/-- The steering map that the owners in effect make. -/
def steerMap (s : State) : Word :=
  (List.range 8).foldl (fun w n => setFld w (4 * n + 3) (4 * n) (ownerOf s n)) 0

/-- A slice is READY with the role of pair n. -/
def readyFor (s : State) (i n : Nat) : Bool := (sliceOf s i).st == .ready && (sliceOf s i).role == n

/-- R110: the slices are apart, at most 8, and each pair's is its owner, or READY with its role. -/
def steerOk (s : State) (v : Word) : Bool :=
  let f (n : Nat) : Nat := fld v (4 * n + 3) (4 * n)
  (List.range 8).all (fun n => decide (f n ≤ 8) && (f n == ownerOf s n || readyFor s (f n) n)
    && (List.range n).all (fun m => f m != f n))

/-- The four inputs of a pair: two ingress and two egress streams (R111). -/
def pairInputs (n : Nat) : List Nat := [2 * n, 2 * n + 1, 16 + 2 * n, 16 + 2 * n + 1]

/-- Close the barrier of an input: the old slice gets its tokens, at egress by the Ell behind the heads sent before (R113, R114). -/
def barrierClose (s : State) (old new inp : Nat) : State :=
  let s1 := modSlc s (fun b => { b with barrier := b.barrier.put inp (some { old := old, new := new, since := s.now }) })
  if inp < 16 then placeTokens s1 old inp
  else
    let g := inp - 16
    ellPush (modSlc s1 (fun b => { b with egOwner := b.egOwner.put g (some old) })) inp (.barrier g old)

/-! ## Replay -/

/-- Age of an INSEQ value of an input: how many values have been given since. -/
def seqAge (s : State) (inp seq : Nat) : Nat := (s.slc.inseq.get 0 inp + 65536 - seq) % 65536

/-- Insert an entry into a list that runs from the oldest to the youngest of each input. -/
def replayInsert (s : State) (r : Nat × Nat × JEntry) : List (Nat × Nat × JEntry) → List (Nat × Nat × JEntry)
  | [] => [r]
  | x :: rest =>
    let later := x.2.2.head.inp < r.2.2.head.inp
      ∨ (x.2.2.head.inp = r.2.2.head.inp ∧ seqAge s r.2.2.head.inp r.2.2.seq < seqAge s x.2.2.head.inp x.2.2.seq)
    if later then x :: replayInsert s r rest else r :: x :: rest

/-- The unretired, unpunted entries of a slice, input by input in INSEQ order (R195). -/
def replayList (s : State) (i : Nat) : List (Nat × Nat × JEntry) :=
  let x := sliceOf s i
  let l := x.jIn.entries.map (fun e => (0, e.1, e.2)) ++ x.jEg.entries.map (fun e => (1, e.1, e.2))
  (l.filter (fun e => !e.2.2.punted)).foldl (fun m e => replayInsert s e m) []

/-- The entries of failed slice f enter slice i's replay list, ahead of what it has for each input; while the input's barrier
stands against f they pass it (R117, R195). -/
def replayLoad (s : State) (i f : Nat) : State :=
  let l := replayList s f
  modSlice s i (fun x => { x with
    replay := l
    order := (List.range 32).foldl (fun m inp =>
      let q := (l.filter (fun r => r.2.2.head.inp == inp)).map (fun r => r.2.2.seq)
      if q.isEmpty then m else m.upd [] inp (fun o => q ++ o)) x.order
    bypass := (List.range 32).foldl (fun m inp =>
      let q := (l.filter (fun r => r.2.2.head.inp == inp)).map (fun r => r.2.2.seq)
      match s.slc.barrier.find inp with
      | some b => if b.old = f ∧ !q.isEmpty then m.upd [] inp (fun o => o ++ q) else m
      | none => m) x.bypass })

/-- Slice i takes over the work of failed slice f (R195); without f's journal there is nothing to replay (R190). Heads that wait
to return go to slice i (R187). -/
def takeOver (s : State) (i f : Nat) : State :=
  let x := sliceOf s f
  let s1 := modSlice s i (fun y => { y with
    replaying := if x.jOk then some (f, 0, 0) else none
    retq := x.retq.entries.foldl (fun m e => m.upd [] e.1 (fun l => l ++ e.2)) y.retq })
  let s2 := modSlice s1 f (fun y => { y with retq := {} })
  if x.jOk ∧ x.fencing = 0 then replayLoad s2 i f else s2

/-- The failover has completed: a second failed slice is shown from then on (R564). -/
def failoverEnd (s : State) : State :=
  modFail s (fun f => match f.second with
    | some (sl, n) => { st := .noSpare, failed := sl, pair := n, spare := f.spare }
    | none => { f with st := .idle, retried := false })

/-- A pair moves from its owner to slice `new` at a boundary (R107, R113, R114, R195). -/
def steerPair (s : State) (n new : Nat) : State :=
  let old := ownerOf s n
  let s1 := lrnPair (modSlice s new (fun x => { x with st := .active, pair := n })) new n
  let s2 := modSlc s1 (fun b => { b with owner := b.owner.set n n new })
  let s3 := event (count s2 3 0x10) 0x0C05 n (n * 256 + old * 16 + new)
  match (sliceOf s old).st with
  | .active => (pairInputs n).foldl (fun t inp => barrierClose t old new inp) (modSlice s3 old (fun x => { x with st := .drain, pair := n }))
  | .fenced =>
    let s4 := modSlc s3 (fun b => { b with barrier := ⟨b.barrier.entries.map (fun e =>
      (e.1, if e.2.new = old then { e.2 with new := new } else e.2))⟩ })
    let s5 := takeOver s4 new old
    if s.slc.fail.st = .staged ∧ s.slc.fail.failed = old then
      if (sliceOf s5 new).replaying.isSome then modFail s5 (fun f => { f with st := .replay }) else failoverEnd s5
    else s5
  | _ => s3

/-- A steering map takes effect (R111): a pair whose new slice is fenced, or not READY with its role, keeps its slice; the answer
names the slice domains whose values were lost to a fence (R48), coded as in `keyDoms`. -/
def steerApply (s : State) (v : Word) : State × List Nat :=
  let r := (List.range 8).foldl (fun (t : State × List Nat) n =>
    let new := fld v (4 * n + 3) (4 * n)
    if new = ownerOf t.1 n then t
    else if (sliceOf t.1 new).st = .fenced then (t.1, t.2 ++ [6 * 1024 + 18 + new + 1])
    else if decide (new < 9) && readyFor t.1 new n then (steerPair t.1 n new, t.2)
    else (imgFlag t.1 20, t.2)) (s, [])
  (setReg r.1 .imgSteer [] (steerMap r.1), r.2)

/-! ## Failover -/

/-- Gives up (R192, R193): the pair stays unserved. A second failed slice is shown from then on, else this one (R564). -/
def noSpare (s : State) : State :=
  let f := s.slc.fail
  event (failoverEnd (modFail s (fun x => { x with st := .noSpare, second := x.second.or (some (x.failed, x.pair)) })))
    0x1804 f.failed (f.failed * 256 + f.pair)

/-- The spare: neither ACTIVE nor FENCED, with its journal; an eligible one first (R192, R193). -/
def failSpare (s : State) (d : Nat) : Option Nat :=
  let c := (List.range 9).filter (fun i => let x := sliceOf s i; x.jOk && x.st != .active && x.st != .fenced)
  match c.find? (fun i => (sliceOf s i).st == .ready && (sliceOf s i).digest == d) with
  | some i => some i
  | none => c.head?

/-- Is a slice READY with the failed slice's program: by its digest, or because the failover has loaded it (R192)? -/
def eligible (s : State) (i : Nat) : Bool :=
  let f := s.slc.fail
  let x := sliceOf s i
  x.st == .ready && (x.digest == (sliceOf s f.failed).digest || (f.st == .loading && x.role == f.pair))

/-- Load the failed role into the spare from the failed slice's Tun (R192). -/
def failLoad (s : State) (i : Nat) : State :=
  let f := s.slc.fail
  let t := (sliceOf s f.failed).tun
  if loadAllowed s i t f.pair then loadStart (modFail s (fun x => { x with st := .loading, spare := i })) i t f.pair 2
  else noSpare (loadErr s)

/-- What firmware does next with a failover that has no value staged (R192, R193). A spare in DRAIN is waited for, and so is the load that
the failover itself runs; a spare that is LOADING for another leaves the pair unserved. -/
def failPlan (s : State) : State :=
  let f := s.slc.fail
  match failSpare s (sliceOf s f.failed).digest with
  | none => noSpare s
  | some i =>
    let s1 := modFail s (fun x => { x with spare := i })
    match (sliceOf s i).st with
    | .drain => s1
    | .loading => if f.st = .loading then s1 else noSpare s1
    | _ => if eligible s i then s1 else if rb s .slcFailoverCfg [] 30 then failLoad s1 i else noSpare s1

/-- An ACTIVE slice has failed: a failover starts with EN (R192); a second failure during one gets no spare (R564). -/
def failStart (s : State) (i n : Nat) : State :=
  if !rb s .slcFailoverCfg [] 31 then s
  else if failoverRuns s then
    if s.slc.fail.spare = i ∧ s.slc.fail.st = .replay then noSpare s
    else event (modFail s (fun x => { x with second := some (i, n) })) 0x1804 i (i * 256 + n)
  else
    let s1 := modFail s (fun _ => { st := .fencing, failed := i, pair := n })
    if s.upd.paused then s1 else failPlan s1

/-- The value PAIRn := spare laid over a steering value: another field that names the spare is discarded (R194). -/
def failValue (s : State) (v : Word) : Word × Bool :=
  let f := s.slc.fail
  let l := (List.range 8).filter (fun m => m != f.pair && fld v (4 * m + 3) (4 * m) == f.spare)
  (setFld (l.foldl (fun w m => setFld w (4 * m + 3) (4 * m) (ownerOf s m)) v) (4 * f.pair + 3) (4 * f.pair) f.spare, !l.isEmpty)

/-- Firmware stages and seals the failover value (R194). -/
def failStage (s : State) : State :=
  let f := s.slc.fail
  let k := Reg.addr .imgSteer []
  let s1 := modSlice s f.spare (fun x => { x with role := f.pair })
  let told (t : State) : State :=
    event (modFail t (fun x => { x with st := .staged })) 0x1803 f.failed (f.failed * 256 + f.spare * 16 + f.pair)
  if s.fur.pend then
    let v := failValue s ((s.fur.sld.find k).getD (regRaw s .imgSteer []))
    let s2 := modFur s1 (fun x => { x with sld := x.sld.put k (some v.1), byFail := true })
    told (if v.2 then imgFlag s2 20 else s2)
  else
    told (sealValues s1 (SMap.put {} k (some (setFld (regRaw s .imgSteer []) (4 * f.pair + 3) (4 * f.pair) f.spare))) none false true)

/-- FAILOVER_STAGE (R194): it waits for a spare, for a sealing and for an armed set, and through a firmware pause (R508). -/
def failoverStage (s : State) : State :=
  let f := s.slc.fail
  if s.upd.paused ∨ !(f.st = .fencing ∨ f.st = .loading) then s
  else
    let s1 := if f.st = .fencing then failPlan s else s
    if (s1.slc.fail.st = .fencing ∨ s1.slc.fail.st = .loading) ∧ eligible s1 s1.slc.fail.spare ∧ s1.fur.armed = false
        ∧ s1.fur.sealing.isNone then failStage s1
    else s1

/-- A load for failover has failed: once more, then it gives up (R193). -/
def failLoadFailed (s : State) : State :=
  let f := s.slc.fail
  if f.st ≠ .loading then s
  else if f.retried then noSpare s
  else failLoad (modFail s (fun x => { x with retried := true })) f.spare

/-! ## Fences -/

/-- Frames of a slice that wait at the MACs are taken back: their entries stay, and they are replayed (R191). -/
def macTakeBack (s : State) (i : Nat) : State :=
  forEach (List.range 128) (fun p t =>
    let x := portOf t p
    if x.txq.any (fun f => f.slice == i) then setPort t p { x with txq := x.txq.filter (fun f => f.slice != i) } else t) s

/-- Slice i stops: what is inside it goes, its journal stays, and fence markers go behind what it has sent (R191). The cycles in which the
discarded heads entered have no outcome at stage 23 exit and are charged FROZEN: DESIGN CHOICE (log entry 59). -/
def sliceStop (s : State) (i : Nat) : State :=
  let x := sliceOf s i
  let n := x.pair
  let live := x.st == .active || x.st == .drain
  let s0 := forEach (List.range 6) (fun t u =>
    bumpN u (cOff 6 (i * 0x8000 + t * 0x40 + 56)) ((trackOf s i t).flights.filter (fun f => f.seq.isSome && !f.token)).length) s
  let s1 := modSlice s0 i (fun y => { y with
    st := .fenced, tracks := {}, order := {}, tokens := {}, tokWait := [], hold := {}, stalled := {}, replay := [], bypass := {}, replaying := none
    fencing := if live then 2 else 0 })
  let s2 := modSlc (macTakeBack s1 i) (fun b => { b with egOwner := ⟨b.egOwner.entries.filter (fun e => e.2 != i)⟩ })
  if live then ellPush (ellPush s2 (2 * n) (.fence (2 * n) i)) (2 * n + 1) (.fence (2 * n + 1) i) else s2

/-- The load that a fault in its slice ends (Table 3.7): whoever asked for it is told. -/
def loadBroken (s : State) (i reason : Nat) : State :=
  match s.slc.loads.find i with
  | none => s
  | some l =>
    let s1 := loadFail s i reason
    if l.by' = 1 then applyHalt s1 0x2C else if l.by' = 2 then failLoadFailed s1 else s1

/-- Fence the pipeline of slice i (R118, R191, R192); a slice that is being loaded becomes IDLE instead (Table 3.7). -/
def sliceFence (s : State) (i : Nat) : State :=
  let x := sliceOf s i
  match x.st with
  | .fenced => s
  | .loading => loadBroken s i 0x10
  | _ =>
    let s1 := condRise (setFenced (copyDrop (sliceStop s i) i) 6 i true) 6 6 i (lo32 i) 0
    let s2 := applyStop (dropLost s1)
    if x.st = .active then failStart s2 i x.pair
    else if failoverRuns s2 && s2.slc.fail.spare == i && (s2.slc.fail.st == .staged || s2.slc.fail.st == .fencing || s2.slc.fail.st == .loading)
    then noSpare s2
    else s2

/-- The echo of a fence marker is back, with every report before it (R191): with the last one a slice that took over may replay. -/
def fenceEcho (s : State) : State :=
  match s.slc.echoes with
  | [] => s
  | i :: rest =>
    let s1 := (List.range s.slc.reports.length).foldl (fun t _ => admitReport t) (modSlc s (fun b => { b with echoes := rest }))
    let s2 := modSlice s1 i (fun x => { x with fencing := x.fencing - 1 })
    if (sliceOf s2 i).st = .fenced ∧ (sliceOf s2 i).fencing = 0 then
      let n := (sliceOf s2 i).pair
      let own := ownerOf s2 n
      match (List.range 9).find? (fun j => match (sliceOf s2 j).replaying with | some (f, _, _) => f == i | none => false) with
      | some j => replayLoad s2 j i
      -- a slice that failed in DRAIN replays into the slice that now owns its former pair (R117)
      | none => if own ≠ i ∧ (sliceOf s2 own).replaying.isNone then takeOver s2 own i else s2
    else s2

/-- Every entry has been replayed (R195, R199). -/
def replayDone (s : State) (i : Nat) : State :=
  match (sliceOf s i).replaying with
  | none => s
  | some (f, a, b) =>
    if (sliceOf s i).replay.isEmpty ∧ (sliceOf s f).fencing = 0 then
      let s1 := event (modSlice s i (fun x => { x with replaying := none })) 0x1802 i (min 0xFFFF a * 65536 + min 0xFFFF b)
      if s.slc.fail.st = .replay ∧ s.slc.fail.failed = f then failoverEnd s1 else s1
    else s

/-- The order of a slice's inputs without the places of heads that it was still to replay. -/
def replayedOut (x : SliceSt) : SMap (List Nat) :=
  x.replay.foldl (fun m r => m.upd [] r.2.2.head.inp (fun l => l.erase r.2.2.seq)) x.order

/-- The journal domain of slice i fails (R190): its unretired heads are lost, and an ACTIVE slice is replaced without replay.
Their bodies are given up (R289), and a slice that was replaying them replays no more. -/
def jrnlFail (s : State) (i : Nat) : State :=
  let x := sliceOf s i
  if !x.jOk then s
  else
    let n := x.jIn.entries.length + x.jEg.entries.length
    let s0 := (x.jIn.entries ++ x.jEg.entries).foldl (fun t e => dropBody t e.2.head) s
    let s1 := forEach (List.range 9) (fun j t => modSlice t j (fun y => match y.replaying with
      | some (f, _, _) => if f = i then { y with replay := [], bypass := {}, order := replayedOut y } else y
      | none => y)) (modSlice s0 i (fun y => { y with jIn := {}, jEg := {}, jOk := false }))
    let s2 := bumpN s1 (cOff 6 (i * 0x8000 + 0x248)) n
    let s3 := condRise (setFenced s2 6 (16 + i) true) 6 4 i (lo32 (min 0xFFFF n)) 0
    if x.st = .active ∨ x.st = .drain then sliceFence s3 i else s3

/-! ## Barriers and drain -/

/-- May the barrier of an input open (R114, R117)? -/
def barrierReady (s : State) (inp : Nat) (b : Barrier) : Bool :=
  let o := sliceOf s b.old
  let n := sliceOf s b.new
  if o.st = .fenced then
    o.fencing == 0 && (n.bypass.get [] inp).isEmpty && (nextReplay n inp).isNone
      && (!o.jOk || ((replayList s b.old).filter (fun r => r.2.2.head.inp == inp)).isEmpty)
  else o.tokens.get 0 inp == 0 && (decide (inp < 16) || s.slc.egOwner.find (inp - 16) != some b.old)

/-- A slice in DRAIN has settled everything it received (R116). -/
def drainReady (s : State) (i : Nat) : Bool :=
  let x := sliceOf s i
  x.st == .drain && s.slc.barrier.entries.all (fun e => e.2.old != i) && x.jIn.entries.isEmpty
    && x.jEg.entries.all (fun e => !e.2.punted)

/-- DRAIN ends (R107): READY, event 0x0C06. -/
def drainDone (s : State) (i : Nat) : State :=
  if drainReady s i then
    let s1 := copySrcGone (event (modSlice s i (fun x => { x with st := .ready, order := {}, tokens := {} })) 0x0C06 i i) i
    if (sliceOf s i).pair = s.img.apply.role then rotateDrained s1 else s1
  else s

/-- A load has ended, well or badly: whoever asked for it goes on. -/
def sliceLoadDone (s : State) (i : Nat) : State :=
  match s.slc.loads.find i with
  | none => s
  | some l =>
    let s1 := loadEnd s i
    if (sliceOf s1 i).st = .ready then (if l.by' = 1 then rotateSteer s1 i else s1)
    else if l.by' = 1 then applyHalt s1 0x2C
    else if l.by' = 2 then failLoadFailed s1
    else s1

/-! ## Commands -/

/-- SLICE_LOAD_DONE (R107). -/
def execSliceLoadDone (sl : Fin 9) (s : State) : Res := ok (if onData s then sliceLoadDone s sl.val else s)
/-- SLICE_FENCE (R191): an uncorrectable error in a program memory (false) or in local SRAM (true), Table 16.8. -/
def execSliceFence (sl : Fin 9) (local' : Bool) (s : State) : Res :=
  ok (if sliceLive s sl.val then sliceFence (faultRise0 s 6 (if local' then 2 else 1) sl.val) sl.val else s)
/-- JRNL_DOMAIN_FAIL (R190). -/
def execJrnlDomainFail (sl : Fin 9) (s : State) : Res :=
  ok (if onData s && domOn s (27 + sl.val) then jrnlFail s sl.val else s)
/-- FENCE_ECHO_RX (R191). -/
def execFenceEchoRx (s : State) : Res := ok (if onData s then fenceEcho s else s)
/-- FAILOVER_STAGE (R194). -/
def execFailoverStage (s : State) : Res := ok (if onData s then failoverStage s else s)
/-- REPLAY_COMPLETE (R195). -/
def execReplayComplete (sl : Fin 9) (s : State) : Res := ok (if onData s then replayDone s sl.val else s)
/-- BARRIER_OPEN (R114, R117). -/
def execBarrierOpen (inp : Fin 32) (s : State) : Res :=
  ok (match s.slc.barrier.find inp.val with
    | some b => if onData s && barrierReady s inp.val b then barrierOpen s inp.val else s
    | none => s)
/-- DRAIN_COMPLETE (R116). -/
def execDrainComplete (sl : Fin 9) (s : State) : Res := ok (if onData s then drainDone s sl.val else s)

end Sys2Proof.Machine
end

