-- ==== Sys2Proof/Machine/Link.lean ====
section
/-! DEFINITION. The link of a line port: alignment and faults in SYNC and UP, the loss of a lane, and the recovered clock outputs
(chapter Line Ports). -/

namespace Sys2Proof.Machine

/-- Is the group's framer in frame, as the SYNC condition of an OTN client asks (R143, R157)? -/
def otnInFrame (s : State) (g : Nat) : Bool :=
  let o := s.lp.otn.get {} g
  o.laneLock == 0xFF && !o.skewBig && (List.range (otnN s g)).all (fun i => (o.inst.get {} i).inFrame && (o.inst.get {} i).im)

/-- FEC and PCS are aligned on all lanes of the port: the receiver says so, every lane has signal and CDR lock (R140), and in OTN mode the
framer is in frame (R143). -/
def aligned (s : State) (p : Nat) : Bool :=
  (portOf s p).pcs && (portLanes s p).all (fun n => laneLocked s n && rb s .lpLaneStatus [n / 8, n % 8] 31)
    && (!grpOtn s (p / 8) || otnInFrame s (p / 8))

/-- A link fails in UP: LINK falls, the port goes to SYNC, and a frame that is being transmitted is ended with an error and not sent
again (Table 4.3, R141). -/
def linkDrop (s : State) (p reason : Nat) (midFrame : Bool) : State :=
  let s1 := enterPort (linkFall s p reason) p .sync true
  match midFrame, (portOf s1 p).txq with
  | true, f :: _ => macPop (countLp s1 p 0x48) p f
  | _, _ => s1

/-- A port in SYNC or UP follows its alignment and the remote fault it receives (Table 4.3): in SYNC alignment without fault begins or
breaks, and in UP a fault takes the link down. A local fault sends remote fault to the partner (R140). LF shows it in SYNC and UP only: DESIGN
CHOICE (log entry 57). -/
def lineEval (s : State) (p : Nat) (midFrame : Bool) : State :=
  let x := portOf s p
  let a := aligned s p
  let y := { x with align := a, lf := !a, rfTx := !a, alignAt := if a then some (x.alignAt.getD s.now) else none }
  match x.st with
  | .sync => setPort s p { y with goodAt := if a && !x.rf then some (x.goodAt.getD s.now) else none }
  | .up => if a && !x.rf then setPort s p y
    else linkDrop (setPort s p { y with goodAt := none }) p (if a then 1 else 0) midFrame
  | _ => s

/-- The port follows, where whether a frame is being transmitted is a free value. -/
def lineFollow (s : State) (p : Nat) : State :=
  if (portOf s p).st = .up then lineEval (draw s).2 p ((draw s).1 % 2 == 1) else lineEval s p false

/-- The framer of a group has changed: the conditions of its defects and the client's port follow (R162, R164). -/
def otnFollow (s : State) (g : Nat) : State :=
  let o := s.lp.otn.get {} g
  lineFollow (modLp s (fun l => { l with otn := l.otn.set {} g { o with conds := otnConds s g o.conds } })) (8 * g)

/-- A lane loses signal or CDR lock: its port loses alignment (R140). -/
def laneLost (s : State) (n : Nat) : State :=
  let s1 := setLane s n false false
  let s2 := match portOfLane s1 n with
    | some p => setPort s1 p { portOf s1 p with pcs := false }
    | none => s1
  if grpOtn s2 (n / 8) then
    let o := s2.lp.otn.get {} (n / 8)
    otnFollow (modLp s2 (fun l => { l with otn := l.otn.set {} (n / 8) { o with laneLock := o.laneLock &&& (255 - 1 <<< (n % 8)) } })) (n / 8)
  else match portOfLane s2 n with
    | some p => lineFollow s2 p
    | none => s2

/-! ## Recovered clock outputs -/

/-- Output j follows the lane it should after a change: state 0 primary, 1 backup, 2 squelched (R148). -/
def synceSet (s : State) (j st : Nat) : State :=
  let lane := if st = 1 then rf s .lpSynceCfg [j] 22 16 else rf s .lpSynceCfg [j] 6 0
  let s1 := setRB (setRB s .lpSynceCfg [j] 28 (st == 2)) .lpSynceCfg [j] 27 (st == 1)
  event s1 0x1006 j (lane <<< 8 ||| st)

/-- The present state of output j. -/
def synceState (s : State) (j : Nat) : Nat :=
  if rb s .lpSynceCfg [j] 28 then 2 else if rb s .lpSynceCfg [j] 27 then 1 else 0

/-- The lane whose clock output j carries; none while it is held low. -/
def synceSrc (s : State) (j : Nat) : Option Nat :=
  if !rb s .lpSynceCfg [j] 31 || synceState s j == 2 then none
  else some (if synceState s j = 1 then rf s .lpSynceCfg [j] 22 16 else rf s .lpSynceCfg [j] 6 0)

/-- The source lane of output j is lost (R148). -/
def synceLoss (s : State) (j : Nat) : State :=
  let st := synceState s j
  let s1 := laneLost s (if st = 1 then rf s .lpSynceCfg [j] 22 16 else rf s .lpSynceCfg [j] 6 0)
  if st = 2 ∨ ¬ rb s .lpSynceCfg [j] 31 then s1
  else if st = 0 ∧ rb s .lpSynceCfg [j] 29 ∧ laneLocked s1 (rf s .lpSynceCfg [j] 22 16) then synceSet s1 j 1
  else synceSet s1 j 2

/-- A squelched output restarts on PRIMARY when that lane regains lock (R148). -/
def synceRelock (s : State) (j : Nat) : State :=
  let s1 := setLane s (rf s .lpSynceCfg [j] 6 0) true true
  if synceState s j = 2 ∧ rb s .lpSynceCfg [j] 31 then synceSet s1 j 0 else s1

/-- A write of LP_SYNCE_CFG returns the output to PRIMARY, or to BACKUP or squelch where PRIMARY is not locked, and with EN = 0 holds it low
(R148). A change of the lane it carries is reported. With EN = 0, SQUELCHED and ON_BACKUP read 0 as after reset, and the event has state 2:
DESIGN CHOICE (log entry 57). -/
def synceWrite (s : State) (j : Nat) (v : Word) : State :=
  let s1 := setReg s .lpSynceCfg [j] (v &&& 0xE07F007F)
  let want := if ¬ tbit v 31 ∨ laneLocked s1 (fld v 6 0) then 0
    else if tbit v 29 ∧ laneLocked s1 (fld v 22 16) then 1 else 2
  let s2 := setRB (setRB s1 .lpSynceCfg [j] 28 (want == 2)) .lpSynceCfg [j] 27 (want == 1)
  if synceSrc s2 j = synceSrc s j then s2
  else event s2 0x1006 j ((synceSrc s2 j).getD (fld v 6 0) <<< 8 ||| (if tbit v 31 then want else 2))

/-! ## Commands -/

/-- SYNC_STABLE (R138): alignment without fault has held for UP_STABLE. -/
def execSyncStable (p : Fin 128) (s : State) : Res :=
  let x := portOf s p.val
  ok (match x.st, x.goodAt with
    | .sync, some t =>
      if t + rf s .lpPortCfg [p.val / 8, p.val % 8] 23 16 * 1000000 ≤ s.now then
        let s1 := setPort s p.val { x with st := .up, since := s.now, link := true, linkq := x.linkq ++ [true], fails := 0 }
        event s1 0x1001 p.val (rf s .lpGrpMode [p.val / 8] 30 29 <<< 8 ||| portWidth (grpStarts s (p.val / 8)) (p.val % 8))
      else s
    | _, _ => s)

/-- LINK_FAULT (R140, R141): the receive condition of the port as it now is. `midFrame` says that a frame is being transmitted. -/
def execLinkFault (p : Fin 128) (remote : Bool) (rx : LineRx) (midFrame : Bool) (s : State) : Res :=
  let g := p.val / 8
  ok (if grpLive s g && portExists s p.val then
      let s1 := forEach (portLanes s p.val) (fun n t => setLane t n (rx.sig.toNat.testBit (n % 8)) (rx.cdr.toNat.testBit (n % 8))) s
      let s2 := if (portOf s1 p.val).st = .sync ∨ (portOf s1 p.val).st = .up
        then setPort s1 p.val { portOf s1 p.val with pcs := rx.align, rf := remote } else s1
      let o := s2.lp.otn.get {} g
      let s3 := if grpOtn s2 g then
          let s' := modLp s2 (fun l => { l with otn := l.otn.set {} g { o with laneLock := (rx.sig &&& rx.cdr &&& rx.lock).toNat } })
          modLp s' (fun l => { l with otn := l.otn.upd {} g (fun o => { o with conds := otnConds s' g o.conds }) })
        else s2
      lineEval s3 p.val midFrame
    else s)

/-- SYNCE_LANE_LOSS (R148). -/
def execSynceLaneLoss (j : Fin 2) (s : State) : Res := ok (if onData s then synceLoss s j.val else s)

/-- SYNCE_RELOCK (R148). -/
def execSynceRelock (j : Fin 2) (s : State) : Res := ok (if onData s then synceRelock s j.val else s)

end Sys2Proof.Machine
end

