-- ==== Sys2Proof/Machine/Otn.lean ====
section
/-! DEFINITION. OTN line framing: the hunter, the multiframe, overhead, trace identifiers and defects
(chapter OTN Line Framing). -/

namespace Sys2Proof.Machine

/-- A group's framer. -/
def otnOf (s : State) (g : Nat) : OtnGrp := s.lp.otn.get {} g

/-- Write a group's framer. -/
def setOtn (s : State) (g : Nat) (o : OtnGrp) : State := modLp s (fun l => { l with otn := l.otn.set {} g o })

/-- Write one instance. -/
def setInst (s : State) (g i : Nat) (x : OtnInst) : State :=
  setOtn s g { otnOf s g with inst := (otnOf s g).inst.set {} i x }

/-- Count in an OTN counter of the group (R168). -/
def countOtn (s : State) (g off n : Nat) : State := bumpN s (cOff 5 (g * 0x8000 + off)) n

/-- The framer of the group runs: OTN mode, group in service. -/
def otnRuns (s : State) (g : Nat) : Bool := grpLive s g && grpOtn s g

/-- The hunter sees the word at an offset (Table 5.2). -/
def fasSighting (s : State) (g i off : Nat) : State :=
  let x := (otnOf s g).inst.get {} i
  if x.inFrame ∨ x.cands.any (fun c => c.1 == off) then s
  else if 4 ≤ x.cands.length then countOtn s g 0x38 1
  else if x.bars.contains off then s
  else setInst s g i { x with cands := x.cands ++ [(off, 1, s.now)] }

/-- One frame period after a candidate's last sighting (Table 5.2). The period is 6,227.7 ns. -/
def candidateCheck (s : State) (g i off : Nat) (present : Bool) : State :=
  let x := (otnOf s g).inst.get {} i
  match x.cands.find? (fun c => c.1 == off) with
  | none => s
  | some (_, n, at') =>
    if x.inFrame ∨ s.now < at' + 6227 then s
    else if !present then setInst s g i { x with cands := x.cands.filter (fun c => c.1 != off) }
    else if n + 1 = 3 then
      setInst s g i { x with inFrame := true, locked := off, cands := [], bars := [], miss := 0, ifAt := s.now,
                             im := false, imOk := false, mfas := none, good := 0, bad := 0 }
    else setInst s g i { x with cands := x.cands.map (fun c => if c.1 == off then (off, n + 1, s.now) else c) }

/-- The word at the locked offset, frame by frame (Table 5.2). -/
def lockedCheck (s : State) (g i : Nat) (present : Bool) : State :=
  let x := (otnOf s g).inst.get {} i
  if !x.inFrame then s
  else if present then setInst s g i { x with miss := 0 }
  else if x.miss + 1 = 5 then
    countOtn (setInst s g i { x with inFrame := false, im := false, miss := 0, bars := [], cands := [] }) g 0x30 1
  else setInst s g i { x with miss := x.miss + 1 }

/-- Bar an offset; a fifth bar replaces the oldest (R156). -/
def addBar (bars : List Nat) (off : Nat) : List Nat := (bars ++ [off]).drop (bars.length + 1 - 4)

/-- No multiframe alignment within 2 ms of IF (Table 5.2). -/
def mfTimeout (s : State) (g i : Nat) : State :=
  let x := (otnOf s g).inst.get {} i
  if x.inFrame ∧ ¬ x.imOk ∧ x.ifAt + 2000000 ≤ s.now then
    countOtn (setInst s g i { x with inFrame := false, im := false, bars := addBar x.bars x.locked, cands := [] }) g 0x30 1
  else s

/-- MFAS of a frame: in multiframe after two consecutive frames whose values increase by one (2,325 ns after IF in Table 5.3, which is
two OTUC frames), out after five mismatches (R157). DEDUCED. -/
def OtnInst.mf (x : OtnInst) (m now : Nat) : OtnInst :=
  match x.mfas with
  | none => { x with mfas := some m }
  | some l =>
    if m = (l + 1) % 256 then
      { x with mfas := some m, good := x.good + 1, bad := 0, im := true, imOk := x.imOk || decide (now < x.ifAt + 2000000) }
    else { x with mfas := some m, good := 0, bad := x.bad + 1, im := x.im && decide (x.bad + 1 < 5) }

/-- A run of equal values. -/
def runStep (r : Bool × Nat) (v : Bool) : Bool × Nat := if r.1 = v then (v, r.2 + 1) else (v, 1)

/-- A defect changes: its live bit, its latch, and event 0x1401 or 0x1402 unless masked (R162). -/
def setDefect (s : State) (g d : Nat) (v : Bool) : State :=
  let o := otnOf s g
  if o.live.testBit d = v then s
  else
    let s1 := setOtn s g { o with live := if v then o.live ||| 1 <<< d else o.live - 1 <<< d }
    let s2 := if v then setRF s1 .otnDefLatch [g] 15 0 (rf s1 .otnDefLatch [g] 15 0 ||| 1 <<< d) else s1
    if (rf s .otnCfg [g] 15 0).testBit d then s2 else event s2 (if v then 0x1401 else 0x1402) g d

/-- Any of dLOS, dLOL, dLOF, dLOM, dGIDM (R163). -/
def otnHeld (s : State) (g : Nat) : Bool := decide ((otnOf s g).live / 2048 ≠ 0)

/-- The expected bytes of a layer, SAPI then DAPI (OTN_x_TTI_EXP_w). -/
def ttiExp (s : State) (g : Nat) (pm : Bool) : List Byte :=
  (List.range 8).flatMap (fun w => beBytes 4 (regRaw s (if pm then .otnPmTtiExp else .otnSmTtiExp) [g, w]).toNat)

/-- Does the accepted TTI differ from the expected one under the layer's TIM mode (Table 5.4)? -/
def ttiDiffers (s : State) (g : Nat) (pm : Bool) : Bool :=
  match (if pm then (otnOf s g).pm.acc else (otnOf s g).sm.acc) with
  | none => false
  | some a =>
    let e := ttiExp s g pm
    match (if pm then rf s .otnCfg [g] 23 22 else rf s .otnCfg [g] 25 24) with
    | 0 => false
    | 1 => a.take 16 != e.take 16
    | 2 => (a.drop 16).take 16 != (e.drop 16).take 16
    | _ => a.take 32 != e.take 32

/-- dSM_TIM or dPM_TIM follows the comparison, unless held or no TTI has been accepted since the integration began (R161 to R163). -/
def timEval (s : State) (g : Nat) (pm : Bool) : State :=
  if otnHeld s g || !(if pm then (otnOf s g).pm.cmp else (otnOf s g).sm.cmp) then s
  else setDefect s g (if pm then 6 else 10) (ttiDiffers s g pm)

/-- Mode 0 written for a layer clears its TIM defect (Table 5.5). -/
def timClear (s : State) (g : Nat) (pm : Bool) : State :=
  if otnRuns s g && (if pm then rf s .otnCfg [g] 23 22 else rf s .otnCfg [g] 25 24) == 0 then setDefect s g (if pm then 6 else 10) false else s

/-- A write of OTN_CFG: the modes take effect at once, the expected values at the next comparison (R161, R164, R166). -/
def otnCfgWrite (s : State) (g : Nat) (v : Word) : State :=
  timClear (timClear (setReg s .otnCfg [g] (v &&& 0xFFC0FFFF)) g false) g true

/-- The hold of R163 begins: bits 10 to 1 go to 0 without events, and which of the two TIM defects stood is kept. -/
def holdBegin (s : State) (g : Nat) : State :=
  let o := otnOf s g
  setOtn s g { o with heldTim := (o.live.testBit 10, o.live.testBit 6), live := o.live / 2048 * 2048 }

/-- The hold ends: integration starts afresh, and a TIM defect that stood sets again if the accepted value still differs. -/
def holdEnd (s : State) (g : Nat) : State :=
  let o := otnOf s g
  let s1 := setOtn s g { o with statRun := 0, smBdi := (false, 0), pmBdi := (false, 0), smIae := (false, 0),
                                smSec := (false, 0), pmSec := (false, 0), heldTim := (false, false),
                                sm := { o.sm with run := 0, cmp := o.heldTim.1 }, pm := { o.pm with run := 0, cmp := o.heldTim.2 } }
  let s2 := if o.heldTim.1 && ttiDiffers s1 g false then setDefect s1 g 10 true else s1
  if o.heldTim.2 && ttiDiffers s2 g true then setDefect s2 g 6 true else s2

/-- Change one of the defects 15 to 11, with the hold of R163. -/
def setAlignDefect (s : State) (g d : Nat) (v : Bool) : State :=
  let s1 := setDefect s g d v
  if otnHeld s g = otnHeld s1 g then s1
  else if otnHeld s1 g then holdBegin s1 g else holdEnd s1 g

/-- Differing bits of two bytes. -/
def bitDiff (a b : BitVec 8) : Nat := ((List.range 8).filter (fun i => (a ^^^ b).toNat.testBit i)).length

/-- BEI received: 0 to 8, with 0b1011 and the other codes counted as 0 (R159). -/
def beiVal (b : BitVec 4) : Nat := if b.toNat ≤ 8 then b.toNat else 0

/-- One TTI byte of a 64-frame multiframe (R161): answers the trace and whether a new TTI was accepted. A multiframe whose 64 positions do not
arrive in order carries no 64 bytes and breaks the run. -/
def ttiByte (t : TtiSt) (pos : Nat) (b : Byte) : TtiSt × Bool :=
  if pos ≠ t.got then ({ t with buf := if pos = 0 then t.buf.set 0 0 b else t.buf, got := if pos = 0 then 1 else 0, run := 0 }, false)
  else
    let t1 := { t with buf := t.buf.set 0 pos b, got := (pos + 1) % 64 }
    if pos = 63 then
      let full := (List.range 64).map (fun i => t1.buf.get 0 i)
      let run := if full = t.last then t.run + 1 else 1
      let fresh := decide (3 ≤ run) && decide (t.acc ≠ some full)
      ({ t1 with last := full, run := run, acc := if 3 ≤ run then some full else t.acc, cmp := t.cmp || decide (3 ≤ run) }, fresh)
    else (t1, false)

/-- A received OTUC frame (R157, R159, R161, R162). -/
def otucRx (s : State) (g : Nat) (f : OtucFrame) : State :=
  let n := otnN s g
  let sl := f.slices.take n
  -- multiframe of each instance
  let inst := (List.range n).foldl (fun (m : SMap OtnInst) i =>
    let x := m.get {} i
    if x.inFrame then m.set {} i (x.mf ((sl.map (fun y => y.mfas.toNat)).getD i 0) s.now) else m) (otnOf s g).inst
  let s0 := setOtn s g { otnOf s g with inst := inst, skewBig := f.skewBig }
  -- group and instance IDs
  let bad := !(f.idsOk && decide (f.gid.toNat = rf s .otnGid [g] 19 0))
  let gr := runStep (otnOf s0 g).gid bad
  let s1 := setOtn s0 g { otnOf s0 g with gid := gr }
  let s2 := if 3 ≤ gr.2 then setAlignDefect s1 g 11 bad else s1
  -- BIP and BEI
  let smErr := sl.map (fun y => bitDiff y.smBip y.smBipRx)
  let pmErr := sl.map (fun y => bitDiff y.pmBip y.pmBipRx)
  let smB := (smErr.filter (· ≠ 0)).length
  let pmB := (pmErr.filter (· ≠ 0)).length
  let s3 := setOtn s2 g { otnOf s2 g with smErr := smErr, pmErr := pmErr }
  let s4 := if otnHeld s3 g then s3 else
    let c := countOtn (countOtn (countOtn s3 g 0x00 smErr.sum) g 0x08 ((sl.map (fun y => beiVal y.smBei)).sum)) g 0x10 smB
    let c2 := countOtn (countOtn (countOtn c g 0x18 pmErr.sum) g 0x20 ((sl.map (fun y => beiVal y.pmBei)).sum)) g 0x28 pmB
    setOtn c2 g { otnOf c2 g with smBlk := (otnOf c2 g).smBlk + smB, pmBlk := (otnOf c2 g).pmBlk + pmB }
  -- trace identifiers
  let pos := ((sl.map (fun y => y.mfas.toNat)).getD 0 0) % 64
  let (sm, newSm) := ttiByte (otnOf s4 g).sm pos f.smTti
  let (pm, newPm) := ttiByte (otnOf s4 g).pm pos f.pmTti
  let s5 := setOtn s4 g { otnOf s4 g with sm := sm, pm := pm }
  let s6 := if newSm then event s5 0x1403 g 0 else s5
  let s7 := if newPm then event s6 0x1403 g 1 else s6
  let s8 := if pos = 63 then timEval (timEval s7 g false) g true else s7
  -- BDI, IAE, STAT
  let o := otnOf s8 g
  let st := f.stat.toNat
  let run := if st = o.statLast then o.statRun + 1 else 1
  let o1 := { o with smBdi := runStep o.smBdi f.smBdi, pmBdi := runStep o.pmBdi f.pmBdi, smIae := runStep o.smIae f.smIae,
                     statLast := st, statRun := run, stat := if 3 ≤ run then st else o.stat }
  let s9 := setOtn s8 g o1
  let s10 := if 3 ≤ run ∧ st ≠ o.stat then event s9 0x1404 g st else s9
  if otnHeld s10 g then s10
  else
    let a := if 5 ≤ o1.smBdi.2 then setDefect s10 g 9 f.smBdi else s10
    let b := if 5 ≤ o1.smIae.2 then setDefect a g 8 f.smIae else a
    let c := if 5 ≤ o1.pmBdi.2 then setDefect b g 5 f.pmBdi else b
    if 3 ≤ run then setDefect (setDefect (setDefect c g 3 (st == 7)) g 2 (st == 6)) g 1 (st == 5) else c

/-- Byte `pos` of the TTI a layer sends. -/
def ttiTxByte (s : State) (g : Nat) (pm : Bool) (pos : Nat) : Byte :=
  (beBytes 4 (regRaw s (if pm then .otnPmTtiTx else .otnSmTtiTx) [g, pos / 4]).toNat).getD (pos % 4) 0

/-- BIP-8 of a slice: even parity of each bit position over its bytes (R160). -/
def bip8 (l : List Byte) : Byte := l.foldl (· ^^^ ·) 0

/-- The framer sends a frame whose slices carry `opu` (R160, R154). The BIP-8 sent covers the slice two frames before, as ITU-T G.709 places
it. PRESUMED (log entry 58). With TX_ODU_AIS the ODUCn, its overhead and its payload are all-ones. -/
def otucTx (s : State) (g : Nat) (opu : List (List Byte)) : State :=
  let o := otnOf s g
  let n := otnN s g
  let biae := rb s .otnCfg [g] 26
  let ais := rb s .otnCfg [g] 30
  let bip := o.bips.getD 1 []
  let ones (b : Byte) : Byte := if ais then 0xFF else b
  let t : OtucTx := {
    idle := rb s .otnCfg [g] 31, ais := ais, mfas := o.txMfas
    smBei := (List.range n).map (fun i => if biae then 11 else o.smErr.getD i 0)
    pmBei := (List.range n).map (fun i => if ais then 15 else if biae then 11 else o.pmErr.getD i 0)
    smBdi := rb s .otnCfg [g] 29, pmBdi := ais || rb s .otnCfg [g] 28, smIae := rb s .otnCfg [g] 27
    stat := if ais then 7 else 1
    smTti := ttiTxByte s g false (o.txMfas % 64), pmTti := ones (ttiTxByte s g true (o.txMfas % 64))
    smBip := (List.range n).map (fun i => bip.getD i 0), pmBip := (List.range n).map (fun i => ones (bip.getD i 0))
    gid := rf s .otnGid [g] 19 0
    gcc0 := 0, gcc12 := ones 0, aps := ones 0, ftfl := ones 0, exp := ones 0 }
  let now := (List.range n).map (fun i => bip8 ((opu.getD i []).map ones))
  setOtn s g { o with tx := some t, txMfas := (o.txMfas + 1) % 256, bips := [now, o.bips.getD 0 []] }

/-- The time for which the condition of dLOM, dLOF, dLOL or dLOS (bits 12 to 15) must stand, in ns (Table 5.5). -/
def defectTime (d : Nat) (set : Bool) : Nat :=
  if d = 15 then 10000 else if d = 14 then (if set then 100000 else 1000000) else 3000000

/-- A second ends for the degradation defects (R162). -/
def degLayer (s : State) (g : Nat) (pm : Bool) : State :=
  let o := otnOf s g
  let r : Reg := if pm then .otnDegPm else .otnDegSm
  let thr := max 1 (rf s r [g] 19 0)
  let blk := if pm then o.pmBlk else o.smBlk
  let run := runStep (if pm then o.pmSec else o.smSec) (!otnHeld s g && decide (thr ≤ blk))
  let s1 := setOtn s g (if pm then { o with pmSec := run, pmBlk := 0 } else { o with smSec := run, smBlk := 0 })
  if otnHeld s g ∨ run.2 < clamp 2 10 (rf s r [g] 31 28) then s1 else setDefect s1 g (if pm then 4 else 7) run.1

/-! ## Commands -/

/-- FAS_SIGHTING (R155). -/
def execFasSighting (g i : Fin 16) (offset : Fin 696320) (s : State) : Res :=
  ok (if otnRuns s g.val && decide (i.val < otnN s g.val) then fasSighting s g.val i.val offset.val else s)

/-- CANDIDATE_CHECK (R155). -/
def execCandidateCheck (g i : Fin 16) (offset : Fin 696320) (present : Bool) (s : State) : Res :=
  ok (if otnRuns s g.val && decide (i.val < otnN s g.val) then otnFollow (candidateCheck s g.val i.val offset.val present) g.val else s)

/-- LOCKED_FRAME_CHECK (R155). -/
def execLockedFrameCheck (g i : Fin 16) (present : Bool) (s : State) : Res :=
  ok (if otnRuns s g.val && decide (i.val < otnN s g.val) then otnFollow (lockedCheck s g.val i.val present) g.val else s)

/-- MF_ALIGN_TIMEOUT (R155). -/
def execMfAlignTimeout (g i : Fin 16) (s : State) : Res :=
  ok (if otnRuns s g.val && decide (i.val < otnN s g.val) then otnFollow (mfTimeout s g.val i.val) g.val else s)

/-- OTUC_FRAME_RX (R159). -/
def execOtucFrameRx (g : Fin 16) (f : OtucFrame) (s : State) : Res :=
  ok (if otnRuns s g.val then otnFollow (otucRx s g.val f) g.val else s)

/-- OTUC_FRAME_TX (R160). -/
def execOtucFrameTx (o : OtucOut) (s : State) : Res := ok (if otnRuns s o.g.val then otucTx s o.g.val o.opu else s)

/-- DEFECT_INTEGRATION_TIMER (R162) of dLOM, dLOF, dLOL or dLOS (bits 12 to 15, operand d = 0 to 3): with the lanes that are locked and
deskewed at this instant, the defect sets or clears if its condition has stood for its time. -/
def execDefectIntegrationTimer (g : Fin 16) (d : Fin 4) (set : Bool) (lanes : BitVec 8) (s : State) : Res :=
  ok (if otnRuns s g.val then
      let s1 := otnFollow (setOtn s g.val { otnOf s g.val with laneLock := lanes.toNat }) g.val
      match (otnOf s1 g.val).conds.find (12 + d.val) with
      | some c => if c.1 = set ∧ c.2 + defectTime (12 + d.val) set ≤ s1.now then setAlignDefect s1 g.val (12 + d.val) set else s1
      | none => s1
    else s)

/-- DEG_SECOND (R162). -/
def execDegSecond (g : Fin 16) (s : State) : Res :=
  ok (if otnRuns s g.val && decide ((otnOf s g.val).secAt ≤ s.now) then
      let s1 := degLayer (degLayer s g.val false) g.val true
      setOtn s1 g.val { otnOf s1 g.val with secAt := (otnOf s1 g.val).secAt + 1000000000 }
    else s)

end Sys2Proof.Machine
end

