-- ==== Sys2Proof/Machine/Twin.lean ====
section
/-! DEFINITION. Twin mode (R448 to R450, Table 15.8): the claim of a port group between two devices. -/

namespace Sys2Proof.Machine

/-- Change twin group g. -/
def modTwin (s : State) (g : Nat) (f : TwinGrp → TwinGrp) : State := modFab s (fun x => { x with twin := x.twin.upd {} g f })
/-- TWIN_ACT_OUT of a group: low in the fatal state (R449, R462). -/
def twinActOut (s : State) (g : Nat) : Bool := (twinOf s g).actOut && !s.flt.fatal
/-- PSEL of a group: low while the mate holds the group, and in the fatal state (R449, R462). -/
def twinPsel (s : State) (g : Nat) : Bool := (twinOf s g).psel && !twinHeld s g && !s.flt.fatal

/-- STANDBY, or OFF for a group that is no longer protected. -/
def twinRest (s : State) (g : Nat) : Nat := if twinEn s g then 1 else 0

/-- CLAIMING: ACT_OUT rises. -/
def twinClaiming (s : State) (g : Nat) : State :=
  modTwin s g (fun x => { x with st := 2, actOut := true, roseAt := s.now })

/-- Events of twin mode: 0x400B to 0x400D. -/
def twinEvent (s : State) (g code d : Nat) : State := event s code g d

/-- ACT_IN is high: PSEL is low, and the hardware hold begins (R449, R550). -/
def twinHold (s : State) (g : Nat) : State :=
  modFab (modTwin s g (fun x => { x with actIn := true, psel := false })) (fun x => { x with holds := x.holds ++ [(s.now + 1000, g)] })

/-- Hardware holds end 1 µs after they began where ACT_IN has fallen (R550). -/
def twinHoldsEnd (s : State) : State :=
  let due := s.fab.holds.filter (fun h => decide (h.1 ≤ s.now))
  due.foldl (fun t h => if onData t then twinApply t h.2 else t)
    (modFab s (fun x => { x with holds := x.holds.filter (fun h => decide (s.now < h.1)) }))

/-- ACT_IN rises: PSEL falls, and a group in CONFIRMING, ACTIVE or RELEASING returns to STANDBY. -/
def twinInRise (s : State) (g : Nat) : State :=
  let x := twinOf s g
  let s1 := twinHold s g
  let s2 := if x.st = 5 then twinEvent (modTwin s1 g (fun x => { x with st := twinRest s g })) g 0x400C 0
    else if x.st = 3 ∨ x.st = 4 then
      twinEvent (modTwin s1 g (fun x => { x with st := 1, actOut := false })) g 0x400C 1
    else s1
  twinApply s2 g

/-- CLAIMING has lasted 10 µs: CONFIRMING while ACT_IN is low, else the claim is withdrawn unless PRIMARY. -/
def twinTimer (s : State) (g : Nat) : State :=
  let x := twinOf s g
  if x.st = 2 ∧ x.roseAt + 10000 ≤ s.now then
    if !x.actIn then twinApply (modTwin s g (fun x => { x with st := 3 })) g
    else if rb s .fabTwinCfg [g] 30 then s
    else twinEvent (modTwin s g (fun x => { x with st := 1, actOut := false })) g 0x400D 0
  else s

/-- ACT_IN is low. The first command after a rise is its fall; a claim waits for 10 µs of it (Table 15.8). -/
def twinInLow (s : State) (g : Nat) : State :=
  let x := twinOf s g
  let s1 := if x.actIn then twinApply (modTwin s g (fun x => { x with actIn := false, lowAt := s.now })) g else s
  if (twinOf s1 g).st = 1 ∧ rb s1 .fabTwinCfg [g] 29 ∧ (twinOf s1 g).lowAt + 10000 ≤ s.now then twinClaiming s1 g else twinTimer s1 g

/-- CLAIM. -/
def twinClaim (s : State) (g : Nat) : State :=
  let x := twinOf s g
  if x.actIn then s
  else if x.st = 1 then twinClaiming s g
  else if x.st = 5 then modTwin s g (fun x => { x with st := 4, actOut := true })
  else s

/-- RELEASE. -/
def twinRelease (s : State) (g : Nat) : State :=
  if (twinOf s g).st = 4 then modTwin s g (fun x => { x with st := 5, actOut := false }) else s

/-- EN := 0: an ACTIVE group is released, a RELEASING one goes on, any other is OFF. -/
def twinOff (s : State) (g : Nat) : State :=
  let x := twinOf s g
  if x.st = 4 then twinRelease s g
  else if x.st = 5 then s
  else modTwin s g (fun x => { x with st := 0, actOut := false })

/-- A write of FAB_TWIN_CFG (R450): EN starts or stops the machine, then CLAIM, or RELEASE without CLAIM, acts. -/
def twinCfgWrite (s : State) (g : Nat) (v : Word) : State :=
  let s1 := setReg s .fabTwinCfg [g] (v &&& 0xE0000000)
  let s2 := if tbit v 31 then (if (twinOf s1 g).st = 0 then modTwin s1 g (fun x => { x with st := 1 }) else s1) else twinOff s1 g
  let s3 := if tbit v 28 then twinClaim s2 g else if tbit v 27 then twinRelease s2 g else s2
  twinApply s3 g

/-- Every enabled port of the group has been aligned and without local fault for 100 µs. -/
def twinAligned (s : State) (g : Nat) : Bool :=
  (List.range 8).all (fun i => let p := 8 * g + i
    !(rb s .lpPortCfg [g, i] 31 && portExists s p) || (match (portOf s p).alignAt with | some t => decide (t + 100000 ≤ s.now) | none => false))

/-- CONFIRMING ends: PSEL rises. -/
def twinConfirm (s : State) (g : Nat) (aligned : Bool) : State :=
  let x := twinOf s g
  if x.st = 3 ∧ ((aligned && twinAligned s g) = true ∨ x.roseAt + 1990000 ≤ s.now) then
    let gap := (s.now - x.roseAt) / 1000
    twinEvent (modTwin s g (fun x => { x with st := 4, psel := true, gap := gap % 65536 })) g 0x400B (gap % 65536)
  else s

/-! ## Commands -/

/-- TWIN_ACT_IN_RISE (R142, R449, R450, R550). -/
def execTwinActInRise (g : Fin 16) (s : State) : Res :=
  ok (if onData s then twinInRise s g.val else twinHold s g.val)
/-- TWIN_ACT_IN_LOW (R450). -/
def execTwinActInLow (g : Fin 16) (s : State) : Res :=
  ok (if onData s then twinInLow s g.val else if (twinOf s g.val).actIn then modTwin s g.val (fun x => { x with actIn := false, lowAt := s.now }) else s)
/-- TWIN_CLAIM_TIMER (R450). -/
def execTwinClaimTimer (g : Fin 16) (s : State) : Res := ok (if onData s then twinTimer s g.val else s)
/-- TWIN_CONFIRM (R450). -/
def execTwinConfirm (g : Fin 16) (aligned : Bool) (s : State) : Res := ok (if onData s then twinConfirm s g.val aligned else s)

end Sys2Proof.Machine
end

