-- ==== Sys2Proof/Machine/View.lean ====
section
/-! DEFINITION. What the read-only fields of each register show: fields that follow the device's state and are not bits of the
register's own (field maps of all chapters). `slot` is the adapter slot whose latches apply (R23). -/

namespace Sys2Proof.Machine

/-- Whole units left until an instant, rounded up. -/
def leftUp (s : State) (t unit : Nat) : Nat := (t - s.now + unit - 1) / unit

/-- A word of the slot's latches. -/
def latched (s : State) (slot a : Nat) : Word := s.latch.get 0 (latchKey slot a)

/-- Bits made from a test of each number below `n`. -/
def bitMap (n : Nat) (p : Nat → Bool) : Nat := (List.range n).foldl (fun w i => if p i then w + 2 ^ i else w) 0

/-- DEV_LEASE_OWNER and DEV_LEASE_TK (Table 2.17). -/
def leaseView (s : State) (l : Lease) : Word :=
  let st := match l.st with | .none => 0 | .live => 1 | .handover => 2
  mkF 31 30 st ||| mkF 29 28 (if l.st = .handover then l.succ else l.slot) ||| mkF 27 24 l.prio
    ||| mkF 23 16 (if l.st = .none then 0 else leftUp s l.deadline 1000000) ||| mkF 15 0 l.epoch

/-- DEV registers (Tables 1.7, 1.8, 2.13 to 2.17, 16.5, 16.7). -/
def viewDev (s : State) (slot : Nat) (r : Reg) : Word :=
  match r with
  | .devFurlongStatus => mkB 31 s.fur.pend ||| mkB 30 s.fur.armed ||| mkB 24 s.fur.direct
  | .devFurlongSeqLo => lo32 s.fur.seq
  | .devFurlongSeqHi => latched s slot 0
  | .devFurlongTarget => lo32 s.fur.target
  | .devId => 0x9600B001
  | .devSerialLo => lo32 serialNat
  | .devSerialHi => mkF 15 0 (serialNat / 2 ^ 32)
  | .devChainAddr => mkF 5 0 s.node.addr
  | .devChainRing =>
    let lk (p : Nat) : Bool := s.chain.lock.get false p
    mkF 31 25 s.chain.west.node ||| mkF 24 18 s.chain.east.node ||| mkB 11 (lk 0) ||| mkB 10 (lk 1) ||| mkB 9 (lk 2) ||| mkB 8 (lk 3)
      ||| mkF 3 2 s.chain.west.st.code ||| mkF 1 0 s.chain.east.st.code
  | .devLeaseOwner => leaseView s s.node.owner
  | .devLeaseTk => leaseView s s.node.tk
  | .devFatal =>
    let f := s.flt.firstF.getD (0, 0, 0)
    mkB 31 s.flt.fatal ||| mkB 30 s.flt.pin ||| mkF 29 24 f.1 ||| mkF 20 16 f.2.1 ||| mkF 15 0 f.2.2
  | .devUnfenceStatus => mkF 30 28 s.flt.unfReason ||| mkF 27 22 s.flt.unfBlock ||| mkF 15 0 s.flt.unfUnit
  | _ => 0

/-- PWR and CLK registers (chapter Power, Clocks and Reset). -/
def viewPwr (s : State) (r : Reg) (i : Nat) : Word :=
  let feed (f : Feed) : Word :=
    let st := match f.st with | .lost => 0 | .present => 1 | .isolated => 2 | .qualifying => 3
    mkF 31 30 st ||| mkB 29 f.carry ||| mkF 28 16 f.cur ||| mkF 15 0 f.volt
  let dom (d : Dom) : Nat := match d.st with | .off => 0 | .on => 1 | .switching => 2 | .tripped => 3
  match r with
  | .pwrFeedA => feed s.pwr.feedA
  | .pwrFeedB => feed s.pwr.feedB
  | .pwrInput => mkF 15 0 s.pwr.power
  | .pwrThermF => mkF 23 16 s.pwr.thermF.2 ||| mkF 15 0 (codeOf 16 s.pwr.thermF.1)
  | .pwrThermQ => mkF 23 16 s.pwr.thermQ.2 ||| mkF 15 0 (codeOf 16 s.pwr.thermQ.1)
  | .pwrDomRej => mkF 30 28 s.pwr.rejReason ||| mkF 6 0 s.pwr.rejDom
  | .pwrDomState => (List.range 16).foldl (fun w k => w ||| mkF (2 * k + 1) (2 * k) (dom (s.pwr.doms.get {} (16 * i + k)))) 0
  | .clkStatus =>
    mkB 31 s.pwr.boot.sysref ||| mkB 30 s.pwr.boot.sysref ||| mkB 29 s.pwr.fclk ||| mkB 28 s.pwr.qclk
      ||| mkF 27 24 (bitMap 4 (s.pwr.hbmLock.get false)) ||| mkF 23 20 (bitMap 4 (fun k => s.pwr.boot.rails && !s.pwr.frefGone.get false k)) ||| mkB 19 s.tgt.refOk
  | .clkLref => mkF 31 16 (bitMap 16 (fun g => s.pwr.boot.rails && !s.pwr.lrefGone.get false g)) ||| mkF 15 0 (bitMap 16 (s.pwr.lpll.get false))
  | .clkBootTime => mkF 15 0 s.pwr.bootMs
  | _ => 0

/-- Code of a slice's state (Table 3.6). -/
def SliceState.code : SliceState → Nat
  | .idle => 0 | .loading => 1 | .ready => 2 | .active => 3 | .drain => 4 | .fenced => 5

/-- IMG registers (chapter Configuration Images and Tuns). -/
def viewImg (s : State) (r : Reg) (n : Nat) : Word :=
  match r with
  | .imgStatus =>
    mkF 31 30 s.img.bootTun ||| mkF 29 28 s.img.bootSrc ||| mkF 27 25 s.img.apply.phase.code ||| mkF 24 21 s.img.apply.step
      ||| mkF 15 8 s.img.reason
  | .imgRoleSrc => (List.range 8).foldl (fun w k =>
      let x := sliceOf s (ownerOf s k)
      w ||| mkB (4 * k + 3) (x.st == .active && x.prog.isSome) ||| (if x.st = .active then mkF (4 * k + 1) (4 * k) x.tun else 0)) 0
  | .imgTunInfo =>
    let t := s.img.tun.get {} n
    mkB 31 (tunPresent s n) ||| mkB 30 t.valid ||| mkB 29 (tunConfirmed s n) ||| mkB 28 (tunLocked s n) ||| mkF 27 26 t.key
      ||| mkF 25 24 t.fmt ||| mkF 23 16 t.reason ||| mkF 15 0 t.verLo
  | .imgBootSel => mkF 31 30 s.pwr.profPins ||| mkF 29 28 s.pwr.profSampled ||| mkB 3 (onceSet s) ||| mkF 1 0 (onceTun s)
  | .imgSliceState => (List.range 9).foldl (fun w k => w ||| mkF (3 * k + 2) (3 * k) (sliceOf s k).st.code) 0
  | .imgSliceRole => (List.range 9).foldl (fun w k => w ||| mkF (3 * k + 2) (3 * k) (sliceOf s k).role) 0
  | .imgBarrierStatus =>
    let c (i : Nat) : Bool := (s.slc.barrier.find i).isSome
    mkF 15 8 (bitMap 8 (fun k => c (2 * k) || c (2 * k + 1))) ||| mkF 7 0 (bitMap 8 (fun k => c (16 + 2 * k) || c (17 + 2 * k)))
  | .imgKeyStatus => mkF 7 4 (bitMap 4 (keyRevoked s)) ||| mkF 3 0 (bitMap 4 keyPresent)
  | _ => 0

/-- Code of a port's state (Table 4.3). -/
def PortState.code : PortState → Nat
  | .off => 0 | .an => 1 | .train => 2 | .sync => 3 | .up => 4 | .holdoff => 5

/-- LP registers of group g, port or lane i (chapter Line Ports). -/
def viewLp (s : State) (r : Reg) (g i : Nat) : Word :=
  let x := portOf s (8 * g + i)
  match r with
  | .lpPortStatus =>
    mkF 31 29 x.st.code ||| mkB 28 x.link ||| mkB 27 x.lf ||| mkB 26 x.rf ||| mkB 25 x.align ||| mkB 24 (twinForbids s g)
      ||| mkB 23 x.degSer ||| mkF 19 16 x.fails ||| (if x.st = .holdoff then mkF 15 8 ((x.deadline - s.now) / 1000000000) else 0)
      ||| mkF 7 4 x.lastFail
  | .lpTxtsHdr => txtsHdr s (8 * g + i)
  | .lpTxtsNs => lo32 (x.txtsLatch / 65536)
  | .lpTxtsSub => mkF 31 16 (x.txtsLatch / 2 ^ 48) ||| mkF 15 0 x.txtsLatch
  | _ => 0

/-- A word of an accepted trace identifier. -/
def ttiWord (t : TtiSt) (w : Nat) : Word := BitVec.ofNat 32 (beNat (((t.acc.getD []).drop (4 * w)).take 4))

/-- OTN registers of group g (chapter OTN Line Framing); they read 0 in Ethernet mode. Words 1 to 15 of a trace are the slot's
latches (R166). -/
def viewOtn (s : State) (slot : Nat) (r : Reg) (g w : Nat) : Word :=
  let o := otnOf s g
  let n := otnN s g
  if !grpOtn s g then 0
  else match r with
  | .otnDefLive => mkF 15 0 o.live
  | .otnAlign =>
    let all (p : OtnInst → Bool) : Bool := (List.range n).all (fun k => p (o.inst.get {} k))
    mkF 31 16 (bitMap n (fun k => (o.inst.get {} k).inFrame)) ||| mkB 15 (all (fun x => x.im))
      ||| mkB 14 (all (fun x => x.inFrame && x.im) && !o.skewBig) ||| mkB 13 (otnInFrame s g) ||| mkF 10 8 o.stat ||| mkF 7 0 o.laneLock
  | .otnSmTtiRx => if w = 0 then ttiWord o.sm 0 else latched s slot (Reg.addr .otnSmTtiRx [g, w])
  | .otnPmTtiRx => if w = 0 then ttiWord o.pm 0 else latched s slot (Reg.addr .otnPmTtiRx [g, w])
  | _ => 0

/-- Code of the failover's state (Table 6.15). -/
def FailState.code : FailState → Nat
  | .idle => 0 | .fencing => 1 | .loading => 2 | .staged => 3 | .replay => 4 | .noSpare => 5

/-- SLC registers of slice or group i (chapter Match-Action Slices). -/
def viewSlc (s : State) (r : Reg) (i j : Nat) : Word :=
  let x := sliceOf s i
  match r with
  | .slcStatus =>
    let empty := x.tracks.entries.all (fun t => t.2.flights.isEmpty && t.2.outq.isEmpty) && x.hold.entries.all (fun h => h.2.isEmpty)
    mkB 31 empty ||| mkB 30 (isFenced s 6 i) ||| mkB 29 x.jOk
  | .slcJrnlStatus => mkF 31 16 x.jIn.entries.length ||| mkF 15 0 x.jEg.entries.length
  | .slcHoldStatus => mkF 31 16 (holdCount x 0) ||| mkF 15 0 (holdCount x 1)
  | .slcPuntStatus => mkF 15 0 ((x.jIn.entries ++ x.jEg.entries).filter (fun e => e.2.punted)).length
  | .slcProgDigest => lo32 (x.digest / 2 ^ (32 * (11 - j)))
  | .slcTrackStatus =>
    let t := trackOf s i j
    mkF 27 16 (trackLoad t) ||| mkF 10 0 (t.flights.filter (fun f => !f.token)).length
  | .slcFailoverStatus =>
    let f := s.slc.fail
    mkF 31 29 f.st.code ||| mkF 28 25 f.failed ||| mkF 24 21 f.spare ||| mkF 20 18 f.pair
  | .slcIntakeStatus => mkB 31 (intakeOf s i).full ||| mkF 17 0 (intakeUsed s i)
  | _ => 0

/-- Code of a rehash state. -/
def RehashState.code : RehashState → Nat
  | .idle => 0 | .way0 => 1 | .way1 => 2 | .stuck => 3 | .aborting => 4

/-- TBL registers (chapter Routes, Exact-Match Tables and Learning). -/
def viewTbl (s : State) (r : Reg) (i : Nat) : Word :=
  match r with
  | .tblCmdStatus => mkF 28 16 s.tbl.queue.length ||| mkF 12 0 (4096 - s.tbl.queue.length)
  | .tblFailFifo => s.tbl.fails.headD 0
  | .tblReadback => s.tbl.readback.getD i 0
  | .tblEmRehash => mkF 29 27 (rehashOf s i).st.code ||| mkF 17 0 ((rehashOf s i).cursor - (rehashOf s i).back.toNat)
  | .tblEmUse => mkF 21 0 ((s.tbl.em.keys.filter (fun k => k / 2 ^ 22 == i)).length + (s.tbl.ovf.filter (fun o => o.t == i)).length)
  | .tblOvfUse => mkF 14 0 s.tbl.ovf.length
  | .tblRouteUse => mkF 22 0 (routeUnits s)
  | .tblSigVal => lo32 (sigOf s (rf s .tblSigSel [] 12 12) (rf s .tblSigSel [] 11 8) (rf s .tblSigSel [] 7 0))
  | _ => 0

/-- Code of the copy's state. -/
def CopyState.code : CopyState → Nat
  | .idle => 0 | .copying => 1 | .shadowing => 2

/-- LRN registers of slice i. -/
def viewLrn (s : State) (r : Reg) (i : Nat) : Word :=
  let l := lrnOf s i
  match r with
  | .lrnStatus => mkF 31 30 l.gen ||| mkB 29 l.pair.isSome ||| mkF 28 26 (l.pair.getD 0) ||| mkF 25 15 l.queue.length
  | .lrnUse =>
    let ov := (l.ents.keys.filter (fun k => decide (lrnOvfBase ≤ k))).length
    mkF 31 20 ov ||| mkF 18 0 (l.ents.entries.length - ov)
  | .lrnNotify => (l.notes.headD []).getD l.noteRead 0
  | .lrnNotifyStatus => mkF 12 0 l.notes.length
  | .lrnCopy => mkF 29 28 s.lrn.copy.code
  | _ => 0

/-- Code of a bank's state (Table 8.6). -/
def BankState.code : BankState → Nat
  | .unbound => 0 | .inService => 1 | .suspect => 2 | .copying => 3 | .fenced => 4

/-- TCM registers (chapter Associative Search). -/
def viewTcm (s : State) (r : Reg) (i : Nat) : Word :=
  let wcode (w : Nat) : Nat := if w = 4 then 2 else if w = 2 then 1 else 0
  let used (p : Nat) : Nat := ((bankEnts s p).filter (fun e => e.2.valid)).length
  match r with
  | .tcmBank =>
    let b := tcmBank s i
    mkF 30 29 (wcode b.width) ||| mkF 28 24 b.table ||| mkF 23 17 (logicalOf s i) ||| mkF 16 14 b.st.code ||| mkF 11 0 (used i)
  | .tcmTable =>
    match tcmWidth s i with
    | none => 0
    | some w => mkB 31 true ||| mkF 30 29 (wcode w) ||| mkF 28 22 (tcmBanks s i).length ||| mkF 17 0 ((tcmBanks s i).map used).sum
  | .tcmCmdStatus => mkF 26 16 s.tcm.queue.length ||| mkF 10 0 (1024 - s.tcm.queue.length)
  | .tcmFailFifo => s.tcm.fails.headD 0
  | .tcmReadback => s.tcm.readback.getD i 0
  | .tcmBulkStatus =>
    mkB 31 s.tcm.bulk.open' ||| mkB 30 s.tcm.bulk.todo.isSome ||| mkF 28 24 s.tcm.bulk.table ||| mkF 17 0 (min (2 ^ 18 - 1) s.tcm.bulk.pairs.length)
  | .tcmOverlapFirst => match s.tcm.bulk.first with
    | none => 0
    | some (a, b) => mkF 31 25 (a / 2048) ||| mkF 24 14 (a % 2048) ||| mkF 13 7 (b / 2048)
  | .tcmOverlapFirst2 => match s.tcm.bulk.first with
    | none => 0
    | some (_, b) => mkF 10 0 (b % 2048)
  | _ => 0

/-- XE registers (chapter Exception Engines). -/
def viewXe (s : State) (r : Reg) (i : Nat) : Word :=
  match r with
  | .xeStatus =>
    let st := match s.xe.load with | .idle => 0 | .drain => 1 | .load => 2 | .resume => 3
    mkF 31 29 st ||| mkF 28 26 s.xe.loadClu ||| mkF 25 18 (bitMap 8 (fun k => (xeClu s k).paused))
  | .xeClusterStatus =>
    let c := xeClu s i
    mkF 31 16 (bitMap 16 (fun j => (xeEng s (16 * i + j)).reason != 0)) ||| mkB 15 (decide (4096 ≤ c.done)) ||| mkB 14 c.paused
      ||| mkB 13 c.recOk ||| mkF 12 0 c.median
  | .xeEngineStatus =>
    let e := xeEng s i
    mkB 31 (e.reason != 0) ||| mkF 30 28 e.reason ||| mkF 27 20 (bitMap 8 (fun t => (e.threads.find t).isSome)) ||| mkF 15 0 e.mean
  | .xeClassStatus =>
    let q := (xeClassOf s i).q
    mkF 29 16 q.length ||| mkF 11 0 ((xeThreads s).filter (fun t => t.2.2.r.p.cls == i)).length
  | _ => 0

/-- Code of a bundle direction's state (Table 10.3). -/
def BState.code : BState → Nat
  | .down => 0 | .train => 1 | .up => 2 | .retrain => 3 | .doze => 4 | .off => 5 | .wake => 6 | .fenced => 7

/-- ELL registers of bundle b, direction d (chapter The Ell Seam). -/
def viewEll (s : State) (r : Reg) (d b : Nat) : Word :=
  let x := bundleOf s (16 * d + b)
  match r with
  | .ellBstatus =>
    let sp (n : Nat) : Option Nat := logicalOn x (64 + n)
    mkF 31 29 x.st.code ||| mkB 28 (sp 0).isSome ||| mkF 27 22 ((sp 0).getD 0) ||| mkB 21 (sp 1).isSome ||| mkF 20 15 ((sp 1).getD 0)
      ||| mkB 14 x.clk ||| mkB 13 x.carried ||| mkF 5 0 x.retry.length
  | .ellLaneBadLo => lo32 x.bad
  | .ellLaneBadHi => lo32 (x.bad / 2 ^ 32)
  | .ellLaneBadX => mkF 2 0 (x.bad / 2 ^ 64)
  | .ellTimeSrc => mkF 1 0 s.tgt.ttPath
  | _ => 0

/-- BPM registers (chapter Buffers, Admission and Replication). -/
def viewBpm (s : State) (r : Reg) (i : Nat) : Word :=
  match r with
  | .bpmPoolFree => mkF 19 0 (poolFree s i)
  | .bpmPoolMin => mkF 19 0 (s.bpm.poolMin.get (poolFree s i) i)
  | .bpmQstate =>
    let x := qOf s i
    mkF 31 30 x.spill.toNat ||| mkB 29 (!x.hbm.isEmpty) ||| mkB 28 (refusing s i) ||| mkF 25 0 ((qDepth x + 1023) / 1024)
  | _ => 0

/-- HBM registers of stack or channel i (chapter HBM Controller). -/
def viewHbm (s : State) (r : Reg) (i : Nat) : Word :=
  match r with
  | .hbmSpace => mkF 24 0 (hbmSpace s)
  | .hbmHref => mkF 18 0 (hrefUsed s)
  | .hbmStackStatus =>
    let x := stackOf s i
    let st := match x.st with | .off => 0 | .training => 1 | .up => 2 | .enteringOff => 3 | .fenced => 4
    mkF 31 29 st ||| mkB 28 x.stored ||| mkB 27 x.x2 ||| mkB 26 (decide (4096 ≤ x.reads)) ||| mkB 25 x.hot ||| mkB 24 x.temp.isSome
      ||| mkF 7 0 (codeOf 8 (x.temp.getD 0))
  | .hbmChStatus =>
    let c := hbmCh s i
    let cause := if !rb s .hbmChCfg [i] 31 then 1 else if c.slow then 2 else if c.err then 3 else if c.hot then 4 else 0
    let st := match c.st with
      | .down => 0 | .training => 1 | .open' => if cause = 0 then 2 else 3 | .paused => 4 | .fenced => 5
    mkF 31 29 st ||| (if st = 3 then mkF 28 26 cause else 0) ||| mkF 18 0 (chUsed s i)
  | .hbmChLat => mkF 31 16 (min 0xFFFF (hbmCh s i).mean)
  | _ => 0

/-- Whole bytes of a bucket kept in 1/8,000,000 B. -/
def wholeBytes (x : Int) : Word := BitVec.ofInt 32 (x / 8000000)

/-- SCH registers of port or queue i; the window shows the node selected (R376). -/
def viewSch (s : State) (r : Reg) (i : Nat) : Word :=
  let win (f : Nat → Nat → Word) : Word := match selNode s with | some (l, n) => f l n | none => 0
  match r with
  | .schStatus => mkF 14 0 (stagedNodes s)
  | .schNMap => win (fun l n => nodeRaw s l n 0)
  | .schNCir => win (fun l n => nodeRaw s l n 1)
  | .schNPir => win (fun l n => nodeRaw s l n 2)
  | .schNBurst => win (fun l n => nodeRaw s l n 3)
  | .schNCtok => win (fun l n => wholeBytes (ctNow s l n))
  | .schNPtok => win (fun l n => wholeBytes (ptNow s l n))
  | .schNQcfg => win (fun l n => if l = 4 then nodeRaw s l n 6 else 0)
  | .schNQmax => win (fun l n => if l = 4 then mkF 31 1 (qOf s n).qmax else 0)
  | .schPortStatus =>
    let x := schPort s i
    let st := match x.st with | .down => 0 | .up => 1 | .hold => 2 | .flush => 3
    mkF 31 30 st ||| mkB 29 x.link ||| (if x.st = .hold then mkF 25 16 ((x.until' - s.now) / 1000000) else 0)
  | .schQdelay => mkB 31 (qOf s i).seeded ||| mkF 30 0 (qOf s i).avg
  | _ => 0

/-- The slew remainder in 2^-16 ns (R400). -/
def slewLeft (s : State) : Nat := codeOf 64 (s.tgt.slew.tdiv ((tbUnit / 65536 : Nat) : Int))

/-- TGT registers of port p, gate g (chapter Time Base and Time Gates). -/
def viewTgt (s : State) (slot : Nat) (r : Reg) (p g e : Nat) : Word :=
  let x := gateOf s p
  match r with
  | .tgtTbNsLo => lo32 (tbNs s)
  | .tgtTbNsHi => latched s slot (Reg.addr .tgtTbNsHi [])
  | .tgtTbFrac => latched s slot (Reg.addr .tgtTbFrac [])
  | .tgtTbCtrl => mkB 31 s.tgt.valid ||| mkB 30 (decide (s.tgt.slew ≠ 0)) ||| mkB 29 s.tgt.refOk ||| mkB 28 s.tgt.ppsOk
      ||| mkB 15 s.tgt.ppsWait.isSome
  | .tgtTbSlewLo => lo32 (slewLeft s)
  | .tgtTbSlewHi => hi32 (slewLeft s)
  | .tgtPpsCapLo => lo32 (s.tgt.ppsCap / tbUnit)
  | .tgtPpsCapHi => latched s slot (Reg.addr .tgtPpsCapHi [])
  | .tgtPpsCapFrac => mkF 15 0 (latched s slot (Reg.addr .tgtPpsCapFrac [])).toNat
  | .tgtGstatus =>
    mkB 31 x.oper.isSome ||| mkF 30 30 ((x.oper.getD (0, 0, 0, 0)).1) ||| mkB 29 x.pend.isSome
      ||| mkF 23 16 (gateStatesAt s p (gateTime s p)) ||| mkF 10 0 x.entry
  | .tgtGswitchLo => lo32 x.lastS
  | .tgtGswitchHi => hi32 x.lastS
  | .tgtGmaxopen => lo32 (x.maxOpen.get 0xFFFFFFFF g)
  | .tgtGclW0 => mkF 7 0 (s.tgt.lists.get (0, 0) ((p * 2 + g) * 1024 + e)).1
  | .tgtGclW1 => lo32 (s.tgt.lists.get (0, 0) ((p * 2 + g) * 1024 + e)).2
  | _ => 0

/-- Code of a plane's state. -/
def PlaneState.code : PlaneState → Nat
  | .down => 0 | .probe => 1 | .up => 2 | .standby => 3 | .active => 4

/-- Code of a transmit stream's state (Table 15.5). -/
def TxState.code : TxState → Nat
  | .unsync => 0 | .syncing => 1 | .open' => 2 | .unreachable => 3

/-- Code of a lane's state (Table 15.1). -/
def LaneState.code : LaneState → Nat
  | .off => 0 | .train => 1 | .delin => 2 | .up => 3 | .holdoff => 4

/-- FAB registers of lane, group or device i (chapter Fabric Interface and Plane Protection). -/
def viewFab (s : State) (r : Reg) (i : Nat) : Word :=
  match r with
  | .fabStatus =>
    mkF 31 29 (planeOf s 0).st.code ||| mkF 28 26 (planeOf s 1).st.code ||| mkB 25 s.fab.sw.isSome
      ||| mkB 24 (decide (131072 ≤ firkinUsed s)) ||| mkF 22 16 (sprayOf s 0).length ||| mkF 14 8 (sprayOf s 1).length
  | .fabFirkin => mkF 17 0 (firkinUsed s)
  | .fabLaneStatus =>
    let x := laneOf s i
    mkF 31 29 x.st.code ||| mkB 28 x.cdr ||| mkB 27 x.delin ||| mkB 26 (inSpray s i) ||| mkB 25 x.slow ||| mkF 19 16 (min 15 x.fails)
      ||| mkF 15 0 (min 0xFFFF x.mean)
  | .fabTwinStatus =>
    let x := twinOf s i
    mkF 31 29 x.st ||| mkB 28 x.actIn ||| mkB 27 (twinActOut s i) ||| mkB 26 (twinPsel s i) ||| mkF 15 0 (min 0xFFFF x.gap)
  | .fabStrm =>
    let t0 := txOf s i 0
    let t1 := txOf s i 1
    mkF 31 30 t0.st.code ||| mkF 29 28 t1.st.code ||| mkB 27 (rxOf s i 0).open' ||| mkB 26 (rxOf s i 1).open'
      ||| mkF 25 24 (t0.planes % 4) ||| mkF 23 22 (t1.planes % 4) ||| mkF 16 0 t0.cells.length
  | _ => 0

/-- The quantity that REC_HSEL selects; 6 and 7 act as 0. -/
def recQ (s : State) : Nat := let q := rf s .recHsel [] 2 0; if q < 6 then q else 0

/-- A pair of extremes as a register shows it. -/
def extWord (o : Option (Int × Int)) : Word :=
  match o with | none => 0 | some (lo, hi) => mkF 31 16 (codeOf 16 lo) ||| mkF 15 0 (codeOf 16 hi)

/-- REC registers (Table 17.7). -/
def viewRec (s : State) (r : Reg) (i : Nat) : Word :=
  let x := s.rcd
  let e := x.ext.get {} (recQ s)
  match r with
  | .recStatus => mkB 31 x.flushing.isSome ||| mkB 30 x.flashOk ||| mkF 26 18 x.queue.length ||| mkF 10 0 (min 1024 x.flashq.length)
  | .recCycle => mkF 23 0 x.cycle
  | .recOpSec => lo32 x.opSec
  | .recBootSec => lo32 x.bootSec
  | .recLogHead => mkB 31 x.wrapped ||| mkF 20 0 x.head
  | .recRdIdx => mkB 31 x.rdReady ||| mkB 30 x.rdValid
  | .recRd => x.rdWords.getD i 0
  | .recHbin => lo32 (x.bins.get 0 (16 * recQ s + i))
  | .recExtLife => extWord e.life
  | .recExtMinAt => lo32 e.minAt
  | .recExtMaxAt => lo32 e.maxAt
  | .recExtBoot => extWord e.boot
  | .recExtNow => mkF 15 0 (codeOf 16 e.now')
  | _ => 0

/-- Snapshot set n. -/
def snapSet (s : State) (n : Nat) : SnapSet := s.pmc.sets.get {} n

/-- PMC registers; b is a bank and e an entry (Table 17.8, R488). -/
def viewPmc (s : State) (r : Reg) (n b e : Nat) : Word :=
  let x := snapSet s n
  let k := if b = 0 then x.bank0 else x.bank1
  let v := k.vals.get {} e
  match r with
  | .pmcSetStatus => mkB 31 (x.go.isSome || x.copying.isSome) ||| mkB 30 x.bank
  | .pmcSuSeq => s.pmc.suSeq
  | .pmcSu => mkF 16 0 (s.pmc.su.get 0 ((2 * n + b) * 16 + e))
  | .pmcBankSeq => k.seq
  | .pmcBankNsLo => lo32 k.ns
  | .pmcBankNsHi => hi32 k.ns
  | .pmcBankVal => lo32 v.val.toNat
  | .pmcBankExt => mkB 31 v.valid ||| mkB 30 v.ovf ||| mkF 15 0 (v.val.toNat / 2 ^ 32)
  | .pmcBankEnd => k.seqEnd
  | _ => 0

/-- Code of the update engine's state (Table 18.2). -/
def UpdState.code : UpdState → Nat
  | .idle => 0 | .receiving => 1 | .verifying => 2 | .verified => 3 | .armed => 4 | .activating => 5 | .trial => 6 | .fallback => 7

/-- Code of the relay's state (Table 18.11). -/
def RelayState.code : RelayState → Nat
  | .idle => 0 | .offering => 1 | .sending => 2 | .verified => 3 | .refused => 4 | .busy => 5 | .timeout => 6

/-- UPD registers (chapter Firmware and Image Update). -/
def viewUpd (s : State) (r : Reg) (i : Nat) : Word :=
  let u := s.upd
  match r with
  | .updStatus =>
    mkF 31 29 u.st.code ||| mkB 28 u.recovery ||| mkF 23 20 u.target ||| mkF 19 18 u.fromTun ||| mkF 17 16 u.origin ||| mkF 15 8 u.reason
      ||| mkB 7 u.relayed ||| mkF 6 0 u.src
  | .updSession => mkF 31 16 u.id ||| (if u.st = .trial then mkF 15 0 (leftUp s u.confirmAt 1000000000) else 0)
  | .updBytes => lo32 u.next
  | .updTotal => lo32 u.total
  | .updDigest => lo32 (u.digest / 2 ^ (32 * (11 - i)))
  | .updArmAtLo => lo32 u.armAt
  | .updArmAtHi => hi32 u.armAt
  | .updFwStatus =>
    mkF 31 31 u.running ||| mkF 30 30 (activeFw s) ||| mkB 29 u.trying ||| mkF 28 27 (bitMap 2 (fun n => slotPresent s (fwBase n) fwArea))
      ||| mkF 26 25 (bitMap 2 (fun n => slotConfirmed s (fwBase n) fwArea)) ||| mkF 24 23 (bitMap 2 (u.fwValid.get false))
      ||| mkF 19 16 u.fmtAccept
  | .updFwVer => lo32 (imgVersion s (fwBase i))
  | .updRelay => mkF 30 28 u.relay.st.code ||| mkF 15 8 u.relay.reason
  | _ => 0

/-- Fault registers of block b (Tables 16.1 to 16.4). -/
def viewFlt (s : State) (r : Reg) (b : Nat) : Word :=
  let f := fltOf s b
  let worst := (List.range 32).foldl (fun m i => if tbit f.sticky i then max m (match fltInfo b i with | some x => x.cls | none => 0) else m) 0
  match r with
  | .fltLive => f.live
  | .fltSticky => f.sticky
  | .fltFirst => mkB 31 f.valid ||| mkB 30 f.ovf ||| mkF 29 28 f.cls ||| mkF 20 16 f.src ||| mkF 15 0 f.inst
  | .fltClass => (if f.valid then mkF 3 2 f.cls else 0) ||| mkF 1 0 worst
  | .fltFence => mkF 31 24 (min 255 (fencedUnits s b).length) ||| mkF 15 0 ((fencedUnits s b).headD 0xFFFF)
  | _ => 0

/-- The registers of the window of a node: their own bits are the node's (R376). -/
def isWindow (r : Reg) : Bool :=
  r == .schNMap || r == .schNCir || r == .schNPir || r == .schNBurst || r == .schNQcfg

/-- What the fields that are no bits of the register's own show. -/
def roView (s : State) (slot : Nat) (r : Reg) (idx : List Nat) : Word :=
  let i := idx.getD 0 0
  let j := idx.getD 1 0
  let k := idx.getD 2 0
  let a := r.info.base
  if 0xF00000 ≤ a % 0x1000000 then viewFlt s r i
  else match a / 0x1000000 with
    | 0x00 => viewDev s slot r
    | 0x01 => viewPwr s r i
    | 0x02 => viewPwr s r i
    | 0x03 => viewImg s r i
    | 0x04 => viewLp s r i j
    | 0x05 => viewOtn s slot r i j
    | 0x06 => viewSlc s r i j
    | 0x07 => viewTbl s r i
    | 0x08 => viewLrn s r i
    | 0x09 => viewTcm s r i
    | 0x0A => viewXe s r i
    | 0x0B => viewEll s r i j
    | 0x0C => viewBpm s r i
    | 0x0D => viewHbm s r i
    | 0x0E => viewSch s r i
    | 0x0F => viewTgt s slot r i j k
    | 0x10 => viewFab s r i
    | 0x11 => viewRec s r i
    | 0x12 => viewPmc s r i j k
    | 0x13 => viewUpd s r i
    | _ => 0

/-- An IMG register that reads 0 in recovery mode (R512). -/
def recoveryZero (s : State) (r : Reg) : Bool :=
  s.upd.recovery && r.info.base / 0x1000000 == 3
    && !(r == .imgStatus || r == .imgTunInfo || r == .imgBootSel || r == .imgKeyStatus)

/-- The value a register shows (R15, R16). -/
def regView (s : State) (slot : Nat) (r : Reg) (idx : List Nat) : Word :=
  if recoveryZero s r then 0
  else (if isWindow r || (r == .otnDefLatch && !grpOtn s (idx.getD 0 0)) then 0 else regRaw s r idx) ||| roView s slot r idx

end Sys2Proof.Machine
end

