-- ==== Sys2Proof/Machine/Pmc.lean ====
section
/-! DEFINITION. Snapshot sets and slot-use figures (R484 to R489). -/

namespace Sys2Proof.Machine

/-- Change the PMC block. -/
def modPmc (s : State) (f : PmcSt → PmcSt) : State := { s with pmc := f s.pmc }
/-- Change snapshot set n. -/
def modSet (s : State) (n : Nat) (f : SnapSet → SnapSet) : State := modPmc s (fun p => { p with sets := p.sets.upd {} n f })
/-- EN of a set. -/
def setEn (s : State) (n : Nat) : Bool := rb s .pmcSetCfg [n] 31
/-- PERIOD of a set. -/
def setPeriod (s : State) (n : Nat) : Nat := rf s .pmcSetCfg [n] 29 16

/-! ## Entries -/

/-- The address that an entry names. -/
def entryAddr (v : Word) : Nat := fld v 28 24 * 0x1000000 + fld v 23 2 * 4

/-- The registers that an entry of KIND 2 may name (R484). -/
def gauge (r : Reg) : Bool := r == .bpmQstate || r == .schQdelay || r == .bpmPoolFree || r == .fabFirkin || r == .hbmSpace

/-- May an entry hold this value (R484)? KIND 0 names nothing, and 3 acts as 0. -/
def entryOk (s : State) (v : Word) : Bool :=
  match fld v 31 30 with
  | 1 => (ctrLow s (entryAddr v)).isSome
  | 2 => match regAt (entryAddr v) with | some (r, _) => gauge r | none => false
  | _ => true

/-- A write of an entry (R484). -/
def entryWrite (s : State) (n e : Nat) (v : Word) : State :=
  if setEn s n || !entryOk s v then setRB s .pmcStatus [] 31 true else setReg s .pmcEntry [n, e] (v &&& 0xDFFFFFFC)

/-! ## Captures -/

/-- What an entry captures now (R486, R488). -/
def capEntry (s : State) (v : Word) : CapVal :=
  let a := entryAddr v
  if !availAddr s a then {}
  else
    match fld v 31 30 with
    | 1 => match ctrLow s a with
      | some k => { valid := true, ovf := (ctrAt s k).ovf, val := (ctrAt s k).cnt }
      | none => {}
    | 2 => match regAt a with
      | some (r, idx) => { valid := true, val := BitVec.ofNat 48 (regView s 0 r idx).toNat }
      | none => {}
    | _ => {}

/-- The bank that a capture at boundary `b` of sequence value `seq` gives. -/
def capture (s : State) (n seq b : Nat) : Bank :=
  let c := min 1024 (rf s .pmcSetCfg [n] 10 0)
  { seq := lo32 seq, seqEnd := lo32 seq, ns := b
    vals := (List.range c).foldl (fun m e => m.set {} e (capEntry s (regRaw s .pmcEntry [n, e]))) {} }

/-- Does set n capture at boundary `b` (R485)? -/
def captureDue (s : State) (n b : Nat) : Bool :=
  (setEn s n && decide (0 < setPeriod s n) && decide (b % (setPeriod s n * furPeriod s) = 0))
    || (match (snapSet s n).go with | some t => decide (t ≤ s.now) | none => false)

/-- A capture that falls while the copy of the previous one runs is skipped (R487). -/
def captureSet (seq b n : Nat) (s : State) : State :=
  if !captureDue s n b then s
  else
    let x := snapSet s n
    let go' : Option Nat := match x.go with | some t => if t ≤ s.now then none else some t | none => none
    if x.copying.isSome then
      let s1 := setRF (modSet s n (fun y => { y with go := go' })) .pmcSetStatus [n] 15 0 (min 0xFFFF (rf s .pmcSetStatus [n] 15 0 + 1))
      event (count s1 0x12 (0x40 + n * 8)) 0x4801 n n
    else modSet s n (fun y => { y with go := go', copying := some (capture s n seq b) })

/-! ## Slot-use figures -/

/-- The captured slot counter of slice i, track t, category c (R486). -/
def slotCtr (s : State) (i t c : Nat) : Nat :=
  let a := cOff 6 (i * 0x8000 + t * 0x40 + c * 8)
  if availAddr s a then (ctrAt s a).cnt.toNat else 0

/-- All slot counters, by (slice × 6 + track) × 8 + category. -/
def slotCtrs (s : State) : SMap Nat :=
  (List.range 432).foldl (fun m k => m.set 0 k (slotCtr s (k / 48) (k / 8 % 6) (k % 8))) {}

/-- The delta of a category over the tracks of a direction, modulo 2^48. -/
def slotDelta (old new : SMap Nat) (i d c : Nat) : Nat :=
  ((List.range 3).map (fun t =>
    let k := (i * 6 + 3 * d + t) * 8 + c
    (new.get 0 k + 2 ^ 48 - old.get 0 k) % 2 ^ 48)).sum % 2 ^ 48

/-- The figures of a slice and direction (Table 17.6); `dt` is the interval in ns, none where the time base was stepped back over
it, so that RATE is a free value `x`. -/
def slotFigures (old new : SMap Nat) (dt : Option Nat) (x i d : Nat) : List Nat :=
  let dl (c : Nat) : Nat := slotDelta old new i d c
  let t := ((List.range 8).map dl).sum
  let share (n : Nat) : Nat := if t = 0 then 0 else 65536 * n / t
  (List.range 8).map (fun c => share (dl c)) ++
    [match dt with | some n => if n = 0 then x else dl 0 * 1000 / n | none => x, share (t - dl 4 - dl 7)]

/-- A capture of the slot counters (R489). -/
def slotUse (s : State) (seq b : Nat) : State :=
  let new := slotCtrs s
  let s1 := modPmc s (fun p => { p with suPrev := some (b, new) })
  match s.pmc.suPrev with
  | none => s1
  | some (b0, old) =>
    let dt : Option Nat := if b0 < b then some (b - b0) else none
    let d := draw s1
    let m := (List.range 18).foldl (fun (m : SMap Nat) k =>
      let l := slotFigures old new dt d.1 (k / 2) (k % 2)
      (List.range 10).foldl (fun m f => m.set 0 (k * 16 + f) (l.getD f 0 % 2 ^ 17)) m) {}
    modPmc d.2 (fun p => { p with su := m, suSeq := lo32 seq })

/-- What the PMC does at a furlong boundary. -/
def pmcBoundary (s : State) (seq b : Nat) : State :=
  if !blkOn s 0x12 then s
  else
    let s1 := (List.range 8).foldl (fun t n => captureSet seq b n t) s
    if rb s .pmcSuCfg [] 31 && decide (b % (max 1 (rf s .pmcSuCfg [] 13 0) * furPeriod s) = 0) then slotUse s1 seq b else s1

/-! ## Commands -/

/-- GO of PMC_SET_CMD_n (R485). -/
def captureGo (s : State) (n : Nat) : State := modSet s n (fun x => { x with go := some (s.now + 512) })

/-- The copy of a capture ends (R487). -/
def copyBank (s : State) (n : Nat) : State :=
  let x := snapSet s n
  match x.copying with
  | none => s
  | some k =>
    let nb := x.any && !x.bank
    let s1 := modSet s n (fun y =>
      { y with copying := none, any := true, bank := nb, bank0 := if nb then y.bank0 else k, bank1 := if nb then k else y.bank1 })
    let s2 := count s1 0x12 (n * 8)
    match k.vals.entries.find? (fun e => e.2.ovf) with
    | some e => event s2 0x4802 n e.1
    | none => s2

/-- PMC_COPY_DONE (R487). -/
def execPmcCopyDone (n : Fin 8) (s : State) : Res := ok (if blkOn s 0x12 then copyBank s n.val else s)

end Sys2Proof.Machine
end

