-- ==== Sys2Proof/Machine/Boundary.lean ====
section
/-! DEFINITION. What a set of staged values does when it takes effect, and the furlong boundary (R37 to R52, R121, R123, R399,
R528, R559). -/

namespace Sys2Proof.Machine

/-! ## Values take effect -/

/-- A register's own bits with the bits of a mask replaced. -/
def mergeReg (s : State) (r : Reg) (idx : List Nat) (mask v : Word) : Word := (regRaw s r idx &&& ~~~mask) ||| (v &&& mask)

/-- One staged value takes effect. -/
def applyKey (s : State) (k : Nat) (v : Word) : State :=
  if 2 ^ 32 ≤ k then applyNode s k v
  else match regAt k with
    | some (r, idx) =>
      let n := mergeReg s r idx r.info.st v
      if r = .schPolA ∨ r = .schPolB ∨ r = .schPolC then applyPol s r (idx.headD 0) n
      else if r = .xeClassA ∨ r = .xeClassB then xeLack (setReg s r idx n)
      else if r = .mirSessC then setReg (mirSettle s (idx.headD 0 + 1)) r idx n
      else setReg s r idx n
    | none => s

/-- Ports whose gate settings a set touches. -/
def gatesTouched (m : SMap Word) : List Nat :=
  ((m.keys.filter (fun k => decide (0x0F010000 ≤ k) && decide (k < 0x0F012000))).map (fun k => (k - 0x0F010000) / 0x40)).eraseDups

/-- Staged values in the order in which they are put into effect: the words of a node before its rates are used. -/
def applyOrder (m : SMap Word) : List (Nat × Word) :=
  let node (w : Nat) : List (Nat × Word) := m.entries.filter (fun e => decide (2 ^ 32 ≤ e.1) && e.1 % 8 == w)
  m.entries.filter (fun e => decide (e.1 < 2 ^ 32) && e.1 != Reg.addr .imgSteer []) ++ [3, 1, 2, 0, 6].flatMap node

/-- A set of values takes effect at boundary `b`; the answer names the domains whose steering values were lost to a fence (R48, R111). -/
def applyAll (s : State) (m : SMap Word) (b : Nat) : State × List Nat :=
  let g := (gatesTouched m).map (fun p => (p, gateEn s p, gateCfg s p))
  let s1 := (applyOrder m).foldl (fun t e => applyKey t e.1 e.2) s
  let s2 := g.foldl (fun t x => gateApplied t x.1 b x.2.1 x.2.2) s1
  let s3 := if (m.find (Reg.addr .ellHome [])).isSome then forEach (List.range 32) (fun k t => homeReturn t k) s2 else s2
  let s4 := if (m.find (Reg.addr .fabCfg [])).isSome then pmodeApply s3 else s3
  match m.find (Reg.addr .imgSteer []) with
  | some v => steerApply s4 v
  | none => (s4, [])

/-- One value takes effect at once: boot direct mode (R50). The period of a new K counts from then on (R37). -/
def applyNow (s : State) (k : Nat) (v : Word) : State :=
  let s1 := (applyAll s (SMap.put {} k (some v)) (tbNs s)).1
  if k = Reg.addr .devFurlongCfg [] then modFur s1 (fun f => { f with nextB := nextMultiple (furPeriod s1) (tbNs s1) }) else s1

/-! ## A set applies -/

/-- Switches off that waited for the armed set go on (R528). -/
def domWaitEnd (s : State) : State :=
  (s.pwr.doms.entries.filter (fun e => e.2.waitSet)).foldl (fun t e =>
    if 52 ≤ e.1 ∧ e.1 < 92 then domSwitched t e.1 false
    else rampAsk (domWait t e.1 false) e.1 false) s

/-- Time commands that waited for the armed set take their instant T (R399). -/
def cmdsGo (s : State) : State :=
  modTgt s (fun t => { t with cmds := t.cmds.map (fun c => if c.at'.isNone then { c with at' := some (s.now + 2000) } else c) })

/-- The sealed set applies at boundary `b` (R42, R48, R49), and what waited for it goes on. The order of the lost domains, of which the
first gives event 0x0022 its INSTANCE, is the model's choice (log entry 53): losses in the order recorded, then those found at the
boundary, then steering. -/
def setApplies (s : State) (b : Nat) : State :=
  let gone := s.fur.sld.keys.filter (fun k => !keyAvail s k)
  let vals := s.fur.sld.filter (fun k _ => keyAvail s k)
  let byApply := s.fur.byApply
  let r := applyAll (dropSealed s) vals b
  let lost := (s.fur.lostSld ++ keyDoms gone ++ r.2).eraseDups
  let s2 := match lost with
    | [] => r.1
    | d :: _ => event2 (furFlag r.1 27) 0x0022 (d / 1024) s.fur.seq (min 255 lost.length)
  let s3 := domWaitEnd (cmdsGo s2)
  let s4 := if byApply then applyCommitted s3 else s3
  match s4.img.coldWait with
  | some t => coldNow s4 t
  | none => s4

/-- A furlong boundary at time-base time `b` (R37, R38, R559). -/
def boundary (s : State) (b : Nat) : State :=
  let seq := s.fur.seq + 1
  let s1 := pmcBoundary (modFur s (fun f => { f with seq := seq })) seq b
  let f := s1.fur
  let s2 :=
    if !f.pend then s1
    else if f.moved then setApplies s1 b
    else match f.sched with
      | some t => if t ≤ b then setApplies s1 b else s1
      | none =>
        if seq < f.target then s1
        else if f.armed then setApplies s1 b
        else modFur s1 (fun f => { f with target := seq + 1 })
  modFur s2 (fun f => { f with nextB := nextMultiple (furPeriod s2) b })

/-- The set that is armed, if any, applies at the next boundary generated (R559). -/
def armedNext (s : State) : State :=
  if s.fur.armed then modFur s (fun f => { f with moved := true, target := f.seq + 1 }) else s

/-- The time base moves to `t` ns: a forward step over one boundary or more generates exactly one, at the instant of the step,
and after a backward step the next boundary is the first multiple after the new time (R39). An armed set applies at the instant of a
forward step onto or past its boundary, and otherwise at the first boundary generated after the step (R559). -/
def timeMoved (s : State) (before t : Nat) : State :=
  armedNext (
    if t < before then modFur s (fun f => { f with nextB := nextMultiple (furPeriod s) t })
    else if s.fur.nextB ≤ t then boundary (if s.fur.armB ≤ t then armedNext s else s) t
    else s)

/-! ## Commands of the controller -/

/-- CANCEL (R46, R121): the answer says whether it is busy. A failover value goes with the set, and failover stages it again. -/
def furCancel (s : State) : State × Bool :=
  if s.fur.direct then (s, false)
  else if applyRuns s || s.fur.armed then (s, true)
  else if !furBusy s then (s, false)
  else
    let s1 := furFlag (dropSealed s) 28
    (if s.fur.byFail then modFail s1 (fun f => { f with st := if f.st = .staged then .fencing else f.st }) else s1, false)

/-- A write of DEV_FURLONG_COMMIT: GO and CANCEL together act as CANCEL (Table 1.6); busy while an apply runs (R121). -/
def commitWrite (s : State) (v : Word) : State × Bool :=
  if tbit v 2 then furCancel s
  else if tbit v 0 then (if applyRuns s && !s.fur.direct then (s, true) else furGo s (tbit v 1))
  else (s, false)

/-- A commit of the sequencer was late (R47, R506): it was discarded when its sealing completed. -/
def applyLate (s : State) : State :=
  if s.img.apply.wait = .commit then
    let d := draw s
    applyHalt d.2 (d.1 % 256)
  else s

/-- Sealing completes (R41, R47). -/
def sealComplete (s : State) : State :=
  let byApply := s.fur.byApply
  let s1 := sealDone s
  if byApply && !s1.fur.pend && s.fur.sealing.isSome then applyLate s1 else s1

/-- FURLONG_ARM (R43). -/
def execFurlongArm (s : State) : Res := ok (if onIsland s then furArm s else s)

/-- FURLONG_BOUNDARY (R37): the time base has reached the next boundary. -/
def execFurlongBoundary (s : State) : Res :=
  ok (if onIsland s && decide (s.fur.nextB ≤ tbNs s) then boundary s s.fur.nextB else s)

end Sys2Proof.Machine
end

