-- ==== Sys2Proof/Machine/TimeCmd.lean ====
section
/-! DEFINITION. The commands of TGT_TB_CMD and the edges of 1PPS (R399 to R401, Table 14.1). -/

namespace Sys2Proof.Machine

/-- Units of time-base time in 2^-16 ns. -/
def ofsUnit : Nat := tbUnit / 65536

/-- TGT_TB_OFS, signed, in 2^-16 ns. -/
def tbOfs (s : State) : Int := signedOf 64 ((regRaw s .tgtTbOfsHi []).toNat * 2 ^ 32 + (regRaw s .tgtTbOfsLo []).toNat)

/-- TGT_TB_SET, ns. -/
def tbSet (s : State) : Nat := (regRaw s .tgtTbSetHi []).toNat * 2 ^ 32 + (regRaw s .tgtTbSetLo []).toNat

/-- A write of TGT_TB_CMD with OP (R399): SET_AT_PPS waits for its edge; the others take T, 2 µs ahead, or wait for an armed set
to apply first. NONE and the reserved OPs have no effect. -/
def tbCmd (s : State) (op : Nat) : State :=
  if op = 0 ∨ 6 ≤ op then s
  else if op = 5 then modTgt s (fun t => { t with ppsWait := some (tbSet s, s.now) })
  else
    let at' := if s.fur.armed then none else some (s.now + 2000)
    modTgt s (fun t => { t with cmds := t.cmds ++ [{ op := op, ofs := tbOfs s, set := tbSet s, at' := at' }] })

/-- The whole-ns offset of event 0x3C01: floor(OFS / 2^16), saturated to 32 signed bits (Table 14.7). -/
def stepData (ofs : Int) : Nat := codeOf 32 (max (-(2 ^ 31 : Int)) (min (2 ^ 31 - 1 : Int) (ofs.fdiv 65536)))

/-- The time base moves to `t` units: boundaries follow R39. -/
def tbMove (s : State) (t : Nat) : State :=
  let before := tbNs s
  let back := decide (t < s.tgt.tb)
  let s1 := modTgt (if back then settleAll s else s) (fun x => { x with tb := t })
  timeMoved (if back then bucketsFrom s1 else s1) before (tbNs s1)

/-- STEP at T (Table 14.1). -/
def tbStep (s : State) (ofs : Int) : State :=
  if !s.tgt.valid then s
  else
    let t : Int := (s.tgt.tb : Int) + ofs * ofsUnit
    if t < 0 ∨ (2 ^ 64 * tbUnit : Nat) ≤ t then setRB s .tgtStatus [] 29 true
    else event (count (tbMove s t.toNat) 0xF 0x80000) 0x3C01 0 (stepData ofs)

/-- The time is set to `ns` with fraction 0, and TIME_VALID is set (Table 14.1); at the instant it becomes 1 the gates switch
(R410). -/
def tbSetTo (s : State) (ns op : Nat) : State :=
  let was := s.tgt.valid
  let s1 := modTgt (tbMove s (ns * tbUnit)) (fun t => { t with valid := true })
  let s2 := event (count s1 0xF 0x80000) 0x3C02 0 op
  if was then s2 else gatesOnValid s2

/-- One command at its T (R399, R400). A slew that CANCEL_SLEW or another SLEW brings to 0 has not run out. -/
def tbDo (s : State) (c : TbCmd) : State :=
  match c.op with
  | 1 => tbStep s c.ofs
  | 2 => if s.tgt.valid then modTgt s (fun t => { t with slew := t.slew + c.ofs * ofsUnit, slewEnd := false }) else s
  | 3 => modTgt s (fun t => { t with slew := 0, slewEnd := false })
  | 4 => tbSetTo s c.set 4
  | _ => s

/-- A command whose T has come. -/
def cmdDue (now : Nat) (c : TbCmd) : Bool := match c.at' with | some t => decide (t ≤ now) | none => false

/-- TB_CMD_APPLY: every command whose T has come applies, in the order taken (R399). -/
def tbApply (s : State) : State :=
  let due := s.tgt.cmds.filter (cmdDue s.now)
  due.foldl tbDo (modTgt s (fun t => { t with cmds := t.cmds.filter (fun c => !cmdDue s.now c) }))

/-- The time base as an edge of 1PPS captures it: within ±2 ns, by a free value (R401, R558). -/
def ppsRead (s : State) : Nat × State :=
  let d := draw s
  (s.tgt.tb + d.1 % (4 * tbUnit + 1) - 2 * tbUnit, d.2)

/-- A rising edge of 1PPS (R399, R401). -/
def ppsEdge (s : State) : State :=
  let s1 := match s.tgt.ppsWait with
    | some (ns, _) => tbSetTo (modTgt s (fun t => { t with ppsWait := none })) ns 5
    | none => s
  let d := ppsRead s1
  setRB (modTgt d.2 (fun t => { t with
    ppsCap := (match s.tgt.ppsWait with | some (ns, _) => ns * tbUnit | none => d.1)
    ppsOk := true, ppsAt := some s.now })) .tgtPpsCapFrac [] 31 true

/-- PPS_EDGE (R401). -/
def execPpsEdge (s : State) : Res := ok (if onIsland s then ppsEdge s else s)

end Sys2Proof.Machine
end

