-- ==== Sys2Proof/Machine/Ucode.lean ====
section
/-! DEFINITION. The loading of microcode in the DOWNSTREAM phase of a hitless apply (R279). -/

namespace Sys2Proof.Machine

/-- The cluster that the load takes next: the lowest powered one that does not hold the image's microcode yet (R279). -/
def ucodeNext (s : State) : Option Nat := (List.range 8).find? (fun k => domOn s (36 + k) && !s.img.apply.clus.contains k)

/-- An apply in its DOWNSTREAM phase, before its commit, has microcode to load. -/
def ucodeDue (s : State) : Bool :=
  let a := s.img.apply
  a.phase == .downstream && a.wait == .work && !a.stopping && a.mixed.isNone && hasUcode s a.tun

/-- XE_UCODE_LOAD (R279): a load pauses the next cluster, once no record and no class in effect names the half it takes. -/
def ucodeLoad (s : State) (k : Nat) (half : Bool) : State :=
  if ucodeDue s ∧ ucodeNext s = some k ∧ half = applyHalf s ∧ (s.xe.load = .idle ∨ s.xe.load = .resume) ∧ !halfNamed s half then
    modXe (modClu s k (fun x => if half then { x with paused := true, half1 := none } else { x with paused := true, half0 := none }))
      (fun x => { x with load := .drain, loadClu := k, loadHalf := half.toNat })
  else s

/-- XE_CLUSTER_DRAINED (R279): the paused cluster's threads have run to their outcomes. -/
def ucodeDrained (s : State) : State :=
  if s.xe.load = .drain ∧ (engsOf s.xe.loadClu).all (fun e => (xeEng s e).threads.entries.all (fun x => x.2.out.isSome)) then
    modXe s (fun x => { x with load := .load })
  else s

/-- XE_UCODE_WRITTEN (R279): the section is read again, its digest checked (R101), both memories of the half are written, and the
cluster returns to dispatch: event 0x2806. -/
def ucodeWritten (s : State) : State :=
  let t := s.img.apply.tun
  if s.xe.load = .load then
    if !devSectsOk s (tunBase t) [6] then sectBroken s t
    else
      let k := s.xe.loadClu
      let code := some (Config.ucode (devSect s (tunBase t) 6))
      let s1 := modClu s k (fun x => if s.xe.loadHalf = 0 then { x with paused := false, done := 0, half0 := code }
                                     else { x with paused := false, done := 0, half1 := code })
      let s2 := modApply (modXe s1 (fun x => { x with load := .resume })) (fun a => { a with clus := a.clus ++ [k] })
      event s2 0x2806 k s.xe.loadHalf
  else s

/-- XE_UCODE_LOAD (R279). -/
def execXeUcodeLoad (k : Fin 8) (half : Bool) (s : State) : Res := ok (if onData s then ucodeLoad s k.val half else s)

/-- XE_CLUSTER_DRAINED (R279). -/
def execXeClusterDrained (s : State) : Res := ok (if onData s then ucodeDrained s else s)

/-- XE_UCODE_WRITTEN (R279). -/
def execXeUcodeWritten (s : State) : Res := ok (if onData s then ucodeWritten s else s)

end Sys2Proof.Machine
end

