-- ==== Sys2Proof/Machine/Fence.lean ====
section
/-! DEFINITION. Units that are fenced and returned (R463, R464, Table 16.6), domains that are lost and come back (R522 to R529). -/

namespace Sys2Proof.Machine

/-! ## Fences -/

/-- Fence port group g (Tables 16.6 and 16.8): its ports are held in OFF. -/
def grpFence (s : State) (g : Nat) : State :=
  if isFenced s 4 g then s else dropLost (condRise (groupDown (setFenced s 4 g true) g) 4 2 g 2 0)

/-- The units of Table 16.6 in clock domain r of a block, as the block and unit that fence them. r counts the instances of the block's
clock in Table 1.4: port group or HBM stack r, or 0 for a clock of one instance. DESIGN CHOICE (log entry 52): the manual does not
number the domains of a block. -/
def domUnits (blk r : Nat) : List (Nat × Nat) :=
  match blk with
  | 4 | 5 => if r < 16 then [(4, r)] else []
  | 6 | 8 => (List.range 9).map (fun i => (6, i))
  | 9 => (List.range 96).map (fun p => (9, p))
  | 0xA => (List.range 128).map (fun e => (0xA, e))
  | 0xB => (List.range 32).map (fun k => (0xB, k))
  | 0xD => if r < 4 then [(0xD, 64 + r)] else []
  | _ => []

/-- Fence one unit of Table 16.6 as its block does, unless it is fenced. -/
def unitFence (s : State) (blk u : Nat) : State :=
  if isFenced s blk u then s
  else match blk with
    | 4 => grpFence s u
    | 6 => sliceFence s u
    | 9 => tcmFence s u
    | 0xA => if (xeEng s u).reason = 0 then event (xeFence s u 3) 0x2801 u 3 else s
    | 0xB => if (bundleOf s u).st = .fenced then s else ellFence s u 1
    | _ => if (stackOf s (u - 64)).st = .fenced then s else stackFence s (u - 64)

/-- A clock domain of a block is fenced (R33): XDOM rises, and every unit in the domain is out of service (R463, Table 16.6). -/
def xdomFence (s : State) (blk dom : Nat) : State :=
  let s1 := (domUnits blk dom).foldl (fun t x => unitFence t x.1 x.2) (condRise s blk 31 (0xFF00 + dom) 31 0)
  dropLost (setFenced s1 blk (0xFF00 + dom) true)

/-- Is the unit in Table 16.6? -/
def unitKnown (blk u : Nat) : Bool :=
  (decide (blk < 21) && decide (0xFF00 ≤ u) && decide (u < 0x10000))
  || (match blk with
    | 4 => decide (u < 16)
    | 6 => decide (u < 9) || (decide (16 ≤ u) && decide (u < 25))
    | 9 => decide (u < 96)
    | 0xA => decide (u < 136)
    | 0xB => decide (u < 32)
    | 0xD => decide (u < 68)
    | _ => false)

/-- The switched domains a unit lies in (Table 19.3). -/
def unitDoms (blk u : Nat) : List Nat :=
  if 0xFF00 ≤ u then []
  else match blk with
    | 4 => [u]
    | 6 => if u < 9 then [18 + u] else [27 + (u - 16)]
    | 9 => [92 + u / 24]
    | 0xA => if u < 128 then [36 + u / 16] else [44 + (u - 128)]
    | 0xB => [52 + u]
    | 0xD => if u < 64 then [84 + u / 16, 88 + u / 16] else [84 + (u - 64), 88 + (u - 64)]
    | _ => []

/-! ## Returns -/

/-- Slice i returns as IDLE (R196). Heads in its journal that no engine holds and that nobody replays are dropped. -/
def sliceReturn (s : State) (i : Nat) : State :=
  let kept := (List.range 9).any (fun j => match (sliceOf s j).replaying with | some (f, _, _) => f == i | none => false)
  let x := sliceOf s i
  let gone (m : SMap JEntry) : List JEntry := (m.entries.map Prod.snd).filter (fun e => !e.punted)
  let s1 := if kept then s else (gone x.jIn ++ gone x.jEg).foldl (fun t e => dropBody t e.head) s
  let s2 := modSlice s1 i (fun y => { y with
    st := .idle, prog := none, digest := 0, fencing := 0
    jIn := if kept then y.jIn else y.jIn.filter (fun _ e => e.punted)
    jEg := if kept then y.jEg else y.jEg.filter (fun _ e => e.punted) })
  let f := s2.slc.fail
  let s3 := if f.second.isSome && f.second.map Prod.fst == some i then modFail s2 (fun x => { x with second := none }) else s2
  faultFall (if failoverRuns s3 && f.failed == i && f.st != .replay then failoverEnd s3 else s3) 6 6 i

/-- On the return of an engine, firmware loads the halves in use that its cluster has lost from the Tun booted or last applied (Table 16.8). -/
def cluReload (s : State) (k : Nat) : State :=
  match s.img.effTun with
  | some t =>
    if hasUcode s t && devSectsOk s (tunBase t) [6] then
      let code := some (Config.ucode (devSect s (tunBase t) 6))
      modClu s k (fun x => { x with
        median := x.median
        half0 := if x.half0.isNone && halfNamed s false then code else x.half0
        half1 := if x.half1.isNone && halfNamed s true then code else x.half1 })
    else s
  | none => s

/-- Engine e takes dispatch again; its window means start afresh. -/
def engReturn (s : State) (e : Nat) : State :=
  xeLack (setFenced (modEng (cluReload s (e / 16)) e (fun x => { x with reason := 0, n := 0, sum := 0, mean := 0 })) 0xA e false)

/-- Record domain k returns empty, and with it the engines that it fenced. -/
def recReturn (s : State) (k : Nat) : State :=
  let s1 := faultFall (modClu s k (fun x => { x with recOk := true })) 0xA 4 k
  forEach (engsOf k) (fun e t => if (xeEng t e).reason = 4 then engReturn t e else t) s1

/-- Channel c returns: it trains (Table 16.6). -/
def chReturn (s : State) (c : Nat) : State := setFenced (modCh s c (fun x => { x with st := .training })) 0xD c false

/-- The return procedure of a unit that is no clock domain (Table 16.6), its part of FLT_FENCE already clear. -/
def oneReturn (s : State) (blk u : Nat) : State :=
  match blk with
    | 4 => groupReturn (faultFall s 4 2 u) u
    | 6 => if u < 9 then sliceReturn s u
           else faultFall (modSlice s (u - 16) (fun x => { x with jOk := true })) 6 4 (u - 16)
    | 9 => tcmReturn s u
    | 0xA => if u < 128 then engReturn s u else recReturn s (u - 128)
    | 0xB => ellTrain s u
    | 0xD => if u < 64 then chReturn s u
             else stackTrain (forEach (List.range 16) (fun j t => setFenced t 0xD (16 * (u - 64) + j) false) s) (u - 64)
    | _ => s

/-- The return procedure of a unit (Table 16.6), its part of FLT_FENCE already clear; a clock domain returns the units in it that are
fenced and whose switched domains are on. -/
def unitReturn (s : State) (blk u : Nat) : State :=
  if 0xFF00 ≤ u then
    (domUnits blk (u - 0xFF00)).foldl (fun t x =>
      if isFenced t x.1 x.2 && (unitDoms x.1 x.2).all (domOn t) then oneReturn (setFenced t x.1 x.2 false) x.1 x.2 else t)
      (faultFall s blk 31 u)
  else oneReturn s blk u

/-- DEV_UNFENCE (R464): the answer to a request, as REASON: 0 accepted. -/
def unfenceReason (s : State) (blk u : Nat) : Nat :=
  if !unitKnown blk u then 4
  else if applyRuns s then 3
  else if !isFenced s blk u then 1
  else if (unitDoms blk u).any (fun d => !domOn s d) then 2
  else 0

/-- The owner writes DEV_UNFENCE with GO (R464). -/
def unfence (s : State) (blk u : Nat) : State :=
  let r := unfenceReason s blk u
  let s1 := { s with flt := { s.flt with unfReason := r, unfBlock := blk, unfUnit := u } }
  if r = 0 then unitReturn (setFenced s1 blk u false) blk u else setRB s1 .devUnfenceStatus [] 31 true

/-! ## Domains -/

/-- What a domain that goes off takes with it, beside its registers (R522, R525): memories are not kept. -/
def domLost (s : State) (d : Nat) : State :=
  if d < 16 then modLp s (fun l => { l with otn := l.otn.set {} d {} })
  else if d < 18 then
    forEach (planeLanes (d - 16)) (fun l t => if (laneOf t l).st = .off then t else laneOff t l) s
  else if d < 27 then lrnClear (modSlice s (d - 18) (fun x => { x with prog := none, sram := {} })) (d - 18)
  else if d < 36 then s
  else if d < 44 then modClu s (d - 36) (fun c => { c with half0 := none, half1 := none, done := 0 })
  else if d < 92 then s
  else forEach (List.range 24) (fun i t => clearBank t (24 * (d - 92) + i)) s

/-- What returns with a domain that is on again: groups and lanes whose EN is 1 start (R525), and a stack with POWER = 1 trains. -/
def domBack (s : State) (d : Nat) : State :=
  if d < 16 then groupReturn s d
  else if d < 18 then
    forEach (planeLanes (d - 16)) (fun l t => if rb t .fabLaneCfg [l] 31 && (laneOf t l).st == .off then laneStart t l else t) s
  else if 84 ≤ d ∧ d < 92 then
    let k := (d - 84) % 4
    if stackPowered s k && rb s .hbmStackCfg [k] 31 && (stackOf s k).st == .off then stackTrain s k else s
  else s

/-- The switch of a domain is complete (R524, R525). -/
def domEnds (s : State) (d : Nat) : State :=
  let x := s.pwr.doms.get {} d
  if x.st = .switching then
    let s1 := domSwitched s d x.toOn
    if x.toOn then domBack s1 d else domLost s1 d
  else s

/-- DOM_SWITCH_DONE (R524, R525, R527): the next request that waits begins. -/
def domDone (s : State) (d : Nat) : State := rampNext (domEnds s d)

/-- Fence the units of a domain that is lost (R529, Table 16.6). -/
def domFence (s : State) (d : Nat) : State :=
  if d < 16 then grpFence s d
  else if d < 18 then s
  else if d < 27 then sliceFence s (d - 18)
  else if d < 36 then jrnlFail s (d - 27)
  else if d < 44 then
    forEach (engsOf (d - 36)) (fun e t => if (xeEng t e).reason = 0 then event (xeFence t e 3) 0x2801 e 3 else t) s
  else if d < 52 then xeRecFail s (d - 44)
  else if d < 84 then (if (bundleOf s (d - 52)).st = .fenced then s else ellFence s (d - 52) 1)
  else if d < 92 then (if (stackOf s ((d - 84) % 4)).st = .fenced then s else stackFence s ((d - 84) % 4))
  else forEach (List.range 24) (fun j t => tcmFence t (24 * (d - 92) + j)) s

/-- A domain trips (R529): its switch opens, DOMAIN_OC rises, and its units are fenced. -/
def domTrip (s : State) (d : Nat) : State :=
  let x := s.pwr.doms.get {} d
  if x.st = .on ∨ (x.st = .switching ∧ x.toOn) then
    let s1 := { s with pwr := { s.pwr with doms := s.pwr.doms.set {} d { st := .tripped } } }
    let s2 := condRise (count s1 1 0x18) 1 3 d 3 0
    let s3 := domLost (domFence s2 d) d
    let s4 := dropLost (if 16 ≤ d ∧ d < 18 then planeCheck s3 (d - 16) else s3)
    rampNext { s4 with pwr := { s4.pwr with rampq := s4.pwr.rampq.filter (fun x => x.1 != d) } }
  else s

/-- Is the domain switched by the host (Table 19.3)? -/
def hostDom (d : Nat) : Bool := decide (d < 52) || (decide (92 ≤ d) && decide (d < 96))

/-- The condition of Table 19.4 for switching a domain off. -/
def offOk (s : State) (d : Nat) : Bool :=
  if d < 16 then !grpAnyEn s d && ((twinOf s d).st == 0 || (twinOf s d).st == 1)
  else if d < 18 then
    let p := planeOf s (d - 16)
    p.host && !(planeJudged s (d - 16)) && p.st != .active
  else if d < 27 then (sliceOf s (d - 18)).st == .idle || (sliceOf s (d - 18)).st == .fenced
  else if d < 36 then
    let x := sliceOf s (d - 27)
    (x.st == .idle || x.st == .fenced) && x.jIn.entries.isEmpty && x.jEg.entries.isEmpty
  else if d < 44 then (engsOf (d - 36)).all (fun e => (xeEng s e).reason != 0 && (xeEng s e).threads.entries.isEmpty)
  else if d < 52 then domSt s (d - 8) == .off || domSt s (d - 8) == .tripped
  else (List.range 24).all (fun j =>
    let b := tcmBank s (24 * (d - 92) + j)
    (b.st == .unbound || b.st == .fenced) && !b.replaces)

/-- A switch by PWR_DOM_CMD is refused (R523). -/
def domRefuse (s : State) (d reason : Nat) : State :=
  setRB { s with pwr := { s.pwr with rejReason := reason, rejDom := d } } .pwrDomRej [] 31 true

/-- A switch starts: one of the domain that still runs is completed first (R527). -/
def domStart (s : State) (d : Nat) (on : Bool) : State := rampAsk (domEnds s d) d on

/-- The domain is already in the state that a command asks for, or on its way there (R523). -/
def domThere (s : State) (d : Nat) (on : Bool) : Bool :=
  let x := s.pwr.doms.get {} d
  match s.pwr.rampq.reverse.find? (fun r => r.1 == d), x.st with
  | some r, _ => r.2 == on
  | none, .off => !on
  | none, .tripped => !on
  | none, .on => on != x.waitSet
  | none, .switching => x.toOn == on

/-- PWR_DOM_CMD with GO (R523, R528, R529). -/
def domCmd (s : State) (d : Nat) (on : Bool) : State :=
  if 96 ≤ d then domRefuse s d 1
  else if !hostDom d && !(on && domSt s d == .tripped) then domRefuse s d 1
  else if domThere s d on then s
  else if on then (if (s.pwr.doms.get {} d).waitSet then domWait s d false else domStart s d true)
  else if !offOk s d then domRefuse s d 2
  else if sealedFor s d then domRefuse s d 3
  else if s.fur.armed then domWait s d true
  else domStart s d false

end Sys2Proof.Machine
end

