-- ==== Sys2Proof/Machine/Power.lean ====
section
/-! DEFINITION. Feeds, temperature, reference inputs, and the kinds of reset (chapter Power, Clocks and Reset). -/

namespace Sys2Proof.Machine

/-- Change power and clocks. -/
def modPwr (s : State) (f : PwrSt → PwrSt) : State := { s with pwr := f s.pwr }

/-- Change the boot. -/
def modBoot (s : State) (f : BootSt → BootSt) : State := modPwr s (fun p => { p with boot := f p.boot })

/-! ## Resets -/

/-- A cause joins CLK_RST_CAUSE (R535). -/
def rstCause (s : State) (bit : Nat) : State := setRB s .clkRstCause [] bit true

/-- Is the device held: RESET_N is low, brown-out reset holds, or no feed has been PRESENT yet (R519, R536)? -/
def mustHold (s : State) : Bool := s.pwr.boot.lowSince.isSome || s.pwr.brown || !s.pwr.everPresent

/-- Feeds that are out of their range show in FLT_LIVE from the release of reset on (R455, R517). -/
def feedFaults (s : State) : State :=
  let s1 := if s.pwr.feedA.lostF then condRise s 1 0 0 0 0 else s
  let s2 := if s.pwr.feedB.lostF then condRise s1 1 1 0 1 0 else s1
  if s.pwr.feedA.rangeF || s.pwr.feedB.rangeF then condRise s2 1 2 0 2 0 else s2

/-- A release of reset where nothing holds the device any more: PROFILE_SEL is sampled and the boot starts at t0 (R105, R537). -/
def bootStart (s : State) : State :=
  if mustHold s then s
  else feedFaults (modPwr s (fun p => { p with profSampled := p.profPins, boot := { t0 := s.now } }))

/-- RESET_N low (R536). -/
def pinReset (s : State) : State := rstCause (fullReset s { held := true, lowSince := some s.now }) 30

/-- RESET_N rises with PROFILE_SEL at `pins`. -/
def pinRelease (s : State) (pins : Nat) : State :=
  bootStart (modPwr s (fun p => { p with profPins := pins, boot := { p.boot with lowSince := none } }))

/-- The device enters brown-out reset (R519). -/
def brownEnter (s : State) : State :=
  let s1 := fullReset s { held := true, lowSince := s.pwr.boot.lowSince }
  rstCause (modPwr s1 (fun p => { p with brown := true, feedBack := none })) 29

/-! ## The recorder at power-up (R473, R480) -/

/-- The 256 words of life record i. -/
def lifeWords (s : State) (i : Nat) : List Word := (List.range 256).map (fun k => flashWord s (lifeAddr i + 4 * k))

/-- Is a life record valid (R479)? -/
def lifeValid (l : List Word) : Bool :=
  l.length == 256 && l.getD 255 0 == 0x5A3CC3A5
    && (l.getD 254 0).toNat == crc32 ((l.take 254).flatMap (fun w => beBytes 4 w.toNat)) && fld (l.headD 0) 31 28 == 4

/-- Life records with something programmed, by slot. -/
def lifeSlots (s : State) : List Nat :=
  ((s.flash.keys.filter (fun k => decide (0x18000000 ≤ k) && decide (k < 0x18100000))).map (fun k => (k - 0x18000000) / 1024)).eraseDups

/-- Log slots with something programmed. -/
def logSlots (s : State) : List Nat :=
  ((s.flash.keys.filter (fun k => decide (0x18100000 ≤ k) && decide (k < 0x20000000))).map (fun k => (k - 0x18100000) / 64)).eraseDups

/-- The valid life record of highest SAVE_SEQ. -/
def lifeLast (s : State) : Option (Nat × List Word) :=
  (lifeSlots s).foldl (fun b i =>
    let w := lifeWords s i
    if lifeValid w then
      match b with
      | none => some (i, w)
      | some (_, v) => if (v.getD 2 0).toNat < (w.getD 2 0).toNat then some (i, w) else b
    else b) none

/-- Is a log slot unwritten? -/
def logFree (s : State) (i : Nat) : Bool := flashWord s (logAddr i + 60) == 0xFFFFFFFF && !(logSlots s).contains i

/-- Where the log's writing resumes: after the last written slot before an unwritten one, in the ring order that follows the last
erase, so that the rest of its erase block is unwritten; and whether the ring has wrapped. -/
def logHead (s : State) : Nat × Bool :=
  let l := logSlots s
  match l.find? (fun i => let j := (i + 1) % 2080768; l.all (fun k => decide (k / 4096 ≠ j / 4096) || decide (k < j))) with
  | none => (0, false)
  | some i => ((i + 1) % 2080768, l.contains 2080767 && decide (i + 1 < 2080767))

/-- The extremes of quantity q in a life record. -/
def lifeExt (w : List Word) (q : Nat) : Extremes :=
  let a := w.getD (100 + 4 * q) 0
  { life := if a == 0 && w.getD (101 + 4 * q) 0 == 0 && w.getD (102 + 4 * q) 0 == 0 then none
      else some (signedOf 16 (fld a 31 16), signedOf 16 (fld a 15 0))
    minAt := (w.getD (101 + 4 * q) 0).toNat, maxAt := (w.getD (102 + 4 * q) 0).toNat }

/-- The recorder after a power-up: CYCLE, OP_SEC, bins and extremes from the latest valid life record, and CYCLE one higher. -/
def recPowerUp (s : State) : RecSt :=
  let h := logHead s
  match lifeLast s with
  | none => { cycle := 1, nextSec := s.now + 1000000000, head := h.1, wrapped := h.2 }
  | some (i, w) =>
    { cycle := (fld (w.headD 0) 23 0 + 1) % 2 ^ 24
      opSec := (w.getD 1 0).toNat, bootSec := (w.getD 1 0).toNat, nextSec := s.now + 1000000000
      saveSeq := (w.getD 2 0).toNat
      bins := (List.range 96).foldl (fun m k => m.set 0 k (w.getD (4 + k) 0).toNat) {}
      ext := (List.range 6).foldl (fun m q => m.set {} q (lifeExt w q)) {}
      lifeHead := (i + 1) % 1024, head := h.1, wrapped := h.2, flashOk := true }

/-- POWER_ON: the always-on island comes up from no power (R473, R535, R536). -/
def powerUp (s : State) : State :=
  let s0 := { s with rcd := recPowerUp s, jtag := {} }
  let s1 := fullReset s0 { held := true, lowSince := s.pwr.boot.lowSince }
  let s2 := modPwr s1 (fun p => { p with
    feedA := { st := .qualifying }, feedB := { st := .qualifying }, everPresent := false, noFeed := none, brown := false, feedBack := none })
  setReg s2 .clkRstCause [] 0x80000000

/-! ## Feeds -/

/-- Feed A (0) or B. -/
def feedOf (s : State) (f : Nat) : Feed := if f = 0 then s.pwr.feedA else s.pwr.feedB

/-- Set a feed's input stage. -/
def setFeed (s : State) (f : Nat) (x : Feed) : State :=
  modPwr s (fun p => if f = 0 then { p with feedA := x } else { p with feedB := x })

/-- CARRY of both feeds: the feed at the higher voltage, or both within 0.3 V (R516). -/
def carryNow (s : State) : State :=
  let a := s.pwr.feedA
  let b := s.pwr.feedB
  let pa := a.st == .present
  let pb := b.st == .present
  modPwr s (fun p => { p with
    feedA := { a with carry := pa && (!pb || decide (b.volt ≤ a.volt + 300)) }
    feedB := { b with carry := pb && (!pa || decide (a.volt ≤ b.volt + 300)) } })

/-- A feed leaves PRESENT: the loss is counted, and the bus runs alone when no other feed is PRESENT (R518, R519). -/
def feedLeft (s : State) (f : Nat) : State :=
  let s1 := if onIsland s then count s 1 (8 * f) else s
  if (feedOf s1 (1 - f)).st = .present then s1 else modPwr s1 (fun p => { p with noFeed := some s.now, feedBack := none })

/-- Feed f is LOST: FEED_x_LOST rises. -/
def feedLost (s : State) (f : Nat) : State :=
  if (feedOf s f).st = .present then
    let s1 := feedLeft (setFeed s f { feedOf s f with st := .lost, since := none, lostF := true }) f
    carryNow (if onIsland s1 then condRise s1 1 f 0 (lo32 f) 0 else s1)
  else s

/-- Feed f is ISOLATED: FEED_RANGE rises. -/
def feedIsolated (s : State) (f : Nat) : State :=
  let x := feedOf s f
  if x.st = .isolated then s
  else
    let s1 := setFeed s f { x with st := .isolated, since := none, rangeF := true }
    let s2 := if x.st = .present then feedLeft s1 f else s1
    carryNow (if onIsland s2 then condRise s2 1 2 0 2 0 else s2)

/-- Feed f is PRESENT: its faults fall, the supervisor lets go, and a brown-out counts its 10 ms (R517, R519, R536). -/
def feedPresent (s : State) (f : Nat) : State :=
  let s1 := carryNow (setFeed s f { feedOf s f with st := .present, since := none, lostF := false, rangeF := false })
  let s2 := if holds s1 1 f 0 then faultFall s1 1 f 0 else s1
  let s3 := if !(feedOf s2 (1 - f)).rangeF && holds s2 1 2 0 then faultFall s2 1 2 0 else s2
  let s4 := modPwr s3 (fun p => { p with noFeed := none, feedBack := if p.brown then (p.feedBack.orElse (fun _ => some s.now)) else none,
                                         everPresent := true })
  if s.pwr.everPresent then s4 else bootStart s4

/-- FEED_QUALIFIED: 10 ms in range without a break. -/
def feedQualified (s : State) (f : Nat) : State :=
  match (feedOf s f).st, (feedOf s f).since with
  | .qualifying, some t => if t + 10000000 ≤ s.now then feedPresent s f else s
  | _, _ => s

/-- FEED_IN_RANGE at `mv`: LOST and ISOLATED feeds begin to qualify, and a break starts the 10 ms again (Table 19.1). -/
def feedInRange (s : State) (f mv : Nat) : State :=
  let x := feedOf s f
  let since := if 6000 ≤ mv ∧ mv ≤ 40000 then (x.since.orElse (fun _ => some s.now)) else none
  match x.st with
  | .lost => if 6000 ≤ mv ∧ mv ≤ 40800 then setFeed s f { x with st := .qualifying, since := since } else s
  | .isolated => if 6000 ≤ mv ∧ mv ≤ 40000 then setFeed s f { x with st := .qualifying, since := since } else s
  | .qualifying => setFeed s f { x with since := since }
  | .present => s

/-- FEED_UNDERVOLT: below 5.8 V for 5 µs. -/
def feedUndervolt (s : State) (f : Nat) : State :=
  if (feedOf s f).st = .qualifying then setFeed s f { feedOf s f with since := none } else feedLost s f

/-! ## Samples (R521, R530, R531) -/

/-- POWER_SAMPLE: voltages in mV, currents in 0.1 A, input power in 0.1 W. -/
def powerSample (s : State) (va vb ca cb w : Nat) : State :=
  let s1 := carryNow (modPwr s (fun p => { p with
    feedA := { p.feedA with volt := va, cur := ca }, feedB := { p.feedB with volt := vb, cur := cb }, power := w }))
  gather (gather (gather (maxRF s1 .pwrInputPeak [] 15 0 w) 3 w) 4 va) 5 vb

/-- The hottest of a list of readings and the first sensor that gave it. -/
def hottest : List (BitVec 16) → Nat → Option (Int × Nat) → Option (Int × Nat)
  | [], _, b => b
  | x :: rest, i, b =>
    let b' := match b with
      | none => some (x.toInt, i)
      | some (t, j) => if t < x.toInt then some (x.toInt, i) else some (t, j)
    hottest rest (i + 1) b'

/-- HI_C in 1/16 °C (R531). -/
def hiC (s : State) : Int := (clamp 80 150 (rf s .pwrThermCfg [] 7 0) * 16 : Nat)

/-- The thermal sources follow the hottest reading. -/
def thermJudge (s : State) (t : Int) : State :=
  let hot := holds s 1 5 0
  let want := if hot then decide (t ≤ hiC s - 48) else decide (hiC s < t)
  let s1 := modPwr s (fun p => { p with hiSince := if want then some (p.hiSince.getD s.now) else none })
  let s2 := match s1.pwr.hiSince with
    | some t0 => if t0 + 1000000 ≤ s.now then
        modPwr (if hot then faultFall s1 1 5 0 else condRise s1 1 5 0 5 0) (fun p => { p with hiSince := none })
      else s1
    | none => s1
  let s3 := modPwr s2 (fun p => { p with critSince := if 2560 ≤ t then some (p.critSince.getD s.now) else none })
  match s3.pwr.critSince with
  | some t0 => if t0 + 100000 ≤ s.now then condRise s3 1 6 0 6 0 else s3
  | none => s3

/-- THERM_SAMPLE: the readings of the 24 F-die and the 16 Q-die sensors, signed, in 1/16 °C. -/
def thermSample (s : State) (f q : List (BitVec 16)) : State :=
  match hottest f 0 none, hottest q 0 none with
  | some a, some b =>
    let s1 := gather (gather (modPwr s (fun p => { p with thermF := a, thermQ := b })) 0 a.1) 1 b.1
    thermJudge s1 (max a.1 b.1)
  | _, _ => s

/-! ## Reference inputs (R533, R534) -/

/-- SYSREF is lost (R534): fatal. -/
def sysrefLost (s : State) : State := if s.pwr.boot.sysref then condRise s 2 0 0 0 0 else s

/-- The line core PLL of group g loses lock: LINE_PLL, and the group is fenced. -/
def lpllLost (s : State) (g : Nat) : State :=
  if s.pwr.lpll.get false g then
    grpFence (condRise (modPwr s (fun p => { p with lpll := p.lpll.set false g false })) 2 4 g 4 0) g
  else s

/-- The PLL of stack k loses lock: HBM_PLL, and the stack is fenced. -/
def hpllLost (s : State) (k : Nat) : State :=
  if s.pwr.hbmLock.get false k then
    stackFence (condRise (modPwr s (fun p => { p with hbmLock := p.hbmLock.set false k false })) 2 3 k 3 0) k
  else s

/-- FREF_k is lost: its 48 lanes leave UP, event 0x0802, and the plane is judged. -/
def frefLost (s : State) (k : Nat) : State :=
  if s.pwr.frefGone.get false k then s
  else
    let s1 := modPwr s (fun p => { p with frefGone := p.frefGone.set false k true })
    if onData s then
      planeCheck (forEach (List.range 48) (fun j t => laneLoss t (48 * k + j) false) (event s1 0x0802 k k)) (k / 2)
    else s1

/-- FREF_k returns: event 0x0803, and its lanes restart. -/
def frefBack (s : State) (k : Nat) : State :=
  if s.pwr.frefGone.get false k then
    let s1 := modPwr s (fun p => { p with frefGone := p.frefGone.set false k false })
    if onData s then
      forEach (List.range 48) (fun j t =>
        let l := 48 * k + j
        if laneOn t l && rb t .fabLaneCfg [l] 31 then laneStart t l else t) (event s1 0x0803 k k)
    else s1
  else s

/-- LREF_g returns: its PLL locks; the group stays fenced until it is returned (R464). -/
def lrefBack (s : State) (g : Nat) : State :=
  let s1 := modPwr s (fun p => { p with lrefGone := p.lrefGone.set false g false })
  if onData s1 then
    let s2 := modPwr s1 (fun p => { p with lpll := p.lpll.set false g true })
    if holds s2 2 4 g then faultFall s2 2 4 g else s2
  else s1

/-- MAIN_RAILS_UP (R537): the main PLLs lock, and those of stacks and groups whose references are present. -/
def railsUp (s : State) : State :=
  let s1 := modBoot s (fun b => { b with rails := true })
  dataUp (modPwr s1 (fun p => { p with
    fclk := true, qclk := true
    hbmLock := (List.range 4).foldl (fun m k => m.set false k true) p.hbmLock
    lpll := (List.range 16).foldl (fun m g => m.set false g (!p.lrefGone.get false g)) p.lpll }))

/-! ## Commands -/

/-- FEED_QUALIFIED (R517). -/
def execFeedQualified (f : Fin 2) (s : State) : Res := ok (feedQualified s f.val)
/-- FEED_UNDERVOLT (R517). -/
def execFeedUndervolt (f : Fin 2) (s : State) : Res := ok (feedUndervolt s f.val)
/-- FEED_OVERVOLT (R517): the feed stands at `mv`. -/
def execFeedOvervolt (f : Fin 2) (mv : Fin 131072) (s : State) : Res := ok (if 40800 < mv.val then feedIsolated s f.val else s)
/-- FEED_IN_RANGE (R517). -/
def execFeedInRange (f : Fin 2) (mv : Fin 65536) (s : State) : Res := ok (feedInRange s f.val mv.val)
/-- BROWNOUT_ENTER (R519): 200 µs without a feed. -/
def execBrownoutEnter (s : State) : Res :=
  ok (match s.pwr.noFeed with
    | some t => if s.pwr.everPresent && !s.pwr.brown && decide (t + 200000 ≤ s.now) then brownEnter s else s
    | none => s)
/-- BROWNOUT_EXIT (R519): 10 ms after a feed returned to PRESENT. -/
def execBrownoutExit (s : State) : Res :=
  ok (match s.pwr.feedBack with
    | some t => if s.pwr.brown && decide (t + 10000000 ≤ s.now) then
        bootStart (modPwr s (fun p => { p with brown := false, feedBack := none })) else s
    | none => s)
/-- DOM_SWITCH_DONE (R524, R525). -/
def execDomSwitchDone (d : Fin 96) (s : State) : Res := ok (if onData s then domDone s d.val else s)
/-- DOM_TRIP (R529). -/
def execDomTrip (d : Fin 96) (s : State) : Res := ok (if onData s then domTrip s d.val else s)
/-- THERM_SAMPLE (R530, R531): every 100 µs. -/
def execThermSample (f q : List (BitVec 16)) (s : State) : Res := ok (if onIsland s && decide (s.pwr.thermDue ≤ s.now) then
    thermSample (modPwr s (fun p => { p with thermDue := s.now + 100000 })) f q else s)
/-- POWER_SAMPLE (R521): every 100 µs. -/
def execPowerSample (va vb : Fin 65536) (ca cb : Fin 8192) (w : Fin 65536) (s : State) : Res :=
  ok (if onIsland s && decide (s.pwr.powerDue ≤ s.now) then
    powerSample (modPwr s (fun p => { p with powerDue := s.now + 100000 })) va.val vb.val ca.val cb.val w.val else s)
/-- REF_INPUT_LOSS (R534). -/
def execRefInputLoss (r : RefInput) (s : State) : Res :=
  ok (if !onIsland s then s
    else match r with
      | .sysref => sysrefLost s
      | .lref g => lpllLost (modPwr s (fun p => { p with lrefGone := p.lrefGone.set false g.val true })) g.val
      | .fref k => frefLost s k.val
      | .time10m => refLoss s)
/-- REF_INPUT_RETURN (R534). -/
def execRefInputReturn (r : RefInput) (s : State) : Res :=
  ok (if !onIsland s then s
    else match r with
      | .sysref => s
      | .lref g => lrefBack s g.val
      | .fref k => frefBack s k.val
      | .time10m => if tbSrc s = 1 ∧ s.tgt.refOk = false then modTgt s (fun t => { t with refSince := some s.now }) else s)
/-- SYSREF_PRESENT (R533). -/
def execSysrefPresent (s : State) : Res := ok (if onIsland s then modBoot s (fun b => { b with sysref := true }) else s)
/-- POWER_ON (R536). -/
def execPowerOn (s : State) : Res := ok (powerUp s)
/-- RESET_N_ASSERT (R536): RESET_N has been low for 10 µs. -/
def execResetNAssert (s : State) : Res := ok (if s.pwr.boot.lowSince.isSome then s else pinReset s)
/-- RESET_N_RELEASE (R537): RESET_N rises, with PROFILE_SEL[1:0] at `pins`. -/
def execResetNRelease (pins : Fin 4) (s : State) : Res :=
  ok (if s.pwr.boot.lowSince.isSome then pinRelease s pins.val else s)
/-- MAIN_RAILS_UP (R537). -/
def execMainRailsUp (s : State) : Res :=
  ok (if onIsland s && s.pwr.boot.sysref && !s.pwr.boot.rails && !s.upd.recovery then railsUp s else s)

end Sys2Proof.Machine
end

