-- ==== Sys2Proof/Machine/Upd.lean ====
section
/-! DEFINITION. Update sessions, relay, activation, trial and fall-back, and the firmware's restart (chapter Firmware and Image
Update). -/

namespace Sys2Proof.Machine

/-! ## Frames -/

/-- The ring opposite to the one on which a frame arrived: ring A enters at WA (0), ring B at EB (3) (R54, R67). -/
def oppRing (port : Nat) : Nat := if port = 3 then 0 else 1

/-- Send an update frame on a ring. -/
def updFrameTo (s : State) (ring dst op epoch : Nat) (payload : List Word) : State :=
  launch s ring (mkFrame 0xB ring dst (nodeId s) 0 epoch 0 op 0 payload)

/-- SESSION_ID of a frame. -/
def fSession (f : ChainFrame) : Nat := fld (fWord f 0) 31 16

/-- ANSWER (OP 1) or RESULT (OP 5) to a node (Table 18.3): CODE 0 accept or verified, 1 busy, 2 refused. -/
def updReply (s : State) (ring dst op id code reason : Nat) : State :=
  updFrameTo s ring dst op 0 [mkF 31 16 id ||| mkF 15 8 code ||| mkF 7 0 reason]

/-- ANSWER to a frame. -/
def answer (s : State) (port : Nat) (f : ChainFrame) (code reason : Nat) : State :=
  updReply s (oppRing port) (fSrc f) 1 (fSession f) code reason

/-- CHUNK_ACK to the SRC of the last frame of the session's data, on the ring opposite to that of its arrival (R498). -/
def chunkAck (s : State) : State :=
  let s1 := modUpd s (fun u => { u with unacked := 0 })
  updFrameTo s1 (oppRing s.upd.port) s.upd.ansTo 3 0 [mkF 31 16 s.upd.id, lo32 s.upd.next]

/-- RESULT to the SRC of the END that it answers, on the opposite ring (R498). -/
def updResult (s : State) (code reason : Nat) : State := updReply s (oppRing s.upd.port) s.upd.ansTo 5 s.upd.id code reason

/-- LEN of an update frame's OP (Table 18.3). -/
def updLenOk (f : ChainFrame) : Bool :=
  match fOp f with
  | 0 => fLen f == 14
  | 2 => decide (3 ≤ fLen f) && decide (fLen f ≤ 512)
  | 3 => fLen f == 2
  | 1 => fLen f == 1
  | 4 => fLen f == 1
  | 5 => fLen f == 1
  | 6 => fLen f == 1
  | 7 => fLen f == 1
  | 8 => fLen f == 1
  | _ => false

/-- The owner's live lease has this epoch. -/
def ownerEpoch (s : State) (f : ChainFrame) : Bool := s.node.owner.st == .live && s.node.owner.epoch == fEpoch f

/-- The frame comes from the slot that holds the live owner lease, with its epoch. -/
def fromOwner (s : State) (f : ChainFrame) : Bool := ownerEpoch s f && fSrc f == 64 + s.node.owner.slot

/-- The sender may run a session (R500): the owner, or a device that relays for it. -/
def updAuth (s : State) (f : ChainFrame) (relayed : Bool) : Bool :=
  fromOwner s f || (ownerEpoch s f && decide (1 ≤ fSrc f) && decide (fSrc f ≤ 62) && relayed)

/-! ## Targets -/

/-- The firmware slot that TARGET 8 names: the one that does not run. In recovery mode none runs, and it is the slot that the ROM
tries first. -/
def fwTarget (s : State) : Nat := if s.upd.recovery then activeFw s else 1 - s.upd.running

/-- Base of the session's slot, and its image area. -/
def updBase (s : State) : Nat := if s.upd.target = 8 then fwBase s.upd.fwSlot else tunBase s.upd.target
/-- The image area of a target. -/
def tgtArea (t : Nat) : Nat := if t = 8 then fwArea else tunArea

/-- The Tun in effect: the last applied to DONE, or the boot Tun. -/
def tunInEffect (s : State) : Nat := s.img.effTun.getD s.img.bootTun

/-- The target may not be written: a locked Tun, or a slot a relay reads from (R103, R503). -/
def targetLocked (s : State) (t : Nat) : Bool :=
  if t = 8 then (s.upd.relay.st == .offering || s.upd.relay.st == .sending) && s.upd.relay.target == 8 else tunLocked s t

/-! ## Sessions -/

/-- A session in RECEIVING or VERIFYING ends unverified: event 0x4C02 (Table 18.2). -/
def sessionEnd (s : State) (reason : Nat) : State :=
  updEvent (modUpd s (fun u => { u with st := .idle, reason := reason, ackAt := none })) 0x4C02 reason

/-- An offer is refused (R500). -/
def offerRefuse (s : State) (port : Nat) (f : ChainFrame) (reason : Nat) : State :=
  answer (count (modUpd s (fun u => { u with reason := reason })) 0x13 0x10) port f 2 reason

/-- IDLE_S in ns; 0 acts as 1. -/
def idleNs (s : State) : Nat := max 1 (rf s .updCfg [] 15 8) * 1000000000

/-- An offer is accepted: the target slot is erased (Table 18.2). -/
def offerAccept (s : State) (port : Nat) (f : ChainFrame) : State :=
  let t := fld (fWord f 0) 3 0
  let slot := fwTarget s
  let s1 := if t = 8 then
      modUpd (slotErase s (fwBase slot) fwArea) (fun u => { u with fwValid := u.fwValid.set false slot false })
    else modImg (slotErase s (tunBase t) tunArea) (fun i => { i with tun := i.tun.set {} t {} })
  let s2 := modUpd s1 (fun u => { u with
    st := .receiving, id := fSession f, target := t, fwSlot := slot, origin := fld (fWord f 0) 5 4, relayed := tbit (fWord f 0) 8
    src := fSrc f, ansTo := fSrc f, port := port, next := 0, total := (fWord f 1).toNat
    digest := (List.range 12).foldl (fun a i => a * 2 ^ 32 + (fWord f (2 + i)).toNat) 0
    idleAt := s.now + idleNs s, unacked := 0, ackAt := none, offerAt := some (s.now, port) })
  updEvent (answer s2 port f 0 0) 0x4C01 (fSession f * 65536 + fSrc f)

/-- Refusal reason of an authorised offer (Table 18.4), 0 for none. The spec gives none for a reserved TARGET: a free value. -/
def offerReason (s : State) (f : ChainFrame) : Nat × State :=
  let t := fld (fWord f 0) 3 0
  if 4 ≤ t ∧ t ≠ 8 then (max 1 ((draw s).1 % 256), (draw s).2)
  else if targetLocked s t then (0x21, s)
  else if tgtArea t < (fWord f 1).toNat ∨ (fWord f 1).toNat < 353 then (0x22, s)
  else (0, s)

/-- An offer in the same 1 µs slot as one taken on EB wins on WA (R500). -/
def offerWins (s : State) (port : Nat) : Bool :=
  match s.upd.offerAt with
  | some (t, p) => s.upd.st == .receiving && t / 1000 == s.now / 1000 && p == 3 && port == 0
  | none => false

/-- Decide an authorised offer. -/
def offerTake (s : State) (port : Nat) (f : ChainFrame) : State :=
  let r := offerReason s f
  if r.1 = 0 then offerAccept r.2 port f else offerRefuse r.2 port f r.1

/-- OFFER (R500). -/
def updOffer (s : State) (port : Nat) (f : ChainFrame) : State :=
  let s1 := count s 0x13 0x00
  let w := fWord f 0
  if !(updAuth s f (tbit w 8 && fld w 5 4 == s.node.owner.slot)) then offerRefuse s1 port f 0x28
  else if s.upd.st = .idle then offerTake s1 port f
  else if offerWins s port then
    let s2 := count (updReply s1 (oppRing s.upd.port) s.upd.src 1 s.upd.id 1 0) 0x13 0x08
    offerTake (modUpd s2 (fun u => { u with st := .idle })) port f
  else answer (count s1 0x13 0x08) port f 1 0

/-- The words of a chunk's data as bytes, those beyond TOTAL_LEN apart. -/
def chunkBytes (s : State) (f : ChainFrame) : List Byte :=
  ((f.payload.drop 2).flatMap (fun w => beBytes 4 w.toNat)).take (s.upd.total - s.upd.next)

/-- CHUNK (R501). -/
def updChunk (s : State) (f : ChainFrame) : State :=
  let u := s.upd
  let off := (fWord f 1).toNat
  if u.st = .receiving ∧ off = u.next then
    let b := chunkBytes s f
    let s1 := count (flashProg s (updBase s + off) b) 0x13 0x18
    let s2 := modUpd s1 (fun u => { u with
      next := u.next + b.length, idleAt := s.now + idleNs s, unacked := u.unacked + 1, ackAt := some (s.now + 100000) })
    if u.unacked + 1 = 16 then chunkAck s2 else s2
  else
    let s1 := count s 0x13 0x20
    if u.st = .receiving ∧ off < u.next then chunkAck s1 else s1

/-- END: the session is VERIFYING once all bytes are there. -/
def updEndFrame (s : State) : State :=
  if s.upd.st = .receiving ∧ s.upd.total ≤ s.upd.next then modUpd s (fun u => { u with st := .verifying, ackAt := none }) else s

/-- ABORT, of a frame or of UPD_CMD (Table 18.2). -/
def updAbort (s : State) : State :=
  match s.upd.st with
  | .receiving => sessionEnd s 0x24
  | .verified => modUpd s (fun u => { u with st := .idle, reason := 0x24 })
  | _ => s

/-- The owner lease lapses to NONE (R502). -/
def updLeaseLost (s : State) : State :=
  if s.upd.st = .receiving ∨ s.upd.st = .verifying then sessionEnd s 0x25 else s

/-- Source FLASH_WR of UPD: the session ends (Table 18.2). -/
def updFlashFail (s : State) : State := if s.upd.st = .receiving then sessionEnd s 0x26 else s

/-- FMT values that a firmware must keep loadable (R511): of the Tun in effect, and of every Tun PRESENT and CONFIRMED. -/
def fmtKept (s : State) (accept : Nat) : Bool :=
  (List.range 4).all (fun n =>
    !((n == tunInEffect s && tunPresent s n) || (tunPresent s n && tunConfirmed s n)) || accept.testBit (imgFmt s (tunBase n)))

/-- The verification of the bytes received (R501): 0, or the first reason. -/
def updReason (s : State) : Nat :=
  let u := s.upd
  let b := updBase s
  let magic := imgNat s b 0 4
  if sha384 (flashBytes s b u.total) ≠ u.digest then 0x20
  else if u.target = 8 then
    if magic = 0x444E494D then 0x29
    else if fwVerify s u.fwSlot ≠ 0 then fwVerify s u.fwSlot
    else if fmtKept s (imgFmtAccept s b) then 0 else 0x27
  else if magic = 0x444E4657 then 0x29
  else tunVerify s u.target

/-- Program PRESENT, IMAGE_ID, VERSION and the session digest in the slot record (R493). -/
def presentProg (s : State) : State :=
  let b := updBase s
  let rec0 := b + tgtArea s.upd.target
  let words : List Word := [lo32 (imgId s b), lo32 (imgVersion s b)]
    ++ (List.range 12).map (fun i => lo32 (s.upd.digest / 2 ^ (32 * (11 - i))))
  flashProgW (flashProgW s (rec0 + 8) words) rec0 [markWord]

/-- UPD_VERIFY_DONE (R501). -/
def updVerifyDone (s : State) : State :=
  if s.upd.st ≠ .verifying then s
  else
    let r := updReason s
    if r = 0 then
      let s1 := modUpd (presentProg s) (fun u => { u with st := .verified })
      let s2 := if s.upd.target = 8 then modUpd s1 (fun u => { u with fwValid := u.fwValid.set false u.fwSlot true })
        else tunCheck s1 s.upd.target
      updEvent (updResult s2 0 0) 0x4C03 (s.upd.id * 65536)
    else sessionEnd (updResult (count s 0x13 0x10) 2 r) r

/-! ## Firmware restart and recovery mode -/

/-- The management cores restart (R496, R508). -/
def fwRestart (s : State) (fromActive : Bool) : State :=
  modBoot (modUpd s (fun u => { u with paused := true, fromActive := fromActive, readyBy := none, trying := false }))
    (fun b => { b with fw := none, fwReady := false })

/-- The event of recovery mode, once a chain side is UP (R512). -/
def recTell (s : State) : State :=
  if s.upd.recovery && !s.upd.recTold && (s.chain.west.st == .up || s.chain.east.st == .up) then
    updEvent (modUpd s (fun u => { u with recTold := true })) 0x4C0A s.upd.recTun.toNat
  else s

/-- The boot record (R481). -/
def bootRecord (s : State) : State := logRec s (mkRec s 2 16 [regView s 0 .imgStatus [], 0x9600B001, lo32 serialNat]) true

/-- The device enters recovery mode (R512): every domain outside the island is off, and each present Tun is checked. -/
def recoveryEnter (s : State) (noTun : Bool) : State :=
  let s1 := coldReset s
  let s2 := modPwr s1 (fun p => { p with
    fclk := false, qclk := false, hbmLock := {}, lpll := {}
    boot := { p.boot with rails := false, fw := none, fwReady := false, cleared := false, tun := none, done := false } })
  let s3 := modUpd s2 (fun u => { u with
    recovery := true, recTun := noTun, recTold := false, st := .idle, paused := false, applying := false, falling := false
    readyBy := none, relay := {} })
  let src := if s.img.tried.isEmpty then (if onceSet s then 1 else 0) else if s.img.choice.2 then 1 else 0
  let s4 := modImg s3 (fun i => { i with bootTun := 0, bootSrc := src, coldTun := none, coldWait := none, apply := {}, effTun := none })
  let s5 := if noTun then s4 else forEach (List.range 4) (fun n t => tunCheck t n) s4
  recTell (bootRecord s5)

/-- UPD_CMD.RESTART, and ACTIVATE of firmware in recovery mode (R512): as a release of RESET_N. -/
def recRestart (s : State) : State :=
  let s1 := modUpd s (fun u => { recovery := false, fwValid := u.fwValid })
  let s2 := modImg s1 (fun i => { revoked := i.revoked })
  modPwr s2 (fun p => { p with profSampled := p.profPins, boot := { t0 := s.now, sysref := p.boot.sysref } })

/-! ## Activation -/

/-- The conditions of R505 beside the state. -/
def actOk (s : State) (cold : Bool) : Bool :=
  !applyRuns s && !furBusy s
    && (s.upd.target == 8 || (if cold then coldOk s s.upd.target else hitlessOk s s.upd.target))

/-- TRY_VALID and TRY_FW name the session's slot (R505). -/
def tryWrite (s : State) : State := ctlWrite s (ctl s 1) (mkB 31 true ||| mkF 0 0 s.upd.fwSlot) (ctl s 3)

/-- Activation starts (R505). -/
def activateNow (s : State) (cold : Bool) : State :=
  let t := s.upd.target
  if t = 8 then fwRestart (modUpd (tryWrite s) (fun u => { u with st := .activating, cold := false })) false
  else
    let s1 := modUpd s (fun u => { u with st := .activating, applying := true, cold := cold, fromTun := tunInEffect s })
    if cold then coldStart s1 t else hitlessStart s1 t none

/-- UPD_CMD.ACTIVATE (R505, R512). -/
def updActivate (s : State) (cold : Bool) : State :=
  if s.upd.recovery then
    if s.upd.st = .verified ∧ s.upd.target = 8 then recRestart (tryWrite s) else setRB s .updStatus [] 27 true
  else if s.upd.st = .verified ∧ actOk s cold then activateNow s cold
  else setRB s .updStatus [] 27 true

/-- TGT_ACT_AT. -/
def actAt (s : State) : Nat := (regRaw s .tgtActAtHi []).toNat * 2 ^ 32 + (regRaw s .tgtActAtLo []).toNat

/-- ARM_MIN_MS in ns. -/
def armMinNs (s : State) : Nat := max 300 (rf s .updCfg [] 27 16) * 1000000

/-- ARM (R506). The spec gives a reason for a refusal by time only; the others are free values. -/
def updArm (s : State) (port : Nat) (f : ChainFrame) : State :=
  let cold := tbit (fWord f 0) 0
  let t := actAt s
  if s.upd.recovery || s.upd.st ≠ .verified || !actOk s cold then
    let d := draw s
    answer (modUpd d.2 (fun u => { u with reason := d.1 % 256 })) port f 2 (d.1 % 256)
  else if t < tbNs s + armMinNs s ∨ t % furPeriod s ≠ 0 then answer (modUpd s (fun u => { u with reason := 0x2A })) port f 2 0x2A
  else
    let tun := decide (s.upd.target ≠ 8)
    let s1 := modUpd s (fun u => { u with
      st := .armed, armAt := t, cold := tun && cold, fromTun := if tun then tunInEffect s else u.fromTun, applying := tun && !cold })
    let s2 := updEvent (answer s1 port f 0 0) 0x4C04 (t % 2 ^ 32)
    if tun && !cold then hitlessStart s2 s.upd.target (some t) else s2

/-- The armed activation can still be taken back (R507). -/
def disarmOk (s : State) : Bool :=
  s.upd.st == .armed
    && (if s.upd.applying then !(s.img.apply.down || (s.img.apply.wait == .commit && s.fur.armed)) else decide (tbNs s < s.upd.armAt))

/-- DISARM (R507): event 0x4C05, whose reason the spec does not give. -/
def updDisarm (s : State) (port : Nat) (f : ChainFrame) : State :=
  if disarmOk s then
    let d := draw s
    let s1 := answer d.2 port f 0 0
    if s.upd.applying then
      let s2 := if s1.img.apply.wait = .commit ∧ s1.fur.byApply then furFlag (dropSealed s1) 28 else s1
      applyHalt s2 (d.1 % 256)
    else updEvent (modUpd s1 (fun u => { u with st := .verified, reason := d.1 % 256 })) 0x4C05 (d.1 % 256)
  else answer s port f 2 0x24

/-- UPD_ARM_TIME (R506): the time base reaches T. -/
def updArmTime (s : State) : State :=
  if s.upd.st = .armed ∧ s.upd.applying = false ∧ s.upd.armAt ≤ tbNs s then
    if actOk s s.upd.cold then activateNow s s.upd.cold
    else
      let d := draw s
      updEvent (modUpd d.2 (fun u => { u with st := .verified, reason := d.1 % 256 })) 0x4C05 (d.1 % 256)
  else s

/-! ## Trial, confirmation and fall-back -/

/-- CONFIRM (R509). -/
def updConfirm (s : State) : State :=
  if s.upd.st = .trial then
    let s1 := flashProgW s (updBase s + tgtArea s.upd.target + 4) [markWord]
    let s2 := if s.upd.target = 8 then ctlWrite s1 (mkF 0 0 s.upd.fwSlot) (ctl s1 2) (ctl s1 3) else s1
    updEvent (modUpd s2 (fun u => { u with st := .idle, trying := false })) 0x4C07 0
  else s

/-- Fall-back of firmware (R510). -/
def fwFallback (s : State) (reason : Nat) : State :=
  fwRestart (count (modUpd s (fun u => { u with st := .fallback, falling := true, fallReason := reason })) 0x13 0x38) true

/-- UPD_CONFIRM_EXPIRE (R510). -/
def confirmExpire (s : State) : State :=
  if s.upd.st = .trial ∧ s.upd.confirmAt ≤ s.now then
    (if s.upd.target = 8 then fwFallback s 0 else tunFallback s 0)
  else s

/-! ## The ROM starts firmware (R496) -/

/-- Is a slot PRESENT and does it verify? -/
def fwGood (s : State) (n : Nat) : Bool := slotPresent s (fwBase n) fwArea && fwVerify s n == 0

/-- The ROM starts the firmware of slot n. -/
def fwStart (s : State) (n : Nat) (trying : Bool) : State :=
  let s1 := modUpd s (fun u => { u with
    running := n, trying := trying, fmtAccept := imgFmtAccept s (fwBase n), readyBy := some (s.now + 2000000000), fromActive := false })
  let s2 := modBoot s1 (fun b => { b with fw := some n })
  -- a trial firmware that does not verify is not ready
  if s.upd.st = .activating ∧ s.upd.target = 8 ∧ n ≠ s.upd.fwSlot then
    count (modUpd s2 (fun u => { u with st := .fallback, falling := true, fallReason := 2 })) 0x13 0x38
  else s2

/-- FW_VERIFY_DONE (R496). -/
def fwVerifyDone (s : State) : State :=
  let try' := tryValid s && !s.upd.fromActive
  let first := if try' then tryFw s else activeFw s
  let s1 := if tryValid s then ctlWrite s (ctl s 1) 0 (ctl s 3) else s
  let mark (t : State) (n : Nat) : State := modUpd t (fun u => { u with fwValid := u.fwValid.set false n (fwGood s n) })
  let s2 := mark s1 first
  if fwGood s first then fwStart s2 first try'
  else
    let s3 := mark s2 (1 - first)
    if slotConfirmed s (fwBase (1 - first)) fwArea && fwGood s (1 - first) then fwStart s3 (1 - first) false
    else recoveryEnter s3 false

/-- FW_READY (R496, Table 18.2). -/
def fwReadyRep (s : State) : State :=
  let s1 := modBoot (modUpd s (fun u => { u with readyBy := none, paused := false })) (fun b => { b with fwReady := true })
  if s.upd.target = 8 ∧ s.upd.st = .activating then trialStart s1
  else if s.upd.target = 8 ∧ s.upd.st = .fallback then fallEnd s1 s.upd.fallReason
  else s1

/-- FW_READY_TIMEOUT (R496): the cores restart from ACTIVE_FW; event 0x4C08. -/
def fwNotReady (s : State) : State :=
  let s1 := if s.upd.target = 8 ∧ s.upd.st = .activating then
      modUpd s (fun u => { u with st := .fallback, falling := true, fallReason := 2 })
    else if s.upd.target = 8 ∧ s.upd.st = .fallback then s
    else updEvent s 0x4C08 2
  fwRestart (count s1 0x13 0x38) true

/-! ## Relay (R503) -/

/-- The relay runs. -/
def relayRuns (s : State) : Bool := s.upd.relay.st == .offering || s.upd.relay.st == .sending

/-- Send an update frame of the relay to its device. -/
def relayFrame (s : State) (op : Nat) (payload : List Word) : State :=
  updFrameTo s (ringFor s s.upd.relay.dst) s.upd.relay.dst op s.node.owner.epoch payload

/-- Change the relay. -/
def modRelay (s : State) (f : Relay → Relay) : State := modUpd s (fun u => { u with relay := f u.relay })

/-- UPD_RELAY with GO: the device offers its verified content. -/
def relayGo (s : State) (dst : Nat) : State :=
  let u := s.upd
  if (u.st = .verified ∨ u.st = .armed ∨ u.st = .activating ∨ u.st = .trial) ∧ !relayRuns s then
    let s1 := modRelay s (fun _ => { st := .offering, dst := dst, target := u.target, deadline := s.now + 10000000000 })
    relayFrame s1 0 ([mkF 31 16 u.id ||| mkB 8 true ||| mkF 5 4 s.node.owner.slot ||| mkF 3 0 u.target, lo32 u.total]
      ++ (List.range 12).map (fun i => lo32 (u.digest / 2 ^ (32 * (11 - i)))))
  else s

/-- Send chunks until 64 are beyond the last NEXT, and END once the target has everything. -/
def relaySend : Nat → State → State
  | 0, s => s
  | n + 1, s =>
    let r := s.upd.relay
    if r.st ≠ .sending then s
    else if s.upd.total ≤ r.acked then
      if r.ended then s else relayFrame (modRelay s (fun x => { x with ended := true })) 4 [mkF 31 16 s.upd.id]
    else if r.next < s.upd.total ∧ r.next < r.acked + 64 * 2040 then
      let len := min 2040 (s.upd.total - r.next)
      let data := (List.range ((len + 3) / 4)).map (fun i => flashWord s (updBase s + r.next + 4 * i))
      relaySend n (relayFrame (modRelay s (fun x => { x with next := r.next + len })) 2 ([mkF 31 16 s.upd.id, lo32 r.next] ++ data))
    else s

/-- The relay ends: event 0x4C09, INSTANCE DST. -/
def relayEnd (s : State) (st : RelayState) (code reason : Nat) : State :=
  event (modRelay s (fun x => { x with st := st, reason := reason })) 0x4C09 s.upd.relay.dst code

/-- The frame comes from the relay's device, for this session. -/
def relayFrom (s : State) (f : ChainFrame) : Bool := relayRuns s && fSrc f == s.upd.relay.dst && fSession f == s.upd.id

/-- ANSWER from the relay's device. -/
def relayAnswer (s : State) (f : ChainFrame) : State :=
  if !relayFrom s f then s
  else match fld (fWord f 0) 15 8 with
    | 0 => if s.upd.relay.st = .offering then
        relaySend 66 (modRelay s (fun x => { x with st := .sending, deadline := s.now + 10000000000 })) else s
    | 1 => relayEnd s .busy 5 (fld (fWord f 0) 7 0)
    | 2 => relayEnd s .refused 4 (fld (fWord f 0) 7 0)
    | _ => s

/-- CHUNK_ACK from the relay's device: where to go on; a repeated NEXT asks for a resend. -/
def relayAck (s : State) (f : ChainFrame) : State :=
  let n := (fWord f 1).toNat
  if !relayFrom s f || s.upd.relay.st ≠ .sending then s
  else if n = s.upd.relay.acked then relaySend 66 (modRelay s (fun x => { x with next := n, ended := false }))
  else relaySend 66 (modRelay s (fun x => { x with acked := n, next := max n x.next, ended := false, deadline := s.now + 10000000000 }))

/-- RESULT from the relay's device. -/
def relayResult (s : State) (f : ChainFrame) : State :=
  if !relayFrom s f then s
  else if fld (fWord f 0) 15 8 = 0 then relayEnd s .verified 3 (fld (fWord f 0) 7 0)
  else relayEnd s .refused 4 (fld (fWord f 0) 7 0)

/-! ## Delivery of an update frame (R498) -/

/-- The check every frame of a session passes: its session is open, and its sender is authorised. Another session's frame is answered
BUSY (R498); a frame without an open session, or from a source that is not authorised, has no effect on the session. -/
def inSession (s : State) (port : Nat) (f : ChainFrame) (go : State → State) : State :=
  if s.upd.st = .idle then (if fOp f = 2 then count s 0x13 0x20 else s)
  else if fSession f ≠ s.upd.id then answer s port f 1 0
  else if updAuth s f (s.upd.relayed && fSrc f == s.upd.src) then go s
  else answer s port f 2 0x28

/-- A CHUNK or an END: its answer goes to its SRC, and a session handed over is the successor's from its first frame on (R498, R502). -/
def heardFrom (s : State) (port : Nat) (f : ChainFrame) : State :=
  modUpd s (fun u => { u with port := port, ansTo := fSrc f, src := if u.relayed then u.src else fSrc f })

/-- ARM without an open session is refused as in any state but VERIFIED: every ARM is answered (R506). -/
def armIdle (s : State) (port : Nat) (f : ChainFrame) : State :=
  if fromOwner s f then updArm s port f else answer s port f 2 0x28

/-- An update frame that has been delivered. -/
def updFrame (s : State) (port : Nat) (f : ChainFrame) : State :=
  if nodeId s = 0 then s
  else if !updLenOk f || (fDst f == 63 && fOp f != 7 && fOp f != 8) then count s 0x13 0x28
  else match fOp f with
    | 0 => updOffer s port f
    | 1 => relayAnswer s f
    | 2 => inSession s port f (fun t => updChunk (heardFrom t port f) f)
    | 3 => relayAck s f
    | 4 => inSession s port f (fun t => updEndFrame (heardFrom t port f))
    | 5 => relayResult s f
    | 6 => inSession s port f updAbort
    | 7 => if s.upd.st = .idle then armIdle s port f else inSession s port f (fun t => armIdle t port f)
    | _ => inSession s port f (fun t => if fromOwner t f then updDisarm t port f else answer t port f 2 0x28)

/-! ## Commands -/

/-- The effect of a delivered frame when it is an update frame of one OP, well formed and for this node. -/
def updRx (op : Nat) (port : Nat) (f : ChainFrame) (s : State) : State :=
  if onChain s && fType f == 0xB && fOp f == op && frameOk f && (fDst f == nodeId s || fDst f == 63) then updFrame s port f else s

/-- UPD_OFFER (R500). -/
def execUpdOffer (port : Fin 4) (f : ChainFrame) (s : State) : Res := ok (updRx 0 port.val f s)
/-- UPD_CHUNK (R501). -/
def execUpdChunk (port : Fin 4) (f : ChainFrame) (s : State) : Res := ok (updRx 2 port.val f s)
/-- UPD_END (R501). -/
def execUpdEnd (port : Fin 4) (f : ChainFrame) (s : State) : Res := ok (updRx 4 port.val f s)
/-- UPD_ABORT (R497). -/
def execUpdAbort (port : Fin 4) (f : ChainFrame) (s : State) : Res := ok (updRx 6 port.val f s)
/-- UPD_ARM (R506). -/
def execUpdArm (port : Fin 4) (f : ChainFrame) (s : State) : Res := ok (updRx 7 port.val f s)
/-- UPD_DISARM (R507). -/
def execUpdDisarm (port : Fin 4) (f : ChainFrame) (s : State) : Res := ok (updRx 8 port.val f s)
/-- UPD_ANSWER_RX (R503). -/
def execUpdAnswerRx (port : Fin 4) (f : ChainFrame) (s : State) : Res := ok (updRx 1 port.val f s)
/-- UPD_CHUNK_ACK_RX (R501). -/
def execUpdChunkAckRx (port : Fin 4) (f : ChainFrame) (s : State) : Res := ok (updRx 3 port.val f s)
/-- UPD_RESULT_RX (R503). -/
def execUpdResultRx (port : Fin 4) (f : ChainFrame) (s : State) : Res := ok (updRx 5 port.val f s)
/-- UPD_VERIFY_DONE (R501). -/
def execUpdVerifyDone (s : State) : Res := ok (if onIsland s then updVerifyDone s else s)
/-- UPD_IDLE_TIMEOUT (R497). -/
def execUpdIdleTimeout (s : State) : Res :=
  ok (if s.upd.st = .receiving ∧ s.upd.idleAt ≤ s.now then sessionEnd s 0x23 else s)
/-- UPD_CHUNK_ACK_TIMER (R501). -/
def execUpdChunkAckTimer (s : State) : Res :=
  ok (match s.upd.ackAt with
    | some t => if s.upd.st = .receiving ∧ t ≤ s.now then chunkAck (modUpd s (fun u => { u with ackAt := none })) else s
    | none => s)
/-- UPD_CONFIRM_EXPIRE (R510). -/
def execUpdConfirmExpire (s : State) : Res := ok (if onIsland s then confirmExpire s else s)
/-- UPD_ARM_TIME (R506). -/
def execUpdArmTime (s : State) : Res := ok (if onIsland s then updArmTime s else s)
/-- UPD_RELAY_TIMEOUT (R503). -/
def execUpdRelayTimeout (s : State) : Res :=
  ok (if relayRuns s ∧ s.upd.relay.deadline ≤ s.now then relayEnd s .timeout 6 s.upd.relay.reason else s)
/-- FW_READY (R496). -/
def execFwReady (s : State) : Res := ok (if onIsland s && s.upd.readyBy.isSome then fwReadyRep s else s)
/-- FW_READY_TIMEOUT (R496). -/
def execFwReadyTimeout (s : State) : Res :=
  ok (match s.upd.readyBy with
    | some t => if onIsland s && decide (t ≤ s.now) then fwNotReady s else s
    | none => s)
/-- FW_VERIFY_DONE (R496): the ROM works on SYSREF (R533). -/
def execFwVerifyDone (s : State) : Res :=
  ok (if onChain s && !s.upd.recovery && s.pwr.boot.fw.isNone then fwVerifyDone s else s)

end Sys2Proof.Machine
end

