-- ==== Sys2Proof/Machine/Access.lean ====
section
/-! DEFINITION. Register access: which words a session may write, what a read returns and clears, what a write does, and the
order of the checks of R70 (chapters Conventions and The Githar Chain). -/

namespace Sys2Proof.Machine

/-! ## Statuses (Table 2.5) -/

/-- OK. -/
def stOk : Nat := 0
/-- Address error. -/
def stAddr : Nat := 1
/-- Domain unavailable. -/
def stDomain : Nat := 2
/-- Access denied. -/
def stDenied : Nat := 3
/-- Busy. -/
def stBusy : Nat := 4
/-- Stale epoch. -/
def stStale : Nat := 5
/-- Malformed. -/
def stMalformed : Nat := 6

/-- The data of a read in an unavailable domain: 0xDEAD_0000 plus the block code (R13). -/
def deadData (a : Nat) : Word := lo32 (0xDEAD0000 + a / 0x1000000)

/-- A word at which the manual defines a register or a counter word (R7, R12). -/
def definedAt (s : State) (a : Nat) : Bool := decide (a % 4 = 0) && ((regAt a).isSome || (ctrWord s a).isSome)

/-- The registers that only the timekeeper writes (R398). -/
def tkReg (r : Reg) : Bool :=
  r == .tgtTbCtrl || r == .tgtTbRate || r == .tgtTbOfsLo || r == .tgtTbOfsHi || r == .tgtTbSetLo || r == .tgtTbSetHi
    || r == .tgtTbCmd || r == .tgtActAtLo || r == .tgtActAtHi

/-- May a role write the word at an address (R17, R71, R398, R483)? -/
def roleWrites (role : Role) (a : Nat) : Bool :=
  let tk := match regAt a with | some (r, _) => tkReg r | none => false
  match role with | .owner => !tk | .timekeeper => tk

/-- Does the slot hold the live lease of a role? -/
def holdsRole (s : State) (slot : Nat) (role : Role) : Bool :=
  match role with | .owner => isOwner s slot | .timekeeper => isTk s slot

/-- A per-port register at an index where no port starts is inert (R128). -/
def inertPort (s : State) (r : Reg) (idx : List Nat) : Bool :=
  (r == .lpPortCfg || r == .lpPortStatus || r == .lpPtpAdj || r == .lpEgrLat || r == .lpTxtsHdr || r == .lpTxtsNs || r == .lpTxtsSub)
    && !portExists s (8 * idx.getD 0 0 + idx.getD 1 0)

/-! ## Reads -/

/-- Set a latch of the reading slot (R23). -/
def latchSet (s : State) (slot a : Nat) (v : Word) : State := { s with latch := s.latch.set 0 (latchKey slot a) v }

/-- The owner's read of an RC field clears it (R18, Table 0.4). BPM_POOL_MIN starts again at the present FREE. -/
def rcClear (s : State) (r : Reg) (idx : List Nat) : State :=
  let i := idx.headD 0
  match r with
  | .lpTxtsHdr => txtsPop s (8 * i + idx.getD 1 0)
  | .bpmPoolMin => modBpm s (fun b => { b with poolMin := b.poolMin.put i none })
  | .schNQmax => match selNode s with
    | some (4, q) => modQ s q (fun x => { x with qmax := 0 })
    | _ => s
  | _ => setReg s r idx (regRaw s r idx &&& ~~~(BitVec.ofNat 32 r.info.rc))

/-- A read of a register by a slot: the value, and what the read changes (R16, R18, R23, R166, R219, R231, R401). -/
def readReg (s : State) (slot : Nat) (r : Reg) (idx : List Nat) : State × Word :=
  let i := idx.headD 0
  if inertPort s r idx then (s, r.reset idx)
  else
    let v := regView s slot r idx
    let own := isOwner s slot
    match r with
    | .devFurlongSeqLo => (latchSet s slot 0 (mkF 15 0 (s.fur.seq / 2 ^ 32)), v)
    | .tgtTbNsLo =>
      (latchSet (latchSet s slot (Reg.addr .tgtTbNsHi []) (hi32 (tbNs s))) slot (Reg.addr .tgtTbFrac []) (lo32 (tbFrac s)), v)
    | .tgtPpsCapLo =>
      let c := s.tgt.ppsCap
      (latchSet (latchSet s slot (Reg.addr .tgtPpsCapHi []) (hi32 (c / tbUnit))) slot (Reg.addr .tgtPpsCapFrac [])
        (lo32 (c % tbUnit * 65536 / tbUnit)), v)
    | .otnSmTtiRx =>
      (if idx.getD 1 0 = 0 && grpOtn s i then
        forEach ((List.range 15).map (· + 1)) (fun w t => latchSet t slot (Reg.addr .otnSmTtiRx [i, w]) (ttiWord (otnOf s i).sm w)) s
       else s, v)
    | .otnPmTtiRx =>
      (if idx.getD 1 0 = 0 && grpOtn s i then
        forEach ((List.range 15).map (· + 1)) (fun w t => latchSet t slot (Reg.addr .otnPmTtiRx [i, w]) (ttiWord (otnOf s i).pm w)) s
       else s, v)
    | .tblFailFifo => if own then tblFailPop s else (s, 0)
    | .tcmFailFifo => if own then tcmFailPop s else (s, 0)
    | .lrnNotify => if own then lrnNotifyPop s i else (s, 0)
    | _ => if own && r.info.rc != 0 then (rcClear s r idx, v) else (s, v)

/-- A read of one word by a slot (R70): the state after, the status and the data. -/
def readWord (s : State) (slot a : Nat) : State × Nat × Word :=
  if !definedAt s a then (s, stAddr, 0)
  else if !availAddr s a then (s, stDomain, deadData a)
  else match regAt a with
    | some (r, idx) => let x := readReg s slot r idx; (x.1, stOk, x.2)
    | none => match ctrWord s a with
      | some (_, true) => (s, stOk, ctrReadHigh s slot)
      | some (k, false) => let x := ctrReadLow s slot k; (x.1, stOk, x.2)
      | none => (s, stAddr, 0)

/-! ## Writes -/

/-- An ST register's write: staged, or in boot direct mode in effect at once (R19, R50). -/
def stageOrNow (s : State) (r : Reg) (idx : List Nat) (v : Word) : State :=
  if s.fur.direct then applyNow s (r.addr idx) v else stage s r idx (v &&& BitVec.ofNat 32 r.info.st)

/-- A write by access types alone: RW bits take the value, W1C bits clear, ST bits are staged (Table 0.4). -/
def writePlain (s : State) (r : Reg) (idx : List Nat) (v : Word) : State :=
  let rw := BitVec.ofNat 32 r.info.rw
  let w1 := BitVec.ofNat 32 r.info.w1c
  let n := ((regRaw s r idx &&& ~~~rw) ||| (v &&& rw)) &&& ~~~(v &&& w1)
  let s1 := if r.info.rw = 0 ∧ r.info.w1c = 0 then s else setReg s r idx n
  if r.info.st = 0 then s1 else stageOrNow s1 r idx v

/-- A write of a capture register: VALID written 1 clears the capture and re-arms it. -/
def capClear (s : State) (r : Reg) (idx : List Nat) (v : Word) : State := if tbit v 31 then setReg s r idx 0 else s

/-- IMG_APPLY (R119, R122, R123, R512, Table 3.14). -/
def applyWrite (s : State) (v : Word) : State :=
  let t := fld v 1 0
  if tbit v 31 then
    if s.upd.recovery then loadErr s
    else if tbit v 30 then applyCold s t else applyHitless s t
  else if tbit v 29 then (if s.upd.recovery then s else applyStop s)
  else s

/-- UPD_CMD: with several command bits set only the highest takes effect. -/
def updCmdWrite (s : State) (v : Word) : State :=
  if tbit v 31 then updActivate s (tbit v 30)
  else if tbit v 29 then updConfirm s
  else if tbit v 28 then updAbort s
  else if tbit v 27 then (if s.upd.recovery then recRestart s else s)
  else s

/-- FAB_CMD: its bits act from bit 31 down (R444, R447). -/
def fabCmdWrite (s : State) (v : Word) : State :=
  let on (i : Nat) (f : State → State) (t : State) : State := if tbit v i then f t else t
  on 27 (fun t => planeHostClear t 1) (on 28 (fun t => planeHostClear t 0)
    (on 29 (fun t => planeHostDown t 1) (on 30 (fun t => planeHostDown t 0) (on 31 plannedSwitch s))))

/-- LRN_COPY (R235). -/
def copyWrite (s : State) (v : Word) : State :=
  let s1 := setReg s .lrnCopy [] ((regRaw s .lrnCopy [] &&& ~~~(0xFF : Word) ||| (v &&& 0xFF)) &&& ~~~(v &&& 0x08000000))
  let src := fld v 7 4
  let dst := fld v 3 0
  if tbit v 31 then
    copyGo s1 src dst (decide (src < 9) && decide (dst < 9) && runsRole (sliceOf s src) && (sliceOf s dst).st == .ready)
  else if tbit v 30 then copyEnd s1
  else s1

/-- FLT_FIRST (R458): a 1 in VALID clears and re-arms it, a 1 in OVF clears OVF. -/
def fltFirstWrite (s : State) (b : Nat) (v : Word) : State :=
  let f := fltOf s b
  if tbit v 31 then setFlt s b (f.rearm s.now)
  else if tbit v 30 then setFlt s b { f with ovf := false }
  else s

/-- FLT_MASK: bits without a source are reserved (R14, R454). -/
def fltMaskWrite (s : State) (b : Nat) (v : Word) : State :=
  setReg s .fltMask [b] (v &&& BitVec.ofNat 32 (bitMap 32 (fun i => (fltInfo b i).isSome)))

/-- FLT_STICKY (R459): a bit whose source is live stays set. -/
def fltStickyWrite (s : State) (b : Nat) (v : Word) : State :=
  let f := fltOf s b
  setFlt s b { f with sticky := f.sticky &&& ~~~(v &&& ~~~f.live) }

/-- A write of IMG_STEER (R110). -/
def steerWrite (s : State) (v : Word) : State := if steerOk s v then stageOrNow s .imgSteer [] v else imgFlag s 20

/-- A write of a class register (R265). -/
def classWrite (s : State) (c w : Nat) (v : Word) : State :=
  if classWriteOk s c w v then stageOrNow s (classReg w) [c] v else setRB s .xeStatus [] 17 true

/-- A write of TCM_ALIAS_a (R247). -/
def aliasWrite (s : State) (a : Nat) (v : Word) : State :=
  if aliasOk s a v then stageOrNow s .tcmAlias [a] v else setRB s .tcmAliasStatus [] 31 true

/-- A write of TGT_GCFG_A or TGT_GCFG_B (R409). -/
def gateCfgWrite (s : State) (p : Nat) (regB : Bool) (v : Word) : State :=
  if gateCfgBad regB v then setRB s .tgtStatus [] 31 true
  else stageOrNow s (if regB then .tgtGcfgB else .tgtGcfgA) [p] v

/-- HBM_CH_CFG: RW bits at once, OPEN staged, REOPEN acts (R362). -/
def chCfgWrite (s : State) (c : Nat) (v : Word) : State :=
  let s1 := writePlain s .hbmChCfg [c] v
  if tbit v 30 then chReopen s1 c else s1

/-- HBM_STACK_CFG (R369): PD_REJ clears first, then POWER acts. -/
def stackCfgWrite (s : State) (k : Nat) (v : Word) : State :=
  let s1 := if tbit v 30 then setRB s .hbmStackCfg [k] 30 false else s
  if tbit v 31 then stackOn s1 k else stackOff s1 k

/-- The effect of an allowed write on a register; true where it completes busy (R16, and each chapter's rule on the register). -/
def writeReg (s : State) (r : Reg) (idx : List Nat) (v : Word) : State × Bool :=
  let i := idx.headD 0
  let j := idx.getD 1 0
  let k := idx.getD 2 0
  if inertPort s r idx then (s, false)
  else match r with
  | .devFurlongCommit => commitWrite s v
  | .devFurlongCfg => (stageOrNow s r idx (mkF 4 0 (clamp 10 24 (fld v 4 0))), false)
  | .devUnfence => (if tbit v 31 then unfence s (fld v 29 24) (fld v 15 0) else s, false)
  | .pwrDomCmd => (if tbit v 31 then domCmd s (fld v 6 0) (tbit v 30) else s, false)
  | .imgBootSel => (onceWrite s (tbit v 3) (fld v 1 0), false)
  | .imgApply => (applyWrite s v, false)
  | .imgSliceLoad => (sliceLoadWrite s v, false)
  | .imgSteer => (steerWrite s v, false)
  | .imgKeyRevoke => (keyRevoke s v, false)
  | .lpGrpMode => (grpModeWrite s i v, false)
  | .lpPortCfg => (portCfgWrite s (8 * i + j) v, false)
  | .lpLaneTxeq => (txeqWrite s i j v, false)
  | .lpSynceCfg => (synceWrite s i v, false)
  | .otnCfg => (otnCfgWrite s i v, false)
  | .slcParseCap => (capClear s r idx v, false)
  | .tblCmdWin => (tblWinWord s v, false)
  | .tblEmRehash => if tbit v 31 then (match rehashGo s i with | some t => (t, false) | none => (s, true))
      else (if tbit v 30 then rehashAbort s i else s, false)
  | .lrnHcmd => (match lrnHcmd s i v with | some t => (t, false) | none => (s, true))
  | .lrnCopy => (copyWrite s v, false)
  | .tcmBank => (if tbit v 31 then tcmFence s i else s, false)
  | .tcmAlias => (aliasWrite s i v, false)
  | .tcmCmdWin => (tcmWinWord s v, false)
  | .xeEngineFence => (if tbit v 31 then xeHostFence s (fld v 6 0) else s, false)
  | .xeClassA => (classWrite s i 0 v, false)
  | .xeClassB => (classWrite s i 1 v, false)
  | .xeClassC => (classWrite s i 2 v, false)
  | .ellBcfg => (bcfgWrite s (16 * i + j) v, false)
  | .bpmDfreeCap => (capClear s r idx v, false)
  | .bpmMcgIng => (mcgWrite s i false v, false)
  | .bpmMcgEg => (mcgWrite s i true v, false)
  | .hbmUeCap => (capClear s r idx v, false)
  | .hbmStackCfg => (stackCfgWrite s i v, false)
  | .hbmChCfg => (chCfgWrite s i v, false)
  | .schNMap => (nodeWrite s 0 v, false)
  | .schNCir => (nodeWrite s 1 v, false)
  | .schNPir => (nodeWrite s 2 v, false)
  | .schNBurst => (nodeWrite s 3 v, false)
  | .schNQcfg => (nodeWrite s 6 v, false)
  | .schNQmax => (nodeWrite s 7 v, false)
  | .tgtTbCtrl => (tbCtrlWrite s v, false)
  | .tgtTbCmd => (tbCmd s (fld v 31 29), false)
  | .tgtGcfgA => (gateCfgWrite s i false v, false)
  | .tgtGcfgB => (gateCfgWrite s i true v, false)
  | .tgtGclW0 => (gclWrite s i j k false v, false)
  | .tgtGclW1 => (gclWrite s i j k true v, false)
  | .fabCfg => (fabCfgWrite s v, false)
  | .fabCmd => (fabCmdWrite s v, false)
  | .fabLaneCfg => (laneCfgWrite s i v, false)
  | .fabPeerEn => (peerEnWrite s i v, false)
  | .fabTwinCfg => (twinCfgWrite s i v, false)
  | .recCmd => (let s1 := if tbit v 31 then doFlush s else s; if tbit v 30 then saveLife s1 else s1, false)
  | .recRdIdx => (recRdIdx s v, false)
  | .recCfg => (recCfgWrite s [] (fun t => writePlain t r idx v), false)
  | .recOvrA => (recCfgWrite s [rf s .recOvrA [i] 15 0, fld v 15 0] (fun t => writePlain t r idx v), false)
  | .recOvrB => (recCfgWrite s [rf s .recOvrA [i] 15 0] (fun t => writePlain t r idx v), false)
  | .pmcSetCmd => (if tbit v 31 then captureGo s i else s, false)
  | .pmcEntry => (entryWrite s i j v, false)
  | .updCmd => (updCmdWrite s v, false)
  | .updRelay => (let s1 := writePlain s r idx v; if tbit v 31 then relayGo s1 (fld v 5 0) else s1, false)
  | .fltMask => (fltMaskWrite s i v, false)
  | .fltSticky => (fltStickyWrite s i v, false)
  | .fltFirst => (fltFirstWrite s i v, false)
  | _ => (writePlain s r idx v, false)

/-- Does a write to the register touch a staged value (R121)? -/
def stWrite (r : Reg) : Bool := r.info.st != 0 || isWindow r

/-- The effect of an allowed write on the word at an address, and its status: busy for a staged register while an apply runs
(R121). -/
def writeAt (s : State) (a : Nat) (v : Word) : State × Nat :=
  match regAt a with
  | some (r, idx) =>
    if stWrite r && applyRuns s && !s.fur.direct then (s, stBusy)
    else let x := writeReg s r idx v; (x.1, if x.2 then stBusy else stOk)
  | none => match ctrWord s a with
    | some (k, true) => (ctrWriteHigh s k v, stOk)
    | some (k, false) => (ctrWriteLow s k v, stOk)
    | none => (s, stAddr)

/-- Is the word at an address available to a write? HBM_STACK_CFG of a stack that is off or fenced takes its write, since POWER acts
from there (R369); the manual's sentence on the stack registers speaks of reads. DEDUCED (log entry 51). -/
def availWrite (s : State) (a : Nat) : Bool :=
  availAddr s a || (onData s && (match regAt a with | some (r, _) => r == .hbmStackCfg | none => false))

/-- A write of one word by a slot under a role (R70, R71); `stale` says that its EPOCH is not that of the slot's live lease. -/
def writeWord (s : State) (slot : Nat) (role : Role) (stale : Bool) (a : Nat) (v : Word) : State × Nat :=
  if !definedAt s a then (s, stAddr)
  else if !holdsRole s slot role || !roleWrites role a then (count s 0 0x50, stDenied)
  else if stale then (count s 0 0x58, stStale)
  else if !availWrite s a then (s, stDomain)
  else writeAt s a v

/-- The end of a write request: words left over in a command window are discarded (R218, R249). -/
def writeEnd (s : State) : State := tcmWinEnd (tblWinEnd s)

/-- The end of a write request that wrote one address only: it leaves words over only where the address is a command window. -/
def writeEndAt (a : Nat) (s : State) : State :=
  if a = Reg.addr .tblCmdWin [] then tblWinEnd s else if a = Reg.addr .tcmCmdWin [] then tcmWinEnd s else s

/-! ## One access as a command -/

/-- Requests reach the device: the chain runs, and the device has an address (R74); during a firmware restart they are answered
busy (R508). -/
def withSession (s : State) (f : State → State) : State :=
  if !onChain s || decide (nodeId s = 0) then s else if !fwRuns s then { s with acc := (stBusy, 0) } else f s

/-- A read of one word by a slot, with its answer kept in `acc`. -/
def sessRead (s : State) (slot a : Nat) : State :=
  withSession s (fun t => let x := readWord t slot a; { x.1 with acc := x.2 })

/-- A write of one word by a slot under the current epoch of its lease, with its answer kept in `acc`. -/
def sessWrite (s : State) (slot : Nat) (role : Role) (a : Nat) (v : Word) : State :=
  withSession s (fun t => let x := writeWord t slot role false a v; { (if x.2 = stOk then writeEndAt a x.1 else x.1) with acc := (x.2, 0) })

/-- A write by the owner session to a register. -/
def ownWrite (s : State) (slot : Nat) (r : Reg) (idx : List Nat) (v : Word) : State := sessWrite s slot .owner (r.addr idx) v

/-- A write request of several words to one address (INC = 0). -/
def sessWrites (s : State) (slot a : Nat) (l : List Word) : State :=
  withSession s (fun t =>
    let x := l.foldl (fun (y : State × Nat) w =>
      let z := writeWord y.1 slot .owner false a w
      (z.1, if y.2 = stOk then z.2 else y.2)) (t, stOk)
    { writeEndAt a x.1 with acc := (x.2, 0) })

/-! ## Commands -/

/-- REGISTER_WRITE (R16). -/
def execRegisterWrite (slot : Fin 4) (role : Role) (addr val : Word) (s : State) : Res := ok (sessWrite s slot.val role addr.toNat val)

/-- RC_READ (R18). -/
def execRcRead (slot : Fin 4) (addr : Word) (s : State) : Res := ok (sessRead s slot.val addr.toNat)

/-- COUNTER_LOW_READ (R23). -/
def execCounterLowRead (slot : Fin 4) (addr : Word) (s : State) : Res := ok (sessRead s slot.val addr.toNat)

/-- COUNTER_WRITE (R483). -/
def execCounterWrite (slot : Fin 4) (role : Role) (addr val : Word) (s : State) : Res := ok (sessWrite s slot.val role addr.toNat val)

/-- TB_NS_LO_READ (R23). -/
def execTbNsLoRead (slot : Fin 4) (s : State) : Res := ok (sessRead s slot.val (Reg.addr .tgtTbNsLo []))

/-- PPS_CAP_LO_READ (R401). -/
def execPpsCapLoRead (slot : Fin 4) (s : State) : Res := ok (sessRead s slot.val (Reg.addr .tgtPpsCapLo []))

/-- TXTS_HDR_READ (R147). -/
def execTxtsHdrRead (slot : Fin 4) (p : Fin 128) (s : State) : Res :=
  ok (sessRead s slot.val (Reg.addr .lpTxtsHdr [p.val / 8, p.val % 8]))

/-- TTI_RX_READ (R166). -/
def execTtiRxRead (slot : Fin 4) (g : Fin 16) (pm : Bool) (s : State) : Res :=
  ok (sessRead s slot.val (Reg.addr (if pm then .otnPmTtiRx else .otnSmTtiRx) [g.val, 0]))

/-- TBL_FAIL_FIFO_READ (R219). -/
def execTblFailFifoRead (slot : Fin 4) (s : State) : Res := ok (sessRead s slot.val (Reg.addr .tblFailFifo []))

/-- TCM_FAIL_FIFO_READ (R250). -/
def execTcmFailFifoRead (slot : Fin 4) (s : State) : Res := ok (sessRead s slot.val (Reg.addr .tcmFailFifo []))

/-- LRN_NOTIFY_READ (R231). -/
def execLrnNotifyRead (slot : Fin 4) (sl : Fin 9) (s : State) : Res := ok (sessRead s slot.val (Reg.addr .lrnNotify [sl.val]))

/-- FURLONG_GO (R41). -/
def execFurlongGo (slot : Fin 4) (s : State) : Res := ok (ownWrite s slot.val .devFurlongCommit [] 1)

/-- FURLONG_GO_AT (R47). -/
def execFurlongGoAt (slot : Fin 4) (s : State) : Res := ok (ownWrite s slot.val .devFurlongCommit [] 3)

/-- FURLONG_CANCEL (R46). -/
def execFurlongCancel (slot : Fin 4) (s : State) : Res := ok (ownWrite s slot.val .devFurlongCommit [] 4)

/-- DEV_UNFENCE (R464). -/
def execDevUnfence (slot : Fin 4) (blk : Fin 64) (unit : Fin 65536) (s : State) : Res :=
  ok (ownWrite s slot.val .devUnfence [] (mkB 31 true ||| mkF 29 24 blk.val ||| mkF 15 0 unit.val))

/-- FLT_STICKY_WRITE (R459). -/
def execFltStickyWrite (slot : Fin 4) (blk : Fin 21) (val : Word) (s : State) : Res := ok (ownWrite s slot.val .fltSticky [blk.val] val)

/-- FLT_FIRST_WRITE (R458). -/
def execFltFirstWrite (slot : Fin 4) (blk : Fin 21) (val : Word) (s : State) : Res := ok (ownWrite s slot.val .fltFirst [blk.val] val)

/-- DOM_SWITCH_ON (R525). -/
def execDomSwitchOn (slot : Fin 4) (d : Fin 128) (s : State) : Res :=
  ok (ownWrite s slot.val .pwrDomCmd [] (mkF 31 30 3 ||| mkF 6 0 d.val))

/-- DOM_SWITCH_OFF (R524). -/
def execDomSwitchOff (slot : Fin 4) (d : Fin 128) (s : State) : Res :=
  ok (ownWrite s slot.val .pwrDomCmd [] (mkF 31 30 2 ||| mkF 6 0 d.val))

/-- KEY_REVOKE (R100). -/
def execKeyRevoke (slot : Fin 4) (confirm : Fin 65536) (k : Fin 4) (s : State) : Res :=
  ok (ownWrite s slot.val .imgKeyRevoke [] (mkF 31 16 confirm.val ||| mkF 1 0 k.val))

/-- BOOT_SEL_WRITE (R104, Table 3.13). -/
def execBootSelWrite (slot : Fin 4) (once : Bool) (t : Fin 4) (s : State) : Res :=
  ok (ownWrite s slot.val .imgBootSel [] (mkB 3 once ||| mkF 1 0 t.val))

/-- SLICE_LOAD (R107, R108). -/
def execSliceLoad (slot : Fin 4) (sl : Fin 16) (t : Fin 4) (n : Fin 8) (s : State) : Res :=
  ok (ownWrite s slot.val .imgSliceLoad [] (mkB 31 true ||| mkF 11 8 sl.val ||| mkF 5 4 t.val ||| mkF 2 0 n.val))

/-- SLICE_UNLOAD (R107). -/
def execSliceUnload (slot : Fin 4) (sl : Fin 16) (s : State) : Res :=
  ok (ownWrite s slot.val .imgSliceLoad [] (mkB 30 true ||| mkF 11 8 sl.val))

/-- STEER_WRITE (R110). -/
def execSteerWrite (slot : Fin 4) (val : Word) (s : State) : Res := ok (ownWrite s slot.val .imgSteer [] val)

/-- APPLY_HITLESS (R119). -/
def execApplyHitless (slot : Fin 4) (t : Fin 4) (s : State) : Res := ok (ownWrite s slot.val .imgApply [] (mkB 31 true ||| mkF 1 0 t.val))

/-- APPLY_COLD (R123). -/
def execApplyCold (slot : Fin 4) (t : Fin 4) (s : State) : Res := ok (ownWrite s slot.val .imgApply [] (mkF 31 30 3 ||| mkF 1 0 t.val))

/-- APPLY_STOP (R122). -/
def execApplyStop (slot : Fin 4) (s : State) : Res := ok (ownWrite s slot.val .imgApply [] (mkB 29 true))

/-- GRP_MODE_WRITE (R129). -/
def execGrpModeWrite (slot : Fin 4) (g : Fin 16) (val : Word) (s : State) : Res := ok (ownWrite s slot.val .lpGrpMode [g.val] val)

/-- PORT_ENABLE (R138): EN is written 1 and the other fields as they are. -/
def execPortEnable (slot : Fin 4) (p : Fin 128) (s : State) : Res :=
  ok (ownWrite s slot.val .lpPortCfg [p.val / 8, p.val % 8] (setBit (regRaw s .lpPortCfg [p.val / 8, p.val % 8]) 31 true))

/-- PORT_DISABLE (R141). -/
def execPortDisable (slot : Fin 4) (p : Fin 128) (s : State) : Res :=
  ok (ownWrite s slot.val .lpPortCfg [p.val / 8, p.val % 8] (setBit (regRaw s .lpPortCfg [p.val / 8, p.val % 8]) 31 false))

/-- SYNCE_CFG_WRITE (R148). -/
def execSynceCfgWrite (slot : Fin 4) (j : Fin 2) (val : Word) (s : State) : Res := ok (ownWrite s slot.val .lpSynceCfg [j.val] val)

/-- TBL_CMD_WIN_WRITE (R218): the words of one request. -/
def execTblCmdWinWrite (slot : Fin 4) (words : List Word) (s : State) : Res :=
  ok (sessWrites s slot.val (Reg.addr .tblCmdWin []) words)

/-- TCM_CMD_WIN_WRITE (R249). -/
def execTcmCmdWinWrite (slot : Fin 4) (words : List Word) (s : State) : Res :=
  ok (sessWrites s slot.val (Reg.addr .tcmCmdWin []) words)

/-- EM_REHASH_GO (R215, R217). -/
def execEmRehashGo (slot : Fin 4) (t : Fin 4) (s : State) : Res := ok (ownWrite s slot.val .tblEmRehash [t.val] (mkB 31 true))

/-- EM_REHASH_ABORT (R216). -/
def execEmRehashAbort (slot : Fin 4) (t : Fin 4) (s : State) : Res := ok (ownWrite s slot.val .tblEmRehash [t.val] (mkB 30 true))

/-- LRN_COPY_GO (R235). -/
def execLrnCopyGo (slot : Fin 4) (val : Word) (s : State) : Res := ok (ownWrite s slot.val .lrnCopy [] (setBit val 31 true))

/-- LRN_COPY_STOP (R235). -/
def execLrnCopyStop (slot : Fin 4) (val : Word) (s : State) : Res :=
  ok (ownWrite s slot.val .lrnCopy [] (setFld val 31 30 1))

/-- TCM_BANK_FENCE (R259). -/
def execTcmBankFence (slot : Fin 4) (p : Fin 96) (s : State) : Res := ok (ownWrite s slot.val .tcmBank [p.val] (mkB 31 true))

/-- TCM_ALIAS_WRITE (R247). -/
def execTcmAliasWrite (slot : Fin 4) (a : Fin 32) (val : Word) (s : State) : Res := ok (ownWrite s slot.val .tcmAlias [a.val] val)

/-- XE_ENGINE_FENCE (R276). -/
def execXeEngineFence (slot : Fin 4) (val : Word) (s : State) : Res := ok (ownWrite s slot.val .xeEngineFence [] val)

/-- XE_CLASS_WRITE (R265). -/
def execXeClassWrite (slot : Fin 4) (role : Role) (c : Fin 64) (w : Fin 3) (val : Word) (s : State) : Res :=
  ok (sessWrite s slot.val role (Reg.addr (classReg w.val) [c.val]) val)

/-- ELL_SLEEP_WRITE (R306). -/
def execEllSleepWrite (slot : Fin 4) (k : Fin 32) (val : Word) (s : State) : Res := ok (ownWrite s slot.val .ellBcfg [k.val / 16, k.val % 16] val)

/-- MCG_WRITE (R330). -/
def execMcgWrite (slot : Fin 4) (g : Fin 65536) (eg : Bool) (val : Word) (s : State) : Res :=
  ok (ownWrite s slot.val (if eg then .bpmMcgEg else .bpmMcgIng) [g.val] val)

/-- HBM_STACK_POWER_OFF (R369). -/
def execHbmStackPowerOff (slot : Fin 4) (k : Fin 4) (s : State) : Res := ok (ownWrite s slot.val .hbmStackCfg [k.val] 0)

/-- HBM_STACK_POWER_ON (R369). -/
def execHbmStackPowerOn (slot : Fin 4) (k : Fin 4) (s : State) : Res := ok (ownWrite s slot.val .hbmStackCfg [k.val] (mkB 31 true))

/-- HBM_CH_REOPEN (R362): REOPEN is written 1 and the other fields as they are. -/
def execHbmChReopen (slot : Fin 4) (c : Fin 64) (s : State) : Res :=
  ok (ownWrite s slot.val .hbmChCfg [c.val] (openOr s .hbmChCfg [c.val] &&& 0x80000000 ||| (regRaw s .hbmChCfg [c.val] &&& 0xFF) ||| mkB 30 true))

/-- The register of a window word w of a node: its place after SCH_N_MAP (Table 13.5). -/
def nodeReg (w : Nat) : Reg :=
  match w with
  | 0 => .schNMap | 1 => .schNCir | 2 => .schNPir | 3 => .schNBurst | 4 => .schNCtok | 5 => .schNPtok | 6 => .schNQcfg | _ => .schNQmax

/-- SCH_NODE_WRITE (R376). -/
def execSchNodeWrite (slot : Fin 4) (role : Role) (w : Fin 8) (val : Word) (s : State) : Res :=
  ok (sessWrite s slot.val role (Reg.addr (nodeReg w.val) []) val)

/-- SCH_MAP_WRITE (R377). -/
def execSchMapWrite (slot : Fin 4) (role : Role) (val : Word) (s : State) : Res := ok (sessWrite s slot.val role (Reg.addr .schNMap []) val)

/-- SCH_RESEED (R393). -/
def execSchReseed (slot : Fin 4) (s : State) : Res := ok (ownWrite s slot.val .schNQmax [] 1)

/-- A command of TGT_TB_CMD by the timekeeper session. -/
def tbWrite (s : State) (slot op : Nat) : State := sessWrite s slot .timekeeper (Reg.addr .tgtTbCmd []) (mkF 31 29 op)

/-- TB_NONE (R399). -/
def execTbNone (slot : Fin 4) (s : State) : Res := ok (tbWrite s slot.val 0)
/-- TB_STEP (R399). -/
def execTbStep (slot : Fin 4) (s : State) : Res := ok (tbWrite s slot.val 1)
/-- TB_SLEW (R400). -/
def execTbSlew (slot : Fin 4) (s : State) : Res := ok (tbWrite s slot.val 2)
/-- TB_CANCEL_SLEW (R399). -/
def execTbCancelSlew (slot : Fin 4) (s : State) : Res := ok (tbWrite s slot.val 3)
/-- TB_SET_NOW (R399). -/
def execTbSetNow (slot : Fin 4) (s : State) : Res := ok (tbWrite s slot.val 4)
/-- TB_SET_AT_PPS (R399). -/
def execTbSetAtPps (slot : Fin 4) (s : State) : Res := ok (tbWrite s slot.val 5)

/-- TB_SRC_WRITE (R397). -/
def execTbSrcWrite (slot : Fin 4) (val : Word) (s : State) : Res := ok (sessWrite s slot.val .timekeeper (Reg.addr .tgtTbCtrl []) val)

/-- GCL_WRITE (R408). -/
def execGclWrite (slot : Fin 4) (p : Fin 128) (mem : Bool) (e : Fin 1024) (w1 : Bool) (val : Word) (s : State) : Res :=
  ok (ownWrite s slot.val (if w1 then .tgtGclW1 else .tgtGclW0) [p.val, mem.toNat, e.val] val)

/-- GATE_CFG_WRITE (R409). -/
def execGateCfgWrite (slot : Fin 4) (p : Fin 128) (regB : Bool) (val : Word) (s : State) : Res :=
  ok (ownWrite s slot.val (if regB then .tgtGcfgB else .tgtGcfgA) [p.val] val)

/-- FAB_LANE_ENABLE (R417). -/
def execFabLaneEnable (slot : Fin 4) (l : Fin 192) (val : Word) (s : State) : Res := ok (ownWrite s slot.val .fabLaneCfg [l.val] (setBit val 31 true))

/-- FAB_LANE_DISABLE (R417). -/
def execFabLaneDisable (slot : Fin 4) (l : Fin 192) (val : Word) (s : State) : Res := ok (ownWrite s slot.val .fabLaneCfg [l.val] (setBit val 31 false))

/-- FAB_SWITCH (R447). -/
def execFabSwitch (slot : Fin 4) (s : State) : Res := ok (ownWrite s slot.val .fabCmd [] (mkB 31 true))
/-- FAB_DOWN_A (R444). -/
def execFabDownA (slot : Fin 4) (s : State) : Res := ok (ownWrite s slot.val .fabCmd [] (mkB 30 true))
/-- FAB_DOWN_B (R444). -/
def execFabDownB (slot : Fin 4) (s : State) : Res := ok (ownWrite s slot.val .fabCmd [] (mkB 29 true))
/-- FAB_CLEAR_A (R444). -/
def execFabClearA (slot : Fin 4) (s : State) : Res := ok (ownWrite s slot.val .fabCmd [] (mkB 28 true))
/-- FAB_CLEAR_B (R444). -/
def execFabClearB (slot : Fin 4) (s : State) : Res := ok (ownWrite s slot.val .fabCmd [] (mkB 27 true))

/-- FAB_LANE_REJOIN (R443): REJOIN is written 1 and the other fields as they are. -/
def execFabLaneRejoin (slot : Fin 4) (l : Fin 192) (s : State) : Res :=
  ok (ownWrite s slot.val .fabLaneCfg [l.val] (regRaw s .fabLaneCfg [l.val] ||| mkB 29 true))

/-- FAB_PEER_EN_WRITE (R431). -/
def execFabPeerEnWrite (slot : Fin 4) (i : Fin 8) (val : Word) (s : State) : Res := ok (ownWrite s slot.val .fabPeerEn [i.val] val)

/-- FAB_EN_WRITE (R432). -/
def execFabEnWrite (slot : Fin 4) (val : Word) (s : State) : Res := ok (ownWrite s slot.val .fabCfg [] val)

/-- TWIN_EN_WRITE (R450). -/
def execTwinEnWrite (slot : Fin 4) (g : Fin 16) (val : Word) (s : State) : Res := ok (ownWrite s slot.val .fabTwinCfg [g.val] val)

/-- TWIN_CLAIM (R450): CLAIM is written 1 and the other fields as they are. -/
def execTwinClaim (slot : Fin 4) (g : Fin 16) (s : State) : Res :=
  ok (ownWrite s slot.val .fabTwinCfg [g.val] (regRaw s .fabTwinCfg [g.val] ||| mkB 28 true))

/-- TWIN_RELEASE (R450). -/
def execTwinRelease (slot : Fin 4) (g : Fin 16) (s : State) : Res :=
  ok (ownWrite s slot.val .fabTwinCfg [g.val] (regRaw s .fabTwinCfg [g.val] ||| mkB 27 true))

/-- REC_FLUSH (R469). -/
def execRecFlush (slot : Fin 4) (s : State) : Res := ok (ownWrite s slot.val .recCmd [] (mkB 31 true))

/-- REC_SAVE (R477). -/
def execRecSave (slot : Fin 4) (s : State) : Res := ok (ownWrite s slot.val .recCmd [] (mkB 30 true))

/-- REC_RD_IDX_WRITE (R481). -/
def execRecRdIdxWrite (slot : Fin 4) (val : Word) (s : State) : Res := ok (ownWrite s slot.val .recRdIdx [] val)

/-- PMC_SET_GO (R485). -/
def execPmcSetGo (slot : Fin 4) (n : Fin 8) (s : State) : Res := ok (ownWrite s slot.val .pmcSetCmd [n.val] (mkB 31 true))

/-- PMC_ENTRY_WRITE (R484). -/
def execPmcEntryWrite (slot : Fin 4) (n : Fin 8) (e : Fin 1024) (val : Word) (s : State) : Res := ok (ownWrite s slot.val .pmcEntry [n.val, e.val] val)

/-- UPD_ACTIVATE (R505). -/
def execUpdActivate (slot : Fin 4) (cold : Bool) (s : State) : Res := ok (ownWrite s slot.val .updCmd [] (mkB 31 true ||| mkB 30 cold))

/-- UPD_CONFIRM (R509). -/
def execUpdConfirm (slot : Fin 4) (s : State) : Res := ok (ownWrite s slot.val .updCmd [] (mkB 29 true))

/-- UPD_CMD_ABORT (R497). -/
def execUpdCmdAbort (slot : Fin 4) (s : State) : Res := ok (ownWrite s slot.val .updCmd [] (mkB 28 true))

/-- UPD_RESTART (R512). -/
def execUpdRestart (slot : Fin 4) (s : State) : Res := ok (ownWrite s slot.val .updCmd [] (mkB 27 true))

/-- UPD_RELAY_GO (R503). -/
def execUpdRelayGo (slot : Fin 4) (dst : Fin 64) (s : State) : Res := ok (ownWrite s slot.val .updRelay [] (mkB 31 true ||| mkF 5 0 dst.val))

/-- ACCESS_GATE_TIMEOUT (R35): an access that entered its domain has no reply within 4 µs. -/
def execAccessGateTimeout (addr : Word) (s : State) : Res :=
  let a := addr.toNat
  ok (withSession s (fun t =>
    if !definedAt t a then { t with acc := (stAddr, 0) }
    else
      let t1 := if availAddr t a && !islandBlock (a / 0x1000000) then faultRise t 0 0 (a / 0x1000000) 0 addr else t
      { t1 with acc := (stDomain, deadData a) }))

end Sys2Proof.Machine
end

