-- ==== Sys2Proof/Machine/Boot.lean ====
section
/-! DEFINITION. The boot of the data path: the choice of the boot Tun, the sections of the boot image, and the end of the boot
(R104 to R106, R316, R537). -/

namespace Sys2Proof.Machine

/-! ## Stores are cleared (R203, R261, R316) -/

/-- STORE_CLEAR_DONE: shared SRAM, associative search and buffer state are empty. -/
def storeClear (s : State) : State :=
  modBoot { s with
    tbl := { s.tbl with routes := {}, em := {}, ovf := [], nh := {}, grp := {}, mem := {}, sig := {}, bad := {} }
    tcm := { s.tcm with ents := {}, par := {}, shadow := {}, dataBad := {}, shadowBad := {} }
    bpm := { s.bpm with bufs := {}, q := {}, count := {} } } (fun b => { b with cleared := true })

/-- STORE_CLEAR_DONE (R537): once the rails are up and the firmware runs, before DIRECT clears. -/
def execStoreClearDone (s : State) : Res :=
  ok (if onData s && s.pwr.boot.fwReady && !s.pwr.boot.cleared && !s.pwr.boot.done then storeClear s else s)

/-! ## The choice of the boot Tun (R104) -/

/-- The boot takes Tun n; `src` is BOOT_SRC. -/
def bootTake (s : State) (n src : Nat) : State :=
  modBoot (modImg s (fun i => { i with bootTun := n, bootSrc := src })) (fun b => { b with tun := some n })

/-- The first choice of the boot that runs: the Tun of a cold apply, or that of step 1. -/
def firstChoice (s : State) : Nat := s.img.coldTun.getD s.img.choice.1

/-- Step 3: the first other Tun in ascending number that is PRESENT, CONFIRMED and valid and not yet tried; step 4 where there is
none. -/
def bootFallback (s : State) : State :=
  match (List.range 4).find? (fun n => !s.img.tried.contains n && tunPresent s n && tunConfirmed s n && tunValid s n) with
  | some n =>
    event (bootTake (modImg s (fun i => { i with tried := i.tried ++ [n] })) n 2) 0x0C02 n (firstChoice s * 256 + n)
  | none => recoveryEnter s true

/-- Steps 1 to 4: ONCE is cleared in flash before verification starts, and every present Tun is checked. -/
def bootChoose (s : State) : State :=
  let once := onceSet s
  let first := if once then onceTun s else s.pwr.profSampled % 4
  let s1 := if once then onceWrite s false (onceTun s) else s
  let s2 := modImg s1 (fun i => { i with choice := (first, once), tried := [first] })
  let s3 := forEach (List.range 4) (fun n t => tunCheck t n) s2
  if tunPresent s3 first && tunValid s3 first then bootTake s3 first once.toNat else bootFallback s3

/-- BOOT_TUN_VERIFIED (R104). -/
def execBootTunVerified (s : State) : Res :=
  ok (if onIsland s && s.pwr.boot.fwReady && fwRuns s && s.pwr.boot.tun.isNone && !s.pwr.boot.done && !s.upd.recovery && !s.flt.fatal
    then bootChoose s else s)

/-! ## Sections (R106) -/

/-- A register or node word of a section or of REGINIT, in direct mode (R50). Dispatch classes are the loader's own (R279), and so are
the registers that only the image sets: the regions, the division of the queue store and the pools (R95). -/
def bootWrite (s : State) (w : Nat × Word) : State :=
  if 2 ^ 32 ≤ w.1 then applyNow s w.1 w.2
  else match regAt w.1 with
    | some (.xeClassA, _) => applyNow s w.1 (setBit w.2 29 false)
    | some (.xeClassB, _) => applyNow s w.1 w.2
    | some (.xeClassC, _) => applyNow s w.1 w.2
    | some (.lpGrpMode, [g]) => setMode s g w.2
    | some (.tblRegion, idx) => setReg s .tblRegion idx w.2
    | some (.schQsplit, idx) => setReg s .schQsplit idx w.2
    | some (.bpmPoolCfg, idx) => setReg s .bpmPoolCfg idx w.2
    | _ => (writeAt s w.1 w.2).1

/-- A pair of REGINIT: a class register is written under R265. -/
def initWrite (s : State) (w : Nat × Word) : State :=
  match (if 2 ^ 32 ≤ w.1 then none else regAt w.1) with
  | some (.xeClassA, [c]) => classWrite s c 0 w.2
  | some (.xeClassB, [c]) => classWrite s c 1 w.2
  | some (.xeClassC, [c]) => classWrite s c 2 w.2
  | _ => bootWrite s w

/-- The registers that a device section sets. -/
def bootSection (s : State) (base ty : Nat) : State := (sectSettings s base ty).writes.foldl bootWrite s

/-- TBLLAYOUT: the regions, and how many bits of each exact-match table's entries are key (R202, R212). -/
def bootTables (s : State) (base : Nat) : State :=
  setKeyBits (bootSection s base 4) base (fun _ => true)

/-- TCMLAYOUT: each logical bank is bound at its place, and a bank that replaced one the layout does not bind is free (R260). -/
def bootBanks (s : State) (base : Nat) : State :=
  let l := tcmBindings s base
  let p := (placement s base).getD []
  let s1 := forEach (List.range 96) (fun q u =>
    if (tcmBank u q).st = .unbound then setBank u q {} else u) s
  p.foldl (fun u x => match l.find? (fun b => b.1 == x.1) with
    | some b => setBank u x.2 { st := .inService, width := b.2.1, table := b.2.2,
                                logical := if x.2 = x.1 then none else some x.1, replaces := decide (x.2 ≠ x.1) }
    | none => u) s1

/-- XEUCODE: the microcode goes into half 0 of every cluster whose engines are powered, and the classes are set (R262, R279). -/
def bootUcode (s : State) (base : Nat) : State :=
  let s1 := if (sectOf s base 6 0xFFFF).isSome then
      forEach (List.range 8) (fun k u => if domOn u (36 + k) then modClu u k (fun c => { c with half0 := some (Config.ucode (devSect s base 6)) }) else u) s
    else s
  bootSection (modImg s1 (fun i => { i with half := false })) base 6

/-- The countdowns of the sessions are loaded at every point (R316, R340). -/
def bootMirrors (s : State) : State :=
  forEach ((List.range 15).map (· + 1)) (fun n u =>
    if mirEn (mirSess u.regs n) n then forEach (List.range 25) (fun p v => mirLoad v (mirSess v.regs n) n p) u else u) s

/-- Every section of the boot image is written, REGINIT last (R106). -/
def bootWriteAll (s : State) (t : Nat) : State :=
  let b := tunBase t
  let s1 := forEach (List.range 8) (fun n u => lrnPair (writeRole u n t n .active) n n) s
  let s2 := bootUcode (bootBanks (bootTables (bootSection s1 b 10) b) b) b
  let s3 := bootSection (bootSection (bootSection (writeLists s2 b false) b 7) b 8) b 9
  (regInit s b).foldl initWrite (bootSection s3 b 11)

/-- The end of a cold apply's boot for the update session (R505, R510, Table 18.2). -/
def coldEnded (s : State) (want booted : Nat) : State :=
  if want = booted then updApplied s
  else if s.upd.applying then fallEnd (count s 0x13 0x38) 1
  else if s.upd.falling then fallEnd s 0x2B
  else s

/-- The end of the boot that follows a release of RESET_N (R481, R537): CLK_BOOT_TIME, event 0x0801 and the boot record. -/
def bootReport (s : State) (t : Nat) : State :=
  let ms := (s.now - s.pwr.boot.t0) / 1000000
  bootRecord (event (modPwr s (fun p => { p with bootMs := ms })) 0x0801 0 (mkF 15 0 ms ||| mkF 17 16 t).toNat)

/-- The boot ends (R106): DIRECT clears. The boot of a cold apply is no release of RESET_N: Table 19.7 and R481 report nothing
for it, and it ends the apply instead. -/
def bootEnd (s : State) (t : Nat) : State :=
  let s1 := imgInEffect (bootMirrors (bootWriteAll s t)) t
  let s2 := modBoot { s1 with fur := { s1.fur with direct := false } } (fun b => { b with done := true })
  match s.img.coldTun with
  | some w => coldEnded (modImg s2 (fun i => { i with coldTun := none })) w t
  | none => bootReport s2 t

/-- Every earlier step of Table 19.7 has completed: no bundle direction searches, and no stack trains. -/
def bootReady (s : State) : Bool :=
  onData s && s.pwr.boot.fwReady && fwRuns s && s.pwr.boot.cleared && s.fur.direct && !s.pwr.boot.done
    && (List.range 32).all (fun k => (bundleOf s k).st != .train)
    && (List.range 4).all (fun k => (stackOf s k).st != .training)

/-- Every section of Tun t matches its digest as it is written (R101), and its search banks can be placed (R260). -/
def sectionsGood (s : State) (t : Nat) : Bool :=
  (sects s (tunBase t)).all (sectOk s (tunBase t)) && (placement s (tunBase t)).isSome

/-- BOOT_SECTIONS_WRITTEN (R106): a section that fails is a failure of that Tun under step 3 of R104. -/
def execBootSectionsWritten (s : State) : Res :=
  ok (if bootReady s then
    match s.pwr.boot.tun with
    | some t => if sectionsGood s t then bootEnd s t else bootFallback (tunRefused s t 8)
    | none => s
  else s)

end Sys2Proof.Machine
end

