-- ==== Sys2Proof/Machine/Sides.lean ====
section
/-! DEFINITION. Chain ports and sides: block lock, link status, the side state machine, and what an output port sends
(R54, R66, R80 to R83). -/

namespace Sys2Proof.Machine

/-- A port of the east side: EA (1) and EB (3); WA (0) and WB (2) are the west side. -/
def eastPort (port : Nat) : Bool := port % 2 == 1
/-- The two ports of a side. -/
def sidePorts (east : Bool) : Nat × Nat := if east then (1, 3) else (0, 2)
/-- A side. -/
def sideOf (s : State) (east : Bool) : Side := if east then s.chain.east else s.chain.west
/-- Write a side. -/
def setSide (s : State) (east : Bool) (x : Side) : State :=
  modChain s (fun c => if east then { c with east := x } else { c with west := x })

/-- A port has link status that is not older than 3 µs. -/
def lsFresh (s : State) (x : Side) (p : Nat) : Bool :=
  match x.lsAt.find p with | some t => decide (s.now ≤ t + 3000) | none => false

/-- The condition that leads from DOWN to STABLE (Table 2.9): both ports locked, with link status from one serial. -/
def sideGood (s : State) (east : Bool) : Bool :=
  let (a, b) := sidePorts east
  let x := sideOf s east
  s.chain.lock.get false a && s.chain.lock.get false b && lsFresh s x a && lsFresh s x b && x.ser.find a == x.ser.find b

/-- A side enters a state; every change is told by a ring state frame (R83). -/
def sideTo (s : State) (east : Bool) (st : SideState) : State :=
  sendRingState (setSide s east { sideOf s east with st := st, since := none, joinAt := s.now })

/-- A side in UP goes DOWN: the wrap is applied, event 0x0030, DEV_CH_WRAPS (Table 2.9). -/
def sideDown (s : State) (east : Bool) : State :=
  let x := sideOf s east
  let s1 := event (count (setSide s east { x with st := .down, wrapped := true, since := none }) 0 0x100) 0x0030 east.toNat x.node
  sendRingState s1

/-- A loss on a side: UP, STABLE and JOIN go DOWN; in DOWN the qualification starts over. -/
def sideLoss (s : State) (east : Bool) : State :=
  match (sideOf s east).st with
  | .up => sideDown s east
  | .down => setSide s east { sideOf s east with since := none }
  | _ => sideTo s east .down

/-- The wrap of a side in UP is removed at the next link status transmit: ring state frame, event 0x0031 (Table 2.9). -/
def sideJoined (s : State) (east : Bool) : State :=
  let x := sideOf s east
  if x.st = .up ∧ x.wrapped then
    let s1 := sendRingState (setSide s east { x with wrapped := false })
    event2 s1 0x0031 east.toNat x.node (x.ser.get 0 (sidePorts east).1 % 2 ^ 32)
  else s

/-- Valid link status with words `w0` and `w1` arrives on a port (Tables 2.8 and 2.9). -/
def linkStatus (s : State) (port : Nat) (w0 w1 : Word) : State :=
  let east := eastPort port
  let x := sideOf s east
  let ser := fld w0 15 0 * 2 ^ 32 + w1.toNat
  let changed := match x.ser.find port with | some o => o != ser | none => false
  let kept := !changed && sideGood s east
  let s1 := setSide s east { x with
    ser := x.ser.put port (some ser), lsAt := x.lsAt.put port (some s.now), node := fld w0 31 25 }
  match x.st with
  | .down =>
    let y := sideOf s1 east
    setSide s1 east { y with since := if sideGood s1 east then (if kept then some (y.since.getD s.now) else some s.now) else none }
  | .stable =>
    if changed then sideTo s1 east .down
    else if tbit w0 21 || tbit w0 20 then sideTo s1 east .join
    else s1
  | .join =>
    if changed then sideTo s1 east .down
    else if tbit w0 20 then recTell (setSide s1 east { sideOf s1 east with st := .up, since := none })
    else s1
  | .up => if changed || tbit w0 22 then sideDown s1 east else s1

/-- Words of the link status that a port sends (Table 2.8). -/
def lsWords (s : State) (port : Nat) : List Word :=
  let st := (sideOf s (eastPort port)).st
  [mkF 31 25 (nodeId s) ||| mkF 24 23 port ||| mkB 22 (st == .down) ||| mkB 21 (st == .stable) ||| mkB 20 (st == .join)
    ||| mkF 15 0 (serialNat / 2 ^ 32), lo32 serialNat]

/-- Every port sends its link status, 1 µs after the last (R80); sides that have become UP lose their wrap, and a ring state frame that
waited goes. -/
def linkStatusSend (s : State) : State :=
  let s1 := forEach (List.range 4) (fun p t =>
    let f := mkFrame 0xA (p / 2) 0 (nodeId t) 0 0 0 0 0 (lsWords t p)
    modChain t (fun c => lineSend p f { c with lsDue := s.now + 1000, sentLs := c.sentLs.put p (some f) })) s
  let s2 := sideJoined (sideJoined s1 false) true
  if s2.chain.ringStateDue && decide (s2.chain.ringStateAt ≤ s2.now) then sendRingState s2 else s2

/-! ## Output ports (R66) -/

/-- The frame a class's queue sends next, whether it is a transit frame, and the queue after it: transit first, but one local frame
after 16 transit frames in a row while it waited. -/
def txNext (q : TxQ) : Option (ChainFrame × Bool × TxQ) :=
  match q.transit, q.localQ with
  | [], [] => none
  | [], l :: rest => some (l, false, { q with localQ := rest, run := 0 })
  | t :: rest, [] => some (t, true, { q with transit := rest, run := 0 })
  | t :: rest, l :: lrest =>
    if 16 ≤ q.run then some (l, false, { q with localQ := lrest, run := 0 })
    else some (t, true, { q with transit := rest, run := q.run + 1 })

/-- An output port sends its next frame, control class first; a frame whose side is wrapped meanwhile goes the other way (R82). -/
def portTx (s : State) (port : Nat) : State :=
  match (List.range 3).findSome? (fun c => (txNext (s.chain.txq.get {} (port * 3 + c))).map (fun x => (c, x))) with
  | none => s
  | some (c, f, transit, q) =>
    let s1 := modChain s (fun y => { y with txq := y.txq.set {} (port * 3 + c) q })
    let ring := if port = 1 then 0 else 1
    if (exitSide s1 ring).wrapped then sendOn s1 ring f transit
    else modChain s1 (fun y => lineSend port f { y with sent := y.sent.put port (some f) })

/-! ## Commands -/

/-- CHAIN_PORT_TX (R66). -/
def execChainPortTx (port : Fin 4) (s : State) : Res := ok (if onChain s then portTx s port.val else s)

/-- LINK_STATUS_SEND (R80). -/
def execLinkStatusSend (s : State) : Res := ok (if onChain s && decide (s.chain.lsDue ≤ s.now) then linkStatusSend s else s)

/-- LINK_STATUS_RX (R81): a valid link status frame on a port that holds block lock. -/
def execLinkStatusRx (port : Fin 4) (w0 w1 : Word) (s : State) : Res :=
  ok (if onChain s && s.chain.lock.get false port.val then linkStatus s port.val w0 w1 else s)

/-- SIDE_STABLE_TIMER (R81): DOWN to STABLE after 10 ms without a break. -/
def execSideStableTimer (east : Bool) (s : State) : Res :=
  ok (let x := sideOf s east
    if onChain s && x.st == .down then
      if sideGood s east then
        (match x.since with
          | some t => if t + 10000000 ≤ s.now then sideTo s east .stable else s
          | none => s)
      else setSide s east { x with since := none }
    else s)

/-- SIDE_JOIN_TIMEOUT (R81): 1 ms in JOIN. -/
def execSideJoinTimeout (east : Bool) (s : State) : Res :=
  ok (let x := sideOf s east
    if onChain s && x.st == .join && decide (x.joinAt + 1000000 ≤ s.now) then sideTo s east .down else s)

/-- SIDE_LS_TIMEOUT (R81): more than 3 µs without valid link status on a port. -/
def execSideLsTimeout (port : Fin 4) (s : State) : Res :=
  ok (let east := eastPort port.val
    let late := match (sideOf s east).lsAt.find port.val with | some t => decide (t + 3000 ≤ s.now) | none => true
    if onChain s && late then sideLoss s east else s)

/-- CHAIN_LOCK_LOSS (R81). -/
def execChainLockLoss (port : Fin 4) (s : State) : Res :=
  ok (if onChain s then sideLoss (modChain s (fun c => { c with lock := c.lock.set false port.val false })) (eastPort port.val) else s)

/-- CHAIN_BLOCK_LOCK (R55, R81): the receiver deskews up to 32 blocks between its lanes. -/
def execChainBlockLock (a : BlockLock) (s : State) : Res :=
  ok (if onChain s && decide (a.skew ≤ 32) then modChain s (fun c => { c with lock := c.lock.set false a.port.val true }) else s)

/-- ID_CHANGE_HOLDOFF_END (R65): a ring state frame that waits may go under the node's ID. -/
def execIdChangeHoldoffEnd (s : State) : Res :=
  ok (if onChain s && decide (s.chain.holdUntil ≤ s.now) && s.chain.ringStateDue && decide (s.chain.ringStateAt ≤ s.now)
    then sendRingState s else s)

/-- BCAST_FILTER_LAPSE (R63): 10 ms after a source's last accepted broadcast. -/
def execBcastFilterLapse (src : Fin 128) (s : State) : Res :=
  ok (match s.chain.bcast.find src.val with
    | some b => if onChain s && decide (b.until' ≤ s.now) then modChain s (fun c => { c with bcast := c.bcast.put src.val none }) else s
    | none => s)

end Sys2Proof.Machine
end

