-- ==== Sys2Proof/Machine/PktCh.lean ====
section
/-! DEFINITION. The packet channel: packets to the host, and injected packets (R64, R77 to R79). -/

namespace Sys2Proof.Machine

/-! ## To the host -/

/-- Words of bytes, most significant first, the last one padded with zeros. -/
def byteWords : List Byte → List Word
  | a :: b :: c :: d :: rest => BitVec.ofNat 32 (beNat [a, b, c, d]) :: byteWords rest
  | [] => []
  | l => [BitVec.ofNat 32 (beNat (l ++ List.replicate (4 - l.length) 0))]

/-- The words of a ticket. -/
def tktWords (t : Ticket) : List Word := (List.range 8).map (fun i => lo32 (t.toNat / 2 ^ (32 * (7 - i))))

/-- The payload of a fragment (Table 2.7). -/
def fragment (q frag : Nat) (last : Bool) (id total : Nat) (tkt : Option Ticket) (data : List Byte) : List Word :=
  [mkF 31 29 q ||| mkF 28 26 frag ||| mkB 25 last ||| mkF 24 23 ((4 - data.length % 4) % 4) ||| mkF 22 11 id, mkF 13 0 total]
    ++ (match tkt with | some t => tktWords t | none => []) ++ byteWords data

/-- The later fragments of a packet: up to 2,040 B each. -/
def laterFrags (q id total : Nat) : Nat → Nat → List Byte → List (List Word)
  | 0, _, _ => []
  | n + 1, frag, l =>
    if l.length ≤ 2040 then [fragment q frag true id total none l]
    else fragment q frag false id total none (l.take 2040) :: laterFrags q id total n (frag + 1) (l.drop 2040)

/-- The fragments of a packet: the first carries the ticket and up to 2,008 B. -/
def fragments (q id : Nat) (t : Ticket) (pkt : List Byte) : List (List Word) :=
  if pkt.length ≤ 2008 then [fragment q 0 true id pkt.length (some t) pkt]
  else fragment q 0 false id pkt.length (some t) (pkt.take 2008) :: laterFrags q id pkt.length 7 1 (pkt.drop 2008)

/-- A burst in KiB as 1/800 B; 0 acts as 13. -/
def kibUnits (k : Nat) : Nat := (if k = 0 then 13 else k) * 1024 * 800

/-- The bucket of queue n, up to date, in 1/800 B; it starts full (R78). -/
def pktBucket (s : State) (n : Nat) : Bucket :=
  let cap := kibUnits (rf s .devPktchCfg [n] 11 0)
  match s.chain.pktB.find n with
  | some b => b.refill (rf s .devPktchCfg [n] 27 16) cap s.now
  | none => { lvl := cap, at' := s.now }

/-- The bucket of the device total, up to date. -/
def totBucket (s : State) : Bucket :=
  s.chain.totB.refill (min 1000 (rf s .devPktchTotal [] 11 0)) (kibUnits (rf s .devPktchTotal [] 27 16)) s.now

/-- The node a queue sends to: the owner's slot or SLOT; none where the queue drops (R64, Table 2.18). -/
def pktDst (s : State) (n : Nat) : Option Nat :=
  if nodeId s = 0 ∨ !rb s .devPktchCfg [n] 31 ∨ rf s .devPktchCfg [n] 27 16 = 0 then none
  else if rb s .devPktchCfg [n] 30 then (if s.node.owner.st = .live then some (64 + s.node.owner.slot) else none)
  else some (64 + rf s .devPktchCfg [n] 29 28)

/-- A packet that conforms to both buckets goes out in fragments, back to back; the others are dropped (R77, R78). -/
def pktSend (s : State) (n : Nat) (t : Ticket) (pkt : List Byte) : State :=
  let cost := (pkt.length + 32) * 800
  let b := pktBucket s n
  let d := totBucket s
  match pktDst s n with
  | none => count s 0 (0x80 + n * 8)
  | some dst =>
    if b.lvl < cost ∨ d.lvl < cost then count s 0 (0x80 + n * 8)
    else
      let s1 := modChain s (fun c => { c with
        pktB := c.pktB.put n (some { b with lvl := b.lvl - cost })
        totB := { d with lvl := d.lvl - cost }
        pktId := (c.pktId + 1) % 4096 })
      let s2 := (fragments n s.chain.pktId t pkt).foldl (fun u p =>
        unicast u (mkFrame 5 0 dst (nodeId s) 0 0 0 0 0 p)) s1
      count s2 0 (0xC0 + n * 8)

/-- The chain drains packet channel queue n by its head pointer (R78, R318). A packet with an uncorrectable line is dropped without
a count (Table 16.8). -/
def pktDrain (s : State) (n : Nat) : State :=
  let q := pktQ0 + n
  match (qOf s q).on with
  | [] => s
  | x :: _ =>
    let s1 := if ptrBad s x then s else pktSend s n x.tkt (ptrBytes s x)
    ptrRelease (popPtr s1 q) x

/-- PKTCH_SEND (R77, R78). -/
def execPktchSend (n : Fin 8) (s : State) : Res := ok (if onData s && onChain s then pktDrain s n.val else s)

/-! ## From the host (R79) -/

/-- DEV_CH_INJ_DROP. -/
def injDrop (s : State) : State := count s 0 0x78

/-- Change the packets that are being reassembled. -/
def modInj (s : State) (f : List Inject → List Inject) : State := modChain s (fun c => { c with injects := f c.injects })

/-- The packet of a slot and number. -/
def injIs (slot id : Nat) (x : Inject) : Bool := x.slot == slot && x.pktId == id && !x.full

/-- The data bytes of a fragment, behind `skip` payload words. -/
def fragData (f : ChainFrame) (skip : Nat) : List Byte :=
  let b := (f.payload.drop skip).flatMap (fun w => beBytes 4 w.toNat)
  b.take (b.length - fld (fWord f 0) 24 23)

/-- The ticket of a first fragment: payload words 2 to 9. -/
def fragTicket (f : ChainFrame) : Ticket :=
  BitVec.ofNat 256 (beNat (((f.payload.drop 2).take 8).flatMap (fun w => beBytes 4 w.toNat)))

/-- The ticket an injected packet crosses the Ell with: JRNL, SRC_SLICE, EPOCH, CHK (R79). -/
def injTicket (s : State) (t : Ticket) : Ticket :=
  tsealed (tset (tset (tset t 31 16 0xFFFF) 219 216 0xF) 251 250 (s.fur.seq % 4))

/-- A complete packet crosses the Ell on the bundle of its SRC_PORT, or waits while the Ell holds that bundle back. -/
def injCross (s : State) (x : Inject) : State :=
  let g := bundleOfTicket x.ticket
  let body := x.bytes.drop 256
  let go (t : State) : State := modInj t (fun l => l.erase x)
  if !segRoom s g then s
  else if body.isEmpty then ellPush (go s) g (.head g x.ticket x.bytes none)
  else match takeTag s 0 g body.length with
    | none => s
    | some (tag, s1) => ellPushAll (go s1) g (.head g x.ticket (x.bytes.take 256) (some tag) :: bodySegs g tag body.length 3 body)

/-- Complete packets that wait are tried again, oldest first. -/
def injFlush (s : State) : State := (s.chain.injects.filter (fun x => x.full)).foldl injCross s

/-- A packet with one more fragment: complete, still open, or dropped. -/
def injAdd (s : State) (x : Inject) (data : List Byte) (last : Bool) : State :=
  let bytes := x.bytes ++ data
  let y := { x with bytes := bytes, nextFrag := x.nextFrag + 1 }
  if last then
    if bytes.length = x.total then
      let z := { y with ticket := injTicket s x.ticket, full := true }
      injCross (modInj s (fun l => l ++ [z])) z
    else injDrop s
  else if bytes.length < x.total ∧ x.nextFrag < 6 then modInj s (fun l => l ++ [y])
  else injDrop s

/-- The rules of the frame itself (R79): from the slot that holds the live owner lease, with its epoch, addressed to this device. -/
def injAllowed (s : State) (f : ChainFrame) : Bool :=
  fDst f != 63 && decide (nodeId s ≠ 0) && s.node.owner.st == .live && fSrc f == 64 + s.node.owner.slot
    && s.node.owner.epoch == fEpoch f && onData s && !s.upd.recovery && decide (2 ≤ fLen f)

/-- Reassembly has room: 16 packets in 64 KiB. -/
def injRoom (s : State) (total : Nat) : Bool :=
  decide (s.chain.injects.length < 16) && decide ((s.chain.injects.map (fun x => x.total)).sum + total ≤ 65536)

/-- A TYPE 0x6 frame (R79). A later fragment of a packet that has been dropped meets no reassembly and counts again: the model's choice
(log entry 54). -/
def inject (s : State) (f : ChainFrame) : State :=
  if !injAllowed s f then injDrop s
  else
    let w := fWord f 0
    let slot := s.node.owner.slot
    let id := fld w 22 11
    let total := fld (fWord f 1) 13 0
    match s.chain.injects.find? (injIs slot id) with
    | some x =>
      let s1 := modInj s (fun l => l.erase x)
      if fld w 28 26 = x.nextFrag ∧ total = x.total then injAdd s1 x (fragData f 2) (tbit w 25) else injDrop s1
    | none =>
      let t := fragTicket f
      if fld w 28 26 = 0 ∧ 10 ≤ fLen f ∧ tfld t 255 252 = 5 ∧ tfld t 7 0 = ticketChk t ∧ total ≤ 12284 ∧ injRoom s total then
        injAdd s { slot := slot, pktId := id, nextFrag := 0, total := total, ticket := t, bytes := [],
                   deadline := s.now + 1000000 } (fragData f 10) (tbit w 25)
      else injDrop s

/-- INJECT_TIMEOUT (R79): still incomplete 1 ms after its first fragment. -/
def injTimeout (s : State) (slot id : Nat) : State :=
  match s.chain.injects.find? (injIs slot id) with
  | some x => if x.deadline ≤ s.now then injDrop (modInj s (fun l => l.erase x)) else s
  | none => s

/-- INJECT_TIMEOUT (R79). -/
def execInjectTimeout (slot : Fin 4) (pktId : Fin 4096) (s : State) : Res := ok (injTimeout s slot.val pktId.val)

/-- PACKET_FROM_HOST (R79): a frame that has been delivered. -/
def execPacketFromHost (f : ChainFrame) (s : State) : Res := ok (if onChain s && fType f == 6 && frameOk f then inject s f else s)

end Sys2Proof.Machine
end

