-- ==== Sys2Proof/Machine/Chain.lean ====
section
/-! DEFINITION. Chain frames as a node receives them: checks, forwarding, delivery; requests and their responses; enumeration and
leases (R54 to R90, R561). -/

namespace Sys2Proof.Machine

/-! ## Leases (R87, R89) -/

/-- One epoch is newer than another (R87). -/
def newer (n o : Nat) : Bool := let d := (n + 65536 - o) % 65536; decide (1 ≤ d) && decide (d ≤ 32767)

/-- The lease of a role: 0 owner, 1 timekeeper. -/
def leaseOf (s : State) (role : Nat) : Lease := if role = 0 then s.node.owner else s.node.tk

/-- Write the lease of a role. -/
def setLease (s : State) (role : Nat) (l : Lease) : State :=
  { s with node := if role = 0 then { s.node with owner := l } else { s.node with tk := l } }

/-- Code of a lease state. -/
def LeaseState.code : LeaseState → Nat
  | .none => 0 | .live => 1 | .handover => 2

/-- The 250 ms of a lease. -/
def leaseNs : Nat := 250000000

/-- A HEARTBEAT that is ignored: DEV_CH_LEASE_IGN and event 0x0036. -/
def hbIgnored (s : State) (role slot epoch : Nat) : State :=
  event2 (count s 0 0x70) 0x0036 role (slot * 65536 + epoch) (leaseOf s role).st.code

/-- A HEARTBEAT that installs its holder: event 0x0035. -/
def hbInstall (s : State) (role slot prio serial epoch : Nat) : State :=
  let l : Lease := { st := .live, slot := slot, prio := prio, serial := serial, epoch := epoch, recorded := true,
                     deadline := s.now + leaseNs }
  event2 (setLease s role l) 0x0035 role (slot * 65536 + epoch) prio

/-- HEARTBEAT (Table 2.12). -/
def heartbeat (s : State) (role slot prio serial epoch : Nat) : State :=
  let l := leaseOf s role
  match l.st with
  | .none =>
    if !l.recorded || newer epoch l.epoch || (epoch == l.epoch && slot == l.slot) then hbInstall s role slot prio serial epoch
    else hbIgnored s role slot epoch
  | .live =>
    if slot = l.slot ∧ (epoch = l.epoch ∨ newer epoch l.epoch) then
      setLease s role { l with epoch := epoch, deadline := s.now + leaseNs }
    else hbIgnored s role slot epoch
  | .handover =>
    if slot = l.succ ∧ epoch = (l.epoch + 1) % 65536 then hbInstall s role slot prio serial epoch
    else hbIgnored s role slot epoch

/-- A lease ends: NONE, event 0x0033 or 0x0034 with its cause, and an update session that waited on the owner ends (R89, R502). -/
def leaseLost (s : State) (role cause : Nat) : State :=
  let l := leaseOf s role
  let s1 := event2 (setLease s role { l with st := .none }) (0x0033 + role) role (l.slot * 65536 + l.epoch) cause
  if role = 0 then updLeaseLost s1 else s1

/-- RELEASE (Table 2.12). -/
def leaseRelease (s : State) (role slot epoch : Nat) : State :=
  let l := leaseOf s role
  if l.st = .live ∧ slot = l.slot ∧ epoch = l.epoch then leaseLost s role 1 else s

/-- YIELD (Table 2.12). -/
def leaseYield (s : State) (role slot epoch succ : Nat) : State :=
  let l := leaseOf s role
  if l.st = .live ∧ slot = l.slot ∧ epoch = l.epoch then
    setLease s role { l with st := .handover, succ := succ, deadline := s.now + leaseNs }
  else s

/-- An election frame that has been delivered (R87). -/
def electionFrame (s : State) (f : ChainFrame) : State :=
  let w := fWord f 0
  let role := fld w 31 31
  let slot := fSrc f - 64
  if fSrc f < 64 ∨ 67 < fSrc f ∨ fLen f ≠ 3 ∨ 4 ≤ fOp f then count s 0 0x70
  else match fOp f with
    | 1 => heartbeat s role slot (fld w 27 24) (fld (fWord f 1) 15 0 * 2 ^ 32 + (fWord f 2).toNat) (fEpoch f)
    | 2 => leaseYield s role slot (fEpoch f) (fld w 1 0)
    | 3 => leaseRelease s role slot (fEpoch f)
    | _ => s

/-- The timer of a role expires (Table 2.12). -/
def leaseExpire (s : State) (role : Nat) : State :=
  let l := leaseOf s role
  match l.st with
  | .none => s
  | .live => if l.deadline ≤ s.now then leaseLost s role 0 else s
  | .handover => if l.deadline ≤ s.now then leaseLost s role 2 else s

/-! ## Enumeration (R84, R85) -/

/-- The source holds the live owner lease (R84). -/
def enumFromOwner (s : State) (f : ChainFrame) : Bool := decide (64 ≤ fSrc f) && decide (fSrc f ≤ 67) && isOwner s (fSrc f - 64)

/-- The serial that two words hold. -/
def serialAt (f : ChainFrame) (i : Nat) : Nat := fld (fWord f i) 15 0 * 2 ^ 32 + (fWord f (i + 1)).toNat

/-- The records of a walk: node ID and serial. -/
def walkRecs : List Word → List (Nat × Nat)
  | a :: b :: c :: rest => (fld a 31 25, fld b 15 0 * 2 ^ 32 + c.toNat) :: walkRecs rest
  | _ => []

/-- The record that this node appends to a walk. -/
def walkRecord (s : State) (f : ChainFrame) : List Word :=
  [mkF 31 25 (nodeId s) ||| mkF 24 24 (fLring f) ||| mkF 23 22 (fWraps f) ||| mkF 3 2 s.chain.west.st.code
    ||| mkF 1 0 s.chain.east.st.code, lo32 (serialNat / 2 ^ 32), lo32 serialNat]

/-- A WALK as it is forwarded: with this node's record, where its serial is not in it yet and the owner sent it (R84, R85). -/
def walkAppend (s : State) (f : ChainFrame) : ChainFrame :=
  if fType f = 7 ∧ fOp f = 0 ∧ enumFromOwner s f ∧ fLen f + 3 ≤ 512 ∧ !((walkRecs f.payload).any (fun r => r.2 == serialNat)) then
    sealFrame { f with hdr := hset f.hdr 69 60 (fLen f + 3), payload := f.payload ++ walkRecord s f }
  else f

/-- The device takes an address and sends ACK (Table 2.10). -/
def assignMine (s : State) (f : ChainFrame) (a : Nat) : State :=
  let s1 := setNodeId s a
  unicast s1 (mkFrame 7 0 (fSrc f) a 0 0 0 3 0 [lo32 (serialNat / 2 ^ 32), lo32 serialNat, mkF 5 0 a])

/-- ASSIGN (Table 2.10); one of another LEN is not acted on. -/
def enumAssign (s : State) (f : ChainFrame) : State :=
  let a := fld (fWord f 2) 5 0
  if fLen f ≠ 3 then count s 0 0x50
  else if serialAt f 0 = serialNat then (if a = 63 then count s 0 0x50 else assignMine s f a)
  else if a ≠ 0 ∧ a ≠ 63 ∧ a = nodeId s then event2 (setNodeId s 0) 0x0032 0 a (fWord f 1).toNat
  else s

/-- An enumeration frame that has been delivered: one not acted on counts in DEV_CH_DENIED (Table 2.20). A WALK has taken its record
when it was forwarded. An ASSIGN, CLEAR or RING unicast to the device's own ID, where Table 2.10 has DST 63, is acted on as a broadcast
one: the model's choice (log entry 54). -/
def enumFrame (s : State) (f : ChainFrame) : State :=
  if !enumFromOwner s f then count s 0 0x50
  else match fOp f with
    | 1 => enumAssign s f
    | 0 => s
    | 2 => if fLen f = 0 then setNodeId s 0 else count s 0 0x50
    | 4 => modChain s (fun c => { c with ring := some (fSrc f, walkRecs f.payload) })
    | _ => count s 0 0x50

/-! ## Requests (R68 to R74) -/

/-- The slot of a request's source; 4 for a source that is no adapter, which holds no lease. -/
def slotOf (f : ChainFrame) : Nat := if 64 ≤ fSrc f ∧ fSrc f ≤ 67 then fSrc f - 64 else 4

/-- What a reply is kept under (R73). -/
def replyKey (f : ChainFrame) : Nat × Nat × Nat × Nat × Nat := (fTag f, fType f, fAddr f, fOp f, fLen f)

/-- The response to a request: TAG echoed, TYPE 2 or 3 (R68, R69). -/
def response (s : State) (f : ChainFrame) (status addr : Nat) (data : List Word) : ChainFrame :=
  mkFrame (fType f + 2) 0 (fSrc f) (nodeId s) (fTag f) 0 status 0 addr data

/-- Send a response on the ring opposite to the one on which its request arrived (R67). -/
def respond (s : State) (port : Nat) (r : ChainFrame) : State := launch s (oppRing port) r

/-- Keep a response in the cache of its slot: the last 32 (R73). -/
def cacheReply (s : State) (f r : ChainFrame) : State :=
  if slotOf f = 4 then s
  else modChain s (fun c => { c with replies := c.replies.upd [] (slotOf f) (fun l =>
    let n := l ++ [{ key := replyKey f, resp := r }]
    n.drop (n.length - 32)) })

/-- A request is answered: the response is kept and sent; a broadcast has none (R73, R74). -/
def finishReq (s : State) (port : Nat) (f r : ChainFrame) : State :=
  if fDst f = 63 then s else respond (cacheReply s f r) port r

/-- A request that is not taken: busy (R72). -/
def busyReq (s : State) (port : Nat) (f : ChainFrame) : State :=
  let s1 := count s 0 0x60
  if fDst f = 63 then s1 else respond s1 port (response s f stBusy (fAddr f) [])

/-- A request addressed to the device arrives (R72, R73, R74, R508). -/
def requestRx (s : State) (port : Nat) (f : ChainFrame) : State :=
  if nodeId s = 0 then s
  else if fDst f = 63 ∧ fType f = 0 then count s 0 0x50
  else
    let hit := if fDst f = 63 then none else (s.chain.replies.get [] (slotOf f)).find? (fun x => x.key == replyKey f)
    match hit with
    | some x => respond (count s 0 0x68) port x.resp
    | none =>
      if !fwRuns s ∨ 128 ≤ s.chain.reqs.length then busyReq s port f
      else modChain s (fun c => { c with reqs := c.reqs ++ [(port, f)] })

/-- Address of word i of a request: INC adds 4 a word (R68). -/
def wordAddr (f : ChainFrame) (i : Nat) : Nat := if fOp f % 2 = 1 then (fAddr f + 4 * i) % 2 ^ 32 else fAddr f

/-- The state, the first failing status with its address, and the data of the words so far (R70). -/
structure Carried where
  /-- The state. -/
  s : State
  /-- STATUS. -/
  status : Nat
  /-- ADDR of the response. -/
  addr : Nat
  /-- Data words. -/
  data : List Word

/-- Note the status of one word. -/
def Carried.note (c : Carried) (s : State) (status a : Nat) (w : List Word) : Carried :=
  if c.status = stOk ∧ status ≠ stOk then { s := s, status := status, addr := a, data := c.data ++ w }
  else { c with s := s, data := c.data ++ w }

/-- Carry out a read request (R68, R70). -/
def carryRead (s : State) (f : ChainFrame) : Carried :=
  (List.range (fld (fWord f 0) 6 0)).foldl (fun (c : Carried) i =>
    let a := wordAddr f i
    let r := readWord c.s (slotOf f) a
    c.note r.1 r.2.1 a [r.2.2]) { s := s, status := stOk, addr := fAddr f, data := [] }

/-- ROLE of a write request (R69). -/
def reqRole (f : ChainFrame) : Role := if (fOp f).testBit 1 then .timekeeper else .owner

/-- EPOCH is not the current epoch of the role (R69, R71). -/
def reqStale (s : State) (f : ChainFrame) : Bool :=
  decide (fEpoch f ≠ (leaseOf s (if (fOp f).testBit 1 then 1 else 0)).epoch)

/-- Carry out a write request (R69, R70, R71). -/
def carryWrite (s : State) (f : ChainFrame) : Carried :=
  let c := (List.range f.payload.length).foldl (fun (c : Carried) i =>
    let a := wordAddr f i
    let r := writeWord c.s (slotOf f) (reqRole f) (reqStale c.s f) a (fWord f i)
    c.note r.1 r.2 a []) { s := s, status := stOk, addr := fAddr f, data := [] }
  { c with s := writeEnd c.s }

/-- A read request is well formed (R68). -/
def readFormed (f : ChainFrame) : Bool :=
  fLen f == 1 && decide (1 ≤ fld (fWord f 0) 6 0) && decide (fld (fWord f 0) 6 0 ≤ 64) && decide (fOp f < 2)

/-- A write request is well formed (R69). -/
def writeFormed (f : ChainFrame) : Bool := decide (1 ≤ fLen f) && decide (fLen f ≤ 64) && decide (fOp f < 4)

/-- The response waits: a GO whose sealing runs, or a time command whose T has not come (R41, R399). -/
def mustWait (s t : State) : Bool :=
  (s.fur.sealing.isNone && t.fur.sealing.isSome) || decide (s.tgt.cmds.length < t.tgt.cmds.length)

/-- The held response goes once nothing holds it back. -/
def respRelease (s : State) : State :=
  match s.chain.heldResp with
  | none => s
  | some (port, f, r) =>
    if s.fur.sealing.isNone ∧ s.tgt.cmds.isEmpty then finishReq (modChain s (fun c => { c with heldResp := none })) port f r else s

/-- The request at the front of the queue, when it has this TYPE and no response is held (R72). -/
def frontReq (s : State) (ty : Nat) : Option (Nat × ChainFrame) :=
  if s.chain.heldResp.isSome then none
  else match s.chain.reqs with
    | [] => none
    | x :: _ => if fType x.2 = ty then some x else none

/-- READ_REQUEST (R68, R70). A device that has lost its address carries out no request that waits (R74). -/
def readRequest (s : State) : State :=
  match frontReq s 0 with
  | none => s
  | some (port, f) =>
    let s1 := modChain s (fun c => { c with reqs := c.reqs.drop 1 })
    if nodeId s = 0 then s1
    else if readFormed f then
      let c := carryRead s1 f
      finishReq c.s port f (response c.s f c.status c.addr c.data)
    else finishReq s1 port f (response s1 f stMalformed (fAddr f) [])

/-- WRITE_REQUEST (R69 to R71); without an address none is carried out (R74). -/
def writeRequest (s : State) : State :=
  match frontReq s 1 with
  | none => s
  | some (port, f) =>
    let s1 := modChain s (fun c => { c with reqs := c.reqs.drop 1 })
    if nodeId s = 0 then s1
    else if writeFormed f then
      let c := carryWrite s1 f
      let r := response c.s f c.status c.addr []
      if mustWait s1 c.s then modChain c.s (fun x => { x with heldResp := some (port, f, r) })
      else finishReq c.s port f r
    else finishReq s1 port f (response s1 f stMalformed (fAddr f) [])

/-! ## Delivery and forwarding (R58 to R64, R561) -/

/-- A frame delivered to the device, by TYPE. Responses, events, ring state and packets to the host concern adapters only. Without an
address only enumeration and election frames are carried out (R74), and an injected packet is dropped. An election frame unicast to the
device's own ID, where R87 has DST 63, is acted on as a broadcast one: the model's choice (log entry 54). -/
def deliver (s : State) (port : Nat) (f : ChainFrame) : State :=
  match fType f with
  | 0 => requestRx s port f
  | 1 => requestRx s port f
  | 6 => inject s f
  | 7 => enumFrame s f
  | 8 => electionFrame s f
  | 0xB => if fwRuns s && decide (nodeId s ≠ 0) then updFrame s port f else s
  | _ => s

/-- The duplicate filter of a broadcast (R63): whether it passes, and the state after. -/
def bcastPass (s : State) (f : ChainFrame) : Bool × State :=
  let src := fSrc f
  let pass := src == 0 || (match s.chain.bcast.find src with
    | none => true
    | some b => decide (b.until' ≤ s.now) || (let d := (fTag f + 4096 - b.tag) % 4096; decide (1 ≤ d) && decide (d ≤ 2047)))
  if pass && src != 0 then
    (true, modChain s (fun c => { c with bcast := c.bcast.put src (some { tag := fTag f, until' := s.now + 10000000 }) }))
  else (pass, s)

/-- Forward a frame on its ring with HOPS one lower; one whose HOPS are 0 ends here (R62). -/
def forward (s : State) (ring : Nat) (f : ChainFrame) : State :=
  if fHops f = 0 then count s 0 0x40
  else sendOn s ring (rehash { f with hdr := hset f.hdr 119 112 (fHops f - 1) }) true

/-- The node's own frame has gone all the way round (R62). -/
def ownReturn (s : State) (ring : Nat) (f : ChainFrame) : Bool :=
  decide (fSrc f ≠ 0) && fSrc f == nodeId s && fLring f == ring

/-- A ring state frame of this device without an address comes back (R64). -/
def ownRingState (s : State) (ring : Nat) (f : ChainFrame) : Bool :=
  nodeId s == 0 && fSrc f == 0 && fType f == 9 && serialAt f 1 == serialNat && fLring f == ring

/-- A frame that the node would forward (R62). -/
def transits (s : State) (ring : Nat) (f : ChainFrame) : Bool :=
  decide (fType f < 0xC) && decide (fDst f < 68) && !ownReturn s ring f && !ownRingState s ring f && fDst f != nodeId s
    && decide (fHops f ≠ 0)

/-- A frame on a ring whose FCRC is bad counts here first (R61). Whether it had already been forwarded cut-through, so that a copy ends
with an error block (R56), the manual leaves to the node: a free value. -/
def badFcrc (s : State) (port ring : Nat) (f : ChainFrame) : State :=
  let d := draw (count s 0 (port * 8))
  if d.1 % 2 = 1 ∧ transits s ring f then forward d.2 ring { f with errEnd := true } else d.2

/-- A good frame on a ring: removed, delivered, forwarded, or both (R62). -/
def ringFrame (s : State) (port ring : Nat) (f : ChainFrame) : State :=
  if 0xC ≤ fType f ∨ 68 ≤ fDst f then count s 0 0x40
  else if ownReturn s ring f then count s 0 0x40
  else if ownRingState s ring f then s
  else if fDst f = 63 then
    let s1 := forward s ring (walkAppend s f)
    let p := bcastPass s1 f
    if p.1 then deliver p.2 port f else p.2
  else if fDst f = nodeId s then deliver s port f
  else forward s ring f

/-- The ring that enters at a port. -/
def ringOf (port : Nat) : Nat := if port = 0 then 0 else 1

/-- A frame arrives on a port (R61, R62, R561). A good link status frame of another LEN than 2 is ignored without a count: the model's
choice (log entry 54). -/
def frameRx (s : State) (port : Nat) (f : ChainFrame) : State :=
  if f.errEnd then s
  else if !headOk f then count s 0 (port * 8)
  else if fType f = 0xA then
    if frameOk f then (if fLen f = 2 then linkStatus s port (fWord f 0) (fWord f 1) else s) else count s 0 (port * 8)
  else if port = 1 ∨ port = 2 then count s 0 0x40
  else if !frameOk f then badFcrc s port (ringOf port) f
  else ringFrame s port (ringOf port) f

/-- A frame reaches the node: the chain runs and the port holds block lock. -/
def rx (s : State) (port : Nat) (f : ChainFrame) : State := if onChain s && s.chain.lock.get false port then frameRx s port f else s

/-! ## Commands -/

/-- CHAIN_FRAME_RX (R62). -/
def execChainFrameRx (port : Fin 4) (f : ChainFrame) (s : State) : Res := ok (rx s port.val f)

/-- CHAIN_REQUEST_RX (R72): a frame that is a request. -/
def execChainRequestRx (port : Fin 4) (f : ChainFrame) (s : State) : Res := ok (if fType f < 2 then rx s port.val f else s)

/-- READ_REQUEST (R68). -/
def execReadRequest (s : State) : Res := ok (if onChain s then readRequest s else s)

/-- WRITE_REQUEST (R69). -/
def execWriteRequest (s : State) : Res := ok (if onChain s then writeRequest s else s)

/-- An enumeration frame of one OP. -/
def enumRx (op port : Nat) (f : ChainFrame) (s : State) : State := if fType f = 7 ∧ fOp f = op then rx s port f else s

/-- ENUM_WALK (R85). -/
def execEnumWalk (port : Fin 4) (f : ChainFrame) (s : State) : Res := ok (enumRx 0 port.val f s)
/-- ENUM_ASSIGN (R85). -/
def execEnumAssign (port : Fin 4) (f : ChainFrame) (s : State) : Res := ok (enumRx 1 port.val f s)
/-- ENUM_CLEAR (R85). -/
def execEnumClear (port : Fin 4) (f : ChainFrame) (s : State) : Res := ok (enumRx 2 port.val f s)
/-- ENUM_RING (R85). -/
def execEnumRing (port : Fin 4) (f : ChainFrame) (s : State) : Res := ok (enumRx 4 port.val f s)

/-- An election frame of one OP that has been delivered. -/
def electionRx (op : Nat) (f : ChainFrame) (s : State) : State :=
  if onChain s && fType f == 8 && fOp f == op && frameOk f then electionFrame s f else s

/-- LEASE_HEARTBEAT (R89). -/
def execLeaseHeartbeat (f : ChainFrame) (s : State) : Res := ok (electionRx 1 f s)
/-- LEASE_YIELD (R89). -/
def execLeaseYield (f : ChainFrame) (s : State) : Res := ok (electionRx 2 f s)
/-- LEASE_RELEASE (R89). -/
def execLeaseRelease (f : ChainFrame) (s : State) : Res := ok (electionRx 3 f s)
/-- LEASE_TIMER_EXPIRE (R89). -/
def execLeaseTimerExpire (role : Role) (s : State) : Res :=
  ok (leaseExpire s (match role with | .owner => 0 | .timekeeper => 1))

/-- FURLONG_SEAL_COMPLETE (R41): the last domain has acknowledged, and the reply to the GO returns. -/
def execFurlongSealComplete (s : State) : Res :=
  ok (if onIsland s && s.fur.sealing.isSome then respRelease (sealComplete s) else s)

/-- TB_CMD_APPLY (R399): the commands whose T has come apply, and the write response returns. -/
def execTbCmdApply (s : State) : Res := ok (if onIsland s then respRelease (tbApply s) else s)

end Sys2Proof.Machine
end

