-- ==== Sys2Proof/Machine/Faults.lean ====
section
/-! DEFINITION. Fault sources that rise from outside the commands of their block: what each does (Table 16.8), and the fall of an
occurrence (R455). -/

namespace Sys2Proof.Machine

/-- Does the unit in which a source of a block lies run? A source of a stopped, unpowered or fenced unit detects nothing. -/
def unitWorks (s : State) (blk bit inst : Nat) : Bool :=
  if islandBlock blk then onIsland s && (match blk, bit with
    | 0, 1 => decide (inst < 4)
    | 1, 3 => decide (inst < 96)
    | 2, 3 => decide (inst < 4)
    | 2, 4 => decide (inst < 16)
    | _, _ => true)
  else onData s && !clockFenced s blk && (match blk, bit with
    | 4, 2 => decide (inst < 16)
    | 4, _ => decide (inst < 128) && grpLive s (inst / 8)
    | 5, _ => decide (inst < 16) && grpLive s inst
    | 6, 3 | 6, 4 => decide (inst < 9) && domOn s (27 + inst)
    | 6, 5 => decide (inst < 16)
    | 6, _ => decide (inst < 9) && domOn s (18 + inst) && !isFenced s 6 inst
    | 8, _ => decide (inst < 9) && domOn s (18 + inst) && !isFenced s 6 inst
    | 9, _ => decide (inst < 96) && domOn s (92 + inst / 24) && (tcmBank s inst).st != .fenced
    | 0xA, 1 | 0xA, 2 => decide (inst < 8) && domOn s (36 + inst)
    | 0xA, 3 | 0xA, 4 => decide (inst < 8) && domOn s (44 + inst)
    | 0xA, _ => decide (inst < 128) && domOn s (36 + inst / 16) && decide ((xeEng s inst).reason = 0)
    | 0xB, _ => decide (inst < 32) && domOn s (52 + inst)
    | 0xD, 4 | 0xD, 5 => decide (inst < 4) && domOn s (84 + inst)
    | 0xD, _ => decide (inst < 64) && domOn s (84 + inst / 16)
    | 0xF, 0 => decide (inst < 128)
    | 0x10, 3 => decide (inst < 2)
    | 0x10, 0 => true
    | 0x10, _ => decide (inst < 256)
    | _, _ => true)

/-- A rise whose event is that of R461 with the memory row or address in DATA word 5. -/
def riseRow (s : State) (blk bit inst : Nat) (row : Word) : State := faultRise s blk bit inst (lo32 bit) row

/-- A rise whose event, one of the block's own, carries `row` in DATA word 4. -/
def riseAt (s : State) (blk bit inst : Nat) (row : Word) : State := faultRise s blk bit inst row 0

/-- MAC memory uncorrectable (Table 16.8): the frame at hand is ended with an error; a frame being sent counts in LP_TX_ABORT, else
the frame being received in LP_RX_TRUNC. -/
def macUe (s : State) (p : Nat) (row : Word) : State :=
  let s1 := match (portOf s p).txq with
    | f :: _ => countLp (macPop s p f) p 0x48
    | [] => countLp s p 0x28
  riseRow s1 4 1 p row

/-- An intake cell is uncorrectable (Table 16.8): the frame is dropped whole. -/
def intakeUe (s : State) (g : Nat) (row : Word) : State :=
  let s1 := match (intakeOf s g).heads with
    | h :: _ => dropBody (intakeEase (modIntake s g (fun i => { i with heads := i.heads.drop 1 })) g) h
    | [] => s
  riseRow (count s1 6 (0x80000 + g * 8)) 6 5 g row

/-- A learning entry is uncorrectable (Table 16.8): removed, and notified as AGED. -/
def lrnUe (s : State) (sl row : Nat) : State :=
  let s1 := match (lrnOf s sl).ents.find row with
    | none => s
    | some e => lrnNotifyIf (lrnChange s sl row e.key none) sl 30 4 e.loc e.loc e.key (tbNs s) (tbFrac s)
  riseRow s1 8 1 sl (lo32 row)

/-- A search bank's data word has a double-bit error (R256). -/
def tcmDataUe (s : State) (p row : Nat) : State :=
  let s1 := { s with tcm := { s.tcm with dataBad := s.tcm.dataBad.set false (entKey p row) true } }
  bankErr (riseRow (count s1 9 0x30) 9 3 (logicalOf s1 p) (lo32 row)) p

/-- A shadow word is uncorrectable (R257). -/
def tcmShadowUe (s : State) (p row : Nat) : State :=
  let s1 := { s with tcm := { s.tcm with shadowBad := s.tcm.shadowBad.set false (entKey p row) true } }
  riseAt s1 9 4 (logicalOf s1 p) (lo32 row)

/-- A node's state word is uncorrectable (R386): its buckets restart full and its DEF at 0. -/
def nodeUe (s : State) (key : Nat) (inst : Nat) : State :=
  riseRow (modNode s (key / 2 ^ 20) (key % 2 ^ 20) (fun x => { x with ct := none, pt := none, defi := 0 })) 0xE 1 inst (lo32 key)

/-- A cell in the Firkin is uncorrectable: it is not replayed. -/
def firkinUe (s : State) (d st seq : Nat) (row : Word) : State :=
  riseRow (modTx s d st (fun x => { x with
    cells := x.cells.map (fun c => if c.seq = seq then { c with bad := true } else c)
    replay := x.replay.filter (fun q => q != seq) })) 0x10 1 d row

/-- A held reorder cell is uncorrectable: it is discarded and recovered by NAK (R438). -/
def reorderUe (s : State) (d st seq : Nat) (row : Word) : State :=
  riseRow (modRx s d st (fun x =>
    let h := x.held.put seq none
    { x with held := h, gapAt := if h.entries.isEmpty then none else x.gapAt })) 0x10 2 d row

/-- An operational list has a parity error: it stops being operational. -/
def gclParity (s : State) (p : Nat) (row : Word) : State :=
  riseRow (setGate s p { gateOf s p with oper := none }) 0xF 0 p row

/-- A store line is uncorrectable: pointers to its packet are dropped at dequeue. -/
def storeUe (s : State) (pool i : Nat) : State :=
  let s1 := if (bufOf s (bufKey pool i)).used then modBuf s (bufKey pool i) (fun b => { b with bad := true }) else s
  riseRow s1 0xC 2 pool (lo32 i)

/-- A management core fails its self-check and is stopped; with the last of the four, none is left (Table 16.8). -/
def mgmtFail (s : State) (i : Nat) (row : Word) : State :=
  let s1 := condRise s 0 1 i (lo32 1) row
  if (List.range 4).all (holds s1 0 1) then condRise s1 0 2 0 (lo32 2) 0 else s1

/-- The action and the rise of a source of Table 16.8. `inst` is its unit; `row` the row, address or detail its detection gives. -/
def faultAct (s : State) (blk bit inst : Nat) (row : Word) : State :=
  let r := row.toNat
  match blk, bit with
  | 0x00, 0 => riseRow s 0 0 inst row
  | 0x00, 1 => mgmtFail s inst row
  | 0x00, _ => condRise s 0 bit inst (lo32 bit) row
  | 0x01, 0 => feedLost s 0
  | 0x01, 1 => feedLost s 1
  | 0x01, 2 => feedIsolated s (inst % 2)
  | 0x01, 3 => domTrip s inst
  | 0x01, _ => condRise s 1 bit inst (lo32 bit) row
  | 0x02, 0 => sysrefLost s
  | 0x02, 1 => if s.pwr.fclk then condRise (modPwr s (fun p => { p with fclk := false })) 2 1 0 1 0 else s
  | 0x02, 2 => if s.pwr.qclk then condRise (modPwr s (fun p => { p with qclk := false })) 2 2 0 2 0 else s
  | 0x02, 3 => hpllLost s inst
  | 0x02, 4 => lpllLost s inst
  | 0x02, _ => refLoss (condRise s 2 5 inst 5 0)
  | 0x03, 0 => riseRow s 3 0 inst row
  | 0x03, _ => loadBroken (riseRow s 3 1 inst row) inst 8
  | 0x04, 1 => macUe s inst row
  | 0x04, 2 => grpFence s inst
  | 0x05, 1 => countLp (riseRow s 5 1 inst row) (8 * inst) 0x68
  | 0x06, 1 => sliceFence (riseRow s 6 1 inst row) inst
  | 0x06, 2 => sliceFence (riseRow s 6 2 inst row) inst
  | 0x06, 4 => jrnlFail s inst
  | 0x06, 5 => intakeUe s inst row
  | 0x06, 6 => sliceFence s inst
  | 0x07, 0 => riseRow (count s 7 0x18) 7 0 inst row
  | 0x07, 1 => riseAt (count (tblDamage s (r / 2 ^ 16) (r % 2 ^ 15)) 7 0x20) 7 1 inst row
  | 0x07, 2 => riseAt s 7 2 inst row
  | 0x08, 1 => lrnUe s inst r
  | 0x09, 0 => scrubRow (upsetRow s inst (r % 2048) { val := BitVec.ofNat 80 (2 ^ (r / 2048 % 80)) }) inst (r % 2048)
  | 0x09, 1 => entFromShadow (bankErr (riseAt (count s 9 0x18) 9 1 (logicalOf s inst) (lo32 (r % 2048))) inst) inst (firstRow s inst (r % 2048))
  | 0x09, 2 => bankErr (riseRow (count s 9 0x28) 9 2 (logicalOf s inst) (lo32 (r % 2048))) inst
  | 0x09, 3 => tcmDataUe s inst (r % 2048)
  | 0x09, 4 => tcmShadowUe s inst (r % 2048)
  | 0x09, 5 => riseAt s 9 5 inst row
  | 0x09, 6 => tcmFence s inst
  | 0x0A, 0 => xeFaultFence s 0 inst 3
  | 0x0A, 2 => xeImemUe s inst row
  | 0x0A, 4 => xeRecFail s inst
  | 0x0A, 5 => xeFaultFence s 5 inst 1
  | 0x0A, 6 => xeFaultFence s 6 inst 2
  | 0x0B, 1 => riseAt s 0xB 1 inst row
  | 0x0B, 2 => if (bundleOf s inst).st = .fenced then s else ellFence s inst (r % 4)
  | 0x0B, 3 => bothDown s inst
  | 0x0B, 4 => riseAt s 0xB 4 inst row
  | 0x0B, 6 => condRise s 0xB 6 inst row 0
  | 0x0C, 0 => riseAt s 0xC 0 inst row
  | 0x0C, 2 => storeUe s inst r
  | 0x0D, 0 => ceLines s inst 1
  | 0x0D, 1 => ueLine s (inst * 2 ^ 18 + r % 2 ^ 18) (r / 2 ^ 18 % 64) (r / 2 ^ 30 % 2)
  | 0x0D, 2 => chClose s inst (if r = 2 then 2 else 3)
  | 0x0D, 3 => chFence s inst
  | 0x0D, 4 => condRise (hotSet s inst true) 0xD 4 inst row 0
  | 0x0D, 5 => stackFence s inst
  | 0x0D, 6 => chFence (riseAt s 0xD 6 inst row) inst
  | 0x0E, 1 => nodeUe s r inst
  | 0x0F, 0 => gclParity s inst row
  | 0x0F, 2 => condRise s 0xF 2 inst (lo32 2) row
  | 0x10, 1 => firkinUe s inst (r / 2 ^ 31) (r % 2 ^ 18) row
  | 0x10, 2 => reorderUe s inst (r / 2 ^ 31) (r % 2 ^ 18) row
  | 0x10, 3 => if planeJudged s (inst % 2) then planeFail s (inst % 2) (r % 4) else s
  | 0x10, 4 => if (txOf s inst (r / 2 ^ 31)).st = .open' then unreach s inst (r / 2 ^ 31) else s
  | 0x10, 5 => riseAt s 0x10 5 inst row
  | 0x13, _ => updFlashFail (riseRow s 0x13 0 inst row)
  | _, _ => riseRow s blk bit inst row

/-- FAULT_RISE (R455, R457, Table 16.8): a reserved bit and a unit that does not run have no effect. -/
def execFaultRise (blk : Fin 21) (bit : Fin 32) (inst : Fin 65536) (row : Word) (s : State) : Res :=
  ok (if bit.val = 31 then (if onIsland s then xdomFence s blk (inst % 256) else s)
    else if (fltInfo blk bit).isSome && unitWorks s blk bit inst then faultAct s blk bit inst row else s)

/-- XDOM_STALL (R33): the clock domain whose reader has stopped is fenced. -/
def execXdomStall (blk : Fin 21) (dom : Fin 256) (s : State) : Res := ok (if onIsland s then xdomFence s blk dom else s)

/-- The live bit of an occurrence falls 1 ms after the last one (R455). -/
def occExpire (s : State) (blk bit : Nat) : State :=
  let key := blk * 32 + bit
  let t := s.flt.occUntil.get 0 key
  if t ≠ 0 ∧ t ≤ s.now then
    let s1 := { s with flt := { s.flt with occUntil := s.flt.occUntil.set 0 key 0 } }
    setFlt s1 blk { fltOf s1 blk with live := setBit (fltOf s1 blk).live bit false }
  else s

/-- FAULT_OCCURRENCE_EXPIRE (R455). -/
def execFaultOccurrenceExpire (blk : Fin 21) (bit : Fin 32) (s : State) : Res := ok (occExpire s blk bit)

/-- APPLY_PHASE_DONE (R120). -/
def execApplyPhaseDone (s : State) : Res := ok (if onData s && fwRuns s then phaseDone s else s)

end Sys2Proof.Machine
end

