-- ==== Sys2Proof/Machine/Jtag.lean ====
section
/-! DEFINITION. The test access port, and the levels of the single-ended outputs (R449, R551, R552, Table 20.1). -/

namespace Sys2Proof.Machine

/-- IDCODE (R551). -/
def idcode : Word := 0x29600B5D

/-- RESET_N is low. -/
def resetLow (s : State) : Bool := s.pwr.boot.lowSince.isSome

/-- EXTEST drives the outputs: it is the instruction, the TAP is out of its reset state, and RESET_N is low (R552). -/
def extestDrives (s : State) : Bool := !s.jtag.trst && s.jtag.instr == .extest && resetLow s

/-- Cell of the boundary register: 0 TIME_10M, 1 PPS, 2 to 17 TWIN_ACT_IN, 18 and 19 PROFILE_SEL, 20 RESET_N, 21 and 22 SYNCE_CLK,
23 to 38 TWIN_ACT_OUT, 39 to 54 PSEL, 55 FATAL_N. -/
def bsrCell (s : State) (i : Nat) : Bool := s.jtag.bsr.getD i false

/-- The level of PSEL[g]: R449 takes precedence over the scan cell. -/
def pselPin (s : State) (g : Nat) : Bool :=
  if extestDrives s then bsrCell s (39 + g) && !twinHeld s g && !s.flt.fatal else twinPsel s g

/-- The level of TWIN_ACT_OUT[g]. -/
def actOutPin (s : State) (g : Nat) : Bool :=
  if extestDrives s then bsrCell s (23 + g) && !s.flt.fatal else twinActOut s g

/-- FATAL_N is asserted: it follows the fatal state also while EXTEST drives (R462, R552). -/
def fatalPin (s : State) : Bool := s.flt.fatal && s.flt.pin

/-- SYNCE_CLKj carries a clock; else it is driven low (R148, Table 19.8). -/
def synceOut (s : State) (j : Nat) : Bool := onData s && (synceSrc s j).isSome

/-- The levels of the 56 cells, in order. Those of the clocks and of PPS at an instant are free values (R558). -/
def bsrCapture (s : State) : List Bool × State :=
  let d := draw s
  let e := draw d.2
  ([d.1.testBit 0, d.1.testBit 1] ++ (List.range 16).map (fun g => (twinOf s g).actIn)
    ++ [s.pwr.profPins.testBit 0, s.pwr.profPins.testBit 1, !resetLow s, e.1.testBit 0 && synceOut s 0, e.1.testBit 1 && synceOut s 1]
    ++ (List.range 16).map (actOutPin s) ++ (List.range 16).map (pselPin s) ++ [!fatalPin s], e.2)

/-- Change the test access port; an instruction needs TRST_N high. -/
def modJtag (s : State) (f : JtagSt → JtagSt) : State := { s with jtag := f { s.jtag with trst := false } }

/-- The boundary register after `tdi` is shifted in behind what it captured. -/
def bsrShift (cap tdi : List Bool) : List Bool := (cap ++ tdi).drop tdi.length

/-- JTAG_BYPASS: the one-bit register captures 0. -/
def execJtagBypass (s : State) : Res := ok (modJtag s (fun j => { j with instr := .bypass, dr := [false] }))
/-- JTAG_IDCODE: IDCODE shifts out, least significant bit first. -/
def execJtagIdcode (s : State) : Res := ok (modJtag s (fun j => { j with instr := .idcode, dr := lsbBits 32 idcode.toNat }))
/-- JTAG_SAMPLE_PRELOAD: the pins are captured, and the bits shifted in go to the update latches. -/
def execJtagSamplePreload (tdi : List Bool) (s : State) : Res :=
  let c := bsrCapture s
  ok (modJtag c.2 (fun j => { j with instr := .samplePreload, dr := c.1, bsr := bsrShift c.1 tdi }))
/-- JTAG_EXTEST: as BYPASS while RESET_N is high (R552). -/
def execJtagExtest (tdi : List Bool) (s : State) : Res :=
  if resetLow s then
    let c := bsrCapture (modJtag s (fun j => { j with instr := .extest }))
    ok (modJtag c.2 (fun j => { j with dr := c.1, bsr := bsrShift c.1 tdi }))
  else ok (modJtag s (fun j => { j with instr := .extest, dr := [false] }))
/-- TRST_N_ASSERT: the TAP is in its reset state, in which IDCODE is the instruction. -/
def execTrstNAssert (s : State) : Res := ok { s with jtag := { s.jtag with trst := true, instr := .idcode, dr := [] } }

end Sys2Proof.Machine
end

