-- ==== Sys2Proof/Machine/Dispatch.lean ====
section
/-! DEFINITION. Dispatch: one arm for each command, each a direct call of its meaning. -/

namespace Sys2Proof.Machine

/-- The effect of a command on everything but the queue. -/
def exec (i : Instr) (s : State) : Host.Outcome State Fault Refusal :=
  match i with
  | .registerWrite slot role addr val => Sys2Proof.Machine.execRegisterWrite slot role addr val s
  | .rcRead slot addr => Sys2Proof.Machine.execRcRead slot addr s
  | .counterLowRead slot addr => Sys2Proof.Machine.execCounterLowRead slot addr s
  | .counterWrite slot role addr val => Sys2Proof.Machine.execCounterWrite slot role addr val s
  | .tbNsLoRead slot => Sys2Proof.Machine.execTbNsLoRead slot s
  | .ppsCapLoRead slot => Sys2Proof.Machine.execPpsCapLoRead slot s
  | .accessGateTimeout addr => Sys2Proof.Machine.execAccessGateTimeout addr s
  | .xdomStall blk dom => Sys2Proof.Machine.execXdomStall blk dom s
  | .furlongGo slot => Sys2Proof.Machine.execFurlongGo slot s
  | .furlongGoAt slot => Sys2Proof.Machine.execFurlongGoAt slot s
  | .furlongCancel slot => Sys2Proof.Machine.execFurlongCancel slot s
  | .furlongSealComplete => Sys2Proof.Machine.execFurlongSealComplete s
  | .furlongArm => Sys2Proof.Machine.execFurlongArm s
  | .furlongBoundary => Sys2Proof.Machine.execFurlongBoundary s
  | .chainFrameRx port f => Sys2Proof.Machine.execChainFrameRx port f s
  | .bcastFilterLapse src => Sys2Proof.Machine.execBcastFilterLapse src s
  | .idChangeHoldoffEnd => Sys2Proof.Machine.execIdChangeHoldoffEnd s
  | .chainPortTx port => Sys2Proof.Machine.execChainPortTx port s
  | .chainRequestRx port f => Sys2Proof.Machine.execChainRequestRx port f s
  | .readRequest => Sys2Proof.Machine.execReadRequest s
  | .writeRequest => Sys2Proof.Machine.execWriteRequest s
  | .pktchSend n => Sys2Proof.Machine.execPktchSend n s
  | .packetFromHost f => Sys2Proof.Machine.execPacketFromHost f s
  | .injectTimeout slot pktId => Sys2Proof.Machine.execInjectTimeout slot pktId s
  | .linkStatusSend => Sys2Proof.Machine.execLinkStatusSend s
  | .linkStatusRx port w0 w1 => Sys2Proof.Machine.execLinkStatusRx port w0 w1 s
  | .sideStableTimer east => Sys2Proof.Machine.execSideStableTimer east s
  | .sideJoinTimeout east => Sys2Proof.Machine.execSideJoinTimeout east s
  | .sideLsTimeout port => Sys2Proof.Machine.execSideLsTimeout port s
  | .chainLockLoss port => Sys2Proof.Machine.execChainLockLoss port s
  | .enumWalk port f => Sys2Proof.Machine.execEnumWalk port f s
  | .enumAssign port f => Sys2Proof.Machine.execEnumAssign port f s
  | .enumClear port f => Sys2Proof.Machine.execEnumClear port f s
  | .enumRing port f => Sys2Proof.Machine.execEnumRing port f s
  | .leaseHeartbeat f => Sys2Proof.Machine.execLeaseHeartbeat f s
  | .leaseRelease f => Sys2Proof.Machine.execLeaseRelease f s
  | .leaseYield f => Sys2Proof.Machine.execLeaseYield f s
  | .leaseTimerExpire role => Sys2Proof.Machine.execLeaseTimerExpire role s
  | .keyRevoke slot confirm k => Sys2Proof.Machine.execKeyRevoke slot confirm k s
  | .bootSelWrite slot once t => Sys2Proof.Machine.execBootSelWrite slot once t s
  | .sliceLoad slot sl t n => Sys2Proof.Machine.execSliceLoad slot sl t n s
  | .sliceUnload slot sl => Sys2Proof.Machine.execSliceUnload slot sl s
  | .sliceLoadDone sl => Sys2Proof.Machine.execSliceLoadDone sl s
  | .steerWrite slot val => Sys2Proof.Machine.execSteerWrite slot val s
  | .barrierOpen inp => Sys2Proof.Machine.execBarrierOpen inp s
  | .drainComplete sl => Sys2Proof.Machine.execDrainComplete sl s
  | .applyHitless slot t => Sys2Proof.Machine.execApplyHitless slot t s
  | .applyCold slot t => Sys2Proof.Machine.execApplyCold slot t s
  | .applyStop slot => Sys2Proof.Machine.execApplyStop slot s
  | .applyPhaseDone => Sys2Proof.Machine.execApplyPhaseDone s
  | .grpModeWrite slot g val => Sys2Proof.Machine.execGrpModeWrite slot g val s
  | .portEnable slot p => Sys2Proof.Machine.execPortEnable slot p s
  | .portDisable slot p => Sys2Proof.Machine.execPortDisable slot p s
  | .anComplete p partner => Sys2Proof.Machine.execAnComplete p partner s
  | .anTimeout p => Sys2Proof.Machine.execAnTimeout p s
  | .trainComplete r => Sys2Proof.Machine.execTrainComplete r s
  | .trainTimeout p => Sys2Proof.Machine.execTrainTimeout p s
  | .syncStable p => Sys2Proof.Machine.execSyncStable p s
  | .syncTimeout p => Sys2Proof.Machine.execSyncTimeout p s
  | .linkFault p remote rx midFrame => Sys2Proof.Machine.execLinkFault p remote rx midFrame s
  | .holdoffExpire p => Sys2Proof.Machine.execHoldoffExpire p s
  | .partnerDetect p => Sys2Proof.Machine.execPartnerDetect p s
  | .macFrameRx p bytes fin => Sys2Proof.Machine.execMacFrameRx p bytes fin s
  | .macFrameTx p => Sys2Proof.Machine.execMacFrameTx p s
  | .txtsHdrRead slot p => Sys2Proof.Machine.execTxtsHdrRead slot p s
  | .degSerWindow p lane syms corr uncorr => Sys2Proof.Machine.execDegSerWindow p lane syms corr uncorr s
  | .synceLaneLoss j => Sys2Proof.Machine.execSynceLaneLoss j s
  | .synceRelock j => Sys2Proof.Machine.execSynceRelock j s
  | .synceCfgWrite slot j val => Sys2Proof.Machine.execSynceCfgWrite slot j val s
  | .fasSighting g inst offset => Sys2Proof.Machine.execFasSighting g inst offset s
  | .candidateCheck g inst offset present => Sys2Proof.Machine.execCandidateCheck g inst offset present s
  | .lockedFrameCheck g inst present => Sys2Proof.Machine.execLockedFrameCheck g inst present s
  | .mfAlignTimeout g inst => Sys2Proof.Machine.execMfAlignTimeout g inst s
  | .otucFrameRx g f => Sys2Proof.Machine.execOtucFrameRx g f s
  | .otucFrameTx o => Sys2Proof.Machine.execOtucFrameTx o s
  | .defectIntegrationTimer g d set lanes => Sys2Proof.Machine.execDefectIntegrationTimer g d set lanes s
  | .degSecond g => Sys2Proof.Machine.execDegSecond g s
  | .ttiRxRead slot g pm => Sys2Proof.Machine.execTtiRxRead slot g pm s
  | .headDeal inp => Sys2Proof.Machine.execHeadDeal inp s
  | .headStage sl t k => Sys2Proof.Machine.execHeadStage sl t k s
  | .headStage23Exit sl t => Sys2Proof.Machine.execHeadStage23Exit sl t s
  | .mergeRelease sl inp => Sys2Proof.Machine.execMergeRelease sl inp s
  | .puntPortRelease sl => Sys2Proof.Machine.execPuntPortRelease sl s
  | .returnEntry sl eg => Sys2Proof.Machine.execReturnEntry sl eg s
  | .returnForce sl eg => Sys2Proof.Machine.execReturnForce sl eg s
  | .admitReportRx => Sys2Proof.Machine.execAdmitReportRx s
  | .sliceFence sl local' => Sys2Proof.Machine.execSliceFence sl local' s
  | .fenceEchoRx => Sys2Proof.Machine.execFenceEchoRx s
  | .failoverStage => Sys2Proof.Machine.execFailoverStage s
  | .replayComplete sl => Sys2Proof.Machine.execReplayComplete sl s
  | .jrnlDomainFail sl => Sys2Proof.Machine.execJrnlDomainFail sl s
  | .tblCmdWinWrite slot words => Sys2Proof.Machine.execTblCmdWinWrite slot words s
  | .tblNop => Sys2Proof.Machine.execTblNop s
  | .tblInsert => Sys2Proof.Machine.execTblInsert s
  | .tblUpsert => Sys2Proof.Machine.execTblUpsert s
  | .tblDelete => Sys2Proof.Machine.execTblDelete s
  | .tblWrite => Sys2Proof.Machine.execTblWrite s
  | .tblRead => Sys2Proof.Machine.execTblRead s
  | .tblSigCheck => Sys2Proof.Machine.execTblSigCheck s
  | .routeRowFree => Sys2Proof.Machine.execRouteRowFree s
  | .tblFailFifoRead slot => Sys2Proof.Machine.execTblFailFifoRead slot s
  | .sigSweep tid view seg => Sys2Proof.Machine.execSigSweep tid view seg s
  | .emRehashGo slot t => Sys2Proof.Machine.execEmRehashGo slot t s
  | .emRehashAbort slot t => Sys2Proof.Machine.execEmRehashAbort slot t s
  | .rehashCursorStep t => Sys2Proof.Machine.execRehashCursorStep t s
  | .learnApply sl => Sys2Proof.Machine.execLearnApply sl s
  | .lrnInsertStatic sl => Sys2Proof.Machine.execLrnInsertStatic sl s
  | .lrnInsertDynamic sl => Sys2Proof.Machine.execLrnInsertDynamic sl s
  | .lrnDelete sl => Sys2Proof.Machine.execLrnDelete sl s
  | .lrnReadKey sl => Sys2Proof.Machine.execLrnReadKey sl s
  | .lrnReadIndex sl => Sys2Proof.Machine.execLrnReadIndex sl s
  | .lrnFlushLoc sl => Sys2Proof.Machine.execLrnFlushLoc sl s
  | .lrnFlushDyn sl => Sys2Proof.Machine.execLrnFlushDyn sl s
  | .lrnFlushDone sl => Sys2Proof.Machine.execLrnFlushDone sl s
  | .lrnNotifyRead slot sl => Sys2Proof.Machine.execLrnNotifyRead slot sl s
  | .lrnScanVisit sl index hit => Sys2Proof.Machine.execLrnScanVisit sl index hit s
  | .lrnCopyGo slot val => Sys2Proof.Machine.execLrnCopyGo slot val s
  | .lrnCopyStop slot val => Sys2Proof.Machine.execLrnCopyStop slot val s
  | .lrnCopyDone => Sys2Proof.Machine.execLrnCopyDone s
  | .tcmCmdWinWrite slot words => Sys2Proof.Machine.execTcmCmdWinWrite slot words s
  | .tcmNop => Sys2Proof.Machine.execTcmNop s
  | .tcmWrite => Sys2Proof.Machine.execTcmWrite s
  | .tcmClear => Sys2Proof.Machine.execTcmClear s
  | .tcmRead => Sys2Proof.Machine.execTcmRead s
  | .tcmData => Sys2Proof.Machine.execTcmData s
  | .bulkBegin => Sys2Proof.Machine.execBulkBegin s
  | .bulkEnd => Sys2Proof.Machine.execBulkEnd s
  | .tcmSearch => Sys2Proof.Machine.execTcmSearch s
  | .bulkCheckStep => Sys2Proof.Machine.execBulkCheckStep s
  | .tcmScrubRow p row hit => Sys2Proof.Machine.execTcmScrubRow p row hit s
  | .tcmSuspectWindow => Sys2Proof.Machine.execTcmSuspectWindow s
  | .tcmCopyRow p => Sys2Proof.Machine.execTcmCopyRow p s
  | .tcmBankFence slot p => Sys2Proof.Machine.execTcmBankFence slot p s
  | .tcmAliasWrite slot a val => Sys2Proof.Machine.execTcmAliasWrite slot a val s
  | .tcmFailFifoRead slot => Sys2Proof.Machine.execTcmFailFifoRead slot s
  | .xeDispatch => Sys2Proof.Machine.execXeDispatch s
  | .xeReturn e t stage vec run => Sys2Proof.Machine.execXeReturn e t stage vec run s
  | .xeSend e t tkt out run => Sys2Proof.Machine.execXeSend e t tkt out run s
  | .xeDrop e t run => Sys2Proof.Machine.execXeDrop e t run s
  | .xeRetire e t => Sys2Proof.Machine.execXeRetire e t s
  | .xeQwaitExpire c => Sys2Proof.Machine.execXeQwaitExpire c s
  | .xeThreadOverlimit e t => Sys2Proof.Machine.execXeThreadOverlimit e t s
  | .xeLagWindow => Sys2Proof.Machine.execXeLagWindow s
  | .xeEngineFence slot val => Sys2Proof.Machine.execXeEngineFence slot val s
  | .xeRecDomainFail k => Sys2Proof.Machine.execXeRecDomainFail k s
  | .xeUcodeLoad k half => Sys2Proof.Machine.execXeUcodeLoad k half s
  | .xeClusterDrained => Sys2Proof.Machine.execXeClusterDrained s
  | .xeUcodeWritten => Sys2Proof.Machine.execXeUcodeWritten s
  | .xeClassWrite slot role c w val => Sys2Proof.Machine.execXeClassWrite slot role c w val s
  | .ellFlitTx k => Sys2Proof.Machine.execEllFlitTx k s
  | .ellFlitRx k hdr rest => Sys2Proof.Machine.execEllFlitRx k hdr rest s
  | .ellNakRepeat k => Sys2Proof.Machine.execEllNakRepeat k s
  | .ellLaneBad k lane loss => Sys2Proof.Machine.execEllLaneBad k lane loss s
  | .ellFullSearchDone k clk bad => Sys2Proof.Machine.execEllFullSearchDone k clk bad s
  | .ellTrainTimeout k => Sys2Proof.Machine.execEllTrainTimeout k s
  | .ellRetrainDone k pass => Sys2Proof.Machine.execEllRetrainDone k pass s
  | .ellClockLoss k => Sys2Proof.Machine.execEllClockLoss k s
  | .ellSleepWrite slot k val => Sys2Proof.Machine.execEllSleepWrite slot k val s
  | .ellSleepEnter k => Sys2Proof.Machine.execEllSleepEnter k s
  | .ellWake k => Sys2Proof.Machine.execEllWake k s
  | .ellWakeDone k pass => Sys2Proof.Machine.execEllWakeDone k pass s
  | .ellBodyAge g entry => Sys2Proof.Machine.execEllBodyAge g entry s
  | .ellLaneSearchDone k lane pass => Sys2Proof.Machine.execEllLaneSearchDone k lane pass s
  | .admitPointer u => Sys2Proof.Machine.execAdmitPointer u s
  | .mcOffer u => Sys2Proof.Machine.execMcOffer u s
  | .hbmRecordWrite q => Sys2Proof.Machine.execHbmRecordWrite q s
  | .hbmWriteDone q => Sys2Proof.Machine.execHbmWriteDone q s
  | .hbmReadAhead q => Sys2Proof.Machine.execHbmReadAhead q s
  | .hbmReadDone q ce ue line => Sys2Proof.Machine.execHbmReadDone q ce ue line s
  | .mcgWrite slot g eg val => Sys2Proof.Machine.execMcgWrite slot g eg val s
  | .hbmBankIdle c n => Sys2Proof.Machine.execHbmBankIdle c n s
  | .hbmRefresh c n => Sys2Proof.Machine.execHbmRefresh c n s
  | .hbmTempRead k t => Sys2Proof.Machine.execHbmTempRead k t s
  | .hbmLagWindow => Sys2Proof.Machine.execHbmLagWindow s
  | .hbmErrWindow => Sys2Proof.Machine.execHbmErrWindow s
  | .hbmTrainDone k fails => Sys2Proof.Machine.execHbmTrainDone k fails s
  | .hbmRetrainStart c => Sys2Proof.Machine.execHbmRetrainStart c s
  | .hbmRetrainDone c pass => Sys2Proof.Machine.execHbmRetrainDone c pass s
  | .hbmChannelFence c => Sys2Proof.Machine.execHbmChannelFence c s
  | .hbmStackPowerOff slot k => Sys2Proof.Machine.execHbmStackPowerOff slot k s
  | .hbmStackPowerOn slot k => Sys2Proof.Machine.execHbmStackPowerOn slot k s
  | .hbmChReopen slot c => Sys2Proof.Machine.execHbmChReopen slot c s
  | .schDequeue g => Sys2Proof.Machine.execSchDequeue g s
  | .schNodeWrite slot role w val => Sys2Proof.Machine.execSchNodeWrite slot role w val s
  | .schMapWrite slot role val => Sys2Proof.Machine.execSchMapWrite slot role val s
  | .schReseed slot => Sys2Proof.Machine.execSchReseed slot s
  | .schLinkChange p => Sys2Proof.Machine.execSchLinkChange p s
  | .schHoldExpire p => Sys2Proof.Machine.execSchHoldExpire p s
  | .schFlushDone p => Sys2Proof.Machine.execSchFlushDone p s
  | .fabTxSelect => Sys2Proof.Machine.execFabTxSelect s
  | .tbNone slot => Sys2Proof.Machine.execTbNone slot s
  | .tbStep slot => Sys2Proof.Machine.execTbStep slot s
  | .tbSlew slot => Sys2Proof.Machine.execTbSlew slot s
  | .tbCancelSlew slot => Sys2Proof.Machine.execTbCancelSlew slot s
  | .tbSetNow slot => Sys2Proof.Machine.execTbSetNow slot s
  | .tbSetAtPps slot => Sys2Proof.Machine.execTbSetAtPps slot s
  | .tbCmdApply => Sys2Proof.Machine.execTbCmdApply s
  | .ppsEdge => Sys2Proof.Machine.execPpsEdge s
  | .ppsTimeout => Sys2Proof.Machine.execPpsTimeout s
  | .slewDone => Sys2Proof.Machine.execSlewDone s
  | .tbSrcWrite slot val => Sys2Proof.Machine.execTbSrcWrite slot val s
  | .timeRefLoss => Sys2Proof.Machine.execTimeRefLoss s
  | .timeRefLock => Sys2Proof.Machine.execTimeRefLock s
  | .gateSwitch p => Sys2Proof.Machine.execGateSwitch p s
  | .gateEntryAdvance p => Sys2Proof.Machine.execGateEntryAdvance p s
  | .gclWrite slot p mem e w1 val => Sys2Proof.Machine.execGclWrite slot p mem e w1 val s
  | .gateCfgWrite slot p regB val => Sys2Proof.Machine.execGateCfgWrite slot p regB val s
  | .fabLaneEnable slot l val => Sys2Proof.Machine.execFabLaneEnable slot l val s
  | .fabLaneDisable slot l val => Sys2Proof.Machine.execFabLaneDisable slot l val s
  | .fabLaneTrained l => Sys2Proof.Machine.execFabLaneTrained l s
  | .fabLaneTrainTimeout l => Sys2Proof.Machine.execFabLaneTrainTimeout l s
  | .fabLaneDelinStable l => Sys2Proof.Machine.execFabLaneDelinStable l s
  | .fabLaneDelinTimeout l => Sys2Proof.Machine.execFabLaneDelinTimeout l s
  | .fabLaneLoss l cdr => Sys2Proof.Machine.execFabLaneLoss l cdr s
  | .fabLaneHoldoffEnd l partner => Sys2Proof.Machine.execFabLaneHoldoffEnd l partner s
  | .fabCellTx => Sys2Proof.Machine.execFabCellTx s
  | .fabCellRx l c => Sys2Proof.Machine.execFabCellRx l c s
  | .fabMsgReq d port cls total => Sys2Proof.Machine.execFabMsgReq d port cls total s
  | .fabMsgCredit d port cls total => Sys2Proof.Machine.execFabMsgCredit d port cls total s
  | .fabMsgAck d st seq => Sys2Proof.Machine.execFabMsgAck d st seq s
  | .fabMsgNak d st seq miss => Sys2Proof.Machine.execFabMsgNak d st seq miss s
  | .fabMsgPend d st seq seq2 => Sys2Proof.Machine.execFabMsgPend d st seq seq2 s
  | .fabMsgSync d st probe seq pl => Sys2Proof.Machine.execFabMsgSync d st probe seq pl s
  | .fabMsgSyncAck d st probe seq pl => Sys2Proof.Machine.execFabMsgSyncAck d st probe seq pl s
  | .fabMsgResync d st => Sys2Proof.Machine.execFabMsgResync d st s
  | .fabMsgHeartbeat l ns => Sys2Proof.Machine.execFabMsgHeartbeat l ns s
  | .fabReqRefresh => Sys2Proof.Machine.execFabReqRefresh s
  | .fabCreditGrant p => Sys2Proof.Machine.execFabCreditGrant p s
  | .fabAckTimer d st => Sys2Proof.Machine.execFabAckTimer d st s
  | .fabNakTimer d st => Sys2Proof.Machine.execFabNakTimer d st s
  | .fabAckTimeout d st => Sys2Proof.Machine.execFabAckTimeout d st s
  | .fabReorderTimeout d st => Sys2Proof.Machine.execFabReorderTimeout d st s
  | .fabMarkerExpire d st => Sys2Proof.Machine.execFabMarkerExpire d st s
  | .fabSyncTimer d st => Sys2Proof.Machine.execFabSyncTimer d st s
  | .fabUnreachTimer d st => Sys2Proof.Machine.execFabUnreachTimer d st s
  | .fabHeartbeatTimer l => Sys2Proof.Machine.execFabHeartbeatTimer l s
  | .fabLagWindow => Sys2Proof.Machine.execFabLagWindow s
  | .fabPlaneFail pl => Sys2Proof.Machine.execFabPlaneFail pl s
  | .fabPlaneReady pl => Sys2Proof.Machine.execFabPlaneReady pl s
  | .fabProbeDone pl => Sys2Proof.Machine.execFabProbeDone pl s
  | .fabReprobeTimer d st => Sys2Proof.Machine.execFabReprobeTimer d st s
  | .fabSwitch slot => Sys2Proof.Machine.execFabSwitch slot s
  | .fabSwitchEnd => Sys2Proof.Machine.execFabSwitchEnd s
  | .fabDownA slot => Sys2Proof.Machine.execFabDownA slot s
  | .fabDownB slot => Sys2Proof.Machine.execFabDownB slot s
  | .fabClearA slot => Sys2Proof.Machine.execFabClearA slot s
  | .fabClearB slot => Sys2Proof.Machine.execFabClearB slot s
  | .fabLaneRejoin slot l => Sys2Proof.Machine.execFabLaneRejoin slot l s
  | .fabPeerEnWrite slot inst val => Sys2Proof.Machine.execFabPeerEnWrite slot inst val s
  | .twinActInRise g => Sys2Proof.Machine.execTwinActInRise g s
  | .twinActInLow g => Sys2Proof.Machine.execTwinActInLow g s
  | .twinClaimTimer g => Sys2Proof.Machine.execTwinClaimTimer g s
  | .twinConfirm g aligned => Sys2Proof.Machine.execTwinConfirm g aligned s
  | .twinClaim slot g => Sys2Proof.Machine.execTwinClaim slot g s
  | .twinRelease slot g => Sys2Proof.Machine.execTwinRelease slot g s
  | .faultRise blk bit inst row => Sys2Proof.Machine.execFaultRise blk bit inst row s
  | .faultOccurrenceExpire blk bit => Sys2Proof.Machine.execFaultOccurrenceExpire blk bit s
  | .fltStickyWrite slot blk val => Sys2Proof.Machine.execFltStickyWrite slot blk val s
  | .fltFirstWrite slot blk val => Sys2Proof.Machine.execFltFirstWrite slot blk val s
  | .devUnfence slot blk unit => Sys2Proof.Machine.execDevUnfence slot blk unit s
  | .eventOccurrence code cls inst d4 d5 => Sys2Proof.Machine.execEventOccurrence code cls inst d4 d5 s
  | .reportSend => Sys2Proof.Machine.execReportSend s
  | .recFlush slot => Sys2Proof.Machine.execRecFlush slot s
  | .recSave slot => Sys2Proof.Machine.execRecSave slot s
  | .opSecTick => Sys2Proof.Machine.execOpSecTick s
  | .flashRecordWrite good => Sys2Proof.Machine.execFlashRecordWrite good s
  | .recRdIdxWrite slot val => Sys2Proof.Machine.execRecRdIdxWrite slot val s
  | .recSlotReadDone => Sys2Proof.Machine.execRecSlotReadDone s
  | .pmcSetGo slot n => Sys2Proof.Machine.execPmcSetGo slot n s
  | .pmcCopyDone n => Sys2Proof.Machine.execPmcCopyDone n s
  | .pmcEntryWrite slot n e val => Sys2Proof.Machine.execPmcEntryWrite slot n e val s
  | .updOffer port f => Sys2Proof.Machine.execUpdOffer port f s
  | .updChunk port f => Sys2Proof.Machine.execUpdChunk port f s
  | .updEnd port f => Sys2Proof.Machine.execUpdEnd port f s
  | .updAbort port f => Sys2Proof.Machine.execUpdAbort port f s
  | .updArm port f => Sys2Proof.Machine.execUpdArm port f s
  | .updDisarm port f => Sys2Proof.Machine.execUpdDisarm port f s
  | .updAnswerRx port f => Sys2Proof.Machine.execUpdAnswerRx port f s
  | .updChunkAckRx port f => Sys2Proof.Machine.execUpdChunkAckRx port f s
  | .updResultRx port f => Sys2Proof.Machine.execUpdResultRx port f s
  | .updVerifyDone => Sys2Proof.Machine.execUpdVerifyDone s
  | .updIdleTimeout => Sys2Proof.Machine.execUpdIdleTimeout s
  | .updChunkAckTimer => Sys2Proof.Machine.execUpdChunkAckTimer s
  | .updActivate slot cold => Sys2Proof.Machine.execUpdActivate slot cold s
  | .updConfirm slot => Sys2Proof.Machine.execUpdConfirm slot s
  | .updCmdAbort slot => Sys2Proof.Machine.execUpdCmdAbort slot s
  | .updRestart slot => Sys2Proof.Machine.execUpdRestart slot s
  | .updConfirmExpire => Sys2Proof.Machine.execUpdConfirmExpire s
  | .updArmTime => Sys2Proof.Machine.execUpdArmTime s
  | .updRelayGo slot dst => Sys2Proof.Machine.execUpdRelayGo slot dst s
  | .updRelayTimeout => Sys2Proof.Machine.execUpdRelayTimeout s
  | .fwReady => Sys2Proof.Machine.execFwReady s
  | .fwReadyTimeout => Sys2Proof.Machine.execFwReadyTimeout s
  | .feedQualified f => Sys2Proof.Machine.execFeedQualified f s
  | .feedUndervolt f => Sys2Proof.Machine.execFeedUndervolt f s
  | .feedOvervolt f mv => Sys2Proof.Machine.execFeedOvervolt f mv s
  | .feedInRange f mv => Sys2Proof.Machine.execFeedInRange f mv s
  | .brownoutEnter => Sys2Proof.Machine.execBrownoutEnter s
  | .brownoutExit => Sys2Proof.Machine.execBrownoutExit s
  | .domSwitchOn slot d => Sys2Proof.Machine.execDomSwitchOn slot d s
  | .domSwitchOff slot d => Sys2Proof.Machine.execDomSwitchOff slot d s
  | .domSwitchDone d => Sys2Proof.Machine.execDomSwitchDone d s
  | .domTrip d => Sys2Proof.Machine.execDomTrip d s
  | .thermSample f q => Sys2Proof.Machine.execThermSample f q s
  | .powerSample va vb ca cb w => Sys2Proof.Machine.execPowerSample va vb ca cb w s
  | .refInputLoss r => Sys2Proof.Machine.execRefInputLoss r s
  | .refInputReturn r => Sys2Proof.Machine.execRefInputReturn r s
  | .sysrefPresent => Sys2Proof.Machine.execSysrefPresent s
  | .powerOn => Sys2Proof.Machine.execPowerOn s
  | .resetNAssert => Sys2Proof.Machine.execResetNAssert s
  | .resetNRelease pins => Sys2Proof.Machine.execResetNRelease pins s
  | .mainRailsUp => Sys2Proof.Machine.execMainRailsUp s
  | .storeClearDone => Sys2Proof.Machine.execStoreClearDone s
  | .bootTunVerified => Sys2Proof.Machine.execBootTunVerified s
  | .bootSectionsWritten => Sys2Proof.Machine.execBootSectionsWritten s
  | .jtagBypass => Sys2Proof.Machine.execJtagBypass s
  | .jtagIdcode => Sys2Proof.Machine.execJtagIdcode s
  | .jtagSamplePreload tdi => Sys2Proof.Machine.execJtagSamplePreload tdi s
  | .jtagExtest tdi => Sys2Proof.Machine.execJtagExtest tdi s
  | .trstNAssert => Sys2Proof.Machine.execTrstNAssert s
  | .chainBlockLock a => Sys2Proof.Machine.execChainBlockLock a s
  | .fwVerifyDone => Sys2Proof.Machine.execFwVerifyDone s
  | .fabEnWrite slot val => Sys2Proof.Machine.execFabEnWrite slot val s
  | .twinEnWrite slot g val => Sys2Proof.Machine.execTwinEnWrite slot g val s

end Sys2Proof.Machine
end

