-- ==== Sys2Proof/Machine/Tick.lean ====
section
/-! DEFINITION. One nanosecond without a command: the time base, the cycle counters, a Firkin stall, credit generators, and
packets that wait for the Ell (R197, R397, R400, R426, R436). -/

namespace Sys2Proof.Machine

/-- qclk cycles of a Firkin stall: 3 in 2 ns (R436). -/
def tickStall (s : State) : State :=
  if onData s && s.fab.stall then bumpN s (cOff 0x10 0x88) (s.now * 3 / 2 - (s.now - 1) * 3 / 2) else s

/-- Injected packets that are complete and wait for the Ell are tried again. -/
def tickInject (s : State) : State := if onData s then injFlush s else s

/-- The credit generators of the fabric gain tokens (R426). -/
def tickGen (s : State) : State := if blkOn s 0x10 then genTick s else s

/-- Hardware holds of twin groups that have lasted 1 µs end (R550). -/
def tickHolds (s : State) : State := if s.fab.holds.any (fun h => decide (h.1 ≤ s.now)) then twinHoldsEnd s else s

/-- One nanosecond. While reset holds the device, and in the fatal state, only the model's clock runs. -/
def tick (s : State) : State :=
  if s.pwr.boot.held || s.flt.fatal then { s with now := s.now + 1 }
  else tickInject (tickGen (tickStall (tickCycles (tickHolds (tickTime s)))))

end Sys2Proof.Machine
end

