-- ==== Sys2Proof/Safety.lean ====
section
/-! DEFINITION. The terms the statements use: the parts of the state, what counts as a sound state, and a step that completes. -/

namespace Sys2Proof.Machine

/-! ## The parts of the state -/

/-- The parts of the state: one name for each field of State. -/
inductive Part where
  | pending | now | free | acc | regs | ctr | latch | flash | fur | flt | rcd | pmc | tgt | node | chain | pwr | jtag | lp | tbl | lrn | tcm
  | slc | xe | ell | bpm | hbm | sch | fab | img | upd
deriving DecidableEq, Repr

/-- The type of a part. -/
abbrev Part.T : Part → Type
  | .pending => List Instr | .now => Nat | .free => Nat | .acc => Nat × Word | .regs => SMap Word | .ctr => SMap Ctr
  | .latch => SMap Word | .flash => SMap Byte | .fur => FurSt | .flt => FltSt | .rcd => RecSt | .pmc => PmcSt | .tgt => TgtSt
  | .node => SelfSt | .chain => ChainSt | .pwr => PwrSt | .jtag => JtagSt | .lp => LpSt | .tbl => TblSt | .lrn => LrnBlk
  | .tcm => TcmSt | .slc => SlcBlk | .xe => XeSt | .ell => EllSt | .bpm => BpmSt | .hbm => HbmSt | .sch => SchSt | .fab => FabSt
  | .img => ImgSt | .upd => UpdSt

/-- A part of a state. -/
def State.part (s : State) : (p : Part) → p.T
  | .pending => s.pending | .now => s.now | .free => s.free | .acc => s.acc | .regs => s.regs | .ctr => s.ctr
  | .latch => s.latch | .flash => s.flash | .fur => s.fur | .flt => s.flt | .rcd => s.rcd | .pmc => s.pmc | .tgt => s.tgt
  | .node => s.node | .chain => s.chain | .pwr => s.pwr | .jtag => s.jtag | .lp => s.lp | .tbl => s.tbl | .lrn => s.lrn
  | .tcm => s.tcm | .slc => s.slc | .xe => s.xe | .ell => s.ell | .bpm => s.bpm | .hbm => s.hbm | .sch => s.sch | .fab => s.fab
  | .img => s.img | .upd => s.upd

/-- The two states agree in every part that the list does not name: the frame of a command that may change the parts named. -/
def AgreeBut (l : List Part) (s t : State) : Prop := ∀ p, p ∉ l → t.part p = s.part p

/-! ## Sound states -/

/-- A lease whose fields have the widths that the chain gives them (R86, R87, R89), and a holder only once an epoch is recorded. -/
def LeaseOk (l : Lease) : Prop :=
  l.slot < 4 ∧ l.prio < 16 ∧ l.epoch < 65536 ∧ l.serial < 2 ^ 48 ∧ l.succ < 4 ∧ (l.st ≠ .none → l.recorded = true)

/-- The device's address is 0 or that of a device, 1 to 62 (R58), and both leases are sound. -/
def NodeOk (n : SelfSt) : Prop := n.addr ≤ 62 ∧ LeaseOk n.owner ∧ LeaseOk n.tk

/-- Flash contents in their canonical form: addresses strictly rise and no erased byte is listed. -/
def FlashOk (m : SMap Byte) : Prop := m.wf 0xFF = true

/-- The invariant of every step. -/
def Sound (s : State) : Prop := NodeOk s.node ∧ FlashOk s.flash

/-! ## Register accesses -/

/-- The indices fit the dimensions of a register. -/
def idxFit : List (Nat × Nat) → List Nat → Bool
  | [], [] => true
  | (n, _) :: rest, i :: is => decide (i < n) && idxFit rest is
  | _, _ => false

/-- Accesses are carried out: the chain runs, the device has an address and its management cores run (R74, R508). -/
def served (s : State) : Bool := onChain s && decide (nodeId s ≠ 0) && fwRuns s

/-- A write by the slot to the register has its effect: accesses are carried out, the slot holds the live owner lease, the register is
available, and no apply keeps staged registers busy (R17, R13, R71, R121). -/
def ownerMay (s : State) (slot : Fin 4) (r : Reg) (idx : List Nat) : Bool :=
  served s && isOwner s slot.val && availWrite s (r.addr idx) && (!stWrite r || !applyRuns s || s.fur.direct)

/-- A write to the register acts by the access types of its bits alone, at once (Table 0.4): no bit is staged, starts an operation, is
checked, or belongs to a window. -/
def plainWrite (r : Reg) : Bool :=
  !stWrite r && match r with
  | .devFurlongCommit | .devUnfence | .pwrDomCmd | .imgBootSel | .imgApply | .imgSliceLoad | .imgKeyRevoke | .lpGrpMode | .lpPortCfg
  | .lpLaneTxeq | .lpSynceCfg | .otnCfg | .slcParseCap | .tblCmdWin | .tblEmRehash | .lrnHcmd | .lrnCopy | .tcmBank | .tcmCmdWin
  | .xeEngineFence | .ellBcfg | .bpmDfreeCap | .bpmMcgIng | .bpmMcgEg | .hbmUeCap | .hbmStackCfg | .hbmChCfg | .schNQmax | .tgtTbCtrl
  | .tgtTbCmd | .tgtGclW0 | .tgtGclW1 | .fabCfg | .fabCmd | .fabLaneCfg | .fabPeerEn | .fabTwinCfg | .recCmd | .recRdIdx | .recCfg
  | .recOvrA | .recOvrB | .pmcSetCmd | .pmcEntry | .updCmd | .updRelay | .fltMask | .fltSticky | .fltFirst => false
  | _ => true

/-- A write to the register stages its value and does no more (R19): no check of the value stands before it. -/
def plainStage (r : Reg) : Bool :=
  r.info.st != 0 && r.info.rw == 0 && r.info.w1c == 0 && !isWindow r && match r with
  | .devFurlongCfg | .imgSteer | .tcmAlias | .xeClassA | .xeClassB | .xeClassC | .tgtGcfgA | .tgtGcfgB => false
  | _ => true

/-- A read of the register returns its value and, by the owner, clears its RC bits in the register itself: it latches no other word and
takes nothing from a queue. -/
def plainRead (r : Reg) : Bool :=
  match r with
  | .devFurlongSeqLo | .tgtTbNsLo | .tgtPpsCapLo | .otnSmTtiRx | .otnPmTtiRx | .tblFailFifo | .tcmFailFifo | .lrnNotify | .lpTxtsHdr
  | .bpmPoolMin | .schNQmax => false
  | _ => true

/-! ## Steps -/

/-- The step ends in a next state, and stops for no reason. -/
def stepCompletes (s : State) : Bool := match step s with | .next _ => true | .fault _ => false | .refused _ => false

end Sys2Proof.Machine
end

