-- ==== Sys2Proof/Certificates/Slice0/Obligations.lean ====
section
/-! DEFINITION. The statements of the model, for the provers. -/

open Sys2Proof Sys2Proof.Machine

/-! ## The machine as a whole -/

/-- A step with a command at the front of the queue is that command's effect on the state with the rest of the queue, for every command
and every state. -/
def Obligations.StepRunsFrontCommand : Prop :=
  ∀ (c : Instr) (rest : List Instr) (s : State), step { s with pending := c :: rest } = exec c { s with pending := rest }

/-- Every step of every state ends in a next state: no command ends in a fault or is refused, since the spec gives every command an
effect. With no command waiting a step is one tick of 1 ns (the model's choice, log entry 6): the model's clock advances by 1 and the
queue stays empty. -/
def Obligations.EveryStepCompletes : Prop :=
  (∀ s : State, stepCompletes s = true) ∧
  (∀ s : State, s.pending = [] → ∃ t, step s = .next t ∧ t.now = s.now + 1 ∧ t.pending = [])

/-- The reset state is sound. -/
def Obligations.ResetSound : Prop :=
  Sound State.reset

/-- Every step from a sound state that ends in a next state ends in a sound one: the device's address stays 0 or that of a device, the
fields of both leases keep their widths, no lease is held without a recorded epoch, and flash keeps its canonical form. -/
def Obligations.StepKeepsSound : Prop :=
  ∀ s t : State, Sound s → step s = .next t → Sound t

/-- No command changes the queue: a step leaves what stood behind the front command, in order. -/
def Obligations.StepLeavesRestOfQueue : Prop :=
  ∀ s t : State, step s = .next t → t.pending = s.pending.tail

/-! ## Register accesses -/

/-- Every register with every index that fits answers at its own address, and no other register does: the register map gives each word one
name, at an address that is a multiple of 4 and fits 32 bits (R7, R8, R10, R11). -/
def Obligations.RegisterMapRoundTrip : Prop :=
  ∀ (r : Reg) (idx : List Nat), idxFit r.info.dims idx = true →
    regAt (r.addr idx) = some (r, idx) ∧ r.addr idx % 4 = 0 ∧ r.addr idx < 2 ^ 32

/-- A read of a word at which the manual defines nothing completes with the address-error status and data 0 and changes nothing else, for
every session (R12). An access in a domain that is powered down or fenced completes with the domain-unavailable status; a read returns
0xDEAD_0000 plus the block code, and a write, in either role, has no effect (R13); only HBM_STACK_CFG of a stack that is off or fenced
takes its write, since POWER acts from there (R369; the model's reading, log entry 51). A write from a session that does not hold the
role, or under a role that may not write the register, is refused as access denied: the register file is unchanged and DEV_CH_DENIED
counts one word (R17, R71). -/
def Obligations.RefusedAccesses : Prop :=
  (∀ (slot : Fin 4) (addr : Word) (s : State), served s = true → definedAt s addr.toNat = false → exec (.rcRead slot addr) s = .next
    { s with acc := (stAddr, 0) }) ∧
  (∀ (slot : Fin 4) (addr : Word) (s : State), served s = true → definedAt s addr.toNat = true → availAddr s addr.toNat = false → exec
    (.rcRead slot addr) s = .next { s with acc := (stDomain, lo32 (0xDEAD0000 + addr.toNat / 0x1000000)) }) ∧
  (∀ (slot : Fin 4) (role : Role) (addr : Word) (val : Word) (s : State), served s = true → definedAt s addr.toNat = true → holdsRole s
    slot.val role = true → roleWrites role addr.toNat = true → availWrite s addr.toNat = false → exec (.registerWrite slot role addr val)
    s = .next { s with acc := (stDomain, 0) }) ∧
  (∀ (slot : Fin 4) (role : Role) (addr : Word) (val : Word) (s : State), served s = true → definedAt s addr.toNat = true → holdsRole s
    slot.val role = false ∨ roleWrites role addr.toNat = false → ∃ t, exec (.registerWrite slot role addr val) s = .next t ∧ t.acc =
    (stDenied, 0) ∧ ctrAt t (cOff 0 0x50) = (ctrAt s (cOff 0 0x50)).add 1 ∧ AgreeBut [.acc, .ctr] s t)

/-- REGISTER_WRITE to a register that acts by its access types alone: RW bits take the value, W1C bits written 1 clear, every other bit of
that register and every other register stays (R16); at a port where none starts a per-port register ignores its write (R128); to a
register that is staged without a check, the value waits in the open set and no register changes (R19). RC_READ of a register that
latches and pops nothing returns its value; by the owner it clears the register's RC bits, by any other session it changes no register
(R18). -/
def Obligations.SingleAccesses : Prop :=
  (∀ (slot : Fin 4) (role : Role) (addr : Word) (val : Word) (r : Reg) (idx : List Nat) (s : State), served s = true → addr.toNat % 4 = 0
    → regAt addr.toNat = some (r, idx) → plainWrite r = true → inertPort s r idx = false → holdsRole s slot.val role = true → roleWrites
    role addr.toNat = true → availAddr s addr.toNat = true → ∃ t, exec (.registerWrite slot role addr val) s = .next t ∧ t.acc = (stOk, 0)
    ∧ regRaw t r idx = ((regRaw s r idx &&& ~~~(BitVec.ofNat 32 r.info.rw)) ||| (val &&& BitVec.ofNat 32 r.info.rw)) &&& ~~~(val &&&
    BitVec.ofNat 32 r.info.w1c) ∧ (∀ r' idx', r'.addr idx' ≠ r.addr idx → regRaw t r' idx' = regRaw s r' idx') ∧ AgreeBut [.acc, .regs] s
    t) ∧
  (∀ (slot : Fin 4) (role : Role) (addr : Word) (val : Word) (r : Reg) (idx : List Nat) (s : State), served s = true → addr.toNat % 4 = 0
    → regAt addr.toNat = some (r, idx) → inertPort s r idx = true → stWrite r = false ∨ applyRuns s = false → holdsRole s slot.val role =
    true → roleWrites role addr.toNat = true → availAddr s addr.toNat = true → exec (.registerWrite slot role addr val) s = .next
    { s with acc := (stOk, 0) }) ∧
  (∀ (slot : Fin 4) (addr : Word) (val : Word) (r : Reg) (idx : List Nat) (s : State), served s = true → addr.toNat % 4 = 0 → regAt
    addr.toNat = some (r, idx) → plainStage r = true → inertPort s r idx = false → s.fur.direct = false → applyRuns s = false → isOwner s
    slot.val = true → roleWrites .owner addr.toNat = true → availAddr s addr.toNat = true → exec (.registerWrite slot .owner addr val) s =
    .next { s with acc := (stOk, 0), fur := { s.fur with opn := s.fur.opn.put (r.addr idx) (some (val &&& BitVec.ofNat 32 r.info.st)) } }) ∧
  (∀ (slot : Fin 4) (addr : Word) (r : Reg) (idx : List Nat) (s : State), served s = true → addr.toNat % 4 = 0 → regAt addr.toNat = some
    (r, idx) → plainRead r = true → inertPort s r idx = false → availAddr s addr.toNat = true → ∃ t, exec (.rcRead slot addr) s = .next t
    ∧ t.acc = (stOk, regView s slot.val r idx) ∧ regRaw t r idx = (if isOwner s slot.val then regRaw s r idx &&& ~~~(BitVec.ofNat 32
    r.info.rc) else regRaw s r idx) ∧ (∀ r' idx', r'.addr idx' ≠ r.addr idx → regRaw t r' idx' = regRaw s r' idx') ∧ AgreeBut [.acc,
    .regs] s t)

/-- COUNTER_LOW_READ returns the low word and latches the high word, OVF with it, for the reading slot alone (R23). COUNTER_WRITE of a low
word sets count bits [31:0] and clears [47:32], and of a high word sets bits [47:32], a 1 in bit 31 clearing OVF; every other counter
stays (R24, R483). TB_NS_LO_READ and PPS_CAP_LO_READ latch the words that belong together, for the reading slot alone (R23, R401). -/
def Obligations.CounterAndLatchAccesses : Prop :=
  (∀ (slot : Fin 4) (addr : Word) (k : Nat) (s : State), served s = true → addr.toNat % 4 = 0 → regAt addr.toNat = none → ctrWord s
    addr.toNat = some (k, false) → availAddr s addr.toNat = true → ∃ t, exec (.counterLowRead slot addr) s = .next t ∧ t.acc = (stOk, lo32
    (ctrAt s k).cnt.toNat) ∧ ctrReadHigh t slot.val = (ctrAt s k).hi ∧ (∀ j x, j ≠ slot.val → latched t j x = latched s j x) ∧ AgreeBut
    [.acc, .latch] s t) ∧
  (∀ (slot : Fin 4) (addr : Word) (val : Word) (k : Nat) (s : State), served s = true → addr.toNat % 4 = 0 → regAt addr.toNat = none →
    ctrWord s addr.toNat = some (k, false) → isOwner s slot.val = true → availAddr s addr.toNat = true → ∃ t, exec (.counterWrite slot
    .owner addr val) s = .next t ∧ t.acc = (stOk, 0) ∧ (ctrAt t k).cnt.toNat = val.toNat ∧ (ctrAt t k).ovf = (ctrAt s k).ovf ∧ (∀ b, b ≠ k
    → ctrAt t b = ctrAt s b) ∧ AgreeBut [.acc, .ctr] s t) ∧
  (∀ (slot : Fin 4) (addr : Word) (val : Word) (k : Nat) (s : State), served s = true → addr.toNat % 4 = 0 → regAt addr.toNat = none →
    ctrWord s addr.toNat = some (k, true) → isOwner s slot.val = true → availAddr s addr.toNat = true → ∃ t, exec (.counterWrite slot
    .owner addr val) s = .next t ∧ t.acc = (stOk, 0) ∧ (ctrAt t k).cnt.toNat = (ctrAt s k).cnt.toNat % 2 ^ 32 + val.toNat % 2 ^ 16 * 2 ^
    32 ∧ (ctrAt t k).ovf = ((ctrAt s k).ovf && !val.toNat.testBit 31) ∧ (∀ b, b ≠ k → ctrAt t b = ctrAt s b) ∧ AgreeBut [.acc, .ctr] s t) ∧
  (∀ (slot : Fin 4) (s : State), served s = true → availAddr s (Reg.addr .tgtTbNsLo []) = true → ∃ t, exec (.tbNsLoRead slot) s = .next t
    ∧ t.acc = (stOk, lo32 (tbNs s)) ∧ latched t slot.val (Reg.addr .tgtTbNsHi []) = hi32 (tbNs s) ∧ latched t slot.val (Reg.addr
    .tgtTbFrac []) = lo32 (tbFrac s) ∧ (∀ j x, j ≠ slot.val → latched t j x = latched s j x) ∧ AgreeBut [.acc, .latch] s t) ∧
  (∀ (slot : Fin 4) (s : State), served s = true → availAddr s (Reg.addr .tgtPpsCapLo []) = true → ∃ t, exec (.ppsCapLoRead slot) s =
    .next t ∧ t.acc = (stOk, lo32 (s.tgt.ppsCap / tbUnit)) ∧ latched t slot.val (Reg.addr .tgtPpsCapHi []) = hi32 (s.tgt.ppsCap / tbUnit)
    ∧ latched t slot.val (Reg.addr .tgtPpsCapFrac []) = lo32 (s.tgt.ppsCap % tbUnit * 65536 / tbUnit) ∧ (∀ j x, j ≠ slot.val → latched t j
    x = latched s j x) ∧ AgreeBut [.acc, .latch] s t)

/-- A counter that passes 0xFFFF_FFFF_FFFF wraps to 0 and sets OVF; below that it counts and OVF stays as it is; counting in one counter
leaves every other; and of the writes to the counter's words only a high word with bit 31 set clears OVF (R24). -/
def Obligations.CounterWrapsAndSetsOvf : Prop :=
  (∀ (s : State) (a : Nat), (ctrAt s a).cnt.toNat = 2 ^ 48 - 1 → (ctrAt (bump s a) a).cnt = 0 ∧ (ctrAt (bump s a) a).ovf = true) ∧
  (∀ (s : State) (a : Nat), (ctrAt s a).cnt.toNat < 2 ^ 48 - 1 → (ctrAt (bump s a) a).cnt.toNat = (ctrAt s a).cnt.toNat + 1 ∧ (ctrAt (bump
    s a) a).ovf = (ctrAt s a).ovf) ∧
  (∀ (s : State) (a : Nat) (b : Nat), b ≠ a → ctrAt (bump s a) b = ctrAt s b) ∧
  (∀ (s : State) (k : Nat) (v : Word), (ctrAt (ctrWriteLow s k v) k).ovf = (ctrAt s k).ovf ∧ (ctrAt (ctrWriteHigh s k v) k).ovf = ((ctrAt
    s k).ovf && !v.toNat.testBit 31))

/-! ## Crossings and the furlong controller -/

/-- Crossings. An access that gets no reply within 4 µs completes with the domain-unavailable status and the data of R13, and raises
ACC_TIMEOUT of DEV with the target's block code as its instance (R35); a crossing stall raises XDOM of the writer's block and fences the
reader's domain, in that block's unit 0xFF00 + r (R33); where the domain holds units of Table 16.6 they are fenced with it, by each
block's own rules, and otherwise nothing else changes but events and what was staged. -/
def Obligations.CrossingCommands : Prop :=
  (∀ (addr : Word) (s : State), served s = true → definedAt s addr.toNat = true → availAddr s addr.toNat = true → islandBlock (addr.toNat
    / 0x1000000) = false → (fltOf s 0).valid = false → tbit (fltMask s 0) 0 = false → ∃ t, exec (.accessGateTimeout addr) s = .next t ∧
    t.acc = (stDomain, lo32 (0xDEAD0000 + addr.toNat / 0x1000000)) ∧ (fltOf t 0).valid = true ∧ (fltOf t 0).cls = 2 ∧ (fltOf t 0).src = 0
    ∧ (fltOf t 0).inst = addr.toNat / 0x1000000 ∧ tbit (fltOf t 0).sticky 0 = true ∧ AgreeBut [.acc, .flt, .ctr, .rcd] s t) ∧
  (∀ (blk : Fin 21) (dom : Fin 256) (s : State), onIsland s = true → domUnits blk.val dom.val = [] → holds s blk.val 31 (0xFF00 + dom.val)
    = false → ∃ t, exec (.xdomStall blk dom) s = .next t ∧ isFenced t blk.val (0xFF00 + dom.val) = true ∧ tbit (fltOf t blk.val).sticky 31
    = true ∧ AgreeBut [.flt, .fur, .ctr, .rcd] s t) ∧
  (∀ (blk : Fin 21) (dom : Fin 256) (s : State), onIsland s = true → ∃ t, exec (.xdomStall blk dom) s = .next t ∧ isFenced t blk.val
    (0xFF00 + dom.val) = true ∧ AgreeBut [.regs, .ctr, .fur, .flt, .rcd, .pmc, .tgt, .chain, .pwr, .lp, .tbl, .lrn, .tcm, .slc, .xe, .ell,
    .bpm, .hbm, .sch, .fab, .img, .upd] s t)

/-- GO, GO with AT and CANCEL. A GO outside boot direct mode with no set pending and no apply running seals every open value, leaves a new
open set empty, and answers OK (R41, R44); with AT the sealed set is scheduled at DEV_FURLONG_AT, where that is a boundary of the period
in effect (R47), and is not sealed where it is none: BAD_AT sets, and the open values stay open. A GO written while a set is pending
answers busy, sets REFUSED and leaves the open values open (R45). A CANCEL before arming discards the sealed values, sets CANCELLED and
clears PENDING, and leaves the open set (R46); after arming it answers busy and changes nothing. -/
def Obligations.FurlongGoAndCancel : Prop :=
  (∀ (slot : Fin 4) (s : State), ownerMay s slot .devFurlongCommit [] = true → s.fur.direct = false → applyRuns s = false → furBusy s =
    false → ∃ t, exec (.furlongGo slot) s = .next t ∧ t.acc = (stOk, 0) ∧ t.fur.sealing = some none ∧ t.fur.sld = s.fur.opn ∧ t.fur.opn =
    {} ∧ AgreeBut [.acc, .fur] s t) ∧
  (∀ (slot : Fin 4) (s : State), ownerMay s slot .devFurlongCommit [] = true → s.fur.direct = false → applyRuns s = false → furBusy s =
    true → ∃ t, exec (.furlongGo slot) s = .next t ∧ t.acc = (stBusy, 0) ∧ rb t .devFurlongStatus [] 26 = true ∧ t.fur = s.fur ∧ AgreeBut
    [.acc, .regs] s t) ∧
  (∀ (slot : Fin 4) (s : State), ownerMay s slot .devFurlongCommit [] = true → s.fur.direct = false → applyRuns s = false → furBusy s =
    false → furlongAt s % furPeriod s = 0 → ∃ t, exec (.furlongGoAt slot) s = .next t ∧ t.acc = (stOk, 0) ∧ t.fur.sealing = some (some
    (furlongAt s)) ∧ t.fur.sld = s.fur.opn ∧ t.fur.opn = {} ∧ AgreeBut [.acc, .fur] s t) ∧
  (∀ (slot : Fin 4) (s : State), ownerMay s slot .devFurlongCommit [] = true → s.fur.direct = false → applyRuns s = false → furBusy s =
    false → furlongAt s % furPeriod s ≠ 0 → ∃ t, exec (.furlongGoAt slot) s = .next t ∧ t.acc = (stOk, 0) ∧ rb t .devFurlongStatus [] 25 =
    true ∧ t.fur = s.fur ∧ AgreeBut [.acc, .regs] s t) ∧
  (∀ (slot : Fin 4) (s : State), ownerMay s slot .devFurlongCommit [] = true → s.fur.direct = false → applyRuns s = false → s.fur.armed =
    false → furBusy s = true → s.fur.byFail = false → ∃ t, exec (.furlongCancel slot) s = .next t ∧ t.acc = (stOk, 0) ∧ t.fur.pend = false
    ∧ t.fur.sealing = none ∧ t.fur.sld = {} ∧ t.fur.opn = s.fur.opn ∧ rb t .devFurlongStatus [] 28 = true ∧ AgreeBut [.acc, .fur, .regs] s
    t) ∧
  (∀ (slot : Fin 4) (s : State), ownerMay s slot .devFurlongCommit [] = true → s.fur.direct = false → s.fur.armed = true → exec
    (.furlongCancel slot) s = .next { s with acc := (stBusy, 0) })

/-- Sealing, arming and the boundary. When sealing completes the set is pending, and a set without AT has its TARGET after the boundaries
nearer than 512 ns (R41, R42); a scheduled set is kept when its time is 512 ns away or more, and is discarded with LATE set when it is
nearer (R47). The set is armed when its boundary is 512 ns away (R43). A boundary raises DEV_FURLONG_SEQ by one and is followed by the
next whole multiple of the period (R37, R38); with no set pending it changes nothing else but what the PMC captures, and a pending set
that is not armed and whose TARGET has come slides by one boundary (R559; the model's choice, log entry 9). An armed set whose TARGET
the boundary is takes effect there and is no longer pending: shown for a value of BPM_PROF_MAX_i_k, of which every ST bit takes the
staged value (R42). -/
def Obligations.FurlongSealArmBoundary : Prop :=
  (∀ (s : State), onIsland s = true → s.fur.sealing = some none → s.fur.byApply = false → s.chain.heldResp = none → ∃ t, exec
    (.furlongSealComplete) s = .next t ∧ t.fur.pend = true ∧ t.fur.sealing = none ∧ t.fur.sld = s.fur.sld ∧ s.fur.seq < t.fur.target ∧
    AgreeBut [.fur] s t) ∧
  (∀ (s : State) (b : Nat), onIsland s = true → s.fur.sealing = some (some b) → s.fur.byApply = false → s.chain.heldResp = none → tbNs s +
    512 ≤ b → ∃ t, exec (.furlongSealComplete) s = .next t ∧ t.fur.pend = true ∧ t.fur.sched = some b ∧ t.fur.sld = s.fur.sld ∧ AgreeBut
    [.fur] s t) ∧
  (∀ (s : State) (b : Nat), onIsland s = true → s.fur.sealing = some (some b) → s.fur.byApply = false → s.chain.heldResp = none → b < tbNs
    s + 512 → ∃ t, exec (.furlongSealComplete) s = .next t ∧ t.fur.pend = false ∧ t.fur.sealing = none ∧ t.fur.sld = {} ∧ t.fur.opn =
    s.fur.opn ∧ rb t .devFurlongStatus [] 29 = true ∧ AgreeBut [.fur, .regs, .ctr, .rcd] s t) ∧
  (∀ (s : State) (x : Coming), onIsland s = true → s.fur.pend = true → s.fur.armed = false → applyingAt s = some x → x.wait ≤ 512 → ∃ t,
    exec (.furlongArm) s = .next t ∧ t.fur.armed = true ∧ t.fur.sld = s.fur.sld ∧ t.fur.opn = s.fur.opn ∧ AgreeBut [.fur] s t) ∧
  (∀ (s : State), onIsland s = true → s.fur.nextB ≤ tbNs s → s.fur.pend = false → ∃ t, exec (.furlongBoundary) s = .next t ∧ t.fur.seq =
    s.fur.seq + 1 ∧ s.fur.nextB < t.fur.nextB ∧ t.fur.nextB % furPeriod t = 0 ∧ t.fur.opn = s.fur.opn ∧ AgreeBut [.fur, .pmc, .free,
    .regs, .ctr, .rcd] s t) ∧
  (∀ (s : State), onIsland s = true → s.fur.nextB ≤ tbNs s → s.fur.pend = true → s.fur.armed = false → s.fur.moved = false → s.fur.sched =
    none → s.fur.target = s.fur.seq + 1 → ∃ t, exec (.furlongBoundary) s = .next t ∧ t.fur.seq = s.fur.seq + 1 ∧ t.fur.target =
    s.fur.target + 1 ∧ t.fur.pend = true ∧ t.fur.sld = s.fur.sld ∧ AgreeBut [.fur, .pmc, .free, .regs, .ctr, .rcd] s t) ∧
  (∀ (i : Nat) (k : Nat) (v : Word) (s : State), onIsland s = true → s.fur.nextB ≤ tbNs s → s.fur.pend = true → s.fur.armed = true →
    s.fur.moved = false → s.fur.sched = none → s.fur.target = s.fur.seq + 1 → s.fur.byApply = false → s.fur.sld = ⟨[(Reg.addr .bpmProfMax
    [i, k], v)]⟩ → regAt (Reg.addr .bpmProfMax [i, k]) = some (.bpmProfMax, [i, k]) → keyAvail s (Reg.addr .bpmProfMax [i, k]) = true →
    s.pwr.doms.entries.all (fun e => !e.2.waitSet) = true → s.img.coldWait = none → ∃ t, exec (.furlongBoundary) s = .next t ∧ t.fur.seq =
    s.fur.seq + 1 ∧ t.fur.pend = false ∧ t.fur.armed = false ∧ t.fur.sld = {} ∧ t.fur.opn = s.fur.opn ∧ regRaw t .bpmProfMax [i, k] =
    (regRaw s .bpmProfMax [i, k] &&& ~~~(0x03FFFFFF : Word)) ||| (v &&& 0x03FFFFFF) ∧ AgreeBut [.fur, .pmc, .free, .regs, .ctr, .rcd,
    .tgt] s t)

/-! ## The Githar chain -/

/-- Frames on the rings. A good unicast frame for another device that arrives on WA leaves on EA with HOPS one lower, as a transit frame
behind those that wait (R62, R66); a frame whose header check fails is discarded and counted first where it was found bad (R61). The
duplicate filter of a source lapses 10 ms after its last accepted broadcast (R63). A ring state frame that waited for the end of the 10
ms after an address change goes when they end, and the next one waits 10 µs (R65, R83). An output port sends its control frames before
every other class (R66). A port puts each frame it sends on its two lanes, block by block (R55, R56). A port that gains block lock holds
it, where its receiver can deskew the lanes, by up to 32 blocks (R55, R81). -/
def Obligations.ChainForwarding : Prop :=
  (∀ (port : Fin 4) (f : ChainFrame) (s : State), onChain s = true → port.val = 0 → s.chain.lock.get false 0 = true → f.errEnd = false →
    headOk f = true → frameOk f = true → fType f < 0xA → fDst f < 63 → fDst f ≠ nodeId s → fSrc f ≠ nodeId s → fHops f ≠ 0 →
    s.chain.east.wrapped = false → ((s.chain.txq.get {} (3 + classOf (fType f))).transit.map frameBytes).sum + frameBytes f ≤ 65536 → ∃ t,
    exec (.chainFrameRx port f) s = .next t ∧ (t.chain.txq.get {} (3 + classOf (fType f))).transit = (s.chain.txq.get {} (3 + classOf
    (fType f))).transit ++ [rehash { f with hdr := hset f.hdr 119 112 (fHops f - 1) }] ∧ (t.chain.txq.get {} (3 + classOf (fType
    f))).localQ = (s.chain.txq.get {} (3 + classOf (fType f))).localQ ∧ AgreeBut [.chain] s t) ∧
  (∀ (port : Fin 4) (f : ChainFrame) (s : State), onChain s = true → s.chain.lock.get false port.val = true → f.errEnd = false → headOk f
    = false → exec (.chainFrameRx port f) s = .next ((count s 0 (port.val * 8)))) ∧
  (∀ (src : Fin 128) (b : BcastSt) (s : State), onChain s = true → s.chain.bcast.find src.val = some b → b.until' ≤ s.now → ∃ t, exec
    (.bcastFilterLapse src) s = .next t ∧ t.chain.bcast.find src.val = none ∧ AgreeBut [.chain] s t) ∧
  (∀ (s : State), onChain s = true → s.chain.holdUntil ≤ s.now → s.chain.ringStateDue = true → s.chain.ringStateAt ≤ s.now → ∃ t, exec
    (.idChangeHoldoffEnd) s = .next t ∧ t.chain.ringStateDue = false ∧ t.chain.ringStateAt = s.now + 10000 ∧ AgreeBut [.chain, .ctr] s t) ∧
  (∀ (port : Fin 4) (f : ChainFrame) (rest : List ChainFrame) (s : State), onChain s = true → (s.chain.txq.get {} (port.val * 3)).transit
    = [] → (s.chain.txq.get {} (port.val * 3)).localQ = f :: rest → (exitSide s (if port.val = 1 then 0 else 1)).wrapped = false → ∃ t,
    exec (.chainPortTx port) s = .next t ∧ t.chain.sent.find port.val = some f ∧ (t.chain.txq.get {} (port.val * 3)).localQ = rest ∧
    t.chain.line.get {} port.val = (frameBlocks f).foldl dealLine { s.chain.line.get {} port.val with blocks := [] } ∧ AgreeBut [.chain] s
    t) ∧
  (∀ (a : BlockLock) (s : State), onChain s = true → a.skew ≤ 32 → ∃ t, exec (.chainBlockLock a) s = .next t ∧ t.chain.lock.get false
    a.port.val = true ∧ t.chain.west = s.chain.west ∧ t.chain.east = s.chain.east ∧ AgreeBut [.chain] s t) ∧
  (∀ (a : BlockLock) (s : State), 32 < a.skew → exec (.chainBlockLock a) s = .next s)

/-- Requests. A read or write request for the device that matches no kept reply joins the request queue while there is room (R72). The
front request is carried out whole: a well-formed read or write leaves the queue and its response, with its TAG, the request's TYPE plus
2 and the source as destination, is kept in the slot's reply cache and sent (R68, R69, R72, R73); a write of one word by the slot of the
live owner lease, with its epoch, gives the register the value (R69, R71); a malformed request is answered malformed (R70). -/
def Obligations.ChainRequests : Prop :=
  (∀ (port : Fin 4) (f : ChainFrame) (s : State), onChain s = true → port.val = 0 → s.chain.lock.get false 0 = true → f.errEnd = false →
    headOk f = true → frameOk f = true → fType f < 2 → fDst f = nodeId s → 0 < fDst f ∧ fDst f < 63 → fSrc f ≠ nodeId s → fwRuns s = true
    → (s.chain.replies.get [] (slotOf f)).find? (fun x => x.key == replyKey f) = none → s.chain.reqs.length < 128 → ∃ t, exec
    (.chainRequestRx port f) s = .next t ∧ t.chain.reqs = s.chain.reqs ++ [(0, f)] ∧ t.chain.txq = s.chain.txq ∧ AgreeBut [.chain] s t) ∧
  (∀ (port : Nat) (f : ChainFrame) (rest : List (Nat × ChainFrame)) (s : State), onChain s = true → s.chain.heldResp = none → s.chain.reqs
    = (port, f) :: rest → fType f = 0 → readFormed f = true → fDst f ≠ 63 → slotOf f < 4 → nodeId s ≠ 0 → ∃ t, exec (.readRequest) s =
    .next t ∧ t.chain.reqs = rest ∧ (t.chain.replies.get [] (slotOf f)).getLast?.map (fun x => (x.key, fType x.resp, fTag x.resp, fDst
    x.resp)) = some (replyKey f, 2, fTag f, fSrc f) ∧ AgreeBut [.chain, .regs, .ctr, .latch, .lp, .tbl, .lrn, .tcm, .bpm] s t) ∧
  (∀ (port : Nat) (f : ChainFrame) (v : Word) (rest : List (Nat × ChainFrame)) (s : State), served s = true → s.chain.heldResp = none →
    s.chain.reqs = (port, f) :: rest → fType f = 1 → fOp f = 0 → f.payload = [v] → fLen f = 1 → fAddr f = Reg.addr .schPolPage [] → fDst f
    ≠ 63 → slotOf f < 4 → isOwner s (slotOf f) = true → fEpoch f = s.node.owner.epoch → availAddr s (Reg.addr .schPolPage []) = true →
    s.tbl.win = [] → s.tcm.win = [] → ∃ t, exec (.writeRequest) s = .next t ∧ t.chain.reqs = rest ∧ regRaw t .schPolPage [] = (regRaw s
    .schPolPage [] &&& ~~~(0x3F : Word)) ||| (v &&& 0x3F) ∧ (t.chain.replies.get [] (slotOf f)).getLast?.map (fun x => (x.key, fType
    x.resp, fTag x.resp, fDst x.resp, fStatus x.resp)) = some (replyKey f, 3, fTag f, fSrc f, stOk) ∧ AgreeBut [.chain, .regs, .ctr] s t) ∧
  (∀ (port : Nat) (f : ChainFrame) (rest : List (Nat × ChainFrame)) (s : State), onChain s = true → s.chain.heldResp = none → s.chain.reqs
    = (port, f) :: rest → fType f = 0 → readFormed f = false → fDst f ≠ 63 → slotOf f < 4 → nodeId s ≠ 0 → ∃ t, exec (.readRequest) s =
    .next t ∧ t.chain.reqs = rest ∧ (t.chain.replies.get [] (slotOf f)).getLast?.map (fun x => (x.key, fStatus x.resp)) = some (replyKey
    f, stMalformed) ∧ AgreeBut [.chain, .ctr] s t)

/-- The packet channel. A packet at the head of an enabled queue that conforms to both buckets leaves the queue, counts as sent, charges
both buckets and takes the next packet number (R77, R78). The first fragment of an injected packet opens its reassembly for 1 ms (R79),
and a packet still incomplete then is dropped and counted (R79). -/
def Obligations.PacketChannel : Prop :=
  (∀ (n : Fin 8) (p : Ptr) (rest : List Ptr) (dst : Nat) (s : State), onData s = true → onChain s = true → (qOf s (pktQ0 + n.val)).on = p
    :: rest → ptrBad s p = false → pktDst s n.val = some dst → ((ptrBytes s p).length + 32) * 800 ≤ (pktBucket s n.val).lvl → ((ptrBytes s
    p).length + 32) * 800 ≤ (totBucket s).lvl → ∃ t, exec (.pktchSend n) s = .next t ∧ (qOf t (pktQ0 + n.val)).on = rest ∧ t.chain.pktId =
    (s.chain.pktId + 1) % 4096 ∧ t.chain.pktB.find n.val = some
    { pktBucket s n.val with lvl := (pktBucket s n.val).lvl - ((ptrBytes s p).length + 32) * 800 } ∧ t.chain.totB.lvl = (totBucket s).lvl
    - ((ptrBytes s p).length + 32) * 800 ∧ ctrAt t (cOff 0 (0xC0 + n.val * 8)) = (ctrAt s (cOff 0 (0xC0 + n.val * 8))).add 1 ∧ AgreeBut
    [.regs, .ctr, .flt, .rcd, .chain, .bpm] s t) ∧
  (∀ (f : ChainFrame) (s : State), onChain s = true → fType f = 6 → frameOk f = true → injAllowed s f = true → s.chain.injects = [] → fld
    (fWord f 0) 28 26 = 0 → tbit (fWord f 0) 25 = false → 10 ≤ fLen f → tfld (fragTicket f) 255 252 = 5 → tfld (fragTicket f) 7 0 =
    ticketChk (fragTicket f) → fld (fWord f 1) 13 0 ≤ 12284 → (fragData f 10).length < fld (fWord f 1) 13 0 → ∃ t, exec (.packetFromHost
    f) s = .next t ∧ t.chain.injects.map (fun x => (x.slot, x.pktId, x.nextFrag, x.total)) = [(s.node.owner.slot, fld (fWord f 0) 22 11,
    1, fld (fWord f 1) 13 0)] ∧ t.chain.injects.map (fun x => (x.bytes, x.deadline, x.full)) = [(fragData f 10, s.now + 1000000, false)] ∧
    AgreeBut [.chain] s t) ∧
  (∀ (slot : Fin 4) (pktId : Fin 4096) (x : Inject) (s : State), s.chain.injects.find? (injIs slot.val pktId.val) = some x → x.deadline ≤
    s.now → ∃ t, exec (.injectTimeout slot pktId) s = .next t ∧ t.chain.injects = s.chain.injects.erase x ∧ ctrAt t (cOff 0 0x78) = (ctrAt
    s (cOff 0 0x78)).add 1 ∧ AgreeBut [.chain, .ctr] s t)

/-- Link status and sides (Tables 2.8 and 2.9). Every port sends its side's state, 1 µs after the last, and a side that has become UP
loses its wrap with event 0x0031 (R80); an arriving link status with STABLE set takes a stable side to JOIN, and one with JOIN set takes
a joining side UP, still wrapped; a side that is DOWN with good link status for 10 ms becomes STABLE; 1 ms in JOIN, 3 µs without link
status and the loss of block lock take the side DOWN, from UP with the wrap applied, event 0x0030 and DEV_CH_WRAPS (R81, R82). -/
def Obligations.ChainSides : Prop :=
  (∀ (s : State), onChain s = true → s.chain.west.st ≠ .up → s.chain.east.st ≠ .up → s.chain.ringStateDue = false → s.chain.lsDue ≤ s.now
    → ∃ t, exec (.linkStatusSend) s = .next t ∧ t.chain.lsDue = s.now + 1000 ∧ (List.range 4).all (fun p => (t.chain.sentLs.find p).map
    (fun f => f.payload) == some (lsWords s p)) = true ∧ t.chain.west = s.chain.west ∧ t.chain.east = s.chain.east ∧ AgreeBut [.chain] s
    t) ∧
  (∀ (s : State), onChain s = true → s.chain.west.st = .up → s.chain.west.wrapped = true → s.chain.east.st ≠ .up → s.chain.lsDue ≤ s.now →
    ∃ t, exec (.linkStatusSend) s = .next t ∧ t.chain.west.wrapped = false ∧ t.chain.west.st = .up ∧ AgreeBut [.chain, .ctr, .rcd] s t) ∧
  (∀ (port : Fin 4) (w0 : Word) (w1 : Word) (s : State), onChain s = true → s.chain.lock.get false port.val = true → (sideOf s (eastPort
    port.val)).st = .stable → (sideOf s (eastPort port.val)).ser.find port.val = some (fld w0 15 0 * 2 ^ 32 + w1.toNat) → tbit w0 21 =
    true → ∃ t, exec (.linkStatusRx port w0 w1) s = .next t ∧ (sideOf t (eastPort port.val)).st = .join ∧ AgreeBut [.chain, .ctr] s t) ∧
  (∀ (port : Fin 4) (w0 : Word) (w1 : Word) (s : State), onChain s = true → s.chain.lock.get false port.val = true → (sideOf s (eastPort
    port.val)).st = .join → (sideOf s (eastPort port.val)).ser.find port.val = some (fld w0 15 0 * 2 ^ 32 + w1.toNat) → tbit w0 20 = true
    → ∃ t, exec (.linkStatusRx port w0 w1) s = .next t ∧ (sideOf t (eastPort port.val)).st = .up ∧ (sideOf t (eastPort port.val)).wrapped
    = (sideOf s (eastPort port.val)).wrapped ∧ AgreeBut [.chain, .ctr, .rcd, .upd] s t) ∧
  (∀ (east : Bool) (n : Nat) (s : State), onChain s = true → (sideOf s east).st = .down → sideGood s east = true → (sideOf s east).since =
    some n → n + 10000000 ≤ s.now → ∃ t, exec (.sideStableTimer east) s = .next t ∧ (sideOf t east).st = .stable ∧ (sideOf t (!east)) =
    sideOf s (!east) ∧ AgreeBut [.chain, .ctr] s t) ∧
  (∀ (east : Bool) (s : State), onChain s = true → (sideOf s east).st = .join → (sideOf s east).joinAt + 1000000 ≤ s.now → ∃ t, exec
    (.sideJoinTimeout east) s = .next t ∧ (sideOf t east).st = .down ∧ (sideOf t (!east)) = sideOf s (!east) ∧ AgreeBut [.chain, .ctr] s
    t) ∧
  (∀ (port : Fin 4) (n : Nat) (s : State), onChain s = true → (sideOf s (eastPort port.val)).st = .up → (sideOf s (eastPort
    port.val)).lsAt.find port.val = some n → n + 3000 ≤ s.now → ∃ t, exec (.sideLsTimeout port) s = .next t ∧ (sideOf t (eastPort
    port.val)).st = .down ∧ (sideOf t (eastPort port.val)).wrapped = true ∧ ctrAt t (cOff 0 0x100) = (ctrAt s (cOff 0 0x100)).add 1 ∧
    AgreeBut [.chain, .ctr, .rcd] s t) ∧
  (∀ (port : Fin 4) (s : State), onChain s = true → (sideOf s (eastPort port.val)).st = .up → ∃ t, exec (.chainLockLoss port) s = .next t
    ∧ t.chain.lock.get false port.val = false ∧ (sideOf t (eastPort port.val)).st = .down ∧ (sideOf t (eastPort port.val)).wrapped = true
    ∧ ctrAt t (cOff 0 0x100) = (ctrAt s (cOff 0 0x100)).add 1 ∧ AgreeBut [.chain, .ctr, .rcd] s t)

/-- Enumeration (Table 2.10), from the source that holds the live owner lease. A WALK that does not yet name the device's serial is
forwarded with the device's record appended (R85); an ASSIGN with the device's serial gives the device its address, and one that gives
the device's address to another serial takes it back to address 0 and is reported; a CLEAR takes every device to address 0; a RING frame
is kept as the ring order (R67). -/
def Obligations.ChainEnumeration : Prop :=
  (∀ (port : Fin 4) (f : ChainFrame) (s : State), onChain s = true → port.val = 0 → s.chain.lock.get false 0 = true → f.errEnd = false →
    headOk f = true → frameOk f = true → fType f = 7 → fOp f = 0 → fDst f = 63 → enumFromOwner s f = true → nodeId s < 64 → fLen f = 0 →
    fHops f ≠ 0 → s.chain.east.wrapped = false → (s.chain.txq.get {} 4).transit = [] → ∃ t, exec (.enumWalk port f) s = .next t ∧
    ((t.chain.txq.get {} 4).transit.map (fun g => g.payload)) = [walkRecord s f] ∧ t.node = s.node ∧ AgreeBut [.chain, .node, .ctr, .rcd]
    s t) ∧
  (∀ (port : Fin 4) (f : ChainFrame) (s : State), onChain s = true → port.val = 0 → s.chain.lock.get false 0 = true → f.errEnd = false →
    headOk f = true → frameOk f = true → fType f = 7 → fOp f = 1 → fDst f = 63 → enumFromOwner s f = true → nodeId s < 64 → (bcastPass s
    f).1 = true → fLen f = 3 → serialAt f 0 = serialNat → fld (fWord f 2) 5 0 ≠ 63 → ∃ t, exec (.enumAssign port f) s = .next t ∧
    t.node.addr = fld (fWord f 2) 5 0 ∧ t.node.owner = s.node.owner ∧ t.node.tk = s.node.tk ∧ AgreeBut [.chain, .node, .ctr, .rcd] s t) ∧
  (∀ (port : Fin 4) (f : ChainFrame) (s : State), onChain s = true → port.val = 0 → s.chain.lock.get false 0 = true → f.errEnd = false →
    headOk f = true → frameOk f = true → fType f = 7 → fOp f = 1 → fDst f = 63 → enumFromOwner s f = true → nodeId s < 64 → (bcastPass s
    f).1 = true → fLen f = 3 → serialAt f 0 ≠ serialNat → nodeId s ≠ 0 → nodeId s ≠ 63 → fld (fWord f 2) 5 0 = nodeId s → ∃ t, exec
    (.enumAssign port f) s = .next t ∧ t.node.addr = 0 ∧ t.node.owner = s.node.owner ∧ AgreeBut [.chain, .node, .ctr, .rcd] s t) ∧
  (∀ (port : Fin 4) (f : ChainFrame) (s : State), onChain s = true → port.val = 0 → s.chain.lock.get false 0 = true → f.errEnd = false →
    headOk f = true → frameOk f = true → fType f = 7 → fOp f = 2 → fDst f = 63 → enumFromOwner s f = true → nodeId s < 64 → (bcastPass s
    f).1 = true → fLen f = 0 → ∃ t, exec (.enumClear port f) s = .next t ∧ t.node.addr = 0 ∧ t.node.owner = s.node.owner ∧ AgreeBut
    [.chain, .node, .ctr, .rcd] s t) ∧
  (∀ (port : Fin 4) (f : ChainFrame) (s : State), onChain s = true → port.val = 0 → s.chain.lock.get false 0 = true → f.errEnd = false →
    headOk f = true → frameOk f = true → fType f = 7 → fOp f = 4 → fDst f = 63 → enumFromOwner s f = true → nodeId s < 64 → (bcastPass s
    f).1 = true → ∃ t, exec (.enumRing port f) s = .next t ∧ t.chain.ring = some (fSrc f, walkRecs f.payload) ∧ t.node = s.node ∧ AgreeBut
    [.chain, .node, .ctr, .rcd] s t)

/-- Leases (Table 2.12). A HEARTBEAT of a role with no recorded epoch installs its slot, serial, priority and epoch for 250 ms; one from
the holder renews the lease; a YIELD from the holder starts the handover to the slot it names; a RELEASE from the holder ends the lease,
keeping the recorded epoch; and a live lease whose 250 ms are over ends (R87, R89). -/
def Obligations.LeaseCommands : Prop :=
  (∀ (f : ChainFrame) (s : State), onChain s = true → fType f = 8 → fOp f = 1 → frameOk f = true → 64 ≤ fSrc f ∧ fSrc f ≤ 67 → fLen f = 3
    → tbit (fWord f 0) 31 = false → s.node.owner.st = .none → s.node.owner.recorded = false → ∃ t, exec (.leaseHeartbeat f) s = .next t ∧
    t.node.owner.st = .live ∧ t.node.owner.slot = fSrc f - 64 ∧ t.node.owner.epoch = fEpoch f ∧ t.node.owner.prio = fld (fWord f 0) 27 24
    ∧ t.node.owner.serial = fld (fWord f 1) 15 0 * 2 ^ 32 + (fWord f 2).toNat ∧ t.node.owner.deadline = s.now + 250000000 ∧
    t.node.owner.recorded = true ∧ t.node.tk = s.node.tk ∧ t.node.addr = s.node.addr ∧ AgreeBut [.node, .ctr, .rcd] s t) ∧
  (∀ (f : ChainFrame) (s : State), onChain s = true → fType f = 8 → fOp f = 1 → frameOk f = true → fSrc f = 64 + s.node.tk.slot → fSrc f ≤
    67 → fLen f = 3 → tbit (fWord f 0) 31 = true → s.node.tk.st = .live → fEpoch f = s.node.tk.epoch → ∃ t, exec (.leaseHeartbeat f) s =
    .next t ∧ t.node.tk.deadline = s.now + 250000000 ∧ t.node.tk.slot = s.node.tk.slot ∧ t.node.tk.st = .live ∧ t.node.owner =
    s.node.owner ∧ AgreeBut [.node] s t) ∧
  (∀ (f : ChainFrame) (s : State), onChain s = true → fType f = 8 → fOp f = 2 → frameOk f = true → fSrc f = 64 + s.node.owner.slot → fSrc
    f ≤ 67 → fLen f = 3 → tbit (fWord f 0) 31 = false → s.node.owner.st = .live → fEpoch f = s.node.owner.epoch → ∃ t, exec (.leaseYield
    f) s = .next t ∧ t.node.owner.st = .handover ∧ t.node.owner.succ = fld (fWord f 0) 1 0 ∧ t.node.owner.slot = s.node.owner.slot ∧
    t.node.tk = s.node.tk ∧ AgreeBut [.node] s t) ∧
  (∀ (f : ChainFrame) (s : State), onChain s = true → fType f = 8 → fOp f = 3 → frameOk f = true → fSrc f = 64 + s.node.tk.slot → fSrc f ≤
    67 → fLen f = 3 → tbit (fWord f 0) 31 = true → s.node.tk.st = .live → fEpoch f = s.node.tk.epoch → ∃ t, exec (.leaseRelease f) s =
    .next t ∧ t.node.tk.st = .none ∧ t.node.tk.epoch = s.node.tk.epoch ∧ t.node.owner = s.node.owner ∧ AgreeBut [.node, .ctr, .rcd] s t) ∧
  (∀ (s : State), s.node.tk.st = .live → s.node.tk.deadline ≤ s.now → ∃ t, exec (.leaseTimerExpire .timekeeper) s = .next t ∧ t.node.tk.st
    = .none ∧ t.node.tk.epoch = s.node.tk.epoch ∧ t.node.owner = s.node.owner ∧ AgreeBut [.node, .ctr, .rcd] s t) ∧
  (∀ (s : State), s.node.owner.st = .live → s.node.owner.deadline ≤ s.now → ∃ t, exec (.leaseTimerExpire .owner) s = .next t ∧
    t.node.owner.st = .none ∧ t.node.owner.epoch = s.node.owner.epoch ∧ t.node.tk = s.node.tk ∧ AgreeBut [.node, .ctr, .rcd, .upd] s t)

/-! ## Images, Tuns and slices -/

/-- Keys and the boot. IMG_KEY_REVOKE with the confirm value revokes the key it names where that key is good and another one stays good,
and does nothing else (R100). A write of IMG_BOOT_SEL appends a control record with ONCE and ONCE_TUN in word 3, words 1 and 2 as they
are and SEQ one higher (R104, R494). With no Tun present and ONCE clear the choice ends in recovery mode; in every choice a Tun that
fails is not taken (R104, R105). When the sections have been written DIRECT clears, the boot is done and the image is the one in effect
(R50, R106). -/
def Obligations.ImageKeysAndBootChoice : Prop :=
  (∀ (slot : Fin 4) (confirm : Fin 65536) (k : Fin 4) (s : State), ownerMay s slot .imgKeyRevoke [] = true → ∃ t, exec (.keyRevoke slot
    confirm k) s = .next t ∧ t.acc = (stOk, 0) ∧ t.img.revoked.get false k.val = (s.img.revoked.get false k.val || (decide (confirm.val =
    0x4B59) && keyGood s k.val && (List.range 4).any (fun j => decide (j ≠ k.val) && keyGood s j))) ∧ (∀ j, j ≠ k.val → t.img.revoked.get
    false j = s.img.revoked.get false j) ∧ AgreeBut [.acc, .img] s t) ∧
  (∀ (slot : Fin 4) (once : Bool) (n : Fin 4) (s : State), ownerMay s slot .imgBootSel [] = true → (ctlNext s).2 = s → flashBytes s
    ((ctlNext s).1 * 64) 64 = List.replicate 64 0xFF → ∃ t, exec (.bootSelWrite slot once n) s = .next t ∧ t.acc = (stOk, 0) ∧ ctlWord t
    (ctlNext s).1 0 = ctl s 0 + 1 ∧ ctlWord t (ctlNext s).1 1 = ctl s 1 ∧ ctlWord t (ctlNext s).1 2 = ctl s 2 ∧ ctlWord t (ctlNext s).1 3
    = mkB 31 once ||| mkF 1 0 n.val ∧ AgreeBut [.acc, .flash] s t) ∧
  (∀ (s : State), onIsland s = true → s.pwr.boot.fwReady = true → fwRuns s = true → s.pwr.boot.tun = none → s.pwr.boot.done = false →
    s.upd.recovery = false → s.flt.fatal = false → onceSet s = false → (List.range 4).all (fun n => !tunPresent s n) = true → ∃ t, exec
    (.bootTunVerified) s = .next t ∧ t.upd.recovery = true ∧ t.node = s.node ∧ t.flash = s.flash ∧ AgreeBut [.regs, .ctr, .fur, .flt,
    .rcd, .pmc, .tgt, .chain, .pwr, .lp, .tbl, .lrn, .tcm, .slc, .xe, .ell, .bpm, .hbm, .sch, .fab, .img, .upd] s t) ∧
  (∀ (n : Nat) (s : State), bootReady s = true → s.pwr.boot.tun = some n → sectionsGood s n = true → ∃ t, exec (.bootSectionsWritten) s =
    .next t ∧ t.fur.direct = false ∧ t.pwr.boot.done = true ∧ t.img.effTun = some n ∧ t.node = s.node ∧ AgreeBut [.free, .regs, .ctr,
    .flash, .fur, .flt, .rcd, .pmc, .tgt, .chain, .pwr, .lp, .tbl, .lrn, .tcm, .slc, .xe, .ell, .bpm, .hbm, .sch, .fab, .img, .upd] s t)

/-- Slices. An allowed load takes the slice to LOADING from its Tun and role (R107, R108); when it ends with every section good the slice
is READY with the role and the load is over; UNLOAD returns a READY slice to IDLE (R107). A steering value that R110 allows is staged. A
barrier that may open opens: nothing is held for its input any more (R114). A slice in DRAIN that has settled everything becomes READY
with event 0x0C06 (R116). -/
def Obligations.SliceLoadAndSteering : Prop :=
  (∀ (slot : Fin 4) (sl : Fin 16) (n : Fin 4) (r : Fin 8) (s : State), ownerMay s slot .imgSliceLoad [] = true → onData s = true → sl.val
    < 9 → loadAllowed s sl.val n.val r.val = true → applyRuns s = false → s.upd.recovery = false → ∃ t, exec (.sliceLoad slot sl n r) s =
    .next t ∧ t.acc = (stOk, 0) ∧ (sliceOf t sl.val).st = .loading ∧ (sliceOf t sl.val).prog = none ∧ (t.slc.loads.find sl.val).map (fun l
    => (l.tun, l.role, l.by')) = some (n.val, r.val, 0) ∧ AgreeBut [.acc, .ctr, .lrn, .pwr, .rcd, .regs, .slc] s t) ∧
  (∀ (sl : Fin 9) (l : SliceLoad) (s : State), onData s = true → s.slc.loads.find sl.val = some l → l.by' = 0 → (roleSects s (tunBase
    l.tun) l.role).all (sectOk s (tunBase l.tun)) = true → ∃ t, exec (.sliceLoadDone sl) s = .next t ∧ (sliceOf t sl.val).st = .ready ∧
    (sliceOf t sl.val).role = l.role ∧ (sliceOf t sl.val).tun = l.tun ∧ (sliceOf t sl.val).prog.isSome = true ∧ t.slc.loads.find sl.val =
    none ∧ AgreeBut [.ctr, .img, .lrn, .rcd, .regs, .slc] s t) ∧
  (∀ (slot : Fin 4) (sl : Fin 16) (s : State), ownerMay s slot .imgSliceLoad [] = true → sl.val < 9 → (sliceOf s sl.val).st = .ready →
    s.upd.recovery = false → ∃ t, exec (.sliceUnload slot sl) s = .next t ∧ t.acc = (stOk, 0) ∧ (sliceOf t sl.val).st = .idle ∧ (sliceOf t
    sl.val).prog = none ∧ AgreeBut [.acc, .lrn, .regs, .slc] s t) ∧
  (∀ (slot : Fin 4) (val : Word) (s : State), ownerMay s slot .imgSteer [] = true → s.fur.direct = false → steerOk s val = true → ∃ t,
    exec (.steerWrite slot val) s = .next t ∧ t.acc = (stOk, 0) ∧ t.fur.opn.find (Reg.addr .imgSteer []) = some val ∧ AgreeBut [.acc,
    .fur] s t) ∧
  (∀ (inp : Fin 32) (b : Barrier) (s : State), onData s = true → s.slc.barrier.find inp.val = some b → barrierReady s inp.val b = true → ∃
    t, exec (.barrierOpen inp) s = .next t ∧ t.slc.barrier.find inp.val = none ∧ AgreeBut [.regs, .slc] s t) ∧
  (∀ (sl : Fin 9) (s : State), onData s = true → drainReady s sl.val = true → s.img.apply.phase ≠ .rotate → ∃ t, exec (.drainComplete sl)
    s = .next t ∧ (sliceOf t sl.val).st = .ready ∧ t.img = s.img ∧ AgreeBut [.slc, .ctr, .rcd, .lrn] s t)

/-- Applies. A hitless apply that R119 allows starts in VERIFY for its Tun; a cold apply that may run resets the data path, sets DIRECT
and boots from its Tun at once, keeping the chain address, the leases, flash and the command queue, and waits where a set is armed
(R123). APPLY_STOP stops a phase that has no commit sealed: STOPPED, with the Tun and phase in event 0x0C08 (R122). The sequencer ends
ROTATE once no role is left, and in CLEANUP seals a set of its own (R120, R121, Table 3.8). -/
def Obligations.ApplyCommands : Prop :=
  (∀ (slot : Fin 4) (n : Fin 4) (s : State), ownerMay s slot .imgApply [] = true → s.upd.recovery = false → hitlessOk s n.val = true → ∃
    t, exec (.applyHitless slot n) s = .next t ∧ t.acc = (stOk, 0) ∧ t.img.apply.phase = .verify ∧ t.img.apply.tun = n.val ∧ t.img.effTun
    = s.img.effTun ∧ AgreeBut [.acc, .img] s t) ∧
  (∀ (slot : Fin 4) (n : Fin 4) (s : State), ownerMay s slot .imgApply [] = true → s.upd.recovery = false → coldOk s n.val = true →
    s.fur.armed = true → ∃ t, exec (.applyCold slot n) s = .next t ∧ t.acc = (stOk, 0) ∧ t.img.coldWait = some n.val ∧ t.fur = s.fur ∧
    AgreeBut [.acc, .img] s t) ∧
  (∀ (slot : Fin 4) (n : Fin 4) (s : State), ownerMay s slot .imgApply [] = true → s.upd.recovery = false → coldOk s n.val = true →
    s.fur.armed = false → ∃ t, exec (.applyCold slot n) s = .next t ∧ t.acc = (stOk, 0) ∧ t.fur.direct = true ∧ t.fur.opn = {} ∧
    t.pwr.boot.tun = some n.val ∧ t.pwr.boot.done = false ∧ t.img.coldTun = some n.val ∧ AgreeBut [.acc, .regs, .ctr, .fur, .flt, .rcd,
    .pmc, .tgt, .chain, .pwr, .lp, .tbl, .lrn, .tcm, .slc, .xe, .ell, .bpm, .hbm, .sch, .fab, .img] s t) ∧
  (∀ (slot : Fin 4) (s : State), ownerMay s slot .imgApply [] = true → s.upd.recovery = false → s.img.apply.phase = .verify →
    s.img.apply.wait = .work → s.upd.applying = false → s.upd.falling = false → ∃ t, exec (.applyStop slot) s = .next t ∧ t.acc = (stOk,
    0) ∧ t.img.apply.phase = .stopped ∧ t.img.apply.tun = s.img.apply.tun ∧ t.upd = s.upd ∧ AgreeBut [.acc, .img, .ctr, .rcd, .xe, .slc] s
    t) ∧
  (∀ (s : State), onData s = true → fwRuns s = true → s.img.apply.phase = .rotate → s.img.apply.wait = .work → s.img.apply.stopping =
    false → s.img.apply.todo = [] → ∃ t, exec (.applyPhaseDone) s = .next t ∧ t.img.apply.phase = .cleanup ∧ t.img.apply.wait = .work ∧
    AgreeBut [.img] s t) ∧
  (∀ (s : State), onData s = true → fwRuns s = true → s.img.apply.phase = .cleanup → s.img.apply.wait = .work → s.img.apply.stopping =
    false → furBusy s = false → ∃ t, exec (.applyPhaseDone) s = .next t ∧ t.fur.sealing = some none ∧ t.fur.byApply = true ∧ t.fur.opn =
    s.fur.opn ∧ t.img.apply.wait = .commit ∧ AgreeBut [.img, .fur] s t)

/-! ## Line ports -/

/-- The port state machine of Table 4.3. A write of EN starts a port that is OFF and may start, in AN with its type alone advertised where
AN_EN is set, and a write of EN 0 stops it and clears FAILS; an exchange whose highest common ability is the configured type moves on to
TRAIN or SYNC, and training moves on to SYNC when every lane of the port is ready on both sides; an exchange without it, and a timer
that has run out, are failures with their reason and the hold-off of R139, but for SYNC entered from UP, which starts anew; UP_STABLE of
alignment without fault brings the link up with FAILS 0; loss of alignment or a remote fault in UP goes back to SYNC with LINK 0, a
frame being sent is not sent again; the hold-off ends with a start, at its timer or early (R136, R138, R139, R141). -/
def Obligations.PortStateMachine : Prop :=
  (∀ (slot : Fin 4) (p : Fin 128) (s : State), ownerMay s slot .lpPortCfg [p.val / 8, p.val % 8] = true → portExists s p.val = true → rb s
    .lpPortCfg [p.val / 8, p.val % 8] 31 = false → mayStart (setReg s .lpPortCfg [p.val / 8, p.val % 8] (setBit (regRaw s .lpPortCfg
    [p.val / 8, p.val % 8]) 31 true &&& 0xFCFF3FFF)) p.val = true → (portOf s p.val).st = .off → grpOtn s (p.val / 8) = false → rb s
    .lpPortCfg [p.val / 8, p.val % 8] 30 = true → ∃ t, exec (.portEnable slot p) s = .next t ∧ t.acc = (stOk, 0) ∧ rb t .lpPortCfg [p.val
    / 8, p.val % 8] 31 = true ∧ (portOf t p.val).st = .an ∧ (portOf t p.val).deadline = s.now + anTimeout s (p.val / 8) ∧ (portOf t
    p.val).adv = 1 <<< portType s p.val ∧ (portOf t p.val).fromUp = false ∧ AgreeBut [.acc, .regs, .lp] s t) ∧
  (∀ (slot : Fin 4) (p : Fin 128) (s : State), ownerMay s slot .lpPortCfg [p.val / 8, p.val % 8] = true → portExists s p.val = true → ∃ t,
    exec (.portDisable slot p) s = .next t ∧ t.acc = (stOk, 0) ∧ rb t .lpPortCfg [p.val / 8, p.val % 8] 31 = false ∧ (portOf t p.val).st =
    .off ∧ (portOf t p.val).link = false ∧ (portOf t p.val).fails = 0 ∧ (portOf t p.val).txq = (portOf s p.val).txq ∧ AgreeBut [.acc,
    .regs, .ctr, .rcd, .lp] s t) ∧
  (∀ (p : Fin 128) (partner : BitVec 12) (s : State), (portOf s p.val).st = .an → highestCommon (portOf s p.val).adv partner.toNat = some
    (portType s p.val) → ∃ t, exec (.anComplete p partner) s = .next t ∧ (portOf t p.val).st = (if rb s .lpPortCfg [p.val / 8, p.val % 8]
    29 then .train else .sync) ∧ (portOf t p.val).fails = (portOf s p.val).fails ∧ AgreeBut [.lp] s t) ∧
  (∀ (p : Fin 128) (partner : BitVec 12) (s : State), (portOf s p.val).st = .an → highestCommon (portOf s p.val).adv partner.toNat ≠ some
    (portType s p.val) → ∃ t, exec (.anComplete p partner) s = .next t ∧ (portOf t p.val).st = .holdoff ∧ (portOf t p.val).lastFail = 2 ∧
    (portOf t p.val).fails = min 15 ((portOf s p.val).fails + 1) ∧ AgreeBut [.ctr, .rcd, .lp] s t) ∧
  (∀ (p : Fin 128) (s : State), (portOf s p.val).st = .an → (portOf s p.val).deadline ≤ s.now → ∃ t, exec (.anTimeout p) s = .next t ∧
    (portOf t p.val).st = .holdoff ∧ (portOf t p.val).lastFail = 1 ∧ (portOf t p.val).fails = min 15 ((portOf s p.val).fails + 1) ∧
    (portOf t p.val).deadline = s.now + min (2 ^ (min 15 ((portOf s p.val).fails + 1) - 1)) 16 * 1000000000 ∧ AgreeBut [.ctr, .rcd, .lp] s
    t) ∧
  (∀ (r : TrainReport) (s : State), (portOf s r.p.val).st = .train → (portLanes s r.p.val).all (fun n => r.own.toNat.testBit (n % 8) &&
    r.partner.toNat.testBit (n % 8)) = true → ∃ t, exec (.trainComplete r) s = .next t ∧ (portOf t r.p.val).st = .sync ∧ (portOf t
    r.p.val).deadline = s.now + syncTimeout s (r.p.val / 8) ∧ AgreeBut [.regs, .lp, .free] s t) ∧
  (∀ (r : TrainReport) (s : State), (portOf s r.p.val).st = .train → (portLanes s r.p.val).all (fun n => r.own.toNat.testBit (n % 8) &&
    r.partner.toNat.testBit (n % 8)) = false → ∃ t, exec (.trainComplete r) s = .next t ∧ portOf t r.p.val = portOf s r.p.val ∧ AgreeBut
    [.regs] s t) ∧
  (∀ (p : Fin 128) (s : State), (portOf s p.val).st = .train → (portOf s p.val).deadline ≤ s.now → ∃ t, exec (.trainTimeout p) s = .next t
    ∧ (portOf t p.val).st = .holdoff ∧ (portOf t p.val).lastFail = 3 ∧ (portOf t p.val).fails = min 15 ((portOf s p.val).fails + 1) ∧
    AgreeBut [.ctr, .rcd, .lp] s t) ∧
  (∀ (p : Fin 128) (good : Nat) (s : State), (portOf s p.val).st = .sync → (portOf s p.val).goodAt = some good → good + rf s .lpPortCfg
    [p.val / 8, p.val % 8] 23 16 * 1000000 ≤ s.now → ∃ t, exec (.syncStable p) s = .next t ∧ (portOf t p.val).st = .up ∧ (portOf t
    p.val).link = true ∧ (portOf t p.val).fails = 0 ∧ AgreeBut [.ctr, .rcd, .lp] s t) ∧
  (∀ (p : Fin 128) (s : State), (portOf s p.val).st = .sync → (portOf s p.val).deadline ≤ s.now → (portOf s p.val).fromUp = false → ∃ t,
    exec (.syncTimeout p) s = .next t ∧ (portOf t p.val).st = .holdoff ∧ (portOf t p.val).lastFail = 4 ∧ (portOf t p.val).fails = min 15
    ((portOf s p.val).fails + 1) ∧ AgreeBut [.ctr, .rcd, .lp] s t) ∧
  (∀ (p : Fin 128) (s : State), (portOf s p.val).st = .sync → (portOf s p.val).deadline ≤ s.now → (portOf s p.val).fromUp = true → ∃ t,
    exec (.syncTimeout p) s = .next t ∧ (portOf t p.val).st = startState s p.val ∧ (portOf t p.val).fails = (portOf s p.val).fails ∧
    AgreeBut [.regs, .lp] s t) ∧
  (∀ (p : Fin 128) (remote : Bool) (rx : LineRx) (s : State), grpLive s (p.val / 8) = true → portExists s p.val = true → (portOf s
    p.val).st = .up → (portOf s p.val).link = true → rx.align = false ∨ remote = true → ∃ t, exec (.linkFault p remote rx false) s = .next
    t ∧ (portOf t p.val).st = .sync ∧ (portOf t p.val).link = false ∧ (portOf t p.val).fromUp = true ∧ (portOf t p.val).deadline = s.now +
    syncTimeout s (p.val / 8) ∧ (portOf t p.val).lf = (portOf t p.val).rfTx ∧ (rx.align = false → (portOf t p.val).lf = true) ∧ (portOf t
    p.val).rf = remote ∧ (portOf t p.val).fails = (portOf s p.val).fails ∧ AgreeBut [.regs, .ctr, .rcd, .lp] s t) ∧
  (∀ (p : Fin 128) (remote : Bool) (rx : LineRx) (f : TxFrame) (rest : List TxFrame) (s : State), grpLive s (p.val / 8) = true →
    portExists s p.val = true → (portOf s p.val).st = .up → (portOf s p.val).link = true → (portOf s p.val).txq = f :: rest → rx.align =
    false ∨ remote = true → ∃ t, exec (.linkFault p remote rx true) s = .next t ∧ (portOf t p.val).st = .sync ∧ (portOf t p.val).link =
    false ∧ (portOf t p.val).txq = rest ∧ AgreeBut [.regs, .ctr, .rcd, .lp, .slc, .ell] s t) ∧
  (∀ (p : Fin 128) (s : State), (portOf s p.val).st = .holdoff → (portOf s p.val).deadline ≤ s.now → ∃ t, exec (.holdoffExpire p) s =
    .next t ∧ (portOf t p.val).st = startState s p.val ∧ (portOf t p.val).fails = (portOf s p.val).fails ∧ AgreeBut [.regs, .lp] s t) ∧
  (∀ (p : Fin 128) (s : State), (portOf s p.val).st = .holdoff → grpOtn s (p.val / 8) = false → ∃ t, exec (.partnerDetect p) s = .next t ∧
    (portOf t p.val).st = startState s p.val ∧ (portOf t p.val).fails = (portOf s p.val).fails ∧ AgreeBut [.regs, .lp] s t)

/-- A write of LP_GRP_MODE takes effect where no port of the group is enabled and the arrangement is one that Table 4.2 or Table 5.1
lists, and otherwise sets MODE_REJ and changes no mode (R129, R151). More corrected symbols on the lanes of a port in a 10 ms window
than the threshold set DEG_SER, and only the tenth window below it in a row clears it (R132). A recovered clock output whose lane is
lost moves to BACKUP where that is allowed and locked, is held low otherwise, starts again on PRIMARY when that lane locks, and returns
to PRIMARY when its register is written (R148). -/
def Obligations.LineConfigurationAndClocks : Prop :=
  (∀ (slot : Fin 4) (g : Fin 16) (val : Word) (s : State), ownerMay s slot .lpGrpMode [g.val] = true → grpAnyEn s g.val = false → modeOk
    val = true → ∃ t, exec (.grpModeWrite slot g val) s = .next t ∧ t.acc = (stOk, 0) ∧ grpOtn t g.val = tbit val 31 ∧ rf t .lpGrpMode
    [g.val] 30 29 = fld val 30 29 ∧ grpStarts t g.val = fld val 7 0 ∧ AgreeBut [.acc, .regs, .lp] s t) ∧
  (∀ (slot : Fin 4) (g : Fin 16) (val : Word) (s : State), ownerMay s slot .lpGrpMode [g.val] = true → grpAnyEn s g.val = true ∨ modeOk
    val = false → ∃ t, exec (.grpModeWrite slot g val) s = .next t ∧ t.acc = (stOk, 0) ∧ rb t .lpGrpMode [g.val] 28 = true ∧ grpOtn t
    g.val = grpOtn s g.val ∧ rf t .lpGrpMode [g.val] 30 29 = rf s .lpGrpMode [g.val] 30 29 ∧ grpStarts t g.val = grpStarts s g.val ∧
    AgreeBut [.acc, .regs, .ctr, .rcd] s t) ∧
  (∀ (p : Fin 128) (lane : Fin 8) (syms : List Word) (corr : Word) (uncorr : Word) (s : State), grpLive s (p.val / 8) = true → (portOf s
    p.val).st ≠ .off → (portOf s p.val).winAt ≤ s.now → 2 ^ clamp 10 30 (rf s .lpTmrSync [p.val / 8] 20 16) < ((portLanes s p.val).map
    (fun l => (syms.getD (l % 8) 0).toNat)).sum → ∃ t, exec (.degSerWindow p lane syms corr uncorr) s = .next t ∧ (portOf t p.val).degSer
    = true ∧ (portOf t p.val).winAt = (portOf s p.val).winAt + 10000000 ∧ (portOf t p.val).st = (portOf s p.val).st ∧ AgreeBut [.ctr,
    .rcd, .lp] s t) ∧
  (∀ (p : Fin 128) (lane : Fin 8) (syms : List Word) (corr : Word) (uncorr : Word) (s : State), grpLive s (p.val / 8) = true → (portOf s
    p.val).st ≠ .off → (portOf s p.val).degSer = true → (portOf s p.val).winAt ≤ s.now → ((portLanes s p.val).map (fun l => (syms.getD (l
    % 8) 0).toNat)).sum ≤ 2 ^ clamp 10 30 (rf s .lpTmrSync [p.val / 8] 20 16) → ∃ t, exec (.degSerWindow p lane syms corr uncorr) s =
    .next t ∧ (portOf t p.val).degSer = decide ((portOf s p.val).degGood + 1 < 10) ∧ (portOf t p.val).st = (portOf s p.val).st ∧ AgreeBut
    [.ctr, .lp] s t) ∧
  (∀ (j : Fin 2) (s : State), onData s = true → synceState s j.val = 0 → rb s .lpSynceCfg [j.val] 31 = true → rb s .lpSynceCfg [j.val] 29
    = true → laneLocked s (rf s .lpSynceCfg [j.val] 22 16) = true → rf s .lpSynceCfg [j.val] 22 16 ≠ rf s .lpSynceCfg [j.val] 6 0 → ∃ t,
    exec (.synceLaneLoss j) s = .next t ∧ synceState t j.val = 1 ∧ laneLocked t (rf s .lpSynceCfg [j.val] 6 0) = false ∧ AgreeBut [.regs,
    .ctr, .rcd, .lp, .free, .slc, .ell] s t) ∧
  (∀ (j : Fin 2) (s : State), onData s = true → synceState s j.val ≠ 2 → rb s .lpSynceCfg [j.val] 31 = true → rb s .lpSynceCfg [j.val] 29
    = false ∨ synceState s j.val = 1 → ∃ t, exec (.synceLaneLoss j) s = .next t ∧ synceState t j.val = 2 ∧ AgreeBut [.regs, .ctr, .rcd,
    .lp, .free, .slc, .ell] s t) ∧
  (∀ (j : Fin 2) (s : State), onData s = true → synceState s j.val = 2 → rb s .lpSynceCfg [j.val] 31 = true → ∃ t, exec (.synceRelock j) s
    = .next t ∧ synceState t j.val = 0 ∧ AgreeBut [.regs, .ctr, .rcd] s t) ∧
  (∀ (slot : Fin 4) (j : Fin 2) (val : Word) (s : State), ownerMay s slot .lpSynceCfg [j.val] = true → laneLocked s (fld val 6 0) = true →
    ∃ t, exec (.synceCfgWrite slot j val) s = .next t ∧ t.acc = (stOk, 0) ∧ synceState t j.val = 0 ∧ rf t .lpSynceCfg [j.val] 22 0 = fld
    (val &&& 0x7F007F) 22 0 ∧ AgreeBut [.acc, .regs, .ctr, .rcd] s t)

/-- The MAC. A received frame that is cut or comes without a link, is too short, is too long, has a bad FCS or touches an uncorrectable
codeword, or is a MAC control frame, is dropped and counted once, in that order (which counter takes a frame with several reasons is the
model's choice, log entry 57), and nothing else changes; a good one is counted and split for its group's intake (R131, R133, R134). The
frame at the front of the queue leaves behind the preamble with its FCS, unchanged where PTP_EN is 0, and is counted; the gap follows
the deficit idle count (log entry 57), and blocks and codewords go to the lanes, in OTN mode none of the port's own (R130, R135, R146,
R153; the form of the code is that of IEEE 802.3, log entry 55). The owner's read of LP_TXTS_HDR answers the oldest capture, removes it
and latches its time (R147). -/
def Obligations.MacFrames : Prop :=
  (∀ (p : Fin 128) (bytes : List Byte) (fin : RxEnd) (s : State), grpLive s (p.val / 8) = true → portExists s p.val = true → loopOf s
    p.val = 0 → fin = .cutShort ∨ (portOf s p.val).link = false → exec (.macFrameRx p bytes fin) s = .next (countLp s p.val 0x28)) ∧
  (∀ (p : Fin 128) (bytes : List Byte) (fin : RxEnd) (s : State), grpLive s (p.val / 8) = true → portExists s p.val = true → loopOf s
    p.val = 0 → (portOf s p.val).link = true → fin ≠ .cutShort → bytes.length < 64 → exec (.macFrameRx p bytes fin) s = .next (countLp s
    p.val 0x18)) ∧
  (∀ (p : Fin 128) (bytes : List Byte) (fin : RxEnd) (s : State), grpLive s (p.val / 8) = true → portExists s p.val = true → loopOf s
    p.val = 0 → (portOf s p.val).link = true → fin ≠ .cutShort → 64 ≤ bytes.length → maxFrame s p.val < bytes.length → exec (.macFrameRx p
    bytes fin) s = .next (countLp s p.val 0x20)) ∧
  (∀ (p : Fin 128) (pkt : List Byte) (fcs : List Byte) (s : State), grpLive s (p.val / 8) = true → portExists s p.val = true → loopOf s
    p.val = 0 → (portOf s p.val).link = true → 60 ≤ pkt.length → fcs.length = 4 → pkt.length + 4 ≤ maxFrame s p.val → ∃ t, exec
    (.macFrameRx p (pkt ++ fcs) .whole) s = .next t ∧ fcs = fcsBytes pkt ∨ t = countLp s p.val 0x10 ∧ fcs ≠ fcsBytes pkt ∨ pkt.getD 12 0 ≠
    0x88 ∨ pkt.getD 13 0 ≠ 0x08 ∨ t = countLp s p.val 0x30 ∧ fcs ≠ fcsBytes pkt ∨ (pkt.getD 12 0 = 0x88 ∧ pkt.getD 13 0 = 0x08) ∨ t =
    macSplit (countLpN (countLp s p.val 0x00) p.val 0x08 (pkt.length + 4)) p.val pkt ∧ AgreeBut [.free, .regs, .ctr, .rcd, .lp, .slc,
    .ell] s t) ∧
  (∀ (p : Fin 128) (bytes : List Byte) (s : State), grpLive s (p.val / 8) = true → portExists s p.val = true → loopOf s p.val = 0 →
    (portOf s p.val).link = true → 64 ≤ bytes.length → bytes.length ≤ maxFrame s p.val → exec (.macFrameRx p bytes .badBlock) s = .next
    (countLp s p.val 0x10)) ∧
  (∀ (p : Fin 128) (f : TxFrame) (rest : List TxFrame) (s : State), grpLive s (p.val / 8) = true → (portOf s p.val).link = true → (portOf
    s p.val).txq = f :: rest → loopOf s p.val = 0 → rb s .lpPortCfg [p.val / 8, p.val % 8] 26 = false → ∃ t, exec (.macFrameTx p) s =
    .next t ∧ (portOf t p.val).txq = rest ∧ (portOf t p.val).sent = preamble ++ (f.head ++ f.body ++ fcsBytes (f.head ++ f.body)) ∧
    ((portOf t p.val).gap, (portOf t p.val).dic) = nextGap (portOf s p.val).dic (f.head.length + f.body.length + 4) ∧ grpOtn t (p.val / 8)
    = false → (portOf t p.val).fec = pcsSend (Config.pcsForm (portType t p.val)) (portOf s p.val).fec (portOf s p.val).turn (ethBlocks
    (portOf t p.val).sent (portOf t p.val).gap) ∧ grpOtn t (p.val / 8) = true → (portOf t p.val).fec = (portOf s p.val).fec ∧ ctrAt t
    (cOff 4 (p.val / 8 * 0x8000 + p.val % 8 * 0x400 + 0x38)) = (ctrAt s (cOff 4 (p.val / 8 * 0x8000 + p.val % 8 * 0x400 + 0x38))).add 1 ∧
    AgreeBut [.free, .ctr, .lp, .slc, .ell, .regs, .rcd] s t) ∧
  (∀ (slot : Fin 4) (p : Fin 128) (x : Nat × Nat) (rest : List (Nat × Nat)) (s : State), served s = true → isOwner s slot.val = true →
    onData s = true → availAddr s (Reg.addr .lpTxtsHdr [p.val / 8, p.val % 8]) = true → portExists s p.val = true → (portOf s p.val).txts
    = x :: rest → ∃ t, exec (.txtsHdrRead slot p) s = .next t ∧ t.acc = (stOk, mkB 31 true ||| mkB 30 (portOf s p.val).txtsOvf ||| mkF 15
    0 x.2) ∧ (portOf t p.val).txts = rest ∧ (portOf t p.val).txtsLatch = x.1 ∧ (portOf t p.val).txtsOvf = false ∧ AgreeBut [.acc, .lp] s
    t)

/-! ## OTN line framing -/

/-- The hunter of Table 5.2. A sighting at a new offset that is not barred takes a free candidate slot, and with four held it counts and
is ignored; a candidate whose word is absent after one frame period is discarded, and at the third sighting the offset is locked and the
others go; the fifth frame in a row without the word returns the instance to HUNT with the bars cleared; without multiframe alignment
for 2 ms the locked offset is barred (R155, R156). The port of the group follows the framer where it leaves frame (R164). -/
def Obligations.OtnAlignment : Prop :=
  (∀ (g : Fin 16) (i : Fin 16) (off : Fin 696320) (s : State), otnRuns s g.val = true → i.val < otnN s g.val → ((otnOf s g.val).inst.get
    {} i.val).inFrame = false → ((otnOf s g.val).inst.get {} i.val).cands.any (fun c => c.1 == off.val) = false → ((otnOf s
    g.val).inst.get {} i.val).cands.length < 4 → ((otnOf s g.val).inst.get {} i.val).bars.contains off.val = false → ∃ t, exec
    (.fasSighting g i off) s = .next t ∧ ((otnOf t g.val).inst.get {} i.val).cands = ((otnOf s g.val).inst.get {} i.val).cands ++
    [(off.val, 1, s.now)] ∧ ((otnOf t g.val).inst.get {} i.val).inFrame = false ∧ AgreeBut [.lp] s t) ∧
  (∀ (g : Fin 16) (i : Fin 16) (off : Fin 696320) (s : State), otnRuns s g.val = true → i.val < otnN s g.val → ((otnOf s g.val).inst.get
    {} i.val).inFrame = false → ((otnOf s g.val).inst.get {} i.val).cands.any (fun c => c.1 == off.val) = false → ((otnOf s
    g.val).inst.get {} i.val).cands.length = 4 → exec (.fasSighting g i off) s = .next (countOtn s g.val 0x38 1)) ∧
  (∀ (g : Fin 16) (i : Fin 16) (off : Fin 696320) (n : Nat) (k : Nat) (s : State), otnRuns s g.val = true → i.val < otnN s g.val → ((otnOf
    s g.val).inst.get {} i.val).inFrame = false → ((otnOf s g.val).inst.get {} i.val).cands.find? (fun c => c.1 == off.val) = some
    (off.val, n, k) → k + 6227 ≤ s.now → ∃ t, exec (.candidateCheck g i off false) s = .next t ∧ ((otnOf t g.val).inst.get {} i.val).cands
    = ((otnOf s g.val).inst.get {} i.val).cands.filter (fun c => c.1 != off.val) ∧ ((otnOf t g.val).inst.get {} i.val).inFrame = false ∧
    AgreeBut [.ctr, .ell, .free, .lp, .rcd, .slc] s t) ∧
  (∀ (g : Fin 16) (i : Fin 16) (off : Fin 696320) (k : Nat) (s : State), otnRuns s g.val = true → i.val < otnN s g.val → ((otnOf s
    g.val).inst.get {} i.val).inFrame = false → ((otnOf s g.val).inst.get {} i.val).cands.find? (fun c => c.1 == off.val) = some (off.val,
    2, k) → k + 6227 ≤ s.now → ∃ t, exec (.candidateCheck g i off true) s = .next t ∧ ((otnOf t g.val).inst.get {} i.val).inFrame = true ∧
    ((otnOf t g.val).inst.get {} i.val).locked = off.val ∧ ((otnOf t g.val).inst.get {} i.val).cands = [] ∧ AgreeBut [.ctr, .ell, .free,
    .lp, .rcd, .slc] s t) ∧
  (∀ (g : Fin 16) (i : Fin 16) (s : State), otnRuns s g.val = true → i.val < otnN s g.val → ((otnOf s g.val).inst.get {} i.val).inFrame =
    true → ∃ t, exec (.lockedFrameCheck g i false) s = .next t ∧ ((otnOf t g.val).inst.get {} i.val).inFrame = decide (((otnOf s
    g.val).inst.get {} i.val).miss + 1 ≠ 5) ∧ AgreeBut [.ctr, .ell, .free, .lp, .rcd, .slc] s t) ∧
  (∀ (g : Fin 16) (i : Fin 16) (s : State), otnRuns s g.val = true → i.val < otnN s g.val → ((otnOf s g.val).inst.get {} i.val).inFrame =
    true → ((otnOf s g.val).inst.get {} i.val).imOk = false → ((otnOf s g.val).inst.get {} i.val).ifAt + 2000000 ≤ s.now → ∃ t, exec
    (.mfAlignTimeout g i) s = .next t ∧ ((otnOf t g.val).inst.get {} i.val).inFrame = false ∧ ((otnOf t g.val).inst.get {}
    i.val).bars.contains ((otnOf s g.val).inst.get {} i.val).locked = true ∧ ((otnOf t g.val).inst.get {} i.val).bars.length = min 4
    (((otnOf s g.val).inst.get {} i.val).bars.length + 1) ∧ AgreeBut [.ctr, .ell, .free, .lp, .rcd, .slc] s t)

/-- The framer. A received frame leaves the BIP errors of each slice for the BEI of the next frame sent and shows whether the skew is over
the limit (R157, R159); the frame sent carries the alarms of OTN_CFG, BEI or 0b1011, STAT 0b001 or 0b111, its SM TTI byte and its group
ID, and MFAS counts up; the BIP-8 it sends is that of the slices two frames before (R160; the distance is the model's choice, log entry
58). A defect timer sets or clears its alignment defect where the condition, which still stands, has stood for its time, and changes no
defect before (R162). A second's errored blocks start again at 0 with each second (R162). A read of word 0 of a trace latches words 1 to
15 for the slot that reads (R166). -/
def Obligations.OtnOverheadAndDefects : Prop :=
  (∀ (g : Fin 16) (f : OtucFrame) (s : State), otnRuns s g.val = true → ∃ t, exec (.otucFrameRx g f) s = .next t ∧ (otnOf t g.val).smErr =
    (f.slices.take (otnN s g.val)).map (fun y => bitDiff y.smBip y.smBipRx) ∧ (otnOf t g.val).pmErr = (f.slices.take (otnN s g.val)).map
    (fun y => bitDiff y.pmBip y.pmBipRx) ∧ (otnOf t g.val).skewBig = f.skewBig ∧ (otnOf t g.val).statLast = f.stat.toNat ∧ AgreeBut
    [.regs, .ctr, .rcd, .lp, .free, .slc, .ell] s t) ∧
  (∀ (o : OtucOut) (s : State), otnRuns s o.g.val = true → ∃ t, exec (.otucFrameTx o) s = .next t ∧ (otnOf t o.g.val).txMfas = ((otnOf s
    o.g.val).txMfas + 1) % 256 ∧ (otnOf t o.g.val).tx.map (fun x => (x.idle, x.ais, x.smBdi, x.pmBdi, x.smIae)) = some (rb s .otnCfg
    [o.g.val] 31, rb s .otnCfg [o.g.val] 30, rb s .otnCfg [o.g.val] 29, rb s .otnCfg [o.g.val] 30 || rb s .otnCfg [o.g.val] 28, rb s
    .otnCfg [o.g.val] 27) ∧ (otnOf t o.g.val).tx.map (fun x => (x.mfas, x.stat)) = some ((otnOf s o.g.val).txMfas, if rb s .otnCfg
    [o.g.val] 30 then 7 else 1) ∧ (otnOf t o.g.val).tx.map (fun x => x.smBei) = some ((List.range (otnN s o.g.val)).map (fun i => if rb s
    .otnCfg [o.g.val] 26 then 11 else (otnOf s o.g.val).smErr.getD i 0)) ∧ (otnOf t o.g.val).tx.map (fun x => (x.smTti, x.gid, x.smBip)) =
    some (ttiTxByte s o.g.val false ((otnOf s o.g.val).txMfas % 64), rf s .otnGid [o.g.val] 19 0, (List.range (otnN s o.g.val)).map (fun i
    => ((otnOf s o.g.val).bips.getD 1 []).getD i 0)) ∧ (rb s .otnCfg [o.g.val] 30 = false → (otnOf t o.g.val).bips.getD 0 [] = (List.range
    (otnN s o.g.val)).map (fun i => bip8 (o.opu.getD i []))) ∧ AgreeBut [.lp] s t) ∧
  (∀ (g : Fin 16) (d : Fin 4) (set : Bool) (lanes : BitVec 8) (since : Nat) (s : State), otnRuns s g.val = true → (otnOf s
    g.val).conds.find (12 + d.val) = some (set, since) → otnBad (setOtn s g.val { otnOf s g.val with laneLock := lanes.toNat }) g.val (12
    + d.val) = set → since + defectTime (12 + d.val) set ≤ s.now → ∃ t, exec (.defectIntegrationTimer g d set lanes) s = .next t ∧ (otnOf
    t g.val).live.testBit (12 + d.val) = set ∧ AgreeBut [.regs, .ctr, .rcd, .lp, .free, .slc, .ell] s t) ∧
  (∀ (g : Fin 16) (d : Fin 4) (set : Bool) (lanes : BitVec 8) (since : Nat) (s : State), otnRuns s g.val = true → (otnOf s
    g.val).conds.find (12 + d.val) = some (set, since) → otnBad (setOtn s g.val { otnOf s g.val with laneLock := lanes.toNat }) g.val (12
    + d.val) = set → s.now < since + defectTime (12 + d.val) set → ∃ t, exec (.defectIntegrationTimer g d set lanes) s = .next t ∧ (otnOf
    t g.val).live = (otnOf s g.val).live ∧ AgreeBut [.ctr, .rcd, .lp, .free, .slc, .ell] s t) ∧
  (∀ (g : Fin 16) (s : State), otnRuns s g.val = true → (otnOf s g.val).secAt ≤ s.now → ∃ t, exec (.degSecond g) s = .next t ∧ (otnOf t
    g.val).smBlk = 0 ∧ (otnOf t g.val).pmBlk = 0 ∧ (otnOf t g.val).secAt = (otnOf s g.val).secAt + 1000000000 ∧ AgreeBut [.regs, .ctr,
    .rcd, .lp] s t) ∧
  (∀ (slot : Fin 4) (g : Fin 16) (w : Fin 16) (s : State), served s = true → grpOtn s g.val = true → availAddr s (Reg.addr .otnSmTtiRx
    [g.val, 0]) = true → 1 ≤ w.val → ∃ t, exec (.ttiRxRead slot g false) s = .next t ∧ t.acc = (stOk, ttiWord (otnOf s g.val).sm 0) ∧
    latched t slot.val (Reg.addr .otnSmTtiRx [g.val, w.val]) = ttiWord (otnOf s g.val).sm w.val ∧ (∀ j x, j ≠ slot.val → latched t j x =
    latched s j x) ∧ AgreeBut [.acc, .latch] s t) ∧
  (∀ (slot : Fin 4) (g : Fin 16) (w : Fin 16) (s : State), served s = true → grpOtn s g.val = true → availAddr s (Reg.addr .otnPmTtiRx
    [g.val, 0]) = true → 1 ≤ w.val → ∃ t, exec (.ttiRxRead slot g true) s = .next t ∧ t.acc = (stOk, ttiWord (otnOf s g.val).pm 0) ∧
    latched t slot.val (Reg.addr .otnPmTtiRx [g.val, w.val]) = ttiWord (otnOf s g.val).pm w.val ∧ (∀ j x, j ≠ slot.val → latched t j x =
    latched s j x) ∧ AgreeBut [.acc, .latch] s t)

/-! ## Slices -/

/-- The way of a head. The first head of an input goes, in a cycle that its parser has left, to the track with the fewest heads, takes the
next INSEQ and a journal entry (R182, R183, R188); a replayed head goes first and keeps its place (R195). A flight whose turn it is
passes to the next stage (R170, R179). At stage 23 exit a head with DROP goes nowhere and its entry is retired, and a head with neither
DROP nor PUNT enters the output queue (R180, R181, R189). The merge passes over a skip marker, and a head in order leaves for the Ell
when there is room (R184). -/
def Obligations.HeadPath : Prop :=
  (∀ (inp : Fin 32) (h : Head) (rest : List Head) (n : Nat) (s : State), h.inp = inp.val → inp.val < 16 ∨ h.tkt.isSome = true → dealBlock
    s (dealOwner s inp.val) (dirOf inp.val) = none → jFree (sliceOf s (dealOwner s inp.val)) (dirOf inp.val) = some n → nextReplay
    (sliceOf s (dealOwner s inp.val)) inp.val = none → waiting s inp.val = h :: rest → cycleFree s (dealOwner s inp.val) (bestTrack s
    (dealOwner s inp.val) (dirOf inp.val)) = true → ∃ t, exec (.headDeal inp) s = .next t ∧ waiting t inp.val = rest ∧ t.slc.inseq.get 0
    inp.val = (s.slc.inseq.get 0 inp.val + 1) % 65536 ∧ ((jrnlOf (sliceOf t (dealOwner s inp.val)) (dirOf inp.val)).find n).map (fun e =>
    (e.head, e.seq, e.punted)) = some (h, s.slc.inseq.get 0 inp.val, false) ∧ (trackOf t (dealOwner s inp.val) (bestTrack s (dealOwner s
    inp.val) (dirOf inp.val))).flights.length = (trackOf s (dealOwner s inp.val) (bestTrack s (dealOwner s inp.val) (dirOf
    inp.val))).flights.length + 1 ∧ AgreeBut [.regs, .ctr, .rcd, .slc] s t) ∧
  (∀ (inp : Fin 32) (r : Nat × Nat × JEntry) (n : Nat) (f : Nat) (a : Nat) (b : Nat) (s : State), r.2.2.head.inp = inp.val → inp.val < 16
    ∨ (waiting s inp.val).all (fun h => h.tkt.isSome) = true → dealBlock s (dealOwner s inp.val) (dirOf inp.val) = none → jFree (sliceOf s
    (dealOwner s inp.val)) (dirOf inp.val) = some n → nextReplay (sliceOf s (dealOwner s inp.val)) inp.val = some r → (sliceOf s
    (dealOwner s inp.val)).replaying = some (f, a, b) → dealOwner s inp.val ≠ f → cycleFree s (dealOwner s inp.val) (bestTrack s
    (dealOwner s inp.val) (dirOf inp.val)) = true → ∃ t, exec (.headDeal inp) s = .next t ∧ ((jrnlOf (sliceOf t (dealOwner s inp.val))
    (dirOf inp.val)).find n).map (fun e => (e.head, e.seq, e.punted)) = some (r.2.2.head, r.2.2.seq, false) ∧ (sliceOf t (dealOwner s
    inp.val)).replay = (sliceOf s (dealOwner s inp.val)).replay.erase r ∧ (jrnlOf (sliceOf t f) r.1).find r.2.1 = none ∧ t.slc.inseq =
    s.slc.inseq ∧ AgreeBut [.regs, .ctr, .rcd, .slc] s t) ∧
  (∀ (sl : Fin 9) (tk : Fin 6) (k : Fin 1280) (f : Flight) (s : State), sliceLive s sl.val = true → (trackOf s sl.val
    tk.val).flights[k.val]? = some f → f.token = false → f.stage < 24 → f.readyAt ≤ s.now → stageTurn s sl.val tk.val f = true → ∃ t, exec
    (.headStage sl tk k) s = .next t ∧ ((trackOf t sl.val tk.val).flights[k.val]?).map (fun g => (g.stage, g.readyAt, g.exitAt)) = some
    (f.stage + 1, f.readyAt + 30, f.exitAt) ∧ (trackOf t sl.val tk.val).outq = (trackOf s sl.val tk.val).outq ∧ AgreeBut [.ctr, .flt,
    .rcd, .tbl, .lrn, .tcm, .slc] s t) ∧
  (∀ (sl : Fin 9) (tk : Fin 6) (f : Flight) (s : State), sliceLive s sl.val = true → (trackOf s sl.val tk.val).flights.find? (fun g =>
    decide (24 ≤ g.stage) && decide (g.exitAt ≤ s.now)) = some f → f.token = false → tbit (vget f.vec 117) 31 = true → (sliceOf s
    sl.val).tokWait.find? (fun w => w.1 == tk.val) = none → ∃ t, exec (.headStage23Exit sl tk) s = .next t ∧ (trackOf t sl.val
    tk.val).flights = (trackOf s sl.val tk.val).flights.erase f ∧ (jrnlOf (sliceOf t f.jsl) (dirOf f.head.inp)).find f.slot = none ∧
    AgreeBut [.ctr, .slc, .ell] s t) ∧
  (∀ (sl : Fin 9) (tk : Fin 6) (f : Flight) (s : State), sliceLive s sl.val = true → (trackOf s sl.val tk.val).flights.find? (fun g =>
    decide (24 ≤ g.stage) && decide (g.exitAt ≤ s.now)) = some f → f.token = false → tbit (vget f.vec 117) 31 = false → tbit (vget f.vec
    117) 30 = false → deparseOk f.head (deparse (progOf s sl.val) f.vec f.head f.parsed) = true → (sliceOf s sl.val).tokWait.find? (fun w
    => w.1 == tk.val) = none → ∃ t, exec (.headStage23Exit sl tk) s = .next t ∧ (trackOf t sl.val tk.val).flights = (trackOf s sl.val
    tk.val).flights.erase f ∧ (trackOf t sl.val tk.val).outq.length = (trackOf s sl.val tk.val).outq.length + 1 ∧ AgreeBut [.free, .ctr,
    .rcd, .slc, .xe, .ell, .bpm] s t) ∧
  (∀ (sl : Fin 9) (inp : Fin 32) (tk : Nat) (n : Nat) (s : State), sliceLive s sl.val = true → (sliceOf s sl.val).hold.get [] inp.val = []
    → mergeNext s sl.val inp.val = some (tk, .skip inp.val n) → ∃ t, exec (.mergeRelease sl inp) s = .next t ∧ (trackOf t sl.val tk).outq
    = (trackOf s sl.val tk).outq.erase (.skip inp.val n) ∧ (sliceOf t sl.val).order.get [] inp.val = ((sliceOf s sl.val).order.get []
    inp.val).drop 1 ∧ AgreeBut [.slc] s t) ∧
  (∀ (sl : Fin 9) (inp : Fin 32) (tk : Nat) (n : Nat) (h : OutHead) (s : State), sliceLive s sl.val = true → (sliceOf s sl.val).hold.get
    [] inp.val = [] → barrierFor s sl.val inp.val = false → mergeNext s sl.val inp.val = some (tk, .head (some n) h) → h.inp < 16 →
    emitRoom s h = true → ∃ t, exec (.mergeRelease sl inp) s = .next t ∧ (trackOf t sl.val tk).outq = (trackOf s sl.val tk).outq.erase
    (.head (some n) h) ∧ (bundleOf t (bundleOfTicket h.tkt)).segq = (bundleOf s (bundleOfTicket h.tkt)).segq ++ [.head (bundleOfTicket
    h.tkt) h.tkt h.bytes h.tag] ∧ AgreeBut [.slc, .ell] s t)

/-- The head that the punt port holds goes to its class queue when there is room (R186, R266). The first returned head enters its stage,
with a slot of the output queue free, when the lane is empty or has been forced empty, with no place in the order of its input (R185,
R187); after RET_FORCE cycles a lane is forced, by a cycle that the parser takes no head in. An admission report retires its journal
entry (R189). -/
def Obligations.PuntAndReturn : Prop :=
  (∀ (sl : Fin 9) (p : Punt) (rest : List Punt) (s : State), (sliceOf s sl.val).punt = p :: rest → onData s = true → rb s .xeClassA
    [p.cls] 31 = true → p.punts ≤ xeMaxPunts s → (xeClassOf s p.cls).q.length < xeQmax s p.cls → ∃ t, exec (.puntPortRelease sl) s = .next
    t ∧ (sliceOf t sl.val).punt = rest ∧ (xeClassOf t p.cls).q.map (fun x => x.p) = (xeClassOf s p.cls).q.map (fun x => x.p) ++ [p] ∧
    AgreeBut [.slc, .xe] s t) ∧
  (∀ (sl : Fin 9) (eg : Bool) (r : Returned) (rest : List Returned) (s : State), sliceLive s sl.val = true → (sliceOf s sl.val).retq.get
    [] eg.toNat = r :: rest → trackLoad (trackOf s sl.val (bestTrack s sl.val eg.toNat)) < 2048 → (r.forced.any (fun a => decide (a ≤
    s.now)) || laneEmpty s sl.val (bestTrack s sl.val eg.toNat) r.stage) = true → ∃ t, exec (.returnEntry sl eg) s = .next t ∧ (sliceOf t
    sl.val).retq.get [] eg.toNat = rest ∧ (trackOf t sl.val (bestTrack s sl.val eg.toNat)).flights.map (fun f => (f.seq, f.stage)) =
    (trackOf s sl.val (bestTrack s sl.val eg.toNat)).flights.map (fun f => (f.seq, f.stage)) ++ [(none, r.stage)] ∧ AgreeBut [.ctr, .slc]
    s t) ∧
  (∀ (sl : Fin 9) (eg : Bool) (r : Returned) (rest : List Returned) (s : State), sliceLive s sl.val = true → (sliceOf s sl.val).retq.get
    [] eg.toNat = r :: rest → r.forced = none → r.since + retForceNs s sl.val ≤ s.now → cycleFree s sl.val (bestTrack s sl.val eg.toNat) =
    true → ∃ t, exec (.returnForce sl eg) s = .next t ∧ ((sliceOf t sl.val).retq.get [] eg.toNat).map (fun x => (x.stage, x.forced)) =
    (r.stage, some (s.now + 80 + 30 * r.stage)) :: rest.map (fun x => (x.stage, x.forced)) ∧ (trackOf t sl.val (bestTrack s sl.val
    eg.toNat)).returns = (trackOf s sl.val (bestTrack s sl.val eg.toNat)).returns + 1 ∧ AgreeBut [.slc] s t) ∧
  (∀ (a : Nat) (b : Nat) (j : Nat) (rest : List (Nat × Nat × Nat)) (s : State), onData s = true → s.slc.reports = (a, b, j) :: rest → ∃ t,
    exec (.admitReportRx) s = .next t ∧ t.slc.reports = rest ∧ (sliceOf t a).jIn.find j = none ∧ (sliceOf t a).jEg = (sliceOf s a).jEg ∧
    AgreeBut [.slc, .xe] s t)

/-- A fence of an ACTIVE slice makes it FENCED with its journal as it was and nothing inside it (R191). A fence echo comes after every
report sent before it. The failover value is staged and sealed alone once an eligible spare stands and no set is pending (R194). When
every entry has been replayed the replay is over (R195). A failed journal domain is empty and shows JRNL_OK 0 (R190). -/
def Obligations.SliceFailover : Prop :=
  (∀ (sl : Fin 9) (loc : Bool) (s : State), sliceLive s sl.val = true → (sliceOf s sl.val).st = .active → s.upd.applying = false →
    s.upd.falling = false → ∃ t, exec (.sliceFence sl loc) s = .next t ∧ (sliceOf t sl.val).st = .fenced ∧ (sliceOf t sl.val).tracks = {}
    ∧ (sliceOf t sl.val).jIn = (sliceOf s sl.val).jIn ∧ (sliceOf t sl.val).jEg = (sliceOf s sl.val).jEg ∧ isFenced t 6 sl.val = true ∧
    AgreeBut [.regs, .ctr, .fur, .flt, .rcd, .pmc, .tgt, .chain, .pwr, .lp, .tbl, .lrn, .tcm, .slc, .xe, .ell, .bpm, .hbm, .sch, .fab,
    .img, .upd] s t) ∧
  (∀ (i : Nat) (rest : List Nat) (s : State), onData s = true → s.slc.echoes = i :: rest → ∃ t, exec (.fenceEchoRx) s = .next t ∧
    t.slc.echoes = rest ∧ t.slc.reports = [] ∧ AgreeBut [.slc, .xe] s t) ∧
  (∀ (s : State), onData s = true → s.upd.paused = false → s.slc.fail.st = .loading → eligible s s.slc.fail.spare = true → s.fur.armed =
    false → s.fur.sealing = none → s.fur.pend = false → ∃ t, exec (.failoverStage) s = .next t ∧ t.slc.fail.st = .staged ∧
    t.slc.fail.spare = s.slc.fail.spare ∧ t.fur.sealing = some none ∧ t.fur.sld = SMap.put {} (Reg.addr .imgSteer []) (some (setFld
    (regRaw s .imgSteer []) (4 * s.slc.fail.pair + 3) (4 * s.slc.fail.pair) s.slc.fail.spare)) ∧ t.fur.opn = s.fur.opn ∧ AgreeBut [.ctr,
    .fur, .rcd, .slc] s t) ∧
  (∀ (sl : Fin 9) (f : Nat) (a : Nat) (b : Nat) (s : State), onData s = true → (sliceOf s sl.val).replaying = some (f, a, b) → (sliceOf s
    sl.val).replay = [] → (sliceOf s f).fencing = 0 → ∃ t, exec (.replayComplete sl) s = .next t ∧ (sliceOf t sl.val).replaying = none ∧
    (sliceOf t sl.val).st = (sliceOf s sl.val).st ∧ AgreeBut [.ctr, .rcd, .slc] s t) ∧
  (∀ (sl : Fin 9) (s : State), onData s = true → domOn s (27 + sl.val) = true → (sliceOf s sl.val).jOk = true → s.upd.applying = false →
    s.upd.falling = false → ∃ t, exec (.jrnlDomainFail sl) s = .next t ∧ (sliceOf t sl.val).jOk = false ∧ (sliceOf t sl.val).jIn = {} ∧
    (sliceOf t sl.val).jEg = {} ∧ AgreeBut [.regs, .ctr, .fur, .flt, .rcd, .pmc, .tgt, .chain, .pwr, .lp, .tbl, .lrn, .tcm, .slc, .xe,
    .ell, .bpm, .hbm, .sch, .fab, .img, .upd] s t)

/-! ## Shared tables -/

/-- The command queue. A write request of one descriptor of eight words joins the queue, and words left over at its end are discarded
(R218). The descriptor at the head of the queue is carried out: an INSERT of an absent route with units to spare stores its next hop,
one of a present route or exact key leaves EXISTS in the failure FIFO (R207, R213, R219); UPSERT replaces, DELETE removes, WRITE writes
the entry at INDEX (R211), READ answers in the readback (R219), and a SIG_CHECK that differs leaves SIG_MISMATCH (R222). A record leaves
the failure FIFO with an owner's read (R219), rows are free 2 µs after the directory switch (R208), and the sweep raises the fault of a
segment that differs (R223). -/
def Obligations.TableCommands : Prop :=
  (∀ (slot : Fin 4) (words : List Word) (s : State), ownerMay s slot .tblCmdWin [] = true → words.length = 8 → s.tbl.win = [] →
    s.tbl.queue.length < 4096 → ∃ t, exec (.tblCmdWinWrite slot words) s = .next t ∧ t.acc = (stOk, 0) ∧ t.tbl.queue = s.tbl.queue ++
    [words] ∧ t.tbl.win = [] ∧ AgreeBut [.acc, .tbl] s t) ∧
  (∀ (slot : Fin 4) (words : List Word) (s : State), ownerMay s slot .tblCmdWin [] = true → 1 ≤ words.length → words.length < 8 →
    s.tbl.win = [] → ∃ t, exec (.tblCmdWinWrite slot words) s = .next t ∧ t.acc = (stOk, 0) ∧ t.tbl = s.tbl ∧ t.ctr = (count s 7 0x10).ctr
    ∧ AgreeBut [.acc, .ctr, .tbl] s t) ∧
  (∀ (d : List Word) (rest : List (List Word)) (s : State), s.tbl.queue = d :: rest → blkOn s 7 = true → dOp d = 0 → (dw d 0 &&&
    0x00FF0000) = 0 → (d.drop 1).all (fun w => decide (w = 0)) = true → exec (.tblNop) s = .next (count (modTbl s (fun x =>
    { x with queue := rest })) 7 0x00)) ∧
  (∀ (d : List Word) (rest : List (List Word)) (s : State), s.tbl.queue = d :: rest → blkOn s 7 = true → dOp d = 1 → dTid d = 0 → (dw d 0
    &&& 0x007F0000) = 0 → tblBound s 0 (dView d) = true → (dw d 1 &&& 0xF000FE00) = 0 → fld (dw d 1) 8 8 = 0 → fld (dw d 1) 7 0 ≤ 32 → dw
    d 3 = 0 → dw d 4 = 0 → dw d 5 = 0 → dw d 6 = 0 → (dw d 7).toNat < 2 ^ 20 → s.tbl.routes.find (routeKey (dView d) (fld (dw d 1) 27 16)
    0 (fld (dw d 1) 7 0) (maskAddr 0 (fld (dw d 1) 7 0) (dw d 2).toNat)) = none → routeUnits s + 1 ≤ unitsBound s → ∃ t, exec (.tblInsert)
    s = .next t ∧ t.tbl.queue = rest ∧ t.tbl.routes.find (routeKey (dView d) (fld (dw d 1) 27 16) 0 (fld (dw d 1) 7 0) (maskAddr 0 (fld
    (dw d 1) 7 0) (dw d 2).toNat)) = some (dw d 7).toNat ∧ t.tbl.fails = s.tbl.fails ∧ AgreeBut [.ctr, .tbl] s t) ∧
  (∀ (d : List Word) (rest : List (List Word)) (p : EmPlace) (s : State), s.tbl.queue = d :: rest → blkOn s 7 = true → dOp d = 1 → 1 ≤
    dTid d → dTid d ≤ 4 → (dw d 0 &&& 0x007F0000) = 0 → tblBound s (dTid d) (dView d) = true → dw d 1 = 0 → dKey d < 2 ^ s.tbl.keyBits.get
    0 (dTid d - 1) → dData d < 2 ^ ((if emWide s (dTid d - 1) then 128 else 64) - s.tbl.keyBits.get 0 (dTid d - 1)) → emFind s (dTid d -
    1) (dView d) (dKey d) = some p → s.tbl.fails.length < 1024 → ∃ t, exec (.tblInsert) s = .next t ∧ t.tbl.queue = rest ∧ t.tbl.em =
    s.tbl.em ∧ t.tbl.ovf = s.tbl.ovf ∧ t.tbl.fails = s.tbl.fails ++ [mkF 31 28 1 ||| mkF 27 24 (dTid d) ||| mkF 23 16 1 ||| mkF 15 0 (fld
    (dw d 0) 15 0)] ∧ AgreeBut [.ctr, .tbl] s t) ∧
  (∀ (d : List Word) (rest : List (List Word)) (old : Nat) (s : State), s.tbl.queue = d :: rest → blkOn s 7 = true → dOp d = 2 → dTid d =
    0 → (dw d 0 &&& 0x007F0000) = 0 → tblBound s 0 (dView d) = true → (dw d 1 &&& 0xF000FE00) = 0 → fld (dw d 1) 8 8 = 1 → fld (dw d 1) 7
    0 ≤ 128 → dw d 6 = 0 → (dw d 7).toNat < 2 ^ 20 → s.tbl.routes.find (routeKey (dView d) (fld (dw d 1) 27 16) 1 (fld (dw d 1) 7 0)
    (maskAddr 1 (fld (dw d 1) 7 0) (dKey d))) = some old → ∃ t, exec (.tblUpsert) s = .next t ∧ t.tbl.queue = rest ∧ t.tbl.routes.find
    (routeKey (dView d) (fld (dw d 1) 27 16) 1 (fld (dw d 1) 7 0) (maskAddr 1 (fld (dw d 1) 7 0) (dKey d))) = some (dw d 7).toNat ∧
    AgreeBut [.ctr, .tbl] s t) ∧
  (∀ (d : List Word) (rest : List (List Word)) (old : Nat) (s : State), s.tbl.queue = d :: rest → blkOn s 7 = true → dOp d = 3 → dTid d =
    0 → (dw d 0 &&& 0x007F0000) = 0 → tblBound s 0 (dView d) = true → (dw d 1 &&& 0xF000FE00) = 0 → fld (dw d 1) 8 8 = 1 → fld (dw d 1) 7
    0 ≤ 128 → dw d 6 = 0 → dw d 7 = 0 → s.tbl.routes.find (routeKey (dView d) (fld (dw d 1) 27 16) 1 (fld (dw d 1) 7 0) (maskAddr 1 (fld
    (dw d 1) 7 0) (dKey d))) = some old → ∃ t, exec (.tblDelete) s = .next t ∧ t.tbl.queue = rest ∧ t.tbl.routes.find (routeKey (dView d)
    (fld (dw d 1) 27 16) 1 (fld (dw d 1) 7 0) (maskAddr 1 (fld (dw d 1) 7 0) (dKey d))) = none ∧ AgreeBut [.ctr, .tbl] s t) ∧
  (∀ (d : List Word) (rest : List (List Word)) (s : State), s.tbl.queue = d :: rest → blkOn s 7 = true → dOp d = 4 → 5 ≤ dTid d → dTid d ≤
    7 → (dw d 0 &&& 0x007F0000) = 0 → tblBound s (dTid d) (dView d) = true → (dw d 1).toNat < idxBound s (dTid d) → (dw d 1).toNat < 2 ^
    20 → dKey d = 0 → idxEntryOk s (dTid d) (dData d) = true → ∃ t, exec (.tblWrite) s = .next t ∧ t.tbl.queue = rest ∧ (if dTid d = 5
    then t.tbl.nh else if dTid d = 6 then t.tbl.grp else t.tbl.mem).get 0 (dView d * 2 ^ 20 + (dw d 1).toNat) = dData d ∧ t.tbl.routes =
    s.tbl.routes ∧ AgreeBut [.ctr, .tbl] s t) ∧
  (∀ (d : List Word) (rest : List (List Word)) (nh : Nat) (s : State), s.tbl.queue = d :: rest → blkOn s 7 = true → dOp d = 5 → dTid d = 0
    → (dw d 0 &&& 0x007F0000) = 0 → tblBound s 0 (dView d) = true → (dw d 1 &&& 0xF000FE00) = 0 → fld (dw d 1) 8 8 = 1 → fld (dw d 1) 7 0
    ≤ 128 → dw d 6 = 0 → dw d 7 = 0 → s.tbl.routes.find (routeKey (dView d) (fld (dw d 1) 27 16) 1 (fld (dw d 1) 7 0) (maskAddr 1 (fld (dw
    d 1) 7 0) (dKey d))) = some nh → (s.tbl.bad.keys.find? (fun row => elemBad s row (routeKey (dView d) (fld (dw d 1) 27 16) 1 (fld (dw d
    1) 7 0) (maskAddr 1 (fld (dw d 1) 7 0) (dKey d))))) = none → ∃ t, exec (.tblRead) s = .next t ∧ t.tbl.queue = rest ∧ t.tbl.readback =
    [setBit (setBit (dw d 0) 21 true) 20 false] ++ (d.drop 1).take 5 ++ [hi32 nh, lo32 nh] ∧ t.tbl.routes = s.tbl.routes ∧ AgreeBut [.ctr,
    .tbl] s t) ∧
  (∀ (d : List Word) (rest : List (List Word)) (s : State), s.tbl.queue = d :: rest → blkOn s 7 = true → dOp d = 6 → dTid d < 8 → (dw d 0
    &&& 0x007F0000) = 0 → tblBound s (dTid d) (dView d) = true → (dw d 1 &&& 0xFFFFFF00) = 0 → dKey d = 0 → dw d 6 = 0 → sigOf s (dView d)
    (dTid d) (fld (dw d 1) 7 0) ≠ (dw d 7).toNat → s.tbl.fails.length < 1024 → ∃ t, exec (.tblSigCheck) s = .next t ∧ t.tbl.queue = rest ∧
    t.tbl.fails = s.tbl.fails ++ [mkF 31 28 6 ||| mkF 27 24 (dTid d) ||| mkF 23 16 6 ||| mkF 15 0 (fld (dw d 0) 15 0)] ∧ t.tbl.sig =
    s.tbl.sig ∧ AgreeBut [.ctr, .rcd, .tbl] s t) ∧
  (∀ (slot : Fin 4) (w : Word) (rest : List Word) (s : State), served s = true → isOwner s slot.val = true → onData s = true → availAddr s
    (Reg.addr .tblFailFifo []) = true → s.tbl.fails = w :: rest → ∃ t, exec (.tblFailFifoRead slot) s = .next t ∧ t.acc = (stOk, w) ∧
    t.tbl.fails = rest ∧ AgreeBut [.acc, .tbl] s t) ∧
  (∀ (k : Nat) (rest : List Nat) (s : State), s.tbl.rowFree = k :: rest → k ≤ s.now → exec (.routeRowFree) s = .next (modTbl s (fun x =>
    { x with rowFree := rest }))) ∧
  (∀ (tid : Fin 8) (view : Bool) (seg : Fin 256) (s : State), blkOn s 7 = true → tblBound s tid.val view.toNat = true → sigComputed s
    tid.val view.toNat seg.val ≠ sigOf s view.toNat tid.val seg.val → exec (.sigSweep tid view seg) s = .next (faultRise s 7 2 tid.val
    (lo32 (view.toNat * 256 + seg.val)) 0))

/-- A GO starts an idle table's rehash at way 0 with the cursor at 0 and the seed of TBL_EM_SEED (R215); one while another table rehashes
is answered busy (R217). ABORT runs it back (R216). A step over a bucket with nothing left under the old seed moves the cursor on, and
the step over the last bucket of way 1 ends the rehash with the new seed in use in both ways (R215). -/
def Obligations.TableRehash : Prop :=
  (∀ (slot : Fin 4) (n : Fin 4) (s : State), ownerMay s slot .tblEmRehash [n.val] = true → rehashBusy s n.val = false → (rehashOf s
    n.val).st = .idle → emBuckets s n.val ≠ 0 → ∃ t, exec (.emRehashGo slot n) s = .next t ∧ t.acc = (stOk, 0) ∧ rehashOf t n.val =
    { st := .way0, way := 0, cursor := 0, newSeed := rf s .tblEmSeed [n.val] 31 0, nextAt := s.now + 50, back := false } ∧ AgreeBut [.acc,
    .tbl] s t) ∧
  (∀ (slot : Fin 4) (n : Fin 4) (s : State), ownerMay s slot .tblEmRehash [n.val] = true → rehashBusy s n.val = true → ∃ t, exec
    (.emRehashGo slot n) s = .next t ∧ t.acc = (stBusy, 0) ∧ AgreeBut [.acc] s t) ∧
  (∀ (slot : Fin 4) (n : Fin 4) (s : State), ownerMay s slot .tblEmRehash [n.val] = true → (rehashOf s n.val).st ≠ .idle → ∃ t, exec
    (.emRehashAbort slot n) s = .next t ∧ t.acc = (stOk, 0) ∧ (rehashOf t n.val).st = .aborting ∧ (rehashOf t n.val).cursor = (rehashOf s
    n.val).cursor ∧ AgreeBut [.acc, .tbl] s t) ∧
  (∀ (n : Fin 4) (s : State), blkOn s 7 = true → (rehashOf s n.val).st = .way0 → (rehashOf s n.val).nextAt ≤ s.now → (rehashOf s
    n.val).cursor + 1 < emBuckets s n.val → oldSlots s n.val 0 (rehashOf s n.val).way (rehashOf s n.val).cursor = [] → oldSlots s n.val 1
    (rehashOf s n.val).way (rehashOf s n.val).cursor = [] → ∃ t, exec (.rehashCursorStep n) s = .next t ∧ (rehashOf t n.val).st = .way0 ∧
    (rehashOf t n.val).cursor = (rehashOf s n.val).cursor + 1 ∧ t.tbl.em = s.tbl.em ∧ t.tbl.ovf = s.tbl.ovf ∧ AgreeBut [.tbl] s t) ∧
  (∀ (n : Fin 4) (s : State), blkOn s 7 = true → (rehashOf s n.val).st = .way1 → (rehashOf s n.val).way = 1 → (rehashOf s n.val).nextAt ≤
    s.now → emBuckets s n.val ≤ (rehashOf s n.val).cursor + 1 → oldSlots s n.val 0 1 (rehashOf s n.val).cursor = [] → oldSlots s n.val 1 1
    (rehashOf s n.val).cursor = [] → ∃ t, exec (.rehashCursorStep n) s = .next t ∧ (rehashOf t n.val).st = .idle ∧ seedOf t n.val 0 =
    (rehashOf s n.val).newSeed ∧ seedOf t n.val 1 = (rehashOf s n.val).newSeed ∧ t.tbl.ovf = s.tbl.ovf ∧ AgreeBut [.ctr, .rcd, .tbl] s t)

/-- The learn engine inserts an absent key with HIT, moves a dynamic entry that is not held and starts its hold-down, and leaves a held
one (R227, R228). INSERT_STATIC, INSERT_DYNAMIC, DELETE, READ_KEY and READ_INDEX leave their outcome in LRN_HRESULT, and a flush removes
the dynamic entries it names, with overflow entries moving into freed slots, and reports when it is done (R230, R213). An owner's read
takes one word of the oldest notification (R231). The scanner moves on past the slot it visits, and clears HIT and AGE of a dynamic
entry with HIT in an aging pass (R232). A copy starts between slices that may take it, then shadows, with the pair and the generation of
its source in its destination, and STOP ends the shadowing (R235). What stands in a learn queue behind the request taken is as lrnPop
leaves it: a shadowed change may join its end. -/
def Obligations.LearningEngine : Prop :=
  (∀ (sl : Fin 9) (key : Nat) (loc : Nat) (ns : Nat) (frac : Nat) (rest : List LrnItem) (i : Nat) (s : State), (lrnOf s sl.val).queue =
    .learn key loc ns frac :: rest → lrnLive s sl.val = true → lrnFind (lrnOf s sl.val) key = none → lrnPlace (lrnOf s sl.val) key = some
    i → ∃ t, exec (.learnApply sl) s = .next t ∧ ((lrnOf t sl.val).ents.find i).map (fun e => (e.key, e.loc, e.hit, e.stat)) = some (key,
    loc, true, false) ∧ ((lrnOf t sl.val).ents.find i).map (fun e => (e.age, e.moved, e.gen)) = some (0, false, (lrnOf s sl.val).gen) ∧
    AgreeBut [.regs, .ctr, .rcd, .lrn] s t) ∧
  (∀ (sl : Fin 9) (key : Nat) (loc : Nat) (ns : Nat) (frac : Nat) (rest : List LrnItem) (i : Nat) (e : LrnEntry) (s : State), (lrnOf s
    sl.val).queue = .learn key loc ns frac :: rest → lrnLive s sl.val = true → lrnFind (lrnOf s sl.val) key = some i → (lrnOf s
    sl.val).ents.find i = some e → e.loc ≠ loc → e.stat = false → held s sl.val e ns = false → ∃ t, exec (.learnApply sl) s = .next t ∧
    ((lrnOf t sl.val).ents.find i).map (fun e => (e.loc, e.hit, e.age, e.moved, e.moveT)) = some (loc, true, 0, true, tsSteps ns) ∧
    AgreeBut [.regs, .ctr, .rcd, .lrn] s t) ∧
  (∀ (sl : Fin 9) (key : Nat) (loc : Nat) (ns : Nat) (frac : Nat) (rest : List LrnItem) (i : Nat) (e : LrnEntry) (s : State), (lrnOf s
    sl.val).queue = .learn key loc ns frac :: rest → lrnLive s sl.val = true → lrnFind (lrnOf s sl.val) key = some i → (lrnOf s
    sl.val).ents.find i = some e → e.loc ≠ loc → held s sl.val e ns = true → ∃ t, exec (.learnApply sl) s = .next t ∧ (lrnOf t
    sl.val).ents = (lrnOf s sl.val).ents ∧ (lrnOf t sl.val).queue = (lrnOf (lrnPop s sl.val) sl.val).queue ∧ AgreeBut [.regs, .ctr, .rcd,
    .lrn] s t) ∧
  (∀ (sl : Fin 9) (idx : Nat) (key : Nat) (loc : Nat) (rest : List LrnItem) (i : Nat) (s : State), (lrnOf s sl.val).queue = .host 1 idx
    key loc :: rest → lrnLive s sl.val = true → lrnFind (lrnOf s sl.val) key = some i → ∃ t, exec (.lrnInsertStatic sl) s = .next t ∧
    ((lrnOf t sl.val).ents.find i).map (fun e => (e.key, e.loc, e.stat, e.gen)) = some (key, loc, true, (lrnOf s sl.val).gen) ∧ regRaw t
    .lrnHresult [sl.val] = 0x80000000 ∧ AgreeBut [.regs, .lrn] s t) ∧
  (∀ (sl : Fin 9) (idx : Nat) (key : Nat) (loc : Nat) (rest : List LrnItem) (i : Nat) (s : State), (lrnOf s sl.val).queue = .host 2 idx
    key loc :: rest → lrnLive s sl.val = true → lrnFind (lrnOf s sl.val) key = none → lrnPlace (lrnOf s sl.val) key = some i → ∃ t, exec
    (.lrnInsertDynamic sl) s = .next t ∧ ((lrnOf t sl.val).ents.find i).map (fun e => (e.key, e.loc, e.stat, e.hit)) = some (key, loc,
    false, true) ∧ regRaw t .lrnHresult [sl.val] = 0x80000000 ∧ AgreeBut [.regs, .ctr, .rcd, .lrn] s t) ∧
  (∀ (sl : Fin 9) (idx : Nat) (key : Nat) (loc : Nat) (rest : List LrnItem) (i : Nat) (s : State), (lrnOf s sl.val).queue = .host 3 idx
    key loc :: rest → lrnLive s sl.val = true → lrnFind (lrnOf s sl.val) key = some i → lrnOvfBase ≤ i → ∃ t, exec (.lrnDelete sl) s =
    .next t ∧ (lrnOf t sl.val).ents.find i = none ∧ regRaw t .lrnHresult [sl.val] = 0x80000000 ∧ AgreeBut [.regs, .lrn] s t) ∧
  (∀ (sl : Fin 9) (idx : Nat) (key : Nat) (loc : Nat) (rest : List LrnItem) (s : State), (lrnOf s sl.val).queue = .host 3 idx key loc ::
    rest → lrnLive s sl.val = true → lrnFind (lrnOf s sl.val) key = none → ∃ t, exec (.lrnDelete sl) s = .next t ∧ (lrnOf t sl.val).ents =
    (lrnOf s sl.val).ents ∧ regRaw t .lrnHresult [sl.val] = 0x90000000 ∧ AgreeBut [.regs, .lrn] s t) ∧
  (∀ (sl : Fin 9) (idx : Nat) (key : Nat) (loc : Nat) (rest : List LrnItem) (i : Nat) (e : LrnEntry) (s : State), (lrnOf s sl.val).queue =
    .host 4 idx key loc :: rest → lrnLive s sl.val = true → lrnFind (lrnOf s sl.val) key = some i → (lrnOf s sl.val).ents.find i = some e
    → ∃ t, exec (.lrnReadKey sl) s = .next t ∧ (lrnOf t sl.val).ents = (lrnOf s sl.val).ents ∧ regRaw t .lrnHresult [sl.val] = (0x88000000
    ||| mkB 26 e.stat ||| mkB 25 e.hit ||| mkF 24 23 e.age ||| mkB 22 e.moved ||| mkF 15 0 e.loc) ∧ AgreeBut [.regs, .lrn] s t) ∧
  (∀ (sl : Fin 9) (idx : Nat) (key : Nat) (loc : Nat) (rest : List LrnItem) (e : LrnEntry) (s : State), (lrnOf s sl.val).queue = .host 5
    idx key loc :: rest → lrnLive s sl.val = true → idx < 264192 → (lrnOf s sl.val).ents.find idx = some e → ∃ t, exec (.lrnReadIndex sl)
    s = .next t ∧ (lrnOf t sl.val).ents = (lrnOf s sl.val).ents ∧ regRaw t .lrnHkeyHi [sl.val] = lo32 (e.key / 2 ^ 32) ∧ regRaw t
    .lrnHkeyLo [sl.val] = lo32 e.key ∧ regRaw t .lrnHresult [sl.val] = (0x88000000 ||| mkB 26 e.stat ||| mkB 25 e.hit ||| mkF 24 23 e.age
    ||| mkB 22 e.moved ||| mkF 15 0 e.loc) ∧ AgreeBut [.regs, .lrn] s t) ∧
  (∀ (sl : Fin 9) (idx : Nat) (key : Nat) (loc : Nat) (rest : List LrnItem) (s : State), (lrnOf s sl.val).queue = .host 6 idx key loc ::
    rest → lrnLive s sl.val = true → (lrnOf s sl.val).flush = none → ∃ t, exec (.lrnFlushLoc sl) s = .next t ∧ (lrnOf t sl.val).ents =
    ((((lrnOf s sl.val).ents.entries.filter (fun x => !x.2.stat && x.2.loc == loc)).map Prod.fst).foldl lrnRefill
    { lrnOf s sl.val with ents := (lrnOf s sl.val).ents.filter (fun _ e => e.stat || !(e.loc == loc)) }).ents ∧ (lrnOf t sl.val).flush =
    some (((lrnOf s sl.val).ents.entries.filter (fun x => !x.2.stat && x.2.loc == loc)).length, s.now + 2000000) ∧ AgreeBut [.lrn] s t) ∧
  (∀ (sl : Fin 9) (idx : Nat) (key : Nat) (loc : Nat) (rest : List LrnItem) (s : State), (lrnOf s sl.val).queue = .host 7 idx key loc ::
    rest → lrnLive s sl.val = true → (lrnOf s sl.val).flush = none → ∃ t, exec (.lrnFlushDyn sl) s = .next t ∧ (lrnOf t sl.val).ents =
    ((((lrnOf s sl.val).ents.entries.filter (fun x => !x.2.stat)).map Prod.fst).foldl lrnRefill
    { lrnOf s sl.val with ents := (lrnOf s sl.val).ents.filter (fun _ e => e.stat) }).ents ∧ (lrnOf t sl.val).flush = some (((lrnOf s
    sl.val).ents.entries.filter (fun x => !x.2.stat)).length, s.now + 2000000) ∧ AgreeBut [.lrn] s t) ∧
  (∀ (sl : Fin 9) (n : Nat) (d : Nat) (s : State), (lrnOf s sl.val).flush = some (n, d) → ∃ t, exec (.lrnFlushDone sl) s = .next t ∧
    (lrnOf t sl.val).flush = none ∧ (lrnOf t sl.val).ents = (lrnOf s sl.val).ents ∧ regRaw t .lrnHresult [sl.val] = 0x80000000 ∧ AgreeBut
    [.regs, .ctr, .rcd, .lrn] s t) ∧
  (∀ (slot : Fin 4) (sl : Fin 9) (r : List Word) (rest : List (List Word)) (s : State), served s = true → isOwner s slot.val = true →
    availAddr s (Reg.addr .lrnNotify [sl.val]) = true → (lrnOf s sl.val).notes = r :: rest → ∃ t, exec (.lrnNotifyRead slot sl) s = .next
    t ∧ t.acc = (stOk, r.getD (lrnOf s sl.val).noteRead 0) ∧ (lrnOf t sl.val).notes = (if (lrnOf s sl.val).noteRead + 1 < r.length then r
    :: rest else rest) ∧ (lrnOf t sl.val).noteRead = (if (lrnOf s sl.val).noteRead + 1 < r.length then (lrnOf s sl.val).noteRead + 1 else
    0) ∧ AgreeBut [.acc, .lrn] s t) ∧
  (∀ (sl : Fin 9) (index : Fin 264192) (hit : Bool) (e : LrnEntry) (s : State), lrnLive s sl.val = true → scanDue s sl.val index.val =
    true → (lrnOf s sl.val).scan ≤ index.val → (lrnOf s sl.val).ents.find index.val = some e → e.gen = (lrnOf s sl.val).gen → e.stat =
    false → e.hit = true → rf s .lrnAgeCfg [sl.val] 11 0 ≠ 0 → (lrnOf s sl.val).sweep % rf s .lrnAgeCfg [sl.val] 11 0 = 0 → ∃ t, exec
    (.lrnScanVisit sl index hit) s = .next t ∧ (lrnOf t sl.val).scan = index.val + 1 ∧ ((lrnOf t sl.val).ents.find index.val).map (fun x
    => (x.key, x.loc, x.hit, x.age)) = some (e.key, e.loc, false, 0) ∧ AgreeBut [.ctr, .lrn] s t) ∧
  (∀ (slot : Fin 4) (val : Word) (s : State), ownerMay s slot .lrnCopy [] = true → fld val 7 4 < 9 → fld val 3 0 < 9 → runsRole (sliceOf s
    (fld val 7 4)) = true → (sliceOf s (fld val 3 0)).st = .ready → s.lrn.copy ≠ .copying → ∃ t, exec (.lrnCopyGo slot val) s = .next t ∧
    t.acc = (stOk, 0) ∧ t.lrn.copy = .copying ∧ (t.lrn.src, t.lrn.dst) = (fld val 7 4, fld val 3 0) ∧ (lrnOf t (fld val 3 0)).ents = {} ∧
    AgreeBut [.acc, .regs, .lrn] s t) ∧
  (∀ (slot : Fin 4) (val : Word) (s : State), ownerMay s slot .lrnCopy [] = true → s.lrn.copy = .shadowing → ∃ t, exec (.lrnCopyStop slot
    val) s = .next t ∧ t.acc = (stOk, 0) ∧ t.lrn.copy = .idle ∧ t.lrn.sl = s.lrn.sl ∧ AgreeBut [.acc, .regs, .lrn] s t) ∧
  (∀ (s : State), onData s = true → s.lrn.copy = .copying → ∃ t, exec (.lrnCopyDone) s = .next t ∧ t.lrn.copy = .shadowing ∧ (lrnOf t
    s.lrn.dst).pair = (lrnOf s s.lrn.src).pair ∧ (lrnOf t s.lrn.dst).gen = (lrnOf s s.lrn.src).gen ∧ AgreeBut [.ctr, .rcd, .lrn] s t)

/-! ## Associative search -/

/-- The search array's command queue. A request of one descriptor of 24 words joins the queue, and words left over are discarded and set
DISCARD (R249). WRITE writes a valid entry with its value bits cleared where its mask is 0, in the array with its parity and in the
shadow with its care count (R243, R248, R254), CLEAR makes an entry invalid, READ and SEARCH answer in the readback, DATA replaces the
associated data alone, BULK_BEGIN opens a session and BULK_END starts its check (R249, R253). A command on a fenced bank leaves FENCED
in the failure FIFO, and a record leaves it with an owner's read (R250). -/
def Obligations.SearchCommands : Prop :=
  (∀ (slot : Fin 4) (words : List Word) (s : State), ownerMay s slot .tcmCmdWin [] = true → words.length = 24 → s.tcm.win = [] →
    s.tcm.queue.length < 1024 → ∃ t, exec (.tcmCmdWinWrite slot words) s = .next t ∧ t.acc = (stOk, 0) ∧ t.tcm.queue = s.tcm.queue ++
    [words] ∧ t.tcm.win = [] ∧ AgreeBut [.acc, .tcm] s t) ∧
  (∀ (slot : Fin 4) (words : List Word) (s : State), ownerMay s slot .tcmCmdWin [] = true → 1 ≤ words.length → words.length < 24 →
    s.tcm.win = [] → ∃ t, exec (.tcmCmdWinWrite slot words) s = .next t ∧ t.acc = (stOk, 0) ∧ t.tcm = s.tcm ∧ rb t .tcmCmdStatus [] 31 =
    true ∧ AgreeBut [.acc, .regs, .ctr, .tcm] s t) ∧
  (∀ (d : List Word) (rest : List (List Word)) (s : State), s.tcm.queue = d :: rest → onData s = true → cOp d = 0 → tcmClean d = true →
    exec (.tcmNop) s = .next (count (modTcm s (fun x => { x with queue := rest })) 9 0x00)) ∧
  (∀ (d : List Word) (rest : List (List Word)) (w : Nat) (p : Nat) (s : State), s.tcm.queue = d :: rest → onData s = true → cOp d = 1 →
    tcmClean d = true → tcmWidth s (cTable d) = some w → cVal d < 2 ^ (80 * w) → cMask d < 2 ^ (80 * w) → cRow d % w = 0 → physOf s
    (cTable d) (cBank d) = some p → bankUp s p = true → ∃ t, exec (.tcmWrite) s = .next t ∧ t.tcm.queue = rest ∧ entAt t p (cRow d) =
    { valid := true, val := cVal d &&& cMask d, mask := cMask d, data := cData d, care := popCount 320 (cMask d) } ∧ shadowAt t p (cRow d)
    = { valid := true, val := cVal d &&& cMask d, mask := cMask d, data := 0, care := popCount 320 (cMask d) } ∧ parAt t p (cRow d) =
    entParity (bankWidth s p) (entAt t p (cRow d)) ∧ t.tcm.banks = s.tcm.banks ∧ t.tcm.fails = s.tcm.fails ∧ AgreeBut [.ctr, .tcm] s t) ∧
  (∀ (d : List Word) (rest : List (List Word)) (w : Nat) (p : Nat) (s : State), s.tcm.queue = d :: rest → onData s = true → cOp d = 2 →
    tcmClean d = true → tcmWidth s (cTable d) = some w → cRow d % w = 0 → physOf s (cTable d) (cBank d) = some p → bankUp s p = true → ∃
    t, exec (.tcmClear) s = .next t ∧ t.tcm.queue = rest ∧ (entAt t p (cRow d)).valid = false ∧ (shadowAt t p (cRow d)).valid = false ∧
    t.tcm.banks = s.tcm.banks ∧ AgreeBut [.ctr, .tcm] s t) ∧
  (∀ (d : List Word) (rest : List (List Word)) (w : Nat) (p : Nat) (s : State), s.tcm.queue = d :: rest → onData s = true → cOp d = 3 →
    tcmClean d = true → tcmWidth s (cTable d) = some w → cRow d % w = 0 → physOf s (cTable d) (cBank d) = some p → bankUp s p = true → ∃
    t, exec (.tcmRead) s = .next t ∧ t.tcm.queue = rest ∧ t.tcm.readback = [setBit (dw d 0) 22 (entAt s p (cRow d)).valid, mkF 31 23
    (careOf (entAt s p (cRow d))) ||| mkF 22 16 (cBank d) ||| mkF 10 0 (cRow d)] ++ wordsOf 10 (entAt s p (cRow d)).val ++ wordsOf 10
    (entAt s p (cRow d)).mask ++ wordsOf 2 (entAt s p (cRow d)).data ∧ t.tcm.ents = s.tcm.ents ∧ AgreeBut [.ctr, .tcm] s t) ∧
  (∀ (d : List Word) (rest : List (List Word)) (w : Nat) (p : Nat) (s : State), s.tcm.queue = d :: rest → onData s = true → cOp d = 4 →
    tcmClean d = true → tcmWidth s (cTable d) = some w → cRow d % w = 0 → physOf s (cTable d) (cBank d) = some p → bankUp s p = true → ∃
    t, exec (.tcmData) s = .next t ∧ t.tcm.queue = rest ∧ entAt t p (cRow d) = { entAt s p (cRow d) with data := cData d } ∧ t.tcm.banks =
    s.tcm.banks ∧ AgreeBut [.ctr, .tcm] s t) ∧
  (∀ (d : List Word) (rest : List (List Word)) (w : Nat) (s : State), s.tcm.queue = d :: rest → onData s = true → cOp d = 5 → tcmClean d =
    true → tcmWidth s (cTable d) = some w → s.tcm.bulk.open' = false → s.tcm.bulk.todo = none → ∃ t, exec (.bulkBegin) s = .next t ∧
    t.tcm.queue = rest ∧ t.tcm.bulk.open' = true ∧ t.tcm.bulk.table = cTable d ∧ t.tcm.bulk.pairs = [] ∧ AgreeBut [.ctr, .tcm] s t) ∧
  (∀ (d : List Word) (rest : List (List Word)) (w : Nat) (s : State), s.tcm.queue = d :: rest → onData s = true → cOp d = 6 → tcmClean d =
    true → tcmWidth s (cTable d) = some w → s.tcm.bulk.open' = true → s.tcm.bulk.table = cTable d → s.tcm.bulk.written ≠ [] → ∃ t, exec
    (.bulkEnd) s = .next t ∧ t.tcm.queue = rest ∧ t.tcm.bulk.open' = false ∧ t.tcm.bulk.todo.isSome = true ∧ t.tcm.ents = s.tcm.ents ∧
    AgreeBut [.ctr, .tcm] s t) ∧
  (∀ (d : List Word) (rest : List (List Word)) (w : Nat) (x : Nat × Nat × TcmEnt) (s : State), s.tcm.queue = d :: rest → onData s = true →
    cOp d = 7 → tcmClean d = true → tcmWidth s (cTable d) = some w → cVal d < 2 ^ (80 * w) → tcmWinner s (cTable d) (cVal d) = some x →
    s.tcm.dataBad.get false (entKey x.1 x.2.1) = false → parAt s x.1 x.2.1 = entParity (bankWidth s x.1) x.2.2 → ∃ t, exec (.tcmSearch) s
    = .next t ∧ t.tcm.queue = rest ∧ t.tcm.readback.take 2 = [setBit (dw d 0) 22 true, mkF 31 23 (careOf x.2.2) ||| mkF 22 16 (logicalOf s
    x.1) ||| mkF 10 0 x.2.1] ∧ t.tcm.ents = s.tcm.ents ∧ AgreeBut [.ctr, .tcm] s t) ∧
  (∀ (d : List Word) (rest : List (List Word)) (w : Nat) (p : Nat) (s : State), s.tcm.queue = d :: rest → onData s = true → cOp d = 1 →
    tcmClean d = true → tcmWidth s (cTable d) = some w → cVal d < 2 ^ (80 * w) → cMask d < 2 ^ (80 * w) → cRow d % w = 0 → physOf s
    (cTable d) (cBank d) = some p → bankUp s p = false → s.tcm.fails.length < 1024 → ∃ t, exec (.tcmWrite) s = .next t ∧ t.tcm.queue =
    rest ∧ t.tcm.ents = s.tcm.ents ∧ t.tcm.fails = s.tcm.fails ++ [mkF 31 28 1 ||| mkF 27 24 3 ||| mkF 20 16 (cTable d) ||| mkF 15 0 (fld
    (dw d 0) 15 0)] ∧ AgreeBut [.ctr, .tcm] s t) ∧
  (∀ (slot : Fin 4) (w : Word) (rest : List Word) (s : State), served s = true → isOwner s slot.val = true → onData s = true → availAddr s
    (Reg.addr .tcmFailFifo []) = true → s.tcm.fails = w :: rest → ∃ t, exec (.tcmFailFifoRead slot) s = .next t ∧ t.acc = (stOk, w) ∧
    t.tcm.fails = rest ∧ AgreeBut [.acc, .tcm] s t)

/-- The banks. A step of the overlap check takes one entry of the session, and none before its 100 ns have passed (R253). The scrubber
rewrites a row that differs from its shadow and counts it against its bank (R255), and leaves a row that agrees, or one whose shadow
word is uncorrectable, as it is (R257); a visit's operand is the upset that strikes the row after it, none where it is all zeros. At the
end of a window a bank with THRESHOLD events becomes SUSPECT (R258, R259); a copy step copies one row from the shadow, with the valid
bit and the data of an entry on its first row (R258), and the last one puts the target in service under the suspect bank's logical
number and fences the suspect. FENCE takes a bank out with its entries (R259). A write of an alias that R247 allows is staged, and
another is refused with OK status and sets ALIAS_REJ. -/
def Obligations.SearchBanks : Prop :=
  (∀ (k : Nat) (l : List Nat) (at' : Nat) (s : State), onData s = true → s.tcm.bulk.todo = some (k :: l, at') → at' ≤ s.now → l ≠ [] → ∃
    t, exec (.bulkCheckStep) s = .next t ∧ t.tcm.bulk.todo = some (l, s.now + 100) ∧ t.tcm.ents = s.tcm.ents ∧ AgreeBut [.ctr, .tcm] s t) ∧
  (∀ (k : Nat) (l : List Nat) (at' : Nat) (s : State), onData s = true → s.tcm.bulk.todo = some (k :: l, at') → s.now < at' → exec
    (.bulkCheckStep) s = .next s) ∧
  (∀ (p : Fin 96) (row : Fin 2048) (s : State), onData s = true → bankUp s p.val = true → s.tcm.shadowBad.get false (entKey p.val row.val)
    = false → rowDiffers s p.val row.val = true → ∃ t, exec (.tcmScrubRow p row { }) s = .next t ∧ (tcmBank t p.val).errs = (tcmBank s
    p.val).errs + 1 ∧ entAt t p.val (firstRow s p.val row.val) = entAt (upsetRow (rowFromShadow s p.val row.val) p.val row.val { }) p.val
    (firstRow s p.val row.val) ∧ t.tcm.shadow = s.tcm.shadow ∧ AgreeBut [.ctr, .flt, .rcd, .tcm] s t) ∧
  (∀ (p : Fin 96) (row : Fin 2048) (hit : Upset) (s : State), onData s = true → bankUp s p.val = true → s.tcm.shadowBad.get false (entKey
    p.val row.val) = true ∨ rowDiffers s p.val row.val = false → exec (.tcmScrubRow p row hit) s = .next (upsetRow s p.val row.val hit)) ∧
  (∀ (p : Fin 96) (s : State), onData s = true → s.tcm.window ≠ tbNs s / 1000000000 → rb s .tcmSuspectCfg [] 31 = false → (tcmBank s
    p.val).st = .inService → tcmThreshold s ≤ (tcmBank s p.val).errs → ∃ t, exec (.tcmSuspectWindow) s = .next t ∧ t.tcm.window = tbNs s /
    1000000000 ∧ (tcmBank t p.val).st = .suspect ∧ (tcmBank t p.val).errs = 0 ∧ t.tcm.ents = s.tcm.ents ∧ AgreeBut [.regs, .ctr, .rcd,
    .pwr, .tcm] s t) ∧
  (∀ (p : Fin 96) (c : TcmCopy) (s : State), onData s = true → s.tcm.copies.find p.val = some c → c.nextAt ≤ s.now → c.row + 1 < 2048 →
    c.to' ≠ p.val → s.tcm.shadowBad.get false (entKey p.val c.row) = false → ∃ t, exec (.tcmCopyRow p) s = .next t ∧ unitAt (entAt t c.to'
    (firstRow s p.val c.row)).val (c.row - firstRow s p.val c.row) = unitAt (shadowAt s p.val (firstRow s p.val c.row)).val (c.row -
    firstRow s p.val c.row) ∧ unitAt (entAt t c.to' (firstRow s p.val c.row)).mask (c.row - firstRow s p.val c.row) = unitAt (shadowAt s
    p.val (firstRow s p.val c.row)).mask (c.row - firstRow s p.val c.row) ∧ (decide (c.row = firstRow s p.val c.row) && ((entAt t c.to'
    c.row).valid != (shadowAt s p.val c.row).valid || (entAt t c.to' c.row).data != (entAt s p.val c.row).data)) = false ∧
    (t.tcm.copies.find p.val).map (fun x => (x.to', x.row, x.nextAt)) = some (c.to', c.row + 1, s.now + 20) ∧ t.tcm.banks = s.tcm.banks ∧
    AgreeBut [.tcm] s t) ∧
  (∀ (p : Fin 96) (c : TcmCopy) (s : State), onData s = true → s.tcm.copies.find p.val = some c → c.nextAt ≤ s.now → c.row = 2047 → c.to'
    ≠ p.val → ∃ t, exec (.tcmCopyRow p) s = .next t ∧ (tcmBank t c.to').st = .inService ∧ logicalOf t c.to' = logicalOf s p.val ∧ (tcmBank
    t p.val).st = .fenced ∧ isFenced t 9 p.val = true ∧ t.tcm.copies.find p.val = none ∧ AgreeBut [.ctr, .flt, .rcd, .tcm] s t) ∧
  (∀ (slot : Fin 4) (p : Fin 96) (s : State), ownerMay s slot .tcmBank [p.val] = true → (tcmBank s p.val).st ≠ .fenced → ∃ t, exec
    (.tcmBankFence slot p) s = .next t ∧ t.acc = (stOk, 0) ∧ (tcmBank t p.val).st = .fenced ∧ isFenced t 9 p.val = true ∧ bankEnts t p.val
    = [] ∧ AgreeBut [.acc, .ctr, .flt, .rcd, .tcm] s t) ∧
  (∀ (slot : Fin 4) (a : Fin 32) (val : Word) (s : State), ownerMay s slot .tcmAlias [a.val] = true → s.fur.direct = false → aliasOk s
    a.val val = true → ∃ t, exec (.tcmAliasWrite slot a val) s = .next t ∧ t.acc = (stOk, 0) ∧ (t.fur.opn.find (Reg.addr .tcmAlias
    [a.val])).map (fun v => fld v 4 0) = some (fld val 4 0) ∧ regRaw t .tcmAlias [a.val] = regRaw s .tcmAlias [a.val] ∧ AgreeBut [.acc,
    .fur] s t) ∧
  (∀ (slot : Fin 4) (a : Fin 32) (val : Word) (s : State), ownerMay s slot .tcmAlias [a.val] = true → aliasOk s a.val val = false → ∃ t,
    exec (.tcmAliasWrite slot a val) s = .next t ∧ t.acc = (stOk, 0) ∧ rb t .tcmAliasStatus [] 31 = true ∧ t.fur = s.fur ∧ AgreeBut [.acc,
    .regs] s t)

/-! ## Exception engines -/

/-- The engines. A dispatch takes the front head of the class that the round robin serves to a free thread, with its registers and scratch
memory at 0, and stores its class values; a re-dispatch goes by its record (R267, R269, R275, R276). A thread that runs ends with one
outcome, after what its code did, and keeps its counter adds until it retires (R271, R272). A DROP that retires frees its thread and its
journal entry, a RETURN puts its head with the new vector into the return queue of its track, and a SEND hands its ticket and output
head to the Ell (R271, R273). A head that has waited longer than QWAIT_US is dropped (R268). A thread over its limit has its engine
fenced with reason 2, and a re-dispatched one only loses its thread (R276, R277). A record domain that fails loses its heads and fences
its engines with reason 4 (R277). -/
def Obligations.EngineHeads : Prop :=
  (∀ (c : Nat) (w : XeWait) (k : Nat) (e : Nat) (s : State), onData s = true → xeNextClass s = some c → xeTarget s c = some (w, k, e) →
    w.re = none → ∃ t, exec (.xeDispatch) s = .next t ∧ (xeClassOf t c).q = (xeClassOf s c).q.drop 1 ∧ t.xe.rr = c ∧ ((xeEng t
    e).threads.find (firstGap (xeEng s e).threads.keys 0)).map (fun x => (x.r.p, x.start, x.out.isSome)) = some (w.p, s.now, false) ∧
    ((xeEng t e).threads.find (firstGap (xeEng s e).threads.keys 0)).map (fun x => (x.r.a, x.r.b, x.r.c)) = some (regRaw s .xeClassA [c],
    regRaw s .xeClassB [c], regRaw s .xeClassC [c]) ∧ ((xeEng t e).threads.find (firstGap (xeEng s e).threads.keys 0)).map (fun x =>
    (x.r.clu, x.r.snap, x.regs, x.scratch)) = some (k, snapNow s, {}, {}) ∧ ((xeEng t e).threads.find (firstGap (xeEng s e).threads.keys
    0)).map (fun x => (x.outHead, x.vec)) = some (w.p.out, w.p.vec) ∧ AgreeBut [.ctr, .xe] s t) ∧
  (∀ (c : Nat) (w : XeWait) (r : XeRec) (k : Nat) (e : Nat) (s : State), onData s = true → xeNextClass s = some c → xeTarget s c = some
    (w, k, e) → w.re = some r → ∃ t, exec (.xeDispatch) s = .next t ∧ (xeClassOf t c).q = (xeClassOf s c).q.drop 1 ∧ (xeClassOf t c).rob =
    (xeClassOf s c).rob ∧ ((xeEng t e).threads.find (firstGap (xeEng s e).threads.keys 0)).map (fun x => (x.r, x.start, x.out.isSome)) =
    some ({ r with clu := k, waited := s.now - w.since }, s.now, false) ∧ ((xeEng t e).threads.find (firstGap (xeEng s e).threads.keys
    0)).map (fun x => (x.outHead, x.vec, x.regs, x.scratch)) = some (r.p.out, r.p.vec, {}, {}) ∧ AgreeBut [.ctr, .xe] s t) ∧
  (∀ (e : Fin 128) (n : Fin 8) (stage : Fin 23) (vec : List (Fin 128 × Word)) (run : List XeAct) (th : XeThread) (s : State), onData s =
    true → engRuns s e.val = true → (xeEng s e.val).threads.find n.val = some th → th.out = none → ∃ t, exec (.xeReturn e n stage vec run)
    s = .next t ∧ ((xeEng t e.val).threads.find n.val).map (fun x => (x.r, x.start, x.ended)) = some (th.r, th.start, s.now) ∧ ((xeEng t
    e.val).threads.find n.val).map (fun x => (x.out, x.adds)) = some (some (.ret (stage.val + 1) (vec.map (fun x => (x.1.val, x.2)))),
    (xeRun run s th).2.adds) ∧ ((xeEng t e.val).threads.find n.val).map (fun x => x.vec) = some (vec.foldl (fun (m : SMap Word) (w : Fin
    128 × Word) => m.set 0 w.1.val w.2) th.vec) ∧ ((xeEng t e.val).n, (xeEng t e.val).sum) = ((xeEng s e.val).n + 1, (xeEng s e.val).sum +
    (s.now - th.start)) ∧ t.xe.cls = s.xe.cls ∧ AgreeBut [.ctr, .flt, .rcd, .tbl, .tcm, .xe] s t) ∧
  (∀ (e : Fin 128) (n : Fin 8) (tkt : Ticket) (out : List Byte) (run : List XeAct) (th : XeThread) (s : State), onData s = true → engRuns
    s e.val = true → (xeEng s e.val).threads.find n.val = some th → th.out = none → ∃ t, exec (.xeSend e n tkt out run) s = .next t ∧
    ((xeEng t e.val).threads.find n.val).map (fun x => (x.r, x.start, x.ended)) = some (th.r, th.start, s.now) ∧ ((xeEng t
    e.val).threads.find n.val).map (fun x => (x.out, x.adds)) = some (some (.send tkt out), (xeRun run s th).2.adds) ∧ ((xeEng t
    e.val).threads.find n.val).map (fun x => (x.outHead, x.vec)) = some (out, th.vec) ∧ ((xeEng t e.val).n, (xeEng t e.val).sum) = ((xeEng
    s e.val).n + 1, (xeEng s e.val).sum + (s.now - th.start)) ∧ t.xe.cls = s.xe.cls ∧ AgreeBut [.ctr, .flt, .rcd, .tbl, .tcm, .xe] s t) ∧
  (∀ (e : Fin 128) (n : Fin 8) (run : List XeAct) (th : XeThread) (s : State), onData s = true → engRuns s e.val = true → (xeEng s
    e.val).threads.find n.val = some th → th.out = none → ∃ t, exec (.xeDrop e n run) s = .next t ∧ ((xeEng t e.val).threads.find
    n.val).map (fun x => (x.r, x.start, x.ended)) = some (th.r, th.start, s.now) ∧ ((xeEng t e.val).threads.find n.val).map (fun x =>
    (x.out, x.adds)) = some (some (.drop), (xeRun run s th).2.adds) ∧ ((xeEng t e.val).threads.find n.val).map (fun x => (x.outHead,
    x.vec)) = some (th.outHead, th.vec) ∧ ((xeEng t e.val).n, (xeEng t e.val).sum) = ((xeEng s e.val).n + 1, (xeEng s e.val).sum + (s.now
    - th.start)) ∧ t.xe.cls = s.xe.cls ∧ AgreeBut [.ctr, .flt, .rcd, .tbl, .tcm, .xe] s t) ∧
  (∀ (e : Fin 128) (n : Fin 8) (th : XeThread) (s : State), onData s = true → engRuns s e.val = true → (xeEng s e.val).threads.find n.val
    = some th → th.out = some .drop → xeTurn s th = true → ∃ t, exec (.xeRetire e n) s = .next t ∧ (xeEng t e.val).threads.find n.val =
    none ∧ (jrnlOf (sliceOf t th.r.p.jsl) (dirOf th.r.p.head.inp)).find th.r.p.slot = none ∧ t.slc.reports = s.slc.reports ∧ AgreeBut
    [.ctr, .slc, .xe, .ell] s t) ∧
  (∀ (e : Fin 128) (n : Fin 8) (th : XeThread) (stage : Nat) (vec : List (Nat × Word)) (s : State), onData s = true → engRuns s e.val =
    true → (xeEng s e.val).threads.find n.val = some th → th.out = some (.ret stage vec) → xeTurn s th = true → ∃ t, exec (.xeRetire e n)
    s = .next t ∧ (xeEng t e.val).threads.find n.val = none ∧ (sliceOf t (returnSlice s th.r.p)).retq.get [] (dirOf th.r.p.head.inp) =
    (sliceOf s (returnSlice s th.r.p)).retq.get [] (dirOf th.r.p.head.inp) ++
    [{ stage := stage, p := { th.r.p with vec := th.vec }, since := s.now }] ∧ AgreeBut [.ctr, .slc, .xe] s t) ∧
  (∀ (e : Fin 128) (n : Fin 8) (th : XeThread) (tkt : Ticket) (out : List Byte) (s : State), onData s = true → engRuns s e.val = true →
    (xeEng s e.val).threads.find n.val = some th → th.out = some (.send tkt out) → xeTurn s th = true → xeSendBad th.r tkt out = false → ∃
    t, exec (.xeRetire e n) s = .next t ∧ (xeEng t e.val).threads.find n.val = none ∧ t.ell = (ellPush s (bundleOfTicket (xeTicket th.r
    tkt out)) (.head (bundleOfTicket (xeTicket th.r tkt out)) (xeTicket th.r tkt out) out th.r.p.head.tag)).ell ∧ t.xe.sends.get false
    (th.r.p.jsl * 65536 + th.r.p.slot) = true ∧ AgreeBut [.ctr, .xe, .ell] s t) ∧
  (∀ (c : Fin 64) (w : XeWait) (rest : List XeWait) (s : State), onData s = true → (xeClassOf s c.val).q = w :: rest → w.since + qwaitNs s
    < s.now → ∃ t, exec (.xeQwaitExpire c) s = .next t ∧ (xeClassOf t c.val).q = rest ∧ (jrnlOf (sliceOf t w.p.jsl) (dirOf
    w.p.head.inp)).find w.p.slot = none ∧ AgreeBut [.ctr, .slc, .xe, .ell] s t) ∧
  (∀ (e : Fin 128) (n : Fin 8) (th : XeThread) (s : State), onData s = true → engRuns s e.val = true → (xeEng s e.val).threads.find n.val
    = some th → th.out = none → th.start + limitNs th.r.b < s.now → th.r.retry = false → ∃ t, exec (.xeThreadOverlimit e n) s = .next t ∧
    (xeEng t e.val).reason = 2 ∧ (xeEng t e.val).threads = {} ∧ isFenced t 0xA e.val = true ∧ AgreeBut [.ctr, .flt, .rcd, .xe] s t) ∧
  (∀ (e : Fin 128) (n : Fin 8) (th : XeThread) (s : State), onData s = true → engRuns s e.val = true → (xeEng s e.val).threads.find n.val
    = some th → th.out = none → th.start + limitNs th.r.b < s.now → th.r.retry = true → ∃ t, exec (.xeThreadOverlimit e n) s = .next t ∧
    (xeEng t e.val).reason = 0 ∧ (xeEng t e.val).threads.find n.val = none ∧ t.flt = s.flt ∧ AgreeBut [.ctr, .rcd, .slc, .xe, .ell] s t) ∧
  (∀ (k : Fin 8) (s : State), onData s = true → (xeClu s k.val).recOk = true → ∃ t, exec (.xeRecDomainFail k) s = .next t ∧ (xeClu t
    k.val).recOk = false ∧ isFenced t 0xA (128 + k.val) = true ∧ (engsOf k.val).all (fun e => (xeEng t e).reason != 0) = true ∧ AgreeBut
    [.ctr, .flt, .rcd, .slc, .xe, .ell] s t)

/-- The engines' management. A window is judged once and starts afresh with every engine's samples at 0 (R278). XE_ENGINE_FENCE fences an
engine with reason 5 (R276). In the DOWNSTREAM phase of an apply a load takes the next powered cluster and pauses it once nothing names
the half, goes on when the cluster's threads have their outcomes, and ends with the half loaded and the cluster back in dispatch (R279);
a section whose digest fails then halts the apply (R101). A class write that R265 allows is staged, and another is refused with OK
status and sets CLASS_REJ. -/
def Obligations.EngineManagement : Prop :=
  (∀ (s : State), onData s = true → s.xe.window ≠ tbNs s / 1000000 → rb s .xeLagCfg [] 31 = false → ∃ t, exec (.xeLagWindow) s = .next t ∧
    t.xe.window = tbNs s / 1000000 ∧ (List.range 128).all (fun e => decide ((xeEng t e).n = 0) && decide ((xeEng t e).reason = (xeEng s
    e).reason)) = true ∧ t.xe.cls = s.xe.cls ∧ AgreeBut [.xe] s t) ∧
  (∀ (slot : Fin 4) (val : Word) (s : State), ownerMay s slot .xeEngineFence [] = true → tbit val 31 = true → (xeEng s (fld val 6
    0)).reason = 0 → ∃ t, exec (.xeEngineFence slot val) s = .next t ∧ t.acc = (stOk, 0) ∧ (xeEng t (fld val 6 0)).reason = 5 ∧ (xeEng t
    (fld val 6 0)).threads = {} ∧ isFenced t 0xA (fld val 6 0) = true ∧ AgreeBut [.acc, .ctr, .flt, .rcd, .xe] s t) ∧
  (∀ (k : Fin 8) (half : Bool) (s : State), onData s = true → ucodeDue s = true → ucodeNext s = some k.val → half = applyHalf s →
    s.xe.load = .idle ∨ s.xe.load = .resume → halfNamed s half = false → ∃ t, exec (.xeUcodeLoad k half) s = .next t ∧ (xeClu t
    k.val).paused = true ∧ (if half then (xeClu t k.val).half1 else (xeClu t k.val).half0) = none ∧ (if half then (xeClu t k.val).half0
    else (xeClu t k.val).half1) = (if half then (xeClu s k.val).half0 else (xeClu s k.val).half1) ∧ t.xe.load = .drain ∧ (t.xe.loadClu,
    t.xe.loadHalf) = (k.val, half.toNat) ∧ AgreeBut [.xe] s t) ∧
  (∀ (s : State), onData s = true → s.xe.load = .drain → (engsOf s.xe.loadClu).all (fun e => (xeEng s e).threads.entries.all (fun x =>
    x.2.out.isSome)) = true → exec (.xeClusterDrained) s = .next (modXe s (fun x => { x with load := .load }))) ∧
  (∀ (s : State), onData s = true → s.xe.load = .load → devSectsOk s (tunBase s.img.apply.tun) [6] = true → ∃ t, exec (.xeUcodeWritten) s
    = .next t ∧ t.xe.load = .resume ∧ (xeClu t s.xe.loadClu).paused = false ∧ (if s.xe.loadHalf = 0 then (xeClu t s.xe.loadClu).half0 else
    (xeClu t s.xe.loadClu).half1) = some (Config.ucode (devSect s (tunBase s.img.apply.tun) 6)) ∧ (if s.xe.loadHalf = 0 then (xeClu t
    s.xe.loadClu).half1 else (xeClu t s.xe.loadClu).half0) = (if s.xe.loadHalf = 0 then (xeClu s s.xe.loadClu).half1 else (xeClu s
    s.xe.loadClu).half0) ∧ (xeClu t s.xe.loadClu).done = 0 ∧ t.img.apply.clus = s.img.apply.clus ++ [s.xe.loadClu] ∧ AgreeBut [.ctr, .rcd,
    .img, .xe] s t) ∧
  (∀ (s : State), onData s = true → s.xe.load = .load → devSectsOk s (tunBase s.img.apply.tun) [6] = false → exec (.xeUcodeWritten) s =
    .next (sectBroken s s.img.apply.tun)) ∧
  (∀ (slot : Fin 4) (c : Fin 64) (w : Fin 3) (val : Word) (s : State), ownerMay s slot (classReg w.val) [c.val] = true → s.fur.direct =
    false → classWriteOk s c.val w.val val = true → ∃ t, exec (.xeClassWrite slot .owner c w val) s = .next t ∧ t.acc = (stOk, 0) ∧
    (t.fur.opn.find (Reg.addr (classReg w.val) [c.val])).isSome = true ∧ t.fur.sld = s.fur.sld ∧ AgreeBut [.acc, .fur] s t) ∧
  (∀ (slot : Fin 4) (c : Fin 64) (w : Fin 3) (val : Word) (s : State), ownerMay s slot (classReg w.val) [c.val] = true → classWriteOk s
    c.val w.val val = false → ∃ t, exec (.xeClassWrite slot .owner c w val) s = .next t ∧ t.acc = (stOk, 0) ∧ rb t .xeStatus [] 17 = true
    ∧ t.fur = s.fur ∧ AgreeBut [.acc, .regs] s t)

/-! ## The Ell seam -/

/-- The seam's retry. In UP a bundle direction with segments and credit for nothing else sends the segments that fit in a DATA flit under
its next SEQ and keeps it in the retry buffer; with nothing to send it sends a CONTROL flit, which takes no SEQ; the next flit follows
32 ns later (R284, R285, R291). Where the next replay, its own or of a partner it carries, is of a flit replayed 64 times without being
accepted, it goes to RETRAIN with the retry buffer's flits kept (R295). While it trains it sends TRAIN flits, which carry nothing
(R297). A DATA flit with a good CRC and SEQ equal to NEXT_SEQ is accepted: NEXT_SEQ moves on and the segments are delivered, here a
ticket to its admission unit, an admission report and body credit (R292, R317). One with a lower SEQ delivers nothing and NEXT_SEQ
stays. The operands are the bits received wrong; the CRC goes by those it sees. A CRC error, or a higher SEQ, delivers nothing and asks
for a replay; the request is repeated when 500 ns have passed (R292). NEXT_SEQ belongs to the bundle direction whose number the flit
carries (R294). -/
def Obligations.SeamLinkRetry : Prop :=
  (∀ (k : Fin 32) (f1 : List Seg) (f2 : List Seg) (s : State), onData s = true → (bundleOf s k.val).st = .up → (bundleOf s k.val).nextAt ≤
    s.now → (bundleOf s k.val).retry.length < 32 → (bundleOf s k.val).replay = none → (bundleOf s k.val).carried = false → holdFull
    (bundleOf s k.val) = false → (bundleOf s (partnerOf k.val)).st = .up → (bundleOf s (partnerOf k.val)).carried = false → creditDue s
    k.val = none → segFit (bundleOf s k.val).segq 8160 = (f1, f2) → f1 ≠ [] → ∃ t, exec (.ellFlitTx k) s = .next t ∧ (bundleOf t
    k.val).wire.map (fun f => (f.data, f.orig)) = (bundleOf s k.val).wire.map (fun f => (f.data, f.orig)) ++ [(some ((bundleOf s
    k.val).seq, f1), k.val)] ∧ (bundleOf t k.val).seq = ((bundleOf s k.val).seq + 1) % 4096 ∧ (bundleOf t k.val).retry = (bundleOf s
    k.val).retry ++ [((bundleOf s k.val).seq, f1, 0)] ∧ (bundleOf t k.val).segq = ({ bundleOf s k.val with segq := f2 }.refill).segq ∧
    (bundleOf t k.val).held = ({ bundleOf s k.val with segq := f2 }.refill).held ∧ (bundleOf t k.val).nextAt = s.now + 32 ∧ AgreeBut
    [.ell] s t) ∧
  (∀ (k : Fin 32) (s : State), onData s = true → (bundleOf s k.val).st = .up ∨ (bundleOf s k.val).st = .doze → (bundleOf s k.val).nextAt ≤
    s.now → (bundleOf s k.val).retry = [] → (bundleOf s k.val).segq = [] → (bundleOf s (partnerOf k.val)).carried = false → (bundleOf s
    (partnerOf k.val)).segq = [] → creditDue s k.val = none → ∃ t, exec (.ellFlitTx k) s = .next t ∧ (bundleOf t k.val).wire.map (fun f =>
    f.data) = (bundleOf s k.val).wire.map (fun f => f.data) ++ [none] ∧ (bundleOf t k.val).seq = (bundleOf s k.val).seq ∧ (bundleOf t
    k.val).retry = [] ∧ (bundleOf t k.val).nextAt = s.now + 32 ∧ AgreeBut [.ell] s t) ∧
  (∀ (k : Fin 32) (s : State), onData s = true → (bundleOf s k.val).st = .up → (bundleOf s k.val).nextAt ≤ s.now → replayedOut64 s k.val =
    true ∨ ((bundleOf s (partnerOf k.val)).carried = true ∧ replayedOut64 s (partnerOf k.val) = true) → ∃ t, exec (.ellFlitTx k) s = .next
    t ∧ (bundleOf t k.val).st = .retrain ∧ (bundleOf t k.val).wire = [] ∧ (bundleOf t (partnerOf k.val)).replay = (if (bundleOf s
    (partnerOf k.val)).carried then (bundleOf s (partnerOf k.val)).retry.head?.map Prod.fst else (bundleOf s (partnerOf k.val)).replay) ∧
    (bundleOf t k.val).retry.map (fun e => (e.1, e.2.1)) = (bundleOf s k.val).retry.map (fun e => (e.1, e.2.1)) ∧ (bundleOf t
    k.val).replay = (bundleOf s k.val).retry.head?.map Prod.fst ∧ (bundleOf t k.val).next = (bundleOf s k.val).next ∧ ctrAt t (cOff 0xB
    (k.val * 0x400 + 0x18)) = (ctrAt s (cOff 0xB (k.val * 0x400 + 0x18))).add 1 ∧ AgreeBut [.ctr, .flt, .rcd, .tgt, .ell] s t) ∧
  (∀ (k : Fin 32) (s : State), onData s = true → (bundleOf s k.val).nextAt ≤ s.now → (bundleOf s k.val).st = .train ∨ (bundleOf s
    k.val).st = .retrain ∨ (bundleOf s k.val).st = .wake → exec (.ellFlitTx k) s = .next (trainTx s k.val)) ∧
  (∀ (k : Fin 32) (hdr : List (Fin 128)) (rst : List (Fin 65408)) (f : Flit) (rest : List Flit) (s : State), onData s = true → (bundleOf s
    k.val).wire = f :: rest → f.train = true → exec (.ellFlitRx k hdr rst) s = .next (modBundle s k.val (fun b =>
    { b with wire := rest }))) ∧
  (∀ (k : Fin 32) (hdr : List (Fin 128)) (rst : List (Fin 65408)) (g : Nat) (tkt : Ticket) (out : List Byte) (tag : Option Nat) (f : Flit)
    (rest : List Flit) (q : Nat) (s : State), onData s = true → (bundleOf s k.val).wire = f :: rest → f.train = false → crcSees (hdr.map
    (fun x => x.val) ++ rst.map (fun x => 128 + x.val)) = false → f.data = some (q, [.head g tkt out tag]) → f.orig = k.val → f.swapOp = 0
    → q = (bundleOf s k.val).next → (bundleOf s k.val).holding = none → k.val < 16 → ticketGood tkt = true → ∃ t, exec (.ellFlitRx k hdr
    rst) s = .next t ∧ (bundleOf t k.val).next = (q + 1) % 4096 ∧ (bundleOf t k.val).wire = rest ∧ (bundleOf t k.val).nakAt = none ∧ ctrAt
    t (cOff 0xB (k.val * 0x400)) = (ctrAt s (cOff 0xB (k.val * 0x400))).add 1 ∧ t.bpm.unit.get [] g = s.bpm.unit.get [] g ++ [.ing tkt out
    tag] ∧ AgreeBut [.ctr, .ell, .bpm] s t) ∧
  (∀ (k : Fin 32) (hdr : List (Fin 128)) (rst : List (Fin 65408)) (sl : Nat) (oc : Nat) (j : Nat) (f : Flit) (rest : List Flit) (q : Nat)
    (s : State), onData s = true → (bundleOf s k.val).wire = f :: rest → f.train = false → crcSees (hdr.map (fun x => x.val) ++ rst.map
    (fun x => 128 + x.val)) = false → f.data = some (q, [.admitPtr sl oc j]) → f.orig = k.val → f.swapOp = 0 → q = (bundleOf s k.val).next
    → (bundleOf s k.val).holding = none → 16 ≤ k.val → ∃ t, exec (.ellFlitRx k hdr rst) s = .next t ∧ (bundleOf t k.val).next = (q + 1) %
    4096 ∧ (bundleOf t k.val).wire = rest ∧ (bundleOf t k.val).nakAt = none ∧ ctrAt t (cOff 0xB (k.val * 0x400)) = (ctrAt s (cOff 0xB
    (k.val * 0x400))).add 1 ∧ t.slc.reports = s.slc.reports ++ [(sl, oc, j)] ∧ AgreeBut [.ctr, .slc, .ell] s t) ∧
  (∀ (k : Fin 32) (hdr : List (Fin 128)) (rst : List (Fin 65408)) (g : Nat) (tags : List Nat) (bytes : Nat) (f : Flit) (rest : List Flit)
    (q : Nat) (s : State), onData s = true → (bundleOf s k.val).wire = f :: rest → f.train = false → crcSees (hdr.map (fun x => x.val) ++
    rst.map (fun x => 128 + x.val)) = false → f.data = some (q, [.credit g tags bytes]) → f.orig = k.val → f.swapOp = 0 → q = (bundleOf s
    k.val).next → (bundleOf s k.val).holding = none → ∃ t, exec (.ellFlitRx k hdr rst) s = .next t ∧ (bundleOf t k.val).next = (q + 1) %
    4096 ∧ (bundleOf t k.val).wire = rest ∧ (bundleOf t k.val).nakAt = none ∧ ctrAt t (cOff 0xB (k.val * 0x400)) = (ctrAt s (cOff 0xB
    (k.val * 0x400))).add 1 ∧ (creditOf t (1 - k.val / 16) g).tags = (creditOf s (1 - k.val / 16) g).tags ++ tags ∧ (creditOf t (1 - k.val
    / 16) g).bytes = (creditOf s (1 - k.val / 16) g).bytes + bytes ∧ AgreeBut [.ctr, .ell] s t) ∧
  (∀ (k : Fin 32) (hdr : List (Fin 128)) (rst : List (Fin 65408)) (f : Flit) (rest : List Flit) (q : Nat) (segs : List Seg) (s : State),
    onData s = true → (bundleOf s k.val).wire = f :: rest → f.train = false → crcSees (hdr.map (fun x => x.val) ++ rst.map (fun x => 128 +
    x.val)) = false → f.data = some (q, segs) → f.orig < 32 → f.swapOp = 0 → 2048 ≤ (q + 4096 - (bundleOf s f.orig).next) % 4096 → ∃ t,
    exec (.ellFlitRx k hdr rst) s = .next t ∧ (bundleOf t k.val).wire = rest ∧ (bundleOf t f.orig).next = (bundleOf s f.orig).next ∧
    (bundleOf t f.orig).nakAt = (bundleOf s f.orig).nakAt ∧ AgreeBut [.ctr, .ell] s t) ∧
  (∀ (k : Fin 32) (hdr : List (Fin 128)) (rst : List (Fin 65408)) (f : Flit) (rest : List Flit) (q : Nat) (segs : List Seg) (s : State),
    onData s = true → (bundleOf s k.val).wire = f :: rest → f.train = false → crcSees (hdr.map (fun x => x.val) ++ rst.map (fun x => 128 +
    x.val)) = false → f.data = some (q, segs) → f.orig < 32 → f.swapOp = 0 → q ≠ (bundleOf s f.orig).next → (q + 4096 - (bundleOf s
    f.orig).next) % 4096 < 2048 → ∃ t, exec (.ellFlitRx k hdr rst) s = .next t ∧ (bundleOf t k.val).wire = rest ∧ (bundleOf t f.orig).next
    = (bundleOf s f.orig).next ∧ (bundleOf t f.orig).nakAt = some ((bundleOf s f.orig).nakAt.getD (s.now + 500)) ∧ AgreeBut [.ctr, .ell] s
    t) ∧
  (∀ (k : Fin 32) (hdr : List (Fin 128)) (rst : List (Fin 65408)) (f : Flit) (rest : List Flit) (s : State), onData s = true → (bundleOf s
    k.val).wire = f :: rest → f.train = false → crcSees (hdr.map (fun x => x.val) ++ rst.map (fun x => 128 + x.val)) = true → ∃ t, exec
    (.ellFlitRx k hdr rst) s = .next t ∧ (bundleOf t k.val).wire = rest ∧ (bundleOf t k.val).next = (bundleOf s k.val).next ∧ (bundleOf t
    k.val).nakAt = some ((bundleOf s k.val).nakAt.getD (s.now + 500)) ∧ ctrAt t (cOff 0xB (k.val * 0x400 + 0x08)) = (ctrAt s (cOff 0xB
    (k.val * 0x400 + 0x08))).add 1 ∧ AgreeBut [.regs, .ctr, .flt, .rcd, .ell] s t) ∧
  (∀ (k : Fin 32) (x : Nat) (s : State), onData s = true → (bundleOf s k.val).nakAt = some x → x ≤ s.now → ∃ t, exec (.ellNakRepeat k) s =
    .next t ∧ (bundleOf t k.val).nakDue = true ∧ (bundleOf t k.val).nakAt = some (s.now + 500) ∧ (bundleOf t k.val).next = (bundleOf s
    k.val).next ∧ AgreeBut [.ell] s t)

/-- Bundle directions. A full search of at most 10 ms with the clock lane locked and at least 64 good lanes ends in UP; otherwise, and
after 10 ms in TRAIN, and when an UP bundle direction loses its clock lane, it is fenced: its traffic goes by the partner from the
oldest unacknowledged flit, its HOME bit clears, and its retry buffer and NEXT_SEQ stay (R294, R296, R297, R302, R304). A passing quick
alignment within 20 µs, and a passing wake, end in UP with the retry buffer kept, a failing one in TRAIN (R295, R296). A lane of an UP
bundle direction that becomes bad asks for the lower free spare, with none left the bundle direction is fenced, and one that carries no
data is only marked (R299 to R301); a bad lane that passes its search is good again. SLEEP takes effect with the retry buffer empty; OFF
stays DOZE while the reverse runs and for bundles 0 and 8 of direction 0 (R306, R307); SLEEP 0 wakes (R308). A body that has waited
AGE_MS is freed, its tag returns with the next generation, and it is counted (R289). -/
def Obligations.SeamStates : Prop :=
  (∀ (k : Fin 32) (bad : BitVec 66) (s : State), onData s = true → fwRuns s = true → (bundleOf s k.val).st = .train → 64 ≤ goodLanes
    bad.toNat → s.now ≤ (bundleOf s k.val).since + 10000000 → ∃ t, exec (.ellFullSearchDone k true bad) s = .next t ∧ (bundleOf t
    k.val).moved = mapLanes bad.toNat ∧ (bundleOf t k.val).st = .up ∧ (bundleOf t k.val).clk = true ∧ (bundleOf t k.val).bad = bad.toNat ∧
    (bundleOf t k.val).retry = (bundleOf s k.val).retry ∧ (bundleOf t k.val).next = (bundleOf s k.val).next ∧ AgreeBut [.free, .regs,
    .ctr, .flt, .rcd, .tgt, .ell] s t) ∧
  (∀ (k : Fin 32) (clk : Bool) (bad : BitVec 66) (s : State), onData s = true → fwRuns s = true → (bundleOf s k.val).st = .train → clk =
    false ∨ goodLanes bad.toNat < 64 ∨ (bundleOf s k.val).since + 10000000 < s.now → ∃ t, exec (.ellFullSearchDone k clk bad) s = .next t
    ∧ (bundleOf t k.val).st = .fenced ∧ (bundleOf t k.val).carried = true ∧ (bundleOf t k.val).replay = (bundleOf s k.val).retry.head?.map
    Prod.fst ∧ isFenced t 0xB k.val = true ∧ rb t .ellHome [] k.val = false ∧ (bundleOf t k.val).retry = (bundleOf s k.val).retry ∧
    (bundleOf t k.val).next = (bundleOf s k.val).next ∧ AgreeBut [.regs, .ctr, .fur, .flt, .rcd, .tgt, .ell] s t) ∧
  (∀ (k : Fin 32) (s : State), onData s = true → (bundleOf s k.val).st = .train → (bundleOf s k.val).since + 10000000 ≤ s.now → ∃ t, exec
    (.ellTrainTimeout k) s = .next t ∧ (bundleOf t k.val).st = .fenced ∧ (bundleOf t k.val).carried = true ∧ (bundleOf t k.val).replay =
    (bundleOf s k.val).retry.head?.map Prod.fst ∧ isFenced t 0xB k.val = true ∧ rb t .ellHome [] k.val = false ∧ (bundleOf t k.val).retry
    = (bundleOf s k.val).retry ∧ (bundleOf t k.val).next = (bundleOf s k.val).next ∧ AgreeBut [.regs, .ctr, .fur, .flt, .rcd, .tgt, .ell]
    s t) ∧
  (∀ (k : Fin 32) (s : State), onData s = true → (bundleOf s k.val).st = .up → ∃ t, exec (.ellClockLoss k) s = .next t ∧ (bundleOf t
    k.val).st = .fenced ∧ (bundleOf t k.val).carried = true ∧ (bundleOf t k.val).replay = (bundleOf s k.val).retry.head?.map Prod.fst ∧
    isFenced t 0xB k.val = true ∧ rb t .ellHome [] k.val = false ∧ (bundleOf t k.val).retry = (bundleOf s k.val).retry ∧ (bundleOf t
    k.val).next = (bundleOf s k.val).next ∧ (bundleOf t k.val).bad.testBit 66 = true ∧ AgreeBut [.regs, .ctr, .fur, .flt, .rcd, .tgt,
    .ell] s t) ∧
  (∀ (k : Fin 32) (s : State), onData s = true → (bundleOf s k.val).st = .retrain → s.now ≤ (bundleOf s k.val).since + 20000 → ∃ t, exec
    (.ellRetrainDone k true) s = .next t ∧ (bundleOf t k.val).st = .up ∧ (bundleOf t k.val).retry = (bundleOf s k.val).retry ∧ (bundleOf t
    k.val).next = (bundleOf s k.val).next ∧ AgreeBut [.ctr, .flt, .rcd, .tgt, .ell] s t) ∧
  (∀ (k : Fin 32) (pass : Bool) (s : State), onData s = true → (bundleOf s k.val).st = .retrain → pass = false ∨ (bundleOf s k.val).since
    + 20000 < s.now → ∃ t, exec (.ellRetrainDone k pass) s = .next t ∧ (bundleOf t k.val).st = .train ∧ (bundleOf t k.val).since = s.now ∧
    (bundleOf t k.val).retry = (bundleOf s k.val).retry ∧ (bundleOf t k.val).next = (bundleOf s k.val).next ∧ AgreeBut [.ctr, .flt, .rcd,
    .tgt, .ell] s t) ∧
  (∀ (k : Fin 32) (lane : Fin 66) (loss : Bool) (l : Nat) (sp : Nat) (more : List Nat) (s : State), onData s = true → (bundleOf s
    k.val).st = .up → (bundleOf s k.val).bad.testBit lane.val = false → loss = true ∨ laneThr s k.val ≤ parCount (bundleOf s k.val) s.now
    lane.val → logicalOn (bundleOf s k.val) lane.val = some l → freeSpares
    { bundleOf s k.val with bad := (bundleOf s k.val).bad ||| 1 <<< lane.val } = sp :: more → ∃ t, exec (.ellLaneBad k lane loss) s =
    .next t ∧ (bundleOf t k.val).swapReq = (bundleOf s k.val).swapReq ++ [(l, sp)] ∧ (bundleOf t k.val).bad.testBit lane.val = true ∧
    (bundleOf t k.val).st = .up ∧ (bundleOf t k.val).retry = (bundleOf s k.val).retry ∧ (bundleOf t k.val).next = (bundleOf s k.val).next
    ∧ AgreeBut [.ell] s t) ∧
  (∀ (k : Fin 32) (lane : Fin 66) (loss : Bool) (l : Nat) (s : State), onData s = true → (bundleOf s k.val).st = .up → (bundleOf s
    k.val).bad.testBit lane.val = false → loss = true ∨ laneThr s k.val ≤ parCount (bundleOf s k.val) s.now lane.val → logicalOn (bundleOf
    s k.val) lane.val = some l → freeSpares { bundleOf s k.val with bad := (bundleOf s k.val).bad ||| 1 <<< lane.val } = [] → ∃ t, exec
    (.ellLaneBad k lane loss) s = .next t ∧ (bundleOf t k.val).bad.testBit lane.val = true ∧ (bundleOf t k.val).st = .fenced ∧ (bundleOf t
    k.val).carried = true ∧ (bundleOf t k.val).replay = (bundleOf s k.val).retry.head?.map Prod.fst ∧ isFenced t 0xB k.val = true ∧ rb t
    .ellHome [] k.val = false ∧ (bundleOf t k.val).retry = (bundleOf s k.val).retry ∧ (bundleOf t k.val).next = (bundleOf s k.val).next ∧
    AgreeBut [.regs, .ctr, .fur, .flt, .rcd, .tgt, .ell] s t) ∧
  (∀ (k : Fin 32) (lane : Fin 66) (loss : Bool) (s : State), onData s = true → (bundleOf s k.val).bad.testBit lane.val = false → loss =
    true ∨ laneThr s k.val ≤ parCount (bundleOf s k.val) s.now lane.val → (bundleOf s k.val).st ≠ .up ∨ logicalOn (bundleOf s k.val)
    lane.val = none → exec (.ellLaneBad k lane loss) s = .next (markBad s k.val lane.val)) ∧
  (∀ (k : Fin 32) (lane : Fin 66) (s : State), onData s = true → fwRuns s = true → (bundleOf s k.val).bad.testBit lane.val = true → ∃ t,
    exec (.ellLaneSearchDone k lane true) s = .next t ∧ (bundleOf t k.val).bad.testBit lane.val = false ∧ (bundleOf t k.val).st =
    (bundleOf s k.val).st ∧ (bundleOf t k.val).moved = (bundleOf s k.val).moved ∧ AgreeBut [.flt, .ell] s t) ∧
  (∀ (slot : Fin 4) (k : Fin 32) (val : Word) (s : State), ownerMay s slot .ellBcfg [k.val / 16, k.val % 16] = true → ∃ t, exec
    (.ellSleepWrite slot k val) s = .next t ∧ t.acc = (stOk, 0) ∧ regRaw t .ellBcfg [k.val / 16, k.val % 16] = val &&& 0xE00000FF ∧
    (bundleOf t k.val).st = (bundleOf s k.val).st ∧ AgreeBut [.acc, .regs, .ell] s t) ∧
  (∀ (k : Fin 32) (s : State), onData s = true → (bundleOf s k.val).st = .up → (bundleOf s k.val).retry = [] → sleepOf s k.val = 1 ∨
    (sleepOf s k.val = 2 ∧ offAllowed s k.val = false) → ∃ t, exec (.ellSleepEnter k) s = .next t ∧ (bundleOf t k.val).st = .doze ∧
    (bundleOf t k.val).next = (bundleOf s k.val).next ∧ AgreeBut [.regs, .ctr, .flt, .rcd, .tgt, .pwr, .ell] s t) ∧
  (∀ (k : Fin 32) (s : State), onData s = true → (bundleOf s k.val).st = .doze ∨ ((bundleOf s k.val).st = .up ∧ (bundleOf s k.val).retry =
    []) → sleepOf s k.val = 2 → offAllowed s k.val = true → ∃ t, exec (.ellSleepEnter k) s = .next t ∧ (bundleOf t k.val).st = .off ∧
    (bundleOf t k.val).next = (bundleOf s k.val).next ∧ AgreeBut [.regs, .ctr, .flt, .rcd, .tgt, .pwr, .ell] s t) ∧
  (∀ (k : Fin 32) (s : State), onData s = true → (bundleOf s k.val).st = .doze ∨ (bundleOf s k.val).st = .off → sleepOf s k.val = 0 ∨
    ((bundleOf s k.val).segq ≠ [] ∧ (rb s .ellBcfg [k.val / 16, k.val % 16] 29 = true ∨ (bundleOf s (partnerOf k.val)).st ≠ .up)) → ∃ t,
    exec (.ellWake k) s = .next t ∧ (bundleOf t k.val).st = .wake ∧ (bundleOf t k.val).segq = (bundleOf s k.val).segq ∧ AgreeBut [.regs,
    .ctr, .flt, .rcd, .tgt, .pwr, .ell] s t) ∧
  (∀ (k : Fin 32) (s : State), onData s = true → (bundleOf s k.val).st = .wake → ∃ t, exec (.ellWakeDone k true) s = .next t ∧ (bundleOf t
    k.val).st = .up ∧ (bundleOf t k.val).clk = true ∧ (bundleOf t k.val).retry = (bundleOf s k.val).retry ∧ (bundleOf t k.val).next =
    (bundleOf s k.val).next ∧ AgreeBut [.ctr, .flt, .rcd, .tgt, .ell] s t) ∧
  (∀ (k : Fin 32) (s : State), onData s = true → (bundleOf s k.val).st = .wake → ∃ t, exec (.ellWakeDone k false) s = .next t ∧ (bundleOf
    t k.val).st = .train ∧ (bundleOf t k.val).retry = (bundleOf s k.val).retry ∧ (bundleOf t k.val).next = (bundleOf s k.val).next ∧
    AgreeBut [.ctr, .flt, .rcd, .tgt, .ell] s t) ∧
  (∀ (g : Fin 16) (i : Fin 16384) (w : BodyWait) (s : State), onData s = true → (s.ell.body.get {} (g.val * 2 ^ 14 + i.val)).wait = some w
    → (s.ell.body.get {} (g.val * 2 ^ 14 + i.val)).gen < 4 → w.at' + ageNs s ≤ s.now → ∃ t, exec (.ellBodyAge g i) s = .next t ∧
    t.ell.body.get {} (g.val * 2 ^ 14 + i.val) = { gen := ((s.ell.body.get {} (g.val * 2 ^ 14 + i.val)).gen + 1) % 4 } ∧ (creditOf t 0
    g.val).freed = (creditOf s 0 g.val).freed ++ [mkTag (((s.ell.body.get {} (g.val * 2 ^ 14 + i.val)).gen + 1) % 4) g.val i.val] ∧ ctrAt
    t (cOff 0xB 0x80008) = (ctrAt s (cOff 0xB 0x80008)).add 1 ∧ AgreeBut [.regs, .ctr, .flt, .rcd, .ell, .bpm] s t)

/-! ## Buffers, admission and replication -/

/-- Admission. A bodyless ingress packet whose checks pass, with early drop off and its queue ON_DIE, takes the lowest free buffer of its
pool with one reference left, stands at the end of its queue with the time it was admitted, counts, and is reported with outcome 0
(R313, R314, R317, R319, R320, R331). A packet for a queue that is not VALID, that is refusing, or that would pass MAX_d is refused at
steps 1, 2 and 3: no queue and no buffer changes, the step's counter rises, and the report gives outcome 1. A complete egress packet
keeps its buffer with one reference (R331). A head whose body is gone is dropped and counted in ELL_BODY_MISS (R289). A fence marker is
echoed once the replicator is empty (R191). These clauses take a ticket without a mirror session. The egress clauses take the DP and the
buckets that the queue's policer leaves (R387). -/
def Obligations.Admission : Prop :=
  (∀ (u : Fin 32) (tkt : Ticket) (out : List Byte) (rest : List AdmItem) (k : Nat) (g : Nat) (s1 : State) (s : State), u.val < 16 →
    s.bpm.unit.get [] u.val = .ing tkt out none :: rest → blkOn s 0xC = true → tfld tkt 255 252 ≠ 1 → tfld tkt 111 108 = 0 → validFor s
    u.val (targetQ tkt) = true → refusing s (targetQ tkt) = false → isEgQ s (targetQ tkt) = false → qDepth (qOf s (targetQ tkt)) + tfld
    tkt 241 228 ≤ maxD s (targetQ tkt) (tfld tkt 249 248) → rb s .bpmProfEd [profOf s (targetQ tkt)] 31 = false → (qOf s (targetQ
    tkt)).spill = false → spillEn s (targetQ tkt) = false → shareOk s (targetQ tkt) (tfld tkt 241 228) = true → bufAlloc s (poolFor
    out.length) false out = some (k, g, s1) → ∃ t, exec (.admitPointer u) s = .next t ∧ (qOf t (targetQ tkt)).on = (qOf s (targetQ
    tkt)).on ++ [{ tkt := tsealed (tset tkt 249 248 (tfld tkt 249 248)), len := tfld tkt 241 228, at' := s.now, loc := .buf k g }] ∧
    qDepth (qOf t (targetQ tkt)) = qDepth (qOf s (targetQ tkt)) + tfld tkt 241 228 ∧ ((bufOf t k).used, (bufOf t k).gen, (bufOf t k).ref)
    = (true, g, 1) ∧ (bufOf t k).pkt = out ∧ t.bpm.unit.get [] u.val = rest ∧ ctrAt t (cOff 0xC 0x00) = (ctrAt s (cOff 0xC 0x00)).add 1 ∧
    t.ell = (admitReportTx s u.val (tfld tkt 219 216) 0 (tfld tkt 31 16)).ell ∧ AgreeBut [.ctr, .ell, .bpm, .fab] s t) ∧
  (∀ (u : Fin 32) (tkt : Ticket) (out : List Byte) (rest : List AdmItem) (s : State), u.val < 16 → s.bpm.unit.get [] u.val = .ing tkt out
    none :: rest → blkOn s 0xC = true → tfld tkt 255 252 ≠ 1 → tfld tkt 111 108 = 0 → isEgQ s (targetQ tkt) = false → validFor s u.val
    (targetQ tkt) = false → ∃ t, exec (.admitPointer u) s = .next t ∧ t.bpm.q = s.bpm.q ∧ t.bpm.bufs = s.bpm.bufs ∧ t.bpm.unit.get []
    u.val = rest ∧ ctrAt t (cOff 0xC 0x28) = (ctrAt s (cOff 0xC 0x28)).add 1 ∧ ctrAt t (qCtr (targetQ tkt) 0x08) = (ctrAt s (qCtr (targetQ
    tkt) 0x08)).add 1 ∧ t.ell = (admitReportTx s u.val (tfld tkt 219 216) 1 (tfld tkt 31 16)).ell ∧ AgreeBut [.ctr, .ell, .bpm] s t) ∧
  (∀ (u : Fin 32) (tkt : Ticket) (out : List Byte) (rest : List AdmItem) (s : State), u.val < 16 → s.bpm.unit.get [] u.val = .ing tkt out
    none :: rest → blkOn s 0xC = true → tfld tkt 255 252 ≠ 1 → tfld tkt 111 108 = 0 → isEgQ s (targetQ tkt) = false → validFor s u.val
    (targetQ tkt) = true → refusing s (targetQ tkt) = false → maxD s (targetQ tkt) (tfld tkt 249 248) < qDepth (qOf s (targetQ tkt)) +
    tfld tkt 241 228 → ∃ t, exec (.admitPointer u) s = .next t ∧ t.bpm.q = s.bpm.q ∧ t.bpm.bufs = s.bpm.bufs ∧ t.bpm.unit.get [] u.val =
    rest ∧ ctrAt t (cOff 0xC 0x08) = (ctrAt s (cOff 0xC 0x08)).add 1 ∧ ctrAt t (qCtr (targetQ tkt) 0x08) = (ctrAt s (qCtr (targetQ tkt)
    0x08)).add 1 ∧ t.ell = (admitReportTx s u.val (tfld tkt 219 216) 1 (tfld tkt 31 16)).ell ∧ AgreeBut [.ctr, .ell, .bpm] s t) ∧
  (∀ (u : Fin 32) (tkt : Ticket) (k : Nat) (g : Nat) (rest : List AdmItem) (d : Nat) (s2 : State) (s : State), 16 ≤ u.val → s.bpm.unit.get
    [] u.val = .eg tkt k g :: rest → blkOn s 0xC = true → tfld tkt 255 252 ≠ 1 → tfld tkt 111 108 = 0 → validFor s u.val (targetQ tkt) =
    true → refusing s (targetQ tkt) = false → (bufOf s k).used = true → (bufOf s k).gen = g → (bufOf s k).ref = 1 → police s (targetQ tkt)
    (tfld tkt 241 228) (tfld tkt 249 248) = (d, s2) → qDepth (qOf s (targetQ tkt)) + tfld tkt 241 228 ≤ maxD s (targetQ tkt) d → rb s
    .bpmProfEd [profOf s (targetQ tkt)] 31 = false → (qOf s (targetQ tkt)).spill = false → spillEn s (targetQ tkt) = false → shareOk s
    (targetQ tkt) (tfld tkt 241 228) = true → ∃ t, exec (.admitPointer u) s = .next t ∧ (qOf t (targetQ tkt)).on = (qOf s (targetQ
    tkt)).on ++ [{ tkt := tsealed (tset tkt 249 248 d), len := tfld tkt 241 228, at' := s.now, loc := .buf k g }] ∧ bufOf t k = bufOf s k
    ∧ t.bpm.unit.get [] u.val = rest ∧ t.sch = s2.sch ∧ AgreeBut [.ctr, .bpm, .sch, .fab] s t) ∧
  (∀ (u : Fin 32) (tkt : Ticket) (k : Nat) (g : Nat) (rest : List AdmItem) (d : Nat) (s2 : State) (s : State), 16 ≤ u.val → s.bpm.unit.get
    [] u.val = .eg tkt k g :: rest → blkOn s 0xC = true → tfld tkt 255 252 ≠ 1 → tfld tkt 111 108 = 0 → (bufOf s k).used = true → (bufOf s
    k).gen = g → (bufOf s k).ref = 1 → police s (targetQ tkt) (tfld tkt 241 228) (tfld tkt 249 248) = (d, s2) → validFor s u.val (targetQ
    tkt) = true → refusing s (targetQ tkt) = true → ∃ t, exec (.admitPointer u) s = .next t ∧ t.bpm.q = s.bpm.q ∧ (bufOf t k).used = false
    ∧ ctrAt t (cOff 0xC 0x18) = (ctrAt s (cOff 0xC 0x18)).add 1 ∧ t.sch = s2.sch ∧ AgreeBut [.ctr, .bpm, .sch] s t) ∧
  (∀ (u : Fin 32) (tkt : Ticket) (out : List Byte) (tag : Nat) (rest : List AdmItem) (s : State), u.val < 16 → blkOn s 0xC = true →
    s.bpm.unit.get [] u.val = .ing tkt out (some tag) :: rest → waitingBody s tag = none → ∃ t, exec (.admitPointer u) s = .next t ∧
    t.bpm.q = s.bpm.q ∧ t.bpm.unit.get [] u.val = rest ∧ ctrAt t (cOff 0xB 0x80010) = (ctrAt s (cOff 0xB 0x80010)).add 1 ∧ AgreeBut [.ctr,
    .ell, .bpm] s t) ∧
  (∀ (u : Fin 32) (sl : Nat) (rest : List AdmItem) (s : State), blkOn s 0xC = true → s.bpm.unit.get [] u.val = .fence sl :: rest → mcOf s
    u.val = [] → exec (.admitPointer u) s = .next (ellPush (unitPop s u.val) (16 + u.val % 16) (.fence (u.val % 16) sl)))

/-- Replication and spill. A packet at the front of a replicator reads its group word when its replication starts, and makes one offer for
each list entry, in list order; the last offer, or an empty list, ends it (R330, R332). A group word with a list of more than 1,024
entries or beyond the list memory is refused with MC_REJ, and any other is written in one piece (R330). The first record of a queue that
is not yet written is written to the lines it takes once its packet's copy-making has ended (R326). When a data record's write completes
its pointer refers to the record and its buffer loses one reference (R324, R331). The read-ahead reads the front record into a buffer of
its own while the on-die part is below PREF_KIB (R327). -/
def Obligations.ReplicationAndSpill : Prop :=
  (∀ (u : Fin 32) (j : McJob) (rest : List McJob) (base : Nat) (len : Nat) (s : State), blkOn s 0xC = true → mcOf s u.val = j :: rest →
    j.list = some (base, len) → j.i + 1 < len → ∃ t, exec (.mcOffer u) s = .next t ∧ mcOf t u.val =
    { j with list := some (base, len), i := j.i + 1, acc := if (mcEntry s u.val j base).1 then j.acc + 1 else j.acc } :: rest ∧ AgreeBut
    [.free, .regs, .ctr, .flt, .rcd, .bpm, .sch, .fab] s t) ∧
  (∀ (u : Fin 32) (j : McJob) (rest : List McJob) (s : State), blkOn s 0xC = true → mcOf s u.val = j :: rest → j.list = none → j.i = 0 → 1
    < fld (groupWord s u.val j.tkt) 31 21 → ∃ t, exec (.mcOffer u) s = .next t ∧ (mcOf t u.val).map (fun x => (x.list, x.i)) = (some (fld
    (groupWord s u.val j.tkt) 17 0, fld (groupWord s u.val j.tkt) 31 21), 1) :: rest.map (fun x => (x.list, x.i)) ∧ AgreeBut [.free,
    .regs, .ctr, .flt, .rcd, .bpm, .sch, .fab] s t) ∧
  (∀ (u : Fin 32) (j : McJob) (rest : List McJob) (base : Nat) (len : Nat) (s : State), blkOn s 0xC = true → mcOf s u.val = j :: rest →
    j.list = some (base, len) → len ≤ j.i + 1 → ∃ t, exec (.mcOffer u) s = .next t ∧ mcOf t u.val = rest ∧ AgreeBut [.free, .regs, .ctr,
    .flt, .rcd, .ell, .bpm, .sch, .fab] s t) ∧
  (∀ (slot : Fin 4) (g : Fin 65536) (eg : Bool) (val : Word) (s : State), ownerMay s slot (if eg then .bpmMcgEg else .bpmMcgIng) [g.val] =
    true → fld val 31 21 ≤ 1024 → fld val 17 0 + fld val 31 21 ≤ 262144 → ∃ t, exec (.mcgWrite slot g eg val) s = .next t ∧ t.acc = (stOk,
    0) ∧ regRaw t (if eg then .bpmMcgEg else .bpmMcgIng) [g.val] = val &&& 0xFFE3FFFF ∧ AgreeBut [.acc, .regs] s t) ∧
  (∀ (slot : Fin 4) (g : Fin 65536) (eg : Bool) (val : Word) (s : State), ownerMay s slot (if eg then .bpmMcgEg else .bpmMcgIng) [g.val] =
    true → 1024 < fld val 31 21 ∨ 262144 < fld val 17 0 + fld val 31 21 → ∃ t, exec (.mcgWrite slot g eg val) s = .next t ∧ t.acc = (stOk,
    0) ∧ rb t .bpmStatus [] 31 = true ∧ regRaw t (if eg then .bpmMcgEg else .bpmMcgIng) [g.val] = regRaw s (if eg then .bpmMcgEg else
    .bpmMcgIng) [g.val] ∧ AgreeBut [.acc, .regs] s t) ∧
  (∀ (q : Fin 1048576) (i : Nat) (r : HRec) (lines : List (Nat × Nat × Nat)) (s1 : State) (s : State), onData s = true → (qOf s
    q.val).hbm.findIdx? (fun r => r.st == .reserved && !r.dead) = some i → (qOf s q.val).hbm[i]? = some r → r.ready = true → takeLines
    q.val 256 (if r.data then recLines r.p.len else 1) s = some (lines, s1) → roomFor (writesQueued s) lines 128 = true → ∃ t, exec
    (.hbmRecordWrite q) s = .next t ∧ ((qOf t q.val).hbm[i]?).map (fun x => (x.st, x.lines, x.p)) = some (.writing, lines, r.p) ∧ (qOf t
    q.val).on = (qOf s q.val).on ∧ (qOf t q.val).hbm.length = (qOf s q.val).hbm.length ∧ AgreeBut [.ctr, .bpm, .hbm] s t) ∧
  (∀ (q : Fin 1048576) (i : Nat) (r : HRec) (k : Nat) (g : Nat) (s : State), onData s = true → (qOf s q.val).hbm.findIdx? (fun r => r.st
    != .reserved && !r.done) = some i → (qOf s q.val).hbm[i]? = some r → r.dead = false → r.data = true → r.st = .writing → recHeld s r =
    false → r.p.loc = .buf k g → (bufOf s k).used = true → (bufOf s k).gen = g → 1 < (bufOf s k).ref → ∃ t, exec (.hbmWriteDone q) s =
    .next t ∧ ((qOf t q.val).hbm[i]?).map (fun x => (x.st, x.done, x.p)) = some (.written, true, { r.p with loc := .hbm }) ∧ (bufOf t
    k).ref = (bufOf s k).ref - 1 ∧ (qOf t q.val).hbm.length = (qOf s q.val).hbm.length ∧ AgreeBut [.bpm] s t) ∧
  (∀ (q : Fin 1048576) (i : Nat) (r : HRec) (k : Nat) (g : Nat) (s1 : State) (s : State), onData s = true → (qOf s q.val).spill = true →
    onDie (qOf s q.val) < prefBytes s → (qOf s q.val).hbm.findIdx? (fun r => r.st != .reading && !r.dead) = some i → (qOf s q.val).hbm[i]?
    = some r → r.st = .writing ∨ (r.st = .written ∧ roomFor (readsQueued s) r.lines 256 = true) → r.data = true → readBuf s r.p.len = some
    (k, g, s1) → ∃ t, exec (.hbmReadAhead q) s = .next t ∧ ((qOf t q.val).hbm[i]?).map (fun x => (x.st, x.readAt, x.rbuf, x.fwd)) = some
    (.reading, s.now, some (k, g), r.st == .writing) ∧ ((bufOf t k).used, (bufOf t k).gen, (bufOf t k).ref) = (true, g, 1) ∧ (qOf t
    q.val).on = (qOf s q.val).on ∧ AgreeBut [.ctr, .bpm, .hbm] s t)

/-! ## HBM -/

/-- HBM reads and DRAM. A read that completes without an uncorrectable line puts its pointer, with the packet in its read buffer, behind
every pointer on-die and takes the record out of the HBM part; one with uncorrectable packet bytes drops the packet, counts in
HBM_UE_DROP, and leaves the records after it (R327, R352, R358). A descriptor with no good copy discards the HBM part from that record
on: what stays of it, for a write or a read in flight, is dead (R358, R359). A bank whose idle timer has run out is precharged (R355),
and refreshed at the interval in effect (R363). A first temperature reading at or above 85 °C keeps the doubled rate and a reading below
83 °C ends it; at 105 °C the stack is hot and its channels close, below 100 °C they reopen (R363, R364); at 115 °C the stack and its
channels are fenced (R364, R368). -/
def Obligations.HbmReadsAndBanks : Prop :=
  (∀ (q : Fin 1048576) (ce : EccCount) (lns : List (Fin 256)) (i : Nat) (r : HRec) (k : Nat) (g : Nat) (s : State), onData s = true → (qOf
    s q.val).hbm.findIdx? (fun r => r.st == .reading) = some i → (qOf s q.val).hbm[i]? = some r → recHeld s r = false ∨ r.fwd = true →
    r.dead = false → r.data = true → r.done = true → r.rbuf = some (k, g) → ∃ t, exec (.hbmReadDone q ce 0 lns) s = .next t ∧ (qOf t
    q.val).on = (qOf s q.val).on ++ [{ r.p with loc := .buf k g }] ∧ (qOf t q.val).hbm = (qOf s q.val).hbm.eraseIdx i ∧ (bufOf t k).pkt =
    r.pkt ∧ AgreeBut [.regs, .ctr, .flt, .rcd, .bpm, .hbm] s t) ∧
  (∀ (q : Fin 1048576) (ce : EccCount) (lns : List (Fin 256)) (i : Nat) (r : HRec) (k : Nat) (g : Nat) (s : State), onData s = true → (qOf
    s q.val).hbm.findIdx? (fun r => r.st == .reading) = some i → (qOf s q.val).hbm[i]? = some r → recHeld s r = false ∨ r.fwd = true →
    r.dead = false → r.data = true → r.done = true → r.rbuf = some (k, g) → (bufOf s k).used = true → (bufOf s k).gen = g → (bufOf s
    k).ref = 1 → ∃ t, exec (.hbmReadDone q ce 1 lns) s = .next t ∧ (qOf t q.val).on = (qOf s q.val).on ∧ (qOf t q.val).hbm = (qOf s
    q.val).hbm.eraseIdx i ∧ (bufOf t k).used = false ∧ ctrAt t (cOff 0xD 0x80000) = (ctrAt s (cOff 0xD 0x80000)).add 1 ∧ AgreeBut [.regs,
    .ctr, .flt, .rcd, .bpm, .hbm, .sch] s t) ∧
  (∀ (q : Fin 1048576) (ce : EccCount) (lns : List (Fin 256)) (i : Nat) (r : HRec) (s : State), onData s = true → (qOf s
    q.val).hbm.findIdx? (fun r => r.st == .reading) = some i → (qOf s q.val).hbm[i]? = some r → recHeld s r = false ∨ r.fwd = true →
    r.dead = false → ∃ t, exec (.hbmReadDone q ce 2 lns) s = .next t ∧ (qOf t q.val).on = (qOf s q.val).on ∧ (qOf t q.val).hbm.take i =
    (qOf s q.val).hbm.take i ∧ ((qOf t q.val).hbm.drop i).all (fun x => x.dead) = true ∧ AgreeBut [.regs, .ctr, .flt, .rcd, .bpm, .hbm,
    .sch] s t) ∧
  (∀ (c : Fin 64) (n : Fin 64) (row : Nat) (s : State), onData s = true → (s.hbm.bank.get {} (c.val * 64 + n.val)).row = some row →
    (s.hbm.bank.get {} (c.val * 64 + n.val)).at' * 6 + rf s .hbmChCfg [c.val] 7 0 * 5 ≤ s.now * 6 → ∃ t, exec (.hbmBankIdle c n) s = .next
    t ∧ t.hbm.bank.get {} (c.val * 64 + n.val) = { s.hbm.bank.get {} (c.val * 64 + n.val) with row := none } ∧ t.hbm.ch = s.hbm.ch ∧
    AgreeBut [.hbm] s t) ∧
  (∀ (c : Fin 64) (n : Fin 64) (s : State), onData s = true → (stackOf s (c.val / 16)).st ≠ .off → (s.hbm.bank.get {} (c.val * 64 +
    n.val)).ref + (if (stackOf s (c.val / 16)).x2 then 1950 else 3900) ≤ s.now → ∃ t, exec (.hbmRefresh c n) s = .next t ∧ (t.hbm.bank.get
    {} (c.val * 64 + n.val)).row = none ∧ (t.hbm.bank.get {} (c.val * 64 + n.val)).ref = s.now ∧ t.hbm.ch = s.hbm.ch ∧ AgreeBut [.hbm] s
    t) ∧
  (∀ (k : Fin 4) (tc : BitVec 8) (s : State), onData s = true → (stackOf s k.val).st = .up → (stackOf s k.val).tempAt ≤ s.now → (stackOf s
    k.val).hot = false → tc.toInt < 105 → ∃ t, exec (.hbmTempRead k tc) s = .next t ∧ (stackOf t k.val).temp = some tc.toInt ∧ (stackOf t
    k.val).x2 = (decide (85 ≤ tc.toInt) || ((stackOf s k.val).x2 && (stackOf s k.val).temp.isSome && decide (83 ≤ tc.toInt))) ∧ (stackOf t
    k.val).tempAt = s.now + 1000000 ∧ (stackOf t k.val).hot = false ∧ AgreeBut [.rcd, .hbm] s t) ∧
  (∀ (k : Fin 4) (tc : BitVec 8) (c : Nat) (s : State), onData s = true → (stackOf s k.val).st = .up → (stackOf s k.val).tempAt ≤ s.now →
    (stackOf s k.val).hot = false → 105 ≤ tc.toInt → tc.toInt < 115 → c < 16 → ∃ t, exec (.hbmTempRead k tc) s = .next t ∧ (stackOf t
    k.val).hot = true ∧ (stackOf t k.val).x2 = true ∧ (hbmCh t (16 * k.val + c)).hot = true ∧ chOpen t (16 * k.val + c) = false ∧ AgreeBut
    [.regs, .ctr, .flt, .rcd, .hbm] s t) ∧
  (∀ (k : Fin 4) (tc : BitVec 8) (c : Nat) (s : State), onData s = true → (stackOf s k.val).st = .up → (stackOf s k.val).tempAt ≤ s.now →
    (stackOf s k.val).hot = true → tc.toInt < 100 → c < 16 → ∃ t, exec (.hbmTempRead k tc) s = .next t ∧ (stackOf t k.val).hot = false ∧
    (hbmCh t (16 * k.val + c)).hot = false ∧ AgreeBut [.flt, .rcd, .hbm] s t) ∧
  (∀ (k : Fin 4) (tc : BitVec 8) (c : Nat) (s : State), onData s = true → (stackOf s k.val).st = .up → (stackOf s k.val).tempAt ≤ s.now →
    115 ≤ tc.toInt → c < 16 → ∃ t, exec (.hbmTempRead k tc) s = .next t ∧ (stackOf t k.val).st = .fenced ∧ (hbmCh t (16 * k.val + c)).st =
    .fenced ∧ AgreeBut [.regs, .ctr, .flt, .rcd, .bpm, .hbm, .sch] s t)

/-- HBM channels. The end of a 1 ms window starts every channel's read statistics again, and with the rule of R361 off closes none; the
end of a 1 s window starts the error counts again (R360, R361). Training ends with the stack UP and its results stored: a channel that
passes opens, one that fails is fenced (R365, R366). A channel that is due is paused for retraining, one of the device at a time, and
counts; it opens again, or is fenced when the verification fails (R367). A fence takes the channel's blocks (R368). REOPEN ends a
closure for slowness or errors (R362). POWER 0 is refused with PD_REJ while a block is in use or a sealed set holds values for the
stack, and otherwise takes the stack to OFF; POWER 1 trains it (R369). -/
def Obligations.HbmChannelsAndStacks : Prop :=
  (∀ (s : State), onData s = true → s.hbm.win ≠ tbNs s / 1000000 → rb s .hbmLagCfg [] 31 = false → ∃ t, exec (.hbmLagWindow) s = .next t ∧
    t.hbm.win = tbNs s / 1000000 ∧ (hbmCh t 63).n = 0 ∧ (hbmCh t 63).mean = (if (hbmCh s 63).n = 0 then 0 else min 0xFFFF ((hbmCh s
    63).sum / (hbmCh s 63).n)) ∧ (hbmCh t 63).slow = (hbmCh s 63).slow ∧ (hbmCh t 63).st = (hbmCh s 63).st ∧ AgreeBut [.hbm] s t) ∧
  (∀ (c : Fin 64) (s : State), onData s = true → s.hbm.winS ≠ tbNs s / 1000000000 → ∃ t, exec (.hbmErrWindow) s = .next t ∧ t.hbm.winS =
    tbNs s / 1000000000 ∧ hbmCh t c.val = { hbmCh s c.val with ce := 0, ue := 0 } ∧ AgreeBut [.hbm] s t) ∧
  (∀ (k : Fin 4) (fails : BitVec 16) (c : Fin 16) (s : State), onData s = true → fwRuns s = true → (stackOf s k.val).st = .training →
    (hbmCh s (16 * k.val + c.val)).st = .training → ∃ t, exec (.hbmTrainDone k fails) s = .next t ∧ (stackOf t k.val).st = .up ∧ (stackOf
    t k.val).stored = true ∧ (hbmCh t (16 * k.val + c.val)).st = (if fails.toNat.testBit c.val then .fenced else .open') ∧ AgreeBut
    [.regs, .ctr, .flt, .rcd, .bpm, .hbm, .sch] s t) ∧
  (∀ (c : Fin 64) (s : State), onData s = true → fwRuns s = true → s.hbm.retrain = none → (hbmCh s c.val).st = .open' → retrainDue s c.val
    = true → ∃ t, exec (.hbmRetrainStart c) s = .next t ∧ (hbmCh t c.val).st = .paused ∧ (hbmCh t c.val).pauseIn = true ∧ t.hbm.retrain =
    some c.val ∧ AgreeBut [.regs, .ctr, .flt, .rcd, .bpm, .hbm] s t) ∧
  (∀ (c : Fin 64) (s : State), onData s = true → fwRuns s = true → (hbmCh s c.val).st = .paused → ∃ t, exec (.hbmRetrainDone c true) s =
    .next t ∧ (hbmCh t c.val).st = .open' ∧ (hbmCh t c.val).trainAt = s.now ∧ (hbmCh t c.val).slow = (hbmCh s c.val).slow ∧ t.hbm.retrain
    = none ∧ AgreeBut [.ctr, .flt, .rcd, .hbm] s t) ∧
  (∀ (c : Fin 64) (s : State), onData s = true → fwRuns s = true → (hbmCh s c.val).st = .paused → ∃ t, exec (.hbmRetrainDone c false) s =
    .next t ∧ (hbmCh t c.val).st = .fenced ∧ t.hbm.retrain = none ∧ isFenced t 0xD c.val = true ∧ AgreeBut [.regs, .ctr, .flt, .rcd, .bpm,
    .hbm, .sch] s t) ∧
  (∀ (c : Fin 64) (s : State), onData s = true → (hbmCh s c.val).st ≠ .fenced → ∃ t, exec (.hbmChannelFence c) s = .next t ∧ (hbmCh t
    c.val).st = .fenced ∧ chUsed t c.val = 0 ∧ isFenced t 0xD c.val = true ∧ AgreeBut [.regs, .ctr, .flt, .rcd, .bpm, .hbm, .sch] s t) ∧
  (∀ (slot : Fin 4) (c : Fin 64) (s : State), ownerMay s slot .hbmChCfg [c.val] = true → ∃ t, exec (.hbmChReopen slot c) s = .next t ∧
    t.acc = (stOk, 0) ∧ (hbmCh t c.val).slow = false ∧ (hbmCh t c.val).err = false ∧ (hbmCh t c.val).hot = (hbmCh s c.val).hot ∧ (hbmCh t
    c.val).st = (hbmCh s c.val).st ∧ regRaw t .hbmChCfg [c.val] = regRaw s .hbmChCfg [c.val] ∧ AgreeBut [.acc, .fur, .flt, .rcd, .hbm] s
    t) ∧
  (∀ (slot : Fin 4) (k : Fin 4) (s : State), ownerMay s slot .hbmStackCfg [k.val] = true → (List.range 16).any (fun j => chUsed s (16 *
    k.val + j) != 0) = true ∨ sealedFor s (84 + k.val) = true → ∃ t, exec (.hbmStackPowerOff slot k) s = .next t ∧ t.acc = (stOk, 0) ∧ rb
    t .hbmStackCfg [k.val] 30 = true ∧ rb t .hbmStackCfg [k.val] 31 = rb s .hbmStackCfg [k.val] 31 ∧ AgreeBut [.acc, .regs] s t) ∧
  (∀ (slot : Fin 4) (k : Fin 4) (s : State), ownerMay s slot .hbmStackCfg [k.val] = true → (List.range 16).any (fun j => chUsed s (16 *
    k.val + j) != 0) = false → sealedFor s (84 + k.val) = false → (stackOf s k.val).st ≠ .off → ∃ t, exec (.hbmStackPowerOff slot k) s =
    .next t ∧ t.acc = (stOk, 0) ∧ (stackOf t k.val).st = .off ∧ (stackOf t k.val).stored = (stackOf s k.val).stored ∧ (hbmCh t (16 * k.val
    + 15)).st = .down ∧ rb t .hbmStackCfg [k.val] 31 = false ∧ AgreeBut [.acc, .regs, .ctr, .fur, .flt, .rcd, .pwr, .hbm] s t) ∧
  (∀ (slot : Fin 4) (k : Fin 4) (s : State), ownerMay s slot .hbmStackCfg [k.val] = true → (stackOf s k.val).st = .off → stackPowered
    (stackDoms (setRB s .hbmStackCfg [k.val] 31 true) k.val true) k.val = true → ∃ t, exec (.hbmStackPowerOn slot k) s = .next t ∧ t.acc =
    (stOk, 0) ∧ (stackOf t k.val).st = .training ∧ (stackOf t k.val).full = !(stackOf s k.val).stored ∧ (stackOf t k.val).x2 = true ∧ rb t
    .hbmStackCfg [k.val] 31 = true ∧ AgreeBut [.acc, .regs, .ctr, .fur, .flt, .rcd, .pwr, .hbm] s t)

/-! ## Queues, scheduling and shaping -/

/-- The egress scheduler. A decision takes the head pointer of the queue that the round robin over the group's ports and the descent from
the port reach: it leaves its queue, its packet leaves for the F-die on the bundle of its group, it and its bytes, charged with ADJ and
at least 1, are counted, and the queue has a delay sample (R380, R382, R393). One older than AGE_MS is dropped, counted, and charges
nothing (R392). The changes of a port's LINK reach the scheduler one by one, in their order (log entry 66). A fall of LINK takes a port
to HOLD for HOLD_MS, or with HOLD_MS 0 to FLUSH; a rise within the hold takes it back to UP; the timer's expiry starts the flush, which
removes what the port's queues hold on-die (R389, R390). The flush ends in UP or DOWN by LINK (Table 13.2). -/
def Obligations.SchedulerDecisions : Prop :=
  (∀ (g : Fin 16) (p : Nat) (r : List (Nat × Nat × Bool) × State) (lv : Nat) (q : Nat) (b : Bool) (x : Ptr) (rest : List Ptr) (s : State),
    blkOn s 0xE = true → rrNext (((List.range 8).map (fun i => 8 * g.val + i)).filter (fun p => (portPick s p).isSome)) (s.sch.rr.get 0
    g.val) = some p → portPick s p = some r → r.1.getLast? = some (lv, q, b) → (qOf s q).on = x :: rest → ptrBad s x = false → tooOld s q
    x = false → gateImpossible s (gatePort s p) (nf s 4 q 6 30 28) x.len (portRate s (gatePort s p)) = false → ∃ t, exec (.schDequeue g) s
    = .next t ∧ (qOf t q).on = rest ∧ (qOf t q).seeded = true ∧ t.ell = (egressSend s p x).ell ∧ ctrAt t (cOff 0xE (p * 0x40)) = (ctrAt s
    (cOff 0xE (p * 0x40))).add 1 ∧ ctrAt t (cOff 0xE (p * 0x40 + 8)) = (ctrAt s (cOff 0xE (p * 0x40 + 8))).add (chargeBytes x.len (rf s
    .schPortCfg [p] 7 0)) ∧ t.sch.rr.get 0 g.val = p + 1 ∧ AgreeBut [.regs, .ctr, .flt, .rcd, .ell, .bpm, .sch] s t) ∧
  (∀ (g : Fin 16) (p : Nat) (r : List (Nat × Nat × Bool) × State) (lv : Nat) (q : Nat) (b : Bool) (x : Ptr) (rest : List Ptr) (s : State),
    blkOn s 0xE = true → rrNext (((List.range 8).map (fun i => 8 * g.val + i)).filter (fun p => (portPick s p).isSome)) (s.sch.rr.get 0
    g.val) = some p → portPick s p = some r → r.1.getLast? = some (lv, q, b) → (qOf s q).on = x :: rest → ptrBad s x = false → tooOld s q
    x = true → ∃ t, exec (.schDequeue g) s = .next t ∧ (qOf t q).on = rest ∧ (qOf t q).seeded = (qOf s q).seeded ∧ ctrAt t (cOff 0xE (p *
    0x40 + 0x10)) = (ctrAt s (cOff 0xE (p * 0x40 + 0x10))).add 1 ∧ ctrAt t (cOff 0xE (p * 0x40)) = ctrAt s (cOff 0xE (p * 0x40)) ∧
    AgreeBut [.regs, .ctr, .flt, .rcd, .bpm, .sch] s t) ∧
  (∀ (p : Fin 128) (rest : List Bool) (s : State), blkOn s 0xE = true → (schPort s p.val).link = false → (portOf s p.val).linkq = true ::
    rest → (schPort s p.val).st = .down → ∃ t, exec (.schLinkChange p) s = .next t ∧ portOf t p.val =
    { portOf s p.val with linkq := rest } ∧ (schPort t p.val).link = true ∧ (schPort t p.val).st = .up ∧ AgreeBut [.sch, .lp] s t) ∧
  (∀ (p : Fin 128) (rest : List Bool) (s : State), blkOn s 0xE = true → (schPort s p.val).link = true → (portOf s p.val).linkq = false ::
    rest → (schPort s p.val).st = .up → 0 < holdMs s p.val → ∃ t, exec (.schLinkChange p) s = .next t ∧ portOf t p.val =
    { portOf s p.val with linkq := rest } ∧ (schPort t p.val).link = false ∧ (schPort t p.val).st = .hold ∧ (schPort t p.val).until' =
    s.now + holdMs s p.val * 1000000 ∧ t.bpm = s.bpm ∧ ctrAt t (cOff 0xE (p.val * 0x40 + 0x18)) = (ctrAt s (cOff 0xE (p.val * 0x40 +
    0x18))).add 1 ∧ AgreeBut [.ctr, .rcd, .sch, .lp] s t) ∧
  (∀ (p : Fin 128) (rest : List Bool) (s : State), blkOn s 0xE = true → (schPort s p.val).link = true → (portOf s p.val).linkq = false ::
    rest → (schPort s p.val).st = .up → holdMs s p.val = 0 → ∃ t, exec (.schLinkChange p) s = .next t ∧ portOf t p.val =
    { portOf s p.val with linkq := rest } ∧ (schPort t p.val).link = false ∧ (schPort t p.val).st = .flush ∧ (queuesOfPort s p.val).all
    (fun q => (qOf t q).on.isEmpty) = true ∧ AgreeBut [.regs, .ctr, .flt, .rcd, .bpm, .hbm, .sch, .lp] s t) ∧
  (∀ (p : Fin 128) (rest : List Bool) (s : State), blkOn s 0xE = true → (schPort s p.val).link = false → (portOf s p.val).linkq = true ::
    rest → (schPort s p.val).st = .hold → ∃ t, exec (.schLinkChange p) s = .next t ∧ portOf t p.val =
    { portOf s p.val with linkq := rest } ∧ (schPort t p.val).link = true ∧ (schPort t p.val).st = .up ∧ t.bpm = s.bpm ∧ ctrAt t (cOff 0xE
    (p.val * 0x40 + 0x20)) = (ctrAt s (cOff 0xE (p.val * 0x40 + 0x20))).add 1 ∧ AgreeBut [.ctr, .rcd, .sch, .lp] s t) ∧
  (∀ (p : Fin 128) (l : Bool) (rest : List Bool) (s : State), blkOn s 0xE = true → (portOf s p.val).linkq = l :: rest → (schPort s
    p.val).link = l → exec (.schLinkChange p) s = .next (setPort s p.val { portOf s p.val with linkq := rest })) ∧
  (∀ (p : Fin 128) (s : State), blkOn s 0xE = true → (schPort s p.val).st = .hold → (schPort s p.val).until' ≤ s.now → ∃ t, exec
    (.schHoldExpire p) s = .next t ∧ (schPort t p.val).st = .flush ∧ (queuesOfPort s p.val).all (fun q => (qOf t q).on.isEmpty) = true ∧
    AgreeBut [.regs, .ctr, .flt, .rcd, .bpm, .hbm, .sch] s t) ∧
  (∀ (p : Fin 128) (s : State), blkOn s 0xE = true → (schPort s p.val).st = .flush → (queuesOfPort s p.val).all (fun q => (qOf s
    q).hbm.all (fun r => !r.dead)) = true → ∃ t, exec (.schFlushDone p) s = .next t ∧ (schPort t p.val).st = (if (schPort s p.val).link
    then .up else .down) ∧ AgreeBut [.ctr, .rcd, .sch] s t)

/-- The node window. The owner's write of a word of the selected node is staged for that node, and changes no value in effect; the token
words and words that the level does not have ignore it (R376, Table 13.6). A write that would exceed 16,384 staged words changes nothing
and sets STAGE_FULL (R376). A write of SCH_N_MAP whose PARENT is no index of the level above, or that sets a field other than EN of a
VOQ or packet channel queue, stages nothing, sets MAP_REJ and completes with OK status (R377). RESEED clears SEEDED of the selected
queue (R393). -/
def Obligations.NodeWindow : Prop :=
  (∀ (slot : Fin 4) (w : Fin 8) (val : Word) (lvl : Nat) (idx : Nat) (s : State), ownerMay s slot (nodeReg w.val) [] = true → s.fur.direct
    = false → selNode s = some (lvl, idx) → (1 ≤ w.val ∧ w.val ≤ 3) ∨ (w.val = 6 ∧ lvl = 4) → (s.fur.opn.find (nodeKey lvl idx
    w.val)).isSome = true ∨ stagedNodes s < 16384 → ∃ t, exec (.schNodeWrite slot .owner w val) s = .next t ∧ t.acc = (stOk, 0) ∧
    t.fur.opn = s.fur.opn.put (nodeKey lvl idx w.val) (some val) ∧ AgreeBut [.acc, .fur] s t) ∧
  (∀ (slot : Fin 4) (w : Fin 8) (val : Word) (lvl : Nat) (idx : Nat) (s : State), ownerMay s slot (nodeReg w.val) [] = true → selNode s =
    some (lvl, idx) → w.val = 4 ∨ w.val = 5 ∨ (w.val = 6 ∧ lvl ≠ 4) → ∃ t, exec (.schNodeWrite slot .owner w val) s = .next t ∧ t.acc =
    (stOk, 0) ∧ AgreeBut [.acc] s t) ∧
  (∀ (slot : Fin 4) (w : Fin 8) (val : Word) (lvl : Nat) (idx : Nat) (s : State), ownerMay s slot (nodeReg w.val) [] = true → s.fur.direct
    = false → selNode s = some (lvl, idx) → 1 ≤ w.val → w.val ≤ 3 → s.fur.opn.find (nodeKey lvl idx w.val) = none → 16384 ≤ stagedNodes s
    → ∃ t, exec (.schNodeWrite slot .owner w val) s = .next t ∧ t.acc = (stOk, 0) ∧ rb t .schStatus [] 30 = true ∧ AgreeBut [.acc, .regs,
    .ctr, .rcd] s t) ∧
  (∀ (slot : Fin 4) (val : Word) (lvl : Nat) (idx : Nat) (s : State), ownerMay s slot .schNMap [] = true → s.fur.direct = false → selNode
    s = some (lvl, idx) → mapBad s lvl idx val = false → (s.fur.opn.find (nodeKey lvl idx 0)).isSome = true ∨ stagedNodes s < 16384 → ∃ t,
    exec (.schMapWrite slot .owner val) s = .next t ∧ t.acc = (stOk, 0) ∧ t.fur.opn = s.fur.opn.put (nodeKey lvl idx 0) (some val) ∧
    AgreeBut [.acc, .fur] s t) ∧
  (∀ (slot : Fin 4) (val : Word) (lvl : Nat) (idx : Nat) (s : State), ownerMay s slot .schNMap [] = true → selNode s = some (lvl, idx) →
    mapBad s lvl idx val = true → ∃ t, exec (.schMapWrite slot .owner val) s = .next t ∧ t.acc = (stOk, 0) ∧ rb t .schStatus [] 31 = true
    ∧ AgreeBut [.acc, .regs] s t) ∧
  (∀ (slot : Fin 4) (q : Nat) (s : State), ownerMay s slot .schNQmax [] = true → selNode s = some (4, q) → ∃ t, exec (.schReseed slot) s =
    .next t ∧ t.acc = (stOk, 0) ∧ qOf t q = { qOf s q with seeded := false } ∧ AgreeBut [.acc, .bpm] s t)

/-! ## Time base and gates -/

/-- The time base. NONE does nothing. STEP, SLEW, CANCEL_SLEW and SET_NOW take the offset and the set value and wait for T, 2 µs ahead, or
for an armed set to apply; SET_AT_PPS waits for the next edge and replaces one that waits (R399). At T a STEP adds its offset, or with a
result outside the range only sets STEP_REJ; a SLEW adds to the remainder, CANCEL_SLEW clears it, and SET_NOW sets the time with
fraction 0 and TIME_VALID (Table 14.1). The clauses on STEP and SET_NOW take a time that crosses no furlong boundary, whose handling R39
gives. An edge latches the time base within 2 ns, by a free value, or the value just set (R401); 1.1 s without one clears PPS_OK and
lapses a waiting SET_AT_PPS (R399, R401). A change of SRC to 1 starts the lock, a loss clears REF_OK, and 10 ms of valid input sets it
(R397). A slew that has run out is reported once (R400). -/
def Obligations.TimeCommands : Prop :=
  (∀ (slot : Fin 4) (s : State), served s = true → isTk s slot.val = true → availAddr s (Reg.addr .tgtTbCmd []) = true → ∃ t, exec
    (.tbNone slot) s = .next t ∧ t.acc = (stOk, 0) ∧ AgreeBut [.acc] s t) ∧
  (∀ (slot : Fin 4) (s : State), served s = true → isTk s slot.val = true → availAddr s (Reg.addr .tgtTbCmd []) = true → ∃ t, exec
    (.tbStep slot) s = .next t ∧ t.acc = (stOk, 0) ∧ t.tgt =
    { s.tgt with cmds := s.tgt.cmds ++ [{ op := 1, ofs := tbOfs s, set := tbSet s, at' := if s.fur.armed then none else some (s.now + 2000) }] }
    ∧ AgreeBut [.acc, .tgt] s t) ∧
  (∀ (slot : Fin 4) (s : State), served s = true → isTk s slot.val = true → availAddr s (Reg.addr .tgtTbCmd []) = true → ∃ t, exec
    (.tbSlew slot) s = .next t ∧ t.acc = (stOk, 0) ∧ t.tgt =
    { s.tgt with cmds := s.tgt.cmds ++ [{ op := 2, ofs := tbOfs s, set := tbSet s, at' := if s.fur.armed then none else some (s.now + 2000) }] }
    ∧ AgreeBut [.acc, .tgt] s t) ∧
  (∀ (slot : Fin 4) (s : State), served s = true → isTk s slot.val = true → availAddr s (Reg.addr .tgtTbCmd []) = true → ∃ t, exec
    (.tbCancelSlew slot) s = .next t ∧ t.acc = (stOk, 0) ∧ t.tgt =
    { s.tgt with cmds := s.tgt.cmds ++ [{ op := 3, ofs := tbOfs s, set := tbSet s, at' := if s.fur.armed then none else some (s.now + 2000) }] }
    ∧ AgreeBut [.acc, .tgt] s t) ∧
  (∀ (slot : Fin 4) (s : State), served s = true → isTk s slot.val = true → availAddr s (Reg.addr .tgtTbCmd []) = true → ∃ t, exec
    (.tbSetNow slot) s = .next t ∧ t.acc = (stOk, 0) ∧ t.tgt =
    { s.tgt with cmds := s.tgt.cmds ++ [{ op := 4, ofs := tbOfs s, set := tbSet s, at' := if s.fur.armed then none else some (s.now + 2000) }] }
    ∧ AgreeBut [.acc, .tgt] s t) ∧
  (∀ (slot : Fin 4) (s : State), served s = true → isTk s slot.val = true → availAddr s (Reg.addr .tgtTbCmd []) = true → ∃ t, exec
    (.tbSetAtPps slot) s = .next t ∧ t.acc = (stOk, 0) ∧ t.tgt = { s.tgt with ppsWait := some (tbSet s, s.now) } ∧ AgreeBut [.acc, .tgt] s
    t) ∧
  (∀ (c : TbCmd) (s : State), onIsland s = true → s.chain.heldResp = none → s.tgt.cmds = [c] → cmdDue s.now c = true → c.op = 1 →
    s.tgt.valid = true → 0 ≤ (s.tgt.tb : Int) + c.ofs * ofsUnit → ((s.tgt.tb : Int) + c.ofs * ofsUnit) < ((2 ^ 64 * tbUnit : Nat) : Int) →
    ((s.tgt.tb : Int) + c.ofs * ofsUnit).toNat / tbUnit < s.fur.nextB → ∃ t, exec (.tbCmdApply) s = .next t ∧ t.tgt.cmds = [] ∧ t.tgt.tb =
    ((s.tgt.tb : Int) + c.ofs * ofsUnit).toNat ∧ t.tgt.valid = true ∧ t.tgt.slew = s.tgt.slew ∧ ctrAt t (cOff 0xF 0x80000) = (ctrAt s
    (cOff 0xF 0x80000)).add 1 ∧ AgreeBut [.ctr, .fur, .rcd, .tgt, .sch] s t) ∧
  (∀ (c : TbCmd) (s : State), onIsland s = true → s.chain.heldResp = none → s.tgt.cmds = [c] → cmdDue s.now c = true → c.op = 1 →
    s.tgt.valid = true → (s.tgt.tb : Int) + c.ofs * ofsUnit < 0 ∨ ((2 ^ 64 * tbUnit : Nat) : Int) ≤ (s.tgt.tb : Int) + c.ofs * ofsUnit → ∃
    t, exec (.tbCmdApply) s = .next t ∧ t.tgt.cmds = [] ∧ t.tgt = { s.tgt with cmds := [] } ∧ rb t .tgtStatus [] 29 = true ∧ AgreeBut
    [.regs, .tgt] s t) ∧
  (∀ (c : TbCmd) (s : State), onIsland s = true → s.chain.heldResp = none → s.tgt.cmds = [c] → cmdDue s.now c = true → c.op = 2 → ∃ t,
    exec (.tbCmdApply) s = .next t ∧ t.tgt.cmds = [] ∧ t.tgt.slew = (if s.tgt.valid then s.tgt.slew + c.ofs * ofsUnit else s.tgt.slew) ∧
    t.tgt.tb = s.tgt.tb ∧ AgreeBut [.tgt] s t) ∧
  (∀ (c : TbCmd) (s : State), onIsland s = true → s.chain.heldResp = none → s.tgt.cmds = [c] → cmdDue s.now c = true → c.op = 3 → ∃ t,
    exec (.tbCmdApply) s = .next t ∧ t.tgt.cmds = [] ∧ t.tgt.slew = 0 ∧ t.tgt.tb = s.tgt.tb ∧ AgreeBut [.tgt] s t) ∧
  (∀ (c : TbCmd) (s : State), onIsland s = true → s.chain.heldResp = none → s.tgt.cmds = [c] → cmdDue s.now c = true → c.op = 4 → c.set <
    s.fur.nextB → ∃ t, exec (.tbCmdApply) s = .next t ∧ t.tgt.cmds = [] ∧ t.tgt.tb = c.set * tbUnit ∧ t.tgt.valid = true ∧ t.tgt.slew =
    s.tgt.slew ∧ ctrAt t (cOff 0xF 0x80000) = (ctrAt s (cOff 0xF 0x80000)).add 1 ∧ AgreeBut [.ctr, .fur, .rcd, .tgt, .sch] s t) ∧
  (∀ (s : State), onIsland s = true → s.tgt.ppsWait = none → ∃ t, exec (.ppsEdge) s = .next t ∧ t.tgt =
    { s.tgt with ppsCap := t.tgt.ppsCap, ppsOk := true, ppsAt := some s.now } ∧ t.tgt.ppsCap ≤ s.tgt.tb + 2 * tbUnit ∧ s.tgt.tb ≤
    t.tgt.ppsCap + 2 * tbUnit ∧ rb t .tgtPpsCapFrac [] 31 = true ∧ AgreeBut [.free, .regs, .tgt] s t) ∧
  (∀ (ns : Nat) (t0 : Nat) (s : State), onIsland s = true → s.tgt.ppsWait = some (ns, t0) → ns < s.fur.nextB → ∃ t, exec (.ppsEdge) s =
    .next t ∧ t.tgt.tb = ns * tbUnit ∧ t.tgt.valid = true ∧ t.tgt.ppsCap = ns * tbUnit ∧ t.tgt.ppsOk = true ∧ t.tgt.ppsWait = none ∧ rb t
    .tgtPpsCapFrac [] 31 = true ∧ AgreeBut [.free, .regs, .ctr, .fur, .rcd, .tgt, .sch] s t) ∧
  (∀ (ns : Nat) (t0 : Nat) (t1 : Nat) (s : State), s.tgt.ppsWait = some (ns, t0) → t0 + 1100000000 ≤ s.now → s.tgt.ppsAt = some t1 → t1 +
    1100000000 ≤ s.now → ∃ t, exec (.ppsTimeout) s = .next t ∧ t.tgt = { s.tgt with ppsOk := false, ppsWait := none } ∧ ctrAt t (cOff 0xF
    0x80008) = (ctrAt s (cOff 0xF 0x80008)).add 1 ∧ AgreeBut [.ctr, .tgt] s t) ∧
  (∀ (s : State), s.tgt.slewEnd = true → ∃ t, exec (.slewDone) s = .next t ∧ t.tgt = { s.tgt with slewEnd := false } ∧ AgreeBut [.ctr,
    .rcd, .tgt] s t) ∧
  (∀ (slot : Fin 4) (val : Word) (s : State), served s = true → isTk s slot.val = true → availAddr s (Reg.addr .tgtTbCtrl []) = true → ∃
    t, exec (.tbSrcWrite slot val) s = .next t ∧ t.acc = (stOk, 0) ∧ regRaw t .tgtTbCtrl [] = (regRaw s .tgtTbCtrl [] &&& ~~~(0x0FFF0000 :
    Word)) ||| (val &&& 0x0FFF0000) ∧ t.tgt =
    { s.tgt with refOk := (if fld val 27 26 = 1 ∧ tbSrc s = 1 then s.tgt.refOk else false), refSince := (if fld val 27 26 = 1 then (if tbSrc s = 1 then s.tgt.refSince else some s.now) else none) }
    ∧ AgreeBut [.acc, .regs, .tgt] s t) ∧
  (∀ (s : State), onIsland s = true → tbSrc s = 1 → ∃ t, exec (.timeRefLoss) s = .next t ∧ t.tgt =
    { s.tgt with refOk := false, refSince := some s.now } ∧ AgreeBut [.ctr, .rcd, .tgt] s t) ∧
  (∀ (t0 : Nat) (s : State), onIsland s = true → tbSrc s = 1 → s.tgt.refOk = false → s.tgt.refSince = some t0 → t0 + 10000000 ≤ s.now → ∃
    t, exec (.timeRefLock) s = .next t ∧ t.tgt = { s.tgt with refOk := true, refSince := none } ∧ AgreeBut [.ctr, .flt, .rcd, .tgt] s t)

/-- Gates. At S a pending switch makes the new list operational, records S, counts and reports (R407); the present entry is the one at the
gate time (R405, R406). A write of a list memory in use changes nothing and sets GCL_REJ, and a write of the other one takes effect
(R408). A write that would stage a CYCLE or a LEN out of range changes no open value and sets CFG_REJ; any other is staged; both
complete with OK status (R409). -/
def Obligations.GateCommands : Prop :=
  (∀ (p : Fin 128) (sw : Nat) (d : Nat × Nat × Nat × Nat) (s : State), blkOn s 0xF = true → (gateOf s p.val).pend = some (sw, d) → sw ≤
    tbNs s → ∃ t, exec (.gateSwitch p) s = .next t ∧ (gateOf t p.val).oper = some d ∧ (gateOf t p.val).pend = none ∧ (gateOf t
    p.val).lastS = sw ∧ (gateOf t p.val).maxOpen.get 0xFFFFFFFF 7 = maxOpenOf (slotsOf s p.val d) 7 ∧ ctrAt t (cOff 0xF (p.val * 0x20)) =
    (ctrAt s (cOff 0xF (p.val * 0x20))).add 1 ∧ AgreeBut [.ctr, .rcd, .tgt] s t) ∧
  (∀ (p : Fin 128) (s : State), blkOn s 0xF = true → ∃ t, exec (.gateEntryAdvance p) s = .next t ∧ gateOf t p.val =
    { gateOf s p.val with entry := entryNow s p.val } ∧ AgreeBut [.tgt] s t) ∧
  (∀ (slot : Fin 4) (p : Fin 128) (mem : Bool) (e : Fin 1024) (w1 : Bool) (val : Word) (s : State), ownerMay s slot (if w1 then .tgtGclW1
    else .tgtGclW0) [p.val, mem.toNat, e.val] = true → gclInUse s p.val mem.toNat = false → ∃ t, exec (.gclWrite slot p mem e w1 val) s =
    .next t ∧ t.acc = (stOk, 0) ∧ t.tgt.lists.get (0, 0) ((p.val * 2 + mem.toNat) * 1024 + e.val) = (if w1 then ((s.tgt.lists.get (0, 0)
    ((p.val * 2 + mem.toNat) * 1024 + e.val)).1, val.toNat) else (fld val 7 0, (s.tgt.lists.get (0, 0) ((p.val * 2 + mem.toNat) * 1024 +
    e.val)).2)) ∧ t.tgt.gates = s.tgt.gates ∧ AgreeBut [.acc, .tgt] s t) ∧
  (∀ (slot : Fin 4) (p : Fin 128) (mem : Bool) (e : Fin 1024) (w1 : Bool) (val : Word) (s : State), ownerMay s slot (if w1 then .tgtGclW1
    else .tgtGclW0) [p.val, mem.toNat, e.val] = true → gclInUse s p.val mem.toNat = true → ∃ t, exec (.gclWrite slot p mem e w1 val) s =
    .next t ∧ t.acc = (stOk, 0) ∧ rb t .tgtStatus [] 30 = true ∧ AgreeBut [.acc, .regs] s t) ∧
  (∀ (slot : Fin 4) (p : Fin 128) (regB : Bool) (val : Word) (s : State), ownerMay s slot (if regB then .tgtGcfgB else .tgtGcfgA) [p.val]
    = true → gateCfgBad regB val = true → ∃ t, exec (.gateCfgWrite slot p regB val) s = .next t ∧ t.acc = (stOk, 0) ∧ rb t .tgtStatus []
    31 = true ∧ AgreeBut [.acc, .regs] s t) ∧
  (∀ (slot : Fin 4) (p : Fin 128) (regB : Bool) (val : Word) (s : State), ownerMay s slot (if regB then .tgtGcfgB else .tgtGcfgA) [p.val]
    = true → gateCfgBad regB val = false → s.fur.direct = false → ∃ t, exec (.gateCfgWrite slot p regB val) s = .next t ∧ t.acc = (stOk,
    0) ∧ t.fur.opn = s.fur.opn.put (Reg.addr (if regB then .tgtGcfgB else .tgtGcfgA) [p.val]) (some (val &&& (if regB then 0xFFFFFFFF else
    0xF0FF07FF))) ∧ AgreeBut [.acc, .fur] s t)

/-! ## The fabric -/

/-- Fabric lanes (Table 15.1). EN 1 takes a lane from OFF to TRAIN, or with TRAIN_EN 0 to DELIN; EN 0 takes it to OFF. A trained lane
enters DELIN; 2,000 ms in TRAIN and 100 ms in a DELIN not entered from UP are failures, which back off 1 s, doubling to 16 s; 10 ms of
unbroken alignment and delineation take it UP; a loss ends both and takes it from UP to DELIN, and 100 ms there start it again (R417). A
hold-off ends at its expiry or when the partner is detected. An UP lane sends a HEARTBEAT to its own device every 10 µs; one that
returns counts for the lane it names (R442). A window end starts the measurement again, and with the rule off makes no lane slow (R443).
REJOIN ends a slow verdict (R443). -/
def Obligations.FabricLanes : Prop :=
  (∀ (slot : Fin 4) (l : Fin 192) (val : Word) (s : State), ownerMay s slot .fabLaneCfg [l.val] = true → (laneOf s l.val).st = .off → ∃ t,
    exec (.fabLaneEnable slot l val) s = .next t ∧ t.acc = (stOk, 0) ∧ regRaw t .fabLaneCfg [l.val] = (val ||| 0x80000000) &&& 0xC0000000
    ∧ (laneOf t l.val).st = (if tbit val 30 then .train else .delin) ∧ (laneOf t l.val).since = s.now ∧ AgreeBut [.acc, .regs, .ctr, .rcd,
    .fab] s t) ∧
  (∀ (slot : Fin 4) (l : Fin 192) (val : Word) (s : State), ownerMay s slot .fabLaneCfg [l.val] = true → ∃ t, exec (.fabLaneDisable slot l
    val) s = .next t ∧ t.acc = (stOk, 0) ∧ regRaw t .fabLaneCfg [l.val] = val &&& 0x40000000 ∧ (laneOf t l.val).st = .off ∧ AgreeBut
    [.acc, .regs, .ctr, .rcd, .fab] s t) ∧
  (∀ (slot : Fin 4) (l : Fin 192) (s : State), ownerMay s slot .fabLaneCfg [l.val] = true → rb s .fabLaneCfg [l.val] 31 = true → (laneOf s
    l.val).st ≠ .off → ∃ t, exec (.fabLaneRejoin slot l) s = .next t ∧ t.acc = (stOk, 0) ∧ laneOf t l.val =
    { laneOf s l.val with slow := false } ∧ AgreeBut [.acc, .regs, .ctr, .rcd, .fab] s t) ∧
  (∀ (l : Fin 192) (s : State), laneOn s l.val = true → fwRuns s = true → (laneOf s l.val).st = .train → ∃ t, exec (.fabLaneTrained l) s =
    .next t ∧ laneOf t l.val = { unlocked (laneOf s l.val) with st := .delin, since := s.now, fromUp := false } ∧ AgreeBut [.fab] s t) ∧
  (∀ (l : Fin 192) (s : State), laneOn s l.val = true → (laneOf s l.val).st = .train → (laneOf s l.val).since + 2000000000 ≤ s.now →
    (laneOf s l.val).fails < 15 → ∃ t, exec (.fabLaneTrainTimeout l) s = .next t ∧ (laneOf t l.val).st = .holdoff ∧ (laneOf t l.val).fails
    = min 15 ((laneOf s l.val).fails + 1) ∧ (laneOf t l.val).deadline = s.now + min 16 (2 ^ (laneOf s l.val).fails) * 1000000000 ∧
    AgreeBut [.fab] s t) ∧
  (∀ (l : Fin 192) (s : State), laneOn s l.val = true → (laneOf s l.val).st = .delin → (laneOf s l.val).fromUp = false → (laneOf s
    l.val).since + 100000000 ≤ s.now → (laneOf s l.val).fails < 15 → ∃ t, exec (.fabLaneDelinTimeout l) s = .next t ∧ (laneOf t l.val).st
    = .holdoff ∧ (laneOf t l.val).fails = min 15 ((laneOf s l.val).fails + 1) ∧ (laneOf t l.val).deadline = s.now + min 16 (2 ^ (laneOf s
    l.val).fails) * 1000000000 ∧ AgreeBut [.fab] s t) ∧
  (∀ (l : Fin 192) (s : State), laneOn s l.val = true → (laneOf s l.val).st = .delin → (laneOf s l.val).fromUp = true → (laneOf s
    l.val).since + 100000000 ≤ s.now → ∃ t, exec (.fabLaneDelinTimeout l) s = .next t ∧ (laneOf t l.val).st = (if rb s .fabLaneCfg [l.val]
    30 then .train else .delin) ∧ (laneOf t l.val).fails = (laneOf s l.val).fails ∧ AgreeBut [.fab] s t) ∧
  (∀ (l : Fin 192) (t0 : Nat) (s : State), laneOn s l.val = true → (laneOf s l.val).st = .delin → (laneOf s l.val).goodAt = some t0 → t0 +
    10000000 ≤ s.now → ∃ t, exec (.fabLaneDelinStable l) s = .next t ∧ (laneOf t l.val).st = .up ∧ (laneOf t l.val).fails = 0 ∧ (laneOf t
    l.val).slow = (laneOf s l.val).slow ∧ AgreeBut [.ctr, .rcd, .fab] s t) ∧
  (∀ (l : Fin 192) (cdr : Bool) (s : State), laneOn s l.val = true → (laneOf s l.val).st = .up → ∃ t, exec (.fabLaneLoss l cdr) s = .next
    t ∧ (laneOf t l.val).st = .delin ∧ (laneOf t l.val).fromUp = true ∧ (laneOf t l.val).delin = false ∧ (laneOf t l.val).fec = false ∧
    (laneOf t l.val).cdr = ((laneOf s l.val).cdr && !cdr) ∧ inSpray t l.val = false ∧ t.fab.tx = s.fab.tx ∧ AgreeBut [.ctr, .rcd, .fab] s
    t) ∧
  (∀ (l : Fin 192) (cdr : Bool) (s : State), laneOn s l.val = true → (laneOf s l.val).st = .delin → ∃ t, exec (.fabLaneLoss l cdr) s =
    .next t ∧ laneOf t l.val = { unlocked (laneOf s l.val) with cdr := (laneOf s l.val).cdr && !cdr } ∧ AgreeBut [.fab] s t) ∧
  (∀ (l : Fin 192) (partner : Bool) (s : State), laneOn s l.val = true → (laneOf s l.val).st = .holdoff → partner = true ∨ (laneOf s
    l.val).deadline ≤ s.now → ∃ t, exec (.fabLaneHoldoffEnd l partner) s = .next t ∧ (laneOf t l.val).st = (if rb s .fabLaneCfg [l.val] 30
    then .train else .delin) ∧ (laneOf t l.val).fails = (laneOf s l.val).fails ∧ AgreeBut [.fab] s t) ∧
  (∀ (l : Fin 192) (s : State), laneOn s l.val = true → (laneOf s l.val).st = .up → (laneOf s l.val).hbAt ≤ s.now → s.fab.sw = none → ∃ t,
    exec (.fabHeartbeatTimer l) s = .next t ∧ (laneOf t l.val).hbAt = s.now + 10000 ∧ (laneOf t l.val).last = some
    { kind := 1, ddev := devId s, plane := l.val / 96, msgs := [.heartbeat l.val (tbNs s % 2 ^ 32)] } ∧ (laneOf t l.val).wire = cellWire
    (devId s) { kind := 1, ddev := devId s, plane := l.val / 96, msgs := [.heartbeat l.val (tbNs s % 2 ^ 32)] } ∧ ctrAt t (cOff 0x10
    (0x40000 + l.val * 0x20)) = (ctrAt s (cOff 0x10 (0x40000 + l.val * 0x20))).add 1 ∧ AgreeBut [.ctr, .fab] s t) ∧
  (∀ (l : Fin 192) (ns : Word) (s : State), blkOn s 0x10 = true → ∃ t, exec (.fabMsgHeartbeat l ns) s = .next t ∧ laneOf t l.val =
    { laneOf s l.val with n := (laneOf s l.val).n + 1, sum := (laneOf s l.val).sum + (tbNs s + 2 ^ 32 - ns.toNat) % 2 ^ 32 } ∧ (planeOf t
    (l.val / 96)).lastHb = some s.now ∧ (planeOf t (l.val / 96)).st = (planeOf s (l.val / 96)).st ∧ AgreeBut [.fab] s t) ∧
  (∀ (s : State), blkOn s 0x10 = true → s.fab.win ≠ tbNs s / 1000000 → rb s .fabLagCfg [] 31 = false → ∃ t, exec (.fabLagWindow) s = .next
    t ∧ t.fab.win = tbNs s / 1000000 ∧ (laneOf t 191).n = 0 ∧ (laneOf t 191).mean = (if (laneOf s 191).n = 0 then 0 else min 0xFFFF
    ((laneOf s 191).sum / (laneOf s 191).n)) ∧ (laneOf t 191).slow = (laneOf s 191).slow ∧ AgreeBut [.fab] s t)

/-- Fabric streams. REQ and CREDIT messages of a peer set the totals they carry (R425, R426); every REFRESH_US all totals are sent again;
a full quantum goes to the requesting flow of lowest FCLASS in round robin (R426). A selected head pointer leaves its VOQ for its
stream, charged L + 32 to its flow (R425, R428). Credit beyond the needs of a flow without packets is given up and counted (R427). SYNC
NEW opens a receive stream at its SEQ and is answered, SYNC_ACK with the SEQ opens a transmit stream, RESYNC abandons its cells (Tables
15.5, R433). A lane seeks the cell boundary by HCRC at the 8 phases, has it after 6 good cells and loses it after 7 bad ones (R421; all
phases tried at once: the model's choice, log entry 68). Control messages go first, then replays, new cells and IDLE (the order: log
entry 68). A cell equal to NEXT is released, one ahead is held, one behind or held already is discarded and counted (R437); with a bad
header or payload it is discarded and counted (R420). An ACK frees the cells it covers, and one that covers none is counted (R435). A
NAK, and ACK_TMO without progress, have cells sent again behind a PEND (R439); a cell sent REPLAY_LIMIT times makes the stream
UNREACHABLE (R432). Markers and timers run as R435, R438, R440 and R441 say. -/
def Obligations.FabricStreams : Prop :=
  (∀ (d : Fin 256) (port : Fin 128) (cls : Fin 4) (total : Word) (s : State), blkOn s 0x10 = true → peerEn s d.val = true → ∃ t, exec
    (.fabMsgReq d port cls total) s = .next t ∧ t.fab.rxf.get {} (d.val * 512 + port.val * 4 + cls.val) =
    { s.fab.rxf.get {} (d.val * 512 + port.val * 4 + cls.val) with req := total.toNat } ∧ t.fab.txf = s.fab.txf ∧ AgreeBut [.fab] s t) ∧
  (∀ (d : Fin 256) (port : Fin 128) (cls : Fin 4) (total : Word) (s : State), blkOn s 0x10 = true → peerEn s d.val = true → flowWaiting s
    (d.val * 512 + port.val * 4 + cls.val) ≠ 0 ∨ diff32 total.toNat (s.fab.txf.get {} (d.val * 512 + port.val * 4 + cls.val)).used ≤ 0 → ∃
    t, exec (.fabMsgCredit d port cls total) s = .next t ∧ t.fab.txf.get {} (d.val * 512 + port.val * 4 + cls.val) =
    { s.fab.txf.get {} (d.val * 512 + port.val * 4 + cls.val) with cred := total.toNat } ∧ t.fab.rxf = s.fab.rxf ∧ AgreeBut [.fab] s t) ∧
  (∀ (d : Fin 256) (port : Fin 128) (cls : Fin 4) (total : Word) (s : State), blkOn s 0x10 = true → peerEn s d.val = true → flowWaiting s
    (d.val * 512 + port.val * 4 + cls.val) = 0 → 0 < diff32 total.toNat (s.fab.txf.get {} (d.val * 512 + port.val * 4 + cls.val)).used → ∃
    t, exec (.fabMsgCredit d port cls total) s = .next t ∧ (t.fab.txf.get {} (d.val * 512 + port.val * 4 + cls.val)).cred = total.toNat ∧
    (t.fab.txf.get {} (d.val * 512 + port.val * 4 + cls.val)).used = total.toNat ∧ ctrAt t (cOff 0x10 0x78) = (ctrAt s (cOff 0x10
    0x78)).add (diff32 total.toNat (s.fab.txf.get {} (d.val * 512 + port.val * 4 + cls.val)).used).toNat ∧ AgreeBut [.ctr, .fab] s t) ∧
  (∀ (s : State), blkOn s 0x10 = true → s.fab.refreshAt ≤ s.now → ∃ t, exec (.fabReqRefresh) s = .next t ∧ t.fab.refreshAt = s.now + usNs
    (rf s .fabCreditCfg [] 15 0) ∧ t.fab.txf.entries.all (fun e => e.2.due) = true ∧ t.fab.rxf.entries.all (fun e => e.2.due) = true ∧
    AgreeBut [.fab] s t) ∧
  (∀ (p : Fin 128) (c : Nat) (d : Nat) (s : State), blkOn s 0x10 = true → genRuns s p.val = true → quantumBytes s * 512 ≤ genNow s p.val →
    (List.range 4).find? (fun c => !(requesting s p.val c).isEmpty) = some c → rrNext (requesting s p.val c) (s.fab.rrSrc.get 0 (p.val * 4
    + c)) = some d → ∃ t, exec (.fabCreditGrant p) s = .next t ∧ (t.fab.rxf.get {} (d * 512 + p.val * 4 + c)).cred = ((s.fab.rxf.get {} (d
    * 512 + p.val * 4 + c)).cred + min (quantumBytes s) (((diff32 (s.fab.rxf.get {} (d * 512 + p.val * 4 + c)).req (s.fab.rxf.get {} (d *
    512 + p.val * 4 + c)).cred).toNat + 255) / 256 * 256)) % 2 ^ 32 ∧ (t.fab.rxf.get {} (d * 512 + p.val * 4 + c)).due = true ∧
    t.fab.gen.get 0 p.val = genNow s p.val - quantumBytes s * 512 ∧ AgreeBut [.fab] s t) ∧
  (∀ (q : Nat) (x : Ptr) (rest : List Ptr) (s : State), blkOn s 0x10 = true → voqPick s = some q → (qOf s q).on = x :: rest → ptrBad s x =
    false → tooOld s q x = false → ∃ t, exec (.fabTxSelect) s = .next t ∧ (qOf t q).on = rest ∧ (txOf t (flowOf s q / 512) (tfld
    (fabTicket s q x) 244 244)).out = (txOf s (flowOf s q / 512) (tfld (fabTicket s q x) 244 244)).out ++ beBytes 32 (fabTicket s q
    x).toNat ++ ptrBytes s x ∧ t.fab.rrVoq.get 0 (flowOf s q) = q + 1 ∧ (qOf t q).seeded = true ∧ AgreeBut [.regs, .ctr, .flt, .rcd, .bpm,
    .sch, .fab] s t) ∧
  (∀ (d : Fin 256) (st : Fin 2) (seq : BitVec 18) (pl : Fin 2) (s : State), blkOn s 0x10 = true → peerEn s d.val = true → ∃ t, exec
    (.fabMsgSync d st false seq pl) s = .next t ∧ ((rxOf t d.val st.val).open', (rxOf t d.val st.val).next) = (true, seq.toNat) ∧ (rxOf t
    d.val st.val).held = {} ∧ t.fab.ctrl = s.fab.ctrl ++ [(d.val, none, .syncAck st.val false seq.toNat)] ∧ t.fab.tx = s.fab.tx ∧ AgreeBut
    [.regs, .ctr, .flt, .rcd, .bpm, .fab] s t) ∧
  (∀ (d : Fin 256) (st : Fin 2) (seq : BitVec 18) (pl : Fin 2) (s : State), blkOn s 0x10 = true → peerEn s d.val = true → ∃ t, exec
    (.fabMsgSync d st true seq pl) s = .next t ∧ t.fab.ctrl = s.fab.ctrl ++ [(if (rxOf s d.val st.val).open' ∧ (seq.toNat + 2 ^ 18 - (rxOf
    s d.val st.val).next) % 2 ^ 18 < 131072 then (d.val, some pl.val, .syncAck st.val true seq.toNat) else (d.val, none, .resync st.val))]
    ∧ t.fab.rx = s.fab.rx ∧ AgreeBut [.fab] s t) ∧
  (∀ (d : Fin 256) (st : Fin 2) (seq : BitVec 18) (pl : Fin 2) (s : State), blkOn s 0x10 = true → (txOf s d.val st.val).st = .syncing →
    seq.toNat = (txOf s d.val st.val).seq → ∃ t, exec (.fabMsgSyncAck d st false seq pl) s = .next t ∧ txOf t d.val st.val =
    { txOf s d.val st.val with st := .open', prog := s.now, planes := 3 } ∧ AgreeBut [.fab] s t) ∧
  (∀ (d : Fin 256) (st : Fin 2) (seq : BitVec 18) (pl : Fin 2) (s : State), blkOn s 0x10 = true → (txOf s d.val st.val).st = .open' →
    (txOf s d.val st.val).planes.testBit (2 + pl.val) = true → ∃ t, exec (.fabMsgSyncAck d st true seq pl) s = .next t ∧ (txOf t d.val
    st.val).planes.testBit pl.val = true ∧ (txOf t d.val st.val).planes.testBit (2 + pl.val) = false ∧ (txOf t d.val st.val).cells = (txOf
    s d.val st.val).cells ∧ AgreeBut [.fab] s t) ∧
  (∀ (d : Fin 256) (st : Fin 2) (s : State), blkOn s 0x10 = true → (txOf s d.val st.val).st = .open' → ∃ t, exec (.fabMsgResync d st) s =
    .next t ∧ (txOf t d.val st.val).st = .syncing ∧ (txOf t d.val st.val).cells = [] ∧ (txOf t d.val st.val).seq = (txOf s d.val
    st.val).seq ∧ ctrAt t (cOff 0x10 0x10) = (ctrAt s (cOff 0x10 0x10)).add (txOf s d.val st.val).cells.length ∧ AgreeBut [.ctr, .rcd,
    .fab] s t) ∧
  (∀ (d : Fin 256) (st : Fin 2) (s : State), blkOn s 0x10 = true → (txOf s d.val st.val).st = .syncing → (txOf s d.val st.val).at' ≤ s.now
    → ∃ t, exec (.fabSyncTimer d st) s = .next t ∧ t.fab.ctrl = s.fab.ctrl ++ (carryPlanes s).map (fun pl => (d.val, some pl, .sync st.val
    false (txOf s d.val st.val).seq)) ∧ (txOf t d.val st.val).at' = s.now + 100000 ∧ (txOf t d.val st.val).st = .syncing ∧ AgreeBut [.fab]
    s t) ∧
  (∀ (d : Fin 256) (st : Fin 2) (s : State), blkOn s 0x10 = true → (txOf s d.val st.val).st = .unreachable → (txOf s d.val st.val).at' ≤
    s.now → ∃ t, exec (.fabUnreachTimer d st) s = .next t ∧ txOf t d.val st.val =
    { txOf s d.val st.val with st := .syncing, at' := s.now } ∧ AgreeBut [.fab] s t) ∧
  (∀ (d : Fin 256) (st : Fin 2) (seq : BitVec 18) (i : Nat) (s : State), blkOn s 0x10 = true → peerEn s d.val = true → (txOf s d.val
    st.val).cells.findIdx? (fun c => c.seq == seq.toNat) = some i → ∃ t, exec (.fabMsgAck d st seq) s = .next t ∧ (txOf t d.val
    st.val).cells = (txOf s d.val st.val).cells.drop (i + 1) ∧ (txOf t d.val st.val).st = (txOf s d.val st.val).st ∧ AgreeBut [.fab] s t) ∧
  (∀ (d : Fin 256) (st : Fin 2) (seq : BitVec 18) (s : State), blkOn s 0x10 = true → peerEn s d.val = true → (txOf s d.val
    st.val).cells.findIdx? (fun c => c.seq == seq.toNat) = none → ∃ t, exec (.fabMsgAck d st seq) s = .next t ∧ t.fab = s.fab ∧ ctrAt t
    (cOff 0x10 0x80) = (ctrAt s (cOff 0x10 0x80)).add 1 ∧ AgreeBut [.ctr] s t) ∧
  (∀ (d : Fin 256) (st : Fin 2) (seq : BitVec 18) (miss : BitVec 64) (c : TxCell) (s : State), blkOn s 0x10 = true → (txOf s d.val
    st.val).cells = [c] → c.bad = false → (txOf s d.val st.val).replay = [] → (c.seq + 2 ^ 18 - seq.toNat) % 2 ^ 18 < 64 →
    miss.toNat.testBit ((c.seq + 2 ^ 18 - seq.toNat) % 2 ^ 18) = true → c.at' + 2 * nakNs s < s.now → c.n < replayLimit s → ∃ t, exec
    (.fabMsgNak d st seq miss) s = .next t ∧ (txOf t d.val st.val).replay = [c.seq] ∧ (txOf t d.val st.val).cells = [c] ∧ t.fab.ctrl =
    s.fab.ctrl ++ (carryPlanes s).map (fun pl => (d.val, some pl, .pend st.val c.seq c.seq)) ∧ AgreeBut [.fab] s t) ∧
  (∀ (d : Fin 256) (st : Fin 2) (seq : BitVec 18) (miss : BitVec 64) (c : TxCell) (s : State), blkOn s 0x10 = true → (txOf s d.val
    st.val).cells = [c] → c.bad = false → (txOf s d.val st.val).replay = [] → (c.seq + 2 ^ 18 - seq.toNat) % 2 ^ 18 < 64 →
    miss.toNat.testBit ((c.seq + 2 ^ 18 - seq.toNat) % 2 ^ 18) = true → c.at' + 2 * nakNs s < s.now → replayLimit s ≤ c.n → ∃ t, exec
    (.fabMsgNak d st seq miss) s = .next t ∧ (txOf t d.val st.val).st = .unreachable ∧ (txOf t d.val st.val).cells = [] ∧ (txOf t d.val
    st.val).at' = s.now + 1000000 ∧ ctrAt t (cOff 0x10 0x10) = (ctrAt s (cOff 0x10 0x10)).add 1 ∧ AgreeBut [.ctr, .flt, .rcd, .fab] s t) ∧
  (∀ (d : Fin 256) (st : Fin 2) (c : TxCell) (s : State), blkOn s 0x10 = true → (txOf s d.val st.val).st = .open' → (txOf s d.val
    st.val).cells = [c] → c.bad = false → (txOf s d.val st.val).replay = [] → (txOf s d.val st.val).prog + ackTmoNs s ≤ s.now → c.n <
    replayLimit s → ∃ t, exec (.fabAckTimeout d st) s = .next t ∧ (txOf t d.val st.val).replay = [c.seq] ∧ (txOf t d.val st.val).prog =
    s.now ∧ (txOf t d.val st.val).cells = [c] ∧ AgreeBut [.fab] s t) ∧
  (∀ (d : Nat) (st : Nat) (s : State), blkOn s 0x10 = true → s.fab.begun = true → s.fab.sw = none → ctrlTarget s = none → strmNext s false
    = none → strmNext s true = some (d, st) → firkinUsed s < 131072 → sprayOf s 0 ++ sprayOf s 1 ≠ [] → st = 0 → strmPlanes s d st = [0,
    1] → ∃ t, exec (.fabCellTx) s = .next t ∧ (txOf t d st).out = (txOf s d st).out.drop 240 ∧ (txOf t d st).seq = ((txOf s d st).seq + 1)
    % 2 ^ 18 ∧ (txOf t d st).cells.map (fun c => (c.seq, c.bytes, c.first)) = (txOf s d st).cells.map (fun c => (c.seq, c.bytes, c.first))
    ++ [((txOf s d st).seq, (txOf s d st).out.take 240, (txOf s d st).starts.find? (fun o => decide (o < 240)))] ∧ AgreeBut [.regs, .ctr,
    .fab] s t) ∧
  (∀ (d : Nat) (st : Nat) (s : State), blkOn s 0x10 = true → s.fab.begun = true → s.fab.sw = none → ctrlTarget s = none → strmNext s false
    = none → strmNext s true = some (d, st) → 131072 ≤ firkinUsed s → ∃ t, exec (.fabCellTx) s = .next t ∧ t.fab.stall = true ∧ t.fab.tx =
    s.fab.tx ∧ AgreeBut [.ctr, .rcd, .fab] s t) ∧
  (∀ (l : Nat) (s : State), blkOn s 0x10 = true → s.fab.sw = none → s.fab.begun = false → (peerStreams s).find? (fun x => (rxOf s x.1
    x.2).open' && (rxOf s x.1 x.2).ackDue.isSome) = none → [0, 1].find? (fun k => (rxOf s (devId s) k).open' && (rxOf s (devId s)
    k).ackDue.isSome) = none → rrNext ((carryPlanes s).flatMap (sprayOf s)) (s.fab.rr.get 0 0) = some l → ∃ t, exec (.fabCellTx) s = .next
    t ∧ (laneOf t l).last = some { kind := 2, ddev := devId s, plane := l / 96 } ∧ (laneOf t l).wire = cellWire (devId s)
    { kind := 2, ddev := devId s, plane := l / 96 } ∧ t.fab.tx = s.fab.tx ∧ AgreeBut [.ctr, .fab] s t) ∧
  (∀ (l : Nat) (d : Nat) (m : FabMsg) (s : State), blkOn s 0x10 = true → s.fab.sw = none → s.fab.begun = true → s.fab.ctrl = [(d, none,
    m)] → (txOf s d 0).st ≠ .open' → [0, 1].find? (fun k => (rxOf s d k).open' && (rxOf s d k).ackDue.isSome) = none → rrNext
    ((carryPlanes s).flatMap (sprayOf s)) (s.fab.rr.get 0 0) = some l → ∃ t, exec (.fabCellTx) s = .next t ∧ (laneOf t l).last = some
    { kind := 1, ddev := d, plane := l / 96, msgs := [m] } ∧ t.fab.ctrl = [] ∧ t.fab.tx = s.fab.tx ∧ AgreeBut [.ctr, .fab] s t) ∧
  (∀ (l : Nat) (d : Nat) (k : Nat) (q : Nat) (rest : List Nat) (c : TxCell) (s : State), blkOn s 0x10 = true → s.fab.sw = none →
    s.fab.begun = true → ctrlTarget s = none → strmNext s false = some (d, k) → (txOf s d k).replay = q :: rest → (txOf s d k).cells.find?
    (fun c => c.seq == q) = some c → rrNext ((replayPlane s d k c).flatMap (sprayOf s)) (s.fab.rr.get 0 0) = some l → ∃ t, exec
    (.fabCellTx) s = .next t ∧ (txOf t d k).replay = rest ∧ (laneOf t l).last.map (fun o => (o.replay, o.seq, o.payload)) = some (true,
    c.seq, c.bytes) ∧ ctrAt t (cOff 0x10 0x08) = (ctrAt s (cOff 0x10 0x08)).add 1 ∧ AgreeBut [.ctr, .fab] s t) ∧
  (∀ (l : Fin 192) (c : FabCell) (b : List Byte) (s : State), laneOn s l.val = true → (laneOf s l.val).st = .up → (laneOf s l.val).delin =
    true → b = phaseCell (laneOf s l.val) c.bytes (laneOf s l.val).phase → headGood b = false → (laneOf s l.val).bad < 6 → ∃ t, exec
    (.fabCellRx l c) s = .next t ∧ laneOf t l.val =
    { laneOf s l.val with cdr := true, fec := true, tail := c.bytes, bad := (laneOf s l.val).bad + 1 } ∧ t.fab.rx = s.fab.rx ∧ ctrAt t
    (cOff 0x10 (0x40000 + l.val * 0x20 + 8)) = (ctrAt s (cOff 0x10 (0x40000 + l.val * 0x20 + 8))).add 1 ∧ ctrAt t (cOff 0x10 (0x40000 +
    l.val * 0x20 + 16)) = (ctrAt s (cOff 0x10 (0x40000 + l.val * 0x20 + 16))).add 1 ∧ ctrAt t (cOff 0x10 0x28) = (ctrAt s (cOff 0x10
    0x28)).add 1 ∧ ctrAt t (cOff 0x10 (0x40000 + l.val * 0x20 + 24)) = (ctrAt s (cOff 0x10 (0x40000 + l.val * 0x20 + 24))).add c.uncorr ∧
    AgreeBut [.ctr, .fab] s t) ∧
  (∀ (l : Fin 192) (c : FabCell) (b : List Byte) (s : State), laneOn s l.val = true → (laneOf s l.val).st = .up → (laneOf s l.val).delin =
    true → b = phaseCell (laneOf s l.val) c.bytes (laneOf s l.val).phase → headGood b = false → 6 ≤ (laneOf s l.val).bad → ∃ t, exec
    (.fabCellRx l c) s = .next t ∧ (laneOf t l.val).st = .delin ∧ (laneOf t l.val).fromUp = true ∧ (laneOf t l.val).delin = false ∧
    (laneOf t l.val).goodAt = none ∧ inSpray t l.val = false ∧ t.fab.rx = s.fab.rx ∧ ctrAt t (cOff 0x10 (0x40000 + l.val * 0x20 + 8)) =
    (ctrAt s (cOff 0x10 (0x40000 + l.val * 0x20 + 8))).add 1 ∧ ctrAt t (cOff 0x10 (0x40000 + l.val * 0x20 + 16)) = (ctrAt s (cOff 0x10
    (0x40000 + l.val * 0x20 + 16))).add 1 ∧ ctrAt t (cOff 0x10 0x28) = (ctrAt s (cOff 0x10 0x28)).add 1 ∧ AgreeBut [.ctr, .rcd, .fab] s t) ∧
  (∀ (l : Fin 192) (c : FabCell) (p : Nat) (s : State), laneOn s l.val = true → (laneOf s l.val).st = .delin → (laneOf s l.val).delin =
    false → (List.range 8).find? (fun p => headGood (phaseCell (laneOf s l.val) c.bytes p) && decide (5 ≤ (laneOf s l.val).runs.getD p 0))
    = some p → ∃ t, exec (.fabCellRx l c) s = .next t ∧ laneOf t l.val =
    { laneOf s l.val with cdr := true, fec := true, tail := c.bytes, delin := true, runs := [], phase := p, bad := 0, goodAt := some s.now }
    ∧ t.fab.rx = s.fab.rx ∧ ctrAt t (cOff 0x10 (0x40000 + l.val * 0x20 + 24)) = (ctrAt s (cOff 0x10 (0x40000 + l.val * 0x20 + 24))).add
    c.uncorr ∧ AgreeBut [.ctr, .fab] s t) ∧
  (∀ (l : Fin 192) (c : FabCell) (s : State), laneOn s l.val = true → (laneOf s l.val).st = .delin → (laneOf s l.val).delin = false →
    (List.range 8).find? (fun p => headGood (phaseCell (laneOf s l.val) c.bytes p) && decide (5 ≤ (laneOf s l.val).runs.getD p 0)) = none
    → ∃ t, exec (.fabCellRx l c) s = .next t ∧ (laneOf t l.val).delin = false ∧ (laneOf t l.val).runs = (List.range 8).map (fun p => if
    headGood (phaseCell (laneOf s l.val) c.bytes p) then (laneOf s l.val).runs.getD p 0 + 1 else 0) ∧ (laneOf t l.val).tail = c.bytes ∧
    AgreeBut [.ctr, .fab] s t) ∧
  (∀ (l : Fin 192) (c : FabCell) (b : List Byte) (s : State), laneOn s l.val = true → (laneOf s l.val).st = .up → (laneOf s l.val).delin =
    true → b = phaseCell (laneOf s l.val) c.bytes (laneOf s l.val).phase → headGood b = true → bitsOf (cellHead b) 127 126 ≠ 3 → bodyGood
    b = false → ∃ t, exec (.fabCellRx l c) s = .next t ∧ (laneOf t l.val).bad = 0 ∧ (laneOf t l.val).st = .up ∧ t.fab.rx = s.fab.rx ∧
    t.fab.tx = s.fab.tx ∧ ctrAt t (cOff 0x10 (0x40000 + l.val * 0x20 + 8)) = (ctrAt s (cOff 0x10 (0x40000 + l.val * 0x20 + 8))).add 1 ∧
    ctrAt t (cOff 0x10 0x30) = (ctrAt s (cOff 0x10 0x30)).add 1 ∧ AgreeBut [.ctr, .fab] s t) ∧
  (∀ (l : Fin 192) (c : FabCell) (b : List Byte) (h : Nat) (d : Nat) (k : Nat) (q : Nat) (s : State), laneOn s l.val = true → (laneOf s
    l.val).st = .up → (laneOf s l.val).delin = true → b = phaseCell (laneOf s l.val) c.bytes (laneOf s l.val).phase → h = cellHead b → d =
    bitsOf h 117 110 → k = bitsOf h 109 109 → q = bitsOf h 106 89 → headGood b = true → bodyGood b = true → bitsOf h 125 118 = devId s →
    bitsOf h 127 126 = 0 → bitsOf h 72 72 = 0 → peerEn s d = true → (rxOf s d k).open' = true → q = (rxOf s d k).next → (rxOf s d k).held
    = {} → (rxOf s d k).skip = false → (rxOf s d k).buf.length + ((b.drop 16).take (min 240 (bitsOf h 88 81))).length < 32 → ∃ t, exec
    (.fabCellRx l c) s = .next t ∧ (rxOf t d k).next = (q + 1) % 2 ^ 18 ∧ (rxOf t d k).buf = (rxOf s d k).buf ++ ((b.drop 16).take (min
    240 (bitsOf h 88 81))) ∧ ctrAt t (cOff 0x10 0x18) = (ctrAt s (cOff 0x10 0x18)).add 1 ∧ ctrAt t (cOff 0x10 (0x40000 + l.val * 0x20 +
    8)) = (ctrAt s (cOff 0x10 (0x40000 + l.val * 0x20 + 8))).add 1 ∧ AgreeBut [.ctr, .fab] s t) ∧
  (∀ (l : Fin 192) (c : FabCell) (b : List Byte) (h : Nat) (d : Nat) (k : Nat) (q : Nat) (s : State), laneOn s l.val = true → (laneOf s
    l.val).st = .up → (laneOf s l.val).delin = true → b = phaseCell (laneOf s l.val) c.bytes (laneOf s l.val).phase → h = cellHead b → d =
    bitsOf h 117 110 → k = bitsOf h 109 109 → q = bitsOf h 106 89 → headGood b = true → bodyGood b = true → bitsOf h 125 118 = devId s →
    bitsOf h 127 126 = 0 → bitsOf h 72 72 = 0 → peerEn s d = true → (rxOf s d k).open' = true → 131072 ≤ (q + 2 ^ 18 - (rxOf s d k).next)
    % 2 ^ 18 ∨ ((rxOf s d k).held.find q).isSome = true → ∃ t, exec (.fabCellRx l c) s = .next t ∧ t.fab.rx = s.fab.rx ∧ ctrAt t (cOff
    0x10 0x20) = (ctrAt s (cOff 0x10 0x20)).add 1 ∧ ctrAt t (cOff 0x10 (0x40000 + l.val * 0x20 + 8)) = (ctrAt s (cOff 0x10 (0x40000 +
    l.val * 0x20 + 8))).add 1 ∧ AgreeBut [.ctr, .fab] s t) ∧
  (∀ (l : Fin 192) (c : FabCell) (b : List Byte) (h : Nat) (d : Nat) (k : Nat) (q : Nat) (s : State), laneOn s l.val = true → (laneOf s
    l.val).st = .up → (laneOf s l.val).delin = true → b = phaseCell (laneOf s l.val) c.bytes (laneOf s l.val).phase → h = cellHead b → d =
    bitsOf h 117 110 → k = bitsOf h 109 109 → q = bitsOf h 106 89 → headGood b = true → bodyGood b = true → bitsOf h 125 118 = devId s →
    bitsOf h 127 126 = 0 → bitsOf h 72 72 = 0 → peerEn s d = true → (rxOf s d k).open' = true → 0 < (q + 2 ^ 18 - (rxOf s d k).next) % 2 ^
    18 → (q + 2 ^ 18 - (rxOf s d k).next) % 2 ^ 18 < 131072 → ((rxOf s d k).held.find q) = none → heldTotal s < 32768 → ∃ t, exec
    (.fabCellRx l c) s = .next t ∧ ((rxOf t d k).held.find q) = some (((b.drop 16).take (min 240 (bitsOf h 88 81))), if bitsOf h 80 73 =
    0xFF then none else some (bitsOf h 80 73)) ∧ (rxOf t d k).next = (rxOf s d k).next ∧ (rxOf t d k).gapAt = some ((rxOf s d
    k).gapAt.getD s.now) ∧ AgreeBut [.ctr, .fab] s t) ∧
  (∀ (l : Fin 192) (c : FabCell) (b : List Byte) (h : Nat) (d : Nat) (k : Nat) (q : Nat) (s : State), laneOn s l.val = true → (laneOf s
    l.val).st = .up → (laneOf s l.val).delin = true → b = phaseCell (laneOf s l.val) c.bytes (laneOf s l.val).phase → h = cellHead b → d =
    bitsOf h 117 110 → k = bitsOf h 109 109 → q = bitsOf h 106 89 → headGood b = true → bodyGood b = true → bitsOf h 125 118 = devId s →
    bitsOf h 127 126 = 0 → bitsOf h 72 72 = 0 → peerEn s d = true → (rxOf s d k).open' = false → (rxOf s d k).resyncAt ≤ s.now → ∃ t, exec
    (.fabCellRx l c) s = .next t ∧ t.fab.ctrl = s.fab.ctrl ++ [(d, none, .resync k)] ∧ ctrAt t (cOff 0x10 0x38) = (ctrAt s (cOff 0x10
    0x38)).add 1 ∧ (rxOf t d k).open' = false ∧ AgreeBut [.ctr, .fab] s t) ∧
  (∀ (l : Fin 192) (c : FabCell) (b : List Byte) (h : Nat) (d : Nat) (port : Nat) (cls : Nat) (total : Nat) (s : State), laneOn s l.val =
    true → (laneOf s l.val).st = .up → (laneOf s l.val).delin = true → b = phaseCell (laneOf s l.val) c.bytes (laneOf s l.val).phase → h =
    cellHead b → d = bitsOf h 117 110 → headGood b = true → bodyGood b = true → bitsOf h 125 118 = devId s → bitsOf h 127 126 = 1 → bitsOf
    h 72 72 = 0 → peerEn s d = true → cellMsgs b = [.req port cls total] → ∃ t, exec (.fabCellRx l c) s = .next t ∧ (t.fab.rxf.get {} (d *
    512 + port * 4 + cls)).req = total ∧ t.fab.rx = s.fab.rx ∧ ctrAt t (cOff 0x10 (0x40000 + l.val * 0x20 + 8)) = (ctrAt s (cOff 0x10
    (0x40000 + l.val * 0x20 + 8))).add 1 ∧ AgreeBut [.ctr, .fab] s t) ∧
  (∀ (d : Fin 256) (st : Fin 2) (seq : BitVec 18) (seq2 : BitVec 18) (s : State), blkOn s 0x10 = true → (rxOf s d.val st.val).open' =
    false ∨ 131072 ≤ (seq2.toNat + 2 ^ 18 - (rxOf s d.val st.val).next) % 2 ^ 18 → exec (.fabMsgPend d st seq seq2) s = .next s) ∧
  (∀ (d : Fin 256) (st : Fin 2) (seq : BitVec 18) (seq2 : BitVec 18) (s : State), blkOn s 0x10 = true → (rxOf s d.val st.val).open' = true
    → (seq2.toNat + 2 ^ 18 - (rxOf s d.val st.val).next) % 2 ^ 18 < 131072 → ∃ t, exec (.fabMsgPend d st seq seq2) s = .next t ∧ rxOf t
    d.val st.val = { rxOf s d.val st.val with markers := (rxOf s d.val st.val).markers ++ [(seq2.toNat, s.now)] } ∧ AgreeBut [.fab] s t) ∧
  (∀ (d : Fin 256) (st : Fin 2) (s : State), blkOn s 0x10 = true → ∃ t, exec (.fabMarkerExpire d st) s = .next t ∧ rxOf t d.val st.val =
    { rxOf s d.val st.val with markers := (rxOf s d.val st.val).markers.filter (fun m => decide (s.now < m.2 + markerNs s)) } ∧ AgreeBut
    [.fab] s t) ∧
  (∀ (d : Fin 256) (st : Fin 2) (x : Nat) (s : State), blkOn s 0x10 = true → (rxOf s d.val st.val).open' = true → (rxOf s d.val
    st.val).ackDue = some x → x + ackNs s ≤ s.now → ∃ t, exec (.fabAckTimer d st) s = .next t ∧ t.fab.ctrl = s.fab.ctrl ++ [(d.val, none,
    .ack st.val (((rxOf s d.val st.val).next + 2 ^ 18 - 1) % 2 ^ 18))] ∧ (rxOf t d.val st.val).ackDue = none ∧ (rxOf t d.val st.val).next
    = (rxOf s d.val st.val).next ∧ AgreeBut [.fab] s t) ∧
  (∀ (d : Fin 256) (st : Fin 2) (s : State), blkOn s 0x10 = true → (rxOf s d.val st.val).open' = true → (rxOf s d.val st.val).gapAt ≠ none
    → (rxOf s d.val st.val).nakAt ≤ s.now → ∃ t, exec (.fabNakTimer d st) s = .next t ∧ t.fab.ctrl = s.fab.ctrl ++ [(d.val, none, .nak
    st.val (rxOf s d.val st.val).next (missMap (rxOf s d.val st.val)))] ∧ (rxOf t d.val st.val).nakAt = s.now + nakNs s ∧ ctrAt t (cOff
    0x10 0x70) = (ctrAt s (cOff 0x10 0x70)).add 1 ∧ AgreeBut [.ctr, .fab] s t) ∧
  (∀ (d : Fin 256) (st : Fin 2) (x : Nat) (s : State), blkOn s 0x10 = true → (rxOf s d.val st.val).open' = true → (rxOf s d.val
    st.val).gapAt = some x → x + roTimeout s ≤ s.now → (rxOf s d.val st.val).markers.any (fun m => decide (s.now < m.2 + markerNs s)) =
    true → exec (.fabReorderTimeout d st) s = .next s) ∧
  (∀ (d : Fin 256) (st : Fin 2) (x : Nat) (n : Nat) (s : State), blkOn s 0x10 = true → (rxOf s d.val st.val).open' = true → (rxOf s d.val
    st.val).gapAt = some x → firstHeld (rxOf s d.val st.val) = some n → x + roTimeout s ≤ s.now → (rxOf s d.val st.val).markers = [] →
    (rxOf s d.val st.val).held.entries.length = 1 → ∃ t, exec (.fabReorderTimeout d st) s = .next t ∧ (rxOf t d.val st.val).next = ((rxOf
    s d.val st.val).next + n + 1) % 2 ^ 18 ∧ (rxOf t d.val st.val).held.entries = [] ∧ (rxOf t d.val st.val).gapAt = none ∧ ctrAt t (cOff
    0x10 0x50) = (ctrAt s (cOff 0x10 0x50)).add n ∧ ctrAt t (cOff 0x10 0x48) = (ctrAt s (cOff 0x10 0x48)).add 1 ∧ AgreeBut [.regs, .ctr,
    .flt, .rcd, .bpm, .fab] s t)

/-- Planes and twin groups. A DOWN plane that meets the row of Table 15.6 enters PROBE and probes its OPEN streams; it becomes UP when
every probe is answered or 1 ms has passed (R445). A plane whose heartbeats stop, or with fewer than PLANE_MIN lanes, fails, and so does
one for which the owner writes DOWN, until CLEAR (R444). A planned or forced switch-over holds for SWITCH_US, and then the former
STANDBY plane is ACTIVE and what is unacknowledged is sent again (R447). A disabled peer abandons its cells and returns to UNSYNC (Table
15.14); DEV_ID stays while EN is 1 (Table 15.9). Twin groups follow Table 15.8: a rise of ACT_IN ends CONFIRMING and ACTIVE, 10 µs low
with AUTO claim, a claim of 10 µs is confirmed while ACT_IN is low and otherwise withdrawn unless PRIMARY, CONFIRMING ends in ACTIVE
with PSEL, CLAIM and RELEASE act as written. The first LOW after a rise is the fall of ACT_IN (log entry 68), and the interlock follows
ACT_IN even while the data path is off (R550). -/
def Obligations.FabricPlanesAndTwin : Prop :=
  (∀ (pl : Fin 2) (s : State), blkOn s 0x10 = true → planeMeets s pl.val = true → standbyMode s = false → (planeOf s pl.val).st = .down →
    ∃ t, exec (.fabPlaneReady pl) s = .next t ∧ (planeOf t pl.val).st = .probe ∧ (planeOf t pl.val).since = s.now ∧ (planeOf t pl.val).hbs
    = 0 ∧ AgreeBut [.fab] s t) ∧
  (∀ (pl : Fin 2) (s : State), blkOn s 0x10 = true → planeMeets s pl.val = true → standbyMode s = true → (planeOf s pl.val).st = .down → ∃
    t, exec (.fabPlaneReady pl) s = .next t ∧ (planeOf t pl.val).st = (if (planeOf s (1 - pl.val)).st ≠ .active ∧ pl.val = pref s then
    .active else .standby) ∧ (planeOf t pl.val).failed = false ∧ AgreeBut [.flt, .fab] s t) ∧
  (∀ (pl : Fin 2) (s : State), blkOn s 0x10 = true → (planeOf s pl.val).st = .probe → unprobed s pl.val = 0 ∨ (planeOf s pl.val).since +
    1000000 ≤ s.now → ∃ t, exec (.fabProbeDone pl) s = .next t ∧ (planeOf t pl.val).st = .up ∧ (planeOf t pl.val).since = s.now ∧ AgreeBut
    [.ctr, .flt, .rcd, .fab] s t) ∧
  (∀ (d : Fin 256) (st : Fin 2) (s : State), blkOn s 0x10 = true → (txOf s d.val st.val).st = .open' → (txOf s d.val st.val).probeAt ≤
    s.now → (txOf s d.val st.val).planes.testBit 3 = true → (planeOf s 1).st = .up → (txOf s d.val st.val).planes.testBit 2 = false → ∃ t,
    exec (.fabReprobeTimer d st) s = .next t ∧ t.fab.ctrl = s.fab.ctrl ++ [(d.val, some 1, .sync st.val true (txOf s d.val st.val).seq)] ∧
    (txOf t d.val st.val).probeAt = s.now + 1000000 ∧ AgreeBut [.fab] s t) ∧
  (∀ (pl : Fin 2) (s : State), blkOn s 0x10 = true → standbyMode s = false → (planeOf s pl.val).st = .up → (planeOf s pl.val).failed =
    false → s.fab.sw = none → hbFresh s pl.val = false ∨ (goodLanesOf s pl.val).length < planeMin s → ∃ t, exec (.fabPlaneFail pl) s =
    .next t ∧ mayCarry t pl.val = false ∧ (planeOf t pl.val).st = .down ∧ ctrAt t (cOff 0x10 (0x98 + pl.val * 8)) = (ctrAt s (cOff 0x10
    (0x98 + pl.val * 8))).add 1 ∧ AgreeBut [.ctr, .flt, .rcd, .fab] s t) ∧
  (∀ (pl : Fin 2) (s : State), blkOn s 0x10 = true → standbyMode s = true → (planeOf s pl.val).st = .active → (planeOf s pl.val).failed =
    false → (planeOf s (1 - pl.val)).st = .standby → s.fab.sw = none → hbFresh s pl.val = false ∨ (goodLanesOf s pl.val).length < planeMin
    s → ∃ t, exec (.fabPlaneFail pl) s = .next t ∧ t.fab.sw = some (s.now + switchNs s, false) ∧ mayCarry t (1 - pl.val) = false ∧
    AgreeBut [.ctr, .flt, .rcd, .fab] s t) ∧
  (∀ (slot : Fin 4) (s : State), ownerMay s slot .fabCmd [] = true → standbyMode s = false → ∃ t, exec (.fabDownA slot) s = .next t ∧
    t.acc = (stOk, 0) ∧ (planeOf t 0).host = true ∧ (planeOf t 0).st = .down ∧ AgreeBut [.acc, .ctr, .flt, .rcd, .fab] s t) ∧
  (∀ (slot : Fin 4) (s : State), ownerMay s slot .fabCmd [] = true → ∃ t, exec (.fabClearA slot) s = .next t ∧ t.acc = (stOk, 0) ∧ planeOf
    t 0 = { planeOf s 0 with host := false } ∧ AgreeBut [.acc, .fab] s t) ∧
  (∀ (slot : Fin 4) (s : State), ownerMay s slot .fabCmd [] = true → standbyMode s = false → ∃ t, exec (.fabDownB slot) s = .next t ∧
    t.acc = (stOk, 0) ∧ (planeOf t 1).host = true ∧ (planeOf t 1).st = .down ∧ AgreeBut [.acc, .ctr, .flt, .rcd, .fab] s t) ∧
  (∀ (slot : Fin 4) (s : State), ownerMay s slot .fabCmd [] = true → ∃ t, exec (.fabClearB slot) s = .next t ∧ t.acc = (stOk, 0) ∧ planeOf
    t 1 = { planeOf s 1 with host := false } ∧ AgreeBut [.acc, .fab] s t) ∧
  (∀ (slot : Fin 4) (pl : Fin 2) (s : State), ownerMay s slot .fabCmd [] = true → standbyMode s = true → s.fab.sw = none → (planeOf s
    pl.val).st = .standby → (planeOf s (1 - pl.val)).st = .active → ∃ t, exec (.fabSwitch slot) s = .next t ∧ t.acc = (stOk, 0) ∧ t.fab.sw
    = some (s.now + switchNs s, true) ∧ t.fab.plane = s.fab.plane ∧ AgreeBut [.acc, .ctr, .rcd, .fab] s t) ∧
  (∀ (slot : Fin 4) (s : State), ownerMay s slot .fabCmd [] = true → standbyMode s = false ∨ ((planeOf s 0).st ≠ .standby ∧ (planeOf s
    1).st ≠ .standby) → ∃ t, exec (.fabSwitch slot) s = .next t ∧ t.acc = (stOk, 0) ∧ AgreeBut [.acc] s t) ∧
  (∀ (e : Nat) (planned : Bool) (pl : Fin 2) (s : State), blkOn s 0x10 = true → s.fab.sw = some (e, planned) → e ≤ s.now → (planeOf s
    pl.val).st = .standby → (planeOf s (1 - pl.val)).st ≠ .standby → ∃ t, exec (.fabSwitchEnd) s = .next t ∧ t.fab.sw = none ∧ (planeOf t
    pl.val).st = .active ∧ (planeOf t pl.val).failed = false ∧ ctrAt t (cOff 0x10 0x90) = (ctrAt s (cOff 0x10 0x90)).add 1 ∧ AgreeBut
    [.ctr, .flt, .rcd, .fab] s t) ∧
  (∀ (slot : Fin 4) (i : Fin 8) (val : Word) (s : State), ownerMay s slot .fabPeerEn [i.val] = true → ∃ t, exec (.fabPeerEnWrite slot i
    val) s = .next t ∧ t.acc = (stOk, 0) ∧ regRaw t .fabPeerEn [i.val] = val ∧ AgreeBut [.acc, .regs, .ctr, .flt, .rcd, .bpm, .fab] s t) ∧
  (∀ (slot : Fin 4) (i : Fin 8) (val : Word) (j : Fin 32) (st : Fin 2) (s : State), ownerMay s slot .fabPeerEn [i.val] = true → tbit
    (regRaw s .fabPeerEn [i.val]) j.val = true → tbit val j.val = false → ∃ t, exec (.fabPeerEnWrite slot i val) s = .next t ∧ t.acc =
    (stOk, 0) ∧ (txOf t (32 * i.val + j.val) st.val).st = .unsync ∧ (txOf t (32 * i.val + j.val) st.val).cells = [] ∧ rxOf t (32 * i.val +
    j.val) st.val = {} ∧ AgreeBut [.acc, .regs, .ctr, .flt, .rcd, .bpm, .fab] s t) ∧
  (∀ (slot : Fin 4) (val : Word) (s : State), ownerMay s slot .fabCfg [] = true → s.fur.direct = false → fabEn s = true → ∃ t, exec
    (.fabEnWrite slot val) s = .next t ∧ t.acc = (stOk, 0) ∧ fabEn t = tbit val 31 ∧ devId t = devId s ∧ rf t .fabCfg [] 30 28 = rf s
    .fabCfg [] 30 28 ∧ AgreeBut [.acc, .regs, .fur, .fab] s t) ∧
  (∀ (slot : Fin 4) (val : Word) (s : State), ownerMay s slot .fabCfg [] = true → s.fur.direct = false → fabEn s = false → ∃ t, exec
    (.fabEnWrite slot val) s = .next t ∧ t.acc = (stOk, 0) ∧ fabEn t = tbit val 31 ∧ devId t = fld val 7 0 ∧ rf t .fabCfg [] 30 28 = rf s
    .fabCfg [] 30 28 ∧ AgreeBut [.acc, .regs, .fur, .fab] s t) ∧
  (∀ (g : Fin 16) (s : State), onData s = true → (twinOf s g.val).st = 3 ∨ (twinOf s g.val).st = 4 → ∃ t, exec (.twinActInRise g) s =
    .next t ∧ twinOf t g.val = { twinOf s g.val with actIn := true, psel := false, st := 1, actOut := false } ∧ twinPsel t g.val = false ∧
    AgreeBut [.ctr, .rcd, .lp, .fab] s t) ∧
  (∀ (g : Fin 16) (s : State), onData s = true → (twinOf s g.val).st = 5 → twinEn s g.val = true → ∃ t, exec (.twinActInRise g) s = .next
    t ∧ (twinOf t g.val).st = 1 ∧ twinPsel t g.val = false ∧ AgreeBut [.ctr, .rcd, .lp, .fab] s t) ∧
  (∀ (g : Fin 16) (s : State), onData s = true → (twinOf s g.val).st = 1 → (twinOf s g.val).actIn = false → (twinOf s g.val).lowAt + 10000
    ≤ s.now → rb s .fabTwinCfg [g.val] 29 = true → ∃ t, exec (.twinActInLow g) s = .next t ∧ twinOf t g.val =
    { twinOf s g.val with st := 2, actOut := true, roseAt := s.now } ∧ AgreeBut [.fab] s t) ∧
  (∀ (g : Fin 16) (s : State), onData s = true → (twinOf s g.val).st = 1 → (twinOf s g.val).actIn = true → ∃ t, exec (.twinActInLow g) s =
    .next t ∧ twinOf t g.val = { twinOf s g.val with actIn := false, lowAt := s.now } ∧ AgreeBut [.regs, .ctr, .rcd, .lp, .fab] s t) ∧
  (∀ (g : Fin 16) (s : State), onData s = true → (twinOf s g.val).st = 1 → (twinOf s g.val).actIn = false → rb s .fabTwinCfg [g.val] 29 =
    false → exec (.twinActInLow g) s = .next s) ∧
  (∀ (g : Fin 16) (s : State), onData s = false → ∃ t, exec (.twinActInRise g) s = .next t ∧ twinOf t g.val =
    { twinOf s g.val with actIn := true, psel := false } ∧ t.fab.holds = s.fab.holds ++ [(s.now + 1000, g.val)] ∧ twinForbids t g.val =
    true ∧ AgreeBut [.fab] s t) ∧
  (∀ (g : Fin 16) (s : State), onData s = false → (twinOf s g.val).actIn = true → ∃ t, exec (.twinActInLow g) s = .next t ∧ twinOf t g.val
    = { twinOf s g.val with actIn := false, lowAt := s.now } ∧ AgreeBut [.fab] s t) ∧
  (∀ (g : Fin 16) (s : State), onData s = true → (twinOf s g.val).st = 2 → (twinOf s g.val).roseAt + 10000 ≤ s.now → (twinOf s
    g.val).actIn = false → ∃ t, exec (.twinClaimTimer g) s = .next t ∧ twinOf t g.val = { twinOf s g.val with st := 3 } ∧ twinForbids t
    g.val = s.fab.holds.any (fun h => h.2 == g.val) ∧ AgreeBut [.regs, .ctr, .rcd, .lp, .fab] s t) ∧
  (∀ (g : Fin 16) (s : State), onData s = true → (twinOf s g.val).st = 2 → (twinOf s g.val).roseAt + 10000 ≤ s.now → (twinOf s
    g.val).actIn = true → rb s .fabTwinCfg [g.val] 30 = false → ∃ t, exec (.twinClaimTimer g) s = .next t ∧ twinOf t g.val =
    { twinOf s g.val with st := 1, actOut := false } ∧ AgreeBut [.ctr, .rcd, .fab] s t) ∧
  (∀ (g : Fin 16) (s : State), onData s = true → (twinOf s g.val).st = 2 → (twinOf s g.val).actIn = true → rb s .fabTwinCfg [g.val] 30 =
    true → exec (.twinClaimTimer g) s = .next s) ∧
  (∀ (g : Fin 16) (aligned : Bool) (s : State), onData s = true → (twinOf s g.val).st = 3 → (aligned = true ∧ twinAligned s g.val = true)
    ∨ (twinOf s g.val).roseAt + 1990000 ≤ s.now → ∃ t, exec (.twinConfirm g aligned) s = .next t ∧ twinOf t g.val =
    { twinOf s g.val with st := 4, psel := true, gap := (s.now - (twinOf s g.val).roseAt) / 1000 % 65536 } ∧ AgreeBut [.ctr, .rcd, .fab] s
    t) ∧
  (∀ (slot : Fin 4) (g : Fin 16) (s : State), ownerMay s slot .fabTwinCfg [g.val] = true → twinEn s g.val = true → (twinOf s g.val).actIn
    = false → (twinOf s g.val).st = 1 → ∃ t, exec (.twinClaim slot g) s = .next t ∧ t.acc = (stOk, 0) ∧ twinOf t g.val =
    { twinOf s g.val with st := 2, actOut := true, roseAt := s.now } ∧ AgreeBut [.acc, .regs, .ctr, .rcd, .lp, .fab] s t) ∧
  (∀ (slot : Fin 4) (g : Fin 16) (s : State), ownerMay s slot .fabTwinCfg [g.val] = true → twinEn s g.val = true → (twinOf s g.val).st = 4
    → ∃ t, exec (.twinRelease slot g) s = .next t ∧ t.acc = (stOk, 0) ∧ twinOf t g.val = { twinOf s g.val with st := 5, actOut := false }
    ∧ AgreeBut [.acc, .regs, .ctr, .rcd, .lp, .fab] s t) ∧
  (∀ (slot : Fin 4) (g : Fin 16) (val : Word) (s : State), ownerMay s slot .fabTwinCfg [g.val] = true → tbit val 31 = true → tbit val 28 =
    false → tbit val 27 = false → (twinOf s g.val).st = 0 → ∃ t, exec (.twinEnWrite slot g val) s = .next t ∧ t.acc = (stOk, 0) ∧ (twinOf
    t g.val).st = 1 ∧ regRaw t .fabTwinCfg [g.val] = val &&& 0xE0000000 ∧ twinForbids t g.val = true ∧ AgreeBut [.acc, .regs, .ctr, .rcd,
    .lp, .fab] s t) ∧
  (∀ (slot : Fin 4) (g : Fin 16) (val : Word) (s : State), ownerMay s slot .fabTwinCfg [g.val] = true → tbit val 31 = false → tbit val 28
    = false → tbit val 27 = false → (twinOf s g.val).st = 4 → ∃ t, exec (.twinEnWrite slot g val) s = .next t ∧ t.acc = (stOk, 0) ∧
    (twinOf t g.val).st = 5 ∧ (twinOf t g.val).psel = (twinOf s g.val).psel ∧ AgreeBut [.acc, .regs, .ctr, .rcd, .lp, .fab] s t)

/-! ## Fault handling and fencing -/

/-- Faults. A source that rises sets its bits of FLT_LIVE and FLT_STICKY whatever the mask; unmasked it is latched in FLT_FIRST or, while
VALID is 1, sets only OVF; of sources that rise at one instant (one ns: log entry 69) the highest class, then the lowest bit, is kept
(R455, R457, R458). With the fourth management core none is left. A reserved bit has no effect (R454). A condition that its unit holds
already does not rise again (R455). The first class F source enters the fatal state and is kept in DEV_FATAL, and FATAL_N follows the
masks (R462). XDOM fences the clock domain (R33, Table 16.6). The actions of Table 16.8 take place: an operational gate list, a held
reorder cell, a store line and a node word are lost. The live bit of an occurrence falls 1 ms after the last (R455). A write clears a
sticky bit only if the source is not live, and FLT_FIRST as Table 16.2 gives (R459). A return of a unit is refused with the first reason
of R464, or clears its fence and starts its return (Table 16.6). -/
def Obligations.FaultSources : Prop :=
  (∀ (blk : Fin 21) (bit : Fin 32) (inst : Fin 65536) (row : Word) (s : State), ((blk.val, bit.val) ∈ [(0, 0), (3, 0), (4, 0), (5, 0), (6,
    0), (6, 3), (8, 0), (10, 1), (10, 3), (12, 1), (14, 0), (15, 1), (16, 0), (17, 0)]) → unitWorks s blk.val bit.val inst.val = true →
    tbit (fltMask s blk.val) bit.val = true → ∃ t, exec (.faultRise blk bit inst row) s = .next t ∧ tbit (fltOf t blk.val).live bit.val =
    true ∧ tbit (fltOf t blk.val).sticky bit.val = true ∧ t.flt.occUntil.get 0 (blk.val * 32 + bit.val) = s.now + 1000000 ∧ (fltOf t
    blk.val).valid = (fltOf s blk.val).valid ∧ (fltOf t blk.val).ovf = (fltOf s blk.val).ovf ∧ (fltOf t blk.val).cls = (fltOf s
    blk.val).cls ∧ (fltOf t blk.val).src = (fltOf s blk.val).src ∧ (fltOf t blk.val).inst = (fltOf s blk.val).inst ∧ AgreeBut [.flt] s t) ∧
  (∀ (blk : Fin 21) (bit : Fin 32) (inst : Fin 65536) (row : Word) (s : State), ((blk.val, bit.val) ∈ [(0, 0), (3, 0), (4, 0), (5, 0), (6,
    0), (6, 3), (8, 0), (10, 1), (10, 3), (12, 1), (14, 0), (15, 1), (16, 0), (17, 0)]) → unitWorks s blk.val bit.val inst.val = true →
    tbit (fltMask s blk.val) bit.val = false → (fltOf s blk.val).valid = false → ∃ t, exec (.faultRise blk bit inst row) s = .next t ∧
    tbit (fltOf t blk.val).live bit.val = true ∧ tbit (fltOf t blk.val).sticky bit.val = true ∧ t.flt.occUntil.get 0 (blk.val * 32 +
    bit.val) = s.now + 1000000 ∧ (fltOf t blk.val).valid = true ∧ ((fltOf t blk.val).src, (fltOf t blk.val).inst) = (bit.val, inst.val) ∧
    some (fltOf t blk.val).cls = (fltInfo blk.val bit.val).map FltInfo.cls ∧ (fltOf t blk.val).ovf = (fltOf s blk.val).ovf ∧ AgreeBut
    [.ctr, .flt, .rcd] s t) ∧
  (∀ (blk : Fin 21) (bit : Fin 32) (inst : Fin 65536) (row : Word) (s : State), ((blk.val, bit.val) ∈ [(0, 0), (3, 0), (4, 0), (5, 0), (6,
    0), (6, 3), (8, 0), (10, 1), (10, 3), (12, 1), (14, 0), (15, 1), (16, 0), (17, 0)]) → unitWorks s blk.val bit.val inst.val = true →
    tbit (fltMask s blk.val) bit.val = false → (fltOf s blk.val).valid = true → (fltOf s blk.val).latchAt ≠ s.now → ∃ t, exec (.faultRise
    blk bit inst row) s = .next t ∧ tbit (fltOf t blk.val).live bit.val = true ∧ tbit (fltOf t blk.val).sticky bit.val = true ∧
    t.flt.occUntil.get 0 (blk.val * 32 + bit.val) = s.now + 1000000 ∧ (fltOf t blk.val).ovf = true ∧ (fltOf t blk.val).valid = (fltOf s
    blk.val).valid ∧ (fltOf t blk.val).cls = (fltOf s blk.val).cls ∧ (fltOf t blk.val).src = (fltOf s blk.val).src ∧ (fltOf t
    blk.val).inst = (fltOf s blk.val).inst ∧ AgreeBut [.ctr, .flt, .rcd] s t) ∧
  (∀ (blk : Fin 21) (bit : Fin 32) (inst : Fin 65536) (row : Word) (k : Nat) (s : State), ((blk.val, bit.val) ∈ [(0, 0), (3, 0), (4, 0),
    (5, 0), (6, 0), (6, 3), (8, 0), (10, 1), (10, 3), (12, 1), (14, 0), (15, 1), (16, 0), (17, 0)]) → unitWorks s blk.val bit.val inst.val
    = true → tbit (fltMask s blk.val) bit.val = false → (fltOf s blk.val).valid = true → (fltOf s blk.val).latchAt = s.now → (fltInfo
    blk.val bit.val).map FltInfo.cls = some k → (fltOf s blk.val).cls < k ∨ ((fltOf s blk.val).cls = k ∧ bit.val < (fltOf s blk.val).src)
    → ∃ t, exec (.faultRise blk bit inst row) s = .next t ∧ tbit (fltOf t blk.val).live bit.val = true ∧ tbit (fltOf t blk.val).sticky
    bit.val = true ∧ (fltOf t blk.val).ovf = true ∧ (fltOf t blk.val).valid = true ∧ ((fltOf t blk.val).cls, (fltOf t blk.val).src, (fltOf
    t blk.val).inst) = (k, bit.val, inst.val) ∧ AgreeBut [.ctr, .flt, .rcd] s t) ∧
  (∀ (blk : Fin 21) (bit : Fin 32) (inst : Fin 65536) (row : Word) (s : State), bit.val ≠ 31 → fltInfo blk.val bit.val = none → exec
    (.faultRise blk bit inst row) s = .next s) ∧
  (∀ (blk : Fin 21) (bit : Fin 32) (inst : Fin 65536) (row : Word) (s : State), bit.val ≠ 31 → unitWorks s blk.val bit.val inst.val =
    false → exec (.faultRise blk bit inst row) s = .next s) ∧
  (∀ (blk : Fin 21) (bit : Fin 32) (inst : Fin 65536) (row : Word) (s : State), (blk.val, bit.val) ∈ [(0, 2), (0, 3), (1, 4), (1, 6), (11,
    6)] → holds s blk.val bit.val inst.val = true → exec (.faultRise blk bit inst row) s = .next s) ∧
  (∀ (blk : Fin 21) (bit : Fin 32) (inst : Fin 65536) (row : Word) (s : State), (blk.val, bit.val) = (0, 1) → onIsland s = true → inst.val
    < 4 → holds s 0 1 inst.val = false → (List.range 4).all (fun i => i == inst.val || holds s 0 1 i) = true → s.flt.fatal = false → ∃ t,
    exec (.faultRise blk bit inst row) s = .next t ∧ holds t 0 1 inst.val = true ∧ holds t 0 2 0 = true ∧ t.flt.fatal = true ∨ holds s 0 2
    0 = true ∧ AgreeBut [.ctr, .flt, .rcd] s t) ∧
  (∀ (blk : Fin 21) (bit : Fin 32) (inst : Fin 65536) (row : Word) (s : State), (blk.val, bit.val) ∈ [(0, 2), (0, 3), (1, 4), (1, 6)] →
    onIsland s = true → holds s blk.val bit.val inst.val = false → s.flt.fatal = false → ∃ t, exec (.faultRise blk bit inst row) s = .next
    t ∧ t.flt.fatal = true ∧ t.flt.firstF = some (blk.val, bit.val, inst.val) ∧ t.flt.pin = (s.flt.pin || !(tbit (fltMask s blk.val)
    bit.val)) ∧ holds t blk.val bit.val inst.val = true ∧ onData t = false ∧ tbit (fltOf t blk.val).live bit.val = true ∧ tbit (fltOf t
    blk.val).sticky bit.val = true ∧ AgreeBut [.ctr, .flt, .rcd] s t) ∧
  (∀ (blk : Fin 21) (bit : Fin 32) (inst : Fin 65536) (row : Word) (s : State), (blk.val, bit.val) ∈ [(0, 2), (0, 3), (1, 4), (1, 6)] →
    onIsland s = true → s.flt.fatal = true → ∃ t, exec (.faultRise blk bit inst row) s = .next t ∧ t.flt.fatal = true ∧ t.flt.firstF =
    s.flt.firstF ∧ t.flt.pin = s.flt.pin ∨ t.flt.pin = true ∧ AgreeBut [.ctr, .flt, .rcd] s t) ∧
  (∀ (blk : Fin 21) (bit : Fin 32) (inst : Fin 65536) (row : Word) (s : State), bit.val = 31 → onIsland s = true → ∃ t, exec (.faultRise
    blk bit inst row) s = .next t ∧ isFenced t blk.val (0xFF00 + inst.val % 256) = true ∧ AgreeBut [.regs, .ctr, .fur, .flt, .rcd, .pmc,
    .tgt, .chain, .pwr, .lp, .tbl, .lrn, .tcm, .slc, .xe, .ell, .bpm, .hbm, .sch, .fab, .img, .upd] s t) ∧
  (∀ (blk : Fin 21) (bit : Fin 32) (inst : Fin 65536) (row : Word) (s : State), (blk.val, bit.val) = (15, 0) → inst.val < 128 → onData s =
    true → clockFenced s 15 = false → ∃ t, exec (.faultRise blk bit inst row) s = .next t ∧ (gateOf t inst.val).oper = none ∧ tbit (fltOf
    t blk.val).live bit.val = true ∧ tbit (fltOf t blk.val).sticky bit.val = true ∧ AgreeBut [.ctr, .flt, .rcd, .tgt] s t) ∧
  (∀ (blk : Fin 21) (bit : Fin 32) (inst : Fin 65536) (row : Word) (s : State), (blk.val, bit.val) = (16, 2) → inst.val < 256 → onData s =
    true → clockFenced s 16 = false → ∃ t, exec (.faultRise blk bit inst row) s = .next t ∧ (rxOf t inst.val (row.toNat / 2 ^
    31)).held.find (row.toNat % 2 ^ 18) = none ∧ tbit (fltOf t blk.val).live bit.val = true ∧ tbit (fltOf t blk.val).sticky bit.val = true
    ∧ t.flt.occUntil.get 0 (blk.val * 32 + bit.val) = s.now + 1000000 ∧ AgreeBut [.ctr, .flt, .rcd, .fab] s t) ∧
  (∀ (blk : Fin 21) (bit : Fin 32) (inst : Fin 65536) (row : Word) (s : State), (blk.val, bit.val) = (12, 2) → onData s = true →
    clockFenced s 12 = false → (bufOf s (bufKey inst.val row.toNat)).used = true → ∃ t, exec (.faultRise blk bit inst row) s = .next t ∧
    bufOf t (bufKey inst.val row.toNat) = { bufOf s (bufKey inst.val row.toNat) with bad := true } ∧ tbit (fltOf t blk.val).live bit.val =
    true ∧ tbit (fltOf t blk.val).sticky bit.val = true ∧ t.flt.occUntil.get 0 (blk.val * 32 + bit.val) = s.now + 1000000 ∧ AgreeBut
    [.ctr, .flt, .rcd, .bpm] s t) ∧
  (∀ (blk : Fin 21) (bit : Fin 32) (inst : Fin 65536) (row : Word) (s : State), (blk.val, bit.val) = (14, 1) → onData s = true →
    clockFenced s 14 = false → ∃ t, exec (.faultRise blk bit inst row) s = .next t ∧ (nodeSt t (row.toNat / 2 ^ 20) (row.toNat % 2 ^
    20)).ct = none ∧ (nodeSt t (row.toNat / 2 ^ 20) (row.toNat % 2 ^ 20)).pt = none ∧ (nodeSt t (row.toNat / 2 ^ 20) (row.toNat % 2 ^
    20)).defi = 0 ∧ tbit (fltOf t blk.val).live bit.val = true ∧ tbit (fltOf t blk.val).sticky bit.val = true ∧ t.flt.occUntil.get 0
    (blk.val * 32 + bit.val) = s.now + 1000000 ∧ AgreeBut [.ctr, .flt, .rcd, .sch] s t) ∧
  (∀ (blk : Fin 21) (bit : Fin 32) (s : State), s.flt.occUntil.get 0 (blk.val * 32 + bit.val) ≠ 0 → s.flt.occUntil.get 0 (blk.val * 32 +
    bit.val) ≤ s.now → ∃ t, exec (.faultOccurrenceExpire blk bit) s = .next t ∧ tbit (fltOf t blk.val).live bit.val = false ∧ (fltOf t
    blk.val).sticky = (fltOf s blk.val).sticky ∧ (fltOf t blk.val).valid = (fltOf s blk.val).valid ∧ (fltOf t blk.val).ovf = (fltOf s
    blk.val).ovf ∧ (fltOf t blk.val).cls = (fltOf s blk.val).cls ∧ (fltOf t blk.val).src = (fltOf s blk.val).src ∧ (fltOf t blk.val).inst
    = (fltOf s blk.val).inst ∧ t.flt.occUntil.get 0 (blk.val * 32 + bit.val) = 0 ∧ AgreeBut [.flt] s t) ∧
  (∀ (blk : Fin 21) (bit : Fin 32) (s : State), s.now < s.flt.occUntil.get 0 (blk.val * 32 + bit.val) → exec (.faultOccurrenceExpire blk
    bit) s = .next s) ∧
  (∀ (slot : Fin 4) (blk : Fin 21) (val : Word) (s : State), ownerMay s slot .fltSticky [blk.val] = true → ∃ t, exec (.fltStickyWrite slot
    blk val) s = .next t ∧ t.acc = (stOk, 0) ∧ fltOf t blk.val =
    { fltOf s blk.val with sticky := (fltOf s blk.val).sticky &&& ~~~(val &&& ~~~(fltOf s blk.val).live) } ∧ AgreeBut [.acc, .flt] s t) ∧
  (∀ (slot : Fin 4) (blk : Fin 21) (val : Word) (s : State), ownerMay s slot .fltFirst [blk.val] = true → tbit val 31 = true → (fltOf s
    blk.val).risesAt s.now = [] → ∃ t, exec (.fltFirstWrite slot blk val) s = .next t ∧ t.acc = (stOk, 0) ∧ fltOf t blk.val =
    { fltOf s blk.val with valid := false, ovf := false, cls := 0, src := 0, inst := 0 } ∧ AgreeBut [.acc, .flt] s t) ∧
  (∀ (slot : Fin 4) (blk : Fin 21) (val : Word) (c : Nat) (b : Nat) (n : Nat) (s : State), ownerMay s slot .fltFirst [blk.val] = true →
    tbit val 31 = true → (fltOf s blk.val).risesAt s.now = [(c, b, n)] → ∃ t, exec (.fltFirstWrite slot blk val) s = .next t ∧ t.acc =
    (stOk, 0) ∧ fltOf t blk.val = { fltOf s blk.val with valid := true, ovf := false, cls := c, src := b, inst := n, latchAt := s.now } ∧
    AgreeBut [.acc, .flt] s t) ∧
  (∀ (slot : Fin 4) (blk : Fin 21) (val : Word) (s : State), ownerMay s slot .fltFirst [blk.val] = true → tbit val 31 = false → ∃ t, exec
    (.fltFirstWrite slot blk val) s = .next t ∧ t.acc = (stOk, 0) ∧ fltOf t blk.val =
    { fltOf s blk.val with ovf := (fltOf s blk.val).ovf && !(tbit val 30) } ∧ AgreeBut [.acc, .flt] s t) ∧
  (∀ (slot : Fin 4) (blk : Fin 64) (unit : Fin 65536) (s : State), ownerMay s slot .devUnfence [] = true → unitKnown blk.val unit.val =
    false → ∃ t, exec (.devUnfence slot blk unit) s = .next t ∧ t.acc = (stOk, 0) ∧ (t.flt.unfBlock, t.flt.unfUnit) = (blk.val, unit.val)
    ∧ rb t .devUnfenceStatus [] 31 = true ∧ t.flt.fenced = s.flt.fenced ∧ t.flt.unfReason = 4 ∧ AgreeBut [.acc, .regs, .flt] s t) ∧
  (∀ (slot : Fin 4) (blk : Fin 64) (unit : Fin 65536) (s : State), ownerMay s slot .devUnfence [] = true → unitKnown blk.val unit.val =
    true → applyRuns s = true → ∃ t, exec (.devUnfence slot blk unit) s = .next t ∧ t.acc = (stOk, 0) ∧ (t.flt.unfBlock, t.flt.unfUnit) =
    (blk.val, unit.val) ∧ rb t .devUnfenceStatus [] 31 = true ∧ t.flt.fenced = s.flt.fenced ∧ t.flt.unfReason = 3 ∧ AgreeBut [.acc, .regs,
    .flt] s t) ∧
  (∀ (slot : Fin 4) (blk : Fin 64) (unit : Fin 65536) (s : State), ownerMay s slot .devUnfence [] = true → unitKnown blk.val unit.val =
    true → applyRuns s = false → isFenced s blk.val unit.val = false → ∃ t, exec (.devUnfence slot blk unit) s = .next t ∧ t.acc = (stOk,
    0) ∧ (t.flt.unfBlock, t.flt.unfUnit) = (blk.val, unit.val) ∧ rb t .devUnfenceStatus [] 31 = true ∧ t.flt.fenced = s.flt.fenced ∧
    t.flt.unfReason = 1 ∧ AgreeBut [.acc, .regs, .flt] s t) ∧
  (∀ (slot : Fin 4) (blk : Fin 64) (unit : Fin 65536) (d : Fin 96) (s : State), ownerMay s slot .devUnfence [] = true → unitKnown blk.val
    unit.val = true → applyRuns s = false → isFenced s blk.val unit.val = true → d.val ∈ unitDoms blk.val unit.val → domOn s d.val = false
    → ∃ t, exec (.devUnfence slot blk unit) s = .next t ∧ t.acc = (stOk, 0) ∧ (t.flt.unfBlock, t.flt.unfUnit) = (blk.val, unit.val) ∧ rb t
    .devUnfenceStatus [] 31 = true ∧ t.flt.fenced = s.flt.fenced ∧ t.flt.unfReason = 2 ∧ AgreeBut [.acc, .regs, .flt] s t) ∧
  (∀ (slot : Fin 4) (blk : Fin 64) (unit : Fin 65536) (s : State), ownerMay s slot .devUnfence [] = true → applyRuns s = false → isFenced
    s blk.val unit.val = true → blk.val < 21 → 0xFF00 ≤ unit.val → ∃ t, exec (.devUnfence slot blk unit) s = .next t ∧ t.acc = (stOk, 0) ∧
    (t.flt.unfBlock, t.flt.unfUnit) = (blk.val, unit.val) ∧ t.flt.unfReason = 0 ∧ isFenced t blk.val unit.val = false ∧ holds t blk.val 31
    unit.val = false ∧ AgreeBut [.acc, .regs, .ctr, .flt, .rcd, .tgt, .lp, .tcm, .slc, .xe, .ell, .hbm] s t) ∧
  (∀ (slot : Fin 4) (blk : Fin 64) (unit : Fin 65536) (g : Fin 16) (s : State), ownerMay s slot .devUnfence [] = true → applyRuns s =
    false → isFenced s blk.val unit.val = true → blk.val = 4 → unit.val = 0xFF00 + g.val → domOn s g.val = true → ∃ t, exec (.devUnfence
    slot blk unit) s = .next t ∧ t.acc = (stOk, 0) ∧ t.flt.unfReason = 0 ∧ isFenced t 4 unit.val = false ∧ isFenced t 4 g.val = false ∧
    AgreeBut [.acc, .regs, .ctr, .flt, .rcd, .tgt, .lp, .tcm, .slc, .xe, .ell, .hbm] s t) ∧
  (∀ (slot : Fin 4) (blk : Fin 64) (unit : Fin 65536) (s : State), ownerMay s slot .devUnfence [] = true → applyRuns s = false → isFenced
    s blk.val unit.val = true → blk.val = 6 → 16 ≤ unit.val → unit.val < 25 → domOn s (27 + (unit.val - 16)) = true → ∃ t, exec
    (.devUnfence slot blk unit) s = .next t ∧ t.acc = (stOk, 0) ∧ (t.flt.unfBlock, t.flt.unfUnit) = (blk.val, unit.val) ∧ t.flt.unfReason
    = 0 ∧ isFenced t blk.val unit.val = false ∧ (sliceOf t (unit.val - 16)).jOk = true ∧ holds t 6 4 (unit.val - 16) = false ∧ AgreeBut
    [.acc, .flt, .slc] s t) ∧
  (∀ (slot : Fin 4) (blk : Fin 64) (unit : Fin 65536) (s : State), ownerMay s slot .devUnfence [] = true → applyRuns s = false → isFenced
    s blk.val unit.val = true → blk.val = 6 → unit.val < 9 → domOn s (18 + unit.val) = true → (failoverRuns s && s.slc.fail.failed ==
    unit.val) = false → ∃ t, exec (.devUnfence slot blk unit) s = .next t ∧ t.acc = (stOk, 0) ∧ (t.flt.unfBlock, t.flt.unfUnit) =
    (blk.val, unit.val) ∧ t.flt.unfReason = 0 ∧ isFenced t blk.val unit.val = false ∧ (sliceOf t unit.val).st = .idle ∧ (sliceOf t
    unit.val).prog = none ∧ AgreeBut [.acc, .regs, .ctr, .flash, .fur, .flt, .rcd, .pmc, .tgt, .chain, .pwr, .lp, .tbl, .lrn, .tcm, .slc,
    .xe, .ell, .bpm, .hbm, .sch, .fab, .img, .upd] s t) ∧
  (∀ (slot : Fin 4) (blk : Fin 64) (unit : Fin 65536) (s : State), ownerMay s slot .devUnfence [] = true → applyRuns s = false → isFenced
    s blk.val unit.val = true → blk.val = 6 → unit.val < 9 → domOn s (18 + unit.val) = true → (failoverRuns s && s.slc.fail.failed ==
    unit.val) = true → ∃ t, exec (.devUnfence slot blk unit) s = .next t ∧ t.acc = (stOk, 0) ∧ (t.flt.unfBlock, t.flt.unfUnit) = (blk.val,
    unit.val) ∧ t.flt.unfReason = 0 ∧ isFenced t blk.val unit.val = false ∧ AgreeBut [.acc, .regs, .ctr, .flash, .fur, .flt, .rcd, .pmc,
    .tgt, .chain, .pwr, .lp, .tbl, .lrn, .tcm, .slc, .xe, .ell, .bpm, .hbm, .sch, .fab, .img, .upd] s t) ∧
  (∀ (slot : Fin 4) (blk : Fin 64) (unit : Fin 65536) (s : State), ownerMay s slot .devUnfence [] = true → applyRuns s = false → isFenced
    s blk.val unit.val = true → blk.val = 9 → unit.val < 96 → domOn s (92 + unit.val / 24) = true → ∃ t, exec (.devUnfence slot blk unit)
    s = .next t ∧ t.acc = (stOk, 0) ∧ (t.flt.unfBlock, t.flt.unfUnit) = (blk.val, unit.val) ∧ t.flt.unfReason = 0 ∧ isFenced t blk.val
    unit.val = false ∧ tcmBank t unit.val = {} ∧ AgreeBut [.acc, .flt, .tcm] s t) ∧
  (∀ (slot : Fin 4) (blk : Fin 64) (unit : Fin 65536) (s : State), ownerMay s slot .devUnfence [] = true → applyRuns s = false → isFenced
    s blk.val unit.val = true → blk.val = 10 → unit.val < 128 → domOn s (36 + unit.val / 16) = true → ∃ t, exec (.devUnfence slot blk
    unit) s = .next t ∧ t.acc = (stOk, 0) ∧ (t.flt.unfBlock, t.flt.unfUnit) = (blk.val, unit.val) ∧ t.flt.unfReason = 0 ∧ isFenced t
    blk.val unit.val = false ∧ xeEng t unit.val = { xeEng s unit.val with reason := 0, n := 0, sum := 0, mean := 0 } ∧ AgreeBut [.acc,
    .ctr, .flt, .rcd, .xe] s t) ∧
  (∀ (slot : Fin 4) (blk : Fin 64) (unit : Fin 65536) (s : State), ownerMay s slot .devUnfence [] = true → applyRuns s = false → isFenced
    s blk.val unit.val = true → blk.val = 10 → 128 ≤ unit.val → unit.val < 136 → domOn s (44 + (unit.val - 128)) = true → ∃ t, exec
    (.devUnfence slot blk unit) s = .next t ∧ t.acc = (stOk, 0) ∧ (t.flt.unfBlock, t.flt.unfUnit) = (blk.val, unit.val) ∧ t.flt.unfReason
    = 0 ∧ isFenced t blk.val unit.val = false ∧ (xeClu t (unit.val - 128)).recOk = true ∧ AgreeBut [.acc, .ctr, .flt, .rcd, .xe] s t) ∧
  (∀ (slot : Fin 4) (blk : Fin 64) (unit : Fin 65536) (s : State), ownerMay s slot .devUnfence [] = true → applyRuns s = false → isFenced
    s blk.val unit.val = true → blk.val = 11 → unit.val < 32 → domOn s (52 + unit.val) = true → ∃ t, exec (.devUnfence slot blk unit) s =
    .next t ∧ t.acc = (stOk, 0) ∧ (t.flt.unfBlock, t.flt.unfUnit) = (blk.val, unit.val) ∧ t.flt.unfReason = 0 ∧ isFenced t blk.val
    unit.val = false ∧ (bundleOf t unit.val).st = .train ∧ (bundleOf t unit.val).since = s.now ∧ AgreeBut [.acc, .regs, .ctr, .flash,
    .fur, .flt, .rcd, .pmc, .tgt, .chain, .pwr, .lp, .tbl, .lrn, .tcm, .slc, .xe, .ell, .bpm, .hbm, .sch, .fab, .img, .upd] s t) ∧
  (∀ (slot : Fin 4) (blk : Fin 64) (unit : Fin 65536) (s : State), ownerMay s slot .devUnfence [] = true → applyRuns s = false → isFenced
    s blk.val unit.val = true → blk.val = 13 → unit.val < 64 → domOn s (84 + unit.val / 16) = true → domOn s (88 + unit.val / 16) = true →
    ∃ t, exec (.devUnfence slot blk unit) s = .next t ∧ t.acc = (stOk, 0) ∧ (t.flt.unfBlock, t.flt.unfUnit) = (blk.val, unit.val) ∧
    t.flt.unfReason = 0 ∧ isFenced t blk.val unit.val = false ∧ (hbmCh t unit.val).st = .training ∧ AgreeBut [.acc, .flt, .hbm] s t) ∧
  (∀ (slot : Fin 4) (blk : Fin 64) (unit : Fin 65536) (s : State), ownerMay s slot .devUnfence [] = true → applyRuns s = false → isFenced
    s blk.val unit.val = true → blk.val = 4 → unit.val < 16 → domOn s unit.val = true → ∃ t, exec (.devUnfence slot blk unit) s = .next t
    ∧ t.acc = (stOk, 0) ∧ (t.flt.unfBlock, t.flt.unfUnit) = (blk.val, unit.val) ∧ t.flt.unfReason = 0 ∧ isFenced t blk.val unit.val =
    false ∧ holds t 4 2 unit.val = false ∧ AgreeBut [.acc, .regs, .ctr, .flash, .fur, .flt, .rcd, .pmc, .tgt, .chain, .pwr, .lp, .tbl,
    .lrn, .tcm, .slc, .xe, .ell, .bpm, .hbm, .sch, .fab, .img, .upd] s t)

/-- A write of FLT_STICKY: a bit whose source is live, and that stands at 1, stays at 1 whatever is written; a 1 clears every other bit,
and a 0 none; and WORST of FLT_CLASS, as read after the write, is the highest class among the bits that then stand: 0 with none, else
the class of a bit that stands, and no bit that stands has a higher one (R459). -/
def Obligations.StickyWriteKeepsLive : Prop :=
  ∀ (slot : Fin 4) (blk : Fin 21) (val : Word) (s : State), ownerMay s slot .fltSticky [blk.val] = true → ∃ t, exec (.fltStickyWrite slot
    blk val) s = .next t ∧ t.acc = (stOk, 0) ∧ (∀ b : Fin 32, tbit (fltOf t blk.val).sticky b.val = (tbit (fltOf s blk.val).sticky b.val
    && (!tbit val b.val || tbit (fltOf s blk.val).live b.val))) ∧ (∀ b : Fin 32, tbit (fltOf t blk.val).sticky b.val = true → ((fltInfo
    blk.val b.val).map FltInfo.cls).getD 0 ≤ fld (regView t slot.val .fltClass [blk.val]) 1 0) ∧ (fld (regView t slot.val .fltClass
    [blk.val]) 1 0 = 0 ∨ ∃ b : Fin 32, tbit (fltOf t blk.val).sticky b.val = true ∧ ((fltInfo blk.val b.val).map FltInfo.cls).getD 0 = fld
    (regView t slot.val .fltClass [blk.val]) 1 0) ∧ AgreeBut [.acc, .flt] s t

/-! ## Event recorder and performance counters -/

/-- The event recorder. An occurrence whose bucket holds a token while the queue has room takes one token, queues a report with FOLDED and
LOST, and clears PEND and SAT; any other folds, and PEND saturates at 0xFFFF (R466, R468). SAT sets once an occurrence is no longer
counted (R470; the reading of log entry 38). The oldest report leaves the queue, and with a class above 0, or LOG_INFO, it is offered to
the log (R472, R481). The queue stands still while firmware restarts (R508). A flush takes PEND of every code into flush reports without
tokens, and a life record is written (R469, R477). OP_SEC counts a second and a flush runs at each whole hour (R473). A quantity with
readings takes its sample each second, a feed voltage as the mean in 2 mV (rounded down: the model's choice, log entry 70), and its bin
rises (R475, R476). -/
def Obligations.RecorderReports : Prop :=
  (∀ (code : Fin 65536) (cls : Fin 4) (inst : Fin 65536) (d4 : Word) (d5 : Word) (s : State), onIsland s = true → 1000000000 ≤ (codeBucket
    s code.val).lvl → s.rcd.queue.length < 256 → ∃ t, exec (.eventOccurrence code cls inst d4 d5) s = .next t ∧ t.rcd.queue = s.rcd.queue
    ++
    [{ code := code.val, cls := cls.val, lost := (s.rcd.codes.get {} code.val).sat, folded := (s.rcd.codes.get {} code.val).pend, inst := inst.val, d4 := d4, d5 := d5, ns := tbNs s, frac := tbFrac s, tv := s.tgt.valid, flush := false }]
    ∧ t.rcd.codes.get {} code.val = {} ∧ (codeBucket t code.val).lvl + 1000000000 = (codeBucket s code.val).lvl ∧ ctrAt t (cOff 0x11 0) =
    (ctrAt s (cOff 0x11 0)).add 1 ∧ ctrAt t (cOff 0x11 0x10) = (ctrAt s (cOff 0x11 0x10)).add (s.rcd.codes.get {} code.val).pend ∧ ctrAt t
    (cOff 0x11 0x18) = (if (s.rcd.codes.get {} code.val).sat then (ctrAt s (cOff 0x11 0x18)).add 1 else ctrAt s (cOff 0x11 0x18)) ∧
    AgreeBut [.ctr, .rcd] s t) ∧
  (∀ (code : Fin 65536) (cls : Fin 4) (inst : Fin 65536) (d4 : Word) (d5 : Word) (s : State), onIsland s = true → (codeBucket s
    code.val).lvl < 1000000000 ∨ 256 ≤ s.rcd.queue.length → ∃ t, exec (.eventOccurrence code cls inst d4 d5) s = .next t ∧ t.rcd.codes.get
    {} code.val =
    { pend := min ((s.rcd.codes.get {} code.val).pend + 1) 0xFFFF, sat := (s.rcd.codes.get {} code.val).sat || decide (0xFFFF ≤ (s.rcd.codes.get {} code.val).pend), last := some (inst.val, d4, d5, cls.val) }
    ∧ t.rcd.queue = s.rcd.queue ∧ t.rcd.buckets = s.rcd.buckets ∧ AgreeBut [.rcd] s t) ∧
  (∀ (r : Report) (rest : List Report) (s : State), fwRuns s = true → mayBroadcast s = true → s.rcd.queue = r :: rest → s.rcd.flushing =
    none → 0 < r.cls → s.rcd.flashq.length < 1024 → ∃ t, exec (.reportSend) s = .next t ∧ t.rcd.queue = rest ∧ t.rcd.flashq = s.rcd.flashq
    ++ [{ words := mkRec s 1 16 (eventBody r), life := false }] ∧ AgreeBut [.ctr, .rcd, .chain] s t) ∧
  (∀ (r : Report) (rest : List Report) (s : State), fwRuns s = true → mayBroadcast s = true → s.rcd.queue = r :: rest → s.rcd.flushing =
    none → 0 < r.cls ∨ rb s .recCfg [] 31 = true → 1024 ≤ s.rcd.flashq.length → ∃ t, exec (.reportSend) s = .next t ∧ t.rcd.queue = rest ∧
    t.rcd.flashq = s.rcd.flashq ∧ ctrAt t (cOff 0x11 0x28) = (ctrAt s (cOff 0x11 0x28)).add 1 ∧ AgreeBut [.ctr, .rcd, .chain] s t) ∧
  (∀ (r : Report) (rest : List Report) (s : State), fwRuns s = true → mayBroadcast s = true → s.rcd.queue = r :: rest → s.rcd.flushing =
    none → r.cls = 0 → rb s .recCfg [] 31 = false → ∃ t, exec (.reportSend) s = .next t ∧ t.rcd.queue = rest ∧ t.rcd.flashq = s.rcd.flashq
    ∧ AgreeBut [.ctr, .rcd, .chain] s t) ∧
  (∀ (s : State), fwRuns s = false → exec (.reportSend) s = .next s) ∧
  (∀ (slot : Fin 4) (c : Fin 65536) (x : CodeSt) (s : State), ownerMay s slot .recCmd [] = true → s.rcd.codes.entries = [(c.val, x)] → 0 <
    x.pend → s.rcd.flushing = none → s.rcd.flushWait = [] → s.rcd.queue.length + 1 < 256 → ∃ t, exec (.recFlush slot) s = .next t ∧ t.acc
    = (stOk, 0) ∧ t.rcd.queue.take (s.rcd.queue.length + 1) = s.rcd.queue ++ [flushReport s c.val x] ∧ t.rcd.codes.get {} c.val = {} ∧
    t.rcd.flushing = none ∧ t.rcd.flushWait = [] ∧ t.rcd.saveSeq = s.rcd.saveSeq + 1 ∧ ctrAt t (cOff 0x11 8) = (ctrAt s (cOff 0x11 8)).add
    1 ∧ AgreeBut [.acc, .ctr, .rcd] s t) ∧
  (∀ (slot : Fin 4) (c : Fin 65536) (x : CodeSt) (s : State), ownerMay s slot .recCmd [] = true → s.rcd.codes.entries = [(c.val, x)] → 0 <
    x.pend → s.rcd.flushing = none → s.rcd.flushWait = [] → 256 ≤ s.rcd.queue.length → ∃ t, exec (.recFlush slot) s = .next t ∧ t.acc =
    (stOk, 0) ∧ t.rcd.queue = s.rcd.queue ∧ t.rcd.codes.get {} c.val = {} ∧ t.rcd.flushing = some 1 ∧ t.rcd.flushWait = [flushReport s
    c.val x] ∧ AgreeBut [.acc, .ctr, .rcd] s t) ∧
  (∀ (s : State), s.rcd.nextSec ≤ s.now → (s.rcd.opSec + 1) % 3600 ≠ 0 → ∃ t, exec (.opSecTick) s = .next t ∧ t.rcd.opSec = s.rcd.opSec +
    1 ∧ t.rcd.nextSec = s.rcd.nextSec + 1000000000 ∧ t.rcd.codes = s.rcd.codes ∧ t.rcd.queue = s.rcd.queue ∧ t.rcd.saveSeq = s.rcd.saveSeq
    ∧ AgreeBut [.ctr, .rcd] s t) ∧
  (∀ (s : State), s.rcd.nextSec ≤ s.now → (s.rcd.opSec + 1) % 3600 = 0 → ∃ t, exec (.opSecTick) s = .next t ∧ t.rcd.opSec = s.rcd.opSec +
    1 ∧ t.rcd.saveSeq = s.rcd.saveSeq + 1 ∧ AgreeBut [.ctr, .rcd] s t) ∧
  (∀ (s : State), s.now < s.rcd.nextSec → exec (.opSecTick) s = .next s) ∧
  (∀ (q : Fin 6) (a : Int) (n : Nat) (v : Int) (s : State), s.rcd.nextSec ≤ s.now → (s.rcd.opSec + 1) % 3600 ≠ 0 → (s.rcd.ext.get {}
    q.val).acc = some (a, n) → v = (if 4 ≤ q.val then a / (2 * n : Int) else a) → ∃ t, exec (.opSecTick) s = .next t ∧ (t.rcd.ext.get {}
    q.val).acc = none ∧ (t.rcd.ext.get {} q.val).now' = v ∧ t.rcd.bins.get 0 (16 * q.val + binOf q.val v) = min (s.rcd.bins.get 0 (16 *
    q.val + binOf q.val v) + 1) 0xFFFFFFFF ∧ AgreeBut [.ctr, .rcd] s t)

/-- Records, counters and snapshots. The oldest record waiting for flash is written to its ring and the writer moves on; a write that
fails counts in REC_FLASH_SKIP and raises REC FLASH_WR (R480, R481). SAVE writes a life record with the next SAVE_SEQ (R477). A log slot
named in REC_RD_IDX is shown with VALID when its read ends (R481). The owner writes the low word of a counter, which clears bits 47 to
32, and then the high word, and a 1 in bit 31 clears OVF; any other session is denied (R483). A GO captures at the first boundary at
least 512 ns later (R485). The copy of a capture goes to the bank not used last, and BANK names it (R487). An entry write that names
nothing allowed, or in a set with EN, sets ENTRY_REJ (R484). -/
def Obligations.RecordsCountersSnapshots : Prop :=
  (∀ (slot : Fin 4) (s : State), ownerMay s slot .recCmd [] = true → ∃ t, exec (.recSave slot) s = .next t ∧ t.acc = (stOk, 0) ∧ t.rcd =
    { s.rcd with saveSeq := s.rcd.saveSeq + 1, flashq := s.rcd.flashq ++ [{ words := mkRec s 4 256 (lifeBody s), life := true }] } ∧
    AgreeBut [.acc, .rcd] s t) ∧
  (∀ (r : FlashRec) (rest : List FlashRec) (w : Word) (s : State), onIsland s = true → fwRuns s = true → s.rcd.flashq = r :: rest → r.life
    = false → s.rcd.head < 2080768 → (logAddr s.rcd.head) % 0x40000 ≠ 0 → r.words = w :: r.words.drop 1 → ∃ t, exec (.flashRecordWrite
    true) s = .next t ∧ t.rcd.flashq = rest ∧ t.rcd.head = (s.rcd.head + 1) % 2080768 ∧ t.rcd.lifeHead = s.rcd.lifeHead ∧ ctrAt t (cOff
    0x11 0x20) = (ctrAt s (cOff 0x11 0x20)).add 1 ∧ AgreeBut [.ctr, .flash, .rcd] s t) ∧
  (∀ (r : FlashRec) (rest : List FlashRec) (s : State), onIsland s = true → fwRuns s = true → s.rcd.flashq = r :: rest → r.life = false →
    s.rcd.head < 2080768 → (logAddr s.rcd.head) % 0x40000 = 0 → ∃ t, exec (.flashRecordWrite true) s = .next t ∧ t.rcd.flashq = rest ∧
    t.rcd.head = (s.rcd.head + 1) % 2080768 ∧ ctrAt t (cOff 0x11 0x20) = (ctrAt s (cOff 0x11 0x20)).add 1 ∧ ctrAt t (cOff 0x11 0x30) =
    (ctrAt s (cOff 0x11 0x30)).add 1 ∧ AgreeBut [.ctr, .flash, .rcd] s t) ∧
  (∀ (r : FlashRec) (rest : List FlashRec) (s : State), onIsland s = true → fwRuns s = true → s.rcd.flashq = r :: rest → r.life = true →
    s.rcd.lifeHead < 1024 → (lifeAddr s.rcd.lifeHead) % 0x40000 ≠ 0 → ∃ t, exec (.flashRecordWrite true) s = .next t ∧ t.rcd.flashq = rest
    ∧ t.rcd.lifeHead = (s.rcd.lifeHead + 1) % 1024 ∧ t.rcd.head = s.rcd.head ∧ ctrAt t (cOff 0x11 0x20) = (ctrAt s (cOff 0x11 0x20)).add 1
    ∧ AgreeBut [.ctr, .flash, .rcd] s t) ∧
  (∀ (r : FlashRec) (rest : List FlashRec) (s : State), onIsland s = true → fwRuns s = true → s.rcd.flashq = r :: rest → r.life = false →
    (logAddr s.rcd.head) % 0x40000 ≠ 0 → ∃ t, exec (.flashRecordWrite false) s = .next t ∧ t.rcd.flashq = rest ∧ t.rcd.head = (s.rcd.head
    + 1) % 2080768 ∧ t.flash = s.flash ∧ tbit (fltOf t 0x11).live 0 = true ∧ tbit (fltOf t 0x11).sticky 0 = true ∧ ctrAt t (cOff 0x11
    0x28) = (ctrAt s (cOff 0x11 0x28)).add 1 ∧ AgreeBut [.ctr, .flt, .rcd] s t) ∧
  (∀ (slot : Fin 4) (val : Word) (s : State), ownerMay s slot .recRdIdx [] = true → ∃ t, exec (.recRdIdxWrite slot val) s = .next t ∧
    t.acc = (stOk, 0) ∧ t.rcd = { s.rcd with reading := some (fld val 20 0), rdReady := false, rdValid := false } ∧ rf t .recRdIdx [] 20 0
    = fld val 20 0 ∧ AgreeBut [.acc, .regs, .rcd] s t) ∧
  (∀ (i : Fin 2080768) (s : State), onIsland s = true → s.rcd.reading = some i.val → ∃ t, exec (.recSlotReadDone) s = .next t ∧
    t.rcd.reading = none ∧ t.rcd.rdReady = true ∧ t.rcd.rdWords = (List.range 16).map (fun k => flashWord s (logAddr i.val + 4 * k)) ∧
    t.rcd.rdValid = recValid t.rcd.rdWords ∧ AgreeBut [.rcd] s t) ∧
  (∀ (i : Nat) (s : State), onIsland s = true → s.rcd.reading = some i → 2080768 ≤ i → ∃ t, exec (.recSlotReadDone) s = .next t ∧
    t.rcd.reading = none ∧ t.rcd.rdReady = true ∧ t.rcd.rdValid = false ∧ AgreeBut [.rcd] s t) ∧
  (∀ (slot : Fin 4) (addr : Word) (val : Word) (k : Nat) (s : State), served s = true → isOwner s slot.val = true → addr.toNat % 4 = 0 →
    regAt addr.toNat = none → availAddr s addr.toNat = true → ctrWord s addr.toNat = some (k, false) → ∃ t, exec (.counterWrite slot
    .owner addr val) s = .next t ∧ t.acc = (stOk, 0) ∧ (ctrAt t k).cnt.toNat = val.toNat ∧ (ctrAt t k).ovf = (ctrAt s k).ovf ∧ AgreeBut
    [.acc, .ctr] s t) ∧
  (∀ (slot : Fin 4) (addr : Word) (val : Word) (k : Nat) (s : State), served s = true → isOwner s slot.val = true → addr.toNat % 4 = 0 →
    regAt addr.toNat = none → availAddr s addr.toNat = true → ctrWord s addr.toNat = some (k, true) → ∃ t, exec (.counterWrite slot .owner
    addr val) s = .next t ∧ t.acc = (stOk, 0) ∧ (ctrAt t k).cnt.toNat = (ctrAt s k).cnt.toNat % 2 ^ 32 + fld val 15 0 * 2 ^ 32 ∧ (ctrAt t
    k).ovf = ((ctrAt s k).ovf && !tbit val 31) ∧ AgreeBut [.acc, .ctr] s t) ∧
  (∀ (slot : Fin 4) (addr : Word) (val : Word) (k : Nat) (hi : Bool) (s : State), served s = true → addr.toNat % 4 = 0 → regAt addr.toNat
    = none → isOwner s slot.val = false → ctrWord s addr.toNat = some (k, hi) → ∃ t, exec (.counterWrite slot .owner addr val) s = .next t
    ∧ t.acc = (stDenied, 0) ∧ AgreeBut [.acc, .ctr] s t) ∧
  (∀ (slot : Fin 4) (n : Fin 8) (s : State), ownerMay s slot .pmcSetCmd [n.val] = true → ∃ t, exec (.pmcSetGo slot n) s = .next t ∧ t.acc
    = (stOk, 0) ∧ snapSet t n.val = { snapSet s n.val with go := some (s.now + 512) } ∧ AgreeBut [.acc, .pmc] s t) ∧
  (∀ (n : Fin 8) (k : Bank) (x : SnapSet) (s : State), blkOn s 0x12 = true → snapSet s n.val = x → x.copying = some k → x.any = false ∨
    x.bank = true → ∃ t, exec (.pmcCopyDone n) s = .next t ∧ (snapSet t n.val).copying = none ∧ (snapSet t n.val).any = true ∧ (snapSet t
    n.val).bank = false ∧ (snapSet t n.val).bank0 = k ∧ (snapSet t n.val).bank1 = x.bank1 ∧ ctrAt t (cOff 0x12 (n.val * 8)) = (ctrAt s
    (cOff 0x12 (n.val * 8))).add 1 ∧ AgreeBut [.ctr, .rcd, .pmc] s t) ∧
  (∀ (n : Fin 8) (k : Bank) (x : SnapSet) (s : State), blkOn s 0x12 = true → snapSet s n.val = x → x.copying = some k → x.any = true ∧
    x.bank = false → ∃ t, exec (.pmcCopyDone n) s = .next t ∧ (snapSet t n.val).copying = none ∧ (snapSet t n.val).any = true ∧ (snapSet t
    n.val).bank = true ∧ (snapSet t n.val).bank1 = k ∧ (snapSet t n.val).bank0 = x.bank0 ∧ ctrAt t (cOff 0x12 (n.val * 8)) = (ctrAt s
    (cOff 0x12 (n.val * 8))).add 1 ∧ AgreeBut [.ctr, .rcd, .pmc] s t) ∧
  (∀ (slot : Fin 4) (n : Fin 8) (e : Fin 1024) (val : Word) (s : State), ownerMay s slot .pmcEntry [n.val, e.val] = true → setEn s n.val =
    false → entryOk s val = true → ∃ t, exec (.pmcEntryWrite slot n e val) s = .next t ∧ t.acc = (stOk, 0) ∧ regRaw t .pmcEntry [n.val,
    e.val] = val &&& 0xDFFFFFFC ∧ AgreeBut [.acc, .regs] s t) ∧
  (∀ (slot : Fin 4) (n : Fin 8) (e : Fin 1024) (val : Word) (s : State), ownerMay s slot .pmcEntry [n.val, e.val] = true → setEn s n.val =
    true ∨ entryOk s val = false → ∃ t, exec (.pmcEntryWrite slot n e val) s = .next t ∧ t.acc = (stOk, 0) ∧ rb t .pmcStatus [] 31 = true
    ∧ regRaw t .pmcEntry [n.val, e.val] = regRaw s .pmcEntry [n.val, e.val] ∧ AgreeBut [.acc, .regs] s t)

/-! ## Firmware and image update -/

/-- Update sessions. An offer from an authorised source for a target that is free and fits starts a session and erases the target slot,
every byte of it and no other (R497, R500, Table 18.2). An unauthorised offer is refused, an offer during a session is answered BUSY,
and a locked target or a length outside the bounds is refused with its reason (Table 18.4). A chunk at NEXT is accepted and NEXT
advances by its data; a chunk elsewhere is discarded and counted; a frame of another session changes nothing of this one (R498, R501).
Answers go to the SRC of the frame answered, a CHUNK_ACK to that of the last CHUNK or END, and falls due 100 µs after the last chunk
accepted (the model's reading, log entry 70). END with every byte leads to VERIFYING, and ABORT, IDLE_S or a failed verification end the
session (Table 18.2). A frame with a wrong LEN counts in UPD_MALFORMED (R498). A relay offers verified content, sends on ACCEPT, and
ends on BUSY, REFUSED, RESULT or after 10 s (R503). A session ends VERIFIED or unverified as its verification says (R501). -/
def Obligations.UpdateSessions : Prop :=
  (∀ (port : Fin 4) (f : ChainFrame) (s : State), onChain s = true → nodeId s ≠ 0 → fType f = 0xB → fOp f = 0 → frameOk f = true → fDst f
    = nodeId s → fDst f ≠ 63 → updLenOk f = true → updAuth s f (tbit (fWord f 0) 8 && fld (fWord f 0) 5 4 == s.node.owner.slot) = true →
    s.upd.st = .idle → fld (fWord f 0) 3 0 < 4 ∨ fld (fWord f 0) 3 0 = 8 → targetLocked s (fld (fWord f 0) 3 0) = false → 353 ≤ (fWord f
    1).toNat → (fWord f 1).toNat ≤ tgtArea (fld (fWord f 0) 3 0) → ∃ t, exec (.updOffer port f) s = .next t ∧ t.upd.st = .receiving ∧
    (t.upd.id, t.upd.target, t.upd.src) = (fSession f, fld (fWord f 0) 3 0, fSrc f) ∧ (t.upd.next, t.upd.total) = (0, (fWord f 1).toNat) ∧
    t.upd.idleAt = s.now + idleNs s ∧ ctrAt t (cOff 0x13 0) = (ctrAt s (cOff 0x13 0)).add 1 ∧ ∀ a : Nat, flashByte t a = (if (if fld
    (fWord f 0) 3 0 = 8 then fwBase (fwTarget s) else tunBase (fld (fWord f 0) 3 0)) ≤ a ∧ a < (if fld (fWord f 0) 3 0 = 8 then fwBase
    (fwTarget s) else tunBase (fld (fWord f 0) 3 0)) + tgtArea (fld (fWord f 0) 3 0) + 0x40000 then 0xFF else flashByte s a) ∧ AgreeBut
    [.ctr, .flash, .rcd, .chain, .img, .upd] s t) ∧
  (∀ (port : Fin 4) (f : ChainFrame) (s : State), onChain s = true → nodeId s ≠ 0 → fType f = 0xB → fOp f = 0 → frameOk f = true → fDst f
    = nodeId s → fDst f ≠ 63 → updLenOk f = true → updAuth s f (tbit (fWord f 0) 8 && fld (fWord f 0) 5 4 == s.node.owner.slot) = false →
    ∃ t, exec (.updOffer port f) s = .next t ∧ t.upd = { s.upd with reason := 0x28 } ∧ ctrAt t (cOff 0x13 0) = (ctrAt s (cOff 0x13 0)).add
    1 ∧ ctrAt t (cOff 0x13 0x10) = (ctrAt s (cOff 0x13 0x10)).add 1 ∧ AgreeBut [.ctr, .chain, .upd] s t) ∧
  (∀ (port : Fin 4) (f : ChainFrame) (s : State), onChain s = true → nodeId s ≠ 0 → fType f = 0xB → fOp f = 0 → frameOk f = true → fDst f
    = nodeId s → fDst f ≠ 63 → updLenOk f = true → updAuth s f (tbit (fWord f 0) 8 && fld (fWord f 0) 5 4 == s.node.owner.slot) = true →
    s.upd.st ≠ .idle → offerWins s port.val = false → ∃ t, exec (.updOffer port f) s = .next t ∧ t.upd = s.upd ∧ ctrAt t (cOff 0x13 0) =
    (ctrAt s (cOff 0x13 0)).add 1 ∧ ctrAt t (cOff 0x13 8) = (ctrAt s (cOff 0x13 8)).add 1 ∧ AgreeBut [.ctr, .chain] s t) ∧
  (∀ (port : Fin 4) (f : ChainFrame) (s : State), onChain s = true → nodeId s ≠ 0 → fType f = 0xB → fOp f = 0 → frameOk f = true → fDst f
    = nodeId s → fDst f ≠ 63 → updLenOk f = true → updAuth s f (tbit (fWord f 0) 8 && fld (fWord f 0) 5 4 == s.node.owner.slot) = true →
    s.upd.st = .idle → fld (fWord f 0) 3 0 < 4 ∨ fld (fWord f 0) 3 0 = 8 → targetLocked s (fld (fWord f 0) 3 0) = true → ∃ t, exec
    (.updOffer port f) s = .next t ∧ t.upd = { s.upd with reason := 0x21 } ∧ ctrAt t (cOff 0x13 0x10) = (ctrAt s (cOff 0x13 0x10)).add 1 ∧
    AgreeBut [.ctr, .chain, .upd] s t) ∧
  (∀ (port : Fin 4) (f : ChainFrame) (s : State), onChain s = true → nodeId s ≠ 0 → fType f = 0xB → fOp f = 0 → frameOk f = true → fDst f
    = nodeId s → fDst f ≠ 63 → updLenOk f = true → updAuth s f (tbit (fWord f 0) 8 && fld (fWord f 0) 5 4 == s.node.owner.slot) = true →
    s.upd.st = .idle → fld (fWord f 0) 3 0 < 4 ∨ fld (fWord f 0) 3 0 = 8 → targetLocked s (fld (fWord f 0) 3 0) = false → tgtArea (fld
    (fWord f 0) 3 0) < (fWord f 1).toNat ∨ (fWord f 1).toNat < 353 → ∃ t, exec (.updOffer port f) s = .next t ∧ t.upd =
    { s.upd with reason := 0x22 } ∧ ctrAt t (cOff 0x13 0x10) = (ctrAt s (cOff 0x13 0x10)).add 1 ∧ AgreeBut [.ctr, .chain, .upd] s t) ∧
  (∀ (port : Fin 4) (f : ChainFrame) (s : State), onChain s = true → nodeId s ≠ 0 → fType f = 0xB → fOp f = 0 → frameOk f = true → fDst f
    = nodeId s → fDst f ≠ 63 → updLenOk f = false → ∃ t, exec (.updOffer port f) s = .next t ∧ t.upd = s.upd ∧ ctrAt t (cOff 0x13 0x28) =
    (ctrAt s (cOff 0x13 0x28)).add 1 ∧ AgreeBut [.ctr] s t) ∧
  (∀ (port : Fin 4) (f : ChainFrame) (s : State), onChain s = true → nodeId s ≠ 0 → fType f = 0xB → fOp f = 2 → frameOk f = true → fDst f
    = nodeId s → fDst f ≠ 63 → updLenOk f = true → s.upd.st ≠ .idle → fSession f = s.upd.id → updAuth s f (s.upd.relayed && fSrc f ==
    s.upd.src) = true → s.upd.st = .receiving → (fWord f 1).toNat = s.upd.next → s.upd.unacked < 15 → ∃ t, exec (.updChunk port f) s =
    .next t ∧ t.upd =
    { (heardFrom s port.val f).upd with next := s.upd.next + (chunkBytes s f).length, idleAt := s.now + idleNs s, unacked := s.upd.unacked + 1, ackAt := some (s.now + 100000) }
    ∧ ctrAt t (cOff 0x13 0x18) = (ctrAt s (cOff 0x13 0x18)).add 1 ∧ AgreeBut [.ctr, .flash, .upd] s t) ∧
  (∀ (port : Fin 4) (f : ChainFrame) (s : State), onChain s = true → nodeId s ≠ 0 → fType f = 0xB → fOp f = 2 → frameOk f = true → fDst f
    = nodeId s → fDst f ≠ 63 → updLenOk f = true → s.upd.st ≠ .idle → fSession f = s.upd.id → updAuth s f (s.upd.relayed && fSrc f ==
    s.upd.src) = true → s.upd.st = .receiving → (fWord f 1).toNat = s.upd.next → s.upd.unacked = 15 → ∃ t, exec (.updChunk port f) s =
    .next t ∧ t.upd =
    { (heardFrom s port.val f).upd with next := s.upd.next + (chunkBytes s f).length, idleAt := s.now + idleNs s, unacked := 0, ackAt := some (s.now + 100000) }
    ∧ ctrAt t (cOff 0x13 0x18) = (ctrAt s (cOff 0x13 0x18)).add 1 ∧ AgreeBut [.ctr, .flash, .chain, .upd] s t) ∧
  (∀ (port : Fin 4) (f : ChainFrame) (s : State), onChain s = true → nodeId s ≠ 0 → fType f = 0xB → fOp f = 2 → frameOk f = true → fDst f
    = nodeId s → fDst f ≠ 63 → updLenOk f = true → s.upd.st ≠ .idle → fSession f = s.upd.id → updAuth s f (s.upd.relayed && fSrc f ==
    s.upd.src) = true → s.upd.st = .receiving → s.upd.next < (fWord f 1).toNat → ∃ t, exec (.updChunk port f) s = .next t ∧ t.upd =
    (heardFrom s port.val f).upd ∧ ctrAt t (cOff 0x13 0x20) = (ctrAt s (cOff 0x13 0x20)).add 1 ∧ AgreeBut [.ctr, .upd] s t) ∧
  (∀ (port : Fin 4) (f : ChainFrame) (s : State), onChain s = true → nodeId s ≠ 0 → fType f = 0xB → fOp f = 2 → frameOk f = true → fDst f
    = nodeId s → fDst f ≠ 63 → updLenOk f = true → s.upd.st ≠ .idle → fSession f = s.upd.id → updAuth s f (s.upd.relayed && fSrc f ==
    s.upd.src) = true → s.upd.st = .receiving → (fWord f 1).toNat < s.upd.next → ∃ t, exec (.updChunk port f) s = .next t ∧ t.upd =
    { (heardFrom s port.val f).upd with unacked := 0 } ∧ ctrAt t (cOff 0x13 0x20) = (ctrAt s (cOff 0x13 0x20)).add 1 ∧ AgreeBut [.ctr,
    .chain, .upd] s t) ∧
  (∀ (port : Fin 4) (f : ChainFrame) (s : State), onChain s = true → nodeId s ≠ 0 → fType f = 0xB → fOp f = 2 → frameOk f = true → fDst f
    = nodeId s → fDst f ≠ 63 → updLenOk f = true → s.upd.st ≠ .idle → fSession f ≠ s.upd.id → ∃ t, exec (.updChunk port f) s = .next t ∧
    t.upd = s.upd ∧ t.flash = s.flash ∧ AgreeBut [.ctr, .chain] s t) ∧
  (∀ (port : Fin 4) (f : ChainFrame) (s : State), onChain s = true → nodeId s ≠ 0 → fType f = 0xB → fOp f = 4 → frameOk f = true → fDst f
    = nodeId s → fDst f ≠ 63 → updLenOk f = true → s.upd.st ≠ .idle → fSession f ≠ s.upd.id → ∃ t, exec (.updEnd port f) s = .next t ∧
    t.upd = s.upd ∧ t.flash = s.flash ∧ AgreeBut [.ctr, .chain] s t) ∧
  (∀ (port : Fin 4) (f : ChainFrame) (s : State), onChain s = true → nodeId s ≠ 0 → fType f = 0xB → fOp f = 6 → frameOk f = true → fDst f
    = nodeId s → fDst f ≠ 63 → updLenOk f = true → s.upd.st ≠ .idle → fSession f ≠ s.upd.id → ∃ t, exec (.updAbort port f) s = .next t ∧
    t.upd = s.upd ∧ t.flash = s.flash ∧ AgreeBut [.ctr, .chain] s t) ∧
  (∀ (port : Fin 4) (f : ChainFrame) (s : State), onChain s = true → nodeId s ≠ 0 → fType f = 0xB → fOp f = 4 → frameOk f = true → fDst f
    = nodeId s → fDst f ≠ 63 → updLenOk f = true → s.upd.st ≠ .idle → fSession f = s.upd.id → updAuth s f (s.upd.relayed && fSrc f ==
    s.upd.src) = true → s.upd.st = .receiving → s.upd.total ≤ s.upd.next → ∃ t, exec (.updEnd port f) s = .next t ∧ t.upd =
    { (heardFrom s port.val f).upd with st := .verifying, ackAt := none } ∧ AgreeBut [.upd] s t) ∧
  (∀ (port : Fin 4) (f : ChainFrame) (s : State), onChain s = true → nodeId s ≠ 0 → fType f = 0xB → fOp f = 4 → frameOk f = true → fDst f
    = nodeId s → fDst f ≠ 63 → updLenOk f = true → s.upd.st ≠ .idle → fSession f = s.upd.id → updAuth s f (s.upd.relayed && fSrc f ==
    s.upd.src) = true → s.upd.next < s.upd.total → ∃ t, exec (.updEnd port f) s = .next t ∧ t.upd = (heardFrom s port.val f).upd ∧
    AgreeBut [.upd] s t) ∧
  (∀ (port : Fin 4) (f : ChainFrame) (s : State), onChain s = true → nodeId s ≠ 0 → fType f = 0xB → fOp f = 6 → frameOk f = true → fDst f
    = nodeId s → fDst f ≠ 63 → updLenOk f = true → s.upd.st ≠ .idle → fSession f = s.upd.id → updAuth s f (s.upd.relayed && fSrc f ==
    s.upd.src) = true → s.upd.st = .receiving → ∃ t, exec (.updAbort port f) s = .next t ∧ t.upd =
    { s.upd with st := .idle, reason := 0x24, ackAt := none } ∧ AgreeBut [.ctr, .rcd, .upd] s t) ∧
  (∀ (port : Fin 4) (f : ChainFrame) (s : State), onChain s = true → nodeId s ≠ 0 → fType f = 0xB → fOp f = 6 → frameOk f = true → fDst f
    = nodeId s → fDst f ≠ 63 → updLenOk f = true → s.upd.st ≠ .idle → fSession f = s.upd.id → updAuth s f (s.upd.relayed && fSrc f ==
    s.upd.src) = true → s.upd.st = .verified → ∃ t, exec (.updAbort port f) s = .next t ∧ t.upd =
    { s.upd with st := .idle, reason := 0x24 } ∧ AgreeBut [.upd] s t) ∧
  (∀ (port : Fin 4) (f : ChainFrame) (s : State), onChain s = true → nodeId s ≠ 0 → fType f = 0xB → fOp f = 6 → frameOk f = true → fDst f
    = nodeId s → fDst f ≠ 63 → updLenOk f = true → s.upd.st ≠ .idle → fSession f = s.upd.id → updAuth s f (s.upd.relayed && fSrc f ==
    s.upd.src) = true → s.upd.st ∈ [.verifying, .armed, .activating, .trial, .fallback] → exec (.updAbort port f) s = .next s) ∧
  (∀ (slot : Fin 4) (s : State), ownerMay s slot .updCmd [] = true → s.upd.st = .receiving → ∃ t, exec (.updCmdAbort slot) s = .next t ∧
    t.acc = (stOk, 0) ∧ t.upd = { s.upd with st := .idle, reason := 0x24, ackAt := none } ∧ AgreeBut [.acc, .ctr, .rcd, .upd] s t) ∧
  (∀ (slot : Fin 4) (s : State), ownerMay s slot .updCmd [] = true → s.upd.st ∈ [.activating, .trial, .fallback] → ∃ t, exec (.updCmdAbort
    slot) s = .next t ∧ t.acc = (stOk, 0) ∧ AgreeBut [.acc] s t) ∧
  (∀ (s : State), onIsland s = true → s.upd.st = .verifying → ∃ t, exec (.updVerifyDone) s = .next t ∧ (updReason s = 0 → t.upd.st =
    .verified) ∧ (updReason s ≠ 0 → (t.upd.st, t.upd.reason) = (UpdState.idle, updReason s)) ∧ AgreeBut [.ctr, .flash, .rcd, .chain, .img,
    .upd] s t) ∧
  (∀ (s : State), s.upd.st = .receiving → s.upd.idleAt ≤ s.now → ∃ t, exec (.updIdleTimeout) s = .next t ∧ t.upd =
    { s.upd with st := .idle, reason := 0x23, ackAt := none } ∧ AgreeBut [.ctr, .rcd, .upd] s t) ∧
  (∀ (a : Nat) (s : State), s.upd.st = .receiving → s.upd.ackAt = some a → a ≤ s.now → ∃ t, exec (.updChunkAckTimer) s = .next t ∧ t.upd =
    { s.upd with unacked := 0, ackAt := none } ∧ AgreeBut [.ctr, .chain, .upd] s t) ∧
  (∀ (slot : Fin 4) (dst : Fin 64) (s : State), ownerMay s slot .updRelay [] = true → s.upd.st = .verified ∨ s.upd.st = .armed ∨ s.upd.st
    = .activating ∨ s.upd.st = .trial → relayRuns s = false → ∃ t, exec (.updRelayGo slot dst) s = .next t ∧ t.acc = (stOk, 0) ∧ t.upd =
    { s.upd with relay := { st := .offering, dst := dst.val, target := s.upd.target, deadline := s.now + 10000000000 } } ∧ AgreeBut [.acc,
    .regs, .ctr, .chain, .upd] s t) ∧
  (∀ (slot : Fin 4) (dst : Fin 64) (s : State), ownerMay s slot .updRelay [] = true → relayRuns s = true → ∃ t, exec (.updRelayGo slot
    dst) s = .next t ∧ t.acc = (stOk, 0) ∧ t.upd = s.upd ∧ AgreeBut [.acc, .regs] s t) ∧
  (∀ (port : Fin 4) (f : ChainFrame) (s : State), onChain s = true → nodeId s ≠ 0 → fType f = 0xB → fOp f = 1 → frameOk f = true → fDst f
    = nodeId s → fDst f ≠ 63 → updLenOk f = true → relayFrom s f = true → fld (fWord f 0) 15 8 = 1 → ∃ t, exec (.updAnswerRx port f) s =
    .next t ∧ t.upd = { s.upd with relay := { s.upd.relay with st := .busy, reason := fld (fWord f 0) 7 0 } } ∧ AgreeBut [.ctr, .rcd,
    .upd] s t) ∧
  (∀ (port : Fin 4) (f : ChainFrame) (s : State), onChain s = true → nodeId s ≠ 0 → fType f = 0xB → fOp f = 1 → frameOk f = true → fDst f
    = nodeId s → fDst f ≠ 63 → updLenOk f = true → relayFrom s f = true → fld (fWord f 0) 15 8 = 2 → ∃ t, exec (.updAnswerRx port f) s =
    .next t ∧ t.upd = { s.upd with relay := { s.upd.relay with st := .refused, reason := fld (fWord f 0) 7 0 } } ∧ AgreeBut [.ctr, .rcd,
    .upd] s t) ∧
  (∀ (port : Fin 4) (f : ChainFrame) (s : State), onChain s = true → nodeId s ≠ 0 → fType f = 0xB → fOp f = 1 → frameOk f = true → fDst f
    = nodeId s → fDst f ≠ 63 → updLenOk f = true → relayFrom s f = true → fld (fWord f 0) 15 8 = 0 → s.upd.relay.st = .offering → ∃ t,
    exec (.updAnswerRx port f) s = .next t ∧ t.upd.relay.st = .sending ∧ t.upd.relay.deadline = s.now + 10000000000 ∧
    { t.upd with relay := s.upd.relay } = s.upd ∧ AgreeBut [.ctr, .chain, .upd] s t) ∧
  (∀ (port : Fin 4) (f : ChainFrame) (s : State), onChain s = true → nodeId s ≠ 0 → fType f = 0xB → fOp f = 3 → frameOk f = true → fDst f
    = nodeId s → fDst f ≠ 63 → updLenOk f = true → relayFrom s f = true → s.upd.relay.st = .sending → (fWord f 1).toNat ≠
    s.upd.relay.acked → ∃ t, exec (.updChunkAckRx port f) s = .next t ∧ t.upd.relay.acked = (fWord f 1).toNat ∧ t.upd.relay.deadline =
    s.now + 10000000000 ∧ t.upd.relay.st = .sending ∧ { t.upd with relay := s.upd.relay } = s.upd ∧ AgreeBut [.ctr, .chain, .upd] s t) ∧
  (∀ (port : Fin 4) (f : ChainFrame) (s : State), onChain s = true → nodeId s ≠ 0 → fType f = 0xB → fOp f = 5 → frameOk f = true → fDst f
    = nodeId s → fDst f ≠ 63 → updLenOk f = true → relayFrom s f = true → fld (fWord f 0) 15 8 = 0 → ∃ t, exec (.updResultRx port f) s =
    .next t ∧ t.upd = { s.upd with relay := { s.upd.relay with st := .verified, reason := fld (fWord f 0) 7 0 } } ∧ AgreeBut [.ctr, .rcd,
    .upd] s t) ∧
  (∀ (port : Fin 4) (f : ChainFrame) (s : State), onChain s = true → nodeId s ≠ 0 → fType f = 0xB → fOp f = 5 → frameOk f = true → fDst f
    = nodeId s → fDst f ≠ 63 → updLenOk f = true → relayFrom s f = true → fld (fWord f 0) 15 8 ≠ 0 → ∃ t, exec (.updResultRx port f) s =
    .next t ∧ t.upd = { s.upd with relay := { s.upd.relay with st := .refused, reason := fld (fWord f 0) 7 0 } } ∧ AgreeBut [.ctr, .rcd,
    .upd] s t) ∧
  (∀ (s : State), relayRuns s = true → s.upd.relay.deadline ≤ s.now → ∃ t, exec (.updRelayTimeout) s = .next t ∧ t.upd =
    { s.upd with relay := { s.upd.relay with st := .timeout } } ∧ AgreeBut [.ctr, .rcd, .upd] s t)

/-- Activation. ACTIVATE of verified firmware writes TRY_VALID and restarts the cores; ACTIVATE that meets a condition of R505 only sets
ACT_REJ. ARM takes TGT_ACT_AT as T, and is refused with 0x2A when T is too near or no boundary (R506). DISARM before T returns to
VERIFIED (R507), and at or after T it is refused. At T an armed cold or firmware activation starts, or returns to VERIFIED (R506).
CONFIRM in TRIAL ends the session, and only there (R509). When the confirmation timer expires firmware restarts from ACTIVE_FW, and a
Tun that can be applied neither way stays in effect (R510). Ready firmware starts its trial, or ends the fall-back; firmware that is not
ready in 2 s is given up (R496). The ROM starts the first slot that passes, and without one the device enters recovery mode (R496,
R512); RESTART leaves it, and acts only there (R512). -/
def Obligations.ActivationAndFirmware : Prop :=
  (∀ (slot : Fin 4) (cold : Bool) (s : State), ownerMay s slot .updCmd [] = true → s.upd.recovery = false → s.upd.st = .verified →
    s.upd.target = 8 → actOk s cold = true → ∃ t, exec (.updActivate slot cold) s = .next t ∧ t.acc = (stOk, 0) ∧ (t.upd.st, t.upd.paused)
    = (UpdState.activating, true) ∧ (t.pwr.boot.fw, t.pwr.boot.fwReady) = (none, false) ∧ AgreeBut [.acc, .ctr, .flash, .pwr, .upd] s t) ∧
  (∀ (slot : Fin 4) (cold : Bool) (s : State), ownerMay s slot .updCmd [] = true → s.upd.recovery = false → s.upd.st ≠ .verified ∨ actOk s
    cold = false → ∃ t, exec (.updActivate slot cold) s = .next t ∧ t.acc = (stOk, 0) ∧ rb t .updStatus [] 27 = true ∧ t.upd = s.upd ∧
    AgreeBut [.acc, .regs] s t) ∧
  (∀ (port : Fin 4) (f : ChainFrame) (s : State), onChain s = true → nodeId s ≠ 0 → fType f = 0xB → fOp f = 7 → frameOk f = true → fDst f
    = nodeId s → fDst f ≠ 63 → updLenOk f = true → s.upd.st ≠ .idle → fSession f = s.upd.id → updAuth s f (s.upd.relayed && fSrc f ==
    s.upd.src) = true → fromOwner s f = true → s.upd.recovery = false → s.upd.st = .verified → s.upd.target = 8 → actOk s (tbit (fWord f
    0) 0) = true → tbNs s + armMinNs s ≤ actAt s → actAt s % furPeriod s = 0 → ∃ t, exec (.updArm port f) s = .next t ∧ (t.upd.st,
    t.upd.armAt, t.upd.cold) = (UpdState.armed, actAt s, false) ∧ AgreeBut [.ctr, .rcd, .chain, .upd] s t) ∧
  (∀ (port : Fin 4) (f : ChainFrame) (s : State), onChain s = true → nodeId s ≠ 0 → fType f = 0xB → fOp f = 7 → frameOk f = true → fDst f
    = nodeId s → fDst f ≠ 63 → updLenOk f = true → s.upd.st ≠ .idle → fSession f = s.upd.id → updAuth s f (s.upd.relayed && fSrc f ==
    s.upd.src) = true → fromOwner s f = true → s.upd.recovery = false → s.upd.st = .verified → actOk s (tbit (fWord f 0) 0) = true → actAt
    s < tbNs s + armMinNs s ∨ actAt s % furPeriod s ≠ 0 → ∃ t, exec (.updArm port f) s = .next t ∧ t.upd = { s.upd with reason := 0x2A } ∧
    AgreeBut [.ctr, .chain, .upd] s t) ∧
  (∀ (port : Fin 4) (f : ChainFrame) (s : State), onChain s = true → nodeId s ≠ 0 → fType f = 0xB → fOp f = 7 → frameOk f = true → fDst f
    = nodeId s → fDst f ≠ 63 → updLenOk f = true → s.upd.st ≠ .idle → fSession f = s.upd.id → updAuth s f (s.upd.relayed && fSrc f ==
    s.upd.src) = true → fromOwner s f = true → s.upd.st ≠ .verified → ∃ t, exec (.updArm port f) s = .next t ∧
    { t.upd with reason := s.upd.reason } = s.upd ∧ AgreeBut [.free, .ctr, .chain, .upd] s t) ∧
  (∀ (port : Fin 4) (f : ChainFrame) (s : State), onChain s = true → nodeId s ≠ 0 → fType f = 0xB → fOp f = 8 → frameOk f = true → fDst f
    = nodeId s → fDst f ≠ 63 → updLenOk f = true → s.upd.st ≠ .idle → fSession f = s.upd.id → updAuth s f (s.upd.relayed && fSrc f ==
    s.upd.src) = true → fromOwner s f = true → s.upd.st = .armed → s.upd.applying = false → tbNs s < s.upd.armAt → ∃ t, exec (.updDisarm
    port f) s = .next t ∧ t.upd.st = .verified ∧ { t.upd with reason := s.upd.reason, st := s.upd.st } = s.upd ∧ AgreeBut [.free, .ctr,
    .rcd, .chain, .upd] s t) ∧
  (∀ (port : Fin 4) (f : ChainFrame) (s : State), onChain s = true → nodeId s ≠ 0 → fType f = 0xB → fOp f = 8 → frameOk f = true → fDst f
    = nodeId s → fDst f ≠ 63 → updLenOk f = true → s.upd.st ≠ .idle → fSession f = s.upd.id → updAuth s f (s.upd.relayed && fSrc f ==
    s.upd.src) = true → fromOwner s f = true → s.upd.st = .armed → s.upd.applying = false → s.upd.armAt ≤ tbNs s → ∃ t, exec (.updDisarm
    port f) s = .next t ∧ t.upd = s.upd ∧ AgreeBut [.ctr, .chain] s t) ∧
  (∀ (s : State), onIsland s = true → s.upd.st = .armed → s.upd.applying = false → s.upd.target = 8 → s.upd.armAt ≤ tbNs s → actOk s
    s.upd.cold = true → ∃ t, exec (.updArmTime) s = .next t ∧ (t.upd.st, t.upd.paused) = (UpdState.activating, true) ∧ (t.pwr.boot.fw,
    t.pwr.boot.fwReady) = (none, false) ∧ AgreeBut [.ctr, .flash, .pwr, .upd] s t) ∧
  (∀ (s : State), onIsland s = true → s.upd.st = .armed → s.upd.applying = false → s.upd.armAt ≤ tbNs s → actOk s s.upd.cold = false → ∃
    t, exec (.updArmTime) s = .next t ∧ t.upd.st = .verified ∧ { t.upd with reason := s.upd.reason, st := s.upd.st } = s.upd ∧ AgreeBut
    [.free, .ctr, .rcd, .upd] s t) ∧
  (∀ (s : State), s.upd.st ≠ .armed ∨ tbNs s < s.upd.armAt → exec (.updArmTime) s = .next s) ∧
  (∀ (slot : Fin 4) (s : State), ownerMay s slot .updCmd [] = true → s.upd.st = .trial → s.upd.target < 4 → ∃ t, exec (.updConfirm slot) s
    = .next t ∧ t.acc = (stOk, 0) ∧ t.upd = { s.upd with st := .idle, trying := false } ∧ ∀ a : Nat, a < tunBase s.upd.target + tunArea +
    4 ∨ tunBase s.upd.target + tunArea + 8 ≤ a → flashByte t a = flashByte s a ∧ tunConfirmed t s.upd.target = true ∧ AgreeBut [.acc,
    .ctr, .flash, .rcd, .upd] s t) ∧
  (∀ (slot : Fin 4) (s : State), ownerMay s slot .updCmd [] = true → s.upd.st = .trial → s.upd.target = 8 → ∃ t, exec (.updConfirm slot) s
    = .next t ∧ t.acc = (stOk, 0) ∧ t.upd = { s.upd with st := .idle, trying := false } ∧ AgreeBut [.acc, .ctr, .flash, .rcd, .upd] s t) ∧
  (∀ (slot : Fin 4) (s : State), ownerMay s slot .updCmd [] = true → s.upd.st ≠ .trial → ∃ t, exec (.updConfirm slot) s = .next t ∧ t.acc
    = (stOk, 0) ∧ AgreeBut [.acc] s t) ∧
  (∀ (s : State), onIsland s = true → s.upd.st = .trial → s.upd.confirmAt ≤ s.now → s.upd.target = 8 → ∃ t, exec (.updConfirmExpire) s =
    .next t ∧ (t.upd.st, t.upd.falling, t.upd.paused, t.upd.fromActive) = (UpdState.fallback, true, true, true) ∧ t.pwr.boot.fw = none ∧
    ctrAt t (cOff 0x13 0x38) = (ctrAt s (cOff 0x13 0x38)).add 1 ∧ AgreeBut [.ctr, .pwr, .upd] s t) ∧
  (∀ (s : State), onIsland s = true → s.upd.st = .trial → s.upd.confirmAt ≤ s.now → s.upd.target < 4 → applyBase s s.upd.fromTun = false →
    ∃ t, exec (.updConfirmExpire) s = .next t ∧ (t.upd.st, t.upd.falling, t.upd.applying) = (UpdState.idle, false, false) ∧ t.img = s.img
    ∧ ctrAt t (cOff 0x13 0x38) = (ctrAt s (cOff 0x13 0x38)).add 1 ∧ AgreeBut [.regs, .ctr, .fur, .flt, .rcd, .pmc, .tgt, .chain, .pwr,
    .lp, .tbl, .lrn, .tcm, .slc, .xe, .ell, .bpm, .hbm, .sch, .fab, .img, .upd] s t) ∧
  (∀ (s : State), s.upd.st ≠ .trial ∨ s.now < s.upd.confirmAt → exec (.updConfirmExpire) s = .next s) ∧
  (∀ (d : Nat) (s : State), onIsland s = true → s.upd.readyBy = some d → s.upd.target = 8 → s.upd.st = .activating → ∃ t, exec (.fwReady)
    s = .next t ∧ (t.upd.st, t.upd.paused, t.upd.readyBy, t.upd.confirmAt) = (UpdState.trial, false, none, s.now + confirmNs s) ∧
    t.pwr.boot.fwReady = true ∧ ctrAt t (cOff 0x13 0x30) = (ctrAt s (cOff 0x13 0x30)).add 1 ∧ AgreeBut [.ctr, .rcd, .pwr, .upd] s t) ∧
  (∀ (d : Nat) (s : State), onIsland s = true → s.upd.readyBy = some d → s.upd.target = 8 → s.upd.st = .fallback → ∃ t, exec (.fwReady) s
    = .next t ∧ (t.upd.st, t.upd.paused, t.upd.falling) = (UpdState.idle, false, false) ∧ t.pwr.boot.fwReady = true ∧ AgreeBut [.ctr,
    .rcd, .pwr, .upd] s t) ∧
  (∀ (d : Nat) (s : State), onIsland s = true → s.upd.readyBy = some d → s.upd.st ≠ .activating → s.upd.st ≠ .fallback → ∃ t, exec
    (.fwReady) s = .next t ∧ t.upd = { s.upd with readyBy := none, paused := false } ∧ t.pwr.boot.fwReady = true ∧ AgreeBut [.pwr, .upd] s
    t) ∧
  (∀ (d : Nat) (s : State), onIsland s = true → s.upd.readyBy = some d → d ≤ s.now → ∃ t, exec (.fwReadyTimeout) s = .next t ∧
    (t.upd.paused, t.upd.fromActive, t.upd.readyBy) = (true, true, none) ∧ t.pwr.boot.fw = none ∧ t.pwr.boot.fwReady = false ∧ ctrAt t
    (cOff 0x13 0x38) = (ctrAt s (cOff 0x13 0x38)).add 1 ∧ AgreeBut [.ctr, .rcd, .pwr, .upd] s t) ∧
  (∀ (n : Fin 2) (s : State), onChain s = true → s.upd.recovery = false → s.pwr.boot.fw = none → n.val = (if tryValid s &&
    !s.upd.fromActive then tryFw s else activeFw s) → ∃ t, exec (.fwVerifyDone) s = .next t ∧ fwGood s n.val = true → (t.pwr.boot.fw,
    t.upd.running, t.upd.readyBy) = (some n.val, n.val, some (s.now + 2000000000)) ∧ fwGood s n.val = false → slotConfirmed s (fwBase (1 -
    n.val)) fwArea = true → fwGood s (1 - n.val) = true → (t.pwr.boot.fw, t.upd.running) = (some (1 - n.val), 1 - n.val) ∧ fwGood s n.val
    = false → (slotConfirmed s (fwBase (1 - n.val)) fwArea && fwGood s (1 - n.val)) = false → (t.upd.recovery, t.upd.st, t.pwr.boot.fw) =
    (true, UpdState.idle, none) ∧ AgreeBut [.regs, .ctr, .flash, .fur, .flt, .rcd, .pmc, .tgt, .chain, .pwr, .lp, .tbl, .lrn, .tcm, .slc,
    .xe, .ell, .bpm, .hbm, .sch, .fab, .img, .upd] s t) ∧
  (∀ (slot : Fin 4) (s : State), ownerMay s slot .updCmd [] = true → s.upd.recovery = true → ∃ t, exec (.updRestart slot) s = .next t ∧
    t.acc = (stOk, 0) ∧ t.upd = { recovery := false, fwValid := s.upd.fwValid } ∧ t.pwr.boot =
    { t0 := s.now, sysref := s.pwr.boot.sysref } ∧ t.pwr.profSampled = s.pwr.profPins ∧ AgreeBut [.acc, .pwr, .img, .upd] s t) ∧
  (∀ (slot : Fin 4) (s : State), ownerMay s slot .updCmd [] = true → s.upd.recovery = false → ∃ t, exec (.updRestart slot) s = .next t ∧
    t.acc = (stOk, 0) ∧ AgreeBut [.acc] s t)

/-! ## Power, clocks and reset -/

/-- Feeds and temperature. A feed follows Table 19.1: 10 ms in range without a break leads to PRESENT, below 5.8 V a PRESENT feed is LOST,
above 40.8 V it is ISOLATED, and a LOST or ISOLATED feed in range qualifies again (R517). The loss of a feed counts, and raises its
source, and without another feed PRESENT the bus runs alone (R518, R519). After 200 µs without a feed the device enters brown-out reset
and leaves it 10 ms after a feed returned; the first feed to be PRESENT releases the supervisor at once (R519, R536). Samples are taken
every 100 µs, are shown and follow the carry rule (R516, R521; an earlier sample has no effect: the model's choice, log entry 69). A
reading above HI_C for 1 ms raises THERM_HI, and one at or above 160 °C for 100 µs enters the fatal state (R531). -/
def Obligations.FeedsAndTemperature : Prop :=
  (∀ (f : Fin 2) (a : Nat) (s : State), (feedOf s f.val).st = .qualifying → (feedOf s f.val).since = some a → a + 10000000 ≤ s.now →
    s.pwr.everPresent = true → s.pwr.brown = false → ∃ t, exec (.feedQualified f) s = .next t ∧ ((feedOf t f.val).st, (feedOf t
    f.val).since, (feedOf t f.val).lostF, (feedOf t f.val).rangeF) = (FeedState.present, none, false, false) ∧ (t.pwr.noFeed,
    t.pwr.feedBack, t.pwr.everPresent) = (none, none, true) ∧ holds t 1 f.val 0 = false ∧ t.pwr.boot = s.pwr.boot ∧ AgreeBut [.flt, .pwr]
    s t) ∧
  (∀ (f : Fin 2) (a : Nat) (s : State), (feedOf s f.val).st = .qualifying → (feedOf s f.val).since = some a → a + 10000000 ≤ s.now →
    s.pwr.everPresent = true → s.pwr.brown = true → s.pwr.feedBack = none → ∃ t, exec (.feedQualified f) s = .next t ∧ (feedOf t f.val).st
    = .present ∧ t.pwr.feedBack = some s.now ∧ t.pwr.boot = s.pwr.boot ∧ AgreeBut [.flt, .pwr] s t) ∧
  (∀ (f : Fin 2) (a : Nat) (s : State), (feedOf s f.val).st = .qualifying → (feedOf s f.val).since = some a → a + 10000000 ≤ s.now →
    s.pwr.everPresent = false → s.pwr.brown = false → s.pwr.boot.lowSince = none → ∃ t, exec (.feedQualified f) s = .next t ∧ (feedOf t
    f.val).st = .present ∧ t.pwr.everPresent = true ∧ t.pwr.boot = { t0 := s.now } ∧ t.pwr.profSampled = s.pwr.profPins ∧ AgreeBut [.ctr,
    .flt, .rcd, .pwr] s t) ∧
  (∀ (f : Fin 2) (s : State), (feedOf s f.val).st ≠ .qualifying ∨ (feedOf s f.val).since = none → exec (.feedQualified f) s = .next s) ∧
  (∀ (f : Fin 2) (a : Nat) (s : State), (feedOf s f.val).since = some a → s.now < a + 10000000 → exec (.feedQualified f) s = .next s) ∧
  (∀ (f : Fin 2) (s : State), (feedOf s f.val).st = .present → onIsland s = true → (feedOf s (1 - f.val)).st = .present → ∃ t, exec
    (.feedUndervolt f) s = .next t ∧ ((feedOf t f.val).st, (feedOf t f.val).since, (feedOf t f.val).lostF, (feedOf t f.val).carry) =
    (FeedState.lost, none, true, false) ∧ ctrAt t (cOff 1 (8 * f.val)) = (ctrAt s (cOff 1 (8 * f.val))).add 1 ∧ holds t 1 f.val 0 = true ∧
    t.pwr.noFeed = s.pwr.noFeed ∧ (feedOf t (1 - f.val)).carry = true ∧ AgreeBut [.ctr, .flt, .rcd, .pwr] s t) ∧
  (∀ (f : Fin 2) (s : State), (feedOf s f.val).st = .present → onIsland s = true → (feedOf s (1 - f.val)).st ≠ .present → ∃ t, exec
    (.feedUndervolt f) s = .next t ∧ ((feedOf t f.val).st, (feedOf t f.val).since, (feedOf t f.val).lostF, (feedOf t f.val).carry) =
    (FeedState.lost, none, true, false) ∧ ctrAt t (cOff 1 (8 * f.val)) = (ctrAt s (cOff 1 (8 * f.val))).add 1 ∧ t.pwr.noFeed = some s.now
    ∧ AgreeBut [.ctr, .flt, .rcd, .pwr] s t) ∧
  (∀ (f : Fin 2) (s : State), (feedOf s f.val).st = .qualifying → ∃ t, exec (.feedUndervolt f) s = .next t ∧ feedOf t f.val =
    { feedOf s f.val with since := none } ∧ feedOf t (1 - f.val) = feedOf s (1 - f.val) ∧ AgreeBut [.pwr] s t) ∧
  (∀ (f : Fin 2) (mv : Fin 131072) (s : State), 40800 < mv.val → (feedOf s f.val).st ≠ .isolated → onIsland s = true → ∃ t, exec
    (.feedOvervolt f mv) s = .next t ∧ ((feedOf t f.val).st, (feedOf t f.val).since, (feedOf t f.val).rangeF, (feedOf t f.val).carry) =
    (FeedState.isolated, none, true, false) ∧ holds t 1 2 0 = true ∧ ctrAt t (cOff 1 (8 * f.val)) = (if (feedOf s f.val).st = .present
    then (ctrAt s (cOff 1 (8 * f.val))).add 1 else ctrAt s (cOff 1 (8 * f.val))) ∧ AgreeBut [.ctr, .flt, .rcd, .pwr] s t) ∧
  (∀ (f : Fin 2) (mv : Fin 131072) (s : State), mv.val ≤ 40800 → exec (.feedOvervolt f mv) s = .next s) ∧
  (∀ (f : Fin 2) (mv : Fin 65536) (s : State), (feedOf s f.val).st = .lost → 6000 ≤ mv.val → mv.val ≤ 40800 → ∃ t, exec (.feedInRange f
    mv) s = .next t ∧ feedOf t f.val =
    { feedOf s f.val with st := .qualifying, since := (if mv.val ≤ 40000 then some ((feedOf s f.val).since.getD s.now) else none) } ∧
    feedOf t (1 - f.val) = feedOf s (1 - f.val) ∧ AgreeBut [.pwr] s t) ∧
  (∀ (f : Fin 2) (mv : Fin 65536) (s : State), (feedOf s f.val).st = .isolated → 6000 ≤ mv.val → mv.val ≤ 40000 → ∃ t, exec (.feedInRange
    f mv) s = .next t ∧ feedOf t f.val =
    { feedOf s f.val with st := .qualifying, since := (if mv.val ≤ 40000 then some ((feedOf s f.val).since.getD s.now) else none) } ∧
    AgreeBut [.pwr] s t) ∧
  (∀ (f : Fin 2) (mv : Fin 65536) (s : State), (feedOf s f.val).st = .qualifying → mv.val < 6000 ∨ 40000 < mv.val → ∃ t, exec
    (.feedInRange f mv) s = .next t ∧ feedOf t f.val = { feedOf s f.val with since := none } ∧ AgreeBut [.pwr] s t) ∧
  (∀ (f : Fin 2) (mv : Fin 65536) (s : State), (feedOf s f.val).st = .present → exec (.feedInRange f mv) s = .next s) ∧
  (∀ (a : Nat) (s : State), s.pwr.noFeed = some a → s.pwr.everPresent = true → s.pwr.brown = false → a + 200000 ≤ s.now → ∃ t, exec
    (.brownoutEnter) s = .next t ∧ onIsland t = false ∧ (t.pwr.brown, t.pwr.boot.lowSince) = (true, s.pwr.boot.lowSince) ∧ t.flash =
    s.flash ∧ t.now = s.now ∧ t.pending = s.pending ∧ t.node = {} ∧ t.fur = {} ∧ t.flt = {} ∧ t.tgt = {} ∧ t.lp = {} ∧ t.bpm = {} ∧ t.sch
    = {} ∧ t.xe = {} ∧ t.ell = {} ∧ t.hbm = {} ∧ t.upd = {} ∧ (t.rcd.opSec, t.rcd.cycle, t.rcd.bins, t.rcd.flashq) = (s.rcd.opSec,
    s.rcd.cycle, s.rcd.bins, s.rcd.flashq) ∧ (t.pwr.feedA, t.pwr.feedB) = (s.pwr.feedA, s.pwr.feedB) ∧ rb t .clkRstCause [] 29 = true ∧ rb
    t .clkRstCause [] 31 = rb s .clkRstCause [] 31 ∧ rb t .clkRstCause [] 30 = rb s .clkRstCause [] 30 ∧ AgreeBut [.regs, .ctr, .latch,
    .fur, .flt, .rcd, .pmc, .tgt, .node, .chain, .pwr, .lp, .tbl, .lrn, .tcm, .slc, .xe, .ell, .bpm, .hbm, .sch, .fab, .img, .upd] s t) ∧
  (∀ (a : Nat) (s : State), s.pwr.noFeed = some a → s.now < a + 200000 → exec (.brownoutEnter) s = .next s) ∧
  (∀ (s : State), s.pwr.noFeed = none ∨ s.pwr.everPresent = false ∨ s.pwr.brown = true → exec (.brownoutEnter) s = .next s) ∧
  (∀ (a : Nat) (s : State), s.pwr.feedBack = some a → s.pwr.brown = true → a + 10000000 ≤ s.now → s.pwr.boot.lowSince = none →
    s.pwr.everPresent = true → ∃ t, exec (.brownoutExit) s = .next t ∧ t.pwr.boot = { t0 := s.now } ∧ (t.pwr.brown, t.pwr.feedBack) =
    (false, none) ∧ t.pwr.profSampled = s.pwr.profPins ∧ AgreeBut [.ctr, .flt, .rcd, .pwr] s t) ∧
  (∀ (a : Nat) (s : State), s.pwr.feedBack = some a → s.pwr.brown = true → a + 10000000 ≤ s.now → s.pwr.boot.lowSince ≠ none → ∃ t, exec
    (.brownoutExit) s = .next t ∧ t.pwr.boot = s.pwr.boot ∧ (t.pwr.brown, t.pwr.feedBack) = (false, none) ∧ AgreeBut [.pwr] s t) ∧
  (∀ (a : Nat) (s : State), s.pwr.feedBack = some a → s.now < a + 10000000 → exec (.brownoutExit) s = .next s) ∧
  (∀ (f : List (BitVec 16)) (q : List (BitVec 16)) (a : Int × Nat) (b : Int × Nat) (s : State), onIsland s = true → hottest f 0 none =
    some a → hottest q 0 none = some b → holds s 1 5 0 = false → max a.1 b.1 ≤ hiC s → s.pwr.thermDue ≤ s.now → ∃ t, exec (.thermSample f
    q) s = .next t ∧ (t.pwr.thermF, t.pwr.thermQ, t.pwr.thermDue) = (a, b, s.now + 100000) ∧ (t.pwr.hiSince, t.pwr.critSince) = (none,
    none) ∧ t.flt = s.flt ∧ AgreeBut [.rcd, .pwr] s t) ∧
  (∀ (f : List (BitVec 16)) (q : List (BitVec 16)) (a : Int × Nat) (b : Int × Nat) (s : State), onIsland s = true → hottest f 0 none =
    some a → hottest q 0 none = some b → holds s 1 5 0 = false → hiC s < max a.1 b.1 → max a.1 b.1 < 2560 → s.now < s.pwr.hiSince.getD
    s.now + 1000000 → s.pwr.thermDue ≤ s.now → ∃ t, exec (.thermSample f q) s = .next t ∧ (t.pwr.thermF, t.pwr.thermQ, t.pwr.thermDue) =
    (a, b, s.now + 100000) ∧ t.pwr.hiSince = some (s.pwr.hiSince.getD s.now) ∧ t.flt = s.flt ∧ AgreeBut [.rcd, .pwr] s t) ∧
  (∀ (f : List (BitVec 16)) (q : List (BitVec 16)) (a : Int × Nat) (b : Int × Nat) (h : Nat) (s : State), onIsland s = true → hottest f 0
    none = some a → hottest q 0 none = some b → holds s 1 5 0 = false → hiC s < max a.1 b.1 → max a.1 b.1 < 2560 → s.pwr.hiSince = some h
    → h + 1000000 ≤ s.now → s.pwr.thermDue ≤ s.now → ∃ t, exec (.thermSample f q) s = .next t ∧ (t.pwr.thermF, t.pwr.thermQ,
    t.pwr.thermDue) = (a, b, s.now + 100000) ∧ holds t 1 5 0 = true ∧ tbit (fltOf t 1).live 5 = true ∧ t.pwr.hiSince = none ∧ AgreeBut
    [.ctr, .flt, .rcd, .pwr] s t) ∧
  (∀ (f : List (BitVec 16)) (q : List (BitVec 16)) (a : Int × Nat) (b : Int × Nat) (h : Nat) (s : State), onIsland s = true → hottest f 0
    none = some a → hottest q 0 none = some b → holds s 1 5 0 = true → max a.1 b.1 ≤ hiC s - 48 → s.pwr.hiSince = some h → h + 1000000 ≤
    s.now → s.pwr.thermDue ≤ s.now → ∃ t, exec (.thermSample f q) s = .next t ∧ (t.pwr.thermF, t.pwr.thermQ, t.pwr.thermDue) = (a, b,
    s.now + 100000) ∧ holds t 1 5 0 = false ∧ t.pwr.hiSince = none ∧ AgreeBut [.flt, .rcd, .pwr] s t) ∧
  (∀ (f : List (BitVec 16)) (q : List (BitVec 16)) (a : Int × Nat) (b : Int × Nat) (h : Nat) (s : State), onIsland s = true → hottest f 0
    none = some a → hottest q 0 none = some b → 2560 ≤ max a.1 b.1 → s.pwr.critSince = some h → h + 100000 ≤ s.now → holds s 1 6 0 = false
    → s.pwr.thermDue ≤ s.now → ∃ t, exec (.thermSample f q) s = .next t ∧ (t.pwr.thermF, t.pwr.thermQ, t.pwr.thermDue) = (a, b, s.now +
    100000) ∧ t.flt.fatal = true ∧ holds t 1 6 0 = true ∧ AgreeBut [.ctr, .flt, .rcd, .pwr] s t) ∧
  (∀ (f : List (BitVec 16)) (q : List (BitVec 16)) (s : State), s.now < s.pwr.thermDue → exec (.thermSample f q) s = .next s) ∧
  (∀ (va : Fin 65536) (vb : Fin 65536) (ca : Fin 8192) (cb : Fin 8192) (w : Fin 65536) (s : State), s.now < s.pwr.powerDue → exec
    (.powerSample va vb ca cb w) s = .next s) ∧
  (∀ (va : Fin 65536) (vb : Fin 65536) (ca : Fin 8192) (cb : Fin 8192) (w : Fin 65536) (s : State), onIsland s = true → s.pwr.feedA.st =
    .present → s.pwr.feedB.st = .present → s.pwr.powerDue ≤ s.now → ∃ t, exec (.powerSample va vb ca cb w) s = .next t ∧
    (t.pwr.feedA.volt, t.pwr.feedA.cur, t.pwr.feedB.volt, t.pwr.feedB.cur) = (va.val, ca.val, vb.val, cb.val) ∧ t.pwr.feedA.carry = decide
    (vb.val ≤ va.val + 300) ∧ t.pwr.feedB.carry = decide (va.val ≤ vb.val + 300) ∧ t.pwr.powerDue = s.now + 100000 ∧ (t.pwr.power, rf t
    .pwrInputPeak [] 15 0) = (w.val, max w.val (rf s .pwrInputPeak [] 15 0)) ∧ AgreeBut [.regs, .rcd, .pwr] s t)

/-- Domains, references and resets. A host switch of a domain that blocks switch is refused with reason 1, one whose unit is in use with
reason 2, and one with sealed values with reason 3; one that asks for the state that is there has no effect; an accepted one starts to
switch, or waits while 32 domains ramp (R523, R524, R527, R528). A switch that completes counts and ends ON or OFF (R524, R525), and the
first request that waits begins. A domain over its limit trips (R529). The loss of SYSREF is fatal, that of LREF_g fences its group,
that of FREF_k and TIME_10M shows, and their return is taken back (R534). RESET_N, brown-out and power-on clear what Table 19.6 says and
set their cause (R535). A release samples PROFILE_SEL and starts the boot at t0 (R536, R537). The boot goes on with SYSREF, the rails
and PLLs, and the cleared stores (R533, R537). -/
def Obligations.DomainsReferencesReset : Prop :=
  (∀ (slot : Fin 4) (d : Fin 128) (s : State), ownerMay s slot .pwrDomCmd [] = true → 96 ≤ d.val ∨ (hostDom d.val = false ∧ domSt s d.val
    ≠ .tripped) → ∃ t, exec (.domSwitchOn slot d) s = .next t ∧ t.acc = (stOk, 0) ∧ (t.pwr.rejReason, t.pwr.rejDom) = (1, d.val) ∧ rb t
    .pwrDomRej [] 31 = true ∧ t.pwr.doms = s.pwr.doms ∧ AgreeBut [.acc, .regs, .pwr] s t) ∧
  (∀ (slot : Fin 4) (d : Fin 128) (s : State), ownerMay s slot .pwrDomCmd [] = true → 96 ≤ d.val ∨ (hostDom d.val = false ∧ domSt s d.val
    ≠ .tripped) → ∃ t, exec (.domSwitchOff slot d) s = .next t ∧ t.acc = (stOk, 0) ∧ (t.pwr.rejReason, t.pwr.rejDom) = (1, d.val) ∧ rb t
    .pwrDomRej [] 31 = true ∧ t.pwr.doms = s.pwr.doms ∧ AgreeBut [.acc, .regs, .pwr] s t) ∧
  (∀ (slot : Fin 4) (d : Fin 128) (s : State), ownerMay s slot .pwrDomCmd [] = true → d.val < 96 → hostDom d.val = true ∨ domSt s d.val =
    .tripped → domSt s d.val = .off ∨ domSt s d.val = .tripped → s.pwr.rampq = [] → ramping s < 32 → ∃ t, exec (.domSwitchOn slot d) s =
    .next t ∧ t.acc = (stOk, 0) ∧ t.pwr.doms.get {} d.val = { st := .switching, toOn := true } ∧ holds t 1 3 d.val = false ∧ AgreeBut
    [.acc, .flt, .pwr] s t) ∧
  (∀ (slot : Fin 4) (d : Fin 128) (s : State), ownerMay s slot .pwrDomCmd [] = true → d.val < 96 → hostDom d.val = true ∨ domSt s d.val =
    .tripped → domSt s d.val = .off ∨ domSt s d.val = .tripped → s.pwr.rampq.all (fun r => r.1 != d.val) = true → 32 ≤ ramping s → ∃ t,
    exec (.domSwitchOn slot d) s = .next t ∧ t.acc = (stOk, 0) ∧ t.pwr.rampq = s.pwr.rampq ++ [(d.val, true)] ∧ t.pwr.doms = s.pwr.doms ∧
    AgreeBut [.acc, .pwr] s t) ∧
  (∀ (slot : Fin 4) (d : Fin 128) (s : State), ownerMay s slot .pwrDomCmd [] = true → hostDom d.val = true → domSt s d.val = .on →
    (s.pwr.doms.get {} d.val).waitSet = false → s.pwr.rampq.all (fun r => r.1 != d.val) = true → ∃ t, exec (.domSwitchOn slot d) s = .next
    t ∧ t.acc = (stOk, 0) ∧ AgreeBut [.acc] s t) ∧
  (∀ (slot : Fin 4) (d : Fin 128) (s : State), ownerMay s slot .pwrDomCmd [] = true → hostDom d.val = true → domSt s d.val = .off ∨ domSt
    s d.val = .tripped → s.pwr.rampq.all (fun r => r.1 != d.val) = true → ∃ t, exec (.domSwitchOff slot d) s = .next t ∧ t.acc = (stOk, 0)
    ∧ AgreeBut [.acc] s t) ∧
  (∀ (slot : Fin 4) (d : Fin 128) (s : State), ownerMay s slot .pwrDomCmd [] = true → hostDom d.val = true → domSt s d.val = .on →
    (s.pwr.doms.get {} d.val).waitSet = false → s.pwr.rampq.all (fun r => r.1 != d.val) = true → offOk s d.val = false → ∃ t, exec
    (.domSwitchOff slot d) s = .next t ∧ t.acc = (stOk, 0) ∧ (t.pwr.rejReason, t.pwr.rejDom) = (2, d.val) ∧ rb t .pwrDomRej [] 31 = true ∧
    t.pwr.doms = s.pwr.doms ∧ AgreeBut [.acc, .regs, .pwr] s t) ∧
  (∀ (slot : Fin 4) (d : Fin 128) (s : State), ownerMay s slot .pwrDomCmd [] = true → hostDom d.val = true → domSt s d.val = .on →
    (s.pwr.doms.get {} d.val).waitSet = false → s.pwr.rampq.all (fun r => r.1 != d.val) = true → offOk s d.val = true → sealedFor s d.val
    = true → ∃ t, exec (.domSwitchOff slot d) s = .next t ∧ t.acc = (stOk, 0) ∧ (t.pwr.rejReason, t.pwr.rejDom) = (3, d.val) ∧ rb t
    .pwrDomRej [] 31 = true ∧ t.pwr.doms = s.pwr.doms ∧ AgreeBut [.acc, .regs, .pwr] s t) ∧
  (∀ (slot : Fin 4) (d : Fin 128) (s : State), ownerMay s slot .pwrDomCmd [] = true → hostDom d.val = true → domSt s d.val = .on →
    (s.pwr.doms.get {} d.val).waitSet = false → s.pwr.rampq.all (fun r => r.1 != d.val) = true → offOk s d.val = true → sealedFor s d.val
    = false → s.fur.armed = true → ∃ t, exec (.domSwitchOff slot d) s = .next t ∧ t.acc = (stOk, 0) ∧ t.pwr.doms.get {} d.val =
    { s.pwr.doms.get {} d.val with waitSet := true } ∧ domOn t d.val = true ∧ AgreeBut [.acc, .pwr] s t) ∧
  (∀ (slot : Fin 4) (d : Fin 128) (s : State), ownerMay s slot .pwrDomCmd [] = true → hostDom d.val = true → domSt s d.val = .on →
    (s.pwr.doms.get {} d.val).waitSet = false → s.pwr.rampq = [] → ramping s < 32 → offOk s d.val = true → sealedFor s d.val = false →
    s.fur.armed = false → ∃ t, exec (.domSwitchOff slot d) s = .next t ∧ t.acc = (stOk, 0) ∧ t.pwr.doms.get {} d.val =
    { st := .switching, toOn := false } ∧ domOn t d.val = false ∧ AgreeBut [.acc, .regs, .ctr, .flash, .fur, .flt, .rcd, .pmc, .tgt,
    .chain, .pwr, .lp, .tbl, .lrn, .tcm, .slc, .xe, .ell, .bpm, .hbm, .sch, .fab, .img, .upd] s t) ∧
  (∀ (d : Fin 96) (s : State), onData s = true → (s.pwr.doms.get {} d.val).st = .switching → (s.pwr.doms.get {} d.val).toOn = false →
    s.pwr.rampq = [] → ∃ t, exec (.domSwitchDone d) s = .next t ∧ t.pwr.doms.get {} d.val = { st := .off } ∧ ctrAt t (cOff 1 0x10) =
    (ctrAt s (cOff 1 0x10)).add 1 ∧ t.regs = s.regs ∧ AgreeBut [.ctr, .rcd, .pwr, .lp, .fab, .lrn, .slc, .xe, .tcm] s t) ∧
  (∀ (d : Fin 96) (s : State), onData s = true → (s.pwr.doms.get {} d.val).st = .switching → (s.pwr.doms.get {} d.val).toOn = true →
    s.pwr.rampq = [] → ∃ t, exec (.domSwitchDone d) s = .next t ∧ t.pwr.doms.get {} d.val = { st := .on } ∧ ctrAt t (cOff 1 0x10) = (ctrAt
    s (cOff 1 0x10)).add 1 ∧ AgreeBut [.regs, .ctr, .rcd, .pwr, .lp, .hbm, .fab] s t) ∧
  (∀ (d : Fin 96) (e : Fin 96) (s : State), onData s = true → (s.pwr.doms.get {} d.val).st = .switching → (s.pwr.doms.get {} d.val).toOn =
    true → s.pwr.rampq = [(e.val, true)] → domSt s e.val = .off → ramping (domEnds s d.val) < 32 → holds s 1 3 e.val = false → ∃ t, exec
    (.domSwitchDone d) s = .next t ∧ t.pwr.doms.get {} d.val = { st := .on } ∧ t.pwr.doms.get {} e.val =
    { st := .switching, toOn := true } ∧ t.pwr.rampq = [] ∧ AgreeBut [.regs, .ctr, .rcd, .pwr, .lp, .hbm, .fab] s t) ∧
  (∀ (d : Fin 96) (s : State), (s.pwr.doms.get {} d.val).st ≠ .switching → s.pwr.rampq = [] → exec (.domSwitchDone d) s = .next s) ∧
  (∀ (d : Fin 96) (s : State), onData s = true → domSt s d.val = .on → 16 ≤ d.val → d.val < 18 → holds s 1 3 d.val = false → ∃ t, exec
    (.domTrip d) s = .next t ∧ t.pwr.doms.get {} d.val = { st := .tripped } ∧ holds t 1 3 d.val = true ∧ ctrAt t (cOff 1 0x18) = (ctrAt s
    (cOff 1 0x18)).add 1 ∧ tbit (fltOf t 1).live 3 = true ∧ AgreeBut [.regs, .ctr, .fur, .flt, .rcd, .pmc, .tgt, .chain, .pwr, .lp, .tbl,
    .lrn, .tcm, .slc, .xe, .ell, .bpm, .hbm, .sch, .fab, .img, .upd] s t) ∧
  (∀ (d : Fin 96) (s : State), onData s = true → domSt s d.val = .on → ∃ t, exec (.domTrip d) s = .next t ∧ domSt t d.val = .tripped ∧
    holds t 1 3 d.val = true ∧ AgreeBut [.regs, .ctr, .fur, .flt, .rcd, .pmc, .tgt, .chain, .pwr, .lp, .tbl, .lrn, .tcm, .slc, .xe, .ell,
    .bpm, .hbm, .sch, .fab, .img, .upd] s t) ∧
  (∀ (d : Fin 96) (s : State), domSt s d.val = .off ∨ domSt s d.val = .tripped → exec (.domTrip d) s = .next s) ∧
  (∀ (s : State), onIsland s = true → s.pwr.boot.sysref = true → holds s 2 0 0 = false → ∃ t, exec (.refInputLoss .sysref) s = .next t ∧
    t.flt.fatal = true ∧ holds t 2 0 0 = true ∧ AgreeBut [.ctr, .flt, .rcd] s t) ∧
  (∀ (g : Fin 16) (s : State), onIsland s = true → s.pwr.lpll.get false g.val = true → ∃ t, exec (.refInputLoss (.lref g)) s = .next t ∧
    t.pwr.lrefGone.get false g.val = true ∧ t.pwr.lpll.get false g.val = false ∧ isFenced t 4 g.val = true ∧ AgreeBut [.ctr, .fur, .flt,
    .rcd, .tgt, .pwr, .lp, .fab] s t) ∧
  (∀ (k : Fin 4) (s : State), onIsland s = true → ∃ t, exec (.refInputLoss (.fref k)) s = .next t ∧ t.pwr.frefGone.get false k.val = true
    ∧ AgreeBut [.ctr, .fur, .flt, .rcd, .tgt, .pwr, .lp, .fab] s t) ∧
  (∀ (k : Fin 4) (l : Fin 192) (s : State), onData s = true → s.pwr.frefGone.get false k.val = false → l.val / 48 = k.val → ∃ t, exec
    (.refInputLoss (.fref k)) s = .next t ∧ (laneOf t l.val).st ≠ .up ∧ AgreeBut [.ctr, .fur, .flt, .rcd, .tgt, .pwr, .lp, .fab] s t) ∧
  (∀ (s : State), onIsland s = true → tbSrc s = 1 → s.tgt.refOk = true → ∃ t, exec (.refInputLoss .time10m) s = .next t ∧ (t.tgt.refOk,
    t.tgt.refSince) = (false, some s.now) ∧ AgreeBut [.ctr, .rcd, .tgt] s t) ∧
  (∀ (g : Fin 16) (s : State), onData s = true → ∃ t, exec (.refInputReturn (.lref g)) s = .next t ∧ t.pwr.lrefGone.get false g.val =
    false ∧ t.pwr.lpll.get false g.val = true ∧ holds t 2 4 g.val = false ∧ isFenced t 4 g.val = isFenced s 4 g.val ∧ AgreeBut [.flt,
    .pwr] s t) ∧
  (∀ (k : Fin 4) (s : State), onIsland s = true → ∃ t, exec (.refInputReturn (.fref k)) s = .next t ∧ t.pwr.frefGone.get false k.val =
    false ∧ AgreeBut [.ctr, .flt, .rcd, .tgt, .pwr, .fab] s t) ∧
  (∀ (s : State), onIsland s = true → tbSrc s = 1 → s.tgt.refOk = false → ∃ t, exec (.refInputReturn .time10m) s = .next t ∧
    t.tgt.refSince = some s.now ∧ AgreeBut [.tgt] s t) ∧
  (∀ (s : State), onIsland s = true → exec (.refInputReturn .sysref) s = .next s) ∧
  (∀ (s : State), onIsland s = true → ∃ t, exec (.sysrefPresent) s = .next t ∧ t.pwr.boot = { s.pwr.boot with sysref := true } ∧ AgreeBut
    [.pwr] s t) ∧
  (∀ (s : State), ∃ t, exec (.powerOn) s = .next t ∧ onIsland t = false ∧ t.pwr.everPresent = false ∧ ((t.pwr.feedA.st), t.pwr.feedB.st) =
    (FeedState.qualifying, FeedState.qualifying) ∧ regRaw t .clkRstCause [] = 0x80000000 ∧ t.flash = s.flash ∧ t.now = s.now ∧ t.pending =
    s.pending ∧ t.node = {} ∧ t.fur = {} ∧ t.flt = {} ∧ t.tgt = {} ∧ t.lp = {} ∧ t.bpm = {} ∧ t.sch = {} ∧ t.xe = {} ∧ t.ell = {} ∧ t.hbm
    = {} ∧ t.upd = {} ∧ t.rcd.cycle = (match lifeLast s with | none => 1 | some x => (fld (x.2.headD 0) 23 0 + 1) % 2 ^ 24) ∧ AgreeBut
    [.regs, .ctr, .latch, .fur, .flt, .rcd, .pmc, .tgt, .node, .chain, .pwr, .jtag, .lp, .tbl, .lrn, .tcm, .slc, .xe, .ell, .bpm, .hbm,
    .sch, .fab, .img, .upd] s t) ∧
  (∀ (s : State), s.pwr.boot.lowSince = none → ∃ t, exec (.resetNAssert) s = .next t ∧ onIsland t = false ∧ t.pwr.boot =
    { held := true, lowSince := some s.now } ∧ t.flash = s.flash ∧ t.now = s.now ∧ t.pending = s.pending ∧ t.node = {} ∧ t.fur = {} ∧
    t.flt = {} ∧ t.tgt = {} ∧ t.lp = {} ∧ t.bpm = {} ∧ t.sch = {} ∧ t.xe = {} ∧ t.ell = {} ∧ t.hbm = {} ∧ t.upd = {} ∧ (t.rcd.opSec,
    t.rcd.cycle, t.rcd.bins, t.rcd.flashq) = (s.rcd.opSec, s.rcd.cycle, s.rcd.bins, s.rcd.flashq) ∧ (t.pwr.feedA, t.pwr.feedB) =
    (s.pwr.feedA, s.pwr.feedB) ∧ rb t .clkRstCause [] 30 = true ∧ rb t .clkRstCause [] 31 = rb s .clkRstCause [] 31 ∧ rb t .clkRstCause []
    29 = rb s .clkRstCause [] 29 ∧ AgreeBut [.regs, .ctr, .latch, .fur, .flt, .rcd, .pmc, .tgt, .node, .chain, .pwr, .lp, .tbl, .lrn,
    .tcm, .slc, .xe, .ell, .bpm, .hbm, .sch, .fab, .img, .upd] s t) ∧
  (∀ (s : State), s.pwr.boot.lowSince ≠ none → exec (.resetNAssert) s = .next s) ∧
  (∀ (pins : Fin 4) (s : State), s.pwr.boot.lowSince ≠ none → s.pwr.brown = false → s.pwr.everPresent = true → ∃ t, exec (.resetNRelease
    pins) s = .next t ∧ t.pwr.boot = { t0 := s.now } ∧ (t.pwr.profPins, t.pwr.profSampled) = (pins.val, pins.val) ∧ AgreeBut [.ctr, .flt,
    .rcd, .pwr] s t) ∧
  (∀ (pins : Fin 4) (s : State), s.pwr.boot.lowSince ≠ none → s.pwr.brown = true ∨ s.pwr.everPresent = false → ∃ t, exec (.resetNRelease
    pins) s = .next t ∧ t.pwr.boot = { s.pwr.boot with lowSince := none } ∧ t.pwr.profSampled = s.pwr.profSampled ∧ AgreeBut [.pwr] s t) ∧
  (∀ (pins : Fin 4) (s : State), s.pwr.boot.lowSince = none → exec (.resetNRelease pins) s = .next s) ∧
  (∀ (s : State), onIsland s = true → s.pwr.boot.sysref = true → s.pwr.boot.rails = false → s.upd.recovery = false → ∃ t, exec
    (.mainRailsUp) s = .next t ∧ t.pwr.boot = { s.pwr.boot with rails := true } ∧ (t.pwr.fclk, t.pwr.qclk) = (true, true) ∧ ∀ k : Nat, k <
    4 → t.pwr.hbmLock.get false k = true ∧ ∀ g : Nat, g < 16 → t.pwr.lpll.get false g = !(s.pwr.lrefGone.get false g) ∧ AgreeBut [.ctr,
    .flt, .rcd, .tgt, .pwr, .ell, .hbm] s t) ∧
  (∀ (s : State), onData s = true → s.pwr.boot.fwReady = true → s.pwr.boot.cleared = false → s.pwr.boot.done = false → ∃ t, exec
    (.storeClearDone) s = .next t ∧ t.pwr.boot = { s.pwr.boot with cleared := true } ∧ t.bpm =
    { s.bpm with bufs := {}, q := {}, count := {} } ∧ t.tcm =
    { s.tcm with ents := {}, par := {}, shadow := {}, dataBad := {}, shadowBad := {} } ∧ (t.tbl.routes, t.tbl.em, t.tbl.nh, t.tbl.mem) =
    ({}, {}, {}, {}) ∧ AgreeBut [.pwr, .tbl, .tcm, .bpm] s t) ∧
  (∀ (s : State), s.pwr.boot.cleared = true ∨ s.pwr.boot.done = true ∨ s.pwr.boot.fwReady = false → exec (.storeClearDone) s = .next s)

/-! ## Pins, electrical limits and package -/

/-- The test access port. BYPASS selects the one-bit register, IDCODE shifts out 0x29600B5D, and SAMPLE/PRELOAD captures the pins and
loads the update latches (R551). EXTEST drives the outputs only while RESET_N is low, and with RESET_N high acts as BYPASS; the hardware
hold keeps PSEL low while TWIN_ACT_IN is high and FATAL_N follows the fatal state, whatever the scan cells hold (R552). While TRST_N is
low the port is in its reset state (R551). That BYPASS captures 0, that IDCODE is the instruction of the reset state, and the order of
the cells, are the model's choice (log entry 44). -/
def Obligations.TestAccessPort : Prop :=
  (∀ (g : Fin 16) (s : State), ∃ t, exec (.jtagBypass) s = .next t ∧ t.jtag =
    { s.jtag with trst := false, instr := .bypass, dr := [false] } ∧ pselPin t g.val = twinPsel t g.val ∧ fatalPin t = fatalPin s ∧
    AgreeBut [.jtag] s t) ∧
  (∀ (g : Fin 16) (s : State), ∃ t, exec (.jtagIdcode) s = .next t ∧ t.jtag =
    { s.jtag with trst := false, instr := .idcode, dr := lsbBits 32 0x29600B5D } ∧ pselPin t g.val = twinPsel t g.val ∧ fatalPin t =
    fatalPin s ∧ AgreeBut [.jtag] s t) ∧
  (∀ (tdi : List Bool) (g : Fin 16) (s : State), ∃ t, exec (.jtagSamplePreload tdi) s = .next t ∧ t.jtag.instr = .samplePreload ∧
    t.jtag.trst = false ∧ t.jtag.bsr = bsrShift t.jtag.dr tdi ∧ t.jtag.dr.length = 56 ∧ t.jtag.dr.getD (2 + g.val) false = (twinOf s
    g.val).actIn ∧ t.jtag.dr.getD (23 + g.val) false = actOutPin s g.val ∧ t.jtag.dr.getD (39 + g.val) false = pselPin s g.val ∧
    t.jtag.dr.getD 55 false = !fatalPin s ∧ t.jtag.dr.getD 20 false = !resetLow s ∧ pselPin t g.val = twinPsel t g.val ∧ fatalPin t =
    fatalPin s ∧ AgreeBut [.free, .jtag] s t) ∧
  (∀ (tdi : List Bool) (g : Fin 16) (s : State), resetLow s = true → ∃ t, exec (.jtagExtest tdi) s = .next t ∧ t.jtag.instr = .extest ∧
    t.jtag.trst = false ∧ t.jtag.bsr = bsrShift t.jtag.dr tdi ∧ extestDrives t = true ∧ twinHeld s g.val = true → pselPin t g.val = false
    ∧ (twinOf s g.val).actIn = true → twinHeld s g.val = true ∧ twinHeld s g.val = false → s.flt.fatal = false → pselPin t g.val =
    t.jtag.bsr.getD (39 + g.val) false ∧ fatalPin t = fatalPin s ∧ AgreeBut [.free, .jtag] s t) ∧
  (∀ (tdi : List Bool) (g : Fin 16) (s : State), resetLow s = false → ∃ t, exec (.jtagExtest tdi) s = .next t ∧ t.jtag =
    { s.jtag with trst := false, instr := .extest, dr := [false] } ∧ extestDrives t = false ∧ pselPin t g.val = twinPsel t g.val ∧
    fatalPin t = fatalPin s ∧ AgreeBut [.jtag] s t) ∧
  (∀ (g : Fin 16) (s : State), ∃ t, exec (.trstNAssert) s = .next t ∧ t.jtag.trst = true ∧ t.jtag.instr = .idcode ∧ extestDrives t = false
    ∧ pselPin t g.val = twinPsel t g.val ∧ fatalPin t = fatalPin s ∧ AgreeBut [.jtag] s t)
end

