-- ==== Sys2Proof/Laws/Access.lean ====
section
/-! SUPPORT. What an access does, said once: the session guard, an allowed write, and a read of an available word. -/

namespace Sys2Proof.Machine

/-- Where accesses are carried out, the session guard lets the access through. -/
theorem withSession_served {s : State} (h : served s = true) (f : State → State) : withSession s f = f s := by
  simp only [served, Bool.and_eq_true, decide_eq_true_eq] at h
  simp [withSession, h.1.1, h.1.2, h.2]

/-- A write by the owner to a register, no command window, that may have its effect does what the register's write does, and answers
OK or busy as it says. -/
theorem ownWrite_eq {s : State} {slot : Fin 4} {r : Reg} {idx : List Nat} (v : Word) (h : ownerMay s slot r idx = true)
    (ha : regAt (r.addr idx) = some (r, idx)) (h4 : r.addr idx % 4 = 0) (hk : tkReg r = false)
    (h1 : r ≠ .tblCmdWin) (h2 : r ≠ .tcmCmdWin) :
    ownWrite s slot.val r idx v =
      { (writeReg s r idx v).1 with acc := (if (writeReg s r idx v).2 then stBusy else stOk, 0) } := by
  have a1 : r.addr idx ≠ Reg.addr .tblCmdWin [] := by
    intro e; rw [e] at ha
    have : regAt (Reg.addr .tblCmdWin []) = some (.tblCmdWin, []) := by decide
    rw [this] at ha; simp only [Option.some.injEq, Prod.mk.injEq] at ha; exact h1 ha.1.symm
  have a2 : r.addr idx ≠ Reg.addr .tcmCmdWin [] := by
    intro e; rw [e] at ha
    have : regAt (Reg.addr .tcmCmdWin []) = some (.tcmCmdWin, []) := by decide
    rw [this] at ha; simp only [Option.some.injEq, Prod.mk.injEq] at ha; exact h2 ha.1.symm
  simp only [ownerMay, Bool.and_eq_true, Bool.or_eq_true, Bool.not_eq_true'] at h
  obtain ⟨⟨⟨hs, ho⟩, hv⟩, hf⟩ := h
  have hd : definedAt s (r.addr idx) = true := by simp [definedAt, ha, h4]
  have hw : roleWrites .owner (r.addr idx) = true := by simp [roleWrites, ha, hk]
  have hb : ¬ (stWrite r && applyRuns s && !s.fur.direct) = true := by
    rcases hf with (h1 | h1) | h1 <;> simp [h1]
  unfold ownWrite sessWrite
  rw [withSession_served hs]
  simp only [writeWord, hd, holdsRole, ho, hw, hv, writeAt, ha, hb, writeEndAt, a1, a2]
  simp

/-- A read by a slot of a register that is defined and available. -/
theorem sessRead_eq {s : State} (slot : Nat) {r : Reg} {idx : List Nat} (hs : served s = true)
    (ha : regAt (r.addr idx) = some (r, idx)) (h4 : r.addr idx % 4 = 0) (hv : availAddr s (r.addr idx) = true) :
    sessRead s slot (r.addr idx) = { (readReg s slot r idx).1 with acc := (stOk, (readReg s slot r idx).2) } := by
  have hd : definedAt s (r.addr idx) = true := by simp [definedAt, ha, h4]
  unfold sessRead
  rw [withSession_served hs]
  simp [readWord, hd, hv, ha]

end Sys2Proof.Machine
end

