-- ==== Sys2Proof/Laws/Parts.lean ====
section
/-! SUPPORT. A part of the state under the constructions every operation is built from: an if, a fold, a record update. -/

namespace Sys2Proof.Machine

@[simp] theorem part_ite (c : Prop) [Decidable c] (a b : State) (p : Part) :
    (if c then a else b).part p = if c then a.part p else b.part p :=
  apply_ite (fun s : State => s.part p) c a b

/-- A fold whose steps keep a part keeps it. -/
@[simp] theorem part_foldl {α : Type} (p : Part) (g : State → α → State) (h : ∀ s a, (g s a).part p = s.part p) (l : List α)
    (s : State) : (l.foldl g s).part p = s.part p := by
  induction l generalizing s with
  | nil => rfl
  | cons a l ih => rw [List.foldl_cons, ih, h]

@[simp] theorem part_foldr {α : Type} (p : Part) (g : α → State → State) (h : ∀ s a, (g a s).part p = s.part p) (l : List α)
    (s : State) : (l.foldr g s).part p = s.part p := by
  induction l generalizing s with
  | nil => rfl
  | cons a l ih => rw [List.foldr_cons, h, ih]

@[simp] theorem part_forEach (p : Part) (g : Nat → State → State) (h : ∀ n s, (g n s).part p = s.part p) (l : List Nat) (s : State) :
    (forEach l g s).part p = s.part p := part_foldl p _ (fun s a => h a s) l s

/-- A fold over a state and a value beside it. -/
theorem part_foldl_fst {α β : Type} (p : Part) (g : State × β → α → State × β) (h : ∀ x a, (g x a).1.part p = x.1.part p) (l : List α)
    (x : State × β) : (l.foldl g x).1.part p = x.1.part p := by
  induction l generalizing x with
  | nil => rfl
  | cons a l ih => rw [List.foldl_cons, ih, h]

/-- A fold over a value and a state beside it. -/
theorem part_foldl_snd {α β : Type} (p : Part) (g : β × State → α → β × State) (h : ∀ x a, (g x a).2.part p = x.2.part p) (l : List α)
    (x : β × State) : (l.foldl g x).2.part p = x.2.part p := by
  induction l generalizing x with
  | nil => rfl
  | cons a l ih => rw [List.foldl_cons, ih, h]

/-! ## A record update changes its own part only -/

@[simp] theorem part_pending (p : Part) (h : p ≠ .pending) (s : State) (x : List Instr) : ({ s with pending := x } : State).part p = s.part p := by
  cases p <;> first | rfl | exact absurd rfl h
@[simp] theorem part_now (p : Part) (h : p ≠ .now) (s : State) (x : Nat) : ({ s with now := x } : State).part p = s.part p := by
  cases p <;> first | rfl | exact absurd rfl h
@[simp] theorem part_free (p : Part) (h : p ≠ .free) (s : State) (x : Nat) : ({ s with free := x } : State).part p = s.part p := by
  cases p <;> first | rfl | exact absurd rfl h
@[simp] theorem part_acc (p : Part) (h : p ≠ .acc) (s : State) (x : Nat × Word) : ({ s with acc := x } : State).part p = s.part p := by
  cases p <;> first | rfl | exact absurd rfl h
@[simp] theorem part_regs (p : Part) (h : p ≠ .regs) (s : State) (x : SMap Word) : ({ s with regs := x } : State).part p = s.part p := by
  cases p <;> first | rfl | exact absurd rfl h
@[simp] theorem part_ctr (p : Part) (h : p ≠ .ctr) (s : State) (x : SMap Ctr) : ({ s with ctr := x } : State).part p = s.part p := by
  cases p <;> first | rfl | exact absurd rfl h
@[simp] theorem part_latch (p : Part) (h : p ≠ .latch) (s : State) (x : SMap Word) : ({ s with latch := x } : State).part p = s.part p := by
  cases p <;> first | rfl | exact absurd rfl h
@[simp] theorem part_flash (p : Part) (h : p ≠ .flash) (s : State) (x : SMap Byte) : ({ s with flash := x } : State).part p = s.part p := by
  cases p <;> first | rfl | exact absurd rfl h
@[simp] theorem part_fur (p : Part) (h : p ≠ .fur) (s : State) (x : FurSt) : ({ s with fur := x } : State).part p = s.part p := by
  cases p <;> first | rfl | exact absurd rfl h
@[simp] theorem part_flt (p : Part) (h : p ≠ .flt) (s : State) (x : FltSt) : ({ s with flt := x } : State).part p = s.part p := by
  cases p <;> first | rfl | exact absurd rfl h
@[simp] theorem part_rcd (p : Part) (h : p ≠ .rcd) (s : State) (x : RecSt) : ({ s with rcd := x } : State).part p = s.part p := by
  cases p <;> first | rfl | exact absurd rfl h
@[simp] theorem part_pmc (p : Part) (h : p ≠ .pmc) (s : State) (x : PmcSt) : ({ s with pmc := x } : State).part p = s.part p := by
  cases p <;> first | rfl | exact absurd rfl h
@[simp] theorem part_tgt (p : Part) (h : p ≠ .tgt) (s : State) (x : TgtSt) : ({ s with tgt := x } : State).part p = s.part p := by
  cases p <;> first | rfl | exact absurd rfl h
@[simp] theorem part_node (p : Part) (h : p ≠ .node) (s : State) (x : SelfSt) : ({ s with node := x } : State).part p = s.part p := by
  cases p <;> first | rfl | exact absurd rfl h
@[simp] theorem part_chain (p : Part) (h : p ≠ .chain) (s : State) (x : ChainSt) : ({ s with chain := x } : State).part p = s.part p := by
  cases p <;> first | rfl | exact absurd rfl h
@[simp] theorem part_pwr (p : Part) (h : p ≠ .pwr) (s : State) (x : PwrSt) : ({ s with pwr := x } : State).part p = s.part p := by
  cases p <;> first | rfl | exact absurd rfl h
@[simp] theorem part_jtag (p : Part) (h : p ≠ .jtag) (s : State) (x : JtagSt) : ({ s with jtag := x } : State).part p = s.part p := by
  cases p <;> first | rfl | exact absurd rfl h
@[simp] theorem part_lp (p : Part) (h : p ≠ .lp) (s : State) (x : LpSt) : ({ s with lp := x } : State).part p = s.part p := by
  cases p <;> first | rfl | exact absurd rfl h
@[simp] theorem part_tbl (p : Part) (h : p ≠ .tbl) (s : State) (x : TblSt) : ({ s with tbl := x } : State).part p = s.part p := by
  cases p <;> first | rfl | exact absurd rfl h
@[simp] theorem part_lrn (p : Part) (h : p ≠ .lrn) (s : State) (x : LrnBlk) : ({ s with lrn := x } : State).part p = s.part p := by
  cases p <;> first | rfl | exact absurd rfl h
@[simp] theorem part_tcm (p : Part) (h : p ≠ .tcm) (s : State) (x : TcmSt) : ({ s with tcm := x } : State).part p = s.part p := by
  cases p <;> first | rfl | exact absurd rfl h
@[simp] theorem part_slc (p : Part) (h : p ≠ .slc) (s : State) (x : SlcBlk) : ({ s with slc := x } : State).part p = s.part p := by
  cases p <;> first | rfl | exact absurd rfl h
@[simp] theorem part_xe (p : Part) (h : p ≠ .xe) (s : State) (x : XeSt) : ({ s with xe := x } : State).part p = s.part p := by
  cases p <;> first | rfl | exact absurd rfl h
@[simp] theorem part_ell (p : Part) (h : p ≠ .ell) (s : State) (x : EllSt) : ({ s with ell := x } : State).part p = s.part p := by
  cases p <;> first | rfl | exact absurd rfl h
@[simp] theorem part_bpm (p : Part) (h : p ≠ .bpm) (s : State) (x : BpmSt) : ({ s with bpm := x } : State).part p = s.part p := by
  cases p <;> first | rfl | exact absurd rfl h
@[simp] theorem part_hbm (p : Part) (h : p ≠ .hbm) (s : State) (x : HbmSt) : ({ s with hbm := x } : State).part p = s.part p := by
  cases p <;> first | rfl | exact absurd rfl h
@[simp] theorem part_sch (p : Part) (h : p ≠ .sch) (s : State) (x : SchSt) : ({ s with sch := x } : State).part p = s.part p := by
  cases p <;> first | rfl | exact absurd rfl h
@[simp] theorem part_fab (p : Part) (h : p ≠ .fab) (s : State) (x : FabSt) : ({ s with fab := x } : State).part p = s.part p := by
  cases p <;> first | rfl | exact absurd rfl h
@[simp] theorem part_img (p : Part) (h : p ≠ .img) (s : State) (x : ImgSt) : ({ s with img := x } : State).part p = s.part p := by
  cases p <;> first | rfl | exact absurd rfl h
@[simp] theorem part_upd (p : Part) (h : p ≠ .upd) (s : State) (x : UpdSt) : ({ s with upd := x } : State).part p = s.part p := by
  cases p <;> first | rfl | exact absurd rfl h

/-! ## What a part is -/

theorem part_eq_pending (s : State) : s.part .pending = s.pending := rfl
theorem part_eq_now (s : State) : s.part .now = s.now := rfl
theorem part_eq_free (s : State) : s.part .free = s.free := rfl
theorem part_eq_acc (s : State) : s.part .acc = s.acc := rfl
theorem part_eq_regs (s : State) : s.part .regs = s.regs := rfl
theorem part_eq_ctr (s : State) : s.part .ctr = s.ctr := rfl
theorem part_eq_latch (s : State) : s.part .latch = s.latch := rfl
theorem part_eq_flash (s : State) : s.part .flash = s.flash := rfl
theorem part_eq_fur (s : State) : s.part .fur = s.fur := rfl
theorem part_eq_flt (s : State) : s.part .flt = s.flt := rfl
theorem part_eq_rcd (s : State) : s.part .rcd = s.rcd := rfl
theorem part_eq_pmc (s : State) : s.part .pmc = s.pmc := rfl
theorem part_eq_tgt (s : State) : s.part .tgt = s.tgt := rfl
theorem part_eq_node (s : State) : s.part .node = s.node := rfl
theorem part_eq_chain (s : State) : s.part .chain = s.chain := rfl
theorem part_eq_pwr (s : State) : s.part .pwr = s.pwr := rfl
theorem part_eq_jtag (s : State) : s.part .jtag = s.jtag := rfl
theorem part_eq_lp (s : State) : s.part .lp = s.lp := rfl
theorem part_eq_tbl (s : State) : s.part .tbl = s.tbl := rfl
theorem part_eq_lrn (s : State) : s.part .lrn = s.lrn := rfl
theorem part_eq_tcm (s : State) : s.part .tcm = s.tcm := rfl
theorem part_eq_slc (s : State) : s.part .slc = s.slc := rfl
theorem part_eq_xe (s : State) : s.part .xe = s.xe := rfl
theorem part_eq_ell (s : State) : s.part .ell = s.ell := rfl
theorem part_eq_bpm (s : State) : s.part .bpm = s.bpm := rfl
theorem part_eq_hbm (s : State) : s.part .hbm = s.hbm := rfl
theorem part_eq_sch (s : State) : s.part .sch = s.sch := rfl
theorem part_eq_fab (s : State) : s.part .fab = s.fab := rfl
theorem part_eq_img (s : State) : s.part .img = s.img := rfl
theorem part_eq_upd (s : State) : s.part .upd = s.upd := rfl

end Sys2Proof.Machine
end

