-- ==== Sys2Proof/Laws/FrameBase.lean ====
section
/-! SUPPORT. What each operation leaves unchanged: the operations every block uses, the time base, commits and images.
One lemma per operation; its hypothesis names every part of the state that the operation may change. -/

set_option linter.unusedTactic false
set_option linter.unreachableTactic false
set_option linter.unusedSimpArgs false

namespace Sys2Proof.Machine

@[simp] theorem draw_part (p : Part) (h : p ≠ .free) (s : State) : (draw s).2.part p = s.part p := by
  simp [draw, h]
@[simp] theorem setReg_part (p : Part) (h : p ≠ .regs) (s : State) (a1 : Reg) (a2 : List Nat) (a3 : Word) :
    (setReg s a1 a2 a3).part p = s.part p := by
  simp [setReg, h]
@[simp] theorem setRF_part (p : Part) (h : p ≠ .regs) (s : State) (a1 : Reg) (a2 : List Nat) (a3 a4 a5 : Nat) :
    (setRF s a1 a2 a3 a4 a5).part p = s.part p := by
  simp [setRF, h]
@[simp] theorem setRB_part (p : Part) (h : p ≠ .regs) (s : State) (a1 : Reg) (a2 : List Nat) (a3 : Nat) (a4 : Bool) :
    (setRB s a1 a2 a3 a4).part p = s.part p := by
  simp [setRB, h]
@[simp] theorem maxRF_part (p : Part) (h : p ≠ .regs) (s : State) (a1 : Reg) (a2 : List Nat) (a3 a4 a5 : Nat) :
    (maxRF s a1 a2 a3 a4 a5).part p = s.part p := by
  simp [maxRF, h]
@[simp] theorem bumpN_part (p : Part) (h : p ≠ .ctr) (s : State) (a1 a2 : Nat) : (bumpN s a1 a2).part p = s.part p := by
  simp [bumpN, h]
@[simp] theorem bump_part (p : Part) (h : p ≠ .ctr) (s : State) (a1 : Nat) : (bump s a1).part p = s.part p := by
  simp [bump, h]
@[simp] theorem count_part (p : Part) (h : p ≠ .ctr) (s : State) (a1 a2 : Nat) : (count s a1 a2).part p = s.part p := by
  simp [count, h]
@[simp] theorem logRec_part (p : Part) (h : p ≠ .ctr ∧ p ≠ .rcd) (s : State) (a1 : List Word) (a2 : Bool) :
    (logRec s a1 a2).part p = s.part p := by
  simp [logRec, h]
@[simp] theorem saveLife_part (p : Part) (h : p ≠ .rcd) (s : State) : (saveLife s).part p = s.part p := by
  simp [saveLife, h]
@[simp] theorem acceptOcc_part (p : Part) (h : p ≠ .ctr ∧ p ≠ .rcd) (s : State) (a1 a2 a3 : Nat) (a4 a5 : Word) :
    (acceptOcc s a1 a2 a3 a4 a5).part p = s.part p := by
  simp [acceptOcc, h]
@[simp] theorem foldOcc_part (p : Part) (h : p ≠ .rcd) (s : State) (a1 a2 a3 : Nat) (a4 a5 : Word) :
    (foldOcc s a1 a2 a3 a4 a5).part p = s.part p := by
  simp [foldOcc, h]
@[simp] theorem occur_part (p : Part) (h : p ≠ .ctr ∧ p ≠ .rcd) (s : State) (a1 a2 a3 : Nat) (a4 a5 : Word) :
    (occur s a1 a2 a3 a4 a5).part p = s.part p := by
  simp [occur, h]
@[simp] theorem event_part (p : Part) (h : p ≠ .ctr ∧ p ≠ .rcd) (s : State) (a1 a2 a3 : Nat) :
    (event s a1 a2 a3).part p = s.part p := by
  simp [event, h]
@[simp] theorem event2_part (p : Part) (h : p ≠ .ctr ∧ p ≠ .rcd) (s : State) (a1 a2 : Nat) (a3 a4 : Nat) :
    (event2 s a1 a2 a3 a4).part p = s.part p := by
  simp [event2, h]
@[simp] theorem setFlt_part (p : Part) (h : p ≠ .flt) (s : State) (a1 : Nat) (a2 : FltRegs) : (setFlt s a1 a2).part p = s.part p := by
  simp [setFlt, h]
@[simp] theorem fatalEnter_part (p : Part) (h : p ≠ .ctr ∧ p ≠ .flt ∧ p ≠ .rcd) (s : State) (a1 a2 a3 : Nat) (a4 : Bool) :
    (fatalEnter s a1 a2 a3 a4).part p = s.part p := by
  simp [fatalEnter, h]
@[simp] theorem faultRise_part (p : Part) (h : p ≠ .ctr ∧ p ≠ .flt ∧ p ≠ .rcd) (s : State) (a1 a2 a3 : Nat) (a4 a5 : Word) :
    (faultRise s a1 a2 a3 a4 a5).part p = s.part p := by
  unfold faultRise
  repeat' split
  all_goals simp [h]
@[simp] theorem faultRise0_part (p : Part) (h : p ≠ .ctr ∧ p ≠ .flt ∧ p ≠ .rcd) (s : State) (a1 a2 a3 : Nat) :
    (faultRise0 s a1 a2 a3).part p = s.part p := by
  simp [faultRise0, h]
@[simp] theorem faultFall_part (p : Part) (h : p ≠ .flt) (s : State) (a1 a2 a3 : Nat) : (faultFall s a1 a2 a3).part p = s.part p := by
  simp [faultFall, h]
@[simp] theorem condRise_part (p : Part) (h : p ≠ .ctr ∧ p ≠ .flt ∧ p ≠ .rcd) (s : State) (a1 a2 a3 : Nat) (a4 a5 : Word) :
    (condRise s a1 a2 a3 a4 a5).part p = s.part p := by
  simp [condRise, h]
@[simp] theorem setFenced_part (p : Part) (h : p ≠ .flt) (s : State) (a1 a2 : Nat) (a3 : Bool) :
    (setFenced s a1 a2 a3).part p = s.part p := by
  simp [setFenced, h]
@[simp] theorem dropLost_part (p : Part) (h : p ≠ .fur) (s : State) : (dropLost s).part p = s.part p := by
  simp [dropLost, h]
@[simp] theorem stage_part (p : Part) (h : p ≠ .fur) (s : State) (a1 : Reg) (a2 : List Nat) (a3 : Word) :
    (stage s a1 a2 a3).part p = s.part p := by
  simp [stage, h]
@[simp] theorem ctrReadLow_part (p : Part) (h : p ≠ .latch) (s : State) (a1 a2 : Nat) : (ctrReadLow s a1 a2).1.part p = s.part p := by
  simp [ctrReadLow, h]
@[simp] theorem ctrWriteLow_part (p : Part) (h : p ≠ .ctr) (s : State) (a1 : Nat) (a2 : Word) :
    (ctrWriteLow s a1 a2).part p = s.part p := by
  simp [ctrWriteLow, h]
@[simp] theorem ctrWriteHigh_part (p : Part) (h : p ≠ .ctr) (s : State) (a1 : Nat) (a2 : Word) :
    (ctrWriteHigh s a1 a2).part p = s.part p := by
  simp [ctrWriteHigh, h]
@[simp] theorem restartCtrs_part (p : Part) (h : p ≠ .ctr) (s : State) (a1 : Nat) : (restartCtrs s a1).part p = s.part p := by
  simp [restartCtrs, h]
@[simp] theorem domRestore_part (p : Part) (h : p ≠ .regs) (s : State) (a1 : Nat) : (domRestore s a1).part p = s.part p := by
  simp [domRestore, h]
@[simp] theorem domSwitched_part (p : Part) (h : p ≠ .regs ∧ p ≠ .ctr ∧ p ≠ .rcd ∧ p ≠ .pwr) (s : State) (a1 : Nat) (a2 : Bool) :
    (domSwitched s a1 a2).part p = s.part p := by
  simp [domSwitched, h]
@[simp] theorem rampStart_part (p : Part) (h : p ≠ .fur ∧ p ≠ .flt ∧ p ≠ .pwr) (s : State) (a1 : Nat) (a2 : Bool) :
    (rampStart s a1 a2).part p = s.part p := by
  simp [rampStart, h]
@[simp] theorem rampGo_part (p : Part) (h : p ≠ .fur ∧ p ≠ .flt ∧ p ≠ .pwr) (s : State) (l : List (Nat × Bool)) :
    (rampGo s l).part p = s.part p := by
  induction l generalizing s with
  | nil => simp [rampGo, h]
  | cons x l ih =>
    simp only [rampGo]
    repeat' split
    all_goals simp [ih, h]
@[simp] theorem rampNext_part (p : Part) (h : p ≠ .fur ∧ p ≠ .flt ∧ p ≠ .pwr) (s : State) : (rampNext s).part p = s.part p := by
  simp [rampNext, h]
@[simp] theorem rampAsk_part (p : Part) (h : p ≠ .fur ∧ p ≠ .flt ∧ p ≠ .pwr) (s : State) (a1 : Nat) (a2 : Bool) : (rampAsk s a1 a2).part
    p = s.part p := by
  simp [rampAsk, h]
@[simp] theorem domWait_part (p : Part) (h : p ≠ .pwr) (s : State) (a1 : Nat) (a2 : Bool) : (domWait s a1 a2).part p = s.part p := by
  simp [domWait, h]
@[simp] theorem blockSwitch_part (p : Part) (h : p ≠ .regs ∧ p ≠ .ctr ∧ p ≠ .rcd ∧ p ≠ .pwr) (s : State) (a1 : Nat) (a2 : Bool) :
    (blockSwitch s a1 a2).part p = s.part p := by
  unfold blockSwitch
  repeat' split
  all_goals simp [h]
@[simp] theorem modChain_part (p : Part) (h : p ≠ .chain) (s : State) (a1 : ChainSt → ChainSt) : (modChain s a1).part p = s.part p := by
  simp [modChain, h]
@[simp] theorem pushPort_part (p : Part) (h : p ≠ .ctr ∧ p ≠ .chain) (s : State) (a1 : Nat) (a2 : ChainFrame) (a3 : Bool) :
    (pushPort s a1 a2 a3).part p = s.part p := by
  simp [pushPort, h]
@[simp] theorem sendOn_part (p : Part) (h : p ≠ .ctr ∧ p ≠ .chain) (s : State) (a1 : Nat) (a2 : ChainFrame) (a3 : Bool) :
    (sendOn s a1 a2 a3).part p = s.part p := by
  simp [sendOn, h]
@[simp] theorem launch_part (p : Part) (h : p ≠ .ctr ∧ p ≠ .chain) (s : State) (a1 : Nat) (a2 : ChainFrame) :
    (launch s a1 a2).part p = s.part p := by
  simp [launch, h]
@[simp] theorem broadcast_part (p : Part) (h : p ≠ .ctr ∧ p ≠ .chain) (s : State) (a1 a2 : Nat) (a3 : List Word) :
    (broadcast s a1 a2 a3).part p = s.part p := by
  simp [broadcast, h]
@[simp] theorem sendRingState_part (p : Part) (h : p ≠ .ctr ∧ p ≠ .chain) (s : State) : (sendRingState s).part p = s.part p := by
  simp [sendRingState, h]
@[simp] theorem setNodeId_part (p : Part) (h : p ≠ .node ∧ p ≠ .chain) (s : State) (a1 : Nat) : (setNodeId s a1).part p = s.part p := by
  simp [setNodeId, h]
@[simp] theorem unicast_part (p : Part) (h : p ≠ .ctr ∧ p ≠ .chain) (s : State) (a1 : ChainFrame) :
    (unicast s a1).part p = s.part p := by
  simp [unicast, h]
@[simp] theorem modRec_part (p : Part) (h : p ≠ .rcd) (s : State) (a1 : RecSt → RecSt) : (modRec s a1).part p = s.part p := by
  simp [modRec, h]
@[simp] theorem fillQueue_part (p : Part) (h : p ≠ .ctr ∧ p ≠ .rcd) (a0 : List Report) (s : State) :
    (fillQueue a0 s).part p = s.part p := by
  induction a0 generalizing s with
  | nil => simp [fillQueue, h]
  | cons r l ih =>
    simp only [fillQueue]
    repeat' split
    all_goals simp [ih, h]
@[simp] theorem stepFlush_part (p : Part) (h : p ≠ .ctr ∧ p ≠ .rcd) (s : State) : (stepFlush s).part p = s.part p := by
  unfold stepFlush
  repeat' split
  all_goals simp [h]
@[simp] theorem doFlush_part (p : Part) (h : p ≠ .ctr ∧ p ≠ .rcd) (s : State) : (doFlush s).part p = s.part p := by
  simp [doFlush, h]
@[simp] theorem reportSend_part (p : Part) (h : p ≠ .ctr ∧ p ≠ .rcd ∧ p ≠ .chain) (s : State) : (reportSend s).part p = s.part p := by
  unfold reportSend
  repeat' split
  all_goals simp [h]
@[simp] theorem flashErase_part (p : Part) (h : p ≠ .flash) (s : State) (a1 a2 : Nat) : (flashErase s a1 a2).part p = s.part p := by
  simp [flashErase, h]
@[simp] theorem flashProg_part (p : Part) (h : p ≠ .flash) (s : State) (a1 : Nat) (a2 : List Byte) :
    (flashProg s a1 a2).part p = s.part p := by
  induction a2 generalizing s a1 with
  | nil => rfl
  | cons r l ih => simp [flashProg, ih, h]
@[simp] theorem flashProgW_part (p : Part) (h : p ≠ .flash) (s : State) (a1 : Nat) (a2 : List Word) :
    (flashProgW s a1 a2).part p = s.part p := by
  simp [flashProgW, h]
@[simp] theorem enterBlock_part (p : Part) (h : p ≠ .ctr ∧ p ≠ .flash ∧ p ≠ .rcd) (s : State) (a1 : Bool) (a2 : Nat) :
    (enterBlock s a1 a2).part p = s.part p := by
  simp [enterBlock, h]
@[simp] theorem writeRecord_part (p : Part) (h : p ≠ .ctr ∧ p ≠ .flash ∧ p ≠ .flt ∧ p ≠ .rcd) (s : State) (a1 : Bool) :
    (writeRecord s a1).part p = s.part p := by
  unfold writeRecord
  repeat' split
  all_goals simp [h]
@[simp] theorem recRdIdx_part (p : Part) (h : p ≠ .regs ∧ p ≠ .rcd) (s : State) (a1 : Word) : (recRdIdx s a1).part p = s.part p := by
  simp [recRdIdx, h]
@[simp] theorem recSlotDone_part (p : Part) (h : p ≠ .rcd) (s : State) : (recSlotDone s).part p = s.part p := by
  unfold recSlotDone
  repeat' split
  all_goals simp [h]
@[simp] theorem gather_part (p : Part) (h : p ≠ .rcd) (s : State) (a1 : Nat) (a2 : ℤ) : (gather s a1 a2).part p = s.part p := by
  simp [gather, h]
@[simp] theorem takeSample_part (p : Part) (h : p ≠ .rcd) (a0 : Nat) (s : State) : (takeSample a0 s).part p = s.part p := by
  unfold takeSample
  dsimp only
  repeat' split
  all_goals simp [*]
@[simp] theorem opSecTick_part (p : Part) (h : p ≠ .ctr ∧ p ≠ .rcd) (s : State) : (opSecTick s).part p = s.part p := by
  simp [opSecTick, h]
@[simp] theorem settleBuckets_part (p : Part) (h : p ≠ .rcd) (s : State) : (settleBuckets s).part p = s.part p := by
  simp [settleBuckets, h]
@[simp] theorem recCfgWrite_part (p : Part) (h : p ≠ .rcd) (s : State) (a1 : List Nat) (a2 : State → State) (hf : ∀ t, (a2 t).part p =
    t.part p) :
    (recCfgWrite s a1 a2).part p = s.part p := by
  unfold recCfgWrite
  dsimp only
  rw [modRec_part p (by simp [h]), hf]
  simp [h]
@[simp] theorem modTgt_part (p : Part) (h : p ≠ .tgt) (s : State) (a1 : TgtSt → TgtSt) : (modTgt s a1).part p = s.part p := by
  simp [modTgt, h]
@[simp] theorem tickTime_part (p : Part) (h : p ≠ .now ∧ p ≠ .tgt) (s : State) : (tickTime s).part p = s.part p := by
  unfold tickTime
  exact (part_tgt p (by simp [h]) ({ s with now := s.now + 1 }) _).trans (part_now p (by simp [h]) s _)
@[simp] theorem setGate_part (p : Part) (h : p ≠ .tgt) (s : State) (a1 : Nat) (a2 : GateSt) : (setGate s a1 a2).part p = s.part p := by
  simp [setGate, h]
@[simp] theorem gateSwitchAt_part (p : Part) (h : p ≠ .tgt) (s : State) (a1 a2 : Nat) : (gateSwitchAt s a1 a2).part p = s.part p := by
  simp [gateSwitchAt, h]
@[simp] theorem gateOff_part (p : Part) (h : p ≠ .tgt) (s : State) (a1 : Nat) : (gateOff s a1).part p = s.part p := by
  simp [gateOff, h]
@[simp] theorem gateTake_part (p : Part) (h : p ≠ .ctr ∧ p ≠ .rcd ∧ p ≠ .tgt) (s : State) (a1 : Nat) :
    (gateTake s a1).part p = s.part p := by
  unfold gateTake
  dsimp only
  repeat' split
  all_goals simp [*]
@[simp] theorem gclWrite_part (p : Part) (h : p ≠ .regs ∧ p ≠ .tgt) (s : State) (a1 a2 a3 : Nat) (a4 : Bool) (a5 : Word) :
    (gclWrite s a1 a2 a3 a4 a5).part p = s.part p := by
  simp [gclWrite, h]
@[simp] theorem gatesOnValid_part (p : Part) (h : p ≠ .tgt) (s : State) : (gatesOnValid s).part p = s.part p := by
  simp [gatesOnValid, h]
@[simp] theorem gateApplied_part (p : Part) (h : p ≠ .tgt) (s : State) (a1 a2 : Nat) (a3 : Bool) (a4 : Nat × Nat × Nat × Nat) :
    (gateApplied s a1 a2 a3 a4).part p = s.part p := by
  simp [gateApplied, h]
@[simp] theorem tbCtrlWrite_part (p : Part) (h : p ≠ .regs ∧ p ≠ .tgt) (s : State) (a1 : Word) :
    (tbCtrlWrite s a1).part p = s.part p := by
  simp [tbCtrlWrite, h]
@[simp] theorem refLoss_part (p : Part) (h : p ≠ .ctr ∧ p ≠ .rcd ∧ p ≠ .tgt) (s : State) : (refLoss s).part p = s.part p := by
  simp [refLoss, h]
@[simp] theorem refLock_part (p : Part) (h : p ≠ .ctr ∧ p ≠ .flt ∧ p ≠ .rcd ∧ p ≠ .tgt) (s : State) :
    (refLock s).part p = s.part p := by
  unfold refLock
  repeat' split
  all_goals simp [h]
@[simp] theorem modFur_part (p : Part) (h : p ≠ .fur) (s : State) (a1 : FurSt → FurSt) : (modFur s a1).part p = s.part p := by
  simp [modFur, h]
@[simp] theorem furFlag_part (p : Part) (h : p ≠ .regs) (s : State) (a1 : Nat) : (furFlag s a1).part p = s.part p := by
  simp [furFlag, h]
@[simp] theorem sealOpen_part (p : Part) (h : p ≠ .fur) (s : State) (a1 : Option Nat) : (sealOpen s a1).part p = s.part p := by
  simp [sealOpen, h]
@[simp] theorem sealValues_part (p : Part) (h : p ≠ .fur) (s : State) (a1 : SMap Word) (a2 : Option Nat) (a3 a4 : Bool) :
    (sealValues s a1 a2 a3 a4).part p = s.part p := by
  simp [sealValues, h]
@[simp] theorem dropSealed_part (p : Part) (h : p ≠ .fur) (s : State) : (dropSealed s).part p = s.part p := by
  simp [dropSealed, h]
@[simp] theorem sealDone_part (p : Part) (h : p ≠ .regs ∧ p ≠ .ctr ∧ p ≠ .fur ∧ p ≠ .rcd) (s : State) :
    (sealDone s).part p = s.part p := by
  unfold sealDone
  repeat' split
  all_goals simp [h]
@[simp] theorem furGo_part (p : Part) (h : p ≠ .regs ∧ p ≠ .fur) (s : State) (a1 : Bool) : (furGo s a1).1.part p = s.part p := by
  unfold furGo
  repeat' split
  all_goals simp [h]
@[simp] theorem furArm_part (p : Part) (h : p ≠ .fur) (s : State) : (furArm s).part p = s.part p := by
  unfold furArm
  repeat' split
  all_goals simp [h]
@[simp] theorem modImg_part (p : Part) (h : p ≠ .img) (s : State) (a1 : ImgSt → ImgSt) : (modImg s a1).part p = s.part p := by
  simp [modImg, h]
@[simp] theorem modUpd_part (p : Part) (h : p ≠ .upd) (s : State) (a1 : UpdSt → UpdSt) : (modUpd s a1).part p = s.part p := by
  simp [modUpd, h]
@[simp] theorem slotErase_part (p : Part) (h : p ≠ .flash) (s : State) (a1 a2 : Nat) : (slotErase s a1 a2).part p = s.part p := by
  simp [slotErase, h]
@[simp] theorem ctlNext_part (p : Part) (h : p ≠ .flash) (s : State) : (ctlNext s).2.part p = s.part p := by
  unfold ctlNext
  dsimp only
  repeat' split
  all_goals simp [*]
@[simp] theorem ctlWrite_part (p : Part) (h : p ≠ .flash) (s : State) (a1 a2 a3 : Word) : (ctlWrite s a1 a2 a3).part p = s.part p := by
  simp [ctlWrite, h]
@[simp] theorem onceWrite_part (p : Part) (h : p ≠ .flash) (s : State) (a1 : Bool) (a2 : Nat) :
    (onceWrite s a1 a2).part p = s.part p := by
  simp [onceWrite, h]
@[simp] theorem keyRevoke_part (p : Part) (h : p ≠ .img) (s : State) (a1 : Word) : (keyRevoke s a1).part p = s.part p := by
  simp [keyRevoke, h]
@[simp] theorem tunRefused_part (p : Part) (h : p ≠ .ctr ∧ p ≠ .rcd ∧ p ≠ .img) (s : State) (a1 a2 : Nat) :
    (tunRefused s a1 a2).part p = s.part p := by
  simp [tunRefused, h]
@[simp] theorem tunCheck_part (p : Part) (h : p ≠ .ctr ∧ p ≠ .rcd ∧ p ≠ .img) (s : State) (a1 : Nat) :
    (tunCheck s a1).part p = s.part p := by
  simp [tunCheck, h]

end Sys2Proof.Machine
end

