-- ==== Sys2Proof/Laws/FrameTables.lean ====
section
/-! SUPPORT. What each operation leaves unchanged: the shared tables, learning and associative search.
One lemma per operation; its hypothesis names every part of the state that the operation may change. -/

set_option linter.unusedTactic false
set_option linter.unreachableTactic false
set_option linter.unusedSimpArgs false

namespace Sys2Proof.Machine

@[simp] theorem modLrn_part (p : Part) (h : p ≠ .lrn) (s : State) (a1 : Nat) (a2 : LrnSt → LrnSt) :
    (modLrn s a1 a2).part p = s.part p := by
  simp [modLrn, h]
@[simp] theorem countLrn_part (p : Part) (h : p ≠ .ctr) (s : State) (a1 a2 : Nat) : (countLrn s a1 a2).part p = s.part p := by
  simp [countLrn, h]
@[simp] theorem lrnRequest_part (p : Part) (h : p ≠ .ctr ∧ p ≠ .lrn) (s : State) (a1 : Nat) (a2 : LrnItem) :
    (lrnRequest s a1 a2).part p = s.part p := by
  simp [lrnRequest, h]
@[simp] theorem shadowFeed_part (p : Part) (h : p ≠ .lrn) (s : State) : (shadowFeed s).part p = s.part p := by
  simp [shadowFeed, h]
@[simp] theorem lrnShadowAll_part (p : Part) (h : p ≠ .lrn) (s : State) (a1 : Nat) (a2 : List (Nat × Option LrnEntry)) : (lrnShadowAll s
    a1 a2).part p = s.part p := by
  unfold lrnShadowAll
  (try dsimp only)
  repeat' split
  all_goals simp [*]
@[simp] theorem lrnChange_part (p : Part) (h : p ≠ .ctr ∧ p ≠ .lrn) (s : State) (a1 a2 a3 : Nat) (a4 : Option LrnEntry) :
    (lrnChange s a1 a2 a3 a4).part p = s.part p := by
  unfold lrnChange
  repeat' split
  all_goals simp [h]
@[simp] theorem lrnNotify_part (p : Part) (h : p ≠ .regs ∧ p ≠ .ctr ∧ p ≠ .rcd ∧ p ≠ .lrn) (s : State) (a1 a2 : Nat) (a3 a4 : Nat) (a5 a6
    a7 : Nat) :
    (lrnNotify s a1 a2 a3 a4 a5 a6 a7).part p = s.part p := by
  simp [lrnNotify, h]
@[simp] theorem lrnNotifyIf_part (p : Part) (h : p ≠ .regs ∧ p ≠ .ctr ∧ p ≠ .rcd ∧ p ≠ .lrn) (s : State) (a1 a2 : Nat) (a3 a4 : Nat) (a5
    a6 : Nat) (a7 a8 : Nat) :
    (lrnNotifyIf s a1 a2 a3 a4 a5 a6 a7 a8).part p = s.part p := by
  simp [lrnNotifyIf, h]
@[simp] theorem lrnNotifyPop_part (p : Part) (h : p ≠ .lrn) (s : State) (a1 : Nat) : (lrnNotifyPop s a1).1.part p = s.part p := by
  unfold lrnNotifyPop
  dsimp only
  repeat' split
  all_goals simp [*]
@[simp] theorem lrnApply_part (p : Part) (h : p ≠ .regs ∧ p ≠ .ctr ∧ p ≠ .rcd ∧ p ≠ .lrn) (s : State) (a1 a2 : Nat) (a3 a4 a5 : Nat) (a6
    : Bool) :
    (lrnApply s a1 a2 a3 a4 a5 a6).1.part p = s.part p := by
  unfold lrnApply
  dsimp only
  repeat' split
  all_goals simp [*]
@[simp] theorem lrnShadow_part (p : Part) (h : p ≠ .ctr ∧ p ≠ .rcd ∧ p ≠ .lrn) (s : State) (a1 a2 : Nat) (a3 : Option LrnEntry) :
    (lrnShadow s a1 a2 a3).part p = s.part p := by
  unfold lrnShadow
  dsimp only
  repeat' split
  all_goals simp [*]
@[simp] theorem lrnSource_part (p : Part) (h : p ≠ .ctr ∧ p ≠ .lrn) (s : State) (a1 a2 : Nat) (a3 a4 a5 : Nat) :
    (lrnSource s a1 a2 a3 a4 a5).part p = s.part p := by
  unfold lrnSource
  dsimp only
  repeat' split
  all_goals simp [*]
@[simp] theorem lrnDest_part (p : Part) (h : p ≠ .lrn) (s : State) (a1 a2 : Nat) : (lrnDest s a1 a2).1.part p = s.part p := by
  unfold lrnDest
  dsimp only
  repeat' split
  all_goals simp [*]
@[simp] theorem lrnResult_part (p : Part) (h : p ≠ .regs) (s : State) (a1 a2 : Nat) (a3 : Option LrnEntry) :
    (lrnResult s a1 a2 a3).part p = s.part p := by
  simp [lrnResult, h]
theorem lrnHcmd_part (p : Part) (h : p ≠ .regs ∧ p ≠ .lrn) (s : State) (a1 : Nat) (a2 : Word) :
    ∀ x, lrnHcmd s a1 a2 = some x → (x).part p = s.part p := by
  intro x e
  unfold lrnHcmd at e
  try dsimp only at e
  repeat' split at e
  all_goals first | (cases e; done) | (cases e; simp [*]; done) | (simp only [Option.map_eq_some_iff, Option.bind_eq_some_iff] at e; obtain ⟨_, _, rfl⟩ := e; simp [h]; done)
@[simp] theorem lrnSweepOut_part (p : Part) (h : p ≠ .ctr ∧ p ≠ .lrn) (s : State) (a1 : Nat) (a2 : LrnEntry → Bool) :
    (lrnSweepOut s a1 a2).1.part p = s.part p := by
  unfold lrnSweepOut
  repeat' split
  all_goals simp [h]
@[simp] theorem lrnFlush_part (p : Part) (h : p ≠ .ctr ∧ p ≠ .lrn) (s : State) (a1 : Nat) (a2 : LrnEntry → Bool) :
    (lrnFlush s a1 a2).part p = s.part p := by
  simp [lrnFlush, h]
@[simp] theorem lrnHost_part (p : Part) (h : p ≠ .regs ∧ p ≠ .ctr ∧ p ≠ .rcd ∧ p ≠ .lrn) (s : State) (a1 a2 : Nat) (a3 a4 a5 : Nat) :
    (lrnHost s a1 a2 a3 a4 a5).part p = s.part p := by
  unfold lrnHost
  dsimp only
  repeat' split
  all_goals simp [*]
@[simp] theorem lrnPop_part (p : Part) (h : p ≠ .lrn) (s : State) (a1 : Nat) : (lrnPop s a1).part p = s.part p := by
  simp [lrnPop, h]
@[simp] theorem lrnHeadHost_part (p : Part) (h : p ≠ .regs ∧ p ≠ .ctr ∧ p ≠ .rcd ∧ p ≠ .lrn) (a0 a1 : Nat) (s : State) :
    (lrnHeadHost a0 a1 s).part p = s.part p := by
  unfold lrnHeadHost
  repeat' split
  all_goals simp [h]
@[simp] theorem lrnVisit_part (p : Part) (h : p ≠ .regs ∧ p ≠ .ctr ∧ p ≠ .rcd ∧ p ≠ .lrn) (s : State) (a1 a2 : Nat) (a3 : Bool) :
    (lrnVisit s a1 a2 a3).part p = s.part p := by
  unfold lrnVisit
  dsimp only
  repeat' split
  all_goals simp [*]
@[simp] theorem scanStep_part (p : Part) (h : p ≠ .regs ∧ p ≠ .ctr ∧ p ≠ .rcd ∧ p ≠ .lrn) (s : State) (a1 a2 : Nat) (a3 : Bool) :
    (scanStep s a1 a2 a3).part p = s.part p := by
  simp [scanStep, h]
@[simp] theorem lrnPair_part (p : Part) (h : p ≠ .lrn) (s : State) (a1 a2 : Nat) : (lrnPair s a1 a2).part p = s.part p := by
  simp [lrnPair, h]
@[simp] theorem lrnClear_part (p : Part) (h : p ≠ .lrn) (s : State) (a1 : Nat) : (lrnClear s a1).part p = s.part p := by
  simp [lrnClear, h]
@[simp] theorem copyGo_part (p : Part) (h : p ≠ .regs ∧ p ≠ .lrn) (s : State) (a1 a2 : Nat) (a3 : Bool) :
    (copyGo s a1 a2 a3).part p = s.part p := by
  simp [copyGo, h]
@[simp] theorem copyEnd_part (p : Part) (h : p ≠ .lrn) (s : State) : (copyEnd s).part p = s.part p := by
  simp [copyEnd, h]
@[simp] theorem copySrcGone_part (p : Part) (h : p ≠ .lrn) (s : State) (a1 : Nat) : (copySrcGone s a1).part p = s.part p := by
  simp [copySrcGone, h]
@[simp] theorem copyDrop_part (p : Part) (h : p ≠ .lrn) (s : State) (a1 : Nat) : (copyDrop s a1).part p = s.part p := by
  simp [copyDrop, h]
@[simp] theorem copyDone_part (p : Part) (h : p ≠ .ctr ∧ p ≠ .rcd ∧ p ≠ .lrn) (s : State) : (copyDone s).part p = s.part p := by
  simp [copyDone, h]
@[simp] theorem modTbl_part (p : Part) (h : p ≠ .tbl) (s : State) (a1 : TblSt → TblSt) : (modTbl s a1).part p = s.part p := by
  simp [modTbl, h]
@[simp] theorem unBad_part (p : Part) (h : p ≠ .tbl) (s : State) (a1 a2 : Nat) : (unBad s a1 a2).part p = s.part p := by
  unfold unBad
  (try dsimp only)
  repeat' split
  all_goals simp [*]
@[simp] theorem metBad_part (p : Part) (h : p ≠ .ctr ∧ p ≠ .flt ∧ p ≠ .rcd) (s : State) (a1 : Found) :
    (metBad s a1).part p = s.part p := by
  unfold metBad
  repeat' split
  all_goals simp [h]
@[simp] theorem emUnBad_part (p : Part) (h : p ≠ .tbl) (s : State) (a1 : Nat) (a2 : EmPlace) : (emUnBad s a1 a2).part p = s.part p := by
  unfold emUnBad
  repeat' split
  all_goals simp [h]
@[simp] theorem emPut_part (p : Part) (h : p ≠ .tbl) (s : State) (a1 : EmEntry) (a2 : EmPlace) : (emPut s a1 a2).part p = s.part p := by
  unfold emPut
  repeat' split
  all_goals simp [h]
theorem putBucket_part (p : Part) (h : p ≠ .tbl) (s : State) (a1 a2 a3 : Nat) (a4 : EmEntry) (a5 : Nat × Bool) :
    ∀ x, putBucket s a1 a2 a3 a4 a5 = some x → (x).part p = s.part p := by
  intro x e
  unfold putBucket at e
  try dsimp only at e
  repeat' split at e
  all_goals first | (cases e; done) | (cases e; simp [*]; done) | (simp only [Option.map_eq_some_iff, Option.bind_eq_some_iff] at e; obtain ⟨_, _, rfl⟩ := e; simp [h]; done)
theorem putOvf_part (p : Part) (h : p ≠ .tbl) (s : State) (a1 a2 : Nat) (a3 : EmEntry) :
    ∀ x, putOvf s a1 a2 a3 = some x → (x).part p = s.part p := by
  intro x e
  unfold putOvf at e
  try dsimp only at e
  repeat' split at e
  all_goals first | (cases e; done) | (cases e; simp [*]; done) | (simp only [Option.map_eq_some_iff, Option.bind_eq_some_iff] at e; obtain ⟨_, _, rfl⟩ := e; simp [h]; done)
theorem emPlaceNew_part (p : Part) (h : p ≠ .ctr ∧ p ≠ .tbl) (s : State) (a1 a2 : Nat) (a3 : EmEntry) :
    ∀ x, emPlaceNew s a1 a2 a3 = some x → (x).part p = s.part p := by
  intro x e
  unfold emPlaceNew at e
  dsimp only at e
  split at e
  · cases e; exact putBucket_part p (by simp [h]) _ _ _ _ _ _ _ (by assumption)
  · simp only [Option.map_eq_some_iff] at e
    obtain ⟨y, e2, rfl⟩ := e
    simp [h, putOvf_part p (by simp [h]) _ _ _ _ _ e2]
@[simp] theorem emRefill_part (p : Part) (h : p ≠ .tbl) (s : State) (a1 a2 : Nat) (a3 a4 : Nat) :
    (emRefill s a1 a2 a3 a4).part p = s.part p := by
  unfold emRefill
  repeat' split
  · rfl
  · rw [modTbl_part p (by simp [h])]; exact putBucket_part p (by simp [h]) _ _ _ _ _ _ _ (by assumption)
  · rfl
@[simp] theorem emRemove_part (p : Part) (h : p ≠ .tbl) (s : State) (a1 a2 : Nat) (a3 : EmPlace) :
    (emRemove s a1 a2 a3).part p = s.part p := by
  unfold emRemove
  repeat' split
  all_goals simp [h]
@[simp] theorem emLookup_part (p : Part) (h : p ≠ .tbl) (s : State) (a1 a2 a3 : Nat) : (emLookup s a1 a2 a3).2.part p = s.part p := by
  unfold emLookup
  repeat' split
  all_goals simp [h]
@[simp] theorem sigXor_part (p : Part) (h : p ≠ .tbl) (s : State) (a1 a2 : Nat) (a3 a4 : List Byte) :
    (sigXor s a1 a2 a3 a4).part p = s.part p := by
  simp [sigXor, h]
@[simp] theorem tblEnqueue_part (p : Part) (h : p ≠ .regs ∧ p ≠ .ctr ∧ p ≠ .rcd ∧ p ≠ .tbl) (s : State) (a1 : List Word) :
    (tblEnqueue s a1).part p = s.part p := by
  simp [tblEnqueue, h]
@[simp] theorem tblWinWord_part (p : Part) (h : p ≠ .regs ∧ p ≠ .ctr ∧ p ≠ .rcd ∧ p ≠ .tbl) (s : State) (a1 : Word) :
    (tblWinWord s a1).part p = s.part p := by
  simp [tblWinWord, h]
@[simp] theorem tblWinEnd_part (p : Part) (h : p ≠ .ctr ∧ p ≠ .tbl) (s : State) : (tblWinEnd s).part p = s.part p := by
  simp [tblWinEnd, h]
@[simp] theorem tblDone_part (p : Part) (h : p ≠ .regs ∧ p ≠ .ctr ∧ p ≠ .tbl) (s : State) (a1 : List Word) (a2 : Nat) :
    (tblDone s a1 a2).part p = s.part p := by
  simp [tblDone, h]
@[simp] theorem tblReadback_part (p : Part) (h : p ≠ .tbl) (s : State) (a1 : List Word) (a2 a3 : Bool) (a4 : Nat) :
    (tblReadback s a1 a2 a3 a4).part p = s.part p := by
  simp [tblReadback, h]
@[simp] theorem tblFull_part (p : Part) (h : p ≠ .ctr ∧ p ≠ .rcd) (s : State) (a1 : List Word) :
    (tblFull s a1).1.part p = s.part p := by
  simp [tblFull, h]
@[simp] theorem routeUnBad_part (p : Part) (h : p ≠ .tbl) (s : State) (a1 : Nat) : (routeUnBad s a1).part p = s.part p := by
  simp [routeUnBad, h]
@[simp] theorem setRoute_part (p : Part) (h : p ≠ .tbl) (s : State) (a1 : Nat) (a2 : Option Nat) :
    (setRoute s a1 a2).part p = s.part p := by
  unfold setRoute
  repeat' split
  all_goals simp [h]
@[simp] theorem routeMoved_part (p : Part) (h : p ≠ .tbl) (s : State) : (routeMoved s).part p = s.part p := by
  simp [routeMoved, h]
@[simp] theorem routeCmd_part (p : Part) (h : p ≠ .ctr ∧ p ≠ .rcd ∧ p ≠ .tbl) (s : State) (a1 : List Word) :
    (routeCmd s a1).1.part p = s.part p := by
  unfold routeCmd
  dsimp only
  repeat' split
  all_goals simp [*]
@[simp] theorem emCmd_part (p : Part) (h : p ≠ .ctr ∧ p ≠ .rcd ∧ p ≠ .tbl) (s : State) (a1 : List Word) :
    (emCmd s a1).1.part p = s.part p := by
  unfold emCmd
  dsimp only
  repeat' split
  all_goals first | (simp [h, *]; done) | (rename_i e; simp [h, emPlaceNew_part p (by simp [h]) _ _ _ _ _ e])
@[simp] theorem setIdx_part (p : Part) (h : p ≠ .tbl) (s : State) (a1 a2 : Nat) (a3 a4 : Nat) :
    (setIdx s a1 a2 a3 a4).part p = s.part p := by
  simp [setIdx, h]
@[simp] theorem idxCmd_part (p : Part) (h : p ≠ .tbl) (s : State) (a1 : List Word) : (idxCmd s a1).1.part p = s.part p := by
  unfold idxCmd
  dsimp only
  repeat' split
  all_goals simp [*]
@[simp] theorem sigCheck_part (p : Part) (h : p ≠ .ctr ∧ p ≠ .rcd) (s : State) (a1 : List Word) :
    (sigCheck s a1).1.part p = s.part p := by
  unfold sigCheck
  dsimp only
  repeat' split
  all_goals simp [*]
@[simp] theorem tblExec_part (p : Part) (h : p ≠ .ctr ∧ p ≠ .rcd ∧ p ≠ .tbl) (s : State) (a1 : List Word) :
    (tblExec s a1).1.part p = s.part p := by
  unfold tblExec
  dsimp only
  repeat' split
  all_goals simp [*]
@[simp] theorem tblHead_part (p : Part) (h : p ≠ .regs ∧ p ≠ .ctr ∧ p ≠ .rcd ∧ p ≠ .tbl) (a0 : Nat → Bool) (s : State) :
    (tblHead a0 s).part p = s.part p := by
  unfold tblHead
  repeat' split
  all_goals simp [h]
@[simp] theorem tblFailPop_part (p : Part) (h : p ≠ .tbl) (s : State) : (tblFailPop s).1.part p = s.part p := by
  unfold tblFailPop
  repeat' split
  all_goals simp [h]
@[simp] theorem tblDamage_part (p : Part) (h : p ≠ .tbl) (s : State) (a1 a2 : Nat) : (tblDamage s a1 a2).part p = s.part p := by
  unfold tblDamage
  (try dsimp only)
  repeat' split
  all_goals simp [*]
@[simp] theorem clearTable_part (p : Part) (h : p ≠ .tbl) (s : State) (a1 : Nat) : (clearTable s a1).part p = s.part p := by
  simp [clearTable, h]
@[simp] theorem clearRegion_part (p : Part) (h : p ≠ .tbl) (s : State) (a1 : Word) : (clearRegion s a1).part p = s.part p := by
  unfold clearRegion
  (try dsimp only)
  repeat' split
  all_goals simp [*]
@[simp] theorem bindRegion_part (p : Part) (h : p ≠ .regs ∧ p ≠ .tbl) (s : State) (a1 : Nat) (a2 : Word) : (bindRegion s a1 a2).part p =
    s.part p := by
  simp [bindRegion, h]
@[simp] theorem unbindRegion_part (p : Part) (h : p ≠ .regs ∧ p ≠ .tbl) (s : State) (a1 : Nat) (a2 : Word) : (unbindRegion s a1 a2).part
    p = s.part p := by
  simp [unbindRegion, h]
@[simp] theorem setRehash_part (p : Part) (h : p ≠ .tbl) (s : State) (a1 : Nat) (a2 : Rehash) :
    (setRehash s a1 a2).part p = s.part p := by
  simp [setRehash, h]
theorem rehashGo_part (p : Part) (h : p ≠ .tbl) (s : State) (a1 : Nat) : ∀ x, rehashGo s a1 = some x → (x).part p = s.part p := by
  intro x e
  unfold rehashGo at e
  try dsimp only at e
  repeat' split at e
  all_goals first | (cases e; done) | (cases e; simp [*]; done) | (simp only [Option.map_eq_some_iff, Option.bind_eq_some_iff] at e; obtain ⟨_, _, rfl⟩ := e; simp [h]; done)
@[simp] theorem rehashAbort_part (p : Part) (h : p ≠ .tbl) (s : State) (a1 : Nat) : (rehashAbort s a1).part p = s.part p := by
  unfold rehashAbort
  dsimp only
  repeat' split
  all_goals simp [*]
@[simp] theorem clearFlags_part (p : Part) (h : p ≠ .tbl) (s : State) (a1 : Nat) : (clearFlags s a1).part p = s.part p := by
  simp [clearFlags, h]
@[simp] theorem moveAll_part (p : Part) (h : p ≠ .tbl) (a0 a1 a2 : Nat) (a3 : List Nat) (s : State) :
    (moveAll a0 a1 a2 a3 s).1.part p = s.part p := by
  induction a3 generalizing s with
  | nil => rfl
  | cons k a3 ih =>
    unfold moveAll
    dsimp only
    repeat' split
    all_goals first | (simp [h, ih]; done) | (rename_i e; simp [h, ih, putBucket_part p (by simp [h]) _ _ _ _ _ _ _ e]; done) | (rename_i e; simp [h, ih, putOvf_part p (by simp [h]) _ _ _ _ _ e])
@[simp] theorem moveViews_part (p : Part) (h : p ≠ .tbl) (s : State) (a1 a2 : Nat) (a3 : Nat → State → List Nat) :
    (moveViews s a1 a2 a3).1.part p = s.part p := by
  unfold moveViews
  dsimp only
  repeat' split
  all_goals simp [*]
@[simp] theorem rehashStick_part (p : Part) (h : p ≠ .ctr ∧ p ≠ .rcd ∧ p ≠ .tbl) (s : State) (a1 : Nat) (a2 : Rehash) (a3 : Nat) :
    (rehashStick s a1 a2 a3).part p = s.part p := by
  simp [rehashStick, h]
@[simp] theorem rehashForward_part (p : Part) (h : p ≠ .ctr ∧ p ≠ .rcd ∧ p ≠ .tbl) (s : State) (a1 : Nat) (a2 : Rehash) :
    (rehashForward s a1 a2).part p = s.part p := by
  simp [rehashForward, h]
@[simp] theorem rehashBack_part (p : Part) (h : p ≠ .ctr ∧ p ≠ .rcd ∧ p ≠ .tbl) (s : State) (a1 : Nat) (a2 : Rehash) :
    (rehashBack s a1 a2).part p = s.part p := by
  simp [rehashBack, h]
@[simp] theorem rehashStep_part (p : Part) (h : p ≠ .ctr ∧ p ≠ .rcd ∧ p ≠ .tbl) (s : State) (a1 : Nat) :
    (rehashStep s a1).part p = s.part p := by
  unfold rehashStep
  dsimp only
  repeat' split
  all_goals simp [*]
@[simp] theorem modTcm_part (p : Part) (h : p ≠ .tcm) (s : State) (a1 : TcmSt → TcmSt) : (modTcm s a1).part p = s.part p := by
  simp [modTcm, h]
@[simp] theorem setBank_part (p : Part) (h : p ≠ .tcm) (s : State) (a1 : Nat) (a2 : TcmBank) : (setBank s a1 a2).part p = s.part p := by
  simp [setBank, h]
@[simp] theorem setEnt_part (p : Part) (h : p ≠ .tcm) (s : State) (a1 a2 : Nat) (a3 : TcmEnt) : (setEnt s a1 a2 a3).part p = s.part p :=
    by
  simp [setEnt, h]
@[simp] theorem setData_part (p : Part) (h : p ≠ .tcm) (s : State) (a1 a2 a3 : Nat) : (setData s a1 a2 a3).part p = s.part p := by
  simp [setData, h]
@[simp] theorem putUnit_part (p : Part) (h : p ≠ .tcm) (s : State) (a1 a2 a3 : Nat) (a4 : TcmEnt) : (putUnit s a1 a2 a3 a4).part p =
    s.part p := by
  simp [putUnit, h]
@[simp] theorem rowFromShadow_part (p : Part) (h : p ≠ .tcm) (s : State) (a1 a2 : Nat) : (rowFromShadow s a1 a2).part p = s.part p := by
  simp [rowFromShadow, h]
@[simp] theorem entFromShadow_part (p : Part) (h : p ≠ .tcm) (s : State) (a1 a2 : Nat) : (entFromShadow s a1 a2).part p = s.part p := by
  simp [entFromShadow, h]
@[simp] theorem upsetRow_part (p : Part) (h : p ≠ .tcm) (s : State) (a1 a2 : Nat) (a3 : Upset) : (upsetRow s a1 a2 a3).part p = s.part p
    := by
  simp [upsetRow, h]
@[simp] theorem clearBank_part (p : Part) (h : p ≠ .tcm) (s : State) (a1 : Nat) : (clearBank s a1).part p = s.part p := by
  simp [clearBank, h]
@[simp] theorem bankErr_part (p : Part) (h : p ≠ .tcm) (s : State) (a1 : Nat) : (bankErr s a1).part p = s.part p := by
  simp [bankErr, h]
@[simp] theorem tcmCount_part (p : Part) (h : p ≠ .ctr) (s : State) (a1 : Nat) (a2 : Bool) : (tcmCount s a1 a2).part p = s.part p := by
  simp [tcmCount, h]
@[simp] theorem parityHit_part (p : Part) (h : p ≠ .ctr ∧ p ≠ .flt ∧ p ≠ .rcd ∧ p ≠ .tcm) (s : State) (a1 a2 : Nat) : (parityHit s a1
    a2).part p = s.part p := by
  simp [parityHit, h]
@[simp] theorem dataHit_part (p : Part) (h : p ≠ .ctr ∧ p ≠ .flt ∧ p ≠ .rcd ∧ p ≠ .tcm) (s : State) (a1 a2 : Nat) : (dataHit s a1
    a2).part p = s.part p := by
  simp [dataHit, h]
@[simp] theorem tcmLookup_part (p : Part) (h : p ≠ .ctr ∧ p ≠ .flt ∧ p ≠ .rcd ∧ p ≠ .tcm) (s : State) (a1 a2 : Nat) :
    (tcmLookup s a1 a2).2.2.part p = s.part p := by
  unfold tcmLookup
  repeat' split
  all_goals simp [h]
@[simp] theorem tcmEnqueue_part (p : Part) (h : p ≠ .regs ∧ p ≠ .ctr ∧ p ≠ .rcd ∧ p ≠ .tcm) (s : State) (a1 : List Word) :
    (tcmEnqueue s a1).part p = s.part p := by
  simp [tcmEnqueue, h]
@[simp] theorem tcmWinWord_part (p : Part) (h : p ≠ .regs ∧ p ≠ .ctr ∧ p ≠ .rcd ∧ p ≠ .tcm) (s : State) (a1 : Word) :
    (tcmWinWord s a1).part p = s.part p := by
  simp [tcmWinWord, h]
@[simp] theorem tcmWinEnd_part (p : Part) (h : p ≠ .regs ∧ p ≠ .ctr ∧ p ≠ .tcm) (s : State) : (tcmWinEnd s).part p = s.part p := by
  simp [tcmWinEnd, h]
@[simp] theorem tcmDone_part (p : Part) (h : p ≠ .regs ∧ p ≠ .ctr ∧ p ≠ .tcm) (s : State) (a1 : List Word) (a2 : Nat) :
    (tcmDone s a1 a2).part p = s.part p := by
  simp [tcmDone, h]
@[simp] theorem tcmReadback_part (p : Part) (h : p ≠ .tcm) (s : State) (a1 : List Word) (a2 : Bool) (a3 a4 : Nat) (a5 : TcmEnt) :
    (tcmReadback s a1 a2 a3 a4 a5).part p = s.part p := by
  simp [tcmReadback, h]
theorem part_tcmBoth (p : Part) (s : State) (a1 : Nat) (f : State → Nat → State) (hf : ∀ t q, (f t q).part p = t.part p) :
    (tcmBoth s a1 f).part p = s.part p := by
  unfold tcmBoth
  split <;> simp [hf]
@[simp] theorem tcmPut_part (p : Part) (h : p ≠ .tcm) (s : State) (a1 a2 : Nat) (a3 : TcmEnt) :
    (tcmPut s a1 a2 a3).part p = s.part p :=
  part_tcmBoth p _ _ _ (fun t q => by simp [h])
@[simp] theorem bulkNote_part (p : Part) (h : p ≠ .tcm) (s : State) (a1 a2 a3 : Nat) : (bulkNote s a1 a2 a3).part p = s.part p := by
  simp [bulkNote, h]
@[simp] theorem bulkDrop_part (p : Part) (h : p ≠ .tcm) (s : State) (a1 a2 a3 : Nat) : (bulkDrop s a1 a2 a3).part p = s.part p := by
  simp [bulkDrop, h]
@[simp] theorem bulkFinish_part (p : Part) (h : p ≠ .ctr ∧ p ≠ .rcd ∧ p ≠ .tcm) (s : State) : (bulkFinish s).part p = s.part p := by
  simp [bulkFinish, h]
@[simp] theorem bulkEnd_part (p : Part) (h : p ≠ .ctr ∧ p ≠ .rcd ∧ p ≠ .tcm) (s : State) : (bulkEnd s).part p = s.part p := by
  simp [bulkEnd, h]
@[simp] theorem bulkCheck_part (p : Part) (h : p ≠ .ctr ∧ p ≠ .tcm) (s : State) (a1 : Nat) : (bulkCheck s a1).part p = s.part p := by
  unfold bulkCheck
  dsimp only
  repeat' split
  all_goals simp [*]
@[simp] theorem bulkStep_part (p : Part) (h : p ≠ .ctr ∧ p ≠ .rcd ∧ p ≠ .tcm) (s : State) : (bulkStep s).part p = s.part p := by
  unfold bulkStep
  repeat' split
  all_goals simp [h]
@[simp] theorem tcmRowExec_part (p : Part) (h : p ≠ .tcm) (s : State) (a1 : List Word) (a2 : Nat) :
    (tcmRowExec s a1 a2).1.part p = s.part p := by
  unfold tcmRowExec
  repeat' split
  all_goals first | (simp [h]; done) | exact part_tcmBoth p _ _ _ (fun t q => by simp [h])
@[simp] theorem tcmSearchExec_part (p : Part) (h : p ≠ .ctr ∧ p ≠ .flt ∧ p ≠ .rcd ∧ p ≠ .tcm) (s : State) (a1 : List Word) :
    (tcmSearchExec s a1).part p = s.part p := by
  unfold tcmSearchExec
  dsimp only
  repeat' split
  all_goals simp [*]
@[simp] theorem tcmExec_part (p : Part) (h : p ≠ .ctr ∧ p ≠ .flt ∧ p ≠ .rcd ∧ p ≠ .tcm) (s : State) (a1 : List Word) :
    (tcmExec s a1).1.part p = s.part p := by
  unfold tcmExec
  dsimp only
  repeat' split
  all_goals simp [*]
@[simp] theorem tcmHead_part (p : Part) (h : p ≠ .regs ∧ p ≠ .ctr ∧ p ≠ .flt ∧ p ≠ .rcd ∧ p ≠ .tcm) (a0 : Nat → Bool) (s : State) :
    (tcmHead a0 s).part p = s.part p := by
  unfold tcmHead
  repeat' split
  all_goals simp [h]
@[simp] theorem tcmFailPop_part (p : Part) (h : p ≠ .tcm) (s : State) : (tcmFailPop s).1.part p = s.part p := by
  unfold tcmFailPop
  repeat' split
  all_goals simp [h]
@[simp] theorem bankLose_part (p : Part) (h : p ≠ .ctr ∧ p ≠ .flt ∧ p ≠ .rcd ∧ p ≠ .tcm) (s : State) (a1 : Nat) : (bankLose s a1).part p
    = s.part p := by
  simp [bankLose, h]
@[simp] theorem copyStop_part (p : Part) (h : p ≠ .tcm) (s : State) (a1 : Nat) : (copyStop s a1).part p = s.part p := by
  unfold copyStop
  (try dsimp only)
  repeat' split
  all_goals simp [*]
@[simp] theorem tcmFence_part (p : Part) (h : p ≠ .ctr ∧ p ≠ .flt ∧ p ≠ .rcd ∧ p ≠ .tcm) (s : State) (a1 : Nat) :
    (tcmFence s a1).part p = s.part p := by
  unfold tcmFence
  repeat' split
  all_goals simp (disch := (intros; (repeat' split) <;> simp [h])) [h]
@[simp] theorem tcmReturn_part (p : Part) (h : p ≠ .flt ∧ p ≠ .tcm) (s : State) (a1 : Nat) : (tcmReturn s a1).part p = s.part p := by
  simp [tcmReturn, h]
@[simp] theorem bankSuspect_part (p : Part) (h : p ≠ .regs ∧ p ≠ .ctr ∧ p ≠ .rcd ∧ p ≠ .pwr ∧ p ≠ .tcm) (s : State) (a1 : Nat) :
    (bankSuspect s a1).part p = s.part p := by
  unfold bankSuspect
  dsimp only
  repeat' split
  all_goals simp [*]
@[simp] theorem suspectWindow_part (p : Part) (h : p ≠ .regs ∧ p ≠ .ctr ∧ p ≠ .rcd ∧ p ≠ .pwr ∧ p ≠ .tcm) (s : State) :
    (suspectWindow s).part p = s.part p := by
  simp [suspectWindow, h]
@[simp] theorem bankSwap_part (p : Part) (h : p ≠ .ctr ∧ p ≠ .flt ∧ p ≠ .rcd ∧ p ≠ .tcm) (s : State) (a1 a2 : Nat) :
    (bankSwap s a1 a2).part p = s.part p := by
  simp [bankSwap, h]
@[simp] theorem copyUnit_part (p : Part) (h : p ≠ .tcm) (s : State) (a1 a2 a3 : Nat) : (copyUnit s a1 a2 a3).part p = s.part p := by
  simp [copyUnit, h]
@[simp] theorem copyRow_part (p : Part) (h : p ≠ .ctr ∧ p ≠ .flt ∧ p ≠ .rcd ∧ p ≠ .tcm) (s : State) (a1 : Nat) :
    (copyRow s a1).part p = s.part p := by
  unfold copyRow
  repeat' split
  all_goals simp [h]
@[simp] theorem scrubRow_part (p : Part) (h : p ≠ .ctr ∧ p ≠ .flt ∧ p ≠ .rcd ∧ p ≠ .tcm) (s : State) (a1 a2 : Nat) :
    (scrubRow s a1 a2).part p = s.part p := by
  simp [scrubRow, h]

end Sys2Proof.Machine
end

