-- ==== Sys2Proof/Laws/FrameSlices.lean ====
section
/-! SUPPORT. What each operation leaves unchanged: line ports, mirroring, the slices and their programs.
One lemma per operation; its hypothesis names every part of the state that the operation may change. -/

set_option linter.unusedTactic false
set_option linter.unreachableTactic false
set_option linter.unusedSimpArgs false

namespace Sys2Proof.Machine

@[simp] theorem modLp_part (p : Part) (h : p ≠ .lp) (s : State) (a1 : LpSt → LpSt) : (modLp s a1).part p = s.part p := by
  simp [modLp, h]
@[simp] theorem setPort_part (p : Part) (h : p ≠ .lp) (s : State) (a1 : Nat) (a2 : LpPort) : (setPort s a1 a2).part p = s.part p := by
  simp [setPort, h]
@[simp] theorem countLp_part (p : Part) (h : p ≠ .ctr) (s : State) (a1 a2 : Nat) : (countLp s a1 a2).part p = s.part p := by
  simp [countLp, h]
@[simp] theorem countLpN_part (p : Part) (h : p ≠ .ctr) (s : State) (a1 a2 a3 : Nat) : (countLpN s a1 a2 a3).part p = s.part p := by
  simp [countLpN, h]
@[simp] theorem otnLeave_part (p : Part) (h : p ≠ .lp) (s : State) (a1 : Nat) : (otnLeave s a1).part p = s.part p := by
  simp [otnLeave, h]
@[simp] theorem setMode_part (p : Part) (h : p ≠ .regs ∧ p ≠ .lp) (s : State) (a1 : Nat) (a2 : Word) : (setMode s a1 a2).part p = s.part p := by
  simp [setMode, h]
@[simp] theorem grpModeWrite_part (p : Part) (h : p ≠ .regs ∧ p ≠ .ctr ∧ p ≠ .rcd ∧ p ≠ .lp) (s : State) (a1 : Nat) (a2 : Word) :
    (grpModeWrite s a1 a2).part p = s.part p := by
  simp [grpModeWrite, h]
@[simp] theorem enterPort_part (p : Part) (h : p ≠ .lp) (s : State) (a1 : Nat) (a2 : PortState) (a3 : Bool) :
    (enterPort s a1 a2 a3).part p = s.part p := by
  simp [enterPort, h]
@[simp] theorem setCoef_part (p : Part) (h : p ≠ .lp) (s : State) (a1 : Nat) (a2 : Nat → Option Word) : (setCoef s a1 a2).part p =
    s.part p := by
  simp [setCoef, h]
@[simp] theorem txEnable_part (p : Part) (h : p ≠ .lp) (s : State) (a1 : Nat) : (txEnable s a1).part p = s.part p := by
  simp [txEnable, h]
@[simp] theorem txIdle_part (p : Part) (h : p ≠ .lp) (s : State) (a1 : Nat) : (txIdle s a1).part p = s.part p := by
  simp [txIdle, h]
@[simp] theorem txFollow_part (p : Part) (h : p ≠ .lp) (s : State) (a1 : Nat) : (txFollow s a1).part p = s.part p := by
  simp [txFollow, h]
@[simp] theorem otnStart_part (p : Part) (h : p ≠ .lp) (s : State) (a1 : Nat) : (otnStart s a1).part p = s.part p := by
  simp [otnStart, h]
@[simp] theorem startPort_part (p : Part) (h : p ≠ .regs ∧ p ≠ .lp) (s : State) (a1 : Nat) : (startPort s a1).part p = s.part p := by
  simp [startPort, h]
@[simp] theorem tryStart_part (p : Part) (h : p ≠ .regs ∧ p ≠ .lp) (s : State) (a1 : Nat) : (tryStart s a1).part p = s.part p := by
  simp [tryStart, h]
@[simp] theorem linkFall_part (p : Part) (h : p ≠ .ctr ∧ p ≠ .rcd ∧ p ≠ .lp) (s : State) (a1 a2 : Nat) :
    (linkFall s a1 a2).part p = s.part p := by
  simp [linkFall, h]
@[simp] theorem portOff_part (p : Part) (h : p ≠ .ctr ∧ p ≠ .rcd ∧ p ≠ .lp) (s : State) (a1 a2 : Nat) :
    (portOff s a1 a2).part p = s.part p := by
  simp [portOff, h]
@[simp] theorem portFail_part (p : Part) (h : p ≠ .ctr ∧ p ≠ .rcd ∧ p ≠ .lp) (s : State) (a1 a2 : Nat) :
    (portFail s a1 a2).part p = s.part p := by
  simp [portFail, h]
@[simp] theorem setLane_part (p : Part) (h : p ≠ .regs) (s : State) (a1 : Nat) (a2 a3 : Bool) :
    (setLane s a1 a2 a3).part p = s.part p := by
  simp [setLane, h]
@[simp] theorem portCfgWrite_part (p : Part) (h : p ≠ .regs ∧ p ≠ .ctr ∧ p ≠ .rcd ∧ p ≠ .lp) (s : State) (a1 : Nat) (a2 : Word) :
    (portCfgWrite s a1 a2).part p = s.part p := by
  simp [portCfgWrite, h]
@[simp] theorem twinApply_part (p : Part) (h : p ≠ .regs ∧ p ≠ .ctr ∧ p ≠ .rcd ∧ p ≠ .lp) (s : State) (a1 : Nat) : (twinApply s a1).part
    p = s.part p := by
  simp [twinApply, h]
@[simp] theorem txeqWrite_part (p : Part) (h : p ≠ .regs ∧ p ≠ .lp) (s : State) (a1 a2 : Nat) (a3 : Word) : (txeqWrite s a1 a2 a3).part
    p = s.part p := by
  unfold txeqWrite
  (try dsimp only)
  repeat' split
  all_goals simp [*]
@[simp] theorem trainLane_part (p : Part) (h : p ≠ .free ∧ p ≠ .lp) (a1 : Nat) (s : State) : (trainLane a1 s).part p = s.part p := by
  simp [trainLane, h]
@[simp] theorem groupDown_part (p : Part) (h : p ≠ .ctr ∧ p ≠ .rcd ∧ p ≠ .lp) (s : State) (a1 : Nat) :
    (groupDown s a1).part p = s.part p := by
  simp [groupDown, h]
@[simp] theorem groupReturn_part (p : Part) (h : p ≠ .regs ∧ p ≠ .lp) (s : State) (a1 : Nat) : (groupReturn s a1).part p = s.part p := by
  simp [groupReturn, h]
@[simp] theorem modSlc_part (p : Part) (h : p ≠ .slc) (s : State) (a1 : SlcBlk → SlcBlk) : (modSlc s a1).part p = s.part p := by
  simp [modSlc, h]
@[simp] theorem modSlice_part (p : Part) (h : p ≠ .slc) (s : State) (a1 : Nat) (a2 : SliceSt → SliceSt) :
    (modSlice s a1 a2).part p = s.part p := by
  simp [modSlice, h]
@[simp] theorem countSlc_part (p : Part) (h : p ≠ .ctr) (s : State) (a1 a2 : Nat) : (countSlc s a1 a2).part p = s.part p := by
  simp [countSlc, h]
@[simp] theorem modTrack_part (p : Part) (h : p ≠ .slc) (s : State) (a1 a2 : Nat) (a3 : Track → Track) :
    (modTrack s a1 a2 a3).part p = s.part p := by
  simp [modTrack, h]
@[simp] theorem modEll_part (p : Part) (h : p ≠ .ell) (s : State) (a1 : EllSt → EllSt) : (modEll s a1).part p = s.part p := by
  simp [modEll, h]
@[simp] theorem modBundle_part (p : Part) (h : p ≠ .ell) (s : State) (a1 : Nat) (a2 : Bundle → Bundle) :
    (modBundle s a1 a2).part p = s.part p := by
  simp [modBundle, h]
@[simp] theorem modCredit_part (p : Part) (h : p ≠ .ell) (s : State) (a1 a2 : Nat) (a3 : BodyCredit → BodyCredit) :
    (modCredit s a1 a2 a3).part p = s.part p := by
  simp [modCredit, h]
theorem takeTag_part (p : Part) (h : p ≠ .ell) (s : State) (a1 a2 a3 : Nat) :
    ∀ x, takeTag s a1 a2 a3 = some x → (x.2).part p = s.part p := by
  intro x e
  unfold takeTag at e
  try dsimp only at e
  repeat' split at e
  all_goals first | (cases e; done) | (cases e; simp [*]; done) | (simp only [Option.map_eq_some_iff, Option.bind_eq_some_iff] at e; obtain ⟨_, _, rfl⟩ := e; simp [h]; done)
@[simp] theorem giveTag_part (p : Part) (h : p ≠ .ell) (s : State) (a1 a2 a3 : Nat) : (giveTag s a1 a2 a3).part p = s.part p := by
  simp [giveTag, h]
@[simp] theorem ellPushAll_part (p : Part) (h : p ≠ .ell) (s : State) (a1 : Nat) (a2 : List Seg) : (ellPushAll s a1 a2).part p = s.part
    p := by
  simp [ellPushAll, h]
@[simp] theorem ellPush_part (p : Part) (h : p ≠ .ell) (s : State) (a1 : Nat) (a2 : Seg) : (ellPush s a1 a2).part p = s.part p := by
  simp [ellPush, h]
@[simp] theorem freeEgBody_part (p : Part) (h : p ≠ .slc ∧ p ≠ .ell) (s : State) (a1 : Nat) : (freeEgBody s a1).part p = s.part p := by
  simp [freeEgBody, h]
@[simp] theorem dropBody_part (p : Part) (h : p ≠ .slc ∧ p ≠ .ell) (s : State) (a1 : Head) : (dropBody s a1).part p = s.part p := by
  unfold dropBody
  repeat' split
  all_goals simp [h]
@[simp] theorem jRetire_part (p : Part) (h : p ≠ .slc) (s : State) (a1 a2 a3 : Nat) : (jRetire s a1 a2 a3).part p = s.part p := by
  simp [jRetire, h]
@[simp] theorem modXe_part (p : Part) (h : p ≠ .xe) (s : State) (a1 : XeSt → XeSt) : (modXe s a1).part p = s.part p := by
  simp [modXe, h]
@[simp] theorem modClass_part (p : Part) (h : p ≠ .xe) (s : State) (a1 : Nat) (a2 : XeClass → XeClass) :
    (modClass s a1 a2).part p = s.part p := by
  simp [modClass, h]
@[simp] theorem modEng_part (p : Part) (h : p ≠ .xe) (s : State) (a1 : Nat) (a2 : XeEngine → XeEngine) : (modEng s a1 a2).part p =
    s.part p := by
  simp [modEng, h]
@[simp] theorem modClu_part (p : Part) (h : p ≠ .xe) (s : State) (a1 : Nat) (a2 : XeCluster → XeCluster) : (modClu s a1 a2).part p =
    s.part p := by
  simp [modClu, h]
@[simp] theorem xeLack_part (p : Part) (h : p ≠ .ctr ∧ p ≠ .rcd ∧ p ≠ .xe) (s : State) : (xeLack s).part p = s.part p := by
  simp [xeLack, h]
@[simp] theorem puntDrop_part (p : Part) (h : p ≠ .slc ∧ p ≠ .ell) (s : State) (a1 : Punt) : (puntDrop s a1).part p = s.part p := by
  simp [puntDrop, h]
theorem puntPass_part (p : Part) (h : p ≠ .ctr ∧ p ≠ .rcd ∧ p ≠ .slc ∧ p ≠ .xe ∧ p ≠ .ell) (s : State) (a1 : Punt) :
    ∀ x, puntPass s a1 = some x → (x).part p = s.part p := by
  intro x e
  unfold puntPass at e
  try dsimp only at e
  repeat' split at e
  all_goals first | (cases e; done) | (cases e; simp [*]; done) | (simp only [Option.map_eq_some_iff, Option.bind_eq_some_iff] at e; obtain ⟨_, _, rfl⟩ := e; simp [h]; done)
@[simp] theorem modBpm_part (p : Part) (h : p ≠ .bpm) (s : State) (a1 : BpmSt → BpmSt) : (modBpm s a1).part p = s.part p := by
  simp [modBpm, h]
@[simp] theorem countMir_part (p : Part) (h : p ≠ .ctr) (s : State) (a1 a2 a3 : Nat) : (countMir s a1 a2 a3).part p = s.part p := by
  simp [countMir, h]
@[simp] theorem mirReload_part (p : Part) (h : p ≠ .free) (s : State) (a1 : MirSess) : (mirReload s a1).2.part p = s.part p := by
  unfold mirReload
  repeat' split
  all_goals simp [h]
@[simp] theorem mirLoad_part (p : Part) (h : p ≠ .free ∧ p ≠ .bpm) (s : State) (a1 : MirSess) (a2 a3 : Nat) : (mirLoad s a1 a2 a3).part p = s.part p := by
  simp [mirLoad, h]
@[simp] theorem mirTake_part (p : Part) (h : p ≠ .free ∧ p ≠ .bpm) (s : State) (a1 : MirSess) (a2 a3 : Nat) :
    (mirTake s a1 a2 a3).2.part p = s.part p := by
  unfold mirTake
  dsimp only
  repeat' split
  all_goals simp [*]
theorem mirPolice_part (p : Part) (h : p ≠ .bpm) (s : State) (a1 a2 : Nat) :
    ∀ x, mirPolice s a1 a2 = some x → (x).part p = s.part p := by
  intro x e
  unfold mirPolice at e
  try dsimp only at e
  repeat' split at e
  all_goals first | (cases e; done) | (cases e; simp [*]; done) | (simp only [Option.map_eq_some_iff, Option.bind_eq_some_iff] at e; obtain ⟨_, _, rfl⟩ := e; simp [h]; done)
@[simp] theorem modIntake_part (p : Part) (h : p ≠ .slc) (s : State) (a1 : Nat) (a2 : Intake → Intake) :
    (modIntake s a1 a2).part p = s.part p := by
  simp [modIntake, h]
@[simp] theorem intakeEase_part (p : Part) (h : p ≠ .slc) (s : State) (a1 : Nat) : (intakeEase s a1).part p = s.part p := by
  simp [intakeEase, h]
@[simp] theorem intakeDrop_part (p : Part) (h : p ≠ .ctr ∧ p ≠ .rcd ∧ p ≠ .slc) (s : State) (a1 : Nat) :
    (intakeDrop s a1).part p = s.part p := by
  simp [intakeDrop, h]
@[simp] theorem macSplit_part (p : Part) (h : p ≠ .free ∧ p ≠ .regs ∧ p ≠ .ctr ∧ p ≠ .rcd ∧ p ≠ .slc ∧ p ≠ .ell) (s : State) (a1 : Nat)
    (a2 : List Byte) :
    (macSplit s a1 a2).part p = s.part p := by
  unfold macSplit
  dsimp only
  repeat' split
  all_goals first | (simp [h]; done) | (rename_i e; simp [h, takeTag_part p (by simp [h]) _ _ _ _ _ e])
@[simp] theorem macRx_part (p : Part) (h : p ≠ .free ∧ p ≠ .regs ∧ p ≠ .ctr ∧ p ≠ .rcd ∧ p ≠ .slc ∧ p ≠ .ell) (s : State) (a1 : Nat) (a2
    : List Byte) (a3 : RxEnd) :
    (macRx s a1 a2 a3).part p = s.part p := by
  simp [macRx, h]
@[simp] theorem macPop_part (p : Part) (h : p ≠ .lp ∧ p ≠ .slc ∧ p ≠ .ell) (s : State) (a1 : Nat) (a2 : TxFrame) :
    (macPop s a1 a2).part p = s.part p := by
  unfold macPop
  repeat' split
  all_goals simp [h]
@[simp] theorem txtsPut_part (p : Part) (h : p ≠ .ctr ∧ p ≠ .rcd ∧ p ≠ .lp) (s : State) (a1 a2 a3 : Nat) :
    (txtsPut s a1 a2 a3).part p = s.part p := by
  simp [txtsPut, h]
@[simp] theorem macTx_part (p : Part) (h : p ≠ .free ∧ p ≠ .regs ∧ p ≠ .ctr ∧ p ≠ .rcd ∧ p ≠ .lp ∧ p ≠ .slc ∧ p ≠ .ell) (s : State) (a1 :
    Nat) :
    (macTx s a1).part p = s.part p := by
  unfold macTx
  dsimp only
  repeat' split
  all_goals simp [*]
@[simp] theorem txtsPop_part (p : Part) (h : p ≠ .lp) (s : State) (a1 : Nat) : (txtsPop s a1).part p = s.part p := by
  simp [txtsPop, h]
@[simp] theorem sharedLookup_part (p : Part) (h : p ≠ .ctr ∧ p ≠ .flt ∧ p ≠ .rcd ∧ p ≠ .tbl ∧ p ≠ .tcm) (s : State) (a1 : Snap) (a2 :
    List Nat) (a3 : SharedLk) :
    (sharedLookup s a1 a2 a3).2.part p = s.part p := by
  unfold sharedLookup
  dsimp only
  repeat' split
  all_goals simp [*]
@[simp] theorem destLookup_part (p : Part) (h : p ≠ .lrn) (s : State) (a1 : Nat) (a2 : Prog) (a3 : Lane) (a4 : SMap Word) : (destLookup
    s a1 a2 a3 a4).1.part p = s.part p := by
  unfold destLookup
  (try dsimp only)
  repeat' split
  all_goals simp [*]
@[simp] theorem sourceLookup_part (p : Part) (h : p ≠ .ctr ∧ p ≠ .lrn) (s : State) (a1 a2 : Nat) (a3 : Prog) (a4 : Flight) :
    (sourceLookup s a1 a2 a3 a4).part p = s.part p := by
  unfold sourceLookup
  (try dsimp only)
  repeat' split
  all_goals simp [*]
@[simp] theorem stageRun_part (p : Part) (h : p ≠ .ctr ∧ p ≠ .flt ∧ p ≠ .rcd ∧ p ≠ .tbl ∧ p ≠ .lrn ∧ p ≠ .tcm ∧ p ≠ .slc) (s : State) (a1
    a2 : Nat) (a3 : Prog) (a4 : Flight) :
    (stageRun s a1 a2 a3 a4).2.part p = s.part p := by
  unfold stageRun
  dsimp only
  rw [modSlice_part p (by simp [h])]
  split <;> simp [h]
@[simp] theorem parseErr_part (p : Part) (h : p ≠ .regs ∧ p ≠ .ctr ∧ p ≠ .rcd) (s : State) (a1 : Nat) (a2 : Head) (a3 : PState) :
    (parseErr s a1 a2 a3).part p = s.part p := by
  simp [parseErr, h]
@[simp] theorem jrnlMax_part (p : Part) (h : p ≠ .regs) (s : State) (a1 a2 : Nat) : (jrnlMax s a1 a2).part p = s.part p := by
  simp [jrnlMax, h]
@[simp] theorem dealInto_part (p : Part) (h : p ≠ .regs ∧ p ≠ .ctr ∧ p ≠ .rcd ∧ p ≠ .slc) (s : State) (a1 a2 : Nat) (a3 : Head) (a4 a5 :
    Nat) :
    (dealInto s a1 a2 a3 a4 a5).part p = s.part p := by
  simp [dealInto, h]
@[simp] theorem popWaiting_part (p : Part) (h : p ≠ .slc) (s : State) (a1 : Nat) : (popWaiting s a1).part p = s.part p := by
  simp [popWaiting, h]
@[simp] theorem dealReplay_part (p : Part) (h : p ≠ .regs ∧ p ≠ .ctr ∧ p ≠ .rcd ∧ p ≠ .slc) (s : State) (a1 a2 : Nat) (a3 : Nat × Nat ×
    JEntry) (a4 : Nat) :
    (dealReplay s a1 a2 a3 a4).part p = s.part p := by
  simp [dealReplay, h]
@[simp] theorem tokenIn_part (p : Part) (h : p ≠ .slc) (s : State) (a1 a2 : Nat) : (tokenIn s a1 a2).part p = s.part p := by
  unfold tokenIn
  (try dsimp only)
  repeat' split
  all_goals simp [*]
@[simp] theorem placeTokens_part (p : Part) (h : p ≠ .slc) (s : State) (a1 a2 : Nat) : (placeTokens s a1 a2).part p = s.part p := by
  simp [placeTokens, h]
@[simp] theorem egressToken_part (p : Part) (h : p ≠ .slc) (s : State) (a1 : Nat) : (egressToken s a1).part p = s.part p := by
  unfold egressToken
  repeat' split
  all_goals simp [h]
@[simp] theorem deal_part (p : Part) (h : p ≠ .regs ∧ p ≠ .ctr ∧ p ≠ .rcd ∧ p ≠ .slc) (s : State) (a1 : Nat) :
    (deal s a1).part p = s.part p := by
  unfold deal
  dsimp only
  repeat' split
  all_goals simp [*]
@[simp] theorem headStage_part (p : Part) (h : p ≠ .ctr ∧ p ≠ .flt ∧ p ≠ .rcd ∧ p ≠ .tbl ∧ p ≠ .lrn ∧ p ≠ .tcm ∧ p ≠ .slc) (s : State)
    (a1 a2 a3 : Nat) :
    (headStage s a1 a2 a3).part p = s.part p := by
  unfold headStage
  repeat' split
  all_goals simp [h]
@[simp] theorem chargeHead_part (p : Part) (h : p ≠ .ctr) (s : State) (a1 a2 a3 : Nat) (a4 : Flight) :
    (chargeHead s a1 a2 a3 a4).part p = s.part p := by
  simp [chargeHead, h]
@[simp] theorem skipMark_part (p : Part) (h : p ≠ .slc) (s : State) (a1 a2 : Nat) (a3 : Flight) :
    (skipMark s a1 a2 a3).part p = s.part p := by
  unfold skipMark
  repeat' split
  all_goals simp [h]
@[simp] theorem exitDrop_part (p : Part) (h : p ≠ .ctr ∧ p ≠ .slc ∧ p ≠ .ell) (s : State) (a1 a2 : Nat) (a3 : Flight) (a4 : Nat) :
    (exitDrop s a1 a2 a3 a4).part p = s.part p := by
  simp [exitDrop, h]
@[simp] theorem exitPunt_part (p : Part) (h : p ≠ .ctr ∧ p ≠ .rcd ∧ p ≠ .slc ∧ p ≠ .xe ∧ p ≠ .ell) (s : State) (a1 a2 : Nat) (a3 :
    Flight) (a4 : List Byte) :
    (exitPunt s a1 a2 a3 a4).part p = s.part p := by
  unfold exitPunt
  dsimp only
  repeat' split
  all_goals first | (simp [h]; done) | (have := puntPass_part p (by simp [h]) _ _ _ (by assumption); simp [*]; done)
@[simp] theorem egressMirror_part (p : Part) (h : p ≠ .free ∧ p ≠ .ctr ∧ p ≠ .ell ∧ p ≠ .bpm) (s : State) (a1 : Nat) (a2 : Flight) (a3 :
    List Byte) :
    (egressMirror s a1 a2 a3).part p = s.part p := by
  unfold egressMirror
  dsimp only
  split
  · split
    · split
      · simp [h]
      · have := mirPolice_part p (by simp [h]) _ _ _ _ (by assumption)
        split
        · rw [ellPush_part p (by simp [h]), this]; simp [h]
        · rw [countMir_part p (by simp [h]), this]; simp [h]
    · simp [h]
  · rfl
@[simp] theorem exitMerge_part (p : Part) (h : p ≠ .free ∧ p ≠ .ctr ∧ p ≠ .slc ∧ p ≠ .ell ∧ p ≠ .bpm) (s : State) (a1 a2 : Nat) (a3 :
    Flight) (a4 : List Byte) :
    (exitMerge s a1 a2 a3 a4).part p = s.part p := by
  simp [exitMerge, h]
@[simp] theorem exit23_part (p : Part) (h : p ≠ .free ∧ p ≠ .ctr ∧ p ≠ .rcd ∧ p ≠ .slc ∧ p ≠ .xe ∧ p ≠ .ell ∧ p ≠ .bpm) (s : State) (a1
    a2 : Nat) : (exit23 s a1 a2).part p = s.part p := by
  unfold exit23
  (try dsimp only)
  repeat' split
  all_goals simp [*]
@[simp] theorem stage23_part (p : Part) (h : p ≠ .free ∧ p ≠ .ctr ∧ p ≠ .rcd ∧ p ≠ .slc ∧ p ≠ .xe ∧ p ≠ .ell ∧ p ≠ .bpm) (s : State) (a1
    a2 : Nat) :
    (stage23 s a1 a2).part p = s.part p := by
  unfold stage23
  repeat' split
  all_goals simp [h]
@[simp] theorem emitHead_part (p : Part) (h : p ≠ .lp ∧ p ≠ .slc ∧ p ≠ .ell) (s : State) (a1 : Nat) (a2 : OutHead) :
    (emitHead s a1 a2).part p = s.part p := by
  simp [emitHead, h]
@[simp] theorem takeOut_part (p : Part) (h : p ≠ .slc) (s : State) (a1 a2 a3 : Nat) (a4 : OutItem) :
    (takeOut s a1 a2 a3 a4).part p = s.part p := by
  simp [takeOut, h]
@[simp] theorem holdStall_part (p : Part) (h : p ≠ .ctr ∧ p ≠ .rcd ∧ p ≠ .slc) (s : State) (a1 a2 : Nat) :
    (holdStall s a1 a2).part p = s.part p := by
  simp [holdStall, h]
@[simp] theorem mergeStep_part (p : Part) (h : p ≠ .ctr ∧ p ≠ .rcd ∧ p ≠ .lp ∧ p ≠ .slc ∧ p ≠ .ell) (s : State) (a1 a2 : Nat) :
    (mergeStep s a1 a2).part p = s.part p := by
  unfold mergeStep
  dsimp only
  repeat' split
  all_goals simp [*]
@[simp] theorem barrierOpen_part (p : Part) (h : p ≠ .regs ∧ p ≠ .slc) (s : State) (a1 : Nat) :
    (barrierOpen s a1).part p = s.part p := by
  unfold barrierOpen
  repeat' split
  all_goals simp [h]
@[simp] theorem returnPut_part (p : Part) (h : p ≠ .slc) (s : State) (a1 : Punt) (a2 : Nat) :
    (returnPut s a1 a2).part p = s.part p := by
  simp [returnPut, h]
@[simp] theorem returnEntry_part (p : Part) (h : p ≠ .ctr ∧ p ≠ .slc) (s : State) (a1 a2 : Nat) :
    (returnEntry s a1 a2).part p = s.part p := by
  unfold returnEntry
  repeat' split
  all_goals simp [h]
@[simp] theorem returnForce_part (p : Part) (h : p ≠ .slc) (s : State) (a1 a2 : Nat) : (returnForce s a1 a2).part p = s.part p := by
  unfold returnForce
  repeat' split
  all_goals simp [h]
@[simp] theorem chargeTrack_part (p : Part) (h : p ≠ .ctr ∧ p ≠ .slc) (a0 a1 a2 : Nat) (s : State) :
    (chargeTrack a0 a1 a2 s).part p = s.part p := by
  simp [chargeTrack, h]
@[simp] theorem tickCycles_part (p : Part) (h : p ≠ .ctr ∧ p ≠ .slc) (s : State) : (tickCycles s).part p = s.part p := by
  unfold tickCycles
  dsimp only
  repeat' split
  · simp [h]
  · rw [part_forEach p]
    · simp [h]
    · intro n u
      split
      · rw [part_forEach p _ (fun k t => by simp [h])]; simp [h]
      · rfl
  · simp [h]
@[simp] theorem admitReport_part (p : Part) (h : p ≠ .slc ∧ p ≠ .xe) (s : State) : (admitReport s).part p = s.part p := by
  unfold admitReport
  repeat' split
  all_goals simp [h]
@[simp] theorem imgFlag_part (p : Part) (h : p ≠ .regs) (s : State) (a1 : Nat) : (imgFlag s a1).part p = s.part p := by
  simp [imgFlag, h]
@[simp] theorem loadErr_part (p : Part) (h : p ≠ .regs) (s : State) : (loadErr s).part p = s.part p := by
  simp [loadErr, h]
@[simp] theorem loadStart_part (p : Part) (h : p ≠ .regs ∧ p ≠ .ctr ∧ p ≠ .rcd ∧ p ≠ .pwr ∧ p ≠ .lrn ∧ p ≠ .slc) (s : State) (a1 a2 :
    Nat) (a3 a4 : Nat) :
    (loadStart s a1 a2 a3 a4).part p = s.part p := by
  simp [loadStart, h]
@[simp] theorem lrnLoad_part (p : Part) (h : p ≠ .regs ∧ p ≠ .lrn) (s : State) (a1 : Nat) (a2 : Prog) :
    (lrnLoad s a1 a2).part p = s.part p := by
  unfold lrnLoad
  repeat' split
  all_goals simp [h]
@[simp] theorem writeRole_part (p : Part) (h : p ≠ .regs ∧ p ≠ .lrn ∧ p ≠ .slc) (s : State) (a1 a2 a3 : Nat) (a4 : SliceState) :
    (writeRole s a1 a2 a3 a4).part p = s.part p := by
  simp [writeRole, h]
@[simp] theorem loadFail_part (p : Part) (h : p ≠ .regs ∧ p ≠ .ctr ∧ p ≠ .rcd ∧ p ≠ .slc) (s : State) (a1 a2 : Nat) :
    (loadFail s a1 a2).part p = s.part p := by
  simp [loadFail, h]
@[simp] theorem loadEnd_part (p : Part) (h : p ≠ .regs ∧ p ≠ .ctr ∧ p ≠ .rcd ∧ p ≠ .lrn ∧ p ≠ .slc ∧ p ≠ .img) (s : State) (a1 : Nat) :
    (loadEnd s a1).part p = s.part p := by
  unfold loadEnd
  repeat' split
  all_goals simp [h]
@[simp] theorem sliceLoadGo_part (p : Part) (h : p ≠ .regs ∧ p ≠ .ctr ∧ p ≠ .rcd ∧ p ≠ .pwr ∧ p ≠ .lrn ∧ p ≠ .slc) (s : State) (a1 a2 a3
    : Nat) :
    (sliceLoadGo s a1 a2 a3).part p = s.part p := by
  simp [sliceLoadGo, h]
@[simp] theorem sliceUnload_part (p : Part) (h : p ≠ .regs ∧ p ≠ .lrn ∧ p ≠ .slc) (s : State) (a1 : Nat) :
    (sliceUnload s a1).part p = s.part p := by
  simp [sliceUnload, h]
@[simp] theorem sliceLoadWrite_part (p : Part) (h : p ≠ .regs ∧ p ≠ .ctr ∧ p ≠ .rcd ∧ p ≠ .pwr ∧ p ≠ .lrn ∧ p ≠ .slc) (s : State) (a1 :
    Word) :
    (sliceLoadWrite s a1).part p = s.part p := by
  simp [sliceLoadWrite, h]

end Sys2Proof.Machine
end

