-- ==== Sys2Proof/Laws/FrameEll.lean ====
section
/-! SUPPORT. What each operation leaves unchanged: buffers, the Ell seam, admission, the exception engines and the HBM controller.
One lemma per operation; its hypothesis names every part of the state that the operation may change. -/

set_option linter.unusedTactic false
set_option linter.unreachableTactic false
set_option linter.unusedSimpArgs false

namespace Sys2Proof.Machine

@[simp] theorem mirSettle_part (p : Part) (h : p ≠ .bpm) (s : State) (n : Nat) : (mirSettle s n).part p = s.part p := by
  simp [mirSettle, h]
@[simp] theorem modBuf_part (p : Part) (h : p ≠ .bpm) (s : State) (a1 : Nat) (a2 : Buf → Buf) : (modBuf s a1 a2).part p = s.part p := by
  simp [modBuf, h]
@[simp] theorem modSch_part (p : Part) (h : p ≠ .sch) (s : State) (a1 : SchSt → SchSt) : (modSch s a1).part p = s.part p := by
  simp [modSch, h]
@[simp] theorem modNode_part (p : Part) (h : p ≠ .sch) (s : State) (a1 a2 : Nat) (a3 : NodeSt → NodeSt) :
    (modNode s a1 a2 a3).part p = s.part p := by
  simp [modNode, h]
@[simp] theorem defClear_part (p : Part) (h : p ≠ .sch) (s : State) (a1 : Nat) : (defClear s a1).part p = s.part p := by
  simp [defClear, h]
@[simp] theorem poolLow_part (p : Part) (h : p ≠ .bpm) (s : State) (a1 : Nat) : (poolLow s a1).part p = s.part p := by
  simp [poolLow, h]
theorem bufAlloc_part (p : Part) (h : p ≠ .bpm) (s : State) (a1 : Nat) (a2 : Bool) (a3 : List Byte) :
    ∀ x, bufAlloc s a1 a2 a3 = some x → (x.2.2).part p = s.part p := by
  intro x e
  unfold bufAlloc at e
  try dsimp only at e
  repeat' split at e
  all_goals first | (cases e; done) | (cases e; simp [*]; done) | (simp only [Option.map_eq_some_iff, Option.bind_eq_some_iff] at e; obtain ⟨_, _, rfl⟩ := e; simp [h]; done)
@[simp] theorem allocFail_part (p : Part) (h : p ≠ .ctr ∧ p ≠ .rcd ∧ p ≠ .bpm) (s : State) (a1 : Nat) :
    (allocFail s a1).part p = s.part p := by
  simp [allocFail, h]
@[simp] theorem bufRefuse_part (p : Part) (h : p ≠ .regs ∧ p ≠ .ctr ∧ p ≠ .flt ∧ p ≠ .rcd) (s : State) (a1 a2 : Nat) (a3 : Bool) :
    (bufRefuse s a1 a2 a3).part p = s.part p := by
  simp [bufRefuse, h]
@[simp] theorem poolEase_part (p : Part) (h : p ≠ .bpm) (s : State) (a1 : Nat) : (poolEase s a1).part p = s.part p := by
  simp [poolEase, h]
@[simp] theorem bufDec_part (p : Part) (h : p ≠ .regs ∧ p ≠ .ctr ∧ p ≠ .flt ∧ p ≠ .rcd ∧ p ≠ .bpm) (s : State) (a1 a2 : Nat) :
    (bufDec s a1 a2).part p = s.part p := by
  simp [bufDec, h]
@[simp] theorem bufInc_part (p : Part) (h : p ≠ .bpm) (s : State) (a1 : Nat) : (bufInc s a1).part p = s.part p := by
  simp [bufInc, h]
@[simp] theorem ptrRelease_part (p : Part) (h : p ≠ .regs ∧ p ≠ .ctr ∧ p ≠ .flt ∧ p ≠ .rcd ∧ p ≠ .bpm) (s : State) (a1 : Ptr) :
    (ptrRelease s a1).part p = s.part p := by
  unfold ptrRelease
  repeat' split
  all_goals simp [h]
@[simp] theorem modQ_part (p : Part) (h : p ≠ .bpm) (s : State) (a1 : Nat) (a2 : QSt → QSt) : (modQ s a1 a2).part p = s.part p := by
  simp [modQ, h]
@[simp] theorem countQ_part (p : Part) (h : p ≠ .ctr) (s : State) (a1 a2 : Nat) : (countQ s a1 a2).part p = s.part p := by
  simp [countQ, h]
@[simp] theorem countB_part (p : Part) (h : p ≠ .ctr) (s : State) (a1 : Nat) : (countB s a1).part p = s.part p := by
  simp [countB, h]
@[simp] theorem setNode_part (p : Part) (h : p ≠ .regs) (s : State) (a1 a2 a3 : Nat) (a4 : Word) :
    (setNode s a1 a2 a3 a4).part p = s.part p := by
  simp [setNode, h]
@[simp] theorem countEll_part (p : Part) (h : p ≠ .ctr) (s : State) (a1 a2 : Nat) : (countEll s a1 a2).part p = s.part p := by
  simp [countEll, h]
@[simp] theorem modIngBody_part (p : Part) (h : p ≠ .ell) (s : State) (a1 : Nat) (a2 : IngBody → IngBody) :
    (modIngBody s a1 a2).part p = s.part p := by
  simp [modIngBody, h]
@[simp] theorem freeIngBody_part (p : Part) (h : p ≠ .regs ∧ p ≠ .ctr ∧ p ≠ .flt ∧ p ≠ .rcd ∧ p ≠ .ell ∧ p ≠ .bpm) (s : State) (a1 : Nat)
    (a2 : Bool) :
    (freeIngBody s a1 a2).part p = s.part p := by
  unfold freeIngBody
  repeat' split
  all_goals simp [h]
@[simp] theorem ingBodyRx_part (p : Part) (h : p ≠ .ctr ∧ p ≠ .rcd ∧ p ≠ .ell ∧ p ≠ .bpm) (s : State) (a1 a2 : Nat) (a3 : List Byte) (a4
    : Bool) :
    (ingBodyRx s a1 a2 a3 a4).part p = s.part p := by
  unfold ingBodyRx
  dsimp only
  repeat' split
  all_goals first | (simp [h]; done) | (rename_i e; simp [h, bufAlloc_part p (by simp [h]) _ _ _ _ _ e])
@[simp] theorem bodyAge_part (p : Part) (h : p ≠ .regs ∧ p ≠ .ctr ∧ p ≠ .flt ∧ p ≠ .rcd ∧ p ≠ .ell ∧ p ≠ .bpm) (s : State) (a1 a2 : Nat) :
    (bodyAge s a1 a2).part p = s.part p := by
  unfold bodyAge
  dsimp only
  repeat' split
  all_goals simp [*]
@[simp] theorem admitReportTx_part (p : Part) (h : p ≠ .ell) (s : State) (a1 a2 : Nat) (a3 a4 : Nat) :
    (admitReportTx s a1 a2 a3 a4).part p = s.part p := by
  simp [admitReportTx, h]
@[simp] theorem unitPush_part (p : Part) (h : p ≠ .bpm) (s : State) (a1 : Nat) (a2 : AdmItem) :
    (unitPush s a1 a2).part p = s.part p := by
  simp [unitPush, h]
@[simp] theorem ticketBad_part (p : Part) (h : p ≠ .ctr ∧ p ≠ .flt ∧ p ≠ .rcd) (s : State) (a1 : Nat) (a2 : Ticket) :
    (ticketBad s a1 a2).part p = s.part p := by
  simp [ticketBad, h]
@[simp] theorem headRxQ_part (p : Part) (h : p ≠ .regs ∧ p ≠ .ctr ∧ p ≠ .flt ∧ p ≠ .rcd ∧ p ≠ .ell ∧ p ≠ .bpm) (s : State) (a1 : Nat) (a2
    : Ticket) (a3 : List Byte) (a4 : Option Nat) :
    (headRxQ s a1 a2 a3 a4).part p = s.part p := by
  unfold headRxQ
  repeat' split
  all_goals simp [h]
@[simp] theorem headRxF_part (p : Part) (h : p ≠ .ctr ∧ p ≠ .flt ∧ p ≠ .rcd ∧ p ≠ .slc ∧ p ≠ .ell) (s : State) (a1 : Nat) (a2 : Ticket)
    (a3 : List Byte) (a4 : Option Nat) :
    (headRxF s a1 a2 a3 a4).part p = s.part p := by
  unfold headRxF
  repeat' split
  all_goals simp [h]
@[simp] theorem creditRx_part (p : Part) (h : p ≠ .ell) (s : State) (a1 a2 : Nat) (a3 : List Nat) (a4 : Nat) :
    (creditRx s a1 a2 a3 a4).part p = s.part p := by
  simp [creditRx, h]
@[simp] theorem segRx_part (p : Part) (h : p ≠ .regs ∧ p ≠ .ctr ∧ p ≠ .flt ∧ p ≠ .rcd ∧ p ≠ .slc ∧ p ≠ .ell ∧ p ≠ .bpm) (a0 : Nat) (s :
    State) (a2 : Seg) :
    (segRx a0 s a2).part p = s.part p := by
  unfold segRx
  repeat' split
  all_goals simp [h]
@[simp] theorem segsRx_part (p : Part) (h : p ≠ .regs ∧ p ≠ .ctr ∧ p ≠ .flt ∧ p ≠ .rcd ∧ p ≠ .slc ∧ p ≠ .ell ∧ p ≠ .bpm) (s : State) (a1
    : Nat) (a2 : List Seg) :
    (segsRx s a1 a2).part p = s.part p := by
  unfold segsRx
  refine part_foldl p _ (fun t x => ?_) _ _
  have h1 : ∀ (g : Nat) (a2 : List (List Seg)) (u : State), (a2.foldl (fun u fl => fl.foldl (segRx g) u) u).part p = u.part p :=
    fun g a2 u => part_foldl p _ (fun v y => part_foldl p _ (fun w z => by simp [h]) _ _) _ _
  dsimp only
  repeat' split
  all_goals simp [h, h1]
theorem creditDue_part (p : Part) (h : p ≠ .ell) (s : State) (a1 : Nat) : ∀ x, creditDue s a1 = some x → (x.2).part p = s.part p := by
  intro x e
  unfold creditDue at e
  try dsimp only at e
  repeat' split at e
  all_goals first | (cases e; done) | (cases e; simp [*]; done) | (simp only [Option.map_eq_some_iff, Option.bind_eq_some_iff] at e; obtain ⟨_, _, rfl⟩ := e; simp [h]; done)
theorem sendReplay_part (p : Part) (h : p ≠ .ctr ∧ p ≠ .ell) (s : State) (a1 a2 : Nat) :
    ∀ x, sendReplay s a1 a2 = some x → (x.2).part p = s.part p := by
  intro x e
  unfold sendReplay at e
  try dsimp only at e
  repeat' split at e
  all_goals first | (cases e; done) | (cases e; simp [*]; done) | (simp only [Option.map_eq_some_iff, Option.bind_eq_some_iff] at e; obtain ⟨_, _, rfl⟩ := e; simp [h]; done)
theorem sendNew_part (p : Part) (h : p ≠ .ell) (s : State) (a1 a2 : Nat) : ∀ x, sendNew s a1 a2 = some x → (x.2).part p = s.part p := by
  intro x e
  unfold sendNew at e
  dsimp only at e
  split at e
  · cases e
  · split at e
    · rename_i h2
      split at e
      · cases e
      · cases e; simp [h, creditDue_part p (by simp [h]) _ _ _ h2]
    · split at e
      · cases e
      · cases e; simp [h]
theorem ownData_part (p : Part) (h : p ≠ .ctr ∧ p ≠ .ell) (s : State) (a1 : Nat) :
    ∀ x, ownData s a1 = some x → (x.2).part p = s.part p := by
  intro x e
  unfold ownData at e
  dsimp only at e
  repeat' split at e
  · cases e
  · rename_i h2; cases e; exact sendReplay_part p (by simp [h]) _ _ _ _ h2
  · cases e
  · simp only [Option.map_eq_some_iff] at e
    obtain ⟨y, h2, rfl⟩ := e
    exact sendNew_part p (by simp [h]) _ _ _ _ h2
theorem carriedData_part (p : Part) (h : p ≠ .ctr ∧ p ≠ .ell) (s : State) (a1 : Nat) :
    ∀ x, carriedData s a1 = some x → (x.2).part p = s.part p := by
  intro x e
  unfold carriedData at e
  dsimp only at e
  repeat' split at e
  · cases e
  · rename_i h2; cases e; exact sendReplay_part p (by simp [h]) _ _ _ _ h2
  · simp only [Option.map_eq_some_iff] at e
    obtain ⟨y, h2, rfl⟩ := e
    exact sendNew_part p (by simp [h]) _ _ _ _ h2
  · cases e
@[simp] theorem carrySleeper_part (p : Part) (h : p ≠ .ell) (s : State) (a1 : Nat) : (carrySleeper s a1).part p = s.part p := by
  simp [carrySleeper, h]
theorem nextData_part (p : Part) (h : p ≠ .ctr ∧ p ≠ .ell) (s : State) (a1 : Nat) :
    ∀ x, nextData s a1 = some x → (x.2).part p = s.part p := by
  intro x e
  unfold nextData at e
  repeat' split at e
  · rename_i h2; cases e; exact carriedData_part p (by simp [h]) _ _ _ h2
  · exact ownData_part p (by simp [h]) _ _ _ e
  · rename_i h2; cases e; exact ownData_part p (by simp [h]) _ _ _ h2
  · exact carriedData_part p (by simp [h]) _ _ _ e
@[simp] theorem replayAll_part (p : Part) (h : p ≠ .ell) (s : State) (a1 : Nat) : (replayAll s a1).part p = s.part p := by
  simp [replayAll, h]
@[simp] theorem flitTx_part (p : Part) (h : p ≠ .ctr ∧ p ≠ .ell) (s : State) (a1 : Nat) : (flitTx s a1).part p = s.part p := by
  unfold flitTx
  dsimp only
  have hk : ∀ r : Option ((Nat × Nat × List Seg) × State), r = (if (bundleOf (carrySleeper s a1) a1).st = .up then nextData (carrySleeper s a1) a1 else none) →
      (match r with | some (_, s1) => s1 | none => carrySleeper s a1).part p = s.part p := by
    intro r hr
    cases r with
    | none => simp [h]
    | some x =>
      split at hr
      · simp [h, nextData_part p (by simp [h]) _ _ _ hr.symm]
      · cases hr
  have := hk _ rfl
  repeat' split
  all_goals simp_all
@[simp] theorem ttUpdate_part (p : Part) (h : p ≠ .ctr ∧ p ≠ .flt ∧ p ≠ .rcd ∧ p ≠ .tgt) (s : State) : (ttUpdate s).part p = s.part p :=
    by
  simp [ttUpdate, h]
@[simp] theorem bothDown_part (p : Part) (h : p ≠ .ctr ∧ p ≠ .flt ∧ p ≠ .rcd) (s : State) (a1 : Nat) : (bothDown s a1).part p = s.part p
    := by
  simp [bothDown, h]
@[simp] theorem pairCheck_part (p : Part) (h : p ≠ .ctr ∧ p ≠ .flt ∧ p ≠ .rcd) (s : State) (a1 : Nat) : (pairCheck s a1).part p = s.part
    p := by
  simp [pairCheck, h]
@[simp] theorem trainTx_part (p : Part) (h : p ≠ .ell) (s : State) (a1 : Nat) : (trainTx s a1).part p = s.part p := by
  simp [trainTx, h]
@[simp] theorem ellRetrain_part (p : Part) (h : p ≠ .ctr ∧ p ≠ .flt ∧ p ≠ .rcd ∧ p ≠ .tgt ∧ p ≠ .ell) (s : State) (a1 : Nat) :
    (ellRetrain s a1).part p = s.part p := by
  simp [ellRetrain, h]
@[simp] theorem ellTx_part (p : Part) (h : p ≠ .ctr ∧ p ≠ .flt ∧ p ≠ .rcd ∧ p ≠ .tgt ∧ p ≠ .ell) (s : State) (a1 : Nat) : (ellTx s
    a1).part p = s.part p := by
  simp [ellTx, h]
@[simp] theorem homeClear_part (p : Part) (h : p ≠ .regs ∧ p ≠ .fur) (s : State) (a1 : Nat) : (homeClear s a1).part p = s.part p := by
  unfold homeClear
  dsimp only
  repeat' split
  all_goals simp [*]
@[simp] theorem ellFence_part (p : Part) (h : p ≠ .regs ∧ p ≠ .ctr ∧ p ≠ .fur ∧ p ≠ .flt ∧ p ≠ .rcd ∧ p ≠ .tgt ∧ p ≠ .ell) (s : State)
    (a1 a2 : Nat) : (ellFence s a1 a2).part p = s.part p := by
  simp [ellFence, h]
@[simp] theorem ellTrain_part (p : Part) (h : p ≠ .ctr ∧ p ≠ .flt ∧ p ≠ .rcd ∧ p ≠ .tgt ∧ p ≠ .ell) (s : State) (a1 : Nat) :
    (ellTrain s a1).part p = s.part p := by
  simp [ellTrain, h]
@[simp] theorem homeReturn_part (p : Part) (h : p ≠ .ell) (s : State) (a1 : Nat) : (homeReturn s a1).part p = s.part p := by
  simp [homeReturn, h]
@[simp] theorem ellUp_part (p : Part) (h : p ≠ .ctr ∧ p ≠ .flt ∧ p ≠ .rcd ∧ p ≠ .tgt ∧ p ≠ .ell) (s : State) (a1 : Nat) :
    (ellUp s a1).part p = s.part p := by
  simp [ellUp, h]
@[simp] theorem markBad_part (p : Part) (h : p ≠ .ell) (s : State) (a1 a2 : Nat) : (markBad s a1 a2).part p = s.part p := by
  simp [markBad, h]
@[simp] theorem parErr_part (p : Part) (h : p ≠ .ctr ∧ p ≠ .ell) (s : State) (a1 a2 : Nat) : (parErr s a1 a2).part p = s.part p := by
  simp [parErr, h]
@[simp] theorem laneBad_part (p : Part) (h : p ≠ .regs ∧ p ≠ .ctr ∧ p ≠ .fur ∧ p ≠ .flt ∧ p ≠ .rcd ∧ p ≠ .tgt ∧ p ≠ .ell) (s : State) (a1
    a2 : Nat) (a3 : Bool) :
    (laneBad s a1 a2 a3).part p = s.part p := by
  unfold laneBad
  dsimp only
  repeat' split
  all_goals simp [*]
@[simp] theorem swapTaken_part (p : Part) (h : p ≠ .ctr ∧ p ≠ .flt ∧ p ≠ .rcd ∧ p ≠ .ell) (s : State) (a1 a2 a3 : Nat) :
    (swapTaken s a1 a2 a3).part p = s.part p := by
  simp [swapTaken, h]
@[simp] theorem laneSearchDone_part (p : Part) (h : p ≠ .flt ∧ p ≠ .ell) (s : State) (a1 a2 : Nat) (a3 : Bool) :
    (laneSearchDone s a1 a2 a3).part p = s.part p := by
  simp [laneSearchDone, h]
@[simp] theorem ackRx_part (p : Part) (h : p ≠ .ell) (s : State) (a1 a2 : Nat) (a3 : Bool) : (ackRx s a1 a2 a3).part p = s.part p := by
  simp [ackRx, h]
@[simp] theorem askReplay_part (p : Part) (h : p ≠ .ell) (s : State) (a1 : Nat) : (askReplay s a1).part p = s.part p := by
  simp [askReplay, h]
@[simp] theorem discardRx_part (p : Part) (h : p ≠ .ell) (s : State) (a1 : Nat) : (discardRx s a1).part p = s.part p := by
  unfold discardRx
  split <;> simp [h]
@[simp] theorem headLost_part (p : Part) (h : p ≠ .ell) (s : State) (a1 : Nat) (a2 : Flit) : (headLost s a1 a2).part p = s.part p := by
  simp [headLost, h]
@[simp] theorem dataRx_part (p : Part) (h : p ≠ .regs ∧ p ≠ .ctr ∧ p ≠ .flt ∧ p ≠ .rcd ∧ p ≠ .slc ∧ p ≠ .ell ∧ p ≠ .bpm) (s : State) (a1
    a2 a3 : Nat) (a4 : List Seg) :
    (dataRx s a1 a2 a3 a4).part p = s.part p := by
  unfold dataRx
  dsimp only
  repeat' split
  all_goals simp [*]
@[simp] theorem laneErrs_part (p : Part) (h : p ≠ .ctr ∧ p ≠ .ell) (s : State) (a1 : Nat) (a2 : List Nat) : (laneErrs s a1 a2).part p =
    s.part p := by
  simp [laneErrs, h]
@[simp] theorem ellRx_part (p : Part) (h : p ≠ .regs ∧ p ≠ .ctr ∧ p ≠ .flt ∧ p ≠ .rcd ∧ p ≠ .slc ∧ p ≠ .ell ∧ p ≠ .bpm) (s : State) (a1
    : Nat) (a2 : List Nat) : (ellRx s a1 a2).part p = s.part p := by
  unfold ellRx
  (try dsimp only)
  repeat' split
  all_goals simp [*]
@[simp] theorem nakRepeat_part (p : Part) (h : p ≠ .ell) (s : State) (a1 : Nat) : (nakRepeat s a1).part p = s.part p := by
  unfold nakRepeat
  repeat' split
  all_goals simp [h]
@[simp] theorem storeAlign_part (p : Part) (h : p ≠ .free ∧ p ≠ .regs) (s : State) (a1 a2 : Nat) :
    (storeAlign s a1 a2).part p = s.part p := by
  simp [storeAlign, h]
@[simp] theorem fullSearchDone_part (p : Part) (h : p ≠ .free ∧ p ≠ .regs ∧ p ≠ .ctr ∧ p ≠ .fur ∧ p ≠ .flt ∧ p ≠ .rcd ∧ p ≠ .tgt ∧ p ≠
    .ell) (s : State) (a1 : Nat) (a2 : Bool) (a3 : Nat) :
    (fullSearchDone s a1 a2 a3).part p = s.part p := by
  simp [fullSearchDone, h]
@[simp] theorem trainTimeoutEll_part (p : Part) (h : p ≠ .regs ∧ p ≠ .ctr ∧ p ≠ .fur ∧ p ≠ .flt ∧ p ≠ .rcd ∧ p ≠ .tgt ∧ p ≠ .ell) (s :
    State) (a1 : Nat) :
    (trainTimeoutEll s a1).part p = s.part p := by
  simp [trainTimeoutEll, h]
@[simp] theorem retrainDone_part (p : Part) (h : p ≠ .ctr ∧ p ≠ .flt ∧ p ≠ .rcd ∧ p ≠ .tgt ∧ p ≠ .ell) (s : State) (a1 : Nat) (a2 : Bool)
    :
    (retrainDone s a1 a2).part p = s.part p := by
  simp [retrainDone, h]
@[simp] theorem clockLoss_part (p : Part) (h : p ≠ .regs ∧ p ≠ .ctr ∧ p ≠ .fur ∧ p ≠ .flt ∧ p ≠ .rcd ∧ p ≠ .tgt ∧ p ≠ .ell) (s : State)
    (a1 : Nat) :
    (clockLoss s a1).part p = s.part p := by
  simp [clockLoss, h]
@[simp] theorem ellDom_part (p : Part) (h : p ≠ .regs ∧ p ≠ .ctr ∧ p ≠ .rcd ∧ p ≠ .pwr) (s : State) (a1 : Nat) (a2 : Bool) :
    (ellDom s a1 a2).part p = s.part p := by
  simp [ellDom, h]
@[simp] theorem sleepEnter_part (p : Part) (h : p ≠ .regs ∧ p ≠ .ctr ∧ p ≠ .flt ∧ p ≠ .rcd ∧ p ≠ .tgt ∧ p ≠ .pwr ∧ p ≠ .ell) (s : State)
    (a1 : Nat) :
    (sleepEnter s a1).part p = s.part p := by
  simp [sleepEnter, h]
@[simp] theorem ellWake_part (p : Part) (h : p ≠ .regs ∧ p ≠ .ctr ∧ p ≠ .flt ∧ p ≠ .rcd ∧ p ≠ .tgt ∧ p ≠ .pwr ∧ p ≠ .ell) (s : State) (a1
    : Nat) :
    (ellWake s a1).part p = s.part p := by
  simp [ellWake, h]
@[simp] theorem wakeDone_part (p : Part) (h : p ≠ .ctr ∧ p ≠ .flt ∧ p ≠ .rcd ∧ p ≠ .tgt ∧ p ≠ .ell) (s : State) (a1 : Nat) (a2 : Bool) :
    (wakeDone s a1 a2).part p = s.part p := by
  simp [wakeDone, h]
@[simp] theorem bcfgWrite_part (p : Part) (h : p ≠ .regs ∧ p ≠ .ell) (s : State) (a1 : Nat) (a2 : Word) :
    (bcfgWrite s a1 a2).part p = s.part p := by
  simp [bcfgWrite, h]
@[simp] theorem polMark_part (p : Part) (h : p ≠ .sch) (s : State) (a1 a2 a3 : Nat) : (polMark s a1 a2 a3).2.part p = s.part p := by
  simp [polMark, h]
@[simp] theorem police_part (p : Part) (h : p ≠ .ctr ∧ p ≠ .sch) (s : State) (a1 a2 a3 : Nat) :
    (police s a1 a2 a3).2.part p = s.part p := by
  unfold police
  dsimp only
  repeat' split
  all_goals simp [*]
@[simp] theorem spillExit_part (p : Part) (h : p ≠ .ctr ∧ p ≠ .bpm) (s : State) (a1 : Nat) : (spillExit s a1).part p = s.part p := by
  simp [spillExit, h]
@[simp] theorem modTxf_part (p : Part) (h : p ≠ .fab) (s : State) (a1 : Nat) (a2 : TxFlow → TxFlow) :
    (modTxf s a1 a2).part p = s.part p := by
  simp [modTxf, h]
@[simp] theorem reqAdd_part (p : Part) (h : p ≠ .fab) (s : State) (a1 a2 : Nat) : (reqAdd s a1 a2).part p = s.part p := by
  simp [reqAdd, h]
@[simp] theorem earlyDrop_part (p : Part) (h : p ≠ .free) (s : State) (a1 a2 : Nat) : (earlyDrop s a1 a2).2.part p = s.part p := by
  unfold earlyDrop
  dsimp only
  repeat' split
  all_goals simp [*]
@[simp] theorem refuse_part (p : Part) (h : p ≠ .ctr) (s : State) (a1 a2 a3 : Nat) : (refuse s a1 a2 a3).part p = s.part p := by
  simp [refuse, h]
theorem handBuf_part (p : Part) (h : p ≠ .bpm) (s : State) (a1 : Hand) : ∀ x, handBuf s a1 = some x → (x.2).part p = s.part p := by
  intro x hx
  unfold handBuf at hx
  split at hx
  · cases hx; rfl
  · simp only [Option.map_eq_some_iff] at hx
    obtain ⟨y, h2, rfl⟩ := hx
    exact bufAlloc_part p (by simp [h]) _ _ _ _ _ h2
@[simp] theorem accepted_part (p : Part) (h : p ≠ .ctr ∧ p ≠ .fab) (s : State) (a1 a2 : Nat) :
    (accepted s a1 a2).part p = s.part p := by
  simp [accepted, h]
@[simp] theorem placeOn_part (p : Part) (h : p ≠ .ctr ∧ p ≠ .rcd ∧ p ≠ .bpm ∧ p ≠ .fab) (s : State) (a1 : Nat) (a2 : Ticket) (a3 : Nat)
    (a4 : Hand) :
    (placeOn s a1 a2 a3 a4).2.2.part p = s.part p := by
  unfold placeOn
  split
  · simp [h]
  · rename_i h2; simp [h, handBuf_part p (by simp [h]) _ _ _ h2]
@[simp] theorem placeHbm_part (p : Part) (h : p ≠ .ctr ∧ p ≠ .rcd ∧ p ≠ .bpm ∧ p ≠ .fab) (s : State) (a1 a2 : Nat) (a3 : Ticket) (a4 :
    Nat) (a5 : Hand) :
    (placeHbm s a1 a2 a3 a4 a5).2.2.part p = s.part p := by
  unfold placeHbm
  dsimp only
  split
  · simp [h]
  split
  · simp [h]
  split
  · simp [h]
  · rename_i b s1 h2
    have : s1.part p = s.part p := by
      split at h2
      · exact handBuf_part p (by simp [h]) _ _ _ h2
      · cases h2; rfl
    repeat' split
    all_goals simp_all
@[simp] theorem offer_part (p : Part) (h : p ≠ .free ∧ p ≠ .ctr ∧ p ≠ .rcd ∧ p ≠ .bpm ∧ p ≠ .sch ∧ p ≠ .fab) (s : State) (a1 a2 : Nat)
    (a3 : Ticket) (a4 : Nat) (a5 : Hand) :
    (offer s a1 a2 a3 a4 a5).2.2.part p = s.part p := by
  unfold offer
  dsimp only
  repeat' split
  all_goals simp [*]
@[simp] theorem recsReady_part (p : Part) (h : p ≠ .bpm) (s : State) (a1 : Option (Nat × Nat)) (a2 : Nat) :
    (recsReady s a1 a2).part p = s.part p := by
  unfold recsReady
  repeat' split
  all_goals simp [h]
@[simp] theorem handEnd_part (p : Part) (h : p ≠ .regs ∧ p ≠ .ctr ∧ p ≠ .flt ∧ p ≠ .rcd ∧ p ≠ .bpm) (s : State) (a1 : Hand) :
    (handEnd s a1).part p = s.part p := by
  unfold handEnd
  repeat' split
  all_goals simp [h]
@[simp] theorem mirrorCopy_part (p : Part) (h : p ≠ .free ∧ p ≠ .ctr ∧ p ≠ .rcd ∧ p ≠ .bpm ∧ p ≠ .sch ∧ p ≠ .fab) (s : State) (a1 : Nat)
    (a2 : Ticket) (a3 : Hand) (a4 : Bool) :
    (mirrorCopy s a1 a2 a3 a4).2.part p = s.part p := by
  unfold mirrorCopy
  dsimp only
  repeat' split
  all_goals first | (simp [h]; done) | (have := mirPolice_part p (by simp [h]) _ _ _ _ (by assumption); simp [*]; done)
@[simp] theorem report_part (p : Part) (h : p ≠ .ell) (s : State) (a1 : Nat) (a2 : Ticket) (a3 : Bool) :
    (report s a1 a2 a3).part p = s.part p := by
  simp [report, h]
@[simp] theorem admitUnicast_part (p : Part) (h : p ≠ .free ∧ p ≠ .regs ∧ p ≠ .ctr ∧ p ≠ .flt ∧ p ≠ .rcd ∧ p ≠ .ell ∧ p ≠ .bpm ∧ p ≠ .sch
    ∧ p ≠ .fab) (s : State) (a1 : Nat) (a2 : Ticket) (a3 : Hand) :
    (admitUnicast s a1 a2 a3).part p = s.part p := by
  simp [admitUnicast, h]
@[simp] theorem modMc_part (p : Part) (h : p ≠ .bpm) (s : State) (a1 : Nat) (a2 : List McJob → List McJob) :
    (modMc s a1 a2).part p = s.part p := by
  simp [modMc, h]
@[simp] theorem admitMulticast_part (p : Part) (h : p ≠ .regs ∧ p ≠ .ctr ∧ p ≠ .flt ∧ p ≠ .rcd ∧ p ≠ .ell ∧ p ≠ .bpm) (s : State) (a1 :
    Nat) (a2 : Ticket) (a3 : Hand) :
    (admitMulticast s a1 a2 a3).part p = s.part p := by
  unfold admitMulticast
  split
  · simp [h]
  · rename_i h2
    have := handBuf_part p (by simp [h]) _ _ _ h2
    dsimp only at this ⊢
    repeat' split
    all_goals simp_all
@[simp] theorem admitPacket_part (p : Part) (h : p ≠ .free ∧ p ≠ .regs ∧ p ≠ .ctr ∧ p ≠ .flt ∧ p ≠ .rcd ∧ p ≠ .ell ∧ p ≠ .bpm ∧ p ≠ .sch
    ∧ p ≠ .fab) (s : State) (a1 : Nat) (a2 : Ticket) (a3 : Hand) :
    (admitPacket s a1 a2 a3).part p = s.part p := by
  simp [admitPacket, h]
@[simp] theorem unitPop_part (p : Part) (h : p ≠ .bpm) (s : State) (a1 : Nat) : (unitPop s a1).part p = s.part p := by
  simp [unitPop, h]
@[simp] theorem admitBody_part (p : Part) (h : p ≠ .free ∧ p ≠ .regs ∧ p ≠ .ctr ∧ p ≠ .flt ∧ p ≠ .rcd ∧ p ≠ .ell ∧ p ≠ .bpm ∧ p ≠ .sch ∧
    p ≠ .fab) (s : State) (a1 : Nat) (a2 : Ticket) (a3 : List Byte) (a4 : Nat) :
    (admitBody s a1 a2 a3 a4).part p = s.part p := by
  unfold admitBody
  repeat' split
  all_goals simp [h]
@[simp] theorem admitHead_part (p : Part) (h : p ≠ .free ∧ p ≠ .regs ∧ p ≠ .ctr ∧ p ≠ .flt ∧ p ≠ .rcd ∧ p ≠ .ell ∧ p ≠ .bpm ∧ p ≠ .sch ∧ p ≠
    .fab) (s : State) (a1 : Nat) :
    (admitHead s a1).part p = s.part p := by
  unfold admitHead
  repeat' split
  all_goals simp [h]
@[simp] theorem mcEntry_part (p : Part) (h : p ≠ .free ∧ p ≠ .ctr ∧ p ≠ .rcd ∧ p ≠ .bpm ∧ p ≠ .sch ∧ p ≠ .fab) (s : State) (a1 : Nat) (a2
    : McJob) (a3 : Nat) :
    (mcEntry s a1 a2 a3).2.part p = s.part p := by
  simp [mcEntry, h]
@[simp] theorem mcEnd_part (p : Part) (h : p ≠ .free ∧ p ≠ .regs ∧ p ≠ .ctr ∧ p ≠ .flt ∧ p ≠ .rcd ∧ p ≠ .ell ∧ p ≠ .bpm ∧ p ≠ .sch ∧ p ≠
    .fab) (s : State) (a1 : Nat) (a2 : McJob) :
    (mcEnd s a1 a2).part p = s.part p := by
  simp [mcEnd, h]
@[simp] theorem mcOffer_part (p : Part) (h : p ≠ .free ∧ p ≠ .regs ∧ p ≠ .ctr ∧ p ≠ .flt ∧ p ≠ .rcd ∧ p ≠ .ell ∧ p ≠ .bpm ∧ p ≠ .sch ∧ p
    ≠ .fab) (s : State) (a1 : Nat) :
    (mcOffer s a1).part p = s.part p := by
  unfold mcOffer
  repeat' split
  all_goals simp [h]
@[simp] theorem mcgWrite_part (p : Part) (h : p ≠ .regs) (s : State) (a1 : Nat) (a2 : Bool) (a3 : Word) :
    (mcgWrite s a1 a2 a3).part p = s.part p := by
  simp [mcgWrite, h]
@[simp] theorem xeDispatchTo_part (p : Part) (h : p ≠ .ctr ∧ p ≠ .xe) (s : State) (a1 : Nat) (a2 : XeWait) (a3 a4 : Nat) :
    (xeDispatchTo s a1 a2 a3 a4).part p = s.part p := by
  unfold xeDispatchTo
  repeat' split
  all_goals simp [h]
@[simp] theorem xeDispatch_part (p : Part) (h : p ≠ .ctr ∧ p ≠ .xe) (s : State) : (xeDispatch s).part p = s.part p := by
  unfold xeDispatch
  repeat' split
  all_goals simp [h]
@[simp] theorem xeAct_part (p : Part) (h : p ≠ .ctr ∧ p ≠ .flt ∧ p ≠ .rcd ∧ p ≠ .tbl ∧ p ≠ .tcm) (s : State) (a1 : XeThread) (a2 : XeAct) :
    (xeAct s a1 a2).1.part p = s.part p := by
  unfold xeAct
  split <;> simp [h]
@[simp] theorem xeRun_part (p : Part) (h : p ≠ .ctr ∧ p ≠ .flt ∧ p ≠ .rcd ∧ p ≠ .tbl ∧ p ≠ .tcm) (l : List XeAct) (s : State) (a1 : XeThread) :
    (xeRun l s a1).1.part p = s.part p := by
  induction l generalizing s a1 with
  | nil => rfl
  | cons a l ih => simp [xeRun, ih, h]
@[simp] theorem xeEnd_part (p : Part) (h : p ≠ .ctr ∧ p ≠ .flt ∧ p ≠ .rcd ∧ p ≠ .tbl ∧ p ≠ .tcm ∧ p ≠ .xe) (s : State) (a1 a2 : Nat) (a3 : XeOutcome)
    (a4 : List XeAct) :
    (xeEnd s a1 a2 a3 a4).part p = s.part p := by
  unfold xeEnd
  repeat' split
  all_goals simp [h]
@[simp] theorem xeAdds_part (p : Part) (h : p ≠ .ctr) (s : State) (a1 : List (Nat × ℤ)) : (xeAdds s a1).part p = s.part p := by
  simp [xeAdds, h]
@[simp] theorem xeRelease_part (p : Part) (h : p ≠ .ctr ∧ p ≠ .slc ∧ p ≠ .xe ∧ p ≠ .ell) (s : State) (a1 : XeThread) (a2 :
    XeOutcome) : (xeRelease s a1 a2).part p = s.part p := by
  unfold xeRelease
  (try dsimp only)
  repeat' split
  all_goals simp [*]
@[simp] theorem xeFreeThread_part (p : Part) (h : p ≠ .xe) (s : State) (a1 a2 : Nat) (a3 : XeRec) :
    (xeFreeThread s a1 a2 a3).part p = s.part p := by
  unfold xeFreeThread
  repeat' split
  all_goals simp [h]
@[simp] theorem xeRetire_part (p : Part) (h : p ≠ .ctr ∧ p ≠ .slc ∧ p ≠ .xe ∧ p ≠ .ell) (s : State) (a1 a2 : Nat) : (xeRetire
    s a1 a2).part p = s.part p := by
  unfold xeRetire
  repeat' split
  all_goals simp [h]
@[simp] theorem xeQwait_part (p : Part) (h : p ≠ .ctr ∧ p ≠ .slc ∧ p ≠ .xe ∧ p ≠ .ell) (s : State) (a1 : Nat) :
    (xeQwait s a1).part p = s.part p := by
  unfold xeQwait
  repeat' split
  all_goals simp [h]
@[simp] theorem xeFence_part (p : Part) (h : p ≠ .ctr ∧ p ≠ .flt ∧ p ≠ .rcd ∧ p ≠ .xe) (s : State) (a1 a2 : Nat) :
    (xeFence s a1 a2).part p = s.part p := by
  simp [xeFence, h]
@[simp] theorem xeHostFence_part (p : Part) (h : p ≠ .ctr ∧ p ≠ .flt ∧ p ≠ .rcd ∧ p ≠ .xe) (s : State) (a1 : Nat) :
    (xeHostFence s a1).part p = s.part p := by
  simp [xeHostFence, h]
@[simp] theorem xeFaultFence_part (p : Part) (h : p ≠ .ctr ∧ p ≠ .flt ∧ p ≠ .rcd ∧ p ≠ .xe) (s : State) (a1 a2 a3 : Nat) :
    (xeFaultFence s a1 a2 a3).part p = s.part p := by
  simp [xeFaultFence, h]
@[simp] theorem xeOverlimit_part (p : Part) (h : p ≠ .ctr ∧ p ≠ .flt ∧ p ≠ .rcd ∧ p ≠ .slc ∧ p ≠ .xe ∧ p ≠ .ell) (s : State) (a1 a2 :
    Nat) :
    (xeOverlimit s a1 a2).part p = s.part p := by
  unfold xeOverlimit
  repeat' split
  all_goals simp [h]
@[simp] theorem xeRecFail_part (p : Part) (h : p ≠ .ctr ∧ p ≠ .flt ∧ p ≠ .rcd ∧ p ≠ .slc ∧ p ≠ .xe ∧ p ≠ .ell) (s : State) (a1 : Nat) :
    (xeRecFail s a1).part p = s.part p := by
  simp [xeRecFail, h]
@[simp] theorem xeImemUe_part (p : Part) (h : p ≠ .ctr ∧ p ≠ .flt ∧ p ≠ .rcd ∧ p ≠ .xe) (s : State) (a1 : Nat) (a2 : Word) : (xeImemUe s
    a1 a2).part p = s.part p := by
  simp [xeImemUe, h]
@[simp] theorem xeJudge_part (p : Part) (h : p ≠ .ctr ∧ p ≠ .flt ∧ p ≠ .rcd ∧ p ≠ .xe) (s : State) (a1 a2 : Nat) (a3 : Nat × Nat) :
    (xeJudge s a1 a2 a3).part p = s.part p := by
  simp [xeJudge, h]
@[simp] theorem xeWindow_part (p : Part) (h : p ≠ .ctr ∧ p ≠ .flt ∧ p ≠ .rcd ∧ p ≠ .xe) (s : State) (a1 : Nat) :
    (xeWindow s a1).part p = s.part p := by
  unfold xeWindow
  dsimp only
  repeat' split
  all_goals simp [*]
@[simp] theorem xeLagWindow_part (p : Part) (h : p ≠ .ctr ∧ p ≠ .flt ∧ p ≠ .rcd ∧ p ≠ .xe) (s : State) :
    (xeLagWindow s).part p = s.part p := by
  simp [xeLagWindow, h]
@[simp] theorem modHbm_part (p : Part) (h : p ≠ .hbm) (s : State) (a1 : HbmSt → HbmSt) : (modHbm s a1).part p = s.part p := by
  simp [modHbm, h]
@[simp] theorem modCh_part (p : Part) (h : p ≠ .hbm) (s : State) (a1 : Nat) (a2 : HCh → HCh) : (modCh s a1 a2).part p = s.part p := by
  simp [modCh, h]
@[simp] theorem modStack_part (p : Part) (h : p ≠ .hbm) (s : State) (a1 : Nat) (a2 : HStack → HStack) :
    (modStack s a1 a2).part p = s.part p := by
  simp [modStack, h]
@[simp] theorem countCh_part (p : Part) (h : p ≠ .ctr) (s : State) (a1 a2 a3 : Nat) : (countCh s a1 a2 a3).part p = s.part p := by
  simp [countCh, h]
@[simp] theorem bankTouch_part (p : Part) (h : p ≠ .hbm) (s : State) (a1 a2 : Nat) : (bankTouch s a1 a2).part p = s.part p := by
  simp [bankTouch, h]
@[simp] theorem bankIdle_part (p : Part) (h : p ≠ .hbm) (s : State) (a1 a2 : Nat) : (bankIdle s a1 a2).part p = s.part p := by
  simp [bankIdle, h]
@[simp] theorem bankRefresh_part (p : Part) (h : p ≠ .hbm) (s : State) (a1 a2 : Nat) : (bankRefresh s a1 a2).part p = s.part p := by
  simp [bankRefresh, h]
@[simp] theorem blkAdd_part (p : Part) (h : p ≠ .hbm) (s : State) (a1 : Nat) (a2 : Bool) : (blkAdd s a1 a2).part p = s.part p := by
  simp [blkAdd, h]
theorem takeLines_part (p : Part) (h : p ≠ .ctr ∧ p ≠ .bpm ∧ p ≠ .hbm) (a0 a1 a2 : Nat) (s : State) :
    ∀ x, takeLines a0 a1 a2 s = some x → (x.2).part p = s.part p := by
  induction a1 generalizing a2 s with
  | zero => intro x e; cases e
  | succ a1 ih =>
    intro x e
    unfold takeLines at e
    dsimp only at e
    split at e
    · cases e; rfl
    split at e
    · cases e
    rename_i b l s1 hg
    have h1 : s1.part p = s.part p := by
      split at hg
      · rename_i r hr
        cases hg
        repeat' split at hr
        all_goals first | (cases hr; rfl) | cases hr
      · simp only [Option.map_eq_some_iff] at hg
        obtain ⟨c, -, hc⟩ := hg
        cases hc
        simp [h]
    simp only [Option.map_eq_some_iff] at e
    obtain ⟨y, h2, rfl⟩ := e
    have h3 := ih _ _ _ h2
    rw [blkAdd_part p (by simp [h]), modQ_part p (by simp [h]), h1] at h3
    exact h3
@[simp] theorem giveLines_part (p : Part) (h : p ≠ .bpm ∧ p ≠ .hbm) (s : State) (a1 : Nat) (a2 : List (Nat × Nat × Nat)) :
    (giveLines s a1 a2).part p = s.part p := by
  simp [giveLines, h]
@[simp] theorem modHRec_part (p : Part) (h : p ≠ .bpm) (s : State) (a1 a2 : Nat) (a3 : HRec → HRec) :
    (modHRec s a1 a2 a3).part p = s.part p := by
  simp [modHRec, h]
@[simp] theorem dropRec_part (p : Part) (h : p ≠ .bpm) (s : State) (a1 a2 : Nat) : (dropRec s a1 a2).part p = s.part p := by
  simp [dropRec, h]
@[simp] theorem recWrite_part (p : Part) (h : p ≠ .ctr ∧ p ≠ .bpm ∧ p ≠ .hbm) (s : State) (a1 : Nat) :
    (recWrite s a1).part p = s.part p := by
  unfold recWrite
  repeat' split
  all_goals first | rfl | (have := takeLines_part p (by simp [h]) _ _ _ _ _ (by assumption); simp_all)
@[simp] theorem flushEnd_part (p : Part) (h : p ≠ .ctr ∧ p ≠ .bpm) (s : State) (a1 : Nat) : (flushEnd s a1).part p = s.part p := by
  simp [flushEnd, h]
@[simp] theorem writeDone_part (p : Part) (h : p ≠ .regs ∧ p ≠ .ctr ∧ p ≠ .flt ∧ p ≠ .rcd ∧ p ≠ .bpm ∧ p ≠ .hbm) (s : State) (a1 : Nat) :
    (writeDone s a1).part p = s.part p := by
  unfold writeDone
  repeat' split
  all_goals simp [h]
theorem readBuf_part (p : Part) (h : p ≠ .bpm) (s : State) (a1 : Nat) : ∀ x, readBuf s a1 = some x → (x.2.2).part p = s.part p := by
  intro x e
  unfold readBuf at e
  obtain ⟨_, _, _, _, h2, _⟩ := List.findSome?_eq_some_iff.1 e
  exact bufAlloc_part p (by simp [h]) _ _ _ _ _ h2
@[simp] theorem readAhead_part (p : Part) (h : p ≠ .ctr ∧ p ≠ .bpm ∧ p ≠ .hbm) (s : State) (a1 : Nat) :
    (readAhead s a1).part p = s.part p := by
  unfold readAhead
  dsimp only
  repeat' split
  all_goals first | rfl | skip
  all_goals
    rename_i b s1 h2 _
    have : s1.part p = s.part p := by
      split at h2
      · simp only [Option.map_eq_some_iff] at h2
        obtain ⟨y, h3, h4⟩ := h2
        cases h4
        exact readBuf_part p (by simp [h]) _ _ _ h3
      · cases h2; rfl
    simp [h, this]
@[simp] theorem chClose_part (p : Part) (h : p ≠ .ctr ∧ p ≠ .flt ∧ p ≠ .rcd ∧ p ≠ .hbm) (s : State) (a1 a2 : Nat) :
    (chClose s a1 a2).part p = s.part p := by
  simp [chClose, h]
@[simp] theorem errCheck_part (p : Part) (h : p ≠ .ctr ∧ p ≠ .flt ∧ p ≠ .rcd ∧ p ≠ .hbm) (s : State) (a1 : Nat) :
    (errCheck s a1).part p = s.part p := by
  simp [errCheck, h]
@[simp] theorem ceLines_part (p : Part) (h : p ≠ .ctr ∧ p ≠ .flt ∧ p ≠ .rcd ∧ p ≠ .hbm) (s : State) (a1 a2 : Nat) :
    (ceLines s a1 a2).part p = s.part p := by
  simp [ceLines, h]
@[simp] theorem ueLine_part (p : Part) (h : p ≠ .regs ∧ p ≠ .ctr ∧ p ≠ .flt ∧ p ≠ .rcd ∧ p ≠ .hbm) (s : State) (a1 a2 a3 : Nat) :
    (ueLine s a1 a2 a3).part p = s.part p := by
  simp [ueLine, h]
@[simp] theorem recGone_part (p : Part) (h : p ≠ .regs ∧ p ≠ .ctr ∧ p ≠ .flt ∧ p ≠ .rcd ∧ p ≠ .bpm ∧ p ≠ .hbm) (s : State) (a1 : Nat)
    (a2 : HRec) : (recGone s a1 a2).1.part p = s.part p := by
  unfold recGone
  dsimp only
  split
  all_goals split
  all_goals simp [h]

@[simp] theorem recsGone_part (p : Part) (h : p ≠ .regs ∧ p ≠ .ctr ∧ p ≠ .flt ∧ p ≠ .rcd ∧ p ≠ .bpm ∧ p ≠ .hbm) (s : State) (a1 a2 : Nat)
    (a3 : State → State) (hf : ∀ t, (a3 t).part p = t.part p) :
    (recsGone s a1 a2 a3).part p = s.part p := by
  unfold recsGone
  dsimp only
  rw [modQ_part p (by simp [h])]
  refine (part_foldl_fst p _ (fun a x => ?_) _ _)
  split
  · rfl
  · simp [h, hf]
@[simp] theorem discard_part (p : Part) (h : p ≠ .regs ∧ p ≠ .ctr ∧ p ≠ .flt ∧ p ≠ .rcd ∧ p ≠ .bpm ∧ p ≠ .hbm ∧ p ≠ .sch) (s : State)
    (a1 a2 : Nat) : (discard s a1 a2).part p = s.part p := by
  unfold discard
  split
  · rfl
  · simp [h, recsGone_part]
@[simp] theorem readStat_part (p : Part) (h : p ≠ .hbm) (s : State) (a1 : HRec) : (readStat s a1).part p = s.part p := by
  simp [readStat, h]
@[simp] theorem recRead_part (p : Part) (h : p ≠ .bpm ∧ p ≠ .hbm) (s : State) (a1 a2 : Nat) (a3 : HRec) : (recRead s a1 a2 a3).part p =
    s.part p := by
  simp [recRead, h]
@[simp] theorem rbufDrop_part (p : Part) (h : p ≠ .regs ∧ p ≠ .ctr ∧ p ≠ .flt ∧ p ≠ .rcd ∧ p ≠ .bpm) (s : State) (a1 : HRec) : (rbufDrop
    s a1).part p = s.part p := by
  unfold rbufDrop
  (try dsimp only)
  repeat' split
  all_goals simp [*]
@[simp] theorem readEnds_part (p : Part) (h : p ≠ .regs ∧ p ≠ .ctr ∧ p ≠ .flt ∧ p ≠ .rcd ∧ p ≠ .bpm) (s : State) (a1 a2 : Nat)
    (a3 : HRec) : (readEnds s a1 a2 a3).part p = s.part p := by
  simp [readEnds, h]
@[simp] theorem readDone_part (p : Part) (h : p ≠ .regs ∧ p ≠ .ctr ∧ p ≠ .flt ∧ p ≠ .rcd ∧ p ≠ .bpm ∧ p ≠ .hbm ∧ p ≠ .sch) (s : State)
    (a1 : Nat) (a2 : EccCount) (a3 : Nat) (a4 : List Nat) : (readDone s a1 a2 a3 a4).part p = s.part p := by
  unfold readDone
  (try dsimp only)
  repeat' split
  all_goals simp [*]
@[simp] theorem flushQueue_part (p : Part) (h : p ≠ .regs ∧ p ≠ .ctr ∧ p ≠ .flt ∧ p ≠ .rcd ∧ p ≠ .bpm ∧ p ≠ .hbm) (s : State) (a1 a2 :
    Nat) (a3 : Bool) :
    (flushQueue s a1 a2 a3).part p = s.part p := by
  unfold flushQueue
  dsimp only
  have h1 : ∀ t : State, (countQ (countB t 0x18) a1 0x10).part p = t.part p := by simp [h]
  have h2 : ∀ l : List Ptr, (l.foldl (fun t p => countQ (countB (ptrRelease t p) 0x18) a1 0x10) (modQ s a1 (fun x => { x with on := x.on.drop a2 }))).part p = s.part p := by
    intro l; rw [part_foldl p _ (fun t p => by simp [h])]; simp [h]
  repeat' split
  all_goals simp [h, recsGone_part, h2]
@[simp] theorem chFence_part (p : Part) (h : p ≠ .regs ∧ p ≠ .ctr ∧ p ≠ .flt ∧ p ≠ .rcd ∧ p ≠ .bpm ∧ p ≠ .hbm ∧ p ≠ .sch) (s : State)
    (a1 : Nat) : (chFence s a1).part p = s.part p := by
  simp [chFence, h]
@[simp] theorem stackFence_part (p : Part) (h : p ≠ .regs ∧ p ≠ .ctr ∧ p ≠ .flt ∧ p ≠ .rcd ∧ p ≠ .bpm ∧ p ≠ .hbm ∧ p ≠ .sch) (s : State)
    (a1 : Nat) : (stackFence s a1).part p = s.part p := by
  simp [stackFence, h]
@[simp] theorem stackTrain_part (p : Part) (h : p ≠ .hbm) (s : State) (a1 : Nat) : (stackTrain s a1).part p = s.part p := by
  simp [stackTrain, h]
@[simp] theorem chOpened_part (p : Part) (h : p ≠ .flt) (s : State) (a1 : Nat) : (chOpened s a1).part p = s.part p := by
  simp [chOpened, h]
@[simp] theorem trainDone_part (p : Part) (h : p ≠ .regs ∧ p ≠ .ctr ∧ p ≠ .flt ∧ p ≠ .rcd ∧ p ≠ .bpm ∧ p ≠ .hbm ∧ p ≠ .sch) (s : State)
    (a1 a2 : Nat) : (trainDone s a1 a2).part p = s.part p := by
  simp [trainDone, h]
@[simp] theorem hotSet_part (p : Part) (h : p ≠ .hbm) (s : State) (a1 : Nat) (a2 : Bool) : (hotSet s a1 a2).part p = s.part p := by
  simp [hotSet, h]
@[simp] theorem tempRead_part (p : Part) (h : p ≠ .regs ∧ p ≠ .ctr ∧ p ≠ .flt ∧ p ≠ .rcd ∧ p ≠ .bpm ∧ p ≠ .hbm ∧ p ≠ .sch) (s : State)
    (a1 : Nat) (a2 : ℤ) : (tempRead s a1 a2).part p = s.part p := by
  simp [tempRead, h]
@[simp] theorem hbmLagWindow_part (p : Part) (h : p ≠ .ctr ∧ p ≠ .flt ∧ p ≠ .rcd ∧ p ≠ .hbm) (s : State) :
    (hbmLagWindow s).part p = s.part p := by
  unfold hbmLagWindow
  dsimp only
  repeat' split
  all_goals simp [*]
@[simp] theorem hbmErrWindow_part (p : Part) (h : p ≠ .hbm) (s : State) : (hbmErrWindow s).part p = s.part p := by
  simp [hbmErrWindow, h]
@[simp] theorem flushWrites_part (p : Part) (h : p ≠ .regs ∧ p ≠ .ctr ∧ p ≠ .flt ∧ p ≠ .rcd ∧ p ≠ .bpm ∧ p ≠ .hbm) (s : State) (a1 : Nat)
    :
    (flushWrites s a1).part p = s.part p := by
  unfold flushWrites
  exact part_foldl p _ (fun u a => part_foldl p _ (fun v b => by simp [h]) _ _) _ _
@[simp] theorem retrainStart_part (p : Part) (h : p ≠ .regs ∧ p ≠ .ctr ∧ p ≠ .flt ∧ p ≠ .rcd ∧ p ≠ .bpm ∧ p ≠ .hbm) (s : State) (a1 :
    Nat) :
    (retrainStart s a1).part p = s.part p := by
  simp [retrainStart, h]
@[simp] theorem hbmRetrainDone_part (p : Part) (h : p ≠ .regs ∧ p ≠ .ctr ∧ p ≠ .flt ∧ p ≠ .rcd ∧ p ≠ .bpm ∧ p ≠ .hbm ∧ p ≠ .sch) (s :
    State) (a1 : Nat) (a2 : Bool) : (hbmRetrainDone s a1 a2).part p = s.part p := by
  simp [hbmRetrainDone, h]
@[simp] theorem chReopen_part (p : Part) (h : p ≠ .flt ∧ p ≠ .hbm) (s : State) (a1 : Nat) : (chReopen s a1).part p = s.part p := by
  simp [chReopen, h]
@[simp] theorem stackDoms_part (p : Part) (h : p ≠ .regs ∧ p ≠ .ctr ∧ p ≠ .rcd ∧ p ≠ .pwr) (s : State) (a1 : Nat) (a2 : Bool) :
    (stackDoms s a1 a2).part p = s.part p := by
  simp [stackDoms, h]
@[simp] theorem stackOff_part (p : Part) (h : p ≠ .regs ∧ p ≠ .ctr ∧ p ≠ .fur ∧ p ≠ .rcd ∧ p ≠ .pwr ∧ p ≠ .hbm) (s : State) (a1 : Nat) :
    (stackOff s a1).part p = s.part p := by
  simp [stackOff, h]
@[simp] theorem stackOn_part (p : Part) (h : p ≠ .regs ∧ p ≠ .ctr ∧ p ≠ .rcd ∧ p ≠ .pwr ∧ p ≠ .hbm) (s : State) (a1 : Nat) :
    (stackOn s a1).part p = s.part p := by
  simp [stackOn, h]

end Sys2Proof.Machine
end

