-- ==== Sys2Proof/Laws/FrameFabric.lean ====
section
/-! SUPPORT. What each operation leaves unchanged: the scheduler and the fabric interface.
One lemma per operation; its hypothesis names every part of the state that the operation may change. -/

set_option linter.unusedTactic false
set_option linter.unreachableTactic false
set_option linter.unusedSimpArgs false

namespace Sys2Proof.Machine

@[simp] theorem modSchPort_part (p : Part) (h : p ≠ .sch) (s : State) (a1 : Nat) (a2 : SchPort → SchPort) :
    (modSchPort s a1 a2).part p = s.part p := by
  simp [modSchPort, h]
@[simp] theorem countSchN_part (p : Part) (h : p ≠ .ctr) (s : State) (a1 a2 a3 : Nat) : (countSchN s a1 a2 a3).part p = s.part p := by
  simp [countSchN, h]
@[simp] theorem settle_part (p : Part) (h : p ≠ .sch) (s : State) (a1 a2 : Nat) : (settle s a1 a2).part p = s.part p := by
  simp [settle, h]
@[simp] theorem chargeNode_part (p : Part) (h : p ≠ .sch) (s : State) (a1 a2 a3 : Nat) : (chargeNode s a1 a2 a3).part p = s.part p := by
  simp [chargeNode, h]
@[simp] theorem drrLoop_part (p : Part) (h : p ≠ .sch) (a0 : Nat) (a1 : List Nat) (a2 a3 : Nat) (s : State) :
    (drrLoop a0 a1 a2 a3 s).2.part p = s.part p := by
  induction a2 generalizing a3 s with
  | zero => rfl
  | succ a2 ih =>
    unfold drrLoop
    dsimp only
    repeat' split
    all_goals simp [h, ih]
theorem pickChild_part (p : Part) (h : p ≠ .sch) (s : State) (a1 a2 : Nat) (a3 : List Nat) :
    ∀ x, pickChild s a1 a2 a3 = some x → (x.2.2).part p = s.part p := by
  intro x e
  unfold pickChild at e
  dsimp only at e
  repeat' split at e
  all_goals first | (cases e; done) | (simp only [Option.map_eq_some_iff] at e; obtain ⟨_, _, rfl⟩ := e; simp [h]; done) | (cases e; simp [h, drrLoop_part])
theorem descend_part (p : Part) (h : p ≠ .sch) (a0 a1 a2 : Nat) (s : State) :
    ∀ x, descend a0 a1 a2 s = some x → (x.2).part p = s.part p := by
  induction a1 generalizing a2 s with
  | zero => intro x e; cases e; rfl
  | succ a1 ih =>
    intro x e
    unfold descend at e
    dsimp only at e
    split at e
    · cases e
    · simp only [Option.map_eq_some_iff] at e
      obtain ⟨y, h2, rfl⟩ := e
      exact (ih _ _ _ h2).trans (pickChild_part p (by simp [h]) _ _ _ _ _ (by assumption))
theorem portPick_part (p : Part) (h : p ≠ .sch) (s : State) (a1 : Nat) : ∀ x, portPick s a1 = some x → (x.2).part p = s.part p := by
  intro x e
  unfold portPick at e
  repeat' split at e
  all_goals first | (cases e; done) | (cases e; exact descend_part p (by simp [h]) _ _ _ _ _ (by assumption))
@[simp] theorem delaySample_part (p : Part) (h : p ≠ .bpm) (s : State) (a1 a2 : Nat) : (delaySample s a1 a2).part p = s.part p := by
  simp [delaySample, h]
@[simp] theorem popPtr_part (p : Part) (h : p ≠ .bpm) (s : State) (a1 : Nat) : (popPtr s a1).part p = s.part p := by
  simp [popPtr, h]
@[simp] theorem egressSend_part (p : Part) (h : p ≠ .ell) (s : State) (a1 : Nat) (a2 : Ptr) :
    (egressSend s a1 a2).part p = s.part p := by
  unfold egressSend
  dsimp only
  repeat' split
  all_goals first | (simp [h]; done) | (have := takeTag_part p (by simp [h]) _ _ _ _ _ (by assumption); simp_all)
@[simp] theorem dequeue_part (p : Part) (h : p ≠ .regs ∧ p ≠ .ctr ∧ p ≠ .flt ∧ p ≠ .rcd ∧ p ≠ .ell ∧ p ≠ .bpm ∧ p ≠ .sch) (s : State) (a1
    a2 : Nat) (a3 : Ptr) (a4 : List (Nat × Nat × Bool)) :
    (dequeue s a1 a2 a3 a4).part p = s.part p := by
  simp [dequeue, h]
@[simp] theorem schDequeue_part (p : Part) (h : p ≠ .regs ∧ p ≠ .ctr ∧ p ≠ .flt ∧ p ≠ .rcd ∧ p ≠ .ell ∧ p ≠ .bpm ∧ p ≠ .sch) (s : State)
    (a1 : Nat) :
    (schDequeue s a1).part p = s.part p := by
  unfold schDequeue
  dsimp only
  repeat' split
  all_goals first | (simp [h]; done) | (have := portPick_part p (by simp [h]) _ _ _ (by assumption); simp_all)
@[simp] theorem flushStart_part (p : Part) (h : p ≠ .regs ∧ p ≠ .ctr ∧ p ≠ .flt ∧ p ≠ .rcd ∧ p ≠ .bpm ∧ p ≠ .hbm ∧ p ≠ .sch) (s : State)
    (a1 : Nat) :
    (flushStart s a1).part p = s.part p := by
  simp [flushStart, h]
@[simp] theorem linkChange_part (p : Part) (h : p ≠ .regs ∧ p ≠ .ctr ∧ p ≠ .flt ∧ p ≠ .rcd ∧ p ≠ .lp ∧ p ≠ .bpm ∧ p ≠ .hbm ∧ p ≠ .sch)
    (s : State) (a1 : Nat) : (linkChange s a1).part p = s.part p := by
  unfold linkChange
  dsimp only
  repeat' split
  all_goals simp [*]
@[simp] theorem holdExpire_part (p : Part) (h : p ≠ .regs ∧ p ≠ .ctr ∧ p ≠ .flt ∧ p ≠ .rcd ∧ p ≠ .bpm ∧ p ≠ .hbm ∧ p ≠ .sch) (s : State)
    (a1 : Nat) :
    (holdExpire s a1).part p = s.part p := by
  simp [holdExpire, h]
@[simp] theorem flushDone_part (p : Part) (h : p ≠ .ctr ∧ p ≠ .rcd ∧ p ≠ .sch) (s : State) (a1 : Nat) :
    (flushDone s a1).part p = s.part p := by
  simp [flushDone, h]
@[simp] theorem applyNode_part (p : Part) (h : p ≠ .regs ∧ p ≠ .sch) (s : State) (a1 : Nat) (a2 : Word) :
    (applyNode s a1 a2).part p = s.part p := by
  simp [applyNode, h]
@[simp] theorem applyPol_part (p : Part) (h : p ≠ .regs ∧ p ≠ .sch) (s : State) (a1 : Reg) (a2 : Nat) (a3 : Word) :
    (applyPol s a1 a2 a3).part p = s.part p := by
  simp [applyPol, h]
@[simp] theorem settleAll_part (p : Part) (h : p ≠ .sch) (s : State) : (settleAll s).part p = s.part p := by
  simp [settleAll, h]
@[simp] theorem bucketsFrom_part (p : Part) (h : p ≠ .sch) (s : State) : (bucketsFrom s).part p = s.part p := by
  simp [bucketsFrom, h]
@[simp] theorem nodeWrite_part (p : Part) (h : p ≠ .regs ∧ p ≠ .ctr ∧ p ≠ .fur ∧ p ≠ .rcd ∧ p ≠ .bpm ∧ p ≠ .sch) (s : State) (a1 : Nat)
    (a2 : Word) :
    (nodeWrite s a1 a2).part p = s.part p := by
  unfold nodeWrite
  repeat' split
  all_goals simp [h]
@[simp] theorem modFab_part (p : Part) (h : p ≠ .fab) (s : State) (a1 : FabSt → FabSt) : (modFab s a1).part p = s.part p := by
  simp [modFab, h]
@[simp] theorem modLane_part (p : Part) (h : p ≠ .fab) (s : State) (a1 : Nat) (a2 : FabLane → FabLane) :
    (modLane s a1 a2).part p = s.part p := by
  simp [modLane, h]
@[simp] theorem modPlane_part (p : Part) (h : p ≠ .fab) (s : State) (a1 : Nat) (a2 : FabPlane → FabPlane) :
    (modPlane s a1 a2).part p = s.part p := by
  simp [modPlane, h]
@[simp] theorem modTx_part (p : Part) (h : p ≠ .fab) (s : State) (a1 a2 : Nat) (a3 : TxStream → TxStream) :
    (modTx s a1 a2 a3).part p = s.part p := by
  simp [modTx, h]
@[simp] theorem modRx_part (p : Part) (h : p ≠ .fab) (s : State) (a1 a2 : Nat) (a3 : RxStream → RxStream) :
    (modRx s a1 a2 a3).part p = s.part p := by
  simp [modRx, h]
@[simp] theorem countFab_part (p : Part) (h : p ≠ .ctr) (s : State) (a1 a2 : Nat) : (countFab s a1 a2).part p = s.part p := by
  simp [countFab, h]
@[simp] theorem countLane_part (p : Part) (h : p ≠ .ctr) (s : State) (a1 a2 : Nat) : (countLane s a1 a2).part p = s.part p := by
  simp [countLane, h]
@[simp] theorem laneLeft_part (p : Part) (h : p ≠ .ctr ∧ p ≠ .rcd) (s : State) (a1 a2 : Nat) (a3 : Bool) :
    (laneLeft s a1 a2 a3).part p = s.part p := by
  simp [laneLeft, h]
@[simp] theorem laneStart_part (p : Part) (h : p ≠ .fab) (s : State) (a1 : Nat) : (laneStart s a1).part p = s.part p := by
  simp [laneStart, h]
@[simp] theorem laneFail_part (p : Part) (h : p ≠ .fab) (s : State) (a1 : Nat) : (laneFail s a1).part p = s.part p := by
  simp [laneFail, h]
@[simp] theorem laneOff_part (p : Part) (h : p ≠ .ctr ∧ p ≠ .rcd ∧ p ≠ .fab) (s : State) (a1 : Nat) :
    (laneOff s a1).part p = s.part p := by
  simp [laneOff, h]
@[simp] theorem laneRejoin_part (p : Part) (h : p ≠ .ctr ∧ p ≠ .rcd ∧ p ≠ .fab) (s : State) (a1 : Nat) :
    (laneRejoin s a1).part p = s.part p := by
  simp [laneRejoin, h]
@[simp] theorem laneCfgWrite_part (p : Part) (h : p ≠ .regs ∧ p ≠ .ctr ∧ p ≠ .rcd ∧ p ≠ .fab) (s : State) (a1 : Nat) (a2 : Word) :
    (laneCfgWrite s a1 a2).part p = s.part p := by
  simp [laneCfgWrite, h]
@[simp] theorem laneTrained_part (p : Part) (h : p ≠ .fab) (s : State) (a1 : Nat) : (laneTrained s a1).part p = s.part p := by
  simp [laneTrained, h]
@[simp] theorem laneTrainTimeout_part (p : Part) (h : p ≠ .fab) (s : State) (a1 : Nat) : (laneTrainTimeout s a1).part p = s.part p := by
  simp [laneTrainTimeout, h]
@[simp] theorem laneUp_part (p : Part) (h : p ≠ .ctr ∧ p ≠ .rcd ∧ p ≠ .fab) (s : State) (a1 : Nat) : (laneUp s a1).part p = s.part p := by
  unfold laneUp
  (try dsimp only)
  repeat' split
  all_goals simp [*]
@[simp] theorem laneDelinTimeout_part (p : Part) (h : p ≠ .fab) (s : State) (a1 : Nat) : (laneDelinTimeout s a1).part p = s.part p := by
  simp [laneDelinTimeout, h]
@[simp] theorem laneTakes_part (p : Part) (h : p ≠ .ctr ∧ p ≠ .rcd ∧ p ≠ .fab) (s : State) (a1 : Nat) (a2 : FabLane) : (laneTakes s a1
    a2).part p = s.part p := by
  simp [laneTakes, h]
@[simp] theorem laneLoss_part (p : Part) (h : p ≠ .ctr ∧ p ≠ .rcd ∧ p ≠ .fab) (s : State) (a1 : Nat) (a2 : Bool) : (laneLoss s a1
    a2).part p = s.part p := by
  simp [laneLoss, h]
@[simp] theorem laneHoldoffEnd_part (p : Part) (h : p ≠ .fab) (s : State) (a1 : Nat) (a2 : Bool) :
    (laneHoldoffEnd s a1 a2).part p = s.part p := by
  simp [laneHoldoffEnd, h]
@[simp] theorem laneSend_part (p : Part) (h : p ≠ .ctr ∧ p ≠ .fab) (s : State) (a1 : Nat) (a2 : FabOut) : (laneSend s a1 a2).part p =
    s.part p := by
  simp [laneSend, h]
@[simp] theorem sendMsg_part (p : Part) (h : p ≠ .fab) (s : State) (a1 : Nat) (a2 : Option Nat) (a3 : FabMsg) :
    (sendMsg s a1 a2 a3).part p = s.part p := by
  simp [sendMsg, h]
@[simp] theorem sendAll_part (p : Part) (h : p ≠ .fab) (s : State) (a1 : Nat) (a2 : FabMsg) : (sendAll s a1 a2).part p = s.part p := by
  simp [sendAll, h]
@[simp] theorem fabStart_part (p : Part) (h : p ≠ .fab) (s : State) : (fabStart s).part p = s.part p := by
  simp [fabStart, h]
@[simp] theorem abandon_part (p : Part) (h : p ≠ .ctr ∧ p ≠ .fab) (s : State) (a1 a2 : Nat) :
    (abandon s a1 a2).2.part p = s.part p := by
  simp [abandon, h]
@[simp] theorem unreach_part (p : Part) (h : p ≠ .ctr ∧ p ≠ .flt ∧ p ≠ .rcd ∧ p ≠ .fab) (s : State) (a1 a2 : Nat) :
    (unreach s a1 a2).part p = s.part p := by
  simp [unreach, h]
@[simp] theorem syncTimer_part (p : Part) (h : p ≠ .fab) (s : State) (a1 a2 : Nat) : (syncTimer s a1 a2).part p = s.part p := by
  simp [syncTimer, h]
@[simp] theorem unreachTimer_part (p : Part) (h : p ≠ .fab) (s : State) (a1 a2 : Nat) : (unreachTimer s a1 a2).part p = s.part p := by
  simp [unreachTimer, h]
@[simp] theorem resetTxFlows_part (p : Part) (h : p ≠ .fab) (s : State) (a1 : Nat) : (resetTxFlows s a1).part p = s.part p := by
  simp [resetTxFlows, h]
@[simp] theorem msgSyncAck_part (p : Part) (h : p ≠ .fab) (s : State) (a1 a2 : Nat) (a3 : Bool) (a4 a5 : Nat) :
    (msgSyncAck s a1 a2 a3 a4 a5).part p = s.part p := by
  simp [msgSyncAck, h]
@[simp] theorem msgResync_part (p : Part) (h : p ≠ .ctr ∧ p ≠ .rcd ∧ p ≠ .fab) (s : State) (a1 a2 : Nat) :
    (msgResync s a1 a2).part p = s.part p := by
  simp [msgResync, h]
@[simp] theorem replayCells_part (p : Part) (h : p ≠ .ctr ∧ p ≠ .flt ∧ p ≠ .rcd ∧ p ≠ .fab) (s : State) (a1 a2 : Nat) (a3 : TxCell →
    Bool) :
    (replayCells s a1 a2 a3).part p = s.part p := by
  unfold replayCells
  dsimp only
  repeat' split
  all_goals simp [*]
@[simp] theorem msgNak_part (p : Part) (h : p ≠ .ctr ∧ p ≠ .flt ∧ p ≠ .rcd ∧ p ≠ .fab) (s : State) (a1 a2 : Nat) (a3 a4 : Nat) :
    (msgNak s a1 a2 a3 a4).part p = s.part p := by
  simp [msgNak, h]
@[simp] theorem ackTimeout_part (p : Part) (h : p ≠ .ctr ∧ p ≠ .flt ∧ p ≠ .rcd ∧ p ≠ .fab) (s : State) (a1 a2 : Nat) :
    (ackTimeout s a1 a2).part p = s.part p := by
  simp [ackTimeout, h]
@[simp] theorem msgAck_part (p : Part) (h : p ≠ .ctr ∧ p ≠ .fab) (s : State) (a1 a2 a3 : Nat) :
    (msgAck s a1 a2 a3).part p = s.part p := by
  unfold msgAck
  dsimp only
  repeat' split
  all_goals simp [*]
@[simp] theorem probeAll_part (p : Part) (h : p ≠ .fab) (s : State) (a1 : Nat) : (probeAll s a1).part p = s.part p := by
  simp [probeAll, h]
@[simp] theorem planeWorks_part (p : Part) (h : p ≠ .flt) (s : State) (a1 : Nat) : (planeWorks s a1).part p = s.part p := by
  simp [planeWorks, h]
@[simp] theorem planeReady_part (p : Part) (h : p ≠ .flt ∧ p ≠ .fab) (s : State) (a1 : Nat) : (planeReady s a1).part p = s.part p := by
  simp [planeReady, h]
@[simp] theorem probeDone_part (p : Part) (h : p ≠ .ctr ∧ p ≠ .flt ∧ p ≠ .rcd ∧ p ≠ .fab) (s : State) (a1 : Nat) :
    (probeDone s a1).part p = s.part p := by
  simp [probeDone, h]
@[simp] theorem reprobe_part (p : Part) (h : p ≠ .fab) (s : State) (a1 a2 : Nat) : (reprobe s a1 a2).part p = s.part p := by
  simp [reprobe, h]
@[simp] theorem switchStart_part (p : Part) (h : p ≠ .ctr ∧ p ≠ .rcd ∧ p ≠ .fab) (s : State) (a1 : Bool) :
    (switchStart s a1).part p = s.part p := by
  unfold switchStart
  repeat' split
  all_goals simp [h]
@[simp] theorem planeFail_part (p : Part) (h : p ≠ .ctr ∧ p ≠ .flt ∧ p ≠ .rcd ∧ p ≠ .fab) (s : State) (a1 a2 : Nat) :
    (planeFail s a1 a2).part p = s.part p := by
  simp [planeFail, h]
@[simp] theorem planeCheck_part (p : Part) (h : p ≠ .ctr ∧ p ≠ .flt ∧ p ≠ .rcd ∧ p ≠ .fab) (s : State) (a1 : Nat) :
    (planeCheck s a1).part p = s.part p := by
  simp [planeCheck, h]
@[simp] theorem planeHostDown_part (p : Part) (h : p ≠ .ctr ∧ p ≠ .flt ∧ p ≠ .rcd ∧ p ≠ .fab) (s : State) (a1 : Nat) :
    (planeHostDown s a1).part p = s.part p := by
  simp [planeHostDown, h]
@[simp] theorem planeHostClear_part (p : Part) (h : p ≠ .fab) (s : State) (a1 : Nat) : (planeHostClear s a1).part p = s.part p := by
  simp [planeHostClear, h]
@[simp] theorem plannedSwitch_part (p : Part) (h : p ≠ .ctr ∧ p ≠ .rcd ∧ p ≠ .fab) (s : State) :
    (plannedSwitch s).part p = s.part p := by
  simp [plannedSwitch, h]
@[simp] theorem refreshTotals_part (p : Part) (h : p ≠ .fab) (s : State) : (refreshTotals s).part p = s.part p := by
  simp [refreshTotals, h]
@[simp] theorem switchEnd_part (p : Part) (h : p ≠ .ctr ∧ p ≠ .flt ∧ p ≠ .rcd ∧ p ≠ .fab) (s : State) :
    (switchEnd s).part p = s.part p := by
  unfold switchEnd
  repeat' split
  all_goals simp [h]
@[simp] theorem pmodeApply_part (p : Part) (h : p ≠ .fab) (s : State) : (pmodeApply s).part p = s.part p := by
  simp [pmodeApply, h]
@[simp] theorem heartbeatTx_part (p : Part) (h : p ≠ .ctr ∧ p ≠ .fab) (s : State) (a1 : Nat) : (heartbeatTx s a1).part p = s.part p := by
  simp [heartbeatTx, h]
@[simp] theorem heartbeatRx_part (p : Part) (h : p ≠ .fab) (s : State) (a1 a2 : Nat) : (heartbeatRx s a1 a2).part p = s.part p := by
  simp [heartbeatRx, h]
@[simp] theorem lagPlane_part (p : Part) (h : p ≠ .ctr ∧ p ≠ .rcd ∧ p ≠ .fab) (s : State) (a1 : Nat) :
    (lagPlane s a1).part p = s.part p := by
  unfold lagPlane
  dsimp only
  repeat' split
  all_goals simp [*]
@[simp] theorem fabLagWindow_part (p : Part) (h : p ≠ .ctr ∧ p ≠ .rcd ∧ p ≠ .fab) (s : State) : (fabLagWindow s).part p = s.part p := by
  simp [fabLagWindow, h]
@[simp] theorem modRxf_part (p : Part) (h : p ≠ .fab) (s : State) (a1 : Nat) (a2 : RxFlow → RxFlow) :
    (modRxf s a1 a2).part p = s.part p := by
  simp [modRxf, h]
@[simp] theorem msgReq_part (p : Part) (h : p ≠ .fab) (s : State) (a1 a2 : Nat) (a3 a4 : Nat) :
    (msgReq s a1 a2 a3 a4).part p = s.part p := by
  simp [msgReq, h]
@[simp] theorem surplus_part (p : Part) (h : p ≠ .ctr ∧ p ≠ .fab) (s : State) (a1 : Nat) : (surplus s a1).part p = s.part p := by
  simp [surplus, h]
@[simp] theorem msgCredit_part (p : Part) (h : p ≠ .ctr ∧ p ≠ .fab) (s : State) (a1 a2 : Nat) (a3 a4 : Nat) : (msgCredit s a1 a2 a3
    a4).part p = s.part p := by
  simp [msgCredit, h]
@[simp] theorem reqRefresh_part (p : Part) (h : p ≠ .fab) (s : State) : (reqRefresh s).part p = s.part p := by
  simp [reqRefresh, h]
@[simp] theorem genTick_part (p : Part) (h : p ≠ .fab) (s : State) : (genTick s).part p = s.part p := by
  simp [genTick, h]
@[simp] theorem creditGrant_part (p : Part) (h : p ≠ .fab) (s : State) (a1 : Nat) : (creditGrant s a1).part p = s.part p := by
  unfold creditGrant
  repeat' split
  all_goals simp [h]
@[simp] theorem txSelect_part (p : Part) (h : p ≠ .regs ∧ p ≠ .ctr ∧ p ≠ .flt ∧ p ≠ .rcd ∧ p ≠ .bpm ∧ p ≠ .sch ∧ p ≠ .fab) (s : State) :
    (txSelect s).part p = s.part p := by
  unfold txSelect
  repeat' split
  all_goals simp [h]
@[simp] theorem rideAck_part (p : Part) (h : p ≠ .fab) (s : State) (a1 : Nat) : (rideAck s a1).2.part p = s.part p := by
  unfold rideAck
  repeat' split
  all_goals simp [h]
theorem dealLane_part (p : Part) (h : p ≠ .fab) (s : State) (a1 : List Nat) :
    ∀ x, dealLane s a1 = some x → (x.2).part p = s.part p := by
  intro x e
  unfold dealLane at e
  try dsimp only at e
  repeat' split at e
  all_goals first | (cases e; done) | (cases e; simp [*]; done) | (simp only [Option.map_eq_some_iff, Option.bind_eq_some_iff] at e; obtain ⟨_, _, rfl⟩ := e; simp [h]; done)
theorem dealPlane_part (p : Part) (h : p ≠ .fab) (s : State) (a1 : Nat) : ∀ x, dealPlane s a1 = some x → (x.2).part p = s.part p := by
  intro x e
  unfold dealPlane at e
  try dsimp only at e
  repeat' split at e
  all_goals first | (cases e; done) | (cases e; simp [*]; done) | (simp only [Option.map_eq_some_iff, Option.bind_eq_some_iff] at e; obtain ⟨_, _, rfl⟩ := e; simp [h]; done)
@[simp] theorem dueMsgs_part (p : Part) (h : p ≠ .fab) (s : State) (a1 a2 : Nat) : (dueMsgs s a1 a2).2.part p = s.part p := by
  unfold dueMsgs
  repeat' split
  all_goals simp [h]
theorem ctrlLane_part (p : Part) (h : p ≠ .fab) (s : State) (a1 : Option Nat) (l : Nat) (t : State) (e : ctrlLane s a1 = some (l, t)) :
    t.part p = s.part p := by
  unfold ctrlLane at e
  repeat' split at e
  · exact dealLane_part p h _ _ _ e
  · cases e; exact dealPlane_part p h _ _ _ ‹_›
  · exact dealLane_part p h _ _ _ e
  · simp only [Option.map_eq_some_iff] at e
    obtain ⟨_, _, h3⟩ := e
    cases h3; rfl
@[simp] theorem sendCtrl_part (p : Part) (h : p ≠ .ctr ∧ p ≠ .fab) (s : State) (a1 : Nat) (a2 : Option Nat) :
    (sendCtrl s a1 a2).part p = s.part p := by
  unfold sendCtrl
  dsimp only
  split
  · rename_i l s2 e
    rw [laneSend_part p (by simp [h]), ctrlLane_part p h.2 _ _ _ _ e]
    simp [h]
  · simp [h]
@[simp] theorem sendData_part (p : Part) (h : p ≠ .ctr ∧ p ≠ .fab) (s : State) (a1 a2 : Nat) (a3 : TxCell) (a4 : Bool) (a5 : List Nat)
    (a6 : Bool) :
    (sendData s a1 a2 a3 a4 a5 a6).part p = s.part p := by
  have h1 : ∀ (l : List Nat) (r : List Nat × State), (l.foldl (fun (r : List Nat × State) pl =>
      match dealPlane r.2 pl with | some (l, t) => (r.1 ++ [l], t) | none => r) r).2.part p = r.2.part p := by
    intro l r
    refine part_foldl_snd p _ (fun x a => ?_) _ _
    split
    · exact dealPlane_part p (by simp [h]) _ _ _ (by assumption)
    · rfl
  have h2 : ∀ (t : State) (a5 : List Nat), (match dealLane t a5 with | some (l, t) => ([l], t) | none => (([] : List Nat), t)).2.part p = t.part p := by
    intro t a5
    split
    · exact dealLane_part p (by simp [h]) _ _ _ (by assumption)
    · rfl
  have h3 : ∀ (l : List Nat) (t : State) (o : FabOut), (l.foldl (fun t l => countFab (laneSend t l o) 0x00 1) t).part p = t.part p :=
    fun l t o => part_foldl p _ (fun t a => by simp [h]) _ _
  unfold sendData
  dsimp only
  generalize hL : (if a6 = true then _ else _ : List Nat × State) = L
  have : L.2.part p = s.part p := by
    rw [← hL]
    split
    · exact (h1 a5 _).trans (by simp [h])
    · exact (h2 _ a5).trans (by simp [h])
  split
  · rfl
  · rw [modTx_part p (by simp [h])]
    split
    · rw [countFab_part p (by simp [h]), h3]; exact this
    · rw [h3]; exact this
@[simp] theorem sendNewCell_part (p : Part) (h : p ≠ .regs ∧ p ≠ .ctr ∧ p ≠ .rcd ∧ p ≠ .fab) (s : State) (a1 a2 : Nat) :
    (sendNewCell s a1 a2).part p = s.part p := by
  simp [sendNewCell, h]
@[simp] theorem sendIdle_part (p : Part) (h : p ≠ .ctr ∧ p ≠ .fab) (s : State) : (sendIdle s).part p = s.part p := by
  unfold sendIdle
  dsimp only
  split
  · rename_i l s1 e
    have := dealLane_part p h.2 _ _ _ e
    simp [h, this]
  · rfl
@[simp] theorem cellTx_part (p : Part) (h : p ≠ .regs ∧ p ≠ .ctr ∧ p ≠ .rcd ∧ p ≠ .fab) (s : State) : (cellTx s).part p = s.part p := by
  unfold cellTx
  repeat' split
  all_goals simp [h]
@[simp] theorem reassemble_part (p : Part) (h : p ≠ .ctr ∧ p ≠ .rcd ∧ p ≠ .bpm ∧ p ≠ .fab) (a0 a1 b a2 : Nat) (s : State) :
    (reassemble a0 a1 b a2 s).part p = s.part p := by
  induction a2 generalizing s with
  | zero => rfl
  | succ a2 ih =>
    unfold reassemble
    dsimp only
    split
    · rfl
    split
    · split
      · rw [ih]; simp [h]
      · simp [h]
    have h1 : ∀ o : Option (Option (Nat × Nat)), (match o with
        | some _ => s
        | none => match bufAlloc s (poolFor (tfld (BitVec.ofNat 256 (beNat ((rxOf s a0 a1).buf.take 32))) 241 228)) false [] with
          | some (k, g, s') => modRx s' a0 a1 (fun y => { y with cur := some (some (k, g)) })
          | none => modRx (allocFail s (poolFor (tfld (BitVec.ofNat 256 (beNat ((rxOf s a0 a1).buf.take 32))) 241 228))) a0 a1 (fun y => { y with cur := some none })).part p = s.part p := by
      intro o
      repeat' split
      all_goals first | (simp [h]; done) | (have := bufAlloc_part p (by simp [h]) _ _ _ _ _ (by assumption); simp_all)
    split
    · exact h1 _
    · rw [ih]
      split
      · simp [h]; exact h1 _
      · simp [h]; exact h1 _
@[simp] theorem cellRelease_part (p : Part) (h : p ≠ .ctr ∧ p ≠ .rcd ∧ p ≠ .bpm ∧ p ≠ .fab) (s : State) (a1 a2 : Nat) (a3 : List Byte ×
    Option Nat) :
    (cellRelease s a1 a2 a3).part p = s.part p := by
  unfold cellRelease
  repeat' split
  all_goals simp [h]
@[simp] theorem releaseHeld_part (p : Part) (h : p ≠ .ctr ∧ p ≠ .rcd ∧ p ≠ .bpm ∧ p ≠ .fab) (a0 a1 a2 : Nat) (s : State) :
    (releaseHeld a0 a1 a2 s).part p = s.part p := by
  induction a2 generalizing s with
  | zero => rfl
  | succ a2 ih =>
    unfold releaseHeld
    dsimp only
    split
    · rw [ih]; simp [h]
    · simp [h]
@[simp] theorem dataCell_part (p : Part) (h : p ≠ .ctr ∧ p ≠ .rcd ∧ p ≠ .bpm ∧ p ≠ .fab) (s : State) (a1 a2 a3 : Nat) (a4 : List Byte ×
    Option Nat) :
    (dataCell s a1 a2 a3 a4).part p = s.part p := by
  simp [dataCell, h]
@[simp] theorem answerResync_part (p : Part) (h : p ≠ .fab) (s : State) (a1 a2 : Nat) : (answerResync s a1 a2).part p = s.part p := by
  simp [answerResync, h]
@[simp] theorem dropPartial_part (p : Part) (h : p ≠ .regs ∧ p ≠ .ctr ∧ p ≠ .flt ∧ p ≠ .rcd ∧ p ≠ .bpm ∧ p ≠ .fab) (s : State) (a1 a2 :
    Nat) :
    (dropPartial s a1 a2).part p = s.part p := by
  unfold dropPartial
  repeat' split
  all_goals simp [h]
@[simp] theorem msgSync_part (p : Part) (h : p ≠ .regs ∧ p ≠ .ctr ∧ p ≠ .flt ∧ p ≠ .rcd ∧ p ≠ .bpm ∧ p ≠ .fab) (s : State) (a1 a2 : Nat)
    (a3 : Bool) (a4 a5 : Nat) :
    (msgSync s a1 a2 a3 a4 a5).part p = s.part p := by
  simp [msgSync, h]
@[simp] theorem msgPend_part (p : Part) (h : p ≠ .fab) (s : State) (a1 a2 a3 : Nat) : (msgPend s a1 a2 a3).part p = s.part p := by
  simp [msgPend, h]
@[simp] theorem msgRx_part (p : Part) (h : p ≠ .regs ∧ p ≠ .ctr ∧ p ≠ .flt ∧ p ≠ .rcd ∧ p ≠ .bpm ∧ p ≠ .fab) (s : State) (a1 a2 : Nat)
    (a3 : FabMsg) : (msgRx s a1 a2 a3).part p = s.part p := by
  cases a3 <;> simp only [msgRx]
  all_goals first | (simp [h]; done) | (split <;> simp [h])
@[simp] theorem cellIn_part (p : Part) (h : p ≠ .regs ∧ p ≠ .ctr ∧ p ≠ .flt ∧ p ≠ .rcd ∧ p ≠ .bpm ∧ p ≠ .fab) (s : State) (a1 : Nat) (a2
    : List Byte) : (cellIn s a1 a2).part p = s.part p := by
  have h1 : ∀ (l : List FabMsg) (u : State) (d pl : Nat), (l.foldl (fun t m => msgRx t d pl m) u).part p = u.part p := by
    intro l u d pl
    exact part_foldl p _ (fun s a => msgRx_part p (by simp [h]) s d pl a) l u
  unfold cellIn
  dsimp only
  repeat' split
  all_goals simp [h, h1]
@[simp] theorem cellRx_part (p : Part) (h : p ≠ .regs ∧ p ≠ .ctr ∧ p ≠ .flt ∧ p ≠ .rcd ∧ p ≠ .bpm ∧ p ≠ .fab) (s : State) (a1 : Nat) (a2
    : FabCell) : (cellRx s a1 a2).part p = s.part p := by
  unfold cellRx
  (try dsimp only)
  repeat' split
  all_goals simp [*]
@[simp] theorem markerExpire_part (p : Part) (h : p ≠ .fab) (s : State) (a1 a2 : Nat) : (markerExpire s a1 a2).part p = s.part p := by
  simp [markerExpire, h]
@[simp] theorem ackTimer_part (p : Part) (h : p ≠ .fab) (s : State) (a1 a2 : Nat) : (ackTimer s a1 a2).part p = s.part p := by
  unfold ackTimer
  dsimp only
  split
  · split
    · rw [modRx_part p (by simp [h]), sendMsg_part p (by simp [h])]
    · rfl
  · rfl
@[simp] theorem nakTimer_part (p : Part) (h : p ≠ .ctr ∧ p ≠ .fab) (s : State) (a1 a2 : Nat) :
    (nakTimer s a1 a2).part p = s.part p := by
  simp [nakTimer, h]
@[simp] theorem reorderTimeout_part (p : Part) (h : p ≠ .regs ∧ p ≠ .ctr ∧ p ≠ .flt ∧ p ≠ .rcd ∧ p ≠ .bpm ∧ p ≠ .fab) (s : State) (a1 a2
    : Nat) :
    (reorderTimeout s a1 a2).part p = s.part p := by
  unfold reorderTimeout
  dsimp only
  repeat' split
  all_goals simp [*]
@[simp] theorem peerEnWrite_part (p : Part) (h : p ≠ .regs ∧ p ≠ .ctr ∧ p ≠ .flt ∧ p ≠ .rcd ∧ p ≠ .bpm ∧ p ≠ .fab) (s : State) (a1 : Nat)
    (a2 : Word) :
    (peerEnWrite s a1 a2).part p = s.part p := by
  simp [peerEnWrite, h]
@[simp] theorem fabCfgWrite_part (p : Part) (h : p ≠ .regs ∧ p ≠ .fur ∧ p ≠ .fab) (s : State) (a1 : Word) :
    (fabCfgWrite s a1).part p = s.part p := by
  simp [fabCfgWrite, h]
@[simp] theorem fabReset_part (p : Part) (h : p ≠ .regs ∧ p ≠ .ctr ∧ p ≠ .flt ∧ p ≠ .rcd ∧ p ≠ .bpm ∧ p ≠ .fab) (s : State) :
    (fabReset s).part p = s.part p := by
  simp [fabReset, h]

end Sys2Proof.Machine
end

