-- ==== Sys2Proof/Laws/FrameApply.lean ====
section
/-! SUPPORT. What each operation leaves unchanged: resets, applies, failover, twin groups, OTN, captures, boundaries, time commands and fences.
One lemma per operation; its hypothesis names every part of the state that the operation may change. -/

set_option linter.unusedTactic false
set_option linter.unreachableTactic false
set_option linter.unusedSimpArgs false

namespace Sys2Proof.Machine

@[simp] theorem fullReset_part (p : Part) (h : p ≠ .regs ∧ p ≠ .ctr ∧ p ≠ .latch ∧ p ≠ .fur ∧ p ≠ .flt ∧ p ≠ .rcd ∧ p ≠ .pmc ∧ p ≠ .tgt ∧
    p ≠ .node ∧ p ≠ .chain ∧ p ≠ .pwr ∧ p ≠ .lp ∧ p ≠ .tbl ∧ p ≠ .lrn ∧ p ≠ .tcm ∧ p ≠ .slc ∧ p ≠ .xe ∧ p ≠ .ell ∧ p ≠ .bpm ∧ p ≠ .hbm ∧
    p ≠ .sch ∧ p ≠ .fab ∧ p ≠ .img ∧ p ≠ .upd) (s : State) (a1 : BootSt) :
    (fullReset s a1).part p = s.part p := by
  unfold fullReset
  rw [setReg_part p (by simp [h])]
  cases p <;> first | rfl | simp at h
@[simp] theorem coldReset_part (p : Part) (h : p ≠ .regs ∧ p ≠ .ctr ∧ p ≠ .fur ∧ p ≠ .flt ∧ p ≠ .pmc ∧ p ≠ .tgt ∧ p ≠ .chain ∧ p ≠ .pwr ∧
    p ≠ .lp ∧ p ≠ .tbl ∧ p ≠ .lrn ∧ p ≠ .tcm ∧ p ≠ .slc ∧ p ≠ .xe ∧ p ≠ .ell ∧ p ≠ .bpm ∧ p ≠ .hbm ∧ p ≠ .sch ∧ p ≠ .fab) (s : State) :
    (coldReset s).part p = s.part p := by
  unfold coldReset
  rw [setRF_part p (by simp [h])]
  cases p <;> first | rfl | simp at h
@[simp] theorem dataUp_part (p : Part) (h : p ≠ .ctr ∧ p ≠ .flt ∧ p ≠ .rcd ∧ p ≠ .tgt ∧ p ≠ .ell ∧ p ≠ .hbm) (s : State) :
    (dataUp s).part p = s.part p := by
  simp [dataUp, h]
@[simp] theorem modApply_part (p : Part) (h : p ≠ .img) (s : State) (a1 : ApplySt → ApplySt) : (modApply s a1).part p = s.part p := by
  simp [modApply, h]
@[simp] theorem updEvent_part (p : Part) (h : p ≠ .ctr ∧ p ≠ .rcd) (s : State) (a1 a2 : Nat) :
    (updEvent s a1 a2).part p = s.part p := by
  simp [updEvent, h]
@[simp] theorem trialStart_part (p : Part) (h : p ≠ .ctr ∧ p ≠ .rcd ∧ p ≠ .upd) (s : State) : (trialStart s).part p = s.part p := by
  simp [trialStart, h]
@[simp] theorem fallEnd_part (p : Part) (h : p ≠ .ctr ∧ p ≠ .rcd ∧ p ≠ .upd) (s : State) (a1 : Nat) :
    (fallEnd s a1).part p = s.part p := by
  simp [fallEnd, h]
@[simp] theorem updApplied_part (p : Part) (h : p ≠ .ctr ∧ p ≠ .rcd ∧ p ≠ .upd) (s : State) : (updApplied s).part p = s.part p := by
  simp [updApplied, h]
@[simp] theorem hitlessStart_part (p : Part) (h : p ≠ .img) (s : State) (a1 : Nat) (a2 : Option Nat) :
    (hitlessStart s a1 a2).part p = s.part p := by
  simp [hitlessStart, h]
@[simp] theorem writeLists_part (p : Part) (h : p ≠ .tgt) (s : State) (a1 : Nat) (a2 : Bool) :
    (writeLists s a1 a2).part p = s.part p := by
  simp [writeLists, h]
@[simp] theorem setKeyBits_part (p : Part) (h : p ≠ .tbl) (s : State) (a1 : Nat) (a2 : Nat → Bool) : (setKeyBits s a1 a2).part p =
    s.part p := by
  simp [setKeyBits, h]
@[simp] theorem bindBanks_part (p : Part) (h : p ≠ .regs ∧ p ≠ .tbl ∧ p ≠ .tcm) (s : State) (a1 : Nat) : (bindBanks s a1).part p =
    s.part p := by
  unfold bindBanks
  dsimp only
  rw [setKeyBits_part p (by simp [h]), part_foldl p]
  · exact part_foldl p _ (fun u x => by split <;> simp [h]) _ _
  · intro u w
    try split
    all_goals simp [h]
@[simp] theorem unbindBanks_part (p : Part) (h : p ≠ .regs ∧ p ≠ .tbl ∧ p ≠ .tcm) (s : State) (a1 : Nat) : (unbindBanks s a1).part p =
    s.part p := by
  unfold unbindBanks
  dsimp only
  rw [part_forEach p]
  · exact part_forEach p _ (fun u x => by split <;> simp [h]) _ _
  · intro u w
    try split
    all_goals simp [h]
@[simp] theorem imgInEffect_part (p : Part) (h : p ≠ .regs ∧ p ≠ .img) (s : State) (a1 : Nat) :
    (imgInEffect s a1).part p = s.part p := by
  simp [imgInEffect, h]
@[simp] theorem applyDone_part (p : Part) (h : p ≠ .regs ∧ p ≠ .ctr ∧ p ≠ .rcd ∧ p ≠ .img ∧ p ≠ .upd) (s : State) :
    (applyDone s).part p = s.part p := by
  simp [applyDone, h]
@[simp] theorem coldNow_part (p : Part) (h : p ≠ .regs ∧ p ≠ .ctr ∧ p ≠ .fur ∧ p ≠ .flt ∧ p ≠ .rcd ∧ p ≠ .pmc ∧ p ≠ .tgt ∧ p ≠ .chain ∧ p
    ≠ .pwr ∧ p ≠ .lp ∧ p ≠ .tbl ∧ p ≠ .lrn ∧ p ≠ .tcm ∧ p ≠ .slc ∧ p ≠ .xe ∧ p ≠ .ell ∧ p ≠ .bpm ∧ p ≠ .hbm ∧ p ≠ .sch ∧ p ≠ .fab ∧ p ≠
    .img) (s : State) (a1 : Nat) :
    (coldNow s a1).part p = s.part p := by
  simp [coldNow, h]
@[simp] theorem coldStart_part (p : Part) (h : p ≠ .regs ∧ p ≠ .ctr ∧ p ≠ .fur ∧ p ≠ .flt ∧ p ≠ .rcd ∧ p ≠ .pmc ∧ p ≠ .tgt ∧ p ≠ .chain ∧
    p ≠ .pwr ∧ p ≠ .lp ∧ p ≠ .tbl ∧ p ≠ .lrn ∧ p ≠ .tcm ∧ p ≠ .slc ∧ p ≠ .xe ∧ p ≠ .ell ∧ p ≠ .bpm ∧ p ≠ .hbm ∧ p ≠ .sch ∧ p ≠ .fab ∧ p ≠
    .img) (s : State) (a1 : Nat) :
    (coldStart s a1).part p = s.part p := by
  simp [coldStart, h]
@[simp] theorem coldRefused_part (p : Part) (h : p ≠ .regs ∧ p ≠ .img) (s : State) (a1 : Nat) :
    (coldRefused s a1).part p = s.part p := by
  simp [coldRefused, h]
@[simp] theorem applyCold_part (p : Part) (h : p ≠ .regs ∧ p ≠ .ctr ∧ p ≠ .fur ∧ p ≠ .flt ∧ p ≠ .rcd ∧ p ≠ .pmc ∧ p ≠ .tgt ∧ p ≠ .chain ∧
    p ≠ .pwr ∧ p ≠ .lp ∧ p ≠ .tbl ∧ p ≠ .lrn ∧ p ≠ .tcm ∧ p ≠ .slc ∧ p ≠ .xe ∧ p ≠ .ell ∧ p ≠ .bpm ∧ p ≠ .hbm ∧ p ≠ .sch ∧ p ≠ .fab ∧ p ≠
    .img) (s : State) (a1 : Nat) :
    (applyCold s a1).part p = s.part p := by
  simp [applyCold, h]
@[simp] theorem applyHitless_part (p : Part) (h : p ≠ .regs ∧ p ≠ .img) (s : State) (a1 : Nat) :
    (applyHitless s a1).part p = s.part p := by
  simp [applyHitless, h]
@[simp] theorem tunFallback_part (p : Part) (h : p ≠ .regs ∧ p ≠ .ctr ∧ p ≠ .fur ∧ p ≠ .flt ∧ p ≠ .rcd ∧ p ≠ .pmc ∧ p ≠ .tgt ∧ p ≠ .chain
    ∧ p ≠ .pwr ∧ p ≠ .lp ∧ p ≠ .tbl ∧ p ≠ .lrn ∧ p ≠ .tcm ∧ p ≠ .slc ∧ p ≠ .xe ∧ p ≠ .ell ∧ p ≠ .bpm ∧ p ≠ .hbm ∧ p ≠ .sch ∧ p ≠ .fab ∧ p
    ≠ .img ∧ p ≠ .upd) (s : State) (a1 : Nat) :
    (tunFallback s a1).part p = s.part p := by
  simp [tunFallback, h]
@[simp] theorem updStopped_part (p : Part) (h : p ≠ .regs ∧ p ≠ .ctr ∧ p ≠ .fur ∧ p ≠ .flt ∧ p ≠ .rcd ∧ p ≠ .pmc ∧ p ≠ .tgt ∧ p ≠ .chain
    ∧ p ≠ .pwr ∧ p ≠ .lp ∧ p ≠ .tbl ∧ p ≠ .lrn ∧ p ≠ .tcm ∧ p ≠ .slc ∧ p ≠ .xe ∧ p ≠ .ell ∧ p ≠ .bpm ∧ p ≠ .hbm ∧ p ≠ .sch ∧ p ≠ .fab ∧ p
    ≠ .img ∧ p ≠ .upd) (s : State) (a1 : Bool) (a2 : Nat) :
    (updStopped s a1 a2).part p = s.part p := by
  simp [updStopped, h]
@[simp] theorem loadsLoose_part (p : Part) (h : p ≠ .slc) (s : State) : (loadsLoose s).part p = s.part p := by
  simp [loadsLoose, h]
@[simp] theorem ucodeOver_part (p : Part) (h : p ≠ .xe) (s : State) : (ucodeOver s).part p = s.part p := by
  simp [ucodeOver, h]
@[simp] theorem applyHalt_part (p : Part) (h : p ≠ .regs ∧ p ≠ .ctr ∧ p ≠ .fur ∧ p ≠ .flt ∧ p ≠ .rcd ∧ p ≠ .pmc ∧ p ≠ .tgt ∧ p ≠ .chain ∧
    p ≠ .pwr ∧ p ≠ .lp ∧ p ≠ .tbl ∧ p ≠ .lrn ∧ p ≠ .tcm ∧ p ≠ .slc ∧ p ≠ .xe ∧ p ≠ .ell ∧ p ≠ .bpm ∧ p ≠ .hbm ∧ p ≠ .sch ∧ p ≠ .fab ∧ p ≠
    .img ∧ p ≠ .upd) (s : State) (a1 : Nat) :
    (applyHalt s a1).part p = s.part p := by
  simp [applyHalt, h]
@[simp] theorem applyStop_part (p : Part) (h : p ≠ .regs ∧ p ≠ .ctr ∧ p ≠ .fur ∧ p ≠ .flt ∧ p ≠ .rcd ∧ p ≠ .pmc ∧ p ≠ .tgt ∧ p ≠ .chain ∧
    p ≠ .pwr ∧ p ≠ .lp ∧ p ≠ .tbl ∧ p ≠ .lrn ∧ p ≠ .tcm ∧ p ≠ .slc ∧ p ≠ .xe ∧ p ≠ .ell ∧ p ≠ .bpm ∧ p ≠ .hbm ∧ p ≠ .sch ∧ p ≠ .fab ∧ p ≠
    .img ∧ p ≠ .upd) (s : State) :
    (applyStop s).part p = s.part p := by
  simp [applyStop, h]
@[simp] theorem rotateNext_part (p : Part) (h : p ≠ .regs ∧ p ≠ .ctr ∧ p ≠ .fur ∧ p ≠ .flt ∧ p ≠ .rcd ∧ p ≠ .pmc ∧ p ≠ .tgt ∧ p ≠ .chain
    ∧ p ≠ .pwr ∧ p ≠ .lp ∧ p ≠ .tbl ∧ p ≠ .lrn ∧ p ≠ .tcm ∧ p ≠ .slc ∧ p ≠ .xe ∧ p ≠ .ell ∧ p ≠ .bpm ∧ p ≠ .hbm ∧ p ≠ .sch ∧ p ≠ .fab ∧ p
    ≠ .img ∧ p ≠ .upd) (s : State) :
    (rotateNext s).part p = s.part p := by
  unfold rotateNext
  repeat' split
  all_goals simp [h]
@[simp] theorem rotateStart_part (p : Part) (h : p ≠ .regs ∧ p ≠ .ctr ∧ p ≠ .fur ∧ p ≠ .flt ∧ p ≠ .rcd ∧ p ≠ .pmc ∧ p ≠ .tgt ∧ p ≠ .chain
    ∧ p ≠ .pwr ∧ p ≠ .lp ∧ p ≠ .tbl ∧ p ≠ .lrn ∧ p ≠ .tcm ∧ p ≠ .slc ∧ p ≠ .xe ∧ p ≠ .ell ∧ p ≠ .bpm ∧ p ≠ .hbm ∧ p ≠ .sch ∧ p ≠ .fab ∧ p
    ≠ .img ∧ p ≠ .upd) (s : State) :
    (rotateStart s).part p = s.part p := by
  simp [rotateStart, h]
@[simp] theorem rotateSteer_part (p : Part) (h : p ≠ .fur ∧ p ≠ .img) (s : State) (a1 : Nat) :
    (rotateSteer s a1).part p = s.part p := by
  simp [rotateSteer, h]
@[simp] theorem rotateDrained_part (p : Part) (h : p ≠ .regs ∧ p ≠ .ctr ∧ p ≠ .fur ∧ p ≠ .flt ∧ p ≠ .rcd ∧ p ≠ .pmc ∧ p ≠ .tgt ∧ p ≠
    .chain ∧ p ≠ .pwr ∧ p ≠ .lp ∧ p ≠ .tbl ∧ p ≠ .lrn ∧ p ≠ .tcm ∧ p ≠ .slc ∧ p ≠ .xe ∧ p ≠ .ell ∧ p ≠ .bpm ∧ p ≠ .hbm ∧ p ≠ .sch ∧ p ≠
    .fab ∧ p ≠ .img ∧ p ≠ .upd) (s : State) :
    (rotateDrained s).part p = s.part p := by
  simp [rotateDrained, h]
@[simp] theorem applyCommitted_part (p : Part) (h : p ≠ .regs ∧ p ≠ .ctr ∧ p ≠ .fur ∧ p ≠ .flt ∧ p ≠ .rcd ∧ p ≠ .pmc ∧ p ≠ .tgt ∧ p ≠
    .chain ∧ p ≠ .pwr ∧ p ≠ .lp ∧ p ≠ .tbl ∧ p ≠ .lrn ∧ p ≠ .tcm ∧ p ≠ .slc ∧ p ≠ .xe ∧ p ≠ .ell ∧ p ≠ .bpm ∧ p ≠ .hbm ∧ p ≠ .sch ∧ p ≠
    .fab ∧ p ≠ .img ∧ p ≠ .upd) (s : State) :
    (applyCommitted s).part p = s.part p := by
  unfold applyCommitted
  dsimp only
  repeat' split
  all_goals simp [*]
@[simp] theorem verifyEnd_part (p : Part) (h : p ≠ .regs ∧ p ≠ .ctr ∧ p ≠ .fur ∧ p ≠ .flt ∧ p ≠ .rcd ∧ p ≠ .pmc ∧ p ≠ .tgt ∧ p ≠ .chain ∧
    p ≠ .pwr ∧ p ≠ .lp ∧ p ≠ .tbl ∧ p ≠ .lrn ∧ p ≠ .tcm ∧ p ≠ .slc ∧ p ≠ .xe ∧ p ≠ .ell ∧ p ≠ .bpm ∧ p ≠ .hbm ∧ p ≠ .sch ∧ p ≠ .fab ∧ p ≠
    .img ∧ p ≠ .upd) (s : State) :
    (verifyEnd s).part p = s.part p := by
  simp [verifyEnd, h]
@[simp] theorem sectBroken_part (p : Part) (h : p ≠ .regs ∧ p ≠ .ctr ∧ p ≠ .fur ∧ p ≠ .flt ∧ p ≠ .rcd ∧ p ≠ .pmc ∧ p ≠ .tgt ∧ p ≠ .chain
    ∧ p ≠ .pwr ∧ p ≠ .lp ∧ p ≠ .tbl ∧ p ≠ .lrn ∧ p ≠ .tcm ∧ p ≠ .slc ∧ p ≠ .xe ∧ p ≠ .ell ∧ p ≠ .bpm ∧ p ≠ .hbm ∧ p ≠ .sch ∧ p ≠ .fab ∧
    p ≠ .img ∧ p ≠ .upd) (s : State) (t : Nat) : (sectBroken s t).part p = s.part p := by
  simp [sectBroken, h]
@[simp] theorem phaseDone_part (p : Part) (h : p ≠ .regs ∧ p ≠ .ctr ∧ p ≠ .fur ∧ p ≠ .flt ∧ p ≠ .rcd ∧ p ≠ .pmc ∧ p ≠ .tgt ∧ p ≠ .chain ∧
    p ≠ .pwr ∧ p ≠ .lp ∧ p ≠ .tbl ∧ p ≠ .lrn ∧ p ≠ .tcm ∧ p ≠ .slc ∧ p ≠ .xe ∧ p ≠ .ell ∧ p ≠ .bpm ∧ p ≠ .hbm ∧ p ≠ .sch ∧ p ≠ .fab ∧ p ≠
    .img ∧ p ≠ .upd) (s : State) :
    (phaseDone s).part p = s.part p := by
  unfold phaseDone
  dsimp only
  repeat' split
  all_goals simp [*]
@[simp] theorem modFail_part (p : Part) (h : p ≠ .slc) (s : State) (a1 : Failover → Failover) : (modFail s a1).part p = s.part p := by
  simp [modFail, h]
@[simp] theorem barrierClose_part (p : Part) (h : p ≠ .slc ∧ p ≠ .ell) (s : State) (a1 a2 a3 : Nat) :
    (barrierClose s a1 a2 a3).part p = s.part p := by
  simp [barrierClose, h]
@[simp] theorem replayLoad_part (p : Part) (h : p ≠ .slc) (s : State) (a1 a2 : Nat) : (replayLoad s a1 a2).part p = s.part p := by
  simp [replayLoad, h]
@[simp] theorem takeOver_part (p : Part) (h : p ≠ .slc) (s : State) (a1 a2 : Nat) : (takeOver s a1 a2).part p = s.part p := by
  simp [takeOver, h]
@[simp] theorem failoverEnd_part (p : Part) (h : p ≠ .slc) (s : State) : (failoverEnd s).part p = s.part p := by
  simp [failoverEnd, h]
@[simp] theorem steerPair_part (p : Part) (h : p ≠ .ctr ∧ p ≠ .rcd ∧ p ≠ .lrn ∧ p ≠ .slc ∧ p ≠ .ell) (s : State) (a1 a2 : Nat) :
    (steerPair s a1 a2).part p = s.part p := by
  unfold steerPair
  dsimp only
  repeat' split
  all_goals simp [*]
@[simp] theorem steerApply_part (p : Part) (h : p ≠ .regs ∧ p ≠ .ctr ∧ p ≠ .rcd ∧ p ≠ .lrn ∧ p ≠ .slc ∧ p ≠ .ell) (s : State) (a1 : Word)
    :
    (steerApply s a1).1.part p = s.part p := by
  unfold steerApply
  dsimp only
  rw [setReg_part p (by simp [h])]
  refine part_foldl_fst p _ (fun x a => ?_) _ _
  repeat' split
  all_goals simp [h]
@[simp] theorem noSpare_part (p : Part) (h : p ≠ .ctr ∧ p ≠ .rcd ∧ p ≠ .slc) (s : State) : (noSpare s).part p = s.part p := by
  simp [noSpare, h]
@[simp] theorem failLoad_part (p : Part) (h : p ≠ .regs ∧ p ≠ .ctr ∧ p ≠ .rcd ∧ p ≠ .pwr ∧ p ≠ .lrn ∧ p ≠ .slc) (s : State) (a1 : Nat) :
    (failLoad s a1).part p = s.part p := by
  simp [failLoad, h]
@[simp] theorem failPlan_part (p : Part) (h : p ≠ .regs ∧ p ≠ .ctr ∧ p ≠ .rcd ∧ p ≠ .pwr ∧ p ≠ .lrn ∧ p ≠ .slc) (s : State) :
    (failPlan s).part p = s.part p := by
  unfold failPlan
  dsimp only
  repeat' split
  all_goals simp [*]
@[simp] theorem failStart_part (p : Part) (h : p ≠ .regs ∧ p ≠ .ctr ∧ p ≠ .rcd ∧ p ≠ .pwr ∧ p ≠ .lrn ∧ p ≠ .slc) (s : State) (a1 a2 :
    Nat) :
    (failStart s a1 a2).part p = s.part p := by
  simp [failStart, h]
@[simp] theorem failStage_part (p : Part) (h : p ≠ .regs ∧ p ≠ .ctr ∧ p ≠ .fur ∧ p ≠ .rcd ∧ p ≠ .slc) (s : State) :
    (failStage s).part p = s.part p := by
  simp [failStage, h]
@[simp] theorem failoverStage_part (p : Part) (h : p ≠ .regs ∧ p ≠ .ctr ∧ p ≠ .fur ∧ p ≠ .rcd ∧ p ≠ .pwr ∧ p ≠ .lrn ∧ p ≠ .slc) (s :
    State) :
    (failoverStage s).part p = s.part p := by
  simp [failoverStage, h]
@[simp] theorem failLoadFailed_part (p : Part) (h : p ≠ .regs ∧ p ≠ .ctr ∧ p ≠ .rcd ∧ p ≠ .pwr ∧ p ≠ .lrn ∧ p ≠ .slc) (s : State) :
    (failLoadFailed s).part p = s.part p := by
  simp [failLoadFailed, h]
@[simp] theorem macTakeBack_part (p : Part) (h : p ≠ .lp) (s : State) (a1 : Nat) : (macTakeBack s a1).part p = s.part p := by
  simp [macTakeBack, h]
@[simp] theorem sliceStop_part (p : Part) (h : p ≠ .ctr ∧ p ≠ .lp ∧ p ≠ .slc ∧ p ≠ .ell) (s : State) (a1 : Nat) : (sliceStop s a1).part
    p = s.part p := by
  simp [sliceStop, h]
@[simp] theorem loadBroken_part (p : Part) (h : p ≠ .regs ∧ p ≠ .ctr ∧ p ≠ .fur ∧ p ≠ .flt ∧ p ≠ .rcd ∧ p ≠ .pmc ∧ p ≠ .tgt ∧ p ≠ .chain
    ∧ p ≠ .pwr ∧ p ≠ .lp ∧ p ≠ .tbl ∧ p ≠ .lrn ∧ p ≠ .tcm ∧ p ≠ .slc ∧ p ≠ .xe ∧ p ≠ .ell ∧ p ≠ .bpm ∧ p ≠ .hbm ∧ p ≠ .sch ∧ p ≠ .fab ∧ p
    ≠ .img ∧ p ≠ .upd) (s : State) (a1 a2 : Nat) :
    (loadBroken s a1 a2).part p = s.part p := by
  unfold loadBroken
  repeat' split
  all_goals simp [h]
@[simp] theorem sliceFence_part (p : Part) (h : p ≠ .regs ∧ p ≠ .ctr ∧ p ≠ .fur ∧ p ≠ .flt ∧ p ≠ .rcd ∧ p ≠ .pmc ∧ p ≠ .tgt ∧ p ≠ .chain
    ∧ p ≠ .pwr ∧ p ≠ .lp ∧ p ≠ .tbl ∧ p ≠ .lrn ∧ p ≠ .tcm ∧ p ≠ .slc ∧ p ≠ .xe ∧ p ≠ .ell ∧ p ≠ .bpm ∧ p ≠ .hbm ∧ p ≠ .sch ∧ p ≠ .fab ∧ p
    ≠ .img ∧ p ≠ .upd) (s : State) (a1 : Nat) :
    (sliceFence s a1).part p = s.part p := by
  unfold sliceFence
  dsimp only
  repeat' split
  all_goals simp [*]
@[simp] theorem fenceEcho_part (p : Part) (h : p ≠ .slc ∧ p ≠ .xe) (s : State) : (fenceEcho s).part p = s.part p := by
  unfold fenceEcho
  dsimp only
  repeat' split
  all_goals simp [*]
@[simp] theorem replayDone_part (p : Part) (h : p ≠ .ctr ∧ p ≠ .rcd ∧ p ≠ .slc) (s : State) (a1 : Nat) :
    (replayDone s a1).part p = s.part p := by
  unfold replayDone
  repeat' split
  all_goals simp [h]
@[simp] theorem jrnlFail_part (p : Part) (h : p ≠ .regs ∧ p ≠ .ctr ∧ p ≠ .fur ∧ p ≠ .flt ∧ p ≠ .rcd ∧ p ≠ .pmc ∧ p ≠ .tgt ∧ p ≠ .chain ∧
    p ≠ .pwr ∧ p ≠ .lp ∧ p ≠ .tbl ∧ p ≠ .lrn ∧ p ≠ .tcm ∧ p ≠ .slc ∧ p ≠ .xe ∧ p ≠ .ell ∧ p ≠ .bpm ∧ p ≠ .hbm ∧ p ≠ .sch ∧ p ≠ .fab ∧ p ≠
    .img ∧ p ≠ .upd) (s : State) (a1 : Nat) :
    (jrnlFail s a1).part p = s.part p := by
  have hs (u : State) (l : List (Nat × JEntry)) : (l.foldl (fun t e => dropBody t e.2.head) u).part p = u.part p :=
    part_foldl p _ (fun u a => by simp [h]) _ _
  unfold jrnlFail
  dsimp only
  split
  · rfl
  split <;> simp [h, hs]
@[simp] theorem drainDone_part (p : Part) (h : p ≠ .regs ∧ p ≠ .ctr ∧ p ≠ .fur ∧ p ≠ .flt ∧ p ≠ .rcd ∧ p ≠ .pmc ∧ p ≠ .tgt ∧ p ≠ .chain ∧
    p ≠ .pwr ∧ p ≠ .lp ∧ p ≠ .tbl ∧ p ≠ .lrn ∧ p ≠ .tcm ∧ p ≠ .slc ∧ p ≠ .xe ∧ p ≠ .ell ∧ p ≠ .bpm ∧ p ≠ .hbm ∧ p ≠ .sch ∧ p ≠ .fab ∧ p ≠
    .img ∧ p ≠ .upd) (s : State) (a1 : Nat) :
    (drainDone s a1).part p = s.part p := by
  simp [drainDone, h]
@[simp] theorem sliceLoadDone_part (p : Part) (h : p ≠ .regs ∧ p ≠ .ctr ∧ p ≠ .fur ∧ p ≠ .flt ∧ p ≠ .rcd ∧ p ≠ .pmc ∧ p ≠ .tgt ∧ p ≠
    .chain ∧ p ≠ .pwr ∧ p ≠ .lp ∧ p ≠ .tbl ∧ p ≠ .lrn ∧ p ≠ .tcm ∧ p ≠ .slc ∧ p ≠ .xe ∧ p ≠ .ell ∧ p ≠ .bpm ∧ p ≠ .hbm ∧ p ≠ .sch ∧ p ≠
    .fab ∧ p ≠ .img ∧ p ≠ .upd) (s : State) (a1 : Nat) :
    (sliceLoadDone s a1).part p = s.part p := by
  unfold sliceLoadDone
  repeat' split
  all_goals simp [h]
@[simp] theorem modTwin_part (p : Part) (h : p ≠ .fab) (s : State) (a1 : Nat) (a2 : TwinGrp → TwinGrp) :
    (modTwin s a1 a2).part p = s.part p := by
  simp [modTwin, h]
@[simp] theorem twinClaiming_part (p : Part) (h : p ≠ .fab) (s : State) (a1 : Nat) : (twinClaiming s a1).part p = s.part p := by
  simp [twinClaiming, h]
@[simp] theorem twinEvent_part (p : Part) (h : p ≠ .ctr ∧ p ≠ .rcd) (s : State) (a1 a2 a3 : Nat) :
    (twinEvent s a1 a2 a3).part p = s.part p := by
  simp [twinEvent, h]
@[simp] theorem twinHold_part (p : Part) (h : p ≠ .fab) (s : State) (a1 : Nat) : (twinHold s a1).part p = s.part p := by
  simp [twinHold, h]
@[simp] theorem twinHoldsEnd_part (p : Part) (h : p ≠ .regs ∧ p ≠ .ctr ∧ p ≠ .rcd ∧ p ≠ .lp ∧ p ≠ .fab) (s : State) : (twinHoldsEnd
    s).part p = s.part p := by
  simp [twinHoldsEnd, h]
@[simp] theorem twinInRise_part (p : Part) (h : p ≠ .regs ∧ p ≠ .ctr ∧ p ≠ .rcd ∧ p ≠ .lp ∧ p ≠ .fab) (s : State) (a1 : Nat) :
    (twinInRise s a1).part p = s.part p := by
  simp [twinInRise, h]
@[simp] theorem twinTimer_part (p : Part) (h : p ≠ .regs ∧ p ≠ .ctr ∧ p ≠ .rcd ∧ p ≠ .lp ∧ p ≠ .fab) (s : State) (a1 : Nat) : (twinTimer
    s a1).part p = s.part p := by
  simp [twinTimer, h]
@[simp] theorem twinInLow_part (p : Part) (h : p ≠ .regs ∧ p ≠ .ctr ∧ p ≠ .rcd ∧ p ≠ .lp ∧ p ≠ .fab) (s : State) (a1 : Nat) : (twinInLow
    s a1).part p = s.part p := by
  simp [twinInLow, h]
@[simp] theorem twinClaim_part (p : Part) (h : p ≠ .fab) (s : State) (a1 : Nat) : (twinClaim s a1).part p = s.part p := by
  simp [twinClaim, h]
@[simp] theorem twinRelease_part (p : Part) (h : p ≠ .fab) (s : State) (a1 : Nat) : (twinRelease s a1).part p = s.part p := by
  simp [twinRelease, h]
@[simp] theorem twinOff_part (p : Part) (h : p ≠ .fab) (s : State) (a1 : Nat) : (twinOff s a1).part p = s.part p := by
  simp [twinOff, h]
@[simp] theorem twinCfgWrite_part (p : Part) (h : p ≠ .regs ∧ p ≠ .ctr ∧ p ≠ .rcd ∧ p ≠ .lp ∧ p ≠ .fab) (s : State) (a1 : Nat) (a2 :
    Word) :
    (twinCfgWrite s a1 a2).part p = s.part p := by
  simp [twinCfgWrite, h]
@[simp] theorem twinConfirm_part (p : Part) (h : p ≠ .ctr ∧ p ≠ .rcd ∧ p ≠ .fab) (s : State) (a1 : Nat) (a2 : Bool) :
    (twinConfirm s a1 a2).part p = s.part p := by
  simp [twinConfirm, h]
@[simp] theorem linkDrop_part (p : Part) (h : p ≠ .ctr ∧ p ≠ .rcd ∧ p ≠ .lp ∧ p ≠ .slc ∧ p ≠ .ell) (s : State) (a1 a2 : Nat) (a3 : Bool)
    : (linkDrop s a1 a2 a3).part p = s.part p := by
  unfold linkDrop
  (try dsimp only)
  repeat' split
  all_goals simp [*]
@[simp] theorem lineEval_part (p : Part) (h : p ≠ .ctr ∧ p ≠ .rcd ∧ p ≠ .lp ∧ p ≠ .slc ∧ p ≠ .ell) (s : State) (a1 : Nat) (a2 : Bool) :
    (lineEval s a1 a2).part p = s.part p := by
  unfold lineEval
  (try dsimp only)
  repeat' split
  all_goals simp [*]
@[simp] theorem lineFollow_part (p : Part) (h : p ≠ .free ∧ p ≠ .ctr ∧ p ≠ .rcd ∧ p ≠ .lp ∧ p ≠ .slc ∧ p ≠ .ell) (s : State) (a1 : Nat)
    : (lineFollow s a1).part p = s.part p := by
  simp [lineFollow, h]
@[simp] theorem otnFollow_part (p : Part) (h : p ≠ .free ∧ p ≠ .ctr ∧ p ≠ .rcd ∧ p ≠ .lp ∧ p ≠ .slc ∧ p ≠ .ell) (s : State) (a1 : Nat) :
    (otnFollow s a1).part p = s.part p := by
  simp [otnFollow, h]
@[simp] theorem laneLost_part (p : Part) (h : p ≠ .free ∧ p ≠ .regs ∧ p ≠ .ctr ∧ p ≠ .rcd ∧ p ≠ .lp ∧ p ≠ .slc ∧ p ≠ .ell) (s : State)
    (a1 : Nat) : (laneLost s a1).part p = s.part p := by
  unfold laneLost
  (try dsimp only)
  repeat' split
  all_goals simp [*]
@[simp] theorem synceSet_part (p : Part) (h : p ≠ .regs ∧ p ≠ .ctr ∧ p ≠ .rcd) (s : State) (a1 a2 : Nat) : (synceSet s a1 a2).part p =
    s.part p := by
  simp [synceSet, h]
@[simp] theorem synceLoss_part (p : Part) (h : p ≠ .free ∧ p ≠ .regs ∧ p ≠ .ctr ∧ p ≠ .rcd ∧ p ≠ .lp ∧ p ≠ .slc ∧ p ≠ .ell) (s : State)
    (a1 : Nat) : (synceLoss s a1).part p = s.part p := by
  simp [synceLoss, h]
@[simp] theorem synceRelock_part (p : Part) (h : p ≠ .regs ∧ p ≠ .ctr ∧ p ≠ .rcd) (s : State) (a1 : Nat) : (synceRelock s a1).part p =
    s.part p := by
  simp [synceRelock, h]
@[simp] theorem synceWrite_part (p : Part) (h : p ≠ .regs ∧ p ≠ .ctr ∧ p ≠ .rcd) (s : State) (a1 : Nat) (a2 : Word) : (synceWrite s a1
    a2).part p = s.part p := by
  simp [synceWrite, h]
@[simp] theorem setOtn_part (p : Part) (h : p ≠ .lp) (s : State) (a1 : Nat) (a2 : OtnGrp) : (setOtn s a1 a2).part p = s.part p := by
  simp [setOtn, h]
@[simp] theorem setInst_part (p : Part) (h : p ≠ .lp) (s : State) (a1 a2 : Nat) (a3 : OtnInst) :
    (setInst s a1 a2 a3).part p = s.part p := by
  simp [setInst, h]
@[simp] theorem countOtn_part (p : Part) (h : p ≠ .ctr) (s : State) (a1 a2 a3 : Nat) : (countOtn s a1 a2 a3).part p = s.part p := by
  simp [countOtn, h]
@[simp] theorem fasSighting_part (p : Part) (h : p ≠ .ctr ∧ p ≠ .lp) (s : State) (a1 a2 a3 : Nat) :
    (fasSighting s a1 a2 a3).part p = s.part p := by
  simp [fasSighting, h]
@[simp] theorem candidateCheck_part (p : Part) (h : p ≠ .lp) (s : State) (a1 a2 a3 : Nat) (a4 : Bool) :
    (candidateCheck s a1 a2 a3 a4).part p = s.part p := by
  unfold candidateCheck
  dsimp only
  repeat' split
  all_goals simp [*]
@[simp] theorem lockedCheck_part (p : Part) (h : p ≠ .ctr ∧ p ≠ .lp) (s : State) (a1 a2 : Nat) (a3 : Bool) :
    (lockedCheck s a1 a2 a3).part p = s.part p := by
  simp [lockedCheck, h]
@[simp] theorem mfTimeout_part (p : Part) (h : p ≠ .ctr ∧ p ≠ .lp) (s : State) (a1 a2 : Nat) :
    (mfTimeout s a1 a2).part p = s.part p := by
  simp [mfTimeout, h]
@[simp] theorem setDefect_part (p : Part) (h : p ≠ .regs ∧ p ≠ .ctr ∧ p ≠ .rcd ∧ p ≠ .lp) (s : State) (a1 a2 : Nat) (a3 : Bool) :
    (setDefect s a1 a2 a3).part p = s.part p := by
  simp [setDefect, h]
@[simp] theorem timEval_part (p : Part) (h : p ≠ .regs ∧ p ≠ .ctr ∧ p ≠ .rcd ∧ p ≠ .lp) (s : State) (a1 : Nat) (a2 : Bool) :
    (timEval s a1 a2).part p = s.part p := by
  simp [timEval, h]
@[simp] theorem timClear_part (p : Part) (h : p ≠ .regs ∧ p ≠ .ctr ∧ p ≠ .rcd ∧ p ≠ .lp) (s : State) (a1 : Nat) (a2 : Bool) :
    (timClear s a1 a2).part p = s.part p := by
  simp [timClear, h]
@[simp] theorem otnCfgWrite_part (p : Part) (h : p ≠ .regs ∧ p ≠ .ctr ∧ p ≠ .rcd ∧ p ≠ .lp) (s : State) (a1 : Nat) (a2 : Word) :
    (otnCfgWrite s a1 a2).part p = s.part p := by
  simp [otnCfgWrite, h]
@[simp] theorem holdBegin_part (p : Part) (h : p ≠ .lp) (s : State) (a1 : Nat) : (holdBegin s a1).part p = s.part p := by
  simp [holdBegin, h]
@[simp] theorem holdEnd_part (p : Part) (h : p ≠ .regs ∧ p ≠ .ctr ∧ p ≠ .rcd ∧ p ≠ .lp) (s : State) (a1 : Nat) :
    (holdEnd s a1).part p = s.part p := by
  simp [holdEnd, h]
@[simp] theorem setAlignDefect_part (p : Part) (h : p ≠ .regs ∧ p ≠ .ctr ∧ p ≠ .rcd ∧ p ≠ .lp) (s : State) (a1 a2 : Nat) (a3 : Bool) :
    (setAlignDefect s a1 a2 a3).part p = s.part p := by
  simp [setAlignDefect, h]
@[simp] theorem otucRx_part (p : Part) (h : p ≠ .regs ∧ p ≠ .ctr ∧ p ≠ .rcd ∧ p ≠ .lp) (s : State) (a1 : Nat) (a2 : OtucFrame) :
    (otucRx s a1 a2).part p = s.part p := by
  simp [otucRx, h]
@[simp] theorem otucTx_part (p : Part) (h : p ≠ .lp) (s : State) (a1 : Nat) (a2 : List (List Byte)) : (otucTx s a1 a2).part p = s.part p := by
  simp [otucTx, h]
@[simp] theorem degLayer_part (p : Part) (h : p ≠ .regs ∧ p ≠ .ctr ∧ p ≠ .rcd ∧ p ≠ .lp) (s : State) (a1 : Nat) (a2 : Bool) :
    (degLayer s a1 a2).part p = s.part p := by
  simp [degLayer, h]
@[simp] theorem modPmc_part (p : Part) (h : p ≠ .pmc) (s : State) (a1 : PmcSt → PmcSt) : (modPmc s a1).part p = s.part p := by
  simp [modPmc, h]
@[simp] theorem modSet_part (p : Part) (h : p ≠ .pmc) (s : State) (a1 : Nat) (a2 : SnapSet → SnapSet) :
    (modSet s a1 a2).part p = s.part p := by
  simp [modSet, h]
@[simp] theorem entryWrite_part (p : Part) (h : p ≠ .regs) (s : State) (a1 a2 : Nat) (a3 : Word) :
    (entryWrite s a1 a2 a3).part p = s.part p := by
  simp [entryWrite, h]
@[simp] theorem captureSet_part (p : Part) (h : p ≠ .regs ∧ p ≠ .ctr ∧ p ≠ .rcd ∧ p ≠ .pmc) (a0 a1 a2 : Nat) (s : State) :
    (captureSet a0 a1 a2 s).part p = s.part p := by
  simp [captureSet, h]
@[simp] theorem slotUse_part (p : Part) (h : p ≠ .free ∧ p ≠ .pmc) (s : State) (a1 a2 : Nat) : (slotUse s a1 a2).part p = s.part p := by
  unfold slotUse
  repeat' split
  all_goals simp [h]
@[simp] theorem pmcBoundary_part (p : Part) (h : p ≠ .free ∧ p ≠ .regs ∧ p ≠ .ctr ∧ p ≠ .rcd ∧ p ≠ .pmc) (s : State) (a1 a2 : Nat) :
    (pmcBoundary s a1 a2).part p = s.part p := by
  simp [pmcBoundary, h]
@[simp] theorem captureGo_part (p : Part) (h : p ≠ .pmc) (s : State) (a1 : Nat) : (captureGo s a1).part p = s.part p := by
  simp [captureGo, h]
@[simp] theorem copyBank_part (p : Part) (h : p ≠ .ctr ∧ p ≠ .rcd ∧ p ≠ .pmc) (s : State) (a1 : Nat) :
    (copyBank s a1).part p = s.part p := by
  unfold copyBank
  dsimp only
  repeat' split
  all_goals simp [*]
@[simp] theorem applyKey_part (p : Part) (h : p ≠ .regs ∧ p ≠ .ctr ∧ p ≠ .rcd ∧ p ≠ .xe ∧ p ≠ .bpm ∧ p ≠ .sch) (s : State) (a1 : Nat)
    (a2 : Word) : (applyKey s a1 a2).part p = s.part p := by
  unfold applyKey
  repeat' split
  all_goals simp [h]
@[simp] theorem applyAll_part (p : Part) (h : p ≠ .regs ∧ p ≠ .ctr ∧ p ≠ .rcd ∧ p ≠ .tgt ∧ p ≠ .lrn ∧ p ≠ .slc ∧ p ≠ .xe ∧ p ≠ .ell ∧ p
    ≠ .bpm ∧ p ≠ .sch ∧ p ≠ .fab) (s : State) (a1 : SMap Word) (a2 : Nat) : (applyAll s a1 a2).1.part p = s.part p := by
  unfold applyAll
  repeat' split
  all_goals simp [h]
@[simp] theorem applyNow_part (p : Part) (h : p ≠ .regs ∧ p ≠ .ctr ∧ p ≠ .fur ∧ p ≠ .rcd ∧ p ≠ .tgt ∧ p ≠ .lrn ∧ p ≠ .slc ∧ p ≠ .xe ∧ p
    ≠ .ell ∧ p ≠ .bpm ∧ p ≠ .sch ∧ p ≠ .fab) (s : State) (a1 : Nat) (a2 : Word) : (applyNow s a1 a2).part p = s.part p := by
  simp [applyNow, h]
@[simp] theorem domWaitEnd_part (p : Part) (h : p ≠ .regs ∧ p ≠ .ctr ∧ p ≠ .fur ∧ p ≠ .flt ∧ p ≠ .rcd ∧ p ≠ .pwr) (s : State) :
    (domWaitEnd s).part p = s.part p := by
  simp [domWaitEnd, h]
@[simp] theorem cmdsGo_part (p : Part) (h : p ≠ .tgt) (s : State) : (cmdsGo s).part p = s.part p := by
  simp [cmdsGo, h]
@[simp] theorem setApplies_part (p : Part) (h : p ≠ .regs ∧ p ≠ .ctr ∧ p ≠ .fur ∧ p ≠ .flt ∧ p ≠ .rcd ∧ p ≠ .pmc ∧ p ≠ .tgt ∧ p ≠ .chain
    ∧ p ≠ .pwr ∧ p ≠ .lp ∧ p ≠ .tbl ∧ p ≠ .lrn ∧ p ≠ .tcm ∧ p ≠ .slc ∧ p ≠ .xe ∧ p ≠ .ell ∧ p ≠ .bpm ∧ p ≠ .hbm ∧ p ≠ .sch ∧ p ≠ .fab ∧ p
    ≠ .img ∧ p ≠ .upd) (s : State) (a1 : Nat) :
    (setApplies s a1).part p = s.part p := by
  unfold setApplies
  dsimp only
  repeat' split
  all_goals simp [*]
@[simp] theorem boundary_part (p : Part) (h : p ≠ .free ∧ p ≠ .regs ∧ p ≠ .ctr ∧ p ≠ .fur ∧ p ≠ .flt ∧ p ≠ .rcd ∧ p ≠ .pmc ∧ p ≠ .tgt ∧ p
    ≠ .chain ∧ p ≠ .pwr ∧ p ≠ .lp ∧ p ≠ .tbl ∧ p ≠ .lrn ∧ p ≠ .tcm ∧ p ≠ .slc ∧ p ≠ .xe ∧ p ≠ .ell ∧ p ≠ .bpm ∧ p ≠ .hbm ∧ p ≠ .sch ∧ p ≠
    .fab ∧ p ≠ .img ∧ p ≠ .upd) (s : State) (a1 : Nat) :
    (boundary s a1).part p = s.part p := by
  unfold boundary
  dsimp only
  repeat' split
  all_goals simp [*]
@[simp] theorem armedNext_part (p : Part) (h : p ≠ .fur) (s : State) : (armedNext s).part p = s.part p := by
  simp [armedNext, h]
@[simp] theorem timeMoved_part (p : Part) (h : p ≠ .free ∧ p ≠ .regs ∧ p ≠ .ctr ∧ p ≠ .fur ∧ p ≠ .flt ∧ p ≠ .rcd ∧ p ≠ .pmc ∧ p ≠ .tgt ∧
    p ≠ .chain ∧ p ≠ .pwr ∧ p ≠ .lp ∧ p ≠ .tbl ∧ p ≠ .lrn ∧ p ≠ .tcm ∧ p ≠ .slc ∧ p ≠ .xe ∧ p ≠ .ell ∧ p ≠ .bpm ∧ p ≠ .hbm ∧ p ≠ .sch ∧ p
    ≠ .fab ∧ p ≠ .img ∧ p ≠ .upd) (s : State) (a1 a2 : Nat) :
    (timeMoved s a1 a2).part p = s.part p := by
  simp [timeMoved, h]
@[simp] theorem furCancel_part (p : Part) (h : p ≠ .regs ∧ p ≠ .fur ∧ p ≠ .slc) (s : State) : (furCancel s).1.part p = s.part p := by
  unfold furCancel
  repeat' split
  all_goals simp [h]
@[simp] theorem commitWrite_part (p : Part) (h : p ≠ .regs ∧ p ≠ .fur ∧ p ≠ .slc) (s : State) (a1 : Word) :
    (commitWrite s a1).1.part p = s.part p := by
  unfold commitWrite
  repeat' split
  all_goals simp [h]
@[simp] theorem applyLate_part (p : Part) (h : p ≠ .free ∧ p ≠ .regs ∧ p ≠ .ctr ∧ p ≠ .fur ∧ p ≠ .flt ∧ p ≠ .rcd ∧ p ≠ .pmc ∧ p ≠ .tgt ∧
    p ≠ .chain ∧ p ≠ .pwr ∧ p ≠ .lp ∧ p ≠ .tbl ∧ p ≠ .lrn ∧ p ≠ .tcm ∧ p ≠ .slc ∧ p ≠ .xe ∧ p ≠ .ell ∧ p ≠ .bpm ∧ p ≠ .hbm ∧ p ≠ .sch ∧ p
    ≠ .fab ∧ p ≠ .img ∧ p ≠ .upd) (s : State) :
    (applyLate s).part p = s.part p := by
  simp [applyLate, h]
@[simp] theorem sealComplete_part (p : Part) (h : p ≠ .free ∧ p ≠ .regs ∧ p ≠ .ctr ∧ p ≠ .fur ∧ p ≠ .flt ∧ p ≠ .rcd ∧ p ≠ .pmc ∧ p ≠ .tgt
    ∧ p ≠ .chain ∧ p ≠ .pwr ∧ p ≠ .lp ∧ p ≠ .tbl ∧ p ≠ .lrn ∧ p ≠ .tcm ∧ p ≠ .slc ∧ p ≠ .xe ∧ p ≠ .ell ∧ p ≠ .bpm ∧ p ≠ .hbm ∧ p ≠ .sch ∧
    p ≠ .fab ∧ p ≠ .img ∧ p ≠ .upd) (s : State) :
    (sealComplete s).part p = s.part p := by
  simp [sealComplete, h]
@[simp] theorem tbCmd_part (p : Part) (h : p ≠ .tgt) (s : State) (a1 : Nat) : (tbCmd s a1).part p = s.part p := by
  simp [tbCmd, h]
@[simp] theorem tbMove_part (p : Part) (h : p ≠ .free ∧ p ≠ .regs ∧ p ≠ .ctr ∧ p ≠ .fur ∧ p ≠ .flt ∧ p ≠ .rcd ∧ p ≠ .pmc ∧ p ≠ .tgt ∧ p ≠
    .chain ∧ p ≠ .pwr ∧ p ≠ .lp ∧ p ≠ .tbl ∧ p ≠ .lrn ∧ p ≠ .tcm ∧ p ≠ .slc ∧ p ≠ .xe ∧ p ≠ .ell ∧ p ≠ .bpm ∧ p ≠ .hbm ∧ p ≠ .sch ∧ p ≠
    .fab ∧ p ≠ .img ∧ p ≠ .upd) (s : State) (a1 : Nat) :
    (tbMove s a1).part p = s.part p := by
  simp [tbMove, h]
@[simp] theorem tbStep_part (p : Part) (h : p ≠ .free ∧ p ≠ .regs ∧ p ≠ .ctr ∧ p ≠ .fur ∧ p ≠ .flt ∧ p ≠ .rcd ∧ p ≠ .pmc ∧ p ≠ .tgt ∧ p ≠
    .chain ∧ p ≠ .pwr ∧ p ≠ .lp ∧ p ≠ .tbl ∧ p ≠ .lrn ∧ p ≠ .tcm ∧ p ≠ .slc ∧ p ≠ .xe ∧ p ≠ .ell ∧ p ≠ .bpm ∧ p ≠ .hbm ∧ p ≠ .sch ∧ p ≠
    .fab ∧ p ≠ .img ∧ p ≠ .upd) (s : State) (a1 : ℤ) :
    (tbStep s a1).part p = s.part p := by
  simp [tbStep, h]
@[simp] theorem tbSetTo_part (p : Part) (h : p ≠ .free ∧ p ≠ .regs ∧ p ≠ .ctr ∧ p ≠ .fur ∧ p ≠ .flt ∧ p ≠ .rcd ∧ p ≠ .pmc ∧ p ≠ .tgt ∧ p
    ≠ .chain ∧ p ≠ .pwr ∧ p ≠ .lp ∧ p ≠ .tbl ∧ p ≠ .lrn ∧ p ≠ .tcm ∧ p ≠ .slc ∧ p ≠ .xe ∧ p ≠ .ell ∧ p ≠ .bpm ∧ p ≠ .hbm ∧ p ≠ .sch ∧ p ≠
    .fab ∧ p ≠ .img ∧ p ≠ .upd) (s : State) (a1 a2 : Nat) :
    (tbSetTo s a1 a2).part p = s.part p := by
  simp [tbSetTo, h]
@[simp] theorem tbDo_part (p : Part) (h : p ≠ .free ∧ p ≠ .regs ∧ p ≠ .ctr ∧ p ≠ .fur ∧ p ≠ .flt ∧ p ≠ .rcd ∧ p ≠ .pmc ∧ p ≠ .tgt ∧ p ≠
    .chain ∧ p ≠ .pwr ∧ p ≠ .lp ∧ p ≠ .tbl ∧ p ≠ .lrn ∧ p ≠ .tcm ∧ p ≠ .slc ∧ p ≠ .xe ∧ p ≠ .ell ∧ p ≠ .bpm ∧ p ≠ .hbm ∧ p ≠ .sch ∧ p ≠
    .fab ∧ p ≠ .img ∧ p ≠ .upd) (s : State) (a1 : TbCmd) :
    (tbDo s a1).part p = s.part p := by
  unfold tbDo
  repeat' split
  all_goals simp [h]
@[simp] theorem tbApply_part (p : Part) (h : p ≠ .free ∧ p ≠ .regs ∧ p ≠ .ctr ∧ p ≠ .fur ∧ p ≠ .flt ∧ p ≠ .rcd ∧ p ≠ .pmc ∧ p ≠ .tgt ∧ p
    ≠ .chain ∧ p ≠ .pwr ∧ p ≠ .lp ∧ p ≠ .tbl ∧ p ≠ .lrn ∧ p ≠ .tcm ∧ p ≠ .slc ∧ p ≠ .xe ∧ p ≠ .ell ∧ p ≠ .bpm ∧ p ≠ .hbm ∧ p ≠ .sch ∧ p ≠
    .fab ∧ p ≠ .img ∧ p ≠ .upd) (s : State) :
    (tbApply s).part p = s.part p := by
  simp [tbApply, h]
@[simp] theorem ppsRead_part (p : Part) (h : p ≠ .free) (s : State) : (ppsRead s).2.part p = s.part p := by
  simp [ppsRead, h]
@[simp] theorem ppsEdge_part (p : Part) (h : p ≠ .free ∧ p ≠ .regs ∧ p ≠ .ctr ∧ p ≠ .fur ∧ p ≠ .flt ∧ p ≠ .rcd ∧ p ≠ .pmc ∧ p ≠ .tgt ∧ p
    ≠ .chain ∧ p ≠ .pwr ∧ p ≠ .lp ∧ p ≠ .tbl ∧ p ≠ .lrn ∧ p ≠ .tcm ∧ p ≠ .slc ∧ p ≠ .xe ∧ p ≠ .ell ∧ p ≠ .bpm ∧ p ≠ .hbm ∧ p ≠ .sch ∧ p ≠
    .fab ∧ p ≠ .img ∧ p ≠ .upd) (s : State) :
    (ppsEdge s).part p = s.part p := by
  unfold ppsEdge
  repeat' split
  all_goals simp [h]
@[simp] theorem grpFence_part (p : Part) (h : p ≠ .ctr ∧ p ≠ .fur ∧ p ≠ .flt ∧ p ≠ .rcd ∧ p ≠ .lp) (s : State) (a1 : Nat) :
    (grpFence s a1).part p = s.part p := by
  simp [grpFence, h]
@[simp] theorem unitFence_part (p : Part) (h : p ≠ .regs ∧ p ≠ .ctr ∧ p ≠ .fur ∧ p ≠ .flt ∧ p ≠ .rcd ∧ p ≠ .pmc ∧ p ≠ .tgt ∧ p ≠ .chain
    ∧ p ≠ .pwr ∧ p ≠ .lp ∧ p ≠ .tbl ∧ p ≠ .lrn ∧ p ≠ .tcm ∧ p ≠ .slc ∧ p ≠ .xe ∧ p ≠ .ell ∧ p ≠ .bpm ∧ p ≠ .hbm ∧ p ≠ .sch ∧ p ≠ .fab ∧
    p ≠ .img ∧ p ≠ .upd) (s : State) (blk u : Nat) : (unitFence s blk u).part p = s.part p := by
  unfold unitFence
  (try dsimp only)
  repeat' split
  all_goals simp [*]
@[simp] theorem xdomFence_part (p : Part) (h : p ≠ .regs ∧ p ≠ .ctr ∧ p ≠ .fur ∧ p ≠ .flt ∧ p ≠ .rcd ∧ p ≠ .pmc ∧ p ≠ .tgt ∧ p ≠ .chain
    ∧ p ≠ .pwr ∧ p ≠ .lp ∧ p ≠ .tbl ∧ p ≠ .lrn ∧ p ≠ .tcm ∧ p ≠ .slc ∧ p ≠ .xe ∧ p ≠ .ell ∧ p ≠ .bpm ∧ p ≠ .hbm ∧ p ≠ .sch ∧ p ≠ .fab ∧
    p ≠ .img ∧ p ≠ .upd) (s : State) (a1 a2 : Nat) : (xdomFence s a1 a2).part p = s.part p := by
  simp [xdomFence, h]
@[simp] theorem sliceReturn_part (p : Part) (h : p ≠ .flt ∧ p ≠ .slc ∧ p ≠ .ell) (s : State) (a1 : Nat) :
    (sliceReturn s a1).part p = s.part p := by
  simp [sliceReturn, h]
@[simp] theorem cluReload_part (p : Part) (h : p ≠ .xe) (s : State) (a1 : Nat) : (cluReload s a1).part p = s.part p := by
  unfold cluReload
  (try dsimp only)
  repeat' split
  all_goals simp [*]
@[simp] theorem engReturn_part (p : Part) (h : p ≠ .ctr ∧ p ≠ .flt ∧ p ≠ .rcd ∧ p ≠ .xe) (s : State) (a1 : Nat) : (engReturn s a1).part
    p = s.part p := by
  simp [engReturn, h]
@[simp] theorem recReturn_part (p : Part) (h : p ≠ .ctr ∧ p ≠ .flt ∧ p ≠ .rcd ∧ p ≠ .xe) (s : State) (a1 : Nat) : (recReturn s a1).part
    p = s.part p := by
  simp [recReturn, h]
@[simp] theorem chReturn_part (p : Part) (h : p ≠ .flt ∧ p ≠ .hbm) (s : State) (a1 : Nat) : (chReturn s a1).part p = s.part p := by
  simp [chReturn, h]
@[simp] theorem oneReturn_part (p : Part) (h : p ≠ .regs ∧ p ≠ .ctr ∧ p ≠ .flt ∧ p ≠ .rcd ∧ p ≠ .tgt ∧ p ≠ .lp ∧ p ≠ .tcm ∧ p ≠ .slc ∧ p
    ≠ .xe ∧ p ≠ .ell ∧ p ≠ .hbm) (s : State) (blk u : Nat) : (oneReturn s blk u).part p = s.part p := by
  unfold oneReturn
  (try dsimp only)
  repeat' split
  all_goals simp [*]
@[simp] theorem unitReturn_part (p : Part) (h : p ≠ .regs ∧ p ≠ .ctr ∧ p ≠ .flt ∧ p ≠ .rcd ∧ p ≠ .tgt ∧ p ≠ .lp ∧ p ≠ .tcm ∧ p ≠ .slc ∧
    p ≠ .xe ∧ p ≠ .ell ∧ p ≠ .hbm) (s : State) (a1 a2 : Nat) : (unitReturn s a1 a2).part p = s.part p := by
  unfold unitReturn
  repeat' split
  all_goals simp [h]
@[simp] theorem unfence_part (p : Part) (h : p ≠ .regs ∧ p ≠ .ctr ∧ p ≠ .flt ∧ p ≠ .rcd ∧ p ≠ .tgt ∧ p ≠ .lp ∧ p ≠ .tcm ∧ p ≠ .slc ∧ p ≠
    .xe ∧ p ≠ .ell ∧ p ≠ .hbm) (s : State) (a1 a2 : Nat) :
    (unfence s a1 a2).part p = s.part p := by
  simp [unfence, h]
@[simp] theorem domLost_part (p : Part) (h : p ≠ .ctr ∧ p ≠ .rcd ∧ p ≠ .lp ∧ p ≠ .lrn ∧ p ≠ .tcm ∧ p ≠ .slc ∧ p ≠ .xe ∧ p ≠ .fab) (s :
    State) (a1 : Nat) :
    (domLost s a1).part p = s.part p := by
  simp [domLost, h]
@[simp] theorem domBack_part (p : Part) (h : p ≠ .regs ∧ p ≠ .lp ∧ p ≠ .hbm ∧ p ≠ .fab) (s : State) (a1 : Nat) : (domBack s a1).part p =
    s.part p := by
  simp [domBack, h]
@[simp] theorem domEnds_part (p : Part) (h : p ≠ .regs ∧ p ≠ .ctr ∧ p ≠ .rcd ∧ p ≠ .pwr ∧ p ≠ .lp ∧ p ≠ .lrn ∧ p ≠ .tcm ∧ p ≠ .slc ∧ p ≠
    .xe ∧ p ≠ .hbm ∧ p ≠ .fab) (s : State) (a1 : Nat) : (domEnds s a1).part p = s.part p := by
  simp [domEnds, h]
@[simp] theorem domDone_part (p : Part) (h : p ≠ .regs ∧ p ≠ .ctr ∧ p ≠ .fur ∧ p ≠ .flt ∧ p ≠ .rcd ∧ p ≠ .pwr ∧ p ≠ .lp ∧ p ≠ .lrn ∧ p ≠
    .tcm ∧ p ≠ .slc ∧ p ≠ .xe ∧ p ≠ .hbm ∧ p ≠ .fab) (s : State) (a1 : Nat) : (domDone s a1).part p = s.part p := by
  simp [domDone, h]
@[simp] theorem domFence_part (p : Part) (h : p ≠ .regs ∧ p ≠ .ctr ∧ p ≠ .fur ∧ p ≠ .flt ∧ p ≠ .rcd ∧ p ≠ .pmc ∧ p ≠ .tgt ∧ p ≠ .chain ∧
    p ≠ .pwr ∧ p ≠ .lp ∧ p ≠ .tbl ∧ p ≠ .lrn ∧ p ≠ .tcm ∧ p ≠ .slc ∧ p ≠ .xe ∧ p ≠ .ell ∧ p ≠ .bpm ∧ p ≠ .hbm ∧ p ≠ .sch ∧ p ≠ .fab ∧ p ≠
    .img ∧ p ≠ .upd) (s : State) (a1 : Nat) :
    (domFence s a1).part p = s.part p := by
  simp [domFence, h]
@[simp] theorem domTrip_part (p : Part) (h : p ≠ .regs ∧ p ≠ .ctr ∧ p ≠ .fur ∧ p ≠ .flt ∧ p ≠ .rcd ∧ p ≠ .pmc ∧ p ≠ .tgt ∧ p ≠ .chain ∧ p
    ≠ .pwr ∧ p ≠ .lp ∧ p ≠ .tbl ∧ p ≠ .lrn ∧ p ≠ .tcm ∧ p ≠ .slc ∧ p ≠ .xe ∧ p ≠ .ell ∧ p ≠ .bpm ∧ p ≠ .hbm ∧ p ≠ .sch ∧ p ≠ .fab ∧ p ≠
    .img ∧ p ≠ .upd) (s : State) (a1 : Nat) :
    (domTrip s a1).part p = s.part p := by
  simp [domTrip, h]
@[simp] theorem domRefuse_part (p : Part) (h : p ≠ .regs ∧ p ≠ .pwr) (s : State) (a1 a2 : Nat) :
    (domRefuse s a1 a2).part p = s.part p := by
  simp [domRefuse, h]
@[simp] theorem domStart_part (p : Part) (h : p ≠ .regs ∧ p ≠ .ctr ∧ p ≠ .fur ∧ p ≠ .flt ∧ p ≠ .rcd ∧ p ≠ .pwr ∧ p ≠ .lp ∧ p ≠ .lrn ∧ p
    ≠ .tcm ∧ p ≠ .slc ∧ p ≠ .xe ∧ p ≠ .hbm ∧ p ≠ .fab) (s : State) (a1 : Nat) (a2 : Bool) : (domStart s a1 a2).part p = s.part p := by
  simp [domStart, h]
@[simp] theorem domCmd_part (p : Part) (h : p ≠ .regs ∧ p ≠ .ctr ∧ p ≠ .fur ∧ p ≠ .flt ∧ p ≠ .rcd ∧ p ≠ .pwr ∧ p ≠ .lp ∧ p ≠ .lrn ∧ p ≠
    .tcm ∧ p ≠ .slc ∧ p ≠ .xe ∧ p ≠ .hbm ∧ p ≠ .fab) (s : State) (a1 : Nat) (a2 : Bool) :
    (domCmd s a1 a2).part p = s.part p := by
  simp [domCmd, h]

end Sys2Proof.Machine
end

