-- ==== Sys2Proof/Laws/FrameDevice.lean ====
section
/-! SUPPORT. What each operation leaves unchanged: power, updates, register access, boot, the chain, faults, JTAG and the tick.
One lemma per operation; its hypothesis names every part of the state that the operation may change. -/

set_option linter.unusedTactic false
set_option linter.unreachableTactic false
set_option linter.unusedSimpArgs false

namespace Sys2Proof.Machine

@[simp] theorem modPwr_part (p : Part) (h : p ≠ .pwr) (s : State) (a1 : PwrSt → PwrSt) : (modPwr s a1).part p = s.part p := by
  simp [modPwr, h]
@[simp] theorem modBoot_part (p : Part) (h : p ≠ .pwr) (s : State) (a1 : BootSt → BootSt) : (modBoot s a1).part p = s.part p := by
  simp [modBoot, h]
@[simp] theorem rstCause_part (p : Part) (h : p ≠ .regs) (s : State) (a1 : Nat) : (rstCause s a1).part p = s.part p := by
  simp [rstCause, h]
@[simp] theorem feedFaults_part (p : Part) (h : p ≠ .ctr ∧ p ≠ .flt ∧ p ≠ .rcd) (s : State) : (feedFaults s).part p = s.part p := by
  simp [feedFaults, h]
@[simp] theorem bootStart_part (p : Part) (h : p ≠ .ctr ∧ p ≠ .flt ∧ p ≠ .rcd ∧ p ≠ .pwr) (s : State) :
    (bootStart s).part p = s.part p := by
  simp [bootStart, h]
@[simp] theorem pinReset_part (p : Part) (h : p ≠ .regs ∧ p ≠ .ctr ∧ p ≠ .latch ∧ p ≠ .fur ∧ p ≠ .flt ∧ p ≠ .rcd ∧ p ≠ .pmc ∧ p ≠ .tgt ∧
    p ≠ .node ∧ p ≠ .chain ∧ p ≠ .pwr ∧ p ≠ .lp ∧ p ≠ .tbl ∧ p ≠ .lrn ∧ p ≠ .tcm ∧ p ≠ .slc ∧ p ≠ .xe ∧ p ≠ .ell ∧ p ≠ .bpm ∧ p ≠ .hbm ∧
    p ≠ .sch ∧ p ≠ .fab ∧ p ≠ .img ∧ p ≠ .upd) (s : State) :
    (pinReset s).part p = s.part p := by
  simp [pinReset, h]
@[simp] theorem pinRelease_part (p : Part) (h : p ≠ .ctr ∧ p ≠ .flt ∧ p ≠ .rcd ∧ p ≠ .pwr) (s : State) (a1 : Nat) :
    (pinRelease s a1).part p = s.part p := by
  simp [pinRelease, h]
@[simp] theorem brownEnter_part (p : Part) (h : p ≠ .regs ∧ p ≠ .ctr ∧ p ≠ .latch ∧ p ≠ .fur ∧ p ≠ .flt ∧ p ≠ .rcd ∧ p ≠ .pmc ∧ p ≠ .tgt
    ∧ p ≠ .node ∧ p ≠ .chain ∧ p ≠ .pwr ∧ p ≠ .lp ∧ p ≠ .tbl ∧ p ≠ .lrn ∧ p ≠ .tcm ∧ p ≠ .slc ∧ p ≠ .xe ∧ p ≠ .ell ∧ p ≠ .bpm ∧ p ≠ .hbm
    ∧ p ≠ .sch ∧ p ≠ .fab ∧ p ≠ .img ∧ p ≠ .upd) (s : State) :
    (brownEnter s).part p = s.part p := by
  simp [brownEnter, h]
@[simp] theorem powerUp_part (p : Part) (h : p ≠ .regs ∧ p ≠ .ctr ∧ p ≠ .latch ∧ p ≠ .fur ∧ p ≠ .flt ∧ p ≠ .rcd ∧ p ≠ .pmc ∧ p ≠ .tgt ∧ p
    ≠ .node ∧ p ≠ .chain ∧ p ≠ .pwr ∧ p ≠ .jtag ∧ p ≠ .lp ∧ p ≠ .tbl ∧ p ≠ .lrn ∧ p ≠ .tcm ∧ p ≠ .slc ∧ p ≠ .xe ∧ p ≠ .ell ∧ p ≠ .bpm ∧ p
    ≠ .hbm ∧ p ≠ .sch ∧ p ≠ .fab ∧ p ≠ .img ∧ p ≠ .upd) (s : State) :
    (powerUp s).part p = s.part p := by
  unfold powerUp
  dsimp only
  rw [setReg_part p (by simp [h]), modPwr_part p (by simp [h]), fullReset_part p (by simp [h])]
  cases p <;> first | rfl | simp at h
@[simp] theorem setFeed_part (p : Part) (h : p ≠ .pwr) (s : State) (a1 : Nat) (a2 : Feed) : (setFeed s a1 a2).part p = s.part p := by
  simp [setFeed, h]
@[simp] theorem carryNow_part (p : Part) (h : p ≠ .pwr) (s : State) : (carryNow s).part p = s.part p := by
  simp [carryNow, h]
@[simp] theorem feedLeft_part (p : Part) (h : p ≠ .ctr ∧ p ≠ .pwr) (s : State) (a1 : Nat) : (feedLeft s a1).part p = s.part p := by
  simp [feedLeft, h]
@[simp] theorem feedLost_part (p : Part) (h : p ≠ .ctr ∧ p ≠ .flt ∧ p ≠ .rcd ∧ p ≠ .pwr) (s : State) (a1 : Nat) :
    (feedLost s a1).part p = s.part p := by
  simp [feedLost, h]
@[simp] theorem feedIsolated_part (p : Part) (h : p ≠ .ctr ∧ p ≠ .flt ∧ p ≠ .rcd ∧ p ≠ .pwr) (s : State) (a1 : Nat) :
    (feedIsolated s a1).part p = s.part p := by
  simp [feedIsolated, h]
@[simp] theorem feedPresent_part (p : Part) (h : p ≠ .ctr ∧ p ≠ .flt ∧ p ≠ .rcd ∧ p ≠ .pwr) (s : State) (a1 : Nat) :
    (feedPresent s a1).part p = s.part p := by
  simp [feedPresent, h]
@[simp] theorem feedQualified_part (p : Part) (h : p ≠ .ctr ∧ p ≠ .flt ∧ p ≠ .rcd ∧ p ≠ .pwr) (s : State) (a1 : Nat) :
    (feedQualified s a1).part p = s.part p := by
  unfold feedQualified
  repeat' split
  all_goals simp [h]
@[simp] theorem feedInRange_part (p : Part) (h : p ≠ .pwr) (s : State) (a1 a2 : Nat) : (feedInRange s a1 a2).part p = s.part p := by
  unfold feedInRange
  dsimp only
  repeat' split
  all_goals simp [*]
@[simp] theorem feedUndervolt_part (p : Part) (h : p ≠ .ctr ∧ p ≠ .flt ∧ p ≠ .rcd ∧ p ≠ .pwr) (s : State) (a1 : Nat) :
    (feedUndervolt s a1).part p = s.part p := by
  simp [feedUndervolt, h]
@[simp] theorem powerSample_part (p : Part) (h : p ≠ .regs ∧ p ≠ .rcd ∧ p ≠ .pwr) (s : State) (a1 a2 : Nat) (a3 a4 a5 : Nat) :
    (powerSample s a1 a2 a3 a4 a5).part p = s.part p := by
  simp [powerSample, h]
@[simp] theorem thermJudge_part (p : Part) (h : p ≠ .ctr ∧ p ≠ .flt ∧ p ≠ .rcd ∧ p ≠ .pwr) (s : State) (a1 : ℤ) :
    (thermJudge s a1).part p = s.part p := by
  unfold thermJudge
  dsimp only
  repeat' split
  all_goals simp [*]
@[simp] theorem thermSample_part (p : Part) (h : p ≠ .ctr ∧ p ≠ .flt ∧ p ≠ .rcd ∧ p ≠ .pwr) (s : State) (a1 : List (BitVec 16)) (a2 :
    List (BitVec 16)) :
    (thermSample s a1 a2).part p = s.part p := by
  unfold thermSample
  repeat' split
  all_goals simp [h]
@[simp] theorem sysrefLost_part (p : Part) (h : p ≠ .ctr ∧ p ≠ .flt ∧ p ≠ .rcd) (s : State) : (sysrefLost s).part p = s.part p := by
  simp [sysrefLost, h]
@[simp] theorem lpllLost_part (p : Part) (h : p ≠ .ctr ∧ p ≠ .fur ∧ p ≠ .flt ∧ p ≠ .rcd ∧ p ≠ .pwr ∧ p ≠ .lp) (s : State) (a1 : Nat) :
    (lpllLost s a1).part p = s.part p := by
  simp [lpllLost, h]
@[simp] theorem hpllLost_part (p : Part) (h : p ≠ .regs ∧ p ≠ .ctr ∧ p ≠ .flt ∧ p ≠ .rcd ∧ p ≠ .pwr ∧ p ≠ .bpm ∧ p ≠ .hbm ∧ p ≠ .sch) (s
    : State) (a1 : Nat) : (hpllLost s a1).part p = s.part p := by
  simp [hpllLost, h]
@[simp] theorem frefLost_part (p : Part) (h : p ≠ .ctr ∧ p ≠ .flt ∧ p ≠ .rcd ∧ p ≠ .pwr ∧ p ≠ .fab) (s : State) (a1 : Nat) :
    (frefLost s a1).part p = s.part p := by
  simp [frefLost, h]
@[simp] theorem frefBack_part (p : Part) (h : p ≠ .ctr ∧ p ≠ .rcd ∧ p ≠ .pwr ∧ p ≠ .fab) (s : State) (a1 : Nat) :
    (frefBack s a1).part p = s.part p := by
  simp [frefBack, h]
@[simp] theorem lrefBack_part (p : Part) (h : p ≠ .flt ∧ p ≠ .pwr) (s : State) (a1 : Nat) : (lrefBack s a1).part p = s.part p := by
  simp [lrefBack, h]
@[simp] theorem railsUp_part (p : Part) (h : p ≠ .ctr ∧ p ≠ .flt ∧ p ≠ .rcd ∧ p ≠ .tgt ∧ p ≠ .pwr ∧ p ≠ .ell ∧ p ≠ .hbm) (s : State) :
    (railsUp s).part p = s.part p := by
  simp [railsUp, h]
@[simp] theorem updFrameTo_part (p : Part) (h : p ≠ .ctr ∧ p ≠ .chain) (s : State) (a1 a2 : Nat) (a3 a4 : Nat) (a5 : List Word) :
    (updFrameTo s a1 a2 a3 a4 a5).part p = s.part p := by
  simp [updFrameTo, h]
@[simp] theorem updReply_part (p : Part) (h : p ≠ .ctr ∧ p ≠ .chain) (s : State) (a1 a2 : Nat) (a3 a4 : Nat) (a5 a6 : Nat) :
    (updReply s a1 a2 a3 a4 a5 a6).part p = s.part p := by
  simp [updReply, h]
@[simp] theorem answer_part (p : Part) (h : p ≠ .ctr ∧ p ≠ .chain) (s : State) (a1 : Nat) (a2 : ChainFrame) (a3 a4 : Nat) :
    (answer s a1 a2 a3 a4).part p = s.part p := by
  simp [answer, h]
@[simp] theorem chunkAck_part (p : Part) (h : p ≠ .ctr ∧ p ≠ .chain ∧ p ≠ .upd) (s : State) : (chunkAck s).part p = s.part p := by
  simp [chunkAck, h]
@[simp] theorem updResult_part (p : Part) (h : p ≠ .ctr ∧ p ≠ .chain) (s : State) (a1 a2 : Nat) :
    (updResult s a1 a2).part p = s.part p := by
  simp [updResult, h]
@[simp] theorem sessionEnd_part (p : Part) (h : p ≠ .ctr ∧ p ≠ .rcd ∧ p ≠ .upd) (s : State) (a1 : Nat) :
    (sessionEnd s a1).part p = s.part p := by
  simp [sessionEnd, h]
@[simp] theorem offerRefuse_part (p : Part) (h : p ≠ .ctr ∧ p ≠ .chain ∧ p ≠ .upd) (s : State) (a1 : Nat) (a2 : ChainFrame) (a3 : Nat) :
    (offerRefuse s a1 a2 a3).part p = s.part p := by
  simp [offerRefuse, h]
@[simp] theorem offerAccept_part (p : Part) (h : p ≠ .ctr ∧ p ≠ .flash ∧ p ≠ .rcd ∧ p ≠ .chain ∧ p ≠ .img ∧ p ≠ .upd) (s : State) (a1 :
    Nat) (a2 : ChainFrame) :
    (offerAccept s a1 a2).part p = s.part p := by
  simp [offerAccept, h]
@[simp] theorem offerReason_part (p : Part) (h : p ≠ .free) (s : State) (a1 : ChainFrame) : (offerReason s a1).2.part p = s.part p := by
  unfold offerReason
  dsimp only
  repeat' split
  all_goals simp [*]
@[simp] theorem offerTake_part (p : Part) (h : p ≠ .free ∧ p ≠ .ctr ∧ p ≠ .flash ∧ p ≠ .rcd ∧ p ≠ .chain ∧ p ≠ .img ∧ p ≠ .upd) (s :
    State) (a1 : Nat) (a2 : ChainFrame) :
    (offerTake s a1 a2).part p = s.part p := by
  simp [offerTake, h]
@[simp] theorem updOffer_part (p : Part) (h : p ≠ .free ∧ p ≠ .ctr ∧ p ≠ .flash ∧ p ≠ .rcd ∧ p ≠ .chain ∧ p ≠ .img ∧ p ≠ .upd) (s :
    State) (a1 : Nat) (a2 : ChainFrame) :
    (updOffer s a1 a2).part p = s.part p := by
  simp [updOffer, h]
@[simp] theorem updChunk_part (p : Part) (h : p ≠ .ctr ∧ p ≠ .flash ∧ p ≠ .chain ∧ p ≠ .upd) (s : State) (a1 : ChainFrame) :
    (updChunk s a1).part p = s.part p := by
  simp [updChunk, h]
@[simp] theorem updEndFrame_part (p : Part) (h : p ≠ .upd) (s : State) : (updEndFrame s).part p = s.part p := by
  simp [updEndFrame, h]
@[simp] theorem updAbort_part (p : Part) (h : p ≠ .ctr ∧ p ≠ .rcd ∧ p ≠ .upd) (s : State) : (updAbort s).part p = s.part p := by
  unfold updAbort
  repeat' split
  all_goals simp [h]
@[simp] theorem updLeaseLost_part (p : Part) (h : p ≠ .ctr ∧ p ≠ .rcd ∧ p ≠ .upd) (s : State) : (updLeaseLost s).part p = s.part p := by
  simp [updLeaseLost, h]
@[simp] theorem updFlashFail_part (p : Part) (h : p ≠ .ctr ∧ p ≠ .rcd ∧ p ≠ .upd) (s : State) : (updFlashFail s).part p = s.part p := by
  simp [updFlashFail, h]
@[simp] theorem presentProg_part (p : Part) (h : p ≠ .flash) (s : State) : (presentProg s).part p = s.part p := by
  simp [presentProg, h]
@[simp] theorem updVerifyDone_part (p : Part) (h : p ≠ .ctr ∧ p ≠ .flash ∧ p ≠ .rcd ∧ p ≠ .chain ∧ p ≠ .img ∧ p ≠ .upd) (s : State) :
    (updVerifyDone s).part p = s.part p := by
  simp [updVerifyDone, h]
@[simp] theorem fwRestart_part (p : Part) (h : p ≠ .pwr ∧ p ≠ .upd) (s : State) (a1 : Bool) : (fwRestart s a1).part p = s.part p := by
  simp [fwRestart, h]
@[simp] theorem recTell_part (p : Part) (h : p ≠ .ctr ∧ p ≠ .rcd ∧ p ≠ .upd) (s : State) : (recTell s).part p = s.part p := by
  simp [recTell, h]
@[simp] theorem bootRecord_part (p : Part) (h : p ≠ .ctr ∧ p ≠ .rcd) (s : State) : (bootRecord s).part p = s.part p := by
  simp [bootRecord, h]
@[simp] theorem recoveryEnter_part (p : Part) (h : p ≠ .regs ∧ p ≠ .ctr ∧ p ≠ .fur ∧ p ≠ .flt ∧ p ≠ .rcd ∧ p ≠ .pmc ∧ p ≠ .tgt ∧ p ≠
    .chain ∧ p ≠ .pwr ∧ p ≠ .lp ∧ p ≠ .tbl ∧ p ≠ .lrn ∧ p ≠ .tcm ∧ p ≠ .slc ∧ p ≠ .xe ∧ p ≠ .ell ∧ p ≠ .bpm ∧ p ≠ .hbm ∧ p ≠ .sch ∧ p ≠
    .fab ∧ p ≠ .img ∧ p ≠ .upd) (s : State) (a1 : Bool) :
    (recoveryEnter s a1).part p = s.part p := by
  simp [recoveryEnter, h]
@[simp] theorem recRestart_part (p : Part) (h : p ≠ .pwr ∧ p ≠ .img ∧ p ≠ .upd) (s : State) : (recRestart s).part p = s.part p := by
  simp [recRestart, h]
@[simp] theorem tryWrite_part (p : Part) (h : p ≠ .flash) (s : State) : (tryWrite s).part p = s.part p := by
  simp [tryWrite, h]
@[simp] theorem activateNow_part (p : Part) (h : p ≠ .regs ∧ p ≠ .ctr ∧ p ≠ .flash ∧ p ≠ .fur ∧ p ≠ .flt ∧ p ≠ .rcd ∧ p ≠ .pmc ∧ p ≠ .tgt
    ∧ p ≠ .chain ∧ p ≠ .pwr ∧ p ≠ .lp ∧ p ≠ .tbl ∧ p ≠ .lrn ∧ p ≠ .tcm ∧ p ≠ .slc ∧ p ≠ .xe ∧ p ≠ .ell ∧ p ≠ .bpm ∧ p ≠ .hbm ∧ p ≠ .sch ∧
    p ≠ .fab ∧ p ≠ .img ∧ p ≠ .upd) (s : State) (a1 : Bool) :
    (activateNow s a1).part p = s.part p := by
  simp [activateNow, h]
@[simp] theorem updActivate_part (p : Part) (h : p ≠ .regs ∧ p ≠ .ctr ∧ p ≠ .flash ∧ p ≠ .fur ∧ p ≠ .flt ∧ p ≠ .rcd ∧ p ≠ .pmc ∧ p ≠ .tgt
    ∧ p ≠ .chain ∧ p ≠ .pwr ∧ p ≠ .lp ∧ p ≠ .tbl ∧ p ≠ .lrn ∧ p ≠ .tcm ∧ p ≠ .slc ∧ p ≠ .xe ∧ p ≠ .ell ∧ p ≠ .bpm ∧ p ≠ .hbm ∧ p ≠ .sch ∧
    p ≠ .fab ∧ p ≠ .img ∧ p ≠ .upd) (s : State) (a1 : Bool) :
    (updActivate s a1).part p = s.part p := by
  simp [updActivate, h]
@[simp] theorem updArm_part (p : Part) (h : p ≠ .free ∧ p ≠ .ctr ∧ p ≠ .rcd ∧ p ≠ .chain ∧ p ≠ .img ∧ p ≠ .upd) (s : State) (a1 : Nat)
    (a2 : ChainFrame) :
    (updArm s a1 a2).part p = s.part p := by
  simp [updArm, h]
@[simp] theorem updDisarm_part (p : Part) (h : p ≠ .free ∧ p ≠ .regs ∧ p ≠ .ctr ∧ p ≠ .fur ∧ p ≠ .flt ∧ p ≠ .rcd ∧ p ≠ .pmc ∧ p ≠ .tgt ∧
    p ≠ .chain ∧ p ≠ .pwr ∧ p ≠ .lp ∧ p ≠ .tbl ∧ p ≠ .lrn ∧ p ≠ .tcm ∧ p ≠ .slc ∧ p ≠ .xe ∧ p ≠ .ell ∧ p ≠ .bpm ∧ p ≠ .hbm ∧ p ≠ .sch ∧ p
    ≠ .fab ∧ p ≠ .img ∧ p ≠ .upd) (s : State) (a1 : Nat) (a2 : ChainFrame) :
    (updDisarm s a1 a2).part p = s.part p := by
  simp [updDisarm, h]
@[simp] theorem updArmTime_part (p : Part) (h : p ≠ .free ∧ p ≠ .regs ∧ p ≠ .ctr ∧ p ≠ .flash ∧ p ≠ .fur ∧ p ≠ .flt ∧ p ≠ .rcd ∧ p ≠ .pmc
    ∧ p ≠ .tgt ∧ p ≠ .chain ∧ p ≠ .pwr ∧ p ≠ .lp ∧ p ≠ .tbl ∧ p ≠ .lrn ∧ p ≠ .tcm ∧ p ≠ .slc ∧ p ≠ .xe ∧ p ≠ .ell ∧ p ≠ .bpm ∧ p ≠ .hbm ∧
    p ≠ .sch ∧ p ≠ .fab ∧ p ≠ .img ∧ p ≠ .upd) (s : State) :
    (updArmTime s).part p = s.part p := by
  simp [updArmTime, h]
@[simp] theorem updConfirm_part (p : Part) (h : p ≠ .ctr ∧ p ≠ .flash ∧ p ≠ .rcd ∧ p ≠ .upd) (s : State) :
    (updConfirm s).part p = s.part p := by
  simp [updConfirm, h]
@[simp] theorem fwFallback_part (p : Part) (h : p ≠ .ctr ∧ p ≠ .pwr ∧ p ≠ .upd) (s : State) (a1 : Nat) :
    (fwFallback s a1).part p = s.part p := by
  simp [fwFallback, h]
@[simp] theorem confirmExpire_part (p : Part) (h : p ≠ .regs ∧ p ≠ .ctr ∧ p ≠ .fur ∧ p ≠ .flt ∧ p ≠ .rcd ∧ p ≠ .pmc ∧ p ≠ .tgt ∧ p ≠
    .chain ∧ p ≠ .pwr ∧ p ≠ .lp ∧ p ≠ .tbl ∧ p ≠ .lrn ∧ p ≠ .tcm ∧ p ≠ .slc ∧ p ≠ .xe ∧ p ≠ .ell ∧ p ≠ .bpm ∧ p ≠ .hbm ∧ p ≠ .sch ∧ p ≠
    .fab ∧ p ≠ .img ∧ p ≠ .upd) (s : State) :
    (confirmExpire s).part p = s.part p := by
  simp [confirmExpire, h]
@[simp] theorem fwStart_part (p : Part) (h : p ≠ .ctr ∧ p ≠ .pwr ∧ p ≠ .upd) (s : State) (a1 : Nat) (a2 : Bool) :
    (fwStart s a1 a2).part p = s.part p := by
  simp [fwStart, h]
@[simp] theorem fwVerifyDone_part (p : Part) (h : p ≠ .regs ∧ p ≠ .ctr ∧ p ≠ .flash ∧ p ≠ .fur ∧ p ≠ .flt ∧ p ≠ .rcd ∧ p ≠ .pmc ∧ p ≠
    .tgt ∧ p ≠ .chain ∧ p ≠ .pwr ∧ p ≠ .lp ∧ p ≠ .tbl ∧ p ≠ .lrn ∧ p ≠ .tcm ∧ p ≠ .slc ∧ p ≠ .xe ∧ p ≠ .ell ∧ p ≠ .bpm ∧ p ≠ .hbm ∧ p ≠
    .sch ∧ p ≠ .fab ∧ p ≠ .img ∧ p ≠ .upd) (s : State) :
    (fwVerifyDone s).part p = s.part p := by
  simp [fwVerifyDone, h]
@[simp] theorem fwReadyRep_part (p : Part) (h : p ≠ .ctr ∧ p ≠ .rcd ∧ p ≠ .pwr ∧ p ≠ .upd) (s : State) :
    (fwReadyRep s).part p = s.part p := by
  simp [fwReadyRep, h]
@[simp] theorem fwNotReady_part (p : Part) (h : p ≠ .ctr ∧ p ≠ .rcd ∧ p ≠ .pwr ∧ p ≠ .upd) (s : State) :
    (fwNotReady s).part p = s.part p := by
  simp [fwNotReady, h]
@[simp] theorem relayFrame_part (p : Part) (h : p ≠ .ctr ∧ p ≠ .chain) (s : State) (a1 : Nat) (a2 : List Word) :
    (relayFrame s a1 a2).part p = s.part p := by
  simp [relayFrame, h]
@[simp] theorem modRelay_part (p : Part) (h : p ≠ .upd) (s : State) (a1 : Relay → Relay) : (modRelay s a1).part p = s.part p := by
  simp [modRelay, h]
@[simp] theorem relayGo_part (p : Part) (h : p ≠ .ctr ∧ p ≠ .chain ∧ p ≠ .upd) (s : State) (a1 : Nat) :
    (relayGo s a1).part p = s.part p := by
  simp [relayGo, h]
@[simp] theorem relaySend_part (p : Part) (h : p ≠ .ctr ∧ p ≠ .chain ∧ p ≠ .upd) (a0 : Nat) (s : State) :
    (relaySend a0 s).part p = s.part p := by
  induction a0 generalizing s with
  | zero => rfl
  | succ a0 ih =>
    unfold relaySend
    dsimp only
    repeat' split
    all_goals simp [h, ih]
@[simp] theorem relayEnd_part (p : Part) (h : p ≠ .ctr ∧ p ≠ .rcd ∧ p ≠ .upd) (s : State) (a1 : RelayState) (a2 a3 : Nat) :
    (relayEnd s a1 a2 a3).part p = s.part p := by
  simp [relayEnd, h]
@[simp] theorem relayAnswer_part (p : Part) (h : p ≠ .ctr ∧ p ≠ .rcd ∧ p ≠ .chain ∧ p ≠ .upd) (s : State) (a1 : ChainFrame) :
    (relayAnswer s a1).part p = s.part p := by
  unfold relayAnswer
  repeat' split
  all_goals simp [h]
@[simp] theorem relayAck_part (p : Part) (h : p ≠ .ctr ∧ p ≠ .chain ∧ p ≠ .upd) (s : State) (a1 : ChainFrame) :
    (relayAck s a1).part p = s.part p := by
  simp [relayAck, h]
@[simp] theorem relayResult_part (p : Part) (h : p ≠ .ctr ∧ p ≠ .rcd ∧ p ≠ .upd) (s : State) (a1 : ChainFrame) :
    (relayResult s a1).part p = s.part p := by
  simp [relayResult, h]
@[simp] theorem inSession_part (p : Part) (h : p ≠ .ctr ∧ p ≠ .chain) (s : State) (a1 : Nat) (a2 : ChainFrame) (a3 : State → State) (hf :
    ∀ t, (a3 t).part p = t.part p) :
    (inSession s a1 a2 a3).part p = s.part p := by
  unfold inSession
  repeat' split
  all_goals simp [h, hf]
@[simp] theorem heardFrom_part (p : Part) (h : p ≠ .upd) (s : State) (a1 : Nat) (a2 : ChainFrame) : (heardFrom s a1 a2).part p = s.part
    p := by
  simp [heardFrom, h]
@[simp] theorem armIdle_part (p : Part) (h : p ≠ .free ∧ p ≠ .ctr ∧ p ≠ .rcd ∧ p ≠ .chain ∧ p ≠ .img ∧ p ≠ .upd) (s : State) (a1 : Nat)
    (a2 : ChainFrame) : (armIdle s a1 a2).part p = s.part p := by
  simp [armIdle, h]
@[simp] theorem updFrame_part (p : Part) (h : p ≠ .free ∧ p ≠ .regs ∧ p ≠ .ctr ∧ p ≠ .flash ∧ p ≠ .fur ∧ p ≠ .flt ∧ p ≠ .rcd ∧ p ≠ .pmc ∧
    p ≠ .tgt ∧ p ≠ .chain ∧ p ≠ .pwr ∧ p ≠ .lp ∧ p ≠ .tbl ∧ p ≠ .lrn ∧ p ≠ .tcm ∧ p ≠ .slc ∧ p ≠ .xe ∧ p ≠ .ell ∧ p ≠ .bpm ∧ p ≠ .hbm ∧ p
    ≠ .sch ∧ p ≠ .fab ∧ p ≠ .img ∧ p ≠ .upd) (s : State) (a1 : Nat) (a2 : ChainFrame) :
    (updFrame s a1 a2).part p = s.part p := by
  unfold updFrame
  repeat' split
  all_goals simp [h]
@[simp] theorem updRx_part (p : Part) (h : p ≠ .free ∧ p ≠ .regs ∧ p ≠ .ctr ∧ p ≠ .flash ∧ p ≠ .fur ∧ p ≠ .flt ∧ p ≠ .rcd ∧ p ≠ .pmc ∧ p
    ≠ .tgt ∧ p ≠ .chain ∧ p ≠ .pwr ∧ p ≠ .lp ∧ p ≠ .tbl ∧ p ≠ .lrn ∧ p ≠ .tcm ∧ p ≠ .slc ∧ p ≠ .xe ∧ p ≠ .ell ∧ p ≠ .bpm ∧ p ≠ .hbm ∧ p ≠
    .sch ∧ p ≠ .fab ∧ p ≠ .img ∧ p ≠ .upd) (a0 a1 : Nat) (a2 : ChainFrame) (s : State) :
    (updRx a0 a1 a2 s).part p = s.part p := by
  simp [updRx, h]
@[simp] theorem latchSet_part (p : Part) (h : p ≠ .latch) (s : State) (a1 a2 : Nat) (a3 : Word) :
    (latchSet s a1 a2 a3).part p = s.part p := by
  simp [latchSet, h]
@[simp] theorem rcClear_part (p : Part) (h : p ≠ .regs ∧ p ≠ .lp ∧ p ≠ .bpm) (s : State) (a1 : Reg) (a2 : List Nat) :
    (rcClear s a1 a2).part p = s.part p := by
  unfold rcClear
  repeat' split
  all_goals simp [h]
@[simp] theorem readReg_part (p : Part) (h : p ≠ .regs ∧ p ≠ .latch ∧ p ≠ .lp ∧ p ≠ .tbl ∧ p ≠ .lrn ∧ p ≠ .tcm ∧ p ≠ .bpm) (s : State)
    (a1 : Nat) (a2 : Reg) (a3 : List Nat) :
    (readReg s a1 a2 a3).1.part p = s.part p := by
  unfold readReg
  dsimp only
  repeat' split
  all_goals simp [*]
@[simp] theorem readWord_part (p : Part) (h : p ≠ .regs ∧ p ≠ .latch ∧ p ≠ .lp ∧ p ≠ .tbl ∧ p ≠ .lrn ∧ p ≠ .tcm ∧ p ≠ .bpm) (s : State)
    (a1 a2 : Nat) :
    (readWord s a1 a2).1.part p = s.part p := by
  unfold readWord
  repeat' split
  all_goals simp [h]
@[simp] theorem stageOrNow_part (p : Part) (h : p ≠ .regs ∧ p ≠ .ctr ∧ p ≠ .fur ∧ p ≠ .rcd ∧ p ≠ .tgt ∧ p ≠ .lrn ∧ p ≠ .slc ∧ p ≠ .xe ∧
    p ≠ .ell ∧ p ≠ .bpm ∧ p ≠ .sch ∧ p ≠ .fab) (s : State) (a1 : Reg) (a2 : List Nat) (a3 : Word) : (stageOrNow s a1 a2 a3).part p =
    s.part p := by
  simp [stageOrNow, h]
@[simp] theorem writePlain_part (p : Part) (h : p ≠ .regs ∧ p ≠ .ctr ∧ p ≠ .fur ∧ p ≠ .rcd ∧ p ≠ .tgt ∧ p ≠ .lrn ∧ p ≠ .slc ∧ p ≠ .xe ∧
    p ≠ .ell ∧ p ≠ .bpm ∧ p ≠ .sch ∧ p ≠ .fab) (s : State) (a1 : Reg) (a2 : List Nat) (a3 : Word) : (writePlain s a1 a2 a3).part p =
    s.part p := by
  simp [writePlain, h]
@[simp] theorem capClear_part (p : Part) (h : p ≠ .regs) (s : State) (a1 : Reg) (a2 : List Nat) (a3 : Word) :
    (capClear s a1 a2 a3).part p = s.part p := by
  simp [capClear, h]
@[simp] theorem applyWrite_part (p : Part) (h : p ≠ .regs ∧ p ≠ .ctr ∧ p ≠ .fur ∧ p ≠ .flt ∧ p ≠ .rcd ∧ p ≠ .pmc ∧ p ≠ .tgt ∧ p ≠ .chain
    ∧ p ≠ .pwr ∧ p ≠ .lp ∧ p ≠ .tbl ∧ p ≠ .lrn ∧ p ≠ .tcm ∧ p ≠ .slc ∧ p ≠ .xe ∧ p ≠ .ell ∧ p ≠ .bpm ∧ p ≠ .hbm ∧ p ≠ .sch ∧ p ≠ .fab ∧ p
    ≠ .img ∧ p ≠ .upd) (s : State) (a1 : Word) :
    (applyWrite s a1).part p = s.part p := by
  simp [applyWrite, h]
@[simp] theorem updCmdWrite_part (p : Part) (h : p ≠ .regs ∧ p ≠ .ctr ∧ p ≠ .flash ∧ p ≠ .fur ∧ p ≠ .flt ∧ p ≠ .rcd ∧ p ≠ .pmc ∧ p ≠ .tgt
    ∧ p ≠ .chain ∧ p ≠ .pwr ∧ p ≠ .lp ∧ p ≠ .tbl ∧ p ≠ .lrn ∧ p ≠ .tcm ∧ p ≠ .slc ∧ p ≠ .xe ∧ p ≠ .ell ∧ p ≠ .bpm ∧ p ≠ .hbm ∧ p ≠ .sch ∧
    p ≠ .fab ∧ p ≠ .img ∧ p ≠ .upd) (s : State) (a1 : Word) :
    (updCmdWrite s a1).part p = s.part p := by
  simp [updCmdWrite, h]
@[simp] theorem fabCmdWrite_part (p : Part) (h : p ≠ .ctr ∧ p ≠ .flt ∧ p ≠ .rcd ∧ p ≠ .fab) (s : State) (a1 : Word) :
    (fabCmdWrite s a1).part p = s.part p := by
  simp [fabCmdWrite, h]
@[simp] theorem copyWrite_part (p : Part) (h : p ≠ .regs ∧ p ≠ .lrn) (s : State) (a1 : Word) : (copyWrite s a1).part p = s.part p := by
  simp [copyWrite, h]
@[simp] theorem fltFirstWrite_part (p : Part) (h : p ≠ .flt) (s : State) (a1 : Nat) (a2 : Word) :
    (fltFirstWrite s a1 a2).part p = s.part p := by
  simp [fltFirstWrite, h]
@[simp] theorem fltMaskWrite_part (p : Part) (h : p ≠ .regs) (s : State) (b : Nat) (v : Word) : (fltMaskWrite s b v).part p = s.part p
    := by
  simp [fltMaskWrite, h]
@[simp] theorem fltStickyWrite_part (p : Part) (h : p ≠ .flt) (s : State) (a1 : Nat) (a2 : Word) :
    (fltStickyWrite s a1 a2).part p = s.part p := by
  simp [fltStickyWrite, h]
@[simp] theorem steerWrite_part (p : Part) (h : p ≠ .regs ∧ p ≠ .ctr ∧ p ≠ .fur ∧ p ≠ .rcd ∧ p ≠ .tgt ∧ p ≠ .lrn ∧ p ≠ .slc ∧ p ≠ .xe ∧
    p ≠ .ell ∧ p ≠ .bpm ∧ p ≠ .sch ∧ p ≠ .fab) (s : State) (a1 : Word) : (steerWrite s a1).part p = s.part p := by
  simp [steerWrite, h]
@[simp] theorem classWrite_part (p : Part) (h : p ≠ .regs ∧ p ≠ .ctr ∧ p ≠ .fur ∧ p ≠ .rcd ∧ p ≠ .tgt ∧ p ≠ .lrn ∧ p ≠ .slc ∧ p ≠ .xe ∧
    p ≠ .ell ∧ p ≠ .bpm ∧ p ≠ .sch ∧ p ≠ .fab) (s : State) (a1 a2 : Nat) (a3 : Word) : (classWrite s a1 a2 a3).part p = s.part p := by
  simp [classWrite, h]
@[simp] theorem aliasWrite_part (p : Part) (h : p ≠ .regs ∧ p ≠ .ctr ∧ p ≠ .fur ∧ p ≠ .rcd ∧ p ≠ .tgt ∧ p ≠ .lrn ∧ p ≠ .slc ∧ p ≠ .xe ∧
    p ≠ .ell ∧ p ≠ .bpm ∧ p ≠ .sch ∧ p ≠ .fab) (s : State) (a1 : Nat) (a2 : Word) : (aliasWrite s a1 a2).part p = s.part p := by
  simp [aliasWrite, h]
@[simp] theorem gateCfgWrite_part (p : Part) (h : p ≠ .regs ∧ p ≠ .ctr ∧ p ≠ .fur ∧ p ≠ .rcd ∧ p ≠ .tgt ∧ p ≠ .lrn ∧ p ≠ .slc ∧ p ≠ .xe
    ∧ p ≠ .ell ∧ p ≠ .bpm ∧ p ≠ .sch ∧ p ≠ .fab) (s : State) (a1 : Nat) (a2 : Bool) (a3 : Word) : (gateCfgWrite s a1 a2 a3).part p =
    s.part p := by
  simp [gateCfgWrite, h]
@[simp] theorem chCfgWrite_part (p : Part) (h : p ≠ .regs ∧ p ≠ .ctr ∧ p ≠ .fur ∧ p ≠ .flt ∧ p ≠ .rcd ∧ p ≠ .tgt ∧ p ≠ .lrn ∧ p ≠ .slc ∧
    p ≠ .xe ∧ p ≠ .ell ∧ p ≠ .bpm ∧ p ≠ .hbm ∧ p ≠ .sch ∧ p ≠ .fab) (s : State) (a1 : Nat) (a2 : Word) : (chCfgWrite s a1 a2).part p =
    s.part p := by
  simp [chCfgWrite, h]
@[simp] theorem stackCfgWrite_part (p : Part) (h : p ≠ .regs ∧ p ≠ .ctr ∧ p ≠ .fur ∧ p ≠ .rcd ∧ p ≠ .pwr ∧ p ≠ .hbm) (s : State) (a1 :
    Nat) (a2 : Word) :
    (stackCfgWrite s a1 a2).part p = s.part p := by
  simp [stackCfgWrite, h]
@[simp] theorem writeReg_part (p : Part) (h : p ≠ .regs ∧ p ≠ .ctr ∧ p ≠ .flash ∧ p ≠ .fur ∧ p ≠ .flt ∧ p ≠ .rcd ∧ p ≠ .pmc ∧ p ≠ .tgt ∧
    p ≠ .chain ∧ p ≠ .pwr ∧ p ≠ .lp ∧ p ≠ .tbl ∧ p ≠ .lrn ∧ p ≠ .tcm ∧ p ≠ .slc ∧ p ≠ .xe ∧ p ≠ .ell ∧ p ≠ .bpm ∧ p ≠ .hbm ∧ p ≠ .sch ∧ p
    ≠ .fab ∧ p ≠ .img ∧ p ≠ .upd) (s : State) (a1 : Reg) (a2 : List Nat) (a3 : Word) :
    (writeReg s a1 a2 a3).1.part p = s.part p := by
  unfold writeReg
  dsimp only
  repeat' split
  all_goals first | (simp [h]; done) | (have := rehashGo_part p (by simp [h]) _ _ _ (by assumption); simp [*]; done) | (have := lrnHcmd_part p (by simp [h]) _ _ _ _ (by assumption); simp [*]; done)
@[simp] theorem writeAt_part (p : Part) (h : p ≠ .regs ∧ p ≠ .ctr ∧ p ≠ .flash ∧ p ≠ .fur ∧ p ≠ .flt ∧ p ≠ .rcd ∧ p ≠ .pmc ∧ p ≠ .tgt ∧ p
    ≠ .chain ∧ p ≠ .pwr ∧ p ≠ .lp ∧ p ≠ .tbl ∧ p ≠ .lrn ∧ p ≠ .tcm ∧ p ≠ .slc ∧ p ≠ .xe ∧ p ≠ .ell ∧ p ≠ .bpm ∧ p ≠ .hbm ∧ p ≠ .sch ∧ p ≠
    .fab ∧ p ≠ .img ∧ p ≠ .upd) (s : State) (a1 : Nat) (a2 : Word) :
    (writeAt s a1 a2).1.part p = s.part p := by
  unfold writeAt
  repeat' split
  all_goals simp [h]
@[simp] theorem writeWord_part (p : Part) (h : p ≠ .regs ∧ p ≠ .ctr ∧ p ≠ .flash ∧ p ≠ .fur ∧ p ≠ .flt ∧ p ≠ .rcd ∧ p ≠ .pmc ∧ p ≠ .tgt ∧
    p ≠ .chain ∧ p ≠ .pwr ∧ p ≠ .lp ∧ p ≠ .tbl ∧ p ≠ .lrn ∧ p ≠ .tcm ∧ p ≠ .slc ∧ p ≠ .xe ∧ p ≠ .ell ∧ p ≠ .bpm ∧ p ≠ .hbm ∧ p ≠ .sch ∧ p
    ≠ .fab ∧ p ≠ .img ∧ p ≠ .upd) (s : State) (a1 : Nat) (a2 : Role) (a3 : Bool) (a4 : Nat) (a5 : Word) :
    (writeWord s a1 a2 a3 a4 a5).1.part p = s.part p := by
  unfold writeWord
  repeat' split
  all_goals simp [h]
@[simp] theorem writeEnd_part (p : Part) (h : p ≠ .regs ∧ p ≠ .ctr ∧ p ≠ .tbl ∧ p ≠ .tcm) (s : State) :
    (writeEnd s).part p = s.part p := by
  simp [writeEnd, h]
@[simp] theorem writeEndAt_part (p : Part) (h : p ≠ .regs ∧ p ≠ .ctr ∧ p ≠ .tbl ∧ p ≠ .tcm) (a1 : Nat) (s : State) :
    (writeEndAt a1 s).part p = s.part p := by
  unfold writeEndAt
  repeat' split
  all_goals simp [h]
@[simp] theorem withSession_part (p : Part) (h : p ≠ .acc) (s : State) (a1 : State → State) (hf : ∀ t, (a1 t).part p = t.part p) :
    (withSession s a1).part p = s.part p := by
  unfold withSession
  repeat' split
  · rfl
  · exact part_acc p (by simp [h]) _ _
  · exact hf _
@[simp] theorem sessRead_part (p : Part) (h : p ≠ .acc ∧ p ≠ .regs ∧ p ≠ .latch ∧ p ≠ .lp ∧ p ≠ .tbl ∧ p ≠ .lrn ∧ p ≠ .tcm ∧ p ≠ .bpm) (s
    : State) (a1 a2 : Nat) :
    (sessRead s a1 a2).part p = s.part p := by
  simp [sessRead, h]
@[simp] theorem sessWrite_part (p : Part) (h : p ≠ .acc ∧ p ≠ .regs ∧ p ≠ .ctr ∧ p ≠ .flash ∧ p ≠ .fur ∧ p ≠ .flt ∧ p ≠ .rcd ∧ p ≠ .pmc ∧
    p ≠ .tgt ∧ p ≠ .chain ∧ p ≠ .pwr ∧ p ≠ .lp ∧ p ≠ .tbl ∧ p ≠ .lrn ∧ p ≠ .tcm ∧ p ≠ .slc ∧ p ≠ .xe ∧ p ≠ .ell ∧ p ≠ .bpm ∧ p ≠ .hbm ∧ p
    ≠ .sch ∧ p ≠ .fab ∧ p ≠ .img ∧ p ≠ .upd) (s : State) (a1 : Nat) (a2 : Role) (a3 : Nat) (a4 : Word) :
    (sessWrite s a1 a2 a3 a4).part p = s.part p := by
  simp [sessWrite, h]
@[simp] theorem ownWrite_part (p : Part) (h : p ≠ .acc ∧ p ≠ .regs ∧ p ≠ .ctr ∧ p ≠ .flash ∧ p ≠ .fur ∧ p ≠ .flt ∧ p ≠ .rcd ∧ p ≠ .pmc ∧
    p ≠ .tgt ∧ p ≠ .chain ∧ p ≠ .pwr ∧ p ≠ .lp ∧ p ≠ .tbl ∧ p ≠ .lrn ∧ p ≠ .tcm ∧ p ≠ .slc ∧ p ≠ .xe ∧ p ≠ .ell ∧ p ≠ .bpm ∧ p ≠ .hbm ∧ p
    ≠ .sch ∧ p ≠ .fab ∧ p ≠ .img ∧ p ≠ .upd) (s : State) (a1 : Nat) (a2 : Reg) (a3 : List Nat) (a4 : Word) :
    (ownWrite s a1 a2 a3 a4).part p = s.part p := by
  simp [ownWrite, h]
@[simp] theorem sessWrites_part (p : Part) (h : p ≠ .acc ∧ p ≠ .regs ∧ p ≠ .ctr ∧ p ≠ .flash ∧ p ≠ .fur ∧ p ≠ .flt ∧ p ≠ .rcd ∧ p ≠ .pmc
    ∧ p ≠ .tgt ∧ p ≠ .chain ∧ p ≠ .pwr ∧ p ≠ .lp ∧ p ≠ .tbl ∧ p ≠ .lrn ∧ p ≠ .tcm ∧ p ≠ .slc ∧ p ≠ .xe ∧ p ≠ .ell ∧ p ≠ .bpm ∧ p ≠ .hbm ∧
    p ≠ .sch ∧ p ≠ .fab ∧ p ≠ .img ∧ p ≠ .upd) (s : State) (a1 a2 : Nat) (a3 : List Word) :
    (sessWrites s a1 a2 a3).part p = s.part p := by
  unfold sessWrites
  refine withSession_part p (by simp [h]) _ _ (fun t => ?_)
  refine (part_acc p (by simp [h]) _ _).trans ((writeEndAt_part p (by simp [h]) _ _).trans ?_)
  exact part_foldl_fst p _ (fun x a => by simp [h]) _ _
@[simp] theorem tbWrite_part (p : Part) (h : p ≠ .acc ∧ p ≠ .regs ∧ p ≠ .ctr ∧ p ≠ .flash ∧ p ≠ .fur ∧ p ≠ .flt ∧ p ≠ .rcd ∧ p ≠ .pmc ∧ p
    ≠ .tgt ∧ p ≠ .chain ∧ p ≠ .pwr ∧ p ≠ .lp ∧ p ≠ .tbl ∧ p ≠ .lrn ∧ p ≠ .tcm ∧ p ≠ .slc ∧ p ≠ .xe ∧ p ≠ .ell ∧ p ≠ .bpm ∧ p ≠ .hbm ∧ p ≠
    .sch ∧ p ≠ .fab ∧ p ≠ .img ∧ p ≠ .upd) (s : State) (a1 a2 : Nat) :
    (tbWrite s a1 a2).part p = s.part p := by
  simp [tbWrite, h]
@[simp] theorem storeClear_part (p : Part) (h : p ≠ .pwr ∧ p ≠ .tbl ∧ p ≠ .tcm ∧ p ≠ .bpm) (s : State) :
    (storeClear s).part p = s.part p := by
  unfold storeClear
  rw [modBoot_part p (by simp [h])]
  cases p <;> first | rfl | simp at h
@[simp] theorem bootTake_part (p : Part) (h : p ≠ .pwr ∧ p ≠ .img) (s : State) (a1 a2 : Nat) :
    (bootTake s a1 a2).part p = s.part p := by
  simp [bootTake, h]
@[simp] theorem bootFallback_part (p : Part) (h : p ≠ .regs ∧ p ≠ .ctr ∧ p ≠ .fur ∧ p ≠ .flt ∧ p ≠ .rcd ∧ p ≠ .pmc ∧ p ≠ .tgt ∧ p ≠
    .chain ∧ p ≠ .pwr ∧ p ≠ .lp ∧ p ≠ .tbl ∧ p ≠ .lrn ∧ p ≠ .tcm ∧ p ≠ .slc ∧ p ≠ .xe ∧ p ≠ .ell ∧ p ≠ .bpm ∧ p ≠ .hbm ∧ p ≠ .sch ∧ p ≠
    .fab ∧ p ≠ .img ∧ p ≠ .upd) (s : State) :
    (bootFallback s).part p = s.part p := by
  unfold bootFallback
  repeat' split
  all_goals simp [h]
@[simp] theorem bootChoose_part (p : Part) (h : p ≠ .regs ∧ p ≠ .ctr ∧ p ≠ .flash ∧ p ≠ .fur ∧ p ≠ .flt ∧ p ≠ .rcd ∧ p ≠ .pmc ∧ p ≠ .tgt
    ∧ p ≠ .chain ∧ p ≠ .pwr ∧ p ≠ .lp ∧ p ≠ .tbl ∧ p ≠ .lrn ∧ p ≠ .tcm ∧ p ≠ .slc ∧ p ≠ .xe ∧ p ≠ .ell ∧ p ≠ .bpm ∧ p ≠ .hbm ∧ p ≠ .sch ∧
    p ≠ .fab ∧ p ≠ .img ∧ p ≠ .upd) (s : State) :
    (bootChoose s).part p = s.part p := by
  simp [bootChoose, h]
@[simp] theorem bootWrite_part (p : Part) (h : p ≠ .regs ∧ p ≠ .ctr ∧ p ≠ .flash ∧ p ≠ .fur ∧ p ≠ .flt ∧ p ≠ .rcd ∧ p ≠ .pmc ∧ p ≠ .tgt ∧
    p ≠ .chain ∧ p ≠ .pwr ∧ p ≠ .lp ∧ p ≠ .tbl ∧ p ≠ .lrn ∧ p ≠ .tcm ∧ p ≠ .slc ∧ p ≠ .xe ∧ p ≠ .ell ∧ p ≠ .bpm ∧ p ≠ .hbm ∧ p ≠ .sch ∧ p
    ≠ .fab ∧ p ≠ .img ∧ p ≠ .upd) (s : State) (a1 : Nat × Word) :
    (bootWrite s a1).part p = s.part p := by
  unfold bootWrite
  repeat' split
  all_goals simp [h]
@[simp] theorem initWrite_part (p : Part) (h : p ≠ .regs ∧ p ≠ .ctr ∧ p ≠ .flash ∧ p ≠ .fur ∧ p ≠ .flt ∧ p ≠ .rcd ∧ p ≠ .pmc ∧ p ≠ .tgt
    ∧ p ≠ .chain ∧ p ≠ .pwr ∧ p ≠ .lp ∧ p ≠ .tbl ∧ p ≠ .lrn ∧ p ≠ .tcm ∧ p ≠ .slc ∧ p ≠ .xe ∧ p ≠ .ell ∧ p ≠ .bpm ∧ p ≠ .hbm ∧ p ≠ .sch
    ∧ p ≠ .fab ∧ p ≠ .img ∧ p ≠ .upd) (s : State) (a1 : Nat × Word) : (initWrite s a1).part p = s.part p := by
  unfold initWrite
  (try dsimp only)
  repeat' split
  all_goals simp [*]
@[simp] theorem bootSection_part (p : Part) (h : p ≠ .regs ∧ p ≠ .ctr ∧ p ≠ .flash ∧ p ≠ .fur ∧ p ≠ .flt ∧ p ≠ .rcd ∧ p ≠ .pmc ∧ p ≠ .tgt
    ∧ p ≠ .chain ∧ p ≠ .pwr ∧ p ≠ .lp ∧ p ≠ .tbl ∧ p ≠ .lrn ∧ p ≠ .tcm ∧ p ≠ .slc ∧ p ≠ .xe ∧ p ≠ .ell ∧ p ≠ .bpm ∧ p ≠ .hbm ∧ p ≠ .sch ∧
    p ≠ .fab ∧ p ≠ .img ∧ p ≠ .upd) (s : State) (a1 a2 : Nat) :
    (bootSection s a1 a2).part p = s.part p := by
  simp [bootSection, h]
@[simp] theorem bootTables_part (p : Part) (h : p ≠ .regs ∧ p ≠ .ctr ∧ p ≠ .flash ∧ p ≠ .fur ∧ p ≠ .flt ∧ p ≠ .rcd ∧ p ≠ .pmc ∧ p ≠ .tgt
    ∧ p ≠ .chain ∧ p ≠ .pwr ∧ p ≠ .lp ∧ p ≠ .tbl ∧ p ≠ .lrn ∧ p ≠ .tcm ∧ p ≠ .slc ∧ p ≠ .xe ∧ p ≠ .ell ∧ p ≠ .bpm ∧ p ≠ .hbm ∧ p ≠ .sch ∧
    p ≠ .fab ∧ p ≠ .img ∧ p ≠ .upd) (s : State) (a1 : Nat) :
    (bootTables s a1).part p = s.part p := by
  simp [bootTables, h]
@[simp] theorem bootBanks_part (p : Part) (h : p ≠ .tcm) (s : State) (a1 : Nat) : (bootBanks s a1).part p = s.part p := by
  unfold bootBanks
  repeat' split
  all_goals simp (disch := (intros; (repeat' split) <;> simp [h])) [h]
@[simp] theorem bootUcode_part (p : Part) (h : p ≠ .regs ∧ p ≠ .ctr ∧ p ≠ .flash ∧ p ≠ .fur ∧ p ≠ .flt ∧ p ≠ .rcd ∧ p ≠ .pmc ∧ p ≠ .tgt ∧
    p ≠ .chain ∧ p ≠ .pwr ∧ p ≠ .lp ∧ p ≠ .tbl ∧ p ≠ .lrn ∧ p ≠ .tcm ∧ p ≠ .slc ∧ p ≠ .xe ∧ p ≠ .ell ∧ p ≠ .bpm ∧ p ≠ .hbm ∧ p ≠ .sch ∧ p
    ≠ .fab ∧ p ≠ .img ∧ p ≠ .upd) (s : State) (a1 : Nat) :
    (bootUcode s a1).part p = s.part p := by
  simp [bootUcode, h]
@[simp] theorem bootMirrors_part (p : Part) (h : p ≠ .free ∧ p ≠ .bpm) (s : State) : (bootMirrors s).part p = s.part p := by
  unfold bootMirrors
  repeat' split
  all_goals simp (disch := (intros; (repeat' split) <;> simp [h])) [h]
@[simp] theorem bootWriteAll_part (p : Part) (h : p ≠ .regs ∧ p ≠ .ctr ∧ p ≠ .flash ∧ p ≠ .fur ∧ p ≠ .flt ∧ p ≠ .rcd ∧ p ≠ .pmc ∧ p ≠
    .tgt ∧ p ≠ .chain ∧ p ≠ .pwr ∧ p ≠ .lp ∧ p ≠ .tbl ∧ p ≠ .lrn ∧ p ≠ .tcm ∧ p ≠ .slc ∧ p ≠ .xe ∧ p ≠ .ell ∧ p ≠ .bpm ∧ p ≠ .hbm ∧ p ≠
    .sch ∧ p ≠ .fab ∧ p ≠ .img ∧ p ≠ .upd) (s : State) (a1 : Nat) :
    (bootWriteAll s a1).part p = s.part p := by
  simp [bootWriteAll, h]
@[simp] theorem coldEnded_part (p : Part) (h : p ≠ .ctr ∧ p ≠ .rcd ∧ p ≠ .upd) (s : State) (a1 a2 : Nat) :
    (coldEnded s a1 a2).part p = s.part p := by
  simp [coldEnded, h]
@[simp] theorem bootReport_part (p : Part) (h : p ≠ .ctr ∧ p ≠ .rcd ∧ p ≠ .pwr) (s : State) (a1 : Nat) :
    (bootReport s a1).part p = s.part p := by
  simp [bootReport, h]
@[simp] theorem bootEnd_part (p : Part) (h : p ≠ .free ∧ p ≠ .regs ∧ p ≠ .ctr ∧ p ≠ .flash ∧ p ≠ .fur ∧ p ≠ .flt ∧ p ≠ .rcd ∧ p ≠ .pmc ∧
    p ≠ .tgt ∧ p ≠ .chain ∧ p ≠ .pwr ∧ p ≠ .lp ∧ p ≠ .tbl ∧ p ≠ .lrn ∧ p ≠ .tcm ∧ p ≠ .slc ∧ p ≠ .xe ∧ p ≠ .ell ∧ p ≠ .bpm ∧ p ≠ .hbm ∧ p
    ≠ .sch ∧ p ≠ .fab ∧ p ≠ .img ∧ p ≠ .upd) (s : State) (a1 : Nat) :
    (bootEnd s a1).part p = s.part p := by
  unfold bootEnd
  repeat' split
  all_goals simp [h]
@[simp] theorem setSide_part (p : Part) (h : p ≠ .chain) (s : State) (a1 : Bool) (a2 : Side) : (setSide s a1 a2).part p = s.part p := by
  simp [setSide, h]
@[simp] theorem sideTo_part (p : Part) (h : p ≠ .ctr ∧ p ≠ .chain) (s : State) (a1 : Bool) (a2 : SideState) :
    (sideTo s a1 a2).part p = s.part p := by
  simp [sideTo, h]
@[simp] theorem sideDown_part (p : Part) (h : p ≠ .ctr ∧ p ≠ .rcd ∧ p ≠ .chain) (s : State) (a1 : Bool) :
    (sideDown s a1).part p = s.part p := by
  simp [sideDown, h]
@[simp] theorem sideLoss_part (p : Part) (h : p ≠ .ctr ∧ p ≠ .rcd ∧ p ≠ .chain) (s : State) (a1 : Bool) :
    (sideLoss s a1).part p = s.part p := by
  unfold sideLoss
  repeat' split
  all_goals simp [h]
@[simp] theorem sideJoined_part (p : Part) (h : p ≠ .ctr ∧ p ≠ .rcd ∧ p ≠ .chain) (s : State) (a1 : Bool) :
    (sideJoined s a1).part p = s.part p := by
  simp [sideJoined, h]
@[simp] theorem linkStatus_part (p : Part) (h : p ≠ .ctr ∧ p ≠ .rcd ∧ p ≠ .chain ∧ p ≠ .upd) (s : State) (a1 : Nat) (a2 a3 : Word) :
    (linkStatus s a1 a2 a3).part p = s.part p := by
  unfold linkStatus
  dsimp only
  repeat' split
  all_goals simp [*]
@[simp] theorem linkStatusSend_part (p : Part) (h : p ≠ .ctr ∧ p ≠ .rcd ∧ p ≠ .chain) (s : State) :
    (linkStatusSend s).part p = s.part p := by
  simp [linkStatusSend, h]
@[simp] theorem portTx_part (p : Part) (h : p ≠ .ctr ∧ p ≠ .chain) (s : State) (a1 : Nat) : (portTx s a1).part p = s.part p := by
  unfold portTx
  dsimp only
  repeat' split
  all_goals simp [h]
@[simp] theorem pktSend_part (p : Part) (h : p ≠ .ctr ∧ p ≠ .chain) (s : State) (a1 : Nat) (a2 : Ticket) (a3 : List Byte) :
    (pktSend s a1 a2 a3).part p = s.part p := by
  unfold pktSend
  dsimp only
  repeat' split
  all_goals first | (simp [h]; done) | (rw [count_part p (by simp [h]), part_foldl p _ (fun u p => by simp [h])]; simp [h])
@[simp] theorem pktDrain_part (p : Part) (h : p ≠ .regs ∧ p ≠ .ctr ∧ p ≠ .flt ∧ p ≠ .rcd ∧ p ≠ .chain ∧ p ≠ .bpm) (s : State) (a1 : Nat) :
    (pktDrain s a1).part p = s.part p := by
  unfold pktDrain
  dsimp only
  repeat' split
  all_goals simp [*]
@[simp] theorem injDrop_part (p : Part) (h : p ≠ .ctr) (s : State) : (injDrop s).part p = s.part p := by
  simp [injDrop, h]
@[simp] theorem modInj_part (p : Part) (h : p ≠ .chain) (s : State) (a1 : List Inject → List Inject) :
    (modInj s a1).part p = s.part p := by
  simp [modInj, h]
@[simp] theorem injCross_part (p : Part) (h : p ≠ .chain ∧ p ≠ .ell) (s : State) (a1 : Inject) : (injCross s a1).part p = s.part p := by
  unfold injCross
  dsimp only
  repeat' split
  all_goals first | (simp [h]; done) | (have := takeTag_part p (by simp [h]) _ _ _ _ _ (by assumption); simp_all)
@[simp] theorem injFlush_part (p : Part) (h : p ≠ .chain ∧ p ≠ .ell) (s : State) : (injFlush s).part p = s.part p := by
  simp [injFlush, h]
@[simp] theorem injAdd_part (p : Part) (h : p ≠ .ctr ∧ p ≠ .chain ∧ p ≠ .ell) (s : State) (a1 : Inject) (a2 : List Byte) (a3 : Bool) :
    (injAdd s a1 a2 a3).part p = s.part p := by
  simp [injAdd, h]
@[simp] theorem inject_part (p : Part) (h : p ≠ .ctr ∧ p ≠ .chain ∧ p ≠ .ell) (s : State) (a1 : ChainFrame) :
    (inject s a1).part p = s.part p := by
  unfold inject
  dsimp only
  repeat' split
  all_goals simp [*]
@[simp] theorem injTimeout_part (p : Part) (h : p ≠ .ctr ∧ p ≠ .chain) (s : State) (a1 a2 : Nat) :
    (injTimeout s a1 a2).part p = s.part p := by
  unfold injTimeout
  repeat' split
  all_goals simp [h]
@[simp] theorem setLease_part (p : Part) (h : p ≠ .node) (s : State) (a1 : Nat) (a2 : Lease) :
    (setLease s a1 a2).part p = s.part p := by
  simp [setLease, h]
@[simp] theorem hbIgnored_part (p : Part) (h : p ≠ .ctr ∧ p ≠ .rcd) (s : State) (a1 a2 a3 : Nat) :
    (hbIgnored s a1 a2 a3).part p = s.part p := by
  simp [hbIgnored, h]
@[simp] theorem hbInstall_part (p : Part) (h : p ≠ .ctr ∧ p ≠ .rcd ∧ p ≠ .node) (s : State) (a1 a2 : Nat) (a3 a4 a5 : Nat) :
    (hbInstall s a1 a2 a3 a4 a5).part p = s.part p := by
  simp [hbInstall, h]
@[simp] theorem heartbeat_part (p : Part) (h : p ≠ .ctr ∧ p ≠ .rcd ∧ p ≠ .node) (s : State) (a1 a2 : Nat) (a3 a4 a5 : Nat) :
    (heartbeat s a1 a2 a3 a4 a5).part p = s.part p := by
  unfold heartbeat
  dsimp only
  repeat' split
  all_goals simp [*]
@[simp] theorem leaseLost_part (p : Part) (h : p ≠ .ctr ∧ p ≠ .rcd ∧ p ≠ .node ∧ p ≠ .upd) (s : State) (a1 a2 : Nat) :
    (leaseLost s a1 a2).part p = s.part p := by
  simp [leaseLost, h]
@[simp] theorem leaseRelease_part (p : Part) (h : p ≠ .ctr ∧ p ≠ .rcd ∧ p ≠ .node ∧ p ≠ .upd) (s : State) (a1 a2 a3 : Nat) :
    (leaseRelease s a1 a2 a3).part p = s.part p := by
  simp [leaseRelease, h]
@[simp] theorem leaseYield_part (p : Part) (h : p ≠ .node) (s : State) (a1 a2 : Nat) (a3 a4 : Nat) :
    (leaseYield s a1 a2 a3 a4).part p = s.part p := by
  simp [leaseYield, h]
@[simp] theorem electionFrame_part (p : Part) (h : p ≠ .ctr ∧ p ≠ .rcd ∧ p ≠ .node ∧ p ≠ .upd) (s : State) (a1 : ChainFrame) :
    (electionFrame s a1).part p = s.part p := by
  unfold electionFrame
  repeat' split
  all_goals simp [h]
@[simp] theorem leaseExpire_part (p : Part) (h : p ≠ .ctr ∧ p ≠ .rcd ∧ p ≠ .node ∧ p ≠ .upd) (s : State) (a1 : Nat) :
    (leaseExpire s a1).part p = s.part p := by
  unfold leaseExpire
  dsimp only
  repeat' split
  all_goals simp [*]
@[simp] theorem assignMine_part (p : Part) (h : p ≠ .ctr ∧ p ≠ .node ∧ p ≠ .chain) (s : State) (a1 : ChainFrame) (a2 : Nat) :
    (assignMine s a1 a2).part p = s.part p := by
  simp [assignMine, h]
@[simp] theorem enumAssign_part (p : Part) (h : p ≠ .ctr ∧ p ≠ .rcd ∧ p ≠ .node ∧ p ≠ .chain) (s : State) (a1 : ChainFrame) :
    (enumAssign s a1).part p = s.part p := by
  simp [enumAssign, h]
@[simp] theorem enumFrame_part (p : Part) (h : p ≠ .ctr ∧ p ≠ .rcd ∧ p ≠ .node ∧ p ≠ .chain) (s : State) (a1 : ChainFrame) :
    (enumFrame s a1).part p = s.part p := by
  unfold enumFrame
  repeat' split
  all_goals simp [h]
@[simp] theorem respond_part (p : Part) (h : p ≠ .ctr ∧ p ≠ .chain) (s : State) (a1 : Nat) (a2 : ChainFrame) :
    (respond s a1 a2).part p = s.part p := by
  simp [respond, h]
@[simp] theorem cacheReply_part (p : Part) (h : p ≠ .chain) (s : State) (a1 a2 : ChainFrame) :
    (cacheReply s a1 a2).part p = s.part p := by
  simp [cacheReply, h]
@[simp] theorem finishReq_part (p : Part) (h : p ≠ .ctr ∧ p ≠ .chain) (s : State) (a1 : Nat) (a2 a3 : ChainFrame) :
    (finishReq s a1 a2 a3).part p = s.part p := by
  simp [finishReq, h]
@[simp] theorem busyReq_part (p : Part) (h : p ≠ .ctr ∧ p ≠ .chain) (s : State) (a1 : Nat) (a2 : ChainFrame) :
    (busyReq s a1 a2).part p = s.part p := by
  simp [busyReq, h]
@[simp] theorem requestRx_part (p : Part) (h : p ≠ .ctr ∧ p ≠ .chain) (s : State) (a1 : Nat) (a2 : ChainFrame) :
    (requestRx s a1 a2).part p = s.part p := by
  unfold requestRx
  dsimp only
  repeat' split
  all_goals simp [*]
@[simp] theorem carryRead_part (p : Part) (h : p ≠ .regs ∧ p ≠ .latch ∧ p ≠ .lp ∧ p ≠ .tbl ∧ p ≠ .lrn ∧ p ≠ .tcm ∧ p ≠ .bpm) (s : State)
    (a1 : ChainFrame) :
    (carryRead s a1).s.part p = s.part p := by
  unfold carryRead
  generalize hg : ({ s := s, status := stOk, addr := fAddr a1, data := [] } : Carried) = c
  have hc : c.s.part p = s.part p := by rw [← hg]
  rw [← hc]
  clear hg hc
  generalize List.range _ = l
  induction l generalizing c with
  | nil => rfl
  | cons a l ih =>
    rw [List.foldl_cons, ih]
    simp only [Carried.note]
    split <;> simp [h]
@[simp] theorem carryWrite_part (p : Part) (h : p ≠ .regs ∧ p ≠ .ctr ∧ p ≠ .flash ∧ p ≠ .fur ∧ p ≠ .flt ∧ p ≠ .rcd ∧ p ≠ .pmc ∧ p ≠ .tgt
    ∧ p ≠ .chain ∧ p ≠ .pwr ∧ p ≠ .lp ∧ p ≠ .tbl ∧ p ≠ .lrn ∧ p ≠ .tcm ∧ p ≠ .slc ∧ p ≠ .xe ∧ p ≠ .ell ∧ p ≠ .bpm ∧ p ≠ .hbm ∧ p ≠ .sch ∧
    p ≠ .fab ∧ p ≠ .img ∧ p ≠ .upd) (s : State) (a1 : ChainFrame) :
    (carryWrite s a1).s.part p = s.part p := by
  unfold carryWrite
  dsimp only
  rw [writeEnd_part p (by simp [h])]
  generalize hg : ({ s := s, status := stOk, addr := fAddr a1, data := [] } : Carried) = c
  have hc : c.s.part p = s.part p := by rw [← hg]
  rw [← hc]
  clear hg hc
  generalize List.range _ = l
  induction l generalizing c with
  | nil => rfl
  | cons a l ih =>
    rw [List.foldl_cons, ih]
    simp only [Carried.note]
    split <;> simp [h]
@[simp] theorem respRelease_part (p : Part) (h : p ≠ .ctr ∧ p ≠ .chain) (s : State) : (respRelease s).part p = s.part p := by
  unfold respRelease
  repeat' split
  all_goals simp [h]
@[simp] theorem readRequest_part (p : Part) (h : p ≠ .regs ∧ p ≠ .ctr ∧ p ≠ .latch ∧ p ≠ .chain ∧ p ≠ .lp ∧ p ≠ .tbl ∧ p ≠ .lrn ∧ p ≠
    .tcm ∧ p ≠ .bpm) (s : State) :
    (readRequest s).part p = s.part p := by
  unfold readRequest
  repeat' split
  all_goals simp [h]
@[simp] theorem writeRequest_part (p : Part) (h : p ≠ .regs ∧ p ≠ .ctr ∧ p ≠ .flash ∧ p ≠ .fur ∧ p ≠ .flt ∧ p ≠ .rcd ∧ p ≠ .pmc ∧ p ≠
    .tgt ∧ p ≠ .chain ∧ p ≠ .pwr ∧ p ≠ .lp ∧ p ≠ .tbl ∧ p ≠ .lrn ∧ p ≠ .tcm ∧ p ≠ .slc ∧ p ≠ .xe ∧ p ≠ .ell ∧ p ≠ .bpm ∧ p ≠ .hbm ∧ p ≠
    .sch ∧ p ≠ .fab ∧ p ≠ .img ∧ p ≠ .upd) (s : State) :
    (writeRequest s).part p = s.part p := by
  unfold writeRequest
  repeat' split
  all_goals simp [h]
@[simp] theorem deliver_part (p : Part) (h : p ≠ .free ∧ p ≠ .regs ∧ p ≠ .ctr ∧ p ≠ .flash ∧ p ≠ .fur ∧ p ≠ .flt ∧ p ≠ .rcd ∧ p ≠ .pmc ∧
    p ≠ .tgt ∧ p ≠ .node ∧ p ≠ .chain ∧ p ≠ .pwr ∧ p ≠ .lp ∧ p ≠ .tbl ∧ p ≠ .lrn ∧ p ≠ .tcm ∧ p ≠ .slc ∧ p ≠ .xe ∧ p ≠ .ell ∧ p ≠ .bpm ∧
    p ≠ .hbm ∧ p ≠ .sch ∧ p ≠ .fab ∧ p ≠ .img ∧ p ≠ .upd) (s : State) (a1 : Nat) (a2 : ChainFrame) :
    (deliver s a1 a2).part p = s.part p := by
  unfold deliver
  repeat' split
  all_goals simp [h]
@[simp] theorem bcastPass_part (p : Part) (h : p ≠ .chain) (s : State) (a1 : ChainFrame) : (bcastPass s a1).2.part p = s.part p := by
  unfold bcastPass
  dsimp only
  repeat' split
  all_goals simp [*]
@[simp] theorem forward_part (p : Part) (h : p ≠ .ctr ∧ p ≠ .chain) (s : State) (a1 : Nat) (a2 : ChainFrame) :
    (forward s a1 a2).part p = s.part p := by
  simp [forward, h]
@[simp] theorem badFcrc_part (p : Part) (h : p ≠ .free ∧ p ≠ .ctr ∧ p ≠ .chain) (s : State) (port ring : Nat) (f : ChainFrame) :
    (badFcrc s port ring f).part p = s.part p := by
  simp [badFcrc, h]
@[simp] theorem ringFrame_part (p : Part) (h : p ≠ .free ∧ p ≠ .regs ∧ p ≠ .ctr ∧ p ≠ .flash ∧ p ≠ .fur ∧ p ≠ .flt ∧ p ≠ .rcd ∧ p ≠ .pmc
    ∧ p ≠ .tgt ∧ p ≠ .node ∧ p ≠ .chain ∧ p ≠ .pwr ∧ p ≠ .lp ∧ p ≠ .tbl ∧ p ≠ .lrn ∧ p ≠ .tcm ∧ p ≠ .slc ∧ p ≠ .xe ∧ p ≠ .ell ∧ p ≠ .bpm
    ∧ p ≠ .hbm ∧ p ≠ .sch ∧ p ≠ .fab ∧ p ≠ .img ∧ p ≠ .upd) (s : State) (a1 a2 : Nat) (a3 : ChainFrame) :
    (ringFrame s a1 a2 a3).part p = s.part p := by
  simp [ringFrame, h]
@[simp] theorem frameRx_part (p : Part) (h : p ≠ .free ∧ p ≠ .regs ∧ p ≠ .ctr ∧ p ≠ .flash ∧ p ≠ .fur ∧ p ≠ .flt ∧ p ≠ .rcd ∧ p ≠ .pmc ∧
    p ≠ .tgt ∧ p ≠ .node ∧ p ≠ .chain ∧ p ≠ .pwr ∧ p ≠ .lp ∧ p ≠ .tbl ∧ p ≠ .lrn ∧ p ≠ .tcm ∧ p ≠ .slc ∧ p ≠ .xe ∧ p ≠ .ell ∧ p ≠ .bpm ∧
    p ≠ .hbm ∧ p ≠ .sch ∧ p ≠ .fab ∧ p ≠ .img ∧ p ≠ .upd) (s : State) (a1 : Nat) (a2 : ChainFrame) :
    (frameRx s a1 a2).part p = s.part p := by
  simp [frameRx, h]
@[simp] theorem rx_part (p : Part) (h : p ≠ .free ∧ p ≠ .regs ∧ p ≠ .ctr ∧ p ≠ .flash ∧ p ≠ .fur ∧ p ≠ .flt ∧ p ≠ .rcd ∧ p ≠ .pmc ∧ p ≠
    .tgt ∧ p ≠ .node ∧ p ≠ .chain ∧ p ≠ .pwr ∧ p ≠ .lp ∧ p ≠ .tbl ∧ p ≠ .lrn ∧ p ≠ .tcm ∧ p ≠ .slc ∧ p ≠ .xe ∧ p ≠ .ell ∧ p ≠ .bpm ∧ p ≠
    .hbm ∧ p ≠ .sch ∧ p ≠ .fab ∧ p ≠ .img ∧ p ≠ .upd) (s : State) (a1 : Nat) (a2 : ChainFrame) :
    (rx s a1 a2).part p = s.part p := by
  simp [rx, h]
@[simp] theorem enumRx_part (p : Part) (h : p ≠ .free ∧ p ≠ .regs ∧ p ≠ .ctr ∧ p ≠ .flash ∧ p ≠ .fur ∧ p ≠ .flt ∧ p ≠ .rcd ∧ p ≠ .pmc ∧ p
    ≠ .tgt ∧ p ≠ .node ∧ p ≠ .chain ∧ p ≠ .pwr ∧ p ≠ .lp ∧ p ≠ .tbl ∧ p ≠ .lrn ∧ p ≠ .tcm ∧ p ≠ .slc ∧ p ≠ .xe ∧ p ≠ .ell ∧ p ≠ .bpm ∧ p
    ≠ .hbm ∧ p ≠ .sch ∧ p ≠ .fab ∧ p ≠ .img ∧ p ≠ .upd) (a0 a1 : Nat) (a2 : ChainFrame) (s : State) :
    (enumRx a0 a1 a2 s).part p = s.part p := by
  simp [enumRx, h]
@[simp] theorem electionRx_part (p : Part) (h : p ≠ .ctr ∧ p ≠ .rcd ∧ p ≠ .node ∧ p ≠ .upd) (a0 : Nat) (a1 : ChainFrame) (s : State) :
    (electionRx a0 a1 s).part p = s.part p := by
  simp [electionRx, h]
@[simp] theorem riseRow_part (p : Part) (h : p ≠ .ctr ∧ p ≠ .flt ∧ p ≠ .rcd) (s : State) (a1 a2 a3 : Nat) (a4 : Word) :
    (riseRow s a1 a2 a3 a4).part p = s.part p := by
  simp [riseRow, h]
@[simp] theorem riseAt_part (p : Part) (h : p ≠ .ctr ∧ p ≠ .flt ∧ p ≠ .rcd) (s : State) (a1 a2 a3 : Nat) (a4 : Word) :
    (riseAt s a1 a2 a3 a4).part p = s.part p := by
  simp [riseAt, h]
@[simp] theorem macUe_part (p : Part) (h : p ≠ .ctr ∧ p ≠ .flt ∧ p ≠ .rcd ∧ p ≠ .lp ∧ p ≠ .slc ∧ p ≠ .ell) (s : State) (a1 : Nat) (a2 :
    Word) :
    (macUe s a1 a2).part p = s.part p := by
  unfold macUe
  repeat' split
  all_goals simp [h]
@[simp] theorem intakeUe_part (p : Part) (h : p ≠ .ctr ∧ p ≠ .flt ∧ p ≠ .rcd ∧ p ≠ .slc ∧ p ≠ .ell) (s : State) (a1 : Nat) (a2 : Word) :
    (intakeUe s a1 a2).part p = s.part p := by
  unfold intakeUe
  repeat' split
  all_goals simp [h]
@[simp] theorem lrnUe_part (p : Part) (h : p ≠ .regs ∧ p ≠ .ctr ∧ p ≠ .flt ∧ p ≠ .rcd ∧ p ≠ .lrn) (s : State) (a1 a2 : Nat) :
    (lrnUe s a1 a2).part p = s.part p := by
  unfold lrnUe
  repeat' split
  all_goals simp [h]
@[simp] theorem tcmDataUe_part (p : Part) (h : p ≠ .ctr ∧ p ≠ .flt ∧ p ≠ .rcd ∧ p ≠ .tcm) (s : State) (a1 a2 : Nat) :
    (tcmDataUe s a1 a2).part p = s.part p := by
  simp [tcmDataUe, h]
@[simp] theorem tcmShadowUe_part (p : Part) (h : p ≠ .ctr ∧ p ≠ .flt ∧ p ≠ .rcd ∧ p ≠ .tcm) (s : State) (a1 a2 : Nat) :
    (tcmShadowUe s a1 a2).part p = s.part p := by
  simp [tcmShadowUe, h]
@[simp] theorem nodeUe_part (p : Part) (h : p ≠ .ctr ∧ p ≠ .flt ∧ p ≠ .rcd ∧ p ≠ .sch) (s : State) (a1 a2 : Nat) :
    (nodeUe s a1 a2).part p = s.part p := by
  simp [nodeUe, h]
@[simp] theorem firkinUe_part (p : Part) (h : p ≠ .ctr ∧ p ≠ .flt ∧ p ≠ .rcd ∧ p ≠ .fab) (s : State) (a1 a2 a3 : Nat) (a4 : Word) :
    (firkinUe s a1 a2 a3 a4).part p = s.part p := by
  simp [firkinUe, h]
@[simp] theorem reorderUe_part (p : Part) (h : p ≠ .ctr ∧ p ≠ .flt ∧ p ≠ .rcd ∧ p ≠ .fab) (s : State) (a1 a2 a3 : Nat) (a4 : Word) :
    (reorderUe s a1 a2 a3 a4).part p = s.part p := by
  simp [reorderUe, h]
@[simp] theorem gclParity_part (p : Part) (h : p ≠ .ctr ∧ p ≠ .flt ∧ p ≠ .rcd ∧ p ≠ .tgt) (s : State) (a1 : Nat) (a2 : Word) :
    (gclParity s a1 a2).part p = s.part p := by
  simp [gclParity, h]
@[simp] theorem storeUe_part (p : Part) (h : p ≠ .ctr ∧ p ≠ .flt ∧ p ≠ .rcd ∧ p ≠ .bpm) (s : State) (a1 a2 : Nat) :
    (storeUe s a1 a2).part p = s.part p := by
  simp [storeUe, h]
@[simp] theorem mgmtFail_part (p : Part) (h : p ≠ .ctr ∧ p ≠ .flt ∧ p ≠ .rcd) (s : State) (a1 : Nat) (a2 : Word) : (mgmtFail s a1
    a2).part p = s.part p := by
  simp [mgmtFail, h]
@[simp] theorem faultAct_part (p : Part) (h : p ≠ .free ∧ p ≠ .regs ∧ p ≠ .ctr ∧ p ≠ .fur ∧ p ≠ .flt ∧ p ≠ .rcd ∧ p ≠ .pmc ∧ p ≠ .tgt ∧ p
    ≠ .chain ∧ p ≠ .pwr ∧ p ≠ .lp ∧ p ≠ .tbl ∧ p ≠ .lrn ∧ p ≠ .tcm ∧ p ≠ .slc ∧ p ≠ .xe ∧ p ≠ .ell ∧ p ≠ .bpm ∧ p ≠ .hbm ∧ p ≠ .sch ∧ p ≠
    .fab ∧ p ≠ .img ∧ p ≠ .upd) (s : State) (a1 a2 a3 : Nat) (a4 : Word) :
    (faultAct s a1 a2 a3 a4).part p = s.part p := by
  unfold faultAct
  repeat' split
  all_goals simp [h]
@[simp] theorem occExpire_part (p : Part) (h : p ≠ .flt) (s : State) (a1 a2 : Nat) : (occExpire s a1 a2).part p = s.part p := by
  simp [occExpire, h]
@[simp] theorem bsrCapture_part (p : Part) (h : p ≠ .free) (s : State) : (bsrCapture s).2.part p = s.part p := by
  simp [bsrCapture, h]
@[simp] theorem modJtag_part (p : Part) (h : p ≠ .jtag) (s : State) (a1 : JtagSt → JtagSt) : (modJtag s a1).part p = s.part p := by
  simp [modJtag, h]
@[simp] theorem ucodeLoad_part (p : Part) (h : p ≠ .xe) (s : State) (a1 : Nat) (a2 : Bool) : (ucodeLoad s a1 a2).part p = s.part p := by
  simp [ucodeLoad, h]
@[simp] theorem ucodeDrained_part (p : Part) (h : p ≠ .xe) (s : State) : (ucodeDrained s).part p = s.part p := by
  simp [ucodeDrained, h]
@[simp] theorem ucodeWritten_part (p : Part) (h : p ≠ .regs ∧ p ≠ .ctr ∧ p ≠ .fur ∧ p ≠ .flt ∧ p ≠ .rcd ∧ p ≠ .pmc ∧ p ≠ .tgt ∧ p ≠
    .chain ∧ p ≠ .pwr ∧ p ≠ .lp ∧ p ≠ .tbl ∧ p ≠ .lrn ∧ p ≠ .tcm ∧ p ≠ .slc ∧ p ≠ .xe ∧ p ≠ .ell ∧ p ≠ .bpm ∧ p ≠ .hbm ∧ p ≠ .sch ∧ p ≠
    .fab ∧ p ≠ .img ∧ p ≠ .upd) (s : State) : (ucodeWritten s).part p = s.part p := by
  simp [ucodeWritten, h]
@[simp] theorem tickStall_part (p : Part) (h : p ≠ .ctr) (s : State) : (tickStall s).part p = s.part p := by
  simp [tickStall, h]
@[simp] theorem tickInject_part (p : Part) (h : p ≠ .chain ∧ p ≠ .ell) (s : State) : (tickInject s).part p = s.part p := by
  simp [tickInject, h]
@[simp] theorem tickGen_part (p : Part) (h : p ≠ .fab) (s : State) : (tickGen s).part p = s.part p := by
  simp [tickGen, h]
@[simp] theorem tickHolds_part (p : Part) (h : p ≠ .regs ∧ p ≠ .ctr ∧ p ≠ .rcd ∧ p ≠ .lp ∧ p ≠ .fab) (s : State) : (tickHolds s).part p
    = s.part p := by
  simp [tickHolds, h]
@[simp] theorem tick_part (p : Part) (h : p ≠ .now ∧ p ≠ .regs ∧ p ≠ .ctr ∧ p ≠ .rcd ∧ p ≠ .tgt ∧ p ≠ .chain ∧ p ≠ .lp ∧ p ≠ .slc ∧ p ≠
    .ell ∧ p ≠ .fab) (s : State) : (tick s).part p = s.part p := by
  simp [tick, h]

end Sys2Proof.Machine
end

