-- ==== Sys2Proof/Laws/State.lean ====
section
/-! SUPPORT. The named updates of the state, field by field: what each sets, and that the common ones leave every other field. -/

namespace Sys2Proof.Machine

/-! ## From a part to its field -/

theorem pending_of_part {s t : State} (h : t.part .pending = s.part .pending) : t.pending = s.pending := h
theorem now_of_part {s t : State} (h : t.part .now = s.part .now) : t.now = s.now := h
theorem free_of_part {s t : State} (h : t.part .free = s.part .free) : t.free = s.free := h
theorem acc_of_part {s t : State} (h : t.part .acc = s.part .acc) : t.acc = s.acc := h
theorem regs_of_part {s t : State} (h : t.part .regs = s.part .regs) : t.regs = s.regs := h
theorem ctr_of_part {s t : State} (h : t.part .ctr = s.part .ctr) : t.ctr = s.ctr := h
theorem latch_of_part {s t : State} (h : t.part .latch = s.part .latch) : t.latch = s.latch := h
theorem flash_of_part {s t : State} (h : t.part .flash = s.part .flash) : t.flash = s.flash := h
theorem fur_of_part {s t : State} (h : t.part .fur = s.part .fur) : t.fur = s.fur := h
theorem flt_of_part {s t : State} (h : t.part .flt = s.part .flt) : t.flt = s.flt := h
theorem rcd_of_part {s t : State} (h : t.part .rcd = s.part .rcd) : t.rcd = s.rcd := h
theorem pmc_of_part {s t : State} (h : t.part .pmc = s.part .pmc) : t.pmc = s.pmc := h
theorem tgt_of_part {s t : State} (h : t.part .tgt = s.part .tgt) : t.tgt = s.tgt := h
theorem node_of_part {s t : State} (h : t.part .node = s.part .node) : t.node = s.node := h
theorem chain_of_part {s t : State} (h : t.part .chain = s.part .chain) : t.chain = s.chain := h
theorem pwr_of_part {s t : State} (h : t.part .pwr = s.part .pwr) : t.pwr = s.pwr := h
theorem jtag_of_part {s t : State} (h : t.part .jtag = s.part .jtag) : t.jtag = s.jtag := h
theorem lp_of_part {s t : State} (h : t.part .lp = s.part .lp) : t.lp = s.lp := h
theorem tbl_of_part {s t : State} (h : t.part .tbl = s.part .tbl) : t.tbl = s.tbl := h
theorem lrn_of_part {s t : State} (h : t.part .lrn = s.part .lrn) : t.lrn = s.lrn := h
theorem tcm_of_part {s t : State} (h : t.part .tcm = s.part .tcm) : t.tcm = s.tcm := h
theorem slc_of_part {s t : State} (h : t.part .slc = s.part .slc) : t.slc = s.slc := h
theorem xe_of_part {s t : State} (h : t.part .xe = s.part .xe) : t.xe = s.xe := h
theorem ell_of_part {s t : State} (h : t.part .ell = s.part .ell) : t.ell = s.ell := h
theorem bpm_of_part {s t : State} (h : t.part .bpm = s.part .bpm) : t.bpm = s.bpm := h
theorem hbm_of_part {s t : State} (h : t.part .hbm = s.part .hbm) : t.hbm = s.hbm := h
theorem sch_of_part {s t : State} (h : t.part .sch = s.part .sch) : t.sch = s.sch := h
theorem fab_of_part {s t : State} (h : t.part .fab = s.part .fab) : t.fab = s.fab := h
theorem img_of_part {s t : State} (h : t.part .img = s.part .img) : t.img = s.img := h
theorem upd_of_part {s t : State} (h : t.part .upd = s.part .upd) : t.upd = s.upd := h

/-! ## What an update sets -/

@[simp] theorem modTbl_tbl (s : State) (f : TblSt → TblSt) : (modTbl s f).tbl = f s.tbl := rfl
@[simp] theorem modLp_lp (s : State) (f : LpSt → LpSt) : (modLp s f).lp = f s.lp := rfl
@[simp] theorem modFur_fur (s : State) (f : FurSt → FurSt) : (modFur s f).fur = f s.fur := rfl
@[simp] theorem modTcm_tcm (s : State) (f : TcmSt → TcmSt) : (modTcm s f).tcm = f s.tcm := rfl
@[simp] theorem modBpm_bpm (s : State) (f : BpmSt → BpmSt) : (modBpm s f).bpm = f s.bpm := rfl
@[simp] theorem modRec_rcd (s : State) (f : RecSt → RecSt) : (modRec s f).rcd = f s.rcd := rfl
@[simp] theorem modFab_fab (s : State) (f : FabSt → FabSt) : (modFab s f).fab = f s.fab := rfl
@[simp] theorem modTgt_tgt (s : State) (f : TgtSt → TgtSt) : (modTgt s f).tgt = f s.tgt := rfl
@[simp] theorem modPwr_pwr (s : State) (f : PwrSt → PwrSt) : (modPwr s f).pwr = f s.pwr := rfl
@[simp] theorem modSch_sch (s : State) (f : SchSt → SchSt) : (modSch s f).sch = f s.sch := rfl
@[simp] theorem modSlc_slc (s : State) (f : SlcBlk → SlcBlk) : (modSlc s f).slc = f s.slc := rfl
@[simp] theorem modEll_ell (s : State) (f : EllSt → EllSt) : (modEll s f).ell = f s.ell := rfl
@[simp] theorem modXe_xe (s : State) (f : XeSt → XeSt) : (modXe s f).xe = f s.xe := rfl
@[simp] theorem modPmc_pmc (s : State) (f : PmcSt → PmcSt) : (modPmc s f).pmc = f s.pmc := rfl
@[simp] theorem modHbm_hbm (s : State) (f : HbmSt → HbmSt) : (modHbm s f).hbm = f s.hbm := rfl
@[simp] theorem modImg_img (s : State) (f : ImgSt → ImgSt) : (modImg s f).img = f s.img := rfl
@[simp] theorem modUpd_upd (s : State) (f : UpdSt → UpdSt) : (modUpd s f).upd = f s.upd := rfl
@[simp] theorem modChain_chain (s : State) (f : ChainSt → ChainSt) : (modChain s f).chain = f s.chain := rfl
@[simp] theorem draw_free (s : State) : (draw s).2.free = s.free + 1 := rfl
@[simp] theorem draw_val (s : State) : (draw s).1 = Config.draw s.free := rfl
@[simp] theorem ok_eq (s : State) : ok s = .next s := rfl

/-! ## What the common updates leave -/

@[simp] theorem bumpN_pending (s : State) (a n : Nat) : (bumpN s a n).pending = s.pending := rfl
@[simp] theorem bumpN_now (s : State) (a n : Nat) : (bumpN s a n).now = s.now := rfl
@[simp] theorem bumpN_free (s : State) (a n : Nat) : (bumpN s a n).free = s.free := rfl
@[simp] theorem bumpN_acc (s : State) (a n : Nat) : (bumpN s a n).acc = s.acc := rfl
@[simp] theorem bumpN_regs (s : State) (a n : Nat) : (bumpN s a n).regs = s.regs := rfl
@[simp] theorem bumpN_latch (s : State) (a n : Nat) : (bumpN s a n).latch = s.latch := rfl
@[simp] theorem bumpN_flash (s : State) (a n : Nat) : (bumpN s a n).flash = s.flash := rfl
@[simp] theorem bumpN_fur (s : State) (a n : Nat) : (bumpN s a n).fur = s.fur := rfl
@[simp] theorem bumpN_flt (s : State) (a n : Nat) : (bumpN s a n).flt = s.flt := rfl
@[simp] theorem bumpN_rcd (s : State) (a n : Nat) : (bumpN s a n).rcd = s.rcd := rfl
@[simp] theorem bumpN_pmc (s : State) (a n : Nat) : (bumpN s a n).pmc = s.pmc := rfl
@[simp] theorem bumpN_tgt (s : State) (a n : Nat) : (bumpN s a n).tgt = s.tgt := rfl
@[simp] theorem bumpN_node (s : State) (a n : Nat) : (bumpN s a n).node = s.node := rfl
@[simp] theorem bumpN_chain (s : State) (a n : Nat) : (bumpN s a n).chain = s.chain := rfl
@[simp] theorem bumpN_pwr (s : State) (a n : Nat) : (bumpN s a n).pwr = s.pwr := rfl
@[simp] theorem bumpN_jtag (s : State) (a n : Nat) : (bumpN s a n).jtag = s.jtag := rfl
@[simp] theorem bumpN_lp (s : State) (a n : Nat) : (bumpN s a n).lp = s.lp := rfl
@[simp] theorem bumpN_tbl (s : State) (a n : Nat) : (bumpN s a n).tbl = s.tbl := rfl
@[simp] theorem bumpN_lrn (s : State) (a n : Nat) : (bumpN s a n).lrn = s.lrn := rfl
@[simp] theorem bumpN_tcm (s : State) (a n : Nat) : (bumpN s a n).tcm = s.tcm := rfl
@[simp] theorem bumpN_slc (s : State) (a n : Nat) : (bumpN s a n).slc = s.slc := rfl
@[simp] theorem bumpN_xe (s : State) (a n : Nat) : (bumpN s a n).xe = s.xe := rfl
@[simp] theorem bumpN_ell (s : State) (a n : Nat) : (bumpN s a n).ell = s.ell := rfl
@[simp] theorem bumpN_bpm (s : State) (a n : Nat) : (bumpN s a n).bpm = s.bpm := rfl
@[simp] theorem bumpN_hbm (s : State) (a n : Nat) : (bumpN s a n).hbm = s.hbm := rfl
@[simp] theorem bumpN_sch (s : State) (a n : Nat) : (bumpN s a n).sch = s.sch := rfl
@[simp] theorem bumpN_fab (s : State) (a n : Nat) : (bumpN s a n).fab = s.fab := rfl
@[simp] theorem bumpN_img (s : State) (a n : Nat) : (bumpN s a n).img = s.img := rfl
@[simp] theorem bumpN_upd (s : State) (a n : Nat) : (bumpN s a n).upd = s.upd := rfl
@[simp] theorem bump_pending (s : State) (a : Nat) : (bump s a).pending = s.pending := rfl
@[simp] theorem bump_now (s : State) (a : Nat) : (bump s a).now = s.now := rfl
@[simp] theorem bump_free (s : State) (a : Nat) : (bump s a).free = s.free := rfl
@[simp] theorem bump_acc (s : State) (a : Nat) : (bump s a).acc = s.acc := rfl
@[simp] theorem bump_regs (s : State) (a : Nat) : (bump s a).regs = s.regs := rfl
@[simp] theorem bump_latch (s : State) (a : Nat) : (bump s a).latch = s.latch := rfl
@[simp] theorem bump_flash (s : State) (a : Nat) : (bump s a).flash = s.flash := rfl
@[simp] theorem bump_fur (s : State) (a : Nat) : (bump s a).fur = s.fur := rfl
@[simp] theorem bump_flt (s : State) (a : Nat) : (bump s a).flt = s.flt := rfl
@[simp] theorem bump_rcd (s : State) (a : Nat) : (bump s a).rcd = s.rcd := rfl
@[simp] theorem bump_pmc (s : State) (a : Nat) : (bump s a).pmc = s.pmc := rfl
@[simp] theorem bump_tgt (s : State) (a : Nat) : (bump s a).tgt = s.tgt := rfl
@[simp] theorem bump_node (s : State) (a : Nat) : (bump s a).node = s.node := rfl
@[simp] theorem bump_chain (s : State) (a : Nat) : (bump s a).chain = s.chain := rfl
@[simp] theorem bump_pwr (s : State) (a : Nat) : (bump s a).pwr = s.pwr := rfl
@[simp] theorem bump_jtag (s : State) (a : Nat) : (bump s a).jtag = s.jtag := rfl
@[simp] theorem bump_lp (s : State) (a : Nat) : (bump s a).lp = s.lp := rfl
@[simp] theorem bump_tbl (s : State) (a : Nat) : (bump s a).tbl = s.tbl := rfl
@[simp] theorem bump_lrn (s : State) (a : Nat) : (bump s a).lrn = s.lrn := rfl
@[simp] theorem bump_tcm (s : State) (a : Nat) : (bump s a).tcm = s.tcm := rfl
@[simp] theorem bump_slc (s : State) (a : Nat) : (bump s a).slc = s.slc := rfl
@[simp] theorem bump_xe (s : State) (a : Nat) : (bump s a).xe = s.xe := rfl
@[simp] theorem bump_ell (s : State) (a : Nat) : (bump s a).ell = s.ell := rfl
@[simp] theorem bump_bpm (s : State) (a : Nat) : (bump s a).bpm = s.bpm := rfl
@[simp] theorem bump_hbm (s : State) (a : Nat) : (bump s a).hbm = s.hbm := rfl
@[simp] theorem bump_sch (s : State) (a : Nat) : (bump s a).sch = s.sch := rfl
@[simp] theorem bump_fab (s : State) (a : Nat) : (bump s a).fab = s.fab := rfl
@[simp] theorem bump_img (s : State) (a : Nat) : (bump s a).img = s.img := rfl
@[simp] theorem bump_upd (s : State) (a : Nat) : (bump s a).upd = s.upd := rfl
@[simp] theorem count_pending (s : State) (b o : Nat) : (count s b o).pending = s.pending := rfl
@[simp] theorem count_now (s : State) (b o : Nat) : (count s b o).now = s.now := rfl
@[simp] theorem count_free (s : State) (b o : Nat) : (count s b o).free = s.free := rfl
@[simp] theorem count_acc (s : State) (b o : Nat) : (count s b o).acc = s.acc := rfl
@[simp] theorem count_regs (s : State) (b o : Nat) : (count s b o).regs = s.regs := rfl
@[simp] theorem count_latch (s : State) (b o : Nat) : (count s b o).latch = s.latch := rfl
@[simp] theorem count_flash (s : State) (b o : Nat) : (count s b o).flash = s.flash := rfl
@[simp] theorem count_fur (s : State) (b o : Nat) : (count s b o).fur = s.fur := rfl
@[simp] theorem count_flt (s : State) (b o : Nat) : (count s b o).flt = s.flt := rfl
@[simp] theorem count_rcd (s : State) (b o : Nat) : (count s b o).rcd = s.rcd := rfl
@[simp] theorem count_pmc (s : State) (b o : Nat) : (count s b o).pmc = s.pmc := rfl
@[simp] theorem count_tgt (s : State) (b o : Nat) : (count s b o).tgt = s.tgt := rfl
@[simp] theorem count_node (s : State) (b o : Nat) : (count s b o).node = s.node := rfl
@[simp] theorem count_chain (s : State) (b o : Nat) : (count s b o).chain = s.chain := rfl
@[simp] theorem count_pwr (s : State) (b o : Nat) : (count s b o).pwr = s.pwr := rfl
@[simp] theorem count_jtag (s : State) (b o : Nat) : (count s b o).jtag = s.jtag := rfl
@[simp] theorem count_lp (s : State) (b o : Nat) : (count s b o).lp = s.lp := rfl
@[simp] theorem count_tbl (s : State) (b o : Nat) : (count s b o).tbl = s.tbl := rfl
@[simp] theorem count_lrn (s : State) (b o : Nat) : (count s b o).lrn = s.lrn := rfl
@[simp] theorem count_tcm (s : State) (b o : Nat) : (count s b o).tcm = s.tcm := rfl
@[simp] theorem count_slc (s : State) (b o : Nat) : (count s b o).slc = s.slc := rfl
@[simp] theorem count_xe (s : State) (b o : Nat) : (count s b o).xe = s.xe := rfl
@[simp] theorem count_ell (s : State) (b o : Nat) : (count s b o).ell = s.ell := rfl
@[simp] theorem count_bpm (s : State) (b o : Nat) : (count s b o).bpm = s.bpm := rfl
@[simp] theorem count_hbm (s : State) (b o : Nat) : (count s b o).hbm = s.hbm := rfl
@[simp] theorem count_sch (s : State) (b o : Nat) : (count s b o).sch = s.sch := rfl
@[simp] theorem count_fab (s : State) (b o : Nat) : (count s b o).fab = s.fab := rfl
@[simp] theorem count_img (s : State) (b o : Nat) : (count s b o).img = s.img := rfl
@[simp] theorem count_upd (s : State) (b o : Nat) : (count s b o).upd = s.upd := rfl
@[simp] theorem setReg_pending (s : State) (r : Reg) (idx : List Nat) (v : Word) : (setReg s r idx v).pending = s.pending := rfl
@[simp] theorem setReg_now (s : State) (r : Reg) (idx : List Nat) (v : Word) : (setReg s r idx v).now = s.now := rfl
@[simp] theorem setReg_free (s : State) (r : Reg) (idx : List Nat) (v : Word) : (setReg s r idx v).free = s.free := rfl
@[simp] theorem setReg_acc (s : State) (r : Reg) (idx : List Nat) (v : Word) : (setReg s r idx v).acc = s.acc := rfl
@[simp] theorem setReg_ctr (s : State) (r : Reg) (idx : List Nat) (v : Word) : (setReg s r idx v).ctr = s.ctr := rfl
@[simp] theorem setReg_latch (s : State) (r : Reg) (idx : List Nat) (v : Word) : (setReg s r idx v).latch = s.latch := rfl
@[simp] theorem setReg_flash (s : State) (r : Reg) (idx : List Nat) (v : Word) : (setReg s r idx v).flash = s.flash := rfl
@[simp] theorem setReg_fur (s : State) (r : Reg) (idx : List Nat) (v : Word) : (setReg s r idx v).fur = s.fur := rfl
@[simp] theorem setReg_flt (s : State) (r : Reg) (idx : List Nat) (v : Word) : (setReg s r idx v).flt = s.flt := rfl
@[simp] theorem setReg_rcd (s : State) (r : Reg) (idx : List Nat) (v : Word) : (setReg s r idx v).rcd = s.rcd := rfl
@[simp] theorem setReg_pmc (s : State) (r : Reg) (idx : List Nat) (v : Word) : (setReg s r idx v).pmc = s.pmc := rfl
@[simp] theorem setReg_tgt (s : State) (r : Reg) (idx : List Nat) (v : Word) : (setReg s r idx v).tgt = s.tgt := rfl
@[simp] theorem setReg_node (s : State) (r : Reg) (idx : List Nat) (v : Word) : (setReg s r idx v).node = s.node := rfl
@[simp] theorem setReg_chain (s : State) (r : Reg) (idx : List Nat) (v : Word) : (setReg s r idx v).chain = s.chain := rfl
@[simp] theorem setReg_pwr (s : State) (r : Reg) (idx : List Nat) (v : Word) : (setReg s r idx v).pwr = s.pwr := rfl
@[simp] theorem setReg_jtag (s : State) (r : Reg) (idx : List Nat) (v : Word) : (setReg s r idx v).jtag = s.jtag := rfl
@[simp] theorem setReg_lp (s : State) (r : Reg) (idx : List Nat) (v : Word) : (setReg s r idx v).lp = s.lp := rfl
@[simp] theorem setReg_tbl (s : State) (r : Reg) (idx : List Nat) (v : Word) : (setReg s r idx v).tbl = s.tbl := rfl
@[simp] theorem setReg_lrn (s : State) (r : Reg) (idx : List Nat) (v : Word) : (setReg s r idx v).lrn = s.lrn := rfl
@[simp] theorem setReg_tcm (s : State) (r : Reg) (idx : List Nat) (v : Word) : (setReg s r idx v).tcm = s.tcm := rfl
@[simp] theorem setReg_slc (s : State) (r : Reg) (idx : List Nat) (v : Word) : (setReg s r idx v).slc = s.slc := rfl
@[simp] theorem setReg_xe (s : State) (r : Reg) (idx : List Nat) (v : Word) : (setReg s r idx v).xe = s.xe := rfl
@[simp] theorem setReg_ell (s : State) (r : Reg) (idx : List Nat) (v : Word) : (setReg s r idx v).ell = s.ell := rfl
@[simp] theorem setReg_bpm (s : State) (r : Reg) (idx : List Nat) (v : Word) : (setReg s r idx v).bpm = s.bpm := rfl
@[simp] theorem setReg_hbm (s : State) (r : Reg) (idx : List Nat) (v : Word) : (setReg s r idx v).hbm = s.hbm := rfl
@[simp] theorem setReg_sch (s : State) (r : Reg) (idx : List Nat) (v : Word) : (setReg s r idx v).sch = s.sch := rfl
@[simp] theorem setReg_fab (s : State) (r : Reg) (idx : List Nat) (v : Word) : (setReg s r idx v).fab = s.fab := rfl
@[simp] theorem setReg_img (s : State) (r : Reg) (idx : List Nat) (v : Word) : (setReg s r idx v).img = s.img := rfl
@[simp] theorem setReg_upd (s : State) (r : Reg) (idx : List Nat) (v : Word) : (setReg s r idx v).upd = s.upd := rfl
@[simp] theorem setRF_pending (s : State) (r : Reg) (idx : List Nat) (hi lo v : Nat) : (setRF s r idx hi lo v).pending = s.pending := rfl
@[simp] theorem setRF_now (s : State) (r : Reg) (idx : List Nat) (hi lo v : Nat) : (setRF s r idx hi lo v).now = s.now := rfl
@[simp] theorem setRF_free (s : State) (r : Reg) (idx : List Nat) (hi lo v : Nat) : (setRF s r idx hi lo v).free = s.free := rfl
@[simp] theorem setRF_acc (s : State) (r : Reg) (idx : List Nat) (hi lo v : Nat) : (setRF s r idx hi lo v).acc = s.acc := rfl
@[simp] theorem setRF_ctr (s : State) (r : Reg) (idx : List Nat) (hi lo v : Nat) : (setRF s r idx hi lo v).ctr = s.ctr := rfl
@[simp] theorem setRF_latch (s : State) (r : Reg) (idx : List Nat) (hi lo v : Nat) : (setRF s r idx hi lo v).latch = s.latch := rfl
@[simp] theorem setRF_flash (s : State) (r : Reg) (idx : List Nat) (hi lo v : Nat) : (setRF s r idx hi lo v).flash = s.flash := rfl
@[simp] theorem setRF_fur (s : State) (r : Reg) (idx : List Nat) (hi lo v : Nat) : (setRF s r idx hi lo v).fur = s.fur := rfl
@[simp] theorem setRF_flt (s : State) (r : Reg) (idx : List Nat) (hi lo v : Nat) : (setRF s r idx hi lo v).flt = s.flt := rfl
@[simp] theorem setRF_rcd (s : State) (r : Reg) (idx : List Nat) (hi lo v : Nat) : (setRF s r idx hi lo v).rcd = s.rcd := rfl
@[simp] theorem setRF_pmc (s : State) (r : Reg) (idx : List Nat) (hi lo v : Nat) : (setRF s r idx hi lo v).pmc = s.pmc := rfl
@[simp] theorem setRF_tgt (s : State) (r : Reg) (idx : List Nat) (hi lo v : Nat) : (setRF s r idx hi lo v).tgt = s.tgt := rfl
@[simp] theorem setRF_node (s : State) (r : Reg) (idx : List Nat) (hi lo v : Nat) : (setRF s r idx hi lo v).node = s.node := rfl
@[simp] theorem setRF_chain (s : State) (r : Reg) (idx : List Nat) (hi lo v : Nat) : (setRF s r idx hi lo v).chain = s.chain := rfl
@[simp] theorem setRF_pwr (s : State) (r : Reg) (idx : List Nat) (hi lo v : Nat) : (setRF s r idx hi lo v).pwr = s.pwr := rfl
@[simp] theorem setRF_jtag (s : State) (r : Reg) (idx : List Nat) (hi lo v : Nat) : (setRF s r idx hi lo v).jtag = s.jtag := rfl
@[simp] theorem setRF_lp (s : State) (r : Reg) (idx : List Nat) (hi lo v : Nat) : (setRF s r idx hi lo v).lp = s.lp := rfl
@[simp] theorem setRF_tbl (s : State) (r : Reg) (idx : List Nat) (hi lo v : Nat) : (setRF s r idx hi lo v).tbl = s.tbl := rfl
@[simp] theorem setRF_lrn (s : State) (r : Reg) (idx : List Nat) (hi lo v : Nat) : (setRF s r idx hi lo v).lrn = s.lrn := rfl
@[simp] theorem setRF_tcm (s : State) (r : Reg) (idx : List Nat) (hi lo v : Nat) : (setRF s r idx hi lo v).tcm = s.tcm := rfl
@[simp] theorem setRF_slc (s : State) (r : Reg) (idx : List Nat) (hi lo v : Nat) : (setRF s r idx hi lo v).slc = s.slc := rfl
@[simp] theorem setRF_xe (s : State) (r : Reg) (idx : List Nat) (hi lo v : Nat) : (setRF s r idx hi lo v).xe = s.xe := rfl
@[simp] theorem setRF_ell (s : State) (r : Reg) (idx : List Nat) (hi lo v : Nat) : (setRF s r idx hi lo v).ell = s.ell := rfl
@[simp] theorem setRF_bpm (s : State) (r : Reg) (idx : List Nat) (hi lo v : Nat) : (setRF s r idx hi lo v).bpm = s.bpm := rfl
@[simp] theorem setRF_hbm (s : State) (r : Reg) (idx : List Nat) (hi lo v : Nat) : (setRF s r idx hi lo v).hbm = s.hbm := rfl
@[simp] theorem setRF_sch (s : State) (r : Reg) (idx : List Nat) (hi lo v : Nat) : (setRF s r idx hi lo v).sch = s.sch := rfl
@[simp] theorem setRF_fab (s : State) (r : Reg) (idx : List Nat) (hi lo v : Nat) : (setRF s r idx hi lo v).fab = s.fab := rfl
@[simp] theorem setRF_img (s : State) (r : Reg) (idx : List Nat) (hi lo v : Nat) : (setRF s r idx hi lo v).img = s.img := rfl
@[simp] theorem setRF_upd (s : State) (r : Reg) (idx : List Nat) (hi lo v : Nat) : (setRF s r idx hi lo v).upd = s.upd := rfl
@[simp] theorem setRB_pending (s : State) (r : Reg) (idx : List Nat) (i : Nat) (b : Bool) : (setRB s r idx i b).pending = s.pending := rfl
@[simp] theorem setRB_now (s : State) (r : Reg) (idx : List Nat) (i : Nat) (b : Bool) : (setRB s r idx i b).now = s.now := rfl
@[simp] theorem setRB_free (s : State) (r : Reg) (idx : List Nat) (i : Nat) (b : Bool) : (setRB s r idx i b).free = s.free := rfl
@[simp] theorem setRB_acc (s : State) (r : Reg) (idx : List Nat) (i : Nat) (b : Bool) : (setRB s r idx i b).acc = s.acc := rfl
@[simp] theorem setRB_ctr (s : State) (r : Reg) (idx : List Nat) (i : Nat) (b : Bool) : (setRB s r idx i b).ctr = s.ctr := rfl
@[simp] theorem setRB_latch (s : State) (r : Reg) (idx : List Nat) (i : Nat) (b : Bool) : (setRB s r idx i b).latch = s.latch := rfl
@[simp] theorem setRB_flash (s : State) (r : Reg) (idx : List Nat) (i : Nat) (b : Bool) : (setRB s r idx i b).flash = s.flash := rfl
@[simp] theorem setRB_fur (s : State) (r : Reg) (idx : List Nat) (i : Nat) (b : Bool) : (setRB s r idx i b).fur = s.fur := rfl
@[simp] theorem setRB_flt (s : State) (r : Reg) (idx : List Nat) (i : Nat) (b : Bool) : (setRB s r idx i b).flt = s.flt := rfl
@[simp] theorem setRB_rcd (s : State) (r : Reg) (idx : List Nat) (i : Nat) (b : Bool) : (setRB s r idx i b).rcd = s.rcd := rfl
@[simp] theorem setRB_pmc (s : State) (r : Reg) (idx : List Nat) (i : Nat) (b : Bool) : (setRB s r idx i b).pmc = s.pmc := rfl
@[simp] theorem setRB_tgt (s : State) (r : Reg) (idx : List Nat) (i : Nat) (b : Bool) : (setRB s r idx i b).tgt = s.tgt := rfl
@[simp] theorem setRB_node (s : State) (r : Reg) (idx : List Nat) (i : Nat) (b : Bool) : (setRB s r idx i b).node = s.node := rfl
@[simp] theorem setRB_chain (s : State) (r : Reg) (idx : List Nat) (i : Nat) (b : Bool) : (setRB s r idx i b).chain = s.chain := rfl
@[simp] theorem setRB_pwr (s : State) (r : Reg) (idx : List Nat) (i : Nat) (b : Bool) : (setRB s r idx i b).pwr = s.pwr := rfl
@[simp] theorem setRB_jtag (s : State) (r : Reg) (idx : List Nat) (i : Nat) (b : Bool) : (setRB s r idx i b).jtag = s.jtag := rfl
@[simp] theorem setRB_lp (s : State) (r : Reg) (idx : List Nat) (i : Nat) (b : Bool) : (setRB s r idx i b).lp = s.lp := rfl
@[simp] theorem setRB_tbl (s : State) (r : Reg) (idx : List Nat) (i : Nat) (b : Bool) : (setRB s r idx i b).tbl = s.tbl := rfl
@[simp] theorem setRB_lrn (s : State) (r : Reg) (idx : List Nat) (i : Nat) (b : Bool) : (setRB s r idx i b).lrn = s.lrn := rfl
@[simp] theorem setRB_tcm (s : State) (r : Reg) (idx : List Nat) (i : Nat) (b : Bool) : (setRB s r idx i b).tcm = s.tcm := rfl
@[simp] theorem setRB_slc (s : State) (r : Reg) (idx : List Nat) (i : Nat) (b : Bool) : (setRB s r idx i b).slc = s.slc := rfl
@[simp] theorem setRB_xe (s : State) (r : Reg) (idx : List Nat) (i : Nat) (b : Bool) : (setRB s r idx i b).xe = s.xe := rfl
@[simp] theorem setRB_ell (s : State) (r : Reg) (idx : List Nat) (i : Nat) (b : Bool) : (setRB s r idx i b).ell = s.ell := rfl
@[simp] theorem setRB_bpm (s : State) (r : Reg) (idx : List Nat) (i : Nat) (b : Bool) : (setRB s r idx i b).bpm = s.bpm := rfl
@[simp] theorem setRB_hbm (s : State) (r : Reg) (idx : List Nat) (i : Nat) (b : Bool) : (setRB s r idx i b).hbm = s.hbm := rfl
@[simp] theorem setRB_sch (s : State) (r : Reg) (idx : List Nat) (i : Nat) (b : Bool) : (setRB s r idx i b).sch = s.sch := rfl
@[simp] theorem setRB_fab (s : State) (r : Reg) (idx : List Nat) (i : Nat) (b : Bool) : (setRB s r idx i b).fab = s.fab := rfl
@[simp] theorem setRB_img (s : State) (r : Reg) (idx : List Nat) (i : Nat) (b : Bool) : (setRB s r idx i b).img = s.img := rfl
@[simp] theorem setRB_upd (s : State) (r : Reg) (idx : List Nat) (i : Nat) (b : Bool) : (setRB s r idx i b).upd = s.upd := rfl
@[simp] theorem setFlt_pending (s : State) (b : Nat) (r : FltRegs) : (setFlt s b r).pending = s.pending := rfl
@[simp] theorem setFlt_now (s : State) (b : Nat) (r : FltRegs) : (setFlt s b r).now = s.now := rfl
@[simp] theorem setFlt_free (s : State) (b : Nat) (r : FltRegs) : (setFlt s b r).free = s.free := rfl
@[simp] theorem setFlt_acc (s : State) (b : Nat) (r : FltRegs) : (setFlt s b r).acc = s.acc := rfl
@[simp] theorem setFlt_regs (s : State) (b : Nat) (r : FltRegs) : (setFlt s b r).regs = s.regs := rfl
@[simp] theorem setFlt_ctr (s : State) (b : Nat) (r : FltRegs) : (setFlt s b r).ctr = s.ctr := rfl
@[simp] theorem setFlt_latch (s : State) (b : Nat) (r : FltRegs) : (setFlt s b r).latch = s.latch := rfl
@[simp] theorem setFlt_flash (s : State) (b : Nat) (r : FltRegs) : (setFlt s b r).flash = s.flash := rfl
@[simp] theorem setFlt_fur (s : State) (b : Nat) (r : FltRegs) : (setFlt s b r).fur = s.fur := rfl
@[simp] theorem setFlt_rcd (s : State) (b : Nat) (r : FltRegs) : (setFlt s b r).rcd = s.rcd := rfl
@[simp] theorem setFlt_pmc (s : State) (b : Nat) (r : FltRegs) : (setFlt s b r).pmc = s.pmc := rfl
@[simp] theorem setFlt_tgt (s : State) (b : Nat) (r : FltRegs) : (setFlt s b r).tgt = s.tgt := rfl
@[simp] theorem setFlt_node (s : State) (b : Nat) (r : FltRegs) : (setFlt s b r).node = s.node := rfl
@[simp] theorem setFlt_chain (s : State) (b : Nat) (r : FltRegs) : (setFlt s b r).chain = s.chain := rfl
@[simp] theorem setFlt_pwr (s : State) (b : Nat) (r : FltRegs) : (setFlt s b r).pwr = s.pwr := rfl
@[simp] theorem setFlt_jtag (s : State) (b : Nat) (r : FltRegs) : (setFlt s b r).jtag = s.jtag := rfl
@[simp] theorem setFlt_lp (s : State) (b : Nat) (r : FltRegs) : (setFlt s b r).lp = s.lp := rfl
@[simp] theorem setFlt_tbl (s : State) (b : Nat) (r : FltRegs) : (setFlt s b r).tbl = s.tbl := rfl
@[simp] theorem setFlt_lrn (s : State) (b : Nat) (r : FltRegs) : (setFlt s b r).lrn = s.lrn := rfl
@[simp] theorem setFlt_tcm (s : State) (b : Nat) (r : FltRegs) : (setFlt s b r).tcm = s.tcm := rfl
@[simp] theorem setFlt_slc (s : State) (b : Nat) (r : FltRegs) : (setFlt s b r).slc = s.slc := rfl
@[simp] theorem setFlt_xe (s : State) (b : Nat) (r : FltRegs) : (setFlt s b r).xe = s.xe := rfl
@[simp] theorem setFlt_ell (s : State) (b : Nat) (r : FltRegs) : (setFlt s b r).ell = s.ell := rfl
@[simp] theorem setFlt_bpm (s : State) (b : Nat) (r : FltRegs) : (setFlt s b r).bpm = s.bpm := rfl
@[simp] theorem setFlt_hbm (s : State) (b : Nat) (r : FltRegs) : (setFlt s b r).hbm = s.hbm := rfl
@[simp] theorem setFlt_sch (s : State) (b : Nat) (r : FltRegs) : (setFlt s b r).sch = s.sch := rfl
@[simp] theorem setFlt_fab (s : State) (b : Nat) (r : FltRegs) : (setFlt s b r).fab = s.fab := rfl
@[simp] theorem setFlt_img (s : State) (b : Nat) (r : FltRegs) : (setFlt s b r).img = s.img := rfl
@[simp] theorem setFlt_upd (s : State) (b : Nat) (r : FltRegs) : (setFlt s b r).upd = s.upd := rfl
@[simp] theorem occur_pending (s : State) (code cls inst : Nat) (d4 d5 : Word) : (occur s code cls inst d4 d5).pending = s.pending := pending_of_part (occur_part .pending (by simp) s code cls inst d4 d5)
@[simp] theorem occur_now (s : State) (code cls inst : Nat) (d4 d5 : Word) : (occur s code cls inst d4 d5).now = s.now := now_of_part (occur_part .now (by simp) s code cls inst d4 d5)
@[simp] theorem occur_free (s : State) (code cls inst : Nat) (d4 d5 : Word) : (occur s code cls inst d4 d5).free = s.free := free_of_part (occur_part .free (by simp) s code cls inst d4 d5)
@[simp] theorem occur_acc (s : State) (code cls inst : Nat) (d4 d5 : Word) : (occur s code cls inst d4 d5).acc = s.acc := acc_of_part (occur_part .acc (by simp) s code cls inst d4 d5)
@[simp] theorem occur_regs (s : State) (code cls inst : Nat) (d4 d5 : Word) : (occur s code cls inst d4 d5).regs = s.regs := regs_of_part (occur_part .regs (by simp) s code cls inst d4 d5)
@[simp] theorem occur_latch (s : State) (code cls inst : Nat) (d4 d5 : Word) : (occur s code cls inst d4 d5).latch = s.latch := latch_of_part (occur_part .latch (by simp) s code cls inst d4 d5)
@[simp] theorem occur_flash (s : State) (code cls inst : Nat) (d4 d5 : Word) : (occur s code cls inst d4 d5).flash = s.flash := flash_of_part (occur_part .flash (by simp) s code cls inst d4 d5)
@[simp] theorem occur_fur (s : State) (code cls inst : Nat) (d4 d5 : Word) : (occur s code cls inst d4 d5).fur = s.fur := fur_of_part (occur_part .fur (by simp) s code cls inst d4 d5)
@[simp] theorem occur_flt (s : State) (code cls inst : Nat) (d4 d5 : Word) : (occur s code cls inst d4 d5).flt = s.flt := flt_of_part (occur_part .flt (by simp) s code cls inst d4 d5)
@[simp] theorem occur_pmc (s : State) (code cls inst : Nat) (d4 d5 : Word) : (occur s code cls inst d4 d5).pmc = s.pmc := pmc_of_part (occur_part .pmc (by simp) s code cls inst d4 d5)
@[simp] theorem occur_tgt (s : State) (code cls inst : Nat) (d4 d5 : Word) : (occur s code cls inst d4 d5).tgt = s.tgt := tgt_of_part (occur_part .tgt (by simp) s code cls inst d4 d5)
@[simp] theorem occur_node (s : State) (code cls inst : Nat) (d4 d5 : Word) : (occur s code cls inst d4 d5).node = s.node := node_of_part (occur_part .node (by simp) s code cls inst d4 d5)
@[simp] theorem occur_chain (s : State) (code cls inst : Nat) (d4 d5 : Word) : (occur s code cls inst d4 d5).chain = s.chain := chain_of_part (occur_part .chain (by simp) s code cls inst d4 d5)
@[simp] theorem occur_pwr (s : State) (code cls inst : Nat) (d4 d5 : Word) : (occur s code cls inst d4 d5).pwr = s.pwr := pwr_of_part (occur_part .pwr (by simp) s code cls inst d4 d5)
@[simp] theorem occur_jtag (s : State) (code cls inst : Nat) (d4 d5 : Word) : (occur s code cls inst d4 d5).jtag = s.jtag := jtag_of_part (occur_part .jtag (by simp) s code cls inst d4 d5)
@[simp] theorem occur_lp (s : State) (code cls inst : Nat) (d4 d5 : Word) : (occur s code cls inst d4 d5).lp = s.lp := lp_of_part (occur_part .lp (by simp) s code cls inst d4 d5)
@[simp] theorem occur_tbl (s : State) (code cls inst : Nat) (d4 d5 : Word) : (occur s code cls inst d4 d5).tbl = s.tbl := tbl_of_part (occur_part .tbl (by simp) s code cls inst d4 d5)
@[simp] theorem occur_lrn (s : State) (code cls inst : Nat) (d4 d5 : Word) : (occur s code cls inst d4 d5).lrn = s.lrn := lrn_of_part (occur_part .lrn (by simp) s code cls inst d4 d5)
@[simp] theorem occur_tcm (s : State) (code cls inst : Nat) (d4 d5 : Word) : (occur s code cls inst d4 d5).tcm = s.tcm := tcm_of_part (occur_part .tcm (by simp) s code cls inst d4 d5)
@[simp] theorem occur_slc (s : State) (code cls inst : Nat) (d4 d5 : Word) : (occur s code cls inst d4 d5).slc = s.slc := slc_of_part (occur_part .slc (by simp) s code cls inst d4 d5)
@[simp] theorem occur_xe (s : State) (code cls inst : Nat) (d4 d5 : Word) : (occur s code cls inst d4 d5).xe = s.xe := xe_of_part (occur_part .xe (by simp) s code cls inst d4 d5)
@[simp] theorem occur_ell (s : State) (code cls inst : Nat) (d4 d5 : Word) : (occur s code cls inst d4 d5).ell = s.ell := ell_of_part (occur_part .ell (by simp) s code cls inst d4 d5)
@[simp] theorem occur_bpm (s : State) (code cls inst : Nat) (d4 d5 : Word) : (occur s code cls inst d4 d5).bpm = s.bpm := bpm_of_part (occur_part .bpm (by simp) s code cls inst d4 d5)
@[simp] theorem occur_hbm (s : State) (code cls inst : Nat) (d4 d5 : Word) : (occur s code cls inst d4 d5).hbm = s.hbm := hbm_of_part (occur_part .hbm (by simp) s code cls inst d4 d5)
@[simp] theorem occur_sch (s : State) (code cls inst : Nat) (d4 d5 : Word) : (occur s code cls inst d4 d5).sch = s.sch := sch_of_part (occur_part .sch (by simp) s code cls inst d4 d5)
@[simp] theorem occur_fab (s : State) (code cls inst : Nat) (d4 d5 : Word) : (occur s code cls inst d4 d5).fab = s.fab := fab_of_part (occur_part .fab (by simp) s code cls inst d4 d5)
@[simp] theorem occur_img (s : State) (code cls inst : Nat) (d4 d5 : Word) : (occur s code cls inst d4 d5).img = s.img := img_of_part (occur_part .img (by simp) s code cls inst d4 d5)
@[simp] theorem occur_upd (s : State) (code cls inst : Nat) (d4 d5 : Word) : (occur s code cls inst d4 d5).upd = s.upd := upd_of_part (occur_part .upd (by simp) s code cls inst d4 d5)
@[simp] theorem event_pending (s : State) (code inst d : Nat) : (event s code inst d).pending = s.pending := pending_of_part (event_part .pending (by simp) s code inst d)
@[simp] theorem event_now (s : State) (code inst d : Nat) : (event s code inst d).now = s.now := now_of_part (event_part .now (by simp) s code inst d)
@[simp] theorem event_free (s : State) (code inst d : Nat) : (event s code inst d).free = s.free := free_of_part (event_part .free (by simp) s code inst d)
@[simp] theorem event_acc (s : State) (code inst d : Nat) : (event s code inst d).acc = s.acc := acc_of_part (event_part .acc (by simp) s code inst d)
@[simp] theorem event_regs (s : State) (code inst d : Nat) : (event s code inst d).regs = s.regs := regs_of_part (event_part .regs (by simp) s code inst d)
@[simp] theorem event_latch (s : State) (code inst d : Nat) : (event s code inst d).latch = s.latch := latch_of_part (event_part .latch (by simp) s code inst d)
@[simp] theorem event_flash (s : State) (code inst d : Nat) : (event s code inst d).flash = s.flash := flash_of_part (event_part .flash (by simp) s code inst d)
@[simp] theorem event_fur (s : State) (code inst d : Nat) : (event s code inst d).fur = s.fur := fur_of_part (event_part .fur (by simp) s code inst d)
@[simp] theorem event_flt (s : State) (code inst d : Nat) : (event s code inst d).flt = s.flt := flt_of_part (event_part .flt (by simp) s code inst d)
@[simp] theorem event_pmc (s : State) (code inst d : Nat) : (event s code inst d).pmc = s.pmc := pmc_of_part (event_part .pmc (by simp) s code inst d)
@[simp] theorem event_tgt (s : State) (code inst d : Nat) : (event s code inst d).tgt = s.tgt := tgt_of_part (event_part .tgt (by simp) s code inst d)
@[simp] theorem event_node (s : State) (code inst d : Nat) : (event s code inst d).node = s.node := node_of_part (event_part .node (by simp) s code inst d)
@[simp] theorem event_chain (s : State) (code inst d : Nat) : (event s code inst d).chain = s.chain := chain_of_part (event_part .chain (by simp) s code inst d)
@[simp] theorem event_pwr (s : State) (code inst d : Nat) : (event s code inst d).pwr = s.pwr := pwr_of_part (event_part .pwr (by simp) s code inst d)
@[simp] theorem event_jtag (s : State) (code inst d : Nat) : (event s code inst d).jtag = s.jtag := jtag_of_part (event_part .jtag (by simp) s code inst d)
@[simp] theorem event_lp (s : State) (code inst d : Nat) : (event s code inst d).lp = s.lp := lp_of_part (event_part .lp (by simp) s code inst d)
@[simp] theorem event_tbl (s : State) (code inst d : Nat) : (event s code inst d).tbl = s.tbl := tbl_of_part (event_part .tbl (by simp) s code inst d)
@[simp] theorem event_lrn (s : State) (code inst d : Nat) : (event s code inst d).lrn = s.lrn := lrn_of_part (event_part .lrn (by simp) s code inst d)
@[simp] theorem event_tcm (s : State) (code inst d : Nat) : (event s code inst d).tcm = s.tcm := tcm_of_part (event_part .tcm (by simp) s code inst d)
@[simp] theorem event_slc (s : State) (code inst d : Nat) : (event s code inst d).slc = s.slc := slc_of_part (event_part .slc (by simp) s code inst d)
@[simp] theorem event_xe (s : State) (code inst d : Nat) : (event s code inst d).xe = s.xe := xe_of_part (event_part .xe (by simp) s code inst d)
@[simp] theorem event_ell (s : State) (code inst d : Nat) : (event s code inst d).ell = s.ell := ell_of_part (event_part .ell (by simp) s code inst d)
@[simp] theorem event_bpm (s : State) (code inst d : Nat) : (event s code inst d).bpm = s.bpm := bpm_of_part (event_part .bpm (by simp) s code inst d)
@[simp] theorem event_hbm (s : State) (code inst d : Nat) : (event s code inst d).hbm = s.hbm := hbm_of_part (event_part .hbm (by simp) s code inst d)
@[simp] theorem event_sch (s : State) (code inst d : Nat) : (event s code inst d).sch = s.sch := sch_of_part (event_part .sch (by simp) s code inst d)
@[simp] theorem event_fab (s : State) (code inst d : Nat) : (event s code inst d).fab = s.fab := fab_of_part (event_part .fab (by simp) s code inst d)
@[simp] theorem event_img (s : State) (code inst d : Nat) : (event s code inst d).img = s.img := img_of_part (event_part .img (by simp) s code inst d)
@[simp] theorem event_upd (s : State) (code inst d : Nat) : (event s code inst d).upd = s.upd := upd_of_part (event_part .upd (by simp) s code inst d)
@[simp] theorem event2_pending (s : State) (code inst d e : Nat) : (event2 s code inst d e).pending = s.pending := pending_of_part (event2_part .pending (by simp) s code inst d e)
@[simp] theorem event2_now (s : State) (code inst d e : Nat) : (event2 s code inst d e).now = s.now := now_of_part (event2_part .now (by simp) s code inst d e)
@[simp] theorem event2_free (s : State) (code inst d e : Nat) : (event2 s code inst d e).free = s.free := free_of_part (event2_part .free (by simp) s code inst d e)
@[simp] theorem event2_acc (s : State) (code inst d e : Nat) : (event2 s code inst d e).acc = s.acc := acc_of_part (event2_part .acc (by simp) s code inst d e)
@[simp] theorem event2_regs (s : State) (code inst d e : Nat) : (event2 s code inst d e).regs = s.regs := regs_of_part (event2_part .regs (by simp) s code inst d e)
@[simp] theorem event2_latch (s : State) (code inst d e : Nat) : (event2 s code inst d e).latch = s.latch := latch_of_part (event2_part .latch (by simp) s code inst d e)
@[simp] theorem event2_flash (s : State) (code inst d e : Nat) : (event2 s code inst d e).flash = s.flash := flash_of_part (event2_part .flash (by simp) s code inst d e)
@[simp] theorem event2_fur (s : State) (code inst d e : Nat) : (event2 s code inst d e).fur = s.fur := fur_of_part (event2_part .fur (by simp) s code inst d e)
@[simp] theorem event2_flt (s : State) (code inst d e : Nat) : (event2 s code inst d e).flt = s.flt := flt_of_part (event2_part .flt (by simp) s code inst d e)
@[simp] theorem event2_pmc (s : State) (code inst d e : Nat) : (event2 s code inst d e).pmc = s.pmc := pmc_of_part (event2_part .pmc (by simp) s code inst d e)
@[simp] theorem event2_tgt (s : State) (code inst d e : Nat) : (event2 s code inst d e).tgt = s.tgt := tgt_of_part (event2_part .tgt (by simp) s code inst d e)
@[simp] theorem event2_node (s : State) (code inst d e : Nat) : (event2 s code inst d e).node = s.node := node_of_part (event2_part .node (by simp) s code inst d e)
@[simp] theorem event2_chain (s : State) (code inst d e : Nat) : (event2 s code inst d e).chain = s.chain := chain_of_part (event2_part .chain (by simp) s code inst d e)
@[simp] theorem event2_pwr (s : State) (code inst d e : Nat) : (event2 s code inst d e).pwr = s.pwr := pwr_of_part (event2_part .pwr (by simp) s code inst d e)
@[simp] theorem event2_jtag (s : State) (code inst d e : Nat) : (event2 s code inst d e).jtag = s.jtag := jtag_of_part (event2_part .jtag (by simp) s code inst d e)
@[simp] theorem event2_lp (s : State) (code inst d e : Nat) : (event2 s code inst d e).lp = s.lp := lp_of_part (event2_part .lp (by simp) s code inst d e)
@[simp] theorem event2_tbl (s : State) (code inst d e : Nat) : (event2 s code inst d e).tbl = s.tbl := tbl_of_part (event2_part .tbl (by simp) s code inst d e)
@[simp] theorem event2_lrn (s : State) (code inst d e : Nat) : (event2 s code inst d e).lrn = s.lrn := lrn_of_part (event2_part .lrn (by simp) s code inst d e)
@[simp] theorem event2_tcm (s : State) (code inst d e : Nat) : (event2 s code inst d e).tcm = s.tcm := tcm_of_part (event2_part .tcm (by simp) s code inst d e)
@[simp] theorem event2_slc (s : State) (code inst d e : Nat) : (event2 s code inst d e).slc = s.slc := slc_of_part (event2_part .slc (by simp) s code inst d e)
@[simp] theorem event2_xe (s : State) (code inst d e : Nat) : (event2 s code inst d e).xe = s.xe := xe_of_part (event2_part .xe (by simp) s code inst d e)
@[simp] theorem event2_ell (s : State) (code inst d e : Nat) : (event2 s code inst d e).ell = s.ell := ell_of_part (event2_part .ell (by simp) s code inst d e)
@[simp] theorem event2_bpm (s : State) (code inst d e : Nat) : (event2 s code inst d e).bpm = s.bpm := bpm_of_part (event2_part .bpm (by simp) s code inst d e)
@[simp] theorem event2_hbm (s : State) (code inst d e : Nat) : (event2 s code inst d e).hbm = s.hbm := hbm_of_part (event2_part .hbm (by simp) s code inst d e)
@[simp] theorem event2_sch (s : State) (code inst d e : Nat) : (event2 s code inst d e).sch = s.sch := sch_of_part (event2_part .sch (by simp) s code inst d e)
@[simp] theorem event2_fab (s : State) (code inst d e : Nat) : (event2 s code inst d e).fab = s.fab := fab_of_part (event2_part .fab (by simp) s code inst d e)
@[simp] theorem event2_img (s : State) (code inst d e : Nat) : (event2 s code inst d e).img = s.img := img_of_part (event2_part .img (by simp) s code inst d e)
@[simp] theorem event2_upd (s : State) (code inst d e : Nat) : (event2 s code inst d e).upd = s.upd := upd_of_part (event2_part .upd (by simp) s code inst d e)

end Sys2Proof.Machine
end

