-- ==== Sys2Proof/Laws/Agree.lean ====
section
/-! SUPPORT. Frames put together: states that agree but in some parts. -/

namespace Sys2Proof.Machine

theorem AgreeBut.refl (l : List Part) (s : State) : AgreeBut l s s := fun _ _ => rfl

theorem AgreeBut.trans {l : List Part} {s t u : State} (h : AgreeBut l s t) (k : AgreeBut l t u) : AgreeBut l s u :=
  fun p hp => (k p hp).trans (h p hp)

theorem AgreeBut.mono {l m : List Part} {s t : State} (h : AgreeBut l s t) (hm : ∀ p ∈ l, p ∈ m) : AgreeBut m s t :=
  fun p hp => h p (fun hl => hp (hm p hl))

/-- The answer of an access is written last. -/
theorem AgreeBut.acc {l : List Part} {s t : State} (hl : Part.acc ∈ l) (x : Nat × Word) (h : AgreeBut l s t) :
    AgreeBut l s { t with acc := x } :=
  fun p hp => (part_acc p (fun e => hp (e ▸ hl)) t x).trans (h p hp)

theorem AgreeBut.ite {l : List Part} {s a b : State} {c : Prop} [Decidable c] (ha : AgreeBut l s a) (hb : AgreeBut l s b) :
    AgreeBut l s (if c then a else b) := by
  split
  · exact ha
  · exact hb

end Sys2Proof.Machine
end

