-- ==== Sys2Proof/Laws/SMap.lean ====
section
/-! SUPPORT. Laws of sparse maps: what a read after a write gives, and that every write keeps the canonical form. -/

namespace Sys2Proof.Machine

variable {α : Type}

/-! ## Lookup -/

theorem smLookup_erase_same (l : List (Nat × α)) (k : Nat) : smLookup (smErase l k) k = none := by
  induction l with
  | nil => rfl
  | cons e l ih =>
    obtain ⟨j, v⟩ := e
    simp only [smErase]
    split
    · exact ih
    · simp [smLookup, *]

theorem smLookup_erase_other (l : List (Nat × α)) (k j : Nat) (h : j ≠ k) : smLookup (smErase l k) j = smLookup l j := by
  induction l with
  | nil => rfl
  | cons e l ih =>
    obtain ⟨i, v⟩ := e
    simp only [smErase]
    split
    · rename_i hi
      rw [ih, smLookup, if_neg (by omega)]
    · simp only [smLookup, ih]

theorem smLookup_insert_same (l : List (Nat × α)) (k : Nat) (v : α) (h : smLookup l k = none) : smLookup (smInsert l k v) k = some v := by
  induction l with
  | nil => simp [smInsert, smLookup]
  | cons e l ih =>
    obtain ⟨i, w⟩ := e
    simp only [smLookup] at h
    split at h
    · cases h
    · simp only [smInsert]
      split
      · simp [smLookup, *]
      · simp [smLookup]

theorem smLookup_insert_other (l : List (Nat × α)) (k j : Nat) (v : α) (h : j ≠ k) : smLookup (smInsert l k v) j = smLookup l j := by
  induction l with
  | nil => simp [smInsert, smLookup, Ne.symm h]
  | cons e l ih =>
    obtain ⟨i, w⟩ := e
    simp only [smInsert]
    split
    · simp only [smLookup, ih]
    · rw [smLookup, if_neg (by omega)]

/-- A key reads as what was put there. -/
@[simp] theorem SMap.find_put_same (m : SMap α) (k : Nat) (o : Option α) : (m.put k o).find k = o := by
  cases o with
  | none => exact smLookup_erase_same _ _
  | some v => exact smLookup_insert_same _ _ _ (smLookup_erase_same _ _)

/-- Every other key reads as before. -/
@[simp] theorem SMap.find_put_other (m : SMap α) (k j : Nat) (o : Option α) (h : j ≠ k) : (m.put k o).find j = m.find j := by
  cases o with
  | none => exact smLookup_erase_other _ _ _ h
  | some v => exact (smLookup_insert_other _ _ _ _ h).trans (smLookup_erase_other _ _ _ h)

/-- A key reads as what was written there. -/
@[simp] theorem SMap.get_set_same [DecidableEq α] (m : SMap α) (d : α) (k : Nat) (v : α) : (m.set d k v).get d k = v := by
  unfold SMap.get SMap.set
  rw [SMap.find_put_same]
  split <;> simp_all

/-- A write leaves every other key as it was. -/
@[simp] theorem SMap.get_set_other [DecidableEq α] (m : SMap α) (d e v : α) (k j : Nat) (h : j ≠ k) : (m.set d k v).get e j = m.get e j := by
  unfold SMap.get SMap.set
  rw [SMap.find_put_other _ _ _ _ h]

@[simp] theorem SMap.get_upd_same [DecidableEq α] (m : SMap α) (d : α) (k : Nat) (f : α → α) : (m.upd d k f).get d k = f (m.get d k) :=
  SMap.get_set_same _ _ _ _

@[simp] theorem SMap.get_upd_other [DecidableEq α] (m : SMap α) (d e : α) (k j : Nat) (f : α → α) (h : j ≠ k) :
    (m.upd d k f).get e j = m.get e j :=
  SMap.get_set_other _ _ _ _ _ _ h

@[simp] theorem SMap.get_empty (d : α) (k : Nat) : (({} : SMap α)).get d k = d := rfl

/-! ## The canonical form -/

/-- Every key of a list is above a bound. -/
def allAbove (lo : Nat) (l : List (Nat × α)) : Prop := ∀ e ∈ l, lo < e.1

theorem smSorted_cons (e : Nat × α) (l : List (Nat × α)) : smSorted (e :: l) = true ↔ allAbove e.1 l ∧ smSorted l = true := by
  induction l generalizing e with
  | nil => simp [smSorted, allAbove]
  | cons a l ih =>
    rw [smSorted]
    simp only [Bool.and_eq_true, decide_eq_true_eq]
    rw [ih a]
    constructor
    · rintro ⟨h1, h2, h3⟩
      refine ⟨fun x hx => ?_, h2, h3⟩
      rcases List.mem_cons.1 hx with rfl | hx
      · exact h1
      · exact Nat.lt_trans h1 (h2 x hx)
    · rintro ⟨h1, h2, h3⟩
      exact ⟨h1 a (List.mem_cons_self ..), h2, h3⟩

theorem smErase_mem (l : List (Nat × α)) (k : Nat) (e : Nat × α) (h : e ∈ smErase l k) : e ∈ l ∧ e.1 ≠ k := by
  induction l with
  | nil => cases h
  | cons a l ih =>
    obtain ⟨i, v⟩ := a
    simp only [smErase] at h
    split at h
    · exact ⟨List.mem_cons_of_mem _ (ih h).1, (ih h).2⟩
    · rcases List.mem_cons.1 h with rfl | h
      · exact ⟨List.mem_cons_self .., by assumption⟩
      · exact ⟨List.mem_cons_of_mem _ (ih h).1, (ih h).2⟩

theorem smErase_sorted (l : List (Nat × α)) (k : Nat) (h : smSorted l = true) : smSorted (smErase l k) = true := by
  induction l with
  | nil => rfl
  | cons a l ih =>
    obtain ⟨i, v⟩ := a
    rw [smSorted_cons] at h
    simp only [smErase]
    split
    · exact ih h.2
    · rw [smSorted_cons]
      exact ⟨fun e he => h.1 e (smErase_mem _ _ _ he).1, ih h.2⟩

theorem smInsert_mem (l : List (Nat × α)) (k : Nat) (v : α) (e : Nat × α) (h : e ∈ smInsert l k v) : e = (k, v) ∨ e ∈ l := by
  induction l with
  | nil => simpa [smInsert] using h
  | cons a l ih =>
    obtain ⟨i, w⟩ := a
    simp only [smInsert] at h
    split at h
    · rcases List.mem_cons.1 h with rfl | h
      · exact .inr (List.mem_cons_self ..)
      · rcases ih h with h | h
        · exact .inl h
        · exact .inr (List.mem_cons_of_mem _ h)
    · rcases List.mem_cons.1 h with rfl | h
      · exact .inl rfl
      · exact .inr h

theorem smInsert_sorted (l : List (Nat × α)) (k : Nat) (v : α) (h : smSorted l = true) (hk : ∀ e ∈ l, e.1 ≠ k) :
    smSorted (smInsert l k v) = true := by
  induction l with
  | nil => rfl
  | cons a l ih =>
    obtain ⟨i, w⟩ := a
    have h2 := (smSorted_cons _ _).1 h
    have hi : i ≠ k := hk (i, w) (List.mem_cons_self ..)
    simp only [smInsert]
    split
    · rw [smSorted_cons]
      refine ⟨fun e he => ?_, ih h2.2 (fun e he => hk e (List.mem_cons_of_mem _ he))⟩
      rcases smInsert_mem _ _ _ _ he with rfl | he
      · assumption
      · exact h2.1 e he
    · rw [smSorted_cons]
      refine ⟨fun e he => ?_, h⟩
      rcases List.mem_cons.1 he with rfl | he
      · simp only; omega
      · have := h2.1 e he; simp only at this ⊢; omega

/-- The canonical form, spelled out. -/
theorem SMap.wf_iff [DecidableEq α] (m : SMap α) (d : α) : m.wf d = true ↔ smSorted m.entries = true ∧ ∀ e ∈ m.entries, e.2 ≠ d := by
  simp [SMap.wf, SMap.sorted]

theorem SMap.wf_empty [DecidableEq α] (d : α) : (({} : SMap α)).wf d = true := rfl

/-- A write keeps the canonical form: writing what an unlisted key reads as removes the entry. -/
theorem SMap.wf_set [DecidableEq α] (m : SMap α) (d : α) (k : Nat) (v : α) (h : m.wf d = true) : (m.set d k v).wf d = true := by
  rw [SMap.wf_iff] at h ⊢
  have hs := smErase_sorted m.entries k h.1
  unfold SMap.set
  split
  · exact ⟨hs, fun e he => h.2 e (smErase_mem _ _ _ he).1⟩
  · rename_i hv
    refine ⟨smInsert_sorted _ _ _ hs (fun e he => (smErase_mem _ _ _ he).2), fun e he => ?_⟩
    rcases smInsert_mem _ _ _ _ he with rfl | he
    · exact hv
    · exact h.2 e (smErase_mem _ _ _ he).1

theorem SMap.wf_upd [DecidableEq α] (m : SMap α) (d : α) (k : Nat) (f : α → α) (h : m.wf d = true) : (m.upd d k f).wf d = true :=
  SMap.wf_set _ _ _ _ h

/-- Dropping entries keeps the canonical form. -/
theorem SMap.wf_filter [DecidableEq α] (m : SMap α) (d : α) (p : Nat → α → Bool) (h : m.wf d = true) : (m.filter p).wf d = true := by
  rw [SMap.wf_iff] at h ⊢
  obtain ⟨l⟩ := m
  obtain ⟨hs, hn⟩ := h
  refine ⟨?_, fun e he => hn e (List.mem_filter.1 he).1⟩
  change smSorted (l.filter _) = true
  change smSorted l = true at hs
  clear hn
  induction l with
  | nil => rfl
  | cons a l ih =>
    rw [smSorted_cons] at hs
    rw [List.filter_cons]
    split
    · rw [smSorted_cons]
      exact ⟨fun e he => hs.1 e (List.mem_filter.1 he).1, ih hs.2⟩
    · exact ih hs.2

end Sys2Proof.Machine
end

