-- ==== Sys2Proof/Laws/Flash.lean ====
section
/-! SUPPORT. Every operation that can write flash keeps its canonical form. An operation without a lemma here leaves flash as it is
(its frame lemma at .flash). -/

set_option linter.unusedTactic false
set_option linter.unreachableTactic false
set_option linter.unusedSimpArgs false

namespace Sys2Proof.Machine

@[simp] theorem flashErase_flash (s : State) (lo hi : Nat) (h : FlashOk (s.part .flash)) : FlashOk ((flashErase s lo hi).part .flash) := by
  have := SMap.wf_filter (α := Byte) s.flash 0xFF (fun k _ => decide (k < lo) || decide (hi ≤ k)) h
  exact this
@[simp] theorem flashProg_flash (s : State) (a : Nat) (l : List Byte) (h : FlashOk (s.part .flash)) : FlashOk ((flashProg s a l).part .flash) := by
  induction l generalizing s a with
  | nil => exact h
  | cons b l ih => exact ih _ _ (by unfold FlashOk; exact SMap.wf_set _ _ _ _ h)
/-- A fold whose steps keep the canonical form keeps it. -/
theorem flash_foldl {α : Type} (g : State → α → State) (hg : ∀ s a, FlashOk (s.part .flash) → FlashOk ((g s a).part .flash)) (l : List α)
    (s : State) (h : FlashOk (s.part .flash)) : FlashOk ((l.foldl g s).part .flash) := by
  induction l generalizing s with
  | nil => exact h
  | cons a l ih => exact ih _ (hg _ _ h)
theorem flash_forEach (g : Nat → State → State) (hg : ∀ n s, FlashOk (s.part .flash) → FlashOk ((g n s).part .flash)) (l : List Nat)
    (s : State) (h : FlashOk (s.part .flash)) : FlashOk ((forEach l g s).part .flash) := flash_foldl _ (fun s a => hg a s) _ _ h

@[simp] theorem flashProgW_flash (s : State) (a1 : Nat) (a2 : List Word) (h : FlashOk (s.part .flash)) :
    FlashOk ((flashProgW s a1 a2).part .flash) := by
  simp [flashProgW, h]
@[simp] theorem enterBlock_flash (s : State) (a1 : Bool) (a2 : Nat) (h : FlashOk (s.part .flash)) :
    FlashOk ((enterBlock s a1 a2).part .flash) := by
  unfold enterBlock
  repeat' split
  all_goals first | (simp [h]; done) | exact h
@[simp] theorem writeRecord_flash (s : State) (a1 : Bool) (h : FlashOk (s.part .flash)) : FlashOk ((writeRecord s a1).part .flash) := by
  unfold writeRecord
  dsimp only
  split
  · exact h
  · split
    · rw [count_part _ (by simp)]
      refine flashProgW_flash _ _ _ ?_
      rw [modRec_part _ (by simp)]
      simp [h]
    · simp [h]
@[simp] theorem slotErase_flash (s : State) (a1 a2 : Nat) (h : FlashOk (s.part .flash)) :
    FlashOk ((slotErase s a1 a2).part .flash) := by
  simp [slotErase, h]
@[simp] theorem ctlNext_flash (s : State) (h : FlashOk (s.part .flash)) : FlashOk ((ctlNext s).2.part .flash) := by
  unfold ctlNext
  dsimp only
  repeat' split
  all_goals first | (simp [h]; done) | exact h
@[simp] theorem ctlWrite_flash (s : State) (a1 a2 a3 : Word) (h : FlashOk (s.part .flash)) :
    FlashOk ((ctlWrite s a1 a2 a3).part .flash) := by
  simp [ctlWrite, h]
@[simp] theorem onceWrite_flash (s : State) (a1 : Bool) (a2 : Nat) (h : FlashOk (s.part .flash)) :
    FlashOk ((onceWrite s a1 a2).part .flash) := by
  simp [onceWrite, h]
@[simp] theorem offerAccept_flash (s : State) (a1 : Nat) (a2 : ChainFrame) (h : FlashOk (s.part .flash)) :
    FlashOk ((offerAccept s a1 a2).part .flash) := by
  unfold offerAccept
  dsimp only
  repeat' split
  all_goals first | (simp [h]; done) | exact h
@[simp] theorem offerTake_flash (s : State) (a1 : Nat) (a2 : ChainFrame) (h : FlashOk (s.part .flash)) :
    FlashOk ((offerTake s a1 a2).part .flash) := by
  unfold offerTake
  dsimp only
  repeat' split
  all_goals first | (simp [h]; done) | exact h
@[simp] theorem updOffer_flash (s : State) (a1 : Nat) (a2 : ChainFrame) (h : FlashOk (s.part .flash)) :
    FlashOk ((updOffer s a1 a2).part .flash) := by
  unfold updOffer
  dsimp only
  repeat' split
  all_goals first | (simp [h]; done) | exact h
@[simp] theorem updChunk_flash (s : State) (a1 : ChainFrame) (h : FlashOk (s.part .flash)) : FlashOk ((updChunk s a1).part .flash) := by
  unfold updChunk
  dsimp only
  repeat' split
  all_goals first | (simp [h]; done) | exact h
@[simp] theorem presentProg_flash (s : State) (h : FlashOk (s.part .flash)) : FlashOk ((presentProg s).part .flash) := by
  simp [presentProg, h]
@[simp] theorem updVerifyDone_flash (s : State) (h : FlashOk (s.part .flash)) : FlashOk ((updVerifyDone s).part .flash) := by
  unfold updVerifyDone
  dsimp only
  repeat' split
  all_goals first | (simp [h]; done) | exact h
@[simp] theorem tryWrite_flash (s : State) (h : FlashOk (s.part .flash)) : FlashOk ((tryWrite s).part .flash) := by
  simp [tryWrite, h]
@[simp] theorem activateNow_flash (s : State) (a1 : Bool) (h : FlashOk (s.part .flash)) : FlashOk ((activateNow s a1).part .flash) := by
  unfold activateNow
  dsimp only
  repeat' split
  all_goals first | (simp [h]; done) | exact h
@[simp] theorem updActivate_flash (s : State) (a1 : Bool) (h : FlashOk (s.part .flash)) : FlashOk ((updActivate s a1).part .flash) := by
  unfold updActivate
  repeat' split
  all_goals first | (simp [h]; done) | exact h
@[simp] theorem updArmTime_flash (s : State) (h : FlashOk (s.part .flash)) : FlashOk ((updArmTime s).part .flash) := by
  unfold updArmTime
  repeat' split
  all_goals first | (simp [h]; done) | exact h
@[simp] theorem updConfirm_flash (s : State) (h : FlashOk (s.part .flash)) : FlashOk ((updConfirm s).part .flash) := by
  unfold updConfirm
  repeat' split
  all_goals first | (simp [h]; done) | exact h
@[simp] theorem fwVerifyDone_flash (s : State) (h : FlashOk (s.part .flash)) : FlashOk ((fwVerifyDone s).part .flash) := by
  unfold fwVerifyDone
  repeat' split
  all_goals first | (simp [h]; done) | exact h
@[simp] theorem inSession_flash (s : State) (a1 : Nat) (a2 : ChainFrame) (a3 : State → State) (hf : ∀ t, FlashOk (t.part .flash) → FlashOk ((a3 t).part .flash)) (h : FlashOk (s.part .flash)) :
    FlashOk ((inSession s a1 a2 a3).part .flash) := by
  unfold inSession
  repeat' split
  · simp [h]
  · exact h
  · simp [h]
  · exact hf _ h
  · simp [h]
@[simp] theorem updFrame_flash (s : State) (a1 : Nat) (a2 : ChainFrame) (h : FlashOk (s.part .flash)) :
    FlashOk ((updFrame s a1 a2).part .flash) := by
  unfold updFrame
  split
  · exact h
  split
  · simp [h]
  split
  · simp [h]
  · simp [h]
  · exact inSession_flash _ _ _ _ (fun t ht => by simp [ht]) h
  · simp [h]
  · exact inSession_flash _ _ _ _ (fun t ht => by simp [ht]) h
  · simp [h]
  · exact inSession_flash _ _ _ _ (fun t ht => by simp [ht]) h
  · split
    · simp [h]
    · exact inSession_flash _ _ _ _ (fun t ht => by simp [ht]) h
  · exact inSession_flash _ _ _ _ (fun t ht => by split <;> simp [ht]) h
@[simp] theorem updRx_flash (a0 a1 : Nat) (a2 : ChainFrame) (s : State) (h : FlashOk (s.part .flash)) :
    FlashOk ((updRx a0 a1 a2 s).part .flash) := by
  unfold updRx
  repeat' split
  all_goals first | (simp [h]; done) | exact h
@[simp] theorem updCmdWrite_flash (s : State) (a1 : Word) (h : FlashOk (s.part .flash)) : FlashOk ((updCmdWrite s a1).part .flash) := by
  unfold updCmdWrite
  repeat' split
  all_goals first | (simp [h]; done) | exact h
@[simp] theorem writeReg_flash (s : State) (a1 : Reg) (a2 : List Nat) (a3 : Word) (h : FlashOk (s.part .flash)) :
    FlashOk ((writeReg s a1 a2 a3).1.part .flash) := by
  unfold writeReg
  dsimp only
  split
  · simp [h]
  split
  all_goals first
    | (simp [h]; done)
    | (repeat' split
       all_goals first
         | (simp [h]; done)
         | (rw [rehashGo_part _ (by simp) _ _ _ (by assumption)]; exact h)
         | (rw [lrnHcmd_part _ (by simp) _ _ _ _ (by assumption)]; exact h))
@[simp] theorem writeAt_flash (s : State) (a1 : Nat) (a2 : Word) (h : FlashOk (s.part .flash)) :
    FlashOk ((writeAt s a1 a2).1.part .flash) := by
  unfold writeAt
  repeat' split
  all_goals simp [h]
@[simp] theorem writeWord_flash (s : State) (a1 : Nat) (a2 : Role) (a3 : Bool) (a4 : Nat) (a5 : Word) (h : FlashOk (s.part .flash)) :
    FlashOk ((writeWord s a1 a2 a3 a4 a5).1.part .flash) := by
  unfold writeWord
  repeat' split
  all_goals simp [h]
@[simp] theorem withSession_flash (s : State) (a1 : State → State) (hf : ∀ t, FlashOk (t.part .flash) → FlashOk ((a1 t).part .flash)) (h : FlashOk (s.part .flash)) :
    FlashOk ((withSession s a1).part .flash) := by
  unfold withSession
  repeat' split
  · exact h
  · exact h
  · exact hf _ h
@[simp] theorem sessWrite_flash (s : State) (a1 : Nat) (a2 : Role) (a3 : Nat) (a4 : Word) (h : FlashOk (s.part .flash)) :
    FlashOk ((sessWrite s a1 a2 a3 a4).part .flash) := by
  unfold sessWrite
  exact withSession_flash _ _ (fun t ht => by simp [ht]) h
@[simp] theorem ownWrite_flash (s : State) (a1 : Nat) (a2 : Reg) (a3 : List Nat) (a4 : Word) (h : FlashOk (s.part .flash)) :
    FlashOk ((ownWrite s a1 a2 a3 a4).part .flash) := by
  simp [ownWrite, h]
@[simp] theorem sessWrites_flash (s : State) (a1 a2 : Nat) (a3 : List Word) (h : FlashOk (s.part .flash)) :
    FlashOk ((sessWrites s a1 a2 a3).part .flash) := by
  unfold sessWrites
  refine withSession_flash _ _ (fun t ht => ?_) h
  have h1 : ∀ (l : List Word) (x : State × Nat), FlashOk (x.1.part .flash) → FlashOk ((l.foldl (fun (y : State × Nat) w =>
      let z := writeWord y.1 a1 .owner false a2 w
      (z.1, if y.2 = stOk then z.2 else y.2)) x).1.part .flash) := by
    intro l
    induction l with
    | nil => exact fun _ hx => hx
    | cons w l ih => exact fun x hx => ih _ (by simp [hx])
  have h2 := h1 a3 (t, stOk) ht
  simp [h2]
@[simp] theorem tbWrite_flash (s : State) (a1 a2 : Nat) (h : FlashOk (s.part .flash)) : FlashOk ((tbWrite s a1 a2).part .flash) := by
  simp [tbWrite, h]
@[simp] theorem bootChoose_flash (s : State) (h : FlashOk (s.part .flash)) : FlashOk ((bootChoose s).part .flash) := by
  unfold bootChoose
  dsimp only
  repeat' split
  all_goals simp [h]
@[simp] theorem bootWrite_flash (s : State) (a1 : Nat × Word) (h : FlashOk (s.part .flash)) :
    FlashOk ((bootWrite s a1).part .flash) := by
  unfold bootWrite
  repeat' split
  all_goals simp [h]
@[simp] theorem initWrite_flash (s : State) (a1 : Nat × Word) (h : FlashOk (s.part .flash)) :
    FlashOk ((initWrite s a1).part .flash) := by
  unfold initWrite
  repeat' split
  all_goals simp [h]
@[simp] theorem bootSection_flash (s : State) (a1 a2 : Nat) (h : FlashOk (s.part .flash)) :
    FlashOk ((bootSection s a1 a2).part .flash) := by
  exact flash_foldl _ (fun t w ht => bootWrite_flash _ _ ht) _ _ h
@[simp] theorem bootTables_flash (s : State) (a1 : Nat) (h : FlashOk (s.part .flash)) : FlashOk ((bootTables s a1).part .flash) := by
  simp [bootTables, h]
@[simp] theorem bootUcode_flash (s : State) (a1 : Nat) (h : FlashOk (s.part .flash)) : FlashOk ((bootUcode s a1).part .flash) := by
  unfold bootUcode
  dsimp only
  split
  · refine bootSection_flash _ _ _ ?_
    rw [modImg_part _ (by simp), part_forEach _ _ (fun k u => by split <;> simp)]
    exact h
  · simp [h]
@[simp] theorem bootWriteAll_flash (s : State) (a1 : Nat) (h : FlashOk (s.part .flash)) :
    FlashOk ((bootWriteAll s a1).part .flash) := by
  unfold bootWriteAll
  refine flash_foldl _ (fun t w ht => initWrite_flash _ _ ht) _ _ ?_
  refine bootSection_flash _ _ _ (bootSection_flash _ _ _ (bootSection_flash _ _ _ (bootSection_flash _ _ _ ?_)))
  rw [writeLists_part _ (by simp)]
  refine bootUcode_flash _ _ ?_
  rw [bootBanks_part _ (by simp)]
  refine bootTables_flash _ _ (bootSection_flash _ _ _ ?_)
  rw [part_forEach _ _ (fun n u => by simp)]
  exact h
@[simp] theorem bootEnd_flash (s : State) (a1 : Nat) (h : FlashOk (s.part .flash)) : FlashOk ((bootEnd s a1).part .flash) := by
  unfold bootEnd
  repeat' split
  all_goals first | (simp [h]; done) | exact h
@[simp] theorem carryWrite_flash (s : State) (a1 : ChainFrame) (h : FlashOk (s.part .flash)) :
    FlashOk ((carryWrite s a1).s.part .flash) := by
  unfold carryWrite
  have h1 : ∀ (l : List Nat) (c : Carried), FlashOk (c.s.part .flash) → FlashOk ((l.foldl (fun (c : Carried) i =>
      let a := wordAddr a1 i
      let r := writeWord c.s (slotOf a1) (reqRole a1) (reqStale c.s a1) a (fWord a1 i)
      c.note r.1 r.2 a []) c).s.part .flash) := by
    intro l
    induction l with
    | nil => exact fun _ hx => hx
    | cons w l ih => exact fun x hx => ih _ (by simp only [Carried.note]; split <;> simp [hx])
  have h2 := h1 (List.range a1.payload.length) { s := s, status := stOk, addr := fAddr a1, data := [] } h
  simp [h2]
@[simp] theorem writeRequest_flash (s : State) (h : FlashOk (s.part .flash)) : FlashOk ((writeRequest s).part .flash) := by
  unfold writeRequest
  repeat' split
  all_goals first | (simp [h]; done) | exact h
@[simp] theorem deliver_flash (s : State) (a1 : Nat) (a2 : ChainFrame) (h : FlashOk (s.part .flash)) :
    FlashOk ((deliver s a1 a2).part .flash) := by
  unfold deliver
  repeat' split
  all_goals first | (simp [h]; done) | exact h
@[simp] theorem ringFrame_flash (s : State) (a1 a2 : Nat) (a3 : ChainFrame) (h : FlashOk (s.part .flash)) :
    FlashOk ((ringFrame s a1 a2 a3).part .flash) := by
  unfold ringFrame
  dsimp only
  repeat' split
  all_goals first | (simp [h]; done) | exact h
@[simp] theorem frameRx_flash (s : State) (a1 : Nat) (a2 : ChainFrame) (h : FlashOk (s.part .flash)) :
    FlashOk ((frameRx s a1 a2).part .flash) := by
  unfold frameRx
  repeat' split
  all_goals first | (simp [h]; done) | exact h
@[simp] theorem rx_flash (s : State) (a1 : Nat) (a2 : ChainFrame) (h : FlashOk (s.part .flash)) :
    FlashOk ((rx s a1 a2).part .flash) := by
  unfold rx
  repeat' split
  all_goals first | (simp [h]; done) | exact h
@[simp] theorem enumRx_flash (a0 a1 : Nat) (a2 : ChainFrame) (s : State) (h : FlashOk (s.part .flash)) :
    FlashOk ((enumRx a0 a1 a2 s).part .flash) := by
  unfold enumRx
  repeat' split
  all_goals first | (simp [h]; done) | exact h

end Sys2Proof.Machine
end

