-- ==== Sys2Proof/Laws/Node.lean ====
section
/-! SUPPORT. Every operation that changes the chain address or a lease keeps them sound (NodeOk): addresses 0 to 62, and lease fields
of the widths that the chain gives them. An operation without a lemma here leaves them as they are (its frame lemma at .node). -/

namespace Sys2Proof.Machine

/-! ## Fields are as wide as their places -/

theorem bitsOf_lt (x hi lo : Nat) : bitsOf x hi lo < 2 ^ (hi + 1 - lo) := Nat.mod_lt _ (Nat.two_pow_pos _)

theorem fld_lt (w : Word) (hi lo : Nat) : fld w hi lo < 2 ^ (hi + 1 - lo) := bitsOf_lt _ _ _

theorem fSrc_lt (f : ChainFrame) : fSrc f < 128 := bitsOf_lt _ _ _

theorem fEpoch_lt (f : ChainFrame) : fEpoch f < 65536 := bitsOf_lt _ _ _

theorem serialAt_lt (f : ChainFrame) (i : Nat) : serialAt f i < 2 ^ 48 := by
  unfold serialAt
  have h1 := fld_lt (fWord f i) 15 0
  have h2 := (fWord f (i + 1)).isLt
  simp only [Nat.reduceAdd, Nat.sub_zero, Nat.reducePow] at h1 ⊢
  simp only [Nat.reducePow] at h2
  omega

/-! ## Address and leases -/

/-- The state of no address and no lease is sound. -/
theorem nodeOk_empty : NodeOk {} := by
  refine ⟨by decide, ?_, ?_⟩ <;> exact ⟨by decide, by decide, by decide, by decide, by decide, fun h => absurd rfl h⟩

theorem leaseOf_ok (s : State) (role : Nat) (h : NodeOk (s.part .node)) : LeaseOk (leaseOf s role) := by
  unfold leaseOf
  split
  · exact h.2.1
  · exact h.2.2

theorem setNodeId_node (s : State) (a : Nat) (ha : a ≤ 62) (h : NodeOk (s.part .node)) : NodeOk ((setNodeId s a).part .node) := by
  unfold setNodeId
  split
  · exact h
  · rw [modChain_part _ (by simp)]
    exact ⟨ha, h.2⟩

theorem setLease_node (s : State) (role : Nat) (l : Lease) (hl : LeaseOk l) (h : NodeOk (s.part .node)) :
    NodeOk ((setLease s role l).part .node) := by
  unfold setLease
  obtain ⟨h1, h2, h3⟩ := h
  change NodeOk (if role = 0 then { s.node with owner := l } else { s.node with tk := l })
  split
  · exact ⟨h1, hl, h3⟩
  · exact ⟨h1, h2, hl⟩

theorem hbInstall_node (s : State) (role slot prio serial epoch : Nat) (h1 : slot < 4) (h2 : prio < 16) (h3 : serial < 2 ^ 48)
    (h4 : epoch < 65536) (h : NodeOk (s.part .node)) : NodeOk ((hbInstall s role slot prio serial epoch).part .node) := by
  unfold hbInstall
  dsimp only
  rw [event2_part _ (by simp)]
  exact setLease_node _ _ _ ⟨h1, h2, h4, h3, by show (0 : Nat) < 4; omega, fun _ => rfl⟩ h

theorem heartbeat_node (s : State) (role slot prio serial epoch : Nat) (h1 : slot < 4) (h2 : prio < 16) (h3 : serial < 2 ^ 48)
    (h4 : epoch < 65536) (h : NodeOk (s.part .node)) : NodeOk ((heartbeat s role slot prio serial epoch).part .node) := by
  have hl := leaseOf_ok s role h
  have hi := hbInstall_node s role slot prio serial epoch h1 h2 h3 h4 h
  have hg : NodeOk ((hbIgnored s role slot epoch).part .node) := by
    rw [hbIgnored_part _ (by simp)]; exact h
  unfold heartbeat
  dsimp only
  split
  · split
    · exact hi
    · exact hg
  · split
    · exact setLease_node _ _ _ ⟨hl.1, hl.2.1, h4, hl.2.2.2⟩ h
    · exact hg
  · split
    · exact hi
    · exact hg

theorem leaseLost_node (s : State) (role cause : Nat) (h : NodeOk (s.part .node)) : NodeOk ((leaseLost s role cause).part .node) := by
  have hl := leaseOf_ok s role h
  have h1 : NodeOk ((setLease s role { leaseOf s role with st := .none }).part .node) :=
    setLease_node _ _ _ ⟨hl.1, hl.2.1, hl.2.2.1, hl.2.2.2.1, hl.2.2.2.2.1, fun h => absurd rfl h⟩ h
  unfold leaseLost
  dsimp only
  split
  · rw [updLeaseLost_part _ (by simp), event2_part _ (by simp)]; exact h1
  · rw [event2_part _ (by simp)]; exact h1

theorem leaseRelease_node (s : State) (role slot epoch : Nat) (h : NodeOk (s.part .node)) :
    NodeOk ((leaseRelease s role slot epoch).part .node) := by
  unfold leaseRelease
  dsimp only
  split
  · exact leaseLost_node _ _ _ h
  · exact h

theorem leaseYield_node (s : State) (role slot epoch succ : Nat) (hs : succ < 4) (h : NodeOk (s.part .node)) :
    NodeOk ((leaseYield s role slot epoch succ).part .node) := by
  have hl := leaseOf_ok s role h
  unfold leaseYield
  dsimp only
  split
  · rename_i hc
    refine setLease_node _ _ _ ⟨hl.1, hl.2.1, hl.2.2.1, hl.2.2.2.1, hs, fun _ => hl.2.2.2.2.2 ?_⟩ h
    rw [hc.1]; decide
  · exact h

theorem electionFrame_node (s : State) (f : ChainFrame) (h : NodeOk (s.part .node)) : NodeOk ((electionFrame s f).part .node) := by
  unfold electionFrame
  dsimp only
  split
  · rw [count_part _ (by simp)]; exact h
  · rename_i hc
    have hs : fSrc f - 64 < 4 := by omega
    split
    · exact heartbeat_node _ _ _ _ _ _ hs (fld_lt _ 27 24) (serialAt_lt f 1) (fEpoch_lt f) h
    · exact leaseYield_node _ _ _ _ _ (fld_lt _ 1 0) h
    · exact leaseRelease_node _ _ _ _ h
    · exact h

theorem leaseExpire_node (s : State) (role : Nat) (h : NodeOk (s.part .node)) : NodeOk ((leaseExpire s role).part .node) := by
  unfold leaseExpire
  dsimp only
  split
  · exact h
  · split
    · exact leaseLost_node _ _ _ h
    · exact h
  · split
    · exact leaseLost_node _ _ _ h
    · exact h

/-! ## Enumeration -/

theorem assignMine_node (s : State) (f : ChainFrame) (a : Nat) (ha : a ≤ 62) (h : NodeOk (s.part .node)) :
    NodeOk ((assignMine s f a).part .node) := by
  unfold assignMine
  dsimp only
  rw [unicast_part _ (by simp)]
  exact setNodeId_node _ _ ha h

theorem enumAssign_node (s : State) (f : ChainFrame) (h : NodeOk (s.part .node)) : NodeOk ((enumAssign s f).part .node) := by
  have ha := fld_lt (fWord f 2) 5 0
  unfold enumAssign
  dsimp only
  split
  · rw [count_part _ (by simp)]; exact h
  split
  · split
    · rw [count_part _ (by simp)]; exact h
    · exact assignMine_node _ _ _ (by simp only [Nat.reduceAdd, Nat.sub_zero, Nat.reducePow] at ha; omega) h
  split
  · rw [event2_part _ (by simp)]; exact setNodeId_node _ _ (by omega) h
  · exact h

theorem enumFrame_node (s : State) (f : ChainFrame) (h : NodeOk (s.part .node)) : NodeOk ((enumFrame s f).part .node) := by
  unfold enumFrame
  split
  · rw [count_part _ (by simp)]; exact h
  split
  · exact enumAssign_node _ _ h
  · exact h
  · split
    · exact setNodeId_node _ _ (by omega) h
    · rw [count_part _ (by simp)]; exact h
  · rw [modChain_part _ (by simp)]; exact h
  · rw [count_part _ (by simp)]; exact h

/-! ## Frames -/

theorem deliver_node (s : State) (port : Nat) (f : ChainFrame) (h : NodeOk (s.part .node)) : NodeOk ((deliver s port f).part .node) := by
  unfold deliver
  split
  · rw [requestRx_part _ (by simp)]; exact h
  · rw [requestRx_part _ (by simp)]; exact h
  · rw [inject_part _ (by simp)]; exact h
  · exact enumFrame_node _ _ h
  · exact electionFrame_node _ _ h
  · split
    · rw [updFrame_part _ (by simp)]; exact h
    · exact h
  · exact h

theorem ringFrame_node (s : State) (port ring : Nat) (f : ChainFrame) (h : NodeOk (s.part .node)) :
    NodeOk ((ringFrame s port ring f).part .node) := by
  have hc : ∀ a b, NodeOk ((count s a b).part .node) := fun a b => by rw [count_part _ (by simp)]; exact h
  have hf : NodeOk ((bcastPass (forward s ring (walkAppend s f)) f).2.part .node) := by
    rw [bcastPass_part _ (by simp), forward_part _ (by simp)]; exact h
  unfold ringFrame
  dsimp only
  split
  · exact hc _ _
  split
  · exact hc _ _
  split
  · exact h
  split
  · split
    · exact deliver_node _ _ _ hf
    · exact hf
  split
  · exact deliver_node _ _ _ h
  · rw [forward_part _ (by simp)]; exact h

theorem frameRx_node (s : State) (port : Nat) (f : ChainFrame) (h : NodeOk (s.part .node)) : NodeOk ((frameRx s port f).part .node) := by
  have hc : ∀ a b, NodeOk ((count s a b).part .node) := fun a b => by rw [count_part _ (by simp)]; exact h
  unfold frameRx
  split
  · exact h
  split
  · exact hc _ _
  split
  · split
    · split
      · rw [linkStatus_part _ (by simp)]; exact h
      · exact h
    · exact hc _ _
  split
  · exact hc _ _
  split
  · rw [badFcrc_part _ (by simp)]; exact h
  · exact ringFrame_node _ _ _ _ h

theorem rx_node (s : State) (port : Nat) (f : ChainFrame) (h : NodeOk (s.part .node)) : NodeOk ((rx s port f).part .node) := by
  unfold rx
  split
  · exact frameRx_node _ _ _ h
  · exact h

theorem enumRx_node (op port : Nat) (f : ChainFrame) (s : State) (h : NodeOk (s.part .node)) :
    NodeOk ((enumRx op port f s).part .node) := by
  unfold enumRx
  split
  · exact rx_node _ _ _ h
  · exact h

theorem electionRx_node (op : Nat) (f : ChainFrame) (s : State) (h : NodeOk (s.part .node)) :
    NodeOk ((electionRx op f s).part .node) := by
  unfold electionRx
  split
  · exact electionFrame_node _ _ h
  · exact h

/-! ## Resets -/

/-- RESET_N, brown-out and power-up leave no address and no lease. -/
theorem fullReset_node (s : State) (b : BootSt) : (fullReset s b).part .node = {} := by
  unfold fullReset
  dsimp only
  rw [setReg_part _ (by simp)]
  rfl

theorem pinReset_node (s : State) : NodeOk ((pinReset s).part .node) := by
  unfold pinReset
  rw [rstCause_part _ (by simp), fullReset_node]
  exact nodeOk_empty

theorem brownEnter_node (s : State) : NodeOk ((brownEnter s).part .node) := by
  unfold brownEnter
  dsimp only
  rw [rstCause_part _ (by simp), modPwr_part _ (by simp), fullReset_node]
  exact nodeOk_empty

theorem powerUp_node (s : State) : NodeOk ((powerUp s).part .node) := by
  unfold powerUp
  dsimp only
  rw [setReg_part _ (by simp), modPwr_part _ (by simp), fullReset_node]
  exact nodeOk_empty

end Sys2Proof.Machine
end

