-- ==== Sys2Proof/Laws/Pcs.lean ====
section
/-! SUPPORT. Sizes in the PCS and the FEC (R130): a message gets 30 parity symbols, and four blocks become one of 257 bits. -/

namespace Sys2Proof.Machine

/-- The generator polynomial has degree 30. -/
theorem rsGen_length : rsGen.length = 31 := by decide +kernel

/-- Every message gets 30 parity symbols. -/
@[simp] theorem rsParity_length (m : List Nat) : (rsParity m).length = 30 := by
  have step : ∀ (m r : List Nat), r.length = 30 →
      (m.foldl (fun r c => ((r.drop 1) ++ [0]).zipWith (· ^^^ ·) ((rsGen.drop 1).map (gfMul (c ^^^ r.headD 0)))) r).length = 30 := by
    intro m
    induction m with
    | nil => intro r h; exact h
    | cons c m ih => intro r h; exact ih _ (by simp [rsGen_length, h])
  exact step m _ (by simp)

/-- A codeword is 30 symbols longer than its message. -/
@[simp] theorem rsWord_length (m : List Nat) : (rsWord m).length = m.length + 30 := by simp [rsWord]

/-- A flow that cannot yet fill a codeword sends none. -/
theorem fecCut_short (g : PcsForm) (n : Nat) (x : FecTx) (h : x.bits.length < 5140 * g.words) : fecCut g n x = x := by
  cases n with
  | zero => rfl
  | succ n => simp [fecCut, h]

end Sys2Proof.Machine
end

