-- ==== Sys2Proof/Laws/Regs.lean ====
section
/-! SUPPORT. Read after write for registers, counters, fault registers and fences, and for the fields of a word. -/

namespace Sys2Proof.Machine

@[simp] theorem regRaw_setReg_same (s : State) (r : Reg) (idx : List Nat) (v : Word) : regRaw (setReg s r idx v) r idx = v := by
  simp [regRaw, setReg]

theorem regRaw_setReg_other (s : State) (r q : Reg) (idx jdx : List Nat) (v : Word) (h : q.addr jdx ≠ r.addr idx) :
    regRaw (setReg s r idx v) q jdx = regRaw s q jdx := by
  simp [regRaw, setReg, h]

theorem regRaw_congr {s t : State} (h : t.regs = s.regs) (r : Reg) (idx : List Nat) : regRaw t r idx = regRaw s r idx := by
  simp [regRaw, h]

@[simp] theorem ctrAt_bumpN_same (s : State) (a n : Nat) : ctrAt (bumpN s a n) a = (ctrAt s a).add n := by
  simp [ctrAt, bumpN]

theorem ctrAt_bumpN_other (s : State) (a b n : Nat) (h : b ≠ a) : ctrAt (bumpN s a n) b = ctrAt s b := by
  simp [ctrAt, bumpN, h]

@[simp] theorem ctrAt_count_same (s : State) (b o : Nat) : ctrAt (count s b o) (cOff b o) = (ctrAt s (cOff b o)).add 1 :=
  ctrAt_bumpN_same s _ 1

@[simp] theorem fltOf_setFlt_same (s : State) (b : Nat) (r : FltRegs) : fltOf (setFlt s b r) b = r := by
  simp [fltOf, setFlt]

@[simp] theorem isFenced_setFenced_same (s : State) (b u : Nat) (x : Bool) : isFenced (setFenced s b u x) b u = x := by
  simp [isFenced, setFenced]

/-! ## Fields of a word -/

/-- Bit i of a field. -/
theorem testBit_fld (w : Word) (hi lo i : Nat) : (fld w hi lo).testBit i = (decide (i < hi + 1 - lo) && w.getLsbD (i + lo)) := by
  simp [fld, bitsOf, Nat.testBit_mod_two_pow, Nat.testBit_shiftRight, BitVec.getLsbD, Nat.add_comm]

/-- Bit i of the word that holds `v` in a field. -/
theorem getLsbD_mkF (hi lo v i : Nat) :
    (mkF hi lo v).getLsbD i = (decide (i < 32) && decide (lo ≤ i) && decide (i < hi + 1) && v.testBit (i - lo)) := by
  simp only [mkF, BitVec.getLsbD_ofNat, Nat.testBit_shiftLeft, Nat.testBit_mod_two_pow]
  by_cases h1 : i < 32 <;> by_cases h2 : lo ≤ i <;> by_cases h3 : i < hi + 1 <;> simp [h1, h2, h3] <;> omega

/-- Bit i of a field's mask. -/
theorem getLsbD_fmask (hi lo i : Nat) : (fmask hi lo).getLsbD i = (decide (i < 32) && decide (lo ≤ i) && decide (i < hi + 1)) := by
  rw [fmask, getLsbD_mkF, Nat.testBit_two_pow_sub_one]
  by_cases h1 : i < 32 <;> by_cases h2 : lo ≤ i <;> by_cases h3 : i < hi + 1 <;> simp [h1, h2, h3]; omega

/-- Bit i of a word with a field set. -/
theorem getLsbD_setFld (w : Word) (hi lo v i : Nat) :
    (setFld w hi lo v).getLsbD i = (if lo ≤ i ∧ i < hi + 1 then decide (i < 32) && v.testBit (i - lo) else w.getLsbD i) := by
  simp only [setFld, BitVec.getLsbD_or, BitVec.getLsbD_and, BitVec.getLsbD_not, getLsbD_fmask, getLsbD_mkF]
  by_cases h1 : i < 32
  · by_cases h2 : lo ≤ i <;> by_cases h3 : i < hi + 1 <;> simp [h1, h2, h3]
  · have : w.getLsbD i = false := BitVec.getLsbD_of_ge w i (by omega)
    simp [h1, this]

/-- A field that has been set reads back. -/
theorem fld_setFld_same (w : Word) (hi lo v : Nat) (h : hi < 32) : fld (setFld w hi lo v) hi lo = v % 2 ^ (hi + 1 - lo) := by
  apply Nat.eq_of_testBit_eq
  intro i
  rw [testBit_fld, getLsbD_setFld, Nat.testBit_mod_two_pow]
  by_cases h1 : i < hi + 1 - lo
  · have h2 : lo ≤ i + lo ∧ i + lo < hi + 1 := by omega
    have h3 : i + lo < 32 := by omega
    simp [h1, h2, h3]
  · simp [h1]

/-- Setting a field leaves a field that does not meet it. -/
theorem fld_setFld_other (w : Word) (hi lo v a b : Nat) (h : a < lo ∨ hi < b) : fld (setFld w hi lo v) a b = fld w a b := by
  apply Nat.eq_of_testBit_eq
  intro i
  rw [testBit_fld, testBit_fld, getLsbD_setFld]
  by_cases h1 : i < a + 1 - b
  · have h2 : ¬ (lo ≤ i + b ∧ i + b < hi + 1) := by omega
    rw [if_neg h2]
  · simp [h1]

@[simp] theorem rb_setRB_same (s : State) (r : Reg) (idx : List Nat) (i : Nat) (b : Bool) (h : i < 32) :
    rb (setRB s r idx i b) r idx i = b := by
  simp only [rb, rf, setRB, setRF, regRaw_setReg_same]
  rw [fld_setFld_same _ _ _ _ h]
  cases b <;> simp

@[simp] theorem rf_setRF_same (s : State) (r : Reg) (idx : List Nat) (hi lo v : Nat) (h : hi < 32) :
    rf (setRF s r idx hi lo v) r idx hi lo = v % 2 ^ (hi + 1 - lo) := by
  simp only [rf, setRF, regRaw_setReg_same]
  exact fld_setFld_same _ _ _ _ h

end Sys2Proof.Machine
end

