-- ==== Sys2Proof/WellFormed.lean ====
section
/-! DEFINITION. Well-formed commands: what the operands' types leave open. -/

namespace Sys2Proof

/-- A frame's payload is at most 512 words (R59). -/
def frameWf (f : ChainFrame) : Bool := decide (f.payload.length ≤ 512)

/-- A write request carries 1 to 64 words (R69). -/
def wordsWf (l : List Word) : Bool := decide (1 ≤ l.length) && decide (l.length ≤ 64)

/-- A group has one to sixteen OTUC slices (Table 5.1, R159). -/
def otucWf (f : OtucFrame) : Bool := decide (1 ≤ f.slices.length) && decide (f.slices.length ≤ 16)

/-- A place of a flit is named once. -/
def placesWf {n : Nat} (l : List (Fin n)) : Bool := l.eraseDups.length == l.length

/-- Eight transcoded blocks are 256 B (R421). -/
def cellWf (c : FabCell) : Bool := c.bytes.length == 256

/-- 24 sensors on the F-die and 16 on the Q-die (R530). -/
def sensorsWf (f q : List (BitVec 16)) : Bool := f.length == 24 && q.length == 16

/-- A command is well formed. -/
def Instr.wf : Instr → Bool
  | .registerWrite .. => true
  | .rcRead .. => true
  | .counterLowRead .. => true
  | .counterWrite .. => true
  | .tbNsLoRead .. => true
  | .ppsCapLoRead .. => true
  | .accessGateTimeout .. => true
  | .xdomStall .. => true
  | .furlongGo .. => true
  | .furlongGoAt .. => true
  | .furlongCancel .. => true
  | .furlongSealComplete => true
  | .furlongArm => true
  | .furlongBoundary => true
  | .chainFrameRx _ f => frameWf f
  | .bcastFilterLapse .. => true
  | .idChangeHoldoffEnd => true
  | .chainPortTx .. => true
  | .chainRequestRx _ f => frameWf f
  | .readRequest => true
  | .writeRequest => true
  | .pktchSend .. => true
  | .packetFromHost f => frameWf f
  | .injectTimeout .. => true
  | .linkStatusSend => true
  | .linkStatusRx .. => true
  | .sideStableTimer .. => true
  | .sideJoinTimeout .. => true
  | .sideLsTimeout .. => true
  | .chainLockLoss .. => true
  | .enumWalk _ f => frameWf f
  | .enumAssign _ f => frameWf f
  | .enumClear _ f => frameWf f
  | .enumRing _ f => frameWf f
  | .leaseHeartbeat f => frameWf f
  | .leaseRelease f => frameWf f
  | .leaseYield f => frameWf f
  | .leaseTimerExpire .. => true
  | .keyRevoke .. => true
  | .bootSelWrite .. => true
  | .sliceLoad .. => true
  | .sliceUnload .. => true
  | .sliceLoadDone .. => true
  | .steerWrite .. => true
  | .barrierOpen .. => true
  | .drainComplete .. => true
  | .applyHitless .. => true
  | .applyCold .. => true
  | .applyStop .. => true
  | .applyPhaseDone => true
  | .grpModeWrite .. => true
  | .portEnable .. => true
  | .portDisable .. => true
  | .anComplete .. => true
  | .anTimeout .. => true
  | .trainComplete .. => true
  | .trainTimeout .. => true
  | .syncStable .. => true
  | .syncTimeout .. => true
  | .linkFault .. => true
  | .holdoffExpire .. => true
  | .partnerDetect .. => true
  | .macFrameRx _ b _ => !b.isEmpty
  | .macFrameTx .. => true
  | .txtsHdrRead .. => true
  | .degSerWindow _ _ syms _ _ => decide (syms.length ≤ 8)
  | .synceLaneLoss .. => true
  | .synceRelock .. => true
  | .synceCfgWrite .. => true
  | .fasSighting .. => true
  | .candidateCheck .. => true
  | .lockedFrameCheck .. => true
  | .mfAlignTimeout .. => true
  | .otucFrameRx _ f => otucWf f
  | .otucFrameTx o => decide (o.opu.length ≤ 16)
  | .defectIntegrationTimer .. => true
  | .degSecond .. => true
  | .ttiRxRead .. => true
  | .headDeal .. => true
  | .headStage .. => true
  | .headStage23Exit .. => true
  | .mergeRelease .. => true
  | .puntPortRelease .. => true
  | .returnEntry .. => true
  | .returnForce .. => true
  | .admitReportRx => true
  | .sliceFence .. => true
  | .fenceEchoRx => true
  | .failoverStage => true
  | .replayComplete .. => true
  | .jrnlDomainFail .. => true
  | .tblCmdWinWrite _ w => wordsWf w
  | .tblNop => true
  | .tblInsert => true
  | .tblUpsert => true
  | .tblDelete => true
  | .tblWrite => true
  | .tblRead => true
  | .tblSigCheck => true
  | .routeRowFree => true
  | .tblFailFifoRead .. => true
  | .sigSweep .. => true
  | .emRehashGo .. => true
  | .emRehashAbort .. => true
  | .rehashCursorStep .. => true
  | .learnApply .. => true
  | .lrnInsertStatic .. => true
  | .lrnInsertDynamic .. => true
  | .lrnDelete .. => true
  | .lrnReadKey .. => true
  | .lrnReadIndex .. => true
  | .lrnFlushLoc .. => true
  | .lrnFlushDyn .. => true
  | .lrnFlushDone .. => true
  | .lrnNotifyRead .. => true
  | .lrnScanVisit .. => true
  | .lrnCopyGo .. => true
  | .lrnCopyStop .. => true
  | .lrnCopyDone => true
  | .tcmCmdWinWrite _ w => wordsWf w
  | .tcmNop => true
  | .tcmWrite => true
  | .tcmClear => true
  | .tcmRead => true
  | .tcmData => true
  | .bulkBegin => true
  | .bulkEnd => true
  | .tcmSearch => true
  | .bulkCheckStep => true
  | .tcmScrubRow .. => true
  | .tcmSuspectWindow => true
  | .tcmCopyRow .. => true
  | .tcmBankFence .. => true
  | .tcmAliasWrite .. => true
  | .tcmFailFifoRead .. => true
  | .xeDispatch => true
  | .xeReturn .. => true
  | .xeSend .. => true
  | .xeDrop .. => true
  | .xeRetire .. => true
  | .xeQwaitExpire .. => true
  | .xeThreadOverlimit .. => true
  | .xeLagWindow => true
  | .xeEngineFence .. => true
  | .xeRecDomainFail .. => true
  | .xeUcodeLoad .. => true
  | .xeClusterDrained => true
  | .xeUcodeWritten => true
  | .xeClassWrite .. => true
  | .ellFlitTx .. => true
  | .ellFlitRx _ h l => placesWf h && placesWf l
  | .ellNakRepeat .. => true
  | .ellLaneBad .. => true
  | .ellFullSearchDone .. => true
  | .ellTrainTimeout .. => true
  | .ellRetrainDone .. => true
  | .ellClockLoss .. => true
  | .ellSleepWrite .. => true
  | .ellSleepEnter .. => true
  | .ellWake .. => true
  | .ellWakeDone .. => true
  | .ellBodyAge .. => true
  | .ellLaneSearchDone .. => true
  | .admitPointer .. => true
  | .mcOffer .. => true
  | .hbmRecordWrite .. => true
  | .hbmWriteDone .. => true
  | .hbmReadAhead .. => true
  | .hbmReadDone .. => true
  | .mcgWrite .. => true
  | .hbmBankIdle .. => true
  | .hbmRefresh .. => true
  | .hbmTempRead .. => true
  | .hbmLagWindow => true
  | .hbmErrWindow => true
  | .hbmTrainDone .. => true
  | .hbmRetrainStart .. => true
  | .hbmRetrainDone .. => true
  | .hbmChannelFence .. => true
  | .hbmStackPowerOff .. => true
  | .hbmStackPowerOn .. => true
  | .hbmChReopen .. => true
  | .schDequeue .. => true
  | .schNodeWrite .. => true
  | .schMapWrite .. => true
  | .schReseed .. => true
  | .schLinkChange .. => true
  | .schHoldExpire .. => true
  | .schFlushDone .. => true
  | .fabTxSelect => true
  | .tbNone .. => true
  | .tbStep .. => true
  | .tbSlew .. => true
  | .tbCancelSlew .. => true
  | .tbSetNow .. => true
  | .tbSetAtPps .. => true
  | .tbCmdApply => true
  | .ppsEdge => true
  | .ppsTimeout => true
  | .slewDone => true
  | .tbSrcWrite .. => true
  | .timeRefLoss => true
  | .timeRefLock => true
  | .gateSwitch .. => true
  | .gateEntryAdvance .. => true
  | .gclWrite .. => true
  | .gateCfgWrite .. => true
  | .fabLaneEnable .. => true
  | .fabLaneDisable .. => true
  | .fabLaneTrained .. => true
  | .fabLaneTrainTimeout .. => true
  | .fabLaneDelinStable .. => true
  | .fabLaneDelinTimeout .. => true
  | .fabLaneLoss .. => true
  | .fabLaneHoldoffEnd .. => true
  | .fabCellTx => true
  | .fabCellRx _ c => cellWf c
  | .fabMsgReq .. => true
  | .fabMsgCredit .. => true
  | .fabMsgAck .. => true
  | .fabMsgNak .. => true
  | .fabMsgPend .. => true
  | .fabMsgSync .. => true
  | .fabMsgSyncAck .. => true
  | .fabMsgResync .. => true
  | .fabMsgHeartbeat .. => true
  | .fabReqRefresh => true
  | .fabCreditGrant .. => true
  | .fabAckTimer .. => true
  | .fabNakTimer .. => true
  | .fabAckTimeout .. => true
  | .fabReorderTimeout .. => true
  | .fabMarkerExpire .. => true
  | .fabSyncTimer .. => true
  | .fabUnreachTimer .. => true
  | .fabHeartbeatTimer .. => true
  | .fabLagWindow => true
  | .fabPlaneFail .. => true
  | .fabPlaneReady .. => true
  | .fabProbeDone .. => true
  | .fabReprobeTimer .. => true
  | .fabSwitch .. => true
  | .fabSwitchEnd => true
  | .fabDownA .. => true
  | .fabDownB .. => true
  | .fabClearA .. => true
  | .fabClearB .. => true
  | .fabLaneRejoin .. => true
  | .fabPeerEnWrite .. => true
  | .twinActInRise .. => true
  | .twinActInLow .. => true
  | .twinClaimTimer .. => true
  | .twinConfirm .. => true
  | .twinClaim .. => true
  | .twinRelease .. => true
  | .faultRise .. => true
  | .faultOccurrenceExpire .. => true
  | .fltStickyWrite .. => true
  | .fltFirstWrite .. => true
  | .devUnfence .. => true
  | .eventOccurrence .. => true
  | .reportSend => true
  | .recFlush .. => true
  | .recSave .. => true
  | .opSecTick => true
  | .flashRecordWrite .. => true
  | .recRdIdxWrite .. => true
  | .recSlotReadDone => true
  | .pmcSetGo .. => true
  | .pmcCopyDone .. => true
  | .pmcEntryWrite .. => true
  | .updOffer _ f => frameWf f
  | .updChunk _ f => frameWf f
  | .updEnd _ f => frameWf f
  | .updAbort _ f => frameWf f
  | .updArm _ f => frameWf f
  | .updDisarm _ f => frameWf f
  | .updAnswerRx _ f => frameWf f
  | .updChunkAckRx _ f => frameWf f
  | .updResultRx _ f => frameWf f
  | .updVerifyDone => true
  | .updIdleTimeout => true
  | .updChunkAckTimer => true
  | .updActivate .. => true
  | .updConfirm .. => true
  | .updCmdAbort .. => true
  | .updRestart .. => true
  | .updConfirmExpire => true
  | .updArmTime => true
  | .updRelayGo .. => true
  | .updRelayTimeout => true
  | .fwReady => true
  | .fwReadyTimeout => true
  | .feedQualified .. => true
  | .feedUndervolt .. => true
  | .feedOvervolt .. => true
  | .feedInRange .. => true
  | .brownoutEnter => true
  | .brownoutExit => true
  | .domSwitchOn .. => true
  | .domSwitchOff .. => true
  | .domSwitchDone .. => true
  | .domTrip .. => true
  | .thermSample f q => sensorsWf f q
  | .powerSample .. => true
  | .refInputLoss .. => true
  | .refInputReturn .. => true
  | .sysrefPresent => true
  | .powerOn => true
  | .resetNAssert => true
  | .resetNRelease .. => true
  | .mainRailsUp => true
  | .storeClearDone => true
  | .bootTunVerified => true
  | .bootSectionsWritten => true
  | .jtagBypass => true
  | .jtagIdcode => true
  | .jtagSamplePreload .. => true
  | .jtagExtest .. => true
  | .trstNAssert => true
  | .chainBlockLock .. => true
  | .fwVerifyDone => true
  | .fabEnWrite .. => true
  | .twinEnWrite .. => true

end Sys2Proof
end

