-- ==== Sys2Proof/Tests/Slice0.lean ====
section
/-! SUPPORT. Small tests: a state of a running device, states and operands that meet the hypotheses of each statement, and examples of
the spec. -/

namespace Sys2Proof.Tests

open Sys2Proof Sys2Proof.Machine

set_option Elab.async false
set_option linter.unusedVariables false

/-- A map that holds true for the first n keys. -/
def onMap (n : Nat) : SMap Bool := (List.range n).foldl (fun m k => m.set false k true) {}

/-- A device after its boot, in traffic, with address 1, whose slot 0 holds both leases. -/
def up : State := { State.reset with
  pwr := { boot := { sysref := true, rails := true, fw := some 0, fwReady := true, cleared := true, tun := some 0, done := true }
           fclk := true, qclk := true, hbmLock := onMap 4, lpll := onMap 16 }
  fur := { direct := false }
  node := { addr := 1
            owner := { st := .live, slot := 0, epoch := 1, recorded := true, deadline := 250000000 }
            tk := { st := .live, slot := 0, epoch := 1, recorded := true, deadline := 250000000 } }
  chain := { lock := onMap 4 } }

/-- An IDLE cell of device 1 to itself. -/
def idleCell : List Byte := beBytes 16 0x804040000000000000178c248260c35a ++ List.replicate 240 0
/-- A DATA cell with a header and the one payload byte 7. -/
def dataCell (h : Nat) : List Byte := beBytes 16 h ++ 7 :: List.replicate 239 0
/-- A CTRL cell of device 255 to itself with one REQ of port 127, class 3, total 2^32 - 1. -/
def reqCell : List Byte :=
  beBytes 16 0x7fffd000002000000010fc8853803c89 ++ beBytes 16 0x11ff00000000000000000000ffffffff ++ List.replicate 224 0

/-! ## Frames and long maps of the examples -/

/-- Bits folded into a number stay below its width. -/
theorem foldl_bits_lt (l : List Bool) : ∀ a n : Nat, a < 2 ^ n → l.foldl (fun a b => 2 * a + b.toNat) a < 2 ^ (n + l.length) := by
  induction l with
  | nil => intro a n h; simpa using h
  | cons b r ih =>
    intro a n h
    have hb : b.toNat ≤ 1 := Bool.toNat_le b
    have := ih (2 * a + b.toNat) (n + 1) (by rw [Nat.pow_succ]; omega)
    simpa [Nat.add_assoc, Nat.add_comm 1] using this

/-- The low n bits are n bits. -/
theorem lsbBits_length (n x : Nat) : (lsbBits n x).length = n := by
  induction n generalizing x with
  | zero => rfl
  | succ n ih => simp [lsbBits, ih]

/-- A CRC-32 has 32 bits. -/
theorem crc32_lt (l : List Byte) : crc32 l < 2 ^ 32 := by
  unfold crc32 revBits
  refine Nat.xor_lt_two_pow ?_ (by decide)
  have := foldl_bits_lt (lsbBits 32 (crcBits 32 0x04C11DB7 0xFFFFFFFF (l.flatMap (fun b => lsbBits 8 b.toNat)))) 0 0 (by decide)
  rwa [lsbBits_length] at this

/-- A CRC whose register is a numeral after each bit, so that the kernel evaluates it over a whole cell. -/
def crcRun (w poly : Nat) : List Bool → Nat → Nat
  | [], c => c
  | b :: r, c => match crcBit w poly c b with
    | 0 => crcRun w poly r 0
    | n + 1 => crcRun w poly r (n + 1)

/-- It is the CRC. -/
theorem crcRun_eq (w poly : Nat) (l : List Bool) : ∀ c, crcRun w poly l c = l.foldl (crcBit w poly) c := by
  induction l with
  | nil => intro c; rfl
  | cons b r ih =>
    intro c
    rw [crcRun, List.foldl_cons]
    cases h : crcBit w poly c b <;> exact ih _

/-- CRC-32 so evaluated. -/
theorem crc32_run (l : List Byte) :
    crc32 l = revBits 32 (crcRun 32 0x04C11DB7 (l.flatMap (fun b => lsbBits 8 b.toNat)) 0xFFFFFFFF) ^^^ 0xFFFFFFFF := by
  rw [crc32, crcBits, crcRun_eq]

/-- The check of a cell's payload so evaluated. -/
theorem bodyGood_run (c : List Byte) (r : Bool) (h : (revBits 32 (crcRun 32 0x04C11DB7 ((c.drop 16).flatMap (fun b => lsbBits 8 b.toNat)) 0xFFFFFFFF) ^^^ 0xFFFFFFFF
    == bitsOf (cellHead c) 52 21) = r) : bodyGood c = r := by
  rw [bodyGood, crc32_run, h]

/-- The header as FCRC covers it. -/
def crcView (h : BitVec 128) : BitVec 128 := hset (hset (hset h 119 112 0) 122 121 0) 15 0 0

/-- A sealed frame passes its check, whatever its payload holds. -/
theorem frameOk_seal {g : ChainFrame} (h1 : crcView (sealFrame g).hdr = crcView g.hdr) (h2 : fLen (sealFrame g) = g.payload.length) :
    frameOk (sealFrame g) = true := by
  have h3 : (sealFrame g).fcrc.toNat = fcrcOf (sealFrame g).hdr g.payload := by
    show fcrcOf g.hdr g.payload % 2 ^ 32 = _
    unfold fcrcOf
    rw [Nat.mod_eq_of_lt (crc32_lt _)]
    have e : ∀ x y : BitVec 128, x = y → crc32 (beBytes 16 x.toNat ++ g.payload.flatMap (fun w => beBytes 4 w.toNat)) =
        crc32 (beBytes 16 y.toNat ++ g.payload.flatMap (fun w => beBytes 4 w.toNat)) := by intro x y h; rw [h]
    exact e _ _ h1.symm
  have h4 : (sealFrame g).payload = g.payload := rfl
  unfold frameOk
  rw [h2, h3, h4]
  simp

/-- Two words that hold a serial hold it. -/
theorem serialAt_words (n : Nat) (h : n < 2 ^ 48) (f : ChainFrame) (c : Word) (hp : f.payload = [lo32 (n / 2 ^ 32), lo32 n, c]) :
    serialAt f 0 = n := by
  have : serialAt f 0 = fld (lo32 (n / 2 ^ 32)) 15 0 * 2 ^ 32 + (lo32 n).toNat := by simp [serialAt, fWord, hp]
  rw [this]
  simp only [fld, bitsOf, lo32, BitVec.toNat_ofNat, Nat.shiftRight_zero]
  omega

/-- The next serial is another one. -/
theorem serial_next {f : ChainFrame} {c : Word}
    (hp : f.payload = [lo32 ((serialNat + 1) % 2 ^ 48 / 2 ^ 32), lo32 ((serialNat + 1) % 2 ^ 48), c]) : serialAt f 0 ≠ serialNat := by
  rw [serialAt_words ((serialNat + 1) % 2 ^ 48) (Nat.mod_lt _ (by decide)) f c hp]
  have : serialNat < 2 ^ 48 := Config.serial.isLt
  omega

/-- 16,384 staged node words. -/
def fullOpen : SMap Word := ⟨(List.range 16384).map (fun i => (2 ^ 40 + i, 1))⟩

/-- A key that a list of entries does not hold is not found. -/
theorem smLookup_none {α : Type} (l : List (Nat × α)) (k : Nat) (h : ∀ e ∈ l, e.1 ≠ k) : smLookup l k = none := by
  induction l with
  | nil => rfl
  | cons e r ih =>
    simp only [smLookup]
    rw [if_neg (h e (by simp)), ih (fun x hx => h x (by simp [hx]))]

/-- The staged words of `fullOpen` lie beyond key 2^40. -/
theorem fullOpen_find (k : Nat) (h : k < 2 ^ 40) : fullOpen.find k = none := by
  apply smLookup_none
  intro e he
  simp only [fullOpen, List.mem_map] at he
  obtain ⟨i, _, rfl⟩ := he
  show 2 ^ 40 + i ≠ k
  omega

/-- Every word of `fullOpen` is a node's. -/
theorem fullOpen_staged (s : State) (h : s.fur.opn = fullOpen) : 16384 ≤ stagedNodes s := by
  unfold stagedNodes
  rw [h]
  have e : fullOpen.keys.filter (fun k => decide (2 ^ 32 ≤ k)) = fullOpen.keys := by
    apply List.filter_eq_self.mpr
    intro k hk
    simp only [fullOpen, SMap.keys, List.map_map, List.mem_map, Function.comp] at hk
    obtain ⟨i, _, rfl⟩ := hk
    simp only [decide_eq_true_eq]
    omega
  rw [e]
  simp [fullOpen, SMap.keys]

/-- A stream whose 65,536 cells wait for their acknowledgement. -/
def fullStream : TxStream := { st := .open', cells := List.replicate 65536 { seq := 0, bytes := [], first := none } }

/-- Two full streams beside a third one fill the Firkin. -/
theorem firkin_full (s : State) (a b c : Nat) (x : TxStream) (h : s.fab.tx = ⟨[(a, fullStream), (b, fullStream), (c, x)]⟩) :
    131072 ≤ firkinUsed s := by
  unfold firkinUsed
  rw [h]
  have l : fullStream.cells.length = 65536 := List.length_replicate
  show 131072 ≤ fullStream.cells.length + (fullStream.cells.length + (x.cells.length + 0))
  rw [l]
  omega

/-- States and operands that meet the hypotheses of RefusedAccesses, clause by clause. -/
theorem witness_RefusedAccesses :
    (∃ (slot : Fin 4) (addr : Word) (s : State), served s = true ∧ definedAt s addr.toNat = false) ∧
    (∃ (slot : Fin 4) (addr : Word) (s : State), served s = true ∧ definedAt s addr.toNat = true ∧ availAddr s addr.toNat = false) ∧
    (∃ (slot : Fin 4) (role : Role) (addr : Word) (val : Word) (s : State), served s = true ∧ definedAt s addr.toNat = true ∧ holdsRole s
      slot.val role = true ∧ roleWrites role addr.toNat = true ∧ availWrite s addr.toNat = false) ∧
    (∃ (slot : Fin 4) (role : Role) (addr : Word) (val : Word) (s : State), served s = true ∧ definedAt s addr.toNat = true ∧ (holdsRole s
      slot.val role = false ∨ roleWrites role addr.toNat = false)) :=
  ⟨⟨2, 0x00000500, up, by decide +kernel⟩,
   ⟨0, 0x0D000000, { up with flt := { fatal := true } }, by decide +kernel⟩,
   ⟨0, .owner, 0x0D000000, 1, { up with flt := { fatal := true } }, by decide +kernel⟩,
   ⟨1, .owner, 0x00000418, 1, up, by decide +kernel⟩⟩

/-- States and operands that meet the hypotheses of SingleAccesses, clause by clause. -/
theorem witness_SingleAccesses :
    (∃ (slot : Fin 4) (role : Role) (addr : Word) (val : Word) (r : Reg) (idx : List Nat) (s : State), served s = true ∧ addr.toNat % 4 =
      0 ∧ regAt addr.toNat = some (r, idx) ∧ plainWrite r = true ∧ inertPort s r idx = false ∧ holdsRole s slot.val role = true ∧
      roleWrites role addr.toNat = true ∧ availAddr s addr.toNat = true) ∧
    (∃ (slot : Fin 4) (role : Role) (addr : Word) (val : Word) (r : Reg) (idx : List Nat) (s : State), served s = true ∧ addr.toNat % 4 =
      0 ∧ regAt addr.toNat = some (r, idx) ∧ inertPort s r idx = true ∧ (stWrite r = false ∨ applyRuns s = false) ∧ holdsRole s slot.val
      role = true ∧ roleWrites role addr.toNat = true ∧ availAddr s addr.toNat = true) ∧
    (∃ (slot : Fin 4) (addr : Word) (val : Word) (r : Reg) (idx : List Nat) (s : State), served s = true ∧ addr.toNat % 4 = 0 ∧ regAt
      addr.toNat = some (r, idx) ∧ plainStage r = true ∧ inertPort s r idx = false ∧ s.fur.direct = false ∧ applyRuns s = false ∧ isOwner
      s slot.val = true ∧ roleWrites .owner addr.toNat = true ∧ availAddr s addr.toNat = true) ∧
    (∃ (slot : Fin 4) (addr : Word) (r : Reg) (idx : List Nat) (s : State), served s = true ∧ addr.toNat % 4 = 0 ∧ regAt addr.toNat = some
      (r, idx) ∧ plainRead r = true ∧ inertPort s r idx = false ∧ availAddr s addr.toNat = true) :=
  ⟨⟨0, .owner, 0x0E00000C, 0xFFFFFFE5, .schPolPage, [], up, by decide +kernel⟩,
   ⟨0, .owner, 0x04001108, 0xFFFFFFFF, .lpPtpAdj, [0, 1],
     { up with pwr := { up.pwr with doms := up.pwr.doms.put 0 (some { st := .on }) } }, by decide +kernel⟩,
   ⟨0, 0x0E200018, 0xFFFFFFFF, .schPolC, [1], up, by decide +kernel⟩,
   ⟨0, 0x03000068, .imgBarrierMax, [], setReg up .imgBarrierMax [] 7, by decide +kernel⟩⟩

/-- States and operands that meet the hypotheses of CounterAndLatchAccesses, clause by clause. -/
theorem witness_CounterAndLatchAccesses :
    (∃ (slot : Fin 4) (addr : Word) (k : Nat) (s : State), served s = true ∧ addr.toNat % 4 = 0 ∧ regAt addr.toNat = none ∧ ctrWord s
      addr.toNat = some (k, false) ∧ availAddr s addr.toNat = true) ∧
    (∃ (slot : Fin 4) (addr : Word) (val : Word) (k : Nat) (s : State), served s = true ∧ addr.toNat % 4 = 0 ∧ regAt addr.toNat = none ∧
      ctrWord s addr.toNat = some (k, false) ∧ isOwner s slot.val = true ∧ availAddr s addr.toNat = true) ∧
    (∃ (slot : Fin 4) (addr : Word) (val : Word) (k : Nat) (s : State), served s = true ∧ addr.toNat % 4 = 0 ∧ regAt addr.toNat = none ∧
      ctrWord s addr.toNat = some (k, true) ∧ isOwner s slot.val = true ∧ availAddr s addr.toNat = true) ∧
    (∃ (slot : Fin 4) (s : State), served s = true ∧ availAddr s (Reg.addr .tgtTbNsLo []) = true) ∧
    (∃ (slot : Fin 4) (s : State), served s = true ∧ availAddr s (Reg.addr .tgtPpsCapLo []) = true) :=
  ⟨⟨3, 0x00E00050, 0x00E00050, { up with ctr := (SMap.empty).set {} 0x00E00050 { cnt := 0x123456789ABC, ovf := true } }, by decide +kernel⟩,
   ⟨0, 0x00E00050, 0xFFFFFFFF, 0x00E00050, { up with ctr := (SMap.empty).set {} 0x00E00050 { cnt := 0x123456789ABC, ovf := true } }, by
     decide +kernel⟩,
   ⟨0, 0x00E00054, 0xFFFFFFFF, 0x00E00050, { up with ctr := (SMap.empty).set {} 0x00E00050 { cnt := 0x123456789ABC, ovf := true } }, by
     decide +kernel⟩,
   ⟨3, { up with tgt := { tb := 5000000000 * tbUnit + 12345678901234 } }, by decide +kernel⟩,
   ⟨3, { up with tgt := { ppsCap := 5000000000 * tbUnit + 12345678901234 } }, by decide +kernel⟩⟩

/-- States and operands that meet the hypotheses of CounterWrapsAndSetsOvf, clause by clause. -/
theorem witness_CounterWrapsAndSetsOvf :
    (∃ (s : State) (a : Nat), (ctrAt s a).cnt.toNat = 2 ^ 48 - 1) ∧
    (∃ (s : State) (a : Nat), (ctrAt s a).cnt.toNat < 2 ^ 48 - 1) ∧
    (∃ (s : State) (a : Nat) (b : Nat), b ≠ a) :=
  ⟨⟨{ up with ctr := (SMap.empty).set {} 0x00E00050 { cnt := 0xFFFFFFFFFFFF } }, 0x00E00050, by decide +kernel⟩,
   ⟨{ up with ctr := (SMap.empty).set {} 0x00E00050 { cnt := 0xFFFFFFFFFFFE, ovf := true } }, 0x00E00050, by decide +kernel⟩,
   ⟨up, 0x00E00050, 0, by decide +kernel⟩⟩

/-- States and operands that meet the hypotheses of CrossingCommands, clause by clause. -/
theorem witness_CrossingCommands :
    (∃ (addr : Word) (s : State), served s = true ∧ definedAt s addr.toNat = true ∧ availAddr s addr.toNat = true ∧ islandBlock
      (addr.toNat / 0x1000000) = false ∧ (fltOf s 0).valid = false ∧ tbit (fltMask s 0) 0 = false) ∧
    (∃ (blk : Fin 21) (dom : Fin 256) (s : State), onIsland s = true ∧ domUnits blk.val dom.val = [] ∧ holds s blk.val 31 (0xFF00 +
      dom.val) = false) ∧
    (∃ (blk : Fin 21) (dom : Fin 256) (s : State), onIsland s = true) :=
  ⟨⟨0x0E00000C, up, by decide +kernel⟩,
   ⟨20, 255, up, by decide +kernel⟩,
   ⟨6, 0, up, by decide +kernel⟩⟩

/-- States and operands that meet the hypotheses of FurlongGoAndCancel, clause by clause. -/
theorem witness_FurlongGoAndCancel :
    (∃ (slot : Fin 4) (s : State), ownerMay s slot .devFurlongCommit [] = true ∧ s.fur.direct = false ∧ applyRuns s = false ∧ furBusy s =
      false) ∧
    (∃ (slot : Fin 4) (s : State), ownerMay s slot .devFurlongCommit [] = true ∧ s.fur.direct = false ∧ applyRuns s = false ∧ furBusy s =
      true) ∧
    (∃ (slot : Fin 4) (s : State), ownerMay s slot .devFurlongCommit [] = true ∧ s.fur.direct = false ∧ applyRuns s = false ∧ furBusy s =
      false ∧ furlongAt s % furPeriod s = 0) ∧
    (∃ (slot : Fin 4) (s : State), ownerMay s slot .devFurlongCommit [] = true ∧ s.fur.direct = false ∧ applyRuns s = false ∧ furBusy s =
      false ∧ furlongAt s % furPeriod s ≠ 0) ∧
    (∃ (slot : Fin 4) (s : State), ownerMay s slot .devFurlongCommit [] = true ∧ s.fur.direct = false ∧ applyRuns s = false ∧ s.fur.armed
      = false ∧ furBusy s = true ∧ s.fur.byFail = false) ∧
    (∃ (slot : Fin 4) (s : State), ownerMay s slot .devFurlongCommit [] = true ∧ s.fur.direct = false ∧ s.fur.armed = true) :=
  ⟨⟨0, { up with fur := { direct := false, opn := (SMap.empty).put 0x400 (some 12) } }, by decide +kernel⟩,
   ⟨0, { up with fur := { direct := false, pend := true, opn := (SMap.empty).put 0x400 (some 12) } }, by decide +kernel⟩,
   ⟨0, setReg { up with fur := { direct := false, opn := (SMap.empty).put 0x400 (some 12) } } .devFurlongAtHi [] 1, by decide +kernel⟩,
   ⟨0, setReg { up with fur := { direct := false, opn := (SMap.empty).put 0x400 (some 12) } } .devFurlongAtLo [] 1, by decide +kernel⟩,
   ⟨0,
     { up with fur := { direct := false, pend := true, sld := (SMap.empty).put 0x400 (some 12), opn := (SMap.empty).put 0x400 (some 13) } },
     by decide +kernel⟩,
   ⟨0, { up with fur := { direct := false, pend := true, armed := true, sld := (SMap.empty).put 0x400 (some 12) } }, by decide +kernel⟩⟩

/-- States and operands that meet the hypotheses of FurlongSealArmBoundary, clause by clause. -/
theorem witness_FurlongSealArmBoundary :
    (∃ (s : State), onIsland s = true ∧ s.fur.sealing = some none ∧ s.fur.byApply = false ∧ s.chain.heldResp = none) ∧
    (∃ (s : State) (b : Nat), onIsland s = true ∧ s.fur.sealing = some (some b) ∧ s.fur.byApply = false ∧ s.chain.heldResp = none ∧ tbNs s
      + 512 ≤ b) ∧
    (∃ (s : State) (b : Nat), onIsland s = true ∧ s.fur.sealing = some (some b) ∧ s.fur.byApply = false ∧ s.chain.heldResp = none ∧ b <
      tbNs s + 512) ∧
    (∃ (s : State) (x : Coming), onIsland s = true ∧ s.fur.pend = true ∧ s.fur.armed = false ∧ applyingAt s = some x ∧ x.wait ≤ 512) ∧
    (∃ (s : State), onIsland s = true ∧ s.fur.nextB ≤ tbNs s ∧ s.fur.pend = false) ∧
    (∃ (s : State), onIsland s = true ∧ s.fur.nextB ≤ tbNs s ∧ s.fur.pend = true ∧ s.fur.armed = false ∧ s.fur.moved = false ∧ s.fur.sched
      = none ∧ s.fur.target = s.fur.seq + 1) ∧
    (∃ (i : Nat) (k : Nat) (v : Word) (s : State), onIsland s = true ∧ s.fur.nextB ≤ tbNs s ∧ s.fur.pend = true ∧ s.fur.armed = true ∧
      s.fur.moved = false ∧ s.fur.sched = none ∧ s.fur.target = s.fur.seq + 1 ∧ s.fur.byApply = false ∧ s.fur.sld = ⟨[(Reg.addr
      .bpmProfMax [i, k], v)]⟩ ∧ regAt (Reg.addr .bpmProfMax [i, k]) = some (.bpmProfMax, [i, k]) ∧ keyAvail s (Reg.addr .bpmProfMax [i,
      k]) = true ∧ s.pwr.doms.entries.all (fun e => !e.2.waitSet) = true ∧ s.img.coldWait = none) :=
  ⟨⟨{ up with fur := { direct := false, sealing := some none, sld := (SMap.empty).put 0x400 (some 12) } }, by decide +kernel⟩,
   ⟨{ up with fur := { direct := false, sealing := some (some 512), sld := (SMap.empty).put 0x400 (some 12) } }, 512, by decide +kernel⟩,
   ⟨{ up with fur := { direct := false, sealing := some (some 511), sld := (SMap.empty).put 0x400 (some 12) } }, 511, by decide +kernel⟩,
   ⟨{ up with fur := { direct := false, nextB := 512, pend := true, target := 1 } }, { wait := 512, time := 512 }, by decide +kernel⟩,
   ⟨{ up with tgt := { tb := 1048576 * tbUnit } }, by decide +kernel⟩,
   ⟨{ up with tgt := { tb := 1048576 * tbUnit }, fur := { direct := false, pend := true, target := 1 } }, by decide +kernel⟩,
   ⟨255, 3, 0xFFFFFFFF,
     { up with tgt := { tb := 1048576 * tbUnit }, fur := { direct := false, pend := true, armed := true, target := 1, sld := ⟨[(0x0C011FEC, 0xFFFFFFFF)]⟩ } },
     by decide +kernel⟩⟩

/-- States and operands that meet the hypotheses of ChainForwarding, clause by clause. -/
theorem witness_ChainForwarding :
    (∃ (port : Fin 4) (f : ChainFrame) (s : State), onChain s = true ∧ port.val = 0 ∧ s.chain.lock.get false 0 = true ∧ f.errEnd = false ∧
      headOk f = true ∧ frameOk f = true ∧ fType f < 0xA ∧ fDst f < 63 ∧ fDst f ≠ nodeId s ∧ fSrc f ≠ nodeId s ∧ fHops f ≠ 0 ∧
      s.chain.east.wrapped = false ∧ ((s.chain.txq.get {} (3 + classOf (fType f))).transit.map frameBytes).sum + frameBytes f ≤ 65536) ∧
    (∃ (port : Fin 4) (f : ChainFrame) (s : State), onChain s = true ∧ s.chain.lock.get false port.val = true ∧ f.errEnd = false ∧ headOk
      f = false) ∧
    (∃ (src : Fin 128) (b : BcastSt) (s : State), onChain s = true ∧ s.chain.bcast.find src.val = some b ∧ b.until' ≤ s.now) ∧
    (∃ (s : State), onChain s = true ∧ s.chain.holdUntil ≤ s.now ∧ s.chain.ringStateDue = true ∧ s.chain.ringStateAt ≤ s.now) ∧
    (∃ (port : Fin 4) (f : ChainFrame) (rest : List ChainFrame) (s : State), onChain s = true ∧ (s.chain.txq.get {} (port.val *
      3)).transit = [] ∧ (s.chain.txq.get {} (port.val * 3)).localQ = f :: rest ∧ (exitSide s (if port.val = 1 then 0 else 1)).wrapped =
      false) ∧
    (∃ (a : BlockLock) (s : State), onChain s = true ∧ a.skew ≤ 32) ∧
    (∃ (a : BlockLock) (s : State), 32 < a.skew) :=
  ⟨⟨0, mkFrame 1 0 62 64 5 1 0 0 0x100 [1], { up with chain := { lock := onMap 4, east := { st := .up, wrapped := false } } }, by
     decide +kernel, by decide +kernel, by decide +kernel, by decide +kernel, by decide +kernel, frameOk_seal (by decide +kernel) (by
     decide +kernel), by decide +kernel, by decide +kernel, by decide +kernel, by decide +kernel, by decide +kernel, by decide +kernel, by
     decide +kernel⟩,
   ⟨3, { hdr := 0, payload := [], fcrc := 0, errEnd := false }, up, by decide +kernel⟩,
   ⟨127, { tag := 4095, until' := 10 },
     { up with now := 10, chain := { bcast := (SMap.empty).put 127 (some { tag := 4095, until' := 10 }) } }, by decide +kernel⟩,
   ⟨{ up with now := 10000000, chain := { ringStateDue := true } }, by decide +kernel⟩,
   ⟨1, mkFrame 9 0 63 1 0 0 0 0 0 [], [],
     { up with chain := { east := { wrapped := false }, txq := (SMap.empty).set {} 3 { localQ := [mkFrame 9 0 63 1 0 0 0 0 0 []] } } }, by
     decide +kernel⟩,
   ⟨{ port := 3, skew := 32 }, { up with chain := {} }, by decide +kernel⟩,
   ⟨{ port := 3, skew := 33 }, up, by decide +kernel⟩⟩

/-- States and operands that meet the hypotheses of ChainRequests, clause by clause. -/
theorem witness_ChainRequests :
    (∃ (port : Fin 4) (f : ChainFrame) (s : State), onChain s = true ∧ port.val = 0 ∧ s.chain.lock.get false 0 = true ∧ f.errEnd = false ∧
      headOk f = true ∧ frameOk f = true ∧ fType f < 2 ∧ fDst f = nodeId s ∧ 0 < fDst f ∧ fDst f < 63 ∧ fSrc f ≠ nodeId s ∧ fwRuns s =
      true ∧ (s.chain.replies.get [] (slotOf f)).find? (fun x => x.key == replyKey f) = none ∧ s.chain.reqs.length < 128) ∧
    (∃ (port : Nat) (f : ChainFrame) (rest : List (Nat × ChainFrame)) (s : State), onChain s = true ∧ s.chain.heldResp = none ∧
      s.chain.reqs = (port, f) :: rest ∧ fType f = 0 ∧ readFormed f = true ∧ fDst f ≠ 63 ∧ slotOf f < 4 ∧ nodeId s ≠ 0) ∧
    (∃ (port : Nat) (f : ChainFrame) (v : Word) (rest : List (Nat × ChainFrame)) (s : State), served s = true ∧ s.chain.heldResp = none ∧
      s.chain.reqs = (port, f) :: rest ∧ fType f = 1 ∧ fOp f = 0 ∧ f.payload = [v] ∧ fLen f = 1 ∧ fAddr f = Reg.addr .schPolPage [] ∧ fDst
      f ≠ 63 ∧ slotOf f < 4 ∧ isOwner s (slotOf f) = true ∧ fEpoch f = s.node.owner.epoch ∧ availAddr s (Reg.addr .schPolPage []) = true ∧
      s.tbl.win = [] ∧ s.tcm.win = []) ∧
    (∃ (port : Nat) (f : ChainFrame) (rest : List (Nat × ChainFrame)) (s : State), onChain s = true ∧ s.chain.heldResp = none ∧
      s.chain.reqs = (port, f) :: rest ∧ fType f = 0 ∧ readFormed f = false ∧ fDst f ≠ 63 ∧ slotOf f < 4 ∧ nodeId s ≠ 0) :=
  ⟨⟨0, mkFrame 0 0 1 64 0 0 0 0 0x100 [1], up, by decide +kernel, by decide +kernel, by decide +kernel, by decide +kernel, by decide +kernel,
     frameOk_seal (by decide +kernel) (by decide +kernel), by decide +kernel, by decide +kernel, by decide +kernel, by decide +kernel, by
     decide +kernel, by decide +kernel, by decide +kernel⟩,
   ⟨0, mkFrame 0 0 1 64 5 0 0 0 0x100 [1], [], { up with chain := { reqs := [(0, mkFrame 0 0 1 64 5 0 0 0 0x100 [1])] } }, by
     decide +kernel⟩,
   ⟨0, mkFrame 1 0 1 64 5 1 0 0 0x0E00000C [37], 37, [], { up with chain := { reqs := [(0, mkFrame 1 0 1 64 5 1 0 0 0x0E00000C [37])] } },
     by decide +kernel⟩,
   ⟨0, mkFrame 0 0 1 64 5 0 0 2 0x100 [1], [], { up with chain := { reqs := [(0, mkFrame 0 0 1 64 5 0 0 2 0x100 [1])] } }, by
     decide +kernel⟩⟩

/-- States and operands that meet the hypotheses of PacketChannel, clause by clause. -/
theorem witness_PacketChannel :
    (∃ (n : Fin 8) (p : Ptr) (rest : List Ptr) (dst : Nat) (s : State), onData s = true ∧ onChain s = true ∧ (qOf s (pktQ0 + n.val)).on =
      p :: rest ∧ ptrBad s p = false ∧ pktDst s n.val = some dst ∧ ((ptrBytes s p).length + 32) * 800 ≤ (pktBucket s n.val).lvl ∧
      ((ptrBytes s p).length + 32) * 800 ≤ (totBucket s).lvl) ∧
    (∃ (f : ChainFrame) (s : State), onChain s = true ∧ fType f = 6 ∧ frameOk f = true ∧ injAllowed s f = true ∧ s.chain.injects = [] ∧
      fld (fWord f 0) 28 26 = 0 ∧ tbit (fWord f 0) 25 = false ∧ 10 ≤ fLen f ∧ tfld (fragTicket f) 255 252 = 5 ∧ tfld (fragTicket f) 7 0 =
      ticketChk (fragTicket f) ∧ fld (fWord f 1) 13 0 ≤ 12284 ∧ (fragData f 10).length < fld (fWord f 1) 13 0) ∧
    (∃ (slot : Fin 4) (pktId : Fin 4096) (x : Inject) (s : State), s.chain.injects.find? (injIs slot.val pktId.val) = some x ∧ x.deadline
      ≤ s.now) :=
  ⟨⟨7, { tkt := 0, len := 0, loc := .hbm, at' := 0 }, [], 64, setReg
     { up with bpm := { q := (SMap.empty).set {} 0xFFFFF { on := [{ tkt := 0, len := 0, loc := .hbm, at' := 0 }] } } } .devPktchCfg [7]
     0xC3E80000, by decide +kernel⟩,
   ⟨mkFrame 6 0 1 64 0 1 0 0 0 ([0, 9] ++ tktWords (tsealed (tset 0 255 252 5)) ++ [0x01020304, 0x05060708]), up, by decide +kernel, by
     decide +kernel, frameOk_seal (by decide +kernel) (by decide +kernel), by decide +kernel, by decide +kernel, by decide +kernel, by
     decide +kernel, by decide +kernel, by decide +kernel, by decide +kernel, by decide +kernel, by decide +kernel⟩,
   ⟨0, 4095, { slot := 0, pktId := 4095, nextFrag := 1, total := 9, ticket := 0, bytes := [], deadline := 5 },
     { up with now := 5, chain := { injects := [{ slot := 0, pktId := 4095, nextFrag := 1, total := 9, ticket := 0, bytes := [], deadline := 5 }] } },
     by decide +kernel⟩⟩

/-- States and operands that meet the hypotheses of ChainSides, clause by clause. -/
theorem witness_ChainSides :
    (∃ (s : State), onChain s = true ∧ s.chain.west.st ≠ .up ∧ s.chain.east.st ≠ .up ∧ s.chain.ringStateDue = false ∧ s.chain.lsDue ≤
      s.now) ∧
    (∃ (s : State), onChain s = true ∧ s.chain.west.st = .up ∧ s.chain.west.wrapped = true ∧ s.chain.east.st ≠ .up ∧ s.chain.lsDue ≤
      s.now) ∧
    (∃ (port : Fin 4) (w0 : Word) (w1 : Word) (s : State), onChain s = true ∧ s.chain.lock.get false port.val = true ∧ (sideOf s (eastPort
      port.val)).st = .stable ∧ (sideOf s (eastPort port.val)).ser.find port.val = some (fld w0 15 0 * 2 ^ 32 + w1.toNat) ∧ tbit w0 21 =
      true) ∧
    (∃ (port : Fin 4) (w0 : Word) (w1 : Word) (s : State), onChain s = true ∧ s.chain.lock.get false port.val = true ∧ (sideOf s (eastPort
      port.val)).st = .join ∧ (sideOf s (eastPort port.val)).ser.find port.val = some (fld w0 15 0 * 2 ^ 32 + w1.toNat) ∧ tbit w0 20 =
      true) ∧
    (∃ (east : Bool) (n : Nat) (s : State), onChain s = true ∧ (sideOf s east).st = .down ∧ sideGood s east = true ∧ (sideOf s east).since
      = some n ∧ n + 10000000 ≤ s.now) ∧
    (∃ (east : Bool) (s : State), onChain s = true ∧ (sideOf s east).st = .join ∧ (sideOf s east).joinAt + 1000000 ≤ s.now) ∧
    (∃ (port : Fin 4) (n : Nat) (s : State), onChain s = true ∧ (sideOf s (eastPort port.val)).st = .up ∧ (sideOf s (eastPort
      port.val)).lsAt.find port.val = some n ∧ n + 3000 ≤ s.now) ∧
    (∃ (port : Fin 4) (s : State), onChain s = true ∧ (sideOf s (eastPort port.val)).st = .up) :=
  ⟨⟨up, by decide +kernel⟩,
   ⟨{ up with chain := { west := { st := .up } } }, by decide +kernel⟩,
   ⟨3, 0x00200001, 7, { up with chain := { lock := onMap 4, east := { st := .stable, ser := (SMap.empty).put 3 (some (2 ^ 32 + 7)) } } },
     by decide +kernel⟩,
   ⟨0, 0x00100001, 7, { up with chain := { lock := onMap 4, west := { st := .join, ser := (SMap.empty).put 0 (some (2 ^ 32 + 7)) } } }, by
     decide +kernel⟩,
   ⟨true, 0,
     { up with now := 10000000, chain := { lock := onMap 4, east := { since := some 0, ser := ((SMap.empty).put 1 (some 7)).put 3 (some 7), lsAt := ((SMap.empty).put 1 (some 9999999)).put 3 (some 9999000) } } },
     by decide +kernel⟩,
   ⟨false, { up with now := 1000000, chain := { west := { st := .join, joinAt := 0 } } }, by decide +kernel⟩,
   ⟨2, 0, { up with now := 3000, chain := { west := { st := .up, wrapped := false, lsAt := (SMap.empty).put 2 (some 0) } } }, by
     decide +kernel⟩,
   ⟨1, { up with chain := { lock := onMap 4, east := { st := .up, wrapped := false } } }, by decide +kernel⟩⟩

/-- States and operands that meet the hypotheses of ChainEnumeration, clause by clause. -/
theorem witness_ChainEnumeration :
    (∃ (port : Fin 4) (f : ChainFrame) (s : State), onChain s = true ∧ port.val = 0 ∧ s.chain.lock.get false 0 = true ∧ f.errEnd = false ∧
      headOk f = true ∧ frameOk f = true ∧ fType f = 7 ∧ fOp f = 0 ∧ fDst f = 63 ∧ enumFromOwner s f = true ∧ nodeId s < 64 ∧ fLen f = 0 ∧
      fHops f ≠ 0 ∧ s.chain.east.wrapped = false ∧ (s.chain.txq.get {} 4).transit = []) ∧
    (∃ (port : Fin 4) (f : ChainFrame) (s : State), onChain s = true ∧ port.val = 0 ∧ s.chain.lock.get false 0 = true ∧ f.errEnd = false ∧
      headOk f = true ∧ frameOk f = true ∧ fType f = 7 ∧ fOp f = 1 ∧ fDst f = 63 ∧ enumFromOwner s f = true ∧ nodeId s < 64 ∧ (bcastPass s
      f).1 = true ∧ fLen f = 3 ∧ serialAt f 0 = serialNat ∧ fld (fWord f 2) 5 0 ≠ 63) ∧
    (∃ (port : Fin 4) (f : ChainFrame) (s : State), onChain s = true ∧ port.val = 0 ∧ s.chain.lock.get false 0 = true ∧ f.errEnd = false ∧
      headOk f = true ∧ frameOk f = true ∧ fType f = 7 ∧ fOp f = 1 ∧ fDst f = 63 ∧ enumFromOwner s f = true ∧ nodeId s < 64 ∧ (bcastPass s
      f).1 = true ∧ fLen f = 3 ∧ serialAt f 0 ≠ serialNat ∧ nodeId s ≠ 0 ∧ nodeId s ≠ 63 ∧ fld (fWord f 2) 5 0 = nodeId s) ∧
    (∃ (port : Fin 4) (f : ChainFrame) (s : State), onChain s = true ∧ port.val = 0 ∧ s.chain.lock.get false 0 = true ∧ f.errEnd = false ∧
      headOk f = true ∧ frameOk f = true ∧ fType f = 7 ∧ fOp f = 2 ∧ fDst f = 63 ∧ enumFromOwner s f = true ∧ nodeId s < 64 ∧ (bcastPass s
      f).1 = true ∧ fLen f = 0) ∧
    (∃ (port : Fin 4) (f : ChainFrame) (s : State), onChain s = true ∧ port.val = 0 ∧ s.chain.lock.get false 0 = true ∧ f.errEnd = false ∧
      headOk f = true ∧ frameOk f = true ∧ fType f = 7 ∧ fOp f = 4 ∧ fDst f = 63 ∧ enumFromOwner s f = true ∧ nodeId s < 64 ∧ (bcastPass s
      f).1 = true) :=
  ⟨⟨0, mkFrame 7 0 63 64 0 0 0 0 0 [], { up with chain := { lock := onMap 4, east := { st := .up, wrapped := false } } }, by decide +kernel,
     by decide +kernel, by decide +kernel, by decide +kernel, by decide +kernel, frameOk_seal (by decide +kernel) (by decide +kernel), by
     decide +kernel, by decide +kernel, by decide +kernel, by decide +kernel, by decide +kernel, by decide +kernel, by decide +kernel, by
     decide +kernel, by decide +kernel⟩,
   ⟨0, mkFrame 7 0 63 64 0 0 0 1 0 [lo32 (serialNat / 2 ^ 32), lo32 serialNat, 62], up, by decide +kernel, by decide +kernel, by
     decide +kernel, by decide +kernel, by decide +kernel, frameOk_seal (by decide +kernel) (by decide +kernel), by decide +kernel, by
     decide +kernel, by decide +kernel, by decide +kernel, by decide +kernel, by decide +kernel, by decide +kernel, serialAt_words
     serialNat Config.serial.isLt _ 62 rfl, by decide +kernel⟩,
   ⟨0, mkFrame 7 0 63 64 0 0 0 1 0 [lo32 ((serialNat + 1) % 2 ^ 48 / 2 ^ 32), lo32 ((serialNat + 1) % 2 ^ 48), 1], up, by decide +kernel,
     by decide +kernel, by decide +kernel, by decide +kernel, by decide +kernel, frameOk_seal (by decide +kernel) (by decide +kernel), by
     decide +kernel, by decide +kernel, by decide +kernel, by decide +kernel, by decide +kernel, by decide +kernel, by decide +kernel,
     serial_next rfl, by decide +kernel, by decide +kernel, by decide +kernel⟩,
   ⟨0, mkFrame 7 0 63 64 0 0 0 2 0 [], up, by decide +kernel, by decide +kernel, by decide +kernel, by decide +kernel, by decide +kernel,
     frameOk_seal (by decide +kernel) (by decide +kernel), by decide +kernel, by decide +kernel, by decide +kernel, by decide +kernel, by
     decide +kernel, by decide +kernel, by decide +kernel⟩,
   ⟨0, mkFrame 7 0 63 64 0 0 0 4 0 [0x02000000, 0, 7], up, by decide +kernel, by decide +kernel, by decide +kernel, by decide +kernel, by
     decide +kernel, frameOk_seal (by decide +kernel) (by decide +kernel), by decide +kernel, by decide +kernel, by decide +kernel, by
     decide +kernel, by decide +kernel, by decide +kernel⟩⟩

/-- States and operands that meet the hypotheses of LeaseCommands, clause by clause. -/
theorem witness_LeaseCommands :
    (∃ (f : ChainFrame) (s : State), onChain s = true ∧ fType f = 8 ∧ fOp f = 1 ∧ frameOk f = true ∧ 64 ≤ fSrc f ∧ fSrc f ≤ 67 ∧ fLen f =
      3 ∧ tbit (fWord f 0) 31 = false ∧ s.node.owner.st = .none ∧ s.node.owner.recorded = false) ∧
    (∃ (f : ChainFrame) (s : State), onChain s = true ∧ fType f = 8 ∧ fOp f = 1 ∧ frameOk f = true ∧ fSrc f = 64 + s.node.tk.slot ∧ fSrc f
      ≤ 67 ∧ fLen f = 3 ∧ tbit (fWord f 0) 31 = true ∧ s.node.tk.st = .live ∧ fEpoch f = s.node.tk.epoch) ∧
    (∃ (f : ChainFrame) (s : State), onChain s = true ∧ fType f = 8 ∧ fOp f = 2 ∧ frameOk f = true ∧ fSrc f = 64 + s.node.owner.slot ∧
      fSrc f ≤ 67 ∧ fLen f = 3 ∧ tbit (fWord f 0) 31 = false ∧ s.node.owner.st = .live ∧ fEpoch f = s.node.owner.epoch) ∧
    (∃ (f : ChainFrame) (s : State), onChain s = true ∧ fType f = 8 ∧ fOp f = 3 ∧ frameOk f = true ∧ fSrc f = 64 + s.node.tk.slot ∧ fSrc f
      ≤ 67 ∧ fLen f = 3 ∧ tbit (fWord f 0) 31 = true ∧ s.node.tk.st = .live ∧ fEpoch f = s.node.tk.epoch) ∧
    (∃ (s : State), s.node.tk.st = .live ∧ s.node.tk.deadline ≤ s.now) ∧
    (∃ (s : State), s.node.owner.st = .live ∧ s.node.owner.deadline ≤ s.now) :=
  ⟨⟨mkFrame 8 0 63 67 0 65535 0 1 0 [0x08000000, 0, 7], { up with node := {} }, by decide +kernel, by decide +kernel, by decide +kernel,
     frameOk_seal (by decide +kernel) (by decide +kernel), by decide +kernel, by decide +kernel, by decide +kernel, by decide +kernel, by
     decide +kernel⟩,
   ⟨mkFrame 8 0 63 64 0 1 0 1 0 [0x88000000, 0, 7], { up with now := 100 }, by decide +kernel, by decide +kernel, by decide +kernel,
     frameOk_seal (by decide +kernel) (by decide +kernel), by decide +kernel, by decide +kernel, by decide +kernel, by decide +kernel, by
     decide +kernel, by decide +kernel⟩,
   ⟨mkFrame 8 0 63 64 0 1 0 2 0 [3, 0, 7], up, by decide +kernel, by decide +kernel, by decide +kernel, frameOk_seal (by decide +kernel)
     (by decide +kernel), by decide +kernel, by decide +kernel, by decide +kernel, by decide +kernel, by decide +kernel, by
     decide +kernel⟩,
   ⟨mkFrame 8 0 63 64 0 1 0 3 0 [0x80000000, 0, 7], up, by decide +kernel, by decide +kernel, by decide +kernel, frameOk_seal (by
     decide +kernel) (by decide +kernel), by decide +kernel, by decide +kernel, by decide +kernel, by decide +kernel, by decide +kernel,
     by decide +kernel⟩,
   ⟨{ up with now := 250000000 }, by decide +kernel⟩,
   ⟨{ up with now := 250000000 }, by decide +kernel⟩⟩

/-- States and operands that meet the hypotheses of ImageKeysAndBootChoice, clause by clause. -/
theorem witness_ImageKeysAndBootChoice :
    (∃ (slot : Fin 4) (confirm : Fin 65536) (k : Fin 4) (s : State), ownerMay s slot .imgKeyRevoke [] = true) ∧
    (∃ (slot : Fin 4) (once : Bool) (n : Fin 4) (s : State), ownerMay s slot .imgBootSel [] = true ∧ (ctlNext s).2 = s ∧ flashBytes s
      ((ctlNext s).1 * 64) 64 = List.replicate 64 0xFF) ∧
    (∃ (s : State), onIsland s = true ∧ s.pwr.boot.fwReady = true ∧ fwRuns s = true ∧ s.pwr.boot.tun = none ∧ s.pwr.boot.done = false ∧
      s.upd.recovery = false ∧ s.flt.fatal = false ∧ onceSet s = false ∧ (List.range 4).all (fun n => !tunPresent s n) = true) ∧
    (∃ (n : Nat) (s : State), bootReady s = true ∧ s.pwr.boot.tun = some n ∧ sectionsGood s n = true) :=
  ⟨⟨0, 0x4B59, 3, up, by decide +kernel⟩,
   ⟨0, true, 3, up, by decide +kernel⟩,
   ⟨{ up with pwr := { up.pwr with boot := { up.pwr.boot with tun := none, done := false } }, fur := {} }, by decide +kernel⟩,
   ⟨0,
     { up with pwr := { up.pwr with boot := { up.pwr.boot with done := false } }, fur := {}, flash := (SMap.empty).put 0x0800001B (some 0) },
     by decide +kernel⟩⟩

/-- States and operands that meet the hypotheses of SliceLoadAndSteering, clause by clause. -/
theorem witness_SliceLoadAndSteering :
    (∃ (slot : Fin 4) (sl : Fin 16) (n : Fin 4) (r : Fin 8) (s : State), ownerMay s slot .imgSliceLoad [] = true ∧ onData s = true ∧
      sl.val < 9 ∧ loadAllowed s sl.val n.val r.val = true ∧ applyRuns s = false ∧ s.upd.recovery = false) ∧
    (∃ (sl : Fin 9) (l : SliceLoad) (s : State), onData s = true ∧ s.slc.loads.find sl.val = some l ∧ l.by' = 0 ∧ (roleSects s (tunBase
      l.tun) l.role).all (sectOk s (tunBase l.tun)) = true) ∧
    (∃ (slot : Fin 4) (sl : Fin 16) (s : State), ownerMay s slot .imgSliceLoad [] = true ∧ sl.val < 9 ∧ (sliceOf s sl.val).st = .ready ∧
      s.upd.recovery = false) ∧
    (∃ (slot : Fin 4) (val : Word) (s : State), ownerMay s slot .imgSteer [] = true ∧ s.fur.direct = false ∧ steerOk s val = true) ∧
    (∃ (inp : Fin 32) (b : Barrier) (s : State), onData s = true ∧ s.slc.barrier.find inp.val = some b ∧ barrierReady s inp.val b = true) ∧
    (∃ (sl : Fin 9) (s : State), onData s = true ∧ drainReady s sl.val = true ∧ s.img.apply.phase ≠ .rotate) :=
  ⟨⟨0, 8, 3, 7,
     { up with flash := ((((SMap.empty).put 0x17FC0000 (some 0x5A)).put 0x17FC0001 (some 0x3C)).put 0x17FC0002 (some 0xC3)).put 0x17FC0003 (some 0xA5), img := { tun := (SMap.empty).set {} 3 { valid := true } } },
     by decide +kernel⟩,
   ⟨8, { tun := 3, role := 7, by' := 0 },
     { up with flash := (SMap.empty).put 0x1400001B (some 0), slc := { loads := (SMap.empty).put 8 (some { tun := 3, role := 7, by' := 0 }), sl := (SMap.empty).put 8 (some { st := .loading }) } },
     by decide +kernel⟩,
   ⟨0, 0, { up with slc := { sl := (SMap.empty).put 0 (some { st := .ready }) } }, by decide +kernel⟩,
   ⟨0, 0x76543210, up, by decide +kernel⟩,
   ⟨31, { old := 0, new := 1, since := 0 },
     { up with slc := { barrier := (SMap.empty).put 31 (some { old := 0, new := 1, since := 0 }) } }, by decide +kernel⟩,
   ⟨8, { up with slc := { sl := (SMap.empty).put 8 (some { st := .drain }) } }, by decide +kernel⟩⟩

/-- States and operands that meet the hypotheses of ApplyCommands, clause by clause. -/
theorem witness_ApplyCommands :
    (∃ (slot : Fin 4) (n : Fin 4) (s : State), ownerMay s slot .imgApply [] = true ∧ s.upd.recovery = false ∧ hitlessOk s n.val = true) ∧
    (∃ (slot : Fin 4) (n : Fin 4) (s : State), ownerMay s slot .imgApply [] = true ∧ s.upd.recovery = false ∧ coldOk s n.val = true ∧
      s.fur.armed = true) ∧
    (∃ (slot : Fin 4) (n : Fin 4) (s : State), ownerMay s slot .imgApply [] = true ∧ s.upd.recovery = false ∧ coldOk s n.val = true ∧
      s.fur.armed = false) ∧
    (∃ (slot : Fin 4) (s : State), ownerMay s slot .imgApply [] = true ∧ s.upd.recovery = false ∧ s.img.apply.phase = .verify ∧
      s.img.apply.wait = .work ∧ s.upd.applying = false ∧ s.upd.falling = false) ∧
    (∃ (s : State), onData s = true ∧ fwRuns s = true ∧ s.img.apply.phase = .rotate ∧ s.img.apply.wait = .work ∧ s.img.apply.stopping =
      false ∧ s.img.apply.todo = []) ∧
    (∃ (s : State), onData s = true ∧ fwRuns s = true ∧ s.img.apply.phase = .cleanup ∧ s.img.apply.wait = .work ∧ s.img.apply.stopping =
      false ∧ furBusy s = false) :=
  ⟨⟨0, 3,
     { up with flash := ((((SMap.empty).put 0x17FC0000 (some 0x5A)).put 0x17FC0001 (some 0x3C)).put 0x17FC0002 (some 0xC3)).put 0x17FC0003 (some 0xA5), img := { tun := (SMap.empty).set {} 3 { valid := true }, apply := { mixed := some (0, 3) } } },
     by decide +kernel⟩,
   ⟨0, 3,
     { up with fur := { direct := false, pend := true, armed := true }, flash := (((((SMap.empty).put 0x1400001B (some 0)).put 0x17FC0000 (some 0x5A)).put 0x17FC0001 (some 0x3C)).put 0x17FC0002 (some 0xC3)).put 0x17FC0003 (some 0xA5), img := { tun := (SMap.empty).set {} 3 { valid := true } } },
     by decide +kernel⟩,
   ⟨0, 3,
     { up with flash := (((((SMap.empty).put 0x1400001B (some 0)).put 0x17FC0000 (some 0x5A)).put 0x17FC0001 (some 0x3C)).put 0x17FC0002 (some 0xC3)).put 0x17FC0003 (some 0xA5), img := { tun := (SMap.empty).set {} 3 { valid := true } } },
     by decide +kernel⟩,
   ⟨0, { up with img := { apply := { phase := .verify, tun := 3 } } }, by decide +kernel⟩,
   ⟨{ up with img := { apply := { phase := .rotate } } }, by decide +kernel⟩,
   ⟨{ up with img := { apply := { phase := .cleanup } }, flash := (SMap.empty).put 0x0800001B (some 0) }, by decide +kernel⟩⟩

/-- States and operands that meet the hypotheses of PortStateMachine, clause by clause. -/
theorem witness_PortStateMachine :
    (∃ (slot : Fin 4) (p : Fin 128) (s : State), ownerMay s slot .lpPortCfg [p.val / 8, p.val % 8] = true ∧ portExists s p.val = true ∧ rb
      s .lpPortCfg [p.val / 8, p.val % 8] 31 = false ∧ mayStart (setReg s .lpPortCfg [p.val / 8, p.val % 8] (setBit (regRaw s .lpPortCfg
      [p.val / 8, p.val % 8]) 31 true &&& 0xFCFF3FFF)) p.val = true ∧ (portOf s p.val).st = .off ∧ grpOtn s (p.val / 8) = false ∧ rb s
      .lpPortCfg [p.val / 8, p.val % 8] 30 = true) ∧
    (∃ (slot : Fin 4) (p : Fin 128) (s : State), ownerMay s slot .lpPortCfg [p.val / 8, p.val % 8] = true ∧ portExists s p.val = true) ∧
    (∃ (p : Fin 128) (partner : BitVec 12) (s : State), (portOf s p.val).st = .an ∧ highestCommon (portOf s p.val).adv partner.toNat =
      some (portType s p.val)) ∧
    (∃ (p : Fin 128) (partner : BitVec 12) (s : State), (portOf s p.val).st = .an ∧ highestCommon (portOf s p.val).adv partner.toNat ≠
      some (portType s p.val)) ∧
    (∃ (p : Fin 128) (s : State), (portOf s p.val).st = .an ∧ (portOf s p.val).deadline ≤ s.now) ∧
    (∃ (r : TrainReport) (s : State), (portOf s r.p.val).st = .train ∧ (portLanes s r.p.val).all (fun n => r.own.toNat.testBit (n % 8) &&
      r.partner.toNat.testBit (n % 8)) = true) ∧
    (∃ (r : TrainReport) (s : State), (portOf s r.p.val).st = .train ∧ (portLanes s r.p.val).all (fun n => r.own.toNat.testBit (n % 8) &&
      r.partner.toNat.testBit (n % 8)) = false) ∧
    (∃ (p : Fin 128) (s : State), (portOf s p.val).st = .train ∧ (portOf s p.val).deadline ≤ s.now) ∧
    (∃ (p : Fin 128) (good : Nat) (s : State), (portOf s p.val).st = .sync ∧ (portOf s p.val).goodAt = some good ∧ good + rf s .lpPortCfg
      [p.val / 8, p.val % 8] 23 16 * 1000000 ≤ s.now) ∧
    (∃ (p : Fin 128) (s : State), (portOf s p.val).st = .sync ∧ (portOf s p.val).deadline ≤ s.now ∧ (portOf s p.val).fromUp = false) ∧
    (∃ (p : Fin 128) (s : State), (portOf s p.val).st = .sync ∧ (portOf s p.val).deadline ≤ s.now ∧ (portOf s p.val).fromUp = true) ∧
    (∃ (p : Fin 128) (remote : Bool) (rx : LineRx) (s : State), grpLive s (p.val / 8) = true ∧ portExists s p.val = true ∧ (portOf s
      p.val).st = .up ∧ (portOf s p.val).link = true ∧ (rx.align = false ∨ remote = true)) ∧
    (∃ (p : Fin 128) (remote : Bool) (rx : LineRx) (f : TxFrame) (rest : List TxFrame) (s : State), grpLive s (p.val / 8) = true ∧
      portExists s p.val = true ∧ (portOf s p.val).st = .up ∧ (portOf s p.val).link = true ∧ (portOf s p.val).txq = f :: rest ∧ (rx.align
      = false ∨ remote = true)) ∧
    (∃ (p : Fin 128) (s : State), (portOf s p.val).st = .holdoff ∧ (portOf s p.val).deadline ≤ s.now) ∧
    (∃ (p : Fin 128) (s : State), (portOf s p.val).st = .holdoff ∧ grpOtn s (p.val / 8) = false) :=
  ⟨⟨0, 125, { up with regs := up.regs.set 0 (Reg.addr .lpGrpMode [15]) 0x60 }, by decide +kernel⟩,
   ⟨0, 125,
     { up with regs := up.regs.set 0 (Reg.addr .lpGrpMode [15]) 0x60, lp := { ports := (SMap.empty).put 125 (some { st := .up, link := true }) } },
     by decide +kernel⟩,
   ⟨127, 1, { up with lp := { ports := (SMap.empty).put 127 (some { st := .an, adv := 1 }) } }, by decide +kernel⟩,
   ⟨127, 2, { up with lp := { ports := (SMap.empty).put 127 (some { st := .an, adv := 1 }) } }, by decide +kernel⟩,
   ⟨127, { up with lp := { ports := (SMap.empty).put 127 (some { st := .an, fails := 15 }) } }, by decide +kernel⟩,
   ⟨{ p := 127, own := 0x80, partner := 0x80 }, { up with lp := { ports := (SMap.empty).put 127 (some { st := .train }) } }, by
     decide +kernel⟩,
   ⟨{ p := 127, own := 0x80, partner := 0x7F }, { up with lp := { ports := (SMap.empty).put 127 (some { st := .train }) } }, by
     decide +kernel⟩,
   ⟨127, { up with lp := { ports := (SMap.empty).put 127 (some { st := .train }) } }, by decide +kernel⟩,
   ⟨127, 0, { up with now := 1000000, lp := { ports := (SMap.empty).put 127 (some { st := .sync, fails := 3, goodAt := some 0 }) } }, by
     decide +kernel⟩,
   ⟨127, { up with lp := { ports := (SMap.empty).put 127 (some { st := .sync }) } }, by decide +kernel⟩,
   ⟨127, { up with lp := { ports := (SMap.empty).put 127 (some { st := .sync, fromUp := true, fails := 2 }) } }, by decide +kernel⟩,
   ⟨127, true, { sig := 0x80, cdr := 0x80, lock := 0x80, align := true },
     { up with regs := up.regs.set 0 (Reg.addr .lpGrpMode [15]) 0x80, lp := { ports := (SMap.empty).put 127 (some { st := .up, link := true }) } },
     by decide +kernel⟩,
   ⟨127, false, { sig := 0, cdr := 0, lock := 0, align := false },
     { ticket := 0, head := [1], body := [2], desc := 0, slice := 0, slot := 0, tag := none }, [],
     { up with regs := up.regs.set 0 (Reg.addr .lpGrpMode [15]) 0x80, lp := { ports := (SMap.empty).put 127 (some { st := .up, link := true, txq := [{ ticket := 0, head := [1], body := [2], desc := 0, slice := 0, slot := 0, tag := none }] }) } },
     by decide +kernel⟩,
   ⟨127, { up with lp := { ports := (SMap.empty).put 127 (some { st := .holdoff, fails := 2 }) } }, by decide +kernel⟩,
   ⟨127, { up with lp := { ports := (SMap.empty).put 127 (some { st := .holdoff, fails := 2, deadline := 5 }) } }, by decide +kernel⟩⟩

/-- States and operands that meet the hypotheses of LineConfigurationAndClocks, clause by clause. -/
theorem witness_LineConfigurationAndClocks :
    (∃ (slot : Fin 4) (g : Fin 16) (val : Word) (s : State), ownerMay s slot .lpGrpMode [g.val] = true ∧ grpAnyEn s g.val = false ∧ modeOk
      val = true) ∧
    (∃ (slot : Fin 4) (g : Fin 16) (val : Word) (s : State), ownerMay s slot .lpGrpMode [g.val] = true ∧ (grpAnyEn s g.val = true ∨ modeOk
      val = false)) ∧
    (∃ (p : Fin 128) (lane : Fin 8) (syms : List Word) (corr : Word) (uncorr : Word) (s : State), grpLive s (p.val / 8) = true ∧ (portOf s
      p.val).st ≠ .off ∧ (portOf s p.val).winAt ≤ s.now ∧ 2 ^ clamp 10 30 (rf s .lpTmrSync [p.val / 8] 20 16) < ((portLanes s p.val).map
      (fun l => (syms.getD (l % 8) 0).toNat)).sum) ∧
    (∃ (p : Fin 128) (lane : Fin 8) (syms : List Word) (corr : Word) (uncorr : Word) (s : State), grpLive s (p.val / 8) = true ∧ (portOf s
      p.val).st ≠ .off ∧ (portOf s p.val).degSer = true ∧ (portOf s p.val).winAt ≤ s.now ∧ ((portLanes s p.val).map (fun l => (syms.getD
      (l % 8) 0).toNat)).sum ≤ 2 ^ clamp 10 30 (rf s .lpTmrSync [p.val / 8] 20 16)) ∧
    (∃ (j : Fin 2) (s : State), onData s = true ∧ synceState s j.val = 0 ∧ rb s .lpSynceCfg [j.val] 31 = true ∧ rb s .lpSynceCfg [j.val]
      29 = true ∧ laneLocked s (rf s .lpSynceCfg [j.val] 22 16) = true ∧ rf s .lpSynceCfg [j.val] 22 16 ≠ rf s .lpSynceCfg [j.val] 6 0) ∧
    (∃ (j : Fin 2) (s : State), onData s = true ∧ synceState s j.val ≠ 2 ∧ rb s .lpSynceCfg [j.val] 31 = true ∧ (rb s .lpSynceCfg [j.val]
      29 = false ∨ synceState s j.val = 1)) ∧
    (∃ (j : Fin 2) (s : State), onData s = true ∧ synceState s j.val = 2 ∧ rb s .lpSynceCfg [j.val] 31 = true) ∧
    (∃ (slot : Fin 4) (j : Fin 2) (val : Word) (s : State), ownerMay s slot .lpSynceCfg [j.val] = true ∧ laneLocked s (fld val 6 0) =
      true) :=
  ⟨⟨0, 15, 0x00000015, up, by decide +kernel⟩,
   ⟨0, 15, 0x40000003, up, by decide +kernel⟩,
   ⟨127, 7, [0, 0, 0, 0, 0, 0, 0, 0x00100001], 3, 1,
     { up with lp := { ports := (SMap.empty).put 127 (some { st := .up, link := true }) } }, by decide +kernel⟩,
   ⟨127, 7, [0x00100000, 0, 0, 0, 0, 0, 0, 0x00100000], 3, 1,
     { up with lp := { ports := (SMap.empty).put 127 (some { st := .up, degSer := true, degGood := 9 }) } }, by decide +kernel⟩,
   ⟨1, { up with regs := (up.regs.set 0 (Reg.addr .lpSynceCfg [1]) 0xA07F0001).set 0 (Reg.addr .lpLaneStatus [15, 7]) 0x40000000 }, by
     decide +kernel⟩,
   ⟨0, { up with regs := up.regs.set 0 (Reg.addr .lpSynceCfg [0]) 0x807F0001 }, by decide +kernel⟩,
   ⟨0, { up with regs := up.regs.set 0 (Reg.addr .lpSynceCfg [0]) 0x907F0001 }, by decide +kernel⟩,
   ⟨0, 1, 0xA000007F,
     { up with regs := (up.regs.set 0 (Reg.addr .lpSynceCfg [1]) 0xA87F0001).set 0 (Reg.addr .lpLaneStatus [15, 7]) 0x40000000 }, by
     decide +kernel⟩⟩

/-- States and operands that meet the hypotheses of MacFrames, clause by clause. -/
theorem witness_MacFrames :
    (∃ (p : Fin 128) (bytes : List Byte) (fin : RxEnd) (s : State), grpLive s (p.val / 8) = true ∧ portExists s p.val = true ∧ loopOf s
      p.val = 0 ∧ (fin = .cutShort ∨ (portOf s p.val).link = false)) ∧
    (∃ (p : Fin 128) (bytes : List Byte) (fin : RxEnd) (s : State), grpLive s (p.val / 8) = true ∧ portExists s p.val = true ∧ loopOf s
      p.val = 0 ∧ (portOf s p.val).link = true ∧ fin ≠ .cutShort ∧ bytes.length < 64) ∧
    (∃ (p : Fin 128) (bytes : List Byte) (fin : RxEnd) (s : State), grpLive s (p.val / 8) = true ∧ portExists s p.val = true ∧ loopOf s
      p.val = 0 ∧ (portOf s p.val).link = true ∧ fin ≠ .cutShort ∧ 64 ≤ bytes.length ∧ maxFrame s p.val < bytes.length) ∧
    (∃ (p : Fin 128) (pkt : List Byte) (fcs : List Byte) (s : State), grpLive s (p.val / 8) = true ∧ portExists s p.val = true ∧ loopOf s
      p.val = 0 ∧ (portOf s p.val).link = true ∧ 60 ≤ pkt.length ∧ fcs.length = 4 ∧ pkt.length + 4 ≤ maxFrame s p.val) ∧
    (∃ (p : Fin 128) (bytes : List Byte) (s : State), grpLive s (p.val / 8) = true ∧ portExists s p.val = true ∧ loopOf s p.val = 0 ∧
      (portOf s p.val).link = true ∧ 64 ≤ bytes.length ∧ bytes.length ≤ maxFrame s p.val) ∧
    (∃ (p : Fin 128) (f : TxFrame) (rest : List TxFrame) (s : State), grpLive s (p.val / 8) = true ∧ (portOf s p.val).link = true ∧
      (portOf s p.val).txq = f :: rest ∧ loopOf s p.val = 0 ∧ rb s .lpPortCfg [p.val / 8, p.val % 8] 26 = false) ∧
    (∃ (slot : Fin 4) (p : Fin 128) (x : Nat × Nat) (rest : List (Nat × Nat)) (s : State), served s = true ∧ isOwner s slot.val = true ∧
      onData s = true ∧ availAddr s (Reg.addr .lpTxtsHdr [p.val / 8, p.val % 8]) = true ∧ portExists s p.val = true ∧ (portOf s
      p.val).txts = x :: rest) :=
  ⟨⟨127, [1], .cutShort,
     { up with regs := up.regs.set 0 (Reg.addr .lpGrpMode [15]) 0x80, lp := { ports := (SMap.empty).put 127 (some { st := .up, link := true }) } },
     by decide +kernel⟩,
   ⟨127, [1], .badBlock,
     { up with regs := up.regs.set 0 (Reg.addr .lpGrpMode [15]) 0x80, lp := { ports := (SMap.empty).put 127 (some { st := .up, link := true }) } },
     by decide +kernel⟩,
   ⟨127, List.replicate 65 0, .whole,
     { up with regs := (up.regs.set 0 (Reg.addr .lpGrpMode [15]) 0x80).set 0 (Reg.addr .lpPortCfg [15, 7]) 0x80000001, lp := { ports := (SMap.empty).put 127 (some { st := .up, link := true }) } },
     by decide +kernel⟩,
   ⟨127, List.replicate 60 0, [0, 0, 0, 0],
     { up with regs := up.regs.set 0 (Reg.addr .lpGrpMode [15]) 0x80, lp := { ports := (SMap.empty).put 127 (some { st := .up, link := true }) } },
     by decide +kernel⟩,
   ⟨127, List.replicate 64 0,
     { up with regs := up.regs.set 0 (Reg.addr .lpGrpMode [15]) 0x80, lp := { ports := (SMap.empty).put 127 (some { st := .up, link := true }) } },
     by decide +kernel⟩,
   ⟨127, { ticket := 0, head := [1], body := [2], desc := 0, slice := 0, slot := 0, tag := none }, [],
     { up with lp := { ports := (SMap.empty).put 127 (some { st := .up, link := true, txq := [{ ticket := 0, head := [1], body := [2], desc := 0, slice := 0, slot := 0, tag := none }] }) } },
     by decide +kernel⟩,
   ⟨0, 127, (77, 5), [],
     { up with regs := up.regs.set 0 (Reg.addr .lpGrpMode [15]) 0x80, lp := { ports := (SMap.empty).put 127 (some { txts := [(77, 5)], txtsOvf := true }) } },
     by decide +kernel⟩⟩

/-- States and operands that meet the hypotheses of OtnAlignment, clause by clause. -/
theorem witness_OtnAlignment :
    (∃ (g : Fin 16) (i : Fin 16) (off : Fin 696320) (s : State), otnRuns s g.val = true ∧ i.val < otnN s g.val ∧ ((otnOf s g.val).inst.get
      {} i.val).inFrame = false ∧ ((otnOf s g.val).inst.get {} i.val).cands.any (fun c => c.1 == off.val) = false ∧ ((otnOf s
      g.val).inst.get {} i.val).cands.length < 4 ∧ ((otnOf s g.val).inst.get {} i.val).bars.contains off.val = false) ∧
    (∃ (g : Fin 16) (i : Fin 16) (off : Fin 696320) (s : State), otnRuns s g.val = true ∧ i.val < otnN s g.val ∧ ((otnOf s g.val).inst.get
      {} i.val).inFrame = false ∧ ((otnOf s g.val).inst.get {} i.val).cands.any (fun c => c.1 == off.val) = false ∧ ((otnOf s
      g.val).inst.get {} i.val).cands.length = 4) ∧
    (∃ (g : Fin 16) (i : Fin 16) (off : Fin 696320) (n : Nat) (k : Nat) (s : State), otnRuns s g.val = true ∧ i.val < otnN s g.val ∧
      ((otnOf s g.val).inst.get {} i.val).inFrame = false ∧ ((otnOf s g.val).inst.get {} i.val).cands.find? (fun c => c.1 == off.val) =
      some (off.val, n, k) ∧ k + 6227 ≤ s.now) ∧
    (∃ (g : Fin 16) (i : Fin 16) (off : Fin 696320) (k : Nat) (s : State), otnRuns s g.val = true ∧ i.val < otnN s g.val ∧ ((otnOf s
      g.val).inst.get {} i.val).inFrame = false ∧ ((otnOf s g.val).inst.get {} i.val).cands.find? (fun c => c.1 == off.val) = some
      (off.val, 2, k) ∧ k + 6227 ≤ s.now) ∧
    (∃ (g : Fin 16) (i : Fin 16) (s : State), otnRuns s g.val = true ∧ i.val < otnN s g.val ∧ ((otnOf s g.val).inst.get {} i.val).inFrame
      = true) ∧
    (∃ (g : Fin 16) (i : Fin 16) (s : State), otnRuns s g.val = true ∧ i.val < otnN s g.val ∧ ((otnOf s g.val).inst.get {} i.val).inFrame
      = true ∧ ((otnOf s g.val).inst.get {} i.val).imOk = false ∧ ((otnOf s g.val).inst.get {} i.val).ifAt + 2000000 ≤ s.now) :=
  ⟨⟨15, 15, 696319, { up with regs := up.regs.set 0 (Reg.addr .lpGrpMode [15]) 0x80000001 }, by decide +kernel⟩,
   ⟨15, 15, 696319,
     { up with regs := up.regs.set 0 (Reg.addr .lpGrpMode [15]) 0x80000001, lp := { otn := (SMap.empty).put 15 (some { inst := (SMap.empty).put 15 (some { cands := [(1, 1, 0), (2, 1, 0), (3, 1, 0), (4, 1, 0)] }) }) } },
     by decide +kernel⟩,
   ⟨15, 15, 2, 1, 0,
     { up with now := 6227, regs := up.regs.set 0 (Reg.addr .lpGrpMode [15]) 0x80000001, lp := { otn := (SMap.empty).put 15 (some { inst := (SMap.empty).put 15 (some { cands := [(1, 1, 0), (2, 1, 0)] }) }) } },
     by decide +kernel⟩,
   ⟨15, 15, 2, 0,
     { up with now := 6227, regs := up.regs.set 0 (Reg.addr .lpGrpMode [15]) 0x80000001, lp := { otn := (SMap.empty).put 15 (some { inst := (SMap.empty).put 15 (some { cands := [(1, 1, 0), (2, 2, 0)] }) }) } },
     by decide +kernel⟩,
   ⟨15, 15,
     { up with regs := up.regs.set 0 (Reg.addr .lpGrpMode [15]) 0x80000001, lp := { otn := (SMap.empty).put 15 (some { inst := (SMap.empty).put 15 (some { inFrame := true, miss := 4, bars := [7] }) }) } },
     by decide +kernel⟩,
   ⟨15, 15,
     { up with now := 2000000, regs := up.regs.set 0 (Reg.addr .lpGrpMode [15]) 0x80000001, lp := { otn := (SMap.empty).put 15 (some { inst := (SMap.empty).put 15 (some { inFrame := true, locked := 9, bars := [1, 2, 3, 4] }) }) } },
     by decide +kernel⟩⟩

/-- States and operands that meet the hypotheses of OtnOverheadAndDefects, clause by clause. -/
theorem witness_OtnOverheadAndDefects :
    (∃ (g : Fin 16) (f : OtucFrame) (s : State), otnRuns s g.val = true) ∧
    (∃ (o : OtucOut) (s : State), otnRuns s o.g.val = true) ∧
    (∃ (g : Fin 16) (d : Fin 4) (set : Bool) (lanes : BitVec 8) (since : Nat) (s : State), otnRuns s g.val = true ∧ (otnOf s
      g.val).conds.find (12 + d.val) = some (set, since) ∧ otnBad (setOtn s g.val { otnOf s g.val with laneLock := lanes.toNat }) g.val
      (12 + d.val) = set ∧ since + defectTime (12 + d.val) set ≤ s.now) ∧
    (∃ (g : Fin 16) (d : Fin 4) (set : Bool) (lanes : BitVec 8) (since : Nat) (s : State), otnRuns s g.val = true ∧ (otnOf s
      g.val).conds.find (12 + d.val) = some (set, since) ∧ otnBad (setOtn s g.val { otnOf s g.val with laneLock := lanes.toNat }) g.val
      (12 + d.val) = set ∧ s.now < since + defectTime (12 + d.val) set) ∧
    (∃ (g : Fin 16) (s : State), otnRuns s g.val = true ∧ (otnOf s g.val).secAt ≤ s.now) ∧
    (∃ (slot : Fin 4) (g : Fin 16) (w : Fin 16) (s : State), served s = true ∧ grpOtn s g.val = true ∧ availAddr s (Reg.addr .otnSmTtiRx
      [g.val, 0]) = true ∧ 1 ≤ w.val) ∧
    (∃ (slot : Fin 4) (g : Fin 16) (w : Fin 16) (s : State), served s = true ∧ grpOtn s g.val = true ∧ availAddr s (Reg.addr .otnPmTtiRx
      [g.val, 0]) = true ∧ 1 ≤ w.val) :=
  ⟨⟨15,
     { slices := [], smTti := 1, pmTti := 2, smBdi := true, pmBdi := true, smIae := true, stat := 7, gid := 0, idsOk := true, skewBig := true },
     { up with regs := up.regs.set 0 (Reg.addr .lpGrpMode [15]) 0x80000001 }, by decide +kernel⟩,
   ⟨{ g := 15, opu := [[0x5A], [1, 2, 4]] },
     { up with regs := (up.regs.set 0 (Reg.addr .lpGrpMode [15]) 0x80000001).set 0 (Reg.addr .otnCfg [15]) 0x68000000, lp := { otn := (SMap.empty).put 15 (some { txMfas := 255, smErr := [3, 8] }) } },
     by decide +kernel⟩,
   ⟨15, 3, true, 0, 0,
     { up with now := 10000, regs := up.regs.set 0 (Reg.addr .lpGrpMode [15]) 0x80000001, lp := { otn := (SMap.empty).put 15 (some { conds := (SMap.empty).put 15 (some (true, 0)) }) } },
     by decide +kernel⟩,
   ⟨15, 2, true, 0, 0,
     { up with now := 99999, regs := up.regs.set 0 (Reg.addr .lpGrpMode [15]) 0x80000001, lp := { otn := (SMap.empty).put 15 (some { conds := (SMap.empty).put 14 (some (true, 0)) }) } },
     by decide +kernel⟩,
   ⟨15,
     { up with now := 5, regs := up.regs.set 0 (Reg.addr .lpGrpMode [15]) 0x80000001, lp := { otn := (SMap.empty).put 15 (some { secAt := 5, smBlk := 70000, smSec := (true, 6) }) } },
     by decide +kernel⟩,
   ⟨3, 15, 15,
     { up with regs := up.regs.set 0 (Reg.addr .lpGrpMode [15]) 0x80000001, lp := { otn := (SMap.empty).put 15 (some { sm := { acc := some (List.replicate 64 0x5A) } }) } },
     by decide +kernel⟩,
   ⟨3, 15, 15,
     { up with regs := up.regs.set 0 (Reg.addr .lpGrpMode [15]) 0x80000001, lp := { otn := (SMap.empty).put 15 (some { pm := { acc := some (List.replicate 64 0x5A) } }) } },
     by decide +kernel⟩⟩

/-- States and operands that meet the hypotheses of HeadPath, clause by clause. -/
theorem witness_HeadPath :
    (∃ (inp : Fin 32) (h : Head) (rest : List Head) (n : Nat) (s : State), h.inp = inp.val ∧ (inp.val < 16 ∨ h.tkt.isSome = true) ∧
      dealBlock s (dealOwner s inp.val) (dirOf inp.val) = none ∧ jFree (sliceOf s (dealOwner s inp.val)) (dirOf inp.val) = some n ∧
      nextReplay (sliceOf s (dealOwner s inp.val)) inp.val = none ∧ waiting s inp.val = h :: rest ∧ cycleFree s (dealOwner s inp.val)
      (bestTrack s (dealOwner s inp.val) (dirOf inp.val)) = true) ∧
    (∃ (inp : Fin 32) (r : Nat × Nat × JEntry) (n : Nat) (f : Nat) (a : Nat) (b : Nat) (s : State), r.2.2.head.inp = inp.val ∧ (inp.val <
      16 ∨ (waiting s inp.val).all (fun h => h.tkt.isSome) = true) ∧ dealBlock s (dealOwner s inp.val) (dirOf inp.val) = none ∧ jFree
      (sliceOf s (dealOwner s inp.val)) (dirOf inp.val) = some n ∧ nextReplay (sliceOf s (dealOwner s inp.val)) inp.val = some r ∧
      (sliceOf s (dealOwner s inp.val)).replaying = some (f, a, b) ∧ dealOwner s inp.val ≠ f ∧ cycleFree s (dealOwner s inp.val)
      (bestTrack s (dealOwner s inp.val) (dirOf inp.val)) = true) ∧
    (∃ (sl : Fin 9) (tk : Fin 6) (k : Fin 1280) (f : Flight) (s : State), sliceLive s sl.val = true ∧ (trackOf s sl.val
      tk.val).flights[k.val]? = some f ∧ f.token = false ∧ f.stage < 24 ∧ f.readyAt ≤ s.now ∧ stageTurn s sl.val tk.val f = true) ∧
    (∃ (sl : Fin 9) (tk : Fin 6) (f : Flight) (s : State), sliceLive s sl.val = true ∧ (trackOf s sl.val tk.val).flights.find? (fun g =>
      decide (24 ≤ g.stage) && decide (g.exitAt ≤ s.now)) = some f ∧ f.token = false ∧ tbit (vget f.vec 117) 31 = true ∧ (sliceOf s
      sl.val).tokWait.find? (fun w => w.1 == tk.val) = none) ∧
    (∃ (sl : Fin 9) (tk : Fin 6) (f : Flight) (s : State), sliceLive s sl.val = true ∧ (trackOf s sl.val tk.val).flights.find? (fun g =>
      decide (24 ≤ g.stage) && decide (g.exitAt ≤ s.now)) = some f ∧ f.token = false ∧ tbit (vget f.vec 117) 31 = false ∧ tbit (vget f.vec
      117) 30 = false ∧ deparseOk f.head (deparse (progOf s sl.val) f.vec f.head f.parsed) = true ∧ (sliceOf s sl.val).tokWait.find? (fun
      w => w.1 == tk.val) = none) ∧
    (∃ (sl : Fin 9) (inp : Fin 32) (tk : Nat) (n : Nat) (s : State), sliceLive s sl.val = true ∧ (sliceOf s sl.val).hold.get [] inp.val =
      [] ∧ mergeNext s sl.val inp.val = some (tk, .skip inp.val n)) ∧
    (∃ (sl : Fin 9) (inp : Fin 32) (tk : Nat) (n : Nat) (h : OutHead) (s : State), sliceLive s sl.val = true ∧ (sliceOf s sl.val).hold.get
      [] inp.val = [] ∧ barrierFor s sl.val inp.val = false ∧ mergeNext s sl.val inp.val = some (tk, .head (some n) h) ∧ h.inp < 16 ∧
      emitRoom s h = true) :=
  ⟨⟨15, { inp := 15, port := 120, bytes := [1, 2], len := 2, ns := 0, frac := 0 }, [], 0,
     { up with slc := { sl := (SMap.empty).put 7 (some { st := .active, role := 7 }), inseq := (SMap.empty).put 15 (some 65535), intake := (SMap.empty).put 15 (some { heads := [{ inp := 15, port := 120, bytes := [1, 2], len := 2, ns := 0, frac := 0 }] }) } },
     by decide +kernel⟩,
   ⟨15, (0, 3, { head := { inp := 15, port := 120, bytes := [1, 2], len := 2, ns := 0, frac := 0 }, seq := 7 }), 0, 8, 0, 0,
     { up with slc := { sl := ((SMap.empty).put 7 (some { st := .active, role := 7, replaying := some (8, 0, 0), replay := [(0, 3, { head := { inp := 15, port := 120, bytes := [1, 2], len := 2, ns := 0, frac := 0 }, seq := 7 })] })).put 8 (some { st := .fenced, jIn := (SMap.empty).put 3 (some { head := { inp := 15, port := 120, bytes := [1, 2], len := 2, ns := 0, frac := 0 }, seq := 7 }) }) } },
     by decide +kernel⟩,
   ⟨8, 5, 0,
     { head := { inp := 31, port := 120, bytes := [1, 2], len := 2, ns := 0, frac := 0 }, seq := some 3, slot := 0, jsl := 8, snap := { epoch := 0, views := 0, aliases := [], mir := {} }, stage := 23, readyAt := 0, exitAt := 0 },
     { up with slc := { sl := (SMap.empty).put 8 (some { st := .active, tracks := (SMap.empty).put 5 (some { flights := [{ head := { inp := 31, port := 120, bytes := [1, 2], len := 2, ns := 0, frac := 0 }, seq := some 3, slot := 0, jsl := 8, snap := { epoch := 0, views := 0, aliases := [], mir := {} }, stage := 23, readyAt := 0, exitAt := 0 }] }) }) } },
     by decide +kernel⟩,
   ⟨8, 0,
     { head := { inp := 15, port := 120, bytes := [1, 2], len := 2, ns := 0, frac := 0 }, seq := some 3, slot := 9, jsl := 8, vec := (SMap.empty).put 117 (some 0xC0000000), snap := { epoch := 0, views := 0, aliases := [], mir := {} }, stage := 24, readyAt := 0, exitAt := 0 },
     { up with slc := { sl := (SMap.empty).put 8 (some { st := .active, jIn := (SMap.empty).put 9 (some { head := { inp := 15, port := 120, bytes := [1, 2], len := 2, ns := 0, frac := 0 }, seq := 3 }), tracks := (SMap.empty).put 0 (some { flights := [{ head := { inp := 15, port := 120, bytes := [1, 2], len := 2, ns := 0, frac := 0 }, seq := some 3, slot := 9, jsl := 8, vec := (SMap.empty).put 117 (some 0xC0000000), snap := { epoch := 0, views := 0, aliases := [], mir := {} }, stage := 24, readyAt := 0, exitAt := 0 }] }) }) } },
     by decide +kernel⟩,
   ⟨8, 0,
     { head := { inp := 15, port := 120, bytes := [1, 2], len := 2, ns := 0, frac := 0 }, seq := some 3, slot := 9, jsl := 8, snap := { epoch := 0, views := 0, aliases := [], mir := {} }, stage := 24, readyAt := 0, exitAt := 0 },
     { up with slc := { sl := (SMap.empty).put 8 (some { st := .active, jIn := (SMap.empty).put 9 (some { head := { inp := 15, port := 120, bytes := [1, 2], len := 2, ns := 0, frac := 0 }, seq := 3 }), tracks := (SMap.empty).put 0 (some { flights := [{ head := { inp := 15, port := 120, bytes := [1, 2], len := 2, ns := 0, frac := 0 }, seq := some 3, slot := 9, jsl := 8, snap := { epoch := 0, views := 0, aliases := [], mir := {} }, stage := 24, readyAt := 0, exitAt := 0 }] }) }) } },
     by decide +kernel⟩,
   ⟨8, 31, 5, 4,
     { up with slc := { sl := (SMap.empty).put 8 (some { st := .active, order := (SMap.empty).put 31 (some [4, 5]), tracks := (SMap.empty).put 5 (some { outq := [.skip 30 4, .skip 31 4] }) }) } },
     by decide +kernel⟩,
   ⟨8, 15, 2, 4, { inp := 15, slot := 1, jsl := 8, tkt := 0, bytes := [1], tag := none, desc := 0 },
     { up with slc := { sl := (SMap.empty).put 8 (some { st := .active, order := (SMap.empty).put 15 (some [4, 5]), tracks := (SMap.empty).put 2 (some { outq := [.head (some 4) { inp := 15, slot := 1, jsl := 8, tkt := 0, bytes := [1], tag := none, desc := 0 }] }) }) } },
     by decide +kernel⟩⟩

/-- States and operands that meet the hypotheses of PuntAndReturn, clause by clause. -/
theorem witness_PuntAndReturn :
    (∃ (sl : Fin 9) (p : Punt) (rest : List Punt) (s : State), (sliceOf s sl.val).punt = p :: rest ∧ onData s = true ∧ rb s .xeClassA
      [p.cls] 31 = true ∧ p.punts ≤ xeMaxPunts s ∧ (xeClassOf s p.cls).q.length < xeQmax s p.cls) ∧
    (∃ (sl : Fin 9) (eg : Bool) (r : Returned) (rest : List Returned) (s : State), sliceLive s sl.val = true ∧ (sliceOf s sl.val).retq.get
      [] eg.toNat = r :: rest ∧ trackLoad (trackOf s sl.val (bestTrack s sl.val eg.toNat)) < 2048 ∧ (r.forced.any (fun a => decide (a ≤
      s.now)) || laneEmpty s sl.val (bestTrack s sl.val eg.toNat) r.stage) = true) ∧
    (∃ (sl : Fin 9) (eg : Bool) (r : Returned) (rest : List Returned) (s : State), sliceLive s sl.val = true ∧ (sliceOf s sl.val).retq.get
      [] eg.toNat = r :: rest ∧ r.forced = none ∧ r.since + retForceNs s sl.val ≤ s.now ∧ cycleFree s sl.val (bestTrack s sl.val eg.toNat)
      = true) ∧
    (∃ (a : Nat) (b : Nat) (j : Nat) (rest : List (Nat × Nat × Nat)) (s : State), onData s = true ∧ s.slc.reports = (a, b, j) :: rest) :=
  ⟨⟨8,
     { cls := 63, reason := 0, head := { inp := 15, port := 120, bytes := [1, 2], len := 2, ns := 0, frac := 0 }, out := [], vec := {}, slice := 8, slot := 0, jsl := 8, punts := 1, parsed := 0 },
     [],
     { up with regs := up.regs.set 0 (Reg.addr .xeClassA [63]) 0x80000000, slc := { sl := (SMap.empty).put 8 (some { st := .active, punt := [{ cls := 63, reason := 0, head := { inp := 15, port := 120, bytes := [1, 2], len := 2, ns := 0, frac := 0 }, out := [], vec := {}, slice := 8, slot := 0, jsl := 8, punts := 1, parsed := 0 }] }) } },
     by decide +kernel⟩,
   ⟨8, true,
     { stage := 23, p := { cls := 63, reason := 0, head := { inp := 31, port := 120, bytes := [1, 2], len := 2, ns := 0, frac := 0 }, out := [], vec := {}, slice := 8, slot := 0, jsl := 8, punts := 1, parsed := 0 }, since := 0 },
     [],
     { up with slc := { sl := (SMap.empty).put 8 (some { st := .active, retq := (SMap.empty).put 1 (some [{ stage := 23, p := { cls := 63, reason := 0, head := { inp := 31, port := 120, bytes := [1, 2], len := 2, ns := 0, frac := 0 }, out := [], vec := {}, slice := 8, slot := 0, jsl := 8, punts := 1, parsed := 0 }, since := 0 }]) }) } },
     by decide +kernel⟩,
   ⟨8, true,
     { stage := 23, p := { cls := 63, reason := 0, head := { inp := 31, port := 120, bytes := [1, 2], len := 2, ns := 0, frac := 0 }, out := [], vec := {}, slice := 8, slot := 0, jsl := 8, punts := 1, parsed := 0 }, since := 0 },
     [],
     { up with now := 640, slc := { sl := (SMap.empty).put 8 (some { st := .active, retq := (SMap.empty).put 1 (some [{ stage := 23, p := { cls := 63, reason := 0, head := { inp := 31, port := 120, bytes := [1, 2], len := 2, ns := 0, frac := 0 }, out := [], vec := {}, slice := 8, slot := 0, jsl := 8, punts := 1, parsed := 0 }, since := 0 }]) }) } },
     by decide +kernel⟩,
   ⟨8, 0, 16383, [],
     { up with slc := { reports := [(8, 0, 16383)], sl := (SMap.empty).put 8 (some { st := .active, jIn := (SMap.empty).put 16383 (some { head := { inp := 15, port := 120, bytes := [1, 2], len := 2, ns := 0, frac := 0 }, seq := 3 }) }) } },
     by decide +kernel⟩⟩

/-- States and operands that meet the hypotheses of SliceFailover, clause by clause. -/
theorem witness_SliceFailover :
    (∃ (sl : Fin 9) (loc : Bool) (s : State), sliceLive s sl.val = true ∧ (sliceOf s sl.val).st = .active ∧ s.upd.applying = false ∧
      s.upd.falling = false) ∧
    (∃ (i : Nat) (rest : List Nat) (s : State), onData s = true ∧ s.slc.echoes = i :: rest) ∧
    (∃ (s : State), onData s = true ∧ s.upd.paused = false ∧ s.slc.fail.st = .loading ∧ eligible s s.slc.fail.spare = true ∧ s.fur.armed =
      false ∧ s.fur.sealing = none ∧ s.fur.pend = false) ∧
    (∃ (sl : Fin 9) (f : Nat) (a : Nat) (b : Nat) (s : State), onData s = true ∧ (sliceOf s sl.val).replaying = some (f, a, b) ∧ (sliceOf
      s sl.val).replay = [] ∧ (sliceOf s f).fencing = 0) ∧
    (∃ (sl : Fin 9) (s : State), onData s = true ∧ domOn s (27 + sl.val) = true ∧ (sliceOf s sl.val).jOk = true ∧ s.upd.applying = false ∧
      s.upd.falling = false) :=
  ⟨⟨7, true, { up with slc := { sl := (SMap.empty).put 7 (some { st := .active, role := 7, pair := 7 }) } }, by decide +kernel⟩,
   ⟨7, [], { up with slc := { echoes := [7], reports := [(7, 0, 1)], sl := (SMap.empty).put 7 (some { st := .fenced, fencing := 2 }) } },
     by decide +kernel⟩,
   ⟨{ up with slc := { fail := { st := .loading, failed := 5, spare := 8, pair := 5 }, sl := (SMap.empty).put 8 (some { st := .ready, role := 5 }) } },
     by decide +kernel⟩,
   ⟨8, 5, 8408, 3871,
     { up with slc := { fail := { st := .replay, failed := 5, spare := 8, pair := 5 }, sl := (SMap.empty).put 8 (some { st := .active, replaying := some (5, 8408, 3871) }) } },
     by decide +kernel⟩,
   ⟨8, { up with slc := { sl := (SMap.empty).put 8 (some { st := .ready }) } }, by decide +kernel⟩⟩

/-- States and operands that meet the hypotheses of TableCommands, clause by clause. -/
theorem witness_TableCommands :
    (∃ (slot : Fin 4) (words : List Word) (s : State), ownerMay s slot .tblCmdWin [] = true ∧ words.length = 8 ∧ s.tbl.win = [] ∧
      s.tbl.queue.length < 4096) ∧
    (∃ (slot : Fin 4) (words : List Word) (s : State), ownerMay s slot .tblCmdWin [] = true ∧ 1 ≤ words.length ∧ words.length < 8 ∧
      s.tbl.win = []) ∧
    (∃ (d : List Word) (rest : List (List Word)) (s : State), s.tbl.queue = d :: rest ∧ blkOn s 7 = true ∧ dOp d = 0 ∧ (dw d 0 &&&
      0x00FF0000) = 0 ∧ (d.drop 1).all (fun w => decide (w = 0)) = true) ∧
    (∃ (d : List Word) (rest : List (List Word)) (s : State), s.tbl.queue = d :: rest ∧ blkOn s 7 = true ∧ dOp d = 1 ∧ dTid d = 0 ∧ (dw d
      0 &&& 0x007F0000) = 0 ∧ tblBound s 0 (dView d) = true ∧ (dw d 1 &&& 0xF000FE00) = 0 ∧ fld (dw d 1) 8 8 = 0 ∧ fld (dw d 1) 7 0 ≤ 32 ∧
      dw d 3 = 0 ∧ dw d 4 = 0 ∧ dw d 5 = 0 ∧ dw d 6 = 0 ∧ (dw d 7).toNat < 2 ^ 20 ∧ s.tbl.routes.find (routeKey (dView d) (fld (dw d 1) 27
      16) 0 (fld (dw d 1) 7 0) (maskAddr 0 (fld (dw d 1) 7 0) (dw d 2).toNat)) = none ∧ routeUnits s + 1 ≤ unitsBound s) ∧
    (∃ (d : List Word) (rest : List (List Word)) (p : EmPlace) (s : State), s.tbl.queue = d :: rest ∧ blkOn s 7 = true ∧ dOp d = 1 ∧ 1 ≤
      dTid d ∧ dTid d ≤ 4 ∧ (dw d 0 &&& 0x007F0000) = 0 ∧ tblBound s (dTid d) (dView d) = true ∧ dw d 1 = 0 ∧ dKey d < 2 ^
      s.tbl.keyBits.get 0 (dTid d - 1) ∧ dData d < 2 ^ ((if emWide s (dTid d - 1) then 128 else 64) - s.tbl.keyBits.get 0 (dTid d - 1)) ∧
      emFind s (dTid d - 1) (dView d) (dKey d) = some p ∧ s.tbl.fails.length < 1024) ∧
    (∃ (d : List Word) (rest : List (List Word)) (old : Nat) (s : State), s.tbl.queue = d :: rest ∧ blkOn s 7 = true ∧ dOp d = 2 ∧ dTid d
      = 0 ∧ (dw d 0 &&& 0x007F0000) = 0 ∧ tblBound s 0 (dView d) = true ∧ (dw d 1 &&& 0xF000FE00) = 0 ∧ fld (dw d 1) 8 8 = 1 ∧ fld (dw d
      1) 7 0 ≤ 128 ∧ dw d 6 = 0 ∧ (dw d 7).toNat < 2 ^ 20 ∧ s.tbl.routes.find (routeKey (dView d) (fld (dw d 1) 27 16) 1 (fld (dw d 1) 7
      0) (maskAddr 1 (fld (dw d 1) 7 0) (dKey d))) = some old) ∧
    (∃ (d : List Word) (rest : List (List Word)) (old : Nat) (s : State), s.tbl.queue = d :: rest ∧ blkOn s 7 = true ∧ dOp d = 3 ∧ dTid d
      = 0 ∧ (dw d 0 &&& 0x007F0000) = 0 ∧ tblBound s 0 (dView d) = true ∧ (dw d 1 &&& 0xF000FE00) = 0 ∧ fld (dw d 1) 8 8 = 1 ∧ fld (dw d
      1) 7 0 ≤ 128 ∧ dw d 6 = 0 ∧ dw d 7 = 0 ∧ s.tbl.routes.find (routeKey (dView d) (fld (dw d 1) 27 16) 1 (fld (dw d 1) 7 0) (maskAddr 1
      (fld (dw d 1) 7 0) (dKey d))) = some old) ∧
    (∃ (d : List Word) (rest : List (List Word)) (s : State), s.tbl.queue = d :: rest ∧ blkOn s 7 = true ∧ dOp d = 4 ∧ 5 ≤ dTid d ∧ dTid d
      ≤ 7 ∧ (dw d 0 &&& 0x007F0000) = 0 ∧ tblBound s (dTid d) (dView d) = true ∧ (dw d 1).toNat < idxBound s (dTid d) ∧ (dw d 1).toNat < 2
      ^ 20 ∧ dKey d = 0 ∧ idxEntryOk s (dTid d) (dData d) = true) ∧
    (∃ (d : List Word) (rest : List (List Word)) (nh : Nat) (s : State), s.tbl.queue = d :: rest ∧ blkOn s 7 = true ∧ dOp d = 5 ∧ dTid d =
      0 ∧ (dw d 0 &&& 0x007F0000) = 0 ∧ tblBound s 0 (dView d) = true ∧ (dw d 1 &&& 0xF000FE00) = 0 ∧ fld (dw d 1) 8 8 = 1 ∧ fld (dw d 1)
      7 0 ≤ 128 ∧ dw d 6 = 0 ∧ dw d 7 = 0 ∧ s.tbl.routes.find (routeKey (dView d) (fld (dw d 1) 27 16) 1 (fld (dw d 1) 7 0) (maskAddr 1
      (fld (dw d 1) 7 0) (dKey d))) = some nh ∧ (s.tbl.bad.keys.find? (fun row => elemBad s row (routeKey (dView d) (fld (dw d 1) 27 16) 1
      (fld (dw d 1) 7 0) (maskAddr 1 (fld (dw d 1) 7 0) (dKey d))))) = none) ∧
    (∃ (d : List Word) (rest : List (List Word)) (s : State), s.tbl.queue = d :: rest ∧ blkOn s 7 = true ∧ dOp d = 6 ∧ dTid d < 8 ∧ (dw d
      0 &&& 0x007F0000) = 0 ∧ tblBound s (dTid d) (dView d) = true ∧ (dw d 1 &&& 0xFFFFFF00) = 0 ∧ dKey d = 0 ∧ dw d 6 = 0 ∧ sigOf s
      (dView d) (dTid d) (fld (dw d 1) 7 0) ≠ (dw d 7).toNat ∧ s.tbl.fails.length < 1024) ∧
    (∃ (slot : Fin 4) (w : Word) (rest : List Word) (s : State), served s = true ∧ isOwner s slot.val = true ∧ onData s = true ∧ availAddr
      s (Reg.addr .tblFailFifo []) = true ∧ s.tbl.fails = w :: rest) ∧
    (∃ (k : Nat) (rest : List Nat) (s : State), s.tbl.rowFree = k :: rest ∧ k ≤ s.now) ∧
    (∃ (tid : Fin 8) (view : Bool) (seg : Fin 256) (s : State), blkOn s 7 = true ∧ tblBound s tid.val view.toNat = true ∧ sigComputed s
      tid.val view.toNat seg.val ≠ sigOf s view.toNat tid.val seg.val) :=
  ⟨⟨0, [1, 2, 3, 4, 5, 6, 7, 8], up, by decide +kernel⟩,
   ⟨0, [1, 2, 3, 4, 5, 6, 7], up, by decide +kernel⟩,
   ⟨[0x0F000003, 0, 0, 0, 0, 0, 0, 0], [], { up with tbl := { queue := [[0x0F000003, 0, 0, 0, 0, 0, 0, 0]] } }, by decide +kernel⟩,
   ⟨[0x10000003, 0x0FFF0020, 0xC0A80001, 0, 0, 0, 0, 0xFFFFF], [],
     { up with regs := up.regs.set 0 (Reg.addr .tblRegion [0]) 0x10000100, tbl := { queue := [[0x10000003, 0x0FFF0020, 0xC0A80001, 0, 0, 0, 0, 0xFFFFF]] } },
     by decide +kernel⟩,
   ⟨[0x14000003, 0, 0, 0, 0, 5, 0, 9], [], .over 0,
     { up with regs := up.regs.set 0 (Reg.addr .tblRegion [15]) 0x3C000200, tbl := { keyBits := (SMap.empty).put 3 (some 32), ovf := [{ t := 3, view := 0, ent := { key := 5, data := 8 } }], queue := [[0x14000003, 0, 0, 0, 0, 5, 0, 9]] } },
     by decide +kernel⟩,
   ⟨[0x20000003, 0x00000100, 0, 0, 0, 1, 0, 7], [], 3,
     { up with regs := up.regs.set 0 (Reg.addr .tblRegion [0]) 0x10000100, tbl := { routes := (SMap.empty).put (routeKey 0 0 1 0 0) (some 3), queue := [[0x20000003, 0x00000100, 0, 0, 0, 1, 0, 7]] } },
     by decide +kernel⟩,
   ⟨[0x30000003, 0x00000100, 0, 0, 0, 1, 0, 0], [], 3,
     { up with regs := up.regs.set 0 (Reg.addr .tblRegion [0]) 0x10000100, tbl := { routes := (SMap.empty).put (routeKey 0 0 1 0 0) (some 3), queue := [[0x30000003, 0x00000100, 0, 0, 0, 1, 0, 0]] } },
     by decide +kernel⟩,
   ⟨[0x47000003, 131071, 0, 0, 0, 0, 0, 0xFFFFF], [],
     { up with regs := up.regs.set 0 (Reg.addr .tblRegion [15]) 0x60000100, tbl := { queue := [[0x47000003, 131071, 0, 0, 0, 0, 0, 0xFFFFF]] } },
     by decide +kernel⟩,
   ⟨[0x50000003, 0x00000100, 0, 0, 0, 1, 0, 0], [], 3,
     { up with regs := up.regs.set 0 (Reg.addr .tblRegion [0]) 0x10000100, tbl := { routes := (SMap.empty).put (routeKey 0 0 1 0 0) (some 3), queue := [[0x50000003, 0x00000100, 0, 0, 0, 1, 0, 0]] } },
     by decide +kernel⟩,
   ⟨[0x60000003, 0x000000FF, 0, 0, 0, 0, 0, 1], [],
     { up with regs := up.regs.set 0 (Reg.addr .tblRegion [0]) 0x10000100, tbl := { queue := [[0x60000003, 0x000000FF, 0, 0, 0, 0, 0, 1]] } },
     by decide +kernel⟩,
   ⟨0, 77, [], { up with tbl := { fails := [77] } }, by decide +kernel⟩,
   ⟨0, [5], { up with tbl := { rowFree := [0, 5] } }, by decide +kernel⟩,
   ⟨7, false, 255,
     { up with regs := up.regs.set 0 (Reg.addr .tblRegion [15]) 0x60000100, tbl := { sig := (SMap.empty).put (7 * 256 + 255) (some 1) } },
     by decide +kernel⟩⟩

/-- States and operands that meet the hypotheses of TableRehash, clause by clause. -/
theorem witness_TableRehash :
    (∃ (slot : Fin 4) (n : Fin 4) (s : State), ownerMay s slot .tblEmRehash [n.val] = true ∧ rehashBusy s n.val = false ∧ (rehashOf s
      n.val).st = .idle ∧ emBuckets s n.val ≠ 0) ∧
    (∃ (slot : Fin 4) (n : Fin 4) (s : State), ownerMay s slot .tblEmRehash [n.val] = true ∧ rehashBusy s n.val = true) ∧
    (∃ (slot : Fin 4) (n : Fin 4) (s : State), ownerMay s slot .tblEmRehash [n.val] = true ∧ (rehashOf s n.val).st ≠ .idle) ∧
    (∃ (n : Fin 4) (s : State), blkOn s 7 = true ∧ (rehashOf s n.val).st = .way0 ∧ (rehashOf s n.val).nextAt ≤ s.now ∧ (rehashOf s
      n.val).cursor + 1 < emBuckets s n.val ∧ oldSlots s n.val 0 (rehashOf s n.val).way (rehashOf s n.val).cursor = [] ∧ oldSlots s n.val
      1 (rehashOf s n.val).way (rehashOf s n.val).cursor = []) ∧
    (∃ (n : Fin 4) (s : State), blkOn s 7 = true ∧ (rehashOf s n.val).st = .way1 ∧ (rehashOf s n.val).way = 1 ∧ (rehashOf s n.val).nextAt
      ≤ s.now ∧ emBuckets s n.val ≤ (rehashOf s n.val).cursor + 1 ∧ oldSlots s n.val 0 1 (rehashOf s n.val).cursor = [] ∧ oldSlots s n.val
      1 1 (rehashOf s n.val).cursor = []) :=
  ⟨⟨0, 3, { up with regs := (up.regs.set 0 (Reg.addr .tblRegion [15]) 0x3C000200).set 0 (Reg.addr .tblEmSeed [3]) 0x1234 }, by
     decide +kernel⟩,
   ⟨0, 3, { up with tbl := { rehash := (SMap.empty).put 2 (some { st := .stuck }) } }, by decide +kernel⟩,
   ⟨0, 3, { up with tbl := { rehash := (SMap.empty).put 3 (some { st := .stuck, way := 1, cursor := 7 }) } }, by decide +kernel⟩,
   ⟨3,
     { up with regs := up.regs.set 0 (Reg.addr .tblRegion [15]) 0x3C000200, tbl := { rehash := (SMap.empty).put 3 (some { st := .way0 }) } },
     by decide +kernel⟩,
   ⟨3,
     { up with regs := up.regs.set 0 (Reg.addr .tblRegion [15]) 0x3C000200, tbl := { rehash := (SMap.empty).put 3 (some { st := .way1, way := 1, cursor := 16383, newSeed := 0x1234 }) } },
     by decide +kernel⟩⟩

/-- States and operands that meet the hypotheses of LearningEngine, clause by clause. -/
theorem witness_LearningEngine :
    (∃ (sl : Fin 9) (key : Nat) (loc : Nat) (ns : Nat) (frac : Nat) (rest : List LrnItem) (i : Nat) (s : State), (lrnOf s sl.val).queue =
      .learn key loc ns frac :: rest ∧ lrnLive s sl.val = true ∧ lrnFind (lrnOf s sl.val) key = none ∧ lrnPlace (lrnOf s sl.val) key =
      some i) ∧
    (∃ (sl : Fin 9) (key : Nat) (loc : Nat) (ns : Nat) (frac : Nat) (rest : List LrnItem) (i : Nat) (e : LrnEntry) (s : State), (lrnOf s
      sl.val).queue = .learn key loc ns frac :: rest ∧ lrnLive s sl.val = true ∧ lrnFind (lrnOf s sl.val) key = some i ∧ (lrnOf s
      sl.val).ents.find i = some e ∧ e.loc ≠ loc ∧ e.stat = false ∧ held s sl.val e ns = false) ∧
    (∃ (sl : Fin 9) (key : Nat) (loc : Nat) (ns : Nat) (frac : Nat) (rest : List LrnItem) (i : Nat) (e : LrnEntry) (s : State), (lrnOf s
      sl.val).queue = .learn key loc ns frac :: rest ∧ lrnLive s sl.val = true ∧ lrnFind (lrnOf s sl.val) key = some i ∧ (lrnOf s
      sl.val).ents.find i = some e ∧ e.loc ≠ loc ∧ held s sl.val e ns = true) ∧
    (∃ (sl : Fin 9) (idx : Nat) (key : Nat) (loc : Nat) (rest : List LrnItem) (i : Nat) (s : State), (lrnOf s sl.val).queue = .host 1 idx
      key loc :: rest ∧ lrnLive s sl.val = true ∧ lrnFind (lrnOf s sl.val) key = some i) ∧
    (∃ (sl : Fin 9) (idx : Nat) (key : Nat) (loc : Nat) (rest : List LrnItem) (i : Nat) (s : State), (lrnOf s sl.val).queue = .host 2 idx
      key loc :: rest ∧ lrnLive s sl.val = true ∧ lrnFind (lrnOf s sl.val) key = none ∧ lrnPlace (lrnOf s sl.val) key = some i) ∧
    (∃ (sl : Fin 9) (idx : Nat) (key : Nat) (loc : Nat) (rest : List LrnItem) (i : Nat) (s : State), (lrnOf s sl.val).queue = .host 3 idx
      key loc :: rest ∧ lrnLive s sl.val = true ∧ lrnFind (lrnOf s sl.val) key = some i ∧ lrnOvfBase ≤ i) ∧
    (∃ (sl : Fin 9) (idx : Nat) (key : Nat) (loc : Nat) (rest : List LrnItem) (s : State), (lrnOf s sl.val).queue = .host 3 idx key loc ::
      rest ∧ lrnLive s sl.val = true ∧ lrnFind (lrnOf s sl.val) key = none) ∧
    (∃ (sl : Fin 9) (idx : Nat) (key : Nat) (loc : Nat) (rest : List LrnItem) (i : Nat) (e : LrnEntry) (s : State), (lrnOf s sl.val).queue
      = .host 4 idx key loc :: rest ∧ lrnLive s sl.val = true ∧ lrnFind (lrnOf s sl.val) key = some i ∧ (lrnOf s sl.val).ents.find i =
      some e) ∧
    (∃ (sl : Fin 9) (idx : Nat) (key : Nat) (loc : Nat) (rest : List LrnItem) (e : LrnEntry) (s : State), (lrnOf s sl.val).queue = .host 5
      idx key loc :: rest ∧ lrnLive s sl.val = true ∧ idx < 264192 ∧ (lrnOf s sl.val).ents.find idx = some e) ∧
    (∃ (sl : Fin 9) (idx : Nat) (key : Nat) (loc : Nat) (rest : List LrnItem) (s : State), (lrnOf s sl.val).queue = .host 6 idx key loc ::
      rest ∧ lrnLive s sl.val = true ∧ (lrnOf s sl.val).flush = none) ∧
    (∃ (sl : Fin 9) (idx : Nat) (key : Nat) (loc : Nat) (rest : List LrnItem) (s : State), (lrnOf s sl.val).queue = .host 7 idx key loc ::
      rest ∧ lrnLive s sl.val = true ∧ (lrnOf s sl.val).flush = none) ∧
    (∃ (sl : Fin 9) (n : Nat) (d : Nat) (s : State), (lrnOf s sl.val).flush = some (n, d)) ∧
    (∃ (slot : Fin 4) (sl : Fin 9) (r : List Word) (rest : List (List Word)) (s : State), served s = true ∧ isOwner s slot.val = true ∧
      availAddr s (Reg.addr .lrnNotify [sl.val]) = true ∧ (lrnOf s sl.val).notes = r :: rest) ∧
    (∃ (sl : Fin 9) (index : Fin 264192) (hit : Bool) (e : LrnEntry) (s : State), lrnLive s sl.val = true ∧ scanDue s sl.val index.val =
      true ∧ (lrnOf s sl.val).scan ≤ index.val ∧ (lrnOf s sl.val).ents.find index.val = some e ∧ e.gen = (lrnOf s sl.val).gen ∧ e.stat =
      false ∧ e.hit = true ∧ rf s .lrnAgeCfg [sl.val] 11 0 ≠ 0 ∧ (lrnOf s sl.val).sweep % rf s .lrnAgeCfg [sl.val] 11 0 = 0) ∧
    (∃ (slot : Fin 4) (val : Word) (s : State), ownerMay s slot .lrnCopy [] = true ∧ fld val 7 4 < 9 ∧ fld val 3 0 < 9 ∧ runsRole (sliceOf
      s (fld val 7 4)) = true ∧ (sliceOf s (fld val 3 0)).st = .ready ∧ s.lrn.copy ≠ .copying) ∧
    (∃ (slot : Fin 4) (val : Word) (s : State), ownerMay s slot .lrnCopy [] = true ∧ s.lrn.copy = .shadowing) ∧
    (∃ (s : State), onData s = true ∧ s.lrn.copy = .copying) :=
  ⟨⟨8, 5, 127, 9, 0, [], 95152, { up with lrn := { sl := (SMap.empty).put 8 (some { queue := [.learn 5 127 9 0] }) } }, by decide +kernel⟩,
   ⟨8, 5, 127, 0x4000, 0, [], 262144, { key := 5, loc := 1 },
     { up with lrn := { sl := (SMap.empty).put 8 (some { queue := [.learn 5 127 0x4000 0], ents := (SMap.empty).put 262144 (some { key := 5, loc := 1 }) }) } },
     by decide +kernel⟩,
   ⟨8, 5, 127, 0x4000, 0, [], 262144, { key := 5, loc := 1, moved := true, moveT := 1 },
     { up with lrn := { sl := (SMap.empty).put 8 (some { queue := [.learn 5 127 0x4000 0], ents := (SMap.empty).put 262144 (some { key := 5, loc := 1, moved := true, moveT := 1 }) }) } },
     by decide +kernel⟩,
   ⟨8, 0, 5, 127, [], 262144,
     { up with lrn := { sl := (SMap.empty).put 8 (some { queue := [.host 1 0 5 127], ents := (SMap.empty).put 262144 (some { key := 5, loc := 1 }) }) } },
     by decide +kernel⟩,
   ⟨8, 0, 5, 127, [], 95152, { up with lrn := { sl := (SMap.empty).put 8 (some { queue := [.host 2 0 5 127] }) } }, by decide +kernel⟩,
   ⟨8, 0, 5, 127, [], 262144,
     { up with lrn := { sl := (SMap.empty).put 8 (some { queue := [.host 3 0 5 127], ents := (SMap.empty).put 262144 (some { key := 5, loc := 1 }) }) } },
     by decide +kernel⟩,
   ⟨8, 0, 5, 127, [], { up with lrn := { sl := (SMap.empty).put 8 (some { queue := [.host 3 0 5 127] }) } }, by decide +kernel⟩,
   ⟨8, 0, 5, 127, [], 262144, { key := 5, loc := 1, age := 3 },
     { up with lrn := { sl := (SMap.empty).put 8 (some { queue := [.host 4 0 5 127], ents := (SMap.empty).put 262144 (some { key := 5, loc := 1, age := 3 }) }) } },
     by decide +kernel⟩,
   ⟨8, 264191, 0, 127, [], { key := 5, loc := 1, age := 3 },
     { up with lrn := { sl := (SMap.empty).put 8 (some { queue := [.host 5 264191 0 127], ents := (SMap.empty).put 264191 (some { key := 5, loc := 1, age := 3 }) }) } },
     by decide +kernel⟩,
   ⟨8, 0, 0, 127, [],
     { up with lrn := { sl := (SMap.empty).put 8 (some { queue := [.host 6 0 0 127], ents := ((SMap.empty).put 5 (some { key := 5, loc := 127 })).put 6 (some { key := 6, loc := 127, stat := true }) }) } },
     by decide +kernel⟩,
   ⟨8, 0, 0, 127, [],
     { up with lrn := { sl := (SMap.empty).put 8 (some { queue := [.host 7 0 0 127], ents := ((SMap.empty).put 5 (some { key := 5, loc := 12 })).put 6 (some { key := 6, loc := 127, stat := true }) }) } },
     by decide +kernel⟩,
   ⟨8, 3, 9, { up with lrn := { sl := (SMap.empty).put 8 (some { flush := some (3, 9) }) } }, by decide +kernel⟩,
   ⟨0, 8, [1, 2, 3, 4, 5, 6], [], { up with lrn := { sl := (SMap.empty).put 8 (some { notes := [[1, 2, 3, 4, 5, 6]], noteRead := 5 }) } },
     by decide +kernel⟩,
   ⟨8, 264191, true, { key := 5, loc := 1, age := 2, hit := true },
     { up with lrn := { sl := (SMap.empty).put 8 (some { sweep := 1000, ents := (SMap.empty).put 264191 (some { key := 5, loc := 1, age := 2, hit := true }) }) } },
     by decide +kernel⟩,
   ⟨0, 0x00000018, { up with slc := { sl := ((SMap.empty).put 1 (some { st := .active })).put 8 (some { st := .ready }) } }, by
     decide +kernel⟩,
   ⟨0, 0x00000018, { up with lrn := { copy := .shadowing, src := 1, dst := 8 } }, by decide +kernel⟩,
   ⟨{ up with lrn := { copy := .copying, src := 1, dst := 8 } }, by decide +kernel⟩⟩

/-- States and operands that meet the hypotheses of SearchCommands, clause by clause. -/
theorem witness_SearchCommands :
    (∃ (slot : Fin 4) (words : List Word) (s : State), ownerMay s slot .tcmCmdWin [] = true ∧ words.length = 24 ∧ s.tcm.win = [] ∧
      s.tcm.queue.length < 1024) ∧
    (∃ (slot : Fin 4) (words : List Word) (s : State), ownerMay s slot .tcmCmdWin [] = true ∧ 1 ≤ words.length ∧ words.length < 24 ∧
      s.tcm.win = []) ∧
    (∃ (d : List Word) (rest : List (List Word)) (s : State), s.tcm.queue = d :: rest ∧ onData s = true ∧ cOp d = 0 ∧ tcmClean d = true) ∧
    (∃ (d : List Word) (rest : List (List Word)) (w : Nat) (p : Nat) (s : State), s.tcm.queue = d :: rest ∧ onData s = true ∧ cOp d = 1 ∧
      tcmClean d = true ∧ tcmWidth s (cTable d) = some w ∧ cVal d < 2 ^ (80 * w) ∧ cMask d < 2 ^ (80 * w) ∧ cRow d % w = 0 ∧ physOf s
      (cTable d) (cBank d) = some p ∧ bankUp s p = true) ∧
    (∃ (d : List Word) (rest : List (List Word)) (w : Nat) (p : Nat) (s : State), s.tcm.queue = d :: rest ∧ onData s = true ∧ cOp d = 2 ∧
      tcmClean d = true ∧ tcmWidth s (cTable d) = some w ∧ cRow d % w = 0 ∧ physOf s (cTable d) (cBank d) = some p ∧ bankUp s p = true) ∧
    (∃ (d : List Word) (rest : List (List Word)) (w : Nat) (p : Nat) (s : State), s.tcm.queue = d :: rest ∧ onData s = true ∧ cOp d = 3 ∧
      tcmClean d = true ∧ tcmWidth s (cTable d) = some w ∧ cRow d % w = 0 ∧ physOf s (cTable d) (cBank d) = some p ∧ bankUp s p = true) ∧
    (∃ (d : List Word) (rest : List (List Word)) (w : Nat) (p : Nat) (s : State), s.tcm.queue = d :: rest ∧ onData s = true ∧ cOp d = 4 ∧
      tcmClean d = true ∧ tcmWidth s (cTable d) = some w ∧ cRow d % w = 0 ∧ physOf s (cTable d) (cBank d) = some p ∧ bankUp s p = true) ∧
    (∃ (d : List Word) (rest : List (List Word)) (w : Nat) (s : State), s.tcm.queue = d :: rest ∧ onData s = true ∧ cOp d = 5 ∧ tcmClean d
      = true ∧ tcmWidth s (cTable d) = some w ∧ s.tcm.bulk.open' = false ∧ s.tcm.bulk.todo = none) ∧
    (∃ (d : List Word) (rest : List (List Word)) (w : Nat) (s : State), s.tcm.queue = d :: rest ∧ onData s = true ∧ cOp d = 6 ∧ tcmClean d
      = true ∧ tcmWidth s (cTable d) = some w ∧ s.tcm.bulk.open' = true ∧ s.tcm.bulk.table = cTable d ∧ s.tcm.bulk.written ≠ []) ∧
    (∃ (d : List Word) (rest : List (List Word)) (w : Nat) (x : Nat × Nat × TcmEnt) (s : State), s.tcm.queue = d :: rest ∧ onData s = true
      ∧ cOp d = 7 ∧ tcmClean d = true ∧ tcmWidth s (cTable d) = some w ∧ cVal d < 2 ^ (80 * w) ∧ tcmWinner s (cTable d) (cVal d) = some x
      ∧ s.tcm.dataBad.get false (entKey x.1 x.2.1) = false ∧ parAt s x.1 x.2.1 = entParity (bankWidth s x.1) x.2.2) ∧
    (∃ (d : List Word) (rest : List (List Word)) (w : Nat) (p : Nat) (s : State), s.tcm.queue = d :: rest ∧ onData s = true ∧ cOp d = 1 ∧
      tcmClean d = true ∧ tcmWidth s (cTable d) = some w ∧ cVal d < 2 ^ (80 * w) ∧ cMask d < 2 ^ (80 * w) ∧ cRow d % w = 0 ∧ physOf s
      (cTable d) (cBank d) = some p ∧ bankUp s p = false ∧ s.tcm.fails.length < 1024) ∧
    (∃ (slot : Fin 4) (w : Word) (rest : List Word) (s : State), served s = true ∧ isOwner s slot.val = true ∧ onData s = true ∧ availAddr
      s (Reg.addr .tcmFailFifo []) = true ∧ s.tcm.fails = w :: rest) :=
  ⟨⟨0, List.replicate 24 7, up, by decide +kernel⟩,
   ⟨0, List.replicate 23 7, up, by decide +kernel⟩,
   ⟨[5, 0, 0, 0, 0, 0, 0, 0, 0, 0, 0, 0, 0, 0, 0, 0, 0, 0, 0, 0, 0, 0, 0, 0], [],
     { up with tcm := { queue := [[5, 0, 0, 0, 0, 0, 0, 0, 0, 0, 0, 0, 0, 0, 0, 0, 0, 0, 0, 0, 0, 0, 0, 0]] } }, by decide +kernel⟩,
   ⟨[528482309, 6227967, 0, 0, 0, 0, 0, 0, 0, 0, 5, 9, 0, 0, 0, 0, 0, 0, 0, 0, 15, 1, 0, 7], [], 1, 95,
     { up with tcm := { banks := (SMap.empty).put 95 (some { st := .inService, width := 1, table := 31 }), queue := [[528482309, 6227967, 0, 0, 0, 0, 0, 0, 0, 0, 5, 9, 0, 0, 0, 0, 0, 0, 0, 0, 15, 1, 0, 7]] } },
     by decide +kernel⟩,
   ⟨[796917765, 6227964, 0, 0, 0, 0, 0, 0, 0, 0, 0, 0, 0, 0, 0, 0, 0, 0, 0, 0, 0, 0, 0, 0], [], 4, 95,
     { up with tcm := { banks := (SMap.empty).put 95 (some { st := .inService, width := 4, table := 31 }), ents := (SMap.empty).put (95 * 2048 + 2044) (some { valid := true, mask := 1 }), queue := [[796917765, 6227964, 0, 0, 0, 0, 0, 0, 0, 0, 0, 0, 0, 0, 0, 0, 0, 0, 0, 0, 0, 0, 0, 0]] } },
     by decide +kernel⟩,
   ⟨[1065353221, 6227964, 0, 0, 0, 0, 0, 0, 0, 0, 0, 0, 0, 0, 0, 0, 0, 0, 0, 0, 0, 0, 0, 0], [], 4, 95,
     { up with tcm := { banks := (SMap.empty).put 95 (some { st := .inService, width := 4, table := 31 }), ents := (SMap.empty).put (95 * 2048 + 2044) (some { valid := true, mask := 1 }), queue := [[1065353221, 6227964, 0, 0, 0, 0, 0, 0, 0, 0, 0, 0, 0, 0, 0, 0, 0, 0, 0, 0, 0, 0, 0, 0]] } },
     by decide +kernel⟩,
   ⟨[1333788677, 6227964, 0, 0, 0, 0, 0, 0, 0, 0, 0, 0, 0, 0, 0, 0, 0, 0, 0, 0, 0, 0, 0, 77], [], 4, 95,
     { up with tcm := { banks := (SMap.empty).put 95 (some { st := .inService, width := 4, table := 31 }), ents := (SMap.empty).put (95 * 2048 + 2044) (some { valid := true, mask := 1 }), queue := [[1333788677, 6227964, 0, 0, 0, 0, 0, 0, 0, 0, 0, 0, 0, 0, 0, 0, 0, 0, 0, 0, 0, 0, 0, 77]] } },
     by decide +kernel⟩,
   ⟨[1602224133, 0, 0, 0, 0, 0, 0, 0, 0, 0, 0, 0, 0, 0, 0, 0, 0, 0, 0, 0, 0, 0, 0, 0], [], 1,
     { up with tcm := { banks := (SMap.empty).put 95 (some { st := .inService, width := 1, table := 31 }), bulk := { pairs := [(1, 2)] }, queue := [[1602224133, 0, 0, 0, 0, 0, 0, 0, 0, 0, 0, 0, 0, 0, 0, 0, 0, 0, 0, 0, 0, 0, 0, 0]] } },
     by decide +kernel⟩,
   ⟨[1870659589, 0, 0, 0, 0, 0, 0, 0, 0, 0, 0, 0, 0, 0, 0, 0, 0, 0, 0, 0, 0, 0, 0, 0], [], 1,
     { up with tcm := { banks := (SMap.empty).put 95 (some { st := .inService, width := 1, table := 31 }), bulk := { open' := true, table := 31, written := [9] }, queue := [[1870659589, 0, 0, 0, 0, 0, 0, 0, 0, 0, 0, 0, 0, 0, 0, 0, 0, 0, 0, 0, 0, 0, 0, 0]] } },
     by decide +kernel⟩,
   ⟨[2139095045, 0, 0, 0, 0, 0, 0, 0, 0, 0, 5, 9, 0, 0, 0, 0, 0, 0, 0, 0, 0, 0, 0, 0], [], 1, (95, 3,
     { valid := true, val := 1, mask := 1 }),
     { up with tcm := { banks := (SMap.empty).put 95 (some { st := .inService, width := 1, table := 31 }), ents := (SMap.empty).put (95 * 2048 + 3) (some { valid := true, val := 1, mask := 1 }), par := (SMap.empty).put (95 * 2048 + 3) (some 1), queue := [[2139095045, 0, 0, 0, 0, 0, 0, 0, 0, 0, 5, 9, 0, 0, 0, 0, 0, 0, 0, 0, 0, 0, 0, 0]] } },
     by decide +kernel⟩,
   ⟨[528482309, 6227967, 0, 0, 0, 0, 0, 0, 0, 0, 0, 0, 0, 0, 0, 0, 0, 0, 0, 0, 0, 0, 0, 0], [], 1, 95,
     { up with tcm := { banks := (SMap.empty).put 95 (some { st := .fenced, width := 1, table := 31 }), queue := [[528482309, 6227967, 0, 0, 0, 0, 0, 0, 0, 0, 0, 0, 0, 0, 0, 0, 0, 0, 0, 0, 0, 0, 0, 0]] } },
     by decide +kernel⟩,
   ⟨0, 77, [], { up with tcm := { fails := [77] } }, by decide +kernel⟩⟩

/-- States and operands that meet the hypotheses of SearchBanks, clause by clause. -/
theorem witness_SearchBanks :
    (∃ (k : Nat) (l : List Nat) (at' : Nat) (s : State), onData s = true ∧ s.tcm.bulk.todo = some (k :: l, at') ∧ at' ≤ s.now ∧ l ≠ []) ∧
    (∃ (k : Nat) (l : List Nat) (at' : Nat) (s : State), onData s = true ∧ s.tcm.bulk.todo = some (k :: l, at') ∧ s.now < at') ∧
    (∃ (p : Fin 96) (row : Fin 2048) (s : State), onData s = true ∧ bankUp s p.val = true ∧ s.tcm.shadowBad.get false (entKey p.val
      row.val) = false ∧ rowDiffers s p.val row.val = true) ∧
    (∃ (p : Fin 96) (row : Fin 2048) (hit : Upset) (s : State), onData s = true ∧ bankUp s p.val = true ∧ (s.tcm.shadowBad.get false
      (entKey p.val row.val) = true ∨ rowDiffers s p.val row.val = false)) ∧
    (∃ (p : Fin 96) (s : State), onData s = true ∧ s.tcm.window ≠ tbNs s / 1000000000 ∧ rb s .tcmSuspectCfg [] 31 = false ∧ (tcmBank s
      p.val).st = .inService ∧ tcmThreshold s ≤ (tcmBank s p.val).errs) ∧
    (∃ (p : Fin 96) (c : TcmCopy) (s : State), onData s = true ∧ s.tcm.copies.find p.val = some c ∧ c.nextAt ≤ s.now ∧ c.row + 1 < 2048 ∧
      c.to' ≠ p.val ∧ s.tcm.shadowBad.get false (entKey p.val c.row) = false) ∧
    (∃ (p : Fin 96) (c : TcmCopy) (s : State), onData s = true ∧ s.tcm.copies.find p.val = some c ∧ c.nextAt ≤ s.now ∧ c.row = 2047 ∧
      c.to' ≠ p.val) ∧
    (∃ (slot : Fin 4) (p : Fin 96) (s : State), ownerMay s slot .tcmBank [p.val] = true ∧ (tcmBank s p.val).st ≠ .fenced) ∧
    (∃ (slot : Fin 4) (a : Fin 32) (val : Word) (s : State), ownerMay s slot .tcmAlias [a.val] = true ∧ s.fur.direct = false ∧ aliasOk s
      a.val val = true) ∧
    (∃ (slot : Fin 4) (a : Fin 32) (val : Word) (s : State), ownerMay s slot .tcmAlias [a.val] = true ∧ aliasOk s a.val val = false) :=
  ⟨⟨3, [4], 0, { up with tcm := { bulk := { todo := some ([3, 4], 0) } } }, by decide +kernel⟩,
   ⟨3, [4], 1, { up with tcm := { bulk := { todo := some ([3, 4], 1) } } }, by decide +kernel⟩,
   ⟨95, 2047,
     { up with tcm := { banks := (SMap.empty).put 95 (some { st := .inService, width := 1, table := 31 }), ents := (SMap.empty).put (95 * 2048 + 2047) (some { valid := true, val := 1, mask := 3 }), par := (SMap.empty).put (95 * 2048 + 2047) (some 1), shadow := (SMap.empty).put (95 * 2048 + 2047) (some { valid := true, val := 2, mask := 3 }) } },
     by decide +kernel⟩,
   ⟨95, 2047, { val := 5 }, { up with tcm := { banks := (SMap.empty).put 95 (some { st := .inService, width := 1, table := 31 }) } }, by
     decide +kernel⟩,
   ⟨95,
     { up with regs := up.regs.set 0 (Reg.addr .tcmSuspectCfg []) 4, tgt := { tb := 5000000000 * tbUnit }, tcm := { banks := (SMap.empty).put 95 (some { st := .inService, width := 1, table := 31, errs := 4 }) } },
     by decide +kernel⟩,
   ⟨95, { to' := 0, row := 2046, nextAt := 0 },
     { up with tcm := { copies := (SMap.empty).put 95 (some { to' := 0, row := 2046, nextAt := 0 }), ents := (SMap.empty).put (95 * 2048 + 2046) (some { valid := true, mask := 1, data := 9 }), shadow := (SMap.empty).put (95 * 2048 + 2046) (some { valid := true, mask := 1 }) } },
     by decide +kernel⟩,
   ⟨95, { to' := 0, row := 2047, nextAt := 0 },
     { up with tcm := { copies := (SMap.empty).put 95 (some { to' := 0, row := 2047, nextAt := 0 }), banks := ((SMap.empty).put 0 (some { st := .copying, width := 1, table := 31 })).put 95 (some { st := .suspect, width := 1, table := 31 }) } },
     by decide +kernel⟩,
   ⟨0, 95,
     { up with tcm := { banks := (SMap.empty).put 95 (some { st := .inService, width := 1, table := 31 }), ents := (SMap.empty).put (95 * 2048 + 3) (some { valid := true, val := 1, mask := 1 }) } },
     by decide +kernel⟩,
   ⟨0, 31, 31, { up with tcm := { banks := (SMap.empty).put 95 (some { st := .inService, width := 1, table := 31 }) } }, by
     decide +kernel⟩,
   ⟨0, 31, 30, up, by decide +kernel⟩⟩

/-- States and operands that meet the hypotheses of EngineHeads, clause by clause. -/
theorem witness_EngineHeads :
    (∃ (c : Nat) (w : XeWait) (k : Nat) (e : Nat) (s : State), onData s = true ∧ xeNextClass s = some c ∧ xeTarget s c = some (w, k, e) ∧
      w.re = none) ∧
    (∃ (c : Nat) (w : XeWait) (r : XeRec) (k : Nat) (e : Nat) (s : State), onData s = true ∧ xeNextClass s = some c ∧ xeTarget s c = some
      (w, k, e) ∧ w.re = some r) ∧
    (∃ (e : Fin 128) (n : Fin 8) (stage : Fin 23) (vec : List (Fin 128 × Word)) (run : List XeAct) (th : XeThread) (s : State), onData s =
      true ∧ engRuns s e.val = true ∧ (xeEng s e.val).threads.find n.val = some th ∧ th.out = none) ∧
    (∃ (e : Fin 128) (n : Fin 8) (tkt : Ticket) (out : List Byte) (run : List XeAct) (th : XeThread) (s : State), onData s = true ∧
      engRuns s e.val = true ∧ (xeEng s e.val).threads.find n.val = some th ∧ th.out = none) ∧
    (∃ (e : Fin 128) (n : Fin 8) (run : List XeAct) (th : XeThread) (s : State), onData s = true ∧ engRuns s e.val = true ∧ (xeEng s
      e.val).threads.find n.val = some th ∧ th.out = none) ∧
    (∃ (e : Fin 128) (n : Fin 8) (th : XeThread) (s : State), onData s = true ∧ engRuns s e.val = true ∧ (xeEng s e.val).threads.find
      n.val = some th ∧ th.out = some .drop ∧ xeTurn s th = true) ∧
    (∃ (e : Fin 128) (n : Fin 8) (th : XeThread) (stage : Nat) (vec : List (Nat × Word)) (s : State), onData s = true ∧ engRuns s e.val =
      true ∧ (xeEng s e.val).threads.find n.val = some th ∧ th.out = some (.ret stage vec) ∧ xeTurn s th = true) ∧
    (∃ (e : Fin 128) (n : Fin 8) (th : XeThread) (tkt : Ticket) (out : List Byte) (s : State), onData s = true ∧ engRuns s e.val = true ∧
      (xeEng s e.val).threads.find n.val = some th ∧ th.out = some (.send tkt out) ∧ xeTurn s th = true ∧ xeSendBad th.r tkt out = false) ∧
    (∃ (c : Fin 64) (w : XeWait) (rest : List XeWait) (s : State), onData s = true ∧ (xeClassOf s c.val).q = w :: rest ∧ w.since + qwaitNs
      s < s.now) ∧
    (∃ (e : Fin 128) (n : Fin 8) (th : XeThread) (s : State), onData s = true ∧ engRuns s e.val = true ∧ (xeEng s e.val).threads.find
      n.val = some th ∧ th.out = none ∧ th.start + limitNs th.r.b < s.now ∧ th.r.retry = false) ∧
    (∃ (e : Fin 128) (n : Fin 8) (th : XeThread) (s : State), onData s = true ∧ engRuns s e.val = true ∧ (xeEng s e.val).threads.find
      n.val = some th ∧ th.out = none ∧ th.start + limitNs th.r.b < s.now ∧ th.r.retry = true) ∧
    (∃ (k : Fin 8) (s : State), onData s = true ∧ (xeClu s k.val).recOk = true) :=
  ⟨⟨63,
     { p := { cls := 63, reason := 0, head := { inp := 15, port := 120, bytes := [1, 2], len := 2, ns := 0, frac := 0 }, out := [], vec := {}, slice := 8, slot := 5, jsl := 8, punts := 1, parsed := 0 }, since := 0 },
     6, 96,
     { up with regs := (up.regs.set 0 (Reg.addr .xeClassA [63]) 0x80000000).set 0 (Reg.addr .xeClassB [63]) 0xC0050000, xe := { cls := (SMap.empty).put 63 (some { q := [{ p := { cls := 63, reason := 0, head := { inp := 15, port := 120, bytes := [1, 2], len := 2, ns := 0, frac := 0 }, out := [], vec := {}, slice := 8, slot := 5, jsl := 8, punts := 1, parsed := 0 }, since := 0 }] }) } },
     by decide +kernel⟩,
   ⟨63,
     { p := { cls := 63, reason := 0, head := { inp := 15, port := 120, bytes := [1, 2], len := 2, ns := 0, frac := 0 }, out := [], vec := {}, slice := 8, slot := 5, jsl := 8, punts := 1, parsed := 0 }, since := 0, re := some { p := { cls := 63, reason := 0, head := { inp := 15, port := 120, bytes := [1, 2], len := 2, ns := 0, frac := 0 }, out := [], vec := {}, slice := 8, slot := 5, jsl := 8, punts := 1, parsed := 0 }, a := 0x80000000, b := 0xC0050000, clu := 7, epoch := 0, rob := none, retry := true } },
     { p := { cls := 63, reason := 0, head := { inp := 15, port := 120, bytes := [1, 2], len := 2, ns := 0, frac := 0 }, out := [], vec := {}, slice := 8, slot := 5, jsl := 8, punts := 1, parsed := 0 }, a := 0x80000000, b := 0xC0050000, clu := 7, epoch := 0, rob := none, retry := true },
     6, 96,
     { up with xe := { cls := (SMap.empty).put 63 (some { q := [{ p := { cls := 63, reason := 0, head := { inp := 15, port := 120, bytes := [1, 2], len := 2, ns := 0, frac := 0 }, out := [], vec := {}, slice := 8, slot := 5, jsl := 8, punts := 1, parsed := 0 }, since := 0, re := some { p := { cls := 63, reason := 0, head := { inp := 15, port := 120, bytes := [1, 2], len := 2, ns := 0, frac := 0 }, out := [], vec := {}, slice := 8, slot := 5, jsl := 8, punts := 1, parsed := 0 }, a := 0x80000000, b := 0xC0050000, clu := 7, epoch := 0, rob := none, retry := true } }] }) } },
     by decide +kernel⟩,
   ⟨127, 7, 22, [(127, 5)], [.add 16383 (-1)],
     { r := { p := { cls := 63, reason := 0, head := { inp := 15, port := 120, bytes := [1, 2], len := 2, ns := 0, frac := 0 }, out := [], vec := {}, slice := 8, slot := 5, jsl := 8, punts := 1, parsed := 0 }, a := 0x80000000, b := 0xC0050000, clu := 7, epoch := 0, rob := none, retry := false }, start := 0, out := none },
     { up with xe := { eng := (SMap.empty).put 127 (some { threads := (SMap.empty).put 7 (some { r := { p := { cls := 63, reason := 0, head := { inp := 15, port := 120, bytes := [1, 2], len := 2, ns := 0, frac := 0 }, out := [], vec := {}, slice := 8, slot := 5, jsl := 8, punts := 1, parsed := 0 }, a := 0x80000000, b := 0xC0050000, clu := 7, epoch := 0, rob := none, retry := false }, start := 0, out := none }) }) } },
     by decide +kernel⟩,
   ⟨127, 7, 9, [7], [.add 16383 (-1)],
     { r := { p := { cls := 63, reason := 0, head := { inp := 15, port := 120, bytes := [1, 2], len := 2, ns := 0, frac := 0 }, out := [], vec := {}, slice := 8, slot := 5, jsl := 8, punts := 1, parsed := 0 }, a := 0x80000000, b := 0xC0050000, clu := 7, epoch := 0, rob := none, retry := false }, start := 0, out := none },
     { up with xe := { eng := (SMap.empty).put 127 (some { threads := (SMap.empty).put 7 (some { r := { p := { cls := 63, reason := 0, head := { inp := 15, port := 120, bytes := [1, 2], len := 2, ns := 0, frac := 0 }, out := [], vec := {}, slice := 8, slot := 5, jsl := 8, punts := 1, parsed := 0 }, a := 0x80000000, b := 0xC0050000, clu := 7, epoch := 0, rob := none, retry := false }, start := 0, out := none }) }) } },
     by decide +kernel⟩,
   ⟨127, 7, [.add 16383 (-1)],
     { r := { p := { cls := 63, reason := 0, head := { inp := 15, port := 120, bytes := [1, 2], len := 2, ns := 0, frac := 0 }, out := [], vec := {}, slice := 8, slot := 5, jsl := 8, punts := 1, parsed := 0 }, a := 0x80000000, b := 0xC0050000, clu := 7, epoch := 0, rob := none, retry := false }, start := 0, out := none },
     { up with xe := { eng := (SMap.empty).put 127 (some { threads := (SMap.empty).put 7 (some { r := { p := { cls := 63, reason := 0, head := { inp := 15, port := 120, bytes := [1, 2], len := 2, ns := 0, frac := 0 }, out := [], vec := {}, slice := 8, slot := 5, jsl := 8, punts := 1, parsed := 0 }, a := 0x80000000, b := 0xC0050000, clu := 7, epoch := 0, rob := none, retry := false }, start := 0, out := none }) }) } },
     by decide +kernel⟩,
   ⟨127, 7,
     { r := { p := { cls := 63, reason := 0, head := { inp := 15, port := 120, bytes := [1, 2], len := 2, ns := 0, frac := 0 }, out := [], vec := {}, slice := 8, slot := 5, jsl := 8, punts := 1, parsed := 0 }, a := 0x80000000, b := 0xC0050000, clu := 7, epoch := 0, rob := none, retry := false }, start := 0, adds := [(5, 1)], out := some .drop },
     { up with xe := { eng := (SMap.empty).put 127 (some { threads := (SMap.empty).put 7 (some { r := { p := { cls := 63, reason := 0, head := { inp := 15, port := 120, bytes := [1, 2], len := 2, ns := 0, frac := 0 }, out := [], vec := {}, slice := 8, slot := 5, jsl := 8, punts := 1, parsed := 0 }, a := 0x80000000, b := 0xC0050000, clu := 7, epoch := 0, rob := none, retry := false }, start := 0, adds := [(5, 1)], out := some .drop }) }) } },
     by decide +kernel⟩,
   ⟨127, 7,
     { r := { p := { cls := 63, reason := 0, head := { inp := 15, port := 120, bytes := [1, 2], len := 2, ns := 0, frac := 0 }, out := [], vec := {}, slice := 8, slot := 5, jsl := 8, punts := 1, parsed := 0 }, a := 0x80000000, b := 0xC0050000, clu := 7, epoch := 0, rob := none, retry := true }, start := 0, ended := 3, out := some (.ret 23 []) },
     23, [],
     { up with xe := { eng := (SMap.empty).put 127 (some { threads := (SMap.empty).put 7 (some { r := { p := { cls := 63, reason := 0, head := { inp := 15, port := 120, bytes := [1, 2], len := 2, ns := 0, frac := 0 }, out := [], vec := {}, slice := 8, slot := 5, jsl := 8, punts := 1, parsed := 0 }, a := 0x80000000, b := 0xC0050000, clu := 7, epoch := 0, rob := none, retry := true }, start := 0, ended := 3, out := some (.ret 23 []) }) }) } },
     by decide +kernel⟩,
   ⟨127, 7,
     { r := { p := { cls := 63, reason := 0, head := { inp := 15, port := 120, bytes := [1, 2], len := 2, ns := 0, frac := 0 }, out := [], vec := {}, slice := 8, slot := 5, jsl := 8, punts := 1, parsed := 0 }, a := 0x80000000, b := 0xC0050000, clu := 7, epoch := 0, rob := none, retry := true }, start := 0, ended := 3, out := some (.send (tset 0 255 252 1) [7]) },
     tset 0 255 252 1, [7],
     { up with xe := { eng := (SMap.empty).put 127 (some { threads := (SMap.empty).put 7 (some { r := { p := { cls := 63, reason := 0, head := { inp := 15, port := 120, bytes := [1, 2], len := 2, ns := 0, frac := 0 }, out := [], vec := {}, slice := 8, slot := 5, jsl := 8, punts := 1, parsed := 0 }, a := 0x80000000, b := 0xC0050000, clu := 7, epoch := 0, rob := none, retry := true }, start := 0, ended := 3, out := some (.send (tset 0 255 252 1) [7]) }) }) } },
     by decide +kernel⟩,
   ⟨63,
     { p := { cls := 63, reason := 0, head := { inp := 15, port := 120, bytes := [1, 2], len := 2, ns := 0, frac := 0 }, out := [], vec := {}, slice := 8, slot := 5, jsl := 8, punts := 1, parsed := 0 }, since := 0 },
     [],
     { up with now := 100001, xe := { cls := (SMap.empty).put 63 (some { q := [{ p := { cls := 63, reason := 0, head := { inp := 15, port := 120, bytes := [1, 2], len := 2, ns := 0, frac := 0 }, out := [], vec := {}, slice := 8, slot := 5, jsl := 8, punts := 1, parsed := 0 }, since := 0 }] }) } },
     by decide +kernel⟩,
   ⟨127, 7,
     { r := { p := { cls := 63, reason := 0, head := { inp := 15, port := 120, bytes := [1, 2], len := 2, ns := 0, frac := 0 }, out := [], vec := {}, slice := 8, slot := 5, jsl := 8, punts := 1, parsed := 0 }, a := 0x80000000, b := 0xC0050000, clu := 7, epoch := 0, rob := none, retry := false }, start := 0, out := none },
     { up with now := 20001, xe := { eng := (SMap.empty).put 127 (some { threads := (SMap.empty).put 7 (some { r := { p := { cls := 63, reason := 0, head := { inp := 15, port := 120, bytes := [1, 2], len := 2, ns := 0, frac := 0 }, out := [], vec := {}, slice := 8, slot := 5, jsl := 8, punts := 1, parsed := 0 }, a := 0x80000000, b := 0xC0050000, clu := 7, epoch := 0, rob := none, retry := false }, start := 0, out := none }) }) } },
     by decide +kernel⟩,
   ⟨127, 7,
     { r := { p := { cls := 63, reason := 0, head := { inp := 15, port := 120, bytes := [1, 2], len := 2, ns := 0, frac := 0 }, out := [], vec := {}, slice := 8, slot := 5, jsl := 8, punts := 1, parsed := 0 }, a := 0x80000000, b := 0xC0050000, clu := 7, epoch := 0, rob := none, retry := true }, start := 0, out := none },
     { up with now := 20001, xe := { eng := (SMap.empty).put 127 (some { threads := (SMap.empty).put 7 (some { r := { p := { cls := 63, reason := 0, head := { inp := 15, port := 120, bytes := [1, 2], len := 2, ns := 0, frac := 0 }, out := [], vec := {}, slice := 8, slot := 5, jsl := 8, punts := 1, parsed := 0 }, a := 0x80000000, b := 0xC0050000, clu := 7, epoch := 0, rob := none, retry := true }, start := 0, out := none }) }) } },
     by decide +kernel⟩,
   ⟨7,
     { up with xe := { eng := (SMap.empty).put 127 (some { threads := (SMap.empty).put 7 (some { r := { p := { cls := 63, reason := 0, head := { inp := 15, port := 120, bytes := [1, 2], len := 2, ns := 0, frac := 0 }, out := [], vec := {}, slice := 8, slot := 5, jsl := 8, punts := 1, parsed := 0 }, a := 0x80000000, b := 0xC0050000, clu := 7, epoch := 0, rob := none, retry := false }, start := 0, out := none }) }) } },
     by decide +kernel⟩⟩

/-- States and operands that meet the hypotheses of EngineManagement, clause by clause. -/
theorem witness_EngineManagement :
    (∃ (s : State), onData s = true ∧ s.xe.window ≠ tbNs s / 1000000 ∧ rb s .xeLagCfg [] 31 = false) ∧
    (∃ (slot : Fin 4) (val : Word) (s : State), ownerMay s slot .xeEngineFence [] = true ∧ tbit val 31 = true ∧ (xeEng s (fld val 6
      0)).reason = 0) ∧
    (∃ (k : Fin 8) (half : Bool) (s : State), onData s = true ∧ ucodeDue s = true ∧ ucodeNext s = some k.val ∧ half = applyHalf s ∧
      (s.xe.load = .idle ∨ s.xe.load = .resume) ∧ halfNamed s half = false) ∧
    (∃ (s : State), onData s = true ∧ s.xe.load = .drain ∧ (engsOf s.xe.loadClu).all (fun e => (xeEng s e).threads.entries.all (fun x =>
      x.2.out.isSome)) = true) ∧
    (∃ (s : State), onData s = true ∧ s.xe.load = .load ∧ devSectsOk s (tunBase s.img.apply.tun) [6] = true) ∧
    (∃ (s : State), onData s = true ∧ s.xe.load = .load ∧ devSectsOk s (tunBase s.img.apply.tun) [6] = false) ∧
    (∃ (slot : Fin 4) (c : Fin 64) (w : Fin 3) (val : Word) (s : State), ownerMay s slot (classReg w.val) [c.val] = true ∧ s.fur.direct =
      false ∧ classWriteOk s c.val w.val val = true) ∧
    (∃ (slot : Fin 4) (c : Fin 64) (w : Fin 3) (val : Word) (s : State), ownerMay s slot (classReg w.val) [c.val] = true ∧ classWriteOk s
      c.val w.val val = false) :=
  ⟨⟨{ up with regs := up.regs.set 0x8F000000 (Reg.addr .xeLagCfg []) 0x04401000, tgt := { tb := 1000000 * tbUnit }, xe := { eng := (SMap.empty).put 127 (some { n := 20, sum := 90000 }) } },
     by decide +kernel⟩,
   ⟨0, 0x8000007F,
     { up with xe := { eng := (SMap.empty).put 127 (some { threads := (SMap.empty).put 7 (some { r := { p := { cls := 63, reason := 0, head := { inp := 15, port := 120, bytes := [1, 2], len := 2, ns := 0, frac := 0 }, out := [], vec := {}, slice := 8, slot := 5, jsl := 8, punts := 1, parsed := 0 }, a := 0x80000000, b := 0xC0050000, clu := 7, epoch := 0, rob := none, retry := false }, start := 0, out := none }) }) } },
     by decide +kernel⟩,
   ⟨7, true,
     { up with img := { apply := { phase := .downstream, tun := 3, clus := [0, 1, 2, 3, 4, 5, 6] } }, flash := (((SMap.empty).put 0x1400001B (some 1)).put 0x14000100 (some 0)).put 0x14000101 (some 6), xe := { load := .resume } },
     by decide +kernel⟩,
   ⟨{ up with xe := { load := .drain, loadClu := 7 } }, by decide +kernel⟩,
   ⟨{ up with flash := (SMap.empty).put 0x0800001B (some 0), xe := { load := .load, loadClu := 7, loadHalf := 1, clu := (SMap.empty).put 7 (some { paused := true, done := 5 }) } },
     by decide +kernel⟩,
   ⟨{ up with flash := (((((SMap.empty).put 0x0800001B (some 1)).put 0x08000100 (some 0)).put 0x08000101 (some 6)).set 7 0x0800010C 0).set 7 0x0800010D 0 |>.set 7 0x0800010E 0 |>.set 7 0x0800010F 0, xe := { load := .load, loadClu := 7, loadHalf := 1 } },
     by decide +kernel⟩,
   ⟨0, 63, 1, 0xC0050000, up, by decide +kernel⟩,
   ⟨0, 63, 0, 0x80000000, up, by decide +kernel⟩⟩

/-- States and operands that meet the hypotheses of SeamLinkRetry, clause by clause. -/
theorem witness_SeamLinkRetry :
    (∃ (k : Fin 32) (f1 : List Seg) (f2 : List Seg) (s : State), onData s = true ∧ (bundleOf s k.val).st = .up ∧ (bundleOf s k.val).nextAt
      ≤ s.now ∧ (bundleOf s k.val).retry.length < 32 ∧ (bundleOf s k.val).replay = none ∧ (bundleOf s k.val).carried = false ∧ holdFull
      (bundleOf s k.val) = false ∧ (bundleOf s (partnerOf k.val)).st = .up ∧ (bundleOf s (partnerOf k.val)).carried = false ∧ creditDue s
      k.val = none ∧ segFit (bundleOf s k.val).segq 8160 = (f1, f2) ∧ f1 ≠ []) ∧
    (∃ (k : Fin 32) (s : State), onData s = true ∧ ((bundleOf s k.val).st = .up ∨ (bundleOf s k.val).st = .doze) ∧ (bundleOf s
      k.val).nextAt ≤ s.now ∧ (bundleOf s k.val).retry = [] ∧ (bundleOf s k.val).segq = [] ∧ (bundleOf s (partnerOf k.val)).carried =
      false ∧ (bundleOf s (partnerOf k.val)).segq = [] ∧ creditDue s k.val = none) ∧
    (∃ (k : Fin 32) (s : State), onData s = true ∧ (bundleOf s k.val).st = .up ∧ (bundleOf s k.val).nextAt ≤ s.now ∧ (replayedOut64 s
      k.val = true ∨ ((bundleOf s (partnerOf k.val)).carried = true ∧ replayedOut64 s (partnerOf k.val) = true))) ∧
    (∃ (k : Fin 32) (s : State), onData s = true ∧ (bundleOf s k.val).nextAt ≤ s.now ∧ ((bundleOf s k.val).st = .train ∨ (bundleOf s
      k.val).st = .retrain ∨ (bundleOf s k.val).st = .wake)) ∧
    (∃ (k : Fin 32) (hdr : List (Fin 128)) (rst : List (Fin 65408)) (f : Flit) (rest : List Flit) (s : State), onData s = true ∧ (bundleOf
      s k.val).wire = f :: rest ∧ f.train = true) ∧
    (∃ (k : Fin 32) (hdr : List (Fin 128)) (rst : List (Fin 65408)) (g : Nat) (tkt : Ticket) (out : List Byte) (tag : Option Nat) (f :
      Flit) (rest : List Flit) (q : Nat) (s : State), onData s = true ∧ (bundleOf s k.val).wire = f :: rest ∧ f.train = false ∧ crcSees
      (hdr.map (fun x => x.val) ++ rst.map (fun x => 128 + x.val)) = false ∧ f.data = some (q, [.head g tkt out tag]) ∧ f.orig = k.val ∧
      f.swapOp = 0 ∧ q = (bundleOf s k.val).next ∧ (bundleOf s k.val).holding = none ∧ k.val < 16 ∧ ticketGood tkt = true) ∧
    (∃ (k : Fin 32) (hdr : List (Fin 128)) (rst : List (Fin 65408)) (sl : Nat) (oc : Nat) (j : Nat) (f : Flit) (rest : List Flit) (q :
      Nat) (s : State), onData s = true ∧ (bundleOf s k.val).wire = f :: rest ∧ f.train = false ∧ crcSees (hdr.map (fun x => x.val) ++
      rst.map (fun x => 128 + x.val)) = false ∧ f.data = some (q, [.admitPtr sl oc j]) ∧ f.orig = k.val ∧ f.swapOp = 0 ∧ q = (bundleOf s
      k.val).next ∧ (bundleOf s k.val).holding = none ∧ 16 ≤ k.val) ∧
    (∃ (k : Fin 32) (hdr : List (Fin 128)) (rst : List (Fin 65408)) (g : Nat) (tags : List Nat) (bytes : Nat) (f : Flit) (rest : List
      Flit) (q : Nat) (s : State), onData s = true ∧ (bundleOf s k.val).wire = f :: rest ∧ f.train = false ∧ crcSees (hdr.map (fun x =>
      x.val) ++ rst.map (fun x => 128 + x.val)) = false ∧ f.data = some (q, [.credit g tags bytes]) ∧ f.orig = k.val ∧ f.swapOp = 0 ∧ q =
      (bundleOf s k.val).next ∧ (bundleOf s k.val).holding = none) ∧
    (∃ (k : Fin 32) (hdr : List (Fin 128)) (rst : List (Fin 65408)) (f : Flit) (rest : List Flit) (q : Nat) (segs : List Seg) (s : State),
      onData s = true ∧ (bundleOf s k.val).wire = f :: rest ∧ f.train = false ∧ crcSees (hdr.map (fun x => x.val) ++ rst.map (fun x => 128
      + x.val)) = false ∧ f.data = some (q, segs) ∧ f.orig < 32 ∧ f.swapOp = 0 ∧ 2048 ≤ (q + 4096 - (bundleOf s f.orig).next) % 4096) ∧
    (∃ (k : Fin 32) (hdr : List (Fin 128)) (rst : List (Fin 65408)) (f : Flit) (rest : List Flit) (q : Nat) (segs : List Seg) (s : State),
      onData s = true ∧ (bundleOf s k.val).wire = f :: rest ∧ f.train = false ∧ crcSees (hdr.map (fun x => x.val) ++ rst.map (fun x => 128
      + x.val)) = false ∧ f.data = some (q, segs) ∧ f.orig < 32 ∧ f.swapOp = 0 ∧ q ≠ (bundleOf s f.orig).next ∧ (q + 4096 - (bundleOf s
      f.orig).next) % 4096 < 2048) ∧
    (∃ (k : Fin 32) (hdr : List (Fin 128)) (rst : List (Fin 65408)) (f : Flit) (rest : List Flit) (s : State), onData s = true ∧ (bundleOf
      s k.val).wire = f :: rest ∧ f.train = false ∧ crcSees (hdr.map (fun x => x.val) ++ rst.map (fun x => 128 + x.val)) = true) ∧
    (∃ (k : Fin 32) (x : Nat) (s : State), onData s = true ∧ (bundleOf s k.val).nakAt = some x ∧ x ≤ s.now) :=
  ⟨⟨31, [.credit 15 [1] 2], [],
     { up with ell := { b := ((SMap.empty).put 30 (some { st := .up })).put 31 (some { st := .up, seq := 4095, segq := [.credit 15 [1] 2], nextAt := 0 }), credit := (SMap.empty).put 15 (some { tags := List.range 64, used := 2097152 }) } },
     by decide +kernel⟩,
   ⟨31,
     { up with ell := { b := (SMap.empty).put 31 (some { st := .doze, seq := 7 }), credit := (SMap.empty).put 15 (some { tags := List.range 64, used := 2097152 }) } },
     by decide +kernel⟩,
   ⟨31,
     { up with ell := { b := (SMap.empty).put 31 (some { st := .up, retry := [(4095, [.carry 1], 64), (0, [], 3)], replay := some 4095 }) } },
     by decide +kernel⟩,
   ⟨31, { up with ell := { b := (SMap.empty).put 31 (some { st := .wake }) } }, by decide +kernel⟩,
   ⟨31, [127], [0], { data := none, orig := 31, ack := 0, nak := false, swapOp := 0, lane := 0, spare := 0, train := true }, [],
     { up with ell := { b := (SMap.empty).put 31 (some { st := .retrain, wire := [{ data := none, orig := 31, ack := 0, nak := false, swapOp := 0, lane := 0, spare := 0, train := true }] }) } },
     by decide +kernel⟩,
   ⟨15, [], [], 15, tset 0 7 0 (ticketChk 0), [1], some 3,
     { data := some (4095, [.head 15 (tset 0 7 0 (ticketChk 0)) [1] (some 3)]), orig := 15, ack := 5, nak := false, swapOp := 0, lane := 0, spare := 0 },
     [], 4095,
     { up with ell := { b := (SMap.empty).put 15 (some { st := .up, next := 4095, nakAt := some 9, wire := [{ data := some (4095, [.head 15 (tset 0 7 0 (ticketChk 0)) [1] (some 3)]), orig := 15, ack := 5, nak := false, swapOp := 0, lane := 0, spare := 0 }] }) } },
     by decide +kernel⟩,
   ⟨31, [], [], 8, 2, 9, { data := some (0, [.admitPtr 8 2 9]), orig := 31, ack := 5, nak := false, swapOp := 0, lane := 0, spare := 0 },
     [], 0,
     { up with ell := { b := (SMap.empty).put 31 (some { st := .up, next := 0, wire := [{ data := some (0, [.admitPtr 8 2 9]), orig := 31, ack := 5, nak := false, swapOp := 0, lane := 0, spare := 0 }] }) } },
     by decide +kernel⟩,
   ⟨31, [], [], 15, [5, 6], 700,
     { data := some (1, [.credit 15 [5, 6] 700]), orig := 31, ack := 5, nak := false, swapOp := 0, lane := 0, spare := 0 }, [], 1,
     { up with ell := { b := (SMap.empty).put 31 (some { st := .up, next := 1, wire := [{ data := some (1, [.credit 15 [5, 6] 700]), orig := 31, ack := 5, nak := false, swapOp := 0, lane := 0, spare := 0 }] }) } },
     by decide +kernel⟩,
   ⟨31, [], [], { data := some (4095, [.carry 3]), orig := 31, ack := 5, nak := false, swapOp := 0, lane := 0, spare := 0 }, [], 4095,
     [.carry 3],
     { up with ell := { b := (SMap.empty).put 31 (some { st := .up, next := 0, wire := [{ data := some (4095, [.carry 3]), orig := 31, ack := 5, nak := false, swapOp := 0, lane := 0, spare := 0 }] }) } },
     by decide +kernel⟩,
   ⟨31, [], [], { data := some (5, []), orig := 30, ack := 5, nak := false, swapOp := 0, lane := 0, spare := 0 }, [], 5, [],
     { up with ell := { b := (SMap.empty).put 31 (some { st := .up, next := 0, wire := [{ data := some (5, []), orig := 30, ack := 5, nak := false, swapOp := 0, lane := 0, spare := 0 }] }) } },
     by decide +kernel⟩,
   ⟨31, [], [65407], { data := none, orig := 31, ack := 5, nak := true, swapOp := 0, lane := 0, spare := 0 }, [],
     { up with ell := { b := (SMap.empty).put 31 (some { st := .up, next := 0, wire := [{ data := none, orig := 31, ack := 5, nak := true, swapOp := 0, lane := 0, spare := 0 }] }) } },
     by decide +kernel⟩,
   ⟨31, 0, { up with ell := { b := (SMap.empty).put 31 (some { st := .up, nakAt := some 0 }) } }, by decide +kernel⟩⟩

/-- States and operands that meet the hypotheses of SeamStates, clause by clause. -/
theorem witness_SeamStates :
    (∃ (k : Fin 32) (bad : BitVec 66) (s : State), onData s = true ∧ fwRuns s = true ∧ (bundleOf s k.val).st = .train ∧ 64 ≤ goodLanes
      bad.toNat ∧ s.now ≤ (bundleOf s k.val).since + 10000000) ∧
    (∃ (k : Fin 32) (clk : Bool) (bad : BitVec 66) (s : State), onData s = true ∧ fwRuns s = true ∧ (bundleOf s k.val).st = .train ∧ (clk
      = false ∨ goodLanes bad.toNat < 64 ∨ (bundleOf s k.val).since + 10000000 < s.now)) ∧
    (∃ (k : Fin 32) (s : State), onData s = true ∧ (bundleOf s k.val).st = .train ∧ (bundleOf s k.val).since + 10000000 ≤ s.now) ∧
    (∃ (k : Fin 32) (s : State), onData s = true ∧ (bundleOf s k.val).st = .up) ∧
    (∃ (k : Fin 32) (s : State), onData s = true ∧ (bundleOf s k.val).st = .retrain ∧ s.now ≤ (bundleOf s k.val).since + 20000) ∧
    (∃ (k : Fin 32) (pass : Bool) (s : State), onData s = true ∧ (bundleOf s k.val).st = .retrain ∧ (pass = false ∨ (bundleOf s
      k.val).since + 20000 < s.now)) ∧
    (∃ (k : Fin 32) (lane : Fin 66) (loss : Bool) (l : Nat) (sp : Nat) (more : List Nat) (s : State), onData s = true ∧ (bundleOf s
      k.val).st = .up ∧ (bundleOf s k.val).bad.testBit lane.val = false ∧ (loss = true ∨ laneThr s k.val ≤ parCount (bundleOf s k.val)
      s.now lane.val) ∧ logicalOn (bundleOf s k.val) lane.val = some l ∧ freeSpares
      { bundleOf s k.val with bad := (bundleOf s k.val).bad ||| 1 <<< lane.val } = sp :: more) ∧
    (∃ (k : Fin 32) (lane : Fin 66) (loss : Bool) (l : Nat) (s : State), onData s = true ∧ (bundleOf s k.val).st = .up ∧ (bundleOf s
      k.val).bad.testBit lane.val = false ∧ (loss = true ∨ laneThr s k.val ≤ parCount (bundleOf s k.val) s.now lane.val) ∧ logicalOn
      (bundleOf s k.val) lane.val = some l ∧ freeSpares { bundleOf s k.val with bad := (bundleOf s k.val).bad ||| 1 <<< lane.val } = []) ∧
    (∃ (k : Fin 32) (lane : Fin 66) (loss : Bool) (s : State), onData s = true ∧ (bundleOf s k.val).bad.testBit lane.val = false ∧ (loss =
      true ∨ laneThr s k.val ≤ parCount (bundleOf s k.val) s.now lane.val) ∧ ((bundleOf s k.val).st ≠ .up ∨ logicalOn (bundleOf s k.val)
      lane.val = none)) ∧
    (∃ (k : Fin 32) (lane : Fin 66) (s : State), onData s = true ∧ fwRuns s = true ∧ (bundleOf s k.val).bad.testBit lane.val = true) ∧
    (∃ (slot : Fin 4) (k : Fin 32) (val : Word) (s : State), ownerMay s slot .ellBcfg [k.val / 16, k.val % 16] = true) ∧
    (∃ (k : Fin 32) (s : State), onData s = true ∧ (bundleOf s k.val).st = .up ∧ (bundleOf s k.val).retry = [] ∧ (sleepOf s k.val = 1 ∨
      (sleepOf s k.val = 2 ∧ offAllowed s k.val = false))) ∧
    (∃ (k : Fin 32) (s : State), onData s = true ∧ ((bundleOf s k.val).st = .doze ∨ ((bundleOf s k.val).st = .up ∧ (bundleOf s
      k.val).retry = [])) ∧ sleepOf s k.val = 2 ∧ offAllowed s k.val = true) ∧
    (∃ (k : Fin 32) (s : State), onData s = true ∧ ((bundleOf s k.val).st = .doze ∨ (bundleOf s k.val).st = .off) ∧ (sleepOf s k.val = 0 ∨
      ((bundleOf s k.val).segq ≠ [] ∧ (rb s .ellBcfg [k.val / 16, k.val % 16] 29 = true ∨ (bundleOf s (partnerOf k.val)).st ≠ .up)))) ∧
    (∃ (k : Fin 32) (s : State), onData s = true ∧ (bundleOf s k.val).st = .wake) ∧
    (∃ (k : Fin 32) (s : State), onData s = true ∧ (bundleOf s k.val).st = .wake) ∧
    (∃ (g : Fin 16) (i : Fin 16384) (w : BodyWait) (s : State), onData s = true ∧ (s.ell.body.get {} (g.val * 2 ^ 14 + i.val)).wait = some
      w ∧ (s.ell.body.get {} (g.val * 2 ^ 14 + i.val)).gen < 4 ∧ w.at' + ageNs s ≤ s.now) :=
  ⟨⟨31, 5, { up with ell := { b := (SMap.empty).put 31 (some { st := .train, next := 9 }) } }, by decide +kernel⟩,
   ⟨31, true, 7, { up with ell := { b := (SMap.empty).put 31 (some { st := .train, next := 9, retry := [(4, [], 0)] }) } }, by
     decide +kernel⟩,
   ⟨31, { up with ell := { b := (SMap.empty).put 31 (some { st := .train, next := 9 }) }, now := 10000000 }, by decide +kernel⟩,
   ⟨31, { up with ell := { b := (SMap.empty).put 31 (some { st := .up, next := 9, retry := [(4, [], 0)] }) } }, by decide +kernel⟩,
   ⟨31, { up with ell := { b := (SMap.empty).put 31 (some { st := .retrain, next := 9, retry := [(4, [], 0)] }) }, now := 20000 }, by
     decide +kernel⟩,
   ⟨31, true, { up with ell := { b := (SMap.empty).put 31 (some { st := .retrain, next := 9 }) }, now := 20001 }, by decide +kernel⟩,
   ⟨31, 63, false, 63, 64, [65],
     { up with regs := up.regs.set 0 (Reg.addr .ellBcfg [1, 15]) 0x20000000, ell := { b := (SMap.empty).put 31 (some { st := .up, par := (SMap.empty).put 63 (some (1, 0)) }) } },
     by decide +kernel⟩,
   ⟨31, 65, true, 0,
     { up with ell := { b := (SMap.empty).put 31 (some { st := .up, next := 9, bad := 3, moved := ((SMap.empty).put 0 (some 65)).put 1 (some 64) }) } },
     by decide +kernel⟩,
   ⟨31, 65, true, { up with ell := { b := (SMap.empty).put 31 (some { st := .up }) } }, by decide +kernel⟩,
   ⟨31, 65, { up with ell := { b := (SMap.empty).put 31 (some { st := .up, bad := 2^65 }) } }, by decide +kernel⟩,
   ⟨0, 31, 0xFFFFFFFF, up, by decide +kernel⟩,
   ⟨8, { up with regs := up.regs.set 0 (Reg.addr .ellBcfg [0, 8]) 0x80000000, ell := { b := (SMap.empty).put 8 (some { st := .up }) } },
     by decide +kernel⟩,
   ⟨31,
     { up with regs := up.regs.set 0 (Reg.addr .ellBcfg [1, 15]) 0x80000000, ell := { b := (SMap.empty).put 31 (some { st := .doze }) } },
     by decide +kernel⟩,
   ⟨31,
     { up with regs := up.regs.set 0 (Reg.addr .ellBcfg [1, 15]) 0xA0000000, ell := { b := (SMap.empty).put 31 (some { st := .off, segq := [.carry 1] }) } },
     by decide +kernel⟩,
   ⟨31, { up with ell := { b := (SMap.empty).put 31 (some { st := .wake, next := 9 }) } }, by decide +kernel⟩,
   ⟨31, { up with ell := { b := (SMap.empty).put 31 (some { st := .wake, next := 9 }) } }, by decide +kernel⟩,
   ⟨15, 16383, { bytes := [1] },
     { up with now := 20000000, ell := { body := (SMap.empty).put 262143 (some { gen := 3, wait := some { bytes := [1] } }) } }, by
     decide +kernel⟩⟩

/-- States and operands that meet the hypotheses of Admission, clause by clause. -/
theorem witness_Admission :
    (∃ (u : Fin 32) (tkt : Ticket) (out : List Byte) (rest : List AdmItem) (k : Nat) (g : Nat) (s1 : State) (s : State), u.val < 16 ∧
      s.bpm.unit.get [] u.val = .ing tkt out none :: rest ∧ blkOn s 0xC = true ∧ tfld tkt 255 252 ≠ 1 ∧ tfld tkt 111 108 = 0 ∧ validFor s
      u.val (targetQ tkt) = true ∧ refusing s (targetQ tkt) = false ∧ isEgQ s (targetQ tkt) = false ∧ qDepth (qOf s (targetQ tkt)) + tfld
      tkt 241 228 ≤ maxD s (targetQ tkt) (tfld tkt 249 248) ∧ rb s .bpmProfEd [profOf s (targetQ tkt)] 31 = false ∧ (qOf s (targetQ
      tkt)).spill = false ∧ spillEn s (targetQ tkt) = false ∧ shareOk s (targetQ tkt) (tfld tkt 241 228) = true ∧ bufAlloc s (poolFor
      out.length) false out = some (k, g, s1)) ∧
    (∃ (u : Fin 32) (tkt : Ticket) (out : List Byte) (rest : List AdmItem) (s : State), u.val < 16 ∧ s.bpm.unit.get [] u.val = .ing tkt
      out none :: rest ∧ blkOn s 0xC = true ∧ tfld tkt 255 252 ≠ 1 ∧ tfld tkt 111 108 = 0 ∧ isEgQ s (targetQ tkt) = false ∧ validFor s
      u.val (targetQ tkt) = false) ∧
    (∃ (u : Fin 32) (tkt : Ticket) (out : List Byte) (rest : List AdmItem) (s : State), u.val < 16 ∧ s.bpm.unit.get [] u.val = .ing tkt
      out none :: rest ∧ blkOn s 0xC = true ∧ tfld tkt 255 252 ≠ 1 ∧ tfld tkt 111 108 = 0 ∧ isEgQ s (targetQ tkt) = false ∧ validFor s
      u.val (targetQ tkt) = true ∧ refusing s (targetQ tkt) = false ∧ maxD s (targetQ tkt) (tfld tkt 249 248) < qDepth (qOf s (targetQ
      tkt)) + tfld tkt 241 228) ∧
    (∃ (u : Fin 32) (tkt : Ticket) (k : Nat) (g : Nat) (rest : List AdmItem) (d : Nat) (s2 : State) (s : State), 16 ≤ u.val ∧
      s.bpm.unit.get [] u.val = .eg tkt k g :: rest ∧ blkOn s 0xC = true ∧ tfld tkt 255 252 ≠ 1 ∧ tfld tkt 111 108 = 0 ∧ validFor s u.val
      (targetQ tkt) = true ∧ refusing s (targetQ tkt) = false ∧ (bufOf s k).used = true ∧ (bufOf s k).gen = g ∧ (bufOf s k).ref = 1 ∧
      police s (targetQ tkt) (tfld tkt 241 228) (tfld tkt 249 248) = (d, s2) ∧ qDepth (qOf s (targetQ tkt)) + tfld tkt 241 228 ≤ maxD s
      (targetQ tkt) d ∧ rb s .bpmProfEd [profOf s (targetQ tkt)] 31 = false ∧ (qOf s (targetQ tkt)).spill = false ∧ spillEn s (targetQ
      tkt) = false ∧ shareOk s (targetQ tkt) (tfld tkt 241 228) = true) ∧
    (∃ (u : Fin 32) (tkt : Ticket) (k : Nat) (g : Nat) (rest : List AdmItem) (d : Nat) (s2 : State) (s : State), 16 ≤ u.val ∧
      s.bpm.unit.get [] u.val = .eg tkt k g :: rest ∧ blkOn s 0xC = true ∧ tfld tkt 255 252 ≠ 1 ∧ tfld tkt 111 108 = 0 ∧ (bufOf s k).used
      = true ∧ (bufOf s k).gen = g ∧ (bufOf s k).ref = 1 ∧ police s (targetQ tkt) (tfld tkt 241 228) (tfld tkt 249 248) = (d, s2) ∧
      validFor s u.val (targetQ tkt) = true ∧ refusing s (targetQ tkt) = true) ∧
    (∃ (u : Fin 32) (tkt : Ticket) (out : List Byte) (tag : Nat) (rest : List AdmItem) (s : State), u.val < 16 ∧ blkOn s 0xC = true ∧
      s.bpm.unit.get [] u.val = .ing tkt out (some tag) :: rest ∧ waitingBody s tag = none) ∧
    (∃ (u : Fin 32) (sl : Nat) (rest : List AdmItem) (s : State), blkOn s 0xC = true ∧ s.bpm.unit.get [] u.val = .fence sl :: rest ∧ mcOf
      s u.val = []) :=
  ⟨⟨15, (tsealed (tset (tset (tset (tset (tset (tset 0 255 252 0) 241 228 3) 249 248 3) 215 196 4095) 219 216 8) 31 16 5)), [1, 2, 3], [], 0,
     1, poolLow (modBuf
     ({ up with regs := ((((up.regs.set 0 (Reg.addr .bpmQcfg [4095]) 0x800000FF).set 0 (Reg.addr .schQsplit []) 0x00001000).set 0 (Reg.addr .bpmProfMax [255, 3]) 1).set 0 (Reg.addr .bpmProfMin [255]) 1).set 0 (Reg.addr .bpmPoolCfg [0]) 16, bpm := { unit := (SMap.empty).put 15 (some [.ing (tsealed (tset (tset (tset (tset (tset (tset 0 255 252 0) 241 228 3) 249 248 3) 215 196 4095) 219 216 8) 31 16 5)) [1, 2, 3] none]) } })
     0 (fun _ => { used := true, gen := 1, ref := 1, pkt := [1, 2, 3] })) 0,
     { up with regs := ((((up.regs.set 0 (Reg.addr .bpmQcfg [4095]) 0x800000FF).set 0 (Reg.addr .schQsplit []) 0x00001000).set 0 (Reg.addr .bpmProfMax [255, 3]) 1).set 0 (Reg.addr .bpmProfMin [255]) 1).set 0 (Reg.addr .bpmPoolCfg [0]) 16, bpm := { unit := (SMap.empty).put 15 (some [.ing (tsealed (tset (tset (tset (tset (tset (tset 0 255 252 0) 241 228 3) 249 248 3) 215 196 4095) 219 216 8) 31 16 5)) [1, 2, 3] none]) } },
     by decide +kernel⟩,
   ⟨15, (tsealed (tset (tset (tset (tset (tset (tset 0 255 252 0) 241 228 1) 249 248 0) 215 196 4094) 219 216 8) 31 16 5)), [1], [],
     { up with regs := ((((up.regs.set 0 (Reg.addr .bpmQcfg [4095]) 0x800000FF).set 0 (Reg.addr .schQsplit []) 0x00001000).set 0 (Reg.addr .bpmProfMax [255, 3]) 1).set 0 (Reg.addr .bpmProfMin [255]) 1).set 0 (Reg.addr .bpmPoolCfg [0]) 16, bpm := { unit := (SMap.empty).put 15 (some [.ing (tsealed (tset (tset (tset (tset (tset (tset 0 255 252 0) 241 228 1) 249 248 0) 215 196 4094) 219 216 8) 31 16 5)) [1] none]) } },
     by decide +kernel⟩,
   ⟨15, (tsealed (tset (tset (tset (tset (tset (tset 0 255 252 0) 241 228 1) 249 248 3) 215 196 4095) 219 216 8) 31 16 5)), [1], [],
     { up with regs := ((((up.regs.set 0 (Reg.addr .bpmQcfg [4095]) 0x800000FF).set 0 (Reg.addr .schQsplit []) 0x00001000).set 0 (Reg.addr .bpmProfMax [255, 3]) 0).set 0 (Reg.addr .bpmProfMin [255]) 1).set 0 (Reg.addr .bpmPoolCfg [0]) 16, bpm := { unit := (SMap.empty).put 15 (some [.ing (tsealed (tset (tset (tset (tset (tset (tset 0 255 252 0) 241 228 1) 249 248 3) 215 196 4095) 219 216 8) 31 16 5)) [1] none]) } },
     by decide +kernel⟩,
   ⟨31, (tsealed (tset (tset (tset (tset (tset (tset 0 255 252 0) 241 228 1) 249 248 0) 215 196 4096) 219 216 8) 31 16 5)), 3, 15, [], 3,
     (police
     ({ up with regs := (((((((up.regs.set 0 (Reg.addr .bpmQcfg [4096]) 0x800000FF).set 0 (Reg.addr .schQsplit []) 0x00001000).set 0 (Reg.addr .bpmProfMax [255, 3]) 1).set 0 (Reg.addr .bpmProfMin [255]) 1).set 0 (Reg.addr .bpmPoolCfg [0]) 16).set 0 (nodeKey 4 0x1000 6) 0x8000000F).set 0 (Reg.addr .schPolC [15]) 0x8C000000), bpm := { unit := (SMap.empty).put 31 (some [.eg (tsealed (tset (tset (tset (tset (tset (tset 0 255 252 0) 241 228 1) 249 248 0) 215 196 4096) 219 216 8) 31 16 5)) 3 15]), bufs := (SMap.empty).put 3 (some { used := true, gen := 15, ref := 1, pkt := [9] }) }, sch := { port := (SMap.empty).put 0 (some { st := .up, link := true }), pol := (SMap.empty).put 15 (some { tc := some 1, tp := some 1 }) } })
     0x1000 1 0).2,
     { up with regs := (((((((up.regs.set 0 (Reg.addr .bpmQcfg [4096]) 0x800000FF).set 0 (Reg.addr .schQsplit []) 0x00001000).set 0 (Reg.addr .bpmProfMax [255, 3]) 1).set 0 (Reg.addr .bpmProfMin [255]) 1).set 0 (Reg.addr .bpmPoolCfg [0]) 16).set 0 (nodeKey 4 0x1000 6) 0x8000000F).set 0 (Reg.addr .schPolC [15]) 0x8C000000), bpm := { unit := (SMap.empty).put 31 (some [.eg (tsealed (tset (tset (tset (tset (tset (tset 0 255 252 0) 241 228 1) 249 248 0) 215 196 4096) 219 216 8) 31 16 5)) 3 15]), bufs := (SMap.empty).put 3 (some { used := true, gen := 15, ref := 1, pkt := [9] }) }, sch := { port := (SMap.empty).put 0 (some { st := .up, link := true }), pol := (SMap.empty).put 15 (some { tc := some 1, tp := some 1 }) } },
     by decide +kernel⟩,
   ⟨31, (tsealed (tset (tset (tset (tset (tset (tset 0 255 252 0) 241 228 1) 249 248 3) 215 196 4096) 219 216 8) 31 16 5)), 3, 15, [], 3,
     (police
     ({ up with regs := ((((up.regs.set 0 (Reg.addr .bpmQcfg [4096]) 0x800000FF).set 0 (Reg.addr .schQsplit []) 0x00001000).set 0 (Reg.addr .bpmProfMax [255, 3]) 1).set 0 (Reg.addr .bpmProfMin [255]) 1).set 0 (Reg.addr .bpmPoolCfg [0]) 16, bpm := { unit := (SMap.empty).put 31 (some [.eg (tsealed (tset (tset (tset (tset (tset (tset 0 255 252 0) 241 228 1) 249 248 3) 215 196 4096) 219 216 8) 31 16 5)) 3 15]), bufs := (SMap.empty).put 3 (some { used := true, gen := 15, ref := 1, pkt := [9] }) } })
     0x1000 1 3).2,
     { up with regs := ((((up.regs.set 0 (Reg.addr .bpmQcfg [4096]) 0x800000FF).set 0 (Reg.addr .schQsplit []) 0x00001000).set 0 (Reg.addr .bpmProfMax [255, 3]) 1).set 0 (Reg.addr .bpmProfMin [255]) 1).set 0 (Reg.addr .bpmPoolCfg [0]) 16, bpm := { unit := (SMap.empty).put 31 (some [.eg (tsealed (tset (tset (tset (tset (tset (tset 0 255 252 0) 241 228 1) 249 248 3) 215 196 4096) 219 216 8) 31 16 5)) 3 15]), bufs := (SMap.empty).put 3 (some { used := true, gen := 15, ref := 1, pkt := [9] }) } },
     by decide +kernel⟩,
   ⟨15, 0, [], 0x4FFFF, [],
     { up with regs := ((((up.regs.set 0 (Reg.addr .bpmQcfg [4095]) 0x800000FF).set 0 (Reg.addr .schQsplit []) 0x00001000).set 0 (Reg.addr .bpmProfMax [255, 3]) 1).set 0 (Reg.addr .bpmProfMin [255]) 1).set 0 (Reg.addr .bpmPoolCfg [0]) 16, bpm := { unit := (SMap.empty).put 15 (some [.ing 0 [] (some 0x4FFFF)]) } },
     by decide +kernel⟩,
   ⟨15, 8, [.fence 7],
     { up with regs := ((((up.regs.set 0 (Reg.addr .bpmQcfg [4095]) 0x800000FF).set 0 (Reg.addr .schQsplit []) 0x00001000).set 0 (Reg.addr .bpmProfMax [255, 3]) 1).set 0 (Reg.addr .bpmProfMin [255]) 1).set 0 (Reg.addr .bpmPoolCfg [0]) 16, bpm := { unit := (SMap.empty).put 15 (some [.fence 8, .fence 7]) } },
     by decide +kernel⟩⟩

/-- States and operands that meet the hypotheses of ReplicationAndSpill, clause by clause. -/
theorem witness_ReplicationAndSpill :
    (∃ (u : Fin 32) (j : McJob) (rest : List McJob) (base : Nat) (len : Nat) (s : State), blkOn s 0xC = true ∧ mcOf s u.val = j :: rest ∧
      j.list = some (base, len) ∧ j.i + 1 < len) ∧
    (∃ (u : Fin 32) (j : McJob) (rest : List McJob) (s : State), blkOn s 0xC = true ∧ mcOf s u.val = j :: rest ∧ j.list = none ∧ j.i = 0 ∧
      1 < fld (groupWord s u.val j.tkt) 31 21) ∧
    (∃ (u : Fin 32) (j : McJob) (rest : List McJob) (base : Nat) (len : Nat) (s : State), blkOn s 0xC = true ∧ mcOf s u.val = j :: rest ∧
      j.list = some (base, len) ∧ len ≤ j.i + 1) ∧
    (∃ (slot : Fin 4) (g : Fin 65536) (eg : Bool) (val : Word) (s : State), ownerMay s slot (if eg then .bpmMcgEg else .bpmMcgIng) [g.val]
      = true ∧ fld val 31 21 ≤ 1024 ∧ fld val 17 0 + fld val 31 21 ≤ 262144) ∧
    (∃ (slot : Fin 4) (g : Fin 65536) (eg : Bool) (val : Word) (s : State), ownerMay s slot (if eg then .bpmMcgEg else .bpmMcgIng) [g.val]
      = true ∧ (1024 < fld val 31 21 ∨ 262144 < fld val 17 0 + fld val 31 21)) ∧
    (∃ (q : Fin 1048576) (i : Nat) (r : HRec) (lines : List (Nat × Nat × Nat)) (s1 : State) (s : State), onData s = true ∧ (qOf s
      q.val).hbm.findIdx? (fun r => r.st == .reserved && !r.dead) = some i ∧ (qOf s q.val).hbm[i]? = some r ∧ r.ready = true ∧ takeLines
      q.val 256 (if r.data then recLines r.p.len else 1) s = some (lines, s1) ∧ roomFor (writesQueued s) lines 128 = true) ∧
    (∃ (q : Fin 1048576) (i : Nat) (r : HRec) (k : Nat) (g : Nat) (s : State), onData s = true ∧ (qOf s q.val).hbm.findIdx? (fun r => r.st
      != .reserved && !r.done) = some i ∧ (qOf s q.val).hbm[i]? = some r ∧ r.dead = false ∧ r.data = true ∧ r.st = .writing ∧ recHeld s r
      = false ∧ r.p.loc = .buf k g ∧ (bufOf s k).used = true ∧ (bufOf s k).gen = g ∧ 1 < (bufOf s k).ref) ∧
    (∃ (q : Fin 1048576) (i : Nat) (r : HRec) (k : Nat) (g : Nat) (s1 : State) (s : State), onData s = true ∧ (qOf s q.val).spill = true ∧
      onDie (qOf s q.val) < prefBytes s ∧ (qOf s q.val).hbm.findIdx? (fun r => r.st != .reading && !r.dead) = some i ∧ (qOf s
      q.val).hbm[i]? = some r ∧ (r.st = .writing ∨ (r.st = .written ∧ roomFor (readsQueued s) r.lines 256 = true)) ∧ r.data = true ∧
      readBuf s r.p.len = some (k, g, s1)) :=
  ⟨⟨31,
     { tkt := (tsealed (tset (tset (tset (tset (tset (tset 0 255 252 0) 241 228 1) 249 248 0) 215 196 9) 219 216 8) 31 16 5)), k := 3, gen := 1, list := some (262142, 2) },
     [], 262142, 2,
     { up with regs := up.regs, bpm := { mc := (SMap.empty).put 31 (some [{ tkt := (tsealed (tset (tset (tset (tset (tset (tset 0 255 252 0) 241 228 1) 249 248 0) 215 196 9) 219 216 8) 31 16 5)), k := 3, gen := 1, list := some (262142, 2) }]) } },
     by decide +kernel⟩,
   ⟨31,
     { tkt := (tsealed (tset (tset (tset (tset (tset (tset 0 255 252 0) 241 228 1) 249 248 0) 215 196 9) 219 216 8) 31 16 5)), k := 3, gen := 1 },
     [],
     { up with regs := up.regs.set 0 (Reg.addr .bpmMcgEg [9]) 0x0043FFFE, bpm := { mc := (SMap.empty).put 31 (some [{ tkt := (tsealed (tset (tset (tset (tset (tset (tset 0 255 252 0) 241 228 1) 249 248 0) 215 196 9) 219 216 8) 31 16 5)), k := 3, gen := 1 }]) } },
     by decide +kernel⟩,
   ⟨31,
     { tkt := (tsealed (tset (tset (tset (tset (tset (tset 0 255 252 0) 241 228 1) 249 248 0) 215 196 9) 219 216 8) 31 16 5)), k := 3, gen := 1, list := some (262143, 1) },
     [], 262143, 1,
     { up with regs := up.regs, bpm := { mc := (SMap.empty).put 31 (some [{ tkt := (tsealed (tset (tset (tset (tset (tset (tset 0 255 252 0) 241 228 1) 249 248 0) 215 196 9) 219 216 8) 31 16 5)), k := 3, gen := 1, list := some (262143, 1) }]) } },
     by decide +kernel⟩,
   ⟨0, 65535, true, 0x8003FC00, up, by decide +kernel⟩,
   ⟨0, 65535, false, 0x8003FC01, up, by decide +kernel⟩,
   ⟨0xFFFF7, 0, { p := { tkt := 5, len := 65, at' := 0, loc := .hbm }, data := true, st := .reserved, ready := true, pkt := [1] }, [(63 *
     2 ^ 18 + 7, 61, 3)], blkAdd (modQ
     ({ up with bpm := { q := (SMap.empty).put 0xFFFF7 (some { spill := true, hbm := [{ p := { tkt := 5, len := 65, at' := 0, loc := .hbm }, data := true, st := .reserved, ready := true, pkt := [1] }], blk := some (63 * 2 ^ 18 + 7, 61) }) } })
     0xFFFF7 (fun y => { y with blk := some (63 * 2 ^ 18 + 7, 64) })) (63 * 2 ^ 18 + 7) true,
     { up with bpm := { q := (SMap.empty).put 0xFFFF7 (some { spill := true, hbm := [{ p := { tkt := 5, len := 65, at' := 0, loc := .hbm }, data := true, st := .reserved, ready := true, pkt := [1] }], blk := some (63 * 2 ^ 18 + 7, 61) }) } },
     by decide +kernel⟩,
   ⟨0xFFFF7, 0, { p := { tkt := 5, len := 65, at' := 0, loc := .buf 3 15 }, data := true, st := .writing, ready := true }, 3, 15,
     { up with bpm := { q := (SMap.empty).put 0xFFFF7 (some { spill := true, hbm := [{ p := { tkt := 5, len := 65, at' := 0, loc := .buf 3 15 }, data := true, st := .writing, ready := true }] }), bufs := (SMap.empty).put 3 (some { used := true, gen := 15, ref := 2, pkt := [9] }) } },
     by decide +kernel⟩,
   ⟨0xFFFF7, 0,
     { p := { tkt := 5, len := 65, at' := 0, loc := .hbm }, data := true, st := .written, ready := true, done := true, lines := [(7, 1, 3)] },
     0, 1, poolLow (modBuf
     ({ up with bpm := { q := (SMap.empty).put 0xFFFF7 (some { spill := true, hbm := [{ p := { tkt := 5, len := 65, at' := 0, loc := .hbm }, data := true, st := .written, ready := true, done := true, lines := [(7, 1, 3)] }] }) }, regs := up.regs.set 0 (Reg.addr .bpmPoolCfg [0]) 0x01000002 })
     0 (fun _ => { used := true, gen := 1, ref := 1, pkt := [] })) 0,
     { up with bpm := { q := (SMap.empty).put 0xFFFF7 (some { spill := true, hbm := [{ p := { tkt := 5, len := 65, at' := 0, loc := .hbm }, data := true, st := .written, ready := true, done := true, lines := [(7, 1, 3)] }] }) }, regs := up.regs.set 0 (Reg.addr .bpmPoolCfg [0]) 0x01000002 },
     by decide +kernel⟩⟩

/-- States and operands that meet the hypotheses of HbmReadsAndBanks, clause by clause. -/
theorem witness_HbmReadsAndBanks :
    (∃ (q : Fin 1048576) (ce : EccCount) (lns : List (Fin 256)) (i : Nat) (r : HRec) (k : Nat) (g : Nat) (s : State), onData s = true ∧
      (qOf s q.val).hbm.findIdx? (fun r => r.st == .reading) = some i ∧ (qOf s q.val).hbm[i]? = some r ∧ (recHeld s r = false ∨ r.fwd =
      true) ∧ r.dead = false ∧ r.data = true ∧ r.done = true ∧ r.rbuf = some (k, g)) ∧
    (∃ (q : Fin 1048576) (ce : EccCount) (lns : List (Fin 256)) (i : Nat) (r : HRec) (k : Nat) (g : Nat) (s : State), onData s = true ∧
      (qOf s q.val).hbm.findIdx? (fun r => r.st == .reading) = some i ∧ (qOf s q.val).hbm[i]? = some r ∧ (recHeld s r = false ∨ r.fwd =
      true) ∧ r.dead = false ∧ r.data = true ∧ r.done = true ∧ r.rbuf = some (k, g) ∧ (bufOf s k).used = true ∧ (bufOf s k).gen = g ∧
      (bufOf s k).ref = 1) ∧
    (∃ (q : Fin 1048576) (ce : EccCount) (lns : List (Fin 256)) (i : Nat) (r : HRec) (s : State), onData s = true ∧ (qOf s
      q.val).hbm.findIdx? (fun r => r.st == .reading) = some i ∧ (qOf s q.val).hbm[i]? = some r ∧ (recHeld s r = false ∨ r.fwd = true) ∧
      r.dead = false) ∧
    (∃ (c : Fin 64) (n : Fin 64) (row : Nat) (s : State), onData s = true ∧ (s.hbm.bank.get {} (c.val * 64 + n.val)).row = some row ∧
      (s.hbm.bank.get {} (c.val * 64 + n.val)).at' * 6 + rf s .hbmChCfg [c.val] 7 0 * 5 ≤ s.now * 6) ∧
    (∃ (c : Fin 64) (n : Fin 64) (s : State), onData s = true ∧ (stackOf s (c.val / 16)).st ≠ .off ∧ (s.hbm.bank.get {} (c.val * 64 +
      n.val)).ref + (if (stackOf s (c.val / 16)).x2 then 1950 else 3900) ≤ s.now) ∧
    (∃ (k : Fin 4) (tc : BitVec 8) (s : State), onData s = true ∧ (stackOf s k.val).st = .up ∧ (stackOf s k.val).tempAt ≤ s.now ∧ (stackOf
      s k.val).hot = false ∧ tc.toInt < 105) ∧
    (∃ (k : Fin 4) (tc : BitVec 8) (c : Nat) (s : State), onData s = true ∧ (stackOf s k.val).st = .up ∧ (stackOf s k.val).tempAt ≤ s.now
      ∧ (stackOf s k.val).hot = false ∧ 105 ≤ tc.toInt ∧ tc.toInt < 115 ∧ c < 16) ∧
    (∃ (k : Fin 4) (tc : BitVec 8) (c : Nat) (s : State), onData s = true ∧ (stackOf s k.val).st = .up ∧ (stackOf s k.val).tempAt ≤ s.now
      ∧ (stackOf s k.val).hot = true ∧ tc.toInt < 100 ∧ c < 16) ∧
    (∃ (k : Fin 4) (tc : BitVec 8) (c : Nat) (s : State), onData s = true ∧ (stackOf s k.val).st = .up ∧ (stackOf s k.val).tempAt ≤ s.now
      ∧ 115 ≤ tc.toInt ∧ c < 16) :=
  ⟨⟨0xFFFF7, { lines := 1, onDie := 2 }, [], 0,
     { p := { tkt := 5, len := 65, at' := 0, loc := .hbm }, data := true, st := .reading, ready := true, done := true, lines := [(63 * 2 ^ 18 + 7, 1, 3)], pkt := [1, 2], rbuf := some (3, 15) },
     3, 15,
     { up with bpm := { q := (SMap.empty).put 0xFFFF7 (some { spill := true, hbm := [{ p := { tkt := 5, len := 65, at' := 0, loc := .hbm }, data := true, st := .reading, ready := true, done := true, lines := [(63 * 2 ^ 18 + 7, 1, 3)], pkt := [1, 2], rbuf := some (3, 15) }] }), bufs := (SMap.empty).put 3 (some { used := true, gen := 15, ref := 1 }) }, hbm := { blk := (SMap.empty).put (63 * 2 ^ 18 + 7) (some 1) } },
     by decide +kernel⟩,
   ⟨0xFFFF7, { lines := 0, onDie := 0 }, [2], 0,
     { p := { tkt := 5, len := 65, at' := 0, loc := .hbm }, data := true, st := .reading, ready := true, done := true, lines := [(63 * 2 ^ 18 + 7, 1, 3)], pkt := [1, 2], rbuf := some (3, 15) },
     3, 15,
     { up with bpm := { q := (SMap.empty).put 0xFFFF7 (some { spill := true, hbm := [{ p := { tkt := 5, len := 65, at' := 0, loc := .hbm }, data := true, st := .reading, ready := true, done := true, lines := [(63 * 2 ^ 18 + 7, 1, 3)], pkt := [1, 2], rbuf := some (3, 15) }] }), bufs := (SMap.empty).put 3 (some { used := true, gen := 15, ref := 1 }) }, hbm := { blk := (SMap.empty).put (63 * 2 ^ 18 + 7) (some 1) } },
     by decide +kernel⟩,
   ⟨0xFFFF7, { lines := 0, onDie := 0 }, [], 0,
     { p := { tkt := 5, len := 65, at' := 0, loc := .hbm }, data := true, st := .reading, ready := true, done := true, lines := [(63 * 2 ^ 18 + 7, 1, 3)], pkt := [1, 2], rbuf := some (3, 15) },
     { up with bpm := { q := (SMap.empty).put 0xFFFF7 (some { spill := true, hbm := [{ p := { tkt := 5, len := 65, at' := 0, loc := .hbm }, data := true, st := .reading, ready := true, done := true, lines := [(63 * 2 ^ 18 + 7, 1, 3)], pkt := [1, 2], rbuf := some (3, 15) }] }), bufs := (SMap.empty).put 3 (some { used := true, gen := 15, ref := 1 }) }, hbm := { blk := (SMap.empty).put (63 * 2 ^ 18 + 7) (some 1) } },
     by decide +kernel⟩,
   ⟨63, 63, 9, { up with hbm := { bank := (SMap.empty).put 4095 (some { row := some 9, at' := 2 }) }, now := 42 }, by decide +kernel⟩,
   ⟨63, 63,
     { up with hbm := { st := (SMap.empty).put 3 (some { st := .up }), bank := (SMap.empty).put 4095 (some { row := some 9, ref := 2 }) }, now := 1952 },
     by decide +kernel⟩,
   ⟨3, 84, { up with hbm := { st := (SMap.empty).put 3 (some { st := .up, x2 := true, temp := some 85 }) } }, by decide +kernel⟩,
   ⟨3, 114, 15, { up with hbm := { st := (SMap.empty).put 3 (some { st := .up }) } }, by decide +kernel⟩,
   ⟨3, 99, 15,
     { up with hbm := { st := (SMap.empty).put 3 (some { st := .up, hot := true }), ch := (SMap.empty).put 63 (some { st := .open', hot := true }) } },
     by decide +kernel⟩,
   ⟨3, 115, 15, { up with hbm := { st := (SMap.empty).put 3 (some { st := .up }) } }, by decide +kernel⟩⟩

/-- States and operands that meet the hypotheses of HbmChannelsAndStacks, clause by clause. -/
theorem witness_HbmChannelsAndStacks :
    (∃ (s : State), onData s = true ∧ s.hbm.win ≠ tbNs s / 1000000 ∧ rb s .hbmLagCfg [] 31 = false) ∧
    (∃ (c : Fin 64) (s : State), onData s = true ∧ s.hbm.winS ≠ tbNs s / 1000000000) ∧
    (∃ (k : Fin 4) (fails : BitVec 16) (c : Fin 16) (s : State), onData s = true ∧ fwRuns s = true ∧ (stackOf s k.val).st = .training ∧
      (hbmCh s (16 * k.val + c.val)).st = .training) ∧
    (∃ (c : Fin 64) (s : State), onData s = true ∧ fwRuns s = true ∧ s.hbm.retrain = none ∧ (hbmCh s c.val).st = .open' ∧ retrainDue s
      c.val = true) ∧
    (∃ (c : Fin 64) (s : State), onData s = true ∧ fwRuns s = true ∧ (hbmCh s c.val).st = .paused) ∧
    (∃ (c : Fin 64) (s : State), onData s = true ∧ fwRuns s = true ∧ (hbmCh s c.val).st = .paused) ∧
    (∃ (c : Fin 64) (s : State), onData s = true ∧ (hbmCh s c.val).st ≠ .fenced) ∧
    (∃ (slot : Fin 4) (c : Fin 64) (s : State), ownerMay s slot .hbmChCfg [c.val] = true) ∧
    (∃ (slot : Fin 4) (k : Fin 4) (s : State), ownerMay s slot .hbmStackCfg [k.val] = true ∧ ((List.range 16).any (fun j => chUsed s (16 *
      k.val + j) != 0) = true ∨ sealedFor s (84 + k.val) = true)) ∧
    (∃ (slot : Fin 4) (k : Fin 4) (s : State), ownerMay s slot .hbmStackCfg [k.val] = true ∧ (List.range 16).any (fun j => chUsed s (16 *
      k.val + j) != 0) = false ∧ sealedFor s (84 + k.val) = false ∧ (stackOf s k.val).st ≠ .off) ∧
    (∃ (slot : Fin 4) (k : Fin 4) (s : State), ownerMay s slot .hbmStackCfg [k.val] = true ∧ (stackOf s k.val).st = .off ∧ stackPowered
      (stackDoms (setRB s .hbmStackCfg [k.val] 31 true) k.val true) k.val = true) :=
  ⟨⟨{ up with hbm := { ch := (SMap.empty).put 63 (some { st := .open', n := 4, sum := 4000 }) }, regs := up.regs.set 0 (Reg.addr .hbmLagCfg []) 0x04080400, tgt := { tb := 1000000 * tbUnit } },
     by decide +kernel⟩,
   ⟨63, { up with hbm := { ch := (SMap.empty).put 63 (some { st := .open', ce := 4, ue := 1 }) }, tgt := { tb := 1000000000 * tbUnit } },
     by decide +kernel⟩,
   ⟨3, 0x8001, 15,
     { up with hbm := { st := (SMap.empty).put 3 (some { st := .training }), ch := (SMap.empty).put 63 (some { st := .training }) } }, by
     decide +kernel⟩,
   ⟨63, { up with hbm := { ch := (SMap.empty).put 63 (some { st := .open', due := true }) } }, by decide +kernel⟩,
   ⟨63, { up with hbm := { ch := (SMap.empty).put 63 (some { st := .paused, slow := true }), retrain := some 63 } }, by decide +kernel⟩,
   ⟨63, { up with hbm := { ch := (SMap.empty).put 63 (some { st := .paused, slow := true }), retrain := some 63 } }, by decide +kernel⟩,
   ⟨63,
     { up with bpm := { q := (SMap.empty).put 0xFFFF7 (some { spill := true, hbm := [{ p := { tkt := 5, len := 65, at' := 0, loc := .hbm }, data := true, st := .reading, ready := true, done := true, lines := [(63 * 2 ^ 18 + 7, 1, 3)], pkt := [1, 2], rbuf := some (3, 15) }] }), bufs := (SMap.empty).put 3 (some { used := true, gen := 15, ref := 1 }) }, hbm := { blk := (SMap.empty).put (63 * 2 ^ 18 + 7) (some 1), ch := (SMap.empty).put 63 (some { st := .open' }) } },
     by decide +kernel⟩,
   ⟨0, 63, { up with hbm := { ch := (SMap.empty).put 63 (some { st := .open', slow := true, err := true, hot := true }) } }, by
     decide +kernel⟩,
   ⟨0, 3,
     { up with bpm := { q := (SMap.empty).put 0xFFFF7 (some { spill := true, hbm := [{ p := { tkt := 5, len := 65, at' := 0, loc := .hbm }, data := true, st := .reading, ready := true, done := true, lines := [(63 * 2 ^ 18 + 7, 1, 3)], pkt := [1, 2], rbuf := some (3, 15) }] }), bufs := (SMap.empty).put 3 (some { used := true, gen := 15, ref := 1 }) }, hbm := { blk := (SMap.empty).put (63 * 2 ^ 18 + 7) (some 1) } },
     by decide +kernel⟩,
   ⟨0, 3,
     { up with hbm := { st := (SMap.empty).put 3 (some { st := .up, stored := true }), ch := (SMap.empty).put 63 (some { st := .open' }) } },
     by decide +kernel⟩,
   ⟨0, 3, up, by decide +kernel⟩⟩

/-- States and operands that meet the hypotheses of SchedulerDecisions, clause by clause. -/
theorem witness_SchedulerDecisions :
    (∃ (g : Fin 16) (p : Nat) (r : List (Nat × Nat × Bool) × State) (lv : Nat) (q : Nat) (b : Bool) (x : Ptr) (rest : List Ptr) (s :
      State), blkOn s 0xE = true ∧ rrNext (((List.range 8).map (fun i => 8 * g.val + i)).filter (fun p => (portPick s p).isSome))
      (s.sch.rr.get 0 g.val) = some p ∧ portPick s p = some r ∧ r.1.getLast? = some (lv, q, b) ∧ (qOf s q).on = x :: rest ∧ ptrBad s x =
      false ∧ tooOld s q x = false ∧ gateImpossible s (gatePort s p) (nf s 4 q 6 30 28) x.len (portRate s (gatePort s p)) = false) ∧
    (∃ (g : Fin 16) (p : Nat) (r : List (Nat × Nat × Bool) × State) (lv : Nat) (q : Nat) (b : Bool) (x : Ptr) (rest : List Ptr) (s :
      State), blkOn s 0xE = true ∧ rrNext (((List.range 8).map (fun i => 8 * g.val + i)).filter (fun p => (portPick s p).isSome))
      (s.sch.rr.get 0 g.val) = some p ∧ portPick s p = some r ∧ r.1.getLast? = some (lv, q, b) ∧ (qOf s q).on = x :: rest ∧ ptrBad s x =
      false ∧ tooOld s q x = true) ∧
    (∃ (p : Fin 128) (rest : List Bool) (s : State), blkOn s 0xE = true ∧ (schPort s p.val).link = false ∧ (portOf s p.val).linkq = true
      :: rest ∧ (schPort s p.val).st = .down) ∧
    (∃ (p : Fin 128) (rest : List Bool) (s : State), blkOn s 0xE = true ∧ (schPort s p.val).link = true ∧ (portOf s p.val).linkq = false
      :: rest ∧ (schPort s p.val).st = .up ∧ 0 < holdMs s p.val) ∧
    (∃ (p : Fin 128) (rest : List Bool) (s : State), blkOn s 0xE = true ∧ (schPort s p.val).link = true ∧ (portOf s p.val).linkq = false
      :: rest ∧ (schPort s p.val).st = .up ∧ holdMs s p.val = 0) ∧
    (∃ (p : Fin 128) (rest : List Bool) (s : State), blkOn s 0xE = true ∧ (schPort s p.val).link = false ∧ (portOf s p.val).linkq = true
      :: rest ∧ (schPort s p.val).st = .hold) ∧
    (∃ (p : Fin 128) (l : Bool) (rest : List Bool) (s : State), blkOn s 0xE = true ∧ (portOf s p.val).linkq = l :: rest ∧ (schPort s
      p.val).link = l) ∧
    (∃ (p : Fin 128) (s : State), blkOn s 0xE = true ∧ (schPort s p.val).st = .hold ∧ (schPort s p.val).until' ≤ s.now) ∧
    (∃ (p : Fin 128) (s : State), blkOn s 0xE = true ∧ (schPort s p.val).st = .flush ∧ (queuesOfPort s p.val).all (fun q => (qOf s
      q).hbm.all (fun r => !r.dead)) = true) :=
  ⟨⟨15, 127, (portPick
     ({ up with now := 5000000, regs := ((((((up.regs.set 0 (Reg.addr .schQsplit []) 0x1000).set 0 (nodeKey 0 127 0) 0x80040000).set 0 (nodeKey 1 7 0) 0x8004007F).set 0 (nodeKey 2 6 0) 0x80040007).set 0 (nodeKey 3 5 0) 0x80040006).set 0 (nodeKey 4 0xFFFF7 0) 0x80040005), bpm := { q := (SMap.empty).put 0xFFFF7 (some { on := [{ tkt := 5, len := 2, at' := 0, loc := .buf 3 15 }] }), bufs := (SMap.empty).put 3 (some { used := true, gen := 15, ref := 1, pkt := [9, 8] }) }, sch := { port := (SMap.empty).put 127 (some { st := .up, link := true }) } })
     127).getD ([], up), 4, 0xFFFF7, true, { tkt := 5, len := 2, at' := 0, loc := .buf 3 15 }, [],
     { up with now := 5000000, regs := ((((((up.regs.set 0 (Reg.addr .schQsplit []) 0x1000).set 0 (nodeKey 0 127 0) 0x80040000).set 0 (nodeKey 1 7 0) 0x8004007F).set 0 (nodeKey 2 6 0) 0x80040007).set 0 (nodeKey 3 5 0) 0x80040006).set 0 (nodeKey 4 0xFFFF7 0) 0x80040005), bpm := { q := (SMap.empty).put 0xFFFF7 (some { on := [{ tkt := 5, len := 2, at' := 0, loc := .buf 3 15 }] }), bufs := (SMap.empty).put 3 (some { used := true, gen := 15, ref := 1, pkt := [9, 8] }) }, sch := { port := (SMap.empty).put 127 (some { st := .up, link := true }) } },
     by decide +kernel⟩,
   ⟨15, 127, (portPick
     ({ up with now := 5000000, regs := ((((((up.regs.set 0 (Reg.addr .schQsplit []) 0x1000).set 0 (nodeKey 0 127 0) 0x80040000).set 0 (nodeKey 1 7 0) 0x8004007F).set 0 (nodeKey 2 6 0) 0x80040007).set 0 (nodeKey 3 5 0) 0x80040006).set 0 (nodeKey 4 0xFFFF7 0) 0x80040005).set 0 (nodeKey 4 0xFFFF7 6) 0x00040000, bpm := { q := (SMap.empty).put 0xFFFF7 (some { on := [{ tkt := 5, len := 2, at' := 0, loc := .buf 3 15 }] }), bufs := (SMap.empty).put 3 (some { used := true, gen := 15, ref := 1, pkt := [9, 8] }) }, sch := { port := (SMap.empty).put 127 (some { st := .up, link := true }) } })
     127).getD ([], up), 4, 0xFFFF7, true, { tkt := 5, len := 2, at' := 0, loc := .buf 3 15 }, [],
     { up with now := 5000000, regs := ((((((up.regs.set 0 (Reg.addr .schQsplit []) 0x1000).set 0 (nodeKey 0 127 0) 0x80040000).set 0 (nodeKey 1 7 0) 0x8004007F).set 0 (nodeKey 2 6 0) 0x80040007).set 0 (nodeKey 3 5 0) 0x80040006).set 0 (nodeKey 4 0xFFFF7 0) 0x80040005).set 0 (nodeKey 4 0xFFFF7 6) 0x00040000, bpm := { q := (SMap.empty).put 0xFFFF7 (some { on := [{ tkt := 5, len := 2, at' := 0, loc := .buf 3 15 }] }), bufs := (SMap.empty).put 3 (some { used := true, gen := 15, ref := 1, pkt := [9, 8] }) }, sch := { port := (SMap.empty).put 127 (some { st := .up, link := true }) } },
     by decide +kernel⟩,
   ⟨127, [true],
     { up with now := 5000000, regs := ((((((up.regs.set 0 (Reg.addr .schQsplit []) 0x1000).set 0 (nodeKey 0 127 0) 0x80040000).set 0 (nodeKey 1 7 0) 0x8004007F).set 0 (nodeKey 2 6 0) 0x80040007).set 0 (nodeKey 3 5 0) 0x80040006).set 0 (nodeKey 4 0xFFFF7 0) 0x80040005), bpm := { q := (SMap.empty).put 0xFFFF7 (some { on := [] }), bufs := (SMap.empty).put 3 (some { used := true, gen := 15, ref := 1, pkt := [9, 8] }) }, sch := { port := (SMap.empty).put 127 (some { st := .down }) }, lp := { ports := (SMap.empty).put 127 (some { link := true, linkq := [true, true] }) } },
     by decide +kernel⟩,
   ⟨127, [true],
     { up with now := 5000000, regs := ((((((up.regs.set 0 (Reg.addr .schQsplit []) 0x1000).set 0 (nodeKey 0 127 0) 0x80040000).set 0 (nodeKey 1 7 0) 0x8004007F).set 0 (nodeKey 2 6 0) 0x80040007).set 0 (nodeKey 3 5 0) 0x80040006).set 0 (nodeKey 4 0xFFFF7 0) 0x80040005), bpm := { q := (SMap.empty).put 0xFFFF7 (some { on := [] }), bufs := (SMap.empty).put 3 (some { used := true, gen := 15, ref := 1, pkt := [9, 8] }) }, sch := { port := (SMap.empty).put 127 (some { st := .up, link := true }) }, lp := { ports := (SMap.empty).put 127 (some { link := true, linkq := [false, true] }) } },
     by decide +kernel⟩,
   ⟨127, [true],
     { up with now := 5000000, regs := ((((((up.regs.set 0 (Reg.addr .schQsplit []) 0x1000).set 0 (nodeKey 0 127 0) 0x80040000).set 0 (nodeKey 1 7 0) 0x8004007F).set 0 (nodeKey 2 6 0) 0x80040007).set 0 (nodeKey 3 5 0) 0x80040006).set 0 (nodeKey 4 0xFFFF7 0) 0x80040005).put (Reg.addr .schPortCfg [127]) (some 0), bpm := { q := (SMap.empty).put 0xFFFF7 (some { on := [{ tkt := 5, len := 2, at' := 0, loc := .buf 3 15 }] }), bufs := (SMap.empty).put 3 (some { used := true, gen := 15, ref := 1, pkt := [9, 8] }) }, sch := { port := (SMap.empty).put 127 (some { st := .up, link := true }) }, lp := { ports := (SMap.empty).put 127 (some { link := true, linkq := [false, true] }) } },
     by decide +kernel⟩,
   ⟨127, [true],
     { up with now := 5000000, regs := ((((((up.regs.set 0 (Reg.addr .schQsplit []) 0x1000).set 0 (nodeKey 0 127 0) 0x80040000).set 0 (nodeKey 1 7 0) 0x8004007F).set 0 (nodeKey 2 6 0) 0x80040007).set 0 (nodeKey 3 5 0) 0x80040006).set 0 (nodeKey 4 0xFFFF7 0) 0x80040005), bpm := { q := (SMap.empty).put 0xFFFF7 (some { on := [] }), bufs := (SMap.empty).put 3 (some { used := true, gen := 15, ref := 1, pkt := [9, 8] }) }, sch := { port := (SMap.empty).put 127 (some { st := .hold, link := false, until' := 6000000 }) }, lp := { ports := (SMap.empty).put 127 (some { link := true, linkq := [true, true] }) } },
     by decide +kernel⟩,
   ⟨127, true, [false],
     { up with sch := { port := (SMap.empty).put 127 (some { st := .up, link := true }) }, lp := { ports := (SMap.empty).put 127 (some { link := true, linkq := [true, false] }) } },
     by decide +kernel⟩,
   ⟨127,
     { up with now := 5000000, regs := ((((((up.regs.set 0 (Reg.addr .schQsplit []) 0x1000).set 0 (nodeKey 0 127 0) 0x80040000).set 0 (nodeKey 1 7 0) 0x8004007F).set 0 (nodeKey 2 6 0) 0x80040007).set 0 (nodeKey 3 5 0) 0x80040006).set 0 (nodeKey 4 0xFFFF7 0) 0x80040005), bpm := { q := (SMap.empty).put 0xFFFF7 (some { on := [{ tkt := 5, len := 2, at' := 0, loc := .buf 3 15 }] }), bufs := (SMap.empty).put 3 (some { used := true, gen := 15, ref := 1, pkt := [9, 8] }) }, sch := { port := (SMap.empty).put 127 (some { st := .hold, until' := 5000000 }) } },
     by decide +kernel⟩,
   ⟨127,
     { up with now := 5000000, regs := ((((((up.regs.set 0 (Reg.addr .schQsplit []) 0x1000).set 0 (nodeKey 0 127 0) 0x80040000).set 0 (nodeKey 1 7 0) 0x8004007F).set 0 (nodeKey 2 6 0) 0x80040007).set 0 (nodeKey 3 5 0) 0x80040006).set 0 (nodeKey 4 0xFFFF7 0) 0x80040005), bpm := { q := (SMap.empty).put 0xFFFF7 (some { on := [{ tkt := 5, len := 2, at' := 0, loc := .buf 3 15 }] }), bufs := (SMap.empty).put 3 (some { used := true, gen := 15, ref := 1, pkt := [9, 8] }) }, sch := { port := (SMap.empty).put 127 (some { st := .flush, link := true }) } },
     by decide +kernel⟩⟩

/-- States and operands that meet the hypotheses of NodeWindow, clause by clause. -/
theorem witness_NodeWindow :
    (∃ (slot : Fin 4) (w : Fin 8) (val : Word) (lvl : Nat) (idx : Nat) (s : State), ownerMay s slot (nodeReg w.val) [] = true ∧
      s.fur.direct = false ∧ selNode s = some (lvl, idx) ∧ ((1 ≤ w.val ∧ w.val ≤ 3) ∨ (w.val = 6 ∧ lvl = 4)) ∧ ((s.fur.opn.find (nodeKey
      lvl idx w.val)).isSome = true ∨ stagedNodes s < 16384)) ∧
    (∃ (slot : Fin 4) (w : Fin 8) (val : Word) (lvl : Nat) (idx : Nat) (s : State), ownerMay s slot (nodeReg w.val) [] = true ∧ selNode s
      = some (lvl, idx) ∧ (w.val = 4 ∨ w.val = 5 ∨ (w.val = 6 ∧ lvl ≠ 4))) ∧
    (∃ (slot : Fin 4) (w : Fin 8) (val : Word) (lvl : Nat) (idx : Nat) (s : State), ownerMay s slot (nodeReg w.val) [] = true ∧
      s.fur.direct = false ∧ selNode s = some (lvl, idx) ∧ 1 ≤ w.val ∧ w.val ≤ 3 ∧ s.fur.opn.find (nodeKey lvl idx w.val) = none ∧ 16384 ≤
      stagedNodes s) ∧
    (∃ (slot : Fin 4) (val : Word) (lvl : Nat) (idx : Nat) (s : State), ownerMay s slot .schNMap [] = true ∧ s.fur.direct = false ∧
      selNode s = some (lvl, idx) ∧ mapBad s lvl idx val = false ∧ ((s.fur.opn.find (nodeKey lvl idx 0)).isSome = true ∨ stagedNodes s <
      16384)) ∧
    (∃ (slot : Fin 4) (val : Word) (lvl : Nat) (idx : Nat) (s : State), ownerMay s slot .schNMap [] = true ∧ selNode s = some (lvl, idx) ∧
      mapBad s lvl idx val = true) ∧
    (∃ (slot : Fin 4) (q : Nat) (s : State), ownerMay s slot .schNQmax [] = true ∧ selNode s = some (4, q)) :=
  ⟨⟨0, 6, 0xFFFFFFFF, 4, 0xFFFF7, { up with regs := up.regs.set 0 (Reg.addr .schNsel []) 0x800FFFF7 }, by decide +kernel⟩,
   ⟨0, 6, 0xFFFFFFFF, 3, 9, { up with regs := up.regs.set 0 (Reg.addr .schNsel []) 0x60000009 }, by decide +kernel⟩,
   ⟨0, 1, 5, 4, 9, { up with fur := { direct := false, opn := fullOpen }, regs := up.regs.set 0 (Reg.addr .schNsel []) 0x80000009 }, by
     decide +kernel, by decide +kernel, by decide +kernel, by decide +kernel, by decide +kernel, fullOpen_find _ (by decide),
     fullOpen_staged _ rfl⟩,
   ⟨0, 0x8004FFFF, 3, 9, { up with regs := up.regs.set 0 (Reg.addr .schNsel []) 0x60000009 }, by decide +kernel⟩,
   ⟨0, 0x80050000, 3, 9, { up with regs := up.regs.set 0 (Reg.addr .schNsel []) 0x60000009 }, by decide +kernel⟩,
   ⟨0, 0xFFFF7,
     { up with regs := up.regs.set 0 (Reg.addr .schNsel []) 0x800FFFF7, bpm := { q := (SMap.empty).put 0xFFFF7 (some { seeded := true, avg := 5, qmax := 6 }) } },
     by decide +kernel⟩⟩

/-- States and operands that meet the hypotheses of TimeCommands, clause by clause. -/
theorem witness_TimeCommands :
    (∃ (slot : Fin 4) (s : State), served s = true ∧ isTk s slot.val = true ∧ availAddr s (Reg.addr .tgtTbCmd []) = true) ∧
    (∃ (slot : Fin 4) (s : State), served s = true ∧ isTk s slot.val = true ∧ availAddr s (Reg.addr .tgtTbCmd []) = true) ∧
    (∃ (slot : Fin 4) (s : State), served s = true ∧ isTk s slot.val = true ∧ availAddr s (Reg.addr .tgtTbCmd []) = true) ∧
    (∃ (slot : Fin 4) (s : State), served s = true ∧ isTk s slot.val = true ∧ availAddr s (Reg.addr .tgtTbCmd []) = true) ∧
    (∃ (slot : Fin 4) (s : State), served s = true ∧ isTk s slot.val = true ∧ availAddr s (Reg.addr .tgtTbCmd []) = true) ∧
    (∃ (slot : Fin 4) (s : State), served s = true ∧ isTk s slot.val = true ∧ availAddr s (Reg.addr .tgtTbCmd []) = true) ∧
    (∃ (c : TbCmd) (s : State), onIsland s = true ∧ s.chain.heldResp = none ∧ s.tgt.cmds = [c] ∧ cmdDue s.now c = true ∧ c.op = 1 ∧
      s.tgt.valid = true ∧ 0 ≤ (s.tgt.tb : Int) + c.ofs * ofsUnit ∧ ((s.tgt.tb : Int) + c.ofs * ofsUnit) < ((2 ^ 64 * tbUnit : Nat) : Int)
      ∧ ((s.tgt.tb : Int) + c.ofs * ofsUnit).toNat / tbUnit < s.fur.nextB) ∧
    (∃ (c : TbCmd) (s : State), onIsland s = true ∧ s.chain.heldResp = none ∧ s.tgt.cmds = [c] ∧ cmdDue s.now c = true ∧ c.op = 1 ∧
      s.tgt.valid = true ∧ ((s.tgt.tb : Int) + c.ofs * ofsUnit < 0 ∨ ((2 ^ 64 * tbUnit : Nat) : Int) ≤ (s.tgt.tb : Int) + c.ofs *
      ofsUnit)) ∧
    (∃ (c : TbCmd) (s : State), onIsland s = true ∧ s.chain.heldResp = none ∧ s.tgt.cmds = [c] ∧ cmdDue s.now c = true ∧ c.op = 2) ∧
    (∃ (c : TbCmd) (s : State), onIsland s = true ∧ s.chain.heldResp = none ∧ s.tgt.cmds = [c] ∧ cmdDue s.now c = true ∧ c.op = 3) ∧
    (∃ (c : TbCmd) (s : State), onIsland s = true ∧ s.chain.heldResp = none ∧ s.tgt.cmds = [c] ∧ cmdDue s.now c = true ∧ c.op = 4 ∧ c.set
      < s.fur.nextB) ∧
    (∃ (s : State), onIsland s = true ∧ s.tgt.ppsWait = none) ∧
    (∃ (ns : Nat) (t0 : Nat) (s : State), onIsland s = true ∧ s.tgt.ppsWait = some (ns, t0) ∧ ns < s.fur.nextB) ∧
    (∃ (ns : Nat) (t0 : Nat) (t1 : Nat) (s : State), s.tgt.ppsWait = some (ns, t0) ∧ t0 + 1100000000 ≤ s.now ∧ s.tgt.ppsAt = some t1 ∧ t1
      + 1100000000 ≤ s.now) ∧
    (∃ (s : State), s.tgt.slewEnd = true) ∧
    (∃ (slot : Fin 4) (val : Word) (s : State), served s = true ∧ isTk s slot.val = true ∧ availAddr s (Reg.addr .tgtTbCtrl []) = true) ∧
    (∃ (s : State), onIsland s = true ∧ tbSrc s = 1) ∧
    (∃ (t0 : Nat) (s : State), onIsland s = true ∧ tbSrc s = 1 ∧ s.tgt.refOk = false ∧ s.tgt.refSince = some t0 ∧ t0 + 10000000 ≤ s.now) :=
  ⟨⟨0, up, by decide +kernel⟩,
   ⟨0, { up with regs := up.regs.set 0 (Reg.addr .tgtTbOfsHi []) 0x80000000 }, by decide +kernel⟩,
   ⟨0, { up with regs := up.regs.set 0 (Reg.addr .tgtTbOfsHi []) 0x80000000 }, by decide +kernel⟩,
   ⟨0, { up with regs := up.regs.set 0 (Reg.addr .tgtTbOfsHi []) 0x80000000 }, by decide +kernel⟩,
   ⟨0, { up with regs := up.regs.set 0 (Reg.addr .tgtTbOfsHi []) 0x80000000 }, by decide +kernel⟩,
   ⟨0, { up with tgt := { ppsWait := some (1, 2) } }, by decide +kernel⟩,
   ⟨{ op := 1, ofs := -65536, set := 0, at' := some 9000 },
     { up with now := 9000, tgt := { cmds := [{ op := 1, ofs := -65536, set := 0, at' := some 9000 }], valid := true, tb := 5 * tbUnit } },
     by decide +kernel⟩,
   ⟨{ op := 1, ofs := -65536, set := 0, at' := some 9000 },
     { up with now := 9000, tgt := { cmds := [{ op := 1, ofs := -65536, set := 0, at' := some 9000 }], valid := true, tb := tbUnit - 1 } },
     by decide +kernel⟩,
   ⟨{ op := 2, ofs := -3, set := 0, at' := some 9000 },
     { up with now := 9000, tgt := { cmds := [{ op := 2, ofs := -3, set := 0, at' := some 9000 }], valid := true, slew := 5 } }, by
     decide +kernel⟩,
   ⟨{ op := 3, ofs := 0, set := 0, at' := some 9000 },
     { up with now := 9000, tgt := { cmds := [{ op := 3, ofs := 0, set := 0, at' := some 9000 }], slew := 5 } }, by decide +kernel⟩,
   ⟨{ op := 4, ofs := 0, set := 77, at' := some 9000 },
     { up with now := 9000, tgt := { cmds := [{ op := 4, ofs := 0, set := 77, at' := some 9000 }], tb := 99 } }, by decide +kernel⟩,
   ⟨{ up with tgt := { tb := 12345 } }, by decide +kernel⟩,
   ⟨7, 0, { up with tgt := { tb := 12345, ppsWait := some (7, 0) } }, by decide +kernel⟩,
   ⟨7, 0, 0, { up with now := 1100000000, tgt := { ppsOk := true, ppsAt := some 0, ppsWait := some (7, 0) } }, by decide +kernel⟩,
   ⟨{ up with tgt := { slewEnd := true } }, by decide +kernel⟩,
   ⟨0, 0xF7FFFFFF, { up with now := 4 }, by decide +kernel⟩,
   ⟨{ up with regs := up.regs.set 0 (Reg.addr .tgtTbCtrl []) 0x04640000, tgt := { refOk := true } }, by decide +kernel⟩,
   ⟨0, { up with now := 10000000, regs := up.regs.set 0 (Reg.addr .tgtTbCtrl []) 0x04640000, tgt := { refSince := some 0 } }, by
     decide +kernel⟩⟩

/-- States and operands that meet the hypotheses of GateCommands, clause by clause. -/
theorem witness_GateCommands :
    (∃ (p : Fin 128) (sw : Nat) (d : Nat × Nat × Nat × Nat) (s : State), blkOn s 0xF = true ∧ (gateOf s p.val).pend = some (sw, d) ∧ sw ≤
      tbNs s) ∧
    (∃ (p : Fin 128) (s : State), blkOn s 0xF = true) ∧
    (∃ (slot : Fin 4) (p : Fin 128) (mem : Bool) (e : Fin 1024) (w1 : Bool) (val : Word) (s : State), ownerMay s slot (if w1 then
      .tgtGclW1 else .tgtGclW0) [p.val, mem.toNat, e.val] = true ∧ gclInUse s p.val mem.toNat = false) ∧
    (∃ (slot : Fin 4) (p : Fin 128) (mem : Bool) (e : Fin 1024) (w1 : Bool) (val : Word) (s : State), ownerMay s slot (if w1 then
      .tgtGclW1 else .tgtGclW0) [p.val, mem.toNat, e.val] = true ∧ gclInUse s p.val mem.toNat = true) ∧
    (∃ (slot : Fin 4) (p : Fin 128) (regB : Bool) (val : Word) (s : State), ownerMay s slot (if regB then .tgtGcfgB else .tgtGcfgA)
      [p.val] = true ∧ gateCfgBad regB val = true) ∧
    (∃ (slot : Fin 4) (p : Fin 128) (regB : Bool) (val : Word) (s : State), ownerMay s slot (if regB then .tgtGcfgB else .tgtGcfgA)
      [p.val] = true ∧ gateCfgBad regB val = false ∧ s.fur.direct = false) :=
  ⟨⟨127, 5, (1, 2, 125000, 0),
     { up with tgt := { tb := 5 * tbUnit, gates := (SMap.empty).put 127 (some { pend := some (5, 1, 2, 125000, 0) }), lists := ((SMap.empty).put (255 * 1024) (some (0x80, 20000))).put (255 * 1024 + 1) (some (0x7F, 105000)) } },
     by decide +kernel⟩,
   ⟨127,
     { up with tgt := { tb := 20000 * tbUnit, gates := (SMap.empty).put 127 (some { oper := some (1, 2, 125000, 0) }), lists := ((SMap.empty).put (255 * 1024) (some (0x80, 20000))).put (255 * 1024 + 1) (some (0x7F, 105000)) } },
     by decide +kernel⟩,
   ⟨0, 127, true, 1023, false, 0xFFFFFF5A, up, by decide +kernel⟩,
   ⟨0, 127, true, 1023, false, 0xFFFFFF5A,
     { up with tgt := { gates := (SMap.empty).put 127 (some { pend := some (5, 1, 2, 125000, 0) }) } }, by decide +kernel⟩,
   ⟨0, 127, false, 0xFFFF0401, up, by decide +kernel⟩,
   ⟨0, 127, false, 0xFFFF0400, up, by decide +kernel⟩⟩

/-- States and operands that meet the hypotheses of FabricLanes, clause by clause. -/
theorem witness_FabricLanes :
    (∃ (slot : Fin 4) (l : Fin 192) (val : Word) (s : State), ownerMay s slot .fabLaneCfg [l.val] = true ∧ (laneOf s l.val).st = .off) ∧
    (∃ (slot : Fin 4) (l : Fin 192) (val : Word) (s : State), ownerMay s slot .fabLaneCfg [l.val] = true) ∧
    (∃ (slot : Fin 4) (l : Fin 192) (s : State), ownerMay s slot .fabLaneCfg [l.val] = true ∧ rb s .fabLaneCfg [l.val] 31 = true ∧ (laneOf
      s l.val).st ≠ .off) ∧
    (∃ (l : Fin 192) (s : State), laneOn s l.val = true ∧ fwRuns s = true ∧ (laneOf s l.val).st = .train) ∧
    (∃ (l : Fin 192) (s : State), laneOn s l.val = true ∧ (laneOf s l.val).st = .train ∧ (laneOf s l.val).since + 2000000000 ≤ s.now ∧
      (laneOf s l.val).fails < 15) ∧
    (∃ (l : Fin 192) (s : State), laneOn s l.val = true ∧ (laneOf s l.val).st = .delin ∧ (laneOf s l.val).fromUp = false ∧ (laneOf s
      l.val).since + 100000000 ≤ s.now ∧ (laneOf s l.val).fails < 15) ∧
    (∃ (l : Fin 192) (s : State), laneOn s l.val = true ∧ (laneOf s l.val).st = .delin ∧ (laneOf s l.val).fromUp = true ∧ (laneOf s
      l.val).since + 100000000 ≤ s.now) ∧
    (∃ (l : Fin 192) (t0 : Nat) (s : State), laneOn s l.val = true ∧ (laneOf s l.val).st = .delin ∧ (laneOf s l.val).goodAt = some t0 ∧ t0
      + 10000000 ≤ s.now) ∧
    (∃ (l : Fin 192) (cdr : Bool) (s : State), laneOn s l.val = true ∧ (laneOf s l.val).st = .up) ∧
    (∃ (l : Fin 192) (cdr : Bool) (s : State), laneOn s l.val = true ∧ (laneOf s l.val).st = .delin) ∧
    (∃ (l : Fin 192) (partner : Bool) (s : State), laneOn s l.val = true ∧ (laneOf s l.val).st = .holdoff ∧ (partner = true ∨ (laneOf s
      l.val).deadline ≤ s.now)) ∧
    (∃ (l : Fin 192) (s : State), laneOn s l.val = true ∧ (laneOf s l.val).st = .up ∧ (laneOf s l.val).hbAt ≤ s.now ∧ s.fab.sw = none) ∧
    (∃ (l : Fin 192) (ns : Word) (s : State), blkOn s 0x10 = true) ∧
    (∃ (s : State), blkOn s 0x10 = true ∧ s.fab.win ≠ tbNs s / 1000000 ∧ rb s .fabLagCfg [] 31 = false) :=
  ⟨⟨0, 191, 0, up, by decide +kernel⟩,
   ⟨0, 191, 0xFFFFFFFF, { up with fab := { lane := (SMap.empty).put 191 (some { st := .up }) } }, by decide +kernel⟩,
   ⟨0, 191,
     { up with fab := { lane := (SMap.empty).put 191 (some { st := .up, slow := true }) }, regs := up.regs.set 0 (Reg.addr .fabLaneCfg [191]) 0xC0000000 },
     by decide +kernel⟩,
   ⟨191, { up with fab := { lane := (SMap.empty).put 191 (some { st := .train }) } }, by decide +kernel⟩,
   ⟨191, { up with fab := { lane := (SMap.empty).put 191 (some { st := .train, fails := 14 }) }, now := 2000000000 }, by decide +kernel⟩,
   ⟨191, { up with fab := { lane := (SMap.empty).put 191 (some { st := .delin, fails := 3 }) }, now := 100000000 }, by decide +kernel⟩,
   ⟨191, { up with fab := { lane := (SMap.empty).put 191 (some { st := .delin, fails := 3, fromUp := true }) }, now := 100000000 }, by
     decide +kernel⟩,
   ⟨191, 5,
     { up with fab := { lane := (SMap.empty).put 191 (some { st := .delin, fails := 3, delin := true, fec := true, goodAt := some 5 }) }, now := 10000005 },
     by decide +kernel⟩,
   ⟨191, true, { up with fab := { lane := (SMap.empty).put 191 (some { st := .up }) } }, by decide +kernel⟩,
   ⟨191, false,
     { up with fab := { lane := (SMap.empty).put 191 (some { st := .delin, cdr := true, fec := true, delin := true, goodAt := some 3 }) } },
     by decide +kernel⟩,
   ⟨191, true, { up with fab := { lane := (SMap.empty).put 191 (some { st := .holdoff, fails := 4, deadline := 99 }) } }, by
     decide +kernel⟩,
   ⟨191, { up with fab := { lane := (SMap.empty).put 191 (some { st := .up }) } }, by decide +kernel⟩,
   ⟨191, 0xFFFFFFFF, { up with fab := { lane := (SMap.empty).put 191 (some { st := .up }) } }, by decide +kernel⟩,
   ⟨{ up with fab := { lane := (SMap.empty).put 191 (some { st := .up, n := 3, sum := 99 }) }, regs := up.regs.set 0 (Reg.addr .fabLagCfg []) 0x04080040, tgt := { tb := 1000000 * tbUnit } },
     by decide +kernel⟩⟩

/-- States and operands that meet the hypotheses of FabricStreams, clause by clause. -/
theorem witness_FabricStreams :
    (∃ (d : Fin 256) (port : Fin 128) (cls : Fin 4) (total : Word) (s : State), blkOn s 0x10 = true ∧ peerEn s d.val = true) ∧
    (∃ (d : Fin 256) (port : Fin 128) (cls : Fin 4) (total : Word) (s : State), blkOn s 0x10 = true ∧ peerEn s d.val = true ∧ (flowWaiting
      s (d.val * 512 + port.val * 4 + cls.val) ≠ 0 ∨ diff32 total.toNat (s.fab.txf.get {} (d.val * 512 + port.val * 4 + cls.val)).used ≤
      0)) ∧
    (∃ (d : Fin 256) (port : Fin 128) (cls : Fin 4) (total : Word) (s : State), blkOn s 0x10 = true ∧ peerEn s d.val = true ∧ flowWaiting
      s (d.val * 512 + port.val * 4 + cls.val) = 0 ∧ 0 < diff32 total.toNat (s.fab.txf.get {} (d.val * 512 + port.val * 4 +
      cls.val)).used) ∧
    (∃ (s : State), blkOn s 0x10 = true ∧ s.fab.refreshAt ≤ s.now) ∧
    (∃ (p : Fin 128) (c : Nat) (d : Nat) (s : State), blkOn s 0x10 = true ∧ genRuns s p.val = true ∧ quantumBytes s * 512 ≤ genNow s p.val
      ∧ (List.range 4).find? (fun c => !(requesting s p.val c).isEmpty) = some c ∧ rrNext (requesting s p.val c) (s.fab.rrSrc.get 0 (p.val
      * 4 + c)) = some d) ∧
    (∃ (q : Nat) (x : Ptr) (rest : List Ptr) (s : State), blkOn s 0x10 = true ∧ voqPick s = some q ∧ (qOf s q).on = x :: rest ∧ ptrBad s x
      = false ∧ tooOld s q x = false) ∧
    (∃ (d : Fin 256) (st : Fin 2) (seq : BitVec 18) (pl : Fin 2) (s : State), blkOn s 0x10 = true ∧ peerEn s d.val = true) ∧
    (∃ (d : Fin 256) (st : Fin 2) (seq : BitVec 18) (pl : Fin 2) (s : State), blkOn s 0x10 = true ∧ peerEn s d.val = true) ∧
    (∃ (d : Fin 256) (st : Fin 2) (seq : BitVec 18) (pl : Fin 2) (s : State), blkOn s 0x10 = true ∧ (txOf s d.val st.val).st = .syncing ∧
      seq.toNat = (txOf s d.val st.val).seq) ∧
    (∃ (d : Fin 256) (st : Fin 2) (seq : BitVec 18) (pl : Fin 2) (s : State), blkOn s 0x10 = true ∧ (txOf s d.val st.val).st = .open' ∧
      (txOf s d.val st.val).planes.testBit (2 + pl.val) = true) ∧
    (∃ (d : Fin 256) (st : Fin 2) (s : State), blkOn s 0x10 = true ∧ (txOf s d.val st.val).st = .open') ∧
    (∃ (d : Fin 256) (st : Fin 2) (s : State), blkOn s 0x10 = true ∧ (txOf s d.val st.val).st = .syncing ∧ (txOf s d.val st.val).at' ≤
      s.now) ∧
    (∃ (d : Fin 256) (st : Fin 2) (s : State), blkOn s 0x10 = true ∧ (txOf s d.val st.val).st = .unreachable ∧ (txOf s d.val st.val).at' ≤
      s.now) ∧
    (∃ (d : Fin 256) (st : Fin 2) (seq : BitVec 18) (i : Nat) (s : State), blkOn s 0x10 = true ∧ peerEn s d.val = true ∧ (txOf s d.val
      st.val).cells.findIdx? (fun c => c.seq == seq.toNat) = some i) ∧
    (∃ (d : Fin 256) (st : Fin 2) (seq : BitVec 18) (s : State), blkOn s 0x10 = true ∧ peerEn s d.val = true ∧ (txOf s d.val
      st.val).cells.findIdx? (fun c => c.seq == seq.toNat) = none) ∧
    (∃ (d : Fin 256) (st : Fin 2) (seq : BitVec 18) (miss : BitVec 64) (c : TxCell) (s : State), blkOn s 0x10 = true ∧ (txOf s d.val
      st.val).cells = [c] ∧ c.bad = false ∧ (txOf s d.val st.val).replay = [] ∧ (c.seq + 2 ^ 18 - seq.toNat) % 2 ^ 18 < 64 ∧
      miss.toNat.testBit ((c.seq + 2 ^ 18 - seq.toNat) % 2 ^ 18) = true ∧ c.at' + 2 * nakNs s < s.now ∧ c.n < replayLimit s) ∧
    (∃ (d : Fin 256) (st : Fin 2) (seq : BitVec 18) (miss : BitVec 64) (c : TxCell) (s : State), blkOn s 0x10 = true ∧ (txOf s d.val
      st.val).cells = [c] ∧ c.bad = false ∧ (txOf s d.val st.val).replay = [] ∧ (c.seq + 2 ^ 18 - seq.toNat) % 2 ^ 18 < 64 ∧
      miss.toNat.testBit ((c.seq + 2 ^ 18 - seq.toNat) % 2 ^ 18) = true ∧ c.at' + 2 * nakNs s < s.now ∧ replayLimit s ≤ c.n) ∧
    (∃ (d : Fin 256) (st : Fin 2) (c : TxCell) (s : State), blkOn s 0x10 = true ∧ (txOf s d.val st.val).st = .open' ∧ (txOf s d.val
      st.val).cells = [c] ∧ c.bad = false ∧ (txOf s d.val st.val).replay = [] ∧ (txOf s d.val st.val).prog + ackTmoNs s ≤ s.now ∧ c.n <
      replayLimit s) ∧
    (∃ (d : Nat) (st : Nat) (s : State), blkOn s 0x10 = true ∧ s.fab.begun = true ∧ s.fab.sw = none ∧ ctrlTarget s = none ∧ strmNext s
      false = none ∧ strmNext s true = some (d, st) ∧ firkinUsed s < 131072 ∧ sprayOf s 0 ++ sprayOf s 1 ≠ [] ∧ st = 0 ∧ strmPlanes s d st
      = [0, 1]) ∧
    (∃ (d : Nat) (st : Nat) (s : State), blkOn s 0x10 = true ∧ s.fab.begun = true ∧ s.fab.sw = none ∧ ctrlTarget s = none ∧ strmNext s
      false = none ∧ strmNext s true = some (d, st) ∧ 131072 ≤ firkinUsed s) ∧
    (∃ (l : Nat) (s : State), blkOn s 0x10 = true ∧ s.fab.sw = none ∧ s.fab.begun = false ∧ (peerStreams s).find? (fun x => (rxOf s x.1
      x.2).open' && (rxOf s x.1 x.2).ackDue.isSome) = none ∧ [0, 1].find? (fun k => (rxOf s (devId s) k).open' && (rxOf s (devId s)
      k).ackDue.isSome) = none ∧ rrNext ((carryPlanes s).flatMap (sprayOf s)) (s.fab.rr.get 0 0) = some l) ∧
    (∃ (l : Nat) (d : Nat) (m : FabMsg) (s : State), blkOn s 0x10 = true ∧ s.fab.sw = none ∧ s.fab.begun = true ∧ s.fab.ctrl = [(d, none,
      m)] ∧ (txOf s d 0).st ≠ .open' ∧ [0, 1].find? (fun k => (rxOf s d k).open' && (rxOf s d k).ackDue.isSome) = none ∧ rrNext
      ((carryPlanes s).flatMap (sprayOf s)) (s.fab.rr.get 0 0) = some l) ∧
    (∃ (l : Nat) (d : Nat) (k : Nat) (q : Nat) (rest : List Nat) (c : TxCell) (s : State), blkOn s 0x10 = true ∧ s.fab.sw = none ∧
      s.fab.begun = true ∧ ctrlTarget s = none ∧ strmNext s false = some (d, k) ∧ (txOf s d k).replay = q :: rest ∧ (txOf s d
      k).cells.find? (fun c => c.seq == q) = some c ∧ rrNext ((replayPlane s d k c).flatMap (sprayOf s)) (s.fab.rr.get 0 0) = some l) ∧
    (∃ (l : Fin 192) (c : FabCell) (b : List Byte) (s : State), laneOn s l.val = true ∧ (laneOf s l.val).st = .up ∧ (laneOf s l.val).delin
      = true ∧ b = phaseCell (laneOf s l.val) c.bytes (laneOf s l.val).phase ∧ headGood b = false ∧ (laneOf s l.val).bad < 6) ∧
    (∃ (l : Fin 192) (c : FabCell) (b : List Byte) (s : State), laneOn s l.val = true ∧ (laneOf s l.val).st = .up ∧ (laneOf s l.val).delin
      = true ∧ b = phaseCell (laneOf s l.val) c.bytes (laneOf s l.val).phase ∧ headGood b = false ∧ 6 ≤ (laneOf s l.val).bad) ∧
    (∃ (l : Fin 192) (c : FabCell) (p : Nat) (s : State), laneOn s l.val = true ∧ (laneOf s l.val).st = .delin ∧ (laneOf s l.val).delin =
      false ∧ (List.range 8).find? (fun p => headGood (phaseCell (laneOf s l.val) c.bytes p) && decide (5 ≤ (laneOf s l.val).runs.getD p
      0)) = some p) ∧
    (∃ (l : Fin 192) (c : FabCell) (s : State), laneOn s l.val = true ∧ (laneOf s l.val).st = .delin ∧ (laneOf s l.val).delin = false ∧
      (List.range 8).find? (fun p => headGood (phaseCell (laneOf s l.val) c.bytes p) && decide (5 ≤ (laneOf s l.val).runs.getD p 0)) =
      none) ∧
    (∃ (l : Fin 192) (c : FabCell) (b : List Byte) (s : State), laneOn s l.val = true ∧ (laneOf s l.val).st = .up ∧ (laneOf s l.val).delin
      = true ∧ b = phaseCell (laneOf s l.val) c.bytes (laneOf s l.val).phase ∧ headGood b = true ∧ bitsOf (cellHead b) 127 126 ≠ 3 ∧
      bodyGood b = false) ∧
    (∃ (l : Fin 192) (c : FabCell) (b : List Byte) (h : Nat) (d : Nat) (k : Nat) (q : Nat) (s : State), laneOn s l.val = true ∧ (laneOf s
      l.val).st = .up ∧ (laneOf s l.val).delin = true ∧ b = phaseCell (laneOf s l.val) c.bytes (laneOf s l.val).phase ∧ h = cellHead b ∧ d
      = bitsOf h 117 110 ∧ k = bitsOf h 109 109 ∧ q = bitsOf h 106 89 ∧ headGood b = true ∧ bodyGood b = true ∧ bitsOf h 125 118 = devId s
      ∧ bitsOf h 127 126 = 0 ∧ bitsOf h 72 72 = 0 ∧ peerEn s d = true ∧ (rxOf s d k).open' = true ∧ q = (rxOf s d k).next ∧ (rxOf s d
      k).held = {} ∧ (rxOf s d k).skip = false ∧ (rxOf s d k).buf.length + ((b.drop 16).take (min 240 (bitsOf h 88 81))).length < 32) ∧
    (∃ (l : Fin 192) (c : FabCell) (b : List Byte) (h : Nat) (d : Nat) (k : Nat) (q : Nat) (s : State), laneOn s l.val = true ∧ (laneOf s
      l.val).st = .up ∧ (laneOf s l.val).delin = true ∧ b = phaseCell (laneOf s l.val) c.bytes (laneOf s l.val).phase ∧ h = cellHead b ∧ d
      = bitsOf h 117 110 ∧ k = bitsOf h 109 109 ∧ q = bitsOf h 106 89 ∧ headGood b = true ∧ bodyGood b = true ∧ bitsOf h 125 118 = devId s
      ∧ bitsOf h 127 126 = 0 ∧ bitsOf h 72 72 = 0 ∧ peerEn s d = true ∧ (rxOf s d k).open' = true ∧ (131072 ≤ (q + 2 ^ 18 - (rxOf s d
      k).next) % 2 ^ 18 ∨ ((rxOf s d k).held.find q).isSome = true)) ∧
    (∃ (l : Fin 192) (c : FabCell) (b : List Byte) (h : Nat) (d : Nat) (k : Nat) (q : Nat) (s : State), laneOn s l.val = true ∧ (laneOf s
      l.val).st = .up ∧ (laneOf s l.val).delin = true ∧ b = phaseCell (laneOf s l.val) c.bytes (laneOf s l.val).phase ∧ h = cellHead b ∧ d
      = bitsOf h 117 110 ∧ k = bitsOf h 109 109 ∧ q = bitsOf h 106 89 ∧ headGood b = true ∧ bodyGood b = true ∧ bitsOf h 125 118 = devId s
      ∧ bitsOf h 127 126 = 0 ∧ bitsOf h 72 72 = 0 ∧ peerEn s d = true ∧ (rxOf s d k).open' = true ∧ 0 < (q + 2 ^ 18 - (rxOf s d k).next) %
      2 ^ 18 ∧ (q + 2 ^ 18 - (rxOf s d k).next) % 2 ^ 18 < 131072 ∧ ((rxOf s d k).held.find q) = none ∧ heldTotal s < 32768) ∧
    (∃ (l : Fin 192) (c : FabCell) (b : List Byte) (h : Nat) (d : Nat) (k : Nat) (q : Nat) (s : State), laneOn s l.val = true ∧ (laneOf s
      l.val).st = .up ∧ (laneOf s l.val).delin = true ∧ b = phaseCell (laneOf s l.val) c.bytes (laneOf s l.val).phase ∧ h = cellHead b ∧ d
      = bitsOf h 117 110 ∧ k = bitsOf h 109 109 ∧ q = bitsOf h 106 89 ∧ headGood b = true ∧ bodyGood b = true ∧ bitsOf h 125 118 = devId s
      ∧ bitsOf h 127 126 = 0 ∧ bitsOf h 72 72 = 0 ∧ peerEn s d = true ∧ (rxOf s d k).open' = false ∧ (rxOf s d k).resyncAt ≤ s.now) ∧
    (∃ (l : Fin 192) (c : FabCell) (b : List Byte) (h : Nat) (d : Nat) (port : Nat) (cls : Nat) (total : Nat) (s : State), laneOn s l.val
      = true ∧ (laneOf s l.val).st = .up ∧ (laneOf s l.val).delin = true ∧ b = phaseCell (laneOf s l.val) c.bytes (laneOf s l.val).phase ∧
      h = cellHead b ∧ d = bitsOf h 117 110 ∧ headGood b = true ∧ bodyGood b = true ∧ bitsOf h 125 118 = devId s ∧ bitsOf h 127 126 = 1 ∧
      bitsOf h 72 72 = 0 ∧ peerEn s d = true ∧ cellMsgs b = [.req port cls total]) ∧
    (∃ (d : Fin 256) (st : Fin 2) (seq : BitVec 18) (seq2 : BitVec 18) (s : State), blkOn s 0x10 = true ∧ ((rxOf s d.val st.val).open' =
      false ∨ 131072 ≤ (seq2.toNat + 2 ^ 18 - (rxOf s d.val st.val).next) % 2 ^ 18)) ∧
    (∃ (d : Fin 256) (st : Fin 2) (seq : BitVec 18) (seq2 : BitVec 18) (s : State), blkOn s 0x10 = true ∧ (rxOf s d.val st.val).open' =
      true ∧ (seq2.toNat + 2 ^ 18 - (rxOf s d.val st.val).next) % 2 ^ 18 < 131072) ∧
    (∃ (d : Fin 256) (st : Fin 2) (s : State), blkOn s 0x10 = true) ∧
    (∃ (d : Fin 256) (st : Fin 2) (x : Nat) (s : State), blkOn s 0x10 = true ∧ (rxOf s d.val st.val).open' = true ∧ (rxOf s d.val
      st.val).ackDue = some x ∧ x + ackNs s ≤ s.now) ∧
    (∃ (d : Fin 256) (st : Fin 2) (s : State), blkOn s 0x10 = true ∧ (rxOf s d.val st.val).open' = true ∧ (rxOf s d.val st.val).gapAt ≠
      none ∧ (rxOf s d.val st.val).nakAt ≤ s.now) ∧
    (∃ (d : Fin 256) (st : Fin 2) (x : Nat) (s : State), blkOn s 0x10 = true ∧ (rxOf s d.val st.val).open' = true ∧ (rxOf s d.val
      st.val).gapAt = some x ∧ x + roTimeout s ≤ s.now ∧ (rxOf s d.val st.val).markers.any (fun m => decide (s.now < m.2 + markerNs s)) =
      true) ∧
    (∃ (d : Fin 256) (st : Fin 2) (x : Nat) (n : Nat) (s : State), blkOn s 0x10 = true ∧ (rxOf s d.val st.val).open' = true ∧ (rxOf s
      d.val st.val).gapAt = some x ∧ firstHeld (rxOf s d.val st.val) = some n ∧ x + roTimeout s ≤ s.now ∧ (rxOf s d.val st.val).markers =
      [] ∧ (rxOf s d.val st.val).held.entries.length = 1) :=
  ⟨⟨255, 127, 3, 0xFFFFFFFF,
     { up with fab := {  }, regs := (up.regs.set 0 (Reg.addr .fabPeerEn [7]) 0x80000000).set 0 (Reg.addr .fabCfg []) 0x800000FF }, by
     decide +kernel⟩,
   ⟨255, 127, 3, 0xFFFFFFFF,
     { up with fab := {  }, regs := (up.regs.set 0 (Reg.addr .fabPeerEn [7]) 0x80000000).set 0 (Reg.addr .fabCfg []) 0x800000FF }, by
     decide +kernel⟩,
   ⟨255, 127, 3, 0x7FFFFFFF,
     { up with fab := {  }, regs := (up.regs.set 0 (Reg.addr .fabPeerEn [7]) 0x80000000).set 0 (Reg.addr .fabCfg []) 0x800000FF }, by
     decide +kernel⟩,
   ⟨{ up with fab := { txf := (SMap.empty).put 9 (some { req := 5 }), rxf := (SMap.empty).put 9 (some { req := 5 }) } }, by
     decide +kernel⟩,
   ⟨127, 1, 255,
     { up with fab := { rxf := ((SMap.empty).put 509 (some { req := 300 })).put 131069 (some { req := 300, cred := 9 }), gen := (SMap.empty).put 127 (some (4096 * 512)), rrSrc := (SMap.empty).put 509 (some 1) }, sch := { port := (SMap.empty).put 127 (some { st := .up, link := true }) } },
     by decide +kernel⟩,
   ⟨0xFFF, { tkt := 5, len := 2, at' := 0, loc := .buf 3 15 }, [],
     { up with regs := (((up.regs.set 0 (Reg.addr .schQsplit []) 0x1000).set 0 (nodeKey 4 0xFFF 0) 0x80040000).set 0 (Reg.addr .fabVoqA [0xFFF]) 0xFFFF8000).set 0 (Reg.addr .fabVoqB [0xFFF]) 0xFFFF7, bpm := { q := (SMap.empty).put 0xFFF (some { on := [{ tkt := 5, len := 2, at' := 0, loc := .buf 3 15 }] }), bufs := (SMap.empty).put 3 (some { used := true, gen := 15, ref := 1, pkt := [9, 8] }) }, fab := { tx := (SMap.empty).put 510 (some { st := .open' }), txf := (SMap.empty).put 131071 (some { cred := 1 }) } },
     by decide +kernel⟩,
   ⟨255, 1, 0x3FFFF, 1,
     { up with fab := { rx := (SMap.empty).put 511 (some { held := (SMap.empty).put 3 (some ([1], none)) }) }, regs := (up.regs.set 0 (Reg.addr .fabPeerEn [7]) 0x80000000).set 0 (Reg.addr .fabCfg []) 0x800000FF },
     by decide +kernel⟩,
   ⟨255, 1, 0x1FFFF, 1,
     { up with fab := { rx := (SMap.empty).put 511 (some { open' := true }) }, regs := (up.regs.set 0 (Reg.addr .fabPeerEn [7]) 0x80000000).set 0 (Reg.addr .fabCfg []) 0x800000FF },
     by decide +kernel⟩,
   ⟨255, 1, 7, 0, { up with fab := { tx := (SMap.empty).put 511 (some { st := .syncing, seq := 7 }) } }, by decide +kernel⟩,
   ⟨255, 1, 7, 1, { up with fab := { tx := (SMap.empty).put 511 (some { st := .open', planes := 9 }) } }, by decide +kernel⟩,
   ⟨255, 1,
     { up with fab := { tx := (SMap.empty).put 511 (some { st := .open', seq := 2, cells := [{ seq := 1, bytes := [9], first := none, planes := 1, n := 1 }] }) } },
     by decide +kernel⟩,
   ⟨255, 1,
     { up with fab := { tx := (SMap.empty).put 511 (some { st := .syncing, seq := 7 }), plane := ((SMap.empty).put 0 (some { st := .up })).put 1 (some { st := .up }), lane := ((SMap.empty).put 5 (some { st := .up })).put 191 (some { st := .up }) } },
     by decide +kernel⟩,
   ⟨255, 1, { up with fab := { tx := (SMap.empty).put 511 (some { st := .unreachable }) } }, by decide +kernel⟩,
   ⟨255, 1, 0x3FFFF, 0,
     { up with fab := { tx := (SMap.empty).put 511 (some { st := .open', cells := [{ seq := 262143, bytes := [9], first := none, planes := 1, n := 1 }, { seq := 0, bytes := [9], first := none, planes := 1, n := 1 }] }) }, regs := up.regs.set 0 (Reg.addr .fabPeerEn [7]) 0x80000000 },
     by decide +kernel⟩,
   ⟨255, 1, 5,
     { up with fab := { tx := (SMap.empty).put 511 (some { st := .open' }) }, regs := up.regs.set 0 (Reg.addr .fabPeerEn [7]) 0x80000000 },
     by decide +kernel⟩,
   ⟨255, 1, 0x3FFFF, 2, { seq := 0, bytes := [9], first := none, planes := 1, n := 7 },
     { up with fab := { tx := (SMap.empty).put 511 (some { st := .open', cells := [{ seq := 0, bytes := [9], first := none, planes := 1, n := 7 }] }), plane := ((SMap.empty).put 0 (some { st := .up })).put 1 (some { st := .up }), lane := ((SMap.empty).put 5 (some { st := .up })).put 191 (some { st := .up }) }, now := 2001 },
     by decide +kernel⟩,
   ⟨255, 1, 0, 1, { seq := 0, bytes := [9], first := none, planes := 1, n := 8 },
     { up with fab := { tx := (SMap.empty).put 511 (some { st := .open', cells := [{ seq := 0, bytes := [9], first := none, planes := 1, n := 8 }] }), plane := ((SMap.empty).put 0 (some { st := .up })).put 1 (some { st := .up }), lane := ((SMap.empty).put 5 (some { st := .up })).put 191 (some { st := .up }) }, now := 2001 },
     by decide +kernel⟩,
   ⟨255, 1, { seq := 0, bytes := [9], first := none, planes := 1, n := 7 },
     { up with fab := { tx := (SMap.empty).put 511 (some { st := .open', cells := [{ seq := 0, bytes := [9], first := none, planes := 1, n := 7 }] }), plane := ((SMap.empty).put 0 (some { st := .up })).put 1 (some { st := .up }), lane := ((SMap.empty).put 5 (some { st := .up })).put 191 (some { st := .up }) }, now := 8000 },
     by decide +kernel⟩,
   ⟨255, 0,
     { up with fab := { begun := true, tx := (SMap.empty).put 510 (some { st := .open', seq := 0x3FFFF, out := [1, 2], starts := [0] }), plane := ((SMap.empty).put 0 (some { st := .up })).put 1 (some { st := .up }), lane := ((SMap.empty).put 5 (some { st := .up })).put 191 (some { st := .up }) }, regs := (up.regs.set 0 (Reg.addr .fabPeerEn [7]) 0x80000000).set 0 (Reg.addr .fabCfg []) 0x800000FF },
     by decide +kernel⟩,
   ⟨255, 0,
     { up with fab := { begun := true, tx := ⟨[(0, fullStream), (1, fullStream), (510, { st := .open', seq := 0x3FFFF, out := [1, 2], starts := [0] })]⟩, plane := ((SMap.empty).put 0 (some { st := .up })).put 1 (some { st := .up }), lane := ((SMap.empty).put 5 (some { st := .up })).put 191 (some { st := .up }) }, regs := (up.regs.set 0 (Reg.addr .fabPeerEn [7]) 0x80000000).set 0 (Reg.addr .fabCfg []) 0x800000FF },
     by decide +kernel, by decide +kernel, by decide +kernel, by decide +kernel, by decide +kernel, by decide +kernel, firkin_full _ 0 1
     510 _ rfl⟩,
   ⟨5,
     { up with fab := { plane := ((SMap.empty).put 0 (some { st := .up })).put 1 (some { st := .up }), lane := ((SMap.empty).put 5 (some { st := .up })).put 191 (some { st := .up }) } },
     by decide +kernel⟩,
   ⟨191, 255, .resync 1,
     { up with fab := { begun := true, ctrl := [(255, none, .resync 1)], rr := (SMap.empty).put 0 (some 6), plane := ((SMap.empty).put 0 (some { st := .up })).put 1 (some { st := .up }), lane := ((SMap.empty).put 5 (some { st := .up })).put 191 (some { st := .up }) } },
     by decide +kernel⟩,
   ⟨191, 255, 1, 3, [4], { seq := 3, bytes := [9], first := none, planes := 1, n := 1 },
     { up with fab := { begun := true, tx := (SMap.empty).put 511 (some { st := .open', seq := 4, replay := [3, 4], cells := [{ seq := 3, bytes := [9], first := none, planes := 1, n := 1 }, { seq := 4, bytes := [8], first := none, planes := 1, n := 1 }] }), plane := ((SMap.empty).put 0 (some { st := .up })).put 1 (some { st := .up }), lane := ((SMap.empty).put 5 (some { st := .up })).put 191 (some { st := .up }) }, regs := (up.regs.set 0 (Reg.addr .fabPeerEn [7]) 0x80000000).set 0 (Reg.addr .fabCfg []) 0x800000FF },
     by decide +kernel⟩,
   ⟨191, { bytes := List.replicate 256 0, uncorr := 2 }, List.replicate 256 0,
     { up with fab := { lane := (SMap.empty).put 191 (some { st := .up, delin := true, fec := true, tail := idleCell, bad := 5 }) }, regs := (up.regs.set 0 (Reg.addr .fabPeerEn [7]) 0x80000000).set 0 (Reg.addr .fabCfg []) 0x800000FF },
     by decide +kernel⟩,
   ⟨191, { bytes := List.replicate 256 0 }, List.replicate 256 0,
     { up with fab := { lane := (SMap.empty).put 191 (some { st := .up, delin := true, fec := true, tail := idleCell, bad := 6 }) }, regs := (up.regs.set 0 (Reg.addr .fabPeerEn [7]) 0x80000000).set 0 (Reg.addr .fabCfg []) 0x800000FF },
     by decide +kernel⟩,
   ⟨191, { bytes := (idleCell).drop 96 ++ List.replicate 96 0 }, 5,
     { up with fab := { lane := (SMap.empty).put 191 (some { st := .delin, tail := List.replicate 160 1 ++ (idleCell).take 96, runs := [0, 0, 0, 0, 0, 5] }) }, now := 7 },
     by decide +kernel⟩,
   ⟨191, { bytes := idleCell }, { up with fab := { lane := (SMap.empty).put 191 (some { st := .delin, runs := [4, 4, 4] }) } }, by
     decide +kernel⟩,
   ⟨191, { bytes := (dataCell 0x3ffff0000603fe000017a4de86005315).take 255 ++ [1] }, (dataCell 0x3ffff0000603fe000017a4de86005315).take
     255 ++ [1],
     { up with fab := { lane := (SMap.empty).put 191 (some { st := .up, delin := true, fec := true, tail := idleCell, bad := 5 }) }, regs := (up.regs.set 0 (Reg.addr .fabPeerEn [7]) 0x80000000).set 0 (Reg.addr .fabCfg []) 0x800000FF },
     by decide +kernel, by decide +kernel, by decide +kernel, by decide +kernel, by decide +kernel, by decide +kernel, bodyGood_run _ _
     (by decide +kernel)⟩,
   ⟨191, { bytes := dataCell 0x3ffff7fffe03fe000017a4de860093ab }, dataCell 0x3ffff7fffe03fe000017a4de860093ab, cellHead (dataCell
     0x3ffff7fffe03fe000017a4de860093ab), 255, 1, 0x3FFFF,
     { up with fab := { rx := (SMap.empty).put 511 (some { open' := true, next := 0x3FFFF }), lane := (SMap.empty).put 191 (some { st := .up, delin := true, fec := true, tail := idleCell }) }, regs := (up.regs.set 0 (Reg.addr .fabPeerEn [7]) 0x80000000).set 0 (Reg.addr .fabCfg []) 0x800000FF },
     by decide +kernel, by decide +kernel, by decide +kernel, by decide +kernel, by decide +kernel, by decide +kernel, by decide +kernel,
     by decide +kernel, by decide +kernel, bodyGood_run _ _ (by decide +kernel), by decide +kernel, by decide +kernel, by decide +kernel,
     by decide +kernel, by decide +kernel, by decide +kernel, by decide +kernel, by decide +kernel, by decide +kernel⟩,
   ⟨191, { bytes := dataCell 0x3ffff7fffe03fe000017a4de860093ab }, dataCell 0x3ffff7fffe03fe000017a4de860093ab, cellHead (dataCell
     0x3ffff7fffe03fe000017a4de860093ab), 255, 1, 0x3FFFF,
     { up with fab := { rx := (SMap.empty).put 511 (some { open' := true, next := 0 }), lane := (SMap.empty).put 191 (some { st := .up, delin := true, fec := true, tail := idleCell }) }, regs := (up.regs.set 0 (Reg.addr .fabPeerEn [7]) 0x80000000).set 0 (Reg.addr .fabCfg []) 0x800000FF },
     by decide +kernel, by decide +kernel, by decide +kernel, by decide +kernel, by decide +kernel, by decide +kernel, by decide +kernel,
     by decide +kernel, by decide +kernel, bodyGood_run _ _ (by decide +kernel), by decide +kernel, by decide +kernel, by decide +kernel,
     by decide +kernel, by decide +kernel, by decide +kernel⟩,
   ⟨191, { bytes := dataCell 0x3ffff0000203fe000017a4de8600fe20 }, dataCell 0x3ffff0000203fe000017a4de8600fe20, cellHead (dataCell
     0x3ffff0000203fe000017a4de8600fe20), 255, 1, 1,
     { up with fab := { rx := (SMap.empty).put 511 (some { open' := true, next := 0x3FFFF }), lane := (SMap.empty).put 191 (some { st := .up, delin := true, fec := true, tail := idleCell }) }, regs := (up.regs.set 0 (Reg.addr .fabPeerEn [7]) 0x80000000).set 0 (Reg.addr .fabCfg []) 0x800000FF },
     by decide +kernel, by decide +kernel, by decide +kernel, by decide +kernel, by decide +kernel, by decide +kernel, by decide +kernel,
     by decide +kernel, by decide +kernel, bodyGood_run _ _ (by decide +kernel), by decide +kernel, by decide +kernel, by decide +kernel,
     by decide +kernel, by decide +kernel, by decide +kernel, by decide +kernel, by decide +kernel, by decide +kernel⟩,
   ⟨191, { bytes := dataCell 0x3ffff7fffe03fe000017a4de860093ab }, dataCell 0x3ffff7fffe03fe000017a4de860093ab, cellHead (dataCell
     0x3ffff7fffe03fe000017a4de860093ab), 255, 1, 0x3FFFF,
     { up with fab := { lane := (SMap.empty).put 191 (some { st := .up, delin := true, fec := true, tail := idleCell }) }, regs := (up.regs.set 0 (Reg.addr .fabPeerEn [7]) 0x80000000).set 0 (Reg.addr .fabCfg []) 0x800000FF },
     by decide +kernel, by decide +kernel, by decide +kernel, by decide +kernel, by decide +kernel, by decide +kernel, by decide +kernel,
     by decide +kernel, by decide +kernel, bodyGood_run _ _ (by decide +kernel), by decide +kernel, by decide +kernel, by decide +kernel,
     by decide +kernel, by decide +kernel, by decide +kernel⟩,
   ⟨191, { bytes := (reqCell) }, (reqCell), cellHead (reqCell), 255, 127, 3, 0xFFFFFFFF,
     { up with fab := { lane := (SMap.empty).put 191 (some { st := .up, delin := true, fec := true, tail := idleCell }) }, regs := (up.regs.set 0 (Reg.addr .fabPeerEn [7]) 0x80000000).set 0 (Reg.addr .fabCfg []) 0x800000FF },
     by decide +kernel, by decide +kernel, by decide +kernel, by decide +kernel, by decide +kernel, by decide +kernel, by decide +kernel,
     bodyGood_run _ _ (by decide +kernel), by decide +kernel, by decide +kernel, by decide +kernel, by decide +kernel, by decide +kernel⟩,
   ⟨255, 1, 3, 9, { up with fab := { rx := (SMap.empty).put 511 (some { open' := true, next := 10 }) } }, by decide +kernel⟩,
   ⟨255, 1, 3, 9, { up with fab := { rx := (SMap.empty).put 511 (some { open' := true }) } }, by decide +kernel⟩,
   ⟨255, 1, { up with fab := { rx := (SMap.empty).put 511 (some { open' := true, markers := [(1, 0), (2, 1)] }) }, now := 100000 }, by
     decide +kernel⟩,
   ⟨255, 1, 0, { up with fab := { rx := (SMap.empty).put 511 (some { open' := true, ackDue := some 0 }) }, now := 500 }, by
     decide +kernel⟩,
   ⟨255, 1,
     { up with fab := { rx := (SMap.empty).put 511 (some { open' := true, gapAt := some 0, held := (SMap.empty).put 3 (some ([1], none)) }) } },
     by decide +kernel⟩,
   ⟨255, 1, 0,
     { up with fab := { rx := (SMap.empty).put 511 (some { open' := true, next := 0x3FFFF, gapAt := some 0, held := (SMap.empty).put 3 (some ([1], some 0)), markers := [(9, 0)] }) }, now := 8000 },
     by decide +kernel⟩,
   ⟨255, 1, 0, 4,
     { up with fab := { rx := (SMap.empty).put 511 (some { open' := true, next := 0x3FFFF, gapAt := some 0, held := (SMap.empty).put 3 (some ([1], some 0)) }) }, now := 8000 },
     by decide +kernel⟩⟩

/-- States and operands that meet the hypotheses of FabricPlanesAndTwin, clause by clause. -/
theorem witness_FabricPlanesAndTwin :
    (∃ (pl : Fin 2) (s : State), blkOn s 0x10 = true ∧ planeMeets s pl.val = true ∧ standbyMode s = false ∧ (planeOf s pl.val).st = .down) ∧
    (∃ (pl : Fin 2) (s : State), blkOn s 0x10 = true ∧ planeMeets s pl.val = true ∧ standbyMode s = true ∧ (planeOf s pl.val).st = .down) ∧
    (∃ (pl : Fin 2) (s : State), blkOn s 0x10 = true ∧ (planeOf s pl.val).st = .probe ∧ (unprobed s pl.val = 0 ∨ (planeOf s pl.val).since
      + 1000000 ≤ s.now)) ∧
    (∃ (d : Fin 256) (st : Fin 2) (s : State), blkOn s 0x10 = true ∧ (txOf s d.val st.val).st = .open' ∧ (txOf s d.val st.val).probeAt ≤
      s.now ∧ (txOf s d.val st.val).planes.testBit 3 = true ∧ (planeOf s 1).st = .up ∧ (txOf s d.val st.val).planes.testBit 2 = false) ∧
    (∃ (pl : Fin 2) (s : State), blkOn s 0x10 = true ∧ standbyMode s = false ∧ (planeOf s pl.val).st = .up ∧ (planeOf s pl.val).failed =
      false ∧ s.fab.sw = none ∧ (hbFresh s pl.val = false ∨ (goodLanesOf s pl.val).length < planeMin s)) ∧
    (∃ (pl : Fin 2) (s : State), blkOn s 0x10 = true ∧ standbyMode s = true ∧ (planeOf s pl.val).st = .active ∧ (planeOf s pl.val).failed
      = false ∧ (planeOf s (1 - pl.val)).st = .standby ∧ s.fab.sw = none ∧ (hbFresh s pl.val = false ∨ (goodLanesOf s pl.val).length <
      planeMin s)) ∧
    (∃ (slot : Fin 4) (s : State), ownerMay s slot .fabCmd [] = true ∧ standbyMode s = false) ∧
    (∃ (slot : Fin 4) (s : State), ownerMay s slot .fabCmd [] = true) ∧
    (∃ (slot : Fin 4) (s : State), ownerMay s slot .fabCmd [] = true ∧ standbyMode s = false) ∧
    (∃ (slot : Fin 4) (s : State), ownerMay s slot .fabCmd [] = true) ∧
    (∃ (slot : Fin 4) (pl : Fin 2) (s : State), ownerMay s slot .fabCmd [] = true ∧ standbyMode s = true ∧ s.fab.sw = none ∧ (planeOf s
      pl.val).st = .standby ∧ (planeOf s (1 - pl.val)).st = .active) ∧
    (∃ (slot : Fin 4) (s : State), ownerMay s slot .fabCmd [] = true ∧ (standbyMode s = false ∨ ((planeOf s 0).st ≠ .standby ∧ (planeOf s
      1).st ≠ .standby))) ∧
    (∃ (e : Nat) (planned : Bool) (pl : Fin 2) (s : State), blkOn s 0x10 = true ∧ s.fab.sw = some (e, planned) ∧ e ≤ s.now ∧ (planeOf s
      pl.val).st = .standby ∧ (planeOf s (1 - pl.val)).st ≠ .standby) ∧
    (∃ (slot : Fin 4) (i : Fin 8) (val : Word) (s : State), ownerMay s slot .fabPeerEn [i.val] = true) ∧
    (∃ (slot : Fin 4) (i : Fin 8) (val : Word) (j : Fin 32) (st : Fin 2) (s : State), ownerMay s slot .fabPeerEn [i.val] = true ∧ tbit
      (regRaw s .fabPeerEn [i.val]) j.val = true ∧ tbit val j.val = false) ∧
    (∃ (slot : Fin 4) (val : Word) (s : State), ownerMay s slot .fabCfg [] = true ∧ s.fur.direct = false ∧ fabEn s = true) ∧
    (∃ (slot : Fin 4) (val : Word) (s : State), ownerMay s slot .fabCfg [] = true ∧ s.fur.direct = false ∧ fabEn s = false) ∧
    (∃ (g : Fin 16) (s : State), onData s = true ∧ ((twinOf s g.val).st = 3 ∨ (twinOf s g.val).st = 4)) ∧
    (∃ (g : Fin 16) (s : State), onData s = true ∧ (twinOf s g.val).st = 5 ∧ twinEn s g.val = true) ∧
    (∃ (g : Fin 16) (s : State), onData s = true ∧ (twinOf s g.val).st = 1 ∧ (twinOf s g.val).actIn = false ∧ (twinOf s g.val).lowAt +
      10000 ≤ s.now ∧ rb s .fabTwinCfg [g.val] 29 = true) ∧
    (∃ (g : Fin 16) (s : State), onData s = true ∧ (twinOf s g.val).st = 1 ∧ (twinOf s g.val).actIn = true) ∧
    (∃ (g : Fin 16) (s : State), onData s = true ∧ (twinOf s g.val).st = 1 ∧ (twinOf s g.val).actIn = false ∧ rb s .fabTwinCfg [g.val] 29
      = false) ∧
    (∃ (g : Fin 16) (s : State), onData s = false) ∧
    (∃ (g : Fin 16) (s : State), onData s = false ∧ (twinOf s g.val).actIn = true) ∧
    (∃ (g : Fin 16) (s : State), onData s = true ∧ (twinOf s g.val).st = 2 ∧ (twinOf s g.val).roseAt + 10000 ≤ s.now ∧ (twinOf s
      g.val).actIn = false) ∧
    (∃ (g : Fin 16) (s : State), onData s = true ∧ (twinOf s g.val).st = 2 ∧ (twinOf s g.val).roseAt + 10000 ≤ s.now ∧ (twinOf s
      g.val).actIn = true ∧ rb s .fabTwinCfg [g.val] 30 = false) ∧
    (∃ (g : Fin 16) (s : State), onData s = true ∧ (twinOf s g.val).st = 2 ∧ (twinOf s g.val).actIn = true ∧ rb s .fabTwinCfg [g.val] 30 =
      true) ∧
    (∃ (g : Fin 16) (aligned : Bool) (s : State), onData s = true ∧ (twinOf s g.val).st = 3 ∧ ((aligned = true ∧ twinAligned s g.val =
      true) ∨ (twinOf s g.val).roseAt + 1990000 ≤ s.now)) ∧
    (∃ (slot : Fin 4) (g : Fin 16) (s : State), ownerMay s slot .fabTwinCfg [g.val] = true ∧ twinEn s g.val = true ∧ (twinOf s
      g.val).actIn = false ∧ (twinOf s g.val).st = 1) ∧
    (∃ (slot : Fin 4) (g : Fin 16) (s : State), ownerMay s slot .fabTwinCfg [g.val] = true ∧ twinEn s g.val = true ∧ (twinOf s g.val).st =
      4) ∧
    (∃ (slot : Fin 4) (g : Fin 16) (val : Word) (s : State), ownerMay s slot .fabTwinCfg [g.val] = true ∧ tbit val 31 = true ∧ tbit val 28
      = false ∧ tbit val 27 = false ∧ (twinOf s g.val).st = 0) ∧
    (∃ (slot : Fin 4) (g : Fin 16) (val : Word) (s : State), ownerMay s slot .fabTwinCfg [g.val] = true ∧ tbit val 31 = false ∧ tbit val
      28 = false ∧ tbit val 27 = false ∧ (twinOf s g.val).st = 4) :=
  ⟨⟨1,
     { up with fab := { plane := ((SMap.empty).put 0 (some {  })).put 1 (some { lastHb := some 10000000 }), lane := (SMap.empty).put 191 (some { st := .up }) }, regs := up.regs.set 0 (Reg.addr .fabPlaneCfg []) 1, now := 10000000 },
     by decide +kernel⟩,
   ⟨1,
     { up with fab := { plane := ((SMap.empty).put 0 (some {  })).put 1 (some { lastHb := some 10000000 }), lane := (SMap.empty).put 191 (some { st := .up }), pmode := 1 }, regs := up.regs.set 0 (Reg.addr .fabPlaneCfg []) 1, now := 10000000 },
     by decide +kernel⟩,
   ⟨1, { up with fab := { plane := ((SMap.empty).put 0 (some {  })).put 1 (some { st := .probe }) } }, by decide +kernel⟩,
   ⟨255, 1,
     { up with fab := { plane := ((SMap.empty).put 0 (some {  })).put 1 (some { st := .up }), tx := (SMap.empty).put 511 (some { st := .open', planes := 9 }) } },
     by decide +kernel⟩,
   ⟨1, { up with fab := { plane := ((SMap.empty).put 0 (some {  })).put 1 (some { st := .up }) } }, by decide +kernel⟩,
   ⟨1, { up with fab := { plane := ((SMap.empty).put 0 (some { st := .standby })).put 1 (some { st := .active }), pmode := 1 } }, by
     decide +kernel⟩,
   ⟨0, { up with fab := { plane := ((SMap.empty).put 0 (some { st := .up })).put 1 (some { st := .up }) } }, by decide +kernel⟩,
   ⟨0, { up with fab := { plane := ((SMap.empty).put 0 (some { host := true })).put 1 (some { host := true }) } }, by decide +kernel⟩,
   ⟨0, { up with fab := { plane := ((SMap.empty).put 0 (some { st := .up })).put 1 (some { st := .up }) } }, by decide +kernel⟩,
   ⟨0, { up with fab := { plane := ((SMap.empty).put 0 (some { host := true })).put 1 (some { host := true }) } }, by decide +kernel⟩,
   ⟨0, 0, { up with fab := { plane := ((SMap.empty).put 0 (some { st := .standby })).put 1 (some { st := .active }), pmode := 1 } }, by
     decide +kernel⟩,
   ⟨0, { up with fab := { plane := ((SMap.empty).put 0 (some { st := .active })).put 1 (some { st := .down }), pmode := 1 } }, by
     decide +kernel⟩,
   ⟨40000, true, 0,
     { up with fab := { plane := ((SMap.empty).put 0 (some { st := .standby })).put 1 (some { st := .active }), pmode := 1, sw := some (40000, true) }, now := 40000 },
     by decide +kernel⟩,
   ⟨0, 7, 0x80000000, up, by decide +kernel⟩,
   ⟨0, 7, 1, 31, 1,
     { up with fab := { tx := (SMap.empty).put 511 (some { st := .open', cells := [{ seq := 0, bytes := [9], first := none, planes := 1, n := 7 }] }), rx := (SMap.empty).put 511 (some { open' := true }) }, regs := (up.regs.set 0 (Reg.addr .fabPeerEn [7]) 0x80000000).set 0 (Reg.addr .fabCfg []) 0x800000FF },
     by decide +kernel⟩,
   ⟨0, 0x70000011,
     { up with fab := {  }, regs := (up.regs.set 0 (Reg.addr .fabPeerEn [7]) 0x80000000).set 0 (Reg.addr .fabCfg []) 0x800000FF }, by
     decide +kernel⟩,
   ⟨0, 0xF0000011, up, by decide +kernel⟩,
   ⟨15,
     { up with fab := { twin := (SMap.empty).put 15 (some { st := 4, actOut := true, psel := true }) }, regs := up.regs.set 0 (Reg.addr .fabTwinCfg [15]) 0x80000000 },
     by decide +kernel⟩,
   ⟨15,
     { up with fab := { twin := (SMap.empty).put 15 (some { st := 5, psel := true }) }, regs := up.regs.set 0 (Reg.addr .fabTwinCfg [15]) 0x80000000 },
     by decide +kernel⟩,
   ⟨15,
     { up with fab := { twin := (SMap.empty).put 15 (some { st := 1 }) }, regs := up.regs.set 0 (Reg.addr .fabTwinCfg [15]) 0xA0000000, now := 10000 },
     by decide +kernel⟩,
   ⟨15,
     { up with fab := { twin := (SMap.empty).put 15 (some { st := 1, actIn := true }) }, regs := up.regs.set 0 (Reg.addr .fabTwinCfg [15]) 0x80000000 },
     by decide +kernel⟩,
   ⟨15,
     { up with fab := { twin := (SMap.empty).put 15 (some { st := 1 }) }, regs := up.regs.set 0 (Reg.addr .fabTwinCfg [15]) 0x80000000, now := 10000 },
     by decide +kernel⟩,
   ⟨15, { State.reset with fab := { twin := (SMap.empty).put 15 (some { st := 4, actOut := true, psel := true }) } }, by decide +kernel⟩,
   ⟨15, { State.reset with fab := { twin := (SMap.empty).put 15 (some { st := 4, actIn := true }) } }, by decide +kernel⟩,
   ⟨15,
     { up with fab := { twin := (SMap.empty).put 15 (some { st := 2, actOut := true }) }, regs := up.regs.set 0 (Reg.addr .fabTwinCfg [15]) 0x80000000, now := 10000 },
     by decide +kernel⟩,
   ⟨15,
     { up with fab := { twin := (SMap.empty).put 15 (some { st := 2, actOut := true, actIn := true }) }, regs := up.regs.set 0 (Reg.addr .fabTwinCfg [15]) 0x80000000, now := 10000 },
     by decide +kernel⟩,
   ⟨15,
     { up with fab := { twin := (SMap.empty).put 15 (some { st := 2, actOut := true, actIn := true }) }, regs := up.regs.set 0 (Reg.addr .fabTwinCfg [15]) 0xC0000000, now := 10000 },
     by decide +kernel⟩,
   ⟨15, false,
     { up with fab := { twin := (SMap.empty).put 15 (some { st := 3, actOut := true }) }, regs := up.regs.set 0 (Reg.addr .fabTwinCfg [15]) 0x80000000, now := 1990000 },
     by decide +kernel⟩,
   ⟨0, 15,
     { up with fab := { twin := (SMap.empty).put 15 (some { st := 1 }) }, regs := up.regs.set 0 (Reg.addr .fabTwinCfg [15]) 0xC0000000 },
     by decide +kernel⟩,
   ⟨0, 15,
     { up with fab := { twin := (SMap.empty).put 15 (some { st := 4, actOut := true, psel := true }) }, regs := up.regs.set 0 (Reg.addr .fabTwinCfg [15]) 0x80000000 },
     by decide +kernel⟩,
   ⟨0, 15, 0xE7FFFFFF, up, by decide +kernel⟩,
   ⟨0, 15, 0,
     { up with fab := { twin := (SMap.empty).put 15 (some { st := 4, actOut := true, psel := true }) }, regs := up.regs.set 0 (Reg.addr .fabTwinCfg [15]) 0x80000000 },
     by decide +kernel⟩⟩

/-- States and operands that meet the hypotheses of FaultSources, clause by clause. -/
theorem witness_FaultSources :
    (∃ (blk : Fin 21) (bit : Fin 32) (inst : Fin 65536) (row : Word) (s : State), ((blk.val, bit.val) ∈ [(0, 0), (3, 0), (4, 0), (5, 0),
      (6, 0), (6, 3), (8, 0), (10, 1), (10, 3), (12, 1), (14, 0), (15, 1), (16, 0), (17, 0)]) ∧ unitWorks s blk.val bit.val inst.val =
      true ∧ tbit (fltMask s blk.val) bit.val = true) ∧
    (∃ (blk : Fin 21) (bit : Fin 32) (inst : Fin 65536) (row : Word) (s : State), ((blk.val, bit.val) ∈ [(0, 0), (3, 0), (4, 0), (5, 0),
      (6, 0), (6, 3), (8, 0), (10, 1), (10, 3), (12, 1), (14, 0), (15, 1), (16, 0), (17, 0)]) ∧ unitWorks s blk.val bit.val inst.val =
      true ∧ tbit (fltMask s blk.val) bit.val = false ∧ (fltOf s blk.val).valid = false) ∧
    (∃ (blk : Fin 21) (bit : Fin 32) (inst : Fin 65536) (row : Word) (s : State), ((blk.val, bit.val) ∈ [(0, 0), (3, 0), (4, 0), (5, 0),
      (6, 0), (6, 3), (8, 0), (10, 1), (10, 3), (12, 1), (14, 0), (15, 1), (16, 0), (17, 0)]) ∧ unitWorks s blk.val bit.val inst.val =
      true ∧ tbit (fltMask s blk.val) bit.val = false ∧ (fltOf s blk.val).valid = true ∧ (fltOf s blk.val).latchAt ≠ s.now) ∧
    (∃ (blk : Fin 21) (bit : Fin 32) (inst : Fin 65536) (row : Word) (k : Nat) (s : State), ((blk.val, bit.val) ∈ [(0, 0), (3, 0), (4, 0),
      (5, 0), (6, 0), (6, 3), (8, 0), (10, 1), (10, 3), (12, 1), (14, 0), (15, 1), (16, 0), (17, 0)]) ∧ unitWorks s blk.val bit.val
      inst.val = true ∧ tbit (fltMask s blk.val) bit.val = false ∧ (fltOf s blk.val).valid = true ∧ (fltOf s blk.val).latchAt = s.now ∧
      (fltInfo blk.val bit.val).map FltInfo.cls = some k ∧ ((fltOf s blk.val).cls < k ∨ ((fltOf s blk.val).cls = k ∧ bit.val < (fltOf s
      blk.val).src))) ∧
    (∃ (blk : Fin 21) (bit : Fin 32) (inst : Fin 65536) (row : Word) (s : State), bit.val ≠ 31 ∧ fltInfo blk.val bit.val = none) ∧
    (∃ (blk : Fin 21) (bit : Fin 32) (inst : Fin 65536) (row : Word) (s : State), bit.val ≠ 31 ∧ unitWorks s blk.val bit.val inst.val =
      false) ∧
    (∃ (blk : Fin 21) (bit : Fin 32) (inst : Fin 65536) (row : Word) (s : State), (blk.val, bit.val) ∈ [(0, 2), (0, 3), (1, 4), (1, 6),
      (11, 6)] ∧ holds s blk.val bit.val inst.val = true) ∧
    (∃ (blk : Fin 21) (bit : Fin 32) (inst : Fin 65536) (row : Word) (s : State), (blk.val, bit.val) = (0, 1) ∧ onIsland s = true ∧
      inst.val < 4 ∧ holds s 0 1 inst.val = false ∧ (List.range 4).all (fun i => i == inst.val || holds s 0 1 i) = true ∧ s.flt.fatal =
      false) ∧
    (∃ (blk : Fin 21) (bit : Fin 32) (inst : Fin 65536) (row : Word) (s : State), (blk.val, bit.val) ∈ [(0, 2), (0, 3), (1, 4), (1, 6)] ∧
      onIsland s = true ∧ holds s blk.val bit.val inst.val = false ∧ s.flt.fatal = false) ∧
    (∃ (blk : Fin 21) (bit : Fin 32) (inst : Fin 65536) (row : Word) (s : State), (blk.val, bit.val) ∈ [(0, 2), (0, 3), (1, 4), (1, 6)] ∧
      onIsland s = true ∧ s.flt.fatal = true) ∧
    (∃ (blk : Fin 21) (bit : Fin 32) (inst : Fin 65536) (row : Word) (s : State), bit.val = 31 ∧ onIsland s = true) ∧
    (∃ (blk : Fin 21) (bit : Fin 32) (inst : Fin 65536) (row : Word) (s : State), (blk.val, bit.val) = (15, 0) ∧ inst.val < 128 ∧ onData s
      = true ∧ clockFenced s 15 = false) ∧
    (∃ (blk : Fin 21) (bit : Fin 32) (inst : Fin 65536) (row : Word) (s : State), (blk.val, bit.val) = (16, 2) ∧ inst.val < 256 ∧ onData s
      = true ∧ clockFenced s 16 = false) ∧
    (∃ (blk : Fin 21) (bit : Fin 32) (inst : Fin 65536) (row : Word) (s : State), (blk.val, bit.val) = (12, 2) ∧ onData s = true ∧
      clockFenced s 12 = false ∧ (bufOf s (bufKey inst.val row.toNat)).used = true) ∧
    (∃ (blk : Fin 21) (bit : Fin 32) (inst : Fin 65536) (row : Word) (s : State), (blk.val, bit.val) = (14, 1) ∧ onData s = true ∧
      clockFenced s 14 = false) ∧
    (∃ (blk : Fin 21) (bit : Fin 32) (s : State), s.flt.occUntil.get 0 (blk.val * 32 + bit.val) ≠ 0 ∧ s.flt.occUntil.get 0 (blk.val * 32 +
      bit.val) ≤ s.now) ∧
    (∃ (blk : Fin 21) (bit : Fin 32) (s : State), s.now < s.flt.occUntil.get 0 (blk.val * 32 + bit.val)) ∧
    (∃ (slot : Fin 4) (blk : Fin 21) (val : Word) (s : State), ownerMay s slot .fltSticky [blk.val] = true) ∧
    (∃ (slot : Fin 4) (blk : Fin 21) (val : Word) (s : State), ownerMay s slot .fltFirst [blk.val] = true ∧ tbit val 31 = true ∧ (fltOf s
      blk.val).risesAt s.now = []) ∧
    (∃ (slot : Fin 4) (blk : Fin 21) (val : Word) (c : Nat) (b : Nat) (n : Nat) (s : State), ownerMay s slot .fltFirst [blk.val] = true ∧
      tbit val 31 = true ∧ (fltOf s blk.val).risesAt s.now = [(c, b, n)]) ∧
    (∃ (slot : Fin 4) (blk : Fin 21) (val : Word) (s : State), ownerMay s slot .fltFirst [blk.val] = true ∧ tbit val 31 = false) ∧
    (∃ (slot : Fin 4) (blk : Fin 64) (unit : Fin 65536) (s : State), ownerMay s slot .devUnfence [] = true ∧ unitKnown blk.val unit.val =
      false) ∧
    (∃ (slot : Fin 4) (blk : Fin 64) (unit : Fin 65536) (s : State), ownerMay s slot .devUnfence [] = true ∧ unitKnown blk.val unit.val =
      true ∧ applyRuns s = true) ∧
    (∃ (slot : Fin 4) (blk : Fin 64) (unit : Fin 65536) (s : State), ownerMay s slot .devUnfence [] = true ∧ unitKnown blk.val unit.val =
      true ∧ applyRuns s = false ∧ isFenced s blk.val unit.val = false) ∧
    (∃ (slot : Fin 4) (blk : Fin 64) (unit : Fin 65536) (d : Fin 96) (s : State), ownerMay s slot .devUnfence [] = true ∧ unitKnown
      blk.val unit.val = true ∧ applyRuns s = false ∧ isFenced s blk.val unit.val = true ∧ d.val ∈ unitDoms blk.val unit.val ∧ domOn s
      d.val = false) ∧
    (∃ (slot : Fin 4) (blk : Fin 64) (unit : Fin 65536) (s : State), ownerMay s slot .devUnfence [] = true ∧ applyRuns s = false ∧
      isFenced s blk.val unit.val = true ∧ blk.val < 21 ∧ 0xFF00 ≤ unit.val) ∧
    (∃ (slot : Fin 4) (blk : Fin 64) (unit : Fin 65536) (g : Fin 16) (s : State), ownerMay s slot .devUnfence [] = true ∧ applyRuns s =
      false ∧ isFenced s blk.val unit.val = true ∧ blk.val = 4 ∧ unit.val = 0xFF00 + g.val ∧ domOn s g.val = true) ∧
    (∃ (slot : Fin 4) (blk : Fin 64) (unit : Fin 65536) (s : State), ownerMay s slot .devUnfence [] = true ∧ applyRuns s = false ∧
      isFenced s blk.val unit.val = true ∧ blk.val = 6 ∧ 16 ≤ unit.val ∧ unit.val < 25 ∧ domOn s (27 + (unit.val - 16)) = true) ∧
    (∃ (slot : Fin 4) (blk : Fin 64) (unit : Fin 65536) (s : State), ownerMay s slot .devUnfence [] = true ∧ applyRuns s = false ∧
      isFenced s blk.val unit.val = true ∧ blk.val = 6 ∧ unit.val < 9 ∧ domOn s (18 + unit.val) = true ∧ (failoverRuns s &&
      s.slc.fail.failed == unit.val) = false) ∧
    (∃ (slot : Fin 4) (blk : Fin 64) (unit : Fin 65536) (s : State), ownerMay s slot .devUnfence [] = true ∧ applyRuns s = false ∧
      isFenced s blk.val unit.val = true ∧ blk.val = 6 ∧ unit.val < 9 ∧ domOn s (18 + unit.val) = true ∧ (failoverRuns s &&
      s.slc.fail.failed == unit.val) = true) ∧
    (∃ (slot : Fin 4) (blk : Fin 64) (unit : Fin 65536) (s : State), ownerMay s slot .devUnfence [] = true ∧ applyRuns s = false ∧
      isFenced s blk.val unit.val = true ∧ blk.val = 9 ∧ unit.val < 96 ∧ domOn s (92 + unit.val / 24) = true) ∧
    (∃ (slot : Fin 4) (blk : Fin 64) (unit : Fin 65536) (s : State), ownerMay s slot .devUnfence [] = true ∧ applyRuns s = false ∧
      isFenced s blk.val unit.val = true ∧ blk.val = 10 ∧ unit.val < 128 ∧ domOn s (36 + unit.val / 16) = true) ∧
    (∃ (slot : Fin 4) (blk : Fin 64) (unit : Fin 65536) (s : State), ownerMay s slot .devUnfence [] = true ∧ applyRuns s = false ∧
      isFenced s blk.val unit.val = true ∧ blk.val = 10 ∧ 128 ≤ unit.val ∧ unit.val < 136 ∧ domOn s (44 + (unit.val - 128)) = true) ∧
    (∃ (slot : Fin 4) (blk : Fin 64) (unit : Fin 65536) (s : State), ownerMay s slot .devUnfence [] = true ∧ applyRuns s = false ∧
      isFenced s blk.val unit.val = true ∧ blk.val = 11 ∧ unit.val < 32 ∧ domOn s (52 + unit.val) = true) ∧
    (∃ (slot : Fin 4) (blk : Fin 64) (unit : Fin 65536) (s : State), ownerMay s slot .devUnfence [] = true ∧ applyRuns s = false ∧
      isFenced s blk.val unit.val = true ∧ blk.val = 13 ∧ unit.val < 64 ∧ domOn s (84 + unit.val / 16) = true ∧ domOn s (88 + unit.val /
      16) = true) ∧
    (∃ (slot : Fin 4) (blk : Fin 64) (unit : Fin 65536) (s : State), ownerMay s slot .devUnfence [] = true ∧ applyRuns s = false ∧
      isFenced s blk.val unit.val = true ∧ blk.val = 4 ∧ unit.val < 16 ∧ domOn s unit.val = true) :=
  ⟨⟨17, 0, 65535, 5, { up with regs := up.regs.set 0 (Reg.addr .fltMask [17]) 1 }, by decide +kernel⟩,
   ⟨17, 0, 65535, 5, up, by decide +kernel⟩,
   ⟨0, 0, 65535, 5, { up with now := 5, flt := { blk := (SMap.empty).put 0 (some { valid := true, cls := 2, src := 1, inst := 3 }) } }, by
     decide +kernel⟩,
   ⟨12, 1, 65535, 5, 1,
     { up with now := 5, flt := { blk := (SMap.empty).put 12 (some { valid := true, cls := 1, src := 3, inst := 3, latchAt := 5 }) } }, by
     decide +kernel⟩,
   ⟨18, 30, 0, 5, up, by decide +kernel⟩,
   ⟨13, 4, 4, 5, up, by decide +kernel⟩,
   ⟨11, 6, 31, 5, { up with flt := { held := onMap 0 |>.set false ((11 * 32 + 6) * 65536 + 31) true } }, by decide +kernel⟩,
   ⟨0, 1, 3, 5,
     { up with flt := { held := ((onMap 0 |>.set false (1 * 65536) true).set false (1 * 65536 + 1) true).set false (1 * 65536 + 2) true } },
     by decide +kernel⟩,
   ⟨1, 6, 65535, 5, up, by decide +kernel⟩,
   ⟨0, 3, 1, 5, { up with flt := { fatal := true, firstF := some (1, 4, 0) } }, by decide +kernel⟩,
   ⟨20, 31, 255, 0, up, by decide +kernel⟩,
   ⟨15, 0, 127, 5, up, by decide +kernel⟩,
   ⟨16, 2, 255, 0x80000003,
     { up with fab := { rx := (SMap.empty).put 511 (some { open' := true, held := (SMap.empty).put 3 (some ([1], none)) }) } }, by
     decide +kernel⟩,
   ⟨12, 2, 1, 9, { up with bpm := { bufs := (SMap.empty).put (bufKey 1 9) (some { used := true }) } }, by decide +kernel⟩,
   ⟨14, 1, 1, 0x300005, { up with sch := { node := (SMap.empty).put 0x300005 (some { ct := some 5, defi := 4 }) } }, by decide +kernel⟩,
   ⟨20, 30,
     { up with now := 1000005, flt := { blk := (SMap.empty).put 20 (some { live := 0xFFFFFFFF, sticky := 0xFFFFFFFF }), occUntil := (SMap.empty).put 670 (some 1000005) } },
     by decide +kernel⟩,
   ⟨20, 30, { up with flt := { occUntil := (SMap.empty).put 670 (some 1000005) } }, by decide +kernel⟩,
   ⟨0, 20, 0xF0000003, { up with flt := { blk := (SMap.empty).put 20 (some { live := 1, sticky := 0xFF }) } }, by decide +kernel⟩,
   ⟨0, 20, 0x80000000,
     { up with flt := { blk := (SMap.empty).put 20 (some { live := 1, valid := true, ovf := true, cls := 2, src := 31, inst := 65535 }) }, now := 7 },
     by decide +kernel⟩,
   ⟨0, 20, 0x80000000, 1, 30, 65535,
     { up with now := 7, flt := { blk := (SMap.empty).put 20 (some { live := 1, valid := true, ovf := true, cls := 2, src := 31, inst := 65535, riseAt := 7, rises := [(1, 30, 65535)] }) } },
     by decide +kernel⟩,
   ⟨0, 20, 0x40000000,
     { up with flt := { blk := (SMap.empty).put 20 (some { live := 1, valid := true, ovf := true, cls := 2, src := 31, inst := 65535 }) }, now := 7 },
     by decide +kernel⟩,
   ⟨0, 13, 68, up, by decide +kernel⟩,
   ⟨0, 13, 67, { up with img := { apply := { phase := .verify } } }, by decide +kernel⟩,
   ⟨0, 20, 65535, up, by decide +kernel⟩,
   ⟨0, 9, 95, 95,
     { up with pwr := { up.pwr with doms := (SMap.empty).put 95 (some { st := .off }) }, flt := { fenced := (SMap.empty).put (9 * 65536 + 95) (some true) } },
     by decide +kernel⟩,
   ⟨0, 20, 65535, { up with flt := { fenced := (SMap.empty).put (20 * 65536 + 65535) (some true) } }, by decide +kernel⟩,
   ⟨0, 4, 0xFF0F, 15,
     { up with flt := { fenced := ((SMap.empty).put (4 * 65536 + 15) (some true)).put (4 * 65536 + 65295) (some true) } }, by
     decide +kernel⟩,
   ⟨0, 6, 24,
     { up with slc := { sl := (SMap.empty).put 8 (some { jOk := false }) }, flt := { fenced := (SMap.empty).put (6 * 65536 + 24) (some true) } },
     by decide +kernel⟩,
   ⟨0, 6, 8,
     { up with slc := { sl := (SMap.empty).put 8 (some { st := .fenced }) }, flt := { fenced := (SMap.empty).put (6 * 65536 + 8) (some true) } },
     by decide +kernel⟩,
   ⟨0, 6, 8,
     { up with slc := { sl := (SMap.empty).put 8 (some { st := .fenced }), fail := { st := .loading, failed := 8 } }, flt := { fenced := (SMap.empty).put (6 * 65536 + 8) (some true) } },
     by decide +kernel⟩,
   ⟨0, 9, 95,
     { up with tcm := { banks := (SMap.empty).put 95 (some { st := .fenced }) }, flt := { fenced := (SMap.empty).put (9 * 65536 + 95) (some true) } },
     by decide +kernel⟩,
   ⟨0, 10, 127,
     { up with xe := { eng := (SMap.empty).put 127 (some { reason := 3, n := 9, sum := 9, mean := 1 }) }, flt := { fenced := (SMap.empty).put (10 * 65536 + 127) (some true) } },
     by decide +kernel⟩,
   ⟨0, 10, 135,
     { up with xe := { clu := (SMap.empty).put 7 (some { recOk := false }) }, flt := { fenced := (SMap.empty).put (10 * 65536 + 135) (some true) } },
     by decide +kernel⟩,
   ⟨0, 11, 31,
     { up with ell := { b := (SMap.empty).put 31 (some { st := .fenced }) }, flt := { fenced := (SMap.empty).put (11 * 65536 + 31) (some true) } },
     by decide +kernel⟩,
   ⟨0, 13, 63,
     { up with hbm := { ch := (SMap.empty).put 63 (some { st := .fenced }) }, flt := { fenced := (SMap.empty).put (13 * 65536 + 63) (some true) } },
     by decide +kernel⟩,
   ⟨0, 4, 15, { up with flt := { fenced := (SMap.empty).put (4 * 65536 + 15) (some true) } }, by decide +kernel⟩⟩

/-- States and operands that meet the hypotheses of StickyWriteKeepsLive, clause by clause. -/
theorem witness_StickyWriteKeepsLive :
    ∃ (slot : Fin 4) (blk : Fin 21) (val : Word) (s : State), ownerMay s slot .fltSticky [blk.val] = true :=
  ⟨0, 11, 0xFFFFFFFF, { up with flt := { blk := (SMap.empty).put 11 (some { live := 0x4, sticky := 0x80000007 }) } }, by decide +kernel⟩

/-- States and operands that meet the hypotheses of RecorderReports, clause by clause. -/
theorem witness_RecorderReports :
    (∃ (code : Fin 65536) (cls : Fin 4) (inst : Fin 65536) (d4 : Word) (d5 : Word) (s : State), onIsland s = true ∧ 1000000000 ≤
      (codeBucket s code.val).lvl ∧ s.rcd.queue.length < 256) ∧
    (∃ (code : Fin 65536) (cls : Fin 4) (inst : Fin 65536) (d4 : Word) (d5 : Word) (s : State), onIsland s = true ∧ ((codeBucket s
      code.val).lvl < 1000000000 ∨ 256 ≤ s.rcd.queue.length)) ∧
    (∃ (r : Report) (rest : List Report) (s : State), fwRuns s = true ∧ mayBroadcast s = true ∧ s.rcd.queue = r :: rest ∧ s.rcd.flushing =
      none ∧ 0 < r.cls ∧ s.rcd.flashq.length < 1024) ∧
    (∃ (r : Report) (rest : List Report) (s : State), fwRuns s = true ∧ mayBroadcast s = true ∧ s.rcd.queue = r :: rest ∧ s.rcd.flushing =
      none ∧ (0 < r.cls ∨ rb s .recCfg [] 31 = true) ∧ 1024 ≤ s.rcd.flashq.length) ∧
    (∃ (r : Report) (rest : List Report) (s : State), fwRuns s = true ∧ mayBroadcast s = true ∧ s.rcd.queue = r :: rest ∧ s.rcd.flushing =
      none ∧ r.cls = 0 ∧ rb s .recCfg [] 31 = false) ∧
    (∃ (s : State), fwRuns s = false) ∧
    (∃ (slot : Fin 4) (c : Fin 65536) (x : CodeSt) (s : State), ownerMay s slot .recCmd [] = true ∧ s.rcd.codes.entries = [(c.val, x)] ∧ 0
      < x.pend ∧ s.rcd.flushing = none ∧ s.rcd.flushWait = [] ∧ s.rcd.queue.length + 1 < 256) ∧
    (∃ (slot : Fin 4) (c : Fin 65536) (x : CodeSt) (s : State), ownerMay s slot .recCmd [] = true ∧ s.rcd.codes.entries = [(c.val, x)] ∧ 0
      < x.pend ∧ s.rcd.flushing = none ∧ s.rcd.flushWait = [] ∧ 256 ≤ s.rcd.queue.length) ∧
    (∃ (s : State), s.rcd.nextSec ≤ s.now ∧ (s.rcd.opSec + 1) % 3600 ≠ 0) ∧
    (∃ (s : State), s.rcd.nextSec ≤ s.now ∧ (s.rcd.opSec + 1) % 3600 = 0) ∧
    (∃ (s : State), s.now < s.rcd.nextSec) ∧
    (∃ (q : Fin 6) (a : Int) (n : Nat) (v : Int) (s : State), s.rcd.nextSec ≤ s.now ∧ (s.rcd.opSec + 1) % 3600 ≠ 0 ∧ (s.rcd.ext.get {}
      q.val).acc = some (a, n) ∧ v = (if 4 ≤ q.val then a / (2 * n : Int) else a)) :=
  ⟨⟨65535, 3, 65535, 1, 2,
     { up with chain := { up.chain with holdUntil := 0 }, rcd := { codes := (SMap.empty).put 65535 (some { pend := 65535, sat := true, last := some (1, 2, 3, 1) }) } },
     by decide +kernel⟩,
   ⟨65535, 3, 65535, 1, 2,
     { up with chain := { up.chain with holdUntil := 0 }, rcd := { dfltB := {}, codes := (SMap.empty).put 65535 (some { pend := 65535 }) } },
     by decide +kernel⟩,
   ⟨{ code := 65535, cls := 1, lost := true, folded := 65535, inst := 1, d4 := 1, d5 := 2, ns := 5, frac := 0, tv := false, flush := false },
     [],
     { up with chain := { up.chain with holdUntil := 0 }, rcd := { queue := [{ code := 65535, cls := 1, lost := true, folded := 65535, inst := 1, d4 := 1, d5 := 2, ns := 5, frac := 0, tv := false, flush := false }] } },
     by decide +kernel⟩,
   ⟨{ code := 65535, cls := 0, lost := true, folded := 65535, inst := 1, d4 := 1, d5 := 2, ns := 5, frac := 0, tv := false, flush := false },
     [],
     { up with chain := { up.chain with holdUntil := 0 }, rcd := { queue := [{ code := 65535, cls := 0, lost := true, folded := 65535, inst := 1, d4 := 1, d5 := 2, ns := 5, frac := 0, tv := false, flush := false }], flashq := List.replicate 1024 { words := [], life := false } }, regs := up.regs.set 0 (Reg.addr .recCfg []) 0x80000000 },
     by decide +kernel⟩,
   ⟨{ code := 65535, cls := 0, lost := true, folded := 65535, inst := 1, d4 := 1, d5 := 2, ns := 5, frac := 0, tv := false, flush := false },
     [],
     { up with chain := { up.chain with holdUntil := 0 }, rcd := { queue := [{ code := 65535, cls := 0, lost := true, folded := 65535, inst := 1, d4 := 1, d5 := 2, ns := 5, frac := 0, tv := false, flush := false }] } },
     by decide +kernel⟩,
   ⟨{ up with upd := { paused := true } }, by decide +kernel⟩,
   ⟨0, 65535, { pend := 65535, sat := true, last := some (1, 2, 3, 1) },
     { up with chain := { up.chain with holdUntil := 0 }, rcd := { codes := (SMap.empty).put 65535 (some { pend := 65535, sat := true, last := some (1, 2, 3, 1) }) } },
     by decide +kernel⟩,
   ⟨0, 65535, { pend := 65535, sat := true, last := some (1, 2, 3, 1) },
     { up with chain := { up.chain with holdUntil := 0 }, rcd := { codes := (SMap.empty).put 65535 (some { pend := 65535, sat := true, last := some (1, 2, 3, 1) }), queue := List.replicate 256 { code := 65535, cls := 1, lost := true, folded := 65535, inst := 1, d4 := 1, d5 := 2, ns := 5, frac := 0, tv := false, flush := false } } },
     by decide +kernel⟩,
   ⟨{ up with chain := { up.chain with holdUntil := 0 }, rcd := { nextSec := 5, opSec := 3600 }, now := 5 }, by decide +kernel⟩,
   ⟨{ up with chain := { up.chain with holdUntil := 0 }, rcd := { nextSec := 5, opSec := 3599 }, now := 5 }, by decide +kernel⟩,
   ⟨up, by decide +kernel⟩,
   ⟨5, 12001, 2, 3000,
     { up with chain := { up.chain with holdUntil := 0 }, rcd := { nextSec := 5, ext := (SMap.empty).put 5 (some { acc := some (12001, 2) }) }, now := 5 },
     by decide +kernel⟩⟩

/-- States and operands that meet the hypotheses of RecordsCountersSnapshots, clause by clause. -/
theorem witness_RecordsCountersSnapshots :
    (∃ (slot : Fin 4) (s : State), ownerMay s slot .recCmd [] = true) ∧
    (∃ (r : FlashRec) (rest : List FlashRec) (w : Word) (s : State), onIsland s = true ∧ fwRuns s = true ∧ s.rcd.flashq = r :: rest ∧
      r.life = false ∧ s.rcd.head < 2080768 ∧ (logAddr s.rcd.head) % 0x40000 ≠ 0 ∧ r.words = w :: r.words.drop 1) ∧
    (∃ (r : FlashRec) (rest : List FlashRec) (s : State), onIsland s = true ∧ fwRuns s = true ∧ s.rcd.flashq = r :: rest ∧ r.life = false
      ∧ s.rcd.head < 2080768 ∧ (logAddr s.rcd.head) % 0x40000 = 0) ∧
    (∃ (r : FlashRec) (rest : List FlashRec) (s : State), onIsland s = true ∧ fwRuns s = true ∧ s.rcd.flashq = r :: rest ∧ r.life = true ∧
      s.rcd.lifeHead < 1024 ∧ (lifeAddr s.rcd.lifeHead) % 0x40000 ≠ 0) ∧
    (∃ (r : FlashRec) (rest : List FlashRec) (s : State), onIsland s = true ∧ fwRuns s = true ∧ s.rcd.flashq = r :: rest ∧ r.life = false
      ∧ (logAddr s.rcd.head) % 0x40000 ≠ 0) ∧
    (∃ (slot : Fin 4) (val : Word) (s : State), ownerMay s slot .recRdIdx [] = true) ∧
    (∃ (i : Fin 2080768) (s : State), onIsland s = true ∧ s.rcd.reading = some i.val) ∧
    (∃ (i : Nat) (s : State), onIsland s = true ∧ s.rcd.reading = some i ∧ 2080768 ≤ i) ∧
    (∃ (slot : Fin 4) (addr : Word) (val : Word) (k : Nat) (s : State), served s = true ∧ isOwner s slot.val = true ∧ addr.toNat % 4 = 0 ∧
      regAt addr.toNat = none ∧ availAddr s addr.toNat = true ∧ ctrWord s addr.toNat = some (k, false)) ∧
    (∃ (slot : Fin 4) (addr : Word) (val : Word) (k : Nat) (s : State), served s = true ∧ isOwner s slot.val = true ∧ addr.toNat % 4 = 0 ∧
      regAt addr.toNat = none ∧ availAddr s addr.toNat = true ∧ ctrWord s addr.toNat = some (k, true)) ∧
    (∃ (slot : Fin 4) (addr : Word) (val : Word) (k : Nat) (hi : Bool) (s : State), served s = true ∧ addr.toNat % 4 = 0 ∧ regAt
      addr.toNat = none ∧ isOwner s slot.val = false ∧ ctrWord s addr.toNat = some (k, hi)) ∧
    (∃ (slot : Fin 4) (n : Fin 8) (s : State), ownerMay s slot .pmcSetCmd [n.val] = true) ∧
    (∃ (n : Fin 8) (k : Bank) (x : SnapSet) (s : State), blkOn s 0x12 = true ∧ snapSet s n.val = x ∧ x.copying = some k ∧ (x.any = false ∨
      x.bank = true)) ∧
    (∃ (n : Fin 8) (k : Bank) (x : SnapSet) (s : State), blkOn s 0x12 = true ∧ snapSet s n.val = x ∧ x.copying = some k ∧ x.any = true ∧
      x.bank = false) ∧
    (∃ (slot : Fin 4) (n : Fin 8) (e : Fin 1024) (val : Word) (s : State), ownerMay s slot .pmcEntry [n.val, e.val] = true ∧ setEn s n.val
      = false ∧ entryOk s val = true) ∧
    (∃ (slot : Fin 4) (n : Fin 8) (e : Fin 1024) (val : Word) (s : State), ownerMay s slot .pmcEntry [n.val, e.val] = true ∧ (setEn s
      n.val = true ∨ entryOk s val = false)) :=
  ⟨⟨0, up, by decide +kernel⟩,
   ⟨{ words := [0x11223344, 0xFF000001], life := false }, [], 0x11223344,
     { up with chain := { up.chain with holdUntil := 0 }, rcd := { flashq := [{ words := [0x11223344, 0xFF000001], life := false }], head := 2080767 } },
     by decide +kernel⟩,
   ⟨{ words := [0x11223344, 0xFF000001], life := false }, [],
     { up with chain := { up.chain with holdUntil := 0 }, rcd := { flashq := [{ words := [0x11223344, 0xFF000001], life := false }], head := 4096 } },
     by decide +kernel⟩,
   ⟨{ words := [0x11223344, 0xFF000001], life := true }, [],
     { up with chain := { up.chain with holdUntil := 0 }, rcd := { flashq := [{ words := [0x11223344, 0xFF000001], life := true }], lifeHead := 1023 } },
     by decide +kernel⟩,
   ⟨{ words := [0x11223344, 0xFF000001], life := false }, [],
     { up with chain := { up.chain with holdUntil := 0 }, rcd := { flashq := [{ words := [0x11223344, 0xFF000001], life := false }], head := 5 } },
     by decide +kernel⟩,
   ⟨0, 0xFFE00005, { up with chain := { up.chain with holdUntil := 0 }, rcd := { rdReady := true } }, by decide +kernel⟩,
   ⟨2080767, { up with chain := { up.chain with holdUntil := 0 }, rcd := { reading := some 2080767 } }, by decide +kernel⟩,
   ⟨2080768, { up with chain := { up.chain with holdUntil := 0 }, rcd := { reading := some 2080768 } }, by decide +kernel⟩,
   ⟨0, 0x11E00030, 0x9234ABCD, 0x11E00030, { up with ctr := (SMap.empty).put 0x11E00030 (some { cnt := 0xFFFF12345678, ovf := true }) },
     by decide +kernel⟩,
   ⟨0, 0x11E00034, 0x9234ABCD, 0x11E00030, { up with ctr := (SMap.empty).put 0x11E00030 (some { cnt := 0xFFFF12345678, ovf := true }) },
     by decide +kernel⟩,
   ⟨3, 0x11E00034, 0x9234ABCD, 0x11E00030, true,
     { up with ctr := (SMap.empty).put 0x11E00030 (some { cnt := 0xFFFF12345678, ovf := true }) }, by decide +kernel⟩,
   ⟨0, 7, up, by decide +kernel⟩,
   ⟨7, { seq := 3, seqEnd := 3, ns := 9, vals := (SMap.empty).put 5 (some { valid := true, ovf := true, val := 7 }) },
     { copying := some { seq := 3, seqEnd := 3, ns := 9, vals := (SMap.empty).put 5 (some { valid := true, ovf := true, val := 7 }) }, any := false },
     { up with pmc := { sets := (SMap.empty).put 7 (some { copying := some { seq := 3, seqEnd := 3, ns := 9, vals := (SMap.empty).put 5 (some { valid := true, ovf := true, val := 7 }) }, any := false }) } },
     by decide +kernel⟩,
   ⟨7, { seq := 3, seqEnd := 3, ns := 9, vals := (SMap.empty).put 5 (some { valid := true, ovf := true, val := 7 }) },
     { copying := some { seq := 3, seqEnd := 3, ns := 9, vals := (SMap.empty).put 5 (some { valid := true, ovf := true, val := 7 }) }, any := true },
     { up with pmc := { sets := (SMap.empty).put 7 (some { copying := some { seq := 3, seqEnd := 3, ns := 9, vals := (SMap.empty).put 5 (some { valid := true, ovf := true, val := 7 }) }, any := true }) } },
     by decide +kernel⟩,
   ⟨0, 7, 1023, 0x71E00033, up, by decide +kernel⟩,
   ⟨0, 7, 1023, 0x40000000, up, by decide +kernel⟩⟩

/-- States and operands that meet the hypotheses of UpdateSessions, clause by clause. -/
theorem witness_UpdateSessions :
    (∃ (port : Fin 4) (f : ChainFrame) (s : State), onChain s = true ∧ nodeId s ≠ 0 ∧ fType f = 0xB ∧ fOp f = 0 ∧ frameOk f = true ∧ fDst
      f = nodeId s ∧ fDst f ≠ 63 ∧ updLenOk f = true ∧ updAuth s f (tbit (fWord f 0) 8 && fld (fWord f 0) 5 4 == s.node.owner.slot) = true
      ∧ s.upd.st = .idle ∧ (fld (fWord f 0) 3 0 < 4 ∨ fld (fWord f 0) 3 0 = 8) ∧ targetLocked s (fld (fWord f 0) 3 0) = false ∧ 353 ≤
      (fWord f 1).toNat ∧ (fWord f 1).toNat ≤ tgtArea (fld (fWord f 0) 3 0)) ∧
    (∃ (port : Fin 4) (f : ChainFrame) (s : State), onChain s = true ∧ nodeId s ≠ 0 ∧ fType f = 0xB ∧ fOp f = 0 ∧ frameOk f = true ∧ fDst
      f = nodeId s ∧ fDst f ≠ 63 ∧ updLenOk f = true ∧ updAuth s f (tbit (fWord f 0) 8 && fld (fWord f 0) 5 4 == s.node.owner.slot) =
      false) ∧
    (∃ (port : Fin 4) (f : ChainFrame) (s : State), onChain s = true ∧ nodeId s ≠ 0 ∧ fType f = 0xB ∧ fOp f = 0 ∧ frameOk f = true ∧ fDst
      f = nodeId s ∧ fDst f ≠ 63 ∧ updLenOk f = true ∧ updAuth s f (tbit (fWord f 0) 8 && fld (fWord f 0) 5 4 == s.node.owner.slot) = true
      ∧ s.upd.st ≠ .idle ∧ offerWins s port.val = false) ∧
    (∃ (port : Fin 4) (f : ChainFrame) (s : State), onChain s = true ∧ nodeId s ≠ 0 ∧ fType f = 0xB ∧ fOp f = 0 ∧ frameOk f = true ∧ fDst
      f = nodeId s ∧ fDst f ≠ 63 ∧ updLenOk f = true ∧ updAuth s f (tbit (fWord f 0) 8 && fld (fWord f 0) 5 4 == s.node.owner.slot) = true
      ∧ s.upd.st = .idle ∧ (fld (fWord f 0) 3 0 < 4 ∨ fld (fWord f 0) 3 0 = 8) ∧ targetLocked s (fld (fWord f 0) 3 0) = true) ∧
    (∃ (port : Fin 4) (f : ChainFrame) (s : State), onChain s = true ∧ nodeId s ≠ 0 ∧ fType f = 0xB ∧ fOp f = 0 ∧ frameOk f = true ∧ fDst
      f = nodeId s ∧ fDst f ≠ 63 ∧ updLenOk f = true ∧ updAuth s f (tbit (fWord f 0) 8 && fld (fWord f 0) 5 4 == s.node.owner.slot) = true
      ∧ s.upd.st = .idle ∧ (fld (fWord f 0) 3 0 < 4 ∨ fld (fWord f 0) 3 0 = 8) ∧ targetLocked s (fld (fWord f 0) 3 0) = false ∧ (tgtArea
      (fld (fWord f 0) 3 0) < (fWord f 1).toNat ∨ (fWord f 1).toNat < 353)) ∧
    (∃ (port : Fin 4) (f : ChainFrame) (s : State), onChain s = true ∧ nodeId s ≠ 0 ∧ fType f = 0xB ∧ fOp f = 0 ∧ frameOk f = true ∧ fDst
      f = nodeId s ∧ fDst f ≠ 63 ∧ updLenOk f = false) ∧
    (∃ (port : Fin 4) (f : ChainFrame) (s : State), onChain s = true ∧ nodeId s ≠ 0 ∧ fType f = 0xB ∧ fOp f = 2 ∧ frameOk f = true ∧ fDst
      f = nodeId s ∧ fDst f ≠ 63 ∧ updLenOk f = true ∧ s.upd.st ≠ .idle ∧ fSession f = s.upd.id ∧ updAuth s f (s.upd.relayed && fSrc f ==
      s.upd.src) = true ∧ s.upd.st = .receiving ∧ (fWord f 1).toNat = s.upd.next ∧ s.upd.unacked < 15) ∧
    (∃ (port : Fin 4) (f : ChainFrame) (s : State), onChain s = true ∧ nodeId s ≠ 0 ∧ fType f = 0xB ∧ fOp f = 2 ∧ frameOk f = true ∧ fDst
      f = nodeId s ∧ fDst f ≠ 63 ∧ updLenOk f = true ∧ s.upd.st ≠ .idle ∧ fSession f = s.upd.id ∧ updAuth s f (s.upd.relayed && fSrc f ==
      s.upd.src) = true ∧ s.upd.st = .receiving ∧ (fWord f 1).toNat = s.upd.next ∧ s.upd.unacked = 15) ∧
    (∃ (port : Fin 4) (f : ChainFrame) (s : State), onChain s = true ∧ nodeId s ≠ 0 ∧ fType f = 0xB ∧ fOp f = 2 ∧ frameOk f = true ∧ fDst
      f = nodeId s ∧ fDst f ≠ 63 ∧ updLenOk f = true ∧ s.upd.st ≠ .idle ∧ fSession f = s.upd.id ∧ updAuth s f (s.upd.relayed && fSrc f ==
      s.upd.src) = true ∧ s.upd.st = .receiving ∧ s.upd.next < (fWord f 1).toNat) ∧
    (∃ (port : Fin 4) (f : ChainFrame) (s : State), onChain s = true ∧ nodeId s ≠ 0 ∧ fType f = 0xB ∧ fOp f = 2 ∧ frameOk f = true ∧ fDst
      f = nodeId s ∧ fDst f ≠ 63 ∧ updLenOk f = true ∧ s.upd.st ≠ .idle ∧ fSession f = s.upd.id ∧ updAuth s f (s.upd.relayed && fSrc f ==
      s.upd.src) = true ∧ s.upd.st = .receiving ∧ (fWord f 1).toNat < s.upd.next) ∧
    (∃ (port : Fin 4) (f : ChainFrame) (s : State), onChain s = true ∧ nodeId s ≠ 0 ∧ fType f = 0xB ∧ fOp f = 2 ∧ frameOk f = true ∧ fDst
      f = nodeId s ∧ fDst f ≠ 63 ∧ updLenOk f = true ∧ s.upd.st ≠ .idle ∧ fSession f ≠ s.upd.id) ∧
    (∃ (port : Fin 4) (f : ChainFrame) (s : State), onChain s = true ∧ nodeId s ≠ 0 ∧ fType f = 0xB ∧ fOp f = 4 ∧ frameOk f = true ∧ fDst
      f = nodeId s ∧ fDst f ≠ 63 ∧ updLenOk f = true ∧ s.upd.st ≠ .idle ∧ fSession f ≠ s.upd.id) ∧
    (∃ (port : Fin 4) (f : ChainFrame) (s : State), onChain s = true ∧ nodeId s ≠ 0 ∧ fType f = 0xB ∧ fOp f = 6 ∧ frameOk f = true ∧ fDst
      f = nodeId s ∧ fDst f ≠ 63 ∧ updLenOk f = true ∧ s.upd.st ≠ .idle ∧ fSession f ≠ s.upd.id) ∧
    (∃ (port : Fin 4) (f : ChainFrame) (s : State), onChain s = true ∧ nodeId s ≠ 0 ∧ fType f = 0xB ∧ fOp f = 4 ∧ frameOk f = true ∧ fDst
      f = nodeId s ∧ fDst f ≠ 63 ∧ updLenOk f = true ∧ s.upd.st ≠ .idle ∧ fSession f = s.upd.id ∧ updAuth s f (s.upd.relayed && fSrc f ==
      s.upd.src) = true ∧ s.upd.st = .receiving ∧ s.upd.total ≤ s.upd.next) ∧
    (∃ (port : Fin 4) (f : ChainFrame) (s : State), onChain s = true ∧ nodeId s ≠ 0 ∧ fType f = 0xB ∧ fOp f = 4 ∧ frameOk f = true ∧ fDst
      f = nodeId s ∧ fDst f ≠ 63 ∧ updLenOk f = true ∧ s.upd.st ≠ .idle ∧ fSession f = s.upd.id ∧ updAuth s f (s.upd.relayed && fSrc f ==
      s.upd.src) = true ∧ s.upd.next < s.upd.total) ∧
    (∃ (port : Fin 4) (f : ChainFrame) (s : State), onChain s = true ∧ nodeId s ≠ 0 ∧ fType f = 0xB ∧ fOp f = 6 ∧ frameOk f = true ∧ fDst
      f = nodeId s ∧ fDst f ≠ 63 ∧ updLenOk f = true ∧ s.upd.st ≠ .idle ∧ fSession f = s.upd.id ∧ updAuth s f (s.upd.relayed && fSrc f ==
      s.upd.src) = true ∧ s.upd.st = .receiving) ∧
    (∃ (port : Fin 4) (f : ChainFrame) (s : State), onChain s = true ∧ nodeId s ≠ 0 ∧ fType f = 0xB ∧ fOp f = 6 ∧ frameOk f = true ∧ fDst
      f = nodeId s ∧ fDst f ≠ 63 ∧ updLenOk f = true ∧ s.upd.st ≠ .idle ∧ fSession f = s.upd.id ∧ updAuth s f (s.upd.relayed && fSrc f ==
      s.upd.src) = true ∧ s.upd.st = .verified) ∧
    (∃ (port : Fin 4) (f : ChainFrame) (s : State), onChain s = true ∧ nodeId s ≠ 0 ∧ fType f = 0xB ∧ fOp f = 6 ∧ frameOk f = true ∧ fDst
      f = nodeId s ∧ fDst f ≠ 63 ∧ updLenOk f = true ∧ s.upd.st ≠ .idle ∧ fSession f = s.upd.id ∧ updAuth s f (s.upd.relayed && fSrc f ==
      s.upd.src) = true ∧ s.upd.st ∈ [.verifying, .armed, .activating, .trial, .fallback]) ∧
    (∃ (slot : Fin 4) (s : State), ownerMay s slot .updCmd [] = true ∧ s.upd.st = .receiving) ∧
    (∃ (slot : Fin 4) (s : State), ownerMay s slot .updCmd [] = true ∧ s.upd.st ∈ [.activating, .trial, .fallback]) ∧
    (∃ (s : State), onIsland s = true ∧ s.upd.st = .verifying) ∧
    (∃ (s : State), s.upd.st = .receiving ∧ s.upd.idleAt ≤ s.now) ∧
    (∃ (a : Nat) (s : State), s.upd.st = .receiving ∧ s.upd.ackAt = some a ∧ a ≤ s.now) ∧
    (∃ (slot : Fin 4) (dst : Fin 64) (s : State), ownerMay s slot .updRelay [] = true ∧ (s.upd.st = .verified ∨ s.upd.st = .armed ∨
      s.upd.st = .activating ∨ s.upd.st = .trial) ∧ relayRuns s = false) ∧
    (∃ (slot : Fin 4) (dst : Fin 64) (s : State), ownerMay s slot .updRelay [] = true ∧ relayRuns s = true) ∧
    (∃ (port : Fin 4) (f : ChainFrame) (s : State), onChain s = true ∧ nodeId s ≠ 0 ∧ fType f = 0xB ∧ fOp f = 1 ∧ frameOk f = true ∧ fDst
      f = nodeId s ∧ fDst f ≠ 63 ∧ updLenOk f = true ∧ relayFrom s f = true ∧ fld (fWord f 0) 15 8 = 1) ∧
    (∃ (port : Fin 4) (f : ChainFrame) (s : State), onChain s = true ∧ nodeId s ≠ 0 ∧ fType f = 0xB ∧ fOp f = 1 ∧ frameOk f = true ∧ fDst
      f = nodeId s ∧ fDst f ≠ 63 ∧ updLenOk f = true ∧ relayFrom s f = true ∧ fld (fWord f 0) 15 8 = 2) ∧
    (∃ (port : Fin 4) (f : ChainFrame) (s : State), onChain s = true ∧ nodeId s ≠ 0 ∧ fType f = 0xB ∧ fOp f = 1 ∧ frameOk f = true ∧ fDst
      f = nodeId s ∧ fDst f ≠ 63 ∧ updLenOk f = true ∧ relayFrom s f = true ∧ fld (fWord f 0) 15 8 = 0 ∧ s.upd.relay.st = .offering) ∧
    (∃ (port : Fin 4) (f : ChainFrame) (s : State), onChain s = true ∧ nodeId s ≠ 0 ∧ fType f = 0xB ∧ fOp f = 3 ∧ frameOk f = true ∧ fDst
      f = nodeId s ∧ fDst f ≠ 63 ∧ updLenOk f = true ∧ relayFrom s f = true ∧ s.upd.relay.st = .sending ∧ (fWord f 1).toNat ≠
      s.upd.relay.acked) ∧
    (∃ (port : Fin 4) (f : ChainFrame) (s : State), onChain s = true ∧ nodeId s ≠ 0 ∧ fType f = 0xB ∧ fOp f = 5 ∧ frameOk f = true ∧ fDst
      f = nodeId s ∧ fDst f ≠ 63 ∧ updLenOk f = true ∧ relayFrom s f = true ∧ fld (fWord f 0) 15 8 = 0) ∧
    (∃ (port : Fin 4) (f : ChainFrame) (s : State), onChain s = true ∧ nodeId s ≠ 0 ∧ fType f = 0xB ∧ fOp f = 5 ∧ frameOk f = true ∧ fDst
      f = nodeId s ∧ fDst f ≠ 63 ∧ updLenOk f = true ∧ relayFrom s f = true ∧ fld (fWord f 0) 15 8 ≠ 0) ∧
    (∃ (s : State), relayRuns s = true ∧ s.upd.relay.deadline ≤ s.now) :=
  ⟨⟨0, mkFrame 0xB 0 1 64 0 1 0 0 0 [0x00070008, 400, 1, 2, 3, 4, 5, 6, 7, 8, 9, 10, 11, 12],
     { up with chain := { up.chain with holdUntil := 0 }, upd := { running := 1 } }, by decide +kernel, by decide +kernel, by
     decide +kernel, by decide +kernel, frameOk_seal (by decide +kernel) (by decide +kernel), by decide +kernel, by decide +kernel, by
     decide +kernel, by decide +kernel, by decide +kernel, by decide +kernel, by decide +kernel, by decide +kernel, by decide +kernel⟩,
   ⟨0, mkFrame 0xB 0 1 65 0 1 0 0 0 [0x00070008, 400, 1, 2, 3, 4, 5, 6, 7, 8, 9, 10, 11, 12],
     { up with chain := { up.chain with holdUntil := 0 }, upd := {  } }, by decide +kernel, by decide +kernel, by decide +kernel, by
     decide +kernel, frameOk_seal (by decide +kernel) (by decide +kernel), by decide +kernel, by decide +kernel, by decide +kernel, by
     decide +kernel⟩,
   ⟨0, mkFrame 0xB 0 1 64 0 1 0 0 0 [0x00070008, 400, 1, 2, 3, 4, 5, 6, 7, 8, 9, 10, 11, 12],
     { up with chain := { up.chain with holdUntil := 0 }, upd := { st := .trial } }, by decide +kernel, by decide +kernel, by
     decide +kernel, by decide +kernel, frameOk_seal (by decide +kernel) (by decide +kernel), by decide +kernel, by decide +kernel, by
     decide +kernel, by decide +kernel, by decide +kernel, by decide +kernel⟩,
   ⟨0, mkFrame 0xB 0 1 64 0 1 0 0 0 [0x00070000, 400, 1, 2, 3, 4, 5, 6, 7, 8, 9, 10, 11, 12],
     { up with chain := { up.chain with holdUntil := 0 }, upd := {  }, img := { apply := { mixed := some (0, 1) } } }, by decide +kernel,
     by decide +kernel, by decide +kernel, by decide +kernel, frameOk_seal (by decide +kernel) (by decide +kernel), by decide +kernel, by
     decide +kernel, by decide +kernel, by decide +kernel, by decide +kernel, by decide +kernel, by decide +kernel⟩,
   ⟨0, mkFrame 0xB 0 1 64 0 1 0 0 0 [0x00070008, 33292289, 1, 2, 3, 4, 5, 6, 7, 8, 9, 10, 11, 12],
     { up with chain := { up.chain with holdUntil := 0 }, upd := {  } }, by decide +kernel, by decide +kernel, by decide +kernel, by
     decide +kernel, frameOk_seal (by decide +kernel) (by decide +kernel), by decide +kernel, by decide +kernel, by decide +kernel, by
     decide +kernel, by decide +kernel, by decide +kernel, by decide +kernel, by decide +kernel⟩,
   ⟨0, mkFrame 0xB 0 1 64 0 1 0 0 0 [0x00070008], { up with chain := { up.chain with holdUntil := 0 }, upd := {  } }, by decide +kernel,
     by decide +kernel, by decide +kernel, by decide +kernel, frameOk_seal (by decide +kernel) (by decide +kernel), by decide +kernel, by
     decide +kernel, by decide +kernel⟩,
   ⟨0, mkFrame 0xB 0 1 64 0 1 0 2 0 [0x00070000, 4072, 0xFFFFFFFF, 0x01020304, 5],
     { up with chain := { up.chain with holdUntil := 0 }, upd := { st := .receiving, id := 7, target := 8, fwSlot := 1, total := 4080, src := 64, next := 4072, unacked := 14 } },
     by decide +kernel, by decide +kernel, by decide +kernel, by decide +kernel, frameOk_seal (by decide +kernel) (by decide +kernel), by
     decide +kernel, by decide +kernel, by decide +kernel, by decide +kernel, by decide +kernel, by decide +kernel, by decide +kernel, by
     decide +kernel, by decide +kernel⟩,
   ⟨0, mkFrame 0xB 0 1 64 0 1 0 2 0 [0x00070000, 8, 0xFFFFFFFF],
     { up with chain := { up.chain with holdUntil := 0 }, upd := { st := .receiving, id := 7, target := 8, fwSlot := 1, total := 4080, src := 64, next := 8, unacked := 15 } },
     by decide +kernel, by decide +kernel, by decide +kernel, by decide +kernel, frameOk_seal (by decide +kernel) (by decide +kernel), by
     decide +kernel, by decide +kernel, by decide +kernel, by decide +kernel, by decide +kernel, by decide +kernel, by decide +kernel, by
     decide +kernel, by decide +kernel⟩,
   ⟨0, mkFrame 0xB 0 1 64 0 1 0 2 0 [0x00070000, 12, 0xFFFFFFFF],
     { up with chain := { up.chain with holdUntil := 0 }, upd := { st := .receiving, id := 7, target := 8, fwSlot := 1, total := 4080, src := 64, next := 8 } },
     by decide +kernel, by decide +kernel, by decide +kernel, by decide +kernel, frameOk_seal (by decide +kernel) (by decide +kernel), by
     decide +kernel, by decide +kernel, by decide +kernel, by decide +kernel, by decide +kernel, by decide +kernel, by decide +kernel, by
     decide +kernel⟩,
   ⟨0, mkFrame 0xB 0 1 64 0 1 0 2 0 [0x00070000, 4, 0xFFFFFFFF],
     { up with chain := { up.chain with holdUntil := 0 }, upd := { st := .receiving, id := 7, target := 8, fwSlot := 1, total := 4080, src := 64, next := 8, unacked := 3, ackAt := some 9 } },
     by decide +kernel, by decide +kernel, by decide +kernel, by decide +kernel, frameOk_seal (by decide +kernel) (by decide +kernel), by
     decide +kernel, by decide +kernel, by decide +kernel, by decide +kernel, by decide +kernel, by decide +kernel, by decide +kernel, by
     decide +kernel⟩,
   ⟨0, mkFrame 0xB 0 1 64 0 1 0 2 0 [0x00080000, 8, 1],
     { up with chain := { up.chain with holdUntil := 0 }, upd := { st := .receiving, id := 7, target := 8, fwSlot := 1, total := 4080, src := 64, next := 8 } },
     by decide +kernel, by decide +kernel, by decide +kernel, by decide +kernel, frameOk_seal (by decide +kernel) (by decide +kernel), by
     decide +kernel, by decide +kernel, by decide +kernel, by decide +kernel, by decide +kernel⟩,
   ⟨0, mkFrame 0xB 0 1 64 0 1 0 4 0 [0x00080000],
     { up with chain := { up.chain with holdUntil := 0 }, upd := { st := .receiving, id := 7, target := 8, fwSlot := 1, total := 4080, src := 64, next := 8 } },
     by decide +kernel, by decide +kernel, by decide +kernel, by decide +kernel, frameOk_seal (by decide +kernel) (by decide +kernel), by
     decide +kernel, by decide +kernel, by decide +kernel, by decide +kernel, by decide +kernel⟩,
   ⟨0, mkFrame 0xB 0 1 64 0 1 0 6 0 [0x00080000],
     { up with chain := { up.chain with holdUntil := 0 }, upd := { st := .receiving, id := 7, target := 8, fwSlot := 1, total := 4080, src := 64, next := 8 } },
     by decide +kernel, by decide +kernel, by decide +kernel, by decide +kernel, frameOk_seal (by decide +kernel) (by decide +kernel), by
     decide +kernel, by decide +kernel, by decide +kernel, by decide +kernel, by decide +kernel⟩,
   ⟨0, mkFrame 0xB 0 1 64 0 1 0 4 0 [0x00070000],
     { up with chain := { up.chain with holdUntil := 0 }, upd := { st := .receiving, id := 7, target := 8, fwSlot := 1, total := 4080, src := 64, next := 4080, ackAt := some 5 } },
     by decide +kernel, by decide +kernel, by decide +kernel, by decide +kernel, frameOk_seal (by decide +kernel) (by decide +kernel), by
     decide +kernel, by decide +kernel, by decide +kernel, by decide +kernel, by decide +kernel, by decide +kernel, by decide +kernel, by
     decide +kernel⟩,
   ⟨0, mkFrame 0xB 0 1 64 0 1 0 4 0 [0x00070000],
     { up with chain := { up.chain with holdUntil := 0 }, upd := { st := .receiving, id := 7, target := 8, fwSlot := 1, total := 4080, src := 64, next := 4079 } },
     by decide +kernel, by decide +kernel, by decide +kernel, by decide +kernel, frameOk_seal (by decide +kernel) (by decide +kernel), by
     decide +kernel, by decide +kernel, by decide +kernel, by decide +kernel, by decide +kernel, by decide +kernel, by decide +kernel⟩,
   ⟨0, mkFrame 0xB 0 1 64 0 1 0 6 0 [0x00070000],
     { up with chain := { up.chain with holdUntil := 0 }, upd := { st := .receiving, id := 7, target := 8, fwSlot := 1, total := 4080, src := 64, next := 4079 } },
     by decide +kernel, by decide +kernel, by decide +kernel, by decide +kernel, frameOk_seal (by decide +kernel) (by decide +kernel), by
     decide +kernel, by decide +kernel, by decide +kernel, by decide +kernel, by decide +kernel, by decide +kernel, by decide +kernel⟩,
   ⟨0, mkFrame 0xB 0 1 64 0 1 0 6 0 [0x00070000],
     { up with chain := { up.chain with holdUntil := 0 }, upd := { st := .verified, id := 7 } }, by decide +kernel, by decide +kernel, by
     decide +kernel, by decide +kernel, frameOk_seal (by decide +kernel) (by decide +kernel), by decide +kernel, by decide +kernel, by
     decide +kernel, by decide +kernel, by decide +kernel, by decide +kernel, by decide +kernel⟩,
   ⟨0, mkFrame 0xB 0 1 64 0 1 0 6 0 [0x00070000], { up with chain := { up.chain with holdUntil := 0 }, upd := { st := .trial, id := 7 } },
     by decide +kernel, by decide +kernel, by decide +kernel, by decide +kernel, frameOk_seal (by decide +kernel) (by decide +kernel), by
     decide +kernel, by decide +kernel, by decide +kernel, by decide +kernel, by decide +kernel, by decide +kernel, by decide +kernel⟩,
   ⟨0,
     { up with chain := { up.chain with holdUntil := 0 }, upd := { st := .receiving, id := 7, target := 8, fwSlot := 1, total := 4080, src := 64, next := 8 } },
     by decide +kernel⟩,
   ⟨0, { up with chain := { up.chain with holdUntil := 0 }, upd := { st := .fallback } }, by decide +kernel⟩,
   ⟨{ up with chain := { up.chain with holdUntil := 0 }, upd := { st := .verifying, target := 3, total := 0, digest := 1 } }, by
     decide +kernel⟩,
   ⟨{ up with chain := { up.chain with holdUntil := 0 }, upd := { st := .receiving, id := 7, target := 8, fwSlot := 1, total := 4080, src := 64, next := 8, idleAt := 10 }, now := 10 },
     by decide +kernel⟩,
   ⟨10,
     { up with chain := { up.chain with holdUntil := 0 }, upd := { st := .receiving, id := 7, target := 8, fwSlot := 1, total := 4080, src := 64, next := 8, ackAt := some 10, unacked := 4 }, now := 10 },
     by decide +kernel⟩,
   ⟨0, 62, { up with chain := { up.chain with holdUntil := 0 }, upd := { st := .trial, id := 7, target := 8 } }, by decide +kernel⟩,
   ⟨0, 62,
     { up with chain := { up.chain with holdUntil := 0 }, upd := { st := .trial, id := 7, target := 8, relay := { st := .sending, dst := 5, target := 8, deadline := 10 } } },
     by decide +kernel⟩,
   ⟨0, mkFrame 0xB 0 1 5 0 1 0 1 0 [0x00070121],
     { up with chain := { up.chain with holdUntil := 0 }, upd := { st := .verified, id := 7, target := 8, total := 4, relay := { st := .offering, dst := 5, target := 8, deadline := 10 } } },
     by decide +kernel, by decide +kernel, by decide +kernel, by decide +kernel, frameOk_seal (by decide +kernel) (by decide +kernel), by
     decide +kernel, by decide +kernel, by decide +kernel, by decide +kernel, by decide +kernel⟩,
   ⟨0, mkFrame 0xB 0 1 5 0 1 0 1 0 [0x00070221],
     { up with chain := { up.chain with holdUntil := 0 }, upd := { st := .verified, id := 7, target := 8, total := 4, relay := { st := .offering, dst := 5, target := 8, deadline := 10 } } },
     by decide +kernel, by decide +kernel, by decide +kernel, by decide +kernel, frameOk_seal (by decide +kernel) (by decide +kernel), by
     decide +kernel, by decide +kernel, by decide +kernel, by decide +kernel, by decide +kernel⟩,
   ⟨0, mkFrame 0xB 0 1 5 0 1 0 1 0 [0x00070000],
     { up with chain := { up.chain with holdUntil := 0 }, upd := { st := .verified, id := 7, target := 8, total := 4, relay := { st := .offering, dst := 5, target := 8, deadline := 10 } } },
     by decide +kernel, by decide +kernel, by decide +kernel, by decide +kernel, frameOk_seal (by decide +kernel) (by decide +kernel), by
     decide +kernel, by decide +kernel, by decide +kernel, by decide +kernel, by decide +kernel, by decide +kernel⟩,
   ⟨0, mkFrame 0xB 0 1 5 0 1 0 3 0 [0x00070000, 4],
     { up with chain := { up.chain with holdUntil := 0 }, upd := { st := .verified, id := 7, target := 8, total := 4, relay := { st := .sending, dst := 5, target := 8, deadline := 10, next := 4 } } },
     by decide +kernel, by decide +kernel, by decide +kernel, by decide +kernel, frameOk_seal (by decide +kernel) (by decide +kernel), by
     decide +kernel, by decide +kernel, by decide +kernel, by decide +kernel, by decide +kernel, by decide +kernel⟩,
   ⟨0, mkFrame 0xB 0 1 5 0 1 0 5 0 [0x00070000],
     { up with chain := { up.chain with holdUntil := 0 }, upd := { st := .verified, id := 7, target := 8, total := 4, relay := { st := .sending, dst := 5, target := 8, deadline := 10 } } },
     by decide +kernel, by decide +kernel, by decide +kernel, by decide +kernel, frameOk_seal (by decide +kernel) (by decide +kernel), by
     decide +kernel, by decide +kernel, by decide +kernel, by decide +kernel, by decide +kernel⟩,
   ⟨0, mkFrame 0xB 0 1 5 0 1 0 5 0 [0x00070220],
     { up with chain := { up.chain with holdUntil := 0 }, upd := { st := .verified, id := 7, target := 8, total := 4, relay := { st := .sending, dst := 5, target := 8, deadline := 10 } } },
     by decide +kernel, by decide +kernel, by decide +kernel, by decide +kernel, frameOk_seal (by decide +kernel) (by decide +kernel), by
     decide +kernel, by decide +kernel, by decide +kernel, by decide +kernel, by decide +kernel⟩,
   ⟨{ up with chain := { up.chain with holdUntil := 0 }, upd := { st := .verified, id := 7, target := 8, total := 4, relay := { st := .sending, dst := 5, target := 8, deadline := 10 } }, now := 10 },
     by decide +kernel⟩⟩

/-- States and operands that meet the hypotheses of ActivationAndFirmware, clause by clause. -/
theorem witness_ActivationAndFirmware :
    (∃ (slot : Fin 4) (cold : Bool) (s : State), ownerMay s slot .updCmd [] = true ∧ s.upd.recovery = false ∧ s.upd.st = .verified ∧
      s.upd.target = 8 ∧ actOk s cold = true) ∧
    (∃ (slot : Fin 4) (cold : Bool) (s : State), ownerMay s slot .updCmd [] = true ∧ s.upd.recovery = false ∧ (s.upd.st ≠ .verified ∨
      actOk s cold = false)) ∧
    (∃ (port : Fin 4) (f : ChainFrame) (s : State), onChain s = true ∧ nodeId s ≠ 0 ∧ fType f = 0xB ∧ fOp f = 7 ∧ frameOk f = true ∧ fDst
      f = nodeId s ∧ fDst f ≠ 63 ∧ updLenOk f = true ∧ s.upd.st ≠ .idle ∧ fSession f = s.upd.id ∧ updAuth s f (s.upd.relayed && fSrc f ==
      s.upd.src) = true ∧ fromOwner s f = true ∧ s.upd.recovery = false ∧ s.upd.st = .verified ∧ s.upd.target = 8 ∧ actOk s (tbit (fWord f
      0) 0) = true ∧ tbNs s + armMinNs s ≤ actAt s ∧ actAt s % furPeriod s = 0) ∧
    (∃ (port : Fin 4) (f : ChainFrame) (s : State), onChain s = true ∧ nodeId s ≠ 0 ∧ fType f = 0xB ∧ fOp f = 7 ∧ frameOk f = true ∧ fDst
      f = nodeId s ∧ fDst f ≠ 63 ∧ updLenOk f = true ∧ s.upd.st ≠ .idle ∧ fSession f = s.upd.id ∧ updAuth s f (s.upd.relayed && fSrc f ==
      s.upd.src) = true ∧ fromOwner s f = true ∧ s.upd.recovery = false ∧ s.upd.st = .verified ∧ actOk s (tbit (fWord f 0) 0) = true ∧
      (actAt s < tbNs s + armMinNs s ∨ actAt s % furPeriod s ≠ 0)) ∧
    (∃ (port : Fin 4) (f : ChainFrame) (s : State), onChain s = true ∧ nodeId s ≠ 0 ∧ fType f = 0xB ∧ fOp f = 7 ∧ frameOk f = true ∧ fDst
      f = nodeId s ∧ fDst f ≠ 63 ∧ updLenOk f = true ∧ s.upd.st ≠ .idle ∧ fSession f = s.upd.id ∧ updAuth s f (s.upd.relayed && fSrc f ==
      s.upd.src) = true ∧ fromOwner s f = true ∧ s.upd.st ≠ .verified) ∧
    (∃ (port : Fin 4) (f : ChainFrame) (s : State), onChain s = true ∧ nodeId s ≠ 0 ∧ fType f = 0xB ∧ fOp f = 8 ∧ frameOk f = true ∧ fDst
      f = nodeId s ∧ fDst f ≠ 63 ∧ updLenOk f = true ∧ s.upd.st ≠ .idle ∧ fSession f = s.upd.id ∧ updAuth s f (s.upd.relayed && fSrc f ==
      s.upd.src) = true ∧ fromOwner s f = true ∧ s.upd.st = .armed ∧ s.upd.applying = false ∧ tbNs s < s.upd.armAt) ∧
    (∃ (port : Fin 4) (f : ChainFrame) (s : State), onChain s = true ∧ nodeId s ≠ 0 ∧ fType f = 0xB ∧ fOp f = 8 ∧ frameOk f = true ∧ fDst
      f = nodeId s ∧ fDst f ≠ 63 ∧ updLenOk f = true ∧ s.upd.st ≠ .idle ∧ fSession f = s.upd.id ∧ updAuth s f (s.upd.relayed && fSrc f ==
      s.upd.src) = true ∧ fromOwner s f = true ∧ s.upd.st = .armed ∧ s.upd.applying = false ∧ s.upd.armAt ≤ tbNs s) ∧
    (∃ (s : State), onIsland s = true ∧ s.upd.st = .armed ∧ s.upd.applying = false ∧ s.upd.target = 8 ∧ s.upd.armAt ≤ tbNs s ∧ actOk s
      s.upd.cold = true) ∧
    (∃ (s : State), onIsland s = true ∧ s.upd.st = .armed ∧ s.upd.applying = false ∧ s.upd.armAt ≤ tbNs s ∧ actOk s s.upd.cold = false) ∧
    (∃ (s : State), (s.upd.st ≠ .armed ∨ tbNs s < s.upd.armAt)) ∧
    (∃ (slot : Fin 4) (s : State), ownerMay s slot .updCmd [] = true ∧ s.upd.st = .trial ∧ s.upd.target < 4) ∧
    (∃ (slot : Fin 4) (s : State), ownerMay s slot .updCmd [] = true ∧ s.upd.st = .trial ∧ s.upd.target = 8) ∧
    (∃ (slot : Fin 4) (s : State), ownerMay s slot .updCmd [] = true ∧ s.upd.st ≠ .trial) ∧
    (∃ (s : State), onIsland s = true ∧ s.upd.st = .trial ∧ s.upd.confirmAt ≤ s.now ∧ s.upd.target = 8) ∧
    (∃ (s : State), onIsland s = true ∧ s.upd.st = .trial ∧ s.upd.confirmAt ≤ s.now ∧ s.upd.target < 4 ∧ applyBase s s.upd.fromTun =
      false) ∧
    (∃ (s : State), (s.upd.st ≠ .trial ∨ s.now < s.upd.confirmAt)) ∧
    (∃ (d : Nat) (s : State), onIsland s = true ∧ s.upd.readyBy = some d ∧ s.upd.target = 8 ∧ s.upd.st = .activating) ∧
    (∃ (d : Nat) (s : State), onIsland s = true ∧ s.upd.readyBy = some d ∧ s.upd.target = 8 ∧ s.upd.st = .fallback) ∧
    (∃ (d : Nat) (s : State), onIsland s = true ∧ s.upd.readyBy = some d ∧ s.upd.st ≠ .activating ∧ s.upd.st ≠ .fallback) ∧
    (∃ (d : Nat) (s : State), onIsland s = true ∧ s.upd.readyBy = some d ∧ d ≤ s.now) ∧
    (∃ (n : Fin 2) (s : State), onChain s = true ∧ s.upd.recovery = false ∧ s.pwr.boot.fw = none ∧ n.val = (if tryValid s &&
      !s.upd.fromActive then tryFw s else activeFw s)) ∧
    (∃ (slot : Fin 4) (s : State), ownerMay s slot .updCmd [] = true ∧ s.upd.recovery = true) ∧
    (∃ (slot : Fin 4) (s : State), ownerMay s slot .updCmd [] = true ∧ s.upd.recovery = false) :=
  ⟨⟨0, true, { up with chain := { up.chain with holdUntil := 0 }, upd := { st := .verified, id := 7, target := 8, fwSlot := 1 } }, by
     decide +kernel⟩,
   ⟨0, true,
     { up with chain := { up.chain with holdUntil := 0 }, upd := { st := .verified, id := 7, target := 8, fwSlot := 1 }, fur := { direct := false, pend := true } },
     by decide +kernel⟩,
   ⟨0, mkFrame 0xB 0 1 64 0 1 0 7 0 [0x00070001],
     { up with chain := { up.chain with holdUntil := 0 }, upd := { st := .verified, id := 7, target := 8, fwSlot := 1 }, regs := up.regs.set 0 (Reg.addr .tgtActAtLo []) 0x20000000 },
     by decide +kernel, by decide +kernel, by decide +kernel, by decide +kernel, frameOk_seal (by decide +kernel) (by decide +kernel), by
     decide +kernel, by decide +kernel, by decide +kernel, by decide +kernel, by decide +kernel, by decide +kernel, by decide +kernel, by
     decide +kernel, by decide +kernel, by decide +kernel, by decide +kernel, by decide +kernel, by decide +kernel⟩,
   ⟨0, mkFrame 0xB 0 1 64 0 1 0 7 0 [0x00070001],
     { up with chain := { up.chain with holdUntil := 0 }, upd := { st := .verified, id := 7, target := 8, fwSlot := 1 }, regs := up.regs.set 0 (Reg.addr .tgtActAtLo []) 0x1DC00000 },
     by decide +kernel, by decide +kernel, by decide +kernel, by decide +kernel, frameOk_seal (by decide +kernel) (by decide +kernel), by
     decide +kernel, by decide +kernel, by decide +kernel, by decide +kernel, by decide +kernel, by decide +kernel, by decide +kernel, by
     decide +kernel, by decide +kernel, by decide +kernel, by decide +kernel⟩,
   ⟨0, mkFrame 0xB 0 1 64 0 1 0 7 0 [0x00070001], { up with chain := { up.chain with holdUntil := 0 }, upd := { st := .trial, id := 7 } },
     by decide +kernel, by decide +kernel, by decide +kernel, by decide +kernel, frameOk_seal (by decide +kernel) (by decide +kernel), by
     decide +kernel, by decide +kernel, by decide +kernel, by decide +kernel, by decide +kernel, by decide +kernel, by decide +kernel, by
     decide +kernel⟩,
   ⟨0, mkFrame 0xB 0 1 64 0 1 0 8 0 [0x00070000],
     { up with chain := { up.chain with holdUntil := 0 }, upd := { st := .armed, id := 7, target := 8, fwSlot := 1, armAt := 10 } }, by
     decide +kernel, by decide +kernel, by decide +kernel, by decide +kernel, frameOk_seal (by decide +kernel) (by decide +kernel), by
     decide +kernel, by decide +kernel, by decide +kernel, by decide +kernel, by decide +kernel, by decide +kernel, by decide +kernel, by
     decide +kernel, by decide +kernel, by decide +kernel⟩,
   ⟨0, mkFrame 0xB 0 1 64 0 1 0 8 0 [0x00070000],
     { up with chain := { up.chain with holdUntil := 0 }, upd := { st := .armed, id := 7, target := 8, fwSlot := 1, armAt := 0 } }, by
     decide +kernel, by decide +kernel, by decide +kernel, by decide +kernel, frameOk_seal (by decide +kernel) (by decide +kernel), by
     decide +kernel, by decide +kernel, by decide +kernel, by decide +kernel, by decide +kernel, by decide +kernel, by decide +kernel, by
     decide +kernel, by decide +kernel, by decide +kernel⟩,
   ⟨{ up with chain := { up.chain with holdUntil := 0 }, upd := { st := .armed, id := 7, target := 8, fwSlot := 1, armAt := 0 } }, by
     decide +kernel⟩,
   ⟨{ up with chain := { up.chain with holdUntil := 0 }, upd := { st := .armed, id := 7, target := 8, fwSlot := 1, armAt := 0 }, fur := { direct := false, pend := true } },
     by decide +kernel⟩,
   ⟨{ up with chain := { up.chain with holdUntil := 0 }, upd := { st := .armed, id := 7, target := 8, fwSlot := 1, armAt := 10 } }, by
     decide +kernel⟩,
   ⟨0, { up with chain := { up.chain with holdUntil := 0 }, upd := { st := .trial, target := 3 }, flash := (SMap.empty).put 5 (some 1) },
     by decide +kernel⟩,
   ⟨0, { up with chain := { up.chain with holdUntil := 0 }, upd := { st := .trial, target := 8, trying := true } }, by decide +kernel⟩,
   ⟨0, { up with chain := { up.chain with holdUntil := 0 }, upd := { st := .verified } }, by decide +kernel⟩,
   ⟨{ up with chain := { up.chain with holdUntil := 0 }, upd := { st := .trial, target := 8, confirmAt := 9 }, now := 9 }, by
     decide +kernel⟩,
   ⟨{ up with chain := { up.chain with holdUntil := 0 }, upd := { st := .trial, target := 3, fromTun := 2, confirmAt := 9 }, now := 9 },
     by decide +kernel⟩,
   ⟨{ up with chain := { up.chain with holdUntil := 0 }, upd := { st := .trial, confirmAt := 9 } }, by decide +kernel⟩,
   ⟨5,
     { up with chain := { up.chain with holdUntil := 0 }, upd := { st := .activating, target := 8, paused := true, readyBy := some 5 } },
     by decide +kernel⟩,
   ⟨5,
     { up with chain := { up.chain with holdUntil := 0 }, upd := { st := .fallback, falling := true, target := 8, paused := true, readyBy := some 5 } },
     by decide +kernel⟩,
   ⟨5, { up with chain := { up.chain with holdUntil := 0 }, upd := { st := .trial, target := 8, paused := true, readyBy := some 5 } }, by
     decide +kernel⟩,
   ⟨5,
     { up with chain := { up.chain with holdUntil := 0 }, upd := { st := .activating, target := 8, paused := true, readyBy := some 5 }, now := 5 },
     by decide +kernel⟩,
   ⟨0, { up with pwr := { boot := { sysref := true } } }, by decide +kernel⟩,
   ⟨0, { up with chain := { up.chain with holdUntil := 0 }, upd := { recovery := true } }, by decide +kernel⟩,
   ⟨0, { up with chain := { up.chain with holdUntil := 0 }, upd := { st := .verified } }, by decide +kernel⟩⟩

/-- States and operands that meet the hypotheses of FeedsAndTemperature, clause by clause. -/
theorem witness_FeedsAndTemperature :
    (∃ (f : Fin 2) (a : Nat) (s : State), (feedOf s f.val).st = .qualifying ∧ (feedOf s f.val).since = some a ∧ a + 10000000 ≤ s.now ∧
      s.pwr.everPresent = true ∧ s.pwr.brown = false) ∧
    (∃ (f : Fin 2) (a : Nat) (s : State), (feedOf s f.val).st = .qualifying ∧ (feedOf s f.val).since = some a ∧ a + 10000000 ≤ s.now ∧
      s.pwr.everPresent = true ∧ s.pwr.brown = true ∧ s.pwr.feedBack = none) ∧
    (∃ (f : Fin 2) (a : Nat) (s : State), (feedOf s f.val).st = .qualifying ∧ (feedOf s f.val).since = some a ∧ a + 10000000 ≤ s.now ∧
      s.pwr.everPresent = false ∧ s.pwr.brown = false ∧ s.pwr.boot.lowSince = none) ∧
    (∃ (f : Fin 2) (s : State), ((feedOf s f.val).st ≠ .qualifying ∨ (feedOf s f.val).since = none)) ∧
    (∃ (f : Fin 2) (a : Nat) (s : State), (feedOf s f.val).since = some a ∧ s.now < a + 10000000) ∧
    (∃ (f : Fin 2) (s : State), (feedOf s f.val).st = .present ∧ onIsland s = true ∧ (feedOf s (1 - f.val)).st = .present) ∧
    (∃ (f : Fin 2) (s : State), (feedOf s f.val).st = .present ∧ onIsland s = true ∧ (feedOf s (1 - f.val)).st ≠ .present) ∧
    (∃ (f : Fin 2) (s : State), (feedOf s f.val).st = .qualifying) ∧
    (∃ (f : Fin 2) (mv : Fin 131072) (s : State), 40800 < mv.val ∧ (feedOf s f.val).st ≠ .isolated ∧ onIsland s = true) ∧
    (∃ (f : Fin 2) (mv : Fin 131072) (s : State), mv.val ≤ 40800) ∧
    (∃ (f : Fin 2) (mv : Fin 65536) (s : State), (feedOf s f.val).st = .lost ∧ 6000 ≤ mv.val ∧ mv.val ≤ 40800) ∧
    (∃ (f : Fin 2) (mv : Fin 65536) (s : State), (feedOf s f.val).st = .isolated ∧ 6000 ≤ mv.val ∧ mv.val ≤ 40000) ∧
    (∃ (f : Fin 2) (mv : Fin 65536) (s : State), (feedOf s f.val).st = .qualifying ∧ (mv.val < 6000 ∨ 40000 < mv.val)) ∧
    (∃ (f : Fin 2) (mv : Fin 65536) (s : State), (feedOf s f.val).st = .present) ∧
    (∃ (a : Nat) (s : State), s.pwr.noFeed = some a ∧ s.pwr.everPresent = true ∧ s.pwr.brown = false ∧ a + 200000 ≤ s.now) ∧
    (∃ (a : Nat) (s : State), s.pwr.noFeed = some a ∧ s.now < a + 200000) ∧
    (∃ (s : State), (s.pwr.noFeed = none ∨ s.pwr.everPresent = false ∨ s.pwr.brown = true)) ∧
    (∃ (a : Nat) (s : State), s.pwr.feedBack = some a ∧ s.pwr.brown = true ∧ a + 10000000 ≤ s.now ∧ s.pwr.boot.lowSince = none ∧
      s.pwr.everPresent = true) ∧
    (∃ (a : Nat) (s : State), s.pwr.feedBack = some a ∧ s.pwr.brown = true ∧ a + 10000000 ≤ s.now ∧ s.pwr.boot.lowSince ≠ none) ∧
    (∃ (a : Nat) (s : State), s.pwr.feedBack = some a ∧ s.now < a + 10000000) ∧
    (∃ (f : List (BitVec 16)) (q : List (BitVec 16)) (a : Int × Nat) (b : Int × Nat) (s : State), onIsland s = true ∧ hottest f 0 none =
      some a ∧ hottest q 0 none = some b ∧ holds s 1 5 0 = false ∧ max a.1 b.1 ≤ hiC s ∧ s.pwr.thermDue ≤ s.now) ∧
    (∃ (f : List (BitVec 16)) (q : List (BitVec 16)) (a : Int × Nat) (b : Int × Nat) (s : State), onIsland s = true ∧ hottest f 0 none =
      some a ∧ hottest q 0 none = some b ∧ holds s 1 5 0 = false ∧ hiC s < max a.1 b.1 ∧ max a.1 b.1 < 2560 ∧ s.now < s.pwr.hiSince.getD
      s.now + 1000000 ∧ s.pwr.thermDue ≤ s.now) ∧
    (∃ (f : List (BitVec 16)) (q : List (BitVec 16)) (a : Int × Nat) (b : Int × Nat) (h : Nat) (s : State), onIsland s = true ∧ hottest f
      0 none = some a ∧ hottest q 0 none = some b ∧ holds s 1 5 0 = false ∧ hiC s < max a.1 b.1 ∧ max a.1 b.1 < 2560 ∧ s.pwr.hiSince =
      some h ∧ h + 1000000 ≤ s.now ∧ s.pwr.thermDue ≤ s.now) ∧
    (∃ (f : List (BitVec 16)) (q : List (BitVec 16)) (a : Int × Nat) (b : Int × Nat) (h : Nat) (s : State), onIsland s = true ∧ hottest f
      0 none = some a ∧ hottest q 0 none = some b ∧ holds s 1 5 0 = true ∧ max a.1 b.1 ≤ hiC s - 48 ∧ s.pwr.hiSince = some h ∧ h + 1000000
      ≤ s.now ∧ s.pwr.thermDue ≤ s.now) ∧
    (∃ (f : List (BitVec 16)) (q : List (BitVec 16)) (a : Int × Nat) (b : Int × Nat) (h : Nat) (s : State), onIsland s = true ∧ hottest f
      0 none = some a ∧ hottest q 0 none = some b ∧ 2560 ≤ max a.1 b.1 ∧ s.pwr.critSince = some h ∧ h + 100000 ≤ s.now ∧ holds s 1 6 0 =
      false ∧ s.pwr.thermDue ≤ s.now) ∧
    (∃ (f : List (BitVec 16)) (q : List (BitVec 16)) (s : State), s.now < s.pwr.thermDue) ∧
    (∃ (va : Fin 65536) (vb : Fin 65536) (ca : Fin 8192) (cb : Fin 8192) (w : Fin 65536) (s : State), s.now < s.pwr.powerDue) ∧
    (∃ (va : Fin 65536) (vb : Fin 65536) (ca : Fin 8192) (cb : Fin 8192) (w : Fin 65536) (s : State), onIsland s = true ∧ s.pwr.feedA.st =
      .present ∧ s.pwr.feedB.st = .present ∧ s.pwr.powerDue ≤ s.now) :=
  ⟨⟨0, 5,
     { up with pwr := { up.pwr with feedA := { st := .qualifying, since := some 5, lostF := true }, noFeed := some 3 }, now := 10000005 },
     by decide +kernel⟩,
   ⟨1, 5,
     { up with pwr := { up.pwr with feedB := { st := .qualifying, since := some 5 }, brown := true, boot := { held := true } }, now := 10000005 },
     by decide +kernel⟩,
   ⟨1, 5,
     { up with pwr := { up.pwr with feedB := { st := .qualifying, since := some 5 }, everPresent := false, boot := { held := true }, profPins := 2 }, now := 10000005 },
     by decide +kernel⟩,
   ⟨1, { up with pwr := { up.pwr with feedB := { st := .lost } } }, by decide +kernel⟩,
   ⟨0, 5, { up with pwr := { up.pwr with feedA := { st := .qualifying, since := some 5 } }, now := 10000004 }, by decide +kernel⟩,
   ⟨1, up, by decide +kernel⟩,
   ⟨1, { up with pwr := { up.pwr with feedA := { st := .isolated } }, now := 7 }, by decide +kernel⟩,
   ⟨1, { up with pwr := { up.pwr with feedB := { st := .qualifying, since := some 5 } } }, by decide +kernel⟩,
   ⟨1, 40801, up, by decide +kernel⟩,
   ⟨1, 40800, up, by decide +kernel⟩,
   ⟨1, 40800, { up with pwr := { up.pwr with feedB := { st := .lost } }, now := 9 }, by decide +kernel⟩,
   ⟨1, 40000, { up with pwr := { up.pwr with feedB := { st := .isolated } }, now := 9 }, by decide +kernel⟩,
   ⟨1, 40001, { up with pwr := { up.pwr with feedB := { st := .qualifying, since := some 4 } }, now := 9 }, by decide +kernel⟩,
   ⟨1, 5999, up, by decide +kernel⟩,
   ⟨5, { up with pwr := { up.pwr with noFeed := some 5, feedA := { st := .lost }, feedB := { st := .lost } }, now := 200005 }, by
     decide +kernel⟩,
   ⟨5, { up with pwr := { up.pwr with noFeed := some 5 }, now := 200004 }, by decide +kernel⟩,
   ⟨up, by decide +kernel⟩,
   ⟨5, { up with pwr := { up.pwr with feedBack := some 5, brown := true, boot := { held := true } }, now := 10000005 }, by decide +kernel⟩,
   ⟨5,
     { up with pwr := { up.pwr with feedBack := some 5, brown := true, boot := { held := true, lowSince := some 3 } }, now := 10000005 },
     by decide +kernel⟩,
   ⟨5, { up with pwr := { up.pwr with feedBack := some 5, brown := true } }, by decide +kernel⟩,
   ⟨(List.replicate 23 (0 : BitVec 16)) ++ [2400], List.replicate 16 (0xFFF0 : BitVec 16), (2400, 23), (-16, 0),
     { up with pwr := { up.pwr with hiSince := some 4 } }, by decide +kernel⟩,
   ⟨(List.replicate 23 (0 : BitVec 16)) ++ [2401], List.replicate 16 (0xFFF0 : BitVec 16), (2401, 23), (-16, 0),
     { up with pwr := { up.pwr with hiSince := some 4 }, now := 1000003 }, by decide +kernel⟩,
   ⟨(List.replicate 23 (0 : BitVec 16)) ++ [2401], List.replicate 16 (0xFFF0 : BitVec 16), (2401 + 0, 23), (-16, 0), 4,
     { up with pwr := { up.pwr with hiSince := some 4 }, now := 1000004 }, by decide +kernel⟩,
   ⟨(List.replicate 23 (0 : BitVec 16)) ++ [2352], List.replicate 16 (0xFFF0 : BitVec 16), (2352, 23), (-16, 0), 4,
     { up with pwr := { up.pwr with hiSince := some 4 }, now := 1000004, flt := { held := (SMap.empty).put ((1 * 32 + 5) * 65536) (some true) } },
     by decide +kernel⟩,
   ⟨(List.replicate 23 (0 : BitVec 16)) ++ [2560], List.replicate 16 (0xFFF0 : BitVec 16), (2560, 23), (-16, 0), 4,
     { up with pwr := { up.pwr with critSince := some 4 }, now := 100004 }, by decide +kernel⟩,
   ⟨[], [5], { up with pwr := { up.pwr with thermDue := 1 } }, by decide +kernel⟩,
   ⟨1, 2, 3, 4, 65535, { up with pwr := { up.pwr with powerDue := 1 } }, by decide +kernel⟩,
   ⟨12300, 12000, 100, 90, 6500, { up with regs := up.regs.set 0 (Reg.addr .pwrInputPeak []) 7000 }, by decide +kernel⟩⟩

/-- States and operands that meet the hypotheses of DomainsReferencesReset, clause by clause. -/
theorem witness_DomainsReferencesReset :
    (∃ (slot : Fin 4) (d : Fin 128) (s : State), ownerMay s slot .pwrDomCmd [] = true ∧ (96 ≤ d.val ∨ (hostDom d.val = false ∧ domSt s
      d.val ≠ .tripped))) ∧
    (∃ (slot : Fin 4) (d : Fin 128) (s : State), ownerMay s slot .pwrDomCmd [] = true ∧ (96 ≤ d.val ∨ (hostDom d.val = false ∧ domSt s
      d.val ≠ .tripped))) ∧
    (∃ (slot : Fin 4) (d : Fin 128) (s : State), ownerMay s slot .pwrDomCmd [] = true ∧ d.val < 96 ∧ (hostDom d.val = true ∨ domSt s d.val
      = .tripped) ∧ (domSt s d.val = .off ∨ domSt s d.val = .tripped) ∧ s.pwr.rampq = [] ∧ ramping s < 32) ∧
    (∃ (slot : Fin 4) (d : Fin 128) (s : State), ownerMay s slot .pwrDomCmd [] = true ∧ d.val < 96 ∧ (hostDom d.val = true ∨ domSt s d.val
      = .tripped) ∧ (domSt s d.val = .off ∨ domSt s d.val = .tripped) ∧ s.pwr.rampq.all (fun r => r.1 != d.val) = true ∧ 32 ≤ ramping s) ∧
    (∃ (slot : Fin 4) (d : Fin 128) (s : State), ownerMay s slot .pwrDomCmd [] = true ∧ hostDom d.val = true ∧ domSt s d.val = .on ∧
      (s.pwr.doms.get {} d.val).waitSet = false ∧ s.pwr.rampq.all (fun r => r.1 != d.val) = true) ∧
    (∃ (slot : Fin 4) (d : Fin 128) (s : State), ownerMay s slot .pwrDomCmd [] = true ∧ hostDom d.val = true ∧ (domSt s d.val = .off ∨
      domSt s d.val = .tripped) ∧ s.pwr.rampq.all (fun r => r.1 != d.val) = true) ∧
    (∃ (slot : Fin 4) (d : Fin 128) (s : State), ownerMay s slot .pwrDomCmd [] = true ∧ hostDom d.val = true ∧ domSt s d.val = .on ∧
      (s.pwr.doms.get {} d.val).waitSet = false ∧ s.pwr.rampq.all (fun r => r.1 != d.val) = true ∧ offOk s d.val = false) ∧
    (∃ (slot : Fin 4) (d : Fin 128) (s : State), ownerMay s slot .pwrDomCmd [] = true ∧ hostDom d.val = true ∧ domSt s d.val = .on ∧
      (s.pwr.doms.get {} d.val).waitSet = false ∧ s.pwr.rampq.all (fun r => r.1 != d.val) = true ∧ offOk s d.val = true ∧ sealedFor s
      d.val = true) ∧
    (∃ (slot : Fin 4) (d : Fin 128) (s : State), ownerMay s slot .pwrDomCmd [] = true ∧ hostDom d.val = true ∧ domSt s d.val = .on ∧
      (s.pwr.doms.get {} d.val).waitSet = false ∧ s.pwr.rampq.all (fun r => r.1 != d.val) = true ∧ offOk s d.val = true ∧ sealedFor s
      d.val = false ∧ s.fur.armed = true) ∧
    (∃ (slot : Fin 4) (d : Fin 128) (s : State), ownerMay s slot .pwrDomCmd [] = true ∧ hostDom d.val = true ∧ domSt s d.val = .on ∧
      (s.pwr.doms.get {} d.val).waitSet = false ∧ s.pwr.rampq = [] ∧ ramping s < 32 ∧ offOk s d.val = true ∧ sealedFor s d.val = false ∧
      s.fur.armed = false) ∧
    (∃ (d : Fin 96) (s : State), onData s = true ∧ (s.pwr.doms.get {} d.val).st = .switching ∧ (s.pwr.doms.get {} d.val).toOn = false ∧
      s.pwr.rampq = []) ∧
    (∃ (d : Fin 96) (s : State), onData s = true ∧ (s.pwr.doms.get {} d.val).st = .switching ∧ (s.pwr.doms.get {} d.val).toOn = true ∧
      s.pwr.rampq = []) ∧
    (∃ (d : Fin 96) (e : Fin 96) (s : State), onData s = true ∧ (s.pwr.doms.get {} d.val).st = .switching ∧ (s.pwr.doms.get {} d.val).toOn
      = true ∧ s.pwr.rampq = [(e.val, true)] ∧ domSt s e.val = .off ∧ ramping (domEnds s d.val) < 32 ∧ holds s 1 3 e.val = false) ∧
    (∃ (d : Fin 96) (s : State), (s.pwr.doms.get {} d.val).st ≠ .switching ∧ s.pwr.rampq = []) ∧
    (∃ (d : Fin 96) (s : State), onData s = true ∧ domSt s d.val = .on ∧ 16 ≤ d.val ∧ d.val < 18 ∧ holds s 1 3 d.val = false) ∧
    (∃ (d : Fin 96) (s : State), onData s = true ∧ domSt s d.val = .on) ∧
    (∃ (d : Fin 96) (s : State), (domSt s d.val = .off ∨ domSt s d.val = .tripped)) ∧
    (∃ (s : State), onIsland s = true ∧ s.pwr.boot.sysref = true ∧ holds s 2 0 0 = false) ∧
    (∃ (g : Fin 16) (s : State), onIsland s = true ∧ s.pwr.lpll.get false g.val = true) ∧
    (∃ (k : Fin 4) (s : State), onIsland s = true) ∧
    (∃ (k : Fin 4) (l : Fin 192) (s : State), onData s = true ∧ s.pwr.frefGone.get false k.val = false ∧ l.val / 48 = k.val) ∧
    (∃ (s : State), onIsland s = true ∧ tbSrc s = 1 ∧ s.tgt.refOk = true) ∧
    (∃ (g : Fin 16) (s : State), onData s = true) ∧
    (∃ (k : Fin 4) (s : State), onIsland s = true) ∧
    (∃ (s : State), onIsland s = true ∧ tbSrc s = 1 ∧ s.tgt.refOk = false) ∧
    (∃ (s : State), onIsland s = true) ∧
    (∃ (s : State), onIsland s = true) ∧
    (∃ (s : State), s.pwr.boot.lowSince = none) ∧
    (∃ (s : State), s.pwr.boot.lowSince ≠ none) ∧
    (∃ (pins : Fin 4) (s : State), s.pwr.boot.lowSince ≠ none ∧ s.pwr.brown = false ∧ s.pwr.everPresent = true) ∧
    (∃ (pins : Fin 4) (s : State), s.pwr.boot.lowSince ≠ none ∧ (s.pwr.brown = true ∨ s.pwr.everPresent = false)) ∧
    (∃ (pins : Fin 4) (s : State), s.pwr.boot.lowSince = none) ∧
    (∃ (s : State), onIsland s = true ∧ s.pwr.boot.sysref = true ∧ s.pwr.boot.rails = false ∧ s.upd.recovery = false) ∧
    (∃ (s : State), onData s = true ∧ s.pwr.boot.fwReady = true ∧ s.pwr.boot.cleared = false ∧ s.pwr.boot.done = false) ∧
    (∃ (s : State), (s.pwr.boot.cleared = true ∨ s.pwr.boot.done = true ∨ s.pwr.boot.fwReady = false)) :=
  ⟨⟨0, 127, up, by decide +kernel⟩,
   ⟨0, 127, up, by decide +kernel⟩,
   ⟨0, 95, { up with pwr := { up.pwr with doms := (SMap.empty).put 95 (some { st := .off }) } }, by decide +kernel⟩,
   ⟨0, 95,
     { up with pwr := { up.pwr with doms := ((List.range 32).foldl (fun m k => m.put k (some { st := .switching })) SMap.empty).put 95 (some { st := .off }) } },
     by decide +kernel⟩,
   ⟨0, 51, up, by decide +kernel⟩,
   ⟨0, 95, { up with pwr := { up.pwr with doms := (SMap.empty).put 95 (some { st := .off }) } }, by decide +kernel⟩,
   ⟨0, 16, up, by decide +kernel⟩,
   ⟨0, 15, { up with fur := { direct := false, pend := true, sld := (SMap.empty).put (Reg.addr .lpPortCfg [15, 0]) (some 1) } }, by
     decide +kernel⟩,
   ⟨0, 15, { up with fur := { direct := false, pend := true, armed := true } }, by decide +kernel⟩,
   ⟨0, 15, up, by decide +kernel⟩,
   ⟨95, { up with pwr := { up.pwr with doms := (SMap.empty).put 95 (some { st := .switching, toOn := false }) } }, by decide +kernel⟩,
   ⟨95,
     { up with pwr := { up.pwr with doms := (SMap.empty).put 95 (some { st := .switching, toOn := true }) }, flt := { held := (SMap.empty).put ((1 * 32 + 3) * 65536 + 95) (some true) } },
     by decide +kernel⟩,
   ⟨30, 95,
     { up with pwr := { up.pwr with rampq := [(95, true)], doms := ((List.range 32).foldl (fun m k => m.put k (some { st := .switching, toOn := true })) SMap.empty).put 95 (some { st := .off }) } },
     by decide +kernel⟩,
   ⟨95, up, by decide +kernel⟩,
   ⟨17, up, by decide +kernel⟩,
   ⟨95, up, by decide +kernel⟩,
   ⟨95, { up with pwr := { up.pwr with doms := (SMap.empty).put 95 (some { st := .off }) } }, by decide +kernel⟩,
   ⟨up, by decide +kernel⟩,
   ⟨15, up, by decide +kernel⟩,
   ⟨3, up, by decide +kernel⟩,
   ⟨3, 191, { up with fab := { lane := (SMap.empty).put 191 (some { st := .up }) } }, by decide +kernel⟩,
   ⟨{ up with regs := up.regs.set 0 (Reg.addr .tgtTbCtrl []) 0x04000000, tgt := { refOk := true } }, by decide +kernel⟩,
   ⟨15, { up with pwr := { up.pwr with lrefGone := (SMap.empty).put 15 (some true), lpll := {} } }, by decide +kernel⟩,
   ⟨3, { up with pwr := { up.pwr with frefGone := (SMap.empty).put 3 (some true) } }, by decide +kernel⟩,
   ⟨{ up with regs := up.regs.set 0 (Reg.addr .tgtTbCtrl []) 0x04000000, tgt := { refOk := false } }, by decide +kernel⟩,
   ⟨up, by decide +kernel⟩,
   ⟨{ up with pwr := {} }, by decide +kernel⟩,
   ⟨{ up with regs := up.regs.set 0x80000000 (Reg.addr .clkRstCause []) 0x20000000, rcd := { opSec := 4 } }, by decide +kernel⟩,
   ⟨{ up with pwr := { up.pwr with boot := { held := true, lowSince := some 3 } } }, by decide +kernel⟩,
   ⟨3, { up with pwr := { up.pwr with boot := { held := true, lowSince := some 3 } } }, by decide +kernel⟩,
   ⟨3, { up with pwr := { up.pwr with brown := true, boot := { held := true, lowSince := some 3 } } }, by decide +kernel⟩,
   ⟨3, up, by decide +kernel⟩,
   ⟨{ up with pwr := { boot := { sysref := true } } }, by decide +kernel⟩,
   ⟨{ up with pwr := { up.pwr with boot := { up.pwr.boot with cleared := false, done := false } } }, by decide +kernel⟩,
   ⟨up, by decide +kernel⟩⟩

/-- States and operands that meet the hypotheses of TestAccessPort, clause by clause. -/
theorem witness_TestAccessPort :
    (∃ (tdi : List Bool) (g : Fin 16) (s : State), resetLow s = true) ∧
    (∃ (tdi : List Bool) (g : Fin 16) (s : State), resetLow s = false) :=
  ⟨⟨List.replicate 56 true, 15,
     { up with pwr := { up.pwr with boot := { held := true, lowSince := some 0 } }, fab := { twin := (SMap.empty).put 15 (some { actIn := true }) } },
     by decide +kernel⟩,
   ⟨[true], 15, up, by decide +kernel⟩⟩

/-! ## Small operands and states -/

/-- A slice of an OTUC frame. -/
def exSlice : OtucSlice := { mfas := 0, smBipRx := 0, smBip := 0, smBei := 0, pmBipRx := 0, pmBip := 0, pmBei := 0 }
/-- An OTUC frame of one slice. -/
def exOtuc : OtucFrame :=
  { slices := [exSlice], smTti := 0, pmTti := 0, smBdi := false, pmBdi := false, smIae := false, stat := 1, gid := 0, idsOk := true,
    skewBig := false }
/-- The digits 1 to 9 as characters. -/
def digits : List Byte := [0x31, 0x32, 0x33, 0x34, 0x35, 0x36, 0x37, 0x38, 0x39]
/-- The deltas of the example under Table 17.6, all of track 0 of S2. -/
def useCounts : SMap Nat := ⟨[(96, 4780000), (97, 9500), (98, 35500), (99, 665), (100, 190000), (101, 17500)]⟩
/-- The first flit of bundle 5 fails its CRC. -/
def ellOne : State := faultRise up 11 0 5 0 0
/-- A spare takes the lane. -/
def ellTwo : State := faultRise ellOne 11 1 5 0 0
/-- The bundle direction is fenced, and the occurrences have fallen. -/
def ellFenced : State :=
  { up with flt := { blk := (SMap.empty).put 11 (some { live := 4, sticky := 7, valid := true, ovf := true, cls := 1, src := 0, inst := 5 }) } }

/-! ## Ill-formed commands are refused -/

/-- A frame of 513 payload words (R59). -/
theorem test_wf_frame : (Instr.updChunk 0 { hdr := 0, payload := List.replicate 513 0, fcrc := 0, errEnd := false }).wf = false := by
  decide +kernel
/-- A write of 65 words to a command window (R69), and one of none. -/
theorem test_wf_words : (Instr.tblCmdWinWrite 0 (List.replicate 65 0)).wf = false ∧ (Instr.tcmCmdWinWrite 0 []).wf = false := by
  decide +kernel
/-- An OTUC frame of 17 slices, and one of none (Table 5.1). -/
theorem test_wf_otuc : otucWf { exOtuc with slices := List.replicate 17 exSlice } = false ∧ otucWf { exOtuc with slices := [] } = false := by
  decide +kernel
/-- A flit with a wrong bit named twice. -/
theorem test_wf_places : placesWf ([5, 65, 5] : List (Fin 66)) = false ∧ placesWf ([5, 65] : List (Fin 66)) = true := by decide +kernel
/-- A fabric cell of 255 B (R419). -/
theorem test_wf_cell : cellWf { bytes := idleCell.drop 1 } = false ∧ cellWf { bytes := idleCell } = true := by decide +kernel
/-- 23 sensors on the F-die (R530). -/
theorem test_wf_sensors : (Instr.thermSample (List.replicate 23 0) (List.replicate 16 0)).wf = false := by decide +kernel
/-- A frame of no bytes on a port. -/
theorem test_wf_mac : (Instr.macFrameRx 0 [] .whole).wf = false := by decide +kernel

/-! ## Examples and tables of the spec -/

/-- The check values that IEEE 802.3 and the Castagnoli polynomial give for the digits 1 to 9 (R60, R212). -/
theorem test_crc : crc32 digits = 0xCBF43926 ∧ crc32c digits = 0xE3069283 := by decide +kernel
/-- The check value of CRC-16 with x^16 + x^12 + x^5 + 1 and initial value 0xFFFF (Table 15.2, HCRC). -/
theorem test_crc16 : crcBits 16 0x1021 0xFFFF (digits.flatMap (fun b => msbBits 8 b.toNat)) = 0x29B1 := by decide +kernel
/-- The generator polynomial of RS(544,514), highest coefficient first, as IEEE 802.3 tabulates it for 15 correctable symbols (R130). -/
theorem test_rs_gen : rsGen = [1, 575, 552, 187, 230, 552, 1, 108, 565, 282, 249, 593, 132, 94, 720, 495, 385, 942, 503, 883, 361, 788, 610,
    193, 392, 127, 185, 158, 128, 834, 523] := by decide +kernel
/-- A REQ of port 127, class 3 in a CTRL cell of 16 bytes in use (Tables 15.2 to 15.4). -/
theorem test_cell_msg : cellMsgs reqCell = [.req 127 3 0xFFFFFFFF] := by decide +kernel
/-- The digest that FIPS 180-4 gives for "abc" (R98, R499). -/
theorem test_sha384 : sha384 [0x61, 0x62, 0x63] =
    0xCB00753F45A35E8BB5A03D699AC65007272C32AB0EDED1631A8B605A43FF5BED8086072BA1E7CC2358BAECA134C825A7 := by decide +kernel
/-- The example under Table 17.6: the slot-use figures of S2, ingress. -/
theorem test_slot_use : slotFigures {} useCounts (some 1048576) 0 2 0 = [62239, 123, 462, 8, 2473, 227, 0, 0, 4558, 63062] := by
  decide +kernel
/-- Bin edges of Table 17.1: a lower edge belongs to its bin. -/
theorem test_bins : binOf 0 (150 * 16) = 15 ∧ binOf 0 (-20 * 16) = 1 ∧ binOf 0 (-20 * 16 - 1) = 0 ∧ binOf 3 6250 = 11 ∧ binOf 5 21000 = 15 := by
  decide +kernel
/-- The example of the fault chapter: ELL CRC, then LANE_SWAP (Tables 16.1 and 16.2). -/
theorem test_ell_faults :
    regView ellOne 0 .fltLive [11] = 1 ∧ regView ellOne 0 .fltFirst [11] = 0x90000005 ∧
    regView ellTwo 0 .fltLive [11] = 3 ∧ regView ellTwo 0 .fltFirst [11] = 0xD0000005 := by decide +kernel
/-- The same example: what the owner's write of STICKY leaves. -/
theorem test_ell_sticky : (match execFltStickyWrite 0 11 7 ellFenced with | .next t => some (regView t 0 .fltSticky [11], regView t 0 .fltClass [11]) | _ => none)
    = some (4, 0x6) := by decide +kernel
/-- IDCODE shifts out with its bit 0 first (R551). -/
theorem test_idcode : (match execJtagIdcode up with | .next t => t.jtag.dr.take 4 | _ => []) = [true, false, true, true] := by decide +kernel
/-- Access in a domain that is off: 0xDEAD_0000 plus the block code (R13). -/
theorem test_dead : deadData 0x0D000010 = 0xDEAD000D := by decide +kernel
/-- A counter wraps at 2^48 and sets OVF (R24). -/
theorem test_counter : ({ cnt := 0xFFFFFFFFFFFF } : Ctr).add 1 = { cnt := 0, ovf := true } := by decide +kernel
/-- The recorder's example: with a fresh bucket 64 reports pass; a bucket at 0.64 tokens folds (R467, R468). -/
theorem test_bucket : ({ lvl := 0, at' := 0 } : Bucket).refill 1000 64000000000 640000 = { lvl := 640000000, at' := 640000 } := by decide +kernel
/-- A word programmed in flash is read back, most significant byte first, and an erased one reads as all ones (R478). -/
theorem test_flash : flashWord (flashProgW up 0x08000000 [0xA1FF0304]) 0x08000000 = 0xA1FF0304 ∧ flashWord up 0x08000000 = 0xFFFFFFFF := by
  decide +kernel

end Sys2Proof.Tests
end

section
/-! SUPPORT. Laws of the counters (R22 to R24, R483): what each counter reads as after a count or an owner write, and when a count
wraps. -/

namespace Sys2Proof.Machine

/-! ## Reading back a counter -/

@[simp] theorem ctrAt_bump_same (s : State) (a : Nat) : ctrAt (bump s a) a = (ctrAt s a).add 1 :=
  ctrAt_bumpN_same s a 1

@[simp] theorem ctrAt_bump_other (s : State) (a b : Nat) (h : b ≠ a) : ctrAt (bump s a) b = ctrAt s b :=
  ctrAt_bumpN_other s a b 1 h

@[simp] theorem ctrAt_ctrWriteLow_same (s : State) (k : Nat) (v : Word) :
    ctrAt (ctrWriteLow s k v) k = { ctrAt s k with cnt := BitVec.ofNat 48 v.toNat } :=
  SMap.get_upd_same _ _ _ _

@[simp] theorem ctrAt_ctrWriteHigh_same (s : State) (k : Nat) (v : Word) :
    ctrAt (ctrWriteHigh s k v) k =
      { cnt := BitVec.ofNat 48 ((ctrAt s k).cnt.toNat % 2 ^ 32 + fld v 15 0 * 2 ^ 32), ovf := (ctrAt s k).ovf && !tbit v 31 } :=
  SMap.get_upd_same _ _ _ _

/-! ## Adding to a counter -/

/-- A sum that fits 48 bits is the new count, and OVF stays. -/
theorem Ctr.add_of_lt (c : Ctr) (n : Nat) (h : c.cnt.toNat + n < 2 ^ 48) :
    (c.add n).cnt.toNat = c.cnt.toNat + n ∧ (c.add n).ovf = c.ovf := by
  constructor
  · exact (BitVec.toNat_ofNat _ _).trans (Nat.mod_eq_of_lt h)
  · rw [Ctr.add, decide_eq_false h.not_ge, Bool.or_false]

/-- A sum that reaches 2^48 leaves what is above it, and sets OVF. -/
theorem Ctr.add_of_le (c : Ctr) (n : Nat) (h : 2 ^ 48 ≤ c.cnt.toNat + n) :
    (c.add n).cnt = BitVec.ofNat 48 (c.cnt.toNat + n - 2 ^ 48) ∧ (c.add n).ovf = true := by
  constructor
  · apply BitVec.eq_of_toNat_eq
    simpa [Ctr.add] using Nat.mod_eq_sub_mod h
  · rw [Ctr.add, decide_eq_true h, Bool.or_true]

/-- One more than the largest count is 0, with OVF set (R24). -/
theorem Ctr.add_one_of_max (c : Ctr) (h : c.cnt.toNat = 2 ^ 48 - 1) : (c.add 1).cnt = 0 ∧ (c.add 1).ovf = true := by
  have hsum : c.cnt.toNat + 1 = 2 ^ 48 := by omega
  obtain ⟨hcnt, hovf⟩ := c.add_of_le 1 hsum.ge
  rw [hsum] at hcnt
  exact ⟨hcnt, hovf⟩

end Sys2Proof.Machine
end

section
/-! The statements about counters. -/

namespace Sys2Proof.Machine

/-- Settles O10: each clause reads the counter back after the count or the write, and R24's two cases are those of the 48-bit sum. -/
theorem counterWrapsAndSetsOvf : Obligations.CounterWrapsAndSetsOvf := by
  unfold Obligations.CounterWrapsAndSetsOvf
  refine ⟨fun s a hmax => ?wraps, fun s a hlt => ?counts, fun s a b hne => ?others, fun s k v => ⟨?low, ?high⟩⟩
  case wraps =>
    rw [ctrAt_bump_same]
    exact (ctrAt s a).add_one_of_max hmax
  case counts =>
    rw [ctrAt_bump_same]
    exact (ctrAt s a).add_of_lt 1 (by omega)
  case others => exact ctrAt_bump_other s a b hne
  case low => rw [ctrAt_ctrWriteLow_same]
  case high => rw [ctrAt_ctrWriteHigh_same, tbit]

end Sys2Proof.Machine
end

section
/-! SUPPORT. FLT_STICKY and the class WORST of FLT_CLASS (R459, Tables 16.1 and 16.3): what a write leaves, and what a read then shows. -/

namespace Sys2Proof.Machine

/-! ## Fields of a word -/

/-- A field of a disjunction is the disjunction of the fields. -/
theorem fld_or (a b : Word) (hi lo : Nat) : fld (a ||| b) hi lo = fld a hi lo ||| fld b hi lo := by
  apply Nat.eq_of_testBit_eq
  intro i
  simp only [Nat.testBit_or, testBit_fld, BitVec.getLsbD_or, Bool.and_or_distrib_left]

/-- The field that was filled reads back. -/
theorem fld_mkF_same (hi lo v : Nat) (h : hi < 32) : fld (mkF hi lo v) hi lo = v % 2 ^ (hi + 1 - lo) := by
  apply Nat.eq_of_testBit_eq
  intro i
  rw [testBit_fld, getLsbD_mkF, Nat.testBit_mod_two_pow]
  by_cases hi' : i < hi + 1 - lo
  · have hbit : i + lo < 32 ∧ lo ≤ i + lo ∧ i + lo < hi + 1 := by omega
    simp [hi', hbit]
  · simp [hi']

/-- A field that does not meet the one filled is 0. -/
theorem fld_mkF_other (hi lo v a b : Nat) (h : a < lo ∨ hi < b) : fld (mkF hi lo v) a b = 0 := by
  apply Nat.eq_of_testBit_eq
  intro i
  rw [testBit_fld, getLsbD_mkF, Nat.zero_testBit]
  by_cases hi' : i < a + 1 - b
  · have hout : ¬ (lo ≤ i + b ∧ i + b < hi + 1) := by omega
    by_cases hlo : lo ≤ i + b
    · have hhi : ¬ i + b < hi + 1 := fun k => hout ⟨hlo, k⟩
      simp [hhi]
    · simp [hlo]
  · simp [hi']

/-! ## The highest of the values chosen -/

section
variable {α : Type} (p : α → Bool) (f : α → Nat)

/-- The highest of m and the values of the elements of a list that are chosen. -/
def foldMax (l : List α) (m : Nat) : Nat := l.foldl (fun m x => if p x then max m (f x) else m) m

theorem foldMax_cons (a : α) (l : List α) (m : Nat) :
    foldMax p f (a :: l) m = foldMax p f l (if p a then max m (f a) else m) := rfl

theorem le_foldMax_start (l : List α) (m : Nat) : m ≤ foldMax p f l m := by
  induction l generalizing m with
  | nil => exact le_rfl
  | cons a l ih =>
    rw [foldMax_cons]
    exact le_trans (by split <;> omega) (ih _)

theorem le_foldMax_of_mem (l : List α) (m : Nat) (x : α) (hx : x ∈ l) (hp : p x = true) : f x ≤ foldMax p f l m := by
  induction l generalizing m with
  | nil => cases hx
  | cons a l ih =>
    rw [foldMax_cons]
    rcases List.mem_cons.1 hx with rfl | hx
    · exact le_trans (by simp [hp]) (le_foldMax_start p f l _)
    · exact ih _ hx

theorem foldMax_attained (l : List α) (m : Nat) :
    foldMax p f l m = m ∨ ∃ x ∈ l, p x = true ∧ f x = foldMax p f l m := by
  induction l generalizing m with
  | nil => exact .inl rfl
  | cons a l ih =>
    rw [foldMax_cons]
    rcases ih (if p a then max m (f a) else m) with hstart | ⟨x, hx, hp, hv⟩
    · rw [hstart]
      by_cases hp : p a = true
      · rcases le_total (f a) m with hle | hle
        · left; simp [hle]
        · right; exact ⟨a, List.mem_cons_self, hp, by simp [hp, hle]⟩
      · left; simp [hp]
    · exact .inr ⟨x, List.mem_cons_of_mem a hx, hp, hv⟩

end

/-! ## The highest class among the bits of a word -/

/-- The class of a source of a block: 0 for a reserved bit (Table 16.8). -/
def srcClass (blk bit : Nat) : Nat := ((fltInfo blk bit).map FltInfo.cls).getD 0

/-- The highest class among the bits of a block that a word holds at 1: 0 with none. -/
def worstClass (blk : Nat) (w : Word) : Nat := foldMax (tbit w) (srcClass blk) (List.range 32) 0

theorem srcClass_le_worstClass (blk : Nat) (w : Word) (b : Fin 32) (h : tbit w b.val = true) :
    srcClass blk b.val ≤ worstClass blk w :=
  le_foldMax_of_mem (tbit w) (srcClass blk) (List.range 32) 0 b.val (List.mem_range.2 b.isLt) h

theorem worstClass_attained (blk : Nat) (w : Word) :
    worstClass blk w = 0 ∨ ∃ b : Fin 32, tbit w b.val = true ∧ srcClass blk b.val = worstClass blk w := by
  rcases foldMax_attained (tbit w) (srcClass blk) (List.range 32) 0 with h | ⟨i, hi, hb, hv⟩
  · exact .inl h
  · exact .inr ⟨⟨i, List.mem_range.1 hi⟩, hb, hv⟩

/-- No block has a source above class F. -/
theorem srcClass_lt_four (blk : Fin 21) (b : Fin 32) : srcClass blk.val b.val < 4 := by
  revert blk b
  decide +kernel

theorem worstClass_lt_four (blk : Fin 21) (w : Word) : worstClass blk.val w < 4 := by
  rcases worstClass_attained blk.val w with h | ⟨b, -, h⟩
  · omega
  · exact h ▸ srcClass_lt_four blk b

/-! ## What FLT_CLASS shows -/

/-- FLT_CLASS as the block shows it: FIRST beside WORST (Table 16.3). -/
theorem roView_fltClass (s : State) (slot : Nat) (blk : Fin 21) :
    roView s slot .fltClass [blk.val] =
      (if (fltOf s blk.val).valid then mkF 3 2 (fltOf s blk.val).cls else 0)
        ||| mkF 1 0 (worstClass blk.val (fltOf s blk.val).sticky) := by
  have hcls : ∀ i, (match fltInfo blk.val i with | some x => x.cls | none => 0) = srcClass blk.val i := by
    intro i
    cases h : fltInfo blk.val i <;> simp [srcClass, h]
  simp only [worstClass, foldMax, ← hcls]
  rfl

/-- WORST, as a read shows it, is the highest class among the bits of FLT_STICKY, over what the register file holds in its place. -/
theorem fld_regView_worst (s : State) (slot : Nat) (blk : Fin 21) :
    fld (regView s slot .fltClass [blk.val]) 1 0 =
      fld (regRaw s .fltClass [blk.val]) 1 0 ||| worstClass blk.val (fltOf s blk.val).sticky := by
  have hview : regView s slot .fltClass [blk.val] = regRaw s .fltClass [blk.val] ||| roView s slot .fltClass [blk.val] := by
    have hzero : recoveryZero s .fltClass = false := by simp [recoveryZero, Reg.info]
    simp [regView, hzero, isWindow]
  have hfirst : fld (if (fltOf s blk.val).valid then mkF 3 2 (fltOf s blk.val).cls else 0) 1 0 = 0 := by
    split
    · exact fld_mkF_other 3 2 _ 1 0 (.inl (by omega))
    · rfl
  rw [hview, fld_or, roView_fltClass, fld_or, hfirst, Nat.zero_or, fld_mkF_same 1 0 _ (by omega)]
  exact congrArg _ (Nat.mod_eq_of_lt (worstClass_lt_four blk _))

/-! ## A write of FLT_STICKY -/

theorem regAt_fltSticky (blk : Fin 21) : regAt (Reg.addr .fltSticky [blk.val]) = some (.fltSticky, [blk.val]) := by
  revert blk
  decide +kernel

theorem fltSticky_addr_aligned (blk : Fin 21) : Reg.addr .fltSticky [blk.val] % 4 = 0 := by
  revert blk
  decide +kernel

/-- A bit stands after the write if it stood and was not written 1, or its source is live (R459). -/
theorem tbit_fltStickyWrite (s : State) (blk : Nat) (val : Word) (b : Fin 32) :
    tbit (fltOf (fltStickyWrite s blk val) blk).sticky b.val =
      (tbit (fltOf s blk).sticky b.val && (!tbit val b.val || tbit (fltOf s blk).live b.val)) := by
  have hbit : ∀ w : Word, tbit w b.val = w.getLsbD b.val := fun _ => rfl
  simp [fltStickyWrite, hbit, b.isLt]

/-- The owner's write is answered OK, and changes the sticky bits as R459 says and no other part of the state. -/
theorem exec_fltStickyWrite {slot : Fin 4} {blk : Fin 21} {s : State} (val : Word)
    (h : ownerMay s slot .fltSticky [blk.val] = true) :
    ∃ t, exec (.fltStickyWrite slot blk val) s = .next t ∧ t.acc = (stOk, 0) ∧
      (∀ b : Fin 32, tbit (fltOf t blk.val).sticky b.val =
        (tbit (fltOf s blk.val).sticky b.val && (!tbit val b.val || tbit (fltOf s blk.val).live b.val))) ∧
      AgreeBut [.acc, .flt] s t := by
  refine ⟨{ fltStickyWrite s blk.val val with acc := (stOk, 0) }, congrArg Host.Outcome.next ?_, rfl,
    tbit_fltStickyWrite s blk.val val, AgreeBut.acc (by simp) _ fun p hp => ?_⟩
  · exact ownWrite_eq val h (regAt_fltSticky blk) (fltSticky_addr_aligned blk) rfl (by decide) (by decide)
  · exact fltStickyWrite_part p (fun e => hp (by simp [e])) s blk.val val

end Sys2Proof.Machine
end

section
/-! The statements about fault registers. -/

namespace Sys2Proof.Machine

/-- R459, in the words of StickyWriteKeepsLive, wherever the register file holds 0 in the place of WORST. -/
theorem stickyWrite_keeps_live {slot : Fin 4} {blk : Fin 21} {s : State} (val : Word)
    (h : ownerMay s slot .fltSticky [blk.val] = true) (hclass : fld (regRaw s .fltClass [blk.val]) 1 0 = 0) :
    ∃ t, exec (.fltStickyWrite slot blk val) s = .next t ∧ t.acc = (stOk, 0) ∧
      (∀ b : Fin 32, tbit (fltOf t blk.val).sticky b.val =
        (tbit (fltOf s blk.val).sticky b.val && (!tbit val b.val || tbit (fltOf s blk.val).live b.val))) ∧
      (∀ b : Fin 32, tbit (fltOf t blk.val).sticky b.val = true →
        srcClass blk.val b.val ≤ fld (regView t slot.val .fltClass [blk.val]) 1 0) ∧
      (fld (regView t slot.val .fltClass [blk.val]) 1 0 = 0 ∨
        ∃ b : Fin 32, tbit (fltOf t blk.val).sticky b.val = true ∧
          srcClass blk.val b.val = fld (regView t slot.val .fltClass [blk.val]) 1 0) ∧
      AgreeBut [.acc, .flt] s t := by
  obtain ⟨t, hexec, hacc, hsticky, hframe⟩ := exec_fltStickyWrite val h
  have hworst : fld (regView t slot.val .fltClass [blk.val]) 1 0 = worstClass blk.val (fltOf t blk.val).sticky := by
    rw [fld_regView_worst, regRaw_congr (regs_of_part (hframe .regs (by decide))), hclass, Nat.zero_or]
  refine ⟨t, hexec, hacc, hsticky, ?_⟩
  rw [hworst]
  exact ⟨srcClass_le_worstClass blk.val _, worstClass_attained blk.val _, hframe⟩

/-- A device on its chain whose slot 0 holds the owner lease, with no fault recorded. -/
def ownedState : State := { State.reset with
  pwr := { boot := { sysref := true } }
  node := { addr := 1, owner := { st := .live, slot := 0 } } }

/-- The example of the fault chapter (R459): in ELL bits 0 to 2 stand, the source of bit 2 is live, and the owner writes 7. Bit 2 stays
and bit 0 is cleared. -/
theorem stickyWrite_keeps_live_example :
    ∃ t, exec (.fltStickyWrite 0 11 7) { ownedState with flt := { blk := SMap.empty.put 11 (some { live := 4, sticky := 7 }) } } = .next t ∧
      tbit (fltOf t 11).sticky 2 = true ∧ tbit (fltOf t 11).sticky 0 = false := by
  obtain ⟨t, hexec, -, hsticky, -⟩ := stickyWrite_keeps_live (slot := 0) (blk := 11)
    (s := { ownedState with flt := { blk := SMap.empty.put 11 (some { live := 4, sticky := 7 }) } }) 7
    (by decide +kernel) (by decide +kernel)
  exact ⟨t, hexec, (hsticky 2).trans (by decide +kernel), (hsticky 0).trans (by decide +kernel)⟩

/-- The device with a 3 in the register file in the place of WORST of ELL. FLT_CLASS is RO with no bits of its own, so nothing should
stand there, but the obligation ranges over such states too, and a read shows what stands there. -/
def strayClassState : State := setReg ownedState .fltClass [11] 3

theorem ownerMay_strayClassState : ownerMay strayClassState 0 .fltSticky [11] = true := by decide +kernel

theorem regRaw_strayClassState : regRaw strayClassState .fltClass [11] = 3 := regRaw_setReg_same _ _ _ _

theorem sticky_strayClassState : ∀ b : Fin 32, tbit (fltOf strayClassState 11).sticky b.val = false := by decide +kernel

/-- Refutes O52: in strayClassState no bit of FLT_STICKY stands after the write, and WORST reads 3. What fails is the range of the statement,
all states, and not R459: stickyWrite_keeps_live proves it for every state whose register file holds 0 in the place of WORST. -/
theorem not_stickyWriteKeepsLive : ¬ Obligations.StickyWriteKeepsLive := by
  unfold Obligations.StickyWriteKeepsLive
  intro h
  obtain ⟨t, -, -, hsticky, -, hworst, hframe⟩ := h 0 11 0 strayClassState ownerMay_strayClassState
  rcases hworst with hzero | ⟨b, hstands, -⟩
  case inl =>
    have hraw : fld (regRaw t .fltClass [11]) 1 0 = 3 := by
      rw [regRaw_congr (regs_of_part (hframe .regs (by decide))), regRaw_strayClassState]
      rfl
    rw [fld_regView_worst, Nat.or_eq_zero_iff] at hzero
    exact absurd (hraw.symm.trans hzero.1) (by decide)
  case inr =>
    rw [hsticky, Bool.and_eq_true] at hstands
    exact absurd (hstands.1.symm.trans (sticky_strayClassState b)) (by decide)

end Sys2Proof.Machine
end

section
/-! The machine as a whole: every step ends in a next state, leaves what stands behind the front command, and keeps the state sound. -/

namespace Sys2Proof.Machine

/-! ## Outcomes that are a next state -/

/-- The outcome is a next state, and P holds there. -/
def Ends (P : State → Prop) : Res → Prop
  | .next t => P t
  | .fault _ => False
  | .refused _ => False

theorem ends_next {P : State → Prop} {t : State} (h : P t) : Ends P (.next t) := h

theorem Ends.exists_next {P : State → Prop} {r : Res} (h : Ends P r) : ∃ t, r = .next t ∧ P t := by
  cases r with
  | next t => exact ⟨t, rfl, h⟩
  | fault _ => exact h.elim
  | refused _ => exact h.elim

theorem Ends.of_next {P : State → Prop} {r : Res} {t : State} (h : Ends P r) (ht : r = .next t) : P t := by
  subst ht
  exact h

/-- What holds of a part holds after a command that leaves the part. -/
theorem Ends.keeps {p : Part} {Q : p.T → Prop} {s : State} {r : Res} (hr : Ends (fun t => t.part p = s.part p) r)
    (h : Q (s.part p)) : Ends (fun t => Q (t.part p)) r := by
  obtain ⟨t, rfl, ht⟩ := hr.exists_next
  exact ends_next (ht.symm ▸ h)

/-- EXTEST ends in one of two states, and both differ from the one before in what the test access port holds alone. -/
theorem execJtagExtest_ends {P : State → Prop} (tdi : List Bool) (s : State)
    (h : ∀ t : State, AgreeBut [.free, .jtag] s t → P t) : Ends P (execJtagExtest tdi s) := by
  unfold execJtagExtest
  split <;> exact ends_next (h _ fun p hp => by simp_all)

/-- The release of a punt leaves what no punt touches: either the head goes to its class queue or the punt port still holds it. -/
theorem execPuntPortRelease_part (p : Part) (h : p ≠ .ctr ∧ p ≠ .rcd ∧ p ≠ .slc ∧ p ≠ .xe ∧ p ≠ .ell) (sl : Fin 9) (s : State) :
    Ends (fun t => t.part p = s.part p) (execPuntPortRelease sl s) := by
  refine ends_next ?_
  split
  case h_1 => rfl
  case h_2 head rest hpunt =>
    split
    case isFalse => rfl
    case isTrue =>
      split
      case h_1 t ht => rw [puntPass_part p h _ _ t ht, modSlice_part p (by simp [h])]
      case h_2 => rfl

/-! ## What every command leaves -/

/-- No command changes the queue (R1, log entry 3). -/
theorem exec_keeps_queue (i : Instr) (s : State) : Ends (fun t => t.part .pending = s.part .pending) (exec i s) := by
  cases i
  case jtagExtest tdi => exact execJtagExtest_ends tdi s fun t h => h .pending (by decide)
  case puntPortRelease sl => exact execPuntPortRelease_part .pending (by decide) sl s
  all_goals refine ends_next ?_
  case bcastFilterLapse | barrierOpen | routeRowFree | lrnFlushDone | gateSwitch | updChunkAckTimer | fwReadyTimeout | brownoutEnter
    | brownoutExit => split <;> simp
  case sideStableTimer | syncStable | defectIntegrationTimer =>
    dsimp only
    repeat' split
    all_goals simp [*]
  case learnApply | ppsTimeout | refInputLoss | refInputReturn | bootSectionsWritten =>
    repeat' split
    all_goals simp [*]
  all_goals simp

/-- Every command keeps flash in its canonical form. -/
theorem exec_keeps_flashOk (i : Instr) (s : State) (h : FlashOk (s.part .flash)) :
    Ends (fun t => FlashOk (t.part .flash)) (exec i s) := by
  cases i
  case jtagExtest tdi => exact execJtagExtest_ends tdi s fun t ht => ht .flash (by decide) ▸ h
  case puntPortRelease sl => exact (execPuntPortRelease_part .flash (by decide) sl s).keeps h
  all_goals refine ends_next ?_
  case bcastFilterLapse | barrierOpen | routeRowFree | lrnFlushDone | gateSwitch | updChunkAckTimer | fwReadyTimeout | brownoutEnter
    | brownoutExit => split <;> simp [h]
  case sideStableTimer | syncStable | defectIntegrationTimer =>
    dsimp only
    repeat' split
    all_goals simp [*]
  case chainRequestRx | writeRequest | learnApply | ppsTimeout | flashRecordWrite | updVerifyDone | updArmTime | refInputLoss | refInputReturn | bootTunVerified | bootSectionsWritten
    | fwVerifyDone =>
    repeat' split
    all_goals simp [*]
  all_goals simp [h]

/-- Every command keeps the chain address and the leases sound. -/
theorem exec_keeps_nodeOk (i : Instr) (s : State) (h : NodeOk (s.part .node)) :
    Ends (fun t => NodeOk (t.part .node)) (exec i s) := by
  cases i
  case jtagExtest tdi => exact execJtagExtest_ends tdi s fun t ht => ht .node (by decide) ▸ h
  case puntPortRelease sl => exact (execPuntPortRelease_part .node (by decide) sl s).keeps h
  all_goals refine ends_next ?_
  case chainFrameRx => exact rx_node _ _ _ h
  case chainRequestRx =>
    split
    · exact rx_node _ _ _ h
    · exact h
  case enumWalk | enumAssign | enumClear | enumRing => exact enumRx_node _ _ _ _ h
  case leaseHeartbeat | leaseYield | leaseRelease => exact electionRx_node _ _ _ h
  case leaseTimerExpire => exact leaseExpire_node _ _ h
  case powerOn => exact powerUp_node s
  case resetNAssert =>
    split
    · exact h
    · exact pinReset_node s
  case brownoutEnter =>
    split
    · split
      · exact brownEnter_node s
      · exact h
    · exact h
  case bcastFilterLapse | barrierOpen | routeRowFree | lrnFlushDone | gateSwitch | updChunkAckTimer | fwReadyTimeout | brownoutExit =>
    split <;> simp [h]
  case sideStableTimer | syncStable | defectIntegrationTimer =>
    dsimp only
    repeat' split
    all_goals simp [*]
  case learnApply | ppsTimeout | refInputLoss | refInputReturn | bootSectionsWritten =>
    repeat' split
    all_goals simp [*]
  all_goals simp [h]

/-! ## One step -/

theorem step_nil {s : State} (h : s.pending = []) : step s = .next (tick s) := by
  unfold step
  rw [h]

theorem step_cons {s : State} {c : Instr} {rest : List Instr} (h : s.pending = c :: rest) :
    step s = exec c { s with pending := rest } := by
  unfold step
  rw [h]

/-- An idle nanosecond advances the model's clock by 1. -/
theorem tick_now (s : State) : (tick s).now = s.now + 1 := by
  unfold tick
  split
  · rfl
  · calc (tickInject (tickGen (tickStall (tickCycles (tickHolds (tickTime s)))))).now
        = (tickTime s).now := now_of_part (by simp)
      _ = s.now + 1 := rfl

/-- Settles O1: it is the branch of step for a command that waits. -/
theorem stepRunsFrontCommand : Obligations.StepRunsFrontCommand := fun _ _ _ => step_cons rfl

/-- Settles O2: a tick or the front command, and every command ends in a next state. -/
theorem everyStepCompletes : Obligations.EveryStepCompletes := by
  unfold Obligations.EveryStepCompletes
  refine ⟨fun s => ?completes, fun s h => ⟨tick s, step_nil h, tick_now s, ?queue⟩⟩
  case completes =>
    unfold stepCompletes
    cases hq : s.pending with
    | nil => rw [step_nil hq]
    | cons c rest =>
      obtain ⟨t, ht, -⟩ := (exec_keeps_queue c { s with pending := rest }).exists_next
      rw [step_cons hq, ht]
  case queue => exact (tick_part .pending (by decide) s).trans h

/-- Settles O3: no address, no lease, and erased flash. -/
theorem resetSound : Obligations.ResetSound := ⟨nodeOk_empty, SMap.wf_empty _⟩

/-- Settles O4: a tick leaves address, leases and flash, and every command keeps each of them sound. -/
theorem stepKeepsSound : Obligations.StepKeepsSound := by
  unfold Obligations.StepKeepsSound Sound
  rintro s t ⟨hnode, hflash⟩ hstep
  cases hq : s.pending with
  | nil =>
    obtain rfl : tick s = t := by simpa [step_nil hq] using hstep
    rw [node_of_part (tick_part .node (by decide) s), flash_of_part (tick_part .flash (by decide) s)]
    exact ⟨hnode, hflash⟩
  | cons c rest =>
    rw [step_cons hq] at hstep
    exact ⟨(exec_keeps_nodeOk c { s with pending := rest } hnode).of_next hstep,
      (exec_keeps_flashOk c { s with pending := rest } hflash).of_next hstep⟩

/-- Settles O5: a tick leaves the empty queue, and no command changes what it finds there. -/
theorem stepLeavesRestOfQueue : Obligations.StepLeavesRestOfQueue := by
  unfold Obligations.StepLeavesRestOfQueue
  intro s t hstep
  cases hq : s.pending with
  | nil =>
    obtain rfl : tick s = t := by simpa [step_nil hq] using hstep
    exact (tick_part .pending (by decide) s).trans hq
  | cons c rest =>
    rw [step_cons hq] at hstep
    exact (exec_keeps_queue c { s with pending := rest }).of_next hstep

end Sys2Proof.Machine
end

section
/-! SUPPORT. The register map as a set of rows (R7, R8, R10, R11): the indices of a row and their offset determine each other, and a
check on bases and strides alone shows that no two rows of a block share an address. -/

namespace Sys2Proof.Machine

/-! ## Offsets within a row -/

/-- One more than the highest offset of a row's indices. -/
def dimsSpan : List (Nat × Nat) → Nat
  | [] => 1
  | (count, stride) :: rest => (count - 1) * stride + dimsSpan rest

/-- Each stride is a multiple of 4 that has room for the dimensions inside it. -/
def dimsNest : List (Nat × Nat) → Bool
  | [] => true
  | (_, stride) :: rest => decide (dimsSpan rest ≤ stride) && decide (stride % 4 = 0) && dimsNest rest

theorem dimsSpan_pos (d : List (Nat × Nat)) : 0 < dimsSpan d := by
  induction d with
  | nil => decide
  | cons x d ih => exact Nat.add_pos_right _ ih

theorem dimsNest_cons {n s : Nat} {d : List (Nat × Nat)} (h : dimsNest ((n, s) :: d) = true) :
    dimsSpan d ≤ s ∧ s % 4 = 0 ∧ dimsNest d = true := by
  simpa [dimsNest, and_assoc] using h

theorem idxFit_cons {n s : Nat} {d : List (Nat × Nat)} {idx : List Nat} (h : idxFit ((n, s) :: d) idx = true) :
    ∃ i is, idx = i :: is ∧ i < n ∧ idxFit d is = true := by
  cases idx with
  | nil => simp [idxFit] at h
  | cons i is => exact ⟨i, is, rfl, by simpa [idxFit] using h⟩

theorem joinDims_lt_span {d : List (Nat × Nat)} {idx : List Nat} (h : idxFit d idx = true) : joinDims d idx < dimsSpan d := by
  induction d generalizing idx with
  | nil => cases idx <;> exact Nat.one_pos
  | cons x d ih =>
    obtain ⟨i, is, rfl, hi, his⟩ := idxFit_cons h
    have hle : i * x.2 ≤ (x.1 - 1) * x.2 := Nat.mul_le_mul_right _ (by omega)
    exact Nat.add_lt_add_of_le_of_lt hle (ih his)

/-- The indices of a row are read back from their offset. -/
theorem splitDims_joinDims {d : List (Nat × Nat)} {idx : List Nat} (hd : dimsNest d = true) (h : idxFit d idx = true) :
    splitDims d (joinDims d idx) = some idx := by
  induction d generalizing idx with
  | nil =>
    cases idx with
    | nil => rfl
    | cons i is => simp [idxFit] at h
  | cons x d ih =>
    obtain ⟨n, s⟩ := x
    obtain ⟨hspan, -, hd⟩ := dimsNest_cons hd
    obtain ⟨i, is, rfl, hi, his⟩ := idxFit_cons h
    have hlt : joinDims d is < s := Nat.lt_of_lt_of_le (joinDims_lt_span his) hspan
    have hdiv : (i * s + joinDims d is) / s = i := by
      rw [Nat.mul_comm, Nat.mul_add_div (by omega), Nat.div_eq_of_lt hlt, Nat.add_zero]
    have hmod : (i * s + joinDims d is) % s = joinDims d is := by
      rw [Nat.mul_comm, Nat.mul_add_mod, Nat.mod_eq_of_lt hlt]
    simp [joinDims, splitDims, hdiv, hmod, hi, ih hd his]

theorem joinDims_aligned {d : List (Nat × Nat)} {idx : List Nat} (hd : dimsNest d = true) : joinDims d idx % 4 = 0 := by
  induction d generalizing idx with
  | nil => cases idx <;> rfl
  | cons x d ih =>
    obtain ⟨n, s⟩ := x
    obtain ⟨-, hs, hd⟩ := dimsNest_cons hd
    cases idx with
    | nil => rfl
    | cons i is => simp [joinDims, Nat.add_mod, ih hd, Nat.mul_mod, hs]

/-! ## Rows that share no address -/

/-- The row with this base and these dimensions answers at the address. -/
def Answers (b : Nat) (d : List (Nat × Nat)) (a : Nat) : Prop := b ≤ a ∧ (splitDims d (a - b)).isSome = true

theorem splitDims_lt_span {d : List (Nat × Nat)} {off : Nat} (h : (splitDims d off).isSome = true) : off < dimsSpan d := by
  induction d generalizing off with
  | nil =>
    have : off = 0 := by by_contra hne; simp [splitDims, hne] at h
    exact this ▸ Nat.one_pos
  | cons x d ih =>
    obtain ⟨n, s⟩ := x
    rw [splitDims] at h
    split at h
    case isFalse => simp at h
    case isTrue hlt =>
      have hin : off % s < dimsSpan d := ih (by simpa using h)
      have hle : s * (off / s) ≤ s * (n - 1) := Nat.mul_le_mul_left _ (by omega)
      have hsum := Nat.div_add_mod off s
      rw [dimsSpan, Nat.mul_comm]
      omega

theorem Answers.lt {b a : Nat} {d : List (Nat × Nat)} (h : Answers b d a) : a < b + dimsSpan d := by
  have := splitDims_lt_span h.2
  have := h.1
  omega

/-- A row that lies in one cell of a stride answers, within the cell, at the address's place in the cell. -/
theorem Answers.mod {b a s : Nat} {d : List (Nat × Nat)} (h : Answers b d a) (hs : b % s + dimsSpan d ≤ s) :
    Answers (b % s) d (a % s) := by
  obtain ⟨off, rfl⟩ := Nat.exists_eq_add_of_le h.1
  have hoff := h.2
  rw [Nat.add_sub_cancel_left] at hoff
  have hlt := splitDims_lt_span hoff
  have hmod : (b + off) % s = b % s + off := by
    rw [← Nat.mod_add_mod, Nat.mod_eq_of_lt (by omega)]
  rw [hmod]
  exact ⟨Nat.le_add_right _ _, by rwa [Nat.add_sub_cancel_left]⟩

/-- A row whose outermost dimension has this stride answers, within a cell, at the place that its inner dimensions give. -/
theorem Answers.mod_inner {b a n s : Nat} {d : List (Nat × Nat)} (h : Answers b ((n, s) :: d) a) (hs : b % s + dimsSpan d ≤ s) :
    Answers (b % s) d (a % s) := by
  obtain ⟨off, rfl⟩ := Nat.exists_eq_add_of_le h.1
  have hoff := h.2
  rw [Nat.add_sub_cancel_left, splitDims] at hoff
  split at hoff
  case isFalse => simp at hoff
  case isTrue =>
    have hinner : Answers b d (b + off % s) :=
      ⟨Nat.le_add_right _ _, by rw [Nat.add_sub_cancel_left]; simpa using hoff⟩
    have hcell := hinner.mod hs
    rwa [Nat.add_mod_mod] at hcell

/-- The dimensions of a row within a cell of a stride. -/
def inCell (s : Nat) : List (Nat × Nat) → List (Nat × Nat)
  | [] => []
  | (n, t) :: d => if t = s then d else (n, t) :: d

theorem Answers.inCell {b a s : Nat} {d : List (Nat × Nat)} (h : Answers b d a) (hs : b % s + dimsSpan (inCell s d) ≤ s) :
    Answers (b % s) (inCell s d) (a % s) := by
  cases d with
  | nil => exact h.mod hs
  | cons x d =>
    obtain ⟨n, t⟩ := x
    by_cases ht : t = s
    · subst ht
      simp only [Machine.inCell, if_true] at hs ⊢
      exact h.mod_inner hs
    · simp only [Machine.inCell, if_neg ht] at hs ⊢
      exact h.mod hs

/-- No address is in both rows: their ranges do not meet, or each lies in one cell of a stride and they do not meet within a cell. The
strides to try are given. -/
def apart : List Nat → Nat → List (Nat × Nat) → Nat → List (Nat × Nat) → Bool
  | [], b, d, c, e => decide (b + dimsSpan d ≤ c) || decide (c + dimsSpan e ≤ b)
  | s :: l, b, d, c, e => apart l b d c e ||
      (decide (b % s + dimsSpan (inCell s d) ≤ s) && decide (c % s + dimsSpan (inCell s e) ≤ s) &&
        apart l (b % s) (inCell s d) (c % s) (inCell s e))

theorem not_answers_of_apart (l : List Nat) {b c a : Nat} {d e : List (Nat × Nat)} (h : apart l b d c e = true)
    (hd : Answers b d a) : ¬ Answers c e a := by
  induction l generalizing b c d e a with
  | nil =>
    intro he
    have h1 := hd.lt
    have h2 := he.lt
    have h3 := hd.1
    have h4 := he.1
    simp only [apart, Bool.or_eq_true, decide_eq_true_eq] at h
    omega
  | cons s l ih =>
    simp only [apart, Bool.or_eq_true, Bool.and_eq_true, decide_eq_true_eq] at h
    rcases h with h | ⟨⟨hb, hc⟩, h⟩
    · exact ih h hd
    · exact fun he => ih h (hd.inCell hb) (he.inCell hc)

/-- Two registers share no address. -/
def regsApart (r q : Reg) : Bool :=
  apart (r.info.dims.map Prod.snd ++ q.info.dims.map Prod.snd) r.info.base r.info.dims q.info.base q.info.dims

theorem Reg.at_eq_none_of_apart {r q : Reg} {a : Nat} {idx : List Nat} (h : regsApart r q = true) (hq : q.at a = some idx) :
    r.at a = none := by
  have hans : ∀ {x : Reg} {i : List Nat}, x.at a = some i → Answers x.info.base x.info.dims a := by
    intro x i hx
    unfold Reg.at at hx
    split at hx
    case isTrue hle => exact ⟨hle, by rw [hx]; rfl⟩
    case isFalse => cases hx
  cases hr : r.at a with
  | none => rfl
  | some i => exact (not_answers_of_apart _ h (hans hr) (hans hq)).elim

/-- Every register of the list shares no address with the ones behind it. -/
def listApart : List Reg → Bool
  | [] => true
  | r :: l => l.all (regsApart r) && listApart l

/-- In a list of registers that share no address the one that answers is found. -/
theorem regIn_eq_of_at {l : List Reg} {r : Reg} {a : Nat} {idx : List Nat} (hl : listApart l = true) (hr : r ∈ l)
    (h : r.at a = some idx) : regIn l a = some (r, idx) := by
  induction l with
  | nil => cases hr
  | cons q l ih =>
    simp only [listApart, Bool.and_eq_true, List.all_eq_true] at hl
    obtain ⟨hq, hl⟩ := hl
    rcases List.mem_cons.1 hr with rfl | hr
    · simp [regIn, h]
    · simp [regIn, Reg.at_eq_none_of_apart (hq r hr) h, ih hl hr]

/-! ## The map of the device -/

theorem fltRegs_apart : listApart fltRegs = true := rfl

theorem blockRegs_apart (k : Nat) (h : k < 21) : listApart (blockRegs k) = true := by
  interval_cases k <;> rfl

/-- A register is one of its block below the fault registers, or a fault register, which stands at one place of every block. -/
def rowPlaced (r : Reg) : Bool :=
  dimsNest r.info.dims && decide (r.info.base % 4 = 0) && decide (r.info.base + dimsSpan r.info.dims ≤ 0x15000000) &&
    if r ∈ fltRegs then
      decide (r.info.dims = [(21, 0x1000000)]) && decide (0xF00000 ≤ r.info.base) && decide (r.info.base < 0x1000000)
    else decide (r ∈ blockRegs (r.info.base / 0x1000000)) &&
      decide (r.info.base % 0x1000000 + dimsSpan r.info.dims ≤ 0xF00000)

theorem rowPlaced_all (r : Reg) : rowPlaced r = true := by
  cases r <;> rfl

theorem Reg.at_addr {r : Reg} {idx : List Nat} (hd : dimsNest r.info.dims = true) (h : idxFit r.info.dims idx = true) :
    r.at (r.addr idx) = some idx := by
  rw [Reg.at, Reg.addr, if_pos (Nat.le_add_right _ _), Nat.add_sub_cancel_left, splitDims_joinDims hd h]

/-- A register answers at its own address, which is aligned and lies in the 21 blocks. -/
theorem regAt_addr {r : Reg} {idx : List Nat} (h : idxFit r.info.dims idx = true) :
    regAt (r.addr idx) = some (r, idx) ∧ r.addr idx % 4 = 0 ∧ r.addr idx < 0x15000000 := by
  have hplaced := rowPlaced_all r
  simp only [rowPlaced, Bool.and_eq_true, decide_eq_true_eq] at hplaced
  obtain ⟨⟨⟨hnest, halign⟩, hbound⟩, hplace⟩ := hplaced
  have hat := Reg.at_addr hnest h
  have hlt := joinDims_lt_span h
  have haddr : r.addr idx = r.info.base + joinDims r.info.dims idx := rfl
  refine ⟨?_, ?_, by omega⟩
  case refine_2 => rw [haddr, Nat.add_mod, halign, joinDims_aligned hnest]
  case refine_1 =>
    unfold regAt
    split at hplace
    case isTrue hflt =>
      simp only [Bool.and_eq_true, decide_eq_true_eq] at hplace
      obtain ⟨⟨hdims, hlow⟩, hhigh⟩ := hplace
      rw [hdims] at h
      obtain ⟨i, is, rfl, hi, his⟩ := idxFit_cons h
      have hmod : r.addr (i :: is) % 0x1000000 = r.info.base := by
        have hrest : joinDims [] is = 0 := by cases is <;> rfl
        rw [haddr, hdims, joinDims, hrest]
        omega
      rw [if_pos (by omega)]
      exact regIn_eq_of_at fltRegs_apart hflt hat
    case isFalse =>
      simp only [Bool.and_eq_true, decide_eq_true_eq] at hplace
      obtain ⟨hmem, hcell⟩ := hplace
      have hdiv : r.addr idx / 0x1000000 = r.info.base / 0x1000000 := by omega
      rw [if_neg (by omega), hdiv]
      exact regIn_eq_of_at (blockRegs_apart _ (by omega)) hmem hat

/-- Settles O6: a row's offset gives its indices back, and no row before it in its block answers at its address. -/
theorem registerMapRoundTrip : Obligations.RegisterMapRoundTrip := by
  unfold Obligations.RegisterMapRoundTrip
  intro r idx h
  obtain ⟨hat, halign, hbound⟩ := regAt_addr h
  exact ⟨hat, halign, by omega⟩

end Sys2Proof.Machine
end

section
/-! SUPPORT. Accesses, said once for each outcome (R12, R13, R17, R70, R71): refused, unavailable, or carried out. -/

namespace Sys2Proof.Machine

/-! ## The outcomes of a read -/

theorem sessRead_undefined {s : State} (slot : Nat) {a : Nat} (hs : served s = true) (hd : definedAt s a = false) :
    sessRead s slot a = { s with acc := (stAddr, 0) } := by
  rw [sessRead, withSession_served hs]
  simp [readWord, hd]

theorem sessRead_unavailable {s : State} (slot : Nat) {a : Nat} (hs : served s = true) (hd : definedAt s a = true)
    (hv : availAddr s a = false) : sessRead s slot a = { s with acc := (stDomain, deadData a) } := by
  rw [sessRead, withSession_served hs]
  simp [readWord, hd, hv]

/-- A read of the low word of a counter latches the high word (R23). -/
theorem sessRead_counterLow {s : State} (slot : Nat) {a k : Nat} (hs : served s = true) (h4 : a % 4 = 0) (hr : regAt a = none)
    (hk : ctrWord s a = some (k, false)) (hv : availAddr s a = true) :
    sessRead s slot a = { (ctrReadLow s slot k).1 with acc := (stOk, (ctrReadLow s slot k).2) } := by
  rw [sessRead, withSession_served hs]
  simp [readWord, definedAt, h4, hr, hk, hv]

/-! ## The outcomes of a write -/

theorem sessWrite_unavailable {s : State} {slot a : Nat} {role : Role} (v : Word) (hs : served s = true) (hd : definedAt s a = true)
    (hh : holdsRole s slot role = true) (hw : roleWrites role a = true) (hv : availWrite s a = false) :
    sessWrite s slot role a v = { s with acc := (stDomain, 0) } := by
  rw [sessWrite, withSession_served hs]
  simp [writeWord, hd, hh, hw, hv, stDomain, stOk]

theorem sessWrite_denied {s : State} {slot a : Nat} {role : Role} (v : Word) (hs : served s = true) (hd : definedAt s a = true)
    (h : holdsRole s slot role = false ∨ roleWrites role a = false) :
    sessWrite s slot role a v = { count s 0 0x50 with acc := (stDenied, 0) } := by
  have hdenied : (!holdsRole s slot role || !roleWrites role a) = true := by
    rcases h with h | h <;> simp [h]
  rw [sessWrite, withSession_served hs]
  simp [writeWord, hd, hdenied, stDenied, stOk]

theorem sessWrite_allowed {s : State} {slot a : Nat} {role : Role} (v : Word) (hs : served s = true) (hd : definedAt s a = true)
    (hh : holdsRole s slot role = true) (hw : roleWrites role a = true) (hv : availWrite s a = true) :
    sessWrite s slot role a v =
      { (if (writeAt s a v).2 = stOk then writeEndAt a (writeAt s a v).1 else (writeAt s a v).1) with acc := ((writeAt s a v).2, 0) } := by
  rw [sessWrite, withSession_served hs]
  simp [writeWord, hd, hh, hw, hv]

theorem definedAt_of_regAt {s : State} {a : Nat} {x : Reg × List Nat} (h4 : a % 4 = 0) (ha : regAt a = some x) : definedAt s a = true := by
  simp [definedAt, h4, ha]

theorem availWrite_of_availAddr {s : State} {a : Nat} (h : availAddr s a = true) : availWrite s a = true := by
  simp [availWrite, h]

/-- The end of a request to an address that is no command window does nothing. -/
theorem writeEndAt_of_regAt {s : State} {a : Nat} {r : Reg} {idx : List Nat} (ha : regAt a = some (r, idx)) (h1 : r ≠ .tblCmdWin)
    (h2 : r ≠ .tcmCmdWin) : writeEndAt a s = s := by
  have htbl : regAt (Reg.addr .tblCmdWin []) = some (.tblCmdWin, []) := (regAt_addr rfl).1
  have htcm : regAt (Reg.addr .tcmCmdWin []) = some (.tcmCmdWin, []) := (regAt_addr rfl).1
  have a1 : a ≠ Reg.addr .tblCmdWin [] := fun e => by rw [e, htbl] at ha; cases ha; exact h1 rfl
  have a2 : a ≠ Reg.addr .tcmCmdWin [] := fun e => by rw [e, htcm] at ha; cases ha; exact h2 rfl
  simp [writeEndAt, a1, a2]

/-- The end of a request to a counter word does nothing. -/
theorem writeEndAt_of_no_register {s : State} {a : Nat} (ha : regAt a = none) : writeEndAt a s = s := by
  have htbl : regAt (Reg.addr .tblCmdWin []) = some (.tblCmdWin, []) := (regAt_addr rfl).1
  have htcm : regAt (Reg.addr .tcmCmdWin []) = some (.tcmCmdWin, []) := (regAt_addr rfl).1
  have a1 : a ≠ Reg.addr .tblCmdWin [] := fun e => by rw [e, htbl] at ha; cases ha
  have a2 : a ≠ Reg.addr .tcmCmdWin [] := fun e => by rw [e, htcm] at ha; cases ha
  simp [writeEndAt, a1, a2]

/-- An allowed write to a register that no apply keeps busy does what the register's write does. -/
theorem sessWrite_register {s : State} {slot a : Nat} {role : Role} {r : Reg} {idx : List Nat} (v : Word) (hs : served s = true)
    (h4 : a % 4 = 0) (ha : regAt a = some (r, idx)) (hh : holdsRole s slot role = true) (hw : roleWrites role a = true)
    (hv : availWrite s a = true) (hb : stWrite r = false ∨ applyRuns s = false ∨ s.fur.direct = true) (h1 : r ≠ .tblCmdWin)
    (h2 : r ≠ .tcmCmdWin) :
    sessWrite s slot role a v = { (writeReg s r idx v).1 with acc := (if (writeReg s r idx v).2 then stBusy else stOk, 0) } := by
  have hbusy : ¬ (stWrite r && applyRuns s && !s.fur.direct) = true := by
    rcases hb with hb | hb | hb <;> simp [hb]
  have hat : writeAt s a v = ((writeReg s r idx v).1, if (writeReg s r idx v).2 then stBusy else stOk) := by
    simp only [writeAt, ha, if_neg hbusy]
  rw [sessWrite_allowed v hs (definedAt_of_regAt h4 ha) hh hw hv, hat, writeEndAt_of_regAt ha h1 h2, ite_self]

/-- A write by the owner to a register with indices that fit does what the register's write does. -/
theorem ownWrite_register {s : State} {slot : Fin 4} {r : Reg} {idx : List Nat} (v : Word) (h : ownerMay s slot r idx = true)
    (hi : idxFit r.info.dims idx = true) (hk : tkReg r = false) (h1 : r ≠ .tblCmdWin) (h2 : r ≠ .tcmCmdWin) :
    ownWrite s slot.val r idx v = { (writeReg s r idx v).1 with acc := (if (writeReg s r idx v).2 then stBusy else stOk, 0) } :=
  ownWrite_eq v h (regAt_addr hi).1 (regAt_addr hi).2.1 hk h1 h2

/-- A write by the owner to a counter word. -/
theorem sessWrite_counter {s : State} {slot : Fin 4} {a k : Nat} {high : Bool} (v : Word) (hs : served s = true) (h4 : a % 4 = 0)
    (hr : regAt a = none) (hk : ctrWord s a = some (k, high)) (ho : isOwner s slot.val = true) (hv : availAddr s a = true) :
    sessWrite s slot.val .owner a v = { (if high then ctrWriteHigh s k v else ctrWriteLow s k v) with acc := (stOk, 0) } := by
  have hd : definedAt s a = true := by simp [definedAt, h4, hr, hk]
  have hw : roleWrites .owner a = true := by simp [roleWrites, hr]
  have hh : holdsRole s slot.val .owner = true := ho
  have hat : writeAt s a v = (if high then ctrWriteHigh s k v else ctrWriteLow s k v, stOk) := by
    cases high <;> simp [writeAt, hr, hk]
  rw [sessWrite_allowed v hs hd hh hw (availWrite_of_availAddr hv), hat, writeEndAt_of_no_register hr, ite_self]

/-- Settles O7: each refusal is decided before the word is touched. -/
theorem refusedAccesses : Obligations.RefusedAccesses := by
  unfold Obligations.RefusedAccesses
  refine ⟨fun slot addr s hs hd => ?undefined, fun slot addr s hs hd hv => ?unavailableRead,
    fun slot role addr val s hs hd hh hw hv => ?unavailableWrite, fun slot role addr val s hs hd h => ?denied⟩
  case undefined => exact congrArg Host.Outcome.next (sessRead_undefined slot.val hs hd)
  case unavailableRead => exact congrArg Host.Outcome.next (sessRead_unavailable slot.val hs hd hv)
  case unavailableWrite => exact congrArg Host.Outcome.next (sessWrite_unavailable val hs hd hh hw hv)
  case denied =>
    refine ⟨_, congrArg Host.Outcome.next (sessWrite_denied val hs hd h), rfl, ctrAt_count_same s 0 0x50,
      AgreeBut.acc (by simp) _ fun p hp => ?_⟩
    exact count_part p (fun e => hp (by simp [e])) s 0 0x50

end Sys2Proof.Machine
end

section
/-! Counters and latched words (R23, R24, R401, R483). -/

namespace Sys2Proof.Machine

/-- Latches of different slots at places below 2^48, where all addresses are, have different keys. -/
theorem latchKey_ne {i j k x : Nat} (hk : k < 2 ^ 48) (hx : x < 2 ^ 48) (h : j ≠ i) : latchKey j x ≠ latchKey i k := by
  unfold latchKey
  omega

/-- A counter's low word is read for the reading slot alone, at every place that an address names. -/
theorem latched_ctrReadLow_other (s : State) {slot j k x : Nat} (hx : x < 2 ^ 48) (h : j ≠ slot) :
    latched (ctrReadLow s slot k).1 j x = latched s j x :=
  SMap.get_set_other _ _ _ _ _ _ (latchKey_ne (by decide) hx h)

/-- The device of slot 0's lease whose DEV_CH_DENIED has wrapped to 0: its high word is not 0. -/
def wrappedState : State := { ownedState with ctr := SMap.empty.put (cOff 0 0x50) (some { cnt := 0, ovf := true }) }

/-- Refutes O9: slot 1 reads the low word of a wrapped counter, and place 2^48 of slot 0, which no address names, shows the latch. What
fails is the range of x, all numbers, and not R23: latched_ctrReadLow_other proves it for every place below 2^48. -/
theorem not_counterAndLatchAccesses : ¬ Obligations.CounterAndLatchAccesses := by
  unfold Obligations.CounterAndLatchAccesses
  rintro ⟨hlow, -⟩
  have hctr : ctrWord wrappedState (0xE00050 : Word).toNat = some (cOff 0 0x50, false) := by decide +kernel
  obtain ⟨t, hexec, -, hhigh, hothers, -⟩ := hlow 1 0xE00050 (cOff 0 0x50) wrappedState (by decide +kernel) (by decide)
    (by decide +kernel) hctr (by decide +kernel)
  have hplace : latched t 0 (2 ^ 48) = ctrReadHigh t 1 := rfl
  have hbefore : latched wrappedState 0 (2 ^ 48) = 0 := by decide +kernel
  have hset : (ctrAt wrappedState (cOff 0 0x50)).hi ≠ 0 := by decide +kernel
  exact hset (hhigh.symm.trans (hplace.symm.trans ((hothers 0 (2 ^ 48) (by decide)).trans hbefore)))

end Sys2Proof.Machine
end

section
/-! Registers that act by their access types alone (R16, R18, R19, R128). -/

namespace Sys2Proof.Machine

/-! ## What the write and the read of such a register are -/

theorem writeReg_inert {s : State} {r : Reg} {idx : List Nat} (v : Word) (h : inertPort s r idx = true) :
    writeReg s r idx v = (s, false) := by
  unfold writeReg
  exact if_pos h

/-- Every register with a rule of its own for writes acts otherwise than by its access types, so it is in neither class. -/
theorem writeReg_plain {s : State} {r : Reg} {idx : List Nat} (v : Word) (h : plainWrite r = true ∨ plainStage r = true)
    (hi : inertPort s r idx = false) : writeReg s r idx v = (writePlain s r idx v, false) := by
  unfold writeReg
  refine (if_neg (by rw [hi]; exact Bool.false_ne_true)).trans ?_
  clear hi
  cases r with
  | devFurlongCommit | devFurlongCfg | devUnfence | pwrDomCmd | imgBootSel | imgApply | imgSliceLoad | imgSteer | imgKeyRevoke
  | lpGrpMode | lpPortCfg | lpLaneTxeq | lpSynceCfg | otnCfg | slcParseCap | tblCmdWin | tblEmRehash | lrnHcmd | lrnCopy | tcmBank
  | tcmAlias | tcmCmdWin | xeEngineFence | xeClassA | xeClassB | xeClassC | ellBcfg | bpmDfreeCap | bpmMcgIng | bpmMcgEg
  | hbmUeCap | hbmStackCfg | hbmChCfg | schNMap | schNCir | schNPir | schNBurst | schNQcfg | schNQmax | tgtTbCtrl | tgtTbCmd
  | tgtGcfgA | tgtGcfgB | tgtGclW0 | tgtGclW1 | fabCfg | fabCmd | fabLaneCfg | fabPeerEn | fabTwinCfg | recCmd | recRdIdx | recCfg
  | recOvrA | recOvrB | pmcSetCmd | pmcEntry | updCmd | updRelay | fltMask | fltSticky | fltFirst => exact absurd h (by decide)
  | _ => rfl

theorem writeReg_plainWrite {s : State} {r : Reg} {idx : List Nat} (v : Word) (h : plainWrite r = true)
    (hi : inertPort s r idx = false) : writeReg s r idx v = (writePlain s r idx v, false) := writeReg_plain v (.inl h) hi

theorem writeReg_plainStage {s : State} {r : Reg} {idx : List Nat} (v : Word) (h : plainStage r = true)
    (hi : inertPort s r idx = false) : writeReg s r idx v = (writePlain s r idx v, false) := writeReg_plain v (.inr h) hi

/-- The owner's read of a register that latches and pops nothing clears its RC bits in the register. -/
theorem rcClear_plainRead {s : State} {r : Reg} {idx : List Nat} (h : plainRead r = true) :
    rcClear s r idx = setReg s r idx (regRaw s r idx &&& ~~~(BitVec.ofNat 32 r.info.rc)) := by
  unfold rcClear
  cases r with
  | lpTxtsHdr | bpmPoolMin | schNQmax => exact absurd h (by decide)
  | _ => rfl

theorem readReg_plainRead {s : State} {slot : Nat} {r : Reg} {idx : List Nat} (h : plainRead r = true)
    (hi : inertPort s r idx = false) :
    readReg s slot r idx = (if isOwner s slot && r.info.rc != 0 then
      setReg s r idx (regRaw s r idx &&& ~~~(BitVec.ofNat 32 r.info.rc)) else s, regView s slot r idx) := by
  have hread : readReg s slot r idx =
      if isOwner s slot && r.info.rc != 0 then (rcClear s r idx, regView s slot r idx) else (s, regView s slot r idx) := by
    unfold readReg
    refine (if_neg (by rw [hi]; exact Bool.false_ne_true)).trans ?_
    clear hi
    cases r with
    | devFurlongSeqLo | tgtTbNsLo | tgtPpsCapLo | otnSmTtiRx | otnPmTtiRx | tblFailFifo | tcmFailFifo | lrnNotify => exact absurd h (by decide)
    | _ => rfl
  rw [hread, rcClear_plainRead h]
  split
  · rfl
  · rfl

/-- What a read of an RC register leaves: cleared bits for the owner, and the register as it was for any other session (R18). -/
theorem regRaw_rcRead_same (s : State) (slot : Nat) (r : Reg) (idx : List Nat) :
    regRaw (if isOwner s slot && r.info.rc != 0 then setReg s r idx (regRaw s r idx &&& ~~~(BitVec.ofNat 32 r.info.rc)) else s) r idx =
      if isOwner s slot then regRaw s r idx &&& ~~~(BitVec.ofNat 32 r.info.rc) else regRaw s r idx := by
  by_cases ho : isOwner s slot = true
  · by_cases hrc : r.info.rc = 0
    · simp only [hrc, ho, bne_self_eq_false, Bool.and_false, Bool.false_eq_true, if_false, if_true]
      rw [BitVec.not_zero, BitVec.and_allOnes]
    · simp [ho, hrc]
  · simp [ho]

theorem regRaw_rcRead_other (s : State) (slot : Nat) {r q : Reg} {idx jdx : List Nat} (h : q.addr jdx ≠ r.addr idx) :
    regRaw (if isOwner s slot && r.info.rc != 0 then setReg s r idx (regRaw s r idx &&& ~~~(BitVec.ofNat 32 r.info.rc)) else s) q jdx =
      regRaw s q jdx := by
  split
  · exact regRaw_setReg_other _ _ _ _ _ _ h
  · rfl

/-- A read of a register that is defined and available. -/
theorem sessRead_register {s : State} (slot : Nat) {a : Nat} {r : Reg} {idx : List Nat} (hs : served s = true) (h4 : a % 4 = 0)
    (ha : regAt a = some (r, idx)) (hv : availAddr s a = true) :
    sessRead s slot a = { (readReg s slot r idx).1 with acc := (stOk, (readReg s slot r idx).2) } := by
  rw [sessRead, withSession_served hs]
  simp [readWord, definedAt_of_regAt h4 ha, hv, ha]

/-- A write by access types with no staged bits: RW bits take the value, W1C bits clear, every other register stays. -/
theorem regRaw_writePlain_same {s : State} {r : Reg} {idx : List Nat} (v : Word) (hst : r.info.st = 0) :
    regRaw (writePlain s r idx v) r idx =
      ((regRaw s r idx &&& ~~~(BitVec.ofNat 32 r.info.rw)) ||| (v &&& BitVec.ofNat 32 r.info.rw)) &&&
        ~~~(v &&& BitVec.ofNat 32 r.info.w1c) := by
  unfold writePlain
  simp only [hst, if_true]
  split
  case isTrue hnone =>
    simp only [hnone.1, hnone.2, BitVec.and_zero, BitVec.or_zero, BitVec.not_zero, BitVec.and_allOnes]
  case isFalse => exact regRaw_setReg_same _ _ _ _

theorem regRaw_writePlain_other {s : State} {r q : Reg} {idx jdx : List Nat} (v : Word) (hst : r.info.st = 0)
    (h : q.addr jdx ≠ r.addr idx) : regRaw (writePlain s r idx v) q jdx = regRaw s q jdx := by
  unfold writePlain
  simp only [hst, if_true]
  split
  case isTrue => rfl
  case isFalse => exact regRaw_setReg_other _ _ _ _ _ _ h

theorem writePlain_agree {s : State} {r : Reg} {idx : List Nat} (v : Word) (hst : r.info.st = 0) :
    AgreeBut [.regs] s (writePlain s r idx v) := by
  intro p hp
  simp only [writePlain, hst, if_true, part_ite]
  rw [setReg_part p (by simpa using hp), ite_self]

/-- A write to a register whose bits are all staged stages them. -/
theorem writePlain_plainStage {s : State} {r : Reg} {idx : List Nat} (v : Word) (h : plainStage r = true)
    (hd : s.fur.direct = false) : writePlain s r idx v = stage s r idx (v &&& BitVec.ofNat 32 r.info.st) := by
  simp only [plainStage, Bool.and_eq_true, bne_iff_ne, beq_iff_eq] at h
  obtain ⟨⟨⟨⟨hst, hrw⟩, hw1⟩, -⟩, -⟩ := h
  simp [writePlain, stageOrNow, hst, hrw, hw1, hd]

theorem stWrite_of_plainWrite {r : Reg} (h : plainWrite r = true) : stWrite r = false := by
  unfold plainWrite at h
  simpa using (Bool.and_eq_true_iff.1 h).1

theorem st_eq_zero_of_stWrite {r : Reg} (h : stWrite r = false) : r.info.st = 0 := by
  simp only [stWrite, Bool.or_eq_false_iff, bne_eq_false_iff_eq] at h
  exact h.1

theorem not_cmdWin_of_plainWrite {r : Reg} (h : plainWrite r = true) : r ≠ .tblCmdWin ∧ r ≠ .tcmCmdWin := by
  constructor
  · rintro rfl
    exact absurd h (by decide)
  · rintro rfl
    exact absurd h (by decide)

theorem not_cmdWin_of_plainStage {r : Reg} (h : plainStage r = true) : r ≠ .tblCmdWin ∧ r ≠ .tcmCmdWin := by
  constructor
  · rintro rfl
    exact absurd h (by decide)
  · rintro rfl
    exact absurd h (by decide)

theorem not_cmdWin_of_inert {s : State} {r : Reg} {idx : List Nat} (h : inertPort s r idx = true) :
    r ≠ .tblCmdWin ∧ r ≠ .tcmCmdWin := by
  constructor <;> rintro rfl <;> simp [inertPort] at h

/-! ## The statement on single accesses -/

/-- Settles O8: the access reaches the register's write or read, and that goes by the masks of its row. -/
theorem singleAccesses : Obligations.SingleAccesses := by
  unfold Obligations.SingleAccesses
  refine ⟨fun slot role addr val r idx s hs h4 ha hp hi hh hw hv => ?write, fun slot role addr val r idx s hs h4 ha hi hb hh hw hv => ?inert,
    fun slot addr val r idx s hs h4 ha hp hi hd hb ho hw hv => ?stage, fun slot addr r idx s hs h4 ha hp hi hv => ?read⟩
  case write =>
    have hst := stWrite_of_plainWrite hp
    have hz := st_eq_zero_of_stWrite hst
    obtain ⟨h1, h2⟩ := not_cmdWin_of_plainWrite hp
    have hend := sessWrite_register val hs h4 ha hh hw (availWrite_of_availAddr hv) (.inl hst) h1 h2
    rw [writeReg_plainWrite val hp hi] at hend
    refine ⟨_, congrArg Host.Outcome.next hend, rfl, regRaw_writePlain_same val hz, fun r' idx' => regRaw_writePlain_other val hz,
      AgreeBut.acc (by simp) _ ((writePlain_agree val hz).mono (by simp))⟩
  case inert =>
    obtain ⟨h1, h2⟩ := not_cmdWin_of_inert hi
    have hend := sessWrite_register val hs h4 ha hh hw (availWrite_of_availAddr hv) (hb.imp_right .inl) h1 h2
    rw [writeReg_inert val hi] at hend
    exact congrArg Host.Outcome.next hend
  case stage =>
    obtain ⟨h1, h2⟩ := not_cmdWin_of_plainStage hp
    have hend := sessWrite_register (role := .owner) val hs h4 ha ho hw (availWrite_of_availAddr hv) (.inr (.inl hb)) h1 h2
    rw [writeReg_plainStage val hp hi, writePlain_plainStage val hp hd] at hend
    exact congrArg Host.Outcome.next hend
  case read =>
    have hend := sessRead_register slot.val hs h4 ha hv
    rw [readReg_plainRead hp hi] at hend
    refine ⟨_, congrArg Host.Outcome.next hend, rfl, regRaw_rcRead_same s slot.val r idx, fun r' idx' => regRaw_rcRead_other s slot.val,
      AgreeBut.acc (by simp) _ (AgreeBut.ite (fun p hp' => setReg_part p (fun e => hp' (by simp [e])) s _ _ _) (AgreeBut.refl _ s))⟩

end Sys2Proof.Machine
end

section
/-! SUPPORT. Bits and fields of words that are put together from parts, what a fault's rise leaves, and frames from the lemma of one
operation. -/

namespace Sys2Proof.Machine

/-! ## Bits of a word -/

theorem tbit_or (a b : Word) (i : Nat) : tbit (a ||| b) i = (tbit a i || tbit b i) := by
  simp [tbit, Nat.testBit_or]

theorem tbit_eq_getLsbD (w : Word) (i : Nat) : tbit w i = w.getLsbD i := rfl

theorem tbit_mkF_same (hi lo v i : Nat) (h : lo ≤ i ∧ i < hi + 1 ∧ i < 32) : tbit (mkF hi lo v) i = v.testBit (i - lo) := by
  rw [tbit_eq_getLsbD, getLsbD_mkF]
  simp [h]

theorem tbit_mkF_other (hi lo v i : Nat) (h : i < lo ∨ hi < i) : tbit (mkF hi lo v) i = false := by
  rw [tbit_eq_getLsbD, getLsbD_mkF]
  rcases h with h | h
  · simp [Nat.not_le.2 h]
  · simp [show ¬ i < hi + 1 by omega]

theorem tbit_mkB (i j : Nat) (b : Bool) : tbit (mkB i b) j = (b && decide (j < 32) && decide (i = j)) := by
  cases b
  · simp [mkB, tbit_eq_getLsbD]
  · rw [mkB, if_pos rfl, tbit_eq_getLsbD, BitVec.getLsbD_ofNat, Nat.shiftLeft_eq, Nat.one_mul, Nat.testBit_two_pow]
    rfl

theorem tbit_mkB_same (i : Nat) (b : Bool) (h : i < 32) : tbit (mkB i b) i = b := by
  simp [tbit_mkB, h]

theorem tbit_mkB_other (i j : Nat) (b : Bool) (h : j ≠ i) : tbit (mkB i b) j = false := by
  simp [tbit_mkB, h.symm]

theorem tbit_setBit_same (w : Word) (i : Nat) (b : Bool) (h : i < 32) : tbit (setBit w i b) i = b := by
  refine (getLsbD_setFld w i i b.toNat i).trans ?_
  cases b <;> simp [h]

theorem tbit_setBit_other (w : Word) (i j : Nat) (b : Bool) (h : j ≠ i) : tbit (setBit w i b) j = tbit w j := by
  refine (getLsbD_setFld w i i b.toNat j).trans ?_
  rw [if_neg (by omega)]
  rfl

theorem fld_mkB_other (i : Nat) (b : Bool) (hi lo : Nat) (h : i < lo ∨ hi < i) : fld (mkB i b) hi lo = 0 := by
  apply Nat.eq_of_testBit_eq
  intro j
  rw [testBit_fld, Nat.zero_testBit]
  by_cases hj : j < hi + 1 - lo
  · have hbit : (mkB i b).getLsbD (j + lo) = false := tbit_mkB_other i (j + lo) b (by omega)
    simp [hbit]
  · simp [hj]

/-! ## A fault's rise -/

theorem fltOf_congr {s t : State} (h : t.flt.blk = s.flt.blk) (b : Nat) : fltOf t b = fltOf s b :=
  congrArg (fun m : SMap FltRegs => m.get {} b) h

@[simp] theorem fltOf_setFenced (s : State) (b u : Nat) (x : Bool) (c : Nat) : fltOf (setFenced s b u x) c = fltOf s c :=
  fltOf_congr rfl c

@[simp] theorem fltOf_dropLost (s : State) (c : Nat) : fltOf (dropLost s) c = fltOf s c := fltOf_congr rfl c

theorem fatalEnter_fltBlk (s : State) (blk bit inst : Nat) (m : Bool) : (fatalEnter s blk bit inst m).flt.blk = s.flt.blk := by
  unfold fatalEnter
  split
  · rfl
  · dsimp only
    rw [flt_of_part (saveLife_part .flt (by decide) _), flt_of_part (logRec_part .flt (by decide) _ _ _)]

/-- The fault registers of the block after a rise of one of its sources are what the rise makes of them. -/
theorem fltOf_faultRise_same {s : State} {blk bit : Nat} {i : FltInfo} (inst : Nat) (d4 d5 : Word) (h : fltInfo blk bit = some i) :
    fltOf (faultRise s blk bit inst d4 d5) blk = (fltOf s blk).rise (tbit (fltMask s blk) bit) s.now i.cls bit inst := by
  refine Eq.trans (fltOf_congr ?_ blk) (fltOf_setFlt_same s blk _)
  simp only [faultRise, h, apply_ite State.flt, apply_ite FltSt.blk, fatalEnter_fltBlk, occur_flt, ite_self]

theorem latch_sticky (r : FltRegs) (now cls src inst : Nat) : (r.latch now cls src inst).sticky = r.sticky := by
  unfold FltRegs.latch
  split
  · rfl
  · split <;> rfl

theorem rise_sticky (r : FltRegs) (m : Bool) (now cls src inst : Nat) : (r.rise m now cls src inst).sticky = setBit r.sticky src true := by
  cases m
  · exact latch_sticky _ _ _ _ _
  · rfl

/-- The first rise of a block whose source is not masked is the one that FLT_FIRST takes (R458). -/
theorem rise_first (r : FltRegs) (now cls src inst : Nat) (h : r.valid = false) :
    (r.rise false now cls src inst).valid = true ∧ (r.rise false now cls src inst).cls = cls ∧
      (r.rise false now cls src inst).src = src ∧ (r.rise false now cls src inst).inst = inst := by
  simp [FltRegs.rise, FltRegs.latch, FltRegs.take, h]

/-! ## Frames -/

/-- A frame lemma whose hypothesis names the parts that may change gives the frame of a list that holds these parts. -/
theorem AgreeBut.of_part {l : List Part} {s t : State} {C : Part → Prop} (hl : ∀ p, p ∉ l → C p)
    (h : ∀ p, C p → t.part p = s.part p) : AgreeBut l s t :=
  fun p hp => h p (hl p hp)

end Sys2Proof.Machine
end

section
/-! The statement about crossings (R33, R35). -/

namespace Sys2Proof.Machine

/-- A clock domain without units of Table 16.6 is fenced alone (R33). -/
theorem xdomFence_no_units {s : State} {blk dom : Nat} (hu : domUnits blk dom = []) (hh : holds s blk 31 (0xFF00 + dom) = false) :
    xdomFence s blk dom = dropLost (setFenced (faultRise s blk 31 (0xFF00 + dom) 31 0) blk (0xFF00 + dom) true) := by
  simp [xdomFence, hu, condRise, hh]

theorem isFenced_xdomFence (s : State) (blk dom : Nat) : isFenced (xdomFence s blk dom) blk (0xFF00 + dom) = true :=
  isFenced_setFenced_same _ _ _ _

/-- Settles O11: a timeout raises source 0 of DEV, the first of its FLT_FIRST; a stall raises source 31 of the block and fences. -/
theorem crossingCommands : Obligations.CrossingCommands := by
  unfold Obligations.CrossingCommands
  refine ⟨fun addr s hs hd hv hblk hvalid hmask => ?timeout, fun blk dom s hon hunits hholds => ?stallAlone, fun blk dom s hon => ?stall⟩
  case timeout =>
    have hend : withSession s (fun t =>
        if !definedAt t addr.toNat then { t with acc := (stAddr, 0) }
        else { (if availAddr t addr.toNat && !islandBlock (addr.toNat / 0x1000000) then
            faultRise t 0 0 (addr.toNat / 0x1000000) 0 addr else t) with acc := (stDomain, deadData addr.toNat) }) =
        { faultRise s 0 0 (addr.toNat / 0x1000000) 0 addr with acc := (stDomain, deadData addr.toNat) } := by
      rw [withSession_served hs]
      simp [hd, hv, hblk]
    have hrise := fltOf_faultRise_same (s := s) (addr.toNat / 0x1000000) 0 addr (show fltInfo 0 0 = some ⟨2, false, 0x3E0⟩ from rfl)
    rw [hmask] at hrise
    obtain ⟨hv1, hcls, hsrc, hinst⟩ := rise_first (fltOf s 0) s.now 2 0 (addr.toNat / 0x1000000) hvalid
    refine ⟨_, congrArg Host.Outcome.next hend, rfl, (congrArg FltRegs.valid hrise).trans hv1, (congrArg FltRegs.cls hrise).trans hcls,
      (congrArg FltRegs.src hrise).trans hsrc, (congrArg FltRegs.inst hrise).trans hinst, ?_,
      AgreeBut.acc (by simp) _ fun p hp => faultRise_part p (by simp at hp; simp [hp]) _ _ _ _ _ _⟩
    refine (congrArg (fun r : FltRegs => tbit r.sticky 0) hrise).trans ?_
    simp [rise_sticky, tbit_setBit_same]
  case stallAlone =>
    refine ⟨_, congrArg Host.Outcome.next (if_pos hon), isFenced_xdomFence s _ _, ?_, fun p hp => ?_⟩
    · have hinfo : fltInfo blk.val 31 = some ⟨2, true, blk.val * 0x400 + 0x3FF⟩ := by simp [fltInfo, blk.isLt]
      rw [xdomFence_no_units hunits hholds, fltOf_dropLost, fltOf_setFenced, fltOf_faultRise_same _ _ _ hinfo, rise_sticky, tbit_setBit_same _ _ _ (by decide)]
    · rw [xdomFence_no_units hunits hholds, dropLost_part p (by simp at hp; simp [hp]), setFenced_part p (by simp at hp; simp [hp]),
        faultRise_part p (by simp at hp; simp [hp])]
  case stall =>
    exact ⟨_, congrArg Host.Outcome.next (if_pos hon), isFenced_xdomFence s _ _,
      fun p hp => xdomFence_part p (by simp at hp; simp [hp]) _ _ _⟩

end Sys2Proof.Machine
end

section
/-! The furlong controller's commands: GO, GO with AT and CANCEL (R41, R44 to R47). -/

namespace Sys2Proof.Machine

/-- An owner's write of a register: what the register's write leaves, with its answer. -/
theorem ownWrite_of_writeReg {s t : State} {slot : Fin 4} {r : Reg} {idx : List Nat} {v : Word} {busy : Bool}
    (h : ownerMay s slot r idx = true) (hw : writeReg s r idx v = (t, busy)) (hi : idxFit r.info.dims idx = true)
    (hk : tkReg r = false) (h1 : r ≠ .tblCmdWin) (h2 : r ≠ .tcmCmdWin) :
    ownWrite s slot.val r idx v = { t with acc := (if busy then stBusy else stOk, 0) } := by
  rw [ownWrite_register v h hi hk h1 h2, hw]

/-- The owner's write of DEV_FURLONG_COMMIT. -/
theorem ownWrite_commit {s t : State} {slot : Fin 4} {v : Word} {busy : Bool} (h : ownerMay s slot .devFurlongCommit [] = true)
    (hw : commitWrite s v = (t, busy)) :
    ownWrite s slot.val .devFurlongCommit [] v = { t with acc := (if busy then stBusy else stOk, 0) } :=
  ownWrite_of_writeReg h hw rfl rfl (by decide) (by decide)

/-! ## What GO and CANCEL are -/

theorem commitWrite_go {s : State} (h : applyRuns s = false) : commitWrite s 1 = furGo s false := by
  simp [commitWrite, tbit, Nat.testBit, h]

theorem commitWrite_goAt {s : State} (h : applyRuns s = false) : commitWrite s 3 = furGo s true := by
  simp [commitWrite, tbit, Nat.testBit, h]

theorem commitWrite_cancel (s : State) : commitWrite s 4 = furCancel s := by
  simp [commitWrite, tbit, Nat.testBit]

theorem furGo_busy {s : State} (at' : Bool) (hd : s.fur.direct = false) (hb : furBusy s = true) : furGo s at' = (furFlag s 26, true) := by
  simp [furGo, hd, hb]

theorem furGo_now {s : State} (hd : s.fur.direct = false) (hb : furBusy s = false) : furGo s false = (sealOpen s none, false) := by
  simp [furGo, hd, hb]

theorem furGo_scheduled {s : State} (hd : s.fur.direct = false) (hb : furBusy s = false) :
    furGo s true = if furlongAt s % furPeriod s = 0 then (sealOpen s (some (furlongAt s)), false) else (furFlag s 25, false) := by
  simp [furGo, hd, hb]

theorem furCancel_armed {s : State} (hd : s.fur.direct = false) (ha : s.fur.armed = true) : furCancel s = (s, true) := by
  simp [furCancel, hd, ha]

theorem furCancel_before_arming {s : State} (hd : s.fur.direct = false) (ha : s.fur.armed = false) (hr : applyRuns s = false)
    (hb : furBusy s = true) (hf : s.fur.byFail = false) : furCancel s = (furFlag (dropSealed s) 28, false) := by
  simp [furCancel, hd, ha, hr, hb, hf]

/-- A flag of DEV_FURLONG_STATUS stands once it is set. -/
theorem rb_furFlag_same (s : State) (bit : Nat) (h : bit < 32) : rb (furFlag s bit) .devFurlongStatus [] bit = true :=
  rb_setRB_same s _ _ _ _ h

theorem sealOpen_agree (s : State) (at' : Option Nat) : AgreeBut [.fur] s (sealOpen s at') :=
  fun p hp => sealOpen_part p (by simpa using hp) s at'

theorem furFlag_agree (s : State) (bit : Nat) : AgreeBut [.regs] s (furFlag s bit) :=
  fun p hp => furFlag_part p (by simpa using hp) s bit

theorem dropSealed_agree (s : State) : AgreeBut [.fur] s (dropSealed s) :=
  fun p hp => dropSealed_part p (by simpa using hp) s

/-- Settles O12: GO seals or flags by what stands in its way, and CANCEL by whether the set is armed. -/
theorem furlongGoAndCancel : Obligations.FurlongGoAndCancel := by
  unfold Obligations.FurlongGoAndCancel
  refine ⟨fun slot s h hd hr hb => ?go, fun slot s h hd hr hb => ?refused, fun slot s h hd hr hb hat => ?goAt,
    fun slot s h hd hr hb hat => ?badAt, fun slot s h hd hr ha hb hf => ?cancel, fun slot s h hd ha => ?cancelArmed⟩
  case go =>
    have hend := ownWrite_commit h ((commitWrite_go hr).trans (furGo_now hd hb))
    exact ⟨_, congrArg Host.Outcome.next hend, rfl, rfl, rfl, rfl,
      AgreeBut.acc (by simp) _ ((sealOpen_agree s none).mono (by simp))⟩
  case refused =>
    have hend := ownWrite_commit h ((commitWrite_go hr).trans (furGo_busy false hd hb))
    exact ⟨_, congrArg Host.Outcome.next hend, rfl, rb_furFlag_same s 26 (by decide), rfl,
      AgreeBut.acc (by simp) _ ((furFlag_agree s 26).mono (by simp))⟩
  case goAt =>
    have hend := ownWrite_commit h ((commitWrite_goAt hr).trans ((furGo_scheduled hd hb).trans (if_pos hat)))
    exact ⟨_, congrArg Host.Outcome.next hend, rfl, rfl, rfl, rfl,
      AgreeBut.acc (by simp) _ ((sealOpen_agree s _).mono (by simp))⟩
  case badAt =>
    have hend := ownWrite_commit h ((commitWrite_goAt hr).trans ((furGo_scheduled hd hb).trans (if_neg hat)))
    exact ⟨_, congrArg Host.Outcome.next hend, rfl, rb_furFlag_same s 25 (by decide), rfl,
      AgreeBut.acc (by simp) _ ((furFlag_agree s 25).mono (by simp))⟩
  case cancel =>
    have hend := ownWrite_commit h ((commitWrite_cancel s).trans (furCancel_before_arming hd ha hr hb hf))
    exact ⟨_, congrArg Host.Outcome.next hend, rfl, rfl, rfl, rfl, rfl, rb_furFlag_same _ 28 (by decide),
      AgreeBut.acc (by simp) _ (((dropSealed_agree s).mono (by simp)).trans ((furFlag_agree _ 28).mono (by simp)))⟩
  case cancelArmed =>
    exact congrArg Host.Outcome.next (ownWrite_commit h ((commitWrite_cancel s).trans (furCancel_armed hd ha)))

end Sys2Proof.Machine
end

section
/-! SUPPORT. Chain frames and ports: header fields (R59, R60), what a launch changes, the wires, and what each operation of a side
leaves (R62 to R67, R80 to R83). -/

namespace Sys2Proof.Machine

/-! ## Header fields -/

theorem testBit_bitsOf (x hi lo i : Nat) : (bitsOf x hi lo).testBit i = (decide (i < hi + 1 - lo) && x.testBit (i + lo)) := by
  rw [bitsOf, Nat.testBit_mod_two_pow, Nat.testBit_shiftRight, Nat.add_comm lo]

/-- Bit i of a header with a field set. -/
theorem testBit_hset (h : BitVec 128) (hi lo v i : Nat) (hhi : hi < 128) (hi' : i < 128) :
    (hset h hi lo v).toNat.testBit i = (if lo ≤ i ∧ i < hi + 1 then v.testBit (i - lo) else h.toNat.testBit i) := by
  have hm : (2 ^ (hi + 1 - lo) - 1) <<< lo < 2 ^ 128 := by
    by_cases hlo : lo ≤ hi + 1
    · have hpow : 2 ^ (hi + 1 - lo) * 2 ^ lo ≤ 2 ^ 128 := by
        rw [← Nat.pow_add]
        exact Nat.pow_le_pow_right (by decide) (by omega)
      have hlt : (2 ^ (hi + 1 - lo) - 1) * 2 ^ lo < 2 ^ (hi + 1 - lo) * 2 ^ lo :=
        Nat.mul_lt_mul_of_pos_right (Nat.sub_lt (Nat.two_pow_pos _) Nat.one_pos) (Nat.two_pow_pos _)
      rw [Nat.shiftLeft_eq]
      exact Nat.lt_of_lt_of_le hlt hpow
    · simp [Nat.sub_eq_zero_of_le (show hi + 1 ≤ lo by omega)]
  have hmask : (2 ^ 128 - 1 - (2 ^ (hi + 1 - lo) - 1) <<< lo).testBit i = !decide (lo ≤ i ∧ i < hi + 1) := by
    rw [Nat.sub_sub, Nat.add_comm 1, Nat.testBit_two_pow_sub_succ hm, Nat.testBit_shiftLeft, Nat.testBit_two_pow_sub_one]
    by_cases h1 : lo ≤ i <;> by_cases h2 : i < hi + 1 <;> simp [h1, h2, hi'] <;> omega
  rw [hset, BitVec.toNat_ofNat, Nat.testBit_mod_two_pow, Nat.testBit_or, Nat.testBit_and, hmask, Nat.testBit_shiftLeft,
    Nat.testBit_mod_two_pow]
  by_cases h1 : lo ≤ i <;> by_cases h2 : i < hi + 1 <;> simp [h1, h2, hi'] <;> omega

/-- Setting a field of a header leaves a field that does not meet it. -/
theorem bitsOf_hset_other (h : BitVec 128) {hi lo v a b : Nat} (hhi : hi < 128) (ha : a < 128) (hd : a < lo ∨ hi < b) :
    bitsOf (hset h hi lo v).toNat a b = bitsOf h.toNat a b := by
  apply Nat.eq_of_testBit_eq
  intro i
  rw [testBit_bitsOf, testBit_bitsOf]
  by_cases hi' : i < a + 1 - b
  · rw [testBit_hset h hi lo v _ hhi (by omega), if_neg (by omega)]
  · simp [hi']

/-- Checks cover the frame and no field above them changes. -/
theorem hf_sealFrame (f : ChainFrame) {a b : Nat} (ha : a < 128) (hb : 15 < b) : hf (sealFrame f) a b = hf f a b :=
  bitsOf_hset_other f.hdr (by decide) ha (.inr hb)

theorem hf_rehash (f : ChainFrame) {a b : Nat} (ha : a < 128) (hb : 15 < b) : hf (rehash f) a b = hf f a b :=
  bitsOf_hset_other f.hdr (by decide) ha (.inr hb)

section
variable (ty ring dst src tag epoch status op addr : Nat) (payload : List Word)

/-- The fields of a frame that the node originates, before its checks. -/
def originHdr : Nat :=
  ty <<< 124 ||| (ring % 2) <<< 123 ||| (if 8 ≤ ty ∧ ty ≤ 10 then 1 else 0) <<< 120 ||| 160 <<< 112
    ||| (dst % 128) <<< 105 ||| (src % 128) <<< 98 ||| (tag % 4096) <<< 86 ||| (epoch % 65536) <<< 70
    ||| (payload.length % 1024) <<< 60 ||| (status % 256) <<< 52 ||| (op % 16) <<< 48 ||| (addr % 2 ^ 32) <<< 16

theorem mkFrame_eq : mkFrame ty ring dst src tag epoch status op addr payload =
    sealFrame { hdr := BitVec.ofNat 128 (originHdr ty ring dst src tag epoch status op addr payload), payload := payload, fcrc := 0,
                errEnd := false } := rfl

theorem hf_mkFrame {a b : Nat} (ha : a < 128) (hb : 15 < b) :
    hf (mkFrame ty ring dst src tag epoch status op addr payload) a b =
      bitsOf (originHdr ty ring dst src tag epoch status op addr payload) a b := by
  rw [mkFrame_eq, hf_sealFrame _ ha hb, hf]
  apply Nat.eq_of_testBit_eq
  intro i
  rw [testBit_bitsOf, testBit_bitsOf, BitVec.toNat_ofNat, Nat.testBit_mod_two_pow]
  by_cases hi : i < a + 1 - b
  · simp [show i + b < 128 by omega]
  · simp [hi]

/-- The bits of a field's value within its width. -/
theorem testBit_originHdr (j : Nat) : (originHdr ty ring dst src tag epoch status op addr payload).testBit j =
    (decide (124 ≤ j) && ty.testBit (j - 124) || decide (j = 123) && ring.testBit 0 ||
      decide (j = 120) && decide (8 ≤ ty ∧ ty ≤ 10) || decide (112 ≤ j ∧ j < 120) && (160).testBit (j - 112) ||
      decide (105 ≤ j ∧ j < 112) && dst.testBit (j - 105) || decide (98 ≤ j ∧ j < 105) && src.testBit (j - 98) ||
      decide (86 ≤ j ∧ j < 98) && tag.testBit (j - 86) || decide (70 ≤ j ∧ j < 86) && epoch.testBit (j - 70) ||
      decide (60 ≤ j ∧ j < 70) && payload.length.testBit (j - 60) || decide (52 ≤ j ∧ j < 60) && status.testBit (j - 52) ||
      decide (48 ≤ j ∧ j < 52) && op.testBit (j - 48) || decide (16 ≤ j ∧ j < 48) && addr.testBit (j - 16)) := by
  have hfield : ∀ (v w k : Nat), ((v % 2 ^ w) <<< k).testBit j = (decide (k ≤ j ∧ j < k + w) && v.testBit (j - k)) := by
    intro v w k
    rw [Nat.testBit_shiftLeft, Nat.testBit_mod_two_pow]
    by_cases h1 : k ≤ j
    · by_cases h2 : j < k + w
      · simp [h1, h2, show j - k < w by omega]
      · simp [h1, h2, show ¬ j - k < w by omega]
    · simp [h1]
  have hone : ∀ (v k : Nat), ((v % 2) <<< k).testBit j = (decide (j = k) && v.testBit 0) := by
    intro v k
    refine (hfield v 1 k).trans ?_
    by_cases hj : j = k
    · simp [hj]
    · rw [decide_eq_false (show ¬ (k ≤ j ∧ j < k + 1) by omega), decide_eq_false hj, Bool.false_and, Bool.false_and]
  have hhops : ((160 : Nat) <<< 112).testBit j = (decide (112 ≤ j ∧ j < 120) && (160).testBit (j - 112)) := hfield 160 8 112
  have hprio : ((if 8 ≤ ty ∧ ty ≤ 10 then 1 else 0) <<< 120).testBit j = (decide (j = 120) && decide (8 ≤ ty ∧ ty ≤ 10)) := by
    have h2 : (if 8 ≤ ty ∧ ty ≤ 10 then 1 else 0) = (if 8 ≤ ty ∧ ty ≤ 10 then 1 else 0) % 2 := by split <;> rfl
    rw [h2, hone]
    split <;> simp [*]
  have htype : (ty <<< 124).testBit j = (decide (124 ≤ j) && ty.testBit (j - 124)) := Nat.testBit_shiftLeft ..
  have h7 := fun v k => hfield v 7 k
  have h12 := fun v k => hfield v 12 k
  have h16 := fun v k => hfield v 16 k
  have h10 := fun v k => hfield v 10 k
  have h8 := fun v k => hfield v 8 k
  have h4 := fun v k => hfield v 4 k
  simp only [Nat.reducePow] at h7 h12 h16 h10 h8 h4
  simp only [originHdr, Nat.testBit_or, htype, hone, hprio, hhops, h7, h12, h16, h10, h8, h4, hfield, Nat.reduceAdd]

/-- A field that the header takes from a value, bit by bit. -/
theorem bitsOf_originHdr {a b v : Nat}
    (h : ∀ i, i < a + 1 - b → (originHdr ty ring dst src tag epoch status op addr payload).testBit (i + b) = v.testBit i) :
    bitsOf (originHdr ty ring dst src tag epoch status op addr payload) a b = v % 2 ^ (a + 1 - b) := by
  apply Nat.eq_of_testBit_eq
  intro i
  rw [testBit_bitsOf, Nat.testBit_mod_two_pow]
  by_cases hi : i < a + 1 - b
  · simp [hi, h i hi]
  · simp [hi]

theorem fType_mkFrame : fType (mkFrame ty ring dst src tag epoch status op addr payload) = ty % 16 := by
  rw [fType, hf_mkFrame _ _ _ _ _ _ _ _ _ _ (by decide) (by decide)]
  refine bitsOf_originHdr _ _ _ _ _ _ _ _ _ _ fun i hi => ?_
  rw [testBit_originHdr]
  simp only [Nat.reduceAdd, Nat.reduceSub] at hi
  interval_cases i <;> simp

theorem fTag_mkFrame : fTag (mkFrame ty ring dst src tag epoch status op addr payload) = tag % 4096 := by
  rw [fTag, hf_mkFrame _ _ _ _ _ _ _ _ _ _ (by decide) (by decide)]
  refine bitsOf_originHdr _ _ _ _ _ _ _ _ _ _ fun i hi => ?_
  rw [testBit_originHdr]
  simp only [Nat.reduceAdd, Nat.reduceSub] at hi
  interval_cases i <;> simp

theorem fDst_mkFrame : fDst (mkFrame ty ring dst src tag epoch status op addr payload) = dst % 128 := by
  rw [fDst, hf_mkFrame _ _ _ _ _ _ _ _ _ _ (by decide) (by decide)]
  refine bitsOf_originHdr _ _ _ _ _ _ _ _ _ _ fun i hi => ?_
  rw [testBit_originHdr]
  simp only [Nat.reduceAdd, Nat.reduceSub] at hi
  interval_cases i <;> simp

theorem fStatus_mkFrame : fStatus (mkFrame ty ring dst src tag epoch status op addr payload) = status % 256 := by
  rw [fStatus, hf_mkFrame _ _ _ _ _ _ _ _ _ _ (by decide) (by decide)]
  refine bitsOf_originHdr _ _ _ _ _ _ _ _ _ _ fun i hi => ?_
  rw [testBit_originHdr]
  simp only [Nat.reduceAdd, Nat.reduceSub] at hi
  interval_cases i <;> simp

end

/-! ## Counters of other blocks -/

theorem ctrAt_congr {s t : State} (h : t.ctr = s.ctr) (k : Nat) : ctrAt t k = ctrAt s k :=
  congrArg (fun m : SMap Ctr => m.get {} k) h

theorem ctrAt_count_other (s : State) (b o : Nat) {k : Nat} (h : k ≠ cOff b o) : ctrAt (count s b o) k = ctrAt s k :=
  ctrAt_bumpN_other s _ k 1 h

/-- The recorder counts in its own block alone. -/
theorem ctrAt_occur_other (s : State) (code cls inst : Nat) (d4 d5 : Word) {k : Nat} (h : k / 0x1000000 ≠ 0x11) :
    ctrAt (occur s code cls inst d4 d5) k = ctrAt s k := by
  have h0 : k ≠ cOff 0x11 0 := fun e => h (e ▸ rfl)
  have h1 : k ≠ cOff 0x11 0x10 := fun e => h (e ▸ rfl)
  have h2 : k ≠ cOff 0x11 0x18 := fun e => h (e ▸ rfl)
  unfold occur
  split
  · unfold acceptOcc
    dsimp only
    split
    · rw [ctrAt_count_other _ _ _ h2, ctrAt_bumpN_other _ _ _ _ h1, ctrAt_count_other _ _ _ h0]
      rfl
    · rw [ctrAt_bumpN_other _ _ _ _ h1, ctrAt_count_other _ _ _ h0]
      rfl
  · rfl

theorem ctrAt_event_other (s : State) (code inst d : Nat) {k : Nat} (h : k / 0x1000000 ≠ 0x11) :
    ctrAt (event s code inst d) k = ctrAt s k := ctrAt_occur_other _ _ _ _ _ _ h

theorem ctrAt_event2_other (s : State) (code inst d e : Nat) {k : Nat} (h : k / 0x1000000 ≠ 0x11) :
    ctrAt (event2 s code inst d e) k = ctrAt s k := ctrAt_occur_other _ _ _ _ _ _ h

/-! ## What sending changes -/

theorem pushPort_chain (s : State) (port : Nat) (f : ChainFrame) (transit : Bool) :
    ∃ q, (pushPort s port f transit).chain = { s.chain with txq := q } := by
  unfold pushPort
  dsimp only
  split
  · split
    · exact ⟨_, rfl⟩
    · exact ⟨_, rfl⟩
  · exact ⟨_, rfl⟩

theorem sendOn_chain (s : State) (ring : Nat) (f : ChainFrame) (transit : Bool) :
    ∃ q, (sendOn s ring f transit).chain = { s.chain with txq := q } := by
  unfold sendOn
  split
  · split
    · exact ⟨_, rfl⟩
    · exact pushPort_chain ..
  · exact pushPort_chain ..

theorem launch_chain (s : State) (ring : Nat) (f : ChainFrame) : ∃ q, (launch s ring f).chain = { s.chain with txq := q } := by
  unfold launch
  split
  · exact sendOn_chain ..
  · exact ⟨_, rfl⟩

/-- A local frame is counted only where no port may send it. -/
theorem ctrAt_sendOn_other (s : State) (ring : Nat) (f : ChainFrame) {k : Nat} (h : k ≠ cOff 0 0x40) :
    ctrAt (sendOn s ring f false) k = ctrAt s k := by
  unfold sendOn
  split
  · split
    · exact ctrAt_count_other _ _ _ h
    · rfl
  · rfl

theorem ctrAt_launch_other (s : State) (ring : Nat) (f : ChainFrame) {k : Nat} (h : k ≠ cOff 0 0x40) :
    ctrAt (launch s ring f) k = ctrAt s k := by
  unfold launch
  split
  · exact ctrAt_sendOn_other _ _ _ h
  · rfl

/-- A ring state frame changes queues, the next TAG, and when the next one may go (R83). -/
theorem sendRingState_chain (s : State) :
    ∃ q n d a, (sendRingState s).chain = { s.chain with txq := q, nextTag := n, ringStateDue := d, ringStateAt := a } := by
  unfold sendRingState
  dsimp only
  split
  · exact ⟨_, _, _, _, rfl⟩
  · split
    · obtain ⟨q, hq⟩ := launch_chain (modChain (modChain s (fun c => { c with ringStateDue := false, ringStateAt := s.now + 10000 }))
        (fun c => { c with nextTag := (c.nextTag + 1) % 4096 })) 0 _
      exact ⟨_, _, _, _, hq⟩
    · obtain ⟨q, hq⟩ := launch_chain (modChain s (fun c => { c with ringStateDue := false, ringStateAt := s.now + 10000 })) 0 _
      exact ⟨_, _, _, _, hq⟩

/-- A ring state frame that may go is no longer due, and the next one waits 10 µs (R83). -/
theorem sendRingState_sent {s : State} (h : s.chain.ringStateAt ≤ s.now) :
    (sendRingState s).chain.ringStateDue = false ∧ (sendRingState s).chain.ringStateAt = s.now + 10000 := by
  unfold sendRingState
  rw [if_neg (Nat.not_lt.2 h)]
  dsimp only
  split
  · obtain ⟨q, hq⟩ := launch_chain (modChain (modChain s (fun c => { c with ringStateDue := false, ringStateAt := s.now + 10000 }))
      (fun c => { c with nextTag := (c.nextTag + 1) % 4096 })) 0 _
    rw [broadcast, hq]
    exact ⟨rfl, rfl⟩
  · obtain ⟨q, hq⟩ := launch_chain (modChain s (fun c => { c with ringStateDue := false, ringStateAt := s.now + 10000 })) 0 _
    rw [hq]
    exact ⟨rfl, rfl⟩

theorem ctrAt_sendRingState_other (s : State) {k : Nat} (h : k ≠ cOff 0 0x40) : ctrAt (sendRingState s) k = ctrAt s k := by
  unfold sendRingState
  dsimp only
  split
  · rfl
  · split
    · exact ctrAt_launch_other _ _ _ h
    · exact ctrAt_launch_other _ _ _ h

@[simp] theorem sideOf_setSide_same (s : State) (east : Bool) (x : Side) : sideOf (setSide s east x) east = x := by
  cases east <;> rfl

@[simp] theorem sideOf_setSide_other (s : State) (east : Bool) (x : Side) : sideOf (setSide s east x) (!east) = sideOf s (!east) := by
  cases east <;> rfl

theorem sideOf_congr {s t : State} (hw : t.chain.west = s.chain.west) (he : t.chain.east = s.chain.east) (east : Bool) :
    sideOf t east = sideOf s east := by
  cases east
  · exact hw
  · exact he

@[simp] theorem sideOf_sendRingState (s : State) (east : Bool) : sideOf (sendRingState s) east = sideOf s east := by
  obtain ⟨q, n, d, a, h⟩ := sendRingState_chain s
  exact sideOf_congr (by rw [h]) (by rw [h]) east

end Sys2Proof.Machine
end

section
/-! The statements about the chain's frames and sides (R55, R61 to R66, R80 to R83). -/

namespace Sys2Proof.Machine

/-- A good frame for another device is forwarded on the ring on which it came (R62). -/
theorem rx_forward {s : State} {f : ChainFrame} (hon : onChain s = true) (hlock : s.chain.lock.get false 0 = true)
    (herr : f.errEnd = false) (hhead : headOk f = true) (hok : frameOk f = true) (hty : fType f < 0xA) (hdst : fDst f < 63)
    (hme : fDst f ≠ nodeId s) (hsrc : fSrc f ≠ nodeId s) : rx s 0 f = forward s 0 f := by
  have hown : ownReturn s 0 f = false := by simp [ownReturn, hsrc]
  have hrs : ownRingState s 0 f = false := by
    by_cases h0 : nodeId s = 0
    · simp [ownRingState, h0, h0 ▸ hsrc]
    · simp [ownRingState, h0]
  have hring : ringFrame s 0 0 f = forward s 0 f := by
    unfold ringFrame
    rw [if_neg (by omega), if_neg (by simp [hown]), if_neg (by simp [hrs]), if_neg (by omega), if_neg hme]
  unfold rx frameRx
  simp [hon, hlock, herr, hhead, hok, ringOf, hring, show fType f ≠ 10 by omega]

theorem sendOn_open {s : State} {ring : Nat} (f : ChainFrame) (transit : Bool) (h : (exitSide s ring).wrapped = false) :
    sendOn s ring f transit = pushPort s (exitPort ring) f transit := by
  simp [sendOn, h]

/-- A transit frame that fits goes behind the ones that wait (R66). -/
theorem pushPort_transit {s : State} {port k : Nat} {f : ChainFrame} (hk : k = port * 3 + classOf (fType f))
    (h : ((s.chain.txq.get {} k).transit.map frameBytes).sum + frameBytes f ≤ 65536) :
    pushPort s port f true = modChain s (fun c => { c with
      txq := c.txq.set {} k { s.chain.txq.get {} k with transit := (s.chain.txq.get {} k).transit ++ [f] } }) := by
  subst hk
  simp [pushPort, h]

/-- A frame as it leaves for the next node: HOPS one lower (R62). -/
def hopped (f : ChainFrame) : ChainFrame := rehash { f with hdr := hset f.hdr 119 112 (fHops f - 1) }

theorem fType_hopped (f : ChainFrame) : fType (hopped f) = fType f :=
  (hf_rehash _ (by decide) (by decide)).trans (bitsOf_hset_other f.hdr (by decide) (by decide) (.inr (by decide)))

/-- A frame that is forwarded joins the transit queue of its class at the port where the ring leaves (R62, R66). -/
theorem forward_transit {s : State} {ring k : Nat} {f : ChainFrame} (hhops : fHops f ≠ 0) (hw : (exitSide s ring).wrapped = false)
    (hk : k = exitPort ring * 3 + classOf (fType f))
    (h : ((s.chain.txq.get {} k).transit.map frameBytes).sum + frameBytes f ≤ 65536) :
    forward s ring f = modChain s (fun c => { c with
      txq := c.txq.set {} k { s.chain.txq.get {} k with transit := (s.chain.txq.get {} k).transit ++ [hopped f] } }) := by
  rw [forward, if_neg hhops, sendOn_open _ _ hw]
  exact pushPort_transit (f := hopped f) (by rw [hk, fType_hopped]) h

theorem txNext_local {q : TxQ} {f : ChainFrame} {rest : List ChainFrame} (ht : q.transit = []) (hl : q.localQ = f :: rest) :
    txNext q = some (f, false, { q with localQ := rest, run := 0 }) := by
  simp [txNext, ht, hl]

/-- A port whose control queue holds a local frame at its front sends it before the other classes (R66). -/
theorem portTx_control {s : State} {port : Nat} {f : ChainFrame} {rest : List ChainFrame} (ht : (s.chain.txq.get {} (port * 3)).transit = [])
    (hl : (s.chain.txq.get {} (port * 3)).localQ = f :: rest) (hw : (exitSide s (if port = 1 then 0 else 1)).wrapped = false) :
    portTx s port = modChain s (fun c => lineSend port f { c with
      txq := c.txq.set {} (port * 3) { s.chain.txq.get {} (port * 3) with localQ := rest, run := 0 }
      sent := c.sent.put port (some f) }) := by
  have hfirst : (List.range 3).findSome? (fun c => (txNext (s.chain.txq.get {} (port * 3 + c))).map (fun x => (c, x))) =
      some (0, f, false, { s.chain.txq.get {} (port * 3) with localQ := rest, run := 0 }) := by
    rw [List.range_succ_eq_map, List.findSome?_cons, Nat.add_zero, txNext_local ht hl]
    rfl
  have hside : ∀ (m : ChainSt → SMap TxQ) (ring : Nat), exitSide (modChain s (fun y => { y with txq := m y })) ring = exitSide s ring :=
    fun _ _ => rfl
  unfold portTx
  simp only [hfirst, hside, hw, Bool.false_eq_true, if_false]
  rfl

/-- Settles O14: the frame is forwarded, discarded or sent by the branch of its rule. -/
theorem chainForwarding : Obligations.ChainForwarding := by
  unfold Obligations.ChainForwarding
  refine ⟨fun port f s hon hp hlock herr hhead hok hty hdst hme hsrc hhops hwrap hroom => ?forward,
    fun port f s hon hlock herr hhead => ?bad, fun src b s hon hb hlapse => ?lapse, fun s hon hhold hdue hat => ?holdoff,
    fun port f rest s hon htr hloc hwrap => ?tx, fun a s hon hskew => ?lock, fun a s hskew => ?skew⟩
  case forward =>
    have hend := (rx_forward hon hlock herr hhead hok hty hdst hme hsrc).trans
      (forward_transit (k := 3 + classOf (fType f)) hhops hwrap rfl hroom)
    have hget := SMap.get_set_same s.chain.txq {} (3 + classOf (fType f)) { s.chain.txq.get {} (3 + classOf (fType f)) with
      transit := (s.chain.txq.get {} (3 + classOf (fType f))).transit ++ [hopped f] }
    refine ⟨_, congrArg Host.Outcome.next ((congrArg (fun q => rx s q f) hp).trans hend), congrArg TxQ.transit hget,
      (congrArg TxQ.localQ hget).trans rfl, fun p hp => modChain_part p (by simpa using hp) _ _⟩
  case bad =>
    refine congrArg Host.Outcome.next ?_
    simp [rx, frameRx, hon, hlock, herr, hhead]
  case lapse =>
    have hend : (match s.chain.bcast.find src.val with
        | some b => if onChain s && decide (b.until' ≤ s.now) then modChain s (fun c => { c with bcast := c.bcast.put src.val none }) else s
        | none => s) = modChain s (fun c => { c with bcast := c.bcast.put src.val none }) := by
      simp [hb, hon, hlapse]
    exact ⟨_, congrArg Host.Outcome.next hend, SMap.find_put_same _ _ _, fun p hp => modChain_part p (by simpa using hp) _ _⟩
  case holdoff =>
    have hgo : (onChain s && decide (s.chain.holdUntil ≤ s.now) && s.chain.ringStateDue && decide (s.chain.ringStateAt ≤ s.now)) = true := by
      simp [hon, hhold, hdue, hat]
    obtain ⟨hsent, hnext⟩ := sendRingState_sent hat
    exact ⟨_, congrArg Host.Outcome.next (if_pos hgo), hsent, hnext, fun p hp => sendRingState_part p (by simp at hp; simp [hp]) s⟩
  case tx =>
    have hend := portTx_control htr hloc hwrap
    have hget := SMap.get_set_same s.chain.txq {} (port.val * 3) { s.chain.txq.get {} (port.val * 3) with localQ := rest, run := 0 }
    exact ⟨_, congrArg Host.Outcome.next ((if_pos hon).trans hend), SMap.find_put_same _ _ _, (congrArg TxQ.localQ hget).trans rfl, SMap.get_upd_same _ _ _ _,
      fun p hp => modChain_part p (by simpa using hp) _ _⟩
  case lock =>
    have hgo : (onChain s && decide (a.skew ≤ 32)) = true := by simp [hon, hskew]
    refine ⟨_, congrArg Host.Outcome.next (if_pos hgo), SMap.get_set_same _ _ _ _, rfl, rfl,
      fun p hp => modChain_part p (by simpa using hp) _ _⟩
  case skew =>
    have hstop : (onChain s && decide (a.skew ≤ 32)) = false := by simp [Nat.not_le.2 hskew]
    exact congrArg Host.Outcome.next (if_neg (by simp [hstop]))

end Sys2Proof.Machine
end

section
/-! The statement about requests (R68 to R73). -/

namespace Sys2Proof.Machine

/-- A ring frame whose destination is this device is delivered. -/
theorem rx_deliver {s : State} {f : ChainFrame} (hon : onChain s = true) (hlock : s.chain.lock.get false 0 = true)
    (herr : f.errEnd = false) (hhead : headOk f = true) (hok : frameOk f = true) (hty : fType f < 0xA) (hme : fDst f = nodeId s)
    (hdst : 0 < fDst f ∧ fDst f < 63) (hsrc : fSrc f ≠ nodeId s) : rx s 0 f = deliver s 0 f := by
  have hown : ownReturn s 0 f = false := by simp [ownReturn, hsrc]
  have hrs : ownRingState s 0 f = false := by
    have h0 : nodeId s ≠ 0 := by omega
    simp [ownRingState, h0]
  have hring : ringFrame s 0 0 f = deliver s 0 f := by
    unfold ringFrame
    rw [if_neg (by omega), if_neg (by simp [hown]), if_neg (by simp [hrs]), if_neg (by omega), if_pos hme]
  unfold rx frameRx
  simp [hon, hlock, herr, hhead, hok, ringOf, hring, show fType f ≠ 10 by omega]

theorem deliver_request {s : State} {port : Nat} {f : ChainFrame} (h : fType f < 2) : deliver s port f = requestRx s port f := by
  obtain h0 | h1 : fType f = 0 ∨ fType f = 1 := by omega
  · simp [deliver, h0]
  · simp [deliver, h1]

/-- A request that matches no kept reply joins the queue while there is room (R72). -/
theorem requestRx_queued {s : State} {port : Nat} {f : ChainFrame} (hid : nodeId s ≠ 0) (hdst : fDst f ≠ 63) (hfw : fwRuns s = true)
    (hnew : (s.chain.replies.get [] (slotOf f)).find? (fun x => x.key == replyKey f) = none) (hroom : s.chain.reqs.length < 128) :
    requestRx s port f = modChain s (fun c => { c with reqs := c.reqs ++ [(port, f)] }) := by
  simp [requestRx, hid, hdst, hnew, hfw, show ¬ 128 ≤ s.chain.reqs.length by omega]

theorem frontReq_front {s : State} {port : Nat} {f : ChainFrame} {rest : List (Nat × ChainFrame)} (hheld : s.chain.heldResp = none)
    (hq : s.chain.reqs = (port, f) :: rest) : frontReq s (fType f) = some (port, f) := by
  simp [frontReq, hheld, hq]

/-! ## Responses -/

theorem hf_lt (f : ChainFrame) (hi lo : Nat) : hf f hi lo < 2 ^ (hi + 1 - lo) := Nat.mod_lt _ (Nat.two_pow_pos _)

theorem fType_response {s : State} {f : ChainFrame} (status addr : Nat) (data : List Word) (h : fType f < 2) :
    fType (response s f status addr data) = fType f + 2 := by
  rw [response, fType_mkFrame]
  omega

theorem fTag_response (s : State) (f : ChainFrame) (status addr : Nat) (data : List Word) : fTag (response s f status addr data) = fTag f := by
  rw [response, fTag_mkFrame]
  exact Nat.mod_eq_of_lt (hf_lt f 97 86)

theorem fDst_response (s : State) (f : ChainFrame) (status addr : Nat) (data : List Word) : fDst (response s f status addr data) = fSrc f := by
  rw [response, fDst_mkFrame]
  exact Nat.mod_eq_of_lt (hf_lt f 104 98)

theorem fStatus_response {s : State} {f : ChainFrame} {status : Nat} (addr : Nat) (data : List Word) (h : status < 256) :
    fStatus (response s f status addr data) = status := by
  rw [response, fStatus_mkFrame]
  exact Nat.mod_eq_of_lt h

/-- The last reply kept is the newest one (R73). -/
theorem getLast_keep {α : Type} (l : List α) (x : α) : ((l ++ [x]).drop ((l ++ [x]).length - 32)).getLast? = some x := by
  rw [List.getLast?_drop]
  simp

/-- An answered request leaves the request queue as it was, and its response is the newest of its slot's cache (R73). -/
theorem finishReq_answered {s : State} (port : Nat) {f : ChainFrame} (r : ChainFrame) (hdst : fDst f ≠ 63) (hslot : slotOf f < 4) :
    (finishReq s port f r).chain.reqs = s.chain.reqs ∧
      ((finishReq s port f r).chain.replies.get [] (slotOf f)).getLast? = some { key := replyKey f, resp := r } := by
  obtain ⟨q, hq⟩ := launch_chain (cacheReply s f r) (oppRing port) r
  rw [finishReq, if_neg hdst, respond, hq, cacheReply, if_neg (by omega)]
  refine ⟨rfl, ?_⟩
  exact (congrArg List.getLast? (SMap.get_upd_same _ _ _ _)).trans (getLast_keep _ _)

/-- The request at the front is taken. -/
def reqTaken (s : State) : State := modChain s (fun c => { c with reqs := c.reqs.drop 1 })

theorem reqTaken_reqs {s : State} {x : Nat × ChainFrame} {rest : List (Nat × ChainFrame)} (hq : s.chain.reqs = x :: rest) :
    (reqTaken s).chain.reqs = rest := congrArg (List.drop 1) hq

theorem readRequest_formed {s : State} {port : Nat} {f : ChainFrame} (hfront : frontReq s 0 = some (port, f)) (hid : nodeId s ≠ 0)
    (hf : readFormed f = true) :
    readRequest s = finishReq (carryRead (reqTaken s) f).s port f
      (response (carryRead (reqTaken s) f).s f (carryRead (reqTaken s) f).status (carryRead (reqTaken s) f).addr
        (carryRead (reqTaken s) f).data) := by
  unfold readRequest
  rw [hfront]
  dsimp only
  rw [if_neg hid, if_pos hf]
  rfl

theorem readRequest_malformed {s : State} {port : Nat} {f : ChainFrame} (hfront : frontReq s 0 = some (port, f)) (hid : nodeId s ≠ 0)
    (hf : readFormed f = false) :
    readRequest s = finishReq (reqTaken s) port f (response (reqTaken s) f stMalformed (fAddr f) []) := by
  unfold readRequest
  rw [hfront]
  dsimp only
  rw [if_neg hid, if_neg (by simp [hf])]
  rfl

/-! ## A write of one word -/

/-- What the owner's write of SCH_POL_PAGE leaves. -/
def polPageWritten (s : State) (v : Word) : State := writePlain s .schPolPage [] v

theorem polPageWritten_agree (s : State) (v : Word) : AgreeBut [.regs] s (polPageWritten s v) := writePlain_agree v rfl

theorem regRaw_polPageWritten (s : State) (v : Word) :
    regRaw (polPageWritten s v) .schPolPage [] = (regRaw s .schPolPage [] &&& ~~~(0x3F : Word)) ||| (v &&& 0x3F) := by
  refine (regRaw_writePlain_same v rfl).trans ?_
  rw [show BitVec.ofNat 32 Reg.schPolPage.info.rw = 0x3F from rfl, show BitVec.ofNat 32 Reg.schPolPage.info.w1c = 0#32 from rfl,
    BitVec.and_zero, BitVec.not_zero, BitVec.and_allOnes]

theorem writeWord_polPage {s : State} {slot : Nat} (v : Word) (ho : isOwner s slot = true)
    (hv : availAddr s (Reg.addr .schPolPage []) = true) :
    writeWord s slot .owner false (Reg.addr .schPolPage []) v = (polPageWritten s v, stOk) := by
  obtain ⟨hat, h4, -⟩ := regAt_addr (r := .schPolPage) (idx := []) rfl
  have hh : holdsRole s slot .owner = true := ho
  have hw : roleWrites .owner (Reg.addr .schPolPage []) = true := by simp [roleWrites, hat, tkReg]
  have hreg : writeReg s .schPolPage [] v = (polPageWritten s v, false) := writeReg_plainWrite v rfl rfl
  have hst : stWrite .schPolPage = false := rfl
  simp [writeWord, definedAt_of_regAt h4 hat, hh, hw, availWrite_of_availAddr hv, writeAt, hat, hst, hreg]

theorem writeEnd_idle {s : State} (htbl : s.tbl.win = []) (htcm : s.tcm.win = []) : writeEnd s = s := by
  have h1 : tblWinEnd s = s := by simp [tblWinEnd, htbl]
  rw [writeEnd, h1]
  simp [tcmWinEnd, htcm]

/-- A request that writes SCH_POL_PAGE alone, by the owner (R69, R71). -/
theorem carryWrite_polPage {s : State} {f : ChainFrame} {v : Word} (hop : fOp f = 0) (hpay : f.payload = [v])
    (haddr : fAddr f = Reg.addr .schPolPage []) (ho : isOwner s (slotOf f) = true) (hep : fEpoch f = s.node.owner.epoch)
    (hv : availAddr s (Reg.addr .schPolPage []) = true) (htbl : s.tbl.win = []) (htcm : s.tcm.win = []) :
    (carryWrite s f).s = polPageWritten s v ∧ (carryWrite s f).status = stOk := by
  have hrole : reqRole f = .owner := by simp [reqRole, hop]
  have hstale : reqStale s f = false := by simp [reqStale, hop, leaseOf, hep]
  have haddr0 : wordAddr f 0 = Reg.addr .schPolPage [] := by simp [wordAddr, hop, haddr]
  have hword : fWord f 0 = v := by simp [fWord, hpay]
  have hagree := polPageWritten_agree s v
  have hidle : writeEnd (polPageWritten s v) = polPageWritten s v :=
    writeEnd_idle ((congrArg TblSt.win (tbl_of_part (hagree .tbl (by simp)))).trans htbl)
      ((congrArg TcmSt.win (tcm_of_part (hagree .tcm (by simp)))).trans htcm)
  unfold carryWrite
  rw [hpay]
  simp [List.range_succ_eq_map, hrole, hstale, haddr0, hword, writeWord_polPage v ho hv, hidle, Carried.note]

/-- Settles O15: the frame lemmas of the carried-out words and the cache's newest reply. -/
theorem chainRequests : Obligations.ChainRequests := by
  unfold Obligations.ChainRequests
  refine ⟨fun port f s hon hp hlock herr hhead hok hty hme hlo hsrc hfw hnew hroom => ?queued,
    fun port f rest s hon hheld hq hty hformed hdst hslot hid => ?read,
    fun port f v rest s hs hheld hq hty hop hpay hlen haddr hdst hslot ho hep hv htbl htcm => ?write,
    fun port f rest s hon hheld hq hty hformed hdst hslot hid => ?malformed⟩
  case queued =>
    have hend := (rx_deliver hon hlock herr hhead hok (by omega) hme hlo hsrc).trans
      ((deliver_request hty).trans (requestRx_queued (by omega) (by omega) hfw hnew hroom))
    refine ⟨_, congrArg Host.Outcome.next ((if_pos hty).trans ((congrArg (fun q => rx s q f) hp).trans hend)), rfl, rfl,
      fun p hp => modChain_part p (by simpa using hp) _ _⟩
  case read =>
    have hend := readRequest_formed (hty ▸ frontReq_front hheld hq) hid hformed
    obtain ⟨hreqs, hlast⟩ := finishReq_answered (s := (carryRead (reqTaken s) f).s) port
      (response (carryRead (reqTaken s) f).s f (carryRead (reqTaken s) f).status (carryRead (reqTaken s) f).addr
        (carryRead (reqTaken s) f).data) hdst hslot
    have hchain : (carryRead (reqTaken s) f).s.chain = (reqTaken s).chain := chain_of_part (carryRead_part .chain (by decide) _ _)
    refine ⟨_, congrArg Host.Outcome.next ((if_pos hon).trans hend), ?_, ?_, fun p hp => ?_⟩
    · rw [hreqs, hchain, reqTaken_reqs hq]
    · rw [hlast, Option.map_some, fType_response _ _ _ (by omega), fTag_response, fDst_response, hty]
    · rw [finishReq_part p (by simp at hp; simp [hp]), carryRead_part p (by simp at hp; simp [hp])]
      exact modChain_part p (by simp at hp; simp [hp]) _ _
  case write =>
    obtain ⟨⟨hon, hid⟩, -⟩ : (onChain s = true ∧ nodeId s ≠ 0) ∧ fwRuns s = true := by simpa [served] using hs
    have hfront : frontReq s 1 = some (port, f) := hty ▸ frontReq_front hheld hq
    obtain ⟨hcs, hst⟩ := carryWrite_polPage (s := reqTaken s) hop hpay haddr ho hep hv htbl htcm
    have hagree := polPageWritten_agree (reqTaken s) v
    have hformed : writeFormed f = true := by simp [writeFormed, hlen, hop]
    have hwait : mustWait (reqTaken s) (carryWrite (reqTaken s) f).s = false := by
      rw [hcs, mustWait, fur_of_part (hagree .fur (by simp)), tgt_of_part (hagree .tgt (by simp))]
      cases (reqTaken s).fur.sealing <;> simp
    have hend : writeRequest s = finishReq (polPageWritten (reqTaken s) v) port f
        (response (polPageWritten (reqTaken s) v) f stOk (carryWrite (reqTaken s) f).addr []) := by
      unfold writeRequest
      rw [hfront]
      dsimp only
      rw [if_neg hid, if_pos hformed]
      refine (if_neg (by simpa [reqTaken] using hwait)).trans ?_
      rw [← hcs, ← hst]
      rfl
    obtain ⟨hreqs, hlast⟩ := finishReq_answered (s := polPageWritten (reqTaken s) v) port
      (response (polPageWritten (reqTaken s) v) f stOk (carryWrite (reqTaken s) f).addr []) hdst hslot
    refine ⟨_, congrArg Host.Outcome.next ((if_pos hon).trans hend), ?_, ?_, ?_, fun p hp => ?_⟩
    · rw [hreqs, chain_of_part (hagree .chain (by simp)), reqTaken_reqs hq]
    · rw [regRaw_congr (regs_of_part (finishReq_part .regs (by decide) _ _ _ _)), regRaw_polPageWritten]
      rfl
    · rw [hlast, Option.map_some, fType_response _ _ _ (by omega), fTag_response, fDst_response, fStatus_response _ _ (by decide), hty]
    · rw [finishReq_part p (by simp at hp; simp [hp]), hagree p (by simp at hp; simp [hp])]
      exact modChain_part p (by simp at hp; simp [hp]) _ _
  case malformed =>
    have hend := readRequest_malformed (hty ▸ frontReq_front hheld hq) hid hformed
    obtain ⟨hreqs, hlast⟩ := finishReq_answered (s := reqTaken s) port (response (reqTaken s) f stMalformed (fAddr f) []) hdst hslot
    refine ⟨_, congrArg Host.Outcome.next ((if_pos hon).trans hend), ?_, ?_, fun p hp => ?_⟩
    · rw [hreqs, reqTaken_reqs hq]
    · rw [hlast, Option.map_some, fStatus_response _ _ (by decide)]
    · rw [finishReq_part p (by simp at hp; simp [hp])]
      exact modChain_part p (by simp at hp; simp [hp]) _ _

end Sys2Proof.Machine
end

section
/-! SUPPORT. Counters that faults leave, and what the release of a buffer leaves (R315). -/

namespace Sys2Proof.Machine

theorem ctrAt_fatalEnter (s : State) (blk bit inst : Nat) (m : Bool) (k : Nat) : ctrAt (fatalEnter s blk bit inst m) k = ctrAt s k := by
  unfold fatalEnter
  split
  · rfl
  · rfl

/-- A fault counts in the recorder's block alone. -/
theorem ctrAt_faultRise_other (s : State) (blk bit inst : Nat) (d4 d5 : Word) {k : Nat} (h : k / 0x1000000 ≠ 0x11) :
    ctrAt (faultRise s blk bit inst d4 d5) k = ctrAt s k := by
  unfold faultRise
  split
  · rfl
  · next i hi =>
    have hset : ∀ u : State, u.ctr = s.ctr → ctrAt (if tbit (fltMask s blk) bit then u
        else occur u i.code i.cls (inst % 65536) d4 d5) k = ctrAt s k := by
      intro u hu
      split
      · exact ctrAt_congr hu k
      · rw [ctrAt_occur_other _ _ _ _ _ _ h, ctrAt_congr hu]
    dsimp only
    split
    · rw [ctrAt_fatalEnter]
      exact hset _ (by split <;> rfl)
    · exact hset _ (by split <;> rfl)

theorem ctrAt_condRise_other (s : State) (blk bit unit : Nat) (d4 d5 : Word) {k : Nat} (h : k / 0x1000000 ≠ 0x11) :
    ctrAt (condRise s blk bit unit d4 d5) k = ctrAt s k := by
  unfold condRise
  split
  · rfl
  · exact ctrAt_faultRise_other _ _ _ _ _ _ h

/-! ## Buffers -/

theorem bufRefuse_bpm (s : State) (k gen : Nat) (cause : Bool) : (bufRefuse s k gen cause).bpm = s.bpm :=
  bpm_of_part (bufRefuse_part .bpm (by decide) _ _ _ _)

theorem poolEase_q (s : State) (p : Nat) : (poolEase s p).bpm.q = s.bpm.q := by
  unfold poolEase
  split
  · rfl
  · rfl

/-- The release of a buffer changes no queue. -/
theorem bufDec_q (s : State) (k gen : Nat) : (bufDec s k gen).bpm.q = s.bpm.q := by
  unfold bufDec
  dsimp only
  split
  · rw [bufRefuse_bpm]
  · split
    · rw [bufRefuse_bpm]
    · split
      · rw [poolEase_q]
        rfl
      · rfl

theorem ptrRelease_q (s : State) (p : Ptr) : (ptrRelease s p).bpm.q = s.bpm.q := by
  unfold ptrRelease
  split
  · exact bufDec_q _ _ _
  · rfl

theorem qOf_congr {s t : State} (h : t.bpm.q = s.bpm.q) (q : Nat) : qOf t q = qOf s q := congrArg (fun m : SMap QSt => m.get {} q) h

theorem qOf_ptrRelease (s : State) (p : Ptr) (q : Nat) : qOf (ptrRelease s p) q = qOf s q := qOf_congr (ptrRelease_q s p) q

theorem qOf_modQ_same (s : State) (q : Nat) (f : QSt → QSt) : qOf (modQ s q f) q = f (qOf s q) := SMap.get_upd_same _ _ _ _

theorem qOf_modQ_other (s : State) {q r : Nat} (f : QSt → QSt) (h : r ≠ q) : qOf (modQ s q f) r = qOf s r :=
  SMap.get_upd_other _ _ _ _ _ _ h

theorem poolEase_ctr (s : State) (p : Nat) : (poolEase s p).ctr = s.ctr := ctr_of_part (poolEase_part .ctr (by decide) _ _)

theorem ctrAt_bufRefuse_other (s : State) (k gen : Nat) (cause : Bool) {a : Nat} (h : a ≠ cOff 0xC 0x50) (hr : a / 0x1000000 ≠ 0x11) :
    ctrAt (bufRefuse s k gen cause) a = ctrAt s a := by
  unfold bufRefuse
  dsimp only
  rw [ctrAt_faultRise_other _ _ _ _ _ _ hr]
  refine Eq.trans (ctrAt_congr ?_ a) (ctrAt_count_other s 0xC 0x50 h)
  split <;> rfl

/-- The release of a buffer counts nothing but a refused free (R315). -/
theorem ctrAt_ptrRelease_other (s : State) (p : Ptr) {a : Nat} (h : a ≠ cOff 0xC 0x50) (hr : a / 0x1000000 ≠ 0x11) :
    ctrAt (ptrRelease s p) a = ctrAt s a := by
  unfold ptrRelease
  split
  · unfold bufDec
    dsimp only
    split
    · exact ctrAt_bufRefuse_other _ _ _ _ h hr
    · split
      · exact ctrAt_bufRefuse_other _ _ _ _ h hr
      · split
        · exact ctrAt_congr (poolEase_ctr _ _) a
        · rfl
  · rfl

end Sys2Proof.Machine
end

section
/-! The statement about the packet channel (R77 to R79). -/

namespace Sys2Proof.Machine

/-- Frames sent one after the other change the ports' queues alone. -/
theorem foldl_unicast_chain (l : List (List Word)) (g : List Word → ChainFrame) (s : State) :
    ∃ q, (l.foldl (fun u p => unicast u (g p)) s).chain = { s.chain with txq := q } := by
  induction l generalizing s with
  | nil => exact ⟨_, rfl⟩
  | cons p l ih =>
    obtain ⟨q, hq⟩ := ih (unicast s (g p))
    obtain ⟨r, hr⟩ := launch_chain s (ringFor s (fDst (g p))) (g p)
    exact ⟨q, by rw [List.foldl_cons, hq, unicast, hr]⟩

theorem ctrAt_foldl_unicast (l : List (List Word)) (g : List Word → ChainFrame) (s : State) {k : Nat} (h : k ≠ cOff 0 0x40) :
    ctrAt (l.foldl (fun u p => unicast u (g p)) s) k = ctrAt s k := by
  induction l generalizing s with
  | nil => rfl
  | cons p l ih => rw [List.foldl_cons, ih, unicast, ctrAt_launch_other _ _ _ h]

/-- A packet that conforms to both buckets charges both, takes the next number and counts as sent (R77, R78). -/
theorem pktSend_sent {s : State} {n dst : Nat} {pkt : List Byte} (t : Ticket) (hn : n < 8) (hdst : pktDst s n = some dst)
    (hb : (pkt.length + 32) * 800 ≤ (pktBucket s n).lvl) (hd : (pkt.length + 32) * 800 ≤ (totBucket s).lvl) :
    (pktSend s n t pkt).chain.pktId = (s.chain.pktId + 1) % 4096 ∧
      (pktSend s n t pkt).chain.pktB.find n = some { pktBucket s n with lvl := (pktBucket s n).lvl - (pkt.length + 32) * 800 } ∧
      (pktSend s n t pkt).chain.totB.lvl = (totBucket s).lvl - (pkt.length + 32) * 800 ∧
      ctrAt (pktSend s n t pkt) (cOff 0 (0xC0 + n * 8)) = (ctrAt s (cOff 0 (0xC0 + n * 8))).add 1 := by
  unfold pktSend
  simp only [hdst]
  rw [if_neg (by omega)]
  refine ⟨?_, ?_, ?_, ?_⟩
  case _ =>
    obtain ⟨q, hq⟩ := foldl_unicast_chain (fragments n s.chain.pktId t pkt) (fun p => mkFrame 5 0 dst (nodeId s) 0 0 0 0 0 p) _
    exact congrArg ChainSt.pktId hq
  case _ =>
    obtain ⟨q, hq⟩ := foldl_unicast_chain (fragments n s.chain.pktId t pkt) (fun p => mkFrame 5 0 dst (nodeId s) 0 0 0 0 0 p) _
    exact (congrArg (fun c : ChainSt => c.pktB.find n) hq).trans (SMap.find_put_same _ _ _)
  case _ =>
    obtain ⟨q, hq⟩ := foldl_unicast_chain (fragments n s.chain.pktId t pkt) (fun p => mkFrame 5 0 dst (nodeId s) 0 0 0 0 0 p) _
    exact congrArg (fun c : ChainSt => c.totB.lvl) hq
  case _ =>
    rw [ctrAt_count_same, ctrAt_foldl_unicast _ _ _ (by simp only [cOff]; omega)]
    rfl

theorem pktDrain_front {s : State} {n : Nat} {p : Ptr} {rest : List Ptr} (hq : (qOf s (pktQ0 + n)).on = p :: rest)
    (hbad : ptrBad s p = false) :
    pktDrain s n = ptrRelease (popPtr (pktSend s n p.tkt (ptrBytes s p)) (pktQ0 + n)) p := by
  simp [pktDrain, hq, hbad]

/-- The first fragment of an injected packet that is not its last and leaves bytes to come opens a reassembly (R79). -/
theorem inject_first {s : State} {f : ChainFrame} (hmay : injAllowed s f = true) (hnone : s.chain.injects = [])
    (hfrag : fld (fWord f 0) 28 26 = 0) (hlast : tbit (fWord f 0) 25 = false) (hlen : 10 ≤ fLen f)
    (hty : tfld (fragTicket f) 255 252 = 5) (hchk : tfld (fragTicket f) 7 0 = ticketChk (fragTicket f))
    (htot : fld (fWord f 1) 13 0 ≤ 12284) (hopen : (fragData f 10).length < fld (fWord f 1) 13 0) :
    inject s f = modInj s (fun l => l ++ [
      { slot := s.node.owner.slot, pktId := fld (fWord f 0) 22 11, nextFrag := 1, total := fld (fWord f 1) 13 0,
        ticket := fragTicket f, bytes := fragData f 10, deadline := s.now + 1000000 }]) := by
  have hroom : injRoom s (fld (fWord f 1) 13 0) = true := by
    simp [injRoom, hnone]
    omega
  unfold inject
  simp only [hmay, hnone, Bool.not_true, Bool.false_eq_true, if_false, List.find?_nil]
  rw [if_pos ⟨hfrag, hlen, hty, hchk, htot, hroom⟩]
  simp [injAdd, hlast, hopen]

/-- Settles O16: the packet's charges stand before its pointer leaves; a reassembly opens, or is dropped at its deadline. -/
theorem packetChannel : Obligations.PacketChannel := by
  unfold Obligations.PacketChannel
  refine ⟨fun n p rest dst s hdata hon hq hbad hdst hb hd => ?send,
    fun f s hon hty hok hmay hnone hfrag hlast hlen htkt hchk htot hopen => ?first, fun slot pktId x s hx hdue => ?timeout⟩
  case send =>
    have hgo : (onData s && onChain s) = true := by simp [hdata, hon]
    have hend := pktDrain_front hq hbad
    obtain ⟨hid, hbkt, htot, hctr⟩ := pktSend_sent p.tkt n.isLt hdst hb hd
    have hchain : (ptrRelease (popPtr (pktSend s n.val p.tkt (ptrBytes s p)) (pktQ0 + n.val)) p).chain =
        (pktSend s n.val p.tkt (ptrBytes s p)).chain := chain_of_part (ptrRelease_part .chain (by decide) _ _)
    refine ⟨_, congrArg Host.Outcome.next ((if_pos hgo).trans hend), ?_, ?_, ?_, ?_, ?_, fun x hx => ?_⟩
    · rw [qOf_ptrRelease, popPtr, qOf_modQ_same, qOf, bpm_of_part (pktSend_part .bpm (by decide) _ _ _ _), ← qOf, hq, List.drop_one,
        List.tail_cons]
    · rw [hchain, hid]
    · rw [hchain, hbkt]
    · rw [hchain, htot]
    · rw [ctrAt_ptrRelease_other _ _ (by simp only [cOff]; omega) (by simp only [cOff]; omega)]
      exact hctr
    · rw [ptrRelease_part x (by simp at hx; simp [hx]), popPtr_part x (by simp at hx; simp [hx]),
        pktSend_part x (by simp at hx; simp [hx])]
  case first =>
    have hgo : (onChain s && fType f == 6 && frameOk f) = true := by simp [hon, hty, hok]
    have hend := inject_first hmay hnone hfrag hlast hlen htkt hchk htot hopen
    refine ⟨_, congrArg Host.Outcome.next ((if_pos hgo).trans hend), ?_, ?_, fun q hq => modChain_part q (by simpa using hq) _ _⟩
    · simp [modInj, modChain, hnone]
    · simp [modInj, modChain, hnone]
  case timeout =>
    have hend : injTimeout s slot.val pktId.val = injDrop (modInj s (fun l => l.erase x)) := by
      simp [injTimeout, hx, hdue]
    refine ⟨_, congrArg Host.Outcome.next hend, rfl, ctrAt_count_same _ 0 0x78, fun q hq => ?_⟩
    rw [injDrop, count_part q (by simp at hq; simp [hq])]
    exact modChain_part q (by simp at hq; simp [hq]) _ _

end Sys2Proof.Machine
end

section
/-! The statement about link status and the sides (R80 to R83, Tables 2.8 and 2.9). -/

namespace Sys2Proof.Machine

/-! ## Link status that is sent -/

/-- The link status frame of one port. -/
def lsFrame (t : State) (p : Nat) : ChainFrame := mkFrame 0xA (p / 2) 0 (nodeId t) 0 0 0 0 0 (lsWords t p)

/-- The link status of one port is sent. -/
def lsOut (due p : Nat) (t : State) : State :=
  modChain t (fun c => lineSend p (lsFrame t p) { c with lsDue := due, sentLs := c.sentLs.put p (some (lsFrame t p)) })

/-- The link status of ports is sent in turn. -/
def lsOuts (due : Nat) (l : List Nat) (t : State) : State := forEach l (lsOut due) t

theorem lsOuts_nil (due : Nat) (t : State) : lsOuts due [] t = t := rfl

theorem lsOuts_cons (due p : Nat) (l : List Nat) (t : State) : lsOuts due (p :: l) t = lsOuts due l (lsOut due p t) := by
  rw [lsOuts, forEach, List.foldl_cons, lsOuts, forEach]

theorem lsOut_part (p : Part) (h : p ≠ .chain) (due q : Nat) (t : State) : (lsOut due q t).part p = t.part p := by
  rw [lsOut, modChain_part p h]

theorem lineSend_rest (port : Nat) (f : ChainFrame) (c : ChainSt) : ∃ l, lineSend port f c = { c with line := l } := ⟨_, rfl⟩

theorem lsOut_chain (due p : Nat) (t : State) :
    ∃ l, (lsOut due p t).chain = { t.chain with line := l, lsDue := due, sentLs := t.chain.sentLs.put p (some (lsFrame t p)) } := by
  obtain ⟨l, hl⟩ := lineSend_rest p (lsFrame t p) { t.chain with lsDue := due, sentLs := t.chain.sentLs.put p (some (lsFrame t p)) }
  exact ⟨l, hl⟩

/-- A port's link status goes by its side and the device's address. -/
theorem lsWords_lsOut (due p q : Nat) (t : State) : lsWords (lsOut due q t) p = lsWords t p := by
  obtain ⟨l, hl⟩ := lsOut_chain due q t
  have hside : sideOf (lsOut due q t) (eastPort p) = sideOf t (eastPort p) := sideOf_congr (by rw [hl]) (by rw [hl]) _
  have hnode : nodeId (lsOut due q t) = nodeId t := by
    rw [nodeId, node_of_part (lsOut_part .node (by decide) due q t), nodeId]
  rw [lsWords, hside, hnode, lsWords]

/-- Ports that send leave the sides and what waits. -/
theorem lsOuts_keeps (due : Nat) (l : List Nat) (t : State) :
    (lsOuts due l t).chain.west = t.chain.west ∧ (lsOuts due l t).chain.east = t.chain.east ∧
      (lsOuts due l t).chain.ringStateDue = t.chain.ringStateDue := by
  induction l generalizing t with
  | nil =>
    rw [lsOuts_nil]
    exact ⟨rfl, rfl, rfl⟩
  | cons p l ih =>
    obtain ⟨x, hx⟩ := lsOut_chain due p t
    obtain ⟨hw, he, hr⟩ := ih (lsOut due p t)
    rw [hx] at hw he hr
    rw [lsOuts_cons]
    exact ⟨hw, he, hr⟩

theorem lsOuts_lsDue (due : Nat) (p : Nat) (l : List Nat) (t : State) : (lsOuts due (p :: l) t).chain.lsDue = due := by
  induction l generalizing t p with
  | nil =>
    obtain ⟨x, hx⟩ := lsOut_chain due p t
    rw [lsOuts_cons, lsOuts_nil, hx]
  | cons q l ih => rw [lsOuts_cons, ih]

theorem sentLs_lsOuts_other {due p : Nat} {l : List Nat} (t : State) (h : p ∉ l) :
    (lsOuts due l t).chain.sentLs.find p = t.chain.sentLs.find p := by
  induction l generalizing t with
  | nil => rw [lsOuts_nil]
  | cons q l ih =>
    obtain ⟨hq, hl⟩ := not_or.1 (mt List.mem_cons.2 h)
    obtain ⟨x, hx⟩ := lsOut_chain due q t
    rw [lsOuts_cons, ih (lsOut due q t) hl, hx]
    exact SMap.find_put_other _ _ _ _ hq

theorem payload_lsFrame (t : State) (p : Nat) : (lsFrame t p).payload = lsWords t p := by
  rw [lsFrame, mkFrame, sealFrame, rehash]

/-- A port that has sent has sent its side's state (Table 2.8). -/
theorem sentLs_lsOuts {due p : Nat} {l : List Nat} (t : State) (h : p ∈ l) :
    ((lsOuts due l t).chain.sentLs.find p).map (fun f => f.payload) = some (lsWords t p) := by
  induction l generalizing t with
  | nil => cases h
  | cons q l ih =>
    by_cases hl : p ∈ l
    · rw [lsOuts_cons, ih (lsOut due q t) hl, lsWords_lsOut]
    · obtain rfl | hl' := List.mem_cons.1 h
      · obtain ⟨x, hx⟩ := lsOut_chain due p t
        have hsent : (lsOut due p t).chain.sentLs.find p = some (lsFrame t p) := by
          rw [hx]
          exact SMap.find_put_same _ _ _
        rw [lsOuts_cons, sentLs_lsOuts_other _ hl, hsent, Option.map_some, payload_lsFrame]
      · exact absurd hl' hl

theorem lsOuts_part (p : Part) (h : p ≠ .chain) (due : Nat) (l : List Nat) (t : State) : (lsOuts due l t).part p = t.part p :=
  part_forEach p _ (fun q u => lsOut_part p h due q u) l t

/-- The end of a link status transmit: a ring state frame that waited goes (R80). -/
def lsFlush (s : State) : State := if s.chain.ringStateDue && decide (s.chain.ringStateAt ≤ s.now) then sendRingState s else s

theorem linkStatusSend_eq (s : State) :
    linkStatusSend s = lsFlush (sideJoined (sideJoined (lsOuts (s.now + 1000) (List.range 4) s) false) true) := rfl

theorem sideOf_lsFlush (s : State) (east : Bool) : sideOf (lsFlush s) east = sideOf s east := by
  unfold lsFlush
  split
  · exact sideOf_sendRingState s east
  · rfl

theorem sideJoined_not_up {s : State} {east : Bool} (h : (sideOf s east).st ≠ .up) : sideJoined s east = s := by
  simp [sideJoined, h]

/-! ## What an operation leaves of the sides -/

theorem sideOf_event (s : State) (code inst d : Nat) (east : Bool) : sideOf (event s code inst d) east = sideOf s east :=
  sideOf_congr (congrArg ChainSt.west (chain_of_part (event_part .chain (by decide) _ _ _ _)))
    (congrArg ChainSt.east (chain_of_part (event_part .chain (by decide) _ _ _ _))) east

theorem sideOf_event2 (s : State) (code inst d e : Nat) (east : Bool) : sideOf (event2 s code inst d e) east = sideOf s east :=
  sideOf_congr (congrArg ChainSt.west (chain_of_part (event2_part .chain (by decide) _ _ _ _ _)))
    (congrArg ChainSt.east (chain_of_part (event2_part .chain (by decide) _ _ _ _ _))) east

theorem sideOf_recTell (s : State) (east : Bool) : sideOf (recTell s) east = sideOf s east :=
  sideOf_congr (congrArg ChainSt.west (chain_of_part (recTell_part .chain (by decide) _)))
    (congrArg ChainSt.east (chain_of_part (recTell_part .chain (by decide) _))) east

theorem sideOf_count (s : State) (b o : Nat) (east : Bool) : sideOf (count s b o) east = sideOf s east := rfl

/-- A side in UP that has its wrap loses it (R80). -/
theorem sideOf_sideJoined_same {s : State} {east : Bool} (hup : (sideOf s east).st = .up) (hw : (sideOf s east).wrapped = true) :
    sideOf (sideJoined s east) east = { sideOf s east with wrapped := false } := by
  have hgo : (sideOf s east).st = .up ∧ (sideOf s east).wrapped = true := ⟨hup, hw⟩
  unfold sideJoined
  rw [if_pos hgo, sideOf_event2, sideOf_sendRingState, sideOf_setSide_same]

theorem sideOf_sideJoined_other (s : State) (east : Bool) : sideOf (sideJoined s east) (!east) = sideOf s (!east) := by
  unfold sideJoined
  dsimp only
  split
  · rw [sideOf_event2, sideOf_sendRingState, sideOf_setSide_other]
  · rfl

theorem sideOf_sideTo_same (s : State) (east : Bool) (st : SideState) :
    sideOf (sideTo s east st) east = { sideOf s east with st := st, since := none, joinAt := s.now } := by
  rw [sideTo, sideOf_sendRingState, sideOf_setSide_same]

theorem sideOf_sideTo_other (s : State) (east : Bool) (st : SideState) : sideOf (sideTo s east st) (!east) = sideOf s (!east) := by
  rw [sideTo, sideOf_sendRingState, sideOf_setSide_other]

/-- A side that goes DOWN from UP is wrapped (Table 2.9). -/
theorem sideOf_sideDown_same (s : State) (east : Bool) :
    sideOf (sideDown s east) east = { sideOf s east with st := .down, wrapped := true, since := none } := by
  rw [sideDown, sideOf_sendRingState, sideOf_event, sideOf_count, sideOf_setSide_same]

/-- ... and counts in DEV_CH_WRAPS. -/
theorem ctrAt_sideDown_wraps (s : State) (east : Bool) :
    ctrAt (sideDown s east) (cOff 0 0x100) = (ctrAt s (cOff 0 0x100)).add 1 := by
  rw [sideDown, ctrAt_sendRingState_other _ (by decide), ctrAt_event_other _ _ _ _ (by decide), ctrAt_count_same]
  rfl

theorem sideLoss_up {s : State} {east : Bool} (h : (sideOf s east).st = .up) : sideLoss s east = sideDown s east := by
  simp only [sideLoss, h]

theorem sendRingState_lock (s : State) : (sendRingState s).chain.lock = s.chain.lock := by
  obtain ⟨q, n, d, a, h⟩ := sendRingState_chain s
  rw [h]

theorem setSide_lock (s : State) (east : Bool) (x : Side) : (setSide s east x).chain.lock = s.chain.lock := by
  cases east <;> rfl

/-- A side goes DOWN without a change of the ports' block lock. -/
theorem sideDown_lock (s : State) (east : Bool) : (sideDown s east).chain.lock = s.chain.lock := by
  rw [sideDown, sendRingState_lock, chain_of_part (event_part .chain (by decide) _ _ _ _),
    chain_of_part (count_part .chain (by decide) _ _ _), setSide_lock]

/-! ## Link status that arrives -/

/-- A side notes the link status that a port has received. -/
def lsSeen (s : State) (port : Nat) (w0 : Word) (ser : Nat) : State :=
  setSide s (eastPort port) { sideOf s (eastPort port) with
    ser := (sideOf s (eastPort port)).ser.put port (some ser)
    lsAt := (sideOf s (eastPort port)).lsAt.put port (some s.now)
    node := fld w0 31 25 }

theorem lsSeen_part (p : Part) (h : p ≠ .chain) (s : State) (port : Nat) (w0 : Word) (ser : Nat) :
    (lsSeen s port w0 ser).part p = s.part p := setSide_part p h _ _ _

/-- STABLE takes a stable side of the same neighbour to JOIN (R81). -/
theorem linkStatus_stable {s : State} {port : Nat} {w0 w1 : Word} (hst : (sideOf s (eastPort port)).st = .stable)
    (hser : (sideOf s (eastPort port)).ser.find port = some (fld w0 15 0 * 2 ^ 32 + w1.toNat)) (hw : tbit w0 21 = true) :
    linkStatus s port w0 w1 = sideTo (lsSeen s port w0 (fld w0 15 0 * 2 ^ 32 + w1.toNat)) (eastPort port) .join := by
  simp [linkStatus, hst, hser, hw, lsSeen]

/-- JOIN takes a joining side of the same neighbour UP (R81). -/
theorem linkStatus_join {s : State} {port : Nat} {w0 w1 : Word} (hst : (sideOf s (eastPort port)).st = .join)
    (hser : (sideOf s (eastPort port)).ser.find port = some (fld w0 15 0 * 2 ^ 32 + w1.toNat)) (hw : tbit w0 20 = true) :
    linkStatus s port w0 w1 = recTell (setSide (lsSeen s port w0 (fld w0 15 0 * 2 ^ 32 + w1.toNat)) (eastPort port)
      { sideOf (lsSeen s port w0 (fld w0 15 0 * 2 ^ 32 + w1.toNat)) (eastPort port) with st := .up, since := none }) := by
  simp [linkStatus, hst, hser, hw, lsSeen]

/-- Settles O17: every change of a side is one of the operations whose effect on both sides is given above. -/
theorem chainSides : Obligations.ChainSides := by
  unfold Obligations.ChainSides
  refine ⟨fun s hon hwest heast hring hdue => ?send, fun s hon hwest hwrap heast hdue => ?joined,
    fun port w0 w1 s hon hlock hst hser hw => ?stable, fun port w0 w1 s hon hlock hst hser hw => ?join,
    fun east n s hon hst hgood hsince hn => ?timer, fun east s hon hst hn => ?timeout, fun port n s hon hst hls hn => ?late,
    fun port s hon hst => ?loss⟩
  case send =>
    have hgo : (onChain s && decide (s.chain.lsDue ≤ s.now)) = true := by simp [hon, hdue]
    obtain ⟨hw, he, hr⟩ := lsOuts_keeps (s.now + 1000) (List.range 4) s
    have hend : linkStatusSend s = lsOuts (s.now + 1000) (List.range 4) s := by
      rw [linkStatusSend_eq, sideJoined_not_up (east := false) (by rwa [sideOf_congr hw he]),
        sideJoined_not_up (east := true) (by rwa [sideOf_congr hw he])]
      simp [lsFlush, hr, hring]
    refine ⟨_, congrArg Host.Outcome.next ((if_pos hgo).trans hend), lsOuts_lsDue _ 0 _ s, ?_, hw, he,
      fun p hp => lsOuts_part p (by simpa using hp) _ _ _⟩
    rw [List.all_eq_true]
    intro p hp
    simp [sentLs_lsOuts s hp]
  case joined =>
    have hgo : (onChain s && decide (s.chain.lsDue ≤ s.now)) = true := by simp [hon, hdue]
    obtain ⟨hw, he, -⟩ := lsOuts_keeps (s.now + 1000) (List.range 4) s
    have hsame : ∀ east, sideOf (lsOuts (s.now + 1000) (List.range 4) s) east = sideOf s east := sideOf_congr hw he
    have heast' : (sideOf (sideJoined (lsOuts (s.now + 1000) (List.range 4) s) false) true).st ≠ .up := by
      rw [show true = !false from rfl, sideOf_sideJoined_other, hsame]
      exact heast
    have hside : sideOf (linkStatusSend s) false = { sideOf s false with wrapped := false } := by
      rw [linkStatusSend_eq, sideOf_lsFlush, sideJoined_not_up heast', sideOf_sideJoined_same, hsame]
      · rw [hsame]
        exact hwest
      · rw [hsame]
        exact hwrap
    exact ⟨_, congrArg Host.Outcome.next (if_pos hgo), congrArg Side.wrapped hside, (congrArg Side.st hside).trans hwest,
      fun p hp => linkStatusSend_part p (by simp at hp; simp [hp]) s⟩
  case stable =>
    have hgo : (onChain s && s.chain.lock.get false port.val) = true := by simp [hon, hlock]
    have hend := linkStatus_stable hst hser hw
    refine ⟨_, congrArg Host.Outcome.next ((if_pos hgo).trans hend), congrArg Side.st (sideOf_sideTo_same _ _ _), fun p hp => ?_⟩
    rw [sideTo_part p (by simp at hp; simp [hp]), lsSeen_part p (by simp at hp; simp [hp])]
  case join =>
    have hgo : (onChain s && s.chain.lock.get false port.val) = true := by simp [hon, hlock]
    have hend := linkStatus_join hst hser hw
    have hside := (sideOf_recTell _ (eastPort port.val)).trans (sideOf_setSide_same
      (lsSeen s port.val w0 (fld w0 15 0 * 2 ^ 32 + w1.toNat)) (eastPort port.val)
      { sideOf (lsSeen s port.val w0 (fld w0 15 0 * 2 ^ 32 + w1.toNat)) (eastPort port.val) with st := .up, since := none })
    refine ⟨_, congrArg Host.Outcome.next ((if_pos hgo).trans hend), congrArg Side.st hside, (congrArg Side.wrapped hside).trans ?_,
      fun p hp => ?_⟩
    · rw [lsSeen, sideOf_setSide_same]
    · rw [recTell_part p (by simp at hp; simp [hp]), setSide_part p (by simp at hp; simp [hp]), lsSeen_part p (by simp at hp; simp [hp])]
  case timer =>
    have hend : (if onChain s && (sideOf s east).st == .down then
        if sideGood s east then
          (match (sideOf s east).since with
            | some t => if t + 10000000 ≤ s.now then sideTo s east .stable else s
            | none => s)
        else setSide s east { sideOf s east with since := none }
      else s) = sideTo s east .stable := by simp [hon, hst, hgood, hsince, hn]
    exact ⟨_, congrArg Host.Outcome.next hend, congrArg Side.st (sideOf_sideTo_same _ _ _), sideOf_sideTo_other _ _ _,
      fun p hp => sideTo_part p (by simp at hp; simp [hp]) _ _ _⟩
  case timeout =>
    have hgo : (onChain s && (sideOf s east).st == .join && decide ((sideOf s east).joinAt + 1000000 ≤ s.now)) = true := by
      simp [hon, hst, hn]
    exact ⟨_, congrArg Host.Outcome.next (if_pos hgo), congrArg Side.st (sideOf_sideTo_same _ _ _), sideOf_sideTo_other _ _ _,
      fun p hp => sideTo_part p (by simp at hp; simp [hp]) _ _ _⟩
  case late =>
    have hgo : (onChain s && (match (sideOf s (eastPort port.val)).lsAt.find port.val with
        | some t => decide (t + 3000 ≤ s.now)
        | none => true)) = true := by simp [hon, hls, hn]
    have hend := sideLoss_up hst
    have hside := sideOf_sideDown_same s (eastPort port.val)
    exact ⟨_, congrArg Host.Outcome.next ((if_pos hgo).trans hend), congrArg Side.st hside, congrArg Side.wrapped hside,
      ctrAt_sideDown_wraps _ _, fun p hp => sideDown_part p (by simp at hp; simp [hp]) _ _⟩
  case loss =>
    have hend := sideLoss_up (s := modChain s (fun c => { c with lock := c.lock.set false port.val false })) (east := eastPort port.val) hst
    have hside := sideOf_sideDown_same (modChain s (fun c => { c with lock := c.lock.set false port.val false })) (eastPort port.val)
    refine ⟨_, congrArg Host.Outcome.next ((if_pos hon).trans hend), ?_, congrArg Side.st hside, congrArg Side.wrapped hside,
      ctrAt_sideDown_wraps _ _, fun p hp => ?_⟩
    · rw [sideDown_lock]
      exact SMap.get_set_same _ _ _ _
    · rw [sideDown_part p (by simp at hp; simp [hp])]
      exact modChain_part p (by simp at hp; simp [hp]) _ _

end Sys2Proof.Machine
end

section
/-! The statement about enumeration (R84, R85, Table 2.10). -/

namespace Sys2Proof.Machine

/-- A frame that goes on changes the ports' queues, and counts where it goes nowhere. -/
theorem forward_chain (s : State) (ring : Nat) (f : ChainFrame) : ∃ q, (forward s ring f).chain = { s.chain with txq := q } := by
  unfold forward
  split
  · exact ⟨_, rfl⟩
  · exact sendOn_chain ..

/-- The filter looks at the broadcasts that a state has accepted, and at its time. -/
theorem bcastPass_fst_congr {s t : State} (f : ChainFrame) (hb : t.chain.bcast = s.chain.bcast) (hn : t.now = s.now) :
    (bcastPass t f).1 = (bcastPass s f).1 := by
  simp only [bcastPass, hb, hn, apply_ite Prod.fst]

theorem bcastPass_chain (s : State) (f : ChainFrame) : ∃ b, (bcastPass s f).2.chain = { s.chain with bcast := b } := by
  unfold bcastPass
  dsimp only
  generalize (fSrc f == 0 || _) = pass
  split
  · exact ⟨_, rfl⟩
  · exact ⟨_, rfl⟩

theorem src_of_enumFromOwner {s : State} {f : ChainFrame} (h : enumFromOwner s f = true) : 64 ≤ fSrc f := by
  simp only [enumFromOwner, Bool.and_eq_true, decide_eq_true_eq] at h
  exact h.1.1

theorem enumFromOwner_congr {s t : State} (f : ChainFrame) (h : t.node = s.node) : enumFromOwner t f = enumFromOwner s f := by
  simp [enumFromOwner, isOwner, h]

/-- A good enumeration broadcast on WA goes on, with a WALK's record, and passes the filter. -/
def walked (s : State) (f : ChainFrame) : Bool × State := bcastPass (forward s 0 (walkAppend s f)) f

theorem walked_part (p : Part) (h : p ≠ .ctr ∧ p ≠ .chain) (s : State) (f : ChainFrame) : (walked s f).2.part p = s.part p := by
  rw [walked, bcastPass_part p h.2, forward_part p h]

theorem walked_node (s : State) (f : ChainFrame) : (walked s f).2.node = s.node := node_of_part (walked_part .node (by decide) s f)

theorem walked_fst {s : State} {f : ChainFrame} (h : (bcastPass s f).1 = true) : (walked s f).1 = true := by
  obtain ⟨q, hq⟩ := forward_chain s 0 (walkAppend s f)
  exact (bcastPass_fst_congr f (by rw [hq]) (now_of_part (forward_part .now (by decide) _ _ _))).trans h

theorem rx_enum {s : State} {f : ChainFrame} (hon : onChain s = true) (hlock : s.chain.lock.get false 0 = true) (herr : f.errEnd = false)
    (hhead : headOk f = true) (hok : frameOk f = true) (hty : fType f = 7) (hdst : fDst f = 63) (hown : enumFromOwner s f = true)
    (hid : nodeId s < 64) : rx s 0 f = if (walked s f).1 then enumFrame (walked s f).2 f else (walked s f).2 := by
  have hsrc : fSrc f ≠ nodeId s := by
    have := src_of_enumFromOwner hown
    omega
  have hret : ownReturn s 0 f = false := by simp [ownReturn, hsrc]
  have hrs : ownRingState s 0 f = false := by simp [ownRingState, hty]
  have hring : ringFrame s 0 0 f = if (walked s f).1 then enumFrame (walked s f).2 f else (walked s f).2 := by
    unfold ringFrame
    rw [if_neg (by omega), if_neg (by simp [hret]), if_neg (by simp [hrs]), if_pos hdst]
    simp only [deliver, hty]
    rfl
  unfold rx frameRx
  simp [hon, hlock, herr, hhead, hok, ringOf, hring, hty]

/-- A broadcast that the filter passes is carried out. -/
theorem rx_enum_passed {s : State} {f : ChainFrame} (hon : onChain s = true) (hlock : s.chain.lock.get false 0 = true)
    (herr : f.errEnd = false) (hhead : headOk f = true) (hok : frameOk f = true) (hty : fType f = 7) (hdst : fDst f = 63)
    (hown : enumFromOwner s f = true) (hid : nodeId s < 64) (hpass : (bcastPass s f).1 = true) :
    rx s 0 f = enumFrame (walked s f).2 f :=
  (rx_enum hon hlock herr hhead hok hty hdst hown hid).trans (if_pos (walked_fst hpass))

/-- An enumeration frame on WA. -/
theorem enumRx_west {s : State} {port : Fin 4} {f : ChainFrame} {op : Nat} (hp : port.val = 0) (hty : fType f = 7) (hop : fOp f = op) :
    enumRx op port.val f s = rx s 0 f := (if_pos ⟨hty, hop⟩).trans (congrArg (fun q => rx s q f) hp)

/-! ## WALK -/

theorem walkAppend_record {s : State} {f : ChainFrame} (hty : fType f = 7) (hop : fOp f = 0) (hown : enumFromOwner s f = true)
    (hlen : fLen f = 0) (hpay : f.payload = []) :
    walkAppend s f = sealFrame { f with hdr := hset f.hdr 69 60 3, payload := walkRecord s f } := by
  simp [walkAppend, hty, hop, hown, hlen, hpay, walkRecs]

theorem hf_walkAppend {s : State} {f : ChainFrame} {a b : Nat} (ha : a < 128) (hb : 69 < b) : hf (walkAppend s f) a b = hf f a b := by
  unfold walkAppend
  split
  · exact (hf_sealFrame _ ha (by omega)).trans (bitsOf_hset_other f.hdr (by decide) ha (.inr hb))
  · rfl

/-! ## What an enumeration frame does, by its OP -/

theorem setNodeId_addr (s : State) (a : Nat) : (setNodeId s a).node = { s.node with addr := a } := by
  unfold setNodeId
  split
  · next h => rw [h]
  · rfl

theorem enumFrame_assign {s : State} {f : ChainFrame} (hown : enumFromOwner s f = true) (hop : fOp f = 1) :
    enumFrame s f = enumAssign s f := by
  simp [enumFrame, hown, hop]

/-- Settles O18: what passes the filter is carried out by its OP; a WALK goes on with the device's record. -/
theorem chainEnumeration : Obligations.ChainEnumeration := by
  unfold Obligations.ChainEnumeration
  refine ⟨fun port f s hon hp hlock herr hhead hok hty hop hdst hown hid hlen hhops hwrap htx => ?walk,
    fun port f s hon hp hlock herr hhead hok hty hop hdst hown hid hpass hlen hser ha => ?assign,
    fun port f s hon hp hlock herr hhead hok hty hop hdst hown hid hpass hlen hser h0 h63 ha => ?takenBack,
    fun port f s hon hp hlock herr hhead hok hty hop hdst hown hid hpass hlen => ?clear,
    fun port f s hon hp hlock herr hhead hok hty hop hdst hown hid hpass => ?ring⟩
  case walk =>
    have hrx := rx_enum hon hlock herr hhead hok hty hdst hown hid
    have hown' : enumFromOwner (walked s f).2 f = true := (enumFromOwner_congr f (walked_node s f)).trans hown
    have hdone : enumFrame (walked s f).2 f = (walked s f).2 := by simp [enumFrame, hown', hop]
    have hend : rx s 0 f = (walked s f).2 := by rw [hrx, hdone, ite_self]
    have hpay : f.payload = [] := by
      have h2 : fLen f = f.payload.length := by
        have := (Bool.and_eq_true_iff.1 hok).2
        simpa using this
      exact List.length_eq_zero_iff.1 (h2.symm.trans hlen)
    have hkey : 4 = exitPort 0 * 3 + classOf (fType (walkAppend s f)) := by
      rw [show fType (walkAppend s f) = fType f from hf_walkAppend (by decide) (by decide), hty]
      rfl
    have hfwd : forward s 0 (walkAppend s f) = _ := forward_transit (by rwa [show fHops (walkAppend s f) = fHops f from
      hf_walkAppend (by decide) (by decide)]) hwrap hkey (by
        rw [htx, walkAppend_record hty hop hown hlen hpay]
        exact Nat.le_of_ble_eq_true rfl)
    obtain ⟨b, hb⟩ := bcastPass_chain (forward s 0 (walkAppend s f)) f
    refine ⟨_, congrArg Host.Outcome.next ((enumRx_west hp hty hop).trans hend), ?_, walked_node s f,
      fun p hp => walked_part p (by simp at hp; simp [hp]) s f⟩
    rw [walked, hb, hfwd]
    have hget := SMap.get_set_same s.chain.txq {} 4 { s.chain.txq.get {} 4 with
      transit := (s.chain.txq.get {} 4).transit ++ [hopped (walkAppend s f)] }
    refine (congrArg (fun q : TxQ => q.transit.map (fun g => g.payload)) hget).trans ?_
    dsimp only
    rw [htx, walkAppend_record hty hop hown hlen hpay]
    rfl
  case assign =>
    have hown' : enumFromOwner (walked s f).2 f = true := (enumFromOwner_congr f (walked_node s f)).trans hown
    have hend : rx s 0 f = assignMine (walked s f).2 f (fld (fWord f 2) 5 0) := by
      rw [rx_enum_passed hon hlock herr hhead hok hty hdst hown hid hpass, enumFrame_assign hown' hop]
      simp [enumAssign, hlen, hser, ha]
    have hnode : (assignMine (walked s f).2 f (fld (fWord f 2) 5 0)).node = { s.node with addr := fld (fWord f 2) 5 0 } := by
      rw [assignMine, node_of_part (unicast_part .node (by decide) _ _), setNodeId_addr, walked_node]
    refine ⟨_, congrArg Host.Outcome.next ((enumRx_west hp hty hop).trans hend), congrArg SelfSt.addr hnode, (congrArg SelfSt.owner hnode).trans rfl,
      (congrArg SelfSt.tk hnode).trans rfl, fun p hp => ?_⟩
    rw [assignMine_part p (by simp at hp; simp [hp]), walked_part p (by simp at hp; simp [hp])]
  case takenBack =>
    have hown' : enumFromOwner (walked s f).2 f = true := (enumFromOwner_congr f (walked_node s f)).trans hown
    have hid' : nodeId (walked s f).2 = nodeId s := congrArg SelfSt.addr (walked_node s f)
    have hend : rx s 0 f = event2 (setNodeId (walked s f).2 0) 0x0032 0 (fld (fWord f 2) 5 0) (fWord f 1).toNat := by
      rw [rx_enum_passed hon hlock herr hhead hok hty hdst hown hid hpass, enumFrame_assign hown' hop]
      simp [enumAssign, hlen, hser, ha, h0, h63, hid']
    have hnode : (event2 (setNodeId (walked s f).2 0) 0x0032 0 (fld (fWord f 2) 5 0) (fWord f 1).toNat).node = { s.node with addr := 0 } := by
      rw [node_of_part (event2_part .node (by decide) _ _ _ _ _), setNodeId_addr, walked_node]
    refine ⟨_, congrArg Host.Outcome.next ((enumRx_west hp hty hop).trans hend), congrArg SelfSt.addr hnode, (congrArg SelfSt.owner hnode).trans rfl,
      fun p hp => ?_⟩
    rw [event2_part p (by simp at hp; simp [hp]), setNodeId_part p (by simp at hp; simp [hp]), walked_part p (by simp at hp; simp [hp])]
  case clear =>
    have hown' : enumFromOwner (walked s f).2 f = true := (enumFromOwner_congr f (walked_node s f)).trans hown
    have hend : rx s 0 f = setNodeId (walked s f).2 0 := by
      rw [rx_enum_passed hon hlock herr hhead hok hty hdst hown hid hpass]
      simp [enumFrame, hown', hop, hlen]
    have hnode : (setNodeId (walked s f).2 0).node = { s.node with addr := 0 } := by rw [setNodeId_addr, walked_node]
    refine ⟨_, congrArg Host.Outcome.next ((enumRx_west hp hty hop).trans hend), congrArg SelfSt.addr hnode, (congrArg SelfSt.owner hnode).trans rfl,
      fun p hp => ?_⟩
    rw [setNodeId_part p (by simp at hp; simp [hp]), walked_part p (by simp at hp; simp [hp])]
  case ring =>
    have hown' : enumFromOwner (walked s f).2 f = true := (enumFromOwner_congr f (walked_node s f)).trans hown
    have hend : rx s 0 f = modChain (walked s f).2 (fun c => { c with ring := some (fSrc f, walkRecs f.payload) }) := by
      rw [rx_enum_passed hon hlock herr hhead hok hty hdst hown hid hpass]
      simp [enumFrame, hown', hop]
    refine ⟨_, congrArg Host.Outcome.next ((enumRx_west hp hty hop).trans hend), rfl, walked_node s f, fun p hp => ?_⟩
    rw [modChain_part p (by simp at hp; simp [hp]), walked_part p (by simp at hp; simp [hp])]

end Sys2Proof.Machine
end

section
/-! The statement about leases (R87, R89, Table 2.12). -/

namespace Sys2Proof.Machine

/-- A field of one bit is the bit. -/
theorem fld_bit (w : Word) (i : Nat) : fld w i i = (tbit w i).toNat := by
  rw [fld, bitsOf, show i + 1 - i = 1 by omega, tbit, Nat.testBit_eq_decide_div_mod_eq, Nat.shiftRight_eq_div_pow]
  have : w.toNat / 2 ^ i % 2 < 2 := Nat.mod_lt _ (by decide)
  obtain h | h : w.toNat / 2 ^ i % 2 = 0 ∨ w.toNat / 2 ^ i % 2 = 1 := by omega
  · simp [h]
  · simp [h]

/-- An election frame that is well formed is acted on by its OP. -/
theorem electionRx_formed {s : State} {f : ChainFrame} {op : Nat} (hon : onChain s = true) (hty : fType f = 8) (hop : fOp f = op)
    (hok : frameOk f = true) : electionRx op f s = electionFrame s f := by
  simp [electionRx, hon, hty, hop, hok]

theorem electionFrame_heartbeat {s : State} {f : ChainFrame} (hlo : 64 ≤ fSrc f) (hhi : fSrc f ≤ 67) (hlen : fLen f = 3) (hop : fOp f = 1) :
    electionFrame s f = heartbeat s (tbit (fWord f 0) 31).toNat (fSrc f - 64) (fld (fWord f 0) 27 24)
      (fld (fWord f 1) 15 0 * 2 ^ 32 + (fWord f 2).toNat) (fEpoch f) := by
  simp [electionFrame, hop, hlen, fld_bit, show ¬ fSrc f < 64 by omega, show ¬ 67 < fSrc f by omega]

theorem electionFrame_yield {s : State} {f : ChainFrame} (hlo : 64 ≤ fSrc f) (hhi : fSrc f ≤ 67) (hlen : fLen f = 3) (hop : fOp f = 2) :
    electionFrame s f = leaseYield s (tbit (fWord f 0) 31).toNat (fSrc f - 64) (fEpoch f) (fld (fWord f 0) 1 0) := by
  simp [electionFrame, hop, hlen, fld_bit, show ¬ fSrc f < 64 by omega, show ¬ 67 < fSrc f by omega]

theorem electionFrame_release {s : State} {f : ChainFrame} (hlo : 64 ≤ fSrc f) (hhi : fSrc f ≤ 67) (hlen : fLen f = 3) (hop : fOp f = 3) :
    electionFrame s f = leaseRelease s (tbit (fWord f 0) 31).toNat (fSrc f - 64) (fEpoch f) := by
  simp [electionFrame, hop, hlen, fld_bit, show ¬ fSrc f < 64 by omega, show ¬ 67 < fSrc f by omega]

theorem heartbeat_first {s : State} {role : Nat} (slot prio serial epoch : Nat) (hst : (leaseOf s role).st = .none)
    (hrec : (leaseOf s role).recorded = false) : heartbeat s role slot prio serial epoch = hbInstall s role slot prio serial epoch := by
  simp [heartbeat, hst, hrec]

/-- A HEARTBEAT of the holder renews its lease (R89). -/
theorem heartbeat_holder {s : State} {role : Nat} (prio serial : Nat) (hst : (leaseOf s role).st = .live) :
    heartbeat s role (leaseOf s role).slot prio serial (leaseOf s role).epoch =
      setLease s role { leaseOf s role with deadline := s.now + leaseNs } := by
  simp [heartbeat, hst]

theorem leaseYield_holder {s : State} {role : Nat} (succ : Nat) (hst : (leaseOf s role).st = .live) :
    leaseYield s role (leaseOf s role).slot (leaseOf s role).epoch succ =
      setLease s role { leaseOf s role with st := .handover, succ := succ, deadline := s.now + leaseNs } := by
  simp [leaseYield, hst]

theorem leaseRelease_holder {s : State} {role : Nat} (hst : (leaseOf s role).st = .live) :
    leaseRelease s role (leaseOf s role).slot (leaseOf s role).epoch = leaseLost s role 1 := by
  simp [leaseRelease, hst]

theorem leaseExpire_live {s : State} {role : Nat} (hst : (leaseOf s role).st = .live) (hdue : (leaseOf s role).deadline ≤ s.now) :
    leaseExpire s role = leaseLost s role 0 := by
  simp [leaseExpire, hst, hdue]

/-- The end of the timekeeper's lease keeps its recorded epoch and the owner's lease. -/
theorem leaseLost_tk_node (s : State) (cause : Nat) :
    (leaseLost s 1 cause).node = { s.node with tk := { s.node.tk with st := .none } } := by
  rw [leaseLost, if_neg (by decide), event2_node]
  rfl

theorem leaseLost_tk_part (p : Part) (h : p ≠ .ctr ∧ p ≠ .rcd ∧ p ≠ .node) (s : State) (cause : Nat) :
    (leaseLost s 1 cause).part p = s.part p := by
  simp [leaseLost, h]

/-- The end of the owner's lease keeps its recorded epoch and the timekeeper's lease. -/
theorem leaseLost_owner_node (s : State) (cause : Nat) :
    (leaseLost s 0 cause).node = { s.node with owner := { s.node.owner with st := .none } } := by
  rw [leaseLost, if_pos rfl, node_of_part (updLeaseLost_part .node (by decide) _), event2_node]
  rfl

/-- Settles O19: each frame of the holder is one change of its role's lease. -/
theorem leaseCommands : Obligations.LeaseCommands := by
  unfold Obligations.LeaseCommands
  refine ⟨fun f s hon hty hop hok hsrc hlen hrole hst hrec => ?install, fun f s hon hty hop hok hsrc hhi hlen hrole hst hep => ?renew,
    fun f s hon hty hop hok hsrc hhi hlen hrole hst hep => ?yield, fun f s hon hty hop hok hsrc hhi hlen hrole hst hep => ?release,
    fun s hst hdue => ?expireTk, fun s hst hdue => ?expireOwner⟩
  case install =>
    have hend := electionRx_formed hon hty hop hok
    rw [electionFrame_heartbeat hsrc.1 hsrc.2 hlen hop, hrole, Bool.toNat_false, heartbeat_first (role := 0) _ _ _ _ hst hrec] at hend
    have hnode : (hbInstall s 0 (fSrc f - 64) (fld (fWord f 0) 27 24) (fld (fWord f 1) 15 0 * 2 ^ 32 + (fWord f 2).toNat) (fEpoch f)).node =
        { s.node with
          owner := { st := .live, slot := fSrc f - 64, prio := fld (fWord f 0) 27 24,
                     serial := fld (fWord f 1) 15 0 * 2 ^ 32 + (fWord f 2).toNat, epoch := fEpoch f, recorded := true,
                     deadline := s.now + leaseNs } } := by
      rw [hbInstall, event2_node]
      rfl
    refine ⟨_, congrArg Host.Outcome.next hend, ?_, ?_, ?_, ?_, ?_, ?_, ?_, ?_, ?_, fun p hp => ?_⟩
    case refine_10 =>
      rw [hbInstall, event2_part p (by simp at hp; simp [hp]), setLease_part p (by simp at hp; simp [hp])]
    all_goals rw [hnode]
    all_goals rfl
  case renew =>
    have hslot : fSrc f - 64 = (leaseOf s 1).slot := by rw [hsrc, Nat.add_sub_cancel_left]; rfl
    have hend := electionRx_formed hon hty hop hok
    rw [electionFrame_heartbeat (by omega) hhi hlen hop, hrole, Bool.toNat_true, hslot, hep] at hend
    have hlast := hend.trans (heartbeat_holder (role := 1) _ _ hst)
    exact ⟨_, congrArg Host.Outcome.next hlast, rfl, rfl, hst, rfl, fun p hp => setLease_part p (by simpa using hp) _ _ _⟩
  case yield =>
    have hslot : fSrc f - 64 = (leaseOf s 0).slot := by rw [hsrc, Nat.add_sub_cancel_left]; rfl
    have hend := electionRx_formed hon hty hop hok
    rw [electionFrame_yield (by omega) hhi hlen hop, hrole, Bool.toNat_false, hslot, hep] at hend
    have hlast := hend.trans (leaseYield_holder (role := 0) _ hst)
    exact ⟨_, congrArg Host.Outcome.next hlast, rfl, rfl, rfl, rfl, fun p hp => setLease_part p (by simpa using hp) _ _ _⟩
  case release =>
    have hslot : fSrc f - 64 = (leaseOf s 1).slot := by rw [hsrc, Nat.add_sub_cancel_left]; rfl
    have hend := electionRx_formed hon hty hop hok
    rw [electionFrame_release (by omega) hhi hlen hop, hrole, Bool.toNat_true, hslot, hep] at hend
    have hlast := hend.trans (leaseRelease_holder (role := 1) hst)
    have hnode := leaseLost_tk_node s 1
    exact ⟨_, congrArg Host.Outcome.next hlast, congrArg (fun n : SelfSt => n.tk.st) hnode, (congrArg (fun n : SelfSt => n.tk.epoch) hnode).trans rfl,
      (congrArg SelfSt.owner hnode).trans rfl, fun p hp => leaseLost_tk_part p (by simp at hp; simp [hp]) _ _⟩
  case expireTk =>
    have hend := leaseExpire_live (role := 1) hst hdue
    have hnode := leaseLost_tk_node s 0
    exact ⟨_, congrArg Host.Outcome.next hend, congrArg (fun n : SelfSt => n.tk.st) hnode, (congrArg (fun n : SelfSt => n.tk.epoch) hnode).trans rfl,
      (congrArg SelfSt.owner hnode).trans rfl, fun p hp => leaseLost_tk_part p (by simp at hp; simp [hp]) _ _⟩
  case expireOwner =>
    have hend := leaseExpire_live (role := 0) hst hdue
    have hnode := leaseLost_owner_node s 0
    exact ⟨_, congrArg Host.Outcome.next hend, congrArg (fun n : SelfSt => n.owner.st) hnode,
      (congrArg (fun n : SelfSt => n.owner.epoch) hnode).trans rfl, (congrArg SelfSt.tk hnode).trans rfl,
      fun p hp => leaseLost_part p (by simp at hp; simp [hp]) _ _ _⟩

end Sys2Proof.Machine
end

section
/-! SUPPORT. Slices: what a change of one slice leaves of it and of the others. -/

namespace Sys2Proof.Machine

@[simp] theorem sliceOf_modSlice_same (s : State) (i : Nat) (f : SliceSt → SliceSt) : sliceOf (modSlice s i f) i = f (sliceOf s i) :=
  SMap.get_set_same _ _ _ _

theorem sliceOf_congr {s t : State} (h : t.slc.sl = s.slc.sl) (i : Nat) : sliceOf t i = sliceOf s i :=
  congrArg (fun m : SMap SliceSt => m.get (initSlice i) i) h

theorem sliceOf_of_slc {s t : State} (h : t.slc = s.slc) (i : Nat) : sliceOf t i = sliceOf s i := sliceOf_congr (congrArg SlcBlk.sl h) i

@[simp] theorem sliceOf_event (s : State) (code inst d i : Nat) : sliceOf (event s code inst d) i = sliceOf s i :=
  sliceOf_of_slc (slc_of_part (event_part .slc (by decide) _ _ _ _)) i

@[simp] theorem sliceOf_copyDrop (s : State) (sl i : Nat) : sliceOf (copyDrop s sl) i = sliceOf s i :=
  sliceOf_of_slc (slc_of_part (copyDrop_part .slc (by decide) _ _)) i

@[simp] theorem sliceOf_copySrcGone (s : State) (sl i : Nat) : sliceOf (copySrcGone s sl) i = sliceOf s i :=
  sliceOf_of_slc (slc_of_part (copySrcGone_part .slc (by decide) _ _)) i

end Sys2Proof.Machine
end

section
/-! The statement about slice loads, steering, barriers and drain (R107 to R116). -/

namespace Sys2Proof.Machine

/-- The owner's write of IMG_SLICE_LOAD. -/
theorem ownWrite_sliceLoad {s : State} {slot : Fin 4} {v : Word} (h : ownerMay s slot .imgSliceLoad [] = true) :
    ownWrite s slot.val .imgSliceLoad [] v = { sliceLoadWrite s v with acc := (stOk, 0) } :=
  ownWrite_of_writeReg (busy := false) h rfl rfl rfl (by decide) (by decide)

/-- GO with the slice, Tun and role of its fields. -/
theorem sliceLoadWrite_go (s : State) (sl : Fin 16) (n : Fin 4) (r : Fin 8) :
    sliceLoadWrite s (mkB 31 true ||| mkF 11 8 sl.val ||| mkF 5 4 n.val ||| mkF 2 0 r.val) = sliceLoadGo s sl.val n.val r.val := by
  have hgo : tbit (mkB 31 true ||| mkF 11 8 sl.val ||| mkF 5 4 n.val ||| mkF 2 0 r.val) 31 = true := by simp [tbit_or, tbit_mkB_same]
  have hsl : fld (mkB 31 true ||| mkF 11 8 sl.val ||| mkF 5 4 n.val ||| mkF 2 0 r.val) 11 8 = sl.val := by
    simp [fld_or, fld_mkB_other, fld_mkF_same, fld_mkF_other, Nat.mod_eq_of_lt sl.isLt]
  have hn : fld (mkB 31 true ||| mkF 11 8 sl.val ||| mkF 5 4 n.val ||| mkF 2 0 r.val) 5 4 = n.val := by
    simp [fld_or, fld_mkB_other, fld_mkF_same, fld_mkF_other, Nat.mod_eq_of_lt n.isLt]
  have hr : fld (mkB 31 true ||| mkF 11 8 sl.val ||| mkF 5 4 n.val ||| mkF 2 0 r.val) 2 0 = r.val := by
    simp [fld_or, fld_mkB_other, fld_mkF_same, fld_mkF_other, Nat.mod_eq_of_lt r.isLt]
  rw [sliceLoadWrite, if_pos hgo, hsl, hn, hr]

theorem sliceLoadWrite_unload (s : State) (sl : Fin 16) : sliceLoadWrite s (mkB 30 true ||| mkF 11 8 sl.val) = sliceUnload s sl.val := by
  have hgo : tbit (mkB 30 true ||| mkF 11 8 sl.val) 31 = false := by simp [tbit_or, tbit_mkB_other, tbit_mkF_other]
  have hun : tbit (mkB 30 true ||| mkF 11 8 sl.val) 30 = true := by simp [tbit_or, tbit_mkB_same]
  have hsl : fld (mkB 30 true ||| mkF 11 8 sl.val) 11 8 = sl.val := by
    simp [fld_or, fld_mkB_other, fld_mkF_same, Nat.mod_eq_of_lt sl.isLt]
  rw [sliceLoadWrite, if_neg (by simp [hgo]), if_pos hun, hsl]

theorem sliceLoadGo_allowed {s : State} {sl n r : Nat} (hdata : onData s = true) (hsl : sl < 9) (hmay : loadAllowed s sl n r = true)
    (happ : applyRuns s = false) (hrec : s.upd.recovery = false) : sliceLoadGo s sl n r = loadStart s sl n r 0 := by
  simp [sliceLoadGo, hdata, hsl, hmay, happ, hrec]

/-- A load that starts takes the slice to LOADING, without a program, from its Tun and role (R107). -/
theorem loadStart_slice (s : State) (sl n r by' : Nat) :
    (sliceOf (loadStart s sl n r by') sl).st = .loading ∧ (sliceOf (loadStart s sl n r by') sl).prog = none ∧
      (loadStart s sl n r by').slc.loads.find sl = some { tun := n, role := r, by' := by' } := by
  have hsl : sliceOf (loadStart s sl n r by') sl = { sliceOf (copyDrop (blockSwitch (blockSwitch s (18 + sl) true) (27 + sl) true) sl) sl with
      st := .loading, prog := none, digest := 0 } := SMap.get_set_same _ _ _ _
  exact ⟨congrArg SliceSt.st hsl, congrArg SliceSt.prog hsl, SMap.find_put_same _ _ _⟩

/-- The slice after its role has been written (R107). -/
theorem sliceOf_writeRole_same (s : State) (sl t n : Nat) (st : SliceState) :
    (sliceOf (writeRole s sl t n st) sl).st = st ∧ (sliceOf (writeRole s sl t n st) sl).role = n ∧
      (sliceOf (writeRole s sl t n st) sl).tun = t ∧ (sliceOf (writeRole s sl t n st) sl).prog.isSome = true := by
  unfold writeRole
  dsimp only
  rw [sliceOf_of_slc (slc_of_part (lrnLoad_part .slc (by decide) _ _ _)), sliceOf_modSlice_same]
  exact ⟨rfl, rfl, rfl, rfl⟩

/-- A load whose sections are good leaves the slice READY with the role, and is over (R107). -/
theorem loadEnd_good {s : State} {sl : Nat} {l : SliceLoad} (hl : s.slc.loads.find sl = some l)
    (hok : (roleSects s (tunBase l.tun) l.role).all (sectOk s (tunBase l.tun)) = true) :
    loadEnd s sl = event (count (modSlc (writeRole s sl l.tun l.role .ready) (fun x => { x with loads := x.loads.put sl none })) 3 8)
      0x0C03 sl (sl * 256 + l.role) := by
  unfold loadEnd
  rw [hl]
  exact if_pos hok

/-- A load that ended well and that the host asked for concerns nobody else. -/
theorem sliceLoadDone_host {s : State} {sl : Nat} {l : SliceLoad} (hl : s.slc.loads.find sl = some l) (hby : l.by' = 0)
    (hready : (sliceOf (loadEnd s sl) sl).st = .ready) : sliceLoadDone s sl = loadEnd s sl := by
  simp [sliceLoadDone, hl, hby, hready]

theorem sliceUnload_ready {s : State} {sl : Nat} (hsl : sl < 9) (hst : (sliceOf s sl).st = .ready) (hrec : s.upd.recovery = false) :
    sliceUnload s sl = copyDrop (modSlice s sl (fun x => { x with st := .idle, prog := none, digest := 0 })) sl := by
  simp [sliceUnload, hsl, hst, hrec]

theorem steerWrite_staged {s : State} {v : Word} (hok : steerOk s v = true) (hd : s.fur.direct = false) :
    steerWrite s v = stage s .imgSteer [] v := by
  have hmask : v &&& BitVec.ofNat 32 Reg.imgSteer.info.st = v := BitVec.and_allOnes
  simp [steerWrite, hok, stageOrNow, hd, hmask]

theorem rotateDrained_not_rotating {s : State} (h : s.img.apply.phase ≠ .rotate) : rotateDrained s = s := by
  simp [rotateDrained, h]

/-- A slice whose drain ends outside a rotation. -/
def drained (s : State) (i : Nat) : State :=
  copySrcGone (event (modSlice s i (fun x => { x with st := .ready, order := {}, tokens := {} })) 0x0C06 i i) i

theorem drained_part (p : Part) (h : p ≠ .slc ∧ p ≠ .ctr ∧ p ≠ .rcd ∧ p ≠ .lrn) (s : State) (i : Nat) :
    (drained s i).part p = s.part p := by
  simp [drained, h]

theorem drainDone_not_rotating {s : State} {i : Nat} (hr : drainReady s i = true) (h : s.img.apply.phase ≠ .rotate) :
    drainDone s i = drained s i := by
  have hph : (drained s i).img.apply.phase ≠ .rotate := by rwa [img_of_part (drained_part .img (by decide) s i)]
  rw [drainDone, if_pos hr]
  exact (congrArg (fun u => if (sliceOf s i).pair = s.img.apply.role then u else drained s i) (rotateDrained_not_rotating hph)).trans
    (ite_self _)

/-- Settles O21: the load starts, or ends well; what steers, opens or has drained. -/
theorem sliceLoadAndSteering : Obligations.SliceLoadAndSteering := by
  unfold Obligations.SliceLoadAndSteering
  refine ⟨fun slot sl n r s hmay hdata hsl hok happ hrec => ?load, fun sl l s hdata hl hby hok => ?done,
    fun slot sl s hmay hsl hst hrec => ?unload, fun slot val s hmay hd hok => ?steer, fun inp b s hdata hb hready => ?barrier,
    fun sl s hdata hready hph => ?drain⟩
  case load =>
    have hend := ownWrite_sliceLoad (v := mkB 31 true ||| mkF 11 8 sl.val ||| mkF 5 4 n.val ||| mkF 2 0 r.val) hmay
    rw [sliceLoadWrite_go, sliceLoadGo_allowed hdata hsl hok happ hrec] at hend
    obtain ⟨hst, hprog, hload⟩ := loadStart_slice s sl.val n.val r.val 0
    refine ⟨_, congrArg Host.Outcome.next hend, rfl, hst, hprog, congrArg (Option.map _) hload,
      AgreeBut.acc (by simp) _ fun p hp => loadStart_part p (by simp at hp; simp [hp]) _ _ _ _ _⟩
  case done =>
    have hgood := loadEnd_good hl hok
    obtain ⟨hst, hrole, htun, hprog⟩ := sliceOf_writeRole_same s sl.val l.tun l.role .ready
    have hslc : (loadEnd s sl.val).slc = { (writeRole s sl.val l.tun l.role .ready).slc with
        loads := (writeRole s sl.val l.tun l.role .ready).slc.loads.put sl.val none } := by rw [hgood]; simp [modSlc]
    have hsame : sliceOf (loadEnd s sl.val) sl.val = sliceOf (writeRole s sl.val l.tun l.role .ready) sl.val :=
      sliceOf_congr (by rw [hslc]) _
    have hend := sliceLoadDone_host hl hby ((congrArg SliceSt.st hsame).trans hst)
    refine ⟨_, congrArg Host.Outcome.next ((if_pos hdata).trans hend), (congrArg SliceSt.st hsame).trans hst,
      (congrArg SliceSt.role hsame).trans hrole, (congrArg SliceSt.tun hsame).trans htun,
      (congrArg (fun x : SliceSt => x.prog.isSome) hsame).trans hprog, ?_,
      fun p hp => loadEnd_part p (by simp at hp; simp [hp]) _ _⟩
    exact (congrArg (fun b : SlcBlk => b.loads.find sl.val) hslc).trans (SMap.find_put_same _ _ _)
  case unload =>
    have hend := ownWrite_sliceLoad (v := mkB 30 true ||| mkF 11 8 sl.val) hmay
    rw [sliceLoadWrite_unload, sliceUnload_ready hsl hst hrec] at hend
    have hsl : sliceOf (copyDrop (modSlice s sl.val (fun x => { x with st := .idle, prog := none, digest := 0 })) sl.val) sl.val =
        { sliceOf s sl.val with st := .idle, prog := none, digest := 0 } := by rw [sliceOf_copyDrop, sliceOf_modSlice_same]
    refine ⟨_, congrArg Host.Outcome.next hend, rfl, congrArg SliceSt.st hsl, congrArg SliceSt.prog hsl,
      AgreeBut.acc (by simp) _ fun p hp => ?_⟩
    rw [copyDrop_part p (by simp at hp; simp [hp]), modSlice_part p (by simp at hp; simp [hp])]
  case steer =>
    have hend : ownWrite s slot.val .imgSteer [] val = { steerWrite s val with acc := (stOk, 0) } :=
      ownWrite_of_writeReg (busy := false) hmay rfl rfl rfl (by decide) (by decide)
    rw [steerWrite_staged hok hd] at hend
    exact ⟨_, congrArg Host.Outcome.next hend, rfl, SMap.find_put_same _ _ _,
      AgreeBut.acc (by simp) _ fun p hp => stage_part p (by simp at hp; simp [hp]) _ _ _ _⟩
  case barrier =>
    have hend : (match s.slc.barrier.find inp.val with
        | some b => if onData s && barrierReady s inp.val b then barrierOpen s inp.val else s
        | none => s) = maxRF (modSlc s (fun x => { x with barrier := x.barrier.put inp.val none })) .imgBarrierMax [] 15 0
          (min 0xFFFF (s.now - b.since)) := by simp [hb, hdata, hready, barrierOpen]
    refine ⟨_, congrArg Host.Outcome.next hend, ?_, fun p hp => ?_⟩
    · rw [slc_of_part (maxRF_part .slc (by decide) _ _ _ _ _ _)]
      exact SMap.find_put_same _ _ _
    · rw [maxRF_part p (by simp at hp; simp [hp]), modSlc_part p (by simp at hp; simp [hp])]
  case drain =>
    have hend := drainDone_not_rotating hready hph
    refine ⟨_, congrArg Host.Outcome.next ((if_pos hdata).trans hend), ?_, img_of_part (drained_part .img (by decide) _ _),
      fun p hp => drained_part p (by simp at hp; simp [hp]) _ _⟩
    rw [drained, sliceOf_copySrcGone, sliceOf_event, sliceOf_modSlice_same]

end Sys2Proof.Machine
end

section
/-! The statement about applies (R119 to R123). -/

namespace Sys2Proof.Machine

/-- The owner's write of IMG_APPLY. -/
theorem ownWrite_apply {s : State} {slot : Fin 4} {v : Word} (h : ownerMay s slot .imgApply [] = true) :
    ownWrite s slot.val .imgApply [] v = { applyWrite s v with acc := (stOk, 0) } :=
  ownWrite_of_writeReg (busy := false) h rfl rfl rfl (by decide) (by decide)

/-- GO with MODE 0 and a Tun. -/
theorem applyWrite_hitless {s : State} (n : Fin 4) (hrec : s.upd.recovery = false) :
    applyWrite s (mkB 31 true ||| mkF 1 0 n.val) = applyHitless s n.val := by
  have hgo : tbit (mkB 31 true ||| mkF 1 0 n.val) 31 = true := by simp [tbit_or, tbit_mkB_same]
  have hmode : tbit (mkB 31 true ||| mkF 1 0 n.val) 30 = false := by simp [tbit_or, tbit_mkB_other, tbit_mkF_other]
  have hn : fld (mkB 31 true ||| mkF 1 0 n.val) 1 0 = n.val := by
    simp [fld_or, fld_mkB_other, fld_mkF_same, Nat.mod_eq_of_lt n.isLt]
  simp [applyWrite, hgo, hmode, hn, hrec]

/-- GO with MODE 1 and a Tun. -/
theorem applyWrite_cold {s : State} (n : Fin 4) (hrec : s.upd.recovery = false) :
    applyWrite s (mkF 31 30 3 ||| mkF 1 0 n.val) = applyCold s n.val := by
  have hgo : tbit (mkF 31 30 3 ||| mkF 1 0 n.val) 31 = true := by simp [tbit_or, tbit_mkF_same, Nat.testBit]
  have hmode : tbit (mkF 31 30 3 ||| mkF 1 0 n.val) 30 = true := by simp [tbit_or, tbit_mkF_same, Nat.testBit]
  have hn : fld (mkF 31 30 3 ||| mkF 1 0 n.val) 1 0 = n.val := by
    simp [fld_or, fld_mkF_other, fld_mkF_same, Nat.mod_eq_of_lt n.isLt]
  simp [applyWrite, hgo, hmode, hn, hrec]

/-- STOP. -/
theorem applyWrite_stop {s : State} (hrec : s.upd.recovery = false) : applyWrite s (mkB 29 true) = applyStop s := by
  have hgo : tbit (mkB 29 true) 31 = false := tbit_mkB_other _ _ _ (by decide)
  have hstop : tbit (mkB 29 true) 29 = true := tbit_mkB_same _ _ (by decide)
  simp [applyWrite, hgo, hstop, hrec]

/-! ## A cold apply -/

/-- The state as a cold apply resets it, before the data path has power again (R123). -/
def coldBooting (s : State) (t : Nat) : State :=
  let s1 := coldReset (if furBusy s then furFlag (dropSealed s) 28 else s)
  let s2 := modImg s1 (fun i => { i with coldWait := none, coldTun := some t, tried := [t], apply := { tun := t } })
  { s2 with pwr := { s2.pwr with boot := { s2.pwr.boot with t0 := s2.now, cleared := false, tun := some t, done := false } } }

theorem coldNow_eq (s : State) (t : Nat) : coldNow s t = dataUp (coldBooting s t) := rfl

/-- The reset of a cold apply leaves boot direct mode with no open value. -/
theorem coldReset_fur (s : State) : (coldReset s).fur = { s.fur with direct := true, opn := {}, lostOpn := [] } := rfl

theorem coldBooting_fur (s : State) (t : Nat) : (coldBooting s t).fur.direct = true ∧ (coldBooting s t).fur.opn = {} := by
  have hfur : (coldBooting s t).fur = (coldReset (if furBusy s then furFlag (dropSealed s) 28 else s)).fur := rfl
  rw [hfur, coldReset_fur]
  exact ⟨rfl, rfl⟩

/-- A cold apply boots from its Tun at once (R123). -/
theorem coldNow_boots (s : State) (t : Nat) :
    (coldNow s t).fur.direct = true ∧ (coldNow s t).fur.opn = {} ∧ (coldNow s t).pwr.boot.tun = some t ∧
      (coldNow s t).pwr.boot.done = false ∧ (coldNow s t).img.coldTun = some t := by
  obtain ⟨hd, hopn⟩ := coldBooting_fur s t
  rw [coldNow_eq, fur_of_part (dataUp_part .fur (by decide) _), pwr_of_part (dataUp_part .pwr (by decide) _),
    img_of_part (dataUp_part .img (by decide) _)]
  exact ⟨hd, hopn, rfl, rfl, rfl⟩

/-! ## STOP -/

/-- An apply without an update session that is stopped (R122). -/
def applyHalted (s : State) : State :=
  modApply (ucodeOver (loadsLoose s)) (fun a => { a with
    phase := .stopped, wait := .work, stopping := false
    mixed := if a.mixed.isNone && a.down then some (a.tun, s.img.effTun.getD a.tun) else a.mixed })

theorem ucodeOver_loadsLoose_img (s : State) : (ucodeOver (loadsLoose s)).img = s.img :=
  (img_of_part (ucodeOver_part .img (by decide) _)).trans (img_of_part (loadsLoose_part .img (by decide) _))

theorem applyHalted_apply (s : State) :
    (applyHalted s).img.apply.phase = .stopped ∧ (applyHalted s).img.apply.tun = s.img.apply.tun := by
  have htun : (applyHalted s).img.apply.tun = (ucodeOver (loadsLoose s)).img.apply.tun := rfl
  rw [htun, ucodeOver_loadsLoose_img]
  exact ⟨rfl, rfl⟩

theorem applyHalted_part (p : Part) (h : p ≠ .img ∧ p ≠ .xe ∧ p ≠ .slc) (s : State) : (applyHalted s).part p = s.part p := by
  simp [applyHalted, modApply, h]

theorem updStopped_none {s : State} (down : Bool) (reason : Nat) (happ : s.upd.applying = false) (hfall : s.upd.falling = false) :
    updStopped s down reason = s := by
  simp [updStopped, happ, hfall]

/-- Outside an update session a stopped apply is told of in event 0x0C08 (R122). -/
theorem applyHalt_alone {s : State} (reason : Nat) (happ : s.upd.applying = false) (hfall : s.upd.falling = false) :
    applyHalt s reason = event (applyHalted s) 0x0C08 s.img.apply.tun (s.img.apply.phase.code * 16 + s.img.apply.step) := by
  have hupd : (event (applyHalted s) 0x0C08 s.img.apply.tun (s.img.apply.phase.code * 16 + s.img.apply.step)).upd = s.upd := by
    rw [event_upd, upd_of_part (applyHalted_part .upd (by decide) s)]
  exact updStopped_none (s := event (applyHalted s) 0x0C08 s.img.apply.tun (s.img.apply.phase.code * 16 + s.img.apply.step)) _ _
    ((congrArg UpdSt.applying hupd).trans happ) ((congrArg UpdSt.falling hupd).trans hfall)

/-- What a stopped apply leaves, once it has been told of. -/
theorem applyHaltTold_keeps (s : State) (inst d : Nat) :
    (event (applyHalted s) 0x0C08 inst d).img.apply.phase = .stopped ∧
      (event (applyHalted s) 0x0C08 inst d).img.apply.tun = s.img.apply.tun ∧ (event (applyHalted s) 0x0C08 inst d).upd = s.upd ∧
      AgreeBut [.img, .ctr, .rcd, .xe, .slc] s (event (applyHalted s) 0x0C08 inst d) := by
  obtain ⟨hphase, htun⟩ := applyHalted_apply s
  rw [event_img, event_upd]
  refine ⟨hphase, htun, upd_of_part (applyHalted_part .upd (by decide) s), fun p hp => ?_⟩
  rw [event_part p (by simp at hp; simp [hp]), applyHalted_part p (by simp at hp; simp [hp])]

theorem applyStop_verify {s : State} (hph : s.img.apply.phase = .verify) (hw : s.img.apply.wait = .work) :
    applyStop s = applyHalt s 0x2C := by
  simp [applyStop, hph, hw]

/-- STOP in a phase that has no commit sealed, outside an update session (R122). -/
theorem ownWrite_applyStop {s : State} {slot : Fin 4} (hmay : ownerMay s slot .imgApply [] = true) (hrec : s.upd.recovery = false)
    (hph : s.img.apply.phase = .verify) (hw : s.img.apply.wait = .work) (happ : s.upd.applying = false) (hfall : s.upd.falling = false) :
    ∃ u, ownWrite s slot.val .imgApply [] (mkB 29 true) = { u with acc := (stOk, 0) } ∧ u.img.apply.phase = .stopped ∧
      u.img.apply.tun = s.img.apply.tun ∧ u.upd = s.upd ∧ AgreeBut [.img, .ctr, .rcd, .xe, .slc] s u := by
  have hend := ownWrite_apply (v := mkB 29 true) hmay
  rw [applyWrite_stop hrec, applyStop_verify hph hw, applyHalt_alone _ happ hfall] at hend
  exact ⟨_, hend, applyHaltTold_keeps s _ _⟩

/-! ## The sequencer -/

theorem phaseDone_rotate_end {s : State} (hph : s.img.apply.phase = .rotate) (hw : s.img.apply.wait = .work)
    (hstop : s.img.apply.stopping = false) (htodo : s.img.apply.todo = []) :
    phaseDone s = modApply s (fun a => { a with phase := .cleanup, wait := .work }) := by
  simp [phaseDone, hph, hw, hstop, rotateNext, htodo]

theorem phaseDone_cleanup {s : State} (hph : s.img.apply.phase = .cleanup) (hw : s.img.apply.wait = .work)
    (hstop : s.img.apply.stopping = false) (hb : furBusy s = false) :
    phaseDone s = modApply (sealValues s (cleanValues s s.img.apply.tun) none true false) (fun a => { a with wait := .commit }) := by
  simp [phaseDone, hph, hw, hstop, hb]

/-- Settles O22: what each start, stop and step of the sequencer leaves of the apply. -/
theorem applyCommands : Obligations.ApplyCommands := by
  unfold Obligations.ApplyCommands
  refine ⟨fun slot n s hmay hrec hok => ?hitless, fun slot n s hmay hrec hok harmed => ?coldWaits,
    fun slot n s hmay hrec hok harmed => ?cold, fun slot s hmay hrec hph hw happ hfall => ?stop,
    fun s hdata hfw hph hw hstop htodo => ?rotated, fun s hdata hfw hph hw hstop hb => ?cleanup⟩
  case hitless =>
    have hend := ownWrite_apply (v := mkB 31 true ||| mkF 1 0 n.val) hmay
    rw [applyWrite_hitless n hrec, applyHitless, if_pos hok] at hend
    exact ⟨_, congrArg Host.Outcome.next hend, rfl, rfl, rfl, rfl,
      AgreeBut.acc (by simp) _ fun p hp => hitlessStart_part p (by simp at hp; simp [hp]) _ _ _⟩
  case coldWaits =>
    have hend := ownWrite_apply (v := mkF 31 30 3 ||| mkF 1 0 n.val) hmay
    rw [applyWrite_cold n hrec, applyCold, if_pos hok, coldStart, if_pos harmed] at hend
    exact ⟨_, congrArg Host.Outcome.next hend, rfl, rfl, rfl,
      AgreeBut.acc (by simp) _ fun p hp => modImg_part p (by simp at hp; simp [hp]) _ _⟩
  case cold =>
    have hend := ownWrite_apply (v := mkF 31 30 3 ||| mkF 1 0 n.val) hmay
    rw [applyWrite_cold n hrec, applyCold, if_pos hok, coldStart, if_neg (by simp [harmed])] at hend
    obtain ⟨hd, hopn, htun, hdone, hcold⟩ := coldNow_boots s n.val
    have hframe := fun p h => coldNow_part p h s n.val
    generalize hu : coldNow s n.val = u at hend hd hopn htun hdone hcold hframe
    exact ⟨_, congrArg Host.Outcome.next hend, rfl, hd, hopn, htun, hdone, hcold,
      AgreeBut.acc (by simp) _ fun p hp => hframe p (by simp at hp; simp [hp])⟩
  case stop =>
    obtain ⟨u, hend, hphase, htun, hupd, hframe⟩ := ownWrite_applyStop hmay hrec hph hw happ hfall
    exact ⟨_, congrArg Host.Outcome.next hend, rfl, hphase, htun, hupd, AgreeBut.acc (by simp) _ (hframe.mono (by simp))⟩
  case rotated =>
    have hgo : (onData s && fwRuns s) = true := by simp [hdata, hfw]
    have hend := phaseDone_rotate_end hph hw hstop htodo
    exact ⟨_, congrArg Host.Outcome.next ((if_pos hgo).trans hend), rfl, rfl, fun p hp => modImg_part p (by simp at hp; simp [hp]) _ _⟩
  case cleanup =>
    have hgo : (onData s && fwRuns s) = true := by simp [hdata, hfw]
    have hend := phaseDone_cleanup hph hw hstop hb
    refine ⟨_, congrArg Host.Outcome.next ((if_pos hgo).trans hend), rfl, rfl, rfl, rfl, fun p hp => ?_⟩
    rw [modApply, modImg_part p (by simp at hp; simp [hp]), sealValues_part p (by simp at hp; simp [hp])]

end Sys2Proof.Machine
end

section
/-! SUPPORT. Line ports: what each change of a port, of its lanes and of its group leaves (R126 to R143). -/

namespace Sys2Proof.Machine

/-- What every step keeps, a loop keeps. -/
theorem forEach_inv (P : State → Prop) {g : Nat → State → State} (h : ∀ n u, P u → P (g n u)) (l : List Nat) {s : State} (hs : P s) :
    P (forEach l g s) := by
  induction l generalizing s with
  | nil => exact hs
  | cons a l ih => exact ih (h a s hs)

theorem rb_eq_tbit (s : State) (r : Reg) (idx : List Nat) (i : Nat) : rb s r idx i = tbit (regRaw s r idx) i := by
  rw [rb, rf, fld_bit]
  cases tbit (regRaw s r idx) i <;> rfl

/-! ## Ports -/

@[simp] theorem portOf_setPort_same (s : State) (p : Nat) (x : LpPort) : portOf (setPort s p x) p = x := SMap.get_set_same _ _ _ _

theorem portOf_congr {s t : State} (h : t.lp.ports = s.lp.ports) (p : Nat) : portOf t p = portOf s p :=
  congrArg (fun m : SMap LpPort => m.get {} p) h

theorem portOf_of_lp {s t : State} (h : t.lp = s.lp) (p : Nat) : portOf t p = portOf s p := portOf_congr (congrArg LpSt.ports h) p

@[simp] theorem portOf_event (s : State) (code inst d p : Nat) : portOf (event s code inst d) p = portOf s p :=
  portOf_of_lp (event_lp s code inst d) p

@[simp] theorem portOf_countLp (s : State) (q off p : Nat) : portOf (countLp s q off) p = portOf s p := rfl

theorem ports_setCoef (s : State) (p : Nat) (f : Nat → Option Word) : (setCoef s p f).lp.ports = s.lp.ports := by
  refine forEach_inv (fun u => u.lp.ports = s.lp.ports) (fun n u hu => ?_) _ rfl
  exact hu

@[simp] theorem portOf_setCoef (s : State) (p q : Nat) (f : Nat → Option Word) : portOf (setCoef s p f) q = portOf s q :=
  portOf_congr (ports_setCoef s p f) q

@[simp] theorem portOf_txFollow (s : State) (p q : Nat) : portOf (txFollow s p) q = portOf s q := by
  unfold txFollow
  split
  · exact portOf_setCoef _ _ _ _
  · rfl

theorem portOf_setReg (s : State) (r : Reg) (idx : List Nat) (v : Word) (p : Nat) : portOf (setReg s r idx v) p = portOf s p := rfl

/-! ## The registers of a group -/

/-- The registers of a group and of its ports are the same in both states; lane registers may differ. -/
def LineRegs (s t : State) : Prop := ∀ r idx, r.addr idx % 0x80000 < 0x2000 → regRaw t r idx = regRaw s r idx

theorem LineRegs.trans {s t u : State} (h : LineRegs s t) (k : LineRegs t u) : LineRegs s u :=
  fun r idx ha => (k r idx ha).trans (h r idx ha)

theorem LineRegs.of_regs {s t : State} (h : t.regs = s.regs) : LineRegs s t := fun r idx _ => regRaw_congr h r idx

theorem addr_laneStatus (g l : Nat) : Reg.addr .lpLaneStatus [g, l] = 0x04002000 + (g * 0x80000 + (l * 0x100 + 0)) := rfl

theorem LineRegs.setRF_laneStatus (s : State) (n hi lo v : Nat) : LineRegs s (setRF s .lpLaneStatus [n / 8, n % 8] hi lo v) := by
  intro r idx ha
  refine regRaw_setReg_other s .lpLaneStatus r _ idx _ fun e => ?_
  rw [addr_laneStatus] at e
  omega

theorem LineRegs.setLane (s : State) (n : Nat) (sig cdr : Bool) : LineRegs s (setLane s n sig cdr) :=
  (LineRegs.setRF_laneStatus s n 31 31 _).trans (LineRegs.setRF_laneStatus _ n 30 30 _)

theorem LineRegs.forEach {g : Nat → State → State} (h : ∀ n u, LineRegs u (g n u)) (l : List Nat) (s : State) :
    LineRegs s (forEach l g s) := forEach_inv (LineRegs s) (fun n u hu => hu.trans (h n u)) l (fun _ _ _ => rfl)

section
variable {s t : State} (h : LineRegs s t)
include h

theorem LineRegs.rb {r : Reg} {idx : List Nat} (ha : r.addr idx % 0x80000 < 0x2000) (i : Nat) : rb t r idx i = rb s r idx i := by
  rw [rb_eq_tbit, rb_eq_tbit, h r idx ha]

theorem LineRegs.rf {r : Reg} {idx : List Nat} (ha : r.addr idx % 0x80000 < 0x2000) (hi lo : Nat) :
    rf t r idx hi lo = rf s r idx hi lo := congrArg (fun w : Word => fld w hi lo) (h r idx ha)

theorem LineRegs.grpMode (g hi lo : Nat) : Machine.rf t .lpGrpMode [g] hi lo = Machine.rf s .lpGrpMode [g] hi lo :=
  h.rf (by simp only [show Reg.addr .lpGrpMode [g] = 0x04000000 + (g * 0x80000 + 0) from rfl]; omega) hi lo

theorem LineRegs.grpOtn (g : Nat) : grpOtn t g = grpOtn s g := congrArg (fun n => n == 1) (h.grpMode g 31 31)

theorem LineRegs.grpStarts (g : Nat) : grpStarts t g = grpStarts s g := h.grpMode g 7 0

theorem LineRegs.portType (p : Nat) : portType t p = portType s p := by
  rw [Machine.portType, Machine.portType, h.grpMode, h.grpStarts]

theorem LineRegs.portCfg (p i : Nat) : Machine.rb t .lpPortCfg [p / 8, p % 8] i = Machine.rb s .lpPortCfg [p / 8, p % 8] i :=
  h.rb (by
    simp only [show Reg.addr .lpPortCfg [p / 8, p % 8] = 0x04001000 + (p / 8 * 0x80000 + (p % 8 * 0x100 + 0)) from rfl]
    omega) i

theorem LineRegs.startState (p : Nat) : startState t p = startState s p := by
  rw [Machine.startState, Machine.startState, h.grpOtn, h.portCfg, h.portCfg]

theorem LineRegs.stateTimeout (g : Nat) (st : PortState) : stateTimeout t g st = stateTimeout s g st := by
  have htrain : ∀ hi lo, Machine.rf t .lpTmrTrain [g] hi lo = Machine.rf s .lpTmrTrain [g] hi lo := h.rf (by
    simp only [show Reg.addr .lpTmrTrain [g] = 0x04000010 + (g * 0x80000 + 0) from rfl]
    omega)
  have hsync : ∀ hi lo, Machine.rf t .lpTmrSync [g] hi lo = Machine.rf s .lpTmrSync [g] hi lo := h.rf (by
    simp only [show Reg.addr .lpTmrSync [g] = 0x04000014 + (g * 0x80000 + 0) from rfl]
    omega)
  cases st <;> simp only [Machine.stateTimeout, anTimeout, trainTimeout, syncTimeout, htrain, hsync]

end

/-! ## Entering a state -/

/-- A port that enters AN, TRAIN or SYNC not from UP. -/
theorem portOf_enterPort (s : State) (p : Nat) (st : PortState) :
    portOf (enterPort s p st false) p = { portOf s p with
      st := st, since := s.now, deadline := s.now + stateTimeout s (p / 8) st, fromUp := false
      adv := if st = .an then 1 <<< portType s p else 0, pcs := false, align := false, rf := false, lf := st == .sync
      rfTx := st == .sync, goodAt := none, alignAt := none } := portOf_setPort_same _ _ _

/-- A port that returns to a state from UP. -/
theorem portOf_enterPort_fromUp (s : State) (p : Nat) (st : PortState) :
    portOf (enterPort s p st true) p = { portOf s p with
      st := st, since := s.now, deadline := s.now + stateTimeout s (p / 8) st, fromUp := true
      adv := if st = .an then 1 <<< portType s p else 0 } := portOf_setPort_same _ _ _

/-- The transmitters and lanes of a port as a start sets them (R138). -/
def startLanes (s : State) (p : Nat) : State :=
  let s1 := if grpOtn s (p / 8) then otnStart s (p / 8) else s
  forEach (portLanes s1 p) (fun n t => setRF t .lpLaneStatus [n / 8, n % 8] 29 28 0) (txEnable s1 p)

theorem startPort_eq (s : State) (p : Nat) : startPort s p = enterPort (startLanes s p) p (startState s p) false := rfl

theorem startLanes_part (p : Part) (h : p ≠ .regs ∧ p ≠ .lp) (s : State) (q : Nat) : (startLanes s q).part p = s.part p := by
  unfold startLanes
  dsimp only
  rw [part_forEach p _ (fun n u => by simp [h])]
  simp [h]

theorem startLanes_regs (s : State) (p : Nat) : LineRegs s (startLanes s p) := by
  unfold startLanes
  dsimp only
  refine LineRegs.trans (t := txEnable (if grpOtn s (p / 8) then otnStart s (p / 8) else s) p) (LineRegs.of_regs ?_)
    (LineRegs.forEach (fun n u => LineRegs.setRF_laneStatus u n 29 28 0) _ _)
  refine regs_of_part ?_
  simp

@[simp] theorem portOf_startLanes (s : State) (p q : Nat) : portOf (startLanes s p) q = portOf s q := by
  unfold startLanes
  dsimp only
  have hloop : ∀ (l : List Nat) (u : State), (forEach l (fun n t => setRF t .lpLaneStatus [n / 8, n % 8] 29 28 0) u).lp = u.lp :=
    fun l u => lp_of_part (part_forEach .lp _ (fun n v => by simp) l u)
  rw [portOf_of_lp (hloop _ _), txEnable, portOf_setCoef]
  split
  · rfl
  · rfl

/-- A start: the state, its timer, and what the port advertises; its failures stay (R136, R138). -/
theorem portOf_startPort (s : State) (p : Nat) :
    portOf (startPort s p) p = { portOf s p with
      st := startState s p, since := s.now, deadline := s.now + stateTimeout s (p / 8) (startState s p), fromUp := false
      adv := if startState s p = .an then 1 <<< portType s p else 0, pcs := false, align := false, rf := false
      lf := startState s p == .sync, rfTx := startState s p == .sync, goodAt := none, alignAt := none } := by
  have hregs := startLanes_regs s p
  rw [startPort_eq, portOf_enterPort, portOf_startLanes, hregs.stateTimeout, hregs.portType,
    now_of_part (startLanes_part .now (by decide) s p)]

/-- A failure: the hold-off, its reason and the count of failures (R139). -/
theorem portOf_portFail (s : State) (p reason : Nat) :
    (portOf (portFail s p reason) p).st = .holdoff ∧ (portOf (portFail s p reason) p).lastFail = reason ∧
      (portOf (portFail s p reason) p).fails = min 15 ((portOf s p).fails + 1) ∧
      (portOf (portFail s p reason) p).deadline = s.now + min (2 ^ (min 15 ((portOf s p).fails + 1) - 1)) 16 * 1000000000 := by
  unfold portFail
  dsimp only
  rw [portOf_event, portOf_countLp, portOf_setPort_same]
  exact ⟨rfl, rfl, rfl, rfl⟩

/-! ## The fall of LINK -/

/-- A port whose LINK falls has LINK 0, and its change waits for the scheduler (R141). -/
theorem portOf_linkFall (s : State) (p reason : Nat) :
    portOf (linkFall s p reason) p =
      if (portOf s p).link then { portOf s p with link := false, linkq := (portOf s p).linkq ++ [false] } else portOf s p := by
  unfold linkFall
  split
  · rw [portOf_event, portOf_countLp, portOf_setPort_same]
  · rfl

theorem linkFall_regs (s : State) (p reason : Nat) : LineRegs s (linkFall s p reason) :=
  LineRegs.of_regs (regs_of_part (linkFall_part .regs (by decide) s p reason))

theorem linkFall_now (s : State) (p reason : Nat) : (linkFall s p reason).now = s.now :=
  now_of_part (linkFall_part .now (by decide) s p reason)

/-- A port that is stopped: OFF with LINK 0; what waits for transmission stays. -/
theorem portOf_portOff (s : State) (p reason : Nat) :
    (portOf (portOff s p reason) p).st = .off ∧ (portOf (portOff s p reason) p).link = false ∧
      (portOf (portOff s p reason) p).txq = (portOf s p).txq := by
  unfold portOff
  dsimp only
  rw [portOf_setPort_same, txIdle, portOf_setCoef, portOf_linkFall]
  split
  · exact ⟨rfl, rfl, rfl⟩
  · next h => exact ⟨rfl, by simpa using h, rfl⟩

end Sys2Proof.Machine
end

section
/-! The statement about the port state machine (R136 to R143, Table 4.3). -/

namespace Sys2Proof.Machine

/-! ## Start and stop by the owner -/

theorem ownWrite_portCfg {s : State} {slot : Fin 4} {p : Fin 128} {v : Word}
    (h : ownerMay s slot .lpPortCfg [p.val / 8, p.val % 8] = true) (hex : portExists s p.val = true) :
    ownWrite s slot.val .lpPortCfg [p.val / 8, p.val % 8] v = { portCfgWrite s p.val v with acc := (stOk, 0) } := by
  have hport : 8 * (p.val / 8) + p.val % 8 = p.val := Nat.div_add_mod _ _
  have hinert : inertPort s .lpPortCfg [p.val / 8, p.val % 8] = false := by
    simp [inertPort, hport, hex]
  have hw : writeReg s .lpPortCfg [p.val / 8, p.val % 8] v = (portCfgWrite s p.val v, false) := by
    have hrun : writeReg s .lpPortCfg [p.val / 8, p.val % 8] v = (portCfgWrite s (8 * (p.val / 8) + p.val % 8) v, false) :=
      if_neg (by rw [hinert]; exact Bool.false_ne_true)
    rw [hrun, hport]
  have hfit : idxFit Reg.lpPortCfg.info.dims [p.val / 8, p.val % 8] = true := by
    simp [idxFit, Reg.info]
    omega
  exact ownWrite_of_writeReg h hw hfit rfl (by decide) (by decide)

/-- LP_PORT_CFG of a port with a value, and its lanes following it. -/
def portCfgSet (s : State) (p : Nat) (v : Word) : State := txFollow (setReg s .lpPortCfg [p / 8, p % 8] (v &&& 0xFCFF3FFF)) p

theorem portCfgSet_part (q : Part) (h : q ≠ .regs ∧ q ≠ .lp) (s : State) (p : Nat) (v : Word) : (portCfgSet s p v).part q = s.part q := by
  simp [portCfgSet, h]

theorem portCfgSet_regs (s : State) (p : Nat) (v : Word) :
    (portCfgSet s p v).regs = (setReg s .lpPortCfg [p / 8, p % 8] (v &&& 0xFCFF3FFF)).regs :=
  regs_of_part (txFollow_part .regs (by decide) _ _)

@[simp] theorem portOf_portCfgSet (s : State) (p q : Nat) (v : Word) : portOf (portCfgSet s p v) q = portOf s q :=
  portOf_txFollow _ _ _

theorem rb_portCfgSet (s : State) (p : Nat) (v : Word) (i : Nat) :
    rb (portCfgSet s p v) .lpPortCfg [p / 8, p % 8] i = tbit (v &&& 0xFCFF3FFF) i := by
  rw [rb_eq_tbit, regRaw_congr (portCfgSet_regs s p v), regRaw_setReg_same]

theorem tbit_and (a b : Word) (i : Nat) : tbit (a &&& b) i = (tbit a i && tbit b i) := by
  simp [tbit, Nat.testBit_and]

/-- Registers of the group but the port's own are as they were. -/
theorem regRaw_portCfgSet_other (s : State) (p : Nat) (v : Word) {r : Reg} {idx : List Nat}
    (h : r.addr idx ≠ Reg.addr .lpPortCfg [p / 8, p % 8]) : regRaw (portCfgSet s p v) r idx = regRaw s r idx := by
  rw [regRaw_congr (portCfgSet_regs s p v), regRaw_setReg_other _ _ _ _ _ _ h]

theorem addr_portCfg (g i : Nat) : Reg.addr .lpPortCfg [g, i] = 0x04001000 + (g * 0x80000 + (i * 0x100 + 0)) := rfl

theorem grpMode_portCfgSet (s : State) (p : Nat) (v : Word) (g : Nat) :
    regRaw (portCfgSet s p v) .lpGrpMode [g] = regRaw s .lpGrpMode [g] :=
  regRaw_portCfgSet_other s p v (by
    simp only [addr_portCfg, show Reg.addr .lpGrpMode [g] = 0x04000000 + (g * 0x80000 + 0) from rfl]
    omega)

theorem tmrTrain_portCfgSet (s : State) (p : Nat) (v : Word) (g : Nat) :
    regRaw (portCfgSet s p v) .lpTmrTrain [g] = regRaw s .lpTmrTrain [g] :=
  regRaw_portCfgSet_other s p v (by
    simp only [addr_portCfg, show Reg.addr .lpTmrTrain [g] = 0x04000010 + (g * 0x80000 + 0) from rfl]
    omega)

/-- Whether a port may start does not depend on what its lanes transmit. -/
theorem mayStart_congr {s t : State} (p : Nat) (hr : t.regs = s.regs) (hp : t.pwr = s.pwr) (hf : t.flt = s.flt) (hb : t.fab = s.fab) :
    mayStart t p = mayStart s p := by
  simp only [mayStart, grpLive, onData, onIsland, domOn, domSt, isFenced, portExists, grpStarts, twinForbids, twinHeld, twinEn, twinOf, rb, rf,
    regRaw, hr, hp, hf, hb]

theorem tryStart_off {s : State} {p : Nat} (hmay : mayStart s p = true) (hoff : (portOf s p).st = .off) :
    tryStart s p = startPort (setPort s p { portOf s p with winAt := s.now + 10000000 }) p := by
  simp [tryStart, hmay, hoff]

theorem portCfgWrite_start {s : State} {p : Nat} {v : Word} (hex : portExists s p = true)
    (hwas : rb s .lpPortCfg [p / 8, p % 8] 31 = false) (hen : tbit v 31 = true) : portCfgWrite s p v = tryStart (portCfgSet s p v) p := by
  simp [portCfgWrite, hex, hwas, hen, portCfgSet]

/-- A port that is stopped by its owner clears FAILS. -/
def portStopped (s : State) (p : Nat) : State := setPort (portOff s p 2) p { portOf (portOff s p 2) p with fails := 0 }

theorem portCfgWrite_stop {s : State} {p : Nat} {v : Word} (hex : portExists s p = true) (hen : tbit v 31 = false) :
    portCfgWrite s p v = portStopped (portCfgSet s p v) p := by
  simp [portCfgWrite, hex, hen, portCfgSet, portStopped]

/-! ## Training -/

/-- The lanes of the port show what their receivers report. -/
def trainShown (s : State) (r : TrainReport) : State :=
  forEach (portLanes s r.p.val) (fun n t => setRB (setRB t .lpLaneStatus [n / 8, n % 8] 29 (r.own.toNat.testBit (n % 8)))
    .lpLaneStatus [n / 8, n % 8] 28 (r.partner.toNat.testBit (n % 8))) s

theorem trainShown_part (q : Part) (h : q ≠ .regs) (s : State) (r : TrainReport) : (trainShown s r).part q = s.part q :=
  part_forEach q _ (fun n u => by simp [h]) _ _

theorem trainShown_regs (s : State) (r : TrainReport) : LineRegs s (trainShown s r) :=
  LineRegs.forEach (fun n u => (LineRegs.setRF_laneStatus u n 29 29 _).trans (LineRegs.setRF_laneStatus _ n 28 28 _)) _ _

theorem portOf_trainShown (s : State) (r : TrainReport) (p : Nat) : portOf (trainShown s r) p = portOf s p :=
  portOf_of_lp (lp_of_part (trainShown_part .lp (by decide) s r)) p

/-- The lanes' coefficients after training. -/
def trained (s : State) (r : TrainReport) : State := forEach (portLanes s r.p.val) trainLane (trainShown s r)

theorem trained_part (q : Part) (h : q ≠ .regs ∧ q ≠ .lp ∧ q ≠ .free) (s : State) (r : TrainReport) : (trained s r).part q = s.part q := by
  rw [trained, part_forEach q _ (fun n u => by simp [h]), trainShown_part q h.1]

theorem trained_regs (s : State) (r : TrainReport) : LineRegs s (trained s r) :=
  (trainShown_regs s r).trans (LineRegs.of_regs (regs_of_part (part_forEach .regs _ (fun n u => by simp) _ _)))

theorem portOf_trained (s : State) (r : TrainReport) (p : Nat) : portOf (trained s r) p = portOf s p := by
  rw [← portOf_trainShown s r]
  refine portOf_congr (forEach_inv (fun u => u.lp.ports = (trainShown s r).lp.ports) (fun n u hu => ?_) _ rfl) p
  exact hu

/-! ## A fault of the line -/

/-- The group and the port note a receive condition. -/
def faultSeen (s : State) (p : Nat) (remote : Bool) (rx : LineRx) : State :=
  let g := p / 8
  let s1 := forEach (portLanes s p) (fun n t => setLane t n (rx.sig.toNat.testBit (n % 8)) (rx.cdr.toNat.testBit (n % 8))) s
  let s2 := if (portOf s1 p).st = .sync ∨ (portOf s1 p).st = .up
    then setPort s1 p { portOf s1 p with pcs := rx.align, rf := remote } else s1
  let o := s2.lp.otn.get {} g
  if grpOtn s2 g then
    let s' := modLp s2 (fun l => { l with otn := l.otn.set {} g { o with laneLock := (rx.sig &&& rx.cdr &&& rx.lock).toNat } })
    modLp s' (fun l => { l with otn := l.otn.upd {} g (fun o => { o with conds := otnConds s' g o.conds }) })
  else s2

theorem faultSeen_part (q : Part) (h : q ≠ .regs ∧ q ≠ .lp) (s : State) (p : Nat) (remote : Bool) (rx : LineRx) :
    (faultSeen s p remote rx).part q = s.part q := by
  simp only [faultSeen, part_ite, modLp_part q h.2, setPort_part q h.2, ite_self, part_forEach q _ (fun n u => setLane_part q h.1 u n _ _)]

/-- The lanes after the fault. -/
def faultLanes (s : State) (p : Nat) (rx : LineRx) : State :=
  forEach (portLanes s p) (fun n t => setLane t n (rx.sig.toNat.testBit (n % 8)) (rx.cdr.toNat.testBit (n % 8))) s

theorem portOf_faultLanes (s : State) (p : Nat) (rx : LineRx) (q : Nat) : portOf (faultLanes s p rx) q = portOf s q :=
  portOf_of_lp (lp_of_part (part_forEach .lp _ (fun n u => setLane_part .lp (by decide) u n _ _) _ _)) q

theorem portOf_faultSeen {s : State} {p : Nat} (remote : Bool) (rx : LineRx) (hup : (portOf s p).st = .up) :
    portOf (faultSeen s p remote rx) p = { portOf s p with pcs := rx.align, rf := remote } := by
  have hlanes := portOf_faultLanes s p rx p
  have hset : (portOf (faultLanes s p rx) p).st = .sync ∨ (portOf (faultLanes s p rx) p).st = .up := .inr (by rw [hlanes, hup])
  have hports : (faultSeen s p remote rx).lp.ports =
      (setPort (faultLanes s p rx) p { portOf (faultLanes s p rx) p with pcs := rx.align, rf := remote }).lp.ports := by
    unfold faultSeen
    dsimp only
    rw [← faultLanes, if_pos hset]
    split
    · rfl
    · rfl
  rw [portOf_congr hports, portOf_setPort_same, hlanes]

theorem faultSeen_regs (s : State) (p : Nat) (remote : Bool) (rx : LineRx) : LineRegs s (faultSeen s p remote rx) := by
  refine LineRegs.trans (t := faultLanes s p rx) (LineRegs.forEach (fun n u => LineRegs.setLane u n _ _) _ _) (LineRegs.of_regs (regs_of_part ?_))
  unfold faultSeen
  dsimp only
  rw [← faultLanes]
  simp only [part_ite, modLp_part .regs (by decide), setPort_part .regs (by decide), ite_self]

/-- The port after it has noted its alignment. -/
def alignNoted (s : State) (p : Nat) : LpPort :=
  { portOf s p with
    align := aligned s p, lf := !aligned s p, rfTx := !aligned s p
    alignAt := if aligned s p then some ((portOf s p).alignAt.getD s.now) else none, goodAt := none }

/-- A port in UP with a fault loses its link (Table 4.3). -/
theorem lineEval_fault {s : State} {p : Nat} (mid : Bool) (hup : (portOf s p).st = .up) (hbad : aligned s p = false ∨ (portOf s p).rf = true) :
    lineEval s p mid = linkDrop (setPort s p (alignNoted s p)) p (if aligned s p then 1 else 0) mid := by
  have hno : (aligned s p && !(portOf s p).rf) = false := by
    rcases hbad with h | h
    · simp [h]
    · simp [h]
  unfold lineEval
  dsimp only
  split
  case h_1 hst => rw [hup] at hst; cases hst
  case h_2 => exact if_neg (by simp [hno])
  case h_3 hst => exact absurd hup hst

theorem linkDrop_idle (s : State) (p reason : Nat) : linkDrop s p reason false = enterPort (linkFall s p reason) p .sync true := rfl

/-- A port in UP whose link drops is in SYNC, entered from UP, with LINK 0 (R141). -/
theorem portOf_linkDrop_idle {s : State} {p : Nat} (reason : Nat) (hlink : (portOf s p).link = true) :
    portOf (linkDrop s p reason false) p = { portOf s p with
      link := false, linkq := (portOf s p).linkq ++ [false], st := .sync, since := s.now
      deadline := s.now + stateTimeout s (p / 8) .sync, fromUp := true, adv := 0 } := by
  rw [linkDrop_idle, portOf_enterPort_fromUp, portOf_linkFall, if_pos hlink, (linkFall_regs s p reason).stateTimeout, linkFall_now]
  rfl

theorem portOf_macPop (s : State) (p : Nat) (f : TxFrame) :
    portOf (macPop s p f) p = { portOf s p with txq := (portOf s p).txq.drop 1 } := by
  have hlp : (macPop s p f).lp = (setPort s p { portOf s p with txq := (portOf s p).txq.drop 1 }).lp := by
    unfold macPop
    dsimp only
    split
    · rw [lp_of_part (freeEgBody_part .lp (by decide) _ _), lp_of_part (jRetire_part .lp (by decide) _ _ _ _)]
    · rw [lp_of_part (jRetire_part .lp (by decide) _ _ _ _)]
  rw [portOf_of_lp hlp, portOf_setPort_same]

/-- A frame that is being sent is ended and is not sent again (R141). -/
theorem linkDrop_mid {s : State} {p : Nat} {f : TxFrame} {rest : List TxFrame} (reason : Nat)
    (hq : (portOf (linkDrop s p reason false) p).txq = f :: rest) :
    linkDrop s p reason true = macPop (countLp (linkDrop s p reason false) p 0x48) p f := by
  unfold linkDrop
  dsimp only
  rw [linkDrop_idle] at hq
  rw [hq]

/-- LINK_FAULT on a port in UP with its link: the port that drops. -/
theorem linkFault_drops {s : State} {p : Nat} {remote : Bool} {rx : LineRx} (mid : Bool) (hup : (portOf s p).st = .up)
    (hbad : rx.align = false ∨ remote = true) :
    ∃ reason, lineEval (faultSeen s p remote rx) p mid =
      linkDrop (setPort (faultSeen s p remote rx) p (alignNoted (faultSeen s p remote rx) p)) p reason mid := by
  have hport := portOf_faultSeen remote rx hup
  refine ⟨_, lineEval_fault mid ((congrArg LpPort.st hport).trans hup) ?_⟩
  rcases hbad with h | h
  · left
    have hpcs : (portOf (faultSeen s p remote rx) p).pcs = false := (congrArg LpPort.pcs hport).trans h
    simp [aligned, hpcs]
  · right
    exact (congrArg LpPort.rf hport).trans h

end Sys2Proof.Machine
end

section
/-! The statement about the port state machine (R136 to R143, Table 4.3). -/

namespace Sys2Proof.Machine

theorem startPort_regs (s : State) (p : Nat) : LineRegs s (startPort s p) :=
  (startLanes_regs s p).trans (LineRegs.of_regs (regs_of_part (enterPort_part .regs (by decide) _ _ _ _)))

theorem portFail_frame (s : State) (p reason : Nat) : AgreeBut [.ctr, .rcd, .lp] s (portFail s p reason) :=
  fun q hq => portFail_part q (by simp at hq; simp [hq]) s p reason

theorem startPort_frame (s : State) (p : Nat) : AgreeBut [.regs, .lp] s (startPort s p) :=
  fun q hq => startPort_part q (by simp at hq; simp [hq]) s p

/-- EN of the value that the owner writes to start or stop a port; every other bit is as it was. -/
theorem tbit_enValue (s : State) (p : Nat) (b : Bool) (i : Nat) (hi : i ≠ 31) (hm : tbit (0xFCFF3FFF : Word) i = true) :
    tbit (setBit (regRaw s .lpPortCfg [p / 8, p % 8]) 31 b &&& 0xFCFF3FFF) i = rb s .lpPortCfg [p / 8, p % 8] i := by
  rw [tbit_and, hm, Bool.and_true, tbit_setBit_other _ _ _ _ hi, rb_eq_tbit]

theorem tbit_enValue_en (w : Word) (b : Bool) : tbit (setBit w 31 b &&& 0xFCFF3FFF) 31 = b := by
  rw [tbit_and, tbit_setBit_same _ _ _ (by decide)]
  exact Bool.and_true b

/-- The state in which an enabled port starts. -/
def portEnabled (s : State) (p : Nat) : State :=
  let u := portCfgSet s p (setBit (regRaw s .lpPortCfg [p / 8, p % 8]) 31 true)
  setPort u p { portOf u p with winAt := u.now + 10000000 }

theorem portEnabled_part (q : Part) (h : q ≠ .regs ∧ q ≠ .lp) (s : State) (p : Nat) : (portEnabled s p).part q = s.part q := by
  rw [portEnabled, setPort_part q h.2, portCfgSet_part q h]

theorem portEnabled_otn (s : State) (p g : Nat) : grpOtn (portEnabled s p) g = grpOtn s g := by
  rw [grpOtn, grpOtn, rb_eq_tbit, rb_eq_tbit]
  exact congrArg (fun w => tbit w 31) (grpMode_portCfgSet s p _ g)

theorem portEnabled_type (s : State) (p q : Nat) : portType (portEnabled s p) q = portType s q := by
  have hmode : regRaw (portEnabled s p) .lpGrpMode [q / 8] = regRaw s .lpGrpMode [q / 8] := grpMode_portCfgSet s p _ _
  simp only [portType, grpStarts, rf, hmode]

theorem portEnabled_anTimeout (s : State) (p g : Nat) : anTimeout (portEnabled s p) g = anTimeout s g := by
  have htmr : regRaw (portEnabled s p) .lpTmrTrain [g] = regRaw s .lpTmrTrain [g] := tmrTrain_portCfgSet s p _ _
  simp only [anTimeout, rf, htmr]

theorem rb_portEnabled (s : State) (p i : Nat) :
    rb (portEnabled s p) .lpPortCfg [p / 8, p % 8] i = tbit (setBit (regRaw s .lpPortCfg [p / 8, p % 8]) 31 true &&& 0xFCFF3FFF) i :=
  rb_portCfgSet s p _ i

/-- A port with AN_EN, outside OTN mode, starts in AN. -/
theorem startState_portEnabled {s : State} {p : Nat} (hotn : grpOtn s (p / 8) = false)
    (han : rb s .lpPortCfg [p / 8, p % 8] 30 = true) : startState (portEnabled s p) p = .an := by
  have han' : rb (portEnabled s p) .lpPortCfg [p / 8, p % 8] 30 = true := by
    rw [rb_portEnabled, tbit_enValue s p true 30 (by decide) rfl, han]
  simp [startState, portEnabled_otn, hotn, han']

theorem mayStart_portCfgSet (s : State) (p : Nat) (v : Word) (q : Nat) :
    mayStart (portCfgSet s p v) q = mayStart (setReg s .lpPortCfg [p / 8, p % 8] (v &&& 0xFCFF3FFF)) q :=
  mayStart_congr q (portCfgSet_regs s p v) (pwr_of_part (txFollow_part .pwr (by decide) _ _))
    (flt_of_part (txFollow_part .flt (by decide) _ _)) (fab_of_part (txFollow_part .fab (by decide) _ _))

/-- A port that is OFF and may start makes a start when EN is written. -/
theorem portCfgWrite_enable {s : State} {p : Nat} (hex : portExists s p = true) (hwas : rb s .lpPortCfg [p / 8, p % 8] 31 = false)
    (hmay : mayStart (setReg s .lpPortCfg [p / 8, p % 8] (setBit (regRaw s .lpPortCfg [p / 8, p % 8]) 31 true &&& 0xFCFF3FFF)) p = true)
    (hoff : (portOf s p).st = .off) :
    portCfgWrite s p (setBit (regRaw s .lpPortCfg [p / 8, p % 8]) 31 true) = startPort (portEnabled s p) p := by
  have hen : tbit (setBit (regRaw s .lpPortCfg [p / 8, p % 8]) 31 true) 31 = true := tbit_setBit_same _ _ _ (by decide)
  have hoff' : (portOf (portCfgSet s p (setBit (regRaw s .lpPortCfg [p / 8, p % 8]) 31 true)) p).st = .off := by
    rw [portOf_portCfgSet, hoff]
  exact (portCfgWrite_start hex hwas hen).trans (tryStart_off ((mayStart_portCfgSet s p _ p).trans hmay) hoff')

/-- A stopped port: OFF, LINK 0, FAILS 0; its queue stays. -/
theorem portOf_portStopped (s : State) (p : Nat) :
    (portOf (portStopped s p) p).st = .off ∧ (portOf (portStopped s p) p).link = false ∧ (portOf (portStopped s p) p).fails = 0 ∧
      (portOf (portStopped s p) p).txq = (portOf s p).txq := by
  obtain ⟨hst, hlink, hq⟩ := portOf_portOff s p 2
  rw [portStopped, portOf_setPort_same]
  exact ⟨hst, hlink, rfl, hq⟩

theorem portStopped_part (q : Part) (h : q ≠ .ctr ∧ q ≠ .rcd ∧ q ≠ .lp) (s : State) (p : Nat) : (portStopped s p).part q = s.part q := by
  rw [portStopped, setPort_part q h.2.2, portOff_part q h]

/-- The port after SYNC_STABLE. -/
theorem syncStable_end {s : State} {p good : Nat} (hst : (portOf s p).st = .sync) (hgood : (portOf s p).goodAt = some good)
    (hdue : good + rf s .lpPortCfg [p / 8, p % 8] 23 16 * 1000000 ≤ s.now) :
    (match (portOf s p).st, (portOf s p).goodAt with
      | .sync, some t =>
        if t + rf s .lpPortCfg [p / 8, p % 8] 23 16 * 1000000 ≤ s.now then
          let s1 := setPort s p { portOf s p with st := .up, since := s.now, link := true, linkq := (portOf s p).linkq ++ [true], fails := 0 }
          event s1 0x1001 p (rf s .lpGrpMode [p / 8] 30 29 <<< 8 ||| portWidth (grpStarts s (p / 8)) (p % 8))
        else s
      | _, _ => s) =
    event (setPort s p { portOf s p with st := .up, since := s.now, link := true, linkq := (portOf s p).linkq ++ [true], fails := 0 })
      0x1001 p (rf s .lpGrpMode [p / 8] 30 29 <<< 8 ||| portWidth (grpStarts s (p / 8)) (p % 8)) := by
  rw [hst, hgood]
  exact if_pos hdue

/-- The hold-off that a detected partner ends. -/
def partnerSeen (s : State) (p : Nat) : State :=
  forEach (portLanes s p) (fun n t => setLane t n true
    (laneLocked t n || (grpOtn s (p / 8) || !(rb s .lpPortCfg [p / 8, p % 8] 30 || rb s .lpPortCfg [p / 8, p % 8] 29)))) s

theorem partnerSeen_part (q : Part) (h : q ≠ .regs) (s : State) (p : Nat) : (partnerSeen s p).part q = s.part q :=
  part_forEach q _ (fun n u => setLane_part q h u n _ _) _ _

theorem partnerSeen_regs (s : State) (p : Nat) : LineRegs s (partnerSeen s p) := LineRegs.forEach (fun n u => LineRegs.setLane u n _ _) _ _

/-- The port that a line fault leaves, in SYNC and entered from UP (Table 4.3). -/
structure Dropped (s t : State) (p : Nat) (remote : Bool) (rx : LineRx) : Prop where
  st : (portOf t p).st = .sync
  link : (portOf t p).link = false
  fromUp : (portOf t p).fromUp = true
  deadline : (portOf t p).deadline = s.now + syncTimeout s (p / 8)
  lf : (portOf t p).lf = (portOf t p).rfTx
  noAlign : rx.align = false → (portOf t p).lf = true
  rf : (portOf t p).rf = remote
  fails : (portOf t p).fails = (portOf s p).fails
  txq : (portOf t p).txq = (portOf s p).txq

theorem dropped_linkDrop {s : State} {p : Nat} {remote : Bool} {rx : LineRx} (reason : Nat) (hup : (portOf s p).st = .up)
    (hlink : (portOf s p).link = true) :
    Dropped s (linkDrop (setPort (faultSeen s p remote rx) p (alignNoted (faultSeen s p remote rx) p)) p reason false) p remote rx := by
  have hport := portOf_faultSeen remote rx hup
  have hnoted : portOf (setPort (faultSeen s p remote rx) p (alignNoted (faultSeen s p remote rx) p)) p =
      alignNoted (faultSeen s p remote rx) p := portOf_setPort_same _ _ _
  have hlink' : (alignNoted (faultSeen s p remote rx) p).link = true := (congrArg LpPort.link hport).trans hlink
  have hregs : LineRegs s (setPort (faultSeen s p remote rx) p (alignNoted (faultSeen s p remote rx) p)) := faultSeen_regs s p remote rx
  have hnow : (setPort (faultSeen s p remote rx) p (alignNoted (faultSeen s p remote rx) p)).now = s.now :=
    now_of_part (faultSeen_part .now (by decide) s p remote rx)
  have hdrop := portOf_linkDrop_idle (s := setPort (faultSeen s p remote rx) p (alignNoted (faultSeen s p remote rx) p)) reason
    ((congrArg LpPort.link hnoted).trans hlink')
  rw [hnoted, hregs.stateTimeout, hnow] at hdrop
  constructor
  · rw [hdrop]
  · rw [hdrop]
  · rw [hdrop]
  · rw [hdrop]; rfl
  · rw [hdrop]; rfl
  · intro h
    have hpcs : (portOf (faultSeen s p remote rx) p).pcs = false := (congrArg LpPort.pcs hport).trans h
    have hal : aligned (faultSeen s p remote rx) p = false := by simp [aligned, hpcs]
    rw [hdrop]
    exact congrArg (fun b => !b) hal
  · rw [hdrop]
    exact congrArg LpPort.rf hport
  · rw [hdrop]
    exact (congrArg LpPort.fails hport).trans rfl
  · rw [hdrop]
    exact (congrArg LpPort.txq hport).trans rfl

theorem linkDrop_idle_part (q : Part) (h : q ≠ .ctr ∧ q ≠ .rcd ∧ q ≠ .lp) (s : State) (p reason : Nat) :
    (linkDrop s p reason false).part q = s.part q := by
  rw [linkDrop_idle, enterPort_part q h.2.2, linkFall_part q h]

/-- Settles O23: each transition is the entry, start, failure or drop whose port is given above. -/
theorem portStateMachine : Obligations.PortStateMachine := by
  unfold Obligations.PortStateMachine
  refine ⟨fun slot p s hmay hex hwas hstart hoff hotn han => ?enable, fun slot p s hmay hex => ?disable,
    fun p partner s hst hcom => ?anDone, fun p partner s hst hcom => ?anFail, fun p s hst hdue => ?anTimeout,
    fun r s hst hall => ?trained, fun r s hst hall => ?training, fun p s hst hdue => ?trainTimeout,
    fun p good s hst hgood hdue => ?stable, fun p s hst hdue hup => ?syncTimeout, fun p s hst hdue hup => ?syncAgain,
    fun p remote rx s hlive hex hup hlink hbad => ?fault, fun p remote rx f rest s hlive hex hup hlink hq hbad => ?faultMid,
    fun p s hst hdue => ?holdoff, fun p s hst hotn => ?partner⟩
  case enable =>
    have hend := ownWrite_portCfg (v := setBit (regRaw s .lpPortCfg [p.val / 8, p.val % 8]) 31 true) hmay hex
    rw [portCfgWrite_enable hex hwas hstart hoff] at hend
    have hport := portOf_startPort (portEnabled s p.val) p.val
    have hen : rb (startPort (portEnabled s p.val) p.val) .lpPortCfg [p.val / 8, p.val % 8] 31 = true := by
      rw [(startPort_regs _ _).portCfg, rb_portEnabled, tbit_enValue_en]
    have hframe := (fun q h => portEnabled_part q h s p.val : ∀ q, q ≠ Part.regs ∧ q ≠ .lp → _)
    rw [startState_portEnabled hotn han, portEnabled_type, now_of_part (portEnabled_part .now (by decide) s p.val), stateTimeout,
      portEnabled_anTimeout] at hport
    refine ⟨_, congrArg Host.Outcome.next hend, rfl, hen, congrArg LpPort.st hport, congrArg LpPort.deadline hport,
      congrArg LpPort.adv hport, congrArg LpPort.fromUp hport, AgreeBut.acc (by simp) _ fun q hq => ?_⟩
    rw [startPort_part q (by simp at hq; simp [hq]), hframe q (by simp at hq; simp [hq])]
  case disable =>
    have hend := ownWrite_portCfg (v := setBit (regRaw s .lpPortCfg [p.val / 8, p.val % 8]) 31 false) hmay hex
    rw [portCfgWrite_stop hex (tbit_setBit_same _ _ _ (by decide))] at hend
    obtain ⟨hst, hlink, hfails, hq⟩ := portOf_portStopped
      (portCfgSet s p.val (setBit (regRaw s .lpPortCfg [p.val / 8, p.val % 8]) 31 false)) p.val
    have hen : rb (portStopped (portCfgSet s p.val (setBit (regRaw s .lpPortCfg [p.val / 8, p.val % 8]) 31 false)) p.val)
        .lpPortCfg [p.val / 8, p.val % 8] 31 = false := by
      rw [rb_eq_tbit, regRaw_congr (regs_of_part (portStopped_part .regs (by decide) _ _)), ← rb_eq_tbit, rb_portCfgSet, tbit_enValue_en]
    refine ⟨_, congrArg Host.Outcome.next hend, rfl, hen, hst, hlink, hfails, hq.trans ?_, AgreeBut.acc (by simp) _ fun q hq => ?_⟩
    · rw [portOf_portCfgSet]
    · rw [portStopped_part q (by simp at hq; simp [hq]), portCfgSet_part q (by simp at hq; simp [hq])]
  case anDone =>
    have hport := portOf_enterPort s p.val (if rb s .lpPortCfg [p.val / 8, p.val % 8] 29 then .train else .sync)
    exact ⟨_, congrArg Host.Outcome.next ((if_pos hst).trans (if_pos hcom)), congrArg LpPort.st hport,
      (congrArg LpPort.fails hport).trans rfl, fun q hq => enterPort_part q (by simpa using hq) _ _ _ _⟩
  case anFail =>
    obtain ⟨hst', hlast, hfails, -⟩ := portOf_portFail s p.val 2
    exact ⟨_, congrArg Host.Outcome.next ((if_pos hst).trans (if_neg hcom)), hst', hlast, hfails, portFail_frame s p.val 2⟩
  case anTimeout =>
    obtain ⟨hst', hlast, hfails, hdl⟩ := portOf_portFail s p.val 1
    exact ⟨_, congrArg Host.Outcome.next (if_pos ⟨hst, hdue⟩), hst', hlast, hfails, hdl, portFail_frame s p.val 1⟩
  case trained =>
    have hport := portOf_enterPort (trained s r) r.p.val .sync
    rw [portOf_trained, (trained_regs s r).stateTimeout, now_of_part (trained_part .now (by decide) s r)] at hport
    refine ⟨_, congrArg Host.Outcome.next ((if_pos hst).trans (if_pos hall)), congrArg LpPort.st hport, congrArg LpPort.deadline hport,
      fun q hq => ?_⟩
    exact (enterPort_part q (by simp at hq; simp [hq]) (trained s r) _ _ _).trans (trained_part q (by simp at hq; simp [hq]) s r)
  case training =>
    exact ⟨_, congrArg Host.Outcome.next ((if_pos hst).trans (if_neg (by simp [hall]))), portOf_trainShown s r _,
      fun q hq => trainShown_part q (by simpa using hq) s r⟩
  case trainTimeout =>
    obtain ⟨hst', hlast, hfails, -⟩ := portOf_portFail s p.val 3
    exact ⟨_, congrArg Host.Outcome.next (if_pos ⟨hst, hdue⟩), hst', hlast, hfails, portFail_frame s p.val 3⟩
  case stable =>
    have hend := syncStable_end hst hgood hdue
    refine ⟨_, congrArg Host.Outcome.next hend, ?_, ?_, ?_, fun q hq => ?_⟩
    · rw [portOf_event, portOf_setPort_same]
    · rw [portOf_event, portOf_setPort_same]
    · rw [portOf_event, portOf_setPort_same]
    · rw [event_part q (by simp at hq; simp [hq]), setPort_part q (by simp at hq; simp [hq])]
  case syncTimeout =>
    obtain ⟨hst', hlast, hfails, -⟩ := portOf_portFail s p.val 4
    exact ⟨_, congrArg Host.Outcome.next ((if_pos ⟨hst, hdue⟩).trans (if_neg (by simp [hup]))), hst', hlast, hfails,
      portFail_frame s p.val 4⟩
  case syncAgain =>
    have hport := portOf_startPort s p.val
    exact ⟨_, congrArg Host.Outcome.next ((if_pos ⟨hst, hdue⟩).trans (if_pos hup)), congrArg LpPort.st hport,
      (congrArg LpPort.fails hport).trans rfl, startPort_frame s p.val⟩
  case fault =>
    have hgo : (grpLive s (p.val / 8) && portExists s p.val) = true := by simp [hlive, hex]
    obtain ⟨reason, hend⟩ := linkFault_drops false hup hbad
    have hd := dropped_linkDrop (remote := remote) (rx := rx) reason hup hlink
    refine ⟨_, congrArg Host.Outcome.next ((if_pos hgo).trans hend), hd.st, hd.link, hd.fromUp, hd.deadline, hd.lf, hd.noAlign, hd.rf,
      hd.fails, fun q hq => ?_⟩
    rw [linkDrop_idle_part q (by simp at hq; simp [hq]), setPort_part q (by simp at hq; simp [hq]),
      faultSeen_part q (by simp at hq; simp [hq])]
  case faultMid =>
    have hgo : (grpLive s (p.val / 8) && portExists s p.val) = true := by simp [hlive, hex]
    obtain ⟨reason, hend⟩ := linkFault_drops true hup hbad
    have hd := dropped_linkDrop (remote := remote) (rx := rx) reason hup hlink
    rw [linkDrop_mid reason (hd.txq.trans hq)] at hend
    have hpop := (portOf_macPop (countLp (linkDrop (setPort (faultSeen s p.val remote rx) p.val
      (alignNoted (faultSeen s p.val remote rx) p.val)) p.val reason false) p.val 0x48) p.val f)
    rw [portOf_countLp] at hpop
    refine ⟨_, congrArg Host.Outcome.next ((if_pos hgo).trans hend), ?_, ?_, ?_, fun q hq => ?_⟩
    · rw [hpop]; exact hd.st
    · rw [hpop]; exact hd.link
    · rw [hpop]; exact (congrArg (List.drop 1) (hd.txq.trans hq)).trans rfl
    · rw [macPop_part q (by simp at hq; simp [hq]), countLp_part q (by simp at hq; simp [hq]),
        linkDrop_idle_part q (by simp at hq; simp [hq]), setPort_part q (by simp at hq; simp [hq]),
        faultSeen_part q (by simp at hq; simp [hq])]
  case holdoff =>
    have hport := portOf_startPort s p.val
    exact ⟨_, congrArg Host.Outcome.next (if_pos ⟨hst, hdue⟩), congrArg LpPort.st hport, (congrArg LpPort.fails hport).trans rfl,
      startPort_frame s p.val⟩
  case partner =>
    have hport := portOf_startPort (partnerSeen s p.val) p.val
    have hsame : portOf (partnerSeen s p.val) p.val = portOf s p.val :=
      portOf_of_lp (lp_of_part (partnerSeen_part .lp (by decide) s p.val)) _
    rw [(partnerSeen_regs s p.val).startState, hsame] at hport
    refine ⟨_, congrArg Host.Outcome.next (if_pos hst), congrArg LpPort.st hport, (congrArg LpPort.fails hport).trans rfl, fun q hq => ?_⟩
    exact (startPort_part q (by simp at hq; simp [hq]) (partnerSeen s p.val) p.val).trans
      (partnerSeen_part q (by simp at hq; simp [hq]) s p.val)

end Sys2Proof.Machine
end

section
/-! The statement about group modes, symbol errors and the recovered clock outputs (R129, R132, R148, R151). -/

namespace Sys2Proof.Machine

/-- Fields of words that agree in the field's bits. -/
theorem fld_ext {a b : Word} {hi lo : Nat} (h : ∀ i, lo ≤ i → i < hi + 1 → tbit a i = tbit b i) : fld a hi lo = fld b hi lo := by
  apply Nat.eq_of_testBit_eq
  intro i
  rw [testBit_fld, testBit_fld]
  by_cases hi' : i < hi + 1 - lo
  · have hbit := h (i + lo) (by omega) (by omega)
    rw [tbit_eq_getLsbD, tbit_eq_getLsbD] at hbit
    rw [hbit]
  · simp [hi']

/-! ## Group modes -/

/-- The mode of a group and its other registers that the write of LP_GRP_MODE leaves alone. -/
theorem regRaw_grpMode_egrLat (s : State) (g a i v : Nat) :
    regRaw (setRF s .lpEgrLat [a, i] 15 0 v) .lpGrpMode [g] = regRaw s .lpGrpMode [g] :=
  regRaw_setReg_other _ _ _ _ _ _ (by
    simp only [show Reg.addr .lpGrpMode [g] = 0x04000000 + (g * 0x80000 + 0) from rfl,
      show Reg.addr .lpEgrLat [a, i] = 0x0400100C + (a * 0x80000 + (i * 0x100 + 0)) from rfl]
    omega)

theorem regRaw_setMode (s : State) (g : Nat) (v : Word) :
    ∃ w : Word, regRaw (setMode s g v) .lpGrpMode [g] = (v &&& 0xE00000FF) ||| (w &&& 0x10000000) := by
  unfold setMode
  dsimp only
  refine ⟨regRaw s .lpGrpMode [g], forEach_inv (fun u => regRaw u .lpGrpMode [g] = _) (fun n u hu => ?_) _ ?_⟩
  · rw [regRaw_grpMode_egrLat, hu]
  · rw [regRaw_setReg_same]

theorem grpAnyEn_setRB_mode (s : State) (g i : Nat) (b : Bool) (a : Nat) : grpAnyEn (setRB s .lpGrpMode [g] i b) a = grpAnyEn s a := by
  have hport : ∀ k ∈ List.range 8, rb (setRB s .lpGrpMode [g] i b) .lpPortCfg [a, k] 31 = rb s .lpPortCfg [a, k] 31 := by
    intro k hk
    have hk8 : k < 8 := List.mem_range.1 hk
    rw [rb_eq_tbit, rb_eq_tbit, setRB, setRF, regRaw_setReg_other]
    simp only [show Reg.addr .lpGrpMode [g] = 0x04000000 + (g * 0x80000 + 0) from rfl, addr_portCfg]
    omega
  rw [grpAnyEn, grpAnyEn, Bool.eq_iff_iff, List.any_eq_true, List.any_eq_true]
  exact exists_congr fun k => and_congr_right fun hk => by rw [hport k hk]

/-- MODE_REJ cleared where the write says so. -/
def rejCleared (s : State) (g : Nat) (v : Word) : State := if tbit v 28 then setRB s .lpGrpMode [g] 28 false else s

theorem rejCleared_part (p : Part) (h : p ≠ .regs) (s : State) (g : Nat) (v : Word) : (rejCleared s g v).part p = s.part p := by
  unfold rejCleared
  split
  · exact setRB_part p h _ _ _ _ _
  · rfl

theorem grpAnyEn_rejCleared (s : State) (g : Nat) (v : Word) (a : Nat) : grpAnyEn (rejCleared s g v) a = grpAnyEn s a := by
  unfold rejCleared
  split
  · exact grpAnyEn_setRB_mode _ _ _ _ _
  · rfl

/-- Fields of the mode word that do not hold MODE_REJ. -/
theorem rf_setRB_rej (s : State) (g : Nat) (b : Bool) {hi lo : Nat} (h : hi < 28 ∨ 28 < lo) :
    rf (setRB s .lpGrpMode [g] 28 b) .lpGrpMode [g] hi lo = rf s .lpGrpMode [g] hi lo := by
  rw [rf, setRB, setRF, regRaw_setReg_same]
  refine fld_ext fun i h1 h2 => ?_
  exact tbit_setBit_other _ 28 i b (by omega)

theorem rf_rejCleared (s : State) (g : Nat) (v : Word) {hi lo : Nat} (h : hi < 28 ∨ 28 < lo) :
    rf (rejCleared s g v) .lpGrpMode [g] hi lo = rf s .lpGrpMode [g] hi lo := by
  unfold rejCleared
  split
  · exact rf_setRB_rej s g false h
  · rfl

theorem grpModeWrite_takes {s : State} {g : Nat} {v : Word} (hen : grpAnyEn s g = false) (hok : modeOk v = true) :
    grpModeWrite s g v = setMode (rejCleared s g v) g v := by
  have hgo : (grpAnyEn (rejCleared s g v) g || !modeOk v) = false := by rw [grpAnyEn_rejCleared, hen, hok]; rfl
  exact if_neg (Bool.eq_false_iff.1 hgo)

theorem grpModeWrite_rejects {s : State} {g : Nat} {v : Word} (h : grpAnyEn s g = true ∨ modeOk v = false) :
    grpModeWrite s g v = event (setRB (rejCleared s g v) .lpGrpMode [g] 28 true) 0x1007 g 0 := by
  have hgo : (grpAnyEn (rejCleared s g v) g || !modeOk v) = true := by
    rw [grpAnyEn_rejCleared]
    rcases h with h | h
    · simp [h]
    · simp [h]
  exact if_pos hgo

/-- A mode that is taken is the one of the write (R129). -/
theorem grpModeWrite_taken {s : State} {g : Nat} {v : Word} (hen : grpAnyEn s g = false) (hok : modeOk v = true) :
    ∃ u, grpModeWrite s g v = u ∧ grpOtn u g = tbit v 31 ∧ rf u .lpGrpMode [g] 30 29 = fld v 30 29 ∧ grpStarts u g = fld v 7 0 ∧
      AgreeBut [.regs, .lp] s u := by
  obtain ⟨w, hw⟩ := regRaw_setMode (rejCleared s g v) g v
  have hfld : ∀ hi lo, (∀ i, lo ≤ i → i < hi + 1 → tbit (0xE00000FF : Word) i = true ∧ tbit (0x10000000 : Word) i = false) →
      rf (setMode (rejCleared s g v) g v) .lpGrpMode [g] hi lo = fld v hi lo := by
    intro hi lo hm
    rw [rf, hw]
    refine fld_ext fun i h1 h2 => ?_
    rw [tbit_or, tbit_and, tbit_and, (hm i h1 h2).1, (hm i h1 h2).2, Bool.and_true, Bool.and_false, Bool.or_false]
  refine ⟨_, grpModeWrite_takes hen hok, ?_, hfld 30 29 (fun i h1 h2 => ?_), hfld 7 0 (fun i h1 h2 => ?_), fun p hp => ?_⟩
  · rw [grpOtn, rb, hfld 31 31 (fun i h1 h2 => by interval_cases i; decide), fld_bit]
    cases tbit v 31 <;> rfl
  · interval_cases i <;> decide
  · interval_cases i <;> decide
  · rw [setMode_part p (by simp at hp; simp [hp]), rejCleared_part p (by simp at hp; simp [hp])]

/-- A mode that is refused sets MODE_REJ and changes no mode (R129, R151). -/
theorem grpModeWrite_rejected {s : State} {g : Nat} {v : Word} (h : grpAnyEn s g = true ∨ modeOk v = false) :
    ∃ u, grpModeWrite s g v = u ∧ rb u .lpGrpMode [g] 28 = true ∧ grpOtn u g = grpOtn s g ∧
      rf u .lpGrpMode [g] 30 29 = rf s .lpGrpMode [g] 30 29 ∧ grpStarts u g = grpStarts s g ∧ AgreeBut [.regs, .ctr, .rcd] s u := by
  have hregs := regRaw_congr (event_regs (setRB (rejCleared s g v) .lpGrpMode [g] 28 true) 0x1007 g 0) .lpGrpMode [g]
  have hsame : ∀ {hi lo : Nat}, hi < 28 ∨ 28 < lo →
      rf (event (setRB (rejCleared s g v) .lpGrpMode [g] 28 true) 0x1007 g 0) .lpGrpMode [g] hi lo = rf s .lpGrpMode [g] hi lo := by
    intro hi lo h
    rw [rf, hregs, ← rf, rf_setRB_rej _ _ _ h, rf_rejCleared _ _ _ h]
  refine ⟨_, grpModeWrite_rejects h, ?_, congrArg (fun n => n == 1) (hsame (hi := 31) (lo := 31) (by decide)),
    hsame (by decide), hsame (by decide), fun p hp => ?_⟩
  · rw [rb, rf, hregs]
    exact rb_setRB_same _ _ _ _ _ (by decide)
  · rw [event_part p (by simp at hp; simp [hp]), setRB_part p (by simp at hp; simp [hp]), rejCleared_part p (by simp at hp; simp [hp])]

theorem ownWrite_grpMode {s : State} {slot : Fin 4} {g : Fin 16} {v : Word} (h : ownerMay s slot .lpGrpMode [g.val] = true) :
    ownWrite s slot.val .lpGrpMode [g.val] v = { grpModeWrite s g.val v with acc := (stOk, 0) } :=
  ownWrite_of_writeReg (busy := false) h rfl (by simp [idxFit, Reg.info]) rfl (by decide) (by decide)

/-! ## Corrected symbols -/

/-- The counters of a window (R131, R132). -/
def windowCounted (s : State) (p : Nat) (syms : List Word) (corr uncorr : Word) : State :=
  countLpN (countLpN (forEach (portLanes s p) (fun l t => bumpN t (cOff 4 (p / 8 * 0x8000 + 0x2000 + l % 8 * 8)) (syms.getD (l % 8) 0).toNat) s)
    p 0x60 corr.toNat) p 0x68 uncorr.toNat

theorem windowCounted_part (q : Part) (h : q ≠ .ctr) (s : State) (p : Nat) (syms : List Word) (corr uncorr : Word) :
    (windowCounted s p syms corr uncorr).part q = s.part q := by
  rw [windowCounted, countLpN_part q h, countLpN_part q h, part_forEach q _ (fun n u => bumpN_part q h _ _ _)]

/-! ## Recovered clock outputs -/

/-- A lane that loses signal and lock changes no register but its own. -/
theorem laneLost_regs (s : State) (n : Nat) : (laneLost s n).regs = (setLane s n false false).regs := by
  refine regs_of_part ?_
  unfold laneLost
  dsimp only
  repeat' split
  all_goals simp

theorem regRaw_setLane_other (s : State) {n m : Nat} (sig cdr : Bool) (h : m ≠ n) :
    regRaw (setLane s n sig cdr) .lpLaneStatus [m / 8, m % 8] = regRaw s .lpLaneStatus [m / 8, m % 8] := by
  have hne : Reg.addr .lpLaneStatus [m / 8, m % 8] ≠ Reg.addr .lpLaneStatus [n / 8, n % 8] := by
    rw [addr_laneStatus, addr_laneStatus]
    omega
  rw [setLane, setRB, setRF, regRaw_setReg_other _ _ _ _ _ _ hne, setRB, setRF, regRaw_setReg_other _ _ _ _ _ _ hne]

theorem laneLocked_setLane_same (s : State) (n : Nat) (sig cdr : Bool) : laneLocked (setLane s n sig cdr) n = cdr :=
  rb_setRB_same _ _ _ _ _ (by decide)

theorem addr_synceCfg (j : Nat) : Reg.addr .lpSynceCfg [j] = 0x04800000 + (j * 4 + 0) := rfl

/-- A change of an output's register is no change of a lane's. -/
theorem laneLocked_setReg_synce (s : State) (j : Nat) (v : Word) {n : Nat} (h : n < 128) :
    laneLocked (setReg s .lpSynceCfg [j] v) n = laneLocked s n := by
  rw [laneLocked, laneLocked, rb_eq_tbit, rb_eq_tbit, regRaw_setReg_other]
  rw [addr_laneStatus, addr_synceCfg]
  omega

theorem laneLocked_congr {s t : State} (h : t.regs = s.regs) (n : Nat) : laneLocked t n = laneLocked s n := by
  rw [laneLocked, laneLocked, rb_eq_tbit, rb_eq_tbit, regRaw_congr h]

theorem synceState_congr {s t : State} (h : t.regs = s.regs) (j : Nat) : synceState t j = synceState s j := by
  simp only [synceState, rb_eq_tbit, regRaw_congr h]

/-- The two bits that show the state of an output. -/
def synceBits (s : State) (j st : Nat) : State :=
  setRB (setRB s .lpSynceCfg [j] 28 (st == 2)) .lpSynceCfg [j] 27 (st == 1)

theorem regRaw_synceBits (s : State) (j st : Nat) :
    regRaw (synceBits s j st) .lpSynceCfg [j] = setBit (setBit (regRaw s .lpSynceCfg [j]) 28 (st == 2)) 27 (st == 1) := by
  simp only [synceBits, setRB, setRF, regRaw_setReg_same]
  rfl

theorem synceState_synceBits (s : State) (j st : Nat) (h : st < 3) : synceState (synceBits s j st) j = st := by
  have h28 : rb (synceBits s j st) .lpSynceCfg [j] 28 = (st == 2) := by
    rw [rb_eq_tbit, regRaw_synceBits, tbit_setBit_other _ _ _ _ (by decide), tbit_setBit_same _ _ _ (by decide)]
  have h27 : rb (synceBits s j st) .lpSynceCfg [j] 27 = (st == 1) := by
    rw [rb_eq_tbit, regRaw_synceBits, tbit_setBit_same _ _ _ (by decide)]
  rw [synceState, h28, h27]
  interval_cases st <;> rfl

theorem laneLocked_synceBits (s : State) (j st : Nat) {n : Nat} (h : n < 128) : laneLocked (synceBits s j st) n = laneLocked s n := by
  rw [synceBits, setRB, setRF, laneLocked_setReg_synce _ _ _ h, setRB, setRF, laneLocked_setReg_synce _ _ _ h]

theorem synceSet_regs (s : State) (j st : Nat) : (synceSet s j st).regs = (synceBits s j st).regs := event_regs _ _ _ _

/-- An output that is set shows its state (R148). -/
theorem synceState_synceSet (s : State) (j st : Nat) (h : st < 3) : synceState (synceSet s j st) j = st := by
  rw [synceState_congr (synceSet_regs s j st), synceState_synceBits s j st h]

theorem fld_lane_lt (w : Word) (lo : Nat) : fld w (lo + 6) lo < 128 := by
  have h := Nat.mod_lt (w.toNat >>> lo) (Nat.two_pow_pos (lo + 6 + 1 - lo))
  rw [show lo + 6 + 1 - lo = 7 by omega] at h
  rw [fld, bitsOf, show lo + 6 + 1 - lo = 7 by omega]
  exact h

/-- A write that keeps PRIMARY: the register, and the state that it shows (R148). -/
theorem synceWrite_primary {s : State} {j : Nat} {v : Word} (h : laneLocked s (fld v 6 0) = true) :
    (synceWrite s j v).regs = (synceBits (setReg s .lpSynceCfg [j] (v &&& 0xE07F007F)) j 0).regs := by
  have hlock : laneLocked (setReg s .lpSynceCfg [j] (v &&& 0xE07F007F)) (fld v 6 0) = true := by
    rw [laneLocked_setReg_synce _ _ _ (fld_lane_lt v 0), h]
  have hwant : (if ¬ tbit v 31 = true ∨ laneLocked (setReg s .lpSynceCfg [j] (v &&& 0xE07F007F)) (fld v 6 0) = true then 0
      else if tbit v 29 = true ∧ laneLocked (setReg s .lpSynceCfg [j] (v &&& 0xE07F007F)) (fld v 22 16) = true then 1 else 2) = 0 :=
    if_pos (.inr hlock)
  unfold synceWrite
  dsimp only
  rw [hwant]
  split
  · rfl
  · exact event_regs _ _ _ _

/-- Settles O24: the mode word by its fields, the window by its sum, the outputs by the two bits that show their state. -/
theorem lineConfigurationAndClocks : Obligations.LineConfigurationAndClocks := by
  unfold Obligations.LineConfigurationAndClocks
  refine ⟨fun slot g val s hmay hen hok => ?mode, fun slot g val s hmay hno => ?reject,
    fun p lane syms corr uncorr s hlive hst hwin hmany => ?degrade, fun p lane syms corr uncorr s hlive hst hdeg hwin hfew => ?recover,
    fun j s hdata hst hen hauto hlock hne => ?backup, fun j s hdata hst hen hno => ?squelch, fun j s hdata hst hen => ?relock,
    fun slot j val s hmay hlock => ?write⟩
  case mode =>
    obtain ⟨u, hu, hotn, hrate, hstarts, hframe⟩ := grpModeWrite_taken hen hok
    have hend := ownWrite_grpMode (v := val) hmay
    rw [hu] at hend
    exact ⟨_, congrArg Host.Outcome.next hend, rfl, hotn, hrate, hstarts, AgreeBut.acc (by simp) _ (hframe.mono (by simp))⟩
  case reject =>
    obtain ⟨u, hu, hrej, hotn, hrate, hstarts, hframe⟩ := grpModeWrite_rejected hno
    have hend := ownWrite_grpMode (v := val) hmay
    rw [hu] at hend
    exact ⟨_, congrArg Host.Outcome.next hend, rfl, hrej, hotn, hrate, hstarts, AgreeBut.acc (by simp) _ (hframe.mono (by simp))⟩
  case degrade =>
    have hgo : ¬ (¬ grpLive s (p.val / 8) = true ∨ (portOf s p.val).st = .off ∨ s.now < (portOf s p.val).winAt) := by
      simp [hlive, hst, Nat.not_lt.2 hwin]
    refine ⟨_, congrArg Host.Outcome.next ((if_neg hgo).trans (if_pos hmany)), ?_, ?_, ?_, fun q hq => ?_⟩
    · rw [portOf_event, portOf_setPort_same]
    · rw [portOf_event, portOf_setPort_same]
    · rw [portOf_event, portOf_setPort_same]
    · rw [event_part q (by simp at hq; simp [hq]), setPort_part q (by simp at hq; simp [hq])]
      exact windowCounted_part q (by simp at hq; simp [hq]) s p.val syms corr uncorr
  case recover =>
    have hgo : ¬ (¬ grpLive s (p.val / 8) = true ∨ (portOf s p.val).st = .off ∨ s.now < (portOf s p.val).winAt) := by
      simp [hlive, hst, Nat.not_lt.2 hwin]
    by_cases h10 : 10 ≤ (portOf s p.val).degGood + 1
    · refine ⟨_, congrArg Host.Outcome.next
        ((if_neg hgo).trans ((if_neg (Nat.not_lt.2 hfew)).trans ((if_pos hdeg).trans (if_pos h10)))), ?_, ?_, fun q hq => ?_⟩
      · rw [portOf_setPort_same]
        exact (decide_eq_false (Nat.not_lt.2 h10)).symm
      · rw [portOf_setPort_same]
      · rw [setPort_part q (by simp at hq; simp [hq])]
        exact windowCounted_part q (by simp at hq; simp [hq]) s p.val syms corr uncorr
    · refine ⟨_, congrArg Host.Outcome.next
        ((if_neg hgo).trans ((if_neg (Nat.not_lt.2 hfew)).trans ((if_pos hdeg).trans (if_neg h10)))), ?_, ?_, fun q hq => ?_⟩
      · rw [portOf_setPort_same]
        exact hdeg.trans (decide_eq_true (Nat.lt_of_not_le h10)).symm
      · rw [portOf_setPort_same]
      · rw [setPort_part q (by simp at hq; simp [hq])]
        exact windowCounted_part q (by simp at hq; simp [hq]) s p.val syms corr uncorr
  case backup =>
    have hlost := laneLost_regs s (rf s .lpSynceCfg [j.val] 6 0)
    have hlt : rf s .lpSynceCfg [j.val] 6 0 < 128 := fld_lane_lt _ 0
    have hback : laneLocked (laneLost s (rf s .lpSynceCfg [j.val] 6 0)) (rf s .lpSynceCfg [j.val] 22 16) = true := by
      rw [laneLocked_congr hlost, laneLocked, rb_eq_tbit, regRaw_setLane_other _ _ _ hne, ← rb_eq_tbit]
      exact hlock
    have hend : synceLoss s j.val = synceSet (laneLost s (rf s .lpSynceCfg [j.val] 6 0)) j.val 1 := by
      simp [synceLoss, hst, hen, hauto, hback]
    refine ⟨_, congrArg Host.Outcome.next ((if_pos hdata).trans hend), synceState_synceSet _ _ _ (by decide), ?_, fun p hp => ?_⟩
    · rw [laneLocked_congr (synceSet_regs _ _ _), laneLocked_synceBits _ _ _ hlt, laneLocked_congr hlost,
        laneLocked_setLane_same]
    · rw [synceSet_part p (by simp at hp; simp [hp]), laneLost_part p (by simp at hp; simp [hp])]
  case squelch =>
    have hno' : ¬ (synceState s j.val = 0 ∧ rb s .lpSynceCfg [j.val] 29 = true ∧
        laneLocked (laneLost s (if synceState s j.val = 1 then rf s .lpSynceCfg [j.val] 22 16 else rf s .lpSynceCfg [j.val] 6 0))
          (rf s .lpSynceCfg [j.val] 22 16) = true) := by
      rintro ⟨h0, h29, -⟩
      rcases hno with h | h
      · rw [h29] at h; cases h
      · omega
    have hend : synceLoss s j.val = synceSet (laneLost s
        (if synceState s j.val = 1 then rf s .lpSynceCfg [j.val] 22 16 else rf s .lpSynceCfg [j.val] 6 0)) j.val 2 :=
      (if_neg (by simp [hst, hen])).trans (if_neg hno')
    exact ⟨_, congrArg Host.Outcome.next ((if_pos hdata).trans hend), synceState_synceSet _ _ _ (by decide), fun p hp => by
      rw [synceSet_part p (by simp at hp; simp [hp]), laneLost_part p (by simp at hp; simp [hp])]⟩
  case relock =>
    have hend : synceRelock s j.val = synceSet (setLane s (rf s .lpSynceCfg [j.val] 6 0) true true) j.val 0 := if_pos ⟨hst, hen⟩
    exact ⟨_, congrArg Host.Outcome.next ((if_pos hdata).trans hend), synceState_synceSet _ _ _ (by decide), fun p hp => by
      rw [synceSet_part p (by simp at hp; simp [hp]), setLane_part p (by simp at hp; simp [hp])]⟩
  case write =>
    have hend : ownWrite s slot.val .lpSynceCfg [j.val] val = { synceWrite s j.val val with acc := (stOk, 0) } :=
      ownWrite_of_writeReg (busy := false) hmay rfl (by simpa [idxFit, Reg.info] using Nat.le_of_lt_succ j.isLt) rfl (by decide) (by decide)
    have hregs := synceWrite_primary (j := j.val) hlock
    refine ⟨_, congrArg Host.Outcome.next hend, rfl, ?_, ?_, AgreeBut.acc (by simp) _ fun p hp => synceWrite_part p (by simp at hp; simp [hp]) _ _ _⟩
    · exact (synceState_congr hregs j.val).trans (synceState_synceBits _ _ _ (by decide))
    · refine (congrArg (fun w => fld w 22 0) (regRaw_congr hregs _ _)).trans ?_
      rw [regRaw_synceBits, regRaw_setReg_same]
      refine fld_ext fun i h1 h2 => ?_
      rw [tbit_setBit_other _ _ _ _ (by omega), tbit_setBit_other _ _ _ _ (by omega), tbit_and, tbit_and]
      refine congrArg (tbit val i && ·) ?_
      interval_cases i <;> decide

end Sys2Proof.Machine
end

section
/-! The statement about OTN overhead, defects and the trace registers (R157 to R166). -/

namespace Sys2Proof.Machine

theorem latched_forEach_latchSet_other (s : State) {slot j x : Nat} (l : List Nat) (a : Nat → Nat) (v : Nat → Word)
    (ha : ∀ w ∈ l, a w < 2 ^ 48) (hx : x < 2 ^ 48) (h : j ≠ slot) :
    latched (forEach l (fun w t => latchSet t slot (a w) (v w)) s) j x = latched s j x := by
  induction l generalizing s with
  | nil => rfl
  | cons w l ih =>
    refine (ih (latchSet s slot (a w) (v w)) fun k hk => ha k (List.mem_cons_of_mem _ hk)).trans ?_
    exact SMap.get_set_other _ _ _ _ _ _ (latchKey_ne (ha w List.mem_cons_self) hx h)

/-- A read of word 0 of a received SM trace changes no latch of another slot, at every place that an address names (R166). -/
theorem latched_readTti_other (s : State) (g : Fin 16) {slot j x : Nat} (hx : x < 2 ^ 48) (h : j ≠ slot) :
    latched (readReg s slot .otnSmTtiRx [g.val, 0]).1 j x = latched s j x := by
  have haddr : ∀ w ∈ (List.range 15).map (· + 1), Reg.addr .otnSmTtiRx [g.val, w] < 2 ^ 48 := by
    intro w hw
    obtain ⟨k, hk, rfl⟩ := List.mem_map.1 hw
    have hk' := List.mem_range.1 hk
    simp only [show Reg.addr .otnSmTtiRx [g.val, k + 1] = 0x05000100 + (g.val * 0x80000 + ((k + 1) * 4 + 0)) from rfl]
    omega
  have hread : (readReg s slot .otnSmTtiRx [g.val, 0]).1 = if grpOtn s g.val then
      forEach ((List.range 15).map (· + 1)) (fun w t => latchSet t slot (Reg.addr .otnSmTtiRx [g.val, w]) (ttiWord (otnOf s g.val).sm w)) s
      else s := rfl
  rw [hread]
  split
  · exact latched_forEach_latchSet_other s _ _ _ haddr hx h
  · rfl

/-- Group 15 in OTN mode, with an accepted SM trace of 64 bytes 0x5A; slot 0 holds the owner lease. -/
def tracedState : State := { ownedState with
  pwr := { boot := { sysref := true, rails := true } }
  regs := SMap.empty.put (Reg.addr .lpGrpMode [15]) (some 0x80000001)
  lp := { otn := SMap.empty.put 15 (some { sm := { acc := some (List.replicate 64 0x5A) } }) } }

/-- Refutes O27: slot 1 reads word 0 of a trace, and place 2^48 + a of slot 0, which no address names, shows word 1, latched at address a
for slot 1. What fails is the range of x in the clauses on R166, all numbers, and not R166: latched_readTti_other proves it for every
place below 2^48. -/
theorem not_otnOverheadAndDefects : ¬ Obligations.OtnOverheadAndDefects := by
  unfold Obligations.OtnOverheadAndDefects
  rintro ⟨-, -, -, -, -, hsm, -⟩
  obtain ⟨t, -, -, hword, hothers, -⟩ := hsm 1 15 1 tracedState (by decide +kernel) (by decide +kernel) (by decide +kernel) (by decide)
  have hplace : latched t 0 (2 ^ 48 + Reg.addr .otnSmTtiRx [15, 1]) = latched t 1 (Reg.addr .otnSmTtiRx [15, 1]) :=
    congrArg (t.latch.get 0) (by unfold latchKey; omega)
  have hbefore : latched tracedState 0 (2 ^ 48 + Reg.addr .otnSmTtiRx [15, 1]) = 0 := by decide +kernel
  have hset : ttiWord (otnOf tracedState 15).sm 1 ≠ 0 := by decide +kernel
  exact hset (hword.symm.trans (hplace.symm.trans ((hothers 0 _ (by decide)).trans hbefore)))

end Sys2Proof.Machine
end

section
/-! SUPPORT. The slices' tracks, journals and waiting heads: what each operation of the pipeline changes and what it leaves. -/

namespace Sys2Proof.Machine

theorem sliceOf_modSlice_other (s : State) {i j : Nat} (f : SliceSt → SliceSt) (h : j ≠ i) : sliceOf (modSlice s i f) j = sliceOf s j :=
  SMap.get_set_other _ _ _ _ _ _ h

theorem trackOf_congr {s t : State} {i : Nat} (h : (sliceOf t i).tracks = (sliceOf s i).tracks) (k : Nat) : trackOf t i k = trackOf s i k :=
  congrArg (fun m : SMap Track => m.get {} k) h

theorem trackOf_of_slc {s t : State} (h : t.slc = s.slc) (i k : Nat) : trackOf t i k = trackOf s i k :=
  trackOf_congr (congrArg SliceSt.tracks (sliceOf_of_slc h i)) k

@[simp] theorem trackOf_modTrack_same (s : State) (i k : Nat) (f : Track → Track) : trackOf (modTrack s i k f) i k = f (trackOf s i k) := by
  simp [trackOf, modTrack]

/-- A change of one slice that keeps its tracks keeps every track of every slice. -/
theorem trackOf_modSlice_of_tracks (s : State) (i : Nat) {f : SliceSt → SliceSt} (hf : ∀ x, (f x).tracks = x.tracks) (j k : Nat) :
    trackOf (modSlice s i f) j k = trackOf s j k := by
  apply trackOf_congr
  by_cases hj : j = i
  · subst hj
    rw [sliceOf_modSlice_same, hf]
  · rw [sliceOf_modSlice_other s f hj]

@[simp] theorem jPut_tracks (x : SliceSt) (d k : Nat) (e : Option JEntry) : (jPut x d k e).tracks = x.tracks := by
  unfold jPut
  split <;> rfl

@[simp] theorem jPut_tokWait (x : SliceSt) (d k : Nat) (e : Option JEntry) : (jPut x d k e).tokWait = x.tokWait := by
  unfold jPut
  split <;> rfl

@[simp] theorem jPut_replay (x : SliceSt) (d k : Nat) (e : Option JEntry) : (jPut x d k e).replay = x.replay := by
  unfold jPut
  split <;> rfl

@[simp] theorem jrnlOf_jPut_same (x : SliceSt) (d k : Nat) (e : Option JEntry) : jrnlOf (jPut x d k e) d = (jrnlOf x d).put k e := by
  unfold jrnlOf jPut
  split <;> simp [*]

@[simp] theorem jrnlOf_with_tracks (x : SliceSt) (m : SMap Track) (d : Nat) : jrnlOf { x with tracks := m } d = jrnlOf x d := rfl

theorem jrnlOf_modTrack (s : State) (i k : Nat) (f : Track → Track) (j d : Nat) :
    jrnlOf (sliceOf (modTrack s i k f) j) d = jrnlOf (sliceOf s j) d := by
  by_cases hj : j = i
  · subst hj
    rw [modTrack, sliceOf_modSlice_same]
    rfl
  · rw [modTrack, sliceOf_modSlice_other _ _ hj]

theorem tokWait_modTrack (s : State) (i k : Nat) (f : Track → Track) (j : Nat) :
    (sliceOf (modTrack s i k f) j).tokWait = (sliceOf s j).tokWait := by
  by_cases hj : j = i
  · subst hj
    rw [modTrack, sliceOf_modSlice_same]
  · rw [modTrack, sliceOf_modSlice_other _ _ hj]

@[simp] theorem jrnlOf_jRetire_same (s : State) (i d k : Nat) : (jrnlOf (sliceOf (jRetire s i d k) i) d).find k = none := by
  rw [jRetire, sliceOf_modSlice_same, jrnlOf_jPut_same, SMap.find_put_same]

theorem trackOf_jRetire (s : State) (i d k j t : Nat) : trackOf (jRetire s i d k) j t = trackOf s j t :=
  trackOf_modSlice_of_tracks s i (fun x => jPut_tracks x d k none) j t

theorem tokWait_jRetire (s : State) (i d k j : Nat) : (sliceOf (jRetire s i d k) j).tokWait = (sliceOf s j).tokWait := by
  by_cases hj : j = i
  · subst hj
    rw [jRetire, sliceOf_modSlice_same, jPut_tokWait]
  · rw [jRetire, sliceOf_modSlice_other _ _ hj]

/-- No token of the track waits: nothing enters it (R185). -/
theorem tokenIn_none {s : State} {i t : Nat} (h : (sliceOf s i).tokWait.find? (fun w => w.1 == t) = none) : tokenIn s i t = s := by
  unfold tokenIn
  rw [h]

/-- A token that enters a track leaves the output queues and the places in order (R185). -/
theorem tokenIn_keeps (s : State) (i t : Nat) : (trackOf (tokenIn s i t) i t).outq = (trackOf s i t).outq ∧
    (sliceOf (tokenIn s i t) i).order = (sliceOf s i).order := by
  unfold tokenIn
  split
  · split
    · refine ⟨?_, ?_⟩
      · rw [trackOf_modTrack_same, trackOf_modSlice_of_tracks s i]
        exact fun _ => rfl
      · rw [modTrack, sliceOf_modSlice_same, sliceOf_modSlice_same]
    · exact ⟨rfl, rfl⟩
  · exact ⟨rfl, rfl⟩

@[simp] theorem slc_countSlc (s : State) (i off : Nat) : (countSlc s i off).slc = s.slc := rfl

@[simp] theorem slc_chargeHead (s : State) (i t cat : Nat) (f : Flight) : (chargeHead s i t cat f).slc = s.slc :=
  slc_of_part (chargeHead_part .slc (by decide) _ _ _ _ _)

@[simp] theorem slc_parseErr (s : State) (i : Nat) (h : Head) (p : PState) : (parseErr s i h p).slc = s.slc :=
  slc_of_part (parseErr_part .slc (by decide) _ _ _ _)

@[simp] theorem slc_jrnlMax (s : State) (i dir : Nat) : (jrnlMax s i dir).slc = s.slc :=
  slc_of_part (jrnlMax_part .slc (by decide) _ _ _)

/-- The body of a head given up changes no slice. -/
theorem sliceOf_dropBody (s : State) (h : Head) (i : Nat) : sliceOf (dropBody s h) i = sliceOf s i := by
  refine sliceOf_congr ?_ i
  unfold dropBody
  split
  · rfl
  · split <;> rfl

/-! ## Waiting heads -/

theorem waiting_of_slc {s t : State} (h : t.slc = s.slc) (inp : Nat) : waiting t inp = waiting s inp := by
  unfold waiting intakeOf
  rw [h]

/-- A change of a slice leaves the heads that wait. -/
theorem waiting_modSlice (s : State) (i : Nat) (f : SliceSt → SliceSt) (inp : Nat) : waiting (modSlice s i f) inp = waiting s inp := rfl

theorem intakeOf_modIntake_same (s : State) (g : Nat) (f : Intake → Intake) : intakeOf (modIntake s g f) g = f (intakeOf s g) :=
  SMap.get_upd_same _ _ _ _

theorem intakeOf_modIntake_other (s : State) {g k : Nat} (f : Intake → Intake) (h : k ≠ g) : intakeOf (modIntake s g f) k = intakeOf s k :=
  SMap.get_upd_other _ _ _ _ _ _ h

theorem waiting_intakeEase (s : State) (g inp : Nat) : waiting (intakeEase s g) inp = waiting s inp := by
  unfold intakeEase
  split
  · unfold waiting
    split
    · by_cases hg : inp = g
      · subst hg
        rw [intakeOf_modIntake_same]
      · rw [intakeOf_modIntake_other _ _ hg]
    · rfl
  · rfl

theorem waiting_popWaiting (s : State) (inp : Nat) : waiting (popWaiting s inp) inp = (waiting s inp).drop 1 := by
  unfold popWaiting
  split
  · next h =>
    rw [waiting_intakeEase]
    unfold waiting
    rw [if_pos h, if_pos h]
    rw [intakeOf_modIntake_same]
  · next h =>
    unfold waiting
    rw [if_neg h, if_neg h]
    exact SMap.get_upd_same _ _ _ _

/-- Taking a waiting head changes no slice and no place in order. -/
theorem popWaiting_keeps (s : State) (inp : Nat) : (popWaiting s inp).slc.sl = s.slc.sl ∧ (popWaiting s inp).slc.inseq = s.slc.inseq := by
  unfold popWaiting
  split
  · unfold intakeEase
    split <;> exact ⟨rfl, rfl⟩
  · exact ⟨rfl, rfl⟩

/-! ## Dealing -/

/-- What dealing a head into a track makes of the slices (R170, R183, R188). -/
theorem dealInto_slc (s : State) (i t : Nat) (h : Head) (seq slot : Nat) : ∃ f : Flight, (dealInto s i t h seq slot).slc =
    (modTrack (modSlice s i (fun x => jPut x (dirOf h.inp) slot (some { head := h, seq := seq }))) i t
      (fun x => { x with flights := x.flights ++ [f], entered := x.entered + 1 })).slc := by
  simp only [dealInto, slc_parseErr, slc_countSlc, slc_jrnlMax]
  exact ⟨_, rfl⟩

/-- The head stands in the journal under its slot, and in its track. -/
theorem dealInto_state (s : State) (i t : Nat) (h : Head) (seq slot : Nat) :
    (jrnlOf (sliceOf (dealInto s i t h seq slot) i) (dirOf h.inp)).find slot = some { head := h, seq := seq } ∧
    (trackOf (dealInto s i t h seq slot) i t).flights.length = (trackOf s i t).flights.length + 1 ∧
    (sliceOf (dealInto s i t h seq slot) i).replay = (sliceOf s i).replay ∧
    (∀ j, j ≠ i → sliceOf (dealInto s i t h seq slot) j = sliceOf s j) ∧
    (dealInto s i t h seq slot).slc.inseq = s.slc.inseq ∧
    (∀ inp, waiting (dealInto s i t h seq slot) inp = waiting s inp) := by
  obtain ⟨f, hf⟩ := dealInto_slc s i t h seq slot
  refine ⟨?_, ?_, ?_, fun j hj => ?_, ?_, fun inp => ?_⟩
  · rw [sliceOf_of_slc hf, jrnlOf_modTrack, sliceOf_modSlice_same, jrnlOf_jPut_same, SMap.find_put_same]
  · rw [trackOf_of_slc hf, trackOf_modTrack_same, trackOf_modSlice_of_tracks s i (fun x => jPut_tracks x _ _ _)]
    exact List.length_append
  · rw [sliceOf_of_slc hf, modTrack, sliceOf_modSlice_same, sliceOf_modSlice_same]
    exact jPut_replay _ _ _ _
  · rw [sliceOf_of_slc hf, modTrack, sliceOf_modSlice_other _ _ hj, sliceOf_modSlice_other _ _ hj]
  · rw [hf]
    rfl
  · rw [waiting_of_slc hf]
    rfl

/-! ## The Ell's segment queues -/

/-- A segment that finds room stands at the end of its bundle direction's queue (R291). -/
theorem segq_ellPush {s : State} {k : Nat} (h : segRoom s k = true) (g : Seg) :
    (bundleOf (ellPush s k g) k).segq = (bundleOf s k).segq ++ [g] := by
  simp only [segRoom, Bool.and_eq_true, decide_eq_true_eq, List.isEmpty_iff] at h
  obtain ⟨hlen, hheld⟩ := h
  have hb : bundleOf (ellPush s k g) k = { bundleOf s k with held := (bundleOf s k).held ++ [g] }.refill := SMap.get_upd_same _ _ _ _
  obtain ⟨n, hn⟩ : ∃ n, segqMax - (bundleOf s k).segq.length = n + 1 := ⟨segqMax - (bundleOf s k).segq.length - 1, by omega⟩
  rw [hb]
  simp [Bundle.refill, hheld, hn]

theorem bundleOf_of_ell {s t : State} (h : t.ell = s.ell) (k : Nat) : bundleOf t k = bundleOf s k :=
  congrArg (fun e : EllSt => e.b.get {} k) h

end Sys2Proof.Machine
end

section
/-! The statement about the way of a head through a slice (R170 to R195). -/

namespace Sys2Proof.Machine

/-- Dealing the first head that waits (R182, R183, R188). -/
theorem deal_first {s : State} {inp n : Nat} {h : Head} {rest : List Head} (htok : inp < 16 ∨ h.tkt.isSome = true)
    (hblk : dealBlock s (dealOwner s inp) (dirOf inp) = none) (hfree : jFree (sliceOf s (dealOwner s inp)) (dirOf inp) = some n)
    (hrep : nextReplay (sliceOf s (dealOwner s inp)) inp = none) (hw : waiting s inp = h :: rest)
    (hcyc : cycleFree s (dealOwner s inp) (bestTrack s (dealOwner s inp) (dirOf inp)) = true) :
    deal s inp = dealInto (modSlice (modSlc (popWaiting s inp)
        (fun b => { b with inseq := b.inseq.set 0 inp ((s.slc.inseq.get 0 inp + 1) % 65536) })) (dealOwner s inp)
        (fun x => { x with order := x.order.upd [] inp (fun l => l ++ [s.slc.inseq.get 0 inp]) }))
      (dealOwner s inp) (bestTrack s (dealOwner s inp) (dirOf inp)) h (s.slc.inseq.get 0 inp) n := by
  unfold deal
  dsimp only
  refine (if_neg ?_).trans ?_
  · rw [hw]
    rcases htok with hinp | hsome
    · simp [hinp]
    · simp [Option.isSome_iff_ne_none.1 hsome]
  · rw [hcyc, if_pos rfl, hblk, hfree, hrep, hw]

/-- Dealing a replayed head, before every head that waits (R195). -/
theorem deal_replayed {s : State} {inp n : Nat} {r : Nat × Nat × JEntry}
    (htok : inp < 16 ∨ (waiting s inp).all (fun h => h.tkt.isSome) = true)
    (hblk : dealBlock s (dealOwner s inp) (dirOf inp) = none) (hfree : jFree (sliceOf s (dealOwner s inp)) (dirOf inp) = some n)
    (hrep : nextReplay (sliceOf s (dealOwner s inp)) inp = some r)
    (hcyc : cycleFree s (dealOwner s inp) (bestTrack s (dealOwner s inp) (dirOf inp)) = true) :
    deal s inp = dealReplay s (dealOwner s inp) (bestTrack s (dealOwner s inp) (dirOf inp)) r n := by
  unfold deal
  dsimp only
  refine (if_neg ?_).trans ?_
  · rcases htok with hinp | hall
    · simp [hinp]
    · cases hw : waiting s inp with
      | nil => simp
      | cons a l =>
        have ha : a.tkt.isSome = true := List.all_eq_true.1 hall a (by simp [hw])
        simp [Option.isSome_iff_ne_none.1 ha]
  · rw [hcyc, if_pos rfl, hblk, hfree, hrep]

/-- What a replayed head leaves: its entry in the new journal, none in the failed slice's, and its place in order (R189, R195). -/
theorem dealReplay_state {s : State} {i t n f a b : Nat} {r : Nat × Nat × JEntry} (hrp : (sliceOf s i).replaying = some (f, a, b))
    (hif : i ≠ f) :
    (jrnlOf (sliceOf (dealReplay s i t r n) i) (dirOf r.2.2.head.inp)).find n = some { head := r.2.2.head, seq := r.2.2.seq } ∧
    (sliceOf (dealReplay s i t r n) i).replay = (sliceOf s i).replay.erase r ∧
    (jrnlOf (sliceOf (dealReplay s i t r n) f) r.1).find r.2.1 = none ∧ (dealReplay s i t r n).slc.inseq = s.slc.inseq := by
  have hslc : (dealReplay s i t r n).slc = (dealInto (jRetire (modSlice s i (fun x => { x with
      replay := x.replay.erase r
      replaying := x.replaying.map (fun y => if r.1 = 0 then (y.1, y.2.1 + 1, y.2.2) else (y.1, y.2.1, y.2.2 + 1)) })) f r.1 r.2.1)
      i t r.2.2.head r.2.2.seq n).slc := by
    simp only [dealReplay, hrp, slc_countSlc]
  obtain ⟨hent, -, hrpl, hoth, hseq, -⟩ := dealInto_state (jRetire (modSlice s i (fun x => { x with
      replay := x.replay.erase r
      replaying := x.replaying.map (fun y => if r.1 = 0 then (y.1, y.2.1 + 1, y.2.2) else (y.1, y.2.1, y.2.2 + 1)) })) f r.1 r.2.1)
      i t r.2.2.head r.2.2.seq n
  refine ⟨?_, ?_, ?_, ?_⟩
  · rw [sliceOf_of_slc hslc]
    exact hent
  · rw [sliceOf_of_slc hslc, hrpl, jRetire, sliceOf_modSlice_other _ _ hif, sliceOf_modSlice_same]
  · rw [sliceOf_of_slc hslc, hoth f hif.symm]
    exact jrnlOf_jRetire_same _ _ _ _
  · rw [hslc, hseq]
    rfl

/-- A stage runs on a slice's SRAM and leaves its tracks (R176 to R179). -/
theorem trackOf_stageRun (s : State) (i lane : Nat) (pr : Prog) (f : Flight) (j k : Nat) :
    trackOf (stageRun s i lane pr f).2 j k = trackOf s j k := by
  unfold stageRun
  dsimp only
  rw [trackOf_modSlice_of_tracks]
  · apply trackOf_of_slc
    apply slc_of_part
    split
    · rw [sharedLookup_part .slc (by decide), sourceLookup_part .slc (by decide), destLookup_part .slc (by decide)]
    · rw [sourceLookup_part .slc (by decide), destLookup_part .slc (by decide)]
  · exact fun _ => rfl

/-- A stage takes a flight to the next stage, 30 ns later (R170). -/
theorem stageRun_flight (s : State) (i lane : Nat) (pr : Prog) (f : Flight) : (stageRun s i lane pr f).1.stage = f.stage + 1 ∧
    (stageRun s i lane pr f).1.readyAt = f.readyAt + 30 ∧ (stageRun s i lane pr f).1.exitAt = f.exitAt := ⟨rfl, rfl, rfl⟩

/-- A flight that ended its stage, at its turn, passes the next one (R170, R179). -/
theorem headStage_run {s : State} {i t k : Nat} {f : Flight} (hf : (trackOf s i t).flights[k]? = some f) (htok : f.token = false)
    (hst : f.stage < 24) (hrd : f.readyAt ≤ s.now) (hturn : stageTurn s i t f = true) :
    headStage s i t k = modTrack (stageRun s i t (progOf s i) f).2 i t
      (fun x => { x with flights := x.flights.set k (stageRun s i t (progOf s i) f).1 }) := by
  unfold headStage
  rw [hf]
  simp [htok, hturn, Nat.not_le.2 hst, Nat.not_lt.2 hrd]

/-- A head dropped at stage 23 exit leaves the flights as they are, the tokens that wait, and no journal entry (R189). -/
theorem exitDrop_state (s : State) (i t : Nat) (f : Flight) (off : Nat) :
    (trackOf (exitDrop s i t f off) i t).flights = (trackOf s i t).flights ∧
    (sliceOf (exitDrop s i t f off) i).tokWait = (sliceOf s i).tokWait ∧
    (jrnlOf (sliceOf (exitDrop s i t f off) f.jsl) (dirOf f.head.inp)).find f.slot = none := by
  obtain ⟨u, hu⟩ : ∃ u, chargeHead (jRetire (dropBody (countSlc s i off) f.head) f.jsl (dirOf f.head.inp) f.slot) i t 2 f = u := ⟨_, rfl⟩
  have hslc : u.slc = (jRetire (dropBody (countSlc s i off) f.head) f.jsl (dirOf f.head.inp) f.slot).slc := by
    rw [← hu, slc_chargeHead]
  have hsl : ∀ j, sliceOf (dropBody (countSlc s i off) f.head) j = sliceOf s j := fun j => by
    rw [sliceOf_dropBody]
    rfl
  have hfl : (trackOf u i t).flights = (trackOf s i t).flights := by
    rw [trackOf_of_slc hslc, trackOf_jRetire, trackOf_congr (congrArg SliceSt.tracks (hsl i))]
  have htw : (sliceOf u i).tokWait = (sliceOf s i).tokWait := by
    rw [sliceOf_of_slc hslc, tokWait_jRetire, hsl]
  have hj : (jrnlOf (sliceOf u f.jsl) (dirOf f.head.inp)).find f.slot = none := by
    rw [sliceOf_of_slc hslc, jrnlOf_jRetire_same]
  rw [exitDrop, hu]
  unfold skipMark
  split
  · exact ⟨by rw [trackOf_modTrack_same]; exact hfl, (tokWait_modTrack u i t _ i).trans htw,
      (congrArg (fun m : SMap JEntry => m.find f.slot) (jrnlOf_modTrack u i t _ f.jsl _)).trans hj⟩
  · exact ⟨hfl, htw, hj⟩

/-- The oldest flight due leaves the track; without DROP or PUNT, and with a good output head, it goes on, and with DROP it is dropped. -/
theorem exit23_drop {s : State} {i t : Nat} {f : Flight} (hf : (trackOf s i t).flights.find? (fun g =>
    decide (24 ≤ g.stage) && decide (g.exitAt ≤ s.now)) = some f) (htok : f.token = false) (hdrop : tbit (vget f.vec 117) 31 = true) :
    exit23 s i t = exitDrop (modTrack s i t (fun x => { x with flights := x.flights.erase f })) i t f 0x230 := by
  unfold exit23
  rw [hf]
  dsimp only
  rw [htok, if_neg (by decide), hdrop, if_pos rfl]

theorem exit23_merge {s : State} {i t : Nat} {f : Flight} (hf : (trackOf s i t).flights.find? (fun g =>
    decide (24 ≤ g.stage) && decide (g.exitAt ≤ s.now)) = some f) (htok : f.token = false) (hdrop : tbit (vget f.vec 117) 31 = false)
    (hpunt : tbit (vget f.vec 117) 30 = false) (hok : deparseOk f.head (deparse (progOf s i) f.vec f.head f.parsed) = true) :
    exit23 s i t = exitMerge (modTrack s i t (fun x => { x with flights := x.flights.erase f })) i t f
      (deparse (progOf s i) f.vec f.head f.parsed) := by
  have hprog : progOf (modTrack s i t (fun x => { x with flights := x.flights.erase f })) i = progOf s i := by
    unfold progOf modTrack
    rw [sliceOf_modSlice_same]
  unfold exit23
  rw [hf]
  dsimp only
  rw [htok, hdrop, hprog, hok, hpunt]
  simp only [Bool.false_eq_true, Bool.not_true, if_false]

/-- A head that goes on enters the output queue; the flights and the tokens that wait stay (R181). -/
theorem exitMerge_state (s : State) (i t : Nat) (f : Flight) (out : List Byte) :
    (trackOf (exitMerge s i t f out) i t).flights = (trackOf s i t).flights ∧
    (trackOf (exitMerge s i t f out) i t).outq.length = (trackOf s i t).outq.length + 1 ∧
    (sliceOf (exitMerge s i t f out) i).tokWait = (sliceOf s i).tokWait := by
  have hslc : ∃ h : OutHead, (exitMerge s i t f out).slc =
      (modTrack (chargeHead s i t 0 f) i t (fun x => { x with outq := x.outq ++ [.head f.seq h] })).slc := by
    unfold exitMerge
    dsimp only
    split
    · exact ⟨_, rfl⟩
    · exact ⟨_, slc_of_part (egressMirror_part .slc (by decide) _ _ _ _)⟩
  obtain ⟨h, hslc⟩ := hslc
  have htr : trackOf (chargeHead s i t 0 f) i t = trackOf s i t := trackOf_of_slc (slc_chargeHead s i t 0 f) i t
  refine ⟨?_, ?_, ?_⟩
  · rw [trackOf_of_slc hslc, trackOf_modTrack_same, htr]
  · rw [trackOf_of_slc hslc, trackOf_modTrack_same, htr]
    exact List.length_append
  · rw [sliceOf_of_slc hslc, tokWait_modTrack, sliceOf_of_slc (slc_chargeHead s i t 0 f)]

/-- With no token of the track waiting, stage 23 exit is the exit of its flight. -/
theorem stage23_of_exit {s u : State} {i t : Nat} (hexit : exit23 s i t = u) (htw : (sliceOf u i).tokWait = (sliceOf s i).tokWait)
    (hnone : (sliceOf s i).tokWait.find? (fun w => w.1 == t) = none) : stage23 s i t = u := by
  rw [stage23, hexit, tokenIn_none (by rw [htw]; exact hnone)]

/-- An item in order leaves the output queue and its place in the order (R184). -/
theorem takeOut_placed {s : State} {i inp t : Nat} {x : OutItem} (hx : ∀ h, x ≠ .head none h) :
    (trackOf (takeOut s i inp t x) i t).outq = (trackOf s i t).outq.erase x ∧
    (sliceOf (takeOut s i inp t x) i).order.get [] inp = ((sliceOf s i).order.get [] inp).drop 1 := by
  have hend : takeOut s i inp t x = tokenIn (modSlice (modTrack s i t (fun y => { y with outq := y.outq.erase x })) i
      (fun y => { y with order := y.order.upd [] inp (fun l => l.drop 1) })) i t := by
    cases x with
    | skip p n => rfl
    | token p n => rfl
    | head seq h =>
      cases seq with
      | none => exact absurd rfl (hx h)
      | some n => rfl
  rw [hend]
  obtain ⟨hout, hord⟩ := tokenIn_keeps (modSlice (modTrack s i t (fun y => { y with outq := y.outq.erase x })) i
      (fun y => { y with order := y.order.upd [] inp (fun l => l.drop 1) })) i t
  refine ⟨?_, ?_⟩
  · rw [hout, trackOf_modSlice_of_tracks, trackOf_modTrack_same]
    exact fun _ => rfl
  · rw [hord, sliceOf_modSlice_same, modTrack, sliceOf_modSlice_same]
    exact SMap.get_upd_same _ _ _ _

/-- The merge passes over a skip marker (R184). -/
theorem mergeStep_skip {s : State} {i inp tk n : Nat} (hhold : (sliceOf s i).hold.get [] inp = [])
    (hnext : mergeNext s i inp = some (tk, .skip inp n)) : mergeStep s i inp = takeOut s i inp tk (.skip inp n) := by
  unfold mergeStep
  dsimp only
  rw [hhold, hnext]
  cases barrierFor s i inp <;> rfl

/-- A head in order leaves the slice when there is room (R184, R185). -/
theorem mergeStep_head {s : State} {i inp tk n : Nat} {h : OutHead} (hhold : (sliceOf s i).hold.get [] inp = [])
    (hbar : barrierFor s i inp = false) (hnext : mergeNext s i inp = some (tk, .head (some n) h)) (hroom : emitRoom s h = true) :
    mergeStep s i inp = emitHead (modSlice (takeOut s i inp tk (.head (some n) h)) i
      (fun y => { y with bypass := y.bypass.upd [] inp (fun l => l.erase n) })) i h := by
  unfold mergeStep
  dsimp only
  rw [hhold, hbar, hnext]
  dsimp only
  rw [hroom]
  rfl

/-- A head that leaves for the Ell keeps every track, and its ticket and head stand in the bundle's queue (R181). -/
theorem emitHead_ingress {s : State} {i : Nat} {h : OutHead} (hing : h.inp < 16) (hroom : emitRoom s h = true) :
    (∀ j k, trackOf (emitHead s i h) j k = trackOf s j k) ∧
    (bundleOf (emitHead s i h) (bundleOfTicket h.tkt)).segq =
      (bundleOf s (bundleOfTicket h.tkt)).segq ++ [.head (bundleOfTicket h.tkt) h.tkt h.bytes h.tag] ∧
    AgreeBut [.slc, .ell] s (emitHead s i h) := by
  have hend : emitHead s i h = modSlice (ellPush s (bundleOfTicket h.tkt) (.head (bundleOfTicket h.tkt) h.tkt h.bytes h.tag)) h.jsl
      (fun x => match x.jIn.find h.slot with
        | some e => jPut x 0 h.slot (some { e with sent := true })
        | none => x) := if_pos hing
  rw [emitRoom, if_pos hing] at hroom
  rw [hend]
  refine ⟨fun j k => ?_, segq_ellPush hroom _, fun p hp => ?_⟩
  · rw [trackOf_modSlice_of_tracks]
    · rfl
    · intro x
      split
      · exact jPut_tracks _ _ _ _
      · rfl
  · rw [modSlice_part p (by simp at hp; simp [hp]), ellPush_part p (by simp at hp; simp [hp])]

/-- Settles O28: each clause is one step of the pipeline on the tracks, the journals and the queues. -/
theorem headPath : Obligations.HeadPath := by
  unfold Obligations.HeadPath
  refine ⟨fun inp h rest n s hinp htok hblk hfree hrep hw hcyc => ?first, fun inp r n f a b s hinp htok hblk hfree hrep hrp hif hcyc => ?replay,
    fun sl tk k f s hlive hf htok hst hrd hturn => ?stage, fun sl tk f s hlive hf htok hdrop hnone => ?drop,
    fun sl tk f s hlive hf htok hdrop hpunt hok hnone => ?merge, fun sl inp tk n s hlive hhold hnext => ?skip,
    fun sl inp tk n h s hlive hhold hbar hnext hing hroom => ?head⟩
  case first =>
    have hend := deal_first htok hblk hfree hrep hw hcyc
    obtain ⟨hpsl, hpseq⟩ := popWaiting_keeps s inp.val
    obtain ⟨u, hu⟩ : ∃ u, modSlice (modSlc (popWaiting s inp.val)
        (fun b => { b with inseq := b.inseq.set 0 inp.val ((s.slc.inseq.get 0 inp.val + 1) % 65536) })) (dealOwner s inp.val)
        (fun x => { x with order := x.order.upd [] inp.val (fun l => l ++ [s.slc.inseq.get 0 inp.val]) }) = u := ⟨_, rfl⟩
    rw [hu] at hend
    obtain ⟨hent, hlen, -, -, hseq, hwait⟩ := dealInto_state u (dealOwner s inp.val)
      (bestTrack s (dealOwner s inp.val) (dirOf inp.val)) h (s.slc.inseq.get 0 inp.val) n
    rw [hinp] at hent
    have htr : trackOf u (dealOwner s inp.val) (bestTrack s (dealOwner s inp.val) (dirOf inp.val)) =
        trackOf s (dealOwner s inp.val) (bestTrack s (dealOwner s inp.val) (dirOf inp.val)) := by
      rw [← hu, trackOf_modSlice_of_tracks]
      · exact trackOf_congr (congrArg SliceSt.tracks ((sliceOf_congr rfl _).trans (sliceOf_congr hpsl _))) _
      · exact fun _ => rfl
    refine ⟨_, congrArg Host.Outcome.next hend, ?_, ?_, ?_, ?_, fun p hp => ?_⟩
    · rw [hwait, ← hu, waiting_modSlice]
      exact (waiting_popWaiting s inp.val).trans (congrArg (List.drop 1) hw)
    · rw [hseq, ← hu]
      exact SMap.get_set_same _ _ _ _
    · rw [hent]
      rfl
    · rw [hlen, htr]
    · rw [← hend]
      exact deal_part p (by simp at hp; simp [hp]) s inp.val
  case replay =>
    have hend := deal_replayed htok hblk hfree hrep hcyc
    obtain ⟨hent, hrpl, hold, hseq⟩ := dealReplay_state (t := bestTrack s (dealOwner s inp.val) (dirOf inp.val)) (n := n) (r := r) hrp hif
    rw [hinp] at hent
    refine ⟨_, congrArg Host.Outcome.next hend, ?_, hrpl, hold, hseq, fun p hp => ?_⟩
    · rw [hent]
      rfl
    · exact dealReplay_part p (by simp at hp; simp [hp]) s _ _ r n
  case stage =>
    have hend := headStage_run hf htok hst hrd hturn
    have hlen : k.val < (trackOf s sl.val tk.val).flights.length := (List.getElem?_eq_some_iff.1 hf).1
    obtain ⟨hs', hr', he'⟩ := stageRun_flight s sl.val tk.val (progOf s sl.val) f
    refine ⟨_, congrArg Host.Outcome.next ((if_pos hlive).trans hend), ?_, ?_, fun p hp => ?_⟩
    · rw [trackOf_modTrack_same, trackOf_stageRun]
      simp only [List.getElem?_set_self hlen, Option.map_some, hs', hr', he']
    · rw [trackOf_modTrack_same, trackOf_stageRun]
    · rw [← hend]
      exact headStage_part p (by simp at hp; simp [hp]) s _ _ _
  case drop =>
    obtain ⟨hfl, htw, hj⟩ := exitDrop_state (modTrack s sl.val tk.val (fun x => { x with flights := x.flights.erase f })) sl.val tk.val f 0x230
    rw [tokWait_modTrack] at htw
    have hend := stage23_of_exit (exit23_drop hf htok hdrop) htw hnone
    refine ⟨_, congrArg Host.Outcome.next ((if_pos hlive).trans hend), ?_, hj, fun p hp => ?_⟩
    · rw [hfl, trackOf_modTrack_same]
    · rw [exitDrop_part p (by simp at hp; simp [hp])]
      exact modSlice_part p (by simp at hp; simp [hp]) s _ _
  case merge =>
    obtain ⟨hfl, hout, htw⟩ := exitMerge_state (modTrack s sl.val tk.val (fun x => { x with flights := x.flights.erase f })) sl.val tk.val f
      (deparse (progOf s sl.val) f.vec f.head f.parsed)
    rw [tokWait_modTrack] at htw
    have hend := stage23_of_exit (exit23_merge hf htok hdrop hpunt hok) htw hnone
    refine ⟨_, congrArg Host.Outcome.next ((if_pos hlive).trans hend), ?_, ?_, fun p hp => ?_⟩
    · rw [hfl, trackOf_modTrack_same]
    · rw [hout, trackOf_modTrack_same]
    · rw [exitMerge_part p (by simp at hp; simp [hp])]
      exact modSlice_part p (by simp at hp; simp [hp]) s _ _
  case skip =>
    have hend := mergeStep_skip hhold hnext
    obtain ⟨hout, hord⟩ := takeOut_placed (s := s) (i := sl.val) (inp := inp.val) (t := tk) (x := .skip inp.val n) (fun _ => by simp)
    exact ⟨_, congrArg Host.Outcome.next ((if_pos hlive).trans hend), hout, hord,
      fun p hp => takeOut_part p (by simp at hp; simp [hp]) s _ _ _ _⟩
  case head =>
    have hend := mergeStep_head hhold hbar hnext hroom
    obtain ⟨hout, -⟩ := takeOut_placed (s := s) (i := sl.val) (inp := inp.val) (t := tk) (x := .head (some n) h) (fun _ => by simp)
    obtain ⟨u, hu⟩ : ∃ u, modSlice (takeOut s sl.val inp.val tk (.head (some n) h)) sl.val
      (fun y => { y with bypass := y.bypass.upd [] inp.val (fun l => l.erase n) }) = u := ⟨_, rfl⟩
    rw [hu] at hend
    have hframe : AgreeBut [.slc] s u := fun p hp => by
      rw [← hu, modSlice_part p (by simp at hp; simp [hp]), takeOut_part p (by simp at hp; simp [hp])]
    have hell : u.ell = s.ell := ell_of_part (hframe .ell (by simp))
    have hroom' : emitRoom u h = true := by
      rw [emitRoom, if_pos hing] at hroom ⊢
      rw [segRoom, bundleOf_of_ell hell]
      exact hroom
    have htr : trackOf u sl.val tk = trackOf (takeOut s sl.val inp.val tk (.head (some n) h)) sl.val tk := by
      rw [← hu, trackOf_modSlice_of_tracks]
      exact fun _ => rfl
    obtain ⟨hkeep, hseg, hagree⟩ := emitHead_ingress (i := sl.val) hing hroom'
    refine ⟨_, congrArg Host.Outcome.next ((if_pos hlive).trans hend), ?_, ?_, ?_⟩
    · rw [hkeep, htr, hout]
    · rw [hseg, bundleOf_of_ell hell]
    · exact fun p hp => (hagree p hp).trans (hframe p (by simp at hp; simp [hp]))

end Sys2Proof.Machine
end

section
/-! The statement about punts that wait, returned heads and admission reports (R185 to R189, R266). -/

namespace Sys2Proof.Machine

@[simp] theorem xeClassOf_modClass_same (s : State) (c : Nat) (f : XeClass → XeClass) : xeClassOf (modClass s c f) c = f (xeClassOf s c) :=
  SMap.get_upd_same _ _ _ _

/-- The punt port passes a head to its class queue when the class is valid, the head has punts left and the queue has room (R186). -/
theorem puntPass_queued {s : State} {p : Punt} (hv : rb s .xeClassA [p.cls] 31 = true) (hp : p.punts ≤ xeMaxPunts s)
    (hq : (xeClassOf s p.cls).q.length < xeQmax s p.cls) :
    puntPass s p = some (modClass s p.cls (fun c => { c with q := c.q ++ [{ p := p, since := s.now }] })) := by
  unfold puntPass
  rw [hv, if_neg (by decide), if_neg (Nat.not_lt.2 hp), if_pos hq]

/-- The returned head that enters: it has no place in the order of its input, and its values are those of the entry (R187). -/
def returnFlight (s : State) (r : Returned) : Flight :=
  let sn := snapNow s
  let v := r.p.vec.set 0 115 (setFld (vget r.p.vec 115) 31 30 sn.epoch)
  { head := r.p.head, seq := none, slot := r.p.slot, jsl := r.p.jsl, vec := v.set 0 117 (setBit (vget v 117) 30 false), snap := sn,
    stage := r.stage, readyAt := s.now + 30, exitAt := s.now + 30 * (24 - r.stage), parsed := r.p.parsed, punts := r.p.punts }

/-- The first returned head enters its stage in an empty lane or one forced empty (R185, R187). -/
theorem returnEntry_enters {s : State} {i dir : Nat} {r : Returned} {rest : List Returned} (hlive : sliceLive s i = true)
    (hq : (sliceOf s i).retq.get [] dir = r :: rest) (hroom : trackLoad (trackOf s i (bestTrack s i dir)) < 2048)
    (hlane : (r.forced.any (fun a => decide (a ≤ s.now)) || laneEmpty s i (bestTrack s i dir) r.stage) = true) :
    returnEntry s i dir = countSlc (modTrack (modSlice s i (fun x => { x with retq := x.retq.set [] dir rest })) i (bestTrack s i dir)
      (fun x => { x with flights := x.flights ++ [returnFlight s r] })) i 0x228 := by
  unfold returnEntry
  rw [hq]
  dsimp only
  refine if_pos ?_
  rw [hlive, decide_eq_true hroom]
  cases hf : r.forced with
  | none => simpa [hf] using hlane
  | some a => simpa [hf] using hlane

/-- A lane is forced after RET_FORCE cycles, by a cycle that the parser takes no head in (R187). -/
theorem returnForce_forces {s : State} {i dir : Nat} {r : Returned} {rest : List Returned}
    (hq : (sliceOf s i).retq.get [] dir = r :: rest) (hf : r.forced = none) (hsince : r.since + retForceNs s i ≤ s.now)
    (hcyc : cycleFree s i (bestTrack s i dir) = true) :
    returnForce s i dir = modTrack (modSlice s i (fun x => { x with
      retq := x.retq.set [] dir ({ r with forced := some (s.now + 80 + 30 * r.stage) } :: rest) })) i (bestTrack s i dir)
      (fun x => { x with returns := x.returns + 1 }) := by
  unfold returnForce
  rw [hq]
  dsimp only
  refine if_pos ?_
  rw [hf, hcyc, decide_eq_true hsince]
  rfl

/-- A change of a slice's track leaves its return queues. -/
theorem retq_modTrack (s : State) (i k : Nat) (f : Track → Track) : (sliceOf (modTrack s i k f) i).retq = (sliceOf s i).retq := by
  rw [modTrack, sliceOf_modSlice_same]

/-- Settles O29: each clause is the closed form of its command. -/
theorem puntAndReturn : Obligations.PuntAndReturn := by
  unfold Obligations.PuntAndReturn
  refine ⟨fun sl p rest s hpunt hdata hv hp hq => ?release, fun sl eg r rest s hlive hq hroom hlane => ?entry,
    fun sl eg r rest s hlive hq hf hsince hcyc => ?force, fun a b j rest s hdata hrep => ?report⟩
  case release =>
    obtain ⟨u, hu⟩ : ∃ u, modSlice s sl.val (fun x => { x with punt := rest }) = u := ⟨_, rfl⟩
    have hpass : puntPass u p = some (modClass u p.cls (fun c => { c with q := c.q ++ [{ p := p, since := u.now }] })) := by
      subst hu
      exact puntPass_queued hv hp hq
    have hend : (match (sliceOf s sl.val).punt with
        | [] => s
        | p :: rest => if onData s then
            match puntPass (modSlice s sl.val (fun x => { x with punt := rest })) p with
            | some s1 => s1
            | none => s
          else s) = modClass u p.cls (fun c => { c with q := c.q ++ [{ p := p, since := u.now }] }) := by
      rw [hpunt]
      dsimp only
      rw [if_pos hdata, hu, hpass]
    refine ⟨_, congrArg Host.Outcome.next hend, ?_, ?_, fun q hq => ?_⟩
    · rw [sliceOf_of_slc (t := modClass u _ _) (s := u) rfl, ← hu, sliceOf_modSlice_same]
    · rw [xeClassOf_modClass_same, ← hu]
      exact List.map_append
    · rw [modClass_part q (by simp at hq; simp [hq]), ← hu]
      exact modSlice_part q (by simp at hq; simp [hq]) s _ _
  case entry =>
    have hend := returnEntry_enters hlive hq hroom hlane
    refine ⟨_, congrArg Host.Outcome.next hend, ?_, ?_, fun p hp => ?_⟩
    · rw [sliceOf_of_slc (slc_countSlc _ _ _), retq_modTrack, sliceOf_modSlice_same]
      exact SMap.get_set_same _ _ _ _
    · rw [trackOf_of_slc (slc_countSlc _ _ _), trackOf_modTrack_same, trackOf_modSlice_of_tracks]
      · exact List.map_append
      · exact fun _ => rfl
    · rw [← hend]
      exact returnEntry_part p (by simp at hp; simp [hp]) s _ _
  case force =>
    have hend := returnForce_forces hq hf hsince hcyc
    refine ⟨_, congrArg Host.Outcome.next ((if_pos hlive).trans hend), ?_, ?_, fun p hp => ?_⟩
    · rw [retq_modTrack, sliceOf_modSlice_same, SMap.get_set_same]
      rfl
    · rw [trackOf_modTrack_same, trackOf_modSlice_of_tracks]
      exact fun _ => rfl
    · rw [← hend]
      exact returnForce_part p (by simp at hp; simp [hp]) s _ _
  case report =>
    have hend : admitReport s = modXe (jRetire (modSlc s (fun b => { b with reports := rest })) a 0 j)
        (fun x => { x with sends := x.sends.set false (a * 65536 + j) false }) := by
      simp only [admitReport, hrep]
    have hsl : sliceOf (modXe (jRetire (modSlc s (fun b => { b with reports := rest })) a 0 j)
        (fun x => { x with sends := x.sends.set false (a * 65536 + j) false })) a = jPut (sliceOf s a) 0 j none := by
      rw [sliceOf_of_slc (t := modXe _ _) (s := jRetire _ a 0 j) rfl, jRetire, sliceOf_modSlice_same]
      rfl
    refine ⟨_, congrArg Host.Outcome.next ((if_pos hdata).trans hend), rfl, ?_, ?_, fun p hp => ?_⟩
    · rw [hsl]
      exact SMap.find_put_same _ _ _
    · rw [hsl]
      rfl
    · rw [← hend]
      exact admitReport_part p (by simp at hp; simp [hp]) s

end Sys2Proof.Machine
end

section
/-! The statement about the fence of a slice, failover, replay and the loss of a journal (R190 to R195). -/

namespace Sys2Proof.Machine

/-- A change of the slice block beside the slices keeps every slice. -/
theorem sliceOf_modSlc_of_sl (s : State) {b : SlcBlk → SlcBlk} (hb : ∀ x, (b x).sl = x.sl) (i : Nat) : sliceOf (modSlc s b) i = sliceOf s i :=
  sliceOf_congr (hb s.slc) i

/-- A slice with nothing inside, its journals as they were, and n fence markers out (R191). -/
def SliceSt.stopped (x : SliceSt) (n : Nat) : SliceSt := { x with
  st := .fenced, tracks := {}, order := {}, tokens := {}, tokWait := [], hold := {}, stalled := {}, replay := [], bypass := {}
  replaying := none, fencing := n }

/-- What a fenced slice keeps through the rest of its handling: its state, that it is fenced, and that no update session runs. -/
def FencedAs (i : Nat) (x : SliceSt) (s : State) : Prop :=
  sliceOf s i = x ∧ isFenced s 6 i = true ∧ s.upd.applying = false ∧ s.upd.falling = false

/-- A step that keeps the slices, the faults' units and the update session keeps it. -/
theorem FencedAs.of_keeps {i : Nat} {x : SliceSt} {s t : State} (h : FencedAs i x s) (hsl : t.slc.sl = s.slc.sl)
    (hf : t.flt.fenced = s.flt.fenced) (hu : t.upd = s.upd) : FencedAs i x t := by
  obtain ⟨h1, h2, h3, h4⟩ := h
  refine ⟨(sliceOf_congr hsl i).trans h1, ?_, by rw [hu]; exact h3, by rw [hu]; exact h4⟩
  exact (congrArg (fun m : SMap Bool => m.get false (6 * 65536 + i)) hf).trans h2

theorem FencedAs.of_parts {i : Nat} {x : SliceSt} {s t : State} (h : FencedAs i x s) (hs : t.part .slc = s.part .slc)
    (hf : t.part .flt = s.part .flt) (hu : t.part .upd = s.part .upd) : FencedAs i x t :=
  h.of_keeps (congrArg SlcBlk.sl (slc_of_part hs)) (congrArg FltSt.fenced (flt_of_part hf)) (upd_of_part hu)

theorem FencedAs.event {i : Nat} {x : SliceSt} {s : State} (h : FencedAs i x s) (code inst d : Nat) : FencedAs i x (event s code inst d) :=
  h.of_parts (event_part .slc (by decide) _ _ _ _) (event_part .flt (by decide) _ _ _ _) (event_part .upd (by decide) _ _ _ _)

theorem FencedAs.modFail {i : Nat} {x : SliceSt} {s : State} (h : FencedAs i x s) (f : Failover → Failover) : FencedAs i x (modFail s f) :=
  h.of_keeps rfl rfl rfl

theorem FencedAs.applyHalt {i : Nat} {x : SliceSt} {s : State} (h : FencedAs i x s) (reason : Nat) : FencedAs i x (applyHalt s reason) := by
  rw [applyHalt_alone reason h.2.2.1 h.2.2.2]
  refine FencedAs.event ?_ _ _ _
  refine h.of_keeps ?_ (congrArg FltSt.fenced (flt_of_part (applyHalted_part .flt (by decide) s))) (upd_of_part (applyHalted_part .upd (by decide) s))
  have hslc : (applyHalted s).slc = (ucodeOver (loadsLoose s)).slc := rfl
  rw [hslc, slc_of_part (ucodeOver_part .slc (by decide) _)]
  rfl

theorem FencedAs.applyStop {i : Nat} {x : SliceSt} {s : State} (h : FencedAs i x s) : FencedAs i x (applyStop s) := by
  unfold Machine.applyStop
  dsimp only
  split
  · split
    · split
      · refine FencedAs.applyHalt ?_ _
        refine h.of_parts ?_ ?_ ?_
        · rw [furFlag_part .slc (by decide), dropSealed_part .slc (by decide)]
        · rw [furFlag_part .flt (by decide), dropSealed_part .flt (by decide)]
        · rw [furFlag_part .upd (by decide), dropSealed_part .upd (by decide)]
      · exact h.of_keeps rfl rfl rfl
    · exact h.applyHalt _
  · exact h

theorem FencedAs.failoverEnd {i : Nat} {x : SliceSt} {s : State} (h : FencedAs i x s) : FencedAs i x (failoverEnd s) := h.modFail _

theorem FencedAs.noSpare {i : Nat} {x : SliceSt} {s : State} (h : FencedAs i x s) : FencedAs i x (noSpare s) :=
  FencedAs.event (FencedAs.failoverEnd (h.modFail _)) _ _ _

/-- A failover's load goes to a slice that is IDLE or READY, never to one that is fenced (R107, R192). -/
theorem FencedAs.failLoad {i : Nat} {x : SliceSt} {s : State} (h : FencedAs i x s) (hx : x.st = .fenced) (j : Nat) :
    FencedAs i x (failLoad s j) := by
  unfold Machine.failLoad
  dsimp only
  split
  · next hallow =>
    obtain ⟨⟨⟨htakes, -⟩, -⟩, -⟩ : ((sliceTakes s j = true ∧ _) ∧ _) ∧ _ := by simpa [loadAllowed] using hallow
    have hij : i ≠ j := by
      rintro rfl
      rw [sliceTakes, h.1, hx] at htakes
      exact absurd htakes (by decide)
    obtain ⟨u, hu⟩ : ∃ u, Machine.modFail s (fun x => { x with st := .loading, spare := j }) = u := ⟨_, rfl⟩
    have hfu : FencedAs i x u := hu ▸ h.modFail _
    rw [hu]
    refine ⟨?_, ?_, ?_, ?_⟩
    · refine Eq.trans ?_ hfu.1
      rw [loadStart, sliceOf_modSlc_of_sl, sliceOf_modSlice_other _ _ hij, sliceOf_copyDrop,
        sliceOf_of_slc (slc_of_part (blockSwitch_part .slc (by decide) _ _ _)),
        sliceOf_of_slc (slc_of_part (blockSwitch_part .slc (by decide) _ _ _))]
      exact fun _ => rfl
    · exact (congrArg (fun f : FltSt => f.fenced.get false (6 * 65536 + i))
        (flt_of_part (loadStart_part .flt (by decide) u _ _ _ _))).trans hfu.2.1
    · rw [upd_of_part (loadStart_part .upd (by decide) u _ _ _ _)]
      exact hfu.2.2.1
    · rw [upd_of_part (loadStart_part .upd (by decide) u _ _ _ _)]
      exact hfu.2.2.2
  · exact FencedAs.noSpare (h.of_parts (imgFlag_part .slc (by decide) _ _) (imgFlag_part .flt (by decide) _ _) (imgFlag_part .upd (by decide) _ _))

theorem FencedAs.failPlan {i : Nat} {x : SliceSt} {s : State} (h : FencedAs i x s) (hx : x.st = .fenced) : FencedAs i x (failPlan s) := by
  unfold Machine.failPlan
  dsimp only
  split
  · exact h.noSpare
  · split
    · exact h.modFail _
    · split
      · exact h.modFail _
      · exact (h.modFail _).noSpare
    · split
      · exact h.modFail _
      · split
        · exact (h.modFail _).failLoad hx _
        · exact (h.modFail _).noSpare

theorem FencedAs.failStart {i : Nat} {x : SliceSt} {s : State} (h : FencedAs i x s) (hx : x.st = .fenced) (j n : Nat) :
    FencedAs i x (failStart s j n) := by
  unfold Machine.failStart
  dsimp only
  split
  · exact h
  · split
    · split
      · exact h.noSpare
      · exact (h.modFail _).event _ _ _
    · split
      · exact h.modFail _
      · exact (h.modFail _).failPlan hx

@[simp] theorem slc_ellPush (s : State) (k : Nat) (g : Seg) : (ellPush s k g).slc = s.slc := rfl

/-- A slice that stops keeps its journals and has nothing inside (R191). -/
theorem sliceOf_sliceStop (s : State) (i : Nat) : ∃ n : Nat, sliceOf (sliceStop s i) i = (sliceOf s i).stopped n := by
  obtain ⟨v, hv⟩ : ∃ v, forEach (List.range 6) (fun t u =>
      bumpN u (cOff 6 (i * 0x8000 + t * 0x40 + 56)) ((trackOf s i t).flights.filter (fun f => f.seq.isSome && !f.token)).length) s = v := ⟨_, rfl⟩
  have hvs : v.slc = s.slc := by
    rw [← hv]
    exact forEach_inv (fun u => u.slc = s.slc) (fun n u h => (slc_of_part (bumpN_part .slc (by decide) u _ _)).trans h) _ rfl
  have hstop : ∀ n b, (∀ x, (b x).sl = x.sl) → sliceOf (modSlc (macTakeBack (modSlice v i (fun y => y.stopped n)) i) b) i =
      (sliceOf s i).stopped n := fun n b hb => by
    rw [sliceOf_modSlc_of_sl _ hb, sliceOf_of_slc (slc_of_part (macTakeBack_part .slc (by decide) _ _)), sliceOf_modSlice_same,
      sliceOf_of_slc hvs]
  unfold sliceStop
  dsimp only
  rw [hv]
  split
  · refine ⟨2, ?_⟩
    rw [sliceOf_of_slc (slc_ellPush _ _ _), sliceOf_of_slc (slc_ellPush _ _ _)]
    exact hstop 2 _ fun _ => rfl
  · exact ⟨0, hstop 0 _ fun _ => rfl⟩

theorem fenced_fatalEnter (s : State) (blk bit inst : Nat) (m : Bool) : (fatalEnter s blk bit inst m).flt.fenced = s.flt.fenced := by
  unfold fatalEnter
  dsimp only
  split
  · rfl
  · rw [flt_of_part (saveLife_part .flt (by decide) _), flt_of_part (logRec_part .flt (by decide) _ _ _)]

theorem fenced_faultRise (s : State) (blk bit inst : Nat) (d4 d5 : Word) : (faultRise s blk bit inst d4 d5).flt.fenced = s.flt.fenced := by
  have hoccur : ∀ (u : State) (c k n : Nat) (a b : Word), (occur u c k n a b).flt = u.flt := fun u c k n a b =>
    flt_of_part (occur_part .flt (by decide) u c k n a b)
  unfold faultRise
  split
  · rfl
  · dsimp only
    split
    · rw [fenced_fatalEnter]
      split
      · split <;> rfl
      · rw [hoccur]
        split <;> rfl
    · split
      · split <;> rfl
      · rw [hoccur]
        split <;> rfl

theorem fenced_condRise (s : State) (blk bit unit : Nat) (d4 d5 : Word) : (condRise s blk bit unit d4 d5).flt.fenced = s.flt.fenced := by
  unfold condRise
  split
  · rfl
  · exact fenced_faultRise s _ _ _ _ _

/-- A slice that is not fenced and not being loaded, and that fails, is fenced and empty, with its journals as they were (R191). -/
theorem sliceFence_state {s : State} {i : Nat} (hst : (sliceOf s i).st ≠ .fenced) (hload : (sliceOf s i).st ≠ .loading)
    (happ : s.upd.applying = false) (hfall : s.upd.falling = false) :
    isFenced (sliceFence s i) 6 i = true ∧ ∃ n : Nat, sliceOf (sliceFence s i) i = (sliceOf s i).stopped n := by
  obtain ⟨n, hstop⟩ := sliceOf_sliceStop s i
  obtain ⟨x, hx⟩ : ∃ x : SliceSt, x = (sliceOf s i).stopped n := ⟨_, rfl⟩
  have hxst : x.st = .fenced := hx ▸ rfl
  obtain ⟨u, hu⟩ : ∃ u, condRise (setFenced (copyDrop (sliceStop s i) i) 6 i true) 6 6 i (lo32 i) 0 = u := ⟨_, rfl⟩
  have hupd : u.upd = s.upd := by
    rw [← hu, upd_of_part (condRise_part .upd (by decide) _ _ _ _ _ _), upd_of_part (setFenced_part .upd (by decide) _ _ _ _),
      upd_of_part (copyDrop_part .upd (by decide) _ _), upd_of_part (sliceStop_part .upd (by decide) _ _)]
  have hfu : FencedAs i x (dropLost u) := by
    refine ⟨?_, ?_, ?_, ?_⟩
    · rw [sliceOf_of_slc (t := dropLost u) (s := u) rfl, ← hu, sliceOf_of_slc (slc_of_part (condRise_part .slc (by decide) _ _ _ _ _ _)),
        sliceOf_of_slc (slc_of_part (setFenced_part .slc (by decide) _ _ _ _)), sliceOf_copyDrop, hstop, hx]
    · refine (congrArg (fun m : SMap Bool => m.get false (6 * 65536 + i)) (?_ : (dropLost u).flt.fenced =
        (setFenced (copyDrop (sliceStop s i) i) 6 i true).flt.fenced)).trans (SMap.get_set_same _ _ _ _)
      rw [show (dropLost u).flt = u.flt from rfl, ← hu, fenced_condRise]
    · exact (congrArg UpdSt.applying hupd).trans happ
    · exact (congrArg UpdSt.falling hupd).trans hfall
  have hend : FencedAs i x (sliceFence s i) := by
    unfold sliceFence
    dsimp only
    rw [hu]
    split
    · next h => exact absurd h hst
    · next h => exact absurd h hload
    · split
      · exact hfu.applyStop.failStart hxst _ _
      · split
        · exact hfu.applyStop.noSpare
        · exact hfu.applyStop
  exact ⟨hend.2.1, n, hend.1.trans hx⟩

/-- The reports that wait are taken one by one (R189). -/
theorem admitReport_fold (l : List Nat) (s : State) :
    (l.foldl (fun t _ => admitReport t) s).slc.reports = s.slc.reports.drop l.length ∧
    (l.foldl (fun t _ => admitReport t) s).slc.echoes = s.slc.echoes := by
  induction l generalizing s with
  | nil => exact ⟨rfl, rfl⟩
  | cons a l ih =>
    have hone : (admitReport s).slc.reports = s.slc.reports.drop 1 ∧ (admitReport s).slc.echoes = s.slc.echoes := by
      unfold admitReport
      split
      · next h => exact ⟨by rw [h]; rfl, rfl⟩
      · next h => exact ⟨by rw [h]; rfl, rfl⟩
    obtain ⟨h1, h2⟩ := ih (admitReport s)
    refine ⟨?_, h2.trans hone.2⟩
    rw [List.foldl_cons, h1, hone.1, List.drop_drop, List.length_cons, Nat.add_comm]

/-- A fence echo comes after every report sent before it (R191). -/
theorem fenceEcho_queues {s : State} {i : Nat} {rest : List Nat} (he : s.slc.echoes = i :: rest) :
    (fenceEcho s).slc.echoes = rest ∧ (fenceEcho s).slc.reports = [] := by
  obtain ⟨u, hu⟩ : ∃ u, (List.range s.slc.reports.length).foldl (fun t _ => admitReport t) (modSlc s (fun b => { b with echoes := rest })) = u :=
    ⟨_, rfl⟩
  obtain ⟨hrep, hech⟩ := admitReport_fold (List.range s.slc.reports.length) (modSlc s (fun b => { b with echoes := rest }))
  rw [hu] at hrep hech
  have hrep' : u.slc.reports = [] := hrep.trans (by rw [List.length_range]; exact List.drop_length)
  obtain ⟨v, hv⟩ : ∃ v, modSlice u i (fun x => { x with fencing := x.fencing - 1 }) = v := ⟨_, rfl⟩
  have hq : v.slc.echoes = rest ∧ v.slc.reports = [] := hv ▸ ⟨hech, hrep'⟩
  have hload : ∀ w j, w.slc.echoes = rest ∧ w.slc.reports = [] → (replayLoad w j i).slc.echoes = rest ∧ (replayLoad w j i).slc.reports = [] :=
    fun _ _ h => h
  have htake : ∀ j, (takeOver v j i).slc.echoes = rest ∧ (takeOver v j i).slc.reports = [] := by
    intro j
    unfold takeOver
    dsimp only
    split
    · exact hload _ _ hq
    · exact hq
  simp only [fenceEcho, he, hu, hv]
  split
  · split
    · exact hload v _ hq
    · split
      · exact htake _
      · exact hq
  · exact hq

/-- The failover value is staged and sealed alone once an eligible spare stands (R194). -/
theorem failoverStage_loading {s : State} (hp : s.upd.paused = false) (hst : s.slc.fail.st = .loading) (hel : eligible s s.slc.fail.spare = true)
    (harm : s.fur.armed = false) (hseal : s.fur.sealing = none) : failoverStage s = failStage s := by
  unfold failoverStage
  simp [hp, hst, hel, harm, hseal]

/-- A set sealed for the failover alone (R194). -/
def failSealed (s : State) : State :=
  modFail (sealValues (modSlice s s.slc.fail.spare (fun x => { x with role := s.slc.fail.pair })) (SMap.put {} (Reg.addr .imgSteer [])
    (some (setFld (regRaw s .imgSteer []) (4 * s.slc.fail.pair + 3) (4 * s.slc.fail.pair) s.slc.fail.spare))) none false true)
    (fun x => { x with st := .staged })

theorem failStage_alone {s : State} (hp : s.fur.pend = false) : failStage s = event (failSealed s) 0x1803 s.slc.fail.failed
    (s.slc.fail.failed * 256 + s.slc.fail.spare * 16 + s.slc.fail.pair) := by
  simp only [failStage, failSealed, hp, Bool.false_eq_true, if_false]

/-- The end of a replay (R195, R199). -/
theorem replayDone_end {s : State} {i f a b : Nat} (hrp : (sliceOf s i).replaying = some (f, a, b)) (hlist : (sliceOf s i).replay = [])
    (hf : (sliceOf s f).fencing = 0) :
    (sliceOf (replayDone s i) i).replaying = none ∧ (sliceOf (replayDone s i) i).st = (sliceOf s i).st := by
  obtain ⟨u, hu⟩ : ∃ u, event (modSlice s i (fun x => { x with replaying := none })) 0x1802 i (min 0xFFFF a * 65536 + min 0xFFFF b) = u := ⟨_, rfl⟩
  have hsl : sliceOf u i = { sliceOf s i with replaying := none } := by
    rw [← hu, sliceOf_event, sliceOf_modSlice_same]
  unfold replayDone
  simp only [hrp, hlist, hf, List.isEmpty_nil, and_self, if_true, hu]
  split
  · rw [sliceOf_congr (t := failoverEnd u) (s := u) rfl, hsl]
    exact ⟨rfl, rfl⟩
  · rw [hsl]
    exact ⟨rfl, rfl⟩

/-- The journal of slice i is lost, and no update session runs. -/
def JournalGone (i : Nat) (st : SliceState) (s : State) : Prop :=
  (sliceOf s i).jOk = false ∧ (sliceOf s i).jIn = {} ∧ (sliceOf s i).jEg = {} ∧ (sliceOf s i).st = st ∧
    s.upd.applying = false ∧ s.upd.falling = false

/-- A slice that replayed from slice i replays no more: the lost journal stays lost. -/
theorem JournalGone.modSlice {i : Nat} {st : SliceState} {s : State} (h : JournalGone i st s) (j : Nat) {f : SliceSt → SliceSt}
    (hok : ∀ x, (f x).jOk = x.jOk) (hin : ∀ x, (f x).jIn = x.jIn) (heg : ∀ x, (f x).jEg = x.jEg) (hst : ∀ x, (f x).st = x.st) :
    JournalGone i st (modSlice s j f) := by
  obtain ⟨h1, h2, h3, h4, h5, h6⟩ := h
  by_cases hij : i = j
  · subst hij
    unfold JournalGone
    rw [sliceOf_modSlice_same, hok, hin, heg, hst]
    exact ⟨h1, h2, h3, h4, h5, h6⟩
  · unfold JournalGone
    rw [sliceOf_modSlice_other s f hij]
    exact ⟨h1, h2, h3, h4, h5, h6⟩

theorem JournalGone.of_parts {i : Nat} {st : SliceState} {s t : State} (h : JournalGone i st s) (hs : t.part .slc = s.part .slc)
    (hu : t.part .upd = s.part .upd) : JournalGone i st t := by
  unfold JournalGone
  rw [sliceOf_of_slc (slc_of_part hs), upd_of_part hu]
  exact h

/-- The bodies given up leave the slices and the update session. -/
theorem dropBodies_keeps (l : List (Nat × JEntry)) (s : State) (i : Nat) :
    sliceOf (l.foldl (fun t e => dropBody t e.2.head) s) i = sliceOf s i ∧ (l.foldl (fun t e => dropBody t e.2.head) s).upd = s.upd := by
  induction l generalizing s with
  | nil => exact ⟨rfl, rfl⟩
  | cons e l ih =>
    obtain ⟨h1, h2⟩ := ih (dropBody s e.2.head)
    exact ⟨h1.trans (sliceOf_dropBody s e.2.head i), h2.trans (upd_of_part (dropBody_part .upd (by decide) s e.2.head))⟩

/-- The fault of the journal domain, and the fence of a slice that served, leave the journal lost (R190, R191). -/
theorem JournalGone.faulted {i : Nat} {st : SliceState} {q : State} (h : JournalGone i st q) (k n u : Nat) (d : Word) :
    let w := condRise (setFenced (bumpN q k n) 6 u true) 6 4 i d 0
    let t := if st = .active ∨ st = .drain then sliceFence w i else w
    (sliceOf t i).jOk = false ∧ (sliceOf t i).jIn = {} ∧ (sliceOf t i).jEg = {} := by
  intro w t
  have hlost : JournalGone i st w := by
    refine h.of_parts ?_ ?_
    · rw [condRise_part .slc (by decide), setFenced_part .slc (by decide), bumpN_part .slc (by decide)]
    · rw [condRise_part .upd (by decide), setFenced_part .upd (by decide), bumpN_part .upd (by decide)]
  obtain ⟨g1, g2, g3, g4, g5, g6⟩ := hlost
  by_cases hlive : st = .active ∨ st = .drain
  · have hne : (sliceOf w i).st ≠ .fenced ∧ (sliceOf w i).st ≠ .loading := by
      rw [g4]
      rcases hlive with h | h <;> rw [h] <;> exact ⟨by decide, by decide⟩
    obtain ⟨-, n, hsl⟩ := sliceFence_state hne.1 hne.2 g5 g6
    rw [show t = sliceFence w i from if_pos hlive, hsl]
    exact ⟨g1, g2, g3⟩
  · rw [show t = w from if_neg hlive]
    exact ⟨g1, g2, g3⟩

/-- A failed journal domain is empty and shows JRNL_OK 0, its slice fenced or not (R190). -/
theorem jrnlFail_state {s : State} {i : Nat} (hok : (sliceOf s i).jOk = true) (happ : s.upd.applying = false) (hfall : s.upd.falling = false) :
    (sliceOf (jrnlFail s i) i).jOk = false ∧ (sliceOf (jrnlFail s i) i).jIn = {} ∧ (sliceOf (jrnlFail s i) i).jEg = {} := by
  obtain ⟨v, hv⟩ : ∃ v, ((sliceOf s i).jIn.entries ++ (sliceOf s i).jEg.entries).foldl (fun t e => dropBody t e.2.head) s = v := ⟨_, rfl⟩
  obtain ⟨hvsl, hvu⟩ := dropBodies_keeps ((sliceOf s i).jIn.entries ++ (sliceOf s i).jEg.entries) s i
  rw [hv] at hvsl hvu
  have h0 : JournalGone i (sliceOf s i).st (modSlice v i (fun y => { y with jIn := {}, jEg := {}, jOk := false })) := by
    unfold JournalGone
    rw [sliceOf_modSlice_same, hvsl]
    exact ⟨rfl, rfl, rfl, rfl, (congrArg UpdSt.applying hvu).trans happ, (congrArg UpdSt.falling hvu).trans hfall⟩
  simp only [jrnlFail, hok, Bool.not_true, Bool.false_eq_true, if_false, hv]
  refine JournalGone.faulted (forEach_inv (JournalGone i (sliceOf s i).st) (fun j t ht => ?_) _ h0) _ _ _ _
  refine ht.modSlice j ?_ ?_ ?_ ?_ <;>
    · intro x
      split
      · split <;> rfl
      · rfl

/-- Settles O30: each clause reads the slice, the queues or the failover off the closed form of its command. -/
theorem sliceFailover : Obligations.SliceFailover := by
  unfold Obligations.SliceFailover
  refine ⟨fun sl loc s hlive hst happ hfall => ?fence, fun i rest s hdata he => ?echo, fun s hdata hpause hst hel harm hseal hpend => ?stage,
    fun sl f a b s hdata hrp hlist hf => ?replayed, fun sl s hdata hdom hok happ hfall => ?journal⟩
  case fence =>
    obtain ⟨u, hu⟩ : ∃ u, faultRise0 s 6 (if loc then 2 else 1) sl.val = u := ⟨_, rfl⟩
    have hframe : AgreeBut [.ctr, .flt, .rcd] s u := fun p hp => hu ▸ faultRise0_part p (by simp at hp; simp [hp]) s _ _ _
    have husl : sliceOf u sl.val = sliceOf s sl.val := sliceOf_of_slc (slc_of_part (hframe .slc (by simp))) _
    have hupd : u.upd = s.upd := upd_of_part (hframe .upd (by simp))
    have hne : (sliceOf u sl.val).st ≠ .fenced ∧ (sliceOf u sl.val).st ≠ .loading := by
      rw [husl, hst]
      exact ⟨by decide, by decide⟩
    obtain ⟨hfen, n, hsl⟩ := sliceFence_state hne.1 hne.2 ((congrArg UpdSt.applying hupd).trans happ) ((congrArg UpdSt.falling hupd).trans hfall)
    have hend : (if sliceLive s sl.val then sliceFence (faultRise0 s 6 (if loc then 2 else 1) sl.val) sl.val else s) = sliceFence u sl.val :=
      (if_pos hlive).trans (by rw [hu])
    refine ⟨_, congrArg Host.Outcome.next hend, ?_, ?_, ?_, ?_, hfen, fun p hp => ?_⟩
    · rw [hsl]
      rfl
    · rw [hsl]
      rfl
    · rw [hsl, husl]
      rfl
    · rw [hsl, husl]
      rfl
    · exact (sliceFence_part p (by simp at hp; simp [hp]) u _).trans (hframe p (by simp at hp; simp [hp]))
  case echo =>
    obtain ⟨h1, h2⟩ := fenceEcho_queues he
    exact ⟨_, congrArg Host.Outcome.next (if_pos hdata), h1, h2, fun p hp => fenceEcho_part p (by simp at hp; simp [hp]) s⟩
  case stage =>
    have hend := (failoverStage_loading hpause hst hel harm hseal).trans (failStage_alone hpend)
    refine ⟨_, congrArg Host.Outcome.next ((if_pos hdata).trans hend), ?_, ?_, ?_, ?_, ?_, fun p hp => ?_⟩
    · rw [event_slc]
      rfl
    · rw [event_slc]
      rfl
    · rw [event_fur]
      rfl
    · rw [event_fur]
      rfl
    · rw [event_fur]
      rfl
    · rw [event_part p (by simp at hp; simp [hp]), failSealed, modFail_part p (by simp at hp; simp [hp]),
        sealValues_part p (by simp at hp; simp [hp])]
      exact modSlice_part p (by simp at hp; simp [hp]) s _ _
  case replayed =>
    obtain ⟨h1, h2⟩ := replayDone_end hrp hlist hf
    exact ⟨_, congrArg Host.Outcome.next (if_pos hdata), h1, h2, fun p hp => replayDone_part p (by simp at hp; simp [hp]) s _⟩
  case journal =>
    obtain ⟨h1, h2, h3⟩ := jrnlFail_state hok happ hfall
    exact ⟨_, congrArg Host.Outcome.next (if_pos (by rw [hdata, hdom]; rfl)), h1, h2, h3,
      fun p hp => jrnlFail_part p (by simp at hp; simp [hp]) s _⟩

end Sys2Proof.Machine
end

section
/-! SUPPORT. The command windows (R218, R249), and what each command of the table queue does (R205 to R222). -/

namespace Sys2Proof.Machine

/-! ## A write request to a command window -/

/-- Words that find room in a command window gather there, one by one. -/
theorem window_gathers {n : Nat} {σ : List Word → State} {step : State → Word → State × Nat}
    (hstep : ∀ l w, l.length < n → step (σ l) w = (σ (l ++ [w]), stOk)) (l m : List Word) (h : l.length + m.length ≤ n) :
    m.foldl (fun (y : State × Nat) w => let z := step y.1 w; (z.1, if y.2 = stOk then z.2 else y.2)) (σ l, stOk) = (σ (l ++ m), stOk) := by
  induction m generalizing l with
  | nil => simp
  | cons w m ih =>
    have hl : l.length < n := by
      rw [List.length_cons] at h
      omega
    rw [List.foldl_cons]
    dsimp only
    rw [hstep l w hl, if_pos rfl, ih (l ++ [w]) (by simp at h ⊢; omega), List.append_assoc, List.singleton_append]

/-- The owner's write of a window word does what the window does with it. -/
theorem writeWord_window {s : State} {slot : Fin 4} {r : Reg} (hmay : ownerMay s slot r [] = true) (hi : idxFit r.info.dims [] = true)
    (hk : tkReg r = false) (hst : stWrite r = false) (v : Word) :
    writeWord s slot.val .owner false (r.addr []) v =
      ((writeReg s r [] v).1, if (writeReg s r [] v).2 then stBusy else stOk) := by
  obtain ⟨hreg, h4, -⟩ := regAt_addr hi
  simp only [ownerMay, Bool.and_eq_true] at hmay
  obtain ⟨⟨⟨-, hown⟩, hav⟩, -⟩ := hmay
  simp [writeWord, definedAt, h4, hreg, holdsRole, hown, roleWrites, hk, hav, writeAt, hst]

theorem served_of_ownerMay {s : State} {slot : Fin 4} {r : Reg} {idx : List Nat} (h : ownerMay s slot r idx = true) : served s = true := by
  simp only [ownerMay, Bool.and_eq_true] at h
  exact h.1.1.1

/-- The table queue's window with these words in it. -/
def tblWith (s : State) (l : List Word) : State := modTbl s (fun t => { t with win := l })

theorem tblWith_step {s : State} {slot : Fin 4} (hmay : ownerMay s slot .tblCmdWin [] = true) (l : List Word) (w : Word) :
    writeWord (tblWith s l) slot.val .owner false (Reg.addr .tblCmdWin []) w = (tblWinWord (tblWith s l) w, stOk) :=
  writeWord_window (s := tblWith s l) hmay rfl rfl rfl w

/-- Up to seven words stay in the window. -/
theorem tblWith_gathers {s : State} {slot : Fin 4} (hmay : ownerMay s slot .tblCmdWin [] = true) (m : List Word) (h : m.length ≤ 7) :
    m.foldl (fun (y : State × Nat) w =>
      let z := writeWord y.1 slot.val .owner false (Reg.addr .tblCmdWin []) w
      (z.1, if y.2 = stOk then z.2 else y.2)) (tblWith s [], stOk) = (tblWith s m, stOk) := by
  refine window_gathers (n := 7) (σ := tblWith s) (step := fun y w => writeWord y slot.val .owner false (Reg.addr .tblCmdWin []) w)
    (fun l w hl => ?_) [] m (by simpa using h)
  rw [tblWith_step hmay]
  exact congrArg (fun u => (u, stOk)) (if_pos hl)

theorem tblWith_self {s : State} (h : s.tbl.win = []) : tblWith s [] = s := by
  have htbl : { s.tbl with win := [] } = s.tbl := by rw [← h]
  show { s with tbl := { s.tbl with win := [] } } = s
  rw [htbl]

/-! ## The queue -/

/-- The descriptor at the head of the queue is carried out on the queue's rest (R218). -/
theorem tblHead_run {s : State} {p : Nat → Bool} {d : List Word} {rest : List (List Word)} (hq : s.tbl.queue = d :: rest)
    (hon : blkOn s 7 = true) (hp : p (dOp d) = true) :
    tblHead p s = tblDone (tblExec (modTbl s (fun t => { t with queue := rest })) d).1 d
      (tblExec (modTbl s (fun t => { t with queue := rest })) d).2 := by
  simp only [tblHead, hq, hon, hp, Bool.and_self, if_true]

/-- The reserved bits of word 0 are clear, and READ's HIT bit too. -/
theorem reserved_clear {w : Word} (h : (w &&& 0x007F0000) = 0) : (w &&& 0x003F0000) = 0 ∧ tbit w 22 = false := by
  refine ⟨?_, ?_⟩
  · have hsub : w &&& 0x003F0000 = (w &&& 0x007F0000) &&& 0x003F0000 := by
      rw [BitVec.and_assoc]
      rfl
    rw [hsub, h]
    rfl
  · have hbit := tbit_and w 0x007F0000 22
    rw [h] at hbit
    simpa [tbit, Nat.testBit] using hbit.symm

/-- A command on a bound table with its reserved bits clear goes to the table's own handling. -/
theorem tblExec_bound {s : State} {d : List Word} (h1 : 1 ≤ dOp d) (h6 : dOp d ≤ 6) (ht : dTid d < 8) (hres : (dw d 0 &&& 0x007F0000) = 0)
    (hb : tblBound s (dTid d) (dView d) = true) :
    tblExec s d = if dOp d = 6 then sigCheck s d else if dTid d = 0 then routeCmd s d else if dTid d ≤ 4 then emCmd s d else idxCmd s d := by
  unfold tblExec
  dsimp only
  rw [if_neg (show ¬dOp d = 0 by omega), if_neg (by rw [(reserved_clear hres).1]; simp; omega), hb]
  rfl

/-- A failed command leaves its record in the failure FIFO (R219). -/
theorem tblDone_record {s : State} {d : List Word} {st : Nat} (h : st ≠ 0) (hroom : s.tbl.fails.length < 1024) :
    tblDone s d st = modTbl (count s 7 0x08) (fun t => { t with fails :=
      t.fails ++ [mkF 31 28 (dOp d) ||| mkF 27 24 (dTid d) ||| mkF 23 16 st ||| mkF 15 0 (fld (dw d 0) 15 0)] }) := by
  unfold tblDone
  rw [if_neg h]
  exact if_pos hroom

/-! ## Rows that go bad, signatures and routes -/

/-- A row that a write makes good again changes nothing but the list of damaged rows (R204). -/
theorem unBad_eq (s : State) (row k : Nat) : ∃ b, unBad s row k = modTbl s (fun t => { t with bad := b }) := by
  unfold unBad
  split
  · exact ⟨s.tbl.bad, rfl⟩
  · exact ⟨_, rfl⟩

theorem routeUnBad_eq (s : State) (k : Nat) : ∃ b, routeUnBad s k = modTbl s (fun t => { t with bad := b }) := by
  unfold routeUnBad
  generalize s.tbl.bad.keys = l
  induction l generalizing s with
  | nil => exact ⟨s.tbl.bad, rfl⟩
  | cons row l ih =>
    rw [List.foldl_cons]
    split
    · obtain ⟨b, hb⟩ := unBad_eq s row k
      obtain ⟨c, hc⟩ := ih (unBad s row k)
      exact ⟨c, by rw [hc, hb]; rfl⟩
    · exact ih s

/-- The state but for the running signatures. -/
def SigOnly (s u : State) : Prop := ∃ g, u = modTbl s (fun t => { t with sig := g })

theorem SigOnly.refl (s : State) : SigOnly s s := ⟨s.tbl.sig, rfl⟩

theorem SigOnly.xor {s u : State} (h : SigOnly s u) (v t : Nat) (a c : List Byte) : SigOnly s (sigXor u v t a c) := by
  obtain ⟨g, rfl⟩ := h
  exact ⟨_, rfl⟩

/-- A route set or removed, with its signature: nothing else of the tables changes but the damaged rows (R204, R221). -/
theorem setRoute_eq (s : State) (k : Nat) (nh : Option Nat) :
    ∃ g b, setRoute s k nh = modTbl s (fun t => { t with routes := t.routes.put k nh, sig := g, bad := b }) := by
  have hput : ∀ u, SigOnly s u → ∃ g b, routeUnBad (modTbl u (fun t => { t with routes := t.routes.put k nh })) k =
      modTbl s (fun t => { t with routes := t.routes.put k nh, sig := g, bad := b }) := by
    rintro u ⟨g, rfl⟩
    obtain ⟨b, hb⟩ := routeUnBad_eq (modTbl (modTbl s (fun t => { t with sig := g })) (fun t => { t with routes := t.routes.put k nh })) k
    exact ⟨g, b, hb⟩
  unfold setRoute
  dsimp only
  refine hput _ ?_
  cases s.tbl.routes.find k <;> cases nh
  · exact .refl s
  · exact (SigOnly.refl s).xor _ _ _ _
  · exact (SigOnly.refl s).xor _ _ _ _
  · exact ((SigOnly.refl s).xor _ _ _ _).xor _ _ _ _

/-- The entries of an indexed table. -/
def idxMap (t : TblSt) (tid : Nat) : SMap Nat := if tid = 5 then t.nh else if tid = 6 then t.grp else t.mem

/-- The tables with other entries in an indexed table. -/
def idxPut (t : TblSt) (tid : Nat) (m : SMap Nat) : TblSt :=
  if tid = 5 then { t with nh := m } else if tid = 6 then { t with grp := m } else { t with mem := m }

@[simp] theorem idxMap_idxPut (t : TblSt) (tid : Nat) (m : SMap Nat) : idxMap (idxPut t tid m) tid = m := by
  unfold idxMap idxPut
  split
  · rfl
  · split <;> rfl

theorem idxPut_keeps (t : TblSt) (tid : Nat) (m : SMap Nat) : (idxPut t tid m).queue = t.queue ∧ (idxPut t tid m).routes = t.routes := by
  unfold idxPut
  split
  · exact ⟨rfl, rfl⟩
  · split <;> exact ⟨rfl, rfl⟩

/-- An indexed entry written, with its signature: nothing else of the tables changes but the damaged rows (R204, R211, R221). -/
theorem setIdx_eq (s : State) (tid view i e : Nat) : ∃ g b, setIdx s tid view i e = modTbl s (fun t =>
    { idxPut { t with sig := g } tid ((idxMap t tid).set 0 (view * 2 ^ 20 + i) e) with bad := b }) := by
  have hput : ∀ u, SigOnly s u → ∃ g b, unBad (modTbl u (fun t => idxPut t tid ((idxMap s.tbl tid).set 0 (view * 2 ^ 20 + i) e)))
      (idxRow s tid (view * 2 ^ 20 + i)) (view * 2 ^ 20 + i) = modTbl s (fun t =>
        { idxPut { t with sig := g } tid ((idxMap t tid).set 0 (view * 2 ^ 20 + i) e) with bad := b }) := by
    rintro u ⟨g, rfl⟩
    obtain ⟨b, hb⟩ := unBad_eq (modTbl (modTbl s (fun t => { t with sig := g }))
      (fun t => idxPut t tid ((idxMap s.tbl tid).set 0 (view * 2 ^ 20 + i) e))) (idxRow s tid (view * 2 ^ 20 + i)) (view * 2 ^ 20 + i)
    exact ⟨g, b, hb⟩
  have hxor : ∀ (x : Nat) (u : State), SigOnly s u → SigOnly s (if x = 0 then u else sigXor u view tid (idxForm view tid i) (beBytes 8 x)) := by
    intro x u hu
    split
    · exact hu
    · exact hu.xor _ _ _ _
  exact hput _ (hxor e _ (hxor _ _ (.refl s)))

/-- A key that a map does not hold is not found. -/
theorem SMap.find_none_of_keys {α : Type} {m : SMap α} {k : Nat} (h : k ∉ m.keys) : m.find k = none := by
  obtain ⟨l⟩ := m
  show smLookup l k = none
  induction l with
  | nil => rfl
  | cons e r ih =>
    have hne : e.1 ≠ k := fun he => h (by simp [SMap.keys, he])
    rw [smLookup, if_neg hne]
    exact ih fun hr => h (by
      simp only [SMap.keys, List.map_cons, List.mem_cons] at hr ⊢
      exact Or.inr hr)

/-- No damaged row counts an element that a search of the damaged rows does not meet. -/
theorem elemBad_zero {s : State} {k : Nat} (h : s.tbl.bad.keys.find? (fun row => elemBad s row k) = none) : elemBad s 0 k = false := by
  by_cases hmem : 0 ∈ s.tbl.bad.keys
  · simpa using List.find?_eq_none.1 h 0 hmem
  · have hnone : s.tbl.bad.find 0 = none := SMap.find_none_of_keys hmem
    simp [elemBad, hnone]

end Sys2Proof.Machine
end

section
/-! The statement about the table command queue (R205 to R223). -/

namespace Sys2Proof.Machine

/-- An IPv4 route is inserted where it is absent and its units are to spare (R205, R207). -/
theorem routeCmd_insert {s : State} {d : List Word} (hop : dOp d = 1) (hres : (dw d 0 &&& 0x007F0000) = 0)
    (hw1 : (dw d 1 &&& 0xF000FE00) = 0) (hfam : fld (dw d 1) 8 8 = 0) (hlen : fld (dw d 1) 7 0 ≤ 32) (h3 : dw d 3 = 0) (h4 : dw d 4 = 0)
    (h5 : dw d 5 = 0) (h6 : dw d 6 = 0) (h7 : (dw d 7).toNat < 2 ^ 20) (hnone : s.tbl.routes.find (routeKey (dView d)
      (fld (dw d 1) 27 16) 0 (fld (dw d 1) 7 0) (maskAddr 0 (fld (dw d 1) 7 0) (dw d 2).toNat)) = none)
    (hunits : routeUnits s + 1 ≤ unitsBound s) :
    routeCmd s d = (routeMoved (setRoute s (routeKey (dView d) (fld (dw d 1) 27 16) 0 (fld (dw d 1) 7 0)
      (maskAddr 0 (fld (dw d 1) 7 0) (dw d 2).toNat)) (some (dw d 7).toNat)), 0) := by
  unfold routeCmd
  simp only [hop, hw1, hfam, h3, h4, h5, h6, (reserved_clear hres).2, famBits, hlen, if_true, hnone, h7, decide_true, Bool.and_self,
    Bool.or_true, true_or, Bool.not_false, Bool.not_true, Bool.false_eq_true, if_false, routeCost]
  exact if_neg (by omega)

/-- A stored IPv6 route takes another next hop (R206). -/
theorem routeCmd_upsert {s : State} {d : List Word} {old : Nat} (hop : dOp d = 2) (hres : (dw d 0 &&& 0x007F0000) = 0)
    (hw1 : (dw d 1 &&& 0xF000FE00) = 0) (hfam : fld (dw d 1) 8 8 = 1) (hlen : fld (dw d 1) 7 0 ≤ 128) (h6 : dw d 6 = 0)
    (h7 : (dw d 7).toNat < 2 ^ 20) (hold : s.tbl.routes.find (routeKey (dView d) (fld (dw d 1) 27 16) 1 (fld (dw d 1) 7 0)
      (maskAddr 1 (fld (dw d 1) 7 0) (dKey d))) = some old) :
    routeCmd s d = (setRoute s (routeKey (dView d) (fld (dw d 1) 27 16) 1 (fld (dw d 1) 7 0)
      (maskAddr 1 (fld (dw d 1) 7 0) (dKey d))) (some (dw d 7).toNat), 0) := by
  unfold routeCmd
  simpa [hop, hfam, h6, (reserved_clear hres).2, famBits, hlen, hold] using ⟨hw1, h7⟩

/-- A stored IPv6 route is removed (R205). -/
theorem routeCmd_delete {s : State} {d : List Word} {old : Nat} (hop : dOp d = 3) (hres : (dw d 0 &&& 0x007F0000) = 0)
    (hw1 : (dw d 1 &&& 0xF000FE00) = 0) (hfam : fld (dw d 1) 8 8 = 1) (hlen : fld (dw d 1) 7 0 ≤ 128) (h6 : dw d 6 = 0)
    (h7 : dw d 7 = 0) (hold : s.tbl.routes.find (routeKey (dView d) (fld (dw d 1) 27 16) 1 (fld (dw d 1) 7 0)
      (maskAddr 1 (fld (dw d 1) 7 0) (dKey d))) = some old) :
    routeCmd s d = (routeMoved (setRoute s (routeKey (dView d) (fld (dw d 1) 27 16) 1 (fld (dw d 1) 7 0)
      (maskAddr 1 (fld (dw d 1) 7 0) (dKey d))) none), 0) := by
  unfold routeCmd
  simpa [hop, hfam, h6, (reserved_clear hres).2, famBits, hlen, hold, h7] using hw1

/-- A stored IPv6 route outside the damaged rows answers with its next hop (R204, R219). -/
theorem routeCmd_read {s : State} {d : List Word} {nh : Nat} (hop : dOp d = 5) (hres : (dw d 0 &&& 0x007F0000) = 0)
    (hw1 : (dw d 1 &&& 0xF000FE00) = 0) (hfam : fld (dw d 1) 8 8 = 1) (hlen : fld (dw d 1) 7 0 ≤ 128) (h6 : dw d 6 = 0)
    (h7 : dw d 7 = 0) (hnh : s.tbl.routes.find (routeKey (dView d) (fld (dw d 1) 27 16) 1 (fld (dw d 1) 7 0)
      (maskAddr 1 (fld (dw d 1) 7 0) (dKey d))) = some nh)
    (hgood : s.tbl.bad.keys.find? (fun row => elemBad s row (routeKey (dView d) (fld (dw d 1) 27 16) 1 (fld (dw d 1) 7 0)
      (maskAddr 1 (fld (dw d 1) 7 0) (dKey d)))) = none) :
    routeCmd s d = (tblReadback s d true false nh, 0) := by
  unfold routeCmd
  simpa [hop, hfam, h6, (reserved_clear hres).2, famBits, hlen, hnh, h7, hgood, readBack, elemBad_zero hgood] using hw1

/-- An INSERT of a key that is there fails with EXISTS (R213). -/
theorem emCmd_exists {s : State} {d : List Word} {p : EmPlace} (hop : dOp d = 1) (hres : (dw d 0 &&& 0x007F0000) = 0) (hw1 : dw d 1 = 0)
    (hkey : dKey d < 2 ^ s.tbl.keyBits.get 0 (dTid d - 1))
    (hdata : dData d < 2 ^ ((if emWide s (dTid d - 1) then 128 else 64) - s.tbl.keyBits.get 0 (dTid d - 1)))
    (hp : emFind s (dTid d - 1) (dView d) (dKey d) = some p) : emCmd s d = (s, 1) := by
  unfold emCmd
  simp only [hop, hw1, hkey, hdata, hp, (reserved_clear hres).2, true_or, if_true, decide_true, Bool.not_false, Bool.or_true, Bool.and_self,
    Bool.not_true, Bool.false_eq_true, if_false]

/-- A well-formed entry is written at INDEX (R211). -/
theorem idxCmd_write {s : State} {d : List Word} (hop : dOp d = 4) (hres : (dw d 0 &&& 0x007F0000) = 0)
    (hi : (dw d 1).toNat < idxBound s (dTid d)) (h20 : (dw d 1).toNat < 2 ^ 20) (hkey : dKey d = 0)
    (hok : idxEntryOk s (dTid d) (dData d) = true) : idxCmd s d = (setIdx s (dTid d) (dView d) (dw d 1).toNat (dData d), 0) := by
  have hfld : fld (dw d 1) 19 0 = (dw d 1).toNat := by
    simp only [fld, bitsOf, Nat.shiftRight_zero]
    omega
  unfold idxCmd
  simpa [hop, hfld, hi, hkey, hok, (reserved_clear hres).2] using h20

/-- A running signature that differs fails with SIG_MISMATCH and event 0x1C03 (R222). -/
theorem sigCheck_differs {s : State} {d : List Word} (hres : (dw d 0 &&& 0x007F0000) = 0) (hw1 : (dw d 1 &&& 0xFFFFFF00) = 0) (hkey : dKey d = 0)
    (h6 : dw d 6 = 0) (hne : sigOf s (dView d) (dTid d) (fld (dw d 1) 7 0) ≠ (dw d 7).toNat) :
    sigCheck s d = (event (count s 7 0x30) 0x1C03 (dTid d) (dView d * 256 + fld (dw d 1) 7 0), 6) := by
  have hsub : (dw d 1 &&& 0xFFFFFE00) = 0 := by
    have h : dw d 1 &&& 0xFFFFFE00 = (dw d 1 &&& 0xFFFFFF00) &&& 0xFFFFFE00 := by
      rw [BitVec.and_assoc]
      rfl
    rw [h, hw1]
    rfl
  have hbit : tbit (dw d 1) 8 = false := by
    have h := tbit_and (dw d 1) 0xFFFFFF00 8
    rw [hw1] at h
    simpa [tbit, Nat.testBit] using h.symm
  unfold sigCheck
  simpa [hkey, h6, (reserved_clear hres).2, hbit, hne] using hsub

/-- A command of the queue's head on a bound table: what its table's handling leaves, counted or recorded (R218, R219). -/
theorem tblHead_bound {s : State} {p : Nat → Bool} {d : List Word} {rest : List (List Word)} (hq : s.tbl.queue = d :: rest)
    (hon : blkOn s 7 = true) (hp : p (dOp d) = true) (h1 : 1 ≤ dOp d) (h6 : dOp d ≤ 6) (ht : dTid d < 8)
    (hres : (dw d 0 &&& 0x007F0000) = 0) (hb : tblBound s (dTid d) (dView d) = true) {r : State × Nat}
    (hr : (if dOp d = 6 then sigCheck (modTbl s (fun t => { t with queue := rest })) d
      else if dTid d = 0 then routeCmd (modTbl s (fun t => { t with queue := rest })) d
      else if dTid d ≤ 4 then emCmd (modTbl s (fun t => { t with queue := rest })) d
      else idxCmd (modTbl s (fun t => { t with queue := rest })) d) = r) : tblHead p s = tblDone r.1 d r.2 := by
  rw [tblHead_run hq hon hp, tblExec_bound (s := modTbl s (fun t => { t with queue := rest })) h1 h6 ht hres hb, hr]

theorem idxMap_with_bad (t : TblSt) (b : SMap (List Nat)) (tid : Nat) : idxMap { t with bad := b } tid = idxMap t tid := rfl

/-- An indexed entry written: the entry is the new one, and the queue and the routes stay (R211). -/
theorem setIdx_state (s : State) (tid view i e : Nat) : ∃ x : TblSt, setIdx s tid view i e = modTbl s (fun _ => x) ∧
    x.queue = s.tbl.queue ∧ x.routes = s.tbl.routes ∧ (idxMap x tid).get 0 (view * 2 ^ 20 + i) = e := by
  obtain ⟨g, b, h⟩ := setIdx_eq s tid view i e
  obtain ⟨hqueue, hroutes⟩ := idxPut_keeps { s.tbl with sig := g } tid ((idxMap s.tbl tid).set 0 (view * 2 ^ 20 + i) e)
  refine ⟨_, h, hqueue, hroutes, ?_⟩
  rw [idxMap_with_bad, idxMap_idxPut, SMap.get_set_same]

/-- A command that succeeds changes the tables and counts. -/
theorem tblDone_ok_agree {s u : State} (h : ∃ x, u = modTbl s (fun _ => x)) (d : List Word) : AgreeBut [.ctr, .tbl] s (tblDone u d 0) := by
  obtain ⟨x, rfl⟩ := h
  intro p hp
  rw [tblDone, if_pos rfl, count_part p (by simp at hp; simp [hp])]
  exact modTbl_part p (by simp at hp; simp [hp]) s _

/-- Settles O31: each clause is the handling of its descriptor on the queue's rest. -/
theorem tableCommands : Obligations.TableCommands := by
  unfold Obligations.TableCommands
  refine ⟨fun slot words s hmay hlen hwin hroom => ?window, fun slot words s hmay h1 h8 hwin => ?left, fun d rest s hq hon hop hres hz => ?nop,
    fun d rest s hq hon hop ht hres hb hw1 hfam hlen h3 h4 h5 h6 h7 hnone hunits => ?insert,
    fun d rest p s hq hon hop ht1 ht4 hres hb hw1 hkey hdata hp hfails => ?present,
    fun d rest old s hq hon hop ht hres hb hw1 hfam hlen h6 h7 hold => ?upsert,
    fun d rest old s hq hon hop ht hres hb hw1 hfam hlen h6 h7 hold => ?delete,
    fun d rest s hq hon hop ht5 ht7 hres hb hi h20 hkey hok => ?write,
    fun d rest nh s hq hon hop ht hres hb hw1 hfam hlen h6 h7 hnh hgood => ?read,
    fun d rest s hq hon hop ht hres hb hw1 hkey h6 hne hfails => ?sig, fun slot w rest s hserved hown hdata hav hf => ?fifo,
    fun k rest s hrow hk => ?free, fun tid view seg s hon hb hne => ?sweep⟩
  case window =>
    obtain ⟨m, w, rfl⟩ : ∃ m w, words = m ++ [w] := ⟨words.dropLast, words.getLast (by rintro rfl; cases hlen),
      (List.dropLast_append_getLast _).symm⟩
    have hm : m.length = 7 := by simpa using hlen
    have hfold := tblWith_gathers hmay m (by omega)
    rw [tblWith_self hwin] at hfold
    have hlast : tblWinWord (tblWith s m) w = modTbl s (fun t => { t with win := [], queue := t.queue ++ [m ++ [w]] }) := by
      have hfull : ¬(tblWith s m).tbl.win.length < 7 := by
        show ¬m.length < 7
        omega
      rw [tblWinWord, if_neg hfull]
      exact if_pos hroom
    have hend : sessWrites s slot.val (Reg.addr .tblCmdWin []) (m ++ [w]) =
        { modTbl s (fun t => { t with win := [], queue := t.queue ++ [m ++ [w]] }) with acc := (stOk, 0) } := by
      rw [sessWrites, withSession_served (served_of_ownerMay hmay)]
      dsimp only
      rw [List.foldl_append, hfold, List.foldl_cons, List.foldl_nil]
      dsimp only
      rw [tblWith_step hmay, hlast, writeEndAt, if_pos rfl]
      rfl
    exact ⟨_, congrArg Host.Outcome.next hend, rfl, rfl, rfl,
      AgreeBut.acc (by simp) _ fun p hp => modTbl_part p (by simp at hp; simp [hp]) s _⟩
  case left =>
    have hfold := tblWith_gathers hmay words (by omega)
    rw [tblWith_self hwin] at hfold
    have hne : (tblWith s words).tbl.win.isEmpty = false := by
      cases words with
      | nil => exact absurd h1 (by decide)
      | cons w l => rfl
    have hend : sessWrites s slot.val (Reg.addr .tblCmdWin []) words = { count s 7 0x10 with acc := (stOk, 0) } := by
      rw [sessWrites, withSession_served (served_of_ownerMay hmay)]
      dsimp only
      rw [hfold, writeEndAt, if_pos rfl, tblWinEnd, hne, if_neg (by decide),
        show modTbl (tblWith s words) (fun t => { t with win := [] }) = tblWith s [] from rfl, tblWith_self hwin]
    exact ⟨_, congrArg Host.Outcome.next hend, rfl, rfl, rfl, AgreeBut.acc (by simp) _ fun p hp => count_part p (by simp at hp; simp [hp]) s _ _⟩
  case nop =>
    have hexec : ∀ u : State, tblExec u d = (u, 0) := fun u => by
      unfold tblExec
      rw [if_pos hop, if_pos ⟨hres, hz⟩]
    have hend := tblHead_run (p := fun o => o == 0 || decide (7 ≤ o)) hq hon (by rw [hop]; rfl)
    rw [hexec] at hend
    exact congrArg Host.Outcome.next hend
  case insert =>
    have hend := tblHead_bound (p := (· == 1)) hq hon (by rw [hop]; rfl) (by omega) (by omega) (by omega) hres (by rw [ht]; exact hb)
      ((if_neg (by omega)).trans ((if_pos ht).trans (routeCmd_insert (s := modTbl s (fun t => { t with queue := rest })) hop hres hw1 hfam hlen
        h3 h4 h5 h6 h7 hnone hunits)))
    obtain ⟨g, b, hset⟩ := setRoute_eq (modTbl s (fun t => { t with queue := rest })) (routeKey (dView d) (fld (dw d 1) 27 16) 0
      (fld (dw d 1) 7 0) (maskAddr 0 (fld (dw d 1) 7 0) (dw d 2).toNat)) (some (dw d 7).toNat)
    rw [hset] at hend
    exact ⟨_, congrArg Host.Outcome.next hend, rfl, SMap.find_put_same _ _ _, rfl, tblDone_ok_agree ⟨_, rfl⟩ d⟩
  case present =>
    have hend := tblHead_bound (p := (· == 1)) hq hon (by rw [hop]; rfl) (by omega) (by omega) (by omega) hres hb
      ((if_neg (by omega)).trans ((if_neg (by omega)).trans ((if_pos ht4).trans
        (emCmd_exists (s := modTbl s (fun t => { t with queue := rest })) hop hres hw1 hkey hdata hp))))
    have hdone := tblDone_record (s := modTbl s (fun t => { t with queue := rest })) (d := d) (st := 1) (by decide) hfails
    rw [hop] at hdone
    exact ⟨_, congrArg Host.Outcome.next (hend.trans hdone), rfl, rfl, rfl, rfl, fun p hp => by
      rw [modTbl_part p (by simp at hp; simp [hp]), count_part p (by simp at hp; simp [hp])]
      exact modTbl_part p (by simp at hp; simp [hp]) s _⟩
  case upsert =>
    have hend := tblHead_bound (p := (· == 2)) hq hon (by rw [hop]; rfl) (by omega) (by omega) (by omega) hres (by rw [ht]; exact hb)
      ((if_neg (by omega)).trans ((if_pos ht).trans (routeCmd_upsert (s := modTbl s (fun t => { t with queue := rest })) hop hres hw1 hfam hlen
        h6 h7 hold)))
    obtain ⟨g, b, hset⟩ := setRoute_eq (modTbl s (fun t => { t with queue := rest })) (routeKey (dView d) (fld (dw d 1) 27 16) 1
      (fld (dw d 1) 7 0) (maskAddr 1 (fld (dw d 1) 7 0) (dKey d))) (some (dw d 7).toNat)
    rw [hset] at hend
    exact ⟨_, congrArg Host.Outcome.next hend, rfl, SMap.find_put_same _ _ _, tblDone_ok_agree ⟨_, rfl⟩ d⟩
  case delete =>
    have hend := tblHead_bound (p := (· == 3)) hq hon (by rw [hop]; rfl) (by omega) (by omega) (by omega) hres (by rw [ht]; exact hb)
      ((if_neg (by omega)).trans ((if_pos ht).trans (routeCmd_delete (s := modTbl s (fun t => { t with queue := rest })) hop hres hw1 hfam hlen
        h6 h7 hold)))
    obtain ⟨g, b, hset⟩ := setRoute_eq (modTbl s (fun t => { t with queue := rest })) (routeKey (dView d) (fld (dw d 1) 27 16) 1
      (fld (dw d 1) 7 0) (maskAddr 1 (fld (dw d 1) 7 0) (dKey d))) none
    rw [hset] at hend
    exact ⟨_, congrArg Host.Outcome.next hend, rfl, SMap.find_put_same _ _ _, tblDone_ok_agree ⟨_, rfl⟩ d⟩
  case write =>
    have hend := tblHead_bound (p := (· == 4)) hq hon (by rw [hop]; rfl) (by omega) (by omega) (by omega) hres hb
      ((if_neg (by omega)).trans ((if_neg (by omega)).trans ((if_neg (by omega)).trans
        (idxCmd_write (s := modTbl s (fun t => { t with queue := rest })) hop hres hi h20 hkey hok))))
    obtain ⟨x, hset, hqueue, hroutes, hget⟩ := setIdx_state (modTbl s (fun t => { t with queue := rest })) (dTid d) (dView d) (dw d 1).toNat
      (dData d)
    rw [hset] at hend
    exact ⟨_, congrArg Host.Outcome.next hend, hqueue, hget, hroutes, tblDone_ok_agree ⟨_, rfl⟩ d⟩
  case read =>
    have hend := tblHead_bound (p := (· == 5)) hq hon (by rw [hop]; rfl) (by omega) (by omega) (by omega) hres (by rw [ht]; exact hb)
      ((if_neg (by omega)).trans ((if_pos ht).trans (routeCmd_read (s := modTbl s (fun t => { t with queue := rest })) hop hres hw1 hfam hlen
        h6 h7 hnh hgood)))
    exact ⟨_, congrArg Host.Outcome.next hend, rfl, rfl, rfl, tblDone_ok_agree ⟨_, rfl⟩ d⟩
  case sig =>
    have hend := tblHead_bound (p := (· == 6)) hq hon (by rw [hop]; rfl) (by omega) (by omega) ht hres hb
      ((if_pos hop).trans (sigCheck_differs (s := modTbl s (fun t => { t with queue := rest })) hres hw1 hkey h6 hne))
    obtain ⟨u, hu⟩ : ∃ u, event (count (modTbl s (fun t => { t with queue := rest })) 7 0x30) 0x1C03 (dTid d)
      (dView d * 256 + fld (dw d 1) 7 0) = u := ⟨_, rfl⟩
    have htbl : u.tbl = { s.tbl with queue := rest } := by
      rw [← hu, event_tbl]
      rfl
    have hframe : AgreeBut [.ctr, .rcd, .tbl] s u := fun p hp => by
      rw [← hu, event_part p (by simp at hp; simp [hp]), count_part p (by simp at hp; simp [hp])]
      exact modTbl_part p (by simp at hp; simp [hp]) s _
    have hdone := tblDone_record (s := u) (d := d) (st := 6) (by decide) (by rw [htbl]; exact hfails)
    rw [hop] at hdone
    rw [hu] at hend
    refine ⟨_, congrArg Host.Outcome.next (hend.trans hdone), (congrArg TblSt.queue htbl).trans rfl,
      (congrArg (fun x : TblSt => x.fails ++ [mkF 31 28 6 ||| mkF 27 24 (dTid d) ||| mkF 23 16 6 ||| mkF 15 0 (fld (dw d 0) 15 0)]) htbl).trans
        rfl, (congrArg TblSt.sig htbl).trans rfl, fun p hp => ?_⟩
    · rw [modTbl_part p (by simp at hp; simp [hp]), count_part p (by simp at hp; simp [hp])]
      exact hframe p hp
  case fifo =>
    have hread : readReg s slot.val .tblFailFifo [] = (modTbl s (fun t => { t with fails := rest }), w) := by
      have h : readReg s slot.val .tblFailFifo [] = if isOwner s slot.val then tblFailPop s else (s, 0) := rfl
      rw [h, hown, if_pos rfl, tblFailPop, hf]
    have hend := sessRead_register slot.val (r := .tblFailFifo) (idx := []) hserved (regAt_addr rfl).2.1 (regAt_addr rfl).1 hav
    rw [hread] at hend
    exact ⟨_, congrArg Host.Outcome.next hend, rfl, rfl, AgreeBut.acc (by simp) _ fun p hp => modTbl_part p (by simp at hp; simp [hp]) s _⟩
  case free =>
    have hend : (match s.tbl.rowFree with
        | t :: rest => if t ≤ s.now then modTbl s (fun x => { x with rowFree := rest }) else s
        | [] => s) = modTbl s (fun x => { x with rowFree := rest }) := by
      rw [hrow]
      exact if_pos hk
    exact congrArg Host.Outcome.next hend
  case sweep => exact congrArg Host.Outcome.next (if_pos (by simp [hon, hb, hne]))

end Sys2Proof.Machine
end

section
/-! The statement about the rehash of an exact-match table (R215 to R217). -/

namespace Sys2Proof.Machine

@[simp] theorem rehashOf_setRehash_same (s : State) (t : Nat) (r : Rehash) : rehashOf (setRehash s t r) t = r :=
  SMap.get_set_same _ _ _ _

/-- A bucket with nothing left under the old seed moves nothing (R215). -/
theorem moveViews_empty {s : State} {t w : Nat} {slots : Nat → State → List Nat} (h : ∀ v, v < 2 → slots v s = []) :
    moveViews s t w slots = (s, true) := by
  unfold moveViews
  simp [h 0 (by decide), h 1 (by decide), moveAll]

/-- The slots under the old seed are read off the entries alone. -/
theorem oldSlots_setRehash (s : State) (t : Nat) (r : Rehash) (u v w b : Nat) :
    oldSlots (setRehash s t r) u v w b = oldSlots s u v w b := rfl

/-- A forward step over a bucket with nothing left under the old seed. -/
theorem rehashForward_empty {s : State} {t : Nat} {r : Rehash} (h0 : oldSlots s t 0 r.way r.cursor = [])
    (h1 : oldSlots s t 1 r.way r.cursor = []) :
    moveViews (setRehash s t { r with cursor := r.cursor + 1, nextAt := s.now + 50 }) t r.way (fun v x => oldSlots x t v r.way r.cursor) =
      (setRehash s t { r with cursor := r.cursor + 1, nextAt := s.now + 50 }, true) := by
  refine moveViews_empty fun v hv => ?_
  rw [oldSlots_setRehash]
  obtain rfl | rfl : v = 0 ∨ v = 1 := by omega
  · exact h0
  · exact h1

/-- The cursor moves on while buckets are left (R215). -/
theorem rehashForward_on {s : State} {t : Nat} {r : Rehash} (h0 : oldSlots s t 0 r.way r.cursor = []) (h1 : oldSlots s t 1 r.way r.cursor = [])
    (hn : r.cursor + 1 < emBuckets s t) :
    rehashForward s t r = setRehash s t { r with cursor := r.cursor + 1, nextAt := s.now + 50 } := by
  simp only [rehashForward, rehashForward_empty h0 h1, Bool.not_true, Bool.false_eq_true, if_false, if_pos hn]

/-- The new seed comes into use in both ways (R215). -/
def rehashed (s : State) (t : Nat) (r : Rehash) : State :=
  clearFlags (setRehash (modTbl (setRehash s t { r with cursor := r.cursor + 1, nextAt := s.now + 50 }) (fun x => { x with
    seeds := (x.seeds.set 0xFFFFFFFF (t * 2) r.newSeed).set 0 (t * 2 + 1) r.newSeed })) t {}) t

/-- The step over the last bucket of way 1 ends the rehash (R215). -/
theorem rehashForward_end {s : State} {t : Nat} {r : Rehash} (hw : r.way = 1) (h0 : oldSlots s t 0 r.way r.cursor = [])
    (h1 : oldSlots s t 1 r.way r.cursor = []) (hn : emBuckets s t ≤ r.cursor + 1) :
    rehashForward s t r = event (rehashed s t r) 0x1C04 (t + 1) 0 := by
  have hway : ¬r.way = 0 := by omega
  simp only [rehashForward, rehashForward_empty h0 h1, Bool.not_true, Bool.false_eq_true, if_false, if_neg (Nat.not_lt.2 hn), if_neg hway,
    rehashed]

/-- A step of a rehash that runs forward, once its time has come (R217). -/
theorem rehashStep_forward {s : State} {t : Nat} (hnext : (rehashOf s t).nextAt ≤ s.now)
    (hst : (rehashOf s t).st = .way0 ∨ (rehashOf s t).st = .way1) : rehashStep s t = rehashForward s t (rehashOf s t) := by
  unfold rehashStep
  rcases hst with h | h
  · simp [hnext, h]
  · simp [hnext, h]

theorem rehashed_state (s : State) (t : Nat) (r : Rehash) : rehashOf (rehashed s t r) t = {} ∧ seedOf (rehashed s t r) t 0 = r.newSeed ∧
    seedOf (rehashed s t r) t 1 = r.newSeed ∧ (rehashed s t r).tbl.ovf = s.tbl.ovf ∧ AgreeBut [.tbl] s (rehashed s t r) := by
  refine ⟨SMap.get_set_same _ _ _ _, ?_, SMap.get_set_same _ _ _ _, rfl, fun p hp => ?_⟩
  · refine (SMap.get_set_other _ _ _ _ _ _ (by omega)).trans (SMap.get_set_same _ _ _ _)
  · have hp' : p ≠ .tbl := by simpa using hp
    rw [rehashed, clearFlags_part p hp', setRehash_part p hp', modTbl_part p hp', setRehash_part p hp']

/-- Settles O32: a GO and an ABORT set the rehash, a step moves its cursor or ends it. -/
theorem tableRehash : Obligations.TableRehash := by
  unfold Obligations.TableRehash
  refine ⟨fun slot n s hmay hbusy hidle hbk => ?go, fun slot n s hmay hbusy => ?busy, fun slot n s hmay hst => ?abort,
    fun n s hon hst hnext hn h0 h1 => ?step, fun n s hon hst hw hnext hn h0 h1 => ?last⟩
  case go =>
    have hfit : idxFit (Reg.info .tblEmRehash).dims [n.val] = true := by simp [Reg.info, idxFit]
    have hgo : rehashGo s n.val = some (setRehash s n.val { st := .way0, way := 0, cursor := 0, newSeed := rf s .tblEmSeed [n.val] 31 0, nextAt := s.now + 50 }) := by
      unfold rehashGo
      simp [hbusy, hidle, hbk]
    have hw : writeReg s .tblEmRehash [n.val] (mkB 31 true) = (match rehashGo s n.val with | some t => (t, false) | none => (s, true)) := rfl
    rw [hgo] at hw
    have hend := ownWrite_of_writeReg hmay hw hfit rfl (by decide) (by decide)
    exact ⟨_, congrArg Host.Outcome.next hend, rfl, SMap.get_set_same _ _ _ _,
      AgreeBut.acc (by simp) _ fun p hp => setRehash_part p (by simp at hp; simp [hp]) s _ _⟩
  case busy =>
    have hfit : idxFit (Reg.info .tblEmRehash).dims [n.val] = true := by simp [Reg.info, idxFit]
    have hgo : rehashGo s n.val = none := by
      unfold rehashGo
      simp [hbusy]
    have hw : writeReg s .tblEmRehash [n.val] (mkB 31 true) = (match rehashGo s n.val with | some t => (t, false) | none => (s, true)) := rfl
    rw [hgo] at hw
    have hend := ownWrite_of_writeReg hmay hw hfit rfl (by decide) (by decide)
    exact ⟨_, congrArg Host.Outcome.next hend, rfl, AgreeBut.acc (by simp) _ (AgreeBut.refl _ s)⟩
  case abort =>
    have hfit : idxFit (Reg.info .tblEmRehash).dims [n.val] = true := by simp [Reg.info, idxFit]
    have hw : writeReg s .tblEmRehash [n.val] (mkB 30 true) = (rehashAbort s n.val, false) := rfl
    have hend := ownWrite_of_writeReg hmay hw hfit rfl (by decide) (by decide)
    have hab : (rehashOf (rehashAbort s n.val) n.val).st = .aborting ∧
        (rehashOf (rehashAbort s n.val) n.val).cursor = (rehashOf s n.val).cursor := by
      unfold rehashAbort
      dsimp only
      split
      · next h => exact absurd h hst
      · next h => exact ⟨h, rfl⟩
      · rw [rehashOf_setRehash_same]
        exact ⟨rfl, rfl⟩
    exact ⟨_, congrArg Host.Outcome.next hend, rfl, hab.1, hab.2,
      AgreeBut.acc (by simp) _ fun p hp => rehashAbort_part p (by simp at hp; simp [hp]) s _⟩
  case step =>
    have hend : (if blkOn s 7 then rehashStep s n.val else s) = setRehash s n.val { rehashOf s n.val with
        cursor := (rehashOf s n.val).cursor + 1, nextAt := s.now + 50 } := by
      rw [if_pos hon, rehashStep_forward hnext (.inl hst)]
      exact rehashForward_on h0 h1 hn
    refine ⟨_, congrArg Host.Outcome.next hend, ?_, ?_, rfl, rfl, fun p hp => setRehash_part p (by simp at hp; simp [hp]) s _ _⟩
    · rw [rehashOf_setRehash_same]
      exact hst
    · rw [rehashOf_setRehash_same]
  case last =>
    have hend : (if blkOn s 7 then rehashStep s n.val else s) = event (rehashed s n.val (rehashOf s n.val)) 0x1C04 (n.val + 1) 0 := by
      rw [if_pos hon, rehashStep_forward hnext (.inr hst)]
      exact rehashForward_end hw (by rw [hw]; exact h0) (by rw [hw]; exact h1) hn
    obtain ⟨hre, hs0, hs1, hovf, hframe⟩ := rehashed_state s n.val (rehashOf s n.val)
    obtain ⟨u, hu⟩ : ∃ u, rehashed s n.val (rehashOf s n.val) = u := ⟨_, rfl⟩
    rw [hu] at hend hre hs0 hs1 hovf hframe
    have htbl : (event u 0x1C04 (n.val + 1) 0).tbl = u.tbl := event_tbl _ _ _ _
    refine ⟨_, congrArg Host.Outcome.next hend, ?_, ?_, ?_, ?_, fun p hp => ?_⟩
    · rw [show rehashOf (event u 0x1C04 (n.val + 1) 0) n.val = rehashOf u n.val from congrArg (fun x : TblSt => x.rehash.get {} n.val) htbl, hre]
    · exact (congrArg (fun x : TblSt => x.seeds.get 0xFFFFFFFF (n.val * 2 + 0)) htbl).trans hs0
    · exact (congrArg (fun x : TblSt => x.seeds.get 0 (n.val * 2 + 1)) htbl).trans hs1
    · rw [htbl, hovf]
    · rw [event_part p (by simp at hp; simp [hp])]
      exact hframe p (by simp at hp; simp [hp])

end Sys2Proof.Machine
end

section
/-! SUPPORT. The learning tables: what a request, a host command and the shadowing of a copy leave of a table (R224 to R235). -/

namespace Sys2Proof.Machine

@[simp] theorem lrnOf_modLrn_same (s : State) (sl : Nat) (f : LrnSt → LrnSt) : lrnOf (modLrn s sl f) sl = f (lrnOf s sl) :=
  SMap.get_upd_same _ _ _ _

theorem lrnOf_modLrn_other (s : State) {sl j : Nat} (f : LrnSt → LrnSt) (h : j ≠ sl) : lrnOf (modLrn s sl f) j = lrnOf s j :=
  SMap.get_upd_other _ _ _ _ _ _ h

theorem lrnOf_of_lrn {s t : State} (h : t.lrn = s.lrn) (sl : Nat) : lrnOf t sl = lrnOf s sl := by
  unfold lrnOf
  rw [h]

/-! ## Changes of the learn queues alone -/

/-- The learning table with another learn queue. -/
def LrnSt.withQueue (l : LrnSt) (q : List LrnItem) : LrnSt := { l with queue := q }

/-- The learning tables are as they were, but for what waits in the learn queues. -/
def LrnQueues (s u : State) : Prop := AgreeBut [.lrn] s u ∧ ∀ j, ∃ q, lrnOf u j = (lrnOf s j).withQueue q

theorem LrnQueues.refl (s : State) : LrnQueues s s := ⟨AgreeBut.refl _ s, fun j => ⟨(lrnOf s j).queue, rfl⟩⟩

theorem LrnQueues.trans {s t u : State} (h : LrnQueues s t) (k : LrnQueues t u) : LrnQueues s u := by
  refine ⟨h.1.trans k.1, fun j => ?_⟩
  obtain ⟨q, hq⟩ := h.2 j
  obtain ⟨r, hr⟩ := k.2 j
  exact ⟨r, by rw [hr, hq]; rfl⟩

/-- A change of one queue. -/
theorem LrnQueues.of_modLrn (s : State) (sl : Nat) (q : LrnSt → List LrnItem) :
    LrnQueues s (modLrn s sl (fun l => { l with queue := q l })) := by
  refine ⟨fun p hp => modLrn_part p (by simpa using hp) s sl _, fun j => ?_⟩
  by_cases hj : j = sl
  · subst hj
    exact ⟨_, lrnOf_modLrn_same _ _ _⟩
  · exact ⟨(lrnOf s j).queue, lrnOf_modLrn_other s _ hj⟩

/-- A change of the list of shadowed changes. -/
theorem LrnQueues.of_shadow (s : State) (l : List (Nat × Option LrnEntry)) : LrnQueues s { s with lrn := { s.lrn with shadow := l } } := by
  refine ⟨fun p hp => ?_, fun j => ⟨(lrnOf s j).queue, rfl⟩⟩
  exact part_lrn p (by simpa using hp) s _

/-- Shadowed changes enter the destination's learn queue (R235). -/
theorem shadowFeed_queues (s : State) : LrnQueues s (shadowFeed s) := by
  unfold shadowFeed
  split
  · exact (LrnQueues.of_modLrn s s.lrn.dst _).trans (.of_shadow _ _)
  · exact .refl s

theorem lrnShadowAll_queues (s : State) (sl : Nat) (l : List (Nat × Option LrnEntry)) : LrnQueues s (lrnShadowAll s sl l) := by
  unfold lrnShadowAll
  split
  · exact (LrnQueues.of_shadow s _).trans (shadowFeed_queues _)
  · exact .refl s

theorem lrnPop_queues (s : State) (sl : Nat) : LrnQueues s (lrnPop s sl) :=
  (LrnQueues.of_modLrn s sl _).trans (shadowFeed_queues _)

/-! ## What a queue does not touch -/

theorem lrnFind_withQueue (l : LrnSt) (q : List LrnItem) (key : Nat) : lrnFind (l.withQueue q) key = lrnFind l key := rfl

theorem lrnPlace_withQueue (l : LrnSt) (q : List LrnItem) (key : Nat) : lrnPlace (l.withQueue q) key = lrnPlace l key := rfl

theorem lrnRefill_withQueue (l : LrnSt) (q : List LrnItem) (i : Nat) : lrnRefill (l.withQueue q) i = (lrnRefill l i).withQueue q := by
  have hbucket : ∀ w k, lrnBucket (l.withQueue q) w k = lrnBucket l w k := fun _ _ => rfl
  have hents : (l.withQueue q).ents = l.ents := rfl
  unfold lrnRefill
  rw [hents]
  simp only [hbucket]
  split
  · rfl
  · split <;> rfl

theorem lrnRefill_fold_withQueue (is : List Nat) (l : LrnSt) (q : List LrnItem) :
    is.foldl lrnRefill (l.withQueue q) = (is.foldl lrnRefill l).withQueue q := by
  induction is generalizing l with
  | nil => rfl
  | cons i is ih => rw [List.foldl_cons, List.foldl_cons, lrnRefill_withQueue, ih]

/-! ## Changes of an entry -/

/-- A change of an entry, with its shadow (R235): the table takes it, and only queues change besides. -/
theorem lrnChange_state (s : State) (sl i key : Nat) (e : Option LrnEntry) :
    AgreeBut [.lrn] s (lrnChange s sl i key e) ∧ ∃ q, lrnOf (lrnChange s sl i key e) sl = (lrnPut (lrnOf s sl) i e).withQueue q := by
  obtain ⟨hframe, hq⟩ := lrnShadowAll_queues (modLrn s sl (fun l => lrnPut l i e)) sl [(key, e)]
  obtain ⟨q, hq⟩ := hq sl
  refine ⟨AgreeBut.trans (fun p hp => modLrn_part p (by simpa using hp) s sl _) hframe, q, hq.trans ?_⟩
  rw [lrnOf_modLrn_same]

/-- An entry written stands at its slot. -/
theorem lrnPut_some_find (l : LrnSt) (i : Nat) (e : LrnEntry) : (lrnPut l i (some e)).ents.find i = some e :=
  SMap.find_put_same _ _ _

/-- An entry removed from the overflow store leaves its place empty (R213). -/
theorem lrnPut_none_overflow {l : LrnSt} {i : Nat} (h : lrnOvfBase ≤ i) : (lrnPut l i none).ents.find i = none := by
  have hput : lrnPut l i none = lrnRefill { l with ents := l.ents.put i none } i := rfl
  rw [hput, lrnRefill, if_pos h]
  exact SMap.find_put_same _ _ _

/-- A notification leaves a table's entries and queue (R231). -/
theorem lrnNotify_keeps (s : State) (sl ty new old key ns frac : Nat) :
    (lrnOf (lrnNotify s sl ty new old key ns frac) sl).ents = (lrnOf s sl).ents ∧
    (lrnOf (lrnNotify s sl ty new old key ns frac) sl).queue = (lrnOf s sl).queue := by
  unfold lrnNotify
  dsimp only
  split
  · rw [lrnOf_modLrn_same]
    exact ⟨rfl, rfl⟩
  · rw [lrnOf_of_lrn (event_lrn _ _ _ _)]
    exact ⟨rfl, rfl⟩

theorem lrnNotifyIf_keeps (s : State) (sl bit ty new old key ns frac : Nat) :
    (lrnOf (lrnNotifyIf s sl bit ty new old key ns frac) sl).ents = (lrnOf s sl).ents ∧
    (lrnOf (lrnNotifyIf s sl bit ty new old key ns frac) sl).queue = (lrnOf s sl).queue := by
  unfold lrnNotifyIf
  split
  · exact lrnNotify_keeps s sl ty new old key ns frac
  · exact ⟨rfl, rfl⟩

/-- A count and an event leave the learning tables. -/
theorem lrnOf_event_countLrn (s : State) (sl off code inst d j : Nat) : lrnOf (event (countLrn s sl off) code inst d) j = lrnOf s j := by
  rw [lrnOf_of_lrn (event_lrn _ _ _ _)]
  rfl

end Sys2Proof.Machine
end

section
/-! The statement about the learning engine (R227 to R235). -/

namespace Sys2Proof.Machine

/-! ## Requests -/

/-- An absent key with a slot free enters with HIT (R227). -/
theorem lrnApply_new {s : State} {sl key i : Nat} (loc ns frac : Nat) (nohold : Bool) (hf : lrnFind (lrnOf s sl) key = none)
    (hp : lrnPlace (lrnOf s sl) key = some i) :
    (lrnOf (lrnApply s sl key loc ns frac nohold).1 sl).ents.find i = some { key := key, loc := loc, hit := true, gen := (lrnOf s sl).gen } ∧
    (lrnApply s sl key loc ns frac nohold).2 = 0 := by
  have hend : lrnApply s sl key loc ns frac nohold = (lrnNotifyIf (countLrn (lrnChange s sl i key
      (some { key := key, loc := loc, hit := true, gen := (lrnOf s sl).gen })) sl 0x00) sl 31 1 loc 0 key ns frac, 0) := by
    unfold lrnApply
    dsimp only
    rw [hf, hp]
  obtain ⟨-, q, hq⟩ := lrnChange_state s sl i key (some { key := key, loc := loc, hit := true, gen := (lrnOf s sl).gen })
  rw [hend]
  refine ⟨?_, rfl⟩
  rw [(lrnNotifyIf_keeps _ _ _ _ _ _ _ _ _).1, lrnOf_of_lrn (t := countLrn _ _ _) (s := lrnChange _ _ _ _ _) rfl, hq]
  exact lrnPut_some_find _ _ _

/-- A dynamic entry that is not held moves, and its hold-down starts (R227, R228). -/
theorem lrnApply_move {s : State} {sl key loc ns frac i : Nat} {e : LrnEntry} (hf : lrnFind (lrnOf s sl) key = some i)
    (he : (lrnOf s sl).ents.find i = some e) (hloc : e.loc ≠ loc) (hst : e.stat = false) (hh : held s sl e ns = false) :
    (lrnOf (lrnApply s sl key loc ns frac false).1 sl).ents.find i =
      some { e with loc := loc, moved := true, moveT := tsSteps ns, hit := true, age := 0 } := by
  have hend : lrnApply s sl key loc ns frac false = (lrnNotifyIf (countLrn (lrnChange s sl i key
      (some { e with loc := loc, moved := true, moveT := tsSteps ns, hit := true, age := 0 })) sl 0x08) sl 29 2 loc e.loc key ns frac, 0) := by
    unfold lrnApply
    dsimp only
    rw [hf]
    dsimp only
    rw [he, Option.getD_some, if_neg hloc, hst, if_neg (by decide), hh]
    rfl
  obtain ⟨-, q, hq⟩ := lrnChange_state s sl i key (some { e with loc := loc, moved := true, moveT := tsSteps ns, hit := true, age := 0 })
  rw [hend]
  dsimp only
  rw [(lrnNotifyIf_keeps _ _ _ _ _ _ _ _ _).1, lrnOf_of_lrn (t := countLrn _ _ _) (s := lrnChange _ _ _ _ _) rfl, hq]
  exact lrnPut_some_find _ _ _

/-- A held entry stays, a static one too: the request is told of (R227, R228). -/
theorem lrnApply_held {s : State} {sl key loc ns frac i : Nat} {e : LrnEntry} (hf : lrnFind (lrnOf s sl) key = some i)
    (he : (lrnOf s sl).ents.find i = some e) (hloc : e.loc ≠ loc) (hh : held s sl e ns = true) :
    (lrnOf (lrnApply s sl key loc ns frac false).1 sl).ents = (lrnOf s sl).ents ∧
    (lrnOf (lrnApply s sl key loc ns frac false).1 sl).queue = (lrnOf s sl).queue := by
  unfold lrnApply
  dsimp only
  rw [hf]
  dsimp only
  rw [he, Option.getD_some, if_neg hloc]
  split
  · rw [(lrnNotifyIf_keeps _ _ _ _ _ _ _ _ _).1, (lrnNotifyIf_keeps _ _ _ _ _ _ _ _ _).2, lrnOf_event_countLrn]
    exact ⟨rfl, rfl⟩
  · rw [hh, if_pos (show (true && !false) = true from rfl)]
    dsimp only
    rw [(lrnNotify_keeps _ _ _ _ _ _ _ _).1, (lrnNotify_keeps _ _ _ _ _ _ _ _).2, lrnOf_event_countLrn]
    exact ⟨rfl, rfl⟩

/-- The request at the front of a running learn queue is applied to the table behind it (R227). -/
theorem learnApply_run {s : State} {sl key loc ns frac : Nat} {rest : List LrnItem} (hq : (lrnOf s sl).queue = .learn key loc ns frac :: rest)
    (hlive : lrnLive s sl = true) :
    (if lrnLive s sl then
      match (lrnOf s sl).queue with
      | .learn key loc ns frac :: _ => (lrnApply (lrnPop s sl) sl key loc ns frac false).1
      | .shadow key e :: _ => lrnShadow (lrnPop s sl) sl key e
      | .host op _ _ _ :: _ => if op = 0 ∨ 8 ≤ op then lrnResult (lrnPop s sl) sl 4 none else s
      | [] => s
    else s) = (lrnApply (lrnPop s sl) sl key loc ns frac false).1 := by
  rw [if_pos hlive, hq]

/-- The learning table behind the request taken: it is the one before, but for its queue. -/
theorem lrnPop_table (s : State) (sl : Nat) : ∃ q, lrnOf (lrnPop s sl) sl = (lrnOf s sl).withQueue q := (lrnPop_queues s sl).2 sl

theorem held_lrnPop (s : State) (sl : Nat) (e : LrnEntry) (ns : Nat) : held (lrnPop s sl) sl e ns = held s sl e ns := by
  have hregs : (lrnPop s sl).regs = s.regs := regs_of_part ((lrnPop_queues s sl).1 .regs (by decide))
  unfold held moveHold rf
  rw [regRaw_congr hregs]

/-! ## Host commands -/

/-- The host command at the front of a running learn queue is carried out on the table behind it (R230). -/
theorem lrnHeadHost_run {s : State} {sl op idx key loc : Nat} {rest : List LrnItem} (hq : (lrnOf s sl).queue = .host op idx key loc :: rest)
    (hlive : lrnLive s sl = true) (hop : op < 6 ∨ (lrnOf s sl).flush = none) :
    lrnHeadHost sl op s = lrnHost (lrnPop s sl) sl op idx key loc := by
  unfold lrnHeadHost
  rw [hq]
  refine if_pos ⟨rfl, hlive, ?_⟩
  rcases hop with h | h
  · exact .inl h
  · exact .inr (by rw [h]; rfl)

/-- The outcome of a host command stands in LRN_HRESULT, and only that register changes. -/
theorem lrnResult_outcome (s : State) (sl st : Nat) :
    regRaw (lrnResult s sl st none) .lrnHresult [sl] = mkF 31 31 1 ||| mkF 30 28 st ∧ AgreeBut [.regs] s (lrnResult s sl st none) :=
  ⟨regRaw_setReg_same _ _ _ _, fun p hp => lrnResult_part p (by simpa using hp) s sl st none⟩

/-- FOUND, STATIC, HIT, AGE, MOVED and LOCATION of an entry in LRN_HRESULT (Table 7.22). -/
theorem lrnResult_found (s : State) (sl : Nat) (e : LrnEntry) : regRaw (lrnResult s sl 0 (some e)) .lrnHresult [sl] =
    (0x88000000 ||| mkB 26 e.stat ||| mkB 25 e.hit ||| mkF 24 23 e.age ||| mkB 22 e.moved ||| mkF 15 0 e.loc) := by
  have hconst : (mkF 31 31 1 ||| mkF 30 28 0 ||| mkF 27 27 1 : Word) = 0x88000000 := by decide
  have h := regRaw_setReg_same s .lrnHresult [sl]
    (mkF 31 31 1 ||| mkF 30 28 0 ||| mkF 27 27 1 ||| mkB 26 e.stat ||| mkB 25 e.hit ||| mkF 24 23 e.age ||| mkB 22 e.moved ||| mkF 15 0 e.loc)
  rw [hconst] at h
  exact h

/-- A host command's change of an entry, and its outcome. -/
theorem lrnChange_result (s : State) (sl i key : Nat) (e : Option LrnEntry) :
    (∃ q, lrnOf (lrnResult (lrnChange s sl i key e) sl 0 none) sl = (lrnPut (lrnOf s sl) i e).withQueue q) ∧
    regRaw (lrnResult (lrnChange s sl i key e) sl 0 none) .lrnHresult [sl] = 0x80000000 ∧
    AgreeBut [.regs, .lrn] s (lrnResult (lrnChange s sl i key e) sl 0 none) := by
  obtain ⟨hframe, q, hq⟩ := lrnChange_state s sl i key e
  obtain ⟨hreg, hres⟩ := lrnResult_outcome (lrnChange s sl i key e) sl 0
  exact ⟨⟨q, hq⟩, hreg.trans (by decide), (hframe.mono (by simp)).trans (hres.mono (by simp))⟩

/-! ## Flushes -/

/-- A flush removes the dynamic entries that pass a test, and overflow entries move into freed slots (R213, R230). -/
theorem lrnFlush_state (s : State) (sl : Nat) (p : LrnEntry → Bool) :
    (lrnOf (lrnFlush s sl p) sl).ents = ((((lrnOf s sl).ents.entries.filter (fun x => !x.2.stat && p x.2)).map Prod.fst).foldl lrnRefill
      { lrnOf s sl with ents := (lrnOf s sl).ents.filter (fun _ e => e.stat || !p e) }).ents ∧
    (lrnOf (lrnFlush s sl p) sl).flush = some (((lrnOf s sl).ents.entries.filter (fun x => !x.2.stat && p x.2)).length, s.now + 2000000) ∧
    AgreeBut [.lrn] s (lrnFlush s sl p) := by
  obtain ⟨u, hu⟩ : ∃ u, modLrn s sl (fun l => (((lrnOf s sl).ents.entries.filter (fun x => !x.2.stat && p x.2)).map Prod.fst).foldl lrnRefill
    { l with ents := l.ents.filter (fun _ e => e.stat || !p e) }) = u := ⟨_, rfl⟩
  have hul : lrnOf u sl = (((lrnOf s sl).ents.entries.filter (fun x => !x.2.stat && p x.2)).map Prod.fst).foldl lrnRefill
      { lrnOf s sl with ents := (lrnOf s sl).ents.filter (fun _ e => e.stat || !p e) } := by
    rw [← hu, lrnOf_modLrn_same]
  have huf : AgreeBut [.lrn] s u := fun p' hp => hu ▸ modLrn_part p' (by simpa using hp) s sl _
  obtain ⟨hframe, hq⟩ := lrnShadowAll_queues u sl
    (((lrnOf s sl).ents.entries.filter (fun x => !x.2.stat && p x.2)).map (fun x => (x.2.key, none)))
  obtain ⟨q, hq⟩ := hq sl
  obtain ⟨v, hv⟩ : ∃ v, lrnShadowAll u sl
    (((lrnOf s sl).ents.entries.filter (fun x => !x.2.stat && p x.2)).map (fun x => (x.2.key, none))) = v := ⟨_, rfl⟩
  have hend : lrnFlush s sl p = modLrn v sl (fun l => { l with
      flush := some (((lrnOf s sl).ents.entries.filter (fun x => !x.2.stat && p x.2)).length, s.now + 2000000) }) := by
    rw [← hv, ← hu]
    rfl
  rw [hv] at hframe hq
  rw [hend, lrnOf_modLrn_same]
  refine ⟨?_, rfl, (huf.trans hframe).trans fun p' hp => modLrn_part p' (by simpa using hp) v sl _⟩
  rw [hq, ← hul]
  rfl

/-- A flush at the front of a running learn queue, in terms of the table as it stood. -/
theorem lrnFlush_pop (s : State) (sl : Nat) (p : LrnEntry → Bool) :
    (lrnOf (lrnFlush (lrnPop s sl) sl p) sl).ents =
      ((((lrnOf s sl).ents.entries.filter (fun x => !x.2.stat && p x.2)).map Prod.fst).foldl lrnRefill
        { lrnOf s sl with ents := (lrnOf s sl).ents.filter (fun _ e => e.stat || !p e) }).ents ∧
    (lrnOf (lrnFlush (lrnPop s sl) sl p) sl).flush =
      some (((lrnOf s sl).ents.entries.filter (fun x => !x.2.stat && p x.2)).length, s.now + 2000000) ∧
    AgreeBut [.lrn] s (lrnFlush (lrnPop s sl) sl p) := by
  obtain ⟨q, hq⟩ := lrnPop_table s sl
  have hpop := (lrnPop_queues s sl).1
  obtain ⟨hents, hflush, hframe⟩ := lrnFlush_state (lrnPop s sl) sl p
  have hnow : (lrnPop s sl).now = s.now := now_of_part (hpop .now (by decide))
  have hl : (lrnOf (lrnPop s sl) sl).ents = (lrnOf s sl).ents := by rw [hq]; rfl
  have hwith : { lrnOf (lrnPop s sl) sl with ents := (lrnOf (lrnPop s sl) sl).ents.filter (fun _ e => e.stat || !p e) } =
      LrnSt.withQueue { lrnOf s sl with ents := (lrnOf s sl).ents.filter (fun _ e => e.stat || !p e) } q := by
    rw [hq]
    rfl
  refine ⟨?_, ?_, hpop.trans hframe⟩
  · rw [hents, hwith, hl, lrnRefill_fold_withQueue]
    rfl
  · rw [hflush, hl, hnow]

/-! ## Scanner and copy -/

/-- The scanner passes to a slot in the sweep that runs. -/
def scanned (s : State) (sl i : Nat) : State :=
  modLrn s sl (fun l => { l with
    scan := i + 1
    sweep := l.sweep + 0
    sweepAt := if false = true ∨ l.sweepAt = 0 then s.now + sweepNs s sl else l.sweepAt })

theorem scanned_table (s : State) (sl i : Nat) :
    ∃ x, lrnOf (scanned s sl i) sl = { lrnOf s sl with scan := i + 1, sweep := (lrnOf s sl).sweep + 0, sweepAt := x } :=
  ⟨_, lrnOf_modLrn_same _ _ _⟩

theorem scanStep_same_sweep {s : State} {sl i : Nat} (hit : Bool) (h : (lrnOf s sl).scan ≤ i) :
    scanStep s sl i hit = lrnVisit (scanned s sl i) sl i hit := by
  unfold scanStep
  rw [decide_eq_false (Nat.not_lt.2 h)]
  rfl

/-- In an aging pass a dynamic entry with HIT loses HIT and AGE (R232). -/
theorem lrnVisit_hit {s : State} {sl i : Nat} {e : LrnEntry} (hit : Bool) (he : (lrnOf s sl).ents.find i = some e) (hg : e.gen = (lrnOf s sl).gen)
    (hst : e.stat = false) (hh : e.hit = true) (hpass : rf s .lrnAgeCfg [sl] 11 0 ≠ 0)
    (hsw : (lrnOf s sl).sweep % rf s .lrnAgeCfg [sl] 11 0 = 0) :
    ∃ m, lrnVisit s sl i hit = lrnChange s sl i e.key (some { e with moved := m, hit := false, age := 0 }) := by
  have hmax : max 1 (rf s .lrnAgeCfg [sl] 11 0) = rf s .lrnAgeCfg [sl] 11 0 := by omega
  unfold lrnVisit
  dsimp only
  rw [he]
  dsimp only
  by_cases hm : (e.moved && decide (moveHold s sl ≤ (tsSteps (tbNs s) + 2 ^ 20 - e.moveT) % 2 ^ 20 * 16384)) = true
  · refine ⟨false, ?_⟩
    rw [if_pos hm]
    simp [hg, hpass, hmax, hsw, hst, hh]
  · refine ⟨e.moved, ?_⟩
    rw [if_neg hm]
    simp [hg, hpass, hmax, hsw, hst, hh]

/-- The entries that a copy puts into its destination leave its pair and generation. -/
theorem copyPut_keeps {put : LrnSt → Nat × LrnEntry → LrnSt} (hp : ∀ l x, (put l x).pair = l.pair ∧ (put l x).gen = l.gen)
    (es : List (Nat × LrnEntry)) (l : LrnSt) : (es.foldl put l).pair = l.pair ∧ (es.foldl put l).gen = l.gen := by
  induction es generalizing l with
  | nil => exact ⟨rfl, rfl⟩
  | cons x es ih =>
    obtain ⟨h1, h2⟩ := ih (put l x)
    obtain ⟨k1, k2⟩ := hp l x
    exact ⟨h1.trans k1, h2.trans k2⟩

/-- A copy that completes is told of, and shadows from then on. -/
theorem lrn_shadowing_event (s : State) (inst d : Nat) :
    (event { s with lrn := { s.lrn with copy := .shadowing } } 0x2005 inst d).lrn = { s.lrn with copy := .shadowing } := by
  rw [event_lrn]

theorem lrnOf_of_shadowing {s t : State} (h : t.lrn = { s.lrn with copy := .shadowing }) (j : Nat) : lrnOf t j = lrnOf s j := by
  unfold lrnOf
  rw [h]

/-- A table that takes a copy's entries, with a pair and a generation. -/
theorem lrnOf_copied {s u t : State} {dst : Nat} {put : LrnSt → Nat × LrnEntry → LrnSt} (hp : ∀ l x, (put l x).pair = l.pair ∧ (put l x).gen = l.gen)
    {es : List (Nat × LrnEntry)} {pair : Option Nat} {gen : Nat}
    (hu : modLrn s dst (fun l => es.foldl put { l with ents := {}, pair := pair, gen := gen }) = u)
    (ht : t.lrn = { u.lrn with copy := .shadowing }) : (lrnOf t dst).pair = pair ∧ (lrnOf t dst).gen = gen := by
  rw [lrnOf_of_shadowing ht, ← hu, lrnOf_modLrn_same]
  exact copyPut_keeps hp es _

/-- An entry of a copy enters its destination where there is a place for it. -/
def copyPut (l : LrnSt) (x : Nat × LrnEntry) : LrnSt := match lrnPlace l x.2.key with
  | some i => { l with ents := l.ents.put i (some x.2) }
  | none => l

/-- A copy that runs completes: the destination takes the entries, and the copy shadows (R235). -/
theorem copyDone_eq {s : State} (hc : s.lrn.copy = .copying) : ∃ u, modLrn s s.lrn.dst (fun l => (lrnOf s s.lrn.src).ents.entries.foldl copyPut
    { l with ents := {}, pair := (lrnOf s s.lrn.src).pair, gen := (lrnOf s s.lrn.src).gen }) = u ∧
    copyDone s = event { u with lrn := { u.lrn with copy := .shadowing } } 0x2005 s.lrn.dst (s.lrn.src * 16 + s.lrn.dst) :=
  ⟨_, rfl, if_pos hc⟩

/-- A copy that completes shadows from then on, and its destination takes the pair and the generation of its source (R235). -/
theorem copyDone_state {s : State} (hc : s.lrn.copy = .copying) : (copyDone s).lrn.copy = .shadowing ∧
    (lrnOf (copyDone s) s.lrn.dst).pair = (lrnOf s s.lrn.src).pair ∧ (lrnOf (copyDone s) s.lrn.dst).gen = (lrnOf s s.lrn.src).gen := by
  obtain ⟨u, hu, hend⟩ := copyDone_eq hc
  rw [hend]
  refine ⟨congrArg LrnBlk.copy (lrn_shadowing_event u _ _), lrnOf_copied (fun l x => ?_) hu (lrn_shadowing_event u _ _)⟩
  unfold copyPut
  split <;> exact ⟨rfl, rfl⟩

/-- A GO of LRN_COPY between slices that may take it (R235). -/
theorem copyWrite_go {s : State} {v : Word} (hgo : tbit v 31 = true) (hsrc : fld v 7 4 < 9) (hdst : fld v 3 0 < 9)
    (hrun : runsRole (sliceOf s (fld v 7 4)) = true) (hrdy : (sliceOf s (fld v 3 0)).st = .ready) (hc : s.lrn.copy ≠ .copying) :
    (copyWrite s v).lrn.copy = .copying ∧ (copyWrite s v).lrn.src = fld v 7 4 ∧ (copyWrite s v).lrn.dst = fld v 3 0 ∧
    (lrnOf (copyWrite s v) (fld v 3 0)).ents = {} ∧ AgreeBut [.regs, .lrn] s (copyWrite s v) := by
  obtain ⟨u, hu⟩ : ∃ u, setReg s .lrnCopy [] ((regRaw s .lrnCopy [] &&& ~~~(0xFF : Word) ||| (v &&& 0xFF)) &&& ~~~(v &&& 0x08000000)) = u := ⟨_, rfl⟩
  have hframe : AgreeBut [.regs] s u := fun p hp => hu ▸ setReg_part p (by simpa using hp) s _ _ _
  have hlrn : u.lrn = s.lrn := lrn_of_part (hframe .lrn (by decide))
  have hgood : (decide (fld v 7 4 < 9) && decide (fld v 3 0 < 9) && runsRole (sliceOf s (fld v 7 4)) && (sliceOf s (fld v 3 0)).st == .ready) =
      true := by
    rw [hrun, hrdy]
    simp [hsrc, hdst]
  have hend : copyWrite s v = (let s1 := modLrn u (fld v 3 0) (fun l => { l with ents := {} })
      { s1 with lrn := { s1.lrn with copy := .copying, src := fld v 7 4, dst := fld v 3 0 } }) := by
    unfold copyWrite
    dsimp only
    rw [if_pos hgo, hu, hgood, copyGo]
    exact if_pos (by rw [hlrn]; simp [hc])
  rw [hend]
  refine ⟨rfl, rfl, rfl, ?_, fun p hp => ?_⟩
  · exact congrArg LrnSt.ents (lrnOf_modLrn_same u (fld v 3 0) (fun l => { l with ents := {} }))
  · have hp1 : p ≠ .regs ∧ p ≠ .lrn := by simpa using hp
    exact ((part_lrn p hp1.2 _ _).trans (modLrn_part p hp1.2 _ _ _)).trans (hframe p (by simpa using hp1.1))

/-- STOP of LRN_COPY ends the shadowing (R235). -/
theorem copyWrite_stop {s : State} {v : Word} (hgo : tbit v 31 = false) (hstop : tbit v 30 = true) (hc : s.lrn.copy = .shadowing) :
    (copyWrite s v).lrn.copy = .idle ∧ (copyWrite s v).lrn.sl = s.lrn.sl ∧ AgreeBut [.regs, .lrn] s (copyWrite s v) := by
  obtain ⟨u, hu⟩ : ∃ u, setReg s .lrnCopy [] ((regRaw s .lrnCopy [] &&& ~~~(0xFF : Word) ||| (v &&& 0xFF)) &&& ~~~(v &&& 0x08000000)) = u := ⟨_, rfl⟩
  have hframe : AgreeBut [.regs] s u := fun p hp => hu ▸ setReg_part p (by simpa using hp) s _ _ _
  have hlrn : u.lrn = s.lrn := lrn_of_part (hframe .lrn (by decide))
  have hend : copyWrite s v = { u with lrn := { u.lrn with copy := .idle, shadow := [] } } := by
    unfold copyWrite
    dsimp only
    rw [hgo, if_neg (by decide), hstop, if_pos rfl, hu]
    exact if_pos (by rw [hlrn]; exact hc)
  rw [hend]
  refine ⟨rfl, (congrArg (fun x : LrnBlk => x.sl) hlrn).trans rfl, fun p hp => ?_⟩
  have hp1 : p ≠ .regs ∧ p ≠ .lrn := by simpa using hp
  exact (part_lrn p hp1.2 _ _).trans (hframe p (by simpa using hp1.1))

/-- Settles O33: each clause is the handling of its request on the table behind it. -/
theorem learningEngine : Obligations.LearningEngine := by
  unfold Obligations.LearningEngine
  refine ⟨fun sl key loc ns frac rest i s hq hlive hf hp => ?insert, fun sl key loc ns frac rest i e s hq hlive hf he hloc hst hh => ?move,
    fun sl key loc ns frac rest i e s hq hlive hf he hloc hh => ?held, fun sl idx key loc rest i s hq hlive hf => ?insertStatic,
    fun sl idx key loc rest i s hq hlive hf hp => ?insertDynamic, fun sl idx key loc rest i s hq hlive hf hi => ?delete,
    fun sl idx key loc rest s hq hlive hf => ?absent, fun sl idx key loc rest i e s hq hlive hf he => ?readKey,
    fun sl idx key loc rest e s hq hlive hi he => ?readIndex, fun sl idx key loc rest s hq hlive hfl => ?flushLoc,
    fun sl idx key loc rest s hq hlive hfl => ?flushDyn, fun sl n d s hfl => ?flushed, fun slot sl r rest s hserved hown hav hn => ?notify,
    fun sl index hit e s hlive hdue hscan he hg hst hh hpass hsw => ?scan, fun slot val s hmay hsrc hdst hrun hrdy hc => ?copyGo,
    fun slot val s hmay hc => ?copyStop, fun s hdata hc => ?copied⟩
  case insert =>
    obtain ⟨q, hpop⟩ := lrnPop_table s sl.val
    have hend := learnApply_run hq hlive
    obtain ⟨hent, -⟩ := lrnApply_new (s := lrnPop s sl.val) loc ns frac false (by rw [hpop]; exact hf) (by rw [hpop]; exact hp)
    rw [hpop] at hent
    refine ⟨_, congrArg Host.Outcome.next hend, ?_, ?_, fun p hp => ?_⟩
    · rw [hent]
      rfl
    · rw [hent]
      rfl
    · exact (lrnApply_part p (by simp at hp; simp [hp]) _ _ _ _ _ _ _).trans (lrnPop_part p (by simp at hp; simp [hp]) s _)
  case move =>
    obtain ⟨q, hpop⟩ := lrnPop_table s sl.val
    have hend := learnApply_run hq hlive
    have hent := lrnApply_move (s := lrnPop s sl.val) (frac := frac) (by rw [hpop]; exact hf) (by rw [hpop]; exact he) hloc hst
      ((held_lrnPop s sl.val e ns).trans hh)
    refine ⟨_, congrArg Host.Outcome.next hend, ?_, fun p hp => ?_⟩
    · rw [hent]
      rfl
    · exact (lrnApply_part p (by simp at hp; simp [hp]) _ _ _ _ _ _ _).trans (lrnPop_part p (by simp at hp; simp [hp]) s _)
  case held =>
    obtain ⟨q, hpop⟩ := lrnPop_table s sl.val
    have hend := learnApply_run hq hlive
    obtain ⟨hents, hqueue⟩ := lrnApply_held (s := lrnPop s sl.val) (frac := frac) (by rw [hpop]; exact hf) (by rw [hpop]; exact he) hloc
      ((held_lrnPop s sl.val e ns).trans hh)
    refine ⟨_, congrArg Host.Outcome.next hend, ?_, hqueue, fun p hp => ?_⟩
    · rw [hents, hpop]
      rfl
    · exact (lrnApply_part p (by simp at hp; simp [hp]) _ _ _ _ _ _ _).trans (lrnPop_part p (by simp at hp; simp [hp]) s _)
  case insertStatic =>
    obtain ⟨q, hpop⟩ := lrnPop_table s sl.val
    have hend : lrnHeadHost sl.val 1 s = lrnResult (lrnChange (lrnPop s sl.val) sl.val i key
        (some { key := key, loc := loc, stat := true, gen := (lrnOf (lrnPop s sl.val) sl.val).gen })) sl.val 0 none := by
      rw [lrnHeadHost_run hq hlive (.inl (by decide)), lrnHost]
      rw [show lrnFind (lrnOf (lrnPop s sl.val) sl.val) key = some i by rw [hpop]; exact hf]
    obtain ⟨⟨r, hr⟩, hreg, hframe⟩ := lrnChange_result (lrnPop s sl.val) sl.val i key
      (some { key := key, loc := loc, stat := true, gen := (lrnOf (lrnPop s sl.val) sl.val).gen })
    refine ⟨_, congrArg Host.Outcome.next hend, ?_, hreg, ((lrnPop_queues s sl.val).1.mono (by simp)).trans hframe⟩
    rw [hr, show ∀ l : LrnSt, (l.withQueue r).ents = l.ents from fun _ => rfl, lrnPut_some_find, hpop]
    rfl
  case insertDynamic =>
    obtain ⟨q, hpop⟩ := lrnPop_table s sl.val
    obtain ⟨hent, hok⟩ := lrnApply_new (s := lrnPop s sl.val) loc (nowTs (lrnPop s sl.val)).1 (nowTs (lrnPop s sl.val)).2 true
      (by rw [hpop]; exact hf) (by rw [hpop]; exact hp)
    have hend : lrnHeadHost sl.val 2 s = lrnResult (lrnApply (lrnPop s sl.val) sl.val key loc (nowTs (lrnPop s sl.val)).1
        (nowTs (lrnPop s sl.val)).2 true).1 sl.val 0 none := by
      rw [lrnHeadHost_run hq hlive (.inl (by decide)), lrnHost]
      rw [show lrnFind (lrnOf (lrnPop s sl.val) sl.val) key = none by rw [hpop]; exact hf]
      dsimp only
      rw [hok]
    obtain ⟨hreg, hres⟩ := lrnResult_outcome (lrnApply (lrnPop s sl.val) sl.val key loc (nowTs (lrnPop s sl.val)).1
        (nowTs (lrnPop s sl.val)).2 true).1 sl.val 0
    refine ⟨_, congrArg Host.Outcome.next hend, ?_, hreg.trans (by decide), fun p hp => ?_⟩
    · rw [lrnOf_of_lrn (lrn_of_part (hres .lrn (by decide))), hent]
      rfl
    · rw [hres p (by simp at hp; simp [hp]), lrnApply_part p (by simp at hp; simp [hp])]
      exact lrnPop_part p (by simp at hp; simp [hp]) s _
  case delete =>
    obtain ⟨q, hpop⟩ := lrnPop_table s sl.val
    have hend : lrnHeadHost sl.val 3 s = lrnResult (lrnChange (lrnPop s sl.val) sl.val i key none) sl.val 0 none := by
      rw [lrnHeadHost_run hq hlive (.inl (by decide)), lrnHost]
      rw [show lrnFind (lrnOf (lrnPop s sl.val) sl.val) key = some i by rw [hpop]; exact hf]
    obtain ⟨⟨r, hr⟩, hreg, hframe⟩ := lrnChange_result (lrnPop s sl.val) sl.val i key none
    refine ⟨_, congrArg Host.Outcome.next hend, ?_, hreg, ((lrnPop_queues s sl.val).1.mono (by simp)).trans hframe⟩
    rw [hr]
    exact lrnPut_none_overflow hi
  case absent =>
    obtain ⟨q, hpop⟩ := lrnPop_table s sl.val
    have hend : lrnHeadHost sl.val 3 s = lrnResult (lrnPop s sl.val) sl.val 1 none := by
      rw [lrnHeadHost_run hq hlive (.inl (by decide)), lrnHost]
      rw [show lrnFind (lrnOf (lrnPop s sl.val) sl.val) key = none by rw [hpop]; exact hf]
    obtain ⟨hreg, hres⟩ := lrnResult_outcome (lrnPop s sl.val) sl.val 1
    refine ⟨_, congrArg Host.Outcome.next hend, ?_, hreg.trans (by decide), ((lrnPop_queues s sl.val).1.mono (by simp)).trans (hres.mono (by simp))⟩
    rw [lrnOf_of_lrn (lrn_of_part (hres .lrn (by decide))), hpop]
    rfl
  case readKey =>
    obtain ⟨q, hpop⟩ := lrnPop_table s sl.val
    have hend : lrnHeadHost sl.val 4 s = lrnResult (lrnPop s sl.val) sl.val 0 (some e) := by
      rw [lrnHeadHost_run hq hlive (.inl (by decide)), lrnHost]
      rw [show lrnFind (lrnOf (lrnPop s sl.val) sl.val) key = some i by rw [hpop]; exact hf, hpop]
      exact congrArg (lrnResult (lrnPop s sl.val) sl.val 0) he
    refine ⟨_, congrArg Host.Outcome.next hend, ?_, lrnResult_found _ _ e, fun p hp => ?_⟩
    · rw [lrnOf_of_lrn (t := lrnResult _ _ _ _) (s := lrnPop s sl.val) rfl, hpop]
      rfl
    · rw [lrnResult_part p (by simp at hp; simp [hp])]
      exact lrnPop_part p (by simp at hp; simp [hp]) s _
  case readIndex =>
    obtain ⟨q, hpop⟩ := lrnPop_table s sl.val
    have hend : lrnHeadHost sl.val 5 s = lrnResult (setReg (setReg (lrnPop s sl.val) .lrnHkeyHi [sl.val] (lo32 (e.key / 2 ^ 32))) .lrnHkeyLo
        [sl.val] (lo32 e.key)) sl.val 0 (some e) := by
      rw [lrnHeadHost_run hq hlive (.inl (by decide)), lrnHost]
      rw [if_pos hi, show (lrnOf (lrnPop s sl.val) sl.val).ents.find idx = some e by rw [hpop]; exact he]
    have hhi : Reg.addr .lrnHkeyHi [sl.val] ≠ Reg.addr .lrnHresult [sl.val] ∧ Reg.addr .lrnHkeyHi [sl.val] ≠ Reg.addr .lrnHkeyLo [sl.val] ∧
        Reg.addr .lrnHkeyLo [sl.val] ≠ Reg.addr .lrnHresult [sl.val] := by
      simp [Reg.addr, Reg.info]
    obtain ⟨hne1, hne2, hne3⟩ := hhi
    refine ⟨_, congrArg Host.Outcome.next hend, ?_, ?_, ?_, lrnResult_found _ _ e, fun p hp => ?_⟩
    · refine (congrArg LrnSt.ents (lrnOf_of_lrn (s := lrnPop s sl.val) rfl sl.val)).trans ?_
      rw [hpop]
      rfl
    · rw [lrnResult, regRaw_setReg_other _ _ _ _ _ _ hne1, regRaw_setReg_other _ _ _ _ _ _ hne2, regRaw_setReg_same]
    · rw [lrnResult, regRaw_setReg_other _ _ _ _ _ _ hne3, regRaw_setReg_same]
    · rw [lrnResult_part p (by simp at hp; simp [hp]), setReg_part p (by simp at hp; simp [hp]), setReg_part p (by simp at hp; simp [hp])]
      exact lrnPop_part p (by simp at hp; simp [hp]) s _
  case flushLoc =>
    obtain ⟨hents, hflush, hframe⟩ := lrnFlush_pop s sl.val (fun e => e.loc == loc)
    exact ⟨_, congrArg Host.Outcome.next (lrnHeadHost_run hq hlive (.inr hfl)), hents, hflush, hframe⟩
  case flushDyn =>
    obtain ⟨hents, hflush, hframe⟩ := lrnFlush_pop s sl.val (fun _ => true)
    simp only [Bool.and_true, Bool.not_true, Bool.or_false] at hents hflush
    exact ⟨_, congrArg Host.Outcome.next (lrnHeadHost_run hq hlive (.inr hfl)), hents, hflush, hframe⟩
  case flushed =>
    have hend : (match (lrnOf s sl.val).flush with
        | some (n, _) => event (lrnResult (modLrn s sl.val (fun l => { l with flush := none })) sl.val 0 none) 0x2004 sl.val n
        | none => s) = event (lrnResult (modLrn s sl.val (fun l => { l with flush := none })) sl.val 0 none) 0x2004 sl.val n := by
      rw [hfl]
    obtain ⟨hreg, hres⟩ := lrnResult_outcome (modLrn s sl.val (fun l => { l with flush := none })) sl.val 0
    have hl : lrnOf (event (lrnResult (modLrn s sl.val (fun l => { l with flush := none })) sl.val 0 none) 0x2004 sl.val n) sl.val =
        { lrnOf s sl.val with flush := none } := by
      rw [lrnOf_of_lrn (event_lrn _ _ _ _), lrnOf_of_lrn (lrn_of_part (hres .lrn (by decide))), lrnOf_modLrn_same]
    refine ⟨_, congrArg Host.Outcome.next hend, by rw [hl], by rw [hl], ?_, fun p hp => ?_⟩
    · rw [regRaw_congr (event_regs _ _ _ _), hreg]
      decide
    · rw [event_part p (by simp at hp; simp [hp]), hres p (by simp at hp; simp [hp])]
      exact modLrn_part p (by simp at hp; simp [hp]) s _ _
  case notify =>
    have hfit : idxFit (Reg.info .lrnNotify).dims [sl.val] = true := by simp [Reg.info, idxFit]
    have hend := sessRead_register slot.val (r := .lrnNotify) (idx := [sl.val]) hserved (regAt_addr hfit).2.1 (regAt_addr hfit).1 hav
    have hread : readReg s slot.val .lrnNotify [sl.val] = lrnNotifyPop s sl.val := by
      have h : readReg s slot.val .lrnNotify [sl.val] = if isOwner s slot.val then lrnNotifyPop s sl.val else (s, 0) := rfl
      rw [h, hown, if_pos rfl]
    rw [hread] at hend
    have hpop : (lrnNotifyPop s sl.val).2 = r.getD (lrnOf s sl.val).noteRead 0 ∧ (lrnOf (lrnNotifyPop s sl.val).1 sl.val).notes =
        (if (lrnOf s sl.val).noteRead + 1 < r.length then r :: rest else rest) ∧ (lrnOf (lrnNotifyPop s sl.val).1 sl.val).noteRead =
        (if (lrnOf s sl.val).noteRead + 1 < r.length then (lrnOf s sl.val).noteRead + 1 else 0) := by
      unfold lrnNotifyPop
      dsimp only
      rw [hn]
      dsimp only
      split
      · exact ⟨rfl, by rw [lrnOf_modLrn_same]; exact hn, by rw [lrnOf_modLrn_same]⟩
      · exact ⟨rfl, by rw [lrnOf_modLrn_same], by rw [lrnOf_modLrn_same]⟩
    obtain ⟨hw, hnotes, hread'⟩ := hpop
    exact ⟨_, congrArg Host.Outcome.next hend, by rw [hw], hnotes, hread',
      AgreeBut.acc (by simp) _ fun p hp => lrnNotifyPop_part p (by simp at hp; simp [hp]) s _⟩
  case scan =>
    have hrun := scanStep_same_sweep hit hscan
    obtain ⟨x, hl⟩ := scanned_table s sl.val index.val
    obtain ⟨m, hvisit⟩ := lrnVisit_hit (s := scanned s sl.val index.val) hit (by rw [hl]; exact he) (by rw [hl]; exact hg) hst hh hpass
      (by rw [hl]; exact hsw)
    obtain ⟨hframe, q, hq⟩ := lrnChange_state (scanned s sl.val index.val) sl.val index.val e.key (some { e with moved := m, hit := false, age := 0 })
    refine ⟨_, congrArg Host.Outcome.next ((if_pos (by rw [hlive, hdue]; rfl)).trans (hrun.trans hvisit)), ?_, ?_, fun p hp => ?_⟩
    · rw [hq, hl]
      rfl
    · rw [hq, show ∀ l : LrnSt, (l.withQueue q).ents = l.ents from fun _ => rfl, lrnPut_some_find]
      rfl
    · rw [hframe p (by simp at hp; simp [hp])]
      exact modLrn_part p (by simp at hp; simp [hp]) s _ _
  case copyGo =>
    have h7 : fld (setBit val 31 true) 7 4 = fld val 7 4 := fld_setFld_other _ _ _ _ _ _ (.inl (by decide))
    have h3 : fld (setBit val 31 true) 3 0 = fld val 3 0 := fld_setFld_other _ _ _ _ _ _ (.inl (by decide))
    have hw : writeReg s .lrnCopy [] (setBit val 31 true) = (copyWrite s (setBit val 31 true), false) := rfl
    obtain ⟨hcopy, hs', hd', hents, hframe⟩ := copyWrite_go (s := s) (v := setBit val 31 true) (tbit_setBit_same _ _ _ (by decide))
      (by rw [h7]; exact hsrc) (by rw [h3]; exact hdst) (by rw [h7]; exact hrun) (by rw [h3]; exact hrdy) hc
    rw [h3] at hents hd'
    rw [h7] at hs'
    obtain ⟨u, hu⟩ : ∃ u, copyWrite s (setBit val 31 true) = u := ⟨_, rfl⟩
    rw [hu] at hw hcopy hs' hd' hents hframe
    have hend := ownWrite_of_writeReg hmay hw rfl rfl (by decide) (by decide)
    exact ⟨_, congrArg Host.Outcome.next hend, rfl, hcopy, by rw [← hs', ← hd'], hents, AgreeBut.acc (by simp) _ (hframe.mono (by simp))⟩
  case copyStop =>
    have hgo : tbit (setFld val 31 30 1) 31 = false := by
      rw [tbit_eq_getLsbD, getLsbD_setFld, if_pos (by decide)]
      decide
    have hstop : tbit (setFld val 31 30 1) 30 = true := by
      rw [tbit_eq_getLsbD, getLsbD_setFld, if_pos (by decide)]
      decide
    have hw : writeReg s .lrnCopy [] (setFld val 31 30 1) = (copyWrite s (setFld val 31 30 1), false) := rfl
    obtain ⟨hcopy, hsl, hframe⟩ := copyWrite_stop (s := s) hgo hstop hc
    obtain ⟨u, hu⟩ : ∃ u, copyWrite s (setFld val 31 30 1) = u := ⟨_, rfl⟩
    rw [hu] at hw hcopy hsl hframe
    have hend := ownWrite_of_writeReg hmay hw rfl rfl (by decide) (by decide)
    exact ⟨_, congrArg Host.Outcome.next hend, rfl, hcopy, hsl, AgreeBut.acc (by simp) _ (hframe.mono (by simp))⟩
  case copied =>
    obtain ⟨h1, h2, h3⟩ := copyDone_state hc
    exact ⟨_, congrArg Host.Outcome.next (if_pos hdata), h1, h2, h3, fun p hp => copyDone_part p (by simp at hp; simp [hp]) s⟩

end Sys2Proof.Machine
end

section
/-! The statement about the search array's command queue (R243 to R254). -/

namespace Sys2Proof.Machine

/-! ## The window -/

/-- The search array's window with these words in it. -/
def tcmWith (s : State) (l : List Word) : State := modTcm s (fun t => { t with win := l })

theorem tcmWith_step {s : State} {slot : Fin 4} (hmay : ownerMay s slot .tcmCmdWin [] = true) (l : List Word) (w : Word) :
    writeWord (tcmWith s l) slot.val .owner false (Reg.addr .tcmCmdWin []) w = (tcmWinWord (tcmWith s l) w, stOk) :=
  writeWord_window (s := tcmWith s l) hmay rfl rfl rfl w

/-- Up to 23 words stay in the window. -/
theorem tcmWith_gathers {s : State} {slot : Fin 4} (hmay : ownerMay s slot .tcmCmdWin [] = true) (m : List Word) (h : m.length ≤ 23) :
    m.foldl (fun (y : State × Nat) w =>
      let z := writeWord y.1 slot.val .owner false (Reg.addr .tcmCmdWin []) w
      (z.1, if y.2 = stOk then z.2 else y.2)) (tcmWith s [], stOk) = (tcmWith s m, stOk) := by
  refine window_gathers (n := 23) (σ := tcmWith s) (step := fun y w => writeWord y slot.val .owner false (Reg.addr .tcmCmdWin []) w)
    (fun l w hl => ?_) [] m (by simpa using h)
  rw [tcmWith_step hmay]
  exact congrArg (fun u => (u, stOk)) (if_pos hl)

theorem tcmWith_self {s : State} (h : s.tcm.win = []) : tcmWith s [] = s := by
  have htcm : { s.tcm with win := [] } = s.tcm := by rw [← h]
  show { s with tcm := { s.tcm with win := [] } } = s
  rw [htcm]

/-- The end of a request to the search array's window. -/
theorem writeEndAt_tcm (s : State) : writeEndAt (Reg.addr .tcmCmdWin []) s = tcmWinEnd s := by
  rw [writeEndAt, if_neg (by decide), if_pos rfl]

/-! ## The queue -/

/-- The descriptor at the head of the queue is carried out on the queue's rest (R249). -/
theorem tcmHead_run {s : State} {p : Nat → Bool} {d : List Word} {rest : List (List Word)} (hq : s.tcm.queue = d :: rest)
    (hon : onData s = true) (hp : p (cOp d) = true) :
    tcmHead p s = tcmDone (tcmExec (modTcm s (fun t => { t with queue := rest })) d).1 d
      (tcmExec (modTcm s (fun t => { t with queue := rest })) d).2 := by
  simp only [tcmHead, hq, hon, hp, Bool.and_self, if_true]

/-- The words of a descriptor that are all zero make the number 0. -/
theorem dNum_zero {d : List Word} {i n : Nat} (h : ((d.drop i).take n).all (fun w => decide (w = 0)) = true) : dNum d i n = 0 := by
  have hw : ∀ k, k < n → dw d (i + k) = 0 := by
    intro k hk
    by_cases hlen : i + k < d.length
    · have hmem : d[i + k] ∈ (d.drop i).take n := by
        rw [List.mem_take_iff_getElem]
        exact ⟨k, by simp; omega, by simp⟩
      have h0 := List.all_eq_true.1 h _ hmem
      rw [dw, List.getD_eq_getElem _ _ hlen]
      simpa using h0
    · rw [dw, List.getD_eq_default _ _ (by omega)]
  have hmap : (List.range n).map (fun k => (dw d (i + k)).toNat) = List.replicate n 0 := by
    rw [List.eq_replicate_iff]
    refine ⟨by simp, fun x hx => ?_⟩
    obtain ⟨k, hk, rfl⟩ := List.mem_map.1 hx
    rw [hw k (List.mem_range.1 hk)]
    rfl
  rw [dNum, hmap]
  induction n with
  | zero => rfl
  | succ n ih =>
    rw [List.replicate_succ, List.foldl_cons]
    exact ih (List.all_eq_true.2 fun w hm => List.all_eq_true.1 h w (List.take_subset_take_left _ (Nat.le_succ n) hm))
      (fun k hk => hw k (by omega)) (List.eq_replicate_iff.2 ⟨by simp, fun x hx => by
        obtain ⟨k, hk, rfl⟩ := List.mem_map.1 hx
        rw [hw k (by have := List.mem_range.1 hk; omega)]
        rfl⟩)

/-- MASK of a clean descriptor that is no WRITE is 0 (Table 8.4). -/
theorem cMask_zero {d : List Word} (hc : tcmClean d = true) (hop : cOp d ≠ 1) : cMask d = 0 := by
  simp only [tcmClean, Bool.and_eq_true, Bool.or_eq_true] at hc
  obtain ⟨⟨-, hm⟩, -⟩ := hc
  rcases hm with h | h
  · exact absurd (by simpa using h) hop
  · exact dNum_zero h

theorem tcmRowExec_write (p : Nat) (hop : cOp d = 1) : tcmRowExec s d p =
    (bulkNote (bulkDrop (tcmPut s p (cRow d)
      { valid := true, val := cVal d &&& cMask d, mask := cMask d, data := cData d }) (cTable d) (cBank d) (cRow d))
      (cTable d) (cBank d) (cRow d), 0) := by
  simp only [tcmRowExec, hop]

theorem tcmRowExec_clear (p : Nat) (hop : cOp d = 2) : tcmRowExec s d p =
    (bulkDrop (tcmPut s p (cRow d) { entAt s p (cRow d) with valid := false }) (cTable d) (cBank d) (cRow d), 0) := by
  simp only [tcmRowExec, hop]

theorem tcmRowExec_read (p : Nat) (hop : cOp d = 3) : tcmRowExec s d p =
    (tcmReadback s d (entAt s p (cRow d)).valid (cBank d) (cRow d) (entAt s p (cRow d)), 0) := by
  simp only [tcmRowExec, hop]

theorem tcmRowExec_data (p : Nat) (hop : cOp d = 4) : tcmRowExec s d p =
    (tcmBoth s p (fun t q => setData t q (cRow d) (cData d)), 0) := by
  simp only [tcmRowExec, hop]


/-- WRITE, CLEAR, READ and DATA reach the row of the physical bank that answers for theirs. -/
theorem tcmExec_row {s : State} {d : List Word} {w p : Nat} (h1 : 1 ≤ cOp d) (h4 : cOp d ≤ 4) (hc : tcmClean d = true)
    (hw : tcmWidth s (cTable d) = some w) (hfit : cOp d = 1 → cVal d < 2 ^ (80 * w) ∧ cMask d < 2 ^ (80 * w)) (hrow : cRow d % w = 0)
    (hp : physOf s (cTable d) (cBank d) = some p) : tcmExec s d = if !bankUp s p then (s, 3) else tcmRowExec s d p := by
  have h7 : (cOp d == 7) = false := by simp; omega
  have hval : ((cOp d == 1 || cOp d == 7) && !(decide (cVal d < 2 ^ (80 * w)) && decide (cMask d < 2 ^ (80 * w)))) = false := by
    rw [h7, Bool.or_false]
    by_cases hone : cOp d = 1
    · rw [decide_eq_true (hfit hone).1, decide_eq_true (hfit hone).2]
      simp
    · simp [hone]
  unfold tcmExec
  dsimp only
  rw [hc, if_neg (by decide), if_neg (by omega), hw]
  dsimp only
  rw [hval, if_neg (by decide), if_neg (by omega), if_neg (by omega), if_neg (by omega), if_neg (by omega), hp]

/-- A session's and a search's command reach their own handling. -/
theorem tcmExec_table {s : State} {d : List Word} {w : Nat} (h5 : 5 ≤ cOp d) (h7 : cOp d ≤ 7) (hc : tcmClean d = true)
    (hw : tcmWidth s (cTable d) = some w) (hfit : cOp d = 7 → cVal d < 2 ^ (80 * w)) :
    tcmExec s d = if cOp d = 5 then
        if s.tcm.bulk.open' || s.tcm.bulk.todo.isSome then (s, 4)
        else (modTcm s (fun x => { x with bulk := { open' := true, table := cTable d } }), 0)
      else if cOp d = 6 then
        if s.tcm.bulk.open' && s.tcm.bulk.table == cTable d then (bulkEnd s, 0) else (s, 4)
      else (tcmSearchExec s d, 0) := by
  have h1 : (cOp d == 1) = false := by simp; omega
  have hval : ((cOp d == 1 || cOp d == 7) && !(decide (cVal d < 2 ^ (80 * w)) && decide (cMask d < 2 ^ (80 * w)))) = false := by
    rw [h1, Bool.false_or, cMask_zero hc (by omega)]
    by_cases hseven : cOp d = 7
    · rw [decide_eq_true (hfit hseven)]
      simp
    · simp [hseven]
  unfold tcmExec
  dsimp only
  rw [hc, if_neg (by decide), if_neg (by omega), hw]
  dsimp only
  rw [hval, if_neg (by decide)]
  by_cases hfive : cOp d = 5
  · rw [if_pos hfive, if_pos hfive]
  · rw [if_neg hfive, if_neg hfive]
    by_cases hsix : cOp d = 6
    · rw [if_pos hsix, if_pos hsix]
    · rw [if_neg hsix, if_neg hsix]
      exact if_pos (by omega)

/-- A failed command leaves its record in the failure FIFO (R250). -/
theorem tcmDone_record {s : State} {d : List Word} {st : Nat} (h : st ≠ 0) (hroom : s.tcm.fails.length < 1024) :
    tcmDone s d st = modTcm (count s 9 0x08) (fun t => { t with fails :=
      t.fails ++ [mkF 31 28 (cOp d) ||| mkF 27 24 st ||| mkF 20 16 (cTable d) ||| mkF 15 0 (fld (dw d 0) 15 0)] }) := by
  unfold tcmDone
  rw [if_neg h]
  exact if_pos hroom

/-- A command that succeeds changes the array and counts. -/
theorem tcmDone_ok_agree {s u : State} (h : AgreeBut [.ctr, .tcm] s u) (d : List Word) : AgreeBut [.ctr, .tcm] s (tcmDone u d 0) := by
  refine h.trans fun p hp => ?_
  rw [tcmDone, if_pos rfl]
  exact count_part p (by simp at hp; simp [hp]) u _ _

theorem tcm_tcmDone_ok (s : State) (d : List Word) : (tcmDone s d 0).tcm = s.tcm := rfl

/-! ## Rows -/

theorem entKey_ne {p q : Nat} (row : Nat) (h : p ≠ q) : entKey p row ≠ entKey q row := by
  unfold entKey
  omega

/-- An entry written stands in the array with its parity and in the shadow with its care count; another bank's stays (R243, R248, R254). -/
theorem setEnt_same (s : State) (p row : Nat) (e : TcmEnt) : entAt (setEnt s p row e) p row = { e with care := popCount 320 e.mask } ∧
    shadowAt (setEnt s p row e) p row = { e with care := popCount 320 e.mask, data := 0 } ∧
    parAt (setEnt s p row e) p row = entParity (bankWidth s p) { e with care := popCount 320 e.mask } :=
  ⟨SMap.get_set_same _ _ _ _, SMap.get_set_same _ _ _ _, SMap.get_set_same _ _ _ _⟩

theorem setEnt_other (s : State) {p q row : Nat} (e : TcmEnt) (h : entKey p row ≠ entKey q row) :
    entAt (setEnt s q row e) p row = entAt s p row ∧ shadowAt (setEnt s q row e) p row = shadowAt s p row ∧
    parAt (setEnt s q row e) p row = parAt s p row :=
  ⟨SMap.get_set_other _ _ _ _ _ _ h, SMap.get_set_other _ _ _ _ _ _ h, SMap.get_set_other _ _ _ _ _ _ h⟩

/-- A write of an entry, in the bank and in the target of its replacement (R248, R258). -/
theorem tcmPut_state (s : State) (p row : Nat) (e : TcmEnt) :
    entAt (tcmPut s p row e) p row = { e with care := popCount 320 e.mask } ∧
    shadowAt (tcmPut s p row e) p row = { e with care := popCount 320 e.mask, data := 0 } ∧
    parAt (tcmPut s p row e) p row = entParity (bankWidth s p) { e with care := popCount 320 e.mask } := by
  unfold tcmPut tcmBoth
  split
  · next c hc =>
    by_cases hq : p = c.to'
    · rw [← hq]
      exact setEnt_same (setEnt s p row e) p row e
    · obtain ⟨h1, h2, h3⟩ := setEnt_other (setEnt s p row e) e (entKey_ne row hq)
      obtain ⟨k1, k2, k3⟩ := setEnt_same s p row e
      exact ⟨h1.trans k1, h2.trans k2, h3.trans k3⟩
  · exact setEnt_same s p row e

/-- What a write of an entry leaves: the queue, the banks, the failure FIFO. -/
theorem tcmPut_keeps (s : State) (p row : Nat) (e : TcmEnt) : (tcmPut s p row e).tcm.queue = s.tcm.queue ∧
    (tcmPut s p row e).tcm.banks = s.tcm.banks ∧ (tcmPut s p row e).tcm.fails = s.tcm.fails ∧ AgreeBut [.tcm] s (tcmPut s p row e) := by
  refine ⟨?_, ?_, ?_, fun q hq => tcmPut_part q (by simpa using hq) s p row e⟩ <;>
    · unfold tcmPut tcmBoth
      split <;> rfl

/-- The associated data of an entry replaced, in the bank and in the target of its replacement. -/
theorem tcmData_state (s : State) (p row data : Nat) :
    entAt (tcmBoth s p (fun t q => setData t q row data)) p row = { entAt s p row with data := data } := by
  have hsame : ∀ u : State, entAt (setData u p row data) p row = { entAt u p row with data := data } := fun u => SMap.get_upd_same _ _ _ _
  unfold tcmBoth
  split
  · next c hc =>
    by_cases hq : p = c.to'
    · rw [← hq, hsame, hsame]
    · exact (SMap.get_upd_other _ _ _ _ _ _ (entKey_ne row hq)).trans (hsame s)
  · exact hsame s

theorem tcmData_keeps (s : State) (p row data : Nat) : (tcmBoth s p (fun t q => setData t q row data)).tcm.queue = s.tcm.queue ∧
    (tcmBoth s p (fun t q => setData t q row data)).tcm.banks = s.tcm.banks ∧
    AgreeBut [.tcm] s (tcmBoth s p (fun t q => setData t q row data)) := by
  unfold tcmBoth
  split
  · refine ⟨rfl, rfl, fun q hq => ?_⟩
    have hq' : q ≠ .tcm := by simpa using hq
    rw [setData_part q hq', setData_part q hq']
  · exact ⟨rfl, rfl, fun q hq => setData_part q (by simpa using hq) s p row data⟩

/-- What a session notes of a write is in the session alone (R253). -/
theorem bulkDrop_eq (s : State) (t l row : Nat) : ∃ b, bulkDrop s t l row = modTcm s (fun x => { x with bulk := b }) := by
  unfold bulkDrop
  split
  · exact ⟨_, rfl⟩
  · exact ⟨s.tcm.bulk, rfl⟩

theorem bulkNote_eq (s : State) (t l row : Nat) : ∃ b, bulkNote s t l row = modTcm s (fun x => { x with bulk := b }) := by
  unfold bulkNote
  split
  · exact ⟨_, rfl⟩
  · exact ⟨s.tcm.bulk, rfl⟩

/-- BULK_END of a session with entries to check (R253). -/
theorem bulkEnd_checks {s : State} (h : s.tcm.bulk.written ≠ []) : ∃ l, bulkEnd s = modTcm s (fun x => { x with bulk :=
    { x.bulk with open' := false, written := [], todo := some (l, s.now + 100) } }) := by
  have hne : (s.tcm.bulk.written.foldr insertAsc []).isEmpty = false := by
    cases hw : s.tcm.bulk.written with
    | nil => exact absurd hw h
    | cons a l =>
      rw [List.foldr_cons]
      cases l.foldr insertAsc [] with
      | nil => rfl
      | cons b r =>
        unfold insertAsc
        split <;> rfl
  refine ⟨s.tcm.bulk.written.foldr insertAsc [], ?_⟩
  unfold bulkEnd
  dsimp only
  rw [hne]
  rfl

/-- A winner with good parity and good data answers a lookup (R244, R256). -/
theorem tcmLookup_hit {s : State} {t key w : Nat} {x : Nat × Nat × TcmEnt} (hw : tcmWidth s t = some w) (hx : tcmWinner s t key = some x)
    (hd : s.tcm.dataBad.get false (entKey x.1 x.2.1) = false) (hpar : parAt s x.1 x.2.1 = entParity (bankWidth s x.1) x.2.2) :
    tcmLookup s t key = (some x, false, tcmCount s t true) := by
  unfold tcmLookup
  rw [hw, hx]
  simp [hd, hpar]

/-- Settles O34: each clause is the handling of its descriptor on the queue's rest. -/
theorem searchCommands : Obligations.SearchCommands := by
  unfold Obligations.SearchCommands
  refine ⟨fun slot words s hmay hlen hwin hroom => ?window, fun slot words s hmay h1 h24 hwin => ?left, fun d rest s hq hon hop hc => ?nop,
    fun d rest w p s hq hon hop hc hw hval hmask hrow hp hup => ?write, fun d rest w p s hq hon hop hc hw hrow hp hup => ?clear,
    fun d rest w p s hq hon hop hc hw hrow hp hup => ?read, fun d rest w p s hq hon hop hc hw hrow hp hup => ?data,
    fun d rest w s hq hon hop hc hw hopen htodo => ?bulkBegin, fun d rest w s hq hon hop hc hw hopen htab hwr => ?bulkEnd,
    fun d rest w x s hq hon hop hc hw hval hx hd hpar => ?search, fun d rest w p s hq hon hop hc hw hval hmask hrow hp hup hfails => ?fenced,
    fun slot w rest s hserved hown hdata hav hf => ?fifo⟩
  case window =>
    obtain ⟨m, w, rfl⟩ : ∃ m w, words = m ++ [w] := ⟨words.dropLast, words.getLast (by rintro rfl; cases hlen),
      (List.dropLast_append_getLast _).symm⟩
    have hm : m.length = 23 := by simpa using hlen
    have hfold := tcmWith_gathers hmay m (by omega)
    rw [tcmWith_self hwin] at hfold
    have hlast : tcmWinWord (tcmWith s m) w = modTcm s (fun t => { t with win := [], queue := t.queue ++ [m ++ [w]] }) := by
      have hfull : ¬(tcmWith s m).tcm.win.length < 23 := by
        show ¬m.length < 23
        omega
      rw [tcmWinWord, if_neg hfull]
      exact if_pos hroom
    have hend : sessWrites s slot.val (Reg.addr .tcmCmdWin []) (m ++ [w]) =
        { modTcm s (fun t => { t with win := [], queue := t.queue ++ [m ++ [w]] }) with acc := (stOk, 0) } := by
      rw [sessWrites, withSession_served (served_of_ownerMay hmay)]
      dsimp only
      rw [List.foldl_append, hfold, List.foldl_cons, List.foldl_nil]
      dsimp only
      rw [tcmWith_step hmay, hlast, writeEndAt_tcm]
      rfl
    exact ⟨_, congrArg Host.Outcome.next hend, rfl, rfl, rfl,
      AgreeBut.acc (by simp) _ fun p hp => modTcm_part p (by simp at hp; simp [hp]) s _⟩
  case left =>
    have hfold := tcmWith_gathers hmay words (by omega)
    rw [tcmWith_self hwin] at hfold
    have hne : (tcmWith s words).tcm.win.isEmpty = false := by
      cases words with
      | nil => exact absurd h1 (by decide)
      | cons w l => rfl
    have hend : sessWrites s slot.val (Reg.addr .tcmCmdWin []) words =
        { setRB (count s 9 0x10) .tcmCmdStatus [] 31 true with acc := (stOk, 0) } := by
      rw [sessWrites, withSession_served (served_of_ownerMay hmay)]
      dsimp only
      rw [hfold, writeEndAt_tcm, tcmWinEnd, hne, if_neg (by decide),
        show modTcm (tcmWith s words) (fun t => { t with win := [] }) = tcmWith s [] from rfl, tcmWith_self hwin]
    refine ⟨_, congrArg Host.Outcome.next hend, rfl, rfl, rb_setRB_same (count s 9 0x10) _ _ _ _ (by decide), AgreeBut.acc (by simp) _ fun p hp => ?_⟩
    rw [setRB_part p (by simp at hp; simp [hp])]
    exact count_part p (by simp at hp; simp [hp]) s _ _
  case nop =>
    have hexec : ∀ u : State, tcmExec u d = (u, 0) := fun u => by
      unfold tcmExec
      dsimp only
      rw [hc, if_neg (by decide), if_pos hop]
    have hend := tcmHead_run (p := fun o => o == 0 || decide (8 ≤ o)) hq hon (by rw [hop]; rfl)
    rw [hexec] at hend
    exact congrArg Host.Outcome.next hend
  case write =>
    have hup' : bankUp (modTcm s (fun t => { t with queue := rest })) p = true := hup
    have hexec := tcmExec_row (s := modTcm s (fun t => { t with queue := rest })) (by omega) (by omega) hc hw (fun _ => ⟨hval, hmask⟩) hrow hp
    rw [hup', if_neg (by decide), tcmRowExec_write _ hop] at hexec
    obtain ⟨hent, hsh, hpar⟩ := tcmPut_state (modTcm s (fun t => { t with queue := rest })) p (cRow d)
      { valid := true, val := cVal d &&& cMask d, mask := cMask d, data := cData d }
    obtain ⟨hqu, hbk, hfl, hframe⟩ := tcmPut_keeps (modTcm s (fun t => { t with queue := rest })) p (cRow d)
      { valid := true, val := cVal d &&& cMask d, mask := cMask d, data := cData d }
    obtain ⟨u, hu⟩ : ∃ u, tcmPut (modTcm s (fun t => { t with queue := rest })) p (cRow d)
      { valid := true, val := cVal d &&& cMask d, mask := cMask d, data := cData d } = u := ⟨_, rfl⟩
    rw [hu] at hexec hent hsh hpar hqu hbk hfl hframe
    obtain ⟨b, hb⟩ := bulkDrop_eq u (cTable d) (cBank d) (cRow d)
    obtain ⟨b', hb'⟩ := bulkNote_eq (modTcm u (fun x => { x with bulk := b })) (cTable d) (cBank d) (cRow d)
    rw [hb, hb'] at hexec
    have hend := tcmHead_run (p := (· == 1)) hq hon (by rw [hop]; rfl)
    rw [hexec] at hend
    refine ⟨_, congrArg Host.Outcome.next hend, hqu, hent, hsh, ?_, hbk, hfl, tcmDone_ok_agree (fun q hq => ?_) d⟩
    · refine hpar.trans ?_
      exact congrArg (entParity (bankWidth s p)) hent.symm
    · have hq' : q ≠ .tcm := by simp at hq; simp [hq]
      rw [modTcm_part q hq', modTcm_part q hq', hframe q (by simpa using hq')]
      exact modTcm_part q hq' s _
  case clear =>
    have hup' : bankUp (modTcm s (fun t => { t with queue := rest })) p = true := hup
    have hexec := tcmExec_row (s := modTcm s (fun t => { t with queue := rest })) (by omega) (by omega) hc hw (fun h => by omega) hrow hp
    rw [hup', if_neg (by decide), tcmRowExec_clear _ hop] at hexec
    obtain ⟨e, he⟩ : ∃ e : TcmEnt, { entAt (modTcm s (fun t => { t with queue := rest })) p (cRow d) with valid := false } = e := ⟨_, rfl⟩
    have hev : e.valid = false := by rw [← he]
    rw [he] at hexec
    obtain ⟨hent, hsh, -⟩ := tcmPut_state (modTcm s (fun t => { t with queue := rest })) p (cRow d) e
    obtain ⟨hqu, hbk, -, hframe⟩ := tcmPut_keeps (modTcm s (fun t => { t with queue := rest })) p (cRow d) e
    obtain ⟨u, hu⟩ : ∃ u, tcmPut (modTcm s (fun t => { t with queue := rest })) p (cRow d) e = u := ⟨_, rfl⟩
    rw [hu] at hexec hent hsh hqu hbk hframe
    obtain ⟨b, hb⟩ := bulkDrop_eq u (cTable d) (cBank d) (cRow d)
    rw [hb] at hexec
    have hend := tcmHead_run (p := (· == 2)) hq hon (by rw [hop]; rfl)
    rw [hexec] at hend
    refine ⟨_, congrArg Host.Outcome.next hend, hqu, (congrArg TcmEnt.valid hent).trans hev, (congrArg TcmEnt.valid hsh).trans hev, hbk,
      tcmDone_ok_agree (fun q hq => ?_) d⟩
    have hq' : q ≠ .tcm := by simp at hq; simp [hq]
    rw [modTcm_part q hq', hframe q (by simpa using hq')]
    exact modTcm_part q hq' s _
  case read =>
    have hup' : bankUp (modTcm s (fun t => { t with queue := rest })) p = true := hup
    have hexec := tcmExec_row (s := modTcm s (fun t => { t with queue := rest })) (by omega) (by omega) hc hw (fun h => by omega) hrow hp
    rw [hup', if_neg (by decide), tcmRowExec_read _ hop] at hexec
    have hend := tcmHead_run (p := (· == 3)) hq hon (by rw [hop]; rfl)
    rw [hexec] at hend
    refine ⟨_, congrArg Host.Outcome.next hend, rfl, rfl, rfl, tcmDone_ok_agree (fun q hq => ?_) d⟩
    have hq' : q ≠ .tcm := by simp at hq; simp [hq]
    rw [tcmReadback_part q hq']
    exact modTcm_part q hq' s _
  case data =>
    have hup' : bankUp (modTcm s (fun t => { t with queue := rest })) p = true := hup
    have hexec := tcmExec_row (s := modTcm s (fun t => { t with queue := rest })) (by omega) (by omega) hc hw (fun h => by omega) hrow hp
    rw [hup', if_neg (by decide), tcmRowExec_data _ hop] at hexec
    have hent := tcmData_state (modTcm s (fun t => { t with queue := rest })) p (cRow d) (cData d)
    obtain ⟨hqu, hbk, hframe⟩ := tcmData_keeps (modTcm s (fun t => { t with queue := rest })) p (cRow d) (cData d)
    obtain ⟨u, hu⟩ : ∃ u, tcmBoth (modTcm s (fun t => { t with queue := rest })) p (fun t q => setData t q (cRow d) (cData d)) = u := ⟨_, rfl⟩
    rw [hu] at hexec hent hqu hbk hframe
    have hend := tcmHead_run (p := (· == 4)) hq hon (by rw [hop]; rfl)
    rw [hexec] at hend
    refine ⟨_, congrArg Host.Outcome.next hend, hqu, hent, hbk, tcmDone_ok_agree (fun q hq => ?_) d⟩
    have hq' : q ≠ .tcm := by simp at hq; simp [hq]
    rw [hframe q (by simpa using hq')]
    exact modTcm_part q hq' s _
  case bulkBegin =>
    have hexec := tcmExec_table (s := modTcm s (fun t => { t with queue := rest })) (by omega) (by omega) hc hw (fun h => by omega)
    have hfree : ((modTcm s (fun t => { t with queue := rest })).tcm.bulk.open' ||
        (modTcm s (fun t => { t with queue := rest })).tcm.bulk.todo.isSome) = false := by
      show (s.tcm.bulk.open' || s.tcm.bulk.todo.isSome) = false
      rw [hopen, htodo]
      rfl
    rw [if_pos hop, hfree, if_neg (by decide)] at hexec
    have hend := tcmHead_run (p := (· == 5)) hq hon (by rw [hop]; rfl)
    rw [hexec] at hend
    refine ⟨_, congrArg Host.Outcome.next hend, rfl, rfl, rfl, rfl, tcmDone_ok_agree (fun q hq => ?_) d⟩
    have hq' : q ≠ .tcm := by simp at hq; simp [hq]
    rw [modTcm_part q hq']
    exact modTcm_part q hq' s _
  case bulkEnd =>
    have hexec := tcmExec_table (s := modTcm s (fun t => { t with queue := rest })) (by omega) (by omega) hc hw (fun h => by omega)
    have hmine : ((modTcm s (fun t => { t with queue := rest })).tcm.bulk.open' &&
        (modTcm s (fun t => { t with queue := rest })).tcm.bulk.table == cTable d) = true := by
      show (s.tcm.bulk.open' && s.tcm.bulk.table == cTable d) = true
      rw [hopen, htab]
      simp
    obtain ⟨l, hl⟩ := bulkEnd_checks (s := modTcm s (fun t => { t with queue := rest })) hwr
    rw [if_neg (by omega), if_pos hop, hmine, if_pos rfl, hl] at hexec
    have hend := tcmHead_run (p := (· == 6)) hq hon (by rw [hop]; rfl)
    rw [hexec] at hend
    refine ⟨_, congrArg Host.Outcome.next hend, rfl, rfl, rfl, rfl, tcmDone_ok_agree (fun q hq => ?_) d⟩
    have hq' : q ≠ .tcm := by simp at hq; simp [hq]
    rw [modTcm_part q hq']
    exact modTcm_part q hq' s _
  case search =>
    have hexec := tcmExec_table (s := modTcm s (fun t => { t with queue := rest })) (by omega) (by omega) hc hw (fun _ => hval)
    have hlook := tcmLookup_hit (s := modTcm s (fun t => { t with queue := rest })) hw hx hd hpar
    rw [if_neg (by omega), if_neg (by omega), tcmSearchExec, hlook] at hexec
    dsimp only at hexec
    have hend := tcmHead_run (p := (· == 7)) hq hon (by rw [hop]; rfl)
    rw [hexec] at hend
    refine ⟨_, congrArg Host.Outcome.next hend, rfl, rfl, rfl, tcmDone_ok_agree (fun q hq => ?_) d⟩
    have hq' : q ≠ .tcm ∧ q ≠ .ctr := by simp at hq; simp [hq]
    rw [tcmReadback_part q hq'.1, tcmCount_part q hq'.2]
    exact modTcm_part q hq'.1 s _
  case fenced =>
    have hup' : bankUp (modTcm s (fun t => { t with queue := rest })) p = false := hup
    have hexec := tcmExec_row (s := modTcm s (fun t => { t with queue := rest })) (by omega) (by omega) hc hw (fun _ => ⟨hval, hmask⟩) hrow hp
    rw [hup', Bool.not_false, if_pos rfl] at hexec
    have hend := tcmHead_run (p := (· == 1)) hq hon (by rw [hop]; rfl)
    rw [hexec] at hend
    have hdone := tcmDone_record (s := modTcm s (fun t => { t with queue := rest })) (d := d) (st := 3) (by decide) hfails
    rw [hop] at hdone
    refine ⟨_, congrArg Host.Outcome.next (hend.trans hdone), rfl, rfl, rfl, fun q hq => ?_⟩
    rw [modTcm_part q (by simp at hq; simp [hq]), count_part q (by simp at hq; simp [hq])]
    exact modTcm_part q (by simp at hq; simp [hq]) s _
  case fifo =>
    have hread : readReg s slot.val .tcmFailFifo [] = (modTcm s (fun t => { t with fails := rest }), w) := by
      have h : readReg s slot.val .tcmFailFifo [] = if isOwner s slot.val then tcmFailPop s else (s, 0) := rfl
      rw [h, hown, if_pos rfl, tcmFailPop, hf]
    have hend := sessRead_register slot.val (r := .tcmFailFifo) (idx := []) hserved (regAt_addr rfl).2.1 (regAt_addr rfl).1 hav
    rw [hread] at hend
    exact ⟨_, congrArg Host.Outcome.next hend, rfl, rfl, AgreeBut.acc (by simp) _ fun p hp => modTcm_part p (by simp at hp; simp [hp]) s _⟩

end Sys2Proof.Machine
end

section
/-! The statement about the banks of the search array (R247, R253, R255 to R259). -/

namespace Sys2Proof.Machine

/-! ## Walks over all banks -/

/-- A walk passes the visit of `k`, which takes `P` to `Q`; no visit ends either. -/
theorem forEach_reaches {P Q : State → Prop} {g : Nat → State → State} {l : List Nat} {k : Nat} {s : State} (hk : k ∈ l)
    (hP : ∀ n u, P u → P (g n u)) (hvisit : ∀ u, P u → Q (g k u)) (hQ : ∀ n u, Q u → Q (g n u)) (hs : P s) : Q (forEach l g s) := by
  obtain ⟨pre, post, rfl⟩ := List.append_of_mem hk
  have hsplit : forEach (pre ++ k :: post) g s = forEach post g (g k (forEach pre g s)) := by
    simp only [forEach, List.foldl_append, List.foldl_cons]
  rw [hsplit]
  exact forEach_inv Q hQ _ (hvisit _ (forEach_inv P hP _ hs))

theorem tcmBank_of_banks {s t : State} (h : t.tcm.banks = s.tcm.banks) (p : Nat) : tcmBank t p = tcmBank s p := by
  unfold tcmBank
  rw [h]

theorem tcmBank_setBank_same (s : State) (p : Nat) (b : TcmBank) : tcmBank (setBank s p b) p = b := SMap.get_set_same _ _ _ _

theorem tcmBank_setBank_other (s : State) {p q : Nat} (b : TcmBank) (h : p ≠ q) : tcmBank (setBank s q b) p = tcmBank s p :=
  SMap.get_set_other _ _ _ _ _ _ h

theorem faultRise_tcm (s : State) (blk bit inst : Nat) (d4 d5 : Word) : (faultRise s blk bit inst d4 d5).tcm = s.tcm :=
  tcm_of_part (faultRise_part .tcm (by decide) s _ _ _ _ _)

theorem condRise_tcm (s : State) (blk bit unit : Nat) (d4 d5 : Word) : (condRise s blk bit unit d4 d5).tcm = s.tcm :=
  tcm_of_part (condRise_part .tcm (by decide) s _ _ _ _ _)

/-! ## Suspect banks -/

/-- The end of a window for one bank. -/
def suspectVisit (p : Nat) (t : State) : State :=
  let b := tcmBank t p
  let t1 := setBank t p { b with errs := 0 }
  if b.st == .inService && decide (tcmThreshold t ≤ b.errs) then bankSuspect t1 p else t1

theorem suspectWindow_eq (s : State) : suspectWindow s =
    modTcm (forEach (List.range 96) suspectVisit s) (fun t => { t with window := tbNs s / 1000000000 }) := rfl

/-- Without AUTO a suspect bank is only marked and reported (R258, R259). -/
theorem bankSuspect_marked {s : State} (h : rb s .tcmSuspectCfg [] 31 = false) (p : Nat) : bankSuspect s p =
    event (setBank s p { tcmBank s p with st := .suspect }) 0x2405 (logicalOf s p) (tcmBank s p).table := by
  unfold bankSuspect
  dsimp only
  rw [h]

/-- What a visit leaves behind in its bank. -/
def judgedBank (s : State) (p : Nat) : TcmBank :=
  if (tcmBank s p).st == .inService && decide (tcmThreshold s ≤ (tcmBank s p).errs) then { tcmBank s p with errs := 0, st := .suspect }
  else { tcmBank s p with errs := 0 }

theorem suspectVisit_state {s : State} (h : rb s .tcmSuspectCfg [] 31 = false) (p : Nat) :
    (suspectVisit p s).regs = s.regs ∧ tcmBank (suspectVisit p s) p = judgedBank s p ∧
    (∀ q, q ≠ p → tcmBank (suspectVisit p s) q = tcmBank s q) ∧ (suspectVisit p s).tcm.ents = s.tcm.ents := by
  have h' : rb (setBank s p { tcmBank s p with errs := 0 }) .tcmSuspectCfg [] 31 = false := h
  unfold suspectVisit judgedBank
  dsimp only
  by_cases hc : ((tcmBank s p).st == .inService && decide (tcmThreshold s ≤ (tcmBank s p).errs)) = true
  · rw [if_pos hc, if_pos hc, bankSuspect_marked h', tcmBank_setBank_same]
    refine ⟨event_regs _ _ _ _, (tcmBank_of_banks (congrArg TcmSt.banks (event_tcm _ _ _ _)) p).trans (tcmBank_setBank_same _ _ _),
      fun q hq => ?_, (congrArg TcmSt.ents (event_tcm _ _ _ _)).trans rfl⟩
    exact (tcmBank_of_banks (congrArg TcmSt.banks (event_tcm _ _ _ _)) q).trans
      ((tcmBank_setBank_other _ _ hq).trans (tcmBank_setBank_other _ _ hq))
  · rw [if_neg hc, if_neg hc]
    exact ⟨rfl, tcmBank_setBank_same _ _ _, fun q hq => tcmBank_setBank_other _ _ hq, rfl⟩

theorem rb_of_regs {s t : State} (h : t.regs = s.regs) (r : Reg) (idx : List Nat) (i : Nat) : rb t r idx i = rb s r idx i := by
  simp only [rb, rf, regRaw_congr h]

theorem tcmThreshold_of_regs {s t : State} (h : t.regs = s.regs) : tcmThreshold t = tcmThreshold s := by
  simp only [tcmThreshold, rf, regRaw_congr h]

/-- A window without AUTO: what has THRESHOLD events is suspect, with no event left (R258). -/
theorem suspectWindow_marks {s : State} {p : Nat} (hp : p < 96) (hauto : rb s .tcmSuspectCfg [] 31 = false)
    (hst : (tcmBank s p).st = .inService) (herr : tcmThreshold s ≤ (tcmBank s p).errs) :
    (tcmBank (suspectWindow s) p).st = .suspect ∧ (tcmBank (suspectWindow s) p).errs = 0 ∧ (suspectWindow s).tcm.ents = s.tcm.ents := by
  have hkeep : ∀ (B : TcmBank → Prop) (n : Nat) (u : State),
      (∀ v : State, v.regs = s.regs → B (tcmBank v p) → B (judgedBank v p)) →
      (u.regs = s.regs ∧ u.tcm.ents = s.tcm.ents ∧ B (tcmBank u p)) →
      (suspectVisit n u).regs = s.regs ∧ (suspectVisit n u).tcm.ents = s.tcm.ents ∧ B (tcmBank (suspectVisit n u) p) := by
    intro B n u hB ⟨hr, he, hb⟩
    obtain ⟨kr, ksame, kother, ke⟩ := suspectVisit_state ((rb_of_regs hr _ _ _).trans hauto) n
    refine ⟨kr.trans hr, ke.trans he, ?_⟩
    by_cases hn : p = n
    · subst hn
      rw [ksame]
      exact hB u hr hb
    · rw [kother p hn]
      exact hb
  have hjudge : ∀ v : State, v.regs = s.regs → tcmBank v p = tcmBank s p →
      (judgedBank v p).st = .suspect ∧ (judgedBank v p).errs = 0 := by
    intro v hr hb
    have hbank : judgedBank v p = { tcmBank v p with errs := 0, st := .suspect } :=
      if_pos (by simp [hb, hst, tcmThreshold_of_regs hr, herr])
    simp [hbank]
  have hdone : ∀ v : State, v.regs = s.regs → (tcmBank v p).st = .suspect ∧ (tcmBank v p).errs = 0 →
      (judgedBank v p).st = .suspect ∧ (judgedBank v p).errs = 0 := by
    intro v _ ⟨h1, _⟩
    have hbank : judgedBank v p = { tcmBank v p with errs := 0 } := if_neg (by simp [h1])
    simp [hbank, h1]
  have hend := forEach_reaches (P := fun u => u.regs = s.regs ∧ u.tcm.ents = s.tcm.ents ∧
        (tcmBank u p = tcmBank s p ∨ ((tcmBank u p).st = .suspect ∧ (tcmBank u p).errs = 0)))
      (Q := fun u => u.regs = s.regs ∧ u.tcm.ents = s.tcm.ents ∧ ((tcmBank u p).st = .suspect ∧ (tcmBank u p).errs = 0))
      (g := suspectVisit) (List.mem_range.2 hp)
      (fun n u => hkeep (fun b => b = tcmBank s p ∨ (b.st = .suspect ∧ b.errs = 0)) n u
        fun v hr hb => .inr (hb.elim (hjudge v hr) (hdone v hr)))
      (fun u ⟨hr, he, hb⟩ => by
        obtain ⟨kr, ksame, -, ke⟩ := suspectVisit_state ((rb_of_regs hr _ _ _).trans hauto) p
        refine ⟨kr.trans hr, ke.trans he, ?_⟩
        rw [ksame]
        exact hb.elim (hjudge u hr) (hdone u hr))
      (fun n u => hkeep (fun b => b.st = .suspect ∧ b.errs = 0) n u hdone) (s := s) ⟨rfl, rfl, .inl rfl⟩
  rw [suspectWindow_eq]
  obtain ⟨u, hu⟩ : ∃ u, forEach (List.range 96) suspectVisit s = u := ⟨_, rfl⟩
  rw [hu] at hend ⊢
  obtain ⟨-, he, h1, h2⟩ := hend
  exact ⟨h1, h2, he⟩

/-! ## Scrubbing -/

/-- A row that differs from its shadow is rewritten and counts against its bank (R255). -/
theorem scrubRow_differs {s : State} {p row : Nat} (hbad : s.tcm.shadowBad.get false (entKey p row) = false)
    (hdiff : rowDiffers s p row = true) : scrubRow s p row =
    bankErr (faultRise (count (rowFromShadow s p row) 9 0x20) 9 0 (logicalOf s p) (lo32 row) 0) p := by
  simp only [scrubRow, hbad, hdiff, Bool.not_true, Bool.or_false, Bool.false_eq_true, if_false]

theorem banks_rowFromShadow (s : State) (p row : Nat) : (rowFromShadow s p row).tcm.banks = s.tcm.banks ∧
    (rowFromShadow s p row).tcm.shadow = s.tcm.shadow := by
  unfold rowFromShadow
  split <;> exact ⟨rfl, rfl⟩

/-- An upset of equal rows leaves equal rows. -/
theorem entAt_upsetRow_congr {s t : State} {p : Nat} (he : t.tcm.ents = s.tcm.ents) (hw : bankWidth t p = bankWidth s p) (row : Nat)
    (x : Upset) (q f : Nat) : entAt (upsetRow t p row x) q f = entAt (upsetRow s p row x) q f := by
  have hf : firstRow t p row = firstRow s p row := by rw [firstRow, hw]; rfl
  unfold upsetRow
  dsimp only
  rw [hf]
  show (SMap.upd t.tcm.ents {} _ _).get {} _ = (SMap.upd s.tcm.ents {} _ _).get {} _
  rw [he]

/-! ## Copies -/

theorem unitAt_unitSet_same (x u v : Nat) : unitAt (unitSet x u v) u = v % 2 ^ 80 := by
  have hpos : 0 < 2 ^ (80 * u) := Nat.two_pow_pos _
  have hlt : x % 2 ^ (80 * u) < 2 ^ (80 * u) := Nat.mod_lt _ hpos
  have hx : x = (x / 2 ^ (80 * u) / 2 ^ 80 * 2 ^ 80 + unitAt x u) * 2 ^ (80 * u) + x % 2 ^ (80 * u) := by
    rw [unitAt, Nat.div_add_mod' (x / 2 ^ (80 * u)) (2 ^ 80), Nat.div_add_mod']
  have hset : unitSet x u v = x % 2 ^ (80 * u) + 2 ^ (80 * u) * (v % 2 ^ 80 + 2 ^ 80 * (x / 2 ^ (80 * u) / 2 ^ 80)) := by
    have hsub : x - unitAt x u * 2 ^ (80 * u) = x / 2 ^ (80 * u) / 2 ^ 80 * 2 ^ 80 * 2 ^ (80 * u) + x % 2 ^ (80 * u) := by
      conv_lhs => lhs; rw [hx]
      rw [Nat.add_mul]
      omega
    rw [unitSet, hsub]
    ring
  rw [unitAt, hset, Nat.add_mul_div_left _ _ hpos, Nat.div_eq_of_lt hlt, Nat.zero_add, Nat.add_mul_mod_self_left, Nat.mod_mod]

theorem unitAt_mod (x u : Nat) : unitAt x u % 2 ^ 80 = unitAt x u := Nat.mod_mod _ _

/-- A unit put into an entry is that of the copy, and the entry's first takes the valid bit (R258). -/
theorem entAt_putUnit (s : State) (p f u : Nat) (h : TcmEnt) : unitAt (entAt (putUnit s p f u h) p f).val u = unitAt h.val u ∧
    unitAt (entAt (putUnit s p f u h) p f).mask u = unitAt h.mask u ∧ (u = 0 → (entAt (putUnit s p f u h) p f).valid = h.valid) := by
  have hent : entAt (putUnit s p f u h) p f = { entAt s p f with
      val := unitSet (entAt s p f).val u (unitAt h.val u), mask := unitSet (entAt s p f).mask u (unitAt h.mask u)
      valid := if u = 0 then h.valid else (entAt s p f).valid, care := if u = 0 then h.care else (entAt s p f).care } :=
    SMap.get_upd_same _ _ _ _
  rw [hent]
  exact ⟨(unitAt_unitSet_same _ _ _).trans (unitAt_mod _ _), (unitAt_unitSet_same _ _ _).trans (unitAt_mod _ _), fun hu => if_pos hu⟩

theorem entAt_setData (s : State) (p f data : Nat) : entAt (setData s p f data) p f = { entAt s p f with data := data } :=
  SMap.get_upd_same _ _ _ _

theorem entAt_of_ents {s t : State} (h : t.tcm.ents = s.tcm.ents) (p row : Nat) : entAt t p row = entAt s p row := by
  unfold entAt
  rw [h]

/-- What a copy puts into the target, from the shadow where its word is good (R258). -/
theorem ents_copyUnit {s : State} {p : Nat} (q : Nat) {row f : Nat} (hgood : s.tcm.shadowBad.get false (entKey p row) = false)
    (hf : firstRow s p row = f) : (copyUnit s p q row).tcm.ents =
      (if row = f then setData (putUnit s q f (row - f) (shadowAt s p f)) q f (entAt s p f).data
        else putUnit s q f (row - f) (shadowAt s p f)).tcm.ents := by
  unfold copyUnit
  dsimp only
  rw [hgood, if_neg Bool.false_ne_true, hf]
  split <;> rfl

/-- A row copied into a target (R258). -/
theorem copyUnit_state {s : State} {p : Nat} (q : Nat) {row f : Nat} (hgood : s.tcm.shadowBad.get false (entKey p row) = false)
    (hf : firstRow s p row = f) :
    unitAt (entAt (copyUnit s p q row) q f).val (row - f) = unitAt (shadowAt s p f).val (row - f) ∧
    unitAt (entAt (copyUnit s p q row) q f).mask (row - f) = unitAt (shadowAt s p f).mask (row - f) ∧
    (row = f → (entAt (copyUnit s p q row) q f).valid = (shadowAt s p f).valid ∧
      (entAt (copyUnit s p q row) q f).data = (entAt s p f).data) := by
  obtain ⟨hval, hmask, hvalid⟩ := entAt_putUnit s q f (row - f) (shadowAt s p f)
  rw [entAt_of_ents (ents_copyUnit q hgood hf)]
  by_cases hfirst : row = f
  · rw [if_pos hfirst, entAt_setData]
    exact ⟨hval, hmask, fun _ => ⟨hvalid (by omega), rfl⟩⟩
  · rw [if_neg hfirst]
    exact ⟨hval, hmask, fun h => absurd h hfirst⟩

theorem copyUnit_keeps (s : State) (p q row : Nat) : (copyUnit s p q row).tcm.banks = s.tcm.banks ∧
    (copyUnit s p q row).tcm.copies = s.tcm.copies := by
  unfold copyUnit
  dsimp only
  split <;> exact ⟨rfl, rfl⟩

/-- A swap before its fault is reported. -/
def swapped (s : State) (p q : Nat) : State :=
  let b := tcmBank s q
  let s1 := setBank s q { b with st := .inService, logical := (if logicalOf s p = q then none else some (logicalOf s p)), replaces := true, errs := 0 }
  let s2 := setFenced (setBank s1 p { tcmBank s1 p with st := .fenced, errs := 0, logical := none, replaces := false }) 9 p true
  clearBank (modTcm s2 (fun t => { t with copies := t.copies.put p none })) p

theorem bankSwap_eq (s : State) (p q : Nat) :
    bankSwap s p q = faultRise (swapped s p q) 9 5 (logicalOf s p) (lo32 (p * 256 + q)) 0 := rfl

theorem swapped_state (s : State) {p q : Nat} (h : q ≠ p) : (tcmBank (swapped s p q) q).st = .inService ∧
    logicalOf (swapped s p q) q = logicalOf s p ∧ (tcmBank (swapped s p q) p).st = .fenced ∧
    isFenced (swapped s p q) 9 p = true ∧ (swapped s p q).tcm.copies.find p = none := by
  have hq : tcmBank (swapped s p q) q = { tcmBank s q with
      st := .inService, logical := (if logicalOf s p = q then none else some (logicalOf s p)), replaces := true, errs := 0 } :=
    (tcmBank_setBank_other _ _ h).trans (tcmBank_setBank_same _ _ _)
  refine ⟨by rw [hq], ?_, ?_, isFenced_setFenced_same _ _ _ _, SMap.find_put_same _ _ _⟩
  · rw [logicalOf, hq]
    show (if logicalOf s p = q then none else some (logicalOf s p)).getD q = _
    split <;> simp_all
  · exact congrArg TcmBank.st (tcmBank_setBank_same _ _ _)

/-- The swap that ends a replacement (R258). -/
theorem bankSwap_state (s : State) {p q : Nat} (h : q ≠ p) : (tcmBank (bankSwap s p q) q).st = .inService ∧
    logicalOf (bankSwap s p q) q = logicalOf s p ∧ (tcmBank (bankSwap s p q) p).st = .fenced ∧
    isFenced (bankSwap s p q) 9 p = true ∧ (bankSwap s p q).tcm.copies.find p = none := by
  obtain ⟨hq, hlog, hp, hfen, hcop⟩ := swapped_state s h
  have htcm := faultRise_tcm (swapped s p q) 9 5 (logicalOf s p) (lo32 (p * 256 + q)) 0
  have hfault := fenced_faultRise (swapped s p q) 9 5 (logicalOf s p) (lo32 (p * 256 + q)) 0
  rw [bankSwap_eq]
  refine ⟨?_, ?_, ?_, ?_, ?_⟩
  · rwa [tcmBank_of_banks (congrArg TcmSt.banks htcm)]
  · rwa [logicalOf, tcmBank_of_banks (congrArg TcmSt.banks htcm)]
  · rwa [tcmBank_of_banks (congrArg TcmSt.banks htcm)]
  · rwa [isFenced, hfault]
  · rwa [htcm]

/-! ## Fences -/

/-- Nothing valid is left in a bank that is cleared (R259). -/
theorem bankEnts_clearBank (s : State) (p : Nat) : bankEnts (clearBank s p) p = [] := by
  have hnone : (clearBank s p).tcm.ents.entries.filter (fun x => x.1 / 2048 == p && x.2.valid) = [] := by
    rw [List.filter_eq_nil_iff]
    intro x hx
    have hx' : (x.1 / 2048 != p) = true := (List.mem_filter.1 hx).2
    simp at hx'
    simp [hx']
  rw [bankEnts, hnone]
  rfl

/-- A bank fenced without replacement (R259). -/
theorem bankLose_state (s : State) (p : Nat) : (tcmBank (bankLose s p) p).st = .fenced ∧ isFenced (bankLose s p) 9 p = true ∧
    bankEnts (bankLose s p) p = [] := by
  let s1 := setFenced (setBank s p { tcmBank s p with st := .fenced, errs := 0, replaces := false, lost := true }) 9 p true
  have hend : bankLose s p = condRise (clearBank s1 p) 9 6 (logicalOf s p) (lo32 (bankEnts s p).length) 0 := rfl
  have htcm := condRise_tcm (clearBank s1 p) 9 6 (logicalOf s p) (lo32 (bankEnts s p).length) 0
  rw [hend]
  refine ⟨?_, ?_, ?_⟩
  · rw [tcmBank_of_banks (congrArg TcmSt.banks htcm)]
    exact congrArg TcmBank.st (tcmBank_setBank_same s p _)
  · rw [isFenced, fenced_condRise]
    exact isFenced_setFenced_same _ _ _ _
  · rw [bankEnts, htcm]
    exact bankEnts_clearBank s1 p

theorem aliasWrite_staged {s : State} {a : Nat} {v : Word} (hok : aliasOk s a v = true) (hd : s.fur.direct = false) :
    aliasWrite s a v = stage s .tcmAlias [a] (v &&& BitVec.ofNat 32 Reg.tcmAlias.info.st) := by
  rw [aliasWrite, if_pos hok]
  simp only [stageOrNow, hd, Bool.false_eq_true, if_false]

/-! ## The overlap check -/

/-- A walk over a list keeps what each of its steps keeps. -/
theorem foldl_inv {α β : Type} (P : β → Prop) {g : β → α → β} (h : ∀ b a, P b → P (g b a)) (l : List α) {b : β} (hb : P b) :
    P (l.foldl g b) := by
  induction l generalizing b with
  | nil => exact hb
  | cons a l ih => exact ih (h b a hb)

/-- The check of an entry finds pairs; it changes neither the entries nor those still to check (R253). -/
theorem bulkCheck_keeps (s : State) (k : Nat) :
    (bulkCheck s k).tcm.bulk.todo = s.tcm.bulk.todo ∧ (bulkCheck s k).tcm.ents = s.tcm.ents := by
  unfold bulkCheck
  dsimp only
  split
  · exact ⟨rfl, rfl⟩
  · refine foldl_inv (fun u : State => u.tcm.bulk.todo = s.tcm.bulk.todo ∧ u.tcm.ents = s.tcm.ents) (fun u o hu => ?_) _ ⟨rfl, rfl⟩
    split
    · exact hu
    · exact hu

/-- A step of the check takes one of several entries (R253). -/
theorem bulkStep_one {s : State} {k at' : Nat} {l : List Nat} (htodo : s.tcm.bulk.todo = some (k :: l, at')) (hdue : at' ≤ s.now)
    (hl : l ≠ []) : bulkStep s = bulkCheck (modTcm s (fun x => { x with bulk := { x.bulk with todo := some (l, s.now + 100) } })) k := by
  have hne : l.isEmpty = false := by simpa using hl
  simp only [bulkStep, htodo, if_pos hdue, hne, Bool.false_eq_true, if_false]

theorem bulkStep_wait {s : State} {at' : Nat} {l : List Nat} (htodo : s.tcm.bulk.todo = some (l, at')) (hdue : s.now < at') :
    bulkStep s = s := by
  simp only [bulkStep, htodo, if_neg (Nat.not_le.2 hdue)]

/-- The next row of a replacement (R258). -/
theorem copyRow_due {s : State} {p : Nat} {c : TcmCopy} (hc : s.tcm.copies.find p = some c) (hdue : c.nextAt ≤ s.now) :
    copyRow s p = if c.row + 1 < 2048 then modTcm (copyUnit s p c.to' c.row)
        (fun t => { t with copies := t.copies.put p (some { c with row := c.row + 1, nextAt := s.now + 20 }) })
      else bankSwap (modTcm (copyUnit s p c.to' c.row)
        (fun t => { t with copies := t.copies.put p (some { c with row := c.row + 1, nextAt := s.now + 20 }) })) p c.to' := by
  simp only [copyRow, hc, if_pos hdue]

theorem bankErr_up {s : State} {p : Nat} (h : bankUp s p = true) :
    bankErr s p = setBank s p { tcmBank s p with errs := (tcmBank s p).errs + 1 } := if_pos h

theorem bankUp_of_banks {s t : State} (h : t.tcm.banks = s.tcm.banks) (p : Nat) : bankUp t p = bankUp s p := by
  simp only [bankUp, tcmBank_of_banks h]

/-- A row that differs is repaired from its shadow and counts against its bank (R255). -/
theorem scrubRow_repairs {s : State} {p row : Nat} (hup : bankUp s p = true)
    (hbad : s.tcm.shadowBad.get false (entKey p row) = false) (hdiff : rowDiffers s p row = true) :
    (scrubRow s p row).tcm.ents = (rowFromShadow s p row).tcm.ents ∧ (scrubRow s p row).tcm.shadow = s.tcm.shadow ∧
    (tcmBank (scrubRow s p row) p).errs = (tcmBank s p).errs + 1 ∧
    bankWidth (scrubRow s p row) p = bankWidth (rowFromShadow s p row) p ∧ AgreeBut [.ctr, .flt, .rcd, .tcm] s (scrubRow s p row) := by
  have hframe : AgreeBut [.ctr, .flt, .rcd, .tcm] s (scrubRow s p row) := fun q hq => scrubRow_part q (by simpa using hq) s p row
  obtain ⟨u, hu⟩ : ∃ u, faultRise (count (rowFromShadow s p row) 9 0x20) 9 0 (logicalOf s p) (lo32 row) 0 = u := ⟨_, rfl⟩
  have htcm : u.tcm = (rowFromShadow s p row).tcm := by rw [← hu, faultRise_tcm]; rfl
  obtain ⟨hbk, hsh⟩ := banks_rowFromShadow s p row
  have hubk : u.tcm.banks = s.tcm.banks := by rw [htcm, hbk]
  have hscrub := scrubRow_differs hbad hdiff
  rw [hu, bankErr_up ((bankUp_of_banks hubk _).trans hup), tcmBank_of_banks hubk] at hscrub
  rw [hscrub] at hframe ⊢
  have hsame := tcmBank_setBank_same u p { tcmBank s p with errs := (tcmBank s p).errs + 1 }
  have hents : u.tcm.ents = (rowFromShadow s p row).tcm.ents := congrArg TcmSt.ents htcm
  have hshadow : u.tcm.shadow = s.tcm.shadow := (congrArg TcmSt.shadow htcm).trans hsh
  refine ⟨hents, hshadow, congrArg TcmBank.errs hsame, ?_, hframe⟩
  rw [bankWidth, hsame, bankWidth, tcmBank_of_banks hbk]

/-- Settles O35: the check, the scrubber, a window, a copy's row and swap, a fence, and the two ends of a write of TCM_ALIAS. -/
theorem searchBanks : Obligations.SearchBanks := by
  unfold Obligations.SearchBanks
  refine ⟨fun k l at' s hon htodo hdue hl => ?check, fun k l at' s hon htodo hdue => ?early, fun p row s hon hup hbad hdiff => ?scrub,
    fun p row hit s hon hup hsame => ?agrees, fun p s hon hwin hauto hst herr => ?window,
    fun p c s hon hc hdue hrow hne hgood => ?copy, fun p c s hon hc hdue hrow hne => ?swap, fun slot p s hmay hst => ?fence,
    fun slot a val s hmay hd hok => ?staged, fun slot a val s hmay hok => ?refused⟩
  case check =>
    have hend : (if onData s then bulkStep s else s) = _ := (if_pos hon).trans (bulkStep_one htodo hdue hl)
    obtain ⟨h1, h2⟩ := bulkCheck_keeps (modTcm s (fun x => { x with bulk := { x.bulk with todo := some (l, s.now + 100) } })) k
    refine ⟨_, congrArg Host.Outcome.next hend, h1.trans rfl, h2.trans rfl, fun q hq => ?_⟩
    rw [bulkCheck_part q (by simp at hq; simp [hq]), modTcm_part q (by simp at hq; simp [hq])]
  case early =>
    exact congrArg Host.Outcome.next ((if_pos hon).trans (bulkStep_wait htodo hdue))
  case scrub =>
    have hcond : (onData s && bankUp s p.val) = true := by rw [hon, hup]; rfl
    have hend : (if onData s && bankUp s p.val then upsetRow (scrubRow s p.val row.val) p.val row.val {} else s) = _ := if_pos hcond
    obtain ⟨hents, hsh, herrs, hw, hframe⟩ := scrubRow_repairs hup hbad hdiff
    refine ⟨_, congrArg Host.Outcome.next hend, herrs, entAt_upsetRow_congr hents hw _ _ _ _, hsh, hframe.trans fun q hq => ?_⟩
    exact upsetRow_part q (by simp at hq; simp [hq]) _ _ _ _
  case agrees =>
    have hcond : (onData s && bankUp s p.val) = true := by rw [hon, hup]; rfl
    have hskip : (s.tcm.shadowBad.get false (entKey p.val row.val) || !rowDiffers s p.val row.val) = true := by
      rcases hsame with h | h <;> simp [h]
    have hscrub : scrubRow s p.val row.val = s := if_pos hskip
    have hend : (if onData s && bankUp s p.val then upsetRow (scrubRow s p.val row.val) p.val row.val hit else s) = _ :=
      (if_pos hcond).trans (congrArg (fun v => upsetRow v p.val row.val hit) hscrub)
    exact congrArg Host.Outcome.next hend
  case window =>
    have hcond : (onData s && decide (s.tcm.window ≠ tbNs s / 1000000000)) = true := by rw [hon, decide_eq_true hwin]; rfl
    obtain ⟨h1, h2, h3⟩ := suspectWindow_marks p.isLt hauto hst herr
    exact ⟨_, congrArg Host.Outcome.next (if_pos hcond), by rw [suspectWindow_eq]; rfl, h1, h2, h3,
      fun q hq => suspectWindow_part q (by simp at hq; simp [hq]) s⟩
  case copy =>
    have hend : (if onData s then copyRow s p.val else s) = _ := (if_pos hon).trans ((copyRow_due hc hdue).trans (if_pos hrow))
    obtain ⟨hval, hmask, hfirst⟩ := copyUnit_state c.to' hgood rfl
    obtain ⟨hbk, hcop⟩ := copyUnit_keeps s p.val c.to' c.row
    refine ⟨_, congrArg Host.Outcome.next hend, hval, hmask, ?_, ?_, hbk, fun q hq => ?_⟩
    · by_cases hf : c.row = firstRow s p.val c.row
      · obtain ⟨hv, hd⟩ := hfirst hf
        rw [← hf] at hv hd
        rw [decide_eq_true hf, Bool.true_and]
        exact Bool.or_eq_false_iff.2 ⟨bne_eq_false_iff_eq.2 hv, bne_eq_false_iff_eq.2 hd⟩
      · rw [decide_eq_false hf, Bool.false_and]
    · exact congrArg _ (SMap.find_put_same _ _ _)
    · rw [modTcm_part q (by simpa using hq), copyUnit_part q (by simpa using hq)]
  case swap =>
    have hend : (if onData s then copyRow s p.val else s) = _ :=
      (if_pos hon).trans ((copyRow_due hc hdue).trans (if_neg (by omega)))
    obtain ⟨hbk, -⟩ := copyUnit_keeps s p.val c.to' c.row
    obtain ⟨h1, h2, h3, h4, h5⟩ := bankSwap_state (modTcm (copyUnit s p.val c.to' c.row)
      (fun t => { t with copies := t.copies.put p.val (some { c with row := c.row + 1, nextAt := s.now + 20 }) })) hne
    refine ⟨_, congrArg Host.Outcome.next hend, h1, h2.trans ?_, h3, h4, h5, fun q hq => ?_⟩
    · exact congrArg (fun b : TcmBank => b.logical.getD p.val) (tcmBank_of_banks hbk p.val)
    · have hq' : q ≠ .ctr ∧ q ≠ .flt ∧ q ≠ .rcd ∧ q ≠ .tcm := by simpa using hq
      obtain ⟨-, -, -, htcm⟩ := hq'
      rw [bankSwap_part q (by simpa using hq), modTcm_part q htcm, copyUnit_part q htcm]
  case fence =>
    have hw : writeReg s .tcmBank [p.val] (mkB 31 true) = (tcmFence s p.val, false) := rfl
    have hend := ownWrite_of_writeReg hmay hw (by simp [Reg.info, idxFit]) rfl (by decide) (by decide)
    have hfence : tcmFence s p.val = bankLose _ p.val := if_neg hst
    have hframe : AgreeBut [.ctr, .flt, .rcd, .tcm] s (tcmFence s p.val) := fun q hq => tcmFence_part q (by simpa using hq) s p.val
    rw [hfence] at hend hframe
    obtain ⟨h1, h2, h3⟩ := bankLose_state _ p.val
    exact ⟨_, congrArg Host.Outcome.next hend, rfl, h1, h2, h3, AgreeBut.acc (by simp) _ (hframe.mono (by simp))⟩
  case staged =>
    have hw : writeReg s .tcmAlias [a.val] val = (aliasWrite s a.val val, false) := rfl
    have hend := ownWrite_of_writeReg hmay hw (by simp [Reg.info, idxFit]) rfl (by decide) (by decide)
    rw [aliasWrite_staged hok hd] at hend
    refine ⟨_, congrArg Host.Outcome.next hend, rfl, ?_, rfl,
      AgreeBut.acc (by simp) _ fun q hq => stage_part q (by simp at hq; simp [hq]) _ _ _ _⟩
    refine (congrArg (Option.map fun v => fld v 4 0) (SMap.find_put_same _ _ _)).trans (congrArg some (fld_ext fun i _ hi => ?_))
    have hmask : tbit (BitVec.ofNat 32 Reg.tcmAlias.info.st) i = true := by
      interval_cases i <;> rfl
    rw [tbit_and, hmask, Bool.and_true]
  case refused =>
    have hw : writeReg s .tcmAlias [a.val] val = (aliasWrite s a.val val, false) := rfl
    have hend := ownWrite_of_writeReg hmay hw (by simp [Reg.info, idxFit]) rfl (by decide) (by decide)
    have hrej : aliasWrite s a.val val = setRB s .tcmAliasStatus [] 31 true := if_neg (by simp [hok])
    rw [hrej] at hend
    exact ⟨_, congrArg Host.Outcome.next hend, rfl, rb_setRB_same _ _ _ _ _ (by decide), rfl,
      AgreeBut.acc (by simp) _ fun q hq => setRB_part q (by simp at hq; simp [hq]) _ _ _ _ _⟩

end Sys2Proof.Machine
end

section
/-! The statement about a head's way through the engines (R264 to R277). -/

namespace Sys2Proof.Machine

/-- A command of the data path acts where the path runs. -/
theorem onData_run {s t u : State} (h : onData s = true) (ht : t = u) : (if onData s then t else s) = u := (if_pos h).trans ht

/-! ## Engines, classes, clusters -/

theorem xeEng_of_eng {s t : State} (h : t.xe.eng = s.xe.eng) (e : Nat) : xeEng t e = xeEng s e := by
  unfold xeEng
  rw [h]

theorem xeClassOf_of_cls {s t : State} (h : t.xe.cls = s.xe.cls) (c : Nat) : xeClassOf t c = xeClassOf s c := by
  unfold xeClassOf
  rw [h]

theorem xeEng_modEng_same (s : State) (e : Nat) (f : XeEngine → XeEngine) : xeEng (modEng s e f) e = f (xeEng s e) :=
  SMap.get_upd_same _ _ _ _

theorem xeEng_modEng_other (s : State) {e d : Nat} (f : XeEngine → XeEngine) (h : d ≠ e) : xeEng (modEng s e f) d = xeEng s d :=
  SMap.get_upd_other _ _ _ _ _ _ h

theorem xeClu_modClu_same (s : State) (k : Nat) (f : XeCluster → XeCluster) : xeClu (modClu s k f) k = f (xeClu s k) :=
  SMap.get_upd_same _ _ _ _

/-- An engine that may run threads is not fenced. -/
theorem reason_of_engRuns {s : State} {e : Nat} (h : engRuns s e = true) : (xeEng s e).reason = 0 := by
  simp only [engRuns, Bool.and_eq_true, beq_iff_eq] at h
  exact h.1

/-! ## Dispatch -/

/-- The record of a head that is dispatched: its own on a re-dispatch (R275, R276). -/
def dispatchRec (s : State) (c : Nat) (w : XeWait) (k : Nat) : XeRec :=
  let v := waitVals s c w
  { w.re.getD { p := w.p, a := v.1, b := v.2.1, c := v.2.2, snap := snapNow s, epoch := s.fur.seq % 4,
                rob := if tbit v.1 30 then some (xeClassOf s c).next else none } with clu := k, waited := s.now - w.since }

/-- The thread that a dispatch starts, its registers and scratch memory at 0 (R269). -/
def dispatched (s : State) (r : XeRec) : XeThread := { r := r, start := s.now, outHead := r.p.out, vec := r.p.vec }

/-- The class whose front head is taken, with its place in the ROB when it is an ordered head's first dispatch (R273). -/
def headTaken (s : State) (c : Nat) (w : XeWait) : State :=
  let s1 := modClass s c (fun x => { x with q := x.q.drop 1 })
  if w.re.isNone && tbit (waitVals s c w).1 30 then
    modClass s1 c (fun x => { x with rob := x.rob ++ [(xeClassOf s c).next], next := (xeClassOf s c).next + 1 })
  else s1

theorem headTaken_state (s : State) (c : Nat) (w : XeWait) : (xeClassOf (headTaken s c w) c).q = (xeClassOf s c).q.drop 1 ∧
    (w.re.isNone = false → (xeClassOf (headTaken s c w) c).rob = (xeClassOf s c).rob) ∧ (headTaken s c w).xe.eng = s.xe.eng := by
  unfold headTaken
  dsimp only
  split
  · next h =>
    refine ⟨?_, fun hre => ?_, rfl⟩
    · rw [xeClassOf_modClass_same, xeClassOf_modClass_same]
    · rw [hre] at h
      exact absurd h Bool.false_ne_true
  · refine ⟨?_, fun _ => ?_, rfl⟩ <;> rw [xeClassOf_modClass_same]

/-- The thread of a dispatch is set up in an engine of its cluster (R267, R269). -/
def threadSet (s : State) (c k e n : Nat) (th : XeThread) : State :=
  modXe (count (count (modClu (modEng s e (fun x => { x with threads := x.threads.put n (some th) })) k
    (fun x => { x with lastAt := some s.now })) 0xA 0x00) 0xA (0x400 + c * 8)) (fun x => { x with rr := c })

theorem threadSet_state (s : State) (c k e n : Nat) (th : XeThread) : (xeEng (threadSet s c k e n th) e).threads.find n = some th ∧
    (threadSet s c k e n th).xe.rr = c ∧ (threadSet s c k e n th).xe.cls = s.xe.cls := by
  have heng : (threadSet s c k e n th).xe.eng = (modEng s e (fun x => { x with threads := x.threads.put n (some th) })).xe.eng := rfl
  refine ⟨?_, rfl, rfl⟩
  rw [xeEng_of_eng heng, xeEng_modEng_same]
  exact SMap.find_put_same _ _ _

theorem xeDispatchTo_eq (s : State) (c : Nat) (w : XeWait) (k e : Nat) : xeDispatchTo s c w k e =
    threadSet (headTaken s c w) c k e (firstGap (xeEng s e).threads.keys 0) (dispatched s (dispatchRec s c w k)) := by
  have hnow : (headTaken s c w).now = s.now := by
    unfold headTaken
    dsimp only
    split <;> rfl
  unfold xeDispatchTo threadSet
  rw [hnow]
  unfold headTaken dispatched dispatchRec
  cases w.re with
  | some r => rfl
  | none => rfl

/-- A dispatch starts a thread on the first free number and takes the head from its class (R267, R269). -/
theorem xeDispatchTo_state (s : State) (c : Nat) (w : XeWait) (k e : Nat) :
    (xeClassOf (xeDispatchTo s c w k e) c).q = (xeClassOf s c).q.drop 1 ∧ (xeDispatchTo s c w k e).xe.rr = c ∧
    (w.re.isNone = false → (xeClassOf (xeDispatchTo s c w k e) c).rob = (xeClassOf s c).rob) ∧
    (xeEng (xeDispatchTo s c w k e) e).threads.find (firstGap (xeEng s e).threads.keys 0) = some (dispatched s (dispatchRec s c w k)) := by
  rw [xeDispatchTo_eq]
  obtain ⟨hq, hrob, -⟩ := headTaken_state s c w
  obtain ⟨hth, hrr, hcls⟩ := threadSet_state (headTaken s c w) c k e (firstGap (xeEng s e).threads.keys 0)
    (dispatched s (dispatchRec s c w k))
  rw [xeClassOf_of_cls hcls]
  exact ⟨hq, hrr, hrob, hth⟩

theorem xeDispatch_to {s : State} {c k e : Nat} {w : XeWait} (hc : xeNextClass s = some c) (ht : xeTarget s c = some (w, k, e)) :
    xeDispatch s = xeDispatchTo s c w k e := by
  simp only [xeDispatch, hc, ht]

/-! ## The end of a thread -/

theorem xeAct_thread (s : State) (th : XeThread) (a : XeAct) : (xeAct s th a).2.r = th.r ∧ (xeAct s th a).2.start = th.start ∧
    (xeAct s th a).2.outHead = th.outHead ∧ (xeAct s th a).2.vec = th.vec := by
  cases a <;> exact ⟨rfl, rfl, rfl, rfl⟩

/-- What a thread's code does leaves its record, its start, its output head and its vector. -/
theorem xeRun_thread (run : List XeAct) (s : State) (th : XeThread) : (xeRun run s th).2.r = th.r ∧
    (xeRun run s th).2.start = th.start ∧ (xeRun run s th).2.outHead = th.outHead ∧ (xeRun run s th).2.vec = th.vec := by
  induction run generalizing s th with
  | nil => exact ⟨rfl, rfl, rfl, rfl⟩
  | cons a run ih =>
    obtain ⟨h1, h2, h3, h4⟩ := xeAct_thread s th a
    obtain ⟨k1, k2, k3, k4⟩ := ih (xeAct s th a).1 (xeAct s th a).2
    exact ⟨k1.trans h1, k2.trans h2, k3.trans h3, k4.trans h4⟩

/-- A thread with the header vector and the output head that its outcome gives (R271). -/
def XeThread.withOutcome (th : XeThread) (o : XeOutcome) : XeThread :=
  match o with
  | .ret _ vec => { th with vec := vec.foldl (fun (m : SMap Word) (w : Nat × Word) => m.set 0 w.1 w.2) th.vec }
  | .send _ out => { th with outHead := out }
  | .drop => th

/-- A running thread ends: its outcome waits, and its engine's window takes its time (R271, R278). -/
theorem xeEnd_state {s : State} {e n : Nat} {th : XeThread} (hrun : engRuns s e = true) (hth : (xeEng s e).threads.find n = some th)
    (hout : th.out = none) (o : XeOutcome) (run : List XeAct) :
    (xeEng (xeEnd s e n o run) e).threads.find n =
      some { (xeRun run s th).2.withOutcome o with out := some o, ended := s.now } ∧
    (xeEng (xeEnd s e n o run) e).n = (xeEng s e).n + 1 ∧ (xeEng (xeEnd s e n o run) e).sum = (xeEng s e).sum + (s.now - th.start) ∧
    (xeEnd s e n o run).xe.cls = s.xe.cls := by
  have hxe : (xeRun run s th).1.xe = s.xe := xe_of_part (xeRun_part .xe (by decide) run s th)
  have hcond : (engRuns s e && th.out.isNone) = true := by rw [hrun, hout]; rfl
  have hend : xeEnd s e n o run = modClu (modEng (xeRun run s th).1 e (fun g => { g with
      threads := g.threads.put n (some { (xeRun run s th).2.withOutcome o with out := some o, ended := s.now })
      n := g.n + 1, sum := g.sum + (s.now - th.start) })) (e / 16) (fun g => { g with done := min 4096 (g.done + 1) }) := by
    simp only [xeEnd, hth, hcond, if_true]
    cases o <;> rfl
  obtain ⟨u, hu⟩ : ∃ u, (xeRun run s th).1 = u := ⟨_, rfl⟩
  have heng : xeEng u e = xeEng s e := xeEng_of_eng (by rw [← hu, hxe]) e
  rw [hend, hu]
  have hsame := xeEng_modEng_same u e (fun g => { g with
      threads := g.threads.put n (some { (xeRun run s th).2.withOutcome o with out := some o, ended := s.now })
      n := g.n + 1, sum := g.sum + (s.now - th.start) })
  rw [heng] at hsame
  refine ⟨?_, congrArg XeEngine.n hsame, congrArg XeEngine.sum hsame, ?_⟩
  · exact (congrArg (fun x : XeEngine => x.threads.find n) hsame).trans (SMap.find_put_same _ _ _)
  · show u.xe.cls = s.xe.cls
    rw [← hu, hxe]

/-! ## Retirement -/

/-- A freed thread is gone, and only the engines and the ROB know (R272, R273). -/
theorem xeFreeThread_state (s : State) (e n : Nat) (r : XeRec) : (xeEng (xeFreeThread s e n r) e).threads.find n = none ∧
    (xeEng (xeFreeThread s e n r) e).reason = (xeEng s e).reason ∧ (xeFreeThread s e n r).xe.sends = s.xe.sends := by
  have heng : (xeFreeThread s e n r).xe.eng = (modEng s e (fun x => { x with threads := x.threads.put n none })).xe.eng := by
    unfold xeFreeThread
    dsimp only
    split <;> rfl
  rw [xeEng_of_eng heng, xeEng_modEng_same]
  refine ⟨SMap.find_put_same _ _ _, rfl, ?_⟩
  unfold xeFreeThread
  dsimp only
  split <;> rfl

/-- A thread whose turn it is retires in one step (R272, R273). -/
theorem xeRetire_turn {s : State} {e n : Nat} {th : XeThread} {o : XeOutcome} (hrun : engRuns s e = true)
    (hth : (xeEng s e).threads.find n = some th) (hout : th.out = some o) (hturn : xeTurn s th = true) :
    xeRetire s e n = xeFreeThread (xeRelease (xeAdds s th.adds) th o) e n th.r := by
  simp only [xeRetire, hth, hout, hrun, hturn, Bool.and_self, if_true]

theorem slc_xeAdds (s : State) (l : List (Nat × Int)) : (xeAdds s l).slc = s.slc := slc_of_part (xeAdds_part .slc (by decide) s l)

theorem returnSlice_of_slc {s t : State} (h : t.slc = s.slc) (p : Punt) : returnSlice t p = returnSlice s p := by
  simp only [returnSlice, ownerOf, sliceOf_of_slc h, h]

/-- A head put back into the return queue of its track (R271). -/
theorem retq_returnPut (s : State) (p : Punt) (stage : Nat) : (sliceOf (returnPut s p stage) (returnSlice s p)).retq.get [] (dirOf p.head.inp) =
    (sliceOf s (returnSlice s p)).retq.get [] (dirOf p.head.inp) ++ [{ stage := stage, p := p, since := s.now }] := by
  rw [returnPut, sliceOf_modSlice_same]
  exact SMap.get_upd_same _ _ _ _

theorem ellPush_of_ell {s t : State} (h : t.ell = s.ell) (k : Nat) (g : Seg) : (ellPush t k g).ell = (ellPush s k g).ell := by
  unfold ellPush ellPushAll modBundle modEll
  dsimp only
  rw [h]

/-- A head that is dropped retires its journal entry (R189, R271). -/
theorem puntDrop_state (s : State) (p : Punt) : (jrnlOf (sliceOf (puntDrop s p) p.jsl) (dirOf p.head.inp)).find p.slot = none ∧
    (puntDrop s p).slc.reports = s.slc.reports ∧ (puntDrop s p).xe = s.xe := by
  refine ⟨jrnlOf_jRetire_same _ _ _ _, ?_, xe_of_part (puntDrop_part .xe (by decide) s p)⟩
  show (dropBody s p.head).slc.reports = s.slc.reports
  unfold dropBody
  split
  · rfl
  · split <;> rfl

/-- A SEND that is allowed hands its ticket and output head to the Ell (R271). -/
theorem xeRelease_send (s : State) {th : XeThread} {tkt : Ticket} {out : List Byte} (h : xeSendBad th.r tkt out = false) :
    xeRelease s th (.send tkt out) = modXe (ellPush (count s 0xA 0x10) (bundleOfTicket (xeTicket th.r tkt out))
      (.head (bundleOfTicket (xeTicket th.r tkt out)) (xeTicket th.r tkt out) out th.r.p.head.tag))
      (fun x => { x with sends := x.sends.set false (th.r.p.jsl * 65536 + th.r.p.slot) true }) := by
  simp only [xeRelease, h, Bool.false_eq_true, if_false]

/-- A class without its front head, and without its place in the ROB (R268). -/
def waitTaken (w : XeWait) (rest : List XeWait) (x : XeClass) : XeClass :=
  { x with q := rest, rob := match w.re.bind (fun r => r.rob) with | some n => x.rob.erase n | none => x.rob }

theorem xeQwait_late {s : State} {c : Nat} {w : XeWait} {rest : List XeWait} (hq : (xeClassOf s c).q = w :: rest)
    (h : w.since + qwaitNs s < s.now) : xeQwait s c = puntDrop (count (modClass s c (waitTaken w rest)) 0xA 0x30) w.p := by
  unfold xeQwait
  rw [hq]
  exact if_pos h

/-! ## Fences -/

theorem xeLack_keeps (s : State) : (xeLack s).xe.eng = s.xe.eng ∧ (xeLack s).xe.clu = s.xe.clu ∧ (xeLack s).flt = s.flt := by
  refine forEach_inv (fun u : State => u.xe.eng = s.xe.eng ∧ u.xe.clu = s.xe.clu ∧ u.flt = s.flt) (fun n u hu => ?_) _ ⟨rfl, rfl, rfl⟩
  obtain ⟨h1, h2, h3⟩ := hu
  dsimp only
  split
  · exact ⟨by rw [event_xe]; exact h1, by rw [event_xe]; exact h2, by rw [event_flt]; exact h3⟩
  · split <;> exact ⟨h1, h2, h3⟩

/-- The head of an abandoned thread goes to the front of its class's queue, with its record (R276). -/
def requeued (now : Nat) (u : State) (th : XeThread) : State :=
  count (modClass u th.r.p.cls (fun c =>
    { c with q := { p := th.r.p, since := now - th.r.waited, re := some { th.r with retry := true } } :: c.q })) 0xA 0x20

theorem eng_requeued (now : Nat) (l : List XeThread) (s : State) : (l.foldl (requeued now) s).xe.eng = s.xe.eng :=
  foldl_inv (g := requeued now) (fun u : State => u.xe.eng = s.xe.eng) (fun _ _ h => h) l rfl

theorem xeFence_eq {s : State} {e : Nat} (h : (xeEng s e).reason = 0) (reason : Nat) : xeFence s e reason =
    xeLack (setFenced (((xeEng s e).threads.entries.map Prod.snd).reverse.foldl (requeued s.now)
      (modEng s e (fun x => { x with reason := reason, threads := {} }))) 0xA e true) := by
  unfold xeFence
  rw [if_pos h]
  rfl

/-- A fence takes an engine's threads and leaves its reason (R276). -/
theorem xeFence_state {s : State} {e : Nat} (h : (xeEng s e).reason = 0) (reason : Nat) :
    (xeEng (xeFence s e reason) e).reason = reason ∧ (xeEng (xeFence s e reason) e).threads = {} ∧
    isFenced (xeFence s e reason) 0xA e = true := by
  have hwalk := eng_requeued s.now ((xeEng s e).threads.entries.map Prod.snd).reverse
    (modEng s e (fun x => { x with reason := reason, threads := {} }))
  rw [xeFence_eq h]
  obtain ⟨u, hu⟩ : ∃ u, ((xeEng s e).threads.entries.map Prod.snd).reverse.foldl (requeued s.now)
    (modEng s e (fun x => { x with reason := reason, threads := {} })) = u := ⟨_, rfl⟩
  rw [hu] at hwalk ⊢
  obtain ⟨heng, -, hflt⟩ := xeLack_keeps (setFenced u 0xA e true)
  have hsame : xeEng (xeLack (setFenced u 0xA e true)) e = { xeEng s e with reason := reason, threads := {} } := by
    rw [xeEng_of_eng (heng.trans hwalk), xeEng_modEng_same]
  refine ⟨by rw [hsame], by rw [hsame], ?_⟩
  rw [isFenced, hflt]
  exact isFenced_setFenced_same _ _ _ _

theorem faultRise_xe (s : State) (blk bit inst : Nat) (d4 d5 : Word) : (faultRise s blk bit inst d4 d5).xe = s.xe :=
  xe_of_part (faultRise_part .xe (by decide) s _ _ _ _ _)

theorem condRise_xe (s : State) (blk bit unit : Nat) (d4 d5 : Word) : (condRise s blk bit unit d4 d5).xe = s.xe :=
  xe_of_part (condRise_part .xe (by decide) s _ _ _ _ _)

/-- A walk that fences every engine of a list leaves no reason 0 among them (R277). -/
def engStopped (reason e : Nat) (u : State) : State :=
  if (xeEng u e).reason = 0 then setFenced (modEng u e (fun x => { x with reason := reason, threads := {} })) 0xA e true else u

theorem engStopped_state (reason e : Nat) (u : State) : (engStopped (reason + 1) e u).xe.clu = u.xe.clu ∧
    (xeEng (engStopped (reason + 1) e u) e).reason ≠ 0 ∧
    ∀ d, (xeEng u d).reason ≠ 0 → (xeEng (engStopped (reason + 1) e u) d).reason ≠ 0 := by
  unfold engStopped
  split
  · have hsame : ∀ d, d = e → (xeEng (setFenced (modEng u e (fun x => { x with reason := reason + 1, threads := {} })) 0xA e true) d).reason ≠ 0 := by
      rintro d rfl
      have h : xeEng (setFenced (modEng u d (fun x => { x with reason := reason + 1, threads := {} })) 0xA d true) d =
          { xeEng u d with reason := reason + 1, threads := {} } := xeEng_modEng_same u d _
      rw [h]
      exact Nat.succ_ne_zero _
    refine ⟨rfl, hsame e rfl, fun d hd => ?_⟩
    by_cases hde : d = e
    · exact hsame d hde
    · exact (congrArg XeEngine.reason (xeEng_modEng_other u _ hde)).trans_ne hd
  · next h => exact ⟨rfl, h, fun _ hd => hd⟩

/-- The heads that a record domain held are lost (R277). -/
def recLost (s : State) (l : List XeRec) : State := l.foldl (fun u r => puntDrop (count u 0xA 0x50) r.p) s

/-- The class queues and ROBs without the heads that a record domain held (R277). -/
def recPurged (s : State) (k : Nat) (lost : List XeRec) : State :=
  let gone (c n : Nat) : Bool := lost.any (fun r => decide (r.rob = some n) && decide (r.p.cls = c))
  modXe s (fun x => { x with cls :=
    ⟨x.cls.entries.map (fun c => (c.1, { c.2 with
      q := c.2.q.filter (fun w => !(match w.re with | some r => r.clu == k | none => false))
      rob := c.2.rob.filter (fun n => !(gone c.1 n)) }))⟩ })

/-- The heads a record domain holds: those of its threads and those waiting for a re-dispatch (R277). -/
def cluHeld (s : State) (k : Nat) : List XeRec :=
  (engsOf k).flatMap (fun e => (xeEng s e).threads.entries.map (fun x => x.2.r)) ++
    s.xe.cls.entries.flatMap (fun c => (c.2.q.filterMap (fun w => w.re)).filter (fun r => r.clu == k))

/-- A cluster without its record domain and its engines, before it is reported (R277). -/
def domainGone (s : State) (k : Nat) : State :=
  forEach (engsOf k) (engStopped 4) (modClu (recLost (recPurged s k (cluHeld s k)) (cluHeld s k)) k (fun x => { x with recOk := false }))

theorem xeRecFail_eq {s : State} {k : Nat} (h : (xeClu s k).recOk = true) : xeRecFail s k =
    xeLack (condRise (setFenced (domainGone s k) 0xA (128 + k) true) 0xA 4 k (lo32 (min 0xFFFF (cluHeld s k).length)) 0) := by
  unfold xeRecFail
  rw [if_pos h]
  rfl

/-- No engine of the cluster runs, and its record domain is marked. -/
theorem domainGone_state (s : State) (k : Nat) : (xeClu (domainGone s k) k).recOk = false ∧
    ∀ e ∈ engsOf k, (xeEng (domainGone s k) e).reason ≠ 0 := by
  unfold domainGone
  obtain ⟨v, hv⟩ : ∃ v, recLost (recPurged s k (cluHeld s k)) (cluHeld s k) = v := ⟨_, rfl⟩
  rw [hv]
  refine ⟨?_, fun e he => forEach_reaches (P := fun _ => True) (Q := fun u => (xeEng u e).reason ≠ 0) he (fun _ _ _ => trivial)
    (fun u _ => (engStopped_state 3 e u).2.1) (fun n u => (engStopped_state 3 n u).2.2 e) trivial⟩
  refine forEach_inv (fun u : State => (xeClu u k).recOk = false) (fun e u hu => ?_) _ ?_
  · unfold xeClu
    rw [(engStopped_state 3 e u).1]
    exact hu
  · rw [xeClu_modClu_same]

/-- The end of a record domain (R277). -/
theorem xeRecFail_state {s : State} {k : Nat} (h : (xeClu s k).recOk = true) : (xeClu (xeRecFail s k) k).recOk = false ∧
    isFenced (xeRecFail s k) 0xA (128 + k) = true ∧ ∀ e ∈ engsOf k, (xeEng (xeRecFail s k) e).reason ≠ 0 := by
  rw [xeRecFail_eq h]
  obtain ⟨hclu, hstop⟩ := domainGone_state s k
  obtain ⟨u, hu⟩ : ∃ u, domainGone s k = u := ⟨_, rfl⟩
  rw [hu] at hclu hstop ⊢
  have hxe := condRise_xe (setFenced u 0xA (128 + k) true) 0xA 4 k (lo32 (min 0xFFFF (cluHeld s k).length)) 0
  have hflt := fenced_condRise (setFenced u 0xA (128 + k) true) 0xA 4 k (lo32 (min 0xFFFF (cluHeld s k).length)) 0
  obtain ⟨w, hw⟩ : ∃ w, condRise (setFenced u 0xA (128 + k) true) 0xA 4 k (lo32 (min 0xFFFF (cluHeld s k).length)) 0 = w := ⟨_, rfl⟩
  rw [hw] at hxe hflt ⊢
  have hxe' : w.xe = u.xe := hxe
  obtain ⟨keng, kclu, kflt⟩ := xeLack_keeps w
  refine ⟨?_, ?_, fun e he => ?_⟩
  · unfold xeClu
    rw [kclu, hxe']
    exact hclu
  · rw [isFenced, kflt, hflt]
    exact isFenced_setFenced_same _ _ _ _
  · rw [xeEng_of_eng (keng.trans (congrArg XeSt.eng hxe'))]
    exact hstop e he

/-- Settles O36: the two dispatches, the three outcomes, the three retirements, the wait that is over, the two thread limits, and a record
domain that fails. -/
theorem engineHeads : Obligations.EngineHeads := by
  unfold Obligations.EngineHeads
  refine ⟨fun c w k e s hon hc ht hre => ?fresh, fun c w r k e s hon hc ht hre => ?again,
    fun e n stage vec run th s hon hrun hth hout => ?ret, fun e n tkt out run th s hon hrun hth hout => ?send,
    fun e n run th s hon hrun hth hout => ?drop, fun e n th s hon hrun hth hout hturn => ?retireDrop,
    fun e n th stage vec s hon hrun hth hout hturn => ?retireRet, fun e n th tkt out s hon hrun hth hout hturn hgood => ?retireSend,
    fun c w rest s hon hq hlate => ?qwait, fun e n th s hon hrun hth hout hlim hretry => ?limit,
    fun e n th s hon hrun hth hout hlim hretry => ?limitAgain, fun k s hon hrec => ?rec⟩
  case fresh =>
    obtain ⟨hq, hrr, -, hth⟩ := xeDispatchTo_state s c w k e
    have hrec : dispatchRec s c w k =
        { p := w.p, a := regRaw s .xeClassA [c], b := regRaw s .xeClassB [c], c := regRaw s .xeClassC [c], snap := snapNow s,
          epoch := s.fur.seq % 4, clu := k, waited := s.now - w.since,
          rob := if tbit (regRaw s .xeClassA [c]) 30 then some (xeClassOf s c).next else none } := by
      simp only [dispatchRec, waitVals, hre, Option.getD_none]
    rw [hrec] at hth
    rw [← xeDispatch_to hc ht] at hq hrr hth
    exact ⟨_, congrArg Host.Outcome.next (if_pos hon), hq, hrr, by rw [hth]; rfl, by rw [hth]; rfl, by rw [hth]; rfl, by rw [hth]; rfl,
      fun q hp => by rw [xeDispatch_to hc ht]; exact xeDispatchTo_part q (by simpa using hp) _ _ _ _ _⟩
  case again =>
    obtain ⟨hq, hrr, hrob, hth⟩ := xeDispatchTo_state s c w k e
    have hrec : dispatchRec s c w k = { r with clu := k, waited := s.now - w.since } := by
      simp only [dispatchRec, hre, Option.getD_some]
    rw [hrec] at hth
    have hrob' := hrob (by rw [hre]; rfl)
    rw [← xeDispatch_to hc ht] at hq hrob' hth
    exact ⟨_, congrArg Host.Outcome.next (if_pos hon), hq, hrob', by rw [hth]; rfl, by rw [hth]; rfl,
      fun q hp => by rw [xeDispatch_to hc ht]; exact xeDispatchTo_part q (by simpa using hp) _ _ _ _ _⟩
  case ret =>
    obtain ⟨hfind, hn, hsum, hcls⟩ := xeEnd_state hrun hth hout (.ret (stage.val + 1) (vec.map (fun x => (x.1.val, x.2)))) run
    obtain ⟨h1, h2, h3, h4⟩ := xeRun_thread run s th
    refine ⟨_, congrArg Host.Outcome.next (if_pos hon), ?_, ?_, ?_, ?_, hcls, fun q hp => xeEnd_part q (by simpa using hp) _ _ _ _ _⟩
    · rw [hfind]
      simp [XeThread.withOutcome, h1, h2]
    · rw [hfind]
      rfl
    · rw [hfind]
      simp [XeThread.withOutcome, h4, List.foldl_map]
    · rw [hn, hsum]
  case send =>
    obtain ⟨hfind, hn, hsum, hcls⟩ := xeEnd_state hrun hth hout (.send tkt out) run
    obtain ⟨h1, h2, h3, h4⟩ := xeRun_thread run s th
    refine ⟨_, congrArg Host.Outcome.next (if_pos hon), ?_, ?_, ?_, ?_, hcls, fun q hp => xeEnd_part q (by simpa using hp) _ _ _ _ _⟩
    · rw [hfind]
      simp [XeThread.withOutcome, h1, h2]
    · rw [hfind]
      rfl
    · rw [hfind]
      simp [XeThread.withOutcome, h4]
    · rw [hn, hsum]
  case drop =>
    obtain ⟨hfind, hn, hsum, hcls⟩ := xeEnd_state hrun hth hout .drop run
    obtain ⟨h1, h2, h3, h4⟩ := xeRun_thread run s th
    refine ⟨_, congrArg Host.Outcome.next (if_pos hon), ?_, ?_, ?_, ?_, hcls, fun q hp => xeEnd_part q (by simpa using hp) _ _ _ _ _⟩
    · rw [hfind]
      simp [XeThread.withOutcome, h1, h2]
    · rw [hfind]
      rfl
    · rw [hfind]
      simp [XeThread.withOutcome, h3, h4]
    · rw [hn, hsum]
  case retireDrop =>
    have hend := onData_run hon (xeRetire_turn hrun hth hout hturn)
    obtain ⟨hjrnl, hrep, -⟩ := puntDrop_state (count (xeAdds s th.adds) 0xA 0x18) th.r.p
    obtain ⟨u, hu⟩ : ∃ u, puntDrop (count (xeAdds s th.adds) 0xA 0x18) th.r.p = u := ⟨_, rfl⟩
    have hrel : xeRelease (xeAdds s th.adds) th .drop = u := hu
    rw [hrel] at hend
    rw [hu] at hjrnl hrep
    obtain ⟨hfree, -, -⟩ := xeFreeThread_state u e.val n.val th.r
    have hslc := slc_of_part (xeFreeThread_part .slc (by decide) u e.val n.val th.r)
    refine ⟨_, congrArg Host.Outcome.next hend, hfree, ?_, ?_, fun q hp => ?_⟩
    · rw [sliceOf_of_slc hslc]
      exact hjrnl
    · rw [hslc, hrep]
      exact congrArg SlcBlk.reports (slc_xeAdds s th.adds)
    · have hq : q ≠ .ctr ∧ q ≠ .slc ∧ q ≠ .xe ∧ q ≠ .ell := by simpa using hp
      obtain ⟨h1, h2, h3, h4⟩ := hq
      rw [xeFreeThread_part q h3, ← hu, puntDrop_part q ⟨h2, h4⟩, count_part q (by simp [h1]), xeAdds_part q h1]
  case retireRet =>
    have hend := onData_run hon (xeRetire_turn hrun hth hout hturn)
    have hretq := retq_returnPut (count (xeAdds s th.adds) 0xA 0x08) { th.r.p with vec := th.vec } stage
    have hslc0 : (count (xeAdds s th.adds) 0xA 0x08).slc = s.slc := slc_xeAdds s th.adds
    have hret : returnSlice (count (xeAdds s th.adds) 0xA 0x08) { th.r.p with vec := th.vec } = returnSlice s th.r.p :=
      returnSlice_of_slc hslc0 _
    have hnow : (count (xeAdds s th.adds) 0xA 0x08).now = s.now := now_of_part (xeAdds_part .now (by decide) s th.adds)
    rw [hret, sliceOf_of_slc hslc0, hnow] at hretq
    obtain ⟨u, hu⟩ : ∃ u, returnPut (count (xeAdds s th.adds) 0xA 0x08) { th.r.p with vec := th.vec } stage = u := ⟨_, rfl⟩
    have hrel : xeRelease (xeAdds s th.adds) th (.ret stage vec) = u := hu
    rw [hrel] at hend
    rw [hu] at hretq
    obtain ⟨hfree, -, -⟩ := xeFreeThread_state u e.val n.val th.r
    refine ⟨_, congrArg Host.Outcome.next hend, hfree, ?_, fun q hp => ?_⟩
    · rw [sliceOf_of_slc (slc_of_part (xeFreeThread_part .slc (by decide) u e.val n.val th.r))]
      exact hretq
    · have hq : q ≠ .ctr ∧ q ≠ .slc ∧ q ≠ .xe := by simpa using hp
      obtain ⟨h1, h2, h3⟩ := hq
      rw [xeFreeThread_part q h3, ← hu, returnPut_part q h2, count_part q (by simp [h1]), xeAdds_part q h1]
  case retireSend =>
    have hend := onData_run hon (xeRetire_turn hrun hth hout hturn)
    have hell0 : (count (xeAdds s th.adds) 0xA 0x10).ell = s.ell := ell_of_part (xeAdds_part .ell (by decide) s th.adds)
    have hell := ellPush_of_ell hell0 (bundleOfTicket (xeTicket th.r tkt out))
      (.head (bundleOfTicket (xeTicket th.r tkt out)) (xeTicket th.r tkt out) out th.r.p.head.tag)
    have hrel := xeRelease_send (xeAdds s th.adds) hgood
    rw [hrel] at hend
    obtain ⟨u, hu⟩ : ∃ u, ellPush (count (xeAdds s th.adds) 0xA 0x10) (bundleOfTicket (xeTicket th.r tkt out))
      (.head (bundleOfTicket (xeTicket th.r tkt out)) (xeTicket th.r tkt out) out th.r.p.head.tag) = u := ⟨_, rfl⟩
    rw [hu] at hend hell
    obtain ⟨hfree, -, hsends⟩ := xeFreeThread_state
      (modXe u (fun x => { x with sends := x.sends.set false (th.r.p.jsl * 65536 + th.r.p.slot) true })) e.val n.val th.r
    refine ⟨_, congrArg Host.Outcome.next hend, hfree, ?_, ?_, fun q hp => ?_⟩
    · rw [ell_of_part (xeFreeThread_part .ell (by decide) _ _ _ _)]
      exact hell
    · rw [hsends]
      exact SMap.get_set_same _ _ _ _
    · have hq : q ≠ .ctr ∧ q ≠ .xe ∧ q ≠ .ell := by simpa using hp
      obtain ⟨h1, h2, h3⟩ := hq
      rw [xeFreeThread_part q h2, modXe_part q h2, ← hu, ellPush_part q h3, count_part q (by simp [h1]), xeAdds_part q h1]
  case qwait =>
    have hend := onData_run hon (xeQwait_late hq hlate)
    obtain ⟨hjrnl, -, hxe⟩ := puntDrop_state (count (modClass s c.val (waitTaken w rest)) 0xA 0x30) w.p
    refine ⟨_, congrArg Host.Outcome.next hend, ?_, hjrnl, fun q hp => ?_⟩
    · rw [xeClassOf_of_cls (congrArg XeSt.cls hxe)]
      exact congrArg XeClass.q (xeClassOf_modClass_same s c.val (waitTaken w rest))
    · have hq : q ≠ .ctr ∧ q ≠ .slc ∧ q ≠ .xe ∧ q ≠ .ell := by simpa using hp
      obtain ⟨h1, h2, h3, h4⟩ := hq
      rw [puntDrop_part q ⟨h2, h4⟩, count_part q (by simp [h1]), modClass_part q h3]
  case limit =>
    have hcond : (engRuns s e.val && th.out.isNone && decide (th.start + limitNs th.r.b < s.now)) = true := by
      rw [hrun, hout, decide_eq_true hlim]
      rfl
    have hover : xeOverlimit s e.val n.val = xeFaultFence s 6 e.val 2 := by
      simp only [xeOverlimit, hth, hcond, hretry, if_true, Bool.false_eq_true, if_false]
    obtain ⟨h1, h2, h3⟩ := xeFence_state (reason_of_engRuns hrun) 2
    obtain ⟨u, hu⟩ : ∃ u, xeFence s e.val 2 = u := ⟨_, rfl⟩
    have hframe : AgreeBut [.ctr, .flt, .rcd, .xe] s u := fun q hp => by rw [← hu]; exact xeFence_part q (by simpa using hp) s _ _
    have hend : (if onData s then xeOverlimit s e.val n.val else s) = faultRise u 0xA 6 e.val (lo32 2) 0 := by
      rw [if_pos hon, hover, ← hu]
      rfl
    rw [hu] at h1 h2 h3
    have heng := xeEng_of_eng (congrArg XeSt.eng (faultRise_xe u 0xA 6 e.val (lo32 2) 0)) e.val
    refine ⟨_, congrArg Host.Outcome.next hend, by rw [heng, h1], by rw [heng, h2], ?_, fun q hp => ?_⟩
    · rw [isFenced, fenced_faultRise]
      exact h3
    · rw [faultRise_part q (by simp at hp; simp [hp])]
      exact hframe q hp
  case limitAgain =>
    have hcond : (engRuns s e.val && th.out.isNone && decide (th.start + limitNs th.r.b < s.now)) = true := by
      rw [hrun, hout, decide_eq_true hlim]
      rfl
    have hover : xeOverlimit s e.val n.val =
        event (puntDrop (xeFreeThread (count s 0xA 0x28) e.val n.val th.r) th.r.p) 0x2802 e.val (th.r.p.cls * 256 + th.r.p.slice) := by
      simp only [xeOverlimit, hth, hcond, hretry, if_true]
    have hend := onData_run hon hover
    obtain ⟨hfree, hreason, -⟩ := xeFreeThread_state (count s 0xA 0x28) e.val n.val th.r
    have hflt := flt_of_part (xeFreeThread_part .flt (by decide) (count s 0xA 0x28) e.val n.val th.r)
    have hframe : AgreeBut [.ctr, .xe] s (xeFreeThread (count s 0xA 0x28) e.val n.val th.r) := fun q hp => by
      have hq : q ≠ .ctr ∧ q ≠ .xe := by simpa using hp
      rw [xeFreeThread_part q hq.2, count_part q (by simp [hq.1])]
    obtain ⟨u, hu⟩ : ∃ u, xeFreeThread (count s 0xA 0x28) e.val n.val th.r = u := ⟨_, rfl⟩
    rw [hu] at hend hfree hreason hflt hframe
    obtain ⟨-, -, hxe⟩ := puntDrop_state u th.r.p
    have heng : xeEng (event (puntDrop u th.r.p) 0x2802 e.val (th.r.p.cls * 256 + th.r.p.slice)) e.val = xeEng u e.val :=
      xeEng_of_eng (by rw [event_xe, hxe]) _
    refine ⟨_, congrArg Host.Outcome.next hend, ?_, by rw [heng]; exact hfree, ?_, fun q hp => ?_⟩
    · rw [heng, hreason]
      exact reason_of_engRuns hrun
    · rw [event_flt, flt_of_part (puntDrop_part .flt (by decide) u th.r.p)]
      exact hflt
    · have hq : q ≠ .ctr ∧ q ≠ .rcd ∧ q ≠ .slc ∧ q ≠ .xe ∧ q ≠ .ell := by simpa using hp
      obtain ⟨h1, h2, h3, h4, h5⟩ := hq
      rw [event_part q ⟨h1, h2⟩, puntDrop_part q ⟨h3, h5⟩]
      exact hframe q (by simp [h1, h4])
  case rec =>
    obtain ⟨h1, h2, h3⟩ := xeRecFail_state hrec
    refine ⟨_, congrArg Host.Outcome.next (if_pos hon), h1, h2, ?_, fun q hp => xeRecFail_part q (by simpa using hp) s k.val⟩
    exact List.all_eq_true.2 fun e he => by simpa using h3 e he

end Sys2Proof.Machine
end

section
/-! The statement about the engines' management (R265, R276 to R279). -/

namespace Sys2Proof.Machine

/-! ## Laggard windows -/

theorem forEach_cons (k : Nat) (l : List Nat) (g : Nat → State → State) (s : State) : forEach (k :: l) g s = forEach l g (g k s) := rfl

/-- An engine's samples start afresh (R278). -/
def samplesNew (e : Nat) (u : State) : State :=
  modEng u e (fun x => { x with mean := meanUnits 0xFFFF (x.sum, x.n), n := 0, sum := 0 })

/-- The window end of a cluster with no verdicts (R278). -/
def windowQuiet (k : Nat) (s : State) : State :=
  forEach (engsOf k) samplesNew (modClu s k (fun x => { x with
    median := match xeMedian s k with | some m => meanUnits 0x1FFF m | none => 0 }))

/-- Without EN a window judges no engine (R278). -/
theorem xeWindow_quiet {s : State} (h : rb s .xeLagCfg [] 31 = false) (k : Nat) : xeWindow s k = windowQuiet k s := by
  unfold xeWindow windowQuiet
  rw [h]
  cases xeMedian s k with
  | none => rfl
  | some m => rfl

/-- What a window without verdicts leaves as it was. -/
structure WindowKeeps (s u : State) : Prop where
  frame : AgreeBut [.xe] s u
  cls : u.xe.cls = s.xe.cls
  window : u.xe.window = s.xe.window
  reason : ∀ e, (xeEng u e).reason = (xeEng s e).reason

theorem reason_samplesNew (e d : Nat) (u : State) : (xeEng (samplesNew e u) d).reason = (xeEng u d).reason := by
  by_cases h : d = e
  · subst h
    rw [samplesNew, xeEng_modEng_same]
  · exact congrArg XeEngine.reason (xeEng_modEng_other u _ h)

theorem n_samplesNew_same (e : Nat) (u : State) : (xeEng (samplesNew e u) e).n = 0 := by rw [samplesNew, xeEng_modEng_same]

theorem n_samplesNew_zero (e d : Nat) (u : State) (hd : (xeEng u d).n = 0) : (xeEng (samplesNew e u) d).n = 0 := by
  by_cases h : d = e
  · rw [h]
    exact n_samplesNew_same e u
  · exact (congrArg XeEngine.n (xeEng_modEng_other u _ h)).trans hd

theorem WindowKeeps.samplesNew {s u : State} (h : WindowKeeps s u) (e : Nat) : WindowKeeps s (samplesNew e u) where
  frame := h.frame.trans fun q hq => modXe_part q (by simpa using hq) _ _
  cls := h.cls
  window := h.window
  reason d := (reason_samplesNew e d u).trans (h.reason d)

theorem WindowKeeps.windowQuiet {s u : State} (h : WindowKeeps s u) (k : Nat) : WindowKeeps s (windowQuiet k u) := by
  refine forEach_inv (WindowKeeps s) (fun e v hv => hv.samplesNew e) _ ?_
  exact ⟨h.frame.trans fun q hq => modXe_part q (by simpa using hq) _ _, h.cls, h.window, h.reason⟩

theorem n_windowQuiet_zero (k e : Nat) (u : State) (h : (xeEng u e).n = 0) : (xeEng (windowQuiet k u) e).n = 0 :=
  forEach_inv (fun v : State => (xeEng v e).n = 0) (fun d v hv => n_samplesNew_zero d e v hv) _ h

theorem n_windowQuiet_mem {k e : Nat} (h : e ∈ engsOf k) (u : State) : (xeEng (windowQuiet k u) e).n = 0 :=
  forEach_reaches (P := fun _ => True) (Q := fun v : State => (xeEng v e).n = 0) h (fun _ _ _ => trivial)
    (fun v _ => n_samplesNew_same e v) (fun d v hv => n_samplesNew_zero d e v hv) trivial

theorem mem_engsOf {e : Nat} : e ∈ engsOf (e / 16) := List.mem_map.2 ⟨e % 16, List.mem_range.2 (Nat.mod_lt _ (by decide)), Nat.div_add_mod e 16⟩

/-- Without EN no cluster of a window has a verdict (R278). -/
theorem xeWindows_quiet (l : List Nat) {u : State} (h : rb u .xeLagCfg [] 31 = false) :
    forEach l (fun k t => xeWindow t k) u = forEach l windowQuiet u := by
  induction l generalizing u with
  | nil => rfl
  | cons k l ih =>
    have hkeep : WindowKeeps u (windowQuiet k u) := WindowKeeps.windowQuiet ⟨fun _ _ => rfl, rfl, rfl, fun _ => rfl⟩ k
    have hregs : (windowQuiet k u).regs = u.regs := regs_of_part (hkeep.frame .regs (by decide))
    have hrest := ih ((rb_of_regs hregs _ _ _).trans h)
    rw [forEach_cons, forEach_cons, xeWindow_quiet h]
    exact hrest

/-- A window without EN, over every cluster (R278). -/
theorem xeLagWindow_quiet {s : State} (hw : s.xe.window ≠ tbNs s / 1000000) (h : rb s .xeLagCfg [] 31 = false) :
    xeLagWindow s = forEach (List.range 8) windowQuiet (modXe s (fun x => { x with window := tbNs s / 1000000 })) := by
  unfold xeLagWindow
  dsimp only
  rw [if_pos hw]
  exact xeWindows_quiet _ ((rb_of_regs rfl _ _ _).trans h)

theorem xeLagWindow_state {s : State} (hw : s.xe.window ≠ tbNs s / 1000000) (h : rb s .xeLagCfg [] 31 = false) :
    WindowKeeps (modXe s (fun x => { x with window := tbNs s / 1000000 })) (xeLagWindow s) ∧
    ∀ e, e < 128 → (xeEng (xeLagWindow s) e).n = 0 := by
  rw [xeLagWindow_quiet hw h]
  refine ⟨forEach_inv _ (fun k u hu => hu.windowQuiet k) _ ⟨fun _ _ => rfl, rfl, rfl, fun _ => rfl⟩, fun e he => ?_⟩
  exact forEach_reaches (P := fun _ => True) (Q := fun v : State => (xeEng v e).n = 0) (List.mem_range.2 (by omega : e / 16 < 8))
    (fun _ _ _ => trivial) (fun v _ => n_windowQuiet_mem mem_engsOf v) (fun k v hv => n_windowQuiet_zero k e v hv) trivial

/-- A fence by the host leaves reason 5 and no thread (R276). -/
theorem xeHostFence_state {s : State} {e : Nat} (h : (xeEng s e).reason = 0) : (xeEng (xeHostFence s e) e).reason = 5 ∧
    (xeEng (xeHostFence s e) e).threads = {} ∧ isFenced (xeHostFence s e) 0xA e = true ∧
    AgreeBut [.ctr, .flt, .rcd, .xe] s (xeHostFence s e) := by
  obtain ⟨h1, h2, h3⟩ := xeFence_state h 5
  have hframe : AgreeBut [.ctr, .flt, .rcd, .xe] s (xeFence s e 5) := fun q hp => xeFence_part q (by simpa using hp) s _ _
  rw [xeHostFence, if_pos h]
  obtain ⟨u, hu⟩ : ∃ u, xeFence s e 5 = u := ⟨_, rfl⟩
  rw [hu] at h1 h2 h3 hframe ⊢
  have heng := xeEng_of_eng (congrArg XeSt.eng (event_xe u 0x2801 e 5)) e
  refine ⟨by rw [heng, h1], by rw [heng, h2], by rwa [isFenced, event_flt], hframe.trans fun q hp => ?_⟩
  exact event_part q (by simp at hp; simp [hp]) _ _ _ _

/-! ## Microcode -/

/-- A load that is due pauses its cluster and clears the half (R279). -/
theorem ucodeLoad_due {s : State} {k : Nat} {half : Bool} (hdue : ucodeDue s = true) (hnext : ucodeNext s = some k)
    (hhalf : half = applyHalf s) (hload : s.xe.load = .idle ∨ s.xe.load = .resume) (hnamed : halfNamed s half = false) :
    ucodeLoad s k half =
      modXe (modClu s k (fun x => if half then { x with paused := true, half1 := none } else { x with paused := true, half0 := none }))
        (fun x => { x with load := .drain, loadClu := k, loadHalf := half.toNat }) :=
  if_pos ⟨hdue, hnext, hhalf, hload, by rw [hnamed]; rfl⟩

/-- A cluster with a half loaded, back in dispatch (R279). -/
def halfLoaded (s : State) (code : Option XeCode) (x : XeCluster) : XeCluster :=
  if s.xe.loadHalf = 0 then { x with paused := false, done := 0, half0 := code } else { x with paused := false, done := 0, half1 := code }

theorem halfLoaded_state (s : State) (code : Option XeCode) (x : XeCluster) : (halfLoaded s code x).paused = false ∧
    (halfLoaded s code x).done = 0 ∧
    (if s.xe.loadHalf = 0 then (halfLoaded s code x).half0 else (halfLoaded s code x).half1) = code ∧
    (if s.xe.loadHalf = 0 then (halfLoaded s code x).half1 else (halfLoaded s code x).half0) =
      (if s.xe.loadHalf = 0 then x.half1 else x.half0) := by
  unfold halfLoaded
  by_cases h : s.xe.loadHalf = 0
  · simp only [if_pos h, and_self]
  · simp only [if_neg h, and_self]

/-- A cluster's half as a load leaves it, with the apply's list of clusters done (R279). -/
def ucodeStored (s : State) : State :=
  modApply (modXe (modClu s s.xe.loadClu (halfLoaded s (some (Config.ucode (devSect s (tunBase s.img.apply.tun) 6)))))
    (fun x => { x with load := .resume })) (fun a => { a with clus := a.clus ++ [s.xe.loadClu] })

theorem ucodeStored_state (s : State) : (ucodeStored s).xe.load = .resume ∧ (xeClu (ucodeStored s) s.xe.loadClu).paused = false ∧
    (if s.xe.loadHalf = 0 then (xeClu (ucodeStored s) s.xe.loadClu).half0 else (xeClu (ucodeStored s) s.xe.loadClu).half1) =
      some (Config.ucode (devSect s (tunBase s.img.apply.tun) 6)) ∧
    (if s.xe.loadHalf = 0 then (xeClu (ucodeStored s) s.xe.loadClu).half1 else (xeClu (ucodeStored s) s.xe.loadClu).half0) =
      (if s.xe.loadHalf = 0 then (xeClu s s.xe.loadClu).half1 else (xeClu s s.xe.loadClu).half0) ∧
    (xeClu (ucodeStored s) s.xe.loadClu).done = 0 ∧ (ucodeStored s).img.apply.clus = s.img.apply.clus ++ [s.xe.loadClu] ∧
    AgreeBut [.img, .xe] s (ucodeStored s) := by
  have hclu : xeClu (ucodeStored s) s.xe.loadClu =
      halfLoaded s (some (Config.ucode (devSect s (tunBase s.img.apply.tun) 6))) (xeClu s s.xe.loadClu) := xeClu_modClu_same _ _ _
  obtain ⟨h1, h2, h3, h4⟩ := halfLoaded_state s (some (Config.ucode (devSect s (tunBase s.img.apply.tun) 6))) (xeClu s s.xe.loadClu)
  rw [hclu]
  refine ⟨rfl, h1, h3, h4, h2, rfl, fun q hp => ?_⟩
  have hq : q ≠ .img ∧ q ≠ .xe := by simpa using hp
  obtain ⟨himg, hxe⟩ := hq
  rw [ucodeStored, modApply_part q himg, modXe_part q hxe, modClu_part q hxe]

theorem ucodeWritten_good {s : State} (hload : s.xe.load = .load) (hok : devSectsOk s (tunBase s.img.apply.tun) [6] = true) :
    ucodeWritten s = event (ucodeStored s) 0x2806 s.xe.loadClu s.xe.loadHalf := by
  simp only [ucodeWritten, if_pos hload, hok, Bool.not_true, Bool.false_eq_true, if_false]
  rfl

theorem ucodeWritten_bad {s : State} (hload : s.xe.load = .load) (hok : devSectsOk s (tunBase s.img.apply.tun) [6] = false) :
    ucodeWritten s = sectBroken s s.img.apply.tun := by
  simp only [ucodeWritten, if_pos hload, hok, Bool.not_false, if_true]

/-! ## Class registers -/

theorem writeReg_class (s : State) (c : Nat) (w : Fin 3) (v : Word) : writeReg s (classReg w.val) [c] v = (classWrite s c w.val v, false) := by
  match w with
  | 0 => rfl
  | 1 => rfl
  | 2 => rfl

theorem ownWrite_class {s t : State} {slot : Fin 4} {c : Fin 64} {w : Fin 3} {v : Word}
    (hmay : ownerMay s slot (classReg w.val) [c.val] = true) (ht : classWrite s c.val w.val v = t) :
    sessWrite s slot.val .owner (Reg.addr (classReg w.val) [c.val]) v = { t with acc := (stOk, 0) } := by
  have hw : writeReg s (classReg w.val) [c.val] v = (t, false) := by rw [writeReg_class, ht]
  revert hmay hw
  match w with
  | 0 => exact fun hmay hw => ownWrite_of_writeReg hmay hw (by simp [classReg, Reg.info, idxFit]) rfl (by decide) (by decide)
  | 1 => exact fun hmay hw => ownWrite_of_writeReg hmay hw (by simp [classReg, Reg.info, idxFit]) rfl (by decide) (by decide)
  | 2 => exact fun hmay hw => ownWrite_of_writeReg hmay hw (by simp [classReg, Reg.info, idxFit]) rfl (by decide) (by decide)

/-- Settles O37: a window without EN, the host's fence, the four steps of a load, and the two ends of a class write. -/
theorem engineManagement : Obligations.EngineManagement := by
  unfold Obligations.EngineManagement
  refine ⟨fun s hon hw hen => ?window, fun slot val s hmay hgo hreason => ?fence,
    fun k half s hon hdue hnext hhalf hload hnamed => ?load, fun s hon hload hout => ?drained, fun s hon hload hok => ?written,
    fun s hon hload hbad => ?broken, fun slot c w val s hmay hd hok => ?staged, fun slot c w val s hmay hbad => ?refused⟩
  case window =>
    obtain ⟨hkeep, hzero⟩ := xeLagWindow_state hw hen
    refine ⟨_, congrArg Host.Outcome.next (if_pos hon), hkeep.window, ?_, hkeep.cls, ?_⟩
    · exact List.all_eq_true.2 fun e he => by
        rw [decide_eq_true (hzero e (List.mem_range.1 he)), Bool.true_and]
        exact decide_eq_true (hkeep.reason e)
    · exact AgreeBut.trans (fun q hq => modXe_part q (by simpa using hq) _ _) hkeep.frame
  case fence =>
    have hw : writeReg s .xeEngineFence [] val = (if tbit val 31 then xeHostFence s (fld val 6 0) else s, false) := rfl
    rw [if_pos hgo] at hw
    have hend := ownWrite_of_writeReg hmay hw rfl rfl (by decide) (by decide)
    obtain ⟨h1, h2, h3, hframe⟩ := xeHostFence_state hreason
    obtain ⟨u, hu⟩ : ∃ u, xeHostFence s (fld val 6 0) = u := ⟨_, rfl⟩
    rw [hu] at hend h1 h2 h3 hframe
    exact ⟨_, congrArg Host.Outcome.next hend, rfl, h1, h2, h3, AgreeBut.acc (by simp) _ (hframe.mono (by simp))⟩
  case load =>
    have hend := onData_run hon (ucodeLoad_due hdue hnext hhalf hload hnamed)
    have hsame := xeClu_modClu_same s k.val (fun x => if half then { x with paused := true, half1 := none } else { x with paused := true, half0 := none })
    have hframe : AgreeBut [.xe] s (modXe (modClu s k.val (fun x => if half then { x with paused := true, half1 := none } else { x with paused := true, half0 := none }))
        (fun x => { x with load := .drain, loadClu := k.val, loadHalf := half.toNat })) := fun q hp => by
      rw [modXe_part q (by simpa using hp), modClu_part q (by simpa using hp)]
    cases half with
    | true => exact ⟨_, congrArg Host.Outcome.next hend, congrArg XeCluster.paused hsame, congrArg XeCluster.half1 hsame,
        (congrArg XeCluster.half0 hsame).trans rfl, rfl, rfl, hframe⟩
    | false => exact ⟨_, congrArg Host.Outcome.next hend, congrArg XeCluster.paused hsame, congrArg XeCluster.half0 hsame,
        (congrArg XeCluster.half1 hsame).trans rfl, rfl, rfl, hframe⟩
  case drained =>
    exact congrArg Host.Outcome.next (onData_run hon (if_pos ⟨hload, hout⟩))
  case written =>
    have hend := onData_run hon (ucodeWritten_good hload hok)
    obtain ⟨h1, h2, h3, h4, h5, h6, hframe⟩ := ucodeStored_state s
    obtain ⟨u, hu⟩ : ∃ u, ucodeStored s = u := ⟨_, rfl⟩
    rw [hu] at hend h1 h2 h3 h4 h5 h6 hframe
    have hxe := event_xe u 0x2806 s.xe.loadClu s.xe.loadHalf
    have hclu : xeClu (event u 0x2806 s.xe.loadClu s.xe.loadHalf) s.xe.loadClu = xeClu u s.xe.loadClu := by rw [xeClu, hxe]; rfl
    refine ⟨_, congrArg Host.Outcome.next hend, by rw [hxe, h1], by rw [hclu, h2], by rw [hclu, h3], by rw [hclu, h4], by rw [hclu, h5],
      by rw [event_img, h6], (hframe.mono (by simp)).trans fun q hp => ?_⟩
    exact event_part q (by simp at hp; simp [hp]) _ _ _ _
  case broken =>
    exact congrArg Host.Outcome.next (onData_run hon (ucodeWritten_bad hload hbad))
  case staged =>
    have hok' : classWrite s c.val w.val val = stage s (classReg w.val) [c.val] (val &&& BitVec.ofNat 32 (classReg w.val).info.st) := by
      rw [classWrite, if_pos hok]
      simp only [stageOrNow, hd, Bool.false_eq_true, if_false]
    refine ⟨_, congrArg Host.Outcome.next (ownWrite_class hmay hok'), rfl, ?_, rfl,
      AgreeBut.acc (by simp) _ fun q hq => stage_part q (by simp at hq; simp [hq]) _ _ _ _⟩
    exact congrArg Option.isSome (SMap.find_put_same _ _ _)
  case refused =>
    have hrej : classWrite s c.val w.val val = setRB s .xeStatus [] 17 true := if_neg (by simp [hbad])
    exact ⟨_, congrArg Host.Outcome.next (ownWrite_class hmay hrej), rfl, rb_setRB_same _ _ _ _ _ (by decide), rfl,
      AgreeBut.acc (by simp) _ fun q hq => setRB_part q (by simp at hq; simp [hq]) _ _ _ _ _⟩

end Sys2Proof.Machine
end

section
/-! The seam's bundle directions: what each operation on them leaves (R283 to R304). -/

namespace Sys2Proof.Machine

/-! ## Bundles -/

theorem bundleOf_modBundle_same (s : State) (k : Nat) (f : Bundle → Bundle) : bundleOf (modBundle s k f) k = f (bundleOf s k) :=
  SMap.get_upd_same _ _ _ _

theorem bundleOf_modBundle_other (s : State) {j k : Nat} (f : Bundle → Bundle) (h : j ≠ k) : bundleOf (modBundle s k f) j = bundleOf s j :=
  SMap.get_upd_other _ _ _ _ _ _ h

/-- What a change of a bundle direction leaves, it leaves in every one. -/
theorem modBundle_keeps {α : Type} (π : Bundle → α) {f : Bundle → Bundle} (h : ∀ b, π (f b) = π b) (s : State) (k j : Nat) :
    π (bundleOf (modBundle s k f) j) = π (bundleOf s j) := by
  by_cases hj : j = k
  · rw [hj, bundleOf_modBundle_same, h]
  · rw [bundleOf_modBundle_other s f hj]

theorem revOf_ne {k : Nat} (h : k < 32) : revOf k ≠ k := by
  unfold revOf
  omega

theorem partnerOf_ne (k : Nat) : partnerOf k ≠ k := by
  unfold partnerOf
  split <;> omega

/-- The partner of a bundle direction runs the same way. -/
theorem partnerOf_rev_ne {k : Nat} (h : k < 32) : partnerOf (revOf k) ≠ k := by
  unfold partnerOf revOf
  split <;> omega

/-! ## Counters of a bundle direction -/

theorem ctrAt_countEll_same (s : State) (k off : Nat) :
    ctrAt (countEll s k off) (cOff 0xB (k * 0x400 + off)) = (ctrAt s (cOff 0xB (k * 0x400 + off))).add 1 := ctrAt_bump_same _ _

theorem ctrAt_countEll_other (s : State) (k : Nat) {off o : Nat} (h : o ≠ off) :
    ctrAt (countEll s k off) (cOff 0xB (k * 0x400 + o)) = ctrAt s (cOff 0xB (k * 0x400 + o)) :=
  ctrAt_bump_other _ _ _ (by unfold cOff; omega)

/-- A counter of a bundle direction is none of the recorder's. -/
theorem cOff_ell_block {k o : Nat} (hk : k < 32) (ho : o < 0x400) : cOff 0xB (k * 0x400 + o) / 0x1000000 ≠ 0x11 := by
  unfold cOff
  omega

/-! ## Partners and the time-transfer path -/

theorem bundleOf_bothDown (s : State) (k j : Nat) : bundleOf (bothDown s k) j = bundleOf s j :=
  bundleOf_of_ell (ell_of_part (bothDown_part .ell (by decide) s k)) j

theorem bundleOf_pairCheck (s : State) (k j : Nat) : bundleOf (pairCheck s k) j = bundleOf s j :=
  bundleOf_of_ell (ell_of_part (pairCheck_part .ell (by decide) s k)) j

theorem bundleOf_ttUpdate (s : State) (j : Nat) : bundleOf (ttUpdate s) j = bundleOf s j :=
  bundleOf_of_ell (ell_of_part (ttUpdate_part .ell (by decide) s)) j

theorem ctrAt_faultFall (s : State) (blk bit unit a : Nat) : ctrAt (faultFall s blk bit unit) a = ctrAt s a :=
  ctrAt_congr (ctr_of_part (faultFall_part .ctr (by decide) s blk bit unit)) a

theorem ctrAt_bothDown_other (s : State) (k : Nat) {a : Nat} (h : a / 0x1000000 ≠ 0x11) : ctrAt (bothDown s k) a = ctrAt s a := by
  unfold bothDown
  dsimp only
  split
  · exact ctrAt_condRise_other _ _ _ _ _ _ h
  · split
    · exact ctrAt_faultFall _ _ _ _ _
    · rfl

theorem ctrAt_pairCheck_other (s : State) (k : Nat) {a : Nat} (h : a / 0x1000000 ≠ 0x11) : ctrAt (pairCheck s k) a = ctrAt s a :=
  (ctrAt_bothDown_other _ _ h).trans (ctrAt_bothDown_other _ _ h)

theorem ctrAt_ttUpdate_other (s : State) {a : Nat} (h : a / 0x1000000 ≠ 0x11) : ctrAt (ttUpdate s) a = ctrAt s a := by
  have hrise : ∀ u : State, ctrAt (faultRise0 u 0xF 1 0) a = ctrAt u a := fun u => ctrAt_faultRise_other u _ _ _ _ _ h
  unfold ttUpdate
  dsimp only
  split
  · rfl
  · split
    · exact (ctrAt_condRise_other _ _ _ _ _ _ h).trans (hrise _)
    · exact (ctrAt_faultFall _ _ _ _ _).trans (hrise _)

/-! ## The receiver's view -/

/-- What the header of a flit leaves in every bundle direction: NEXT_SEQ, the request that stands and the flits on the way. -/
structure LinkKept (s t : State) : Prop where
  next : ∀ j, (bundleOf t j).next = (bundleOf s j).next
  nakAt : ∀ j, (bundleOf t j).nakAt = (bundleOf s j).nakAt
  wire : ∀ j, (bundleOf t j).wire = (bundleOf s j).wire
  credit : t.ell.credit = s.ell.credit

theorem LinkKept.refl (s : State) : LinkKept s s := ⟨fun _ => rfl, fun _ => rfl, fun _ => rfl, rfl⟩

theorem LinkKept.trans {s t u : State} (h : LinkKept s t) (k : LinkKept t u) : LinkKept s u :=
  ⟨fun j => (k.next j).trans (h.next j), fun j => (k.nakAt j).trans (h.nakAt j), fun j => (k.wire j).trans (h.wire j),
    k.credit.trans h.credit⟩

theorem LinkKept.of_ell {s t : State} (h : t.ell = s.ell) : LinkKept s t :=
  ⟨fun j => by rw [bundleOf_of_ell h], fun j => by rw [bundleOf_of_ell h], fun j => by rw [bundleOf_of_ell h], by rw [h]⟩

theorem LinkKept.modBundle (s : State) (k : Nat) {f : Bundle → Bundle} (hn : ∀ b, (f b).next = b.next) (ha : ∀ b, (f b).nakAt = b.nakAt)
    (hw : ∀ b, (f b).wire = b.wire) : LinkKept s (modBundle s k f) :=
  ⟨modBundle_keeps Bundle.next hn s k, modBundle_keeps Bundle.nakAt ha s k, modBundle_keeps Bundle.wire hw s k, rfl⟩

theorem LinkKept.parErr (s : State) (k ph : Nat) : LinkKept s (parErr s k ph) :=
  (LinkKept.of_ell (s := s) (t := countEll s k (0x100 + ph * 8)) rfl).trans (LinkKept.modBundle _ _ (fun _ => by rfl) (fun _ => by rfl) fun _ => by rfl)

theorem holding_parErr (s : State) (k ph j : Nat) : (bundleOf (parErr s k ph) j).holding = (bundleOf s j).holding :=
  modBundle_keeps Bundle.holding (fun _ => by rfl) _ _ _

theorem LinkKept.laneErrs (s : State) (k : Nat) (bits : List Nat) : LinkKept s (laneErrs s k bits) :=
  foldl_inv (fun u : State => LinkKept s u) (fun _ _ h => h.trans (LinkKept.parErr _ _ _)) _ (LinkKept.refl s)

theorem holding_laneErrs (s : State) (k : Nat) (bits : List Nat) (j : Nat) :
    (bundleOf (laneErrs s k bits) j).holding = (bundleOf s j).holding :=
  foldl_inv (fun u : State => (bundleOf u j).holding = (bundleOf s j).holding) (fun _ _ h => (holding_parErr _ _ _ _).trans h) _ rfl

/-- Parity errors count in the counters of the lanes alone. -/
theorem ctrAt_laneErrs_other (s : State) (k : Nat) (bits : List Nat) {o : Nat} (h : o < 0x100) :
    ctrAt (laneErrs s k bits) (cOff 0xB (k * 0x400 + o)) = ctrAt s (cOff 0xB (k * 0x400 + o)) := by
  refine foldl_inv (fun u : State => ctrAt u (cOff 0xB (k * 0x400 + o)) = ctrAt s (cOff 0xB (k * 0x400 + o))) (fun u l hu => ?_) _ rfl
  exact (ctrAt_countEll_other u k (by omega)).trans hu

theorem LinkKept.ackRx (s : State) (l ack : Nat) (nak : Bool) : LinkKept s (ackRx s l ack nak) :=
  LinkKept.modBundle _ _ (fun _ => by rfl) (fun _ => by rfl) fun _ => by rfl

theorem holding_ackRx (s : State) (l ack : Nat) (nak : Bool) (j : Nat) : (bundleOf (ackRx s l ack nak) j).holding = (bundleOf s j).holding :=
  modBundle_keeps Bundle.holding (fun _ => by rfl) _ _ _

theorem LinkKept.homeReturn (s : State) (k : Nat) : LinkKept s (homeReturn s k) := by
  unfold Machine.homeReturn
  dsimp only
  split
  · exact (LinkKept.modBundle s (partnerOf k) (fun _ => by rfl) (fun _ => by rfl) fun _ => by rfl).trans
      (LinkKept.modBundle _ k (fun _ => by rfl) (fun _ => by rfl) fun _ => by rfl)
  · exact LinkKept.refl s

theorem holding_homeReturn (s : State) {k j : Nat} (h : j ≠ k) : (bundleOf (homeReturn s k) j).holding = (bundleOf s j).holding := by
  unfold homeReturn
  dsimp only
  split
  · rw [bundleOf_modBundle_other _ _ h]
    exact modBundle_keeps Bundle.holding (fun _ => by rfl) _ _ _
  · rfl

/-! ## A flit arrives -/

/-- The header of a flit with a good CRC and no SWAP_OP has been read (R291, R299, R304). -/
def headRead (s : State) (k : Nat) (f : Flit) (bits : List Nat) (rest : List Flit) : State :=
  homeReturn (ackRx (laneErrs (modBundle s k (fun b => { b with wire := rest })) k bits) (revOf f.orig) f.ack f.nak) (revOf f.orig)

theorem ellRx_data {s : State} {k q : Nat} {f : Flit} {rest : List Flit} {bits : List Nat} {segs : List Seg}
    (hw : (bundleOf s k).wire = f :: rest) (ht : f.train = false) (hc : crcSees bits = false) (hd : f.data = some (q, segs))
    (ho : f.swapOp = 0) : ellRx s k bits = dataRx (headRead s k f bits rest) k f.orig q segs := by
  have h1 : ¬f.swapOp = 1 := by omega
  have h2 : ¬f.swapOp = 2 := by omega
  simp only [ellRx, hw, ht, hc, hd, Bool.false_eq_true, if_false, if_neg h1, if_neg h2]
  rfl

theorem headRead_state (s : State) (k : Nat) (f : Flit) (bits : List Nat) (rest : List Flit) :
    (∀ j, (bundleOf (headRead s k f bits rest) j).next = (bundleOf s j).next) ∧
    (∀ j, (bundleOf (headRead s k f bits rest) j).nakAt = (bundleOf s j).nakAt) ∧
    (bundleOf (headRead s k f bits rest) k).wire = rest ∧
    (headRead s k f bits rest).ell.credit = s.ell.credit ∧ AgreeBut [.ctr, .ell] s (headRead s k f bits rest) := by
  have hkept : LinkKept (modBundle s k (fun b => { b with wire := rest })) (headRead s k f bits rest) :=
    ((LinkKept.laneErrs _ _ _).trans (LinkKept.ackRx _ _ _ _)).trans (LinkKept.homeReturn _ _)
  refine ⟨fun j => (hkept.next j).trans (modBundle_keeps Bundle.next (fun _ => by rfl) _ _ _),
    fun j => (hkept.nakAt j).trans (modBundle_keeps Bundle.nakAt (fun _ => by rfl) _ _ _), ?_, hkept.credit, fun p hp => ?_⟩
  · rw [hkept.wire, bundleOf_modBundle_same]
  · have hq : p ≠ .ctr ∧ p ≠ .ell := by simpa using hp
    rw [headRead, homeReturn_part p hq.2, ackRx_part p hq.2, laneErrs_part p hq, modBundle_part p hq.2]

theorem holding_headRead (s : State) {k j : Nat} (f : Flit) (bits : List Nat) (rest : List Flit) (h : j ≠ revOf f.orig) :
    (bundleOf (headRead s k f bits rest) j).holding = (bundleOf s j).holding := by
  rw [headRead, holding_homeReturn _ h, holding_ackRx, holding_laneErrs]
  exact modBundle_keeps Bundle.holding (fun _ => by rfl) _ _ _

theorem ctrAt_headRead (s : State) (k : Nat) (f : Flit) (bits : List Nat) (rest : List Flit) {o : Nat} (h : o < 0x100) :
    ctrAt (headRead s k f bits rest) (cOff 0xB (k * 0x400 + o)) = ctrAt s (cOff 0xB (k * 0x400 + o)) := by
  rw [headRead, ctrAt_congr (ctr_of_part (homeReturn_part .ctr (by decide) _ _)), ctrAt_congr (ctr_of_part (ackRx_part .ctr (by decide) _ _ _ _)),
    ctrAt_laneErrs_other _ _ _ h]
  rfl

/-- The state in which the segments of an accepted flit are delivered (R292). -/
def flitTaken (s : State) (k : Nat) (f : Flit) (bits : List Nat) (rest : List Flit) (q : Nat) : State :=
  countEll (modBundle (headRead s k f bits rest) k (fun x => { x with next := (q + 1) % 4096, nakAt := none, nakDue := false })) k 0x00

/-- A DATA flit with the SEQ awaited is accepted (R292). -/
theorem ellRx_accept {s : State} {k q : Nat} {f : Flit} {rest : List Flit} {bits : List Nat} {segs : List Seg} (hk : k < 32)
    (hw : (bundleOf s k).wire = f :: rest) (ht : f.train = false) (hc : crcSees bits = false) (hd : f.data = some (q, segs))
    (horig : f.orig = k) (ho : f.swapOp = 0) (hq : q = (bundleOf s k).next) (hhold : (bundleOf s k).holding = none) :
    ellRx s k bits = segsRx (flitTaken s k f bits rest q) k segs := by
  rw [ellRx_data hw ht hc hd ho, horig]
  obtain ⟨hnext, -, -, -, -⟩ := headRead_state s k f bits rest
  have hnone := holding_headRead s f bits rest (k := k) (j := k) (by rw [horig]; exact (revOf_ne hk).symm)
  rw [hhold] at hnone
  have hq' : q = (bundleOf (headRead s k f bits rest) k).next := by rw [hnext]; exact hq
  unfold dataRx
  dsimp only
  rw [if_pos hq', hnone]
  rfl

theorem flitTaken_state (s : State) (k : Nat) (f : Flit) (bits : List Nat) (rest : List Flit) (q : Nat) :
    (bundleOf (flitTaken s k f bits rest q) k).next = (q + 1) % 4096 ∧ (bundleOf (flitTaken s k f bits rest q) k).wire = rest ∧
    (bundleOf (flitTaken s k f bits rest q) k).nakAt = none ∧
    ctrAt (flitTaken s k f bits rest q) (cOff 0xB (k * 0x400)) = (ctrAt s (cOff 0xB (k * 0x400))).add 1 ∧
    (flitTaken s k f bits rest q).ell.credit = s.ell.credit ∧ AgreeBut [.ctr, .ell] s (flitTaken s k f bits rest q) := by
  obtain ⟨-, -, hwire, hcr, hframe⟩ := headRead_state s k f bits rest
  have hctr := ctrAt_headRead s k f bits rest (o := 0) (by decide)
  unfold flitTaken
  obtain ⟨u, hu⟩ : ∃ u, headRead s k f bits rest = u := ⟨_, rfl⟩
  rw [hu] at hwire hcr hframe hctr ⊢
  have hsame : bundleOf (countEll (modBundle u k (fun x => { x with next := (q + 1) % 4096, nakAt := none, nakDue := false })) k 0x00) k =
      { bundleOf u k with next := (q + 1) % 4096, nakAt := none, nakDue := false } := bundleOf_modBundle_same u k _
  refine ⟨congrArg Bundle.next hsame, (congrArg Bundle.wire hsame).trans hwire, congrArg Bundle.nakAt hsame, ?_, hcr,
    hframe.trans fun p hp => ?_⟩
  · have hcount := (ctrAt_countEll_same (modBundle u k (fun x => { x with next := (q + 1) % 4096, nakAt := none, nakDue := false })) k 0).trans
      (congrArg (fun c : Ctr => c.add 1) hctr)
    simpa only [Nat.add_zero] using hcount
  · have hq : p ≠ .ctr ∧ p ≠ .ell := by simpa using hp
    rw [countEll_part p hq.1, modBundle_part p hq.2]

/-! ## Segments -/

theorem segsRx_head (s : State) {k : Nat} (hk : k < 16) (g : Nat) {tkt : Ticket} (out : List Byte) (tag : Option Nat)
    (hgood : ticketGood tkt = true) : segsRx s k [.head g tkt out tag] = unitPush s g (.ing tkt out tag) := by
  have hd : k / 16 = 0 := by omega
  show segRx (k / 16) s (.head g tkt out tag) = _
  rw [hd]
  exact if_pos hgood

theorem segsRx_admitPtr (s : State) {k : Nat} (h16 : 16 ≤ k) (hk : k < 32) (sl oc j : Nat) :
    segsRx s k [.admitPtr sl oc j] = modSlc s (fun b => { b with reports := b.reports ++ [(sl, oc, j)] }) := by
  have hd : k / 16 = 1 := by omega
  show segRx (k / 16) s (.admitPtr sl oc j) = _
  rw [hd]
  rfl

theorem segsRx_credit (s : State) (k g : Nat) (tags : List Nat) (bytes : Nat) :
    segsRx s k [.credit g tags bytes] = creditRx s (1 - k / 16) g tags bytes := rfl

theorem creditOf_creditRx (s : State) (d g : Nat) (tags : List Nat) (bytes : Nat) :
    (creditOf (creditRx s d g tags bytes) d g).tags = (creditOf s d g).tags ++ tags ∧
    (creditOf (creditRx s d g tags bytes) d g).bytes = (creditOf s d g).bytes + bytes := by
  have hsame : creditOf (creditRx s d g tags bytes) d g =
      { creditOf s d g with tags := (creditOf s d g).tags ++ tags, bytes := (creditOf s d g).bytes + bytes } := SMap.get_upd_same _ _ _ _
  rw [hsame]
  exact ⟨rfl, rfl⟩

/-! ## Discards -/

/-- A request for a replay, repeated after 500 ns; one that stands is kept (R292). -/
theorem discardRx_state (s : State) (l : Nat) : (∀ j, (bundleOf (discardRx s l) j).next = (bundleOf s j).next) ∧
    (∀ j, (bundleOf (discardRx s l) j).wire = (bundleOf s j).wire) ∧
    (bundleOf (discardRx s l) l).nakAt = some ((bundleOf s l).nakAt.getD (s.now + 500)) ∧
    (∀ j, j ≠ l → (bundleOf (discardRx s l) j).nakAt = (bundleOf s j).nakAt) := by
  unfold discardRx
  cases hn : (bundleOf s l).nakAt with
  | some x => exact ⟨fun _ => rfl, fun _ => rfl, hn, fun _ _ => rfl⟩
  | none =>
    refine ⟨modBundle_keeps Bundle.next (fun _ => by rfl) _ _, modBundle_keeps Bundle.wire (fun _ => by rfl) _ _, ?_, fun j hj => ?_⟩
    · exact congrArg Bundle.nakAt (bundleOf_modBundle_same _ _ _)
    · exact congrArg Bundle.nakAt (bundleOf_modBundle_other _ _ hj)

theorem LinkKept.headLost (s : State) (k : Nat) (f : Flit) : LinkKept s (headLost s k f) := by
  have hnak : LinkKept s (if f.nak then Machine.modBundle s (revOf f.orig) (fun b => { b with nakDue := b.nakDue || b.nakAt.isSome }) else s) := by
    split
    · exact LinkKept.modBundle _ _ (fun _ => by rfl) (fun _ => by rfl) fun _ => by rfl
    · exact LinkKept.refl s
  unfold Machine.headLost
  dsimp only
  split
  · exact hnak.trans (LinkKept.modBundle _ _ (fun _ => by rfl) (fun _ => by rfl) fun _ => by rfl)
  · split
    · exact hnak.trans (LinkKept.modBundle _ _ (fun _ => by rfl) (fun _ => by rfl) fun _ => by rfl)
    · exact hnak

end Sys2Proof.Machine
end

section
/-! The statement about the seam's link level (R284 to R297). -/

namespace Sys2Proof.Machine

/-! ## A flit is sent -/

/-- Only what a flit changes in its own bundle direction is seen there: the header fields it takes are those of the reverse. -/
theorem bundleOf_sent (u : State) {k : Nat} (hk : k < 32) (c : Bool) (a b g : Bundle → Bundle) :
    bundleOf (modBundle (if c then modBundle (modBundle u (revOf k) a) (revOf k) b else modBundle u (revOf k) a) k g) k =
      g (bundleOf u k) := by
  rw [bundleOf_modBundle_same]
  have hne := (revOf_ne hk).symm
  split
  · rw [bundleOf_modBundle_other _ _ hne, bundleOf_modBundle_other _ _ hne]
  · rw [bundleOf_modBundle_other _ _ hne]

theorem part_sent (u : State) {k : Nat} (c : Bool) (a b g : Bundle → Bundle) : AgreeBut [.ell] u
    (modBundle (if c then modBundle (modBundle u (revOf k) a) (revOf k) b else modBundle u (revOf k) a) k g) := fun p hp => by
  have hell : p ≠ .ell := by simpa using hp
  rw [modBundle_part p hell]
  split
  · rw [modBundle_part p hell, modBundle_part p hell]
  · rw [modBundle_part p hell]

/-- A bundle direction after a flit. -/
def afterFlit (b : Bundle) (f : Flit) (n : Option Nat) (now : Nat) : Bundle :=
  { b with wire := b.wire ++ [f], swapDo := b.swapDo.drop 1, notice := n, sent := b.sent + 1, nextAt := now + 32, turn := !b.turn }

/-- A DATA flit of a bundle direction's own (R284, R291). -/
theorem flitTx_own {s s1 : State} {k : Nat} {d : Nat × List Seg} (hk : k < 32) (hsleep : carrySleeper s k = s)
    (hup : (bundleOf s k).st = .up) (hnext : nextData s k = some ((k, d), s1)) :
    (∃ f n, f.data = some d ∧ f.orig = k ∧ bundleOf (flitTx s k) k = afterFlit (bundleOf s1 k) f n s.now) ∧
    AgreeBut [.ell] s1 (flitTx s k) := by
  unfold flitTx
  dsimp only
  rw [hsleep, if_pos hup, hnext]
  exact ⟨⟨_, _, rfl, rfl, bundleOf_sent s1 hk _ _ _ _⟩, part_sent s1 _ _ _ _⟩

/-- A CONTROL flit of a bundle direction whose partner is not carried (R284). -/
theorem flitTx_control {s : State} {k : Nat} (hk : k < 32) (hsleep : carrySleeper s k = s)
    (hnone : (if (bundleOf s k).st = .up then nextData s k else none) = none) (hpart : (bundleOf s (partnerOf k)).carried = false) :
    (∃ f n, f.data = none ∧ bundleOf (flitTx s k) k = afterFlit (bundleOf s k) f n s.now) ∧ AgreeBut [.ell] s (flitTx s k) := by
  have horig : ((bundleOf s k).turn && (bundleOf s (partnerOf k)).carried) = false := by rw [hpart, Bool.and_false]
  unfold flitTx
  dsimp only
  rw [hsleep, hnone]
  dsimp only
  rw [horig, if_neg Bool.false_ne_true]
  exact ⟨⟨_, _, rfl, bundleOf_sent s hk _ _ _ _⟩, part_sent s _ _ _ _⟩

theorem replayedOut64_idle {s : State} {l : Nat} (h : (bundleOf s l).replay = none) : replayedOut64 s l = false := by
  simp only [replayedOut64, replayEntry, h, Option.bind_none]

theorem replayedOut64_empty {s : State} {l : Nat} (h : (bundleOf s l).retry = []) : replayedOut64 s l = false := by
  have hnone : replayEntry (bundleOf s l) = none := by
    rw [replayEntry, h]
    cases (bundleOf s l).replay <;> rfl
  simp only [replayedOut64, hnone]

theorem sendReplay_none {s : State} {l : Nat} (k : Nat) (h : replayEntry (bundleOf s l) = none) : sendReplay s k l = none := by
  rw [sendReplay, h]
  rfl

theorem carriedData_home {s : State} {k : Nat} (h : (bundleOf s (partnerOf k)).carried = false) : carriedData s k = none := by
  simp only [carriedData, h, Bool.not_false, if_true]

/-- With nothing carried, a bundle direction's next data are its own (R302). -/
theorem nextData_own {s : State} {k : Nat} (h : (bundleOf s (partnerOf k)).carried = false) : nextData s k = ownData s k := by
  rw [nextData, carriedData_home h]
  split
  · rfl
  · cases ownData s k <;> rfl

/-- With no replay, a bundle direction that is not carried sends new data (R293, R305). -/
theorem ownData_new {s : State} {k : Nat} (hcar : (bundleOf s k).carried = false) (hrep : replayEntry (bundleOf s k) = none)
    (hhold : holdFull (bundleOf s k) = false) : ownData s k = (sendNew s k k).map (fun r => ((k, r.1), r.2)) := by
  simp only [ownData, hcar, sendReplay_none k hrep, hhold, Bool.false_eq_true, if_false]

theorem ownData_nothing {s : State} {k : Nat} (hrep : replayEntry (bundleOf s k) = none) (hnew : sendNew s k k = none) :
    ownData s k = none := by
  simp only [ownData, sendReplay_none k hrep, hnew, Option.map_none, ite_self]

/-- Without credit to send, a new flit takes the segments that fit (R284, R285). -/
theorem sendNew_queue {s : State} {k : Nat} {f1 f2 : List Seg} (hroom : (bundleOf s k).retry.length < 32) (hcredit : creditDue s k = none)
    (hfit : segFit (bundleOf s k).segq 8160 = (f1, f2)) (hne : f1 ≠ []) :
    sendNew s k k = some (((bundleOf s k).seq, f1), modBundle (modBundle s k (fun b => { b with segq := f2 }.refill)) k
      (fun b => { b with seq := ((bundleOf s k).seq + 1) % 4096, retry := b.retry ++ [((bundleOf s k).seq, f1, 0)] })) := by
  have hne' : f1.isEmpty = false := by simpa using hne
  simp only [sendNew, if_neg (Nat.not_le.2 hroom), hcredit, List.map_nil, List.sum_nil, Nat.sub_zero, hfit, List.nil_append, hne',
    Bool.false_eq_true, if_false]

theorem sendNew_nothing {s : State} {k : Nat} (hroom : (bundleOf s k).retry.length < 32) (hcredit : creditDue s k = none)
    (hq : (bundleOf s k).segq = []) : sendNew s k k = none := by
  simp only [sendNew, if_neg (Nat.not_le.2 hroom), hcredit, hq, segFit, List.append_nil, List.isEmpty_nil, if_true]

/-- A flit that is due goes out where no replay is worn out (R284, R295). -/
theorem ellTx_flit {s : State} {k : Nat} (hdue : (bundleOf s k).nextAt ≤ s.now) (hst : (bundleOf s k).st = .up ∨ (bundleOf s k).st = .doze)
    (hrep : replayedOut64 s k = false) (hpart : (bundleOf s (partnerOf k)).carried = false) : ellTx s k = flitTx s k := by
  simp only [ellTx, if_neg (Nat.not_lt.2 hdue), if_pos hst, hrep, hpart, Bool.false_and, Bool.or_false, Bool.false_eq_true, and_false, if_false]

/-! ## Retraining -/

theorem replayAll_same (s : State) (l : Nat) : bundleOf (replayAll s l) l =
    { bundleOf s l with replay := (bundleOf s l).retry.head?.map Prod.fst, retry := (bundleOf s l).retry.map (fun e => (e.1, e.2.1, 0)) } :=
  bundleOf_modBundle_same _ _ _

theorem replayAll_other (s : State) {j l : Nat} (h : j ≠ l) : bundleOf (replayAll s l) j = bundleOf s j := bundleOf_modBundle_other _ _ h

/-- RETRAIN keeps the retry buffer's flits, to be sent again from the oldest, its own and those it carries (R295). -/
theorem ellRetrain_state (s : State) (k : Nat) : bundleOf (ellRetrain s k) k =
      { bundleOf s k with
        replay := (bundleOf s k).retry.head?.map Prod.fst, retry := (bundleOf s k).retry.map (fun e => (e.1, e.2.1, 0)),
        st := .retrain, since := s.now, wire := [] } ∧
    (bundleOf (ellRetrain s k) (partnerOf k)).replay = (if (bundleOf s (partnerOf k)).carried then
      (bundleOf s (partnerOf k)).retry.head?.map Prod.fst else (bundleOf s (partnerOf k)).replay) := by
  have hend : ∀ u : State, ∀ j, bundleOf (ttUpdate (pairCheck (countEll u k 0x18) k)) j = bundleOf u j := fun u j => by
    rw [bundleOf_ttUpdate, bundleOf_pairCheck]
    rfl
  have hne := partnerOf_ne k
  unfold ellRetrain
  dsimp only
  rw [hend, hend, bundleOf_modBundle_same, bundleOf_modBundle_other _ _ hne]
  cases hc : (bundleOf s (partnerOf k)).carried with
  | true =>
    rw [if_pos rfl, if_pos rfl, replayAll_other _ hne.symm, replayAll_same, replayAll_same, replayAll_other s hne]
    exact ⟨rfl, rfl⟩
  | false =>
    rw [if_neg Bool.false_ne_true, if_neg Bool.false_ne_true, replayAll_same, replayAll_other s hne]
    exact ⟨rfl, rfl⟩

theorem ctrAt_ellRetrain (s : State) {k : Nat} (hk : k < 32) : ctrAt (ellRetrain s k) (cOff 0xB (k * 0x400 + 0x18)) =
    (ctrAt s (cOff 0xB (k * 0x400 + 0x18))).add 1 := by
  have hblk := cOff_ell_block hk (o := 0x18) (by decide)
  unfold ellRetrain
  dsimp only
  rw [ctrAt_ttUpdate_other _ hblk, ctrAt_pairCheck_other _ _ hblk, ctrAt_countEll_same]
  refine congrArg (fun c : Ctr => c.add 1) (ctrAt_congr ?_ _)
  split <;> rfl

/-- A worn-out replay leads to RETRAIN (R295). -/
theorem ellTx_worn {s : State} {k : Nat} (hdue : (bundleOf s k).nextAt ≤ s.now) (hup : (bundleOf s k).st = .up)
    (hworn : replayedOut64 s k = true ∨ ((bundleOf s (partnerOf k)).carried = true ∧ replayedOut64 s (partnerOf k) = true)) :
    ellTx s k = ellRetrain s k := by
  have hcond : (replayedOut64 s k || ((bundleOf s (partnerOf k)).carried && replayedOut64 s (partnerOf k))) = true := by
    rcases hworn with h | ⟨h1, h2⟩
    · rw [h, Bool.true_or]
    · rw [h1, h2, Bool.and_self, Bool.or_true]
  simp only [ellTx, if_neg (Nat.not_lt.2 hdue), hup, hcond, true_or, and_self, if_true]

/-! ## A flit with a CRC error -/

/-- A flit whose CRC fails is discarded and asks for a replay (R292). -/
def flitLost (s : State) (k : Nat) : State :=
  let s2 := faultRise0 (discardRx (countEll s k 0x08) k) 0xB 0 k
  if (bundleOf s2 (partnerOf k)).carried then discardRx s2 (partnerOf k) else s2

theorem flitLost_state (s : State) {k : Nat} (hk : k < 32) : (bundleOf (flitLost s k) k).wire = (bundleOf s k).wire ∧
    (bundleOf (flitLost s k) k).next = (bundleOf s k).next ∧
    (bundleOf (flitLost s k) k).nakAt = some ((bundleOf s k).nakAt.getD (s.now + 500)) ∧
    ctrAt (flitLost s k) (cOff 0xB (k * 0x400 + 0x08)) = (ctrAt s (cOff 0xB (k * 0x400 + 0x08))).add 1 := by
  obtain ⟨hn, hw, ha, -⟩ := discardRx_state (countEll s k 0x08) k
  have hctr : ctrAt (discardRx (countEll s k 0x08) k) (cOff 0xB (k * 0x400 + 0x08)) = (ctrAt s (cOff 0xB (k * 0x400 + 0x08))).add 1 := by
    rw [ctrAt_congr (ctr_of_part (discardRx_part .ctr (by decide) _ _)), ctrAt_countEll_same]
  obtain ⟨u, hu⟩ : ∃ u, discardRx (countEll s k 0x08) k = u := ⟨_, rfl⟩
  rw [hu] at hn hw ha hctr
  have hraise : ∀ j, bundleOf (faultRise0 u 0xB 0 k) j = bundleOf u j :=
    bundleOf_of_ell (ell_of_part (faultRise0_part .ell (by decide) u _ _ _))
  have hraiseCtr : ctrAt (faultRise0 u 0xB 0 k) (cOff 0xB (k * 0x400 + 0x08)) = ctrAt u (cOff 0xB (k * 0x400 + 0x08)) :=
    ctrAt_faultRise_other u _ _ _ _ _ (cOff_ell_block hk (by decide))
  unfold flitLost
  dsimp only
  rw [hu]
  obtain ⟨v, hv⟩ : ∃ v, faultRise0 u 0xB 0 k = v := ⟨_, rfl⟩
  rw [hv] at hraise hraiseCtr ⊢
  split
  · obtain ⟨kn, kw, -, ka⟩ := discardRx_state v (partnerOf k)
    refine ⟨?_, ?_, ?_, ?_⟩
    · rw [kw, hraise, hw]
      rfl
    · rw [kn, hraise, hn]
      rfl
    · rw [ka k (partnerOf_ne k).symm, hraise, ha]
      rfl
    · rw [ctrAt_congr (ctr_of_part (discardRx_part .ctr (by decide) _ _)), hraiseCtr, hctr]
  · refine ⟨?_, ?_, ?_, by rw [hraiseCtr, hctr]⟩ <;> rw [hraise]
    · rw [hw]
      rfl
    · rw [hn]
      rfl
    · rw [ha]
      rfl

theorem flitLost_part (p : Part) (h : p ≠ .ctr ∧ p ≠ .flt ∧ p ≠ .rcd ∧ p ≠ .ell) (s : State) (k : Nat) :
    (flitLost s k).part p = s.part p := by
  simp [flitLost, h]

theorem ellRx_broken {s : State} {k : Nat} {f : Flit} {rest : List Flit} {bits : List Nat} (hw : (bundleOf s k).wire = f :: rest)
    (ht : f.train = false) (hc : crcSees bits = true) : ellRx s k bits =
    headLost (flitLost (laneErrs (modBundle s k (fun b => { b with wire := rest })) k bits) k) k f := by
  simp only [ellRx, hw, ht, hc, Bool.false_eq_true, if_false, if_true]
  rfl

theorem ellRx_train {s : State} {k : Nat} {f : Flit} {rest : List Flit} (hw : (bundleOf s k).wire = f :: rest) (ht : f.train = true)
    (bits : List Nat) : ellRx s k bits = modBundle s k (fun b => { b with wire := rest }) := by
  simp only [ellRx, hw, ht, if_true]

/-- Settles O38: what goes out in UP, in DOZE, in training and after the 64th replay; what arrives; and the repeated request. -/
theorem seamLinkRetry : Obligations.SeamLinkRetry := by
  unfold Obligations.SeamLinkRetry
  refine ⟨fun k f1 f2 s hon hup hdue hroom hrep hcar hhold hpup hpcar hcredit hfit hne => ?data,
    fun k s hon hst hdue hretry hq hpcar hpq hcredit => ?control, fun k s hon hup hdue hworn => ?worn, fun k s hon hdue hst => ?train,
    fun k hdr rst f rest s hon hw ht => ?rxTrain,
    fun k hdr rst g tkt out tag f rest q s hon hw ht hc hd horig ho hq hhold hk hgood => ?rxHead,
    fun k hdr rst sl oc j f rest q s hon hw ht hc hd horig ho hq hhold hk => ?rxAdmit,
    fun k hdr rst g tags bytes f rest q s hon hw ht hc hd horig ho hq hhold => ?rxCredit,
    fun k hdr rst f rest q segs s hon hw ht hc hd horig ho hold => ?rxOld,
    fun k hdr rst f rest q segs s hon hw ht hc hd horig ho hne hahead => ?rxAhead,
    fun k hdr rst f rest s hon hw ht hc => ?rxBroken, fun k x s hon hnak hx => ?nak⟩
  case data =>
    have hsleep : carrySleeper s k.val = s := if_neg (by simp [hpup])
    have hown := (nextData_own hpcar).trans ((ownData_new hcar (by rw [replayEntry, hrep]; rfl) hhold).trans
      (congrArg (Option.map _) (sendNew_queue hroom hcredit hfit hne)))
    obtain ⟨⟨f, n, hdata, horig, hbundle⟩, hframe⟩ := flitTx_own k.isLt hsleep hup hown
    have hend := onData_run hon (ellTx_flit hdue (.inl hup) (replayedOut64_idle hrep) hpcar)
    rw [bundleOf_modBundle_same, bundleOf_modBundle_same] at hbundle
    refine ⟨_, congrArg Host.Outcome.next hend, ?_, ?_, ?_, ?_, ?_, ?_, fun p hp => ?_⟩
    · rw [hbundle]
      simp [afterFlit, Bundle.refill, hdata, horig]
    · rw [hbundle]
      rfl
    · rw [hbundle]
      rfl
    · rw [hbundle]
      rfl
    · rw [hbundle]
      rfl
    · rw [hbundle]
      rfl
    · have hell : p ≠ .ell := by simpa using hp
      rw [hframe p hp, modBundle_part p hell, modBundle_part p hell]
  case control =>
    have hsleep : carrySleeper s k.val = s := if_neg (by simp [hpq])
    have hempty : replayEntry (bundleOf s k.val) = none := by
      rw [replayEntry, hretry]
      cases (bundleOf s k.val).replay <;> rfl
    have hnone : (if (bundleOf s k.val).st = .up then nextData s k.val else none) = none := by
      split
      · rw [nextData_own hpcar]
        exact ownData_nothing hempty (sendNew_nothing (by rw [hretry]; decide) hcredit hq)
      · rfl
    obtain ⟨⟨f, n, hdata, hbundle⟩, hframe⟩ := flitTx_control k.isLt hsleep hnone hpcar
    have hend := onData_run hon (ellTx_flit hdue hst (replayedOut64_empty hretry) hpcar)
    refine ⟨_, congrArg Host.Outcome.next hend, ?_, ?_, ?_, ?_, hframe⟩
    · rw [hbundle]
      simp [afterFlit, hdata]
    · rw [hbundle]
      rfl
    · rw [hbundle]
      exact hretry
    · rw [hbundle]
      rfl
  case worn =>
    have hend := onData_run hon (ellTx_worn hdue hup hworn)
    obtain ⟨hk, hp⟩ := ellRetrain_state s k.val
    refine ⟨_, congrArg Host.Outcome.next hend, by rw [hk], by rw [hk], hp, ?_, by rw [hk], by rw [hk], ctrAt_ellRetrain s k.isLt,
      fun p hp => ellRetrain_part p (by simpa using hp) s k.val⟩
    rw [hk]
    simp
  case train =>
    have hnot : ¬((bundleOf s k.val).st = .up ∨ (bundleOf s k.val).st = .doze) := by
      rcases hst with h | h | h <;> simp [h]
    have hend : ellTx s k.val = trainTx s k.val := by
      simp only [ellTx, if_neg (Nat.not_lt.2 hdue), if_neg hnot, if_pos hst]
    exact congrArg Host.Outcome.next (onData_run hon hend)
  case rxTrain => exact congrArg Host.Outcome.next (onData_run hon (ellRx_train hw ht _))
  case rxHead =>
    have hend := onData_run hon (ellRx_accept k.isLt hw ht hc hd horig ho hq hhold)
    rw [segsRx_head _ hk g out tag hgood] at hend
    obtain ⟨hnext, hwire, hnak, hctr, -, hframe⟩ := flitTaken_state s k.val f (hdr.map (fun x => x.val) ++ rst.map (fun x => 128 + x.val)) rest q
    obtain ⟨u, hu⟩ : ∃ u, flitTaken s k.val f (hdr.map (fun x => x.val) ++ rst.map (fun x => 128 + x.val)) rest q = u := ⟨_, rfl⟩
    rw [hu] at hend hnext hwire hnak hctr hframe
    have hbpm : u.bpm = s.bpm := bpm_of_part (hframe .bpm (by decide))
    refine ⟨_, congrArg Host.Outcome.next hend, hnext, hwire, hnak, hctr, ?_, (hframe.mono (by simp)).trans fun p hp => ?_⟩
    · rw [← hbpm]
      exact SMap.get_upd_same _ _ _ _
    · exact unitPush_part p (by simp at hp; simp [hp]) u g _
  case rxAdmit =>
    have hend := onData_run hon (ellRx_accept k.isLt hw ht hc hd horig ho hq hhold)
    rw [segsRx_admitPtr _ hk k.isLt] at hend
    obtain ⟨hnext, hwire, hnak, hctr, -, hframe⟩ := flitTaken_state s k.val f (hdr.map (fun x => x.val) ++ rst.map (fun x => 128 + x.val)) rest q
    obtain ⟨u, hu⟩ : ∃ u, flitTaken s k.val f (hdr.map (fun x => x.val) ++ rst.map (fun x => 128 + x.val)) rest q = u := ⟨_, rfl⟩
    rw [hu] at hend hnext hwire hnak hctr hframe
    have hslc : u.slc = s.slc := slc_of_part (hframe .slc (by decide))
    refine ⟨_, congrArg Host.Outcome.next hend, hnext, hwire, hnak, hctr, ?_, (hframe.mono (by simp)).trans fun p hp => ?_⟩
    · rw [← hslc]
      rfl
    · exact modSlc_part p (by simp at hp; simp [hp]) u _
  case rxCredit =>
    have hend := onData_run hon (ellRx_accept k.isLt hw ht hc hd horig ho hq hhold)
    rw [segsRx_credit] at hend
    obtain ⟨hnext, hwire, hnak, hctr, hcr, hframe⟩ := flitTaken_state s k.val f (hdr.map (fun x => x.val) ++ rst.map (fun x => 128 + x.val)) rest q
    obtain ⟨u, hu⟩ : ∃ u, flitTaken s k.val f (hdr.map (fun x => x.val) ++ rst.map (fun x => 128 + x.val)) rest q = u := ⟨_, rfl⟩
    rw [hu] at hend hnext hwire hnak hctr hcr hframe
    obtain ⟨htags, hbytes⟩ := creditOf_creditRx u (1 - k.val / 16) g tags bytes
    have hsame : creditOf u (1 - k.val / 16) g = creditOf s (1 - k.val / 16) g := by
      unfold creditOf
      rw [hcr]
    rw [hsame] at htags hbytes
    exact ⟨_, congrArg Host.Outcome.next hend, hnext, hwire, hnak, hctr, htags, hbytes,
      hframe.trans fun p hp => creditRx_part p (by simp at hp; simp [hp]) u _ _ _ _⟩
  case rxOld =>
    obtain ⟨hnext, hnak, hwire, -, hframe⟩ := headRead_state s k.val f (hdr.map (fun x => x.val) ++ rst.map (fun x => 128 + x.val)) rest
    have hend := onData_run hon (ellRx_data hw ht hc hd ho)
    have hdata : dataRx (headRead s k.val f (hdr.map (fun x => x.val) ++ rst.map (fun x => 128 + x.val)) rest) k.val f.orig q segs =
        headRead s k.val f (hdr.map (fun x => x.val) ++ rst.map (fun x => 128 + x.val)) rest := by
      unfold dataRx
      dsimp only
      rw [hnext, if_neg (by intro h; rw [h] at hold; omega), if_neg (by omega)]
    rw [hdata] at hend
    exact ⟨_, congrArg Host.Outcome.next hend, hwire, hnext _, hnak _, hframe⟩
  case rxAhead =>
    obtain ⟨hnext, hnak, hwire, -, hframe⟩ := headRead_state s k.val f (hdr.map (fun x => x.val) ++ rst.map (fun x => 128 + x.val)) rest
    have hend := onData_run hon (ellRx_data hw ht hc hd ho)
    have hdata : dataRx (headRead s k.val f (hdr.map (fun x => x.val) ++ rst.map (fun x => 128 + x.val)) rest) k.val f.orig q segs =
        discardRx (headRead s k.val f (hdr.map (fun x => x.val) ++ rst.map (fun x => 128 + x.val)) rest) f.orig := by
      unfold dataRx
      dsimp only
      rw [hnext, if_neg hne, if_pos hahead]
    rw [hdata] at hend
    obtain ⟨u, hu⟩ : ∃ u, headRead s k.val f (hdr.map (fun x => x.val) ++ rst.map (fun x => 128 + x.val)) rest = u := ⟨_, rfl⟩
    rw [hu] at hend hnext hnak hwire hframe
    obtain ⟨kn, kw, ka, -⟩ := discardRx_state u f.orig
    refine ⟨_, congrArg Host.Outcome.next hend, (kw _).trans hwire, (kn _).trans (hnext _), ?_,
      hframe.trans fun p hp => discardRx_part p (by simp at hp; simp [hp]) u _⟩
    rw [ka, hnak, now_of_part (hframe .now (by decide))]
  case rxBroken =>
    have hend := onData_run hon (ellRx_broken hw ht hc)
    have hkept := LinkKept.laneErrs (modBundle s k.val (fun b => { b with wire := rest })) k.val
      (hdr.map (fun x => x.val) ++ rst.map (fun x => 128 + x.val))
    have hctr := ctrAt_laneErrs_other (modBundle s k.val (fun b => { b with wire := rest })) k.val
      (hdr.map (fun x => x.val) ++ rst.map (fun x => 128 + x.val)) (o := 8) (by decide)
    have hframe : AgreeBut [.ctr, .ell] s (laneErrs (modBundle s k.val (fun b => { b with wire := rest })) k.val
        (hdr.map (fun x => x.val) ++ rst.map (fun x => 128 + x.val))) := fun p hp => by
      have hq : p ≠ .ctr ∧ p ≠ .ell := by simpa using hp
      rw [laneErrs_part p hq, modBundle_part p hq.2]
    have hn := (hkept.next k.val).trans (modBundle_keeps Bundle.next (fun _ => by rfl) _ _ _)
    have ha := (hkept.nakAt k.val).trans (modBundle_keeps Bundle.nakAt (fun _ => by rfl) _ _ _)
    have hwire : _ = rest := (hkept.wire k.val).trans (congrArg Bundle.wire (bundleOf_modBundle_same s k.val _))
    obtain ⟨u, hu⟩ : ∃ u, laneErrs (modBundle s k.val (fun b => { b with wire := rest })) k.val
        (hdr.map (fun x => x.val) ++ rst.map (fun x => 128 + x.val)) = u := ⟨_, rfl⟩
    rw [hu] at hend hctr hframe hn ha hwire
    obtain ⟨lw, ln, la, lc⟩ := flitLost_state u k.isLt
    have hlost := LinkKept.headLost (flitLost u k.val) k.val f
    refine ⟨_, congrArg Host.Outcome.next hend, ?_, ?_, ?_, ?_, fun p hp => ?_⟩
    · rw [hlost.wire, lw, hwire]
    · rw [hlost.next, ln, hn]
    · rw [hlost.nakAt, la, ha, now_of_part (hframe .now (by decide))]
    · rw [ctrAt_congr (ctr_of_part (headLost_part .ctr (by decide) _ _ _)), lc]
      exact congrArg (fun c : Ctr => c.add 1) hctr
    · rw [headLost_part p (by simp at hp; simp [hp]), flitLost_part p (by simp at hp; simp [hp]), hframe p (by simp at hp; simp [hp])]
  case nak =>
    have hend : nakRepeat s k.val = askReplay s k.val := by simp only [nakRepeat, hnak, if_pos hx]
    have hsame := bundleOf_modBundle_same s k.val (fun b => { b with nakDue := true, nakAt := some (s.now + 500) })
    exact ⟨_, congrArg Host.Outcome.next (onData_run hon hend), congrArg Bundle.nakDue hsame, congrArg Bundle.nakAt hsame,
      (congrArg Bundle.next hsame).trans rfl, fun p hp => modBundle_part p (by simpa using hp) s _ _⟩

end Sys2Proof.Machine
end

section
/-! The statement about the states of the seam's bundle directions (R289 to R308). -/

namespace Sys2Proof.Machine

/-- A command of firmware on the data path acts where both run. -/
theorem fwOnData_run {s t u : State} (h : onData s = true) (hfw : fwRuns s = true) (ht : t = u) :
    (if onData s && fwRuns s then t else s) = u := (if_pos (by rw [h, hfw]; rfl)).trans ht

/-! ## Fences -/

theorem fenced_faultFall (s : State) (blk bit unit : Nat) : (faultFall s blk bit unit).flt.fenced = s.flt.fenced := by
  unfold faultFall
  dsimp only
  split <;> rfl

theorem fenced_bothDown (s : State) (k : Nat) : (bothDown s k).flt.fenced = s.flt.fenced := by
  unfold bothDown
  dsimp only
  split
  · exact fenced_condRise _ _ _ _ _ _
  · split
    · exact fenced_faultFall _ _ _ _
    · rfl

theorem fenced_pairCheck (s : State) (k : Nat) : (pairCheck s k).flt.fenced = s.flt.fenced :=
  (fenced_bothDown _ _).trans (fenced_bothDown _ _)

theorem fenced_ttUpdate (s : State) : (ttUpdate s).flt.fenced = s.flt.fenced := by
  have hrise : ∀ u : State, (faultRise0 u 0xF 1 0).flt.fenced = u.flt.fenced := fun u => fenced_faultRise u _ _ _ _ _
  unfold ttUpdate
  dsimp only
  split
  · rfl
  · split
    · exact (fenced_condRise _ _ _ _ _ _).trans (hrise _)
    · exact (fenced_faultFall _ _ _ _).trans (hrise _)

/-- Hardware clears the HOME bit in effect (R304). -/
theorem rb_homeClear (s : State) {k : Nat} (h : k < 32) : rb (homeClear s k) .ellHome [] k = false := by
  have hregs : (homeClear s k).regs = (setRB s .ellHome [] k false).regs := by
    unfold homeClear
    dsimp only
    split <;> rfl
  rw [rb_of_regs hregs]
  exact rb_setRB_same s _ _ _ _ h

/-- The bundles of a fence: the traffic of the one that is fenced goes by its partner, from the oldest unacknowledged flit (R302). -/
def bundleFenced (b : Bundle) (now : Nat) : Bundle :=
  { b with
    st := .fenced, since := now, wire := [], carried := true, replay := b.retry.head?.map Prod.fst,
    swapReq := [], swapDo := [], nakAt := none, nakDue := false, clk := false }

/-- A fence before it is reported. -/
def fenceMade (s : State) (k : Nat) : State :=
  let p := partnerOf k
  let s1 := if (bundleOf s p).carried && (bundleOf s p).st == .up then
    modBundle s p (fun b => { b with carried := false, replay := b.retry.head?.map Prod.fst }) else s
  setFenced (homeClear (modBundle s1 k (fun b => bundleFenced b s.now)) k) 0xB k true

theorem ellFence_eq (s : State) (k cause : Nat) : ellFence s k cause =
    ttUpdate (pairCheck (if holds (fenceMade s k) 0xB 2 k then event (fenceMade s k) 0x2C03 k cause
      else condRise (fenceMade s k) 0xB 2 k (lo32 cause) 0) k) := rfl

theorem fenceMade_state (s : State) {k : Nat} (hk : k < 32) : bundleOf (fenceMade s k) k = bundleFenced (bundleOf s k) s.now ∧
    isFenced (fenceMade s k) 0xB k = true ∧ rb (fenceMade s k) .ellHome [] k = false := by
  unfold fenceMade
  dsimp only
  refine ⟨?_, isFenced_setFenced_same _ _ _ _, rb_homeClear _ hk⟩
  rw [bundleOf_of_ell (ell_of_part (setFenced_part .ell (by decide) _ _ _ _)), bundleOf_of_ell (ell_of_part (homeClear_part .ell (by decide) _ _)),
    bundleOf_modBundle_same]
  refine congrArg (fun b => bundleFenced b s.now) ?_
  split
  · exact bundleOf_modBundle_other _ _ (partnerOf_ne k).symm
  · rfl

/-- A fence of a bundle direction (R302, R304). -/
theorem ellFence_state (s : State) {k : Nat} (hk : k < 32) (cause : Nat) :
    bundleOf (ellFence s k cause) k = bundleFenced (bundleOf s k) s.now ∧ isFenced (ellFence s k cause) 0xB k = true ∧
    rb (ellFence s k cause) .ellHome [] k = false := by
  obtain ⟨h1, h2, h3⟩ := fenceMade_state s hk
  rw [ellFence_eq]
  obtain ⟨u, hu⟩ : ∃ u, fenceMade s k = u := ⟨_, rfl⟩
  rw [hu] at h1 h2 h3 ⊢
  have htold : (if holds u 0xB 2 k then event u 0x2C03 k cause else condRise u 0xB 2 k (lo32 cause) 0).ell = u.ell ∧
      (if holds u 0xB 2 k then event u 0x2C03 k cause else condRise u 0xB 2 k (lo32 cause) 0).flt.fenced = u.flt.fenced ∧
      (if holds u 0xB 2 k then event u 0x2C03 k cause else condRise u 0xB 2 k (lo32 cause) 0).regs = u.regs := by
    split
    · exact ⟨event_ell _ _ _ _, by rw [event_flt], event_regs _ _ _ _⟩
    · exact ⟨ell_of_part (condRise_part .ell (by decide) _ _ _ _ _ _), fenced_condRise _ _ _ _ _ _,
        regs_of_part (condRise_part .regs (by decide) _ _ _ _ _ _)⟩
  obtain ⟨v, hv⟩ : ∃ v, (if holds u 0xB 2 k then event u 0x2C03 k cause else condRise u 0xB 2 k (lo32 cause) 0) = v := ⟨_, rfl⟩
  rw [hv] at htold ⊢
  obtain ⟨hell, hfen, hregs⟩ := htold
  refine ⟨?_, ?_, ?_⟩
  · rw [bundleOf_ttUpdate, bundleOf_pairCheck, bundleOf_of_ell hell, h1]
  · rw [isFenced, fenced_ttUpdate, fenced_pairCheck, hfen]
    exact h2
  · rw [rb_of_regs (regs_of_part (ttUpdate_part .regs (by decide) _)), rb_of_regs (regs_of_part (pairCheck_part .regs (by decide) _ _)),
      rb_of_regs hregs, h3]

/-- What a fence of a bundle direction gives, from a state that differs in that bundle direction alone. -/
theorem ellFence_of_mod (s : State) {k : Nat} (hk : k < 32) {f : Bundle → Bundle} (hr : ∀ b, (f b).retry = b.retry)
    (hn : ∀ b, (f b).next = b.next) (cause : Nat) :
    (bundleOf (ellFence (modBundle s k f) k cause) k).st = .fenced ∧ (bundleOf (ellFence (modBundle s k f) k cause) k).carried = true ∧
    (bundleOf (ellFence (modBundle s k f) k cause) k).replay = (bundleOf s k).retry.head?.map Prod.fst ∧
    isFenced (ellFence (modBundle s k f) k cause) 0xB k = true ∧ rb (ellFence (modBundle s k f) k cause) .ellHome [] k = false ∧
    (bundleOf (ellFence (modBundle s k f) k cause) k).retry = (bundleOf s k).retry ∧
    (bundleOf (ellFence (modBundle s k f) k cause) k).next = (bundleOf s k).next ∧
    (bundleOf (ellFence (modBundle s k f) k cause) k).bad = (f (bundleOf s k)).bad ∧
    AgreeBut [.regs, .ctr, .fur, .flt, .rcd, .tgt, .ell] s (ellFence (modBundle s k f) k cause) := by
  obtain ⟨hb, hfen, hhome⟩ := ellFence_state (modBundle s k f) hk cause
  rw [bundleOf_modBundle_same] at hb
  rw [hb]
  refine ⟨rfl, rfl, ?_, hfen, hhome, hr _, hn _, rfl, fun p hp => ?_⟩
  · exact congrArg (fun l : List (Nat × List Seg × Nat) => l.head?.map Prod.fst) (hr _)
  · rw [ellFence_part p (by simp at hp; simp [hp]), modBundle_part p (by simp at hp; simp [hp])]

/-! ## UP and TRAIN -/

/-- A bundle direction that comes UP keeps its retry buffer and NEXT_SEQ (R295, R298). -/
theorem ellUp_state (s : State) (k : Nat) : (bundleOf (ellUp s k) k).st = .up ∧ (bundleOf (ellUp s k) k).retry = (bundleOf s k).retry ∧
    (bundleOf (ellUp s k) k).next = (bundleOf s k).next ∧ (bundleOf (ellUp s k) k).clk = (bundleOf s k).clk ∧
    (bundleOf (ellUp s k) k).bad = (bundleOf s k).bad ∧ (bundleOf (ellUp s k) k).moved = (bundleOf s k).moved := by
  have hhome : ∀ {α : Type} (π : Bundle → α), (∀ b : Bundle, ∀ l, π { b with held := b.held ++ l }.refill = π b) →
      (∀ b : Bundle, π { b with carried := false, segq := [], held := [], holding := some [] } = π b) → ∀ u : State,
      π (bundleOf (homeReturn u k) k) = π (bundleOf u k) := by
    intro α π h1 h2 u
    unfold homeReturn
    dsimp only
    split
    · rw [bundleOf_modBundle_same, h2]
      exact modBundle_keeps π (fun b => h1 b _) u _ _
    · rfl
  have hmid : ∀ u : State, bundleOf (ttUpdate (pairCheck (if holds u 0xB 2 k then faultFall u 0xB 2 k else u) k)) k = bundleOf u k := by
    intro u
    rw [bundleOf_ttUpdate, bundleOf_pairCheck]
    split
    · exact bundleOf_of_ell (ell_of_part (faultFall_part .ell (by decide) _ _ _ _)) _
    · rfl
  unfold ellUp
  dsimp only
  refine ⟨?_, ?_, ?_, ?_, ?_, ?_⟩
  · rw [hhome Bundle.st (fun _ _ => rfl) (fun _ => rfl), hmid, bundleOf_modBundle_same]
  · rw [hhome Bundle.retry (fun _ _ => rfl) (fun _ => rfl), hmid, bundleOf_modBundle_same]
  · rw [hhome Bundle.next (fun _ _ => rfl) (fun _ => rfl), hmid, bundleOf_modBundle_same]
  · rw [hhome Bundle.clk (fun _ _ => rfl) (fun _ => rfl), hmid, bundleOf_modBundle_same]
  · rw [hhome Bundle.bad (fun _ _ => rfl) (fun _ => rfl), hmid, bundleOf_modBundle_same]
  · rw [hhome Bundle.moved (fun _ _ => rfl) (fun _ => rfl), hmid, bundleOf_modBundle_same]

theorem ellTrain_state (s : State) (k : Nat) : bundleOf (ellTrain s k) k =
    { bundleOf s k with st := .train, since := s.now, wire := [], bad := 0, moved := {}, par := {} } := by
  rw [ellTrain, bundleOf_ttUpdate, bundleOf_modBundle_same]

/-! ## Searches and lanes -/

theorem fullSearchDone_good {s : State} {k bad : Nat} (hst : (bundleOf s k).st = .train) (hgood : 64 ≤ goodLanes bad)
    (htime : s.now ≤ (bundleOf s k).since + 10000000) : fullSearchDone s k true bad =
    event (ellUp (modBundle (storeAlign s k bad) k (fun b =>
      { b with clk := true, bad := bad, moved := mapLanes bad, stored := true, par := {} })) k) 0x2C02 k (2 ^ 31 + goodLanes bad) := by
  unfold fullSearchDone
  rw [if_neg (not_not_intro hst)]
  exact if_pos ⟨rfl, hgood, htime⟩

theorem fullSearchDone_bad {s : State} {k bad : Nat} {clk : Bool} (hst : (bundleOf s k).st = .train)
    (hbad : clk = false ∨ goodLanes bad < 64 ∨ (bundleOf s k).since + 10000000 < s.now) : fullSearchDone s k clk bad =
    ellFence (modBundle s k (fun b => { b with bad := if clk then bad else bad ||| 1 <<< 66 })) k 0 := by
  unfold fullSearchDone
  rw [if_neg (not_not_intro hst)]
  refine if_neg ?_
  rintro ⟨hclk, hgood, htime⟩
  rcases hbad with h | h | h
  · rw [h] at hclk
    exact Bool.false_ne_true hclk
  · omega
  · omega

/-- A lane that has not been marked and is now bad (R299). -/
theorem laneBad_due {s : State} {k ph : Nat} {loss : Bool} (hnew : (bundleOf s k).bad.testBit ph = false)
    (hbad : loss = true ∨ laneThr s k ≤ parCount (bundleOf s k) s.now ph) :
    ((bundleOf s k).bad.testBit ph || !(loss || decide (laneThr s k ≤ parCount (bundleOf s k) s.now ph))) = false := by
  rw [hnew, Bool.false_or]
  rcases hbad with h | h
  · rw [h]
    rfl
  · rw [decide_eq_true h, Bool.or_true]
    rfl

theorem bundleOf_markBad (s : State) (k ph : Nat) : bundleOf (markBad s k ph) k =
    { bundleOf s k with bad := (bundleOf s k).bad ||| 1 <<< ph } := bundleOf_modBundle_same _ _ _

/-- A free spare is asked for (R300). -/
theorem laneBad_spare {s : State} {k ph l sp : Nat} {loss : Bool} {more : List Nat} (hnew : (bundleOf s k).bad.testBit ph = false)
    (hbad : loss = true ∨ laneThr s k ≤ parCount (bundleOf s k) s.now ph) (hst : (bundleOf s k).st = .up)
    (hlog : logicalOn (bundleOf s k) ph = some l)
    (hfree : freeSpares (bundleOf (markBad s k ph) k) = sp :: more) : laneBad s k ph loss =
    modBundle (markBad s k ph) k (fun x => { x with swapReq := x.swapReq ++ [(l, sp)] }) := by
  simp only [laneBad, laneBad_due hnew hbad, Bool.false_eq_true, if_false, hst, ne_eq, not_true, hlog, hfree]

/-- With no spare left the bundle direction is fenced (R301). -/
theorem laneBad_noSpare {s : State} {k ph l : Nat} {loss : Bool} (hnew : (bundleOf s k).bad.testBit ph = false)
    (hbad : loss = true ∨ laneThr s k ≤ parCount (bundleOf s k) s.now ph) (hst : (bundleOf s k).st = .up)
    (hlog : logicalOn (bundleOf s k) ph = some l)
    (hfree : freeSpares (bundleOf (markBad s k ph) k) = []) :
    laneBad s k ph loss = ellFence (markBad s k ph) k 2 := by
  simp only [laneBad, laneBad_due hnew hbad, Bool.false_eq_true, if_false, hst, ne_eq, not_true, hlog, hfree]

/-- A lane without data, or of a bundle direction that is not UP, is only marked (R299). -/
theorem laneBad_marked {s : State} {k ph : Nat} {loss : Bool} (hnew : (bundleOf s k).bad.testBit ph = false)
    (hbad : loss = true ∨ laneThr s k ≤ parCount (bundleOf s k) s.now ph)
    (hidle : (bundleOf s k).st ≠ .up ∨ logicalOn (bundleOf s k) ph = none) : laneBad s k ph loss = markBad s k ph := by
  simp only [laneBad, laneBad_due hnew hbad, Bool.false_eq_true, if_false]
  rcases hidle with h | h
  · rw [if_pos h]
  · rw [h, ite_self]

theorem testBit_marked (x i : Nat) : (x ||| 1 <<< i).testBit i = true := by
  rw [Nat.testBit_or, Nat.shiftLeft_eq, Nat.one_mul, Nat.testBit_two_pow_self, Bool.or_true]

theorem testBit_cleared {x i : Nat} (h : x.testBit i = true) : (x ^^^ 1 <<< i).testBit i = false := by
  rw [Nat.testBit_xor, h, Nat.shiftLeft_eq, Nat.one_mul, Nat.testBit_two_pow_self]
  rfl

/-- A bad lane that passes its search is good again (R301). -/
theorem laneSearchDone_pass {s : State} {k ph : Nat} (h : (bundleOf s k).bad.testBit ph = true) :
    (bundleOf (laneSearchDone s k ph true) k).bad.testBit ph = false ∧ (bundleOf (laneSearchDone s k ph true) k).st = (bundleOf s k).st ∧
    (bundleOf (laneSearchDone s k ph true) k).moved = (bundleOf s k).moved ∧ AgreeBut [.flt, .ell] s (laneSearchDone s k ph true) := by
  have hgo : ((bundleOf s k).bad.testBit ph && true) = true := by rw [h]; rfl
  have hsame := bundleOf_modBundle_same s k (fun x => { x with bad := x.bad ^^^ 1 <<< ph, par := x.par.set (0, 0) ph (0, 0) })
  have hframe : AgreeBut [.flt, .ell] s (modBundle s k (fun x => { x with bad := x.bad ^^^ 1 <<< ph, par := x.par.set (0, 0) ph (0, 0) })) :=
    fun p hp => modBundle_part p (by simp at hp; simp [hp]) _ _ _
  unfold laneSearchDone
  dsimp only
  rw [if_pos hgo]
  obtain ⟨u, hu⟩ : ∃ u, modBundle s k (fun x => { x with bad := x.bad ^^^ 1 <<< ph, par := x.par.set (0, 0) ph (0, 0) }) = u := ⟨_, rfl⟩
  rw [hu] at hsame hframe ⊢
  have hfall : bundleOf (if holds u 0xB 6 k then faultFall u 0xB 6 k else u) k = bundleOf u k := by
    split
    · exact bundleOf_of_ell (ell_of_part (faultFall_part .ell (by decide) _ _ _ _)) _
    · rfl
  rw [hfall, hsame]
  refine ⟨testBit_cleared h, rfl, rfl, hframe.trans fun p hp => ?_⟩
  split
  · exact faultFall_part p (by simp at hp; simp [hp]) _ _ _ _
  · rfl

/-! ## Bodies -/

theorem ctrAt_bufDec_other (s : State) (k gen : Nat) {a : Nat} (h : a ≠ cOff 0xC 0x50) (hr : a / 0x1000000 ≠ 0x11) :
    ctrAt (bufDec s k gen) a = ctrAt s a := by
  unfold bufDec
  dsimp only
  split
  · exact ctrAt_bufRefuse_other _ _ _ _ h hr
  · split
    · exact ctrAt_bufRefuse_other _ _ _ _ h hr
    · split
      · exact ctrAt_congr (poolEase_ctr _ _) a
      · rfl

/-- The fields of a tag (Table 10.6). -/
theorem tag_fields {gen g i : Nat} (hgen : gen < 4) (hg : g < 16) (hi : i < 16384) : tagGen (mkTag gen g i) = gen ∧
    tagGroup (mkTag gen g i) = g ∧ tagIndex (mkTag gen g i) = i ∧ mkTag gen g i % 2 ^ 18 = g * 2 ^ 14 + i := by
  unfold tagGen tagGroup tagIndex mkTag
  omega

/-- A waiting body is freed without its buffer's release in sight. -/
def bodyFreed (s : State) (w : BodyWait) : State := match w.buf with | some (k, g) => bufDec s k g | none => s

theorem freeIngBody_waiting {s : State} {tag : Nat} {w : BodyWait} (h : waitingBody s tag = some w) : freeIngBody s tag false =
    modIngBody (giveTag (bodyFreed s w) 0 tag (ingBodyOf s tag).charged) tag (fun b => { gen := (b.gen + 1) % 4, wait := none, charged := 0 }) := by
  unfold freeIngBody bodyFreed
  rw [h]
  rfl

theorem bodyFreed_keeps (s : State) (w : BodyWait) : (bodyFreed s w).ell = s.ell ∧
    ∀ a, a ≠ cOff 0xC 0x50 → a / 0x1000000 ≠ 0x11 → ctrAt (bodyFreed s w) a = ctrAt s a := by
  unfold bodyFreed
  split
  · exact ⟨ell_of_part (bufDec_part .ell (by decide) _ _ _), fun a h hr => ctrAt_bufDec_other s _ _ h hr⟩
  · exact ⟨rfl, fun _ _ _ => rfl⟩

/-- A freed body returns its tag with the next generation (R289). -/
theorem freeIngBody_state {s : State} {gen g i : Nat} {w : BodyWait} (hgen : (s.ell.body.get {} (g * 2 ^ 14 + i)).gen = gen)
    (hw : (s.ell.body.get {} (g * 2 ^ 14 + i)).wait = some w) (h4 : gen < 4) (hg : g < 16) (hi : i < 16384) :
    (freeIngBody s (mkTag gen g i) false).ell.body.get {} (g * 2 ^ 14 + i) = { gen := (gen + 1) % 4 } ∧
    (creditOf (freeIngBody s (mkTag gen g i) false) 0 g).freed = (creditOf s 0 g).freed ++ [mkTag ((gen + 1) % 4) g i] ∧
    ∀ a, a ≠ cOff 0xC 0x50 → a / 0x1000000 ≠ 0x11 → ctrAt (freeIngBody s (mkTag gen g i) false) a = ctrAt s a := by
  obtain ⟨t1, t2, t3, t4⟩ := tag_fields h4 hg hi
  have hwait : waitingBody s (mkTag gen g i) = some w := by
    unfold waitingBody ingBodyOf
    rw [t4, t1]
    exact (if_pos hgen).trans hw
  obtain ⟨hell, hctr⟩ := bodyFreed_keeps s w
  rw [freeIngBody_waiting hwait]
  obtain ⟨u, hu⟩ : ∃ u, bodyFreed s w = u := ⟨_, rfl⟩
  rw [hu] at hell hctr ⊢
  obtain ⟨n, hn⟩ : ∃ n, (ingBodyOf s (mkTag gen g i)).charged = n := ⟨_, rfl⟩
  rw [hn]
  refine ⟨?_, ?_, fun a h hr => hctr a h hr⟩
  · rw [← t4]
    refine (SMap.get_upd_same _ _ _ _).trans ?_
    show ({ gen := ((u.ell.body.get {} (mkTag gen g i % 2 ^ 18)).gen + 1) % 4, wait := none, charged := 0 } : IngBody) = _
    rw [hell, t4, hgen]
  · have hsame : creditOf (giveTag u 0 (mkTag gen g i) n) 0 g = { creditOf u 0 g with
        freed := (creditOf u 0 g).freed ++ [mkTag ((gen + 1) % 4) g i], used := (creditOf u 0 g).used - n } := by
      rw [giveTag, t1, t2, t3]
      exact SMap.get_upd_same _ _ _ _
    have hu' : creditOf u 0 g = creditOf s 0 g := by
      unfold creditOf
      rw [hell]
    refine (congrArg BodyCredit.freed hsame).trans ?_
    rw [hu']

/-! ## Sleep -/

theorem ellIdx_fits (k : Fin 32) : idxFit (Reg.info .ellBcfg).dims (ellIdx k.val) = true := by
  have h1 : k.val / 16 < 2 := by omega
  have h2 : k.val % 16 < 16 := by omega
  simp [Reg.info, idxFit, ellIdx, h1, h2]

theorem bcfgWrite_state (s : State) (k : Nat) (v : Word) : regRaw (bcfgWrite s k v) .ellBcfg (ellIdx k) = v &&& 0xE00000FF ∧
    (∀ j, (bundleOf (bcfgWrite s k v) j).st = (bundleOf s j).st) ∧ AgreeBut [.regs, .ell] s (bcfgWrite s k v) := by
  have hreg := regRaw_setReg_same s .ellBcfg (ellIdx k) (v &&& 0xE00000FF)
  have hset : AgreeBut [.regs, .ell] s (setReg s .ellBcfg (ellIdx k) (v &&& 0xE00000FF)) := fun p hp =>
    setReg_part p (by simp at hp; simp [hp]) s _ _ _
  unfold bcfgWrite
  dsimp only
  split
  · exact ⟨hreg, fun _ => rfl, hset⟩
  · exact ⟨hreg, modBundle_keeps Bundle.st (fun _ => by rfl) _ _, hset.trans fun p hp => modBundle_part p (by simp at hp; simp [hp]) _ _ _⟩

/-- A bundle direction that falls asleep (R307). -/
def asleep (b : Bundle) (off : Bool) (now : Nat) : Bundle :=
  { b with st := if off then .off else .doze, since := now, clk := !off, wire := if off then [] else b.wire }

theorem sleepEnter_doze {s : State} {k : Nat} (hup : (bundleOf s k).st = .up) (hretry : (bundleOf s k).retry = [])
    (hv : sleepOf s k = 1 ∨ (sleepOf s k = 2 ∧ offAllowed s k = false)) : (bundleOf (sleepEnter s k) k).st = .doze ∧
    (bundleOf (sleepEnter s k) k).next = (bundleOf s k).next := by
  have hoff : ¬(sleepOf s k = 2 ∧ offAllowed s k = true) := by
    rintro ⟨h2, ho⟩
    rcases hv with h | ⟨-, h⟩
    · omega
    · rw [h] at ho
      exact Bool.false_ne_true ho
  have hne : sleepOf s k ≠ 0 := by
    rcases hv with h | ⟨h, -⟩ <;> omega
  have hgo : sleepOf s k ≠ 0 ∧ (((bundleOf s k).st = .up ∧ (bundleOf s k).retry.isEmpty = true) ∨ ((bundleOf s k).st = .doze ∧ BState.doze = .off)) :=
    ⟨hne, .inl ⟨hup, by rw [hretry]; rfl⟩⟩
  unfold sleepEnter
  dsimp only
  rw [if_neg hoff, if_pos hgo, if_neg (by decide), bundleOf_ttUpdate, bundleOf_pairCheck, bundleOf_modBundle_same]
  exact ⟨rfl, rfl⟩

theorem sleepEnter_off {s : State} {k : Nat} (hst : (bundleOf s k).st = .doze ∨ ((bundleOf s k).st = .up ∧ (bundleOf s k).retry = []))
    (hv : sleepOf s k = 2) (ho : offAllowed s k = true) : (bundleOf (sleepEnter s k) k).st = .off ∧
    (bundleOf (sleepEnter s k) k).next = (bundleOf s k).next := by
  have hgo : sleepOf s k ≠ 0 ∧ (((bundleOf s k).st = .up ∧ (bundleOf s k).retry.isEmpty = true) ∨ ((bundleOf s k).st = .doze ∧ BState.off = .off)) := by
    refine ⟨by omega, ?_⟩
    rcases hst with h | ⟨h, hr⟩
    · exact .inr ⟨h, rfl⟩
    · exact .inl ⟨h, by rw [hr]; rfl⟩
  unfold sleepEnter
  dsimp only
  rw [if_pos (⟨hv, ho⟩ : sleepOf s k = 2 ∧ offAllowed s k = true), if_pos hgo, if_pos rfl, bundleOf_ttUpdate, bundleOf_pairCheck, ellDom,
    bundleOf_of_ell (ell_of_part (blockSwitch_part .ell (by decide) _ _ _)), bundleOf_modBundle_same]
  exact ⟨rfl, rfl⟩

theorem ellWake_state {s : State} {k : Nat} (hst : (bundleOf s k).st = .doze ∨ (bundleOf s k).st = .off)
    (hwake : sleepOf s k = 0 ∨ ((bundleOf s k).segq ≠ [] ∧ (rb s .ellBcfg (ellIdx k) 29 = true ∨ (bundleOf s (partnerOf k)).st ≠ .up))) :
    (bundleOf (ellWake s k) k).st = .wake ∧ (bundleOf (ellWake s k) k).segq = (bundleOf s k).segq := by
  have hgo : ((bundleOf s k).st = .doze ∨ (bundleOf s k).st = .off) ∧ (sleepOf s k = 0 ∨
      (!(bundleOf s k).segq.isEmpty && (rb s .ellBcfg (ellIdx k) 29 || (bundleOf s (partnerOf k)).st != .up)) = true) := by
    refine ⟨hst, hwake.imp_right fun ⟨hq, hor⟩ => ?_⟩
    simpa [hq] using hor
  have hdom : bundleOf (if (bundleOf s k).st = .off then ellDom s k true else s) k = bundleOf s k := by
    split
    · exact bundleOf_of_ell (ell_of_part (blockSwitch_part .ell (by decide) _ _ _)) _
    · rfl
  unfold ellWake
  dsimp only
  rw [if_pos hgo, bundleOf_ttUpdate, bundleOf_modBundle_same, hdom]
  exact ⟨rfl, rfl⟩

/-- Settles O39: searches and time-outs, the clock lane, quick alignment, lanes, sleep and wake, and the age of a body. -/
theorem seamStates : Obligations.SeamStates := by
  unfold Obligations.SeamStates
  refine ⟨fun k bad s hon hfw hst hgood htime => ?found, fun k clk bad s hon hfw hst hbad => ?notFound, fun k s hon hst htime => ?timeout,
    fun k s hon hst => ?clock, fun k s hon hst htime => ?aligned, fun k pass s hon hst hfail => ?notAligned,
    fun k lane loss l sp more s hon hst hnew hbad hlog hfree => ?spare, fun k lane loss l s hon hst hnew hbad hlog hfree => ?noSpare,
    fun k lane loss s hon hnew hbad hidle => ?marked, fun k lane s hon hfw hbad => ?good, fun slot k val s hmay => ?write,
    fun k s hon hst hretry hv => ?doze, fun k s hon hst hv ho => ?off, fun k s hon hst hwake => ?wake, fun k s hon hst => ?woken,
    fun k s hon hst => ?notWoken, fun g i w s hon hw hgen hage => ?age⟩
  case found =>
    have hend := fwOnData_run hon hfw (fullSearchDone_good hst hgood htime)
    have hsame := bundleOf_modBundle_same (storeAlign s k.val bad.toNat) k.val (fun b =>
      { b with clk := true, bad := bad.toNat, moved := mapLanes bad.toNat, stored := true, par := {} })
    rw [bundleOf_of_ell (ell_of_part (storeAlign_part .ell (by decide) s k.val bad.toNat))] at hsame
    have hframe : AgreeBut [.free, .regs, .ctr, .flt, .rcd, .tgt, .ell] s (modBundle (storeAlign s k.val bad.toNat) k.val (fun b =>
        { b with clk := true, bad := bad.toNat, moved := mapLanes bad.toNat, stored := true, par := {} })) := fun p hp => by
      rw [modBundle_part p (by simp at hp; simp [hp]), storeAlign_part p (by simp at hp; simp [hp])]
    obtain ⟨u, hu⟩ : ∃ u, modBundle (storeAlign s k.val bad.toNat) k.val (fun b =>
        { b with clk := true, bad := bad.toNat, moved := mapLanes bad.toNat, stored := true, par := {} }) = u := ⟨_, rfl⟩
    rw [hu] at hend hsame hframe
    obtain ⟨h1, h2, h3, h4, h5, h6⟩ := ellUp_state u k.val
    rw [hsame] at h2 h3 h4 h5 h6
    have hev : bundleOf (event (ellUp u k.val) 0x2C02 k.val (2 ^ 31 + goodLanes bad.toNat)) k.val = bundleOf (ellUp u k.val) k.val :=
      bundleOf_of_ell (event_ell _ _ _ _) _
    refine ⟨_, congrArg Host.Outcome.next hend, by rw [hev, h6], by rw [hev, h1], by rw [hev, h4], by rw [hev, h5], by rw [hev, h2],
      by rw [hev, h3], hframe.trans fun p hp => ?_⟩
    rw [event_part p (by simp at hp; simp [hp]), ellUp_part p (by simp at hp; simp [hp])]
  case notFound =>
    have hend := fwOnData_run hon hfw (fullSearchDone_bad hst hbad)
    obtain ⟨h1, h2, h3, h4, h5, h6, h7, -, hframe⟩ := ellFence_of_mod s k.isLt
      (f := fun b => { b with bad := if clk then bad.toNat else bad.toNat ||| 1 <<< 66 }) (fun _ => rfl) (fun _ => rfl) 0
    exact ⟨_, congrArg Host.Outcome.next hend, h1, h2, h3, h4, h5, h6, h7, hframe⟩
  case timeout =>
    have hend : trainTimeoutEll s k.val = ellFence s k.val 0 := if_pos ⟨hst, htime⟩
    obtain ⟨hb, hfen, hhome⟩ := ellFence_state s k.isLt 0
    exact ⟨_, congrArg Host.Outcome.next (onData_run hon hend), by rw [hb]; rfl, by rw [hb]; rfl, by rw [hb]; rfl, hfen, hhome,
      by rw [hb]; rfl, by rw [hb]; rfl, fun p hp => ellFence_part p (by simpa using hp) s _ _⟩
  case clock =>
    have hend : clockLoss s k.val = ellFence (markBad s k.val 66) k.val 1 := if_pos hst
    obtain ⟨h1, h2, h3, h4, h5, h6, h7, h8, hframe⟩ := ellFence_of_mod s k.isLt
      (f := fun b => { b with bad := b.bad ||| 1 <<< 66 }) (fun _ => rfl) (fun _ => rfl) 1
    refine ⟨_, congrArg Host.Outcome.next (onData_run hon hend), h1, h2, h3, h4, h5, h6, h7, ?_, hframe⟩
    exact (congrArg (fun x : Nat => x.testBit 66) h8).trans (testBit_marked _ _)
  case aligned =>
    have hend : retrainDone s k.val true = ellUp s k.val := by
      unfold retrainDone
      dsimp only
      rw [if_neg (not_not_intro hst)]
      exact if_pos ⟨rfl, htime⟩
    obtain ⟨h1, h2, h3, -, -, -⟩ := ellUp_state s k.val
    exact ⟨_, congrArg Host.Outcome.next (onData_run hon hend), h1, h2, h3, fun p hp => ellUp_part p (by simpa using hp) s _⟩
  case notAligned =>
    have hend : retrainDone s k.val pass = ellTrain s k.val := by
      unfold retrainDone
      dsimp only
      rw [if_neg (not_not_intro hst)]
      refine if_neg ?_
      rintro ⟨hpass, htime⟩
      rcases hfail with h | h
      · rw [h] at hpass
        exact Bool.false_ne_true hpass
      · omega
    have hb := ellTrain_state s k.val
    exact ⟨_, congrArg Host.Outcome.next (onData_run hon hend), by rw [hb], by rw [hb], by rw [hb], by rw [hb],
      fun p hp => ellTrain_part p (by simpa using hp) s _⟩
  case spare =>
    have hend := laneBad_spare hnew hbad hst hlog (by rw [bundleOf_markBad]; exact hfree)
    have hb := bundleOf_modBundle_same (markBad s k.val lane.val) k.val (fun x => { x with swapReq := x.swapReq ++ [(l, sp)] })
    rw [bundleOf_markBad] at hb
    refine ⟨_, congrArg Host.Outcome.next (onData_run hon hend), by rw [hb], ?_, by rw [hb]; exact hst, by rw [hb], by rw [hb], fun p hp => ?_⟩
    · rw [hb]
      exact testBit_marked _ _
    · rw [modBundle_part p (by simpa using hp), markBad_part p (by simpa using hp)]
  case noSpare =>
    have hend := laneBad_noSpare hnew hbad hst hlog (by rw [bundleOf_markBad]; exact hfree)
    obtain ⟨h1, h2, h3, h4, h5, h6, h7, h8, hframe⟩ := ellFence_of_mod s k.isLt
      (f := fun b => { b with bad := b.bad ||| 1 <<< lane.val }) (fun _ => rfl) (fun _ => rfl) 2
    refine ⟨_, congrArg Host.Outcome.next (onData_run hon hend), ?_, h1, h2, h3, h4, h5, h6, h7, hframe⟩
    exact (congrArg (fun x : Nat => x.testBit lane.val) h8).trans (testBit_marked _ _)
  case marked => exact congrArg Host.Outcome.next (onData_run hon (laneBad_marked hnew hbad hidle))
  case good =>
    obtain ⟨h1, h2, h3, hframe⟩ := laneSearchDone_pass hbad
    exact ⟨_, congrArg Host.Outcome.next (fwOnData_run hon hfw rfl), h1, h2, h3, hframe⟩
  case write =>
    have hw : writeReg s .ellBcfg [k.val / 16, k.val % 16] val = (bcfgWrite s (16 * (k.val / 16) + k.val % 16) val, false) := rfl
    have hend := ownWrite_of_writeReg hmay hw (ellIdx_fits k) rfl (by decide) (by decide)
    rw [Nat.div_add_mod] at hend
    obtain ⟨hreg, hst, hframe⟩ := bcfgWrite_state s k.val val
    obtain ⟨u, hu⟩ : ∃ u, bcfgWrite s k.val val = u := ⟨_, rfl⟩
    rw [hu] at hend hreg hst hframe
    exact ⟨_, congrArg Host.Outcome.next hend, rfl, hreg, hst _, AgreeBut.acc (by simp) _ (hframe.mono (by simp))⟩
  case doze =>
    obtain ⟨h1, h2⟩ := sleepEnter_doze hst hretry hv
    exact ⟨_, congrArg Host.Outcome.next (if_pos hon), h1, h2, fun p hp => sleepEnter_part p (by simpa using hp) s _⟩
  case off =>
    obtain ⟨h1, h2⟩ := sleepEnter_off hst hv ho
    exact ⟨_, congrArg Host.Outcome.next (if_pos hon), h1, h2, fun p hp => sleepEnter_part p (by simpa using hp) s _⟩
  case wake =>
    obtain ⟨h1, h2⟩ := ellWake_state hst hwake
    exact ⟨_, congrArg Host.Outcome.next (if_pos hon), h1, h2, fun p hp => ellWake_part p (by simpa using hp) s _⟩
  case woken =>
    have hend : wakeDone s k.val true = ellUp (modBundle s k.val (fun b => { b with clk := true })) k.val := by
      unfold wakeDone
      rw [if_neg (not_not_intro hst)]
      exact if_pos rfl
    obtain ⟨h1, h2, h3, h4, -, -⟩ := ellUp_state (modBundle s k.val (fun b => { b with clk := true })) k.val
    rw [bundleOf_modBundle_same] at h2 h3 h4
    refine ⟨_, congrArg Host.Outcome.next (onData_run hon hend), h1, h4, h2, h3, fun p hp => ?_⟩
    rw [ellUp_part p (by simpa using hp), modBundle_part p (by simp at hp; simp [hp])]
  case notWoken =>
    have hend : wakeDone s k.val false = ellTrain s k.val := by
      unfold wakeDone
      rw [if_neg (not_not_intro hst)]
      rfl
    have hb := ellTrain_state s k.val
    exact ⟨_, congrArg Host.Outcome.next (onData_run hon hend), by rw [hb], by rw [hb], by rw [hb],
      fun p hp => ellTrain_part p (by simpa using hp) s _⟩
  case age =>
    have hend : bodyAge s g.val i.val = event (count (freeIngBody s (mkTag (s.ell.body.get {} (g.val * 2 ^ 14 + i.val)).gen g.val i.val) false)
        0xB 0x80008) 0x2C05 g.val (mkTag (s.ell.body.get {} (g.val * 2 ^ 14 + i.val)).gen g.val i.val) := by
      unfold bodyAge
      dsimp only
      rw [hw]
      exact if_pos hage
    obtain ⟨hbody, hfreed, hctr⟩ := freeIngBody_state rfl hw hgen g.isLt i.isLt
    have hframe : AgreeBut [.regs, .ctr, .flt, .rcd, .ell, .bpm] s
        (freeIngBody s (mkTag (s.ell.body.get {} (g.val * 2 ^ 14 + i.val)).gen g.val i.val) false) := fun p hp =>
      freeIngBody_part p (by simpa using hp) s _ _
    obtain ⟨u, hu⟩ : ∃ u, freeIngBody s (mkTag (s.ell.body.get {} (g.val * 2 ^ 14 + i.val)).gen g.val i.val) false = u := ⟨_, rfl⟩
    rw [hu] at hend hbody hfreed hctr hframe
    obtain ⟨v, hv⟩ : ∃ v, event (count u 0xB 0x80008) 0x2C05 g.val (mkTag (s.ell.body.get {} (g.val * 2 ^ 14 + i.val)).gen g.val i.val) = v :=
      ⟨_, rfl⟩
    have hell : v.ell = u.ell := by rw [← hv, event_ell]; rfl
    have hcnt : ctrAt v (cOff 0xB 0x80008) = (ctrAt u (cOff 0xB 0x80008)).add 1 := by
      rw [← hv, ctrAt_event_other _ _ _ _ (by decide), ctrAt_count_same]
    have hpart : AgreeBut [.regs, .ctr, .flt, .rcd, .ell, .bpm] u v := fun p hp => by
      rw [← hv, event_part p (by simp at hp; simp [hp]), count_part p (by simp at hp; simp [hp])]
    rw [hv] at hend
    refine ⟨_, congrArg Host.Outcome.next (onData_run hon hend), by rw [hell, hbody], ?_, ?_, hframe.trans hpart⟩
    · rw [creditOf, hell]
      exact hfreed
    · rw [hcnt, hctr _ (by decide) (by decide)]

end Sys2Proof.Machine
end

section
/-! The statement about admission (R313 to R331). -/

namespace Sys2Proof.Machine

/-- The ticket of a packet of 3 bytes for queue 4095. -/
def loneTicket : Ticket := tsealed (tset (tset (tset (tset (tset 0 241 228 3) 249 248 3) 215 196 4095) 219 216 8) 31 16 5)

/-- Queue 4095 may take 1 KiB, and a ticket for it waits at unit 15. In queue 0 a record without a buffer is reserved whose packet's
copy-making has not ended, as a first accepted pointer leaves it between placeHbm and handEnd. -/
def copyingState : State := { ownedState with
  pwr := { boot := { sysref := true, rails := true, fw := some 0, fwReady := true, cleared := true, tun := some 0, done := true },
           fclk := true, qclk := true }
  fur := { direct := false }
  regs := ((((SMap.empty.put (Reg.addr .bpmQcfg [4095]) (some 0x800000FF)).put (Reg.addr .schQsplit []) (some 0x00001000)).put
    (Reg.addr .bpmProfMax [255, 3]) (some 1)).put (Reg.addr .bpmProfMin [255]) (some 1)).put (Reg.addr .bpmPoolCfg [0]) (some 16)
  bpm := { unit := SMap.empty.put 15 (some [.ing loneTicket [1, 2, 3] none])
           q := SMap.empty.put 0 (some { hbm := [{ p := { tkt := 0, len := 0, at' := 0, loc := .hbm } }] }) } }

/-- The records that the end of the copy-making of the packet in buffer k gives that buffer to (R326). -/
def recsLate (s : State) (k g : Nat) : List HRec :=
  (allRecs s).filter (fun r => (r.st == .reserved && !r.ready && (r.p.loc == .buf k g || r.p.loc == .hbm)) && r.p.loc == .hbm)

/-- The buffer has a reference more for each of them. -/
theorem bufOf_recsReady (s : State) (k g acc : Nat) : bufOf (recsReady s (some (k, g)) acc) k =
    { bufOf s k with ref := (bufOf s k).ref + (recsLate s k g).length } := SMap.get_upd_same _ _ _ _

/-- Where no packet's copies are being made, a packet's own end of copy-making leaves its buffer as it was (R331). -/
theorem bufOf_recsReady_alone {s : State} (h : ∀ r ∈ allRecs s, r.st = .reserved → r.ready = true) (k g acc : Nat) :
    bufOf (recsReady s (some (k, g)) acc) k = bufOf s k := by
  have hnone : recsLate s k g = [] := by
    rw [recsLate, List.filter_eq_nil_iff]
    intro r hr hmine
    simp only [Bool.and_eq_true, beq_iff_eq, Bool.not_eq_true'] at hmine
    obtain ⟨⟨⟨hst, hready⟩, -⟩, -⟩ := hmine
    rw [h r hr hst] at hready
    cases hready
  rw [bufOf_recsReady, hnone]
  rfl

/-- Refutes O40: in copyingState the packet at unit 15 takes buffer 0 as its clause says, but the end of its copy-making counts the record
of queue 0, still without a buffer, as one of its own, so the buffer keeps two references and not one. What fails is the clause's range,
every state, and not R331: bufOf_recsReady_alone shows that no reference is added where no other packet's copies are being made. -/
theorem not_admission : ¬ Obligations.Admission := by
  unfold Obligations.Admission
  rintro ⟨hpointer, -⟩
  obtain ⟨s1, halloc⟩ : ∃ s1, bufAlloc copyingState (poolFor 3) false [1, 2, 3] = some (0, 1, s1) :=
    ⟨poolLow (modBuf copyingState 0 (fun _ => { used := true, gen := 1, ref := 1, pkt := [1, 2, 3] })) 0, by decide +kernel⟩
  obtain ⟨t, hexec, -, -, hbuf, -⟩ := hpointer 15 loneTicket [1, 2, 3] [] 0 1 s1 copyingState (by decide) (by decide +kernel)
    (by decide +kernel) (by decide +kernel) (by decide +kernel) (by decide +kernel) (by decide +kernel) (by decide +kernel)
    (by decide +kernel) (by decide +kernel) (by decide +kernel) (by decide +kernel) (by decide +kernel) halloc
  have hon : blkOn copyingState 0xC = true := by decide +kernel
  have ht : admitHead copyingState 15 = t := Host.Outcome.next.inj ((congrArg Host.Outcome.next (if_pos hon).symm).trans hexec)
  have htwo : (bufOf t 0).ref = 2 := by
    rw [← ht]
    decide +kernel
  have hone : (bufOf t 0).ref = 1 := congrArg (fun x : Bool × Nat × Nat => x.2.2) hbuf
  omega

end Sys2Proof.Machine
end

section
/-! SUPPORT. Replicator queues: what an offer and the end of a packet's copy-making leave (R330 to R334). -/

namespace Sys2Proof.Machine

theorem bufDec_mc (s : State) (k gen : Nat) : (bufDec s k gen).bpm.mc = s.bpm.mc := by
  unfold bufDec
  dsimp only
  split
  · rw [bufRefuse_bpm]
  · split
    · rw [bufRefuse_bpm]
    · split
      · unfold poolEase
        split <;> rfl
      · rfl

theorem allocFail_mc (s : State) (p : Nat) : (allocFail s p).bpm.mc = s.bpm.mc := by
  unfold allocFail
  dsimp only
  split
  · rfl
  · rw [event_bpm]
    rfl

/-- The buffer that is taken, its generation, and the state after (R314). -/
theorem bufAlloc_some {s : State} {p : Nat} {r : Bool} {l : List Byte} {b : Nat × Nat × State} (e : bufAlloc s p r l = some b) :
    b.2.2 = poolLow (modBuf s b.1 (fun _ => { used := true, gen := b.2.1, ref := 1, pkt := l })) p := by
  obtain ⟨-, he⟩ := Option.ite_none_right_eq_some.mp e
  cases he
  rfl

theorem bufAlloc_mc {s : State} {p : Nat} {r : Bool} {l : List Byte} {b : Nat × Nat × State} (e : bufAlloc s p r l = some b) :
    b.2.2.bpm.mc = s.bpm.mc := by
  rw [bufAlloc_some e]
  rfl

theorem handBuf_mc {s : State} {h : Hand} {b : (Nat × Nat) × State} (e : handBuf s h = some b) : b.2.bpm.mc = s.bpm.mc := by
  unfold handBuf at e
  split at e
  · cases e
    rfl
  · obtain ⟨r, hr, rfl⟩ := Option.map_eq_some_iff.mp e
    exact (bufAlloc_mc hr :)

theorem accepted_mc (s : State) (q len : Nat) : (accepted s q len).bpm.mc = s.bpm.mc :=
  congrArg BpmSt.mc (bpm_of_part (accepted_part .bpm (by decide) _ _ _))

theorem placeOn_mc (s : State) (q : Nat) (t : Ticket) (len : Nat) (h : Hand) : (placeOn s q t len h).2.2.bpm.mc = s.bpm.mc := by
  unfold placeOn
  split
  · exact allocFail_mc _ _
  · next k g s1 e =>
    dsimp only
    rw [accepted_mc]
    exact handBuf_mc e

theorem placeHbm_mc (s : State) (u q : Nat) (t : Ticket) (len : Nat) (h : Hand) :
    (placeHbm s u q t len h).2.2.bpm.mc = s.bpm.mc := by
  unfold placeHbm
  split
  · simp [refuse, countQ, countB]
  · split
    · simp [refuse, countQ, countB]
    · dsimp only
      split
      · exact allocFail_mc _ _
      · next b s1 e =>
        have hs1 : s1.bpm.mc = s.bpm.mc := by
          split at e
          · exact handBuf_mc e
          · cases e
            rfl
        rw [accepted_mc, ← hs1]
        split <;> rfl

theorem spillExit_mc (s : State) (q : Nat) : (spillExit s q).bpm.mc = s.bpm.mc := by
  unfold spillExit
  dsimp only
  split <;> rfl

theorem refuse_mc (s : State) (q off qoff : Nat) : (refuse s q off qoff).bpm.mc = s.bpm.mc := rfl

theorem police_mc (s : State) (q len dp : Nat) : (police s q len dp).2.bpm.mc = s.bpm.mc :=
  congrArg BpmSt.mc (bpm_of_part (police_part .bpm (by decide) _ _ _ _))

theorem earlyDrop_mc (s : State) (q d : Nat) : (earlyDrop s q d).2.bpm.mc = s.bpm.mc :=
  congrArg BpmSt.mc (bpm_of_part (earlyDrop_part .bpm (by decide) _ _ _))

/-- An offer changes no replicator queue. -/
theorem offer_mc (s : State) (u q : Nat) (t : Ticket) (len : Nat) (h : Hand) : (offer s u q t len h).2.2.bpm.mc = s.bpm.mc := by
  have hp := police_mc s q len (tfld t 249 248)
  unfold offer
  generalize police s q len (tfld t 249 248) = pol at hp ⊢
  dsimp only
  split
  · exact hp
  · split
    · exact hp
    · split
      · exact hp
      · have he := (earlyDrop_mc pol.2 q pol.1).trans hp
        generalize earlyDrop pol.2 q pol.1 = drop at he ⊢
        split
        · exact he
        · split
          · exact (placeHbm_mc _ _ _ _ _ _).trans ((spillExit_mc _ _).trans he)
          · split
            · exact (placeOn_mc _ _ _ _ _).trans ((spillExit_mc _ _).trans he)
            · split
              · exact (placeHbm_mc _ _ _ _ _ _).trans ((spillExit_mc _ _).trans he)
              · exact (spillExit_mc _ _).trans he

theorem recsReady_mc (s : State) (b : Option (Nat × Nat)) (acc : Nat) : (recsReady s b acc).bpm.mc = s.bpm.mc := by
  unfold recsReady
  dsimp only
  split <;> rfl

theorem handEnd_mc (s : State) (h : Hand) : (handEnd s h).bpm.mc = s.bpm.mc := by
  unfold handEnd
  dsimp only
  split
  · rw [bufDec_mc, recsReady_mc]
  · exact recsReady_mc _ _ _

theorem mirLoad_mc (s : State) (m : MirSess) (n p : Nat) : (mirLoad s m n p).bpm.mc = s.bpm.mc := by
  rw [mirLoad]
  unfold mirReload
  split <;> rfl

theorem mirTake_mc (s : State) (m : MirSess) (n p : Nat) : (mirTake s m n p).2.bpm.mc = s.bpm.mc := by
  unfold mirTake
  dsimp only
  split
  · exact mirLoad_mc _ _ _ _
  · rfl

theorem mirPolice_mc {s t : State} {n len : Nat} (e : mirPolice s n len = some t) : t.bpm.mc = s.bpm.mc := by
  unfold mirPolice at e
  split at e
  · cases e
    rfl
  · split at e
    · cases e
      rfl
    · cases e

theorem mirrorCopy_mc (s : State) (u : Nat) (t : Ticket) (h : Hand) (b : Bool) : (mirrorCopy s u t h b).2.bpm.mc = s.bpm.mc := by
  unfold mirrorCopy
  dsimp only
  split
  · rfl
  · split
    · split
      · exact mirTake_mc _ _ _ _
      · next s1 e =>
        have hs1 := (mirPolice_mc e).trans (mirTake_mc s _ _ _)
        split
        · exact (offer_mc _ _ _ _ _ _).trans hs1
        · exact (offer_mc _ _ _ _ _ _).trans hs1
    · exact mirTake_mc _ _ _ _

theorem report_mc (s : State) (u : Nat) (t : Ticket) (b : Bool) : (report s u t b).bpm.mc = s.bpm.mc :=
  congrArg BpmSt.mc (bpm_of_part (report_part .bpm (by decide) _ _ _ _))

theorem mcEntry_mc (s : State) (u : Nat) (j : McJob) (base : Nat) : (mcEntry s u j base).2.bpm.mc = s.bpm.mc := offer_mc _ _ _ _ _ _

theorem mcOf_congr {s t : State} (h : t.bpm.mc = s.bpm.mc) (u : Nat) : mcOf t u = mcOf s u := congrArg (fun m : SMap (List McJob) => m.get [] u) h

theorem mcOf_modMc_same (s : State) (u : Nat) (f : List McJob → List McJob) : mcOf (modMc s u f) u = f (mcOf s u) :=
  SMap.get_upd_same _ _ _ _

/-- The end of a replication takes its packet off the replicator queue. -/
theorem mcOf_mcEnd (s : State) (u : Nat) (j : McJob) : mcOf (mcEnd s u j) u = (mcOf s u).drop 1 := by
  unfold mcEnd
  dsimp only
  obtain ⟨s1, hs1⟩ : ∃ s1, (if j.acc = 0 then countB s 0x80 else s) = s1 := ⟨_, rfl⟩
  have hmc1 : s1.bpm.mc = s.bpm.mc := by
    rw [← hs1]
    split <;> rfl
  rw [hs1, mcOf_congr ((report_mc _ _ _ _).trans ((handEnd_mc _ _).trans (mirrorCopy_mc _ _ _ _ _))), ← mcOf_congr hmc1,
    ← mcOf_modMc_same s1 u (fun l => l.drop 1)]
  split <;> rfl

end Sys2Proof.Machine
end

section
/-! SUPPORT. Records of a queue's HBM part: the lines they take, their bank accesses, the buffers they are read into (R324 to R327,
R348 to R355). -/

namespace Sys2Proof.Machine

/-- Lines taken for a queue change, of that queue, the block being filled and the channel last used. -/
theorem qOf_takeLines {q fuel n : Nat} {s t : State} {l : List (Nat × Nat × Nat)} (e : takeLines q fuel n s = some (l, t)) :
    ∃ b c, qOf t q = { qOf s q with blk := b, lastCh := c } := by
  induction fuel generalizing n s l with
  | zero => cases e
  | succ fuel ih =>
    unfold takeLines at e
    dsimp only at e
    split at e
    · cases e
      exact ⟨_, _, rfl⟩
    · split at e
      · cases e
      · next b k s1 hgot =>
        have hs1 : ∃ b c, qOf s1 q = { qOf s q with blk := b, lastCh := c } := by
          split at hgot
          · next r hr =>
            cases hgot
            obtain ⟨c, l, hcl⟩ : ∃ c l, (qOf s q).blk = some (c, l) := by
              cases hblk : (qOf s q).blk with
              | none => simp [hblk] at hr
              | some x => exact ⟨_, _, rfl⟩
            simp only [hcl] at hr
            obtain ⟨-, hr⟩ := Option.ite_none_right_eq_some.mp hr
            cases hr
            exact ⟨_, _, rfl⟩
          · obtain ⟨c, -, hc⟩ := Option.map_eq_some_iff.mp hgot
            cases hc
            exact ⟨_, _, qOf_modQ_same _ _ _⟩
        obtain ⟨b1, c1, h1⟩ := hs1
        obtain ⟨r, hr, hrt⟩ := Option.map_eq_some_iff.mp e
        cases hrt
        obtain ⟨b2, c2, h2⟩ := ih hr
        refine ⟨b2, c2, h2.trans ?_⟩
        have h3 : qOf (blkAdd (modQ s1 q (fun y => { y with blk := some (b, k + min n (64 - k)) })) b true) q =
            { qOf s1 q with blk := some (b, k + min n (64 - k)) } := qOf_modQ_same _ _ _
        rw [h3, h1]

theorem bankTouch_bpm (s : State) (b line : Nat) : (bankTouch s b line).bpm = s.bpm := rfl

theorem countCh_bpm (s : State) (c off n : Nat) : (countCh s c off n).bpm = s.bpm := rfl

/-- Counting the lines of a record, with or without their bank accesses, changes no queue and no buffer. -/
theorem foldl_countCh_bpm (l : List (Nat × Nat × Nat)) (off : Nat) (s : State) :
    (l.foldl (fun t x => countCh t (x.1 / 2 ^ 18) off x.2.2) s).bpm = s.bpm := by
  induction l generalizing s with
  | nil => rfl
  | cons x l ih => rw [List.foldl_cons, ih, countCh_bpm]

theorem foldl_access_bpm (l : List (Nat × Nat × Nat)) (off : Nat) (s : State) :
    (l.foldl (fun t x => bankTouch (countCh t (x.1 / 2 ^ 18) off x.2.2) x.1 (x.2.1 + x.2.2 - 1)) s).bpm = s.bpm := by
  induction l generalizing s with
  | nil => rfl
  | cons x l ih => rw [List.foldl_cons, ih, bankTouch_bpm, countCh_bpm]

theorem qOf_modHRec_same (s : State) (q i : Nat) (f : HRec → HRec) :
    qOf (modHRec s q i f) q = { qOf s q with hbm := (qOf s q).hbm.modify i f } := qOf_modQ_same _ _ _

/-- The buffer of the packet that is read stands alone: taken, with one reference (R327). -/
theorem readBuf_some {s t : State} {len k g : Nat} (e : readBuf s len = some (k, g, t)) :
    bufOf t k = { used := true, gen := g, ref := 1, pkt := [] } ∧ t.bpm.q = s.bpm.q := by
  obtain ⟨p, -, hp⟩ := List.exists_of_findSome?_eq_some e
  have ht := bufAlloc_some hp
  dsimp only at ht
  rw [ht]
  exact ⟨SMap.get_upd_same _ _ _ _, rfl⟩

theorem bufOf_congr {s t : State} (h : t.bpm.bufs = s.bpm.bufs) (k : Nat) : bufOf t k = bufOf s k :=
  congrArg (fun m : SMap Buf => m.get {} k) h

theorem bufOf_modHRec (s : State) (q i : Nat) (f : HRec → HRec) (k : Nat) : bufOf (modHRec s q i f) k = bufOf s k := rfl

theorem bufDec_shared {s : State} {k g : Nat} (hused : (bufOf s k).used = true) (hgen : (bufOf s k).gen = g) (href : 1 < (bufOf s k).ref) :
    bufDec s k g = modBuf s k (fun x => { x with ref := x.ref - 1 }) := by
  unfold bufDec
  simp only [hused, hgen, Bool.not_true, Bool.false_eq_true, if_false, ne_eq, not_true, false_or]
  rw [if_neg (by omega), if_neg (by omega)]

end Sys2Proof.Machine
end

section
/-! The statement about replication and spill (R324 to R332). -/

namespace Sys2Proof.Machine

/-- The first pointer to make of the packet at the front goes on: its entry is offered and the packet stays in front (R332). -/
theorem mcOffer_next {s : State} {u base len : Nat} {j : McJob} {rest : List McJob} (h : mcOf s u = j :: rest)
    (hl : j.list = some (base, len)) (hi : j.i + 1 < len) : mcOffer s u = modMc (mcEntry s u j base).2 u (fun l =>
      { j with list := some (base, len), i := j.i + 1, acc := if (mcEntry s u j base).1 then j.acc + 1 else j.acc } :: l.drop 1) := by
  unfold mcOffer
  simp only [h, hl, Option.isNone_some, Bool.false_eq_true, if_false]
  rw [if_neg (by omega), if_neg (by omega)]

/-- A replication that starts reads its group word, and makes its first offer (R330). -/
theorem mcOffer_start {s : State} {u : Nat} {j : McJob} {rest : List McJob} (h : mcOf s u = j :: rest) (hl : j.list = none) (hi : j.i = 0)
    (hlen : 1 < fld (groupWord s u j.tkt) 31 21) : mcOffer s u =
      modMc (mcEntry (countB s 0x68) u j (fld (groupWord s u j.tkt) 17 0)).2 u (fun l =>
      { j with list := some (fld (groupWord s u j.tkt) 17 0, fld (groupWord s u j.tkt) 31 21), i := j.i + 1
               acc := if (mcEntry (countB s 0x68) u j (fld (groupWord s u j.tkt) 17 0)).1 then j.acc + 1 else j.acc } :: l.drop 1) := by
  unfold mcOffer
  simp only [h, hl, Option.isNone_none, if_true]
  rw [if_neg (by omega), if_neg (by omega)]

/-- The last offer, or an empty list, ends the replication. -/
theorem mcOf_mcOffer_last {s : State} {u base len : Nat} {j : McJob} {rest : List McJob} (h : mcOf s u = j :: rest)
    (hl : j.list = some (base, len)) (hi : len ≤ j.i + 1) : mcOf (mcOffer s u) u = rest := by
  unfold mcOffer
  simp only [h, hl, Option.isNone_some, Bool.false_eq_true, if_false]
  split
  · rw [mcOf_mcEnd, h, List.drop_one, List.tail_cons]
  · rw [mcOf_mcEnd, mcOf_modMc_same]
    rw [mcOf_congr (mcEntry_mc _ _ _ _), h]
    rfl

theorem mcgWrite_taken {s : State} {g : Nat} {eg : Bool} {v : Word} (hlen : fld v 31 21 ≤ 1024) (hend : fld v 17 0 + fld v 31 21 ≤ 262144) :
    mcgWrite s g eg v = setReg s (if eg then .bpmMcgEg else .bpmMcgIng) [g] (v &&& 0xFFE3FFFF) := if_neg (by omega)

theorem mcgWrite_refused {s : State} {g : Nat} {eg : Bool} {v : Word} (h : 1024 < fld v 31 21 ∨ 262144 < fld v 17 0 + fld v 31 21) :
    mcgWrite s g eg v = setRB s .bpmStatus [] 31 true := if_pos h

/-- A write of a group word goes by mcgWrite and answers OK (R330). -/
theorem ownWrite_group {s : State} {slot : Fin 4} {g : Fin 65536} {eg : Bool} (v : Word)
    (h : ownerMay s slot (if eg then .bpmMcgEg else .bpmMcgIng) [g.val] = true) :
    ownWrite s slot.val (if eg then .bpmMcgEg else .bpmMcgIng) [g.val] v = { mcgWrite s g.val eg v with acc := (stOk, 0) } := by
  cases eg with
  | false => exact ownWrite_of_writeReg h rfl (by simp [Reg.info, idxFit]) rfl (by decide) (by decide)
  | true => exact ownWrite_of_writeReg h rfl (by simp [Reg.info, idxFit]) rfl (by decide) (by decide)

theorem groupAddr_ne_status (g : Nat) (eg : Bool) : (if eg then Reg.bpmMcgEg else .bpmMcgIng).addr [g] ≠ Reg.bpmStatus.addr [] := by
  cases eg with
  | false => exact fun h => absurd (show 0x0C200000 + joinDims [(65536, 8)] [g] = 0x0C00000C from h) (by omega)
  | true => exact fun h => absurd (show 0x0C200004 + joinDims [(65536, 8)] [g] = 0x0C00000C from h) (by omega)

/-- The first record not yet written goes to the lines it takes (R326). -/
theorem recWrite_first {s s1 : State} {q i : Nat} {r : HRec} {lines : List (Nat × Nat × Nat)}
    (hi : (qOf s q).hbm.findIdx? (fun r => r.st == .reserved && !r.dead) = some i) (hr : (qOf s q).hbm[i]? = some r) (hready : r.ready = true)
    (hl : takeLines q 256 (if r.data then recLines r.p.len else 1) s = some (lines, s1)) (hroom : roomFor (writesQueued s) lines 128 = true) :
    ∃ pkt, recWrite s q = lines.foldl (fun t x => bankTouch (countCh t (x.1 / 2 ^ 18) 0x08 x.2.2) x.1 (x.2.1 + x.2.2 - 1))
      (modHRec s1 q i (fun x => { x with st := .writing, lines := lines, pkt := pkt })) := by
  unfold recWrite
  simp only [hi, hr, hready, hl, hroom, Bool.not_true, Bool.false_eq_true, if_false]
  exact ⟨_, rfl⟩

/-- A data record's write completes: its pointer refers to the record and its buffer loses a reference (R324, R331). -/
theorem writeDone_data {s : State} {q i k g : Nat} {r : HRec}
    (hi : (qOf s q).hbm.findIdx? (fun r => r.st != .reserved && !r.done) = some i) (hr : (qOf s q).hbm[i]? = some r) (hdead : r.dead = false)
    (hdata : r.data = true) (hheld : recHeld s r = false) (hloc : r.p.loc = .buf k g) : writeDone s q =
      modHRec (bufDec s k g) q i (fun x => { x with done := true, st := if x.st = .writing then .written else x.st
                                                    p := if x.data then { x.p with loc := .hbm } else x.p }) := by
  unfold writeDone
  simp only [hi, hr, hdead, hdata, hheld, hloc, Bool.false_and, Bool.false_eq_true, if_false, if_true]

/-- The lines of a record that is read: counted as forwarded, or as accesses to their banks. -/
def readLines (r : HRec) (s : State) : State :=
  if r.st = .writing then r.lines.foldl (fun t l => countCh t (l.1 / 2 ^ 18) 0x20 l.2.2) s
  else r.lines.foldl (fun t l => bankTouch (countCh t (l.1 / 2 ^ 18) 0x00 l.2.2) l.1 (l.2.1 + l.2.2 - 1)) s

theorem readLines_bpm (r : HRec) (s : State) : (readLines r s).bpm = s.bpm := by
  unfold readLines
  split
  · exact foldl_countCh_bpm _ _ _
  · exact foldl_access_bpm _ _ _

/-- The front record not yet asked for is read into a buffer of its own (R327). -/
theorem readAhead_front {s s1 : State} {q i k g : Nat} {r : HRec} (hspill : (qOf s q).spill = true) (hpref : onDie (qOf s q) < prefBytes s)
    (hi : (qOf s q).hbm.findIdx? (fun r => r.st != .reading && !r.dead) = some i) (hr : (qOf s q).hbm[i]? = some r)
    (hst : r.st = .writing ∨ (r.st = .written ∧ roomFor (readsQueued s) r.lines 256 = true)) (hdata : r.data = true)
    (hb : readBuf s r.p.len = some (k, g, s1)) : readAhead s q = readLines r
      (modHRec s1 q i (fun y => { y with st := .reading, readAt := s.now, rbuf := some (k, g), fwd := r.st == .writing })) := by
  have hgo : ¬ (r.st = .reserved ∨ (r.st ≠ .writing ∧ !roomFor (readsQueued s) r.lines 256)) := by
    obtain h | ⟨h, hroom⟩ := hst
    · simp [h]
    · simp [h, hroom]
  unfold readAhead
  simp only [hspill, hi, hr, hdata, hb, Bool.not_true, Bool.false_or, decide_eq_true_eq, if_true, Option.map_some]
  rw [if_neg (by omega), if_neg hgo]
  rfl

/-- Settles O41: an offer changes its own packet's place in the replicator; a group word is written whole or refused; a queue's record
goes to the lines it takes, gives its buffer up when written, and is read back into a buffer of its own. -/
theorem replicationAndSpill : Obligations.ReplicationAndSpill := by
  unfold Obligations.ReplicationAndSpill
  refine ⟨fun u j rest base len s hon hmc hl hi => ?next, fun u j rest s hon hmc hl hi hlen => ?start,
    fun u j rest base len s hon hmc hl hi => ?last, fun slot g eg val s hmay hlen hend => ?write, fun slot g eg val s hmay hbad => ?refuse,
    fun q i r lines s1 s hon hi hr hready hl hroom => ?record, fun q i r k g s hon hi hr hdead hdata hst hheld hloc hused hgen href => ?done,
    fun q i r k g s1 s hon hspill hpref hi hr hst hdata hb => ?ahead⟩
  case next =>
    have hend := mcOffer_next hmc hl hi
    refine ⟨_, congrArg Host.Outcome.next ((if_pos hon).trans hend), ?_, fun p hp => ?_⟩
    · rw [mcOf_modMc_same, mcOf_congr (mcEntry_mc _ _ _ _), hmc]
      rfl
    · rw [modMc_part p (by simp at hp; simp [hp]), mcEntry_part p (by simp at hp; simp [hp])]
  case start =>
    have hend := mcOffer_start hmc hl hi hlen
    refine ⟨_, congrArg Host.Outcome.next ((if_pos hon).trans hend), ?_, fun p hp => ?_⟩
    · have hmc1 : mcOf (countB s 0x68) u.val = j :: rest := hmc
      rw [mcOf_modMc_same, mcOf_congr (mcEntry_mc _ _ _ _), hmc1, hi]
      rfl
    · rw [modMc_part p (by simp at hp; simp [hp]), mcEntry_part p (by simp at hp; simp [hp]), countB_part p (by simp at hp; simp [hp])]
  case last =>
    exact ⟨_, congrArg Host.Outcome.next (if_pos hon), mcOf_mcOffer_last hmc hl hi, fun p hp => mcOffer_part p (by simp at hp; simp [hp]) _ _⟩
  case write =>
    have hend := (ownWrite_group val hmay).trans (congrArg (fun t : State => { t with acc := (stOk, 0) }) (mcgWrite_taken hlen hend))
    exact ⟨_, congrArg Host.Outcome.next hend, rfl, regRaw_setReg_same _ _ _ _,
      AgreeBut.acc (by simp) _ fun p hp => setReg_part p (by simp at hp; simp [hp]) _ _ _ _⟩
  case refuse =>
    have hend := (ownWrite_group val hmay).trans (congrArg (fun t : State => { t with acc := (stOk, 0) }) (mcgWrite_refused hbad))
    exact ⟨_, congrArg Host.Outcome.next hend, rfl, rb_setRB_same _ _ _ _ _ (by decide),
      regRaw_setReg_other _ _ _ _ _ _ (groupAddr_ne_status _ _),
      AgreeBut.acc (by simp) _ fun p hp => setRB_part p (by simp at hp; simp [hp]) _ _ _ _ _⟩
  case record =>
    obtain ⟨pkt, hend⟩ := recWrite_first hi hr hready hl hroom
    obtain ⟨b, c, hs1⟩ := qOf_takeLines hl
    have hq := (qOf_congr (congrArg BpmSt.q (foldl_access_bpm lines 0x08 (modHRec s1 q.val i
      (fun x => { x with st := .writing, lines := lines, pkt := pkt })))) q.val).trans (qOf_modHRec_same _ _ _ _)
    rw [hs1] at hq
    refine ⟨_, congrArg Host.Outcome.next (if_pos hon), ?_, ?_, ?_, fun p hp => recWrite_part p (by simp at hp; simp [hp]) _ _⟩
    · rw [hend, hq, List.getElem?_modify_eq, hr]
      rfl
    · rw [hend, hq]
    · rw [hend, hq, List.length_modify]
  case done =>
    have hend := onData_run hon ((writeDone_data hi hr hdead hdata hheld hloc).trans (by rw [bufDec_shared hused hgen href]))
    have hq := qOf_modHRec_same (modBuf s k (fun x => { x with ref := x.ref - 1 })) q.val i
      (fun x => { x with done := true, st := if x.st = .writing then .written else x.st
                         p := if x.data then { x.p with loc := .hbm } else x.p })
    have hq0 : qOf (modBuf s k (fun x => { x with ref := x.ref - 1 })) q.val = qOf s q.val := rfl
    rw [hq0] at hq
    refine ⟨_, congrArg Host.Outcome.next hend, ?_, ?_, ?_, fun p hp => ?_⟩
    · rw [hq, List.getElem?_modify_eq, hr]
      simp [hst, hdata]
    · rw [bufOf_modHRec]
      exact congrArg Buf.ref (SMap.get_upd_same _ _ _ _)
    · rw [hq, List.length_modify]
    · rw [modHRec_part p (by simp at hp; simp [hp]), modBuf_part p (by simp at hp; simp [hp])]
  case ahead =>
    have hend := readAhead_front hspill hpref hi hr hst hdata hb
    obtain ⟨hbuf, hsame⟩ := readBuf_some hb
    have hbpm := readLines_bpm r (modHRec s1 q.val i
      (fun y => { y with st := .reading, readAt := s.now, rbuf := some (k, g), fwd := r.st == .writing }))
    have hq := (qOf_congr (congrArg BpmSt.q hbpm) q.val).trans (qOf_modHRec_same _ _ _ _)
    rw [qOf_congr hsame] at hq
    refine ⟨_, congrArg Host.Outcome.next (if_pos hon), ?_, ?_, ?_, fun p hp => readAhead_part p (by simp at hp; simp [hp]) _ _⟩
    · rw [hend, hq, List.getElem?_modify_eq, hr]
      rfl
    · rw [hend, bufOf_congr (congrArg BpmSt.bufs hbpm), bufOf_modHRec, hbuf]
    · rw [hend, hq]

end Sys2Proof.Machine
end

section
/-! SUPPORT. Records that leave a queue, and what reads and errors leave of queues, counters and channels (R352 to R361). -/

namespace Sys2Proof.Machine

/-- Lines given up change, of a queue, the block being filled. -/
theorem qOf_giveLines (s : State) (q : Nat) (l : List (Nat × Nat × Nat)) : ∃ b, qOf (giveLines s q l) q = { qOf s q with blk := b } := by
  refine foldl_inv (P := fun t : State => ∃ b, qOf t q = { qOf s q with blk := b }) (fun t x ⟨b, ht⟩ => ?_) l ⟨_, rfl⟩
  dsimp only
  have hblk : qOf (blkAdd t x.1 false) q = qOf t q := rfl
  split
  · rw [qOf_modQ_same, hblk, ht]
    exact ⟨_, rfl⟩
  · exact ⟨b, hblk.trans ht⟩

theorem giveLines_bufs (s : State) (q : Nat) (l : List (Nat × Nat × Nat)) : (giveLines s q l).bpm.bufs = s.bpm.bufs := by
  refine foldl_inv (P := fun t : State => t.bpm.bufs = s.bpm.bufs) (fun t x ht => ?_) l rfl
  dsimp only
  split
  · exact ht
  · exact ht

theorem giveLines_ctr (s : State) (q : Nat) (l : List (Nat × Nat × Nat)) : (giveLines s q l).ctr = s.ctr :=
  ctr_of_part (giveLines_part .ctr (by decide) _ _ _)

/-- A record whose write has completed leaves the HBM part with its read (R352). -/
theorem recRead_done {r : HRec} (h : r.done = true) (s : State) (q i : Nat) : recRead s q i r = giveLines (dropRec s q i) q r.lines := if_pos h

theorem qOf_recRead_done {r : HRec} (h : r.done = true) (s : State) (q i : Nat) :
    ∃ b, qOf (recRead s q i r) q = { qOf s q with hbm := (qOf s q).hbm.eraseIdx i, blk := b } := by
  obtain ⟨b, hb⟩ := qOf_giveLines (dropRec s q i) q r.lines
  refine ⟨b, ?_⟩
  rw [recRead_done h, hb, dropRec, qOf_modQ_same]

theorem recRead_done_bufs {r : HRec} (h : r.done = true) (s : State) (q i : Nat) : (recRead s q i r).bpm.bufs = s.bpm.bufs := by
  rw [recRead_done h, giveLines_bufs]
  rfl

/-- The end of a spill changes, of a queue, only whether it spills. -/
theorem qOf_spillExit (s : State) (q : Nat) : ∃ b, qOf (spillExit s q) q = { qOf s q with spill := b } := by
  unfold spillExit
  dsimp only
  split
  · exact ⟨false, qOf_modQ_same s q (fun y => { y with spill := false })⟩
  · exact ⟨_, rfl⟩

theorem spillExit_bufs (s : State) (q : Nat) : (spillExit s q).bpm.bufs = s.bpm.bufs := by
  unfold spillExit
  dsimp only
  split <;> rfl

theorem defClear_bpm (s : State) (q : Nat) : (defClear s q).bpm = s.bpm := bpm_of_part (defClear_part .bpm (by decide) _ _)

theorem ueLine_bpm (s : State) (b line kind : Nat) : (ueLine s b line kind).bpm = s.bpm := bpm_of_part (ueLine_part .bpm (by decide) _ _ _ _)

theorem foldl_ueLine_bpm (r : HRec) (l : List Nat) (s : State) :
    (l.foldl (fun t n => ueLine t (lineAt r.lines n).1 (lineAt r.lines n).2 0) s).bpm = s.bpm :=
  foldl_inv (P := fun t : State => t.bpm = s.bpm) (fun t _ ht => (ueLine_bpm t _ _ _).trans ht) l rfl

/-- The block of a record's first line. -/
def firstBlock (r : HRec) : Nat := match r.lines with | x :: _ => x.1 | [] => 0

/-- A completed read counts in its channel's statistics, and the corrected lines in its channel's errors (R357, R361). -/
def readCounted (s : State) (r : HRec) (ce : EccCount) : State :=
  ceLines (countCh (readStat s r) (firstBlock r / 2 ^ 18) 0x10 ce.onDie) (firstBlock r / 2 ^ 18) ce.lines

theorem readCounted_part (p : Part) (h : p ≠ .ctr ∧ p ≠ .flt ∧ p ≠ .rcd ∧ p ≠ .hbm) (s : State) (r : HRec) (ce : EccCount) :
    (readCounted s r ce).part p = s.part p := by
  rw [readCounted, ceLines_part p h, countCh_part p (by simp [h]), readStat_part p (by simp [h])]

theorem readCounted_bpm (s : State) (r : HRec) (ce : EccCount) : (readCounted s r ce).bpm = s.bpm :=
  bpm_of_part (readCounted_part .bpm (by decide) _ _ _)

/-! ## Counters -/

/-- The counter of packets dropped for uncorrectable bytes is none of a channel's (Table 12.8). -/
theorem ueDrop_ne_channel (c : Nat) {off : Nat} (h0 : off ≠ 0) (h : off < 0x40) : cOff 0xD 0x80000 ≠ cOff 0xD (c * 0x40 + off) := by
  simp only [cOff]
  omega

theorem ueDrop_not_recorder : cOff 0xD 0x80000 / 0x1000000 ≠ 0x11 := by decide

theorem ctrAt_countCh_other (s : State) (c n : Nat) {off : Nat} (h0 : off ≠ 0) (h : off < 0x40) :
    ctrAt (countCh s c off n) (cOff 0xD 0x80000) = ctrAt s (cOff 0xD 0x80000) :=
  ctrAt_bumpN_other _ _ _ _ (ueDrop_ne_channel c h0 h)

theorem ctrAt_modCh (s : State) (c : Nat) (f : HCh → HCh) (k : Nat) : ctrAt (modCh s c f) k = ctrAt s k := rfl

theorem ctrAt_errCheck_other (s : State) (c : Nat) : ctrAt (errCheck s c) (cOff 0xD 0x80000) = ctrAt s (cOff 0xD 0x80000) := by
  unfold errCheck
  dsimp only
  split
  · exact ctrAt_condRise_other _ _ _ _ _ _ ueDrop_not_recorder
  · rfl

theorem ctrAt_ceLines_other (s : State) (c n : Nat) : ctrAt (ceLines s c n) (cOff 0xD 0x80000) = ctrAt s (cOff 0xD 0x80000) := by
  unfold ceLines
  split
  · rfl
  · rw [ctrAt_errCheck_other]
    refine forEach_inv (fun u => ctrAt u (cOff 0xD 0x80000) = ctrAt s (cOff 0xD 0x80000))
      (fun m u hu => (ctrAt_faultRise_other _ _ _ _ _ _ ueDrop_not_recorder).trans hu) _ ?_
    rw [ctrAt_modCh, ctrAt_countCh_other _ _ _ (by decide) (by decide)]

theorem ctrAt_ueLine_other (s : State) (b line kind : Nat) :
    ctrAt (ueLine s b line kind) (cOff 0xD 0x80000) = ctrAt s (cOff 0xD 0x80000) := by
  unfold ueLine
  dsimp only
  rw [ctrAt_errCheck_other, ctrAt_faultRise_other _ _ _ _ _ _ ueDrop_not_recorder]
  refine Eq.trans ?_ (ctrAt_countCh_other s (b / 2 ^ 18) 1 (by decide : 0x18 ≠ 0) (by decide))
  split <;> rfl

theorem ctrAt_readCounted (s : State) (r : HRec) (ce : EccCount) :
    ctrAt (readCounted s r ce) (cOff 0xD 0x80000) = ctrAt s (cOff 0xD 0x80000) := by
  rw [readCounted, ctrAt_ceLines_other, ctrAt_countCh_other _ _ _ (by decide) (by decide)]
  exact ctrAt_congr (ctr_of_part (readStat_part .ctr (by decide) _ _)) _

theorem ctrAt_spillExit_other (s : State) (q : Nat) {k : Nat} (h : k ≠ cOff 0xC 0x60) : ctrAt (spillExit s q) k = ctrAt s k := by
  unfold spillExit
  dsimp only
  split
  · exact ctrAt_count_other _ 0xC 0x60 h
  · rfl

theorem bufDec_last {s : State} {k g : Nat} (hused : (bufOf s k).used = true) (hgen : (bufOf s k).gen = g) (href : (bufOf s k).ref = 1) :
    bufDec s k g = poolEase (modBuf s k (fun x => { gen := x.gen })) (k / 2 ^ 20) := by
  unfold bufDec
  simp [hused, hgen, href]

theorem poolEase_bufs (s : State) (p : Nat) : (poolEase s p).bpm.bufs = s.bpm.bufs := by
  unfold poolEase
  split <;> rfl

/-! ## Records discarded -/

/-- A record that is discarded leaves its queue, or stays dead (R352, R359); no pointer on-die changes. -/
theorem recGone_dead (s : State) (q : Nat) (r : HRec) : ∀ x ∈ (recGone s q r).2, x.dead = true := by
  intro x hx
  unfold recGone at hx
  dsimp only at hx
  split at hx
  · cases hx
    rfl
  · cases hx

/-- The references of a record that is discarded, unless its write in flight keeps its buffer. -/
def recFreed (s : State) (r : HRec) : State := if (r.st != .reserved && !r.done) && r.data then s else ptrRelease s r.p

theorem recGone_state (s : State) (q : Nat) (r : HRec) :
    (recGone s q r).1 = recFreed s r ∨ (recGone s q r).1 = giveLines (recFreed s r) q r.lines := by
  have hfreed : (if (r.st != .reserved && !r.done) && r.data then (s, r)
      else (ptrRelease s r.p, { r with p := { r.p with loc := .hbm } })).1 = recFreed s r := by
    rw [recFreed]
    split <;> rfl
  unfold recGone
  dsimp only
  rw [hfreed]
  split
  · exact .inl rfl
  · exact .inr rfl

theorem qOf_recFreed (s : State) (r : HRec) (q : Nat) : qOf (recFreed s r) q = qOf s q := by
  unfold recFreed
  split
  · rfl
  · exact qOf_ptrRelease _ _ _

theorem qOf_recGone_on (s : State) (q : Nat) (r : HRec) : (qOf (recGone s q r).1 q).on = (qOf s q).on := by
  obtain h | h := recGone_state s q r
  · rw [h, qOf_recFreed]
  · obtain ⟨b, hb⟩ := qOf_giveLines (recFreed s r) q r.lines
    rw [h, hb, qOf_recFreed]

/-- What is left of the records from position i on is dead; those before it and the pointers on-die stay. -/
theorem qOf_recsGone (s : State) (q i : Nat) {each : State → State} (heach : ∀ t, (each t).bpm = t.bpm) :
    (qOf (recsGone s q i each) q).on = (qOf s q).on ∧
      ∃ l, (qOf (recsGone s q i each) q).hbm = (qOf s q).hbm.take i ++ l ∧ ∀ x ∈ l, x.dead = true := by
  obtain ⟨a, ha⟩ : ∃ a, ((qOf s q).hbm.drop i).foldl (fun (a : State × List HRec) h =>
      if h.dead then (a.1, a.2 ++ [h]) else ((recGone (each a.1) q h).1, a.2 ++ (recGone (each a.1) q h).2.toList)) (s, []) = a := ⟨_, rfl⟩
  have hinv : (qOf a.1 q).on = (qOf s q).on ∧ ∀ x ∈ a.2, x.dead = true := by
    rw [← ha]
    refine foldl_inv (P := fun a : State × List HRec => (qOf a.1 q).on = (qOf s q).on ∧ ∀ x ∈ a.2, x.dead = true)
      (fun a h ⟨hon, hdead⟩ => ?_) _ ⟨rfl, by simp⟩
    split
    · next hd =>
      refine ⟨hon, fun x hx => ?_⟩
      obtain hx | hx := List.mem_append.mp hx
      · exact hdead x hx
      · rw [List.mem_singleton.mp hx]
        exact hd
    · refine ⟨(qOf_recGone_on _ _ _).trans ((congrArg QSt.on (qOf_congr (congrArg BpmSt.q (heach _)) q)).trans hon), fun x hx => ?_⟩
      obtain hx | hx := List.mem_append.mp hx
      · exact hdead x hx
      · exact recGone_dead _ _ _ x (Option.mem_toList.mp hx)
  have hend : qOf (recsGone s q i each) q = { qOf a.1 q with hbm := (qOf s q).hbm.take i ++ a.2 } := by
    rw [← ha]
    exact qOf_modQ_same _ _ _
  exact ⟨by rw [hend]; exact hinv.1, a.2, by rw [hend], hinv.2⟩

/-- The discard of a queue's HBM part from position i on (R359). -/
theorem qOf_discard {s : State} {q i : Nat} {r : HRec} (h : (qOf s q).hbm[i]? = some r) :
    (qOf (discard s q i) q).on = (qOf s q).on ∧
      ∃ l, (qOf (discard s q i) q).hbm = (qOf s q).hbm.take i ++ l ∧ ∀ x ∈ l, x.dead = true := by
  have hend : qOf (discard s q i) q = qOf (recsGone s q i (fun t => countQ (count t 0xD 0x80008) q 0x18)) q := by
    unfold discard
    simp only [h]
    exact qOf_congr (by rw [event_bpm, defClear_bpm]) q
  rw [hend]
  exact qOf_recsGone s q i (fun t => rfl)

/-! ## Channels and stacks -/

/-- Every stack and every channel is as it was. -/
def HbmUnitsKept (s t : State) : Prop := t.hbm.ch = s.hbm.ch ∧ t.hbm.st = s.hbm.st

theorem HbmUnitsKept.of_hbm {s t : State} (h : t.hbm = s.hbm) : HbmUnitsKept s t := ⟨by rw [h], by rw [h]⟩

theorem HbmUnitsKept.trans {s t u : State} (h : HbmUnitsKept s t) (g : HbmUnitsKept t u) : HbmUnitsKept s u :=
  ⟨g.1.trans h.1, g.2.trans h.2⟩

theorem giveLines_units (s : State) (q : Nat) (l : List (Nat × Nat × Nat)) : HbmUnitsKept s (giveLines s q l) := by
  refine foldl_inv (P := fun t : State => HbmUnitsKept s t) (fun t x ht => ht.trans ?_) l ⟨rfl, rfl⟩
  dsimp only
  split
  · exact ⟨rfl, rfl⟩
  · exact ⟨rfl, rfl⟩

theorem ptrRelease_hbm (s : State) (p : Ptr) : (ptrRelease s p).hbm = s.hbm := hbm_of_part (ptrRelease_part .hbm (by decide) _ _)

theorem recFreed_hbm (s : State) (r : HRec) : (recFreed s r).hbm = s.hbm := by
  unfold recFreed
  split
  · rfl
  · exact ptrRelease_hbm _ _

theorem recGone_units (s : State) (q : Nat) (r : HRec) : HbmUnitsKept s (recGone s q r).1 := by
  obtain h | h := recGone_state s q r
  · rw [h]
    exact .of_hbm (recFreed_hbm s r)
  · rw [h]
    exact (HbmUnitsKept.of_hbm (recFreed_hbm s r)).trans (giveLines_units _ _ _)

theorem recsGone_units (s : State) (q i : Nat) {each : State → State} (heach : ∀ t, (each t).hbm = t.hbm) :
    HbmUnitsKept s (recsGone s q i each) := by
  obtain ⟨a, ha⟩ : ∃ a, ((qOf s q).hbm.drop i).foldl (fun (a : State × List HRec) h =>
      if h.dead then (a.1, a.2 ++ [h]) else ((recGone (each a.1) q h).1, a.2 ++ (recGone (each a.1) q h).2.toList)) (s, []) = a := ⟨_, rfl⟩
  have hkept : HbmUnitsKept s a.1 := by
    rw [← ha]
    refine foldl_inv (P := fun a : State × List HRec => HbmUnitsKept s a.1) (fun a h hkept => ?_) _ ⟨rfl, rfl⟩
    split
    · exact hkept
    · exact hkept.trans ((HbmUnitsKept.of_hbm (heach _)).trans (recGone_units _ _ _))
  have hend : (recsGone s q i each).hbm = a.1.hbm := by
    rw [← ha]
    rfl
  exact hkept.trans (.of_hbm hend)

theorem discard_units (s : State) (q i : Nat) : HbmUnitsKept s (discard s q i) := by
  unfold discard
  split
  · exact ⟨rfl, rfl⟩
  · next r hr =>
    dsimp only
    have hevent : (event (defClear (recsGone s q i (fun t => countQ (count t 0xD 0x80008) q 0x18)) q) 0x3404 (unitOfQ s q r.p.tkt) q).hbm =
        (recsGone s q i (fun t => countQ (count t 0xD 0x80008) q 0x18)).hbm := by
      rw [event_hbm, hbm_of_part (defClear_part .hbm (by decide) _ _)]
    refine (recsGone_units s q i ?_).trans (.of_hbm hevent)
    intro t
    rfl

theorem flushEnd_hbm (s : State) (q : Nat) : (flushEnd s q).hbm = s.hbm := hbm_of_part (flushEnd_part .hbm (by decide) _ _)

theorem setFenced_hbm (s : State) (blk unit : Nat) (b : Bool) : (setFenced s blk unit b).hbm = s.hbm := rfl

theorem condRise_hbm (s : State) (blk bit unit : Nat) (d4 d5 : Word) : (condRise s blk bit unit d4 d5).hbm = s.hbm :=
  hbm_of_part (condRise_part .hbm (by decide) _ _ _ _ _ _)

theorem hbmCh_modCh_same (s : State) (c : Nat) (f : HCh → HCh) : hbmCh (modCh s c f) c = f (hbmCh s c) := SMap.get_upd_same _ _ _ _

theorem hbmCh_modCh_other (s : State) {c d : Nat} (f : HCh → HCh) (h : d ≠ c) : hbmCh (modCh s c f) d = hbmCh s d :=
  SMap.get_upd_other _ _ _ _ _ _ h

theorem stackOf_modStack_same (s : State) (k : Nat) (f : HStack → HStack) : stackOf (modStack s k f) k = f (stackOf s k) :=
  SMap.get_upd_same _ _ _ _

theorem hbmCh_congr {s t : State} (h : t.hbm.ch = s.hbm.ch) (c : Nat) : hbmCh t c = hbmCh s c := congrArg (fun m : SMap HCh => m.get {} c) h

theorem stackOf_congr {s t : State} (h : t.hbm.st = s.hbm.st) (k : Nat) : stackOf t k = stackOf s k :=
  congrArg (fun m : SMap HStack => m.get {} k) h

/-- A channel's fence leaves every stack as it was, fences the channel and changes no other (R368). -/
theorem chFence_units (s : State) (c : Nat) : (chFence s c).hbm.st = s.hbm.st ∧ (hbmCh (chFence s c) c).st = .fenced ∧
    ∀ d, d ≠ c → hbmCh (chFence s c) d = hbmCh s d := by
  unfold chFence
  split
  · next h => exact ⟨rfl, h, fun _ _ => rfl⟩
  · dsimp only
    obtain ⟨s1, hs1⟩ : ∃ s1, (queuesIn s c).foldl (fun t x => discard t x.1 x.2) s = s1 := ⟨_, rfl⟩
    have h1 : HbmUnitsKept s s1 := by
      rw [← hs1]
      exact foldl_inv (P := fun t : State => HbmUnitsKept s t) (fun t x ht => ht.trans (discard_units _ _ _)) _ ⟨rfl, rfl⟩
    rw [hs1]
    obtain ⟨s2, hs2⟩ : ∃ s2, (s1.bpm.q.entries.flatMap (fun e => (e.2.hbm.filter (fun r => r.dead && touches r c)).map (fun r => (e.1, r)))).foldl
      (fun t x => giveLines (ptrRelease (rbufDrop t x.2) x.2.p) x.1 x.2.lines) s1 = s2 := ⟨_, rfl⟩
    have h2 : HbmUnitsKept s s2 := by
      rw [← hs2]
      refine foldl_inv (P := fun t : State => HbmUnitsKept s t) (fun t x ht => ht.trans ?_) _ h1
      refine (HbmUnitsKept.of_hbm ?_).trans (giveLines_units _ _ _)
      rw [ptrRelease_hbm]
      exact hbm_of_part (rbufDrop_part .hbm (by decide) _ _)
    rw [hs2]
    have hflush : ∀ (l : List Nat) (t : State), (l.foldl flushEnd t).hbm = t.hbm := fun l t =>
      foldl_inv (P := fun u : State => u.hbm = t.hbm) (fun u q hu => (flushEnd_hbm u q).trans hu) l rfl
    have hend : ∀ (t : State) (l : List Nat) (d4 : Word), (condRise (setFenced (l.foldl flushEnd t) 0xD c true) 0xD 3 c d4 0).hbm = t.hbm := by
      intro t l d4
      rw [condRise_hbm]
      exact hflush l t
    refine ⟨?_, ?_, fun d hd => ?_⟩
    · rw [hend]
      exact h2.2
    · rw [hbmCh_congr (congrArg HbmSt.ch (hend _ _ _))]
      exact congrArg HCh.st (hbmCh_modCh_same s2 c (fun x => { x with st := .fenced, due := false }))
    · rw [hbmCh_congr (congrArg HbmSt.ch (hend _ _ _)), ← hbmCh_congr h2.1 d]
      exact hbmCh_modCh_other s2 (fun x => { x with st := .fenced, due := false }) hd

/-- A fenced channel stays fenced when another is fenced. -/
theorem chFence_keeps_fenced {s : State} {d : Nat} (c : Nat) (h : (hbmCh s d).st = .fenced) : (hbmCh (chFence s c) d).st = .fenced := by
  obtain ⟨-, hc, hother⟩ := chFence_units s c
  by_cases hd : d = c
  · rw [hd]
    exact hc
  · rw [hother d hd]
    exact h

/-- A stack's fence fences the stack and its channels (R364, R368). -/
theorem stackFence_units (s : State) (k : Nat) {c : Nat} (hc : c < 16) :
    (stackOf (stackFence s k) k).st = .fenced ∧ (hbmCh (stackFence s k) (16 * k + c)).st = .fenced := by
  have hend : (stackFence s k).hbm = (forEach (List.range 16) (fun j t => chFence t (16 * k + j))
      (modStack s k (fun x => { x with st := .fenced }))).hbm := by
    unfold stackFence
    dsimp only
    rw [condRise_hbm, setFenced_hbm]
  constructor
  · rw [stackOf_congr (congrArg HbmSt.st hend)]
    have hkept := forEach_inv (fun u => u.hbm.st = (modStack s k (fun x => { x with st := .fenced })).hbm.st)
      (fun j u hu => (chFence_units u (16 * k + j)).1.trans hu) (List.range 16) (rfl : _ = _)
    rw [stackOf_congr hkept, stackOf_modStack_same]
  · rw [hbmCh_congr (congrArg HbmSt.ch hend)]
    exact forEach_reaches (P := fun _ => True) (Q := fun u => (hbmCh u (16 * k + c)).st = .fenced)
      (g := fun j u => chFence u (16 * k + j)) (List.mem_range.mpr hc) (fun _ _ _ => trivial)
      (fun u _ => (chFence_units u (16 * k + c)).2.1) (fun j u hu => chFence_keeps_fenced _ hu) trivial

end Sys2Proof.Machine
end

section
/-! The statement about reads of records and about banks and temperatures (R327, R352 to R364). -/

namespace Sys2Proof.Machine

variable {s : State} {q i k g : Nat} {r : HRec}

/-- A read is held by a retraining pause of its channel, unless it was forwarded (R367). -/
theorem read_goes (h : recHeld s r = false ∨ r.fwd = true) : (recHeld s r && !r.fwd) = false := by
  obtain h | h := h
  · simp [h]
  · simp [h]

/-- A read that completes goes on with its front record's lines counted. -/
theorem readDone_good (ce : EccCount) (l : List Nat) (hi : (qOf s q).hbm.findIdx? (fun r => r.st == .reading) = some i)
    (hr : (qOf s q).hbm[i]? = some r) (hgo : recHeld s r = false ∨ r.fwd = true) (hdead : r.dead = false) (hb : r.rbuf = some (k, g)) :
    readDone s q ce 0 l = spillExit (modQ (recRead (modBuf (readCounted s r ce) k (fun b => { b with pkt := r.pkt })) q i r) q
      (fun x => { x with on := x.on ++ [{ r.p with loc := .buf k g }] })) q := by
  have hheld := read_goes hgo
  unfold readDone
  simp only [hi, hr, hheld, hdead, hb, Bool.false_eq_true, if_false, zero_ne_one, false_and]
  rfl

/-- One with uncorrectable packet bytes drops its packet (R358). -/
theorem readDone_dropped (ce : EccCount) (l : List Nat) (hi : (qOf s q).hbm.findIdx? (fun r => r.st == .reading) = some i)
    (hr : (qOf s q).hbm[i]? = some r) (hgo : recHeld s r = false ∨ r.fwd = true) (hdead : r.dead = false) (hdata : r.data = true) :
    readDone s q ce 1 l = spillExit (defClear (recRead (rbufDrop (count
      (l.foldl (fun t n => ueLine t (lineAt r.lines n).1 (lineAt r.lines n).2 0) (readCounted s r ce)) 0xD 0x80000) r) q i r) q) q := by
  have hheld := read_goes hgo
  unfold readDone
  simp only [hi, hr, hheld, hdead, hdata, Bool.false_eq_true, if_false]
  rw [if_neg (by decide), if_neg (by decide), if_pos ⟨trivial, trivial⟩]
  rfl

/-- One whose descriptor has no good copy discards the HBM part from its record on (R359). -/
theorem readDone_discarded (ce : EccCount) (l : List Nat) (hi : (qOf s q).hbm.findIdx? (fun r => r.st == .reading) = some i)
    (hr : (qOf s q).hbm[i]? = some r) (hgo : recHeld s r = false ∨ r.fwd = true) (hdead : r.dead = false) :
    readDone s q ce 2 l = spillExit (discard (readEnds
      (ueLine (readCounted s r ce) (lineAt r.lines 0).1 (lineAt r.lines 0).2 1) q i r) q i) q := by
  have hheld := read_goes hgo
  unfold readDone
  simp only [hi, hr, hheld, hdead, Bool.false_eq_true, if_false]
  rfl

theorem rbufDrop_q (s : State) (r : HRec) : (rbufDrop s r).bpm.q = s.bpm.q := by
  unfold rbufDrop
  split
  · exact bufDec_q _ _ _
  · rfl

theorem take_modify {α : Type} (l : List α) (i : Nat) (f : α → α) : (l.modify i f).take i = l.take i := by
  refine List.ext_getElem? fun n => ?_
  rw [List.getElem?_take, List.getElem?_take]
  split
  · rw [List.getElem?_modify_ne _ _ (by omega)]
  · rfl

/-- A reading taken, with its refresh rate (R363). -/
def tempKept (s : State) (k : Nat) (t : Int) : State :=
  gather (modStack s k (fun y => { y with
    temp := some t, x2 := decide (85 ≤ t) || ((stackOf s k).x2 && (stackOf s k).temp.isSome && decide (83 ≤ t)), tempAt := s.now + 1000000 }))
    2 (t * 16)

/-- The first reading is the one that the channels' training is compared with (R362). -/
def tempSeen (s : State) (k : Nat) (t : Int) : State :=
  if (stackOf s k).temp.isNone then forEach (List.range 16) (fun j u => modCh u (16 * k + j) (fun c => { c with trainT := t })) (tempKept s k t)
  else tempKept s k t

/-- The thermal limit of 105 °C and its end below 100 °C (R364). -/
def tempJudged (s : State) (k : Nat) (t : Int) : State :=
  if decide (105 ≤ t) && !(stackOf s k).hot then condRise (hotSet (tempSeen s k t) k true) 0xD 4 k (lo32 (codeOf 8 t)) 0
  else if decide (t < 100) && (stackOf s k).hot then faultFall (hotSet (tempSeen s k t) k false) 0xD 4 k else tempSeen s k t

theorem tempRead_eq (t : Int) (hup : (stackOf s k).st = .up) (hdue : (stackOf s k).tempAt ≤ s.now) :
    tempRead s k t = if 115 ≤ t then stackFence (tempJudged s k t) k else tempJudged s k t := by
  unfold tempRead
  exact if_neg (not_or.mpr ⟨not_not.mpr hup, by omega⟩)

/-- Changes of a stack's channels leave the stacks. -/
theorem forEach_modCh_st (l : List Nat) (b : Nat) (f : HCh → HCh) (s : State) :
    (forEach l (fun j t => modCh t (b + j) f) s).hbm.st = s.hbm.st :=
  forEach_inv (fun u => u.hbm.st = s.hbm.st) (g := fun j t => modCh t (b + j) f) (fun _ _ hu => hu) l rfl

theorem stackOf_tempSeen (s : State) (k : Nat) (t : Int) : stackOf (tempSeen s k t) k = { stackOf s k with
    temp := some t, x2 := decide (85 ≤ t) || ((stackOf s k).x2 && (stackOf s k).temp.isSome && decide (83 ≤ t)), tempAt := s.now + 1000000 } := by
  have hkept : stackOf (tempKept s k t) k = _ := stackOf_modStack_same s k (fun y => { y with
    temp := some t, x2 := decide (85 ≤ t) || ((stackOf s k).x2 && (stackOf s k).temp.isSome && decide (83 ≤ t)), tempAt := s.now + 1000000 })
  rw [← hkept, tempSeen]
  split
  · exact stackOf_congr (forEach_modCh_st _ _ _ _) k
  · rfl

theorem tempSeen_part (p : Part) (h : p ≠ .rcd ∧ p ≠ .hbm) (s : State) (k : Nat) (t : Int) : (tempSeen s k t).part p = s.part p := by
  have hkept : (tempKept s k t).part p = s.part p := by
    rw [tempKept, gather_part p h.1, modStack_part p h.2]
  rw [tempSeen]
  split
  · rw [part_forEach p _ (fun j u => modCh_part p h.2 _ _ _), hkept]
  · exact hkept

theorem stackOf_hotSet (s : State) (k : Nat) (b : Bool) : stackOf (hotSet s k b) k = { stackOf s k with hot := b } :=
  (stackOf_congr (forEach_modCh_st _ _ _ _) k).trans (stackOf_modStack_same _ _ _)

theorem hbmCh_hotSet (s : State) (k : Nat) (b : Bool) {c : Nat} (hc : c < 16) : (hbmCh (hotSet s k b) (16 * k + c)).hot = b := by
  refine forEach_reaches (P := fun _ => True) (Q := fun u => (hbmCh u (16 * k + c)).hot = b)
    (g := fun j t => modCh t (16 * k + j) (fun c => { c with hot := b })) (List.mem_range.mpr hc) (fun _ _ _ => trivial)
    (fun u _ => ?_) (fun j u hu => ?_) trivial
  · exact congrArg HCh.hot (hbmCh_modCh_same u (16 * k + c) (fun c => { c with hot := b }))
  · by_cases hj : 16 * k + c = 16 * k + j
    · rw [← hj]
      exact congrArg HCh.hot (hbmCh_modCh_same u (16 * k + c) (fun c => { c with hot := b }))
    · exact (congrArg HCh.hot (hbmCh_modCh_other u (fun c => { c with hot := b }) hj)).trans hu

theorem chOpen_hot {s : State} {c : Nat} (h : (hbmCh s c).hot = true) : chOpen s c = false := by
  simp [chOpen, h]

/-- Settles O42: a record that is read, dropped or discarded leaves the queue's other records and its pointers; banks close and refresh;
the readings of a stack set its rate, its thermal state and its fence. -/
theorem hbmReadsAndBanks : Obligations.HbmReadsAndBanks := by
  unfold Obligations.HbmReadsAndBanks
  refine ⟨fun q ce lns i r k g s hon hi hr hgo hdead hdata hdone hb => ?good,
    fun q ce lns i r k g s hon hi hr hgo hdead hdata hdone hb hused hgen href => ?drop,
    fun q ce lns i r s hon hi hr hgo hdead => ?discard, fun c n row s hon hrow hidle => ?idle, fun c n s hon hst hdue => ?refresh,
    fun k tc s hon hup hdue hhot hcool => ?cool, fun k tc c s hon hup hdue hhot hwarm hlow hc => ?hot,
    fun k tc c s hon hup hdue hhot hcool hc => ?reopen, fun k tc c s hon hup hdue hmax hc => ?fence⟩
  case good =>
    have hend := onData_run hon (readDone_good ce (lns.map Fin.val) hi hr hgo hdead hb)
    obtain ⟨s2, hs2⟩ : ∃ s2, modBuf (readCounted s r ce) k (fun b => { b with pkt := r.pkt }) = s2 := ⟨_, rfl⟩
    have hq2 : qOf s2 q.val = qOf s q.val := by
      rw [← hs2]
      exact qOf_congr (congrArg BpmSt.q (readCounted_bpm s r ce)) q.val
    have hbuf2 : (bufOf s2 k).pkt = r.pkt := by
      rw [← hs2]
      exact congrArg Buf.pkt (SMap.get_upd_same _ _ _ _)
    have hpart2 : AgreeBut [.regs, .ctr, .flt, .rcd, .bpm, .hbm] s s2 := fun p hp => by
      rw [← hs2, modBuf_part p (by simp at hp; simp [hp]), readCounted_part p (by simp at hp; simp [hp])]
    rw [hs2] at hend
    obtain ⟨b, hread⟩ := qOf_recRead_done hdone s2 q.val i
    obtain ⟨b', hspill⟩ := qOf_spillExit (modQ (recRead s2 q.val i r) q.val (fun x => { x with on := x.on ++ [{ r.p with loc := .buf k g }] })) q.val
    rw [qOf_modQ_same, hread, hq2] at hspill
    refine ⟨_, congrArg Host.Outcome.next hend, ?_, ?_, ?_, hpart2.trans fun p hp => ?_⟩
    · rw [hspill]
    · rw [hspill]
    · rw [bufOf_congr (spillExit_bufs _ _)]
      exact (congrArg Buf.pkt (bufOf_congr (recRead_done_bufs hdone s2 q.val i) k)).trans hbuf2
    · rw [spillExit_part p (by simp at hp; simp [hp]), modQ_part p (by simp at hp; simp [hp]), recRead_part p (by simp at hp; simp [hp])]
  case drop =>
    have hend := readDone_dropped ce (lns.map Fin.val) hi hr hgo hdead hdata
    obtain ⟨s2, hs2⟩ : ∃ s2, (lns.map Fin.val).foldl (fun t n => ueLine t (lineAt r.lines n).1 (lineAt r.lines n).2 0) (readCounted s r ce) = s2 :=
      ⟨_, rfl⟩
    have hbpm2 : s2.bpm = s.bpm := by
      rw [← hs2, foldl_ueLine_bpm, readCounted_bpm]
    have hctr2 : ctrAt s2 (cOff 0xD 0x80000) = ctrAt s (cOff 0xD 0x80000) := by
      rw [← hs2]
      exact foldl_inv (P := fun t : State => ctrAt t (cOff 0xD 0x80000) = ctrAt s (cOff 0xD 0x80000))
        (fun t n ht => (ctrAt_ueLine_other t _ _ _).trans ht) _ (ctrAt_readCounted s r ce)
    have hbuf2 : bufOf (count s2 0xD 0x80000) k = bufOf s k := bufOf_congr (congrArg BpmSt.bufs hbpm2) k
    have hdec : rbufDrop (count s2 0xD 0x80000) r = poolEase (modBuf (count s2 0xD 0x80000) k (fun x => { gen := x.gen })) (k / 2 ^ 20) := by
      rw [← bufDec_last (hbuf2 ▸ hused) (hbuf2 ▸ hgen) (hbuf2 ▸ href), rbufDrop, hb]
    rw [hs2, hdec] at hend
    obtain ⟨s3, hs3⟩ : ∃ s3, poolEase (modBuf (count s2 0xD 0x80000) k (fun x => { gen := x.gen })) (k / 2 ^ 20) = s3 := ⟨_, rfl⟩
    have hq3 : qOf s3 q.val = qOf s q.val := by
      rw [← hs3, qOf_congr (poolEase_q _ _)]
      exact qOf_congr (congrArg BpmSt.q hbpm2) q.val
    have hbuf3 : (bufOf s3 k).used = false := by
      rw [← hs3, bufOf_congr (poolEase_bufs _ _)]
      exact congrArg Buf.used (SMap.get_upd_same _ _ _ _)
    have hctr3 : ctrAt s3 (cOff 0xD 0x80000) = (ctrAt s (cOff 0xD 0x80000)).add 1 := by
      rw [← hs3, ctrAt_congr (poolEase_ctr _ _), ← hctr2]
      exact ctrAt_count_same s2 0xD 0x80000
    rw [hs3] at hend
    obtain ⟨b, hread⟩ := qOf_recRead_done hdone s3 q.val i
    obtain ⟨b', hspill⟩ := qOf_spillExit (defClear (recRead s3 q.val i r) q.val) q.val
    rw [qOf_congr (congrArg BpmSt.q (defClear_bpm _ _)), hread, hq3] at hspill
    refine ⟨_, congrArg Host.Outcome.next (onData_run hon hend), ?_, ?_, ?_, ?_, fun p hp => ?_⟩
    · rw [hspill]
    · rw [hspill]
    · rw [bufOf_congr (spillExit_bufs _ _), bufOf_congr (congrArg BpmSt.bufs (defClear_bpm _ _)),
        bufOf_congr (recRead_done_bufs hdone _ _ _), hbuf3]
    · rw [ctrAt_spillExit_other _ _ (by decide), ctrAt_congr (ctr_of_part (defClear_part .ctr (by decide) _ _)),
        ctrAt_congr (ctr_of_part (recRead_part .ctr (by decide) _ _ _ _)), hctr3]
    · rw [← hend, readDone_part p (by simp at hp; simp [hp])]
  case discard =>
    have hend := readDone_discarded ce (lns.map Fin.val) hi hr hgo hdead
    obtain ⟨s2, hs2⟩ : ∃ s2, rbufDrop (ueLine (readCounted s r ce) (lineAt r.lines 0).1 (lineAt r.lines 0).2 1) r = s2 := ⟨_, rfl⟩
    have hq2 : qOf s2 q.val = qOf s q.val := by
      rw [← hs2, qOf_congr (rbufDrop_q _ _), qOf_congr (congrArg BpmSt.q (ueLine_bpm _ _ _ _)), qOf_congr (congrArg BpmSt.q (readCounted_bpm _ _ _))]
    rw [readEnds, hs2] at hend
    obtain ⟨s3, hs3⟩ : ∃ s3, modHRec s2 q.val i (fun x => { x with st := if x.done then .written else .writing, rbuf := none }) = s3 := ⟨_, rfl⟩
    have hq3 : qOf s3 q.val = { qOf s q.val with
        hbm := (qOf s q.val).hbm.modify i (fun x => { x with st := if x.done then .written else .writing, rbuf := none }) } := by
      rw [← hs3, qOf_modHRec_same, hq2]
    rw [hs3] at hend
    have hr3 : (qOf s3 q.val).hbm[i]? = some { r with st := if r.done then .written else .writing, rbuf := none } := by
      rw [hq3, List.getElem?_modify_eq, hr]
      rfl
    obtain ⟨honq, l, hhbm, hall⟩ := qOf_discard hr3
    obtain ⟨b, hspill⟩ := qOf_spillExit (discard s3 q.val i) q.val
    have hlen : (qOf s q.val).hbm.length ≥ i := by
      have := (List.getElem?_eq_some_iff.mp hr).1
      omega
    have htake : (qOf s3 q.val).hbm.take i = (qOf s q.val).hbm.take i := by
      rw [hq3, take_modify]
    have hhbm' : (qOf (spillExit (discard s3 q.val i) q.val) q.val).hbm = (qOf s q.val).hbm.take i ++ l := by
      rw [hspill, ← htake, ← hhbm]
    have hlen' : ((qOf s q.val).hbm.take i).length = i := by
      rw [List.length_take]
      omega
    refine ⟨_, congrArg Host.Outcome.next (onData_run hon hend), ?_, ?_, ?_, fun p hp => ?_⟩
    · rw [hspill]
      exact honq.trans ((congrArg QSt.on hq3).trans rfl)
    · rw [hhbm', List.take_left' hlen']
    · rw [hhbm', List.drop_left' hlen']
      exact List.all_eq_true.mpr hall
    · rw [← hend, readDone_part p (by simp at hp; simp [hp])]
  case idle =>
    have hend : bankIdle s c.val n.val = modHbm s (fun h => { h with
        bank := h.bank.set {} (c.val * 64 + n.val) { s.hbm.bank.get {} (c.val * 64 + n.val) with row := none } }) := by
      unfold bankIdle
      exact if_pos ⟨by rw [hrow]; rfl, hidle⟩
    exact ⟨_, congrArg Host.Outcome.next (onData_run hon hend), SMap.get_set_same _ _ _ _, rfl,
      fun p hp => modHbm_part p (by simpa using hp) _ _⟩
  case refresh =>
    have hend : bankRefresh s c.val n.val = modHbm s (fun h => { h with
        bank := h.bank.set {} (c.val * 64 + n.val) { s.hbm.bank.get {} (c.val * 64 + n.val) with row := none, ref := s.now } }) := by
      unfold bankRefresh
      exact if_pos ⟨hst, hdue⟩
    exact ⟨_, congrArg Host.Outcome.next (onData_run hon hend), congrArg DBank.row (SMap.get_set_same _ _ _ _),
      congrArg DBank.ref (SMap.get_set_same _ _ _ _), rfl, fun p hp => modHbm_part p (by simpa using hp) _ _⟩
  case cool =>
    have hend : tempRead s k.val tc.toInt = tempSeen s k.val tc.toInt := by
      rw [tempRead_eq tc.toInt hup hdue, if_neg (by omega), tempJudged]
      simp [hhot, hcool]
    have hst := stackOf_tempSeen s k.val tc.toInt
    refine ⟨_, congrArg Host.Outcome.next (onData_run hon hend), ?_, ?_, ?_, ?_, fun p hp => tempSeen_part p (by simp at hp; simp [hp]) _ _ _⟩
    · rw [hst]
    · rw [hst]
    · rw [hst]
    · rw [hst]
      exact hhot
  case hot =>
    have hend : tempRead s k.val tc.toInt = condRise (hotSet (tempSeen s k.val tc.toInt) k.val true) 0xD 4 k.val (lo32 (codeOf 8 tc.toInt)) 0 := by
      rw [tempRead_eq tc.toInt hup hdue, if_neg (by omega), tempJudged]
      exact if_pos (by simp [hhot, hwarm])
    obtain ⟨u, hu⟩ : ∃ u, condRise (hotSet (tempSeen s k.val tc.toInt) k.val true) 0xD 4 k.val (lo32 (codeOf 8 tc.toInt)) 0 = u := ⟨_, rfl⟩
    have hhbm : u.hbm = (hotSet (tempSeen s k.val tc.toInt) k.val true).hbm := by
      rw [← hu, condRise_hbm]
    have hst : stackOf u k.val = _ := (stackOf_congr (congrArg HbmSt.st hhbm) k.val).trans (stackOf_hotSet _ _ _)
    have hch : (hbmCh u (16 * k.val + c)).hot = true :=
      (congrArg HCh.hot (hbmCh_congr (congrArg HbmSt.ch hhbm) _)).trans (hbmCh_hotSet _ _ _ hc)
    refine ⟨u, congrArg Host.Outcome.next (onData_run hon (hend.trans hu)), ?_, ?_, hch, chOpen_hot hch, fun p hp => ?_⟩
    · rw [hst]
    · rw [hst, stackOf_tempSeen]
      simp only [show 85 ≤ tc.toInt by omega, decide_true, Bool.true_or]
    · rw [← hu, condRise_part p (by simp at hp; simp [hp]), hotSet_part p (by simp at hp; simp [hp]), tempSeen_part p (by simp at hp; simp [hp])]
  case reopen =>
    have hend : tempRead s k.val tc.toInt = faultFall (hotSet (tempSeen s k.val tc.toInt) k.val false) 0xD 4 k.val := by
      rw [tempRead_eq tc.toInt hup hdue, if_neg (by omega), tempJudged, if_neg (by simp [hhot])]
      exact if_pos (by simp [hhot, hcool])
    obtain ⟨u, hu⟩ : ∃ u, faultFall (hotSet (tempSeen s k.val tc.toInt) k.val false) 0xD 4 k.val = u := ⟨_, rfl⟩
    have hhbm : u.hbm = (hotSet (tempSeen s k.val tc.toInt) k.val false).hbm := by
      rw [← hu]
      exact hbm_of_part (faultFall_part .hbm (by decide) _ _ _ _)
    refine ⟨u, congrArg Host.Outcome.next (onData_run hon (hend.trans hu)), ?_, ?_, fun p hp => ?_⟩
    · rw [stackOf_congr (congrArg HbmSt.st hhbm), stackOf_hotSet]
    · rw [hbmCh_congr (congrArg HbmSt.ch hhbm), hbmCh_hotSet _ _ _ hc]
    · rw [← hu, faultFall_part p (by simp at hp; simp [hp]), hotSet_part p (by simp at hp; simp [hp]), tempSeen_part p (by simp at hp; simp [hp])]
  case fence =>
    have hend : tempRead s k.val tc.toInt = stackFence (tempJudged s k.val tc.toInt) k.val := by
      rw [tempRead_eq tc.toInt hup hdue, if_pos hmax]
    obtain ⟨hst, hch⟩ := stackFence_units (tempJudged s k.val tc.toInt) k.val hc
    refine ⟨_, congrArg Host.Outcome.next (if_pos hon), ?_, ?_, fun p hp => tempRead_part p (by simp at hp; simp [hp]) _ _ _⟩
    · rw [hend]
      exact hst
    · rw [hend]
      exact hch

end Sys2Proof.Machine
end

section
/-! SUPPORT. Egress decisions and flushes: what they leave of the queues, the port nodes and the counters (R380 to R393). -/

namespace Sys2Proof.Machine

/-! ## The dequeue of a pointer -/

theorem ptrBytes_congr {s t : State} (h : t.bpm = s.bpm) (x : Ptr) : ptrBytes t x = ptrBytes s x := by
  unfold ptrBytes bufOf
  rw [h]

/-- What a packet that leaves for the F-die puts into the Ell goes by the Ell and its buffer alone (R290). -/
theorem egressSend_ell {s t : State} (hell : t.ell = s.ell) (hbpm : t.bpm = s.bpm) (p : Nat) (x : Ptr) :
    (egressSend t p x).ell = (egressSend s p x).ell := by
  have hpush : ∀ (a b : State) (k : Nat) (l : List Seg), a.ell = b.ell → (ellPushAll a k l).ell = (ellPushAll b k l).ell := by
    intro a b k l h
    unfold ellPushAll modBundle modEll
    rw [h]
  have hcredit : ∀ d g, creditOf t d g = creditOf s d g := fun d g => by
    unfold creditOf
    rw [hell]
  unfold egressSend takeTag
  simp only [ptrBytes_congr hbpm, hcredit]
  split
  · exact hpush t s _ _ hell
  · cases (creditOf s 1 (p / 8)).tags with
    | nil => exact hell
    | cons tag rest =>
      by_cases hn : ((ptrBytes s x).drop 256).length ≤ (creditOf s 1 (p / 8)).bytes
      · simp only [if_pos hn]
        refine hpush _ _ _ _ ?_
        unfold modCredit modEll
        rw [hell]
      · simp only [if_neg hn]
        exact hell

/-- The charges of the nodes along a path, with the deficits of those that a deficit round robin picked (R382). -/
def charged (s : State) (ch : Nat) (path : List (Nat × Nat × Bool)) : State :=
  path.foldl (fun t n => if n.2.2 then modNode (chargeNode t n.1 n.2.1 ch) n.1 n.2.1 (fun y => { y with defi := y.defi - ch })
    else chargeNode t n.1 n.2.1 ch) s

/-- A selected pointer charged, sent and taken from its queue, with its delay sampled. -/
def sentOff (s : State) (p q : Nat) (x : Ptr) (path : List (Nat × Nat × Bool)) : State :=
  delaySample (ptrRelease (popPtr (egressSend (charged s (chargeBytes x.len (rf s .schPortCfg [p] 7 0)) ((0, p, false) :: path)) p x) q) x)
    q (s.now - x.at')

theorem dequeue_eq (s : State) (p q : Nat) (x : Ptr) (path : List (Nat × Nat × Bool)) : dequeue s p q x path =
    defClear (countSchN (countSchN (sentOff s p q x path) p 0x00 1) p 0x08 (chargeBytes x.len (rf s .schPortCfg [p] 7 0))) q := rfl

/-- The charges change the nodes alone. -/
theorem charged_part (p : Part) (h : p ≠ .sch) (s : State) (ch : Nat) (l : List (Nat × Nat × Bool)) :
    (charged s ch l).part p = s.part p := by
  refine foldl_inv (P := fun t : State => t.part p = s.part p) (fun t n ht => ?_) l rfl
  split
  · rw [modNode_part p h, chargeNode_part p h, ht]
  · rw [chargeNode_part p h, ht]

theorem qOf_defClear (s : State) (q r : Nat) : qOf (defClear s q) r = qOf s r :=
  qOf_congr (congrArg BpmSt.q (defClear_bpm s q)) r

theorem ctrAt_defClear (s : State) (q k : Nat) : ctrAt (defClear s q) k = ctrAt s k :=
  ctrAt_congr (ctr_of_part (defClear_part .ctr (by decide) _ _)) k

/-- The counters of a decision (Table 13.10). -/
theorem ctrAt_countSchN_same (s : State) (p off n : Nat) : ctrAt (countSchN s p off n) (cOff 0xE (p * 0x40 + off)) =
    (ctrAt s (cOff 0xE (p * 0x40 + off))).add n := ctrAt_bumpN_same _ _ _

theorem ctrAt_countSchN_other (s : State) (p n : Nat) {off o : Nat} (h : o ≠ off) :
    ctrAt (countSchN s p off n) (cOff 0xE (p * 0x40 + o)) = ctrAt s (cOff 0xE (p * 0x40 + o)) := by
  refine ctrAt_bumpN_other _ _ _ _ ?_
  simp only [cOff]
  omega

/-- The scheduler's counters stand in no other block. -/
theorem schCtr_ne_refuse (p o : Nat) (hp : p < 128) (ho : o < 0x40) :
    cOff 0xE (p * 0x40 + o) ≠ cOff 0xC 0x50 ∧ cOff 0xE (p * 0x40 + o) / 0x1000000 ≠ 0x11 := by
  simp only [cOff]
  omega

/-- The pointer that goes out leaves its queue, which has a sample of its delay (R393). -/
theorem qOf_dequeue (s : State) (p q : Nat) (x : Ptr) (path : List (Nat × Nat × Bool)) :
    (qOf (dequeue s p q x path) q).on = (qOf s q).on.drop 1 ∧ (qOf (dequeue s p q x path) q).seeded = true := by
  obtain ⟨s1, hs1⟩ : ∃ s1, charged s (chargeBytes x.len (rf s .schPortCfg [p] 7 0)) ((0, p, false) :: path) = s1 := ⟨_, rfl⟩
  have hq1 : qOf (egressSend s1 p x) q = qOf s q := by
    refine qOf_congr (congrArg BpmSt.q ?_) q
    rw [bpm_of_part (egressSend_part .bpm (by decide) _ _ _), ← hs1, bpm_of_part (charged_part .bpm (by decide) _ _ _)]
  have hpop : qOf (ptrRelease (popPtr (egressSend s1 p x) q) x) q = { qOf s q with on := (qOf s q).on.drop 1 } := by
    rw [qOf_ptrRelease, popPtr, qOf_modQ_same, hq1]
  rw [dequeue_eq, qOf_defClear, sentOff, hs1]
  constructor
  · exact (congrArg QSt.on (qOf_modQ_same _ _ _)).trans (congrArg QSt.on hpop)
  · exact congrArg QSt.seeded (qOf_modQ_same _ _ _)

theorem dequeue_ell (s : State) (p q : Nat) (x : Ptr) (path : List (Nat × Nat × Bool)) :
    (dequeue s p q x path).ell = (egressSend s p x).ell := by
  rw [dequeue_eq, ell_of_part (defClear_part .ell (by decide) _ _), ell_of_part (countSchN_part .ell (by decide) _ _ _ _),
    ell_of_part (countSchN_part .ell (by decide) _ _ _ _), sentOff, ell_of_part (delaySample_part .ell (by decide) _ _ _),
    ell_of_part (ptrRelease_part .ell (by decide) _ _), ell_of_part (popPtr_part .ell (by decide) _ _)]
  exact egressSend_ell (ell_of_part (charged_part .ell (by decide) _ _ _)) (bpm_of_part (charged_part .bpm (by decide) _ _ _)) p x

theorem ctrAt_dequeue (s : State) {p : Nat} (hp : p < 128) (q : Nat) (x : Ptr) (path : List (Nat × Nat × Bool)) :
    ctrAt (dequeue s p q x path) (cOff 0xE (p * 0x40)) = (ctrAt s (cOff 0xE (p * 0x40))).add 1 ∧
      ctrAt (dequeue s p q x path) (cOff 0xE (p * 0x40 + 8)) =
        (ctrAt s (cOff 0xE (p * 0x40 + 8))).add (chargeBytes x.len (rf s .schPortCfg [p] 7 0)) := by
  have hctr : ∀ o, o < 0x40 → ctrAt (sentOff s p q x path) (cOff 0xE (p * 0x40 + o)) = ctrAt s (cOff 0xE (p * 0x40 + o)) := by
    intro o ho
    obtain ⟨hne, hrec⟩ := schCtr_ne_refuse p o hp ho
    rw [sentOff, ctrAt_congr (ctr_of_part (delaySample_part .ctr (by decide) _ _ _)), ctrAt_ptrRelease_other _ _ hne hrec,
      ctrAt_congr (ctr_of_part (popPtr_part .ctr (by decide) _ _)), ctrAt_congr (ctr_of_part (egressSend_part .ctr (by decide) _ _ _)),
      ctrAt_congr (ctr_of_part (charged_part .ctr (by decide) _ _ _))]
  rw [dequeue_eq, ctrAt_defClear, ctrAt_defClear, ctrAt_countSchN_same, ctrAt_countSchN_other _ _ _ (by decide : 8 ≠ 0), hctr 8 (by decide)]
  refine ⟨(ctrAt_countSchN_other (countSchN (sentOff s p q x path) p 0 1) p _ (by decide : 0 ≠ 8)).trans ?_, rfl⟩
  rw [ctrAt_countSchN_same, hctr 0 (by decide)]
  rfl

/-! ## Flushes -/

/-- Every queue's pointers on-die are as they were. -/
def OnKept (s t : State) : Prop := ∀ r, (qOf t r).on = (qOf s r).on

theorem OnKept.trans {s t u : State} (h : OnKept s t) (g : OnKept t u) : OnKept s u := fun r => (g r).trans (h r)

theorem OnKept.of_q {s t : State} (h : t.bpm.q = s.bpm.q) : OnKept s t := fun r => congrArg QSt.on (qOf_congr h r)

theorem OnKept.modQ {f : QSt → QSt} (hf : ∀ x, (f x).on = x.on) (s : State) (q : Nat) : OnKept s (Machine.modQ s q f) := by
  intro r
  by_cases h : r = q
  · rw [h, qOf_modQ_same, hf]
  · rw [qOf_modQ_other _ _ h]

theorem OnKept.giveLines (s : State) (q : Nat) (l : List (Nat × Nat × Nat)) : OnKept s (Machine.giveLines s q l) := by
  refine foldl_inv (P := fun t : State => OnKept s t) (fun t x ht => ht.trans ?_) l fun _ => rfl
  dsimp only
  have hblk : OnKept t (blkAdd t x.1 false) := .of_q rfl
  split
  · exact hblk.trans (.modQ (fun _ => by rfl) _ _)
  · exact hblk

theorem OnKept.recGone (s : State) (q : Nat) (r : HRec) : OnKept s (Machine.recGone s q r).1 := by
  have hfreed : OnKept s (recFreed s r) := fun k => congrArg QSt.on (qOf_recFreed s r k)
  obtain h | h := recGone_state s q r
  · rw [h]
    exact hfreed
  · rw [h]
    exact hfreed.trans (.giveLines _ _ _)

theorem OnKept.recsGone (s : State) (q i : Nat) {each : State → State} (heach : ∀ t, (each t).bpm = t.bpm) :
    OnKept s (Machine.recsGone s q i each) := by
  obtain ⟨a, ha⟩ : ∃ a, ((qOf s q).hbm.drop i).foldl (fun (a : State × List HRec) h =>
      if h.dead then (a.1, a.2 ++ [h]) else ((Machine.recGone (each a.1) q h).1, a.2 ++ (Machine.recGone (each a.1) q h).2.toList)) (s, []) = a :=
    ⟨_, rfl⟩
  have hkept : OnKept s a.1 := by
    rw [← ha]
    refine foldl_inv (P := fun a : State × List HRec => OnKept s a.1) (fun a h hkept => ?_) _ fun _ => rfl
    split
    · exact hkept
    · exact hkept.trans ((OnKept.of_q (congrArg BpmSt.q (heach _))).trans (.recGone _ _ _))
  have hend : Machine.recsGone s q i each = Machine.modQ a.1 q (fun y => { y with hbm := (qOf s q).hbm.take i ++ a.2 }) := by
    rw [← ha]
    rfl
  rw [hend]
  exact hkept.trans (.modQ (fun _ => by rfl) _ _)

theorem OnKept.flushEnd (s : State) (q : Nat) : OnKept s (Machine.flushEnd s q) := by
  unfold Machine.flushEnd
  dsimp only
  split
  · have hmod : OnKept s (Machine.modQ s q (fun y => { y with flush := false, spill := y.spill && !y.hbm.isEmpty })) :=
      .modQ (fun _ => by rfl) _ _
    split
    · exact hmod.trans (.of_q rfl)
    · exact hmod
  · exact fun _ => rfl

/-- The flush of a queue leaves, of the pointers on-die, those of the other queues and its own behind the first n. -/
theorem onKept_flushQueue (s : State) (q n : Nat) :
    OnKept (modQ s q (fun x => { x with on := x.on.drop n })) (flushQueue s q n true) := by
  obtain ⟨s1, hs1⟩ : ∃ s1, ((qOf s q).on.take n).foldl (fun t p => countQ (countB (ptrRelease t p) 0x18) q 0x10)
      (modQ s q (fun x => { x with on := x.on.drop n })) = s1 := ⟨_, rfl⟩
  have h1 : OnKept (modQ s q (fun x => { x with on := x.on.drop n })) s1 := by
    rw [← hs1]
    exact foldl_inv (P := fun t : State => OnKept (modQ s q (fun x => { x with on := x.on.drop n })) t)
      (g := fun t p => countQ (countB (ptrRelease t p) 0x18) q 0x10) (fun t x ht => ht.trans (.of_q (ptrRelease_q t x))) _ fun _ => rfl
  have hend : flushQueue s q n true =
      flushEnd (modQ (recsGone s1 q 0 (fun t => countQ (countB t 0x18) q 0x10)) q (fun x => { x with flush := true })) q := by
    rw [← hs1]
    rfl
  rw [hend]
  exact h1.trans ((OnKept.recsGone s1 q 0 (fun _ => by rfl)).trans ((OnKept.modQ (fun _ => by rfl) _ _).trans (.flushEnd _ _)))

/-- A queue that is flushed whole is empty on-die, and an empty one stays empty. -/
theorem qOf_flushQueue_all (s : State) (q : Nat) : (qOf (flushQueue s q (qOf s q).on.length true) q).on = [] := by
  rw [onKept_flushQueue, qOf_modQ_same, List.drop_length]

theorem qOf_flushQueue_empty {s : State} {r : Nat} (h : (qOf s r).on = []) (q n : Nat) : (qOf (flushQueue s q n true) r).on = [] := by
  rw [onKept_flushQueue]
  by_cases hr : r = q
  · rw [← hr, qOf_modQ_same, h, List.drop_nil]
  · rw [qOf_modQ_other _ _ hr, h]

theorem defClear_port (s : State) (q : Nat) : (defClear s q).sch.port = s.sch.port := by
  unfold defClear
  refine foldl_inv (P := fun t : State => t.sch.port = s.sch.port) (fun t x ht => ?_) _ rfl
  split
  · exact ht
  · exact ht

/-- A port whose flush starts is in FLUSH, and its queues hold nothing on-die (R390). -/
theorem flushStart_port (s : State) (p : Nat) :
    schPort (flushStart s p) p = { schPort s p with st := .flush, since := s.now } ∧ ∀ q ∈ queuesOfPort s p, (qOf (flushStart s p) q).on = [] := by
  obtain ⟨s1, hs1⟩ : ∃ s1, event (modSchPort s p (fun x => { x with st := .flush, since := s.now })) 0x3803 p (min (2 ^ 20 - 1)
      (((queuesOfPort s p).map (fun q => (qOf s q).on.length + ((qOf s q).hbm.filter (fun r => !r.dead)).length)).sum)) = s1 := ⟨_, rfl⟩
  have hend : flushStart s p =
      forEach (queuesOfPort s p) (fun q t => defClear (flushQueue t q (qOf t q).on.length true) q) s1 := by
    rw [← hs1]
    rfl
  rw [hend]
  constructor
  · have hport : (forEach (queuesOfPort s p) (fun q t => defClear (flushQueue t q (qOf t q).on.length true) q) s1).sch.port = s1.sch.port :=
      forEach_inv (fun u => u.sch.port = s1.sch.port) (fun q u hu => by
        rw [defClear_port, sch_of_part (flushQueue_part .sch (by decide) _ _ _ _), hu]) _ rfl
    rw [schPort, hport, ← hs1, event_sch]
    exact SMap.get_upd_same _ _ _ _
  · intro q hq
    refine forEach_reaches (P := fun _ => True) (Q := fun u => (qOf u q).on = []) (g := fun q t => defClear (flushQueue t q (qOf t q).on.length true) q)
      hq (fun _ _ _ => trivial) (fun u _ => ?_) (fun r u hu => ?_) trivial
    · rw [qOf_defClear]
      exact qOf_flushQueue_all u q
    · rw [qOf_defClear]
      exact qOf_flushQueue_empty hu r _

end Sys2Proof.Machine
end

section
/-! The statement about the egress scheduler's decisions and port states (R379 to R393). -/

namespace Sys2Proof.Machine

theorem rrNext_mem {l : List Nat} {n p : Nat} (h : rrNext l n = some p) : p ∈ l := by
  unfold rrNext at h
  split at h
  · next m hm =>
    cases h
    exact List.mem_of_find?_eq_some hm
  · exact List.mem_of_head? h

/-- The port that a group serves is one of the device's. -/
theorem servedPort_lt {s : State} {g : Fin 16} {n p : Nat}
    (h : rrNext (((List.range 8).map (fun i => 8 * g.val + i)).filter (fun p => (portPick s p).isSome)) n = some p) : p < 128 := by
  obtain ⟨hp, -⟩ := List.mem_filter.mp (rrNext_mem h)
  obtain ⟨i, hi, rfl⟩ := List.mem_map.mp hp
  have := List.mem_range.mp hi
  omega

section
variable {s s1 : State} {g p lv q : Nat} {b : Bool} {path : List (Nat × Nat × Bool)} {x : Ptr} {rest : List Ptr}

/-- A decision sends the head pointer of the queue that it reaches. -/
theorem schDequeue_sent
    (hrr : rrNext (((List.range 8).map (fun i => 8 * g + i)).filter (fun p => (portPick s p).isSome)) (s.sch.rr.get 0 g) = some p)
    (hpick : portPick s p = some (path, s1)) (hlast : path.getLast? = some (lv, q, b)) (hon : (qOf s q).on = x :: rest)
    (hbad : ptrBad s x = false) (hold : tooOld s q x = false)
    (hgate : gateImpossible s (gatePort s p) (nf s 4 q 6 30 28) x.len (portRate s (gatePort s p)) = false) :
    schDequeue s g = modSch (dequeue s1 p q x path) (fun y => { y with rr := y.rr.set 0 g (p + 1) }) := by
  unfold schDequeue
  simp only [hrr, hpick, hlast, hon, hbad, hold, hgate, Bool.false_eq_true, if_false]

/-- A head pointer that is too old is dropped and counted (R392). -/
theorem schDequeue_aged
    (hrr : rrNext (((List.range 8).map (fun i => 8 * g + i)).filter (fun p => (portPick s p).isSome)) (s.sch.rr.get 0 g) = some p)
    (hpick : portPick s p = some (path, s1)) (hlast : path.getLast? = some (lv, q, b)) (hon : (qOf s q).on = x :: rest)
    (hbad : ptrBad s x = false) (hold : tooOld s q x = true) :
    schDequeue s g = modSch (defClear (ptrRelease (popPtr (countSchN s p 0x10 1) q) x) q) (fun y => { y with rr := y.rr.set 0 g (p + 1) }) := by
  unfold schDequeue
  simp only [hrr, hpick, hlast, hon, hbad, hold, Bool.false_eq_true, if_false, if_true]

end

theorem schPort_modSchPort_same (s : State) (p : Nat) (f : SchPort → SchPort) : schPort (modSchPort s p f) p = f (schPort s p) :=
  SMap.get_upd_same _ _ _ _

/-- A change of LINK passed, before the port's state answers it. -/
def linkPassed (s : State) (p : Nat) (l : Bool) (rest : List Bool) : State :=
  modSchPort (setPort s p { portOf s p with linkq := rest }) p (fun y => { y with link := l })

theorem portOf_linkPassed (s : State) (p : Nat) (l : Bool) (rest : List Bool) :
    portOf (linkPassed s p l rest) p = { portOf s p with linkq := rest } := portOf_setPort_same _ _ _

theorem schPort_linkPassed (s : State) (p : Nat) (l : Bool) (rest : List Bool) :
    schPort (linkPassed s p l rest) p = { schPort s p with link := l } := schPort_modSchPort_same _ _ _

theorem linkPassed_part (q : Part) (h : q ≠ .sch ∧ q ≠ .lp) (s : State) (p : Nat) (l : Bool) (rest : List Bool) :
    (linkPassed s p l rest).part q = s.part q := by
  rw [linkPassed, modSchPort_part q h.1, setPort_part q h.2]

/-- A change of a port's state that counts and tells. -/
def portTold (s : State) (p off code d : Nat) : State := event (countSchN s p off 1) code p d

section
variable (s : State) (p off code d : Nat)

theorem schPort_portTold : schPort (portTold s p off code d) p = schPort s p := by
  rw [portTold, schPort, event_sch]
  rfl

theorem portOf_portTold : portOf (portTold s p off code d) p = portOf s p := by
  rw [portTold, portOf, event_lp]
  rfl

theorem portTold_bpm : (portTold s p off code d).bpm = s.bpm := by
  rw [portTold, event_bpm]
  rfl

theorem ctrAt_portTold (hp : p < 128) (ho : off < 0x40) :
    ctrAt (portTold s p off code d) (cOff 0xE (p * 0x40 + off)) = (ctrAt s (cOff 0xE (p * 0x40 + off))).add 1 := by
  rw [portTold, ctrAt_event_other _ _ _ _ (schCtr_ne_refuse p off hp ho).2, ctrAt_countSchN_same]

theorem portTold_part (q : Part) (h : q ≠ .ctr ∧ q ≠ .rcd) : (portTold s p off code d).part q = s.part q := by
  rw [portTold, event_part q h, countSchN_part q h.1]

end

section
variable {s : State} {p : Nat} {rest : List Bool}

theorem linkChange_up (hl : (schPort s p).link = false) (hq : (portOf s p).linkq = true :: rest) (hst : (schPort s p).st = .down) :
    linkChange s p = modSchPort (linkPassed s p true rest) p (fun y => { y with st := .up, since := s.now }) := by
  unfold linkChange
  simp only [hl, hq, hst, Bool.false_eq_true, if_false]
  rfl

theorem linkChange_hold (hl : (schPort s p).link = true) (hq : (portOf s p).linkq = false :: rest) (hst : (schPort s p).st = .up)
    (hms : 0 < holdMs s p) : linkChange s p =
      portTold (modSchPort (linkPassed s p false rest) p
        (fun y => { y with st := .hold, since := s.now, until' := s.now + holdMs s p * 1000000 })) p 0x18 0x3801 (holdMs s p) := by
  unfold linkChange
  simp only [hl, hq, hst, reduceCtorEq, if_false]
  exact if_neg (Nat.pos_iff_ne_zero.mp hms)

theorem linkChange_flush (hl : (schPort s p).link = true) (hq : (portOf s p).linkq = false :: rest) (hst : (schPort s p).st = .up)
    (hms : holdMs s p = 0) : linkChange s p = flushStart (linkPassed s p false rest) p := by
  unfold linkChange
  simp only [hl, hq, hst, reduceCtorEq, if_false]
  exact if_pos hms

theorem linkChange_back (hl : (schPort s p).link = false) (hq : (portOf s p).linkq = true :: rest) (hst : (schPort s p).st = .hold) :
    linkChange s p = portTold (modSchPort (linkPassed s p true rest) p (fun y => { y with st := .up, since := s.now })) p 0x20 0x3802
      ((s.now - (schPort s p).since) / 1000000) := by
  unfold linkChange
  simp only [hl, hq, hst, Bool.false_eq_true, if_false]
  rfl

theorem linkChange_same {l : Bool} (hl : (schPort s p).link = l) (hq : (portOf s p).linkq = l :: rest) :
    linkChange s p = setPort s p { portOf s p with linkq := rest } := by
  unfold linkChange
  simp only [hl, hq, if_true]

end

/-- Settles O44: a decision takes the head pointer of the queue it reaches; the changes of LINK pass one by one, and a flush empties the
port's queues. -/
theorem schedulerDecisions : Obligations.SchedulerDecisions := by
  unfold Obligations.SchedulerDecisions
  refine ⟨fun g p r lv q b x rest s hon hrr hpick hlast hq hbad hold hgate => ?sent,
    fun g p r lv q b x rest s hon hrr hpick hlast hq hbad hold => ?aged, fun p rest s hon hl hq hst => ?up,
    fun p rest s hon hl hq hst hms => ?hold, fun p rest s hon hl hq hst hms => ?down, fun p rest s hon hl hq hst => ?back,
    fun p l rest s hon hq hl => ?same, fun p s hon hst hdue => ?expire, fun p s hon hst hall => ?done⟩
  case sent =>
    obtain ⟨path, s1⟩ := r
    have hend := schDequeue_sent hrr hpick hlast hq hbad hold hgate
    have hp := servedPort_lt hrr
    have hpart : ∀ y : Part, y ≠ .sch → s1.part y = s.part y := fun y hy => portPick_part y hy s p _ hpick
    have hq1 : qOf s1 q = qOf s q := qOf_congr (congrArg BpmSt.q (bpm_of_part (hpart .bpm (by decide)))) q
    have hrf : rf s1 .schPortCfg [p] 7 0 = rf s .schPortCfg [p] 7 0 := by
      rw [rf, rf, regRaw, regRaw, regs_of_part (hpart .regs (by decide))]
    obtain ⟨hon1, hseeded⟩ := qOf_dequeue s1 p q x path
    obtain ⟨hone, hbytes⟩ := ctrAt_dequeue s1 hp q x path
    have hell := dequeue_ell s1 p q x path
    have hframe : ∀ y : Part, y ∉ [.regs, .ctr, .flt, .rcd, .ell, .bpm, .sch] → (dequeue s1 p q x path).part y = s.part y := fun y hy => by
      rw [dequeue_part y (by simp at hy; simp [hy]), hpart y (by simp at hy; simp [hy])]
    generalize dequeue s1 p q x path = u at hend hon1 hseeded hone hbytes hell hframe
    have hctr := ctr_of_part (hpart .ctr (by decide))
    refine ⟨_, congrArg Host.Outcome.next ((if_pos hon).trans hend), ?_, hseeded, ?_, ?_, ?_, SMap.get_set_same _ _ _ _, fun y hy => ?_⟩
    · refine hon1.trans ?_
      rw [hq1, hq, List.drop_one, List.tail_cons]
    · exact hell.trans
        (egressSend_ell (ell_of_part (hpart .ell (by decide))) (bpm_of_part (hpart .bpm (by decide))) p x)
    · exact hone.trans (by rw [ctrAt_congr hctr])
    · exact hbytes.trans (by rw [ctrAt_congr hctr, hrf])
    · rw [modSch_part y (by simp at hy; simp [hy]), hframe y (by simpa using hy)]
  case aged =>
    obtain ⟨path, s1⟩ := r
    have hend := schDequeue_aged hrr hpick hlast hq hbad hold
    have hp := servedPort_lt hrr
    obtain ⟨u, hu⟩ : ∃ u, defClear (ptrRelease (popPtr (countSchN s p 0x10 1) q) x) q = u := ⟨_, rfl⟩
    have hqu : qOf u q = { qOf s q with on := (qOf s q).on.drop 1 } := by
      rw [← hu, qOf_defClear, qOf_ptrRelease, popPtr, qOf_modQ_same]
      rfl
    have hctr : ∀ o, o < 0x40 → ctrAt u (cOff 0xE (p * 0x40 + o)) = ctrAt (countSchN s p 0x10 1) (cOff 0xE (p * 0x40 + o)) := by
      intro o ho
      obtain ⟨hne, hrec⟩ := schCtr_ne_refuse p o hp ho
      rw [← hu, ctrAt_defClear, ctrAt_ptrRelease_other _ _ hne hrec, ctrAt_congr (ctr_of_part (popPtr_part .ctr (by decide) _ _))]
    rw [hu] at hend
    refine ⟨_, congrArg Host.Outcome.next ((if_pos hon).trans hend), ?_, ?_, ?_, ?_, fun y hy => ?_⟩
    · refine (congrArg QSt.on hqu).trans ?_
      rw [hq]
      rfl
    · exact (congrArg QSt.seeded hqu).trans rfl
    · exact (hctr 0x10 (by decide)).trans (ctrAt_countSchN_same _ _ _ _)
    · exact (hctr 0 (by decide)).trans (ctrAt_countSchN_other s p 1 (by decide : 0 ≠ 0x10))
    · rw [modSch_part y (by simp at hy; simp [hy]), ← hu, defClear_part y (by simp at hy; simp [hy]), ptrRelease_part y (by simp at hy; simp [hy]),
        popPtr_part y (by simp at hy; simp [hy]), countSchN_part y (by simp at hy; simp [hy])]
  case up =>
    have hend := linkChange_up hl hq hst
    refine ⟨_, congrArg Host.Outcome.next ((if_pos hon).trans hend), portOf_linkPassed s p.val true rest, ?_, ?_, fun y hy => ?_⟩
    · rw [schPort_modSchPort_same, schPort_linkPassed]
    · rw [schPort_modSchPort_same]
    · rw [modSchPort_part y (by simp at hy; simp [hy]), linkPassed_part y (by simp at hy; simp [hy])]
  case hold =>
    have hend := linkChange_hold hl hq hst hms
    refine ⟨_, congrArg Host.Outcome.next ((if_pos hon).trans hend), ?_, ?_, ?_, ?_, ?_, ?_, fun y hy => ?_⟩
    · exact (portOf_portTold _ _ _ _ _).trans (portOf_linkPassed s p.val false rest)
    · rw [schPort_portTold, schPort_modSchPort_same, schPort_linkPassed]
    · rw [schPort_portTold, schPort_modSchPort_same]
    · rw [schPort_portTold, schPort_modSchPort_same]
    · exact (portTold_bpm _ _ _ _ _).trans rfl
    · exact (ctrAt_portTold _ _ 0x18 _ _ p.isLt (by decide)).trans rfl
    · rw [portTold_part _ _ _ _ _ y (by simp at hy; simp [hy]), modSchPort_part y (by simp at hy; simp [hy]),
        linkPassed_part y (by simp at hy; simp [hy])]
  case down =>
    have hend := linkChange_flush hl hq hst hms
    obtain ⟨hport, hempty⟩ := flushStart_port (linkPassed s p.val false rest) p.val
    refine ⟨_, congrArg Host.Outcome.next ((if_pos hon).trans hend), ?_, ?_, ?_, ?_, fun y hy => ?_⟩
    · rw [portOf, lp_of_part (flushStart_part .lp (by decide) _ _)]
      exact portOf_linkPassed s p.val false rest
    · rw [hport, schPort_linkPassed]
    · rw [hport]
    · exact List.all_eq_true.mpr fun q hq => List.isEmpty_iff.mpr (hempty q hq)
    · rw [flushStart_part y (by simp at hy; simp [hy]), linkPassed_part y (by simp at hy; simp [hy])]
  case back =>
    have hend := linkChange_back hl hq hst
    refine ⟨_, congrArg Host.Outcome.next ((if_pos hon).trans hend), ?_, ?_, ?_, ?_, ?_, fun y hy => ?_⟩
    · exact (portOf_portTold _ _ _ _ _).trans (portOf_linkPassed s p.val true rest)
    · rw [schPort_portTold, schPort_modSchPort_same, schPort_linkPassed]
    · rw [schPort_portTold, schPort_modSchPort_same]
    · exact (portTold_bpm _ _ _ _ _).trans rfl
    · exact (ctrAt_portTold _ _ 0x20 _ _ p.isLt (by decide)).trans rfl
    · rw [portTold_part _ _ _ _ _ y (by simp at hy; simp [hy]), modSchPort_part y (by simp at hy; simp [hy]),
        linkPassed_part y (by simp at hy; simp [hy])]
  case same =>
    exact congrArg Host.Outcome.next ((if_pos hon).trans (linkChange_same hl hq))
  case expire =>
    have hend : holdExpire s p.val = flushStart s p.val := if_pos ⟨hst, hdue⟩
    obtain ⟨hport, hempty⟩ := flushStart_port s p.val
    refine ⟨_, congrArg Host.Outcome.next ((if_pos hon).trans hend), ?_, ?_, fun y hy => flushStart_part y (by simp at hy; simp [hy]) _ _⟩
    · rw [hport]
    · exact List.all_eq_true.mpr fun q hq => List.isEmpty_iff.mpr (hempty q hq)
  case done =>
    have hend : flushDone s p.val = event (modSchPort s p.val (fun y => { y with st := if y.link then .up else .down, since := s.now })) 0x3804
        p.val (if (schPort s p.val).link then 1 else 0) := if_pos ⟨hst, hall⟩
    refine ⟨_, congrArg Host.Outcome.next ((if_pos hon).trans hend), ?_, fun y hy => ?_⟩
    · rw [schPort, event_sch, ← schPort, schPort_modSchPort_same]
    · rw [event_part y (by simp at hy; simp [hy]), modSchPort_part y (by simp at hy; simp [hy])]

end Sys2Proof.Machine
end

section
/-! The statement about the node window (R376, R377, R393). -/

namespace Sys2Proof.Machine

/-- A write of a node word, with or without a check on its value, is the window's. -/
theorem ownWrite_node {s : State} {slot : Fin 4} {w : Nat} (v : Word) (hmay : ownerMay s slot (nodeReg w) [] = true)
    (hw : w ≤ 3 ∨ w = 6 ∨ w = 7) : ownWrite s slot.val (nodeReg w) [] v = { nodeWrite s w v with acc := (stOk, 0) } := by
  obtain h | rfl | rfl := hw
  · interval_cases w
    · exact ownWrite_of_writeReg hmay rfl (by simp [nodeReg, Reg.info, idxFit]) rfl (by decide) (by decide)
    · exact ownWrite_of_writeReg hmay rfl (by simp [nodeReg, Reg.info, idxFit]) rfl (by decide) (by decide)
    · exact ownWrite_of_writeReg hmay rfl (by simp [nodeReg, Reg.info, idxFit]) rfl (by decide) (by decide)
    · exact ownWrite_of_writeReg hmay rfl (by simp [nodeReg, Reg.info, idxFit]) rfl (by decide) (by decide)
  · exact ownWrite_of_writeReg hmay rfl (by simp [nodeReg, Reg.info, idxFit]) rfl (by decide) (by decide)
  · exact ownWrite_of_writeReg hmay rfl (by simp [nodeReg, Reg.info, idxFit]) rfl (by decide) (by decide)

/-- The token words ignore their write (Table 13.6). -/
theorem ownWrite_tokens {s : State} {slot : Fin 4} {w : Nat} (v : Word) (hmay : ownerMay s slot (nodeReg w) [] = true)
    (hw : w = 4 ∨ w = 5) : ownWrite s slot.val (nodeReg w) [] v = { s with acc := (stOk, 0) } := by
  obtain rfl | rfl := hw
  · exact ownWrite_of_writeReg hmay rfl (by simp [nodeReg, Reg.info, idxFit]) rfl (by decide) (by decide)
  · exact ownWrite_of_writeReg hmay rfl (by simp [nodeReg, Reg.info, idxFit]) rfl (by decide) (by decide)

section
variable {s : State} {w lvl idx : Nat} {v : Word}

/-- A word of the level, with a value that R377 lets pass, waits in the open set while it has room (R376). -/
theorem nodeWrite_staged (hdir : s.fur.direct = false) (hsel : selNode s = some (lvl, idx)) (hw : w ≤ 3 ∨ (w = 6 ∧ lvl = 4))
    (hmap : w = 0 → mapBad s lvl idx v = false) (hroom : (s.fur.opn.find (nodeKey lvl idx w)).isSome = true ∨ stagedNodes s < 16384) :
    nodeWrite s w v = { s with fur := { s.fur with opn := s.fur.opn.put (nodeKey lvl idx w) (some v) } } := by
  have hmap' : ¬ (w = 0 ∧ mapBad s lvl idx v) := fun ⟨h0, hbad⟩ => by simp [hmap h0] at hbad
  have hfull : ¬ ((s.fur.opn.find (nodeKey lvl idx w)).isNone ∧ 16384 ≤ stagedNodes s) := by
    rintro ⟨hnone, hfull⟩
    obtain h | h := hroom
    · simp [Option.isNone_iff_eq_none.mp hnone] at h
    · omega
  unfold nodeWrite
  simp only [hsel]
  rw [if_neg (by omega), if_neg (by omega), if_neg hmap']
  simp only [hdir, Bool.false_eq_true, if_false]
  exact if_neg hfull

/-- A full open set refuses one more word with STAGE_FULL (R376). -/
theorem nodeWrite_full (hdir : s.fur.direct = false) (hsel : selNode s = some (lvl, idx)) (h1 : 1 ≤ w) (h3 : w ≤ 3)
    (hnew : s.fur.opn.find (nodeKey lvl idx w) = none) (hfull : 16384 ≤ stagedNodes s) :
    nodeWrite s w v = event (setRB s .schStatus [] 30 true) 0x3805 0 0 := by
  unfold nodeWrite
  simp only [hsel]
  rw [if_neg (by omega), if_neg (by omega), if_neg (by omega)]
  simp only [hdir, Bool.false_eq_true, if_false]
  exact if_pos ⟨by rw [hnew]; rfl, hfull⟩

/-- A word that the level does not have ignores its write. -/
theorem nodeWrite_absent (hsel : selNode s = some (lvl, idx)) (hlvl : lvl ≠ 4) : nodeWrite s 6 v = s := by
  unfold nodeWrite
  simp only [hsel]
  rw [if_neg (by decide)]
  exact if_pos (.inr (.inr ⟨trivial, hlvl⟩))

/-- A map that R377 refuses sets MAP_REJ. -/
theorem nodeWrite_mapBad (hsel : selNode s = some (lvl, idx)) (hbad : mapBad s lvl idx v = true) :
    nodeWrite s 0 v = setRB s .schStatus [] 31 true := by
  unfold nodeWrite
  simp only [hsel]
  rw [if_neg (by decide), if_neg (by omega)]
  exact if_pos ⟨trivial, hbad⟩

/-- RESEED clears SEEDED of the selected queue (R393). -/
theorem nodeWrite_reseed {q : Nat} (hsel : selNode s = some (4, q)) (hv : tbit v 0 = true) :
    nodeWrite s 7 v = modQ s q (fun x => { x with seeded := false }) := by
  unfold nodeWrite
  simp only [hsel]
  rw [if_pos trivial]
  exact if_pos ⟨trivial, hv⟩

end

/-- Settles O45: a node word is staged, ignored or refused by the window; RESEED clears SEEDED. -/
theorem nodeWindow : Obligations.NodeWindow := by
  unfold Obligations.NodeWindow
  refine ⟨fun slot w val lvl idx s hmay hdir hsel hw hroom => ?staged, fun slot w val lvl idx s hmay hsel hw => ?ignored,
    fun slot w val lvl idx s hmay hdir hsel h1 h3 hnew hfull => ?full, fun slot val lvl idx s hmay hdir hsel hmap hroom => ?map,
    fun slot val lvl idx s hmay hsel hbad => ?refused, fun slot q s hmay hsel => ?reseed⟩
  case staged =>
    have hend := (ownWrite_node val hmay (by omega)).trans
      (congrArg (fun t : State => { t with acc := (stOk, 0) }) (nodeWrite_staged hdir hsel (by omega) (by omega) hroom))
    exact ⟨_, congrArg Host.Outcome.next hend, rfl, rfl, AgreeBut.acc (by simp) _ fun p hp => part_fur p (by simp at hp; simp [hp]) _ _⟩
  case ignored =>
    have hend : ownWrite s slot.val (nodeReg w.val) [] val = { s with acc := (stOk, 0) } := by
      obtain h | h | ⟨h, hlvl⟩ := hw
      · exact ownWrite_tokens val hmay (.inl h)
      · exact ownWrite_tokens val hmay (.inr h)
      · rw [ownWrite_node val hmay (by omega), h, nodeWrite_absent hsel hlvl]
    exact ⟨_, congrArg Host.Outcome.next hend, rfl, AgreeBut.acc (by simp) _ fun p _ => rfl⟩
  case full =>
    have hend := (ownWrite_node val hmay (by omega)).trans
      (congrArg (fun t : State => { t with acc := (stOk, 0) }) (nodeWrite_full hdir hsel h1 h3 hnew hfull))
    obtain ⟨u, hu⟩ : ∃ u, event (setRB s .schStatus [] 30 true) 0x3805 0 0 = u := ⟨_, rfl⟩
    have hrb : rb u .schStatus [] 30 = true := by
      rw [← hu, rb_of_regs (event_regs _ _ _ _), rb_setRB_same _ _ _ _ _ (by decide)]
    have hframe : AgreeBut [.regs, .ctr, .rcd] s u := fun p hp => by
      rw [← hu, event_part p (by simp at hp; simp [hp]), setRB_part p (by simp at hp; simp [hp])]
    rw [hu] at hend
    exact ⟨_, congrArg Host.Outcome.next hend, rfl, hrb, AgreeBut.acc (by simp) _ (hframe.mono (by simp))⟩
  case map =>
    have hend := (ownWrite_node (w := 0) val hmay (by omega)).trans
      (congrArg (fun t : State => { t with acc := (stOk, 0) }) (nodeWrite_staged hdir hsel (by omega) (fun _ => hmap) hroom))
    exact ⟨_, congrArg Host.Outcome.next hend, rfl, rfl, AgreeBut.acc (by simp) _ fun p hp => part_fur p (by simp at hp; simp [hp]) _ _⟩
  case refused =>
    have hend := (ownWrite_node (w := 0) val hmay (by omega)).trans
      (congrArg (fun t : State => { t with acc := (stOk, 0) }) (nodeWrite_mapBad hsel hbad))
    exact ⟨_, congrArg Host.Outcome.next hend, rfl, rb_setRB_same _ _ _ _ _ (by decide),
      AgreeBut.acc (by simp) _ fun p hp => setRB_part p (by simp at hp; simp [hp]) _ _ _ _ _⟩
  case reseed =>
    have hend := (ownWrite_node (w := 7) 1 hmay (by omega)).trans
      (congrArg (fun t : State => { t with acc := (stOk, 0) }) (nodeWrite_reseed hsel (by decide)))
    exact ⟨_, congrArg Host.Outcome.next hend, rfl, qOf_modQ_same _ _ _,
      AgreeBut.acc (by simp) _ fun p hp => modQ_part p (by simp at hp; simp [hp]) _ _ _⟩

end Sys2Proof.Machine
end

section
/-! SUPPORT. The timekeeper's writes, and moves of the time base that cross no furlong boundary (R39, R399). -/

namespace Sys2Proof.Machine

/-- A write by the timekeeper session to one of its registers does what the register's write does. -/
theorem tkWrite_register {s t : State} {slot : Fin 4} {r : Reg} {v : Word} (hs : served s = true) (hk : isTk s slot.val = true)
    (hv : availAddr s (r.addr []) = true) (hw : writeReg s r [] v = (t, false)) (hi : idxFit r.info.dims [] = true)
    (htk : tkReg r = true) (hst : stWrite r = false) (h1 : r ≠ .tblCmdWin) (h2 : r ≠ .tcmCmdWin) :
    sessWrite s slot.val .timekeeper (r.addr []) v = { t with acc := (stOk, 0) } := by
  obtain ⟨hat, h4, -⟩ := regAt_addr hi
  have hrole : roleWrites .timekeeper (r.addr []) = true := by
    simp [roleWrites, hat, htk]
  rw [sessWrite_register v hs h4 hat (show holdsRole s slot.val .timekeeper = true from hk) hrole (availWrite_of_availAddr hv) (.inl hst) h1 h2, hw]
  rfl

/-- A command of TGT_TB_CMD (R399). -/
theorem tbWrite_eq {s : State} {slot : Fin 4} (op : Nat) (hs : served s = true) (hk : isTk s slot.val = true)
    (hv : availAddr s (Reg.addr .tgtTbCmd []) = true) :
    tbWrite s slot.val op = { tbCmd s (fld (mkF 31 29 op) 31 29) with acc := (stOk, 0) } :=
  tkWrite_register hs hk hv rfl (by simp [Reg.info, idxFit]) rfl (by decide) (by decide) (by decide)

/-- STEP, SLEW, CANCEL_SLEW and SET_NOW wait for their T, or for an armed set. -/
theorem tbCmd_queued {s : State} {op : Nat} (h1 : 1 ≤ op) (h4 : op ≤ 4) : tbCmd s op = modTgt s (fun t => { t with
    cmds := t.cmds ++ [{ op := op, ofs := tbOfs s, set := tbSet s, at' := if s.fur.armed then none else some (s.now + 2000) }] }) := by
  unfold tbCmd
  rw [if_neg (by omega), if_neg (by omega)]

/-- The due command alone applies, with nothing left behind it. -/
theorem tbApply_one {s : State} {c : TbCmd} (hc : s.tgt.cmds = [c]) (hdue : cmdDue s.now c = true) :
    tbApply s = tbDo (modTgt s (fun t => { t with cmds := [] })) c := by
  unfold tbApply
  simp [hc, hdue, modTgt]

/-- With no response held, the end of a command holds nothing back. -/
theorem respRelease_none {s : State} (h : s.chain.heldResp = none) : respRelease s = s := by
  unfold respRelease
  rw [h]

/-- With the time base before the next boundary, a move of it changes the boundaries at most (R39). -/
theorem timeMoved_same {s : State} {before t : Nat} (h : t < s.fur.nextB) : ∃ f, timeMoved s before t = { s with fur := f } := by
  have harmed : ∀ u : State, ∃ f, armedNext u = { u with fur := f } := fun u => by
    unfold armedNext
    split
    · exact ⟨_, rfl⟩
    · exact ⟨u.fur, rfl⟩
  unfold timeMoved
  rw [if_neg (by omega : ¬ s.fur.nextB ≤ t)]
  split
  · obtain ⟨f, hf⟩ := harmed (modFur s (fun f => { f with nextB := nextMultiple (furPeriod s) t }))
    exact ⟨f, hf⟩
  · exact harmed s

/-- A move of the time base that crosses no boundary sets the time, and changes the boundaries and the buckets at most. -/
theorem tbMove_within {s : State} {t : Nat} (h : t / tbUnit < s.fur.nextB) :
    (tbMove s t).tgt = { s.tgt with tb := t } ∧ AgreeBut [.fur, .tgt, .sch] s (tbMove s t) := by
  obtain ⟨u, hu⟩ : ∃ u, (if decide (t < s.tgt.tb) then bucketsFrom (modTgt (if decide (t < s.tgt.tb) then settleAll s else s)
      (fun x => { x with tb := t })) else modTgt (if decide (t < s.tgt.tb) then settleAll s else s) (fun x => { x with tb := t })) = u := ⟨_, rfl⟩
  have hpart : ∀ p, p ≠ .tgt → p ≠ .sch → u.part p = s.part p := by
    intro p htgt hsch
    rw [← hu]
    split
    · rw [bucketsFrom_part p hsch, modTgt_part p htgt, settleAll_part p hsch]
    · rw [modTgt_part p htgt]
  have htgt : u.tgt = { s.tgt with tb := t } := by
    rw [← hu]
    split
    · rw [tgt_of_part (bucketsFrom_part .tgt (by decide) _), modTgt, tgt_of_part (settleAll_part .tgt (by decide) _)]
    · rfl
  have hns : tbNs (modTgt (if decide (t < s.tgt.tb) then settleAll s else s) (fun x => { x with tb := t })) = t / tbUnit := rfl
  have hend : tbMove s t = timeMoved u (tbNs s) (t / tbUnit) := by
    rw [← hns, ← hu]
    rfl
  obtain ⟨f, hf⟩ := timeMoved_same (s := u) (before := tbNs s) (t := t / tbUnit) (by rw [fur_of_part (hpart .fur (by decide) (by decide))]; exact h)
  rw [hend, hf]
  refine ⟨htgt, fun p hp => ?_⟩
  rw [part_fur p (by simp at hp; simp [hp]), hpart p (by simp at hp; simp [hp]) (by simp at hp; simp [hp])]

/-- What the gates do when TIME_VALID rises changes the gates alone (R410). -/
theorem gatesOnValid_tgt (s : State) : ∃ g, (gatesOnValid s).tgt = { s.tgt with gates := g } := by
  refine forEach_inv (fun u => ∃ g, u.tgt = { s.tgt with gates := g }) (fun p u hu => ?_) _ ⟨_, rfl⟩
  obtain ⟨g, hg⟩ := hu
  split
  · unfold gateSwitchAt
    split
    · exact ⟨g, hg⟩
    · dsimp only
      exact ⟨_, by rw [setGate, modTgt, hg]⟩
  · exact ⟨g, hg⟩

theorem ctrAt_modTgt (s : State) (f : TgtSt → TgtSt) (k : Nat) : ctrAt (modTgt s f) k = ctrAt s k := rfl

/-- The time is set within the present period: it is valid, and counted (R399, R410). -/
theorem tbSetTo_within {s : State} {ns : Nat} (op : Nat) (h : ns < s.fur.nextB) :
    (∃ g, (tbSetTo s ns op).tgt = { s.tgt with tb := ns * tbUnit, valid := true, gates := g }) ∧
      ctrAt (tbSetTo s ns op) (cOff 0xF 0x80000) = (ctrAt s (cOff 0xF 0x80000)).add 1 ∧
      AgreeBut [.ctr, .fur, .rcd, .tgt, .sch] s (tbSetTo s ns op) := by
  have hdiv : ns * tbUnit / tbUnit = ns := Nat.mul_div_cancel _ (by decide)
  obtain ⟨htgt, hmove⟩ := tbMove_within (s := s) (t := ns * tbUnit) (by rw [hdiv]; exact h)
  obtain ⟨u, hu⟩ : ∃ u, event (count (modTgt (tbMove s (ns * tbUnit)) (fun t => { t with valid := true })) 0xF 0x80000) 0x3C02 0 op = u := ⟨_, rfl⟩
  have hutgt : u.tgt = { s.tgt with tb := ns * tbUnit, valid := true } := by
    rw [← hu, event_tgt]
    exact (congrArg (fun t : TgtSt => { t with valid := true }) htgt).trans rfl
  have huctr : ctrAt u (cOff 0xF 0x80000) = (ctrAt s (cOff 0xF 0x80000)).add 1 := by
    rw [← hu, ctrAt_event_other _ _ _ _ (by decide), ctrAt_count_same, ctrAt_modTgt, ctrAt_congr (ctr_of_part (hmove .ctr (by decide)))]
  have huframe : AgreeBut [.ctr, .fur, .rcd, .tgt, .sch] s u := fun p hp => by
    rw [← hu, event_part p (by simp at hp; simp [hp]), count_part p (by simp at hp; simp [hp]), modTgt_part p (by simp at hp; simp [hp]),
      hmove p (by simp at hp; simp [hp])]
  have hend : tbSetTo s ns op = if s.tgt.valid then u else gatesOnValid u := by
    unfold tbSetTo
    dsimp only
    rw [hu]
  rw [hend]
  split
  · exact ⟨⟨_, hutgt⟩, huctr, huframe⟩
  · obtain ⟨g, hg⟩ := gatesOnValid_tgt u
    refine ⟨⟨g, by rw [hg, hutgt]⟩, ?_, huframe.trans fun p hp => gatesOnValid_part p (by simp at hp; simp [hp]) _⟩
    rw [ctrAt_congr (ctr_of_part (gatesOnValid_part .ctr (by decide) _)), huctr]

end Sys2Proof.Machine
end

section
/-! The statement about the time base's commands, edges and references (R397 to R401, Table 14.1). -/

namespace Sys2Proof.Machine

/-- A command of the window, seen from the timekeeper's session: it joins those that wait. -/
theorem tbWrite_queued {s : State} {slot : Fin 4} {op : Nat} (hs : served s = true) (hk : isTk s slot.val = true)
    (hv : availAddr s (Reg.addr .tgtTbCmd []) = true) (h1 : 1 ≤ op) (h4 : op ≤ 4) :
    tbWrite s slot.val op = { modTgt s (fun t => { t with
      cmds := t.cmds ++ [{ op := op, ofs := tbOfs s, set := tbSet s, at' := if s.fur.armed then none else some (s.now + 2000) }] }) with
      acc := (stOk, 0) } := by
  have hop : fld (mkF 31 29 op) 31 29 = op := by
    rw [fld_mkF_same _ _ _ (by decide)]
    exact Nat.mod_eq_of_lt (by omega)
  rw [tbWrite_eq op hs hk hv, hop, tbCmd_queued h1 h4]

/-- The two fields of TGT_TB_CTRL that a write sets. -/
theorem tbCtrl_fields (w v : Word) :
    setFld (setFld w 27 26 (fld v 27 26)) 25 16 (fld v 25 16) = (w &&& ~~~(0x0FFF0000 : Word)) ||| (v &&& 0x0FFF0000) := by
  have hmask : ∀ i : Fin 32, (0x0FFF0000 : Word).getLsbD i.val = (decide (16 ≤ i.val) && decide (i.val < 28)) := by decide
  refine BitVec.eq_of_getLsbD_eq fun i hi => ?_
  rw [getLsbD_setFld, getLsbD_setFld, BitVec.getLsbD_or, BitVec.getLsbD_and, BitVec.getLsbD_and, BitVec.getLsbD_not, hmask ⟨i, hi⟩,
    testBit_fld, testBit_fld]
  by_cases hlow : 16 ≤ i
  · by_cases hmid : i < 26
    · simp [hlow, hmid, hi, show i < 28 by omega, show i - 16 < 10 by omega, show i - 16 + 16 = i by omega]
    · by_cases htop : i < 28
      · simp [hlow, hmid, htop, hi, show 26 ≤ i by omega, show i - 26 < 2 by omega, show i - 26 + 26 = i by omega]
      · simp [hmid, htop, hi]
  · simp [hlow, hi, show ¬ 26 ≤ i by omega]

/-- A write of TGT_TB_CTRL sets its fields and starts, keeps or ends the lock of the reference (R397). -/
theorem tbCtrlWrite_eq (s : State) (v : Word) : ∃ u, tbCtrlWrite s v = u ∧
    regRaw u .tgtTbCtrl [] = (regRaw s .tgtTbCtrl [] &&& ~~~(0x0FFF0000 : Word)) ||| (v &&& 0x0FFF0000) ∧
    u.tgt = { s.tgt with
      refOk := (if fld v 27 26 = 1 ∧ tbSrc s = 1 then s.tgt.refOk else false)
      refSince := (if fld v 27 26 = 1 then (if tbSrc s = 1 then s.tgt.refSince else some s.now) else none) } ∧
    AgreeBut [.regs, .tgt] s u := by
  obtain ⟨s1, hs1⟩ : ∃ s1, setRF (setRF s .tgtTbCtrl [] 27 26 (fld v 27 26)) .tgtTbCtrl [] 25 16 (fld v 25 16) = s1 := ⟨_, rfl⟩
  have hreg : regRaw s1 .tgtTbCtrl [] = (regRaw s .tgtTbCtrl [] &&& ~~~(0x0FFF0000 : Word)) ||| (v &&& 0x0FFF0000) := by
    rw [← hs1, ← tbCtrl_fields, setRF, regRaw_setReg_same, setRF, regRaw_setReg_same]
  have hlt : fld v 27 26 < 4 := fld_lt v 27 26
  have hsrc : rf s1 .tgtTbCtrl [] 27 26 = fld v 27 26 := by
    rw [← hs1, rf, setRF, regRaw_setReg_same, fld_setFld_other _ _ _ _ _ _ (by omega), setRF, regRaw_setReg_same,
      fld_setFld_same _ _ _ _ (by decide)]
    exact Nat.mod_eq_of_lt hlt
  have htgt : s1.tgt = s.tgt := by
    rw [← hs1]
    rfl
  have hpart : AgreeBut [.regs, .tgt] s s1 := fun p hp => by
    rw [← hs1, setRF_part p (by simp at hp; simp [hp]), setRF_part p (by simp at hp; simp [hp])]
  have hmod : ∀ f : TgtSt → TgtSt, AgreeBut [.regs, .tgt] s (modTgt s1 f) := fun f =>
    hpart.trans fun p hp => modTgt_part p (by simp at hp; simp [hp]) _ _
  unfold tbCtrlWrite
  dsimp only
  rw [hs1, tbSrc, hsrc]
  by_cases h1 : fld v 27 26 = 1
  · rw [if_pos h1, if_pos rfl]
    by_cases h2 : tbSrc s = 1
    · rw [if_pos h2]
      exact ⟨s1, rfl, hreg, by simp [h1, h2, htgt], hpart⟩
    · rw [if_neg h2]
      exact ⟨_, rfl, hreg, by simp [h1, h2, modTgt, htgt], hmod _⟩
  · rw [if_neg h1, if_neg (by decide)]
    exact ⟨_, rfl, hreg, by simp [h1, modTgt, htgt], hmod _⟩

/-- TB_CMD_APPLY with one due command and no response held ends in what the command does. -/
theorem tbCmdApply_one {s u : State} {c : TbCmd} (hon : onIsland s = true) (hheld : s.chain.heldResp = none) (hc : s.tgt.cmds = [c])
    (hdue : cmdDue s.now c = true) (hu : tbDo (modTgt s (fun t => { t with cmds := [] })) c = u) (hchain : u.chain = s.chain) :
    exec .tbCmdApply s = .next u := by
  refine congrArg Host.Outcome.next ((if_pos hon).trans ?_)
  rw [tbApply_one hc hdue, hu]
  exact respRelease_none (by rw [hchain, hheld])

/-- STEP within the present period (Table 14.1). -/
theorem tbStep_within {s : State} {ofs : Int} (hv : s.tgt.valid = true) (h0 : 0 ≤ (s.tgt.tb : Int) + ofs * ofsUnit)
    (h1 : (s.tgt.tb : Int) + ofs * ofsUnit < ((2 ^ 64 * tbUnit : Nat) : Int)) :
    tbStep s ofs = event (count (tbMove s ((s.tgt.tb : Int) + ofs * ofsUnit).toNat) 0xF 0x80000) 0x3C01 0 (stepData ofs) := by
  unfold tbStep
  rw [if_neg (by simp [hv])]
  exact if_neg (by omega)

/-- A capture of the time base by an edge is within 2 ns (R401). -/
theorem ppsRead_near (s : State) : (ppsRead s).1 ≤ s.tgt.tb + 2 * tbUnit ∧ s.tgt.tb ≤ (ppsRead s).1 + 2 * tbUnit := by
  have hlt : (draw s).1 % (4 * tbUnit + 1) < 4 * tbUnit + 1 := Nat.mod_lt _ (Nat.succ_pos _)
  have hval : (ppsRead s).1 = s.tgt.tb + (draw s).1 % (4 * tbUnit + 1) - 2 * tbUnit := rfl
  rw [hval]
  omega

/-- Settles O46: the timekeeper's commands wait for T and then act on the time base; edges of 1PPS and the frequency reference follow
R397 and R401. -/
theorem timeCommands : Obligations.TimeCommands := by
  unfold Obligations.TimeCommands
  refine ⟨fun slot s hs hk hv => ?none, fun slot s hs hk hv => ?_, fun slot s hs hk hv => ?_, fun slot s hs hk hv => ?_, fun slot s hs hk hv => ?_,
    fun slot s hs hk hv => ?atPps, fun c s hon hheld hc hdue hop hval h0 h1 hb => ?step, fun c s hon hheld hc hdue hop hval hbad => ?reject,
    fun c s hon hheld hc hdue hop => ?slew, fun c s hon hheld hc hdue hop => ?cancel, fun c s hon hheld hc hdue hop hb => ?set,
    fun s hon hwait => ?edge, fun ns t0 s hon hwait hb => ?setEdge, fun ns t0 t1 s hwait hdue hat hat1 => ?timeout, fun s hend => ?slewEnd,
    fun slot val s hs hk hv => ?src, fun s hon hsrc => ?loss, fun t0 s hon hsrc hok hsince hdue => ?lock⟩
  case none =>
    have hend : tbWrite s slot.val 0 = { s with acc := (stOk, 0) } := tbWrite_eq 0 hs hk hv
    exact ⟨_, congrArg Host.Outcome.next hend, rfl, AgreeBut.acc (by simp) _ fun _ _ => rfl⟩
  iterate 4
    exact ⟨_, congrArg Host.Outcome.next (tbWrite_queued hs hk hv (by decide) (by decide)), rfl, rfl,
      AgreeBut.acc (by simp) _ fun p hp => modTgt_part p (by simp at hp; simp [hp]) _ _⟩
  case atPps =>
    have hend : tbWrite s slot.val 5 = { modTgt s (fun t => { t with ppsWait := some (tbSet s, s.now) }) with acc := (stOk, 0) } :=
      tbWrite_eq 5 hs hk hv
    exact ⟨_, congrArg Host.Outcome.next hend, rfl, rfl, AgreeBut.acc (by simp) _ fun p hp => modTgt_part p (by simp at hp; simp [hp]) _ _⟩
  case step =>
    obtain ⟨s1, hs1⟩ : ∃ s1, modTgt s (fun t => { t with cmds := [] }) = s1 := ⟨_, rfl⟩
    have htgt1 : s1.tgt = { s.tgt with cmds := [] } := by
      rw [← hs1]
      rfl
    have htb : s1.tgt.tb = s.tgt.tb := by
      rw [htgt1]
    have hpart1 : AgreeBut [.tgt] s s1 := fun p hp => by
      rw [← hs1, modTgt_part p (by simp at hp; simp [hp])]
    have hdo : tbDo s1 c = event (count (tbMove s1 ((s.tgt.tb : Int) + c.ofs * ofsUnit).toNat) 0xF 0x80000) 0x3C01 0 (stepData c.ofs) := by
      unfold tbDo
      rw [hop, ← htb]
      exact tbStep_within (by rw [htgt1]; exact hval) (by rw [htb]; exact h0) (by rw [htb]; exact h1)
    obtain ⟨hmoved, hframe⟩ := tbMove_within (s := s1) (t := ((s.tgt.tb : Int) + c.ofs * ofsUnit).toNat)
      (by rw [fur_of_part (hpart1 .fur (by decide))]; exact hb)
    generalize tbMove s1 ((s.tgt.tb : Int) + c.ofs * ofsUnit).toNat = s2 at hdo hmoved hframe
    obtain ⟨u, hu⟩ : ∃ u, event (count s2 0xF 0x80000) 0x3C01 0 (stepData c.ofs) = u := ⟨_, rfl⟩
    have hutgt : u.tgt = { s.tgt with cmds := [], tb := ((s.tgt.tb : Int) + c.ofs * ofsUnit).toNat } := by
      rw [← hu, event_tgt, count_tgt, hmoved, htgt1]
    have hall : AgreeBut [.ctr, .fur, .rcd, .tgt, .sch] s u := fun p hp => by
      rw [← hu, event_part p (by simp at hp; simp [hp]), count_part p (by simp at hp; simp [hp]), hframe p (by simp at hp; simp [hp]),
        hpart1 p (by simp at hp; simp [hp])]
    refine ⟨u, tbCmdApply_one hon hheld hc hdue (by rw [hs1, hdo, hu]) (chain_of_part (hall .chain (by decide))), ?_, ?_, ?_, ?_, ?_, hall⟩
    · rw [hutgt]
    · rw [hutgt]
    · rw [hutgt]
      exact hval
    · rw [hutgt]
    · rw [← hu, ctrAt_event_other _ _ _ _ (by decide), ctrAt_count_same, ctrAt_congr (ctr_of_part (hframe .ctr (by decide))),
        ctrAt_congr (ctr_of_part (hpart1 .ctr (by decide)))]
  case reject =>
    have hdo : tbDo (modTgt s (fun t => { t with cmds := [] })) c = setRB (modTgt s (fun t => { t with cmds := [] })) .tgtStatus [] 29 true := by
      unfold tbDo
      rw [hop]
      exact (if_neg (by simp [modTgt, hval])).trans (if_pos hbad)
    refine ⟨_, tbCmdApply_one hon hheld hc hdue hdo rfl, rfl, rfl, rb_setRB_same _ _ _ _ _ (by decide), fun p hp => ?_⟩
    rw [setRB_part p (by simp at hp; simp [hp]), modTgt_part p (by simp at hp; simp [hp])]
  case slew =>
    have hdo : tbDo (modTgt s (fun t => { t with cmds := [] })) c = (if s.tgt.valid then
        modTgt s (fun t => { t with cmds := [], slew := t.slew + c.ofs * ofsUnit, slewEnd := false }) else modTgt s (fun t => { t with cmds := [] })) := by
      unfold tbDo
      rw [hop]
      rfl
    by_cases hval : s.tgt.valid = true
    · rw [if_pos hval] at hdo
      exact ⟨_, tbCmdApply_one hon hheld hc hdue hdo rfl, rfl, (if_pos hval).symm, rfl, fun p hp => modTgt_part p (by simp at hp; simp [hp]) _ _⟩
    · rw [if_neg hval] at hdo
      exact ⟨_, tbCmdApply_one hon hheld hc hdue hdo rfl, rfl, (if_neg hval).symm, rfl, fun p hp => modTgt_part p (by simp at hp; simp [hp]) _ _⟩
  case cancel =>
    have hdo : tbDo (modTgt s (fun t => { t with cmds := [] })) c = modTgt s (fun t => { t with cmds := [], slew := 0, slewEnd := false }) := by
      unfold tbDo
      rw [hop]
      rfl
    exact ⟨_, tbCmdApply_one hon hheld hc hdue hdo rfl, rfl, rfl, rfl, fun p hp => modTgt_part p (by simp at hp; simp [hp]) _ _⟩
  case set =>
    obtain ⟨s1, hs1⟩ : ∃ s1, modTgt s (fun t => { t with cmds := [] }) = s1 := ⟨_, rfl⟩
    have htgt1 : s1.tgt = { s.tgt with cmds := [] } := by
      rw [← hs1]
      rfl
    have hpart1 : AgreeBut [.tgt] s s1 := fun p hp => by
      rw [← hs1, modTgt_part p (by simp at hp; simp [hp])]
    have hdo : tbDo s1 c = tbSetTo s1 c.set 4 := by
      unfold tbDo
      rw [hop]
      rfl
    obtain ⟨⟨g, htgt⟩, hctr, hframe⟩ := tbSetTo_within (s := s1) (ns := c.set) 4 (by rw [fur_of_part (hpart1 .fur (by decide))]; exact hb)
    generalize tbSetTo s1 c.set 4 = u at hdo htgt hctr hframe
    rw [htgt1] at htgt
    have hall : AgreeBut [.ctr, .fur, .rcd, .tgt, .sch] s u := (hpart1.mono (by simp)).trans hframe
    refine ⟨u, tbCmdApply_one hon hheld hc hdue (by rw [hs1, hdo]) (chain_of_part (hall .chain (by decide))), ?_, ?_, ?_, ?_, ?_, hall⟩
    · rw [htgt]
    · rw [htgt]
    · rw [htgt]
    · rw [htgt]
    · rw [hctr, ctrAt_congr (ctr_of_part (hpart1 .ctr (by decide)))]
  case edge =>
    obtain ⟨hhigh, hlow⟩ := ppsRead_near s
    have hend : ppsEdge s = setRB (modTgt (ppsRead s).2 (fun t => { t with ppsCap := (ppsRead s).1, ppsOk := true, ppsAt := some s.now }))
        .tgtPpsCapFrac [] 31 true := by
      unfold ppsEdge
      simp only [hwait]
    have htgt : (ppsRead s).2.tgt = s.tgt := tgt_of_part (ppsRead_part .tgt (by decide) s)
    refine ⟨_, congrArg Host.Outcome.next ((if_pos hon).trans hend), ?_, hhigh, hlow, rb_setRB_same _ _ _ _ _ (by decide), fun p hp => ?_⟩
    · exact congrArg (fun t : TgtSt => { t with ppsCap := (ppsRead s).1, ppsOk := true, ppsAt := some s.now }) htgt
    · rw [setRB_part p (by simp at hp; simp [hp]), modTgt_part p (by simp at hp; simp [hp]), ppsRead_part p (by simp at hp; simp [hp])]
  case setEdge =>
    obtain ⟨s1, hs1⟩ : ∃ s1, modTgt s (fun t => { t with ppsWait := none }) = s1 := ⟨_, rfl⟩
    have htgt1 : s1.tgt = { s.tgt with ppsWait := none } := by
      rw [← hs1]
      rfl
    have hpart1 : AgreeBut [.tgt] s s1 := fun p hp => by
      rw [← hs1, modTgt_part p (by simp at hp; simp [hp])]
    have hend : ppsEdge s = setRB (modTgt (ppsRead (tbSetTo s1 ns 5)).2 (fun t => { t with ppsCap := ns * tbUnit, ppsOk := true, ppsAt := some s.now }))
        .tgtPpsCapFrac [] 31 true := by
      unfold ppsEdge
      simp only [hwait, hs1]
    obtain ⟨⟨g, htgt⟩, -, hframe⟩ := tbSetTo_within (s := s1) (ns := ns) 5 (by rw [fur_of_part (hpart1 .fur (by decide))]; exact hb)
    generalize tbSetTo s1 ns 5 = s2 at hend htgt hframe
    rw [htgt1] at htgt
    have htgt2 : (ppsRead s2).2.tgt = _ := (tgt_of_part (ppsRead_part .tgt (by decide) s2)).trans htgt
    have hfinal := congrArg (fun t : TgtSt => { t with ppsCap := ns * tbUnit, ppsOk := true, ppsAt := some s.now }) htgt2
    have hall : AgreeBut [.free, .regs, .ctr, .fur, .rcd, .tgt, .sch] s (ppsRead s2).2 := by
      refine (hpart1.mono (by simp)).trans ((hframe.mono (by simp)).trans fun p hp => ?_)
      rw [ppsRead_part p (by simp at hp; simp [hp])]
    generalize (ppsRead s2).2 = s3 at hend hfinal hall
    refine ⟨_, congrArg Host.Outcome.next ((if_pos hon).trans hend), congrArg TgtSt.tb hfinal, congrArg TgtSt.valid hfinal, congrArg TgtSt.ppsCap hfinal,
      congrArg TgtSt.ppsOk hfinal, congrArg TgtSt.ppsWait hfinal, rb_setRB_same _ _ _ _ _ (by decide), hall.trans fun p hp => ?_⟩
    rw [setRB_part p (by simp at hp; simp [hp]), modTgt_part p (by simp at hp; simp [hp])]
  case timeout =>
    have hend : exec .ppsTimeout s = .next (bump (modTgt (modTgt s (fun t => { t with ppsOk := false })) (fun t => { t with ppsWait := none }))
        (cOff 0x0F 0x80008)) := by
      refine congrArg Host.Outcome.next ?_
      simp only [hat, hwait, if_pos hdue, if_pos hat1]
    refine ⟨_, hend, rfl, ctrAt_bump_same _ _, fun p hp => ?_⟩
    rw [bump_part p (by simp at hp; simp [hp]), modTgt_part p (by simp at hp; simp [hp]), modTgt_part p (by simp at hp; simp [hp])]
  case slewEnd =>
    refine ⟨_, congrArg Host.Outcome.next (if_pos hend), ?_, fun p hp => ?_⟩
    · rw [event_tgt]
      rfl
    · rw [event_part p (by simp at hp; simp [hp]), modTgt_part p (by simp at hp; simp [hp])]
  case src =>
    obtain ⟨u, hu, hreg, htgt, hframe⟩ := tbCtrlWrite_eq s val
    have hend := tkWrite_register (r := .tgtTbCtrl) (v := val) (t := u) hs hk hv (by rw [← hu]; rfl) (by simp [Reg.info, idxFit]) rfl
      (by decide) (by decide) (by decide)
    exact ⟨_, congrArg Host.Outcome.next hend, rfl, hreg, htgt, AgreeBut.acc (by simp) _ (hframe.mono (by simp))⟩
  case loss =>
    by_cases hok : s.tgt.refOk = true
    · have hend : refLoss s = event (modTgt s (fun t => { t with refOk := false, refSince := some s.now })) 0x3C04 0 (rf s .tgtTbCtrl [] 27 26) :=
        (if_pos hsrc).trans (if_pos hok)
      refine ⟨_, congrArg Host.Outcome.next ((if_pos hon).trans hend), ?_, fun p hp => ?_⟩
      · rw [event_tgt]
        rfl
      · rw [event_part p (by simp at hp; simp [hp]), modTgt_part p (by simp at hp; simp [hp])]
    · have hend : refLoss s = modTgt s (fun t => { t with refSince := some s.now }) := (if_pos hsrc).trans (if_neg hok)
      refine ⟨_, congrArg Host.Outcome.next ((if_pos hon).trans hend), ?_, fun p hp => modTgt_part p (by simp at hp; simp [hp]) _ _⟩
      rw [modTgt, ← Bool.not_eq_true _ |>.mp hok]
  case lock =>
    obtain ⟨u, hu⟩ : ∃ u, event (modTgt s (fun t => { t with refOk := true, refSince := none })) 0x3C05 0 (rf s .tgtTbCtrl [] 27 26) = u := ⟨_, rfl⟩
    have hend : refLock s = if holds u 2 5 0 then faultFall u 2 5 0 else u := by
      unfold refLock
      simp only [hsince]
      rw [if_pos ⟨hsrc, by simp [hok], hdue⟩, hu]
    have htgt : u.tgt = { s.tgt with refOk := true, refSince := none } := by
      rw [← hu, event_tgt]
      rfl
    have hframe : AgreeBut [.ctr, .rcd, .tgt] s u := fun p hp => by
      rw [← hu, event_part p (by simp at hp; simp [hp]), modTgt_part p (by simp at hp; simp [hp])]
    refine ⟨_, congrArg Host.Outcome.next ((if_pos hon).trans hend), ?_, ?_⟩
    · split
      · rw [tgt_of_part (faultFall_part .tgt (by decide) _ _ _ _), htgt]
      · exact htgt
    · split
      · exact (hframe.mono (by simp)).trans fun p hp => faultFall_part p (by simp at hp; simp [hp]) _ _ _ _
      · exact hframe.mono (by simp)

end Sys2Proof.Machine
end

section
/-! The statement about gate lists and their settings (R405 to R409). -/

namespace Sys2Proof.Machine

theorem gateOf_setGate_same (s : State) (p : Nat) (g : GateSt) : gateOf (setGate s p g) p = g := SMap.get_set_same _ _ _ _

/-- MAXOPEN of a list, for every gate. -/
def maxOpens (sl : List (Nat × Nat)) : SMap Nat :=
  (List.range 8).foldl (fun m k => m.set 0xFFFFFFFF k (maxOpenOf sl k)) SMap.empty

/-- MAXOPEN of gate 7, the last computed. -/
theorem maxOpens_seven (sl : List (Nat × Nat)) : (maxOpens sl).get 0xFFFFFFFF 7 = maxOpenOf sl 7 := by
  have hlast : maxOpens sl = ((List.range 7).foldl (fun m k => m.set 0xFFFFFFFF k (maxOpenOf sl k)) SMap.empty).set 0xFFFFFFFF 7 (maxOpenOf sl 7) := rfl
  rw [hlast, SMap.get_set_same]

/-- A switch pending at S takes over (R407). -/
theorem gateTake_pending {s : State} {p sw : Nat} {d : Nat × Nat × Nat × Nat} (h : (gateOf s p).pend = some (sw, d)) :
    gateTake s p = event (bump (setGate s p { gateOf s p with
      oper := some d, pend := none, lastS := sw, entry := (slotAt (slotsOf s p d) (phaseAt d sw) 0).1, maxOpen := maxOpens (slotsOf s p d) })
      (cOff 0x0F (p * 0x20))) 0x3C06 p d.1 := by
  unfold gateTake
  simp only [h]
  rfl

/-- A write of a word of a list entry (R408). -/
theorem ownWrite_gcl {s : State} {slot : Fin 4} {p : Fin 128} {mem : Bool} {e : Fin 1024} {w1 : Bool} (v : Word)
    (h : ownerMay s slot (if w1 then .tgtGclW1 else .tgtGclW0) [p.val, mem.toNat, e.val] = true) :
    ownWrite s slot.val (if w1 then .tgtGclW1 else .tgtGclW0) [p.val, mem.toNat, e.val] v =
      { gclWrite s p.val mem.toNat e.val w1 v with acc := (stOk, 0) } := by
  have hmem : mem.toNat < 2 := Bool.toNat_lt mem
  cases w1 with
  | false => exact ownWrite_of_writeReg h rfl (by simp [Reg.info, idxFit, hmem]) rfl (by decide) (by decide)
  | true => exact ownWrite_of_writeReg h rfl (by simp [Reg.info, idxFit, hmem]) rfl (by decide) (by decide)

/-- A write of a list's settings (R409). -/
theorem ownWrite_gateCfg {s : State} {slot : Fin 4} {p : Fin 128} {regB : Bool} (v : Word)
    (h : ownerMay s slot (if regB then .tgtGcfgB else .tgtGcfgA) [p.val] = true) :
    ownWrite s slot.val (if regB then .tgtGcfgB else .tgtGcfgA) [p.val] v = { gateCfgWrite s p.val regB v with acc := (stOk, 0) } := by
  cases regB with
  | false => exact ownWrite_of_writeReg h rfl (by simp [Reg.info, idxFit]) rfl (by decide) (by decide)
  | true => exact ownWrite_of_writeReg h rfl (by simp [Reg.info, idxFit]) rfl (by decide) (by decide)

/-- The settings that a write may stage. -/
theorem gateCfgWrite_staged {s : State} {p : Nat} {regB : Bool} {v : Word} (hok : gateCfgBad regB v = false) (hdir : s.fur.direct = false) :
    gateCfgWrite s p regB v = { s with fur := { s.fur with
      opn := s.fur.opn.put (Reg.addr (if regB then .tgtGcfgB else .tgtGcfgA) [p]) (some (v &&& (if regB then 0xFFFFFFFF else 0xF0FF07FF))) } } := by
  unfold gateCfgWrite
  rw [if_neg (by simp [hok]), stageOrNow, if_neg (by simp [hdir])]
  cases regB with
  | false => rfl
  | true => rfl

/-- Settles O47: a switch takes over at S, the entry follows the gate time, and a word or a setting is written or refused. -/
theorem gateCommands : Obligations.GateCommands := by
  unfold Obligations.GateCommands
  refine ⟨fun p sw d s hon hpend hdue => ?switch, fun p s hon => ?entry, fun slot p mem e w1 val s hmay huse => ?write,
    fun slot p mem e w1 val s hmay huse => ?inUse, fun slot p regB val s hmay hbad => ?badCfg, fun slot p regB val s hmay hok hdir => ?cfg⟩
  case switch =>
    have hend := gateTake_pending hpend
    have hgo : (blkOn s 0xF && decide (sw ≤ tbNs s)) = true := by simp [hon, hdue]
    obtain ⟨u, hu⟩ : ∃ u, setGate s p.val { gateOf s p.val with
      oper := some d, pend := none, lastS := sw, entry := (slotAt (slotsOf s p.val d) (phaseAt d sw) 0).1
      maxOpen := maxOpens (slotsOf s p.val d) } = u := ⟨_, rfl⟩
    have hgate : gateOf (event (bump u (cOff 0x0F (p.val * 0x20))) 0x3C06 p.val d.1) p.val = { gateOf s p.val with
        oper := some d, pend := none, lastS := sw, entry := (slotAt (slotsOf s p.val d) (phaseAt d sw) 0).1
        maxOpen := maxOpens (slotsOf s p.val d) } := by
      rw [gateOf, event_tgt, ← hu]
      exact gateOf_setGate_same _ _ _
    have hctr : u.ctr = s.ctr := by
      rw [← hu]
      rfl
    have hrun : exec (.gateSwitch p) s = .next (gateTake s p.val) := by
      refine congrArg Host.Outcome.next ?_
      simp only [hpend, if_pos hgo]
    rw [hu] at hend
    refine ⟨_, hrun.trans (congrArg Host.Outcome.next hend), ?_, ?_, ?_, ?_, ?_, fun q hq => ?_⟩
    · rw [hgate]
    · rw [hgate]
    · rw [hgate]
    · rw [hgate]
      exact maxOpens_seven _
    · rw [ctrAt_event_other _ _ _ _ (by simp only [cOff]; omega), ctrAt_bump_same, ctrAt_congr hctr]
    · rw [event_part q (by simp at hq; simp [hq]), bump_part q (by simp at hq; simp [hq]), ← hu, setGate_part q (by simp at hq; simp [hq])]
  case entry =>
    exact ⟨_, congrArg Host.Outcome.next (if_pos hon), gateOf_setGate_same _ _ _, fun q hq => setGate_part q (by simpa using hq) _ _ _⟩
  case write =>
    have hend := (ownWrite_gcl val hmay).trans (congrArg (fun t : State => { t with acc := (stOk, 0) }) (if_neg (by simp [huse])))
    exact ⟨_, congrArg Host.Outcome.next hend, rfl, SMap.get_upd_same _ _ _ _, rfl,
      AgreeBut.acc (by simp) _ fun q hq => modTgt_part q (by simp at hq; simp [hq]) _ _⟩
  case inUse =>
    have hend := (ownWrite_gcl val hmay).trans (congrArg (fun t : State => { t with acc := (stOk, 0) }) (if_pos huse))
    exact ⟨_, congrArg Host.Outcome.next hend, rfl, rb_setRB_same _ _ _ _ _ (by decide),
      AgreeBut.acc (by simp) _ fun q hq => setRB_part q (by simp at hq; simp [hq]) _ _ _ _ _⟩
  case badCfg =>
    have hend := (ownWrite_gateCfg val hmay).trans (congrArg (fun t : State => { t with acc := (stOk, 0) }) (if_pos hbad))
    exact ⟨_, congrArg Host.Outcome.next hend, rfl, rb_setRB_same _ _ _ _ _ (by decide),
      AgreeBut.acc (by simp) _ fun q hq => setRB_part q (by simp at hq; simp [hq]) _ _ _ _ _⟩
  case cfg =>
    have hend := (ownWrite_gateCfg val hmay).trans (congrArg (fun t : State => { t with acc := (stOk, 0) }) (gateCfgWrite_staged hok hdir))
    exact ⟨_, congrArg Host.Outcome.next hend, rfl, rfl, AgreeBut.acc (by simp) _ fun q hq => part_fur q (by simp at hq; simp [hq]) _ _⟩

end Sys2Proof.Machine
end

section
/-! The statement about the event recorder's reports and flushes (R466 to R481). -/

namespace Sys2Proof.Machine

/-- One occurrence of event 0x4402 is folded, no token for its report is left, and the owner may write REC_CMD. -/
def flushToldState : State := { ownedState with
  rcd := { codes := SMap.empty.put 0x4402 (some { pend := 1 }), dfltB := {} } }

theorem fillQueue_codes (l : List Report) (s : State) : (fillQueue l s).rcd.codes = s.rcd.codes := by
  induction l generalizing s with
  | nil => rfl
  | cons r l ih =>
    unfold fillQueue
    split
    · rw [ih]
      split <;> rfl
    · rfl

/-- An event changes what is kept of its own code alone. -/
theorem codes_event_other (s : State) (inst d : Nat) {code c : Nat} (h : c ≠ code) :
    (event s code inst d).rcd.codes.get {} c = s.rcd.codes.get {} c := by
  unfold event occur
  split
  · have hcodes : (acceptOcc s code 0 inst (lo32 d) 0).rcd.codes = s.rcd.codes.set {} code {} := by
      unfold acceptOcc
      dsimp only
      split <;> rfl
    rw [hcodes, SMap.get_set_other _ _ _ _ _ _ h]
  · exact SMap.get_upd_other _ _ _ _ _ _ h

/-- A flush clears the one code that has occurrences folded, if it is not that of the flush's own event (R469). -/
theorem doFlush_clears {s : State} {c : Nat} {x : CodeSt} (hc : s.rcd.codes.entries = [(c, x)]) (hx : 0 < x.pend) (hother : c ≠ 0x4402) :
    (doFlush s).rcd.codes.get {} c = {} := by
  have hzero : (x.pend == 0) = false := beq_false_of_ne (by omega)
  have hfilter : s.rcd.codes.filter (fun _ y => y.pend == 0) = SMap.empty := by
    simp [SMap.filter, SMap.empty, hc, hzero]
  obtain ⟨s1, hs1⟩ : ∃ s1, modRec s (fun r => { r with
      codes := r.codes.filter (fun _ y => y.pend == 0)
      flushWait := r.flushWait ++ (s.rcd.codes.entries.filter (fun e => decide (0 < e.2.pend))).map (fun e => flushReport s e.1 e.2)
      flushing := some (r.flushing.getD 0 + ((s.rcd.codes.entries.filter (fun e => decide (0 < e.2.pend))).map
        (fun e => flushReport s e.1 e.2)).length) }) = s1 := ⟨_, rfl⟩
  have hcodes : s1.rcd.codes.get {} c = {} := by
    rw [← hs1]
    exact congrArg (fun m : SMap CodeSt => m.get {} c) hfilter
  have hend : doFlush s = saveLife (stepFlush s1) := by
    rw [← hs1]
    rfl
  have hstep : (stepFlush s1).rcd.codes.get {} c = s1.rcd.codes.get {} c := by
    unfold stepFlush
    split
    · rfl
    · dsimp only
      split
      · rw [codes_event_other _ _ _ hother]
        exact congrArg (fun m : SMap CodeSt => m.get {} c) (fillQueue_codes _ s1)
      · rw [fillQueue_codes]
  rw [hend]
  exact hstep.trans hcodes

/-- Refutes O53: a flush ends with event 0x4402 (R469). Where the code flushed is 0x4402 itself and its bucket holds no token, that
occurrence is folded at once, so PEND of the code is 1 again and not 0. What fails is the clause's range, every code, and not R469:
doFlush_clears proves it for every other code. -/
theorem not_recorderReports : ¬ Obligations.RecorderReports := by
  unfold Obligations.RecorderReports
  rintro ⟨-, -, -, -, -, -, hflush, -⟩
  obtain ⟨t, hexec, -, -, hcodes, -⟩ := hflush 0 0x4402 { pend := 1 } flushToldState (by decide +kernel) (by decide +kernel) (by decide)
    rfl rfl (by decide +kernel)
  have ht : ownWrite flushToldState 0 .recCmd [] (mkB 31 true) = t := Host.Outcome.next.inj hexec
  have hone : (t.rcd.codes.get {} 0x4402).pend = 1 := by
    rw [← ht]
    decide +kernel
  have hzero : (t.rcd.codes.get {} 0x4402).pend = 0 := congrArg CodeSt.pend hcodes
  omega

end Sys2Proof.Machine
end

section
/-! SUPPORT. What an occurrence and a fault leave of the recorder, and the parts of a record's write (R466 to R481). -/

namespace Sys2Proof.Machine

/-- An occurrence changes, of the recorder, its code, its bucket and the report queue. -/
theorem occur_rcd (s : State) (code cls inst : Nat) (d4 d5 : Word) :
    ∃ c b q, (occur s code cls inst d4 d5).rcd = { s.rcd with codes := c, buckets := b, queue := q } := by
  unfold occur
  split
  · unfold acceptOcc
    dsimp only
    split
    · exact ⟨_, _, _, rfl⟩
    · exact ⟨_, _, _, rfl⟩
  · exact ⟨_, _, _, rfl⟩

theorem event_rcd (s : State) (code inst d : Nat) :
    ∃ c b q, (event s code inst d).rcd = { s.rcd with codes := c, buckets := b, queue := q } := occur_rcd _ _ _ _ _ _

/-- An occurrence counts reports, folded occurrences and losses alone (Table 17.8). -/
theorem ctrAt_occur_kept (s : State) (code cls inst : Nat) (d4 d5 : Word) {o : Nat} (h0 : o ≠ 0) (h1 : o ≠ 0x10) (h2 : o ≠ 0x18) :
    ctrAt (occur s code cls inst d4 d5) (cOff 0x11 o) = ctrAt s (cOff 0x11 o) := by
  have hoff : ∀ a, o ≠ a → cOff 0x11 o ≠ cOff 0x11 a := fun a ha => by
    simp only [cOff]
    omega
  unfold occur
  split
  · unfold acceptOcc
    dsimp only
    split
    · rw [ctrAt_count_other _ _ _ (hoff _ h2), ctrAt_bumpN_other _ _ _ _ (hoff _ h1), ctrAt_count_other _ _ _ (hoff _ h0)]
      rfl
    · rw [ctrAt_bumpN_other _ _ _ _ (hoff _ h1), ctrAt_count_other _ _ _ (hoff _ h0)]
      rfl
  · rfl

theorem latch_live (r : FltRegs) (now cls src inst : Nat) : (r.latch now cls src inst).live = r.live := by
  unfold FltRegs.latch
  split
  · rfl
  · split <;> rfl

theorem rise_live (r : FltRegs) (m : Bool) (now cls src inst : Nat) : (r.rise m now cls src inst).live = setBit r.live src true := by
  cases m
  · exact latch_live _ _ _ _ _
  · rfl

/-- Source 0 of the recorder's faults, a failed write of flash (Table 16.6). -/
def flashWrFault : FltInfo := { cls := 2, kindS := false, code := 0x11 * 0x400 + 0x3E0 }

theorem fltInfo_flashWr : fltInfo 0x11 0 = some flashWrFault := by decide

/-- The fault of a failed write of flash: its bits rise, and it changes no more of the recorder than an occurrence does. -/
theorem flashFault_live (s : State) :
    tbit (fltOf (faultRise0 s 0x11 0 0) 0x11).live 0 = true ∧ tbit (fltOf (faultRise0 s 0x11 0 0) 0x11).sticky 0 = true := by
  rw [faultRise0, fltOf_faultRise_same _ _ _ fltInfo_flashWr, rise_live, rise_sticky]
  exact ⟨tbit_setBit_same _ _ _ (by decide), tbit_setBit_same _ _ _ (by decide)⟩

theorem flashFault_state (s : State) : ∃ u, u.rcd = s.rcd ∧ u.ctr = s.ctr ∧ (faultRise0 s 0x11 0 0 = u ∨
    faultRise0 s 0x11 0 0 = occur u flashWrFault.code flashWrFault.cls 0 (lo32 0) 0) := by
  refine ⟨{ setFlt s 0x11 ((fltOf s 0x11).rise (tbit (fltMask s 0x11) 0) s.now flashWrFault.cls 0 0) with
    flt := { (setFlt s 0x11 ((fltOf s 0x11).rise (tbit (fltMask s 0x11) 0) s.now flashWrFault.cls 0 0)).flt with
      occUntil := s.flt.occUntil.set 0 (0x11 * 32 + 0) (s.now + 1000000) } }, rfl, rfl, ?_⟩
  have hcls : ¬ flashWrFault.cls = 3 := by decide
  have hkind : flashWrFault.kindS = false := rfl
  unfold faultRise0 faultRise
  simp only [fltInfo_flashWr, hkind, Bool.false_eq_true, if_false, if_neg hcls]
  by_cases hm : tbit (fltMask s 0x11) 0 = true
  · exact .inl (by rw [if_pos hm]; rfl)
  · exact .inr (by rw [if_neg hm]; rfl)

theorem flashFault_rcd (s : State) :
    ∃ c b q, (faultRise0 s 0x11 0 0).rcd = { s.rcd with codes := c, buckets := b, queue := q } := by
  obtain ⟨u, hrcd, -, h | h⟩ := flashFault_state s
  · exact ⟨_, _, _, by rw [h, hrcd]⟩
  · rw [h, ← hrcd]
    exact occur_rcd _ _ _ _ _ _

theorem ctrAt_flashFault (s : State) {o : Nat} (h0 : o ≠ 0) (h1 : o ≠ 0x10) (h2 : o ≠ 0x18) :
    ctrAt (faultRise0 s 0x11 0 0) (cOff 0x11 o) = ctrAt s (cOff 0x11 o) := by
  obtain ⟨u, -, hctr, h | h⟩ := flashFault_state s
  · rw [h, ctrAt_congr hctr]
  · rw [h, ctrAt_occur_kept _ _ _ _ _ _ h0 h1 h2, ctrAt_congr hctr]

/-! ## A record's write -/

/-- The oldest record is taken, and its ring's writer moves on. -/
def recordTaken (s : State) (r : FlashRec) (rest : List FlashRec) (a : Nat) : State :=
  modRec (enterBlock (modRec s (fun x => { x with flashq := rest })) r.life a) (nextSlot r.life)

/-- Within an erase block a record's write erases nothing. -/
theorem recordTaken_within {s : State} {r : FlashRec} {rest : List FlashRec} {a : Nat} (h : a % 0x40000 ≠ 0) :
    recordTaken s r rest a = modRec s (fun x => nextSlot r.life { x with flashq := rest }) := by
  rw [recordTaken, enterBlock, if_neg h]
  rfl

theorem writeRecord_good {s : State} {r : FlashRec} {rest : List FlashRec} (h : s.rcd.flashq = r :: rest) : writeRecord s true =
    count (flashProgW (recordTaken s r rest (if r.life then lifeAddr s.rcd.lifeHead else logAddr s.rcd.head))
      (if r.life then lifeAddr s.rcd.lifeHead else logAddr s.rcd.head) r.words) 0x11 0x20 := by
  unfold writeRecord
  simp only [h, if_true, Bool.false_eq_true, if_false]
  rfl

theorem writeRecord_bad {s : State} {r : FlashRec} {rest : List FlashRec} (h : s.rcd.flashq = r :: rest) : writeRecord s false =
    faultRise0 (count (recordTaken s r rest (if r.life then lifeAddr s.rcd.lifeHead else logAddr s.rcd.head)) 0x11 0x28) 0x11 0 0 := by
  unfold writeRecord
  simp only [h, if_true, Bool.false_eq_true, if_false]
  rfl

end Sys2Proof.Machine
end

section
/-! The statement about records, counters and snapshots (R477 to R487). -/

namespace Sys2Proof.Machine

theorem snapSet_modSet_same (s : State) (n : Nat) (f : SnapSet → SnapSet) : snapSet (modSet s n f) n = f (snapSet s n) :=
  SMap.get_upd_same _ _ _ _

/-- A record that is taken leaves flash and its ring's writer as nextSlot says, whether its block was erased or not. -/
theorem recordTaken_rcd (s : State) (r : FlashRec) (rest : List FlashRec) (a : Nat) :
    ∃ c b q, (recordTaken s r rest a).rcd = nextSlot r.life { s.rcd with flashq := rest, codes := c, buckets := b, queue := q } := by
  have hend : (recordTaken s r rest a).rcd = nextSlot r.life (enterBlock (modRec s (fun x => { x with flashq := rest })) r.life a).rcd := rfl
  have henter : ∃ c b q, (enterBlock (modRec s (fun x => { x with flashq := rest })) r.life a).rcd =
      { s.rcd with flashq := rest, codes := c, buckets := b, queue := q } := by
    unfold enterBlock
    split
    · dsimp only
      split
      · exact ⟨_, _, _, rfl⟩
      · exact event_rcd _ _ _ _
    · exact ⟨_, _, _, rfl⟩
  obtain ⟨c, b, q, h⟩ := henter
  exact ⟨c, b, q, by rw [hend, h]⟩

/-- It counts an erase where it enters an erase block, and no record. -/
theorem ctrAt_recordTaken (s : State) (r : FlashRec) (rest : List FlashRec) (a : Nat) {o : Nat} (h0 : o ≠ 0) (h1 : o ≠ 0x10) (h2 : o ≠ 0x18)
    (h3 : o ≠ 0x30) : ctrAt (recordTaken s r rest a) (cOff 0x11 o) = ctrAt s (cOff 0x11 o) := by
  have herase : cOff 0x11 o ≠ cOff 0x11 0x30 := by
    simp only [cOff]
    omega
  have hend : ∀ u f, ctrAt (modRec u f) (cOff 0x11 o) = ctrAt u (cOff 0x11 o) := fun _ _ => rfl
  rw [recordTaken, hend, enterBlock]
  split
  · dsimp only
    split
    · rw [ctrAt_count_other _ _ _ herase]
      rfl
    · rw [event, ctrAt_occur_kept _ _ _ _ _ _ h0 h1 h2, ctrAt_count_other _ _ _ herase]
      rfl
  · exact hend _ _

theorem ctrAt_recordTaken_erase {s : State} {r : FlashRec} {rest : List FlashRec} {a : Nat} (hlog : r.life = false) (h : a % 0x40000 = 0) :
    ctrAt (recordTaken s r rest a) (cOff 0x11 0x30) = (ctrAt s (cOff 0x11 0x30)).add 1 := by
  have hend : ∀ u f, ctrAt (modRec u f) (cOff 0x11 0x30) = ctrAt u (cOff 0x11 0x30) := fun _ _ => rfl
  have hflash : ∀ u lo hi, ctrAt (flashErase u lo hi) (cOff 0x11 0x30) = ctrAt u (cOff 0x11 0x30) := fun _ _ _ => rfl
  rw [recordTaken, hend, enterBlock, if_pos h]
  simp only [hlog, Bool.false_eq_true, if_false]
  rw [event, ctrAt_occur_kept _ _ _ _ _ _ (by decide) (by decide) (by decide), ctrAt_count_same, hflash, hend]

theorem recordTaken_part (p : Part) (h : p ≠ .ctr ∧ p ≠ .flash ∧ p ≠ .rcd) (s : State) (r : FlashRec) (rest : List FlashRec) (a : Nat) :
    (recordTaken s r rest a).part p = s.part p := by
  rw [recordTaken, modRec_part p h.2.2, enterBlock_part p h, modRec_part p h.2.2]

/-- A write of a record, whatever its ring: the record leaves its queue, the writer moves on, and one record is counted (R480, R481). -/
theorem writeRecord_written {s t : State} {r : FlashRec} {rest : List FlashRec} (h : s.rcd.flashq = r :: rest)
    (ht : writeRecord s true = t) :
    (∃ c b q, t.rcd = nextSlot r.life { s.rcd with flashq := rest, codes := c, buckets := b, queue := q }) ∧
      ctrAt t (cOff 0x11 0x20) = (ctrAt s (cOff 0x11 0x20)).add 1 ∧ AgreeBut [.ctr, .flash, .rcd] s t := by
  have hend := writeRecord_good h
  generalize (if r.life then lifeAddr s.rcd.lifeHead else logAddr s.rcd.head) = a at hend
  have hrcd := recordTaken_rcd s r rest a
  have hctr := ctrAt_recordTaken s r rest a (o := 0x20) (by decide) (by decide) (by decide) (by decide)
  have hpart : AgreeBut [.ctr, .flash, .rcd] s (recordTaken s r rest a) := fun p hp =>
    recordTaken_part p (by simp at hp; simp [hp]) _ _ _ _
  generalize recordTaken s r rest a = u at hend hrcd hctr hpart
  rw [← ht, hend]
  refine ⟨?_, ?_, hpart.trans fun p hp => ?_⟩
  · rw [count_rcd, rcd_of_part (flashProgW_part .rcd (by decide) _ _ _)]
    exact hrcd
  · rw [ctrAt_count_same, ctrAt_congr (ctr_of_part (flashProgW_part .ctr (by decide) _ _ _)), hctr]
  · rw [count_part p (by simp at hp; simp [hp]), flashProgW_part p (by simp at hp; simp [hp])]

/-- The copy of a capture goes to the bank that was not the last (R487). -/
theorem copyBank_end {s : State} {n : Nat} {k : Bank} {nb : Bool} (hn : n < 8) (hk : (snapSet s n).copying = some k)
    (hnb : ((snapSet s n).any && !(snapSet s n).bank) = nb) :
    snapSet (copyBank s n) n = { snapSet s n with
      copying := none, any := true, bank := nb, bank0 := if nb then (snapSet s n).bank0 else k, bank1 := if nb then k else (snapSet s n).bank1 } ∧
      ctrAt (copyBank s n) (cOff 0x12 (n * 8)) = (ctrAt s (cOff 0x12 (n * 8))).add 1 ∧ AgreeBut [.ctr, .rcd, .pmc] s (copyBank s n) := by
  obtain ⟨u, hu⟩ : ∃ u, modSet s n (fun y =>
      { y with copying := none, any := true, bank := nb, bank0 := if nb then y.bank0 else k, bank1 := if nb then k else y.bank1 }) = u := ⟨_, rfl⟩
  have hset : snapSet u n = { snapSet s n with
      copying := none, any := true, bank := nb, bank0 := if nb then (snapSet s n).bank0 else k, bank1 := if nb then k else (snapSet s n).bank1 } := by
    rw [← hu]
    exact snapSet_modSet_same _ _ _
  have hctr : u.ctr = s.ctr := by
    rw [← hu]
    rfl
  have hframe : AgreeBut [.ctr, .rcd, .pmc] s u := fun p hp => by
    rw [← hu, modSet_part p (by simp at hp; simp [hp])]
  have hend : copyBank s n = count u 0x12 (n * 8) ∨ ∃ d, copyBank s n = event (count u 0x12 (n * 8)) 0x4802 n d := by
    unfold copyBank
    simp only [hk, hnb, hu]
    split
    · exact .inr ⟨_, rfl⟩
    · exact .inl rfl
  have hcount : ctrAt (count u 0x12 (n * 8)) (cOff 0x12 (n * 8)) = (ctrAt s (cOff 0x12 (n * 8))).add 1 := by
    rw [ctrAt_count_same, ctrAt_congr hctr]
  obtain h | ⟨d, h⟩ := hend
  · rw [h]
    refine ⟨hset, hcount, hframe.trans fun p hp => ?_⟩
    rw [count_part p (by simp at hp; simp [hp])]
  · rw [h]
    refine ⟨?_, ?_, hframe.trans fun p hp => ?_⟩
    · rw [snapSet, event_pmc]
      exact hset
    · rw [ctrAt_event_other _ _ _ _ (by simp only [cOff]; omega), hcount]
    · rw [event_part p (by simp at hp; simp [hp]), count_part p (by simp at hp; simp [hp])]

/-- An answer to an access changes no counter. -/
theorem ctrAt_answered (s : State) (x : Nat × Word) (k : Nat) : ctrAt { s with acc := x } k = ctrAt s k := rfl

/-- Settles O54: records reach their ring or are skipped, the owner's writes set counters whole, and a set's captures alternate between
its banks. -/
theorem recordsCountersSnapshots : Obligations.RecordsCountersSnapshots := by
  unfold Obligations.RecordsCountersSnapshots
  refine ⟨fun slot s hmay => ?save, fun r rest w s hon hfw hq hlog hhead hblk hw => ?log, fun r rest s hon hfw hq hlog hhead hblk => ?erase,
    fun r rest s hon hfw hq hlife hhead hblk => ?life, fun r rest s hon hfw hq hlog hblk => ?bad, fun slot val s hmay => ?index,
    fun i s hon hread => ?slot, fun i s hon hread hi => ?beyond, fun slot addr val k s hs ho h4 hreg hv hk => ?low,
    fun slot addr val k s hs ho h4 hreg hv hk => ?high, fun slot addr val k hi s hs h4 hreg ho hk => ?denied, fun slot n s hmay => ?go,
    fun n k x s hon hx hk hbank => ?bank0, fun n k x s hon hx hk hbank => ?bank1, fun slot n e val s hmay hen hok => ?entry,
    fun slot n e val s hmay hbad => ?refused⟩
  case save =>
    have hend : ownWrite s slot.val .recCmd [] (mkB 30 true) = { saveLife s with acc := (stOk, 0) } :=
      ownWrite_of_writeReg hmay rfl (by simp [Reg.info, idxFit]) rfl (by decide) (by decide)
    exact ⟨_, congrArg Host.Outcome.next hend, rfl, rfl, AgreeBut.acc (by simp) _ fun p hp => saveLife_part p (by simp at hp; simp [hp]) _⟩
  case log =>
    have hgo : (onIsland s && fwRuns s) = true := by simp [hon, hfw]
    obtain ⟨⟨c, b, q, hrcd⟩, hctr, hframe⟩ := writeRecord_written hq rfl
    rw [hlog] at hrcd
    exact ⟨_, congrArg Host.Outcome.next (if_pos hgo), (congrArg RecSt.flashq hrcd).trans rfl, (congrArg RecSt.head hrcd).trans rfl,
      (congrArg RecSt.lifeHead hrcd).trans rfl, hctr, hframe⟩
  case erase =>
    have hgo : (onIsland s && fwRuns s) = true := by simp [hon, hfw]
    obtain ⟨⟨c, b, q, hrcd⟩, hctr, hframe⟩ := writeRecord_written hq rfl
    rw [hlog] at hrcd
    refine ⟨_, congrArg Host.Outcome.next (if_pos hgo), (congrArg RecSt.flashq hrcd).trans rfl, (congrArg RecSt.head hrcd).trans rfl,
      hctr, ?_, hframe⟩
    have hend := writeRecord_good hq
    simp only [hlog, Bool.false_eq_true, if_false] at hend
    rw [hend, ctrAt_count_other _ _ _ (by decide), ctrAt_congr (ctr_of_part (flashProgW_part .ctr (by decide) _ _ _)),
      ctrAt_recordTaken_erase hlog hblk]
  case life =>
    have hgo : (onIsland s && fwRuns s) = true := by simp [hon, hfw]
    obtain ⟨⟨c, b, q, hrcd⟩, hctr, hframe⟩ := writeRecord_written hq rfl
    rw [hlife] at hrcd
    exact ⟨_, congrArg Host.Outcome.next (if_pos hgo), (congrArg RecSt.flashq hrcd).trans rfl, (congrArg RecSt.lifeHead hrcd).trans rfl,
      (congrArg RecSt.head hrcd).trans rfl, hctr, hframe⟩
  case bad =>
    have hgo : (onIsland s && fwRuns s) = true := by simp [hon, hfw]
    have hend := writeRecord_bad hq
    simp only [hlog, Bool.false_eq_true, if_false] at hend
    rw [recordTaken_within hblk, hlog] at hend
    obtain ⟨u, hu⟩ : ∃ u, count (modRec s (fun x => nextSlot false { x with flashq := rest })) 0x11 0x28 = u := ⟨_, rfl⟩
    have hframe : AgreeBut [.ctr, .rcd] s u := fun p hp => by
      rw [← hu, count_part p (by simp at hp; simp [hp]), modRec_part p (by simp at hp; simp [hp])]
    have hrcdu : u.rcd = nextSlot false { s.rcd with flashq := rest } := by
      rw [← hu]
      rfl
    have hctru : ctrAt u (cOff 0x11 0x28) = (ctrAt s (cOff 0x11 0x28)).add 1 := by
      rw [← hu, ctrAt_count_same]
      rfl
    rw [hu] at hend
    obtain ⟨hlive, hsticky⟩ := flashFault_live u
    obtain ⟨c, b, q, hrcd⟩ := flashFault_rcd u
    rw [hrcdu] at hrcd
    have hall : AgreeBut [.ctr, .flt, .rcd] s (faultRise0 u 0x11 0 0) := (hframe.mono (by simp)).trans fun p hp =>
      faultRise0_part p (by simp at hp; simp [hp]) _ _ _ _
    refine ⟨_, congrArg Host.Outcome.next ((if_pos hgo).trans hend), (congrArg RecSt.flashq hrcd).trans rfl,
      (congrArg RecSt.head hrcd).trans rfl, flash_of_part (hall .flash (by decide)), hlive, hsticky, ?_, hall⟩
    rw [ctrAt_flashFault _ (by decide) (by decide) (by decide), hctru]
  case index =>
    have hend : ownWrite s slot.val .recRdIdx [] val = { recRdIdx s val with acc := (stOk, 0) } :=
      ownWrite_of_writeReg hmay rfl (by simp [Reg.info, idxFit]) rfl (by decide) (by decide)
    refine ⟨_, congrArg Host.Outcome.next hend, rfl, rfl, ?_, AgreeBut.acc (by simp) _ fun p hp => ?_⟩
    · refine (rf_setRF_same s .recRdIdx [] 20 0 (fld val 20 0) (by decide)).trans ?_
      exact Nat.mod_eq_of_lt (fld_lt val 20 0)
    · rw [recRdIdx, modRec_part p (by simp at hp; simp [hp]), setRF_part p (by simp at hp; simp [hp])]
  case slot =>
    have hend : recSlotDone s = modRec s (fun r => { r with
        reading := none, rdReady := true, rdValid := recValid ((List.range 16).map (fun k => flashWord s (logAddr i.val + 4 * k)))
        rdWords := (List.range 16).map (fun k => flashWord s (logAddr i.val + 4 * k)) }) := by
      unfold recSlotDone
      simp only [hread, i.isLt, decide_true, Bool.true_and, if_true]
    exact ⟨_, congrArg Host.Outcome.next ((if_pos hon).trans hend), rfl, rfl, rfl, rfl, fun p hp => modRec_part p (by simp at hp; simp [hp]) _ _⟩
  case beyond =>
    have hend : recSlotDone s = modRec s (fun r => { r with
        reading := none, rdReady := true, rdValid := false
        rdWords := (List.range 16).map (fun k => BitVec.ofNat 32 (Config.measured 1 (i * 16 + k))) }) := by
      have hlt : ¬ i < 2080768 := by omega
      unfold recSlotDone
      simp only [hread, hlt, decide_false, Bool.false_and, if_false]
    exact ⟨_, congrArg Host.Outcome.next ((if_pos hon).trans hend), rfl, rfl, rfl, fun p hp => modRec_part p (by simp at hp; simp [hp]) _ _⟩
  case low =>
    have hend : sessWrite s slot.val .owner addr.toNat val = { ctrWriteLow s k val with acc := (stOk, 0) } := sessWrite_counter val hs h4 hreg hk ho hv
    refine ⟨_, congrArg Host.Outcome.next hend, rfl, ?_, ?_, AgreeBut.acc (by simp) _ fun p hp => ctrWriteLow_part p (by simp at hp; simp [hp]) _ _ _⟩
    · rw [ctrAt_answered, ctrAt_ctrWriteLow_same, BitVec.toNat_ofNat]
      exact Nat.mod_eq_of_lt (by have := val.isLt; omega)
    · rw [ctrAt_answered, ctrAt_ctrWriteLow_same]
  case high =>
    have hend : sessWrite s slot.val .owner addr.toNat val = { ctrWriteHigh s k val with acc := (stOk, 0) } := sessWrite_counter val hs h4 hreg hk ho hv
    have hfld : fld val 15 0 < 2 ^ 16 := fld_lt val 15 0
    refine ⟨_, congrArg Host.Outcome.next hend, rfl, ?_, ?_, AgreeBut.acc (by simp) _ fun p hp => ctrWriteHigh_part p (by simp at hp; simp [hp]) _ _ _⟩
    · rw [ctrAt_answered, ctrAt_ctrWriteHigh_same, BitVec.toNat_ofNat, Nat.mod_eq_of_lt (by omega)]
    · rw [ctrAt_answered, ctrAt_ctrWriteHigh_same]
  case denied =>
    have hd : definedAt s addr.toNat = true := by simp [definedAt, h4, hreg, hk]
    have hend := sessWrite_denied (role := .owner) val hs hd (.inl ho)
    exact ⟨_, congrArg Host.Outcome.next hend, rfl, AgreeBut.acc (by simp) _ fun p hp => count_part p (by simp at hp; simp [hp]) _ _ _⟩
  case go =>
    have hend : ownWrite s slot.val .pmcSetCmd [n.val] (mkB 31 true) = { captureGo s n.val with acc := (stOk, 0) } :=
      ownWrite_of_writeReg hmay rfl (by simp [Reg.info, idxFit]) rfl (by decide) (by decide)
    exact ⟨_, congrArg Host.Outcome.next hend, rfl, snapSet_modSet_same _ _ _,
      AgreeBut.acc (by simp) _ fun p hp => modSet_part p (by simp at hp; simp [hp]) _ _ _⟩
  case bank0 =>
    subst hx
    have hnb : ((snapSet s n.val).any && !(snapSet s n.val).bank) = false := by
      obtain h | h := hbank
      · simp [h]
      · simp [h]
    obtain ⟨hset, hctr, hframe⟩ := copyBank_end n.isLt hk hnb
    refine ⟨_, congrArg Host.Outcome.next (if_pos hon), ?_, ?_, ?_, ?_, ?_, hctr, hframe⟩
    all_goals simp [hset]
  case bank1 =>
    subst hx
    have hnb : ((snapSet s n.val).any && !(snapSet s n.val).bank) = true := by simp [hbank.1, hbank.2]
    obtain ⟨hset, hctr, hframe⟩ := copyBank_end n.isLt hk hnb
    refine ⟨_, congrArg Host.Outcome.next (if_pos hon), ?_, ?_, ?_, ?_, ?_, hctr, hframe⟩
    all_goals simp [hset]
  case entry =>
    have hend : ownWrite s slot.val .pmcEntry [n.val, e.val] val = { entryWrite s n.val e.val val with acc := (stOk, 0) } :=
      ownWrite_of_writeReg hmay rfl (by simp [Reg.info, idxFit]) rfl (by decide) (by decide)
    have hwrite : entryWrite s n.val e.val val = setReg s .pmcEntry [n.val, e.val] (val &&& 0xDFFFFFFC) := if_neg (by simp [hen, hok])
    rw [hwrite] at hend
    exact ⟨_, congrArg Host.Outcome.next hend, rfl, regRaw_setReg_same _ _ _ _,
      AgreeBut.acc (by simp) _ fun p hp => setReg_part p (by simp at hp; simp [hp]) _ _ _ _⟩
  case refused =>
    have hend : ownWrite s slot.val .pmcEntry [n.val, e.val] val = { entryWrite s n.val e.val val with acc := (stOk, 0) } :=
      ownWrite_of_writeReg hmay rfl (by simp [Reg.info, idxFit]) rfl (by decide) (by decide)
    have hwrite : entryWrite s n.val e.val val = setRB s .pmcStatus [] 31 true := by
      refine if_pos ?_
      obtain h | h := hbad
      · simp [h]
      · simp [h]
    have haddr : Reg.addr .pmcEntry [n.val, e.val] ≠ Reg.addr .pmcStatus [] := fun h =>
      absurd (show 0x12010000 + joinDims [(8, 0x1000), (1024, 0x4)] [n.val, e.val] = 0x12000108 from h) (by omega)
    rw [hwrite] at hend
    exact ⟨_, congrArg Host.Outcome.next hend, rfl, rb_setRB_same _ _ _ _ _ (by decide), regRaw_setReg_other _ _ _ _ _ _ haddr,
      AgreeBut.acc (by simp) _ fun p hp => setRB_part p (by simp at hp; simp [hp]) _ _ _ _ _⟩

end Sys2Proof.Machine
end

section
/-! What the update frames, the relay and the sessions' timers do (Tables 18.2 to 18.4, R497 to R503). -/

namespace Sys2Proof.Machine

/-! ## Frames that leave -/

@[simp] theorem launch_upd (s : State) (ring : Nat) (f : ChainFrame) : (launch s ring f).upd = s.upd :=
  upd_of_part (launch_part .upd (by decide) s ring f)

@[simp] theorem launch_flash (s : State) (ring : Nat) (f : ChainFrame) : (launch s ring f).flash = s.flash :=
  flash_of_part (launch_part .flash (by decide) s ring f)

@[simp] theorem answer_upd (s : State) (port : Nat) (f : ChainFrame) (c r : Nat) : (answer s port f c r).upd = s.upd := launch_upd ..

@[simp] theorem answer_flash (s : State) (port : Nat) (f : ChainFrame) (c r : Nat) : (answer s port f c r).flash = s.flash :=
  launch_flash ..

@[simp] theorem updEvent_upd (s : State) (c d : Nat) : (updEvent s c d).upd = s.upd := event_upd ..

@[simp] theorem updEvent_flash (s : State) (c d : Nat) : (updEvent s c d).flash = s.flash := event_flash ..

/-- An answer moves no counter of the update engine. -/
theorem ctrAt_answer_upd (s : State) (port : Nat) (f : ChainFrame) (c r : Nat) {o : Nat} (h : o < 0x1000000) :
    ctrAt (answer s port f c r) (cOff 0x13 o) = ctrAt s (cOff 0x13 o) :=
  ctrAt_launch_other _ _ _ (by simp only [cOff]; omega)

theorem ctrAt_updEvent_upd (s : State) (c d : Nat) {o : Nat} (h : o < 0x1000000) :
    ctrAt (updEvent s c d) (cOff 0x13 o) = ctrAt s (cOff 0x13 o) :=
  ctrAt_event_other _ _ _ _ (by simp only [cOff]; omega)

theorem ctrAt_modUpd (s : State) (g : UpdSt → UpdSt) (k : Nat) : ctrAt (modUpd s g) k = ctrAt s k := rfl

theorem ctrAt_modImg (s : State) (g : ImgSt → ImgSt) (k : Nat) : ctrAt (modImg s g) k = ctrAt s k := rfl

theorem ctrAt_slotErase (s : State) (b a k : Nat) : ctrAt (slotErase s b a) k = ctrAt s k := rfl

theorem ctrAt_flashProg (s : State) (a : Nat) (l : List Byte) (k : Nat) : ctrAt (flashProg s a l) k = ctrAt s k :=
  ctrAt_congr (ctr_of_part (flashProg_part .ctr (by decide) s a l)) k

@[simp] theorem flashProg_upd (s : State) (a : Nat) (l : List Byte) : (flashProg s a l).upd = s.upd :=
  upd_of_part (flashProg_part .upd (by decide) s a l)

@[simp] theorem chunkAck_upd (s : State) : (chunkAck s).upd = { s.upd with unacked := 0 } := launch_upd ..

theorem ctrAt_chunkAck_upd (s : State) {o : Nat} (h : o < 0x1000000) : ctrAt (chunkAck s) (cOff 0x13 o) = ctrAt s (cOff 0x13 o) :=
  ctrAt_launch_other _ _ _ (by simp only [cOff]; omega)

/-! ## The flash -/

theorem smLookup_filter {α : Type} (q : Nat → Bool) (k : Nat) (l : List (Nat × α)) :
    smLookup (l.filter (fun e => q e.1)) k = if q k then smLookup l k else none := by
  induction l with
  | nil => simp [smLookup]
  | cons e l ih =>
    by_cases hk : e.1 = k
    · by_cases hq : q k = true
      · simp [smLookup, hk, hq]
      · simp [hk, hq, ih]
    · by_cases hq : q e.1 = true
      · simp [smLookup, hk, hq, ih]
      · simp [smLookup, hk, hq, ih]

/-- Dropping keys from a map leaves what it gives for the others. -/
theorem SMap.get_filter {α : Type} (m : SMap α) (d : α) (q : Nat → Bool) (k : Nat) :
    (m.filter (fun j _ => q j)).get d k = if q k then m.get d k else d := by
  rw [SMap.get, SMap.find, SMap.filter, smLookup_filter q k]
  split
  · rfl
  · rfl

/-- The bytes of an erased slot read 0xFF, and every other byte stays. -/
theorem flashByte_slotErase (s : State) (base area a : Nat) :
    flashByte (slotErase s base area) a = if base ≤ a ∧ a < base + area + 0x40000 then 0xFF else flashByte s a := by
  show (s.flash.filter (fun k _ => decide (k < base) || decide (base + area + 0x40000 ≤ k))).get 0xFF a = _
  rw [SMap.get_filter]
  by_cases h : base ≤ a ∧ a < base + area + 0x40000
  · simp [h.1, h.2]
  · have hout : a < base ∨ base + area + 0x40000 ≤ a := by omega
    simp [h, hout, flashByte]

theorem flashByte_of_flash {s t : State} (h : t.flash = s.flash) (a : Nat) : flashByte t a = flashByte s a := by
  rw [flashByte, h, flashByte]

/-! ## Delivery of an update frame (R498) -/

/-- An update frame of one OP, good and for this device alone. -/
structure UpdFor (s : State) (f : ChainFrame) (op : Nat) : Prop where
  on : onChain s = true
  addressed : nodeId s ≠ 0
  type : fType f = 0xB
  op : fOp f = op
  ok : frameOk f = true
  dst : fDst f = nodeId s
  single : fDst f ≠ 63

theorem UpdFor.delivered {s : State} {f : ChainFrame} {op : Nat} (h : UpdFor s f op) (port : Nat) :
    updRx op port f s = updFrame s port f := by
  simp [updRx, h.on, h.type, h.op, h.ok, h.dst]

/-- A frame whose LEN is none of its OP counts as malformed (R498). -/
theorem UpdFor.malformed {s : State} {f : ChainFrame} {op : Nat} (h : UpdFor s f op) (hlen : updLenOk f = false) (port : Nat) :
    updRx op port f s = count s 0x13 0x28 := by
  rw [h.delivered]
  simp [updFrame, h.addressed, hlen]

section
/-! A frame with a good LEN is taken by its OP (Table 18.3). -/

variable {s : State} {f : ChainFrame} (port : Nat) (hlen : updLenOk f = true)
include hlen

theorem UpdFor.offer (h : UpdFor s f 0) : updRx 0 port f s = updOffer s port f := by
  rw [h.delivered]
  simp [updFrame, h.addressed, hlen, h.single, h.op]

theorem UpdFor.answer (h : UpdFor s f 1) : updRx 1 port f s = relayAnswer s f := by
  rw [h.delivered]
  simp [updFrame, h.addressed, hlen, h.single, h.op]

theorem UpdFor.chunk (h : UpdFor s f 2) : updRx 2 port f s = inSession s port f (fun t => updChunk (heardFrom t port f) f) := by
  rw [h.delivered]
  simp [updFrame, h.addressed, hlen, h.single, h.op]

theorem UpdFor.ack (h : UpdFor s f 3) : updRx 3 port f s = relayAck s f := by
  rw [h.delivered]
  simp [updFrame, h.addressed, hlen, h.single, h.op]

theorem UpdFor.endFrame (h : UpdFor s f 4) : updRx 4 port f s = inSession s port f (fun t => updEndFrame (heardFrom t port f)) := by
  rw [h.delivered]
  simp [updFrame, h.addressed, hlen, h.single, h.op]

theorem UpdFor.result (h : UpdFor s f 5) : updRx 5 port f s = relayResult s f := by
  rw [h.delivered]
  simp [updFrame, h.addressed, hlen, h.single, h.op]

theorem UpdFor.abort (h : UpdFor s f 6) : updRx 6 port f s = inSession s port f updAbort := by
  rw [h.delivered]
  simp [updFrame, h.addressed, hlen, h.single, h.op]

end

theorem inSession_go {s : State} {port : Nat} {f : ChainFrame} (go : State → State) (hst : s.upd.st ≠ .idle)
    (hid : fSession f = s.upd.id) (hauth : updAuth s f (s.upd.relayed && fSrc f == s.upd.src) = true) :
    inSession s port f go = go s := by
  rw [inSession, if_neg hst, if_neg (not_not_intro hid), if_pos hauth]

theorem inSession_other {s : State} {port : Nat} {f : ChainFrame} (go : State → State) (hst : s.upd.st ≠ .idle)
    (hid : fSession f ≠ s.upd.id) : inSession s port f go = answer s port f 1 0 := by
  rw [inSession, if_neg hst, if_pos hid]

/-- A frame of another session is answered, and changes nothing of this one (R498). -/
theorem answered_alone (s : State) (port : Nat) (f : ChainFrame) (c r : Nat) :
    (answer s port f c r).upd = s.upd ∧ (answer s port f c r).flash = s.flash ∧ AgreeBut [.ctr, .chain] s (answer s port f c r) :=
  ⟨answer_upd .., answer_flash .., fun p hp => answer_part p (by simp at hp; simp [hp]) _ _ _ _ _⟩

/-! ## Offers (R500) -/

theorem updOffer_unauthorised {s : State} {port : Nat} {f : ChainFrame}
    (h : updAuth s f (tbit (fWord f 0) 8 && fld (fWord f 0) 5 4 == s.node.owner.slot) = false) :
    updOffer s port f = offerRefuse (count s 0x13 0x00) port f 0x28 := by
  simp only [updOffer, h, Bool.not_false, if_true]

theorem updOffer_idle {s : State} {port : Nat} {f : ChainFrame}
    (h : updAuth s f (tbit (fWord f 0) 8 && fld (fWord f 0) 5 4 == s.node.owner.slot) = true) (hst : s.upd.st = .idle) :
    updOffer s port f = offerTake (count s 0x13 0x00) port f := by
  simp only [updOffer, h, hst, Bool.not_true, Bool.false_eq_true, if_false, if_true]

theorem updOffer_busy {s : State} {port : Nat} {f : ChainFrame}
    (h : updAuth s f (tbit (fWord f 0) 8 && fld (fWord f 0) 5 4 == s.node.owner.slot) = true) (hst : s.upd.st ≠ .idle)
    (hwin : offerWins s port = false) : updOffer s port f = answer (count (count s 0x13 0x00) 0x13 0x08) port f 1 0 := by
  simp only [updOffer, h, hst, hwin, Bool.not_true, Bool.false_eq_true, if_false]

/-- A refused offer leaves its reason, counts and is answered. -/
theorem offerRefuse_does (s : State) (port : Nat) (f : ChainFrame) (r : Nat) :
    (offerRefuse s port f r).upd = { s.upd with reason := r } ∧
    ctrAt (offerRefuse s port f r) (cOff 0x13 0x10) = (ctrAt s (cOff 0x13 0x10)).add 1 ∧
    ctrAt (offerRefuse s port f r) (cOff 0x13 0) = ctrAt s (cOff 0x13 0) ∧
    AgreeBut [.ctr, .chain, .upd] s (offerRefuse s port f r) := by
  refine ⟨?_, ?_, ?_, fun p hp => ?_⟩
  · rw [offerRefuse, answer_upd, count_upd, modUpd_upd]
  · rw [offerRefuse, ctrAt_answer_upd _ _ _ _ _ (by decide), ctrAt_count_same, ctrAt_modUpd]
  · rw [offerRefuse, ctrAt_answer_upd _ _ _ _ _ (by decide), ctrAt_count_other _ _ _ (by decide), ctrAt_modUpd]
  · simp at hp; simp [offerRefuse, hp]

/-- A target that the spec names is one of the four Tuns or the firmware slot. -/
theorem target_named {t : Nat} (h : t < 4 ∨ t = 8) : ¬ (4 ≤ t ∧ t ≠ 8) := by omega

theorem offerReason_locked {s : State} {f : ChainFrame} (ht : fld (fWord f 0) 3 0 < 4 ∨ fld (fWord f 0) 3 0 = 8)
    (h : targetLocked s (fld (fWord f 0) 3 0) = true) : offerReason s f = (0x21, s) := by
  simp only [offerReason, if_neg (target_named ht), h, if_true]

theorem offerReason_length {s : State} {f : ChainFrame} (ht : fld (fWord f 0) 3 0 < 4 ∨ fld (fWord f 0) 3 0 = 8)
    (h : targetLocked s (fld (fWord f 0) 3 0) = false)
    (hlen : tgtArea (fld (fWord f 0) 3 0) < (fWord f 1).toNat ∨ (fWord f 1).toNat < 353) : offerReason s f = (0x22, s) := by
  simp only [offerReason, if_neg (target_named ht), h, Bool.false_eq_true, if_false, if_pos hlen]

theorem offerReason_none {s : State} {f : ChainFrame} (ht : fld (fWord f 0) 3 0 < 4 ∨ fld (fWord f 0) 3 0 = 8)
    (h : targetLocked s (fld (fWord f 0) 3 0) = false) (hmin : 353 ≤ (fWord f 1).toNat)
    (hmax : (fWord f 1).toNat ≤ tgtArea (fld (fWord f 0) 3 0)) : offerReason s f = (0, s) := by
  have hfits : ¬ (tgtArea (fld (fWord f 0) 3 0) < (fWord f 1).toNat ∨ (fWord f 1).toNat < 353) := by omega
  simp only [offerReason, if_neg (target_named ht), h, Bool.false_eq_true, if_false, if_neg hfits]

/-- The locks go by nothing that a counter moves. -/
theorem targetLocked_count (s : State) (b o t : Nat) : targetLocked (count s b o) t = targetLocked s t := rfl

theorem offerTake_refused {s u : State} {port : Nat} {f : ChainFrame} {r : Nat} (h : offerReason s f = (r, u)) (hr : r ≠ 0) :
    offerTake s port f = offerRefuse u port f r := by
  simp only [offerTake, h, hr, if_false]

/-- The erased slot of an accepted offer, with its Tun or firmware no longer valid. -/
def offerErased (s : State) (f : ChainFrame) : State :=
  if fld (fWord f 0) 3 0 = 8 then
    modUpd (slotErase s (fwBase (fwTarget s)) fwArea) (fun u => { u with fwValid := u.fwValid.set false (fwTarget s) false })
  else modImg (slotErase s (tunBase (fld (fWord f 0) 3 0)) tunArea) (fun i => { i with tun := i.tun.set {} (fld (fWord f 0) 3 0) {} })

/-- The session that an accepted offer opens. -/
def offeredSession (s : State) (port : Nat) (f : ChainFrame) (u : UpdSt) : UpdSt :=
  { u with
    st := .receiving, id := fSession f, target := fld (fWord f 0) 3 0, fwSlot := fwTarget s, origin := fld (fWord f 0) 5 4
    relayed := tbit (fWord f 0) 8
    src := fSrc f, ansTo := fSrc f, port := port, next := 0, total := (fWord f 1).toNat
    digest := (List.range 12).foldl (fun a i => a * 2 ^ 32 + (fWord f (2 + i)).toNat) 0
    idleAt := s.now + idleNs s, unacked := 0, ackAt := none, offerAt := some (s.now, port) }

theorem offerAccept_eq (s : State) (port : Nat) (f : ChainFrame) :
    offerAccept s port f = updEvent (answer (modUpd (offerErased s f) (offeredSession s port f)) port f 0 0) 0x4C01
      (fSession f * 65536 + fSrc f) := rfl

theorem offerAccept_upd (s : State) (port : Nat) (f : ChainFrame) :
    (offerAccept s port f).upd = offeredSession s port f (offerErased s f).upd := by
  rw [offerAccept_eq, updEvent_upd, answer_upd, modUpd_upd]

/-- Exactly the bytes of the target slot are erased, its record behind the image with them. -/
theorem flashByte_offerErased (s : State) (f : ChainFrame) (a : Nat) :
    flashByte (offerErased s f) a =
      if (if fld (fWord f 0) 3 0 = 8 then fwBase (fwTarget s) else tunBase (fld (fWord f 0) 3 0)) ≤ a ∧
        a < (if fld (fWord f 0) 3 0 = 8 then fwBase (fwTarget s) else tunBase (fld (fWord f 0) 3 0)) + tgtArea (fld (fWord f 0) 3 0)
          + 0x40000 then 0xFF else flashByte s a := by
  unfold offerErased tgtArea
  split
  · exact flashByte_slotErase ..
  · exact flashByte_slotErase ..

theorem ctrAt_offerErased (s : State) (f : ChainFrame) (k : Nat) : ctrAt (offerErased s f) k = ctrAt s k := by
  unfold offerErased
  split
  · rfl
  · rfl

theorem flashByte_offerAccept (s : State) (port : Nat) (f : ChainFrame) (a : Nat) :
    flashByte (offerAccept s port f) a = flashByte (offerErased s f) a := by
  refine flashByte_of_flash ?_ a
  rw [offerAccept_eq, updEvent_flash, answer_flash]
  rfl

theorem ctrAt_offerAccept (s : State) (port : Nat) (f : ChainFrame) {o : Nat} (h : o < 0x1000000) :
    ctrAt (offerAccept s port f) (cOff 0x13 o) = ctrAt s (cOff 0x13 o) := by
  rw [offerAccept_eq, ctrAt_updEvent_upd _ _ _ h, ctrAt_answer_upd _ _ _ _ _ h, ctrAt_modUpd, ctrAt_offerErased]

/-! ## Chunks and the end of a session (R501) -/

/-- The session after a chunk's data. -/
def chunkTaken (s : State) (f : ChainFrame) (u : UpdSt) : UpdSt :=
  { u with
    next := u.next + (chunkBytes s f).length, idleAt := s.now + idleNs s, unacked := u.unacked + 1, ackAt := some (s.now + 100000) }

/-- A chunk at NEXT is programmed and counted. -/
theorem updChunk_next {s : State} {f : ChainFrame} (hst : s.upd.st = .receiving) (hoff : (fWord f 1).toNat = s.upd.next) :
    updChunk s f =
      (if s.upd.unacked + 1 = 16 then
        chunkAck (modUpd (count (flashProg s (updBase s + (fWord f 1).toNat) (chunkBytes s f)) 0x13 0x18) (chunkTaken s f))
      else modUpd (count (flashProg s (updBase s + (fWord f 1).toNat) (chunkBytes s f)) 0x13 0x18) (chunkTaken s f)) := by
  rw [updChunk, if_pos ⟨hst, hoff⟩]
  rfl

/-- A chunk elsewhere is discarded and counted, and one that repeats data has its answer at once. -/
theorem updChunk_elsewhere {s : State} {f : ChainFrame} (hst : s.upd.st = .receiving) (hoff : (fWord f 1).toNat ≠ s.upd.next) :
    updChunk s f =
      (if (fWord f 1).toNat < s.upd.next then chunkAck (count s 0x13 0x20) else count s 0x13 0x20) := by
  rw [updChunk, if_neg (fun h => hoff h.2)]
  simp only [hst, true_and]

theorem chunk_programmed (s : State) (f : ChainFrame) (a : Nat) :
    (modUpd (count (flashProg s a (chunkBytes s f)) 0x13 0x18) (chunkTaken s f)).upd = chunkTaken s f s.upd ∧
    ctrAt (modUpd (count (flashProg s a (chunkBytes s f)) 0x13 0x18) (chunkTaken s f)) (cOff 0x13 0x18)
      = (ctrAt s (cOff 0x13 0x18)).add 1 ∧
    AgreeBut [.ctr, .flash, .upd] s (modUpd (count (flashProg s a (chunkBytes s f)) 0x13 0x18) (chunkTaken s f)) := by
  refine ⟨?_, ?_, fun p hp => ?_⟩
  · rw [modUpd_upd, count_upd, flashProg_upd]
  · rw [ctrAt_modUpd, ctrAt_count_same, ctrAt_flashProg]
  · simp at hp; simp [hp]

theorem sessionEnd_does (s : State) (r : Nat) :
    (sessionEnd s r).upd = { s.upd with st := .idle, reason := r, ackAt := none } ∧ AgreeBut [.ctr, .rcd, .upd] s (sessionEnd s r) :=
  ⟨updEvent_upd .., fun p hp => by simp at hp; simp [sessionEnd, hp]⟩

/-- A verification that passes ends in VERIFIED, and one that fails ends the session with its reason (R501). -/
theorem updVerifyDone_does {s : State} (hst : s.upd.st = .verifying) :
    (updReason s = 0 → (updVerifyDone s).upd.st = .verified) ∧
    (updReason s ≠ 0 → ((updVerifyDone s).upd.st, (updVerifyDone s).upd.reason) = (UpdState.idle, updReason s)) ∧
    AgreeBut [.ctr, .flash, .rcd, .chain, .img, .upd] s (updVerifyDone s) := by
  have hrun : updVerifyDone s = if updReason s = 0 then
      updEvent (updResult
        (if s.upd.target = 8 then
          modUpd (modUpd (presentProg s) (fun u => { u with st := .verified })) (fun u => { u with fwValid := u.fwValid.set false u.fwSlot true })
        else tunCheck (modUpd (presentProg s) (fun u => { u with st := .verified })) s.upd.target) 0 0) 0x4C03 (s.upd.id * 65536)
      else sessionEnd (updResult (count s 0x13 0x10) 2 (updReason s)) (updReason s) := by
    rw [updVerifyDone, if_neg (not_not_intro hst)]
  refine ⟨fun hr => ?_, fun hr => ?_, fun p hp => ?_⟩
  · rw [hrun, if_pos hr, updEvent_upd, updResult, updReply, updFrameTo, launch_upd]
    split
    · rfl
    · rw [upd_of_part (tunCheck_part .upd (by decide) _ _)]
      rfl
  · rw [hrun, if_neg hr, (sessionEnd_does _ _).1]
  · simp at hp
    rw [hrun]
    split
    · split
      · simp [updResult, hp]
      · simp [updResult, hp]
    · simp [updResult, sessionEnd, hp]

/-! ## The relay (R503) -/

/-- What the relay's sending moves in its own record: where it is in the content, and whether END is sent. -/
def RelayMoved (s t : State) : Prop :=
  (∃ n e, t.upd = { s.upd with relay := { s.upd.relay with next := n, ended := e } }) ∧ AgreeBut [.ctr, .chain, .upd] s t

theorem RelayMoved.refl (s : State) : RelayMoved s s := ⟨⟨s.upd.relay.next, s.upd.relay.ended, rfl⟩, .refl _ _⟩

theorem RelayMoved.trans {s t u : State} (h1 : RelayMoved s t) (h2 : RelayMoved t u) : RelayMoved s u := by
  obtain ⟨⟨n1, e1, hupd1⟩, hframe1⟩ := h1
  obtain ⟨⟨n2, e2, hupd2⟩, hframe2⟩ := h2
  exact ⟨⟨n2, e2, by rw [hupd2, hupd1]⟩, hframe1.trans hframe2⟩

theorem RelayMoved.of_frame (s : State) (n : Nat) (e : Bool) (op : Nat) (l : List Word) :
    RelayMoved s (relayFrame (modRelay s (fun x => { x with next := n, ended := e })) op l) :=
  ⟨⟨n, e, launch_upd ..⟩, fun p hp => by simp at hp; simp [relayFrame, updFrameTo, modRelay, hp]⟩

/-- Sending changes nothing of the relay but its place in the content. -/
theorem relaySend_moved : ∀ (n : Nat) (s : State), RelayMoved s (relaySend n s) := by
  intro n
  induction n with
  | zero => exact RelayMoved.refl
  | succ n ih =>
    intro s
    simp only [relaySend]
    split
    · exact .refl s
    · split
      · split
        · exact .refl s
        · exact .of_frame s s.upd.relay.next true _ _
      · split
        · exact (RelayMoved.of_frame s _ s.upd.relay.ended _ _).trans (ih _)
        · exact .refl s

theorem relayEnd_does (s : State) (st : RelayState) (c r : Nat) :
    (relayEnd s st c r).upd = { s.upd with relay := { s.upd.relay with st := st, reason := r } } ∧
    AgreeBut [.ctr, .rcd, .upd] s (relayEnd s st c r) :=
  ⟨event_upd .., fun p hp => by simp at hp; simp [relayEnd, modRelay, hp]⟩

/-! ## The owner's writes -/

/-- ABORT does nothing in a state that Table 18.2 names no transition for (log entry 42). -/
theorem updAbort_none {s : State} (h : s.upd.st ∈ [UpdState.verifying, .armed, .activating, .trial, .fallback]) : updAbort s = s := by
  simp only [List.mem_cons, List.not_mem_nil, or_false] at h
  rcases h with h | h | h | h | h
  · rw [updAbort, h]
  · rw [updAbort, h]
  · rw [updAbort, h]
  · rw [updAbort, h]
  · rw [updAbort, h]

theorem updCmd_abort (s : State) : writeReg s .updCmd [] (mkB 28 true) = (updAbort s, false) := rfl

/-- A write of UPD_RELAY with GO takes DST, and then starts the relay (R503). -/
theorem updRelay_go (s : State) (dst : Fin 64) : writeReg s .updRelay [] (mkB 31 true ||| mkF 5 0 dst.val) =
    (relayGo (writePlain s .updRelay [] (mkB 31 true ||| mkF 5 0 dst.val)) dst.val, false) := by
  have hgo : tbit (mkB 31 true ||| mkF 5 0 dst.val) 31 = true ∧ fld (mkB 31 true ||| mkF 5 0 dst.val) 5 0 = dst.val := by
    revert dst
    decide
  show ((if tbit (mkB 31 true ||| mkF 5 0 dst.val) 31 then relayGo (writePlain s .updRelay [] (mkB 31 true ||| mkF 5 0 dst.val))
    (fld (mkB 31 true ||| mkF 5 0 dst.val) 5 0) else _), false) = _
  rw [if_pos hgo.1, hgo.2]

theorem updRelay_plain (s : State) (v : Word) :
    (writePlain s .updRelay [] v).upd = s.upd ∧ AgreeBut [.regs] s (writePlain s .updRelay [] v) :=
  ⟨rfl, fun p hp => setReg_part p (by simpa using hp) _ _ _ _⟩

theorem relayGo_starts {s : State} (dst : Nat)
    (hst : s.upd.st = .verified ∨ s.upd.st = .armed ∨ s.upd.st = .activating ∨ s.upd.st = .trial) (hruns : relayRuns s = false) :
    (relayGo s dst).upd = { s.upd with
      relay := { st := .offering, dst := dst, target := s.upd.target, deadline := s.now + 10000000000 } } ∧
    AgreeBut [.ctr, .chain, .upd] s (relayGo s dst) := by
  refine ⟨?_, fun p hp => ?_⟩
  · rw [relayGo, if_pos ⟨hst, by simp [hruns]⟩]
    exact launch_upd ..
  · simp at hp
    exact relayGo_part p (by simp [hp]) _ _

theorem relayGo_running {s : State} (dst : Nat) (hruns : relayRuns s = true) : relayGo s dst = s := by
  rw [relayGo, if_neg (by simp [hruns])]

theorem updRelay_starts {s : State} (dst : Fin 64)
    (hst : s.upd.st = .verified ∨ s.upd.st = .armed ∨ s.upd.st = .activating ∨ s.upd.st = .trial) (hruns : relayRuns s = false) :
    ∃ t, writeReg s .updRelay [] (mkB 31 true ||| mkF 5 0 dst.val) = (t, false) ∧
      t.upd = { s.upd with
        relay := { st := .offering, dst := dst.val, target := s.upd.target, deadline := s.now + 10000000000 } } ∧
      AgreeBut [.regs, .ctr, .chain, .upd] s t := by
  obtain ⟨-, hframe⟩ := updRelay_plain s (mkB 31 true ||| mkF 5 0 dst.val)
  obtain ⟨hupd, hgo⟩ := relayGo_starts (s := writePlain s .updRelay [] (mkB 31 true ||| mkF 5 0 dst.val)) dst.val hst hruns
  exact ⟨_, updRelay_go s dst, hupd, (hframe.mono (by simp)).trans (hgo.mono (by simp))⟩

theorem updRelay_running {s : State} (dst : Fin 64) (hruns : relayRuns s = true) :
    ∃ t, writeReg s .updRelay [] (mkB 31 true ||| mkF 5 0 dst.val) = (t, false) ∧ t.upd = s.upd ∧ AgreeBut [.regs] s t := by
  obtain ⟨hupd, hframe⟩ := updRelay_plain s (mkB 31 true ||| mkF 5 0 dst.val)
  exact ⟨_, (updRelay_go s dst).trans (congrArg (·, false) (relayGo_running dst.val hruns)), hupd, hframe⟩

end Sys2Proof.Machine
end

section
/-! The statement about update sessions and the relay (R497 to R503). -/

namespace Sys2Proof.Machine

/-- The session that a chunk or an END reaches has the device's data, with its new SRC. -/
theorem chunk_heard {s : State} {port : Nat} {f : ChainFrame} (hst : s.upd.st = .receiving) (hoff : (fWord f 1).toNat = s.upd.next) :
    updChunk (heardFrom s port f) f =
      (if s.upd.unacked + 1 = 16 then
        chunkAck (modUpd (count (flashProg (heardFrom s port f) (updBase s + (fWord f 1).toNat) (chunkBytes (heardFrom s port f) f)) 0x13
          0x18) (chunkTaken (heardFrom s port f) f))
      else modUpd (count (flashProg (heardFrom s port f) (updBase s + (fWord f 1).toNat) (chunkBytes (heardFrom s port f) f)) 0x13 0x18)
        (chunkTaken (heardFrom s port f) f)) :=
  updChunk_next (s := heardFrom s port f) hst hoff

theorem heardFrom_frame (s : State) (port : Nat) (f : ChainFrame) : AgreeBut [.upd] s (heardFrom s port f) :=
  fun p hp => heardFrom_part p (by simpa using hp) s port f

/-- Settles O55: offers, chunks and ENDs by `UpdFor`, which takes a good frame to its OP, and then by the reason of the offer, the place of
the chunk and the state of the session; the relay by `relaySend_moved`, since sending moves only its place in the content. -/
theorem updateSessions : Obligations.UpdateSessions := by
  unfold Obligations.UpdateSessions
  refine ⟨fun port f s hon hn hty hop hok hdst h63 hlen hauth hst ht hlock hmin hmax => ?accepted,
    fun port f s hon hn hty hop hok hdst h63 hlen hauth => ?unauthorised,
    fun port f s hon hn hty hop hok hdst h63 hlen hauth hst hwin => ?busy,
    fun port f s hon hn hty hop hok hdst h63 hlen hauth hst ht hlock => ?locked,
    fun port f s hon hn hty hop hok hdst h63 hlen hauth hst ht hlock hout => ?length,
    fun port f s hon hn hty hop hok hdst h63 hlen => ?malformed,
    fun port f s hon hn hty hop hok hdst h63 hlen hopen hid hauth hst hoff hack => ?chunk,
    fun port f s hon hn hty hop hok hdst h63 hlen hopen hid hauth hst hoff hack => ?sixteenth,
    fun port f s hon hn hty hop hok hdst h63 hlen hopen hid hauth hst hoff => ?ahead,
    fun port f s hon hn hty hop hok hdst h63 hlen hopen hid hauth hst hoff => ?repeated,
    fun port f s hon hn hty hop hok hdst h63 hlen hopen hid => ?otherChunk,
    fun port f s hon hn hty hop hok hdst h63 hlen hopen hid => ?otherEnd,
    fun port f s hon hn hty hop hok hdst h63 hlen hopen hid => ?otherAbort,
    fun port f s hon hn hty hop hok hdst h63 hlen hopen hid hauth hst hall => ?complete,
    fun port f s hon hn hty hop hok hdst h63 hlen hopen hid hauth hmore => ?incomplete,
    fun port f s hon hn hty hop hok hdst h63 hlen hopen hid hauth hst => ?abortReceiving,
    fun port f s hon hn hty hop hok hdst h63 hlen hopen hid hauth hst => ?abortVerified,
    fun port f s hon hn hty hop hok hdst h63 hlen hopen hid hauth hst => ?abortElse,
    fun slot s hmay hst => ?cmdAbort, fun slot s hmay hst => ?cmdAbortElse, fun s hon hst => ?verify, fun s hst hidle => ?idle,
    fun a s hst ha hnow => ?ackTimer, fun slot dst s hmay hst hruns => ?relayStarts, fun slot dst s hmay hruns => ?relayBusy,
    fun port f s hon hn hty hop hok hdst h63 hlen hfrom hcode => ?answerBusy,
    fun port f s hon hn hty hop hok hdst h63 hlen hfrom hcode => ?answerRefused,
    fun port f s hon hn hty hop hok hdst h63 hlen hfrom hcode hst => ?answerAccept,
    fun port f s hon hn hty hop hok hdst h63 hlen hfrom hst hnew => ?ackRx,
    fun port f s hon hn hty hop hok hdst h63 hlen hfrom hcode => ?resultGood,
    fun port f s hon hn hty hop hok hdst h63 hlen hfrom hcode => ?resultBad, fun s hruns hdead => ?relayTimeout⟩
  case accepted =>
    have hfor : UpdFor s f 0 := ⟨hon, hn, hty, hop, hok, hdst, h63⟩
    have hlock' := (targetLocked_count s 0x13 0 (fld (fWord f 0) 3 0)).trans hlock
    have hend : updRx 0 port.val f s = offerAccept (count s 0x13 0) port.val f := by
      rw [hfor.offer port.val hlen, updOffer_idle hauth hst, offerTake, offerReason_none ht hlock' hmin hmax,
        if_pos rfl]
    refine ⟨_, congrArg Host.Outcome.next hend, ?_, ?_, ?_, ?_, ?_, fun a => ⟨?_, ?_⟩⟩
    · rw [offerAccept_upd]
      rfl
    · rw [offerAccept_upd]
      rfl
    · rw [offerAccept_upd]
      rfl
    · rw [offerAccept_upd]
      rfl
    · rw [ctrAt_offerAccept _ _ _ (by decide), ctrAt_count_same]
    · rw [flashByte_offerAccept, flashByte_offerErased]
      rfl
    · intro p hp
      simp at hp
      simp [hp]
  case unauthorised =>
    have hfor : UpdFor s f 0 := ⟨hon, hn, hty, hop, hok, hdst, h63⟩
    obtain ⟨hupd, hcount, hkeep, hframe⟩ := offerRefuse_does (count s 0x13 0) port.val f 0x28
    refine ⟨_, congrArg Host.Outcome.next ((hfor.offer port.val hlen).trans (updOffer_unauthorised hauth)), hupd, ?_, ?_, ?_⟩
    · rw [hkeep, ctrAt_count_same]
    · rw [hcount, ctrAt_count_other _ _ _ (by decide)]
    · exact AgreeBut.trans (fun p hp => count_part p (by simp at hp; simp [hp]) _ _ _) hframe
  case busy =>
    have hfor : UpdFor s f 0 := ⟨hon, hn, hty, hop, hok, hdst, h63⟩
    refine ⟨_, congrArg Host.Outcome.next ((hfor.offer port.val hlen).trans (updOffer_busy hauth hst hwin)), answer_upd .., ?_, ?_,
      fun p hp => ?_⟩
    · rw [ctrAt_answer_upd _ _ _ _ _ (by decide), ctrAt_count_other _ _ _ (by decide), ctrAt_count_same]
    · rw [ctrAt_answer_upd _ _ _ _ _ (by decide), ctrAt_count_same, ctrAt_count_other _ _ _ (by decide)]
    · simp at hp
      simp [hp]
  case locked =>
    have hfor : UpdFor s f 0 := ⟨hon, hn, hty, hop, hok, hdst, h63⟩
    have hlock' := (targetLocked_count s 0x13 0 (fld (fWord f 0) 3 0)).trans hlock
    have hend : updRx 0 port.val f s = offerRefuse (count s 0x13 0) port.val f 0x21 := by
      rw [hfor.offer port.val hlen, updOffer_idle hauth hst,
        offerTake_refused (offerReason_locked ht hlock') (by decide)]
    obtain ⟨hupd, hcount, -, hframe⟩ := offerRefuse_does (count s 0x13 0) port.val f 0x21
    refine ⟨_, congrArg Host.Outcome.next hend, hupd, ?_, ?_⟩
    · rw [hcount, ctrAt_count_other _ _ _ (by decide)]
    · exact AgreeBut.trans (fun p hp => count_part p (by simp at hp; simp [hp]) _ _ _) hframe
  case length =>
    have hfor : UpdFor s f 0 := ⟨hon, hn, hty, hop, hok, hdst, h63⟩
    have hlock' := (targetLocked_count s 0x13 0 (fld (fWord f 0) 3 0)).trans hlock
    have hend : updRx 0 port.val f s = offerRefuse (count s 0x13 0) port.val f 0x22 := by
      rw [hfor.offer port.val hlen, updOffer_idle hauth hst,
        offerTake_refused (offerReason_length ht hlock' hout) (by decide)]
    obtain ⟨hupd, hcount, -, hframe⟩ := offerRefuse_does (count s 0x13 0) port.val f 0x22
    refine ⟨_, congrArg Host.Outcome.next hend, hupd, ?_, ?_⟩
    · rw [hcount, ctrAt_count_other _ _ _ (by decide)]
    · exact AgreeBut.trans (fun p hp => count_part p (by simp at hp; simp [hp]) _ _ _) hframe
  case malformed =>
    have hfor : UpdFor s f 0 := ⟨hon, hn, hty, hop, hok, hdst, h63⟩
    exact ⟨_, congrArg Host.Outcome.next (hfor.malformed hlen port.val), count_upd .., ctrAt_count_same ..,
      fun p hp => count_part p (by simpa using hp) _ _ _⟩
  case chunk =>
    have hfor : UpdFor s f 2 := ⟨hon, hn, hty, hop, hok, hdst, h63⟩
    have hend := (hfor.chunk port.val hlen).trans ((inSession_go _ hopen hid hauth).trans (chunk_heard hst hoff))
    rw [if_neg (by omega)] at hend
    obtain ⟨hupd, hcount, hframe⟩ := chunk_programmed (heardFrom s port.val f) f (updBase s + (fWord f 1).toNat)
    exact ⟨_, congrArg Host.Outcome.next hend, hupd, hcount, ((heardFrom_frame s port.val f).mono (by simp)).trans hframe⟩
  case sixteenth =>
    have hfor : UpdFor s f 2 := ⟨hon, hn, hty, hop, hok, hdst, h63⟩
    have hend := (hfor.chunk port.val hlen).trans ((inSession_go _ hopen hid hauth).trans (chunk_heard hst hoff))
    rw [if_pos (by omega)] at hend
    obtain ⟨hupd, hcount, hframe⟩ := chunk_programmed (heardFrom s port.val f) f (updBase s + (fWord f 1).toNat)
    refine ⟨_, congrArg Host.Outcome.next hend, ?_, ?_, ?_⟩
    · rw [chunkAck_upd, hupd]
      rfl
    · rw [ctrAt_chunkAck_upd _ (by decide), hcount]
      rfl
    · refine (((heardFrom_frame s port.val f).mono (by simp)).trans (hframe.mono (by simp))).trans fun p hp => ?_
      exact chunkAck_part p (by simp at hp; simp [hp]) _
  case ahead =>
    have hfor : UpdFor s f 2 := ⟨hon, hn, hty, hop, hok, hdst, h63⟩
    have hend := (hfor.chunk port.val hlen).trans ((inSession_go _ hopen hid hauth).trans
      (updChunk_elsewhere (s := heardFrom s port.val f) hst (show (fWord f 1).toNat ≠ s.upd.next by omega)))
    rw [if_neg (show ¬ (fWord f 1).toNat < (heardFrom s port.val f).upd.next from Nat.lt_asymm hoff)] at hend
    refine ⟨_, congrArg Host.Outcome.next hend, count_upd .., ctrAt_count_same .., ?_⟩
    exact ((heardFrom_frame s port.val f).mono (by simp)).trans fun p hp => count_part p (by simp at hp; simp [hp]) _ _ _
  case repeated =>
    have hfor : UpdFor s f 2 := ⟨hon, hn, hty, hop, hok, hdst, h63⟩
    have hend := (hfor.chunk port.val hlen).trans ((inSession_go _ hopen hid hauth).trans
      (updChunk_elsewhere (s := heardFrom s port.val f) hst (show (fWord f 1).toNat ≠ s.upd.next by omega)))
    rw [if_pos (show (fWord f 1).toNat < (heardFrom s port.val f).upd.next from hoff)] at hend
    refine ⟨_, congrArg Host.Outcome.next hend, ?_, ?_, ?_⟩
    · rw [chunkAck_upd, count_upd]
    · rw [ctrAt_chunkAck_upd _ (by decide), ctrAt_count_same]
      rfl
    · refine ((heardFrom_frame s port.val f).mono (by simp)).trans fun p hp => ?_
      simp at hp
      simp [hp]
  case otherChunk =>
    have hfor : UpdFor s f 2 := ⟨hon, hn, hty, hop, hok, hdst, h63⟩
    exact ⟨_, congrArg Host.Outcome.next ((hfor.chunk port.val hlen).trans (inSession_other _ hopen hid)), answered_alone ..⟩
  case otherEnd =>
    have hfor : UpdFor s f 4 := ⟨hon, hn, hty, hop, hok, hdst, h63⟩
    exact ⟨_, congrArg Host.Outcome.next ((hfor.endFrame port.val hlen).trans (inSession_other _ hopen hid)), answered_alone ..⟩
  case otherAbort =>
    have hfor : UpdFor s f 6 := ⟨hon, hn, hty, hop, hok, hdst, h63⟩
    exact ⟨_, congrArg Host.Outcome.next ((hfor.abort port.val hlen).trans (inSession_other _ hopen hid)), answered_alone ..⟩
  case complete =>
    have hfor : UpdFor s f 4 := ⟨hon, hn, hty, hop, hok, hdst, h63⟩
    have hend := (hfor.endFrame port.val hlen).trans ((inSession_go _ hopen hid hauth).trans
      (if_pos (show s.upd.st = .receiving ∧ s.upd.total ≤ s.upd.next from ⟨hst, hall⟩)))
    refine ⟨_, congrArg Host.Outcome.next hend, rfl, ?_⟩
    exact (heardFrom_frame s port.val f).trans fun p hp => modUpd_part p (by simpa using hp) _ _
  case incomplete =>
    have hfor : UpdFor s f 4 := ⟨hon, hn, hty, hop, hok, hdst, h63⟩
    have hend := (hfor.endFrame port.val hlen).trans ((inSession_go _ hopen hid hauth).trans
      (if_neg (show ¬ (s.upd.st = .receiving ∧ s.upd.total ≤ s.upd.next) from fun h => by omega)))
    exact ⟨_, congrArg Host.Outcome.next hend, rfl, heardFrom_frame s port.val f⟩
  case abortReceiving =>
    have hfor : UpdFor s f 6 := ⟨hon, hn, hty, hop, hok, hdst, h63⟩
    have hend : updRx 6 port.val f s = sessionEnd s 0x24 := by
      rw [hfor.abort port.val hlen, inSession_go _ hopen hid hauth, updAbort, hst]
    exact ⟨_, congrArg Host.Outcome.next hend, sessionEnd_does s 0x24⟩
  case abortVerified =>
    have hfor : UpdFor s f 6 := ⟨hon, hn, hty, hop, hok, hdst, h63⟩
    have hend : updRx 6 port.val f s = modUpd s (fun u => { u with st := .idle, reason := 0x24 }) := by
      rw [hfor.abort port.val hlen, inSession_go _ hopen hid hauth, updAbort, hst]
    exact ⟨_, congrArg Host.Outcome.next hend, rfl, fun p hp => modUpd_part p (by simpa using hp) _ _⟩
  case abortElse =>
    have hfor : UpdFor s f 6 := ⟨hon, hn, hty, hop, hok, hdst, h63⟩
    have hend : updRx 6 port.val f s = s := by
      rw [hfor.abort port.val hlen, inSession_go _ hopen hid hauth]
      exact updAbort_none hst
    exact congrArg Host.Outcome.next hend
  case cmdAbort =>
    obtain ⟨u, habort, hupd, hframe⟩ : ∃ u, updAbort s = u ∧ u.upd = { s.upd with st := .idle, reason := 0x24, ackAt := none } ∧
        AgreeBut [.ctr, .rcd, .upd] s u := ⟨sessionEnd s 0x24, by rw [updAbort, hst], sessionEnd_does s 0x24⟩
    have hend := ownWrite_of_writeReg hmay (habort ▸ updCmd_abort s) rfl rfl (by decide) (by decide)
    exact ⟨_, congrArg Host.Outcome.next hend, rfl, hupd, AgreeBut.acc (by simp) _ (hframe.mono (by simp))⟩
  case cmdAbortElse =>
    have hnone : updAbort s = s := updAbort_none (by
      simp only [List.mem_cons, List.not_mem_nil, or_false] at hst ⊢
      tauto)
    have hwrite : writeReg s .updCmd [] (mkB 28 true) = (s, false) := by
      rw [updCmd_abort, hnone]
    have hend := ownWrite_of_writeReg hmay hwrite rfl rfl (by decide) (by decide)
    exact ⟨_, congrArg Host.Outcome.next hend, rfl, AgreeBut.acc (by simp) _ (.refl _ _)⟩
  case verify => exact ⟨_, congrArg Host.Outcome.next (if_pos hon), updVerifyDone_does hst⟩
  case idle => exact ⟨_, congrArg Host.Outcome.next (if_pos ⟨hst, hidle⟩), sessionEnd_does s 0x23⟩
  case ackTimer =>
    have hend : execUpdChunkAckTimer s = ok (chunkAck (modUpd s (fun u => { u with ackAt := none }))) := by
      rw [execUpdChunkAckTimer, ha]
      exact congrArg Host.Outcome.next (if_pos ⟨hst, hnow⟩)
    refine ⟨_, hend, ?_, fun p hp => ?_⟩
    · rw [chunkAck_upd, modUpd_upd]
    · simp at hp
      simp [hp]
  case relayStarts =>
    obtain ⟨t, hwrite, hupd, hframe⟩ := updRelay_starts (s := s) dst hst hruns
    have hend := ownWrite_of_writeReg hmay hwrite rfl rfl (by decide) (by decide)
    exact ⟨_, congrArg Host.Outcome.next hend, rfl, hupd, AgreeBut.acc (by simp) _ (hframe.mono (by simp))⟩
  case relayBusy =>
    obtain ⟨t, hwrite, hupd, hframe⟩ := updRelay_running (s := s) dst hruns
    have hend := ownWrite_of_writeReg hmay hwrite rfl rfl (by decide) (by decide)
    exact ⟨_, congrArg Host.Outcome.next hend, rfl, hupd, AgreeBut.acc (by simp) _ (hframe.mono (by simp))⟩
  case answerBusy =>
    have hfor : UpdFor s f 1 := ⟨hon, hn, hty, hop, hok, hdst, h63⟩
    have hend : updRx 1 port.val f s = relayEnd s .busy 5 (fld (fWord f 0) 7 0) := by
      rw [hfor.answer port.val hlen, relayAnswer, hcode]
      simp [hfrom]
    exact ⟨_, congrArg Host.Outcome.next hend, relayEnd_does ..⟩
  case answerRefused =>
    have hfor : UpdFor s f 1 := ⟨hon, hn, hty, hop, hok, hdst, h63⟩
    have hend : updRx 1 port.val f s = relayEnd s .refused 4 (fld (fWord f 0) 7 0) := by
      rw [hfor.answer port.val hlen, relayAnswer, hcode]
      simp [hfrom]
    exact ⟨_, congrArg Host.Outcome.next hend, relayEnd_does ..⟩
  case answerAccept =>
    have hfor : UpdFor s f 1 := ⟨hon, hn, hty, hop, hok, hdst, h63⟩
    have hend : updRx 1 port.val f s =
        relaySend 66 (modRelay s (fun x => { x with st := .sending, deadline := s.now + 10000000000 })) := by
      rw [hfor.answer port.val hlen, relayAnswer, hcode]
      simp [hfrom, hst]
    obtain ⟨⟨n, e, hupd⟩, hframe⟩ := relaySend_moved 66 (modRelay s (fun x => { x with st := .sending, deadline := s.now + 10000000000 }))
    refine ⟨_, congrArg Host.Outcome.next hend, ?_, ?_, ?_, ?_⟩
    · rw [hupd]
      rfl
    · rw [hupd]
      rfl
    · rw [hupd]
      rfl
    · exact AgreeBut.trans (fun p hp => modUpd_part p (by simp at hp; simp [hp]) _ _) hframe
  case ackRx =>
    have hfor : UpdFor s f 3 := ⟨hon, hn, hty, hop, hok, hdst, h63⟩
    have hend : updRx 3 port.val f s = relaySend 66 (modRelay s (fun x => { x with
        acked := (fWord f 1).toNat, next := max (fWord f 1).toNat x.next, ended := false, deadline := s.now + 10000000000 })) := by
      rw [hfor.ack port.val hlen, relayAck]
      simp [hfrom, hst, hnew]
    obtain ⟨⟨n, e, hupd⟩, hframe⟩ := relaySend_moved 66 (modRelay s (fun x => { x with
      acked := (fWord f 1).toNat, next := max (fWord f 1).toNat x.next, ended := false, deadline := s.now + 10000000000 }))
    refine ⟨_, congrArg Host.Outcome.next hend, ?_, ?_, ?_, ?_, ?_⟩
    · rw [hupd]
      rfl
    · rw [hupd]
      rfl
    · rw [hupd]
      exact hst
    · rw [hupd]
      rfl
    · exact AgreeBut.trans (fun p hp => modUpd_part p (by simp at hp; simp [hp]) _ _) hframe
  case resultGood =>
    have hfor : UpdFor s f 5 := ⟨hon, hn, hty, hop, hok, hdst, h63⟩
    have hend : updRx 5 port.val f s = relayEnd s .verified 3 (fld (fWord f 0) 7 0) := by
      rw [hfor.result port.val hlen, relayResult]
      simp [hfrom, hcode]
    exact ⟨_, congrArg Host.Outcome.next hend, relayEnd_does ..⟩
  case resultBad =>
    have hfor : UpdFor s f 5 := ⟨hon, hn, hty, hop, hok, hdst, h63⟩
    have hend : updRx 5 port.val f s = relayEnd s .refused 4 (fld (fWord f 0) 7 0) := by
      rw [hfor.result port.val hlen, relayResult]
      simp [hfrom, hcode]
    exact ⟨_, congrArg Host.Outcome.next hend, relayEnd_does ..⟩
  case relayTimeout => exact ⟨_, congrArg Host.Outcome.next (if_pos ⟨hruns, hdead⟩), relayEnd_does ..⟩

end Sys2Proof.Machine
end

section
/-! The input stages, the brown-out and the temperature (R516 to R531, Table 19.1). -/

namespace Sys2Proof.Machine

/-! ## Conditions that stand -/

theorem held_fatalEnter (s : State) (blk bit inst : Nat) (m : Bool) : (fatalEnter s blk bit inst m).flt.held = s.flt.held := by
  unfold fatalEnter
  dsimp only
  split
  · rfl
  · rw [flt_of_part (saveLife_part .flt (by decide) _), flt_of_part (logRec_part .flt (by decide) _ _ _)]

/-- A class F source puts the device in the fatal state (R462). -/
theorem fatal_fatalEnter (s : State) (blk bit inst : Nat) (m : Bool) : (fatalEnter s blk bit inst m).flt.fatal = true := by
  unfold fatalEnter
  dsimp only
  split
  · assumption
  · rw [flt_of_part (saveLife_part .flt (by decide) _), flt_of_part (logRec_part .flt (by decide) _ _ _)]

/-- A condition that rises is held for its unit (R455). -/
theorem held_faultRise {s : State} {blk bit : Nat} {i : FltInfo} (inst : Nat) (d4 d5 : Word) (h : fltInfo blk bit = some i)
    (hk : i.kindS = true) :
    (faultRise s blk bit inst d4 d5).flt.held = s.flt.held.set false ((blk * 32 + bit) * 65536 + inst % 65536) true := by
  simp only [faultRise, h, hk, if_true, apply_ite State.flt, apply_ite FltSt.held, held_fatalEnter, occur_flt, ite_self]
  rfl

theorem fatal_faultRise {s : State} {blk bit : Nat} {i : FltInfo} (inst : Nat) (d4 d5 : Word) (h : fltInfo blk bit = some i)
    (hc : i.cls = 3) : (faultRise s blk bit inst d4 d5).flt.fatal = true := by
  simp only [faultRise, h, hc, if_true, fatal_fatalEnter]

theorem condRise_new {s : State} {blk bit unit : Nat} (d4 d5 : Word) (h : holds s blk bit unit = false) :
    condRise s blk bit unit d4 d5 = faultRise s blk bit unit d4 d5 := by
  rw [condRise, if_neg (by simp [h])]

theorem holds_condRise_same {s : State} {blk bit unit : Nat} {i : FltInfo} (d4 d5 : Word) (h : fltInfo blk bit = some i)
    (hk : i.kindS = true) (hu : unit < 65536) : holds (condRise s blk bit unit d4 d5) blk bit unit = true := by
  unfold condRise
  split
  · assumption
  · rw [holds, held_faultRise _ _ _ h hk, Nat.mod_eq_of_lt hu, SMap.get_set_same]

theorem holds_condRise_other {s : State} {blk bit unit : Nat} {i : FltInfo} (d4 d5 : Word) {b k u : Nat} (h : fltInfo blk bit = some i)
    (hk : i.kindS = true) (hne : (b * 32 + k) * 65536 + u ≠ (blk * 32 + bit) * 65536 + unit % 65536) :
    holds (condRise s blk bit unit d4 d5) b k u = holds s b k u := by
  unfold condRise
  split
  · rfl
  · rw [holds, held_faultRise _ _ _ h hk, SMap.get_set_other _ _ _ _ _ _ hne, holds]

theorem held_faultFall (s : State) (blk bit unit : Nat) :
    (faultFall s blk bit unit).flt.held = s.flt.held.set false ((blk * 32 + bit) * 65536 + unit) false := by
  unfold faultFall
  dsimp only
  split
  · rfl
  · rfl

theorem holds_faultFall_same (s : State) (blk bit unit : Nat) : holds (faultFall s blk bit unit) blk bit unit = false := by
  rw [holds, held_faultFall, SMap.get_set_same]

theorem holds_faultFall_other (s : State) (blk bit unit : Nat) {b k u : Nat}
    (hne : (b * 32 + k) * 65536 + u ≠ (blk * 32 + bit) * 65536 + unit) : holds (faultFall s blk bit unit) b k u = holds s b k u := by
  rw [holds, held_faultFall, SMap.get_set_other _ _ _ _ _ _ hne, holds]

theorem condRise_pwr (s : State) (blk bit unit : Nat) (d4 d5 : Word) : (condRise s blk bit unit d4 d5).pwr = s.pwr :=
  pwr_of_part (condRise_part .pwr (by decide) ..)

theorem faultFall_pwr (s : State) (blk bit unit : Nat) : (faultFall s blk bit unit).pwr = s.pwr :=
  pwr_of_part (faultFall_part .pwr (by decide) ..)

/-! ## Input stages -/

/-- The two feeds are each other's other. -/
theorem feedOf_setFeed_same (s : State) (f : Nat) (x : Feed) : feedOf (setFeed s f x) f = x := by
  unfold feedOf setFeed
  split
  · rfl
  · rfl

theorem feedOf_setFeed_other (s : State) {f g : Nat} (x : Feed) (h : (f = 0) ≠ (g = 0)) : feedOf (setFeed s f x) g = feedOf s g := by
  unfold feedOf setFeed
  by_cases hf : f = 0
  · have hg : ¬ g = 0 := by simpa [hf] using h
    simp [hf, hg]
  · have hg : g = 0 := by simpa [hf] using h
    simp [hf, hg]

theorem feedOf_of_pwr {s t : State} (h : t.pwr = s.pwr) (f : Nat) : feedOf t f = feedOf s f := by
  rw [feedOf, h, feedOf]

/-- CARRY goes by both feeds: the feed is PRESENT, and the other is not, or not 0.3 V higher (R516). -/
def carries (x y : Feed) : Bool := x.st == .present && (!(y.st == .present) || decide (y.volt ≤ x.volt + 300))

theorem feedOf_carryNow (s : State) (f : Fin 2) :
    feedOf (carryNow s) f.val = { feedOf s f.val with carry := carries (feedOf s f.val) (feedOf s (1 - f.val)) } := by
  match f with
  | 0 => rfl
  | 1 => rfl

theorem feedOf_carryNow_other (s : State) (f : Fin 2) :
    feedOf (carryNow s) (1 - f.val) = { feedOf s (1 - f.val) with carry := carries (feedOf s (1 - f.val)) (feedOf s f.val) } := by
  match f with
  | 0 => rfl
  | 1 => rfl

theorem fin2_zero_ne (f : Fin 2) : (f.val = 0) ≠ (1 - f.val = 0) := by
  match f with
  | 0 => simp
  | 1 => simp

/-- The setting of CARRY touches nothing else of power. -/
theorem carryNow_pwr (s : State) : ∃ a b, (carryNow s).pwr = { s.pwr with feedA := a, feedB := b } := ⟨_, _, rfl⟩

theorem ctrAt_carryNow (s : State) (k : Nat) : ctrAt (carryNow s) k = ctrAt s k := rfl

theorem ctrAt_modPwr (s : State) (g : PwrSt → PwrSt) (k : Nat) : ctrAt (modPwr s g) k = ctrAt s k := rfl

theorem ctrAt_setFeed (s : State) (f : Nat) (x : Feed) (k : Nat) : ctrAt (setFeed s f x) k = ctrAt s k := rfl

/-- A feed that leaves PRESENT counts, and where no other is PRESENT the bus runs alone from now on (R518, R519). -/
theorem feedLeft_does {s : State} (f : Fin 2) (hon : onIsland s = true) :
    (feedLeft s f.val).pwr = (if (feedOf s (1 - f.val)).st = .present then s.pwr else { s.pwr with noFeed := some s.now, feedBack := none }) ∧
    ctrAt (feedLeft s f.val) (cOff 1 (8 * f.val)) = (ctrAt s (cOff 1 (8 * f.val))).add 1 ∧ AgreeBut [.ctr, .pwr] s (feedLeft s f.val) := by
  have hrun : feedLeft s f.val = if (feedOf s (1 - f.val)).st = .present then count s 1 (8 * f.val)
      else modPwr (count s 1 (8 * f.val)) (fun p => { p with noFeed := some s.now, feedBack := none }) := by
    simp only [feedLeft, hon, if_true]
    rfl
  rw [hrun]
  refine ⟨?_, ?_, fun p hp => ?_⟩
  · split
    · exact count_pwr ..
    · rfl
  · split
    · exact ctrAt_count_same ..
    · rw [ctrAt_modPwr, ctrAt_count_same]
  · simp at hp
    split
    · simp [hp]
    · simp [hp]

/-- The loss of power from one feed leaves both input stages as they were. -/
theorem feedOf_feedLeft {s : State} (f : Fin 2) (hon : onIsland s = true) (g : Nat) : feedOf (feedLeft s f.val) g = feedOf s g := by
  have hpwr := (feedLeft_does f hon).1
  by_cases hother : (feedOf s (1 - f.val)).st = .present
  · rw [if_pos hother] at hpwr
    exact feedOf_of_pwr hpwr g
  · rw [if_neg hother] at hpwr
    rw [feedOf, hpwr, feedOf]

theorem onIsland_feedLeft {s : State} (f : Fin 2) (hon : onIsland s = true) : onIsland (feedLeft s f.val) = true := by
  rw [onIsland, (feedLeft_does f hon).1]
  split
  · exact hon
  · exact hon

theorem onIsland_setFeed {s : State} (f : Nat) (x : Feed) (hon : onIsland s = true) : onIsland (setFeed s f x) = true := by
  unfold setFeed
  split
  · exact hon
  · exact hon

/-- The source of a feed's loss is a condition of the block PWR (Table 16.8). -/
theorem fltInfo_feed (f : Fin 2) : ∃ i, fltInfo 1 f.val = some i ∧ i.kindS = true := by
  match f with
  | 0 => exact ⟨_, rfl, rfl⟩
  | 1 => exact ⟨_, rfl, rfl⟩

/-- The state in which a feed just lost has left. -/
def feedGone (s : State) (f : Fin 2) : State :=
  feedLeft (setFeed s f.val { feedOf s f.val with st := .lost, since := none, lostF := true }) f.val

/-- A PRESENT feed below its range is LOST, is counted, and raises its source (R517, R518). -/
theorem feedUndervolt_lost {s : State} (f : Fin 2) (hp : (feedOf s f.val).st = .present) (hon : onIsland s = true) :
    feedUndervolt s f.val = carryNow (condRise (feedGone s f) 1 f.val 0 (lo32 f.val) 0) := by
  have hgone : onIsland (feedGone s f) = true := onIsland_feedLeft f (onIsland_setFeed f.val _ hon)
  rw [feedUndervolt, if_neg (by simp [hp]), feedLost, if_pos hp]
  exact congrArg carryNow (if_pos hgone)

theorem feedGone_does {s : State} (f : Fin 2) (hon : onIsland s = true) :
    feedOf (feedGone s f) f.val = { feedOf s f.val with st := .lost, since := none, lostF := true } ∧
    feedOf (feedGone s f) (1 - f.val) = feedOf s (1 - f.val) ∧
    (feedGone s f).pwr.noFeed = (if (feedOf s (1 - f.val)).st = .present then s.pwr.noFeed else some s.now) ∧
    ctrAt (feedGone s f) (cOff 1 (8 * f.val)) = (ctrAt s (cOff 1 (8 * f.val))).add 1 ∧
    AgreeBut [.ctr, .flt, .rcd, .pwr] s (feedGone s f) := by
  have hset := onIsland_setFeed f.val { feedOf s f.val with st := .lost, since := none, lostF := true } hon
  obtain ⟨hpwr, hcount, hframe⟩ := feedLeft_does f hset
  refine ⟨?_, ?_, ?_, hcount, ?_⟩
  · rw [feedGone, feedOf_feedLeft f hset, feedOf_setFeed_same]
  · rw [feedGone, feedOf_feedLeft f hset, feedOf_setFeed_other _ _ (fin2_zero_ne f)]
  · rw [feedGone, hpwr, feedOf_setFeed_other _ _ (fin2_zero_ne f), apply_ite PwrSt.noFeed]
    refine if_congr Iff.rfl ?_ rfl
    unfold setFeed
    match f with
    | 0 => rfl
    | 1 => rfl
  · exact AgreeBut.trans (fun p hp => setFeed_part p (by simp at hp; simp [hp]) _ _ _) (hframe.mono (by simp))

/-- What the loss of a PRESENT feed leaves. -/
theorem lost_does {s : State} (f : Fin 2) (hp : (feedOf s f.val).st = .present) (hon : onIsland s = true) :
    ∃ t, feedUndervolt s f.val = t ∧
      feedOf t f.val = { feedOf s f.val with st := .lost, since := none, lostF := true, carry := false } ∧
      feedOf t (1 - f.val) = { feedOf s (1 - f.val) with carry := (feedOf s (1 - f.val)).st == .present } ∧
      t.pwr.noFeed = (if (feedOf s (1 - f.val)).st = .present then s.pwr.noFeed else some s.now) ∧
      ctrAt t (cOff 1 (8 * f.val)) = (ctrAt s (cOff 1 (8 * f.val))).add 1 ∧ holds t 1 f.val 0 = true ∧
      AgreeBut [.ctr, .flt, .rcd, .pwr] s t := by
  obtain ⟨i, hinfo, hkind⟩ := fltInfo_feed f
  obtain ⟨hself, hother, hno, hcount, hframe⟩ := feedGone_does f hon
  refine ⟨_, feedUndervolt_lost f hp hon, ?_, ?_, ?_, ?_, ?_, ?_⟩
  · rw [feedOf_carryNow, feedOf_of_pwr (condRise_pwr ..), feedOf_of_pwr (condRise_pwr ..), hself, hother]
    rfl
  · rw [feedOf_carryNow_other, feedOf_of_pwr (condRise_pwr ..), feedOf_of_pwr (condRise_pwr ..), hself, hother]
    simp [carries]
  · obtain ⟨a, b, hcarry⟩ := carryNow_pwr (condRise (feedGone s f) 1 f.val 0 (lo32 f.val) 0)
    rw [hcarry, condRise_pwr]
    exact hno
  · rw [ctrAt_carryNow, ctrAt_condRise_other _ _ _ _ _ _ (by simp only [cOff]; omega), hcount]
  · exact holds_condRise_same _ _ hinfo hkind (by decide)
  · refine hframe.trans fun p hp => ?_
    simp at hp
    simp [hp]

/-- The state in which a feed just isolated has left, where it was PRESENT. -/
def feedCut (s : State) (f : Fin 2) : State :=
  if (feedOf s f.val).st = .present then feedLeft (setFeed s f.val { feedOf s f.val with st := .isolated, since := none, rangeF := true }) f.val
  else setFeed s f.val { feedOf s f.val with st := .isolated, since := none, rangeF := true }

theorem feedCut_does {s : State} (f : Fin 2) (hon : onIsland s = true) :
    feedOf (feedCut s f) f.val = { feedOf s f.val with st := .isolated, since := none, rangeF := true } ∧
    onIsland (feedCut s f) = true ∧
    ctrAt (feedCut s f) (cOff 1 (8 * f.val)) = (if (feedOf s f.val).st = .present then (ctrAt s (cOff 1 (8 * f.val))).add 1
      else ctrAt s (cOff 1 (8 * f.val))) ∧
    AgreeBut [.ctr, .flt, .rcd, .pwr] s (feedCut s f) := by
  have hset := onIsland_setFeed f.val { feedOf s f.val with st := .isolated, since := none, rangeF := true } hon
  have hframe : AgreeBut [.pwr] s (setFeed s f.val { feedOf s f.val with st := .isolated, since := none, rangeF := true }) :=
    fun p hp => setFeed_part p (by simpa using hp) _ _ _
  unfold feedCut
  split
  · obtain ⟨-, hcount, hleft⟩ := feedLeft_does f hset
    refine ⟨?_, onIsland_feedLeft f hset, hcount, (hframe.mono (by simp)).trans (hleft.mono (by simp))⟩
    rw [feedOf_feedLeft f hset, feedOf_setFeed_same]
  · exact ⟨feedOf_setFeed_same .., hset, rfl, hframe.mono (by simp)⟩

/-- A feed above 40.8 V is ISOLATED and raises FEED_RANGE (R517). -/
theorem feedIsolated_cut {s : State} (f : Fin 2) (hst : (feedOf s f.val).st ≠ .isolated) (hon : onIsland s = true) :
    feedIsolated s f.val = carryNow (condRise (feedCut s f) 1 2 0 2 0) := by
  rw [feedIsolated, if_neg hst]
  exact congrArg carryNow (if_pos (feedCut_does f hon).2.1)

/-! ## A feed qualifies -/

/-- The input stage of a feed that is PRESENT from now on. -/
def feedUp (x : Feed) : Feed := { x with st := .present, since := none, lostF := false, rangeF := false }

/-- Power once a feed is PRESENT. -/
def pwrFed (now : Nat) (p : PwrSt) : PwrSt :=
  { p with noFeed := none, feedBack := if p.brown then (p.feedBack.orElse (fun _ => some now)) else none, everPresent := true }

/-- The faults of a feed fall as it becomes PRESENT. -/
theorem feedPresent_eq (s : State) (f : Fin 2) : ∃ u, u.pwr = (carryNow (setFeed s f.val (feedUp (feedOf s f.val)))).pwr ∧
    holds u 1 f.val 0 = false ∧ AgreeBut [.flt, .pwr] s u ∧
    feedPresent s f.val = (if s.pwr.everPresent then modPwr u (pwrFed s.now) else bootStart (modPwr u (pwrFed s.now))) := by
  obtain ⟨s1, hs1⟩ : ∃ s1, carryNow (setFeed s f.val (feedUp (feedOf s f.val))) = s1 := ⟨_, rfl⟩
  obtain ⟨s2, hs2⟩ : ∃ s2, (if holds s1 1 f.val 0 then faultFall s1 1 f.val 0 else s1) = s2 := ⟨_, rfl⟩
  obtain ⟨s3, hs3⟩ : ∃ s3, (if !(feedOf s2 (1 - f.val)).rangeF && holds s2 1 2 0 then faultFall s2 1 2 0 else s2) = s3 := ⟨_, rfl⟩
  have hframe1 : AgreeBut [.flt, .pwr] s s1 := fun p hp => by simp at hp; simp [← hs1, hp]
  have hholds2 : holds s2 1 f.val 0 = false := by
    rw [← hs2]
    split
    · exact holds_faultFall_same ..
    · exact Bool.eq_false_iff.mpr ‹_›
  have hframe2 : AgreeBut [.flt] s1 s2 := fun p hp => by
    rw [← hs2]
    split
    · exact faultFall_part p (by simpa using hp) _ _ _ _
    · rfl
  have hframe3 : AgreeBut [.flt] s2 s3 := fun p hp => by
    rw [← hs3]
    split
    · exact faultFall_part p (by simpa using hp) _ _ _ _
    · rfl
  have hholds3 : holds s3 1 f.val 0 = holds s2 1 f.val 0 := by
    rw [← hs3]
    split
    · exact holds_faultFall_other _ _ _ _ (by have := f.isLt; omega)
    · rfl
  refine ⟨s3, ?_, hholds3.trans hholds2, hframe1.trans ((hframe2.trans hframe3).mono (by simp)), ?_⟩
  · rw [pwr_of_part (hframe3 .pwr (by decide)), pwr_of_part (hframe2 .pwr (by decide)), hs1]
  · rw [← hs3, ← hs2, ← hs1]
    rfl

/-- The feed that is PRESENT now, in power as `pwrFed` leaves it. -/
theorem feedOf_fed {s u : State} (f : Fin 2) (now : Nat) (h : u.pwr = (carryNow (setFeed s f.val (feedUp (feedOf s f.val)))).pwr) :
    feedOf (modPwr u (pwrFed now)) f.val =
      { feedUp (feedOf s f.val) with carry := carries (feedUp (feedOf s f.val)) (feedOf s (1 - f.val)) } := by
  have hsame : feedOf (modPwr u (pwrFed now)) f.val = feedOf (carryNow (setFeed s f.val (feedUp (feedOf s f.val)))) f.val := by
    rw [feedOf, modPwr_pwr, h]
    rfl
  rw [hsame, feedOf_carryNow, feedOf_setFeed_same, feedOf_setFeed_other _ _ (fin2_zero_ne f)]

/-- What the CARRY bits and the input stages leave of power. -/
theorem fed_rest {s u : State} (f : Fin 2) (h : u.pwr = (carryNow (setFeed s f.val (feedUp (feedOf s f.val)))).pwr) :
    ∃ a b, u.pwr = { s.pwr with feedA := a, feedB := b } := by
  match f with
  | 0 => exact ⟨_, _, h⟩
  | 1 => exact ⟨_, _, h⟩

/-! ## The release of reset -/

theorem feedFaults_pwr (s : State) : (feedFaults s).pwr = s.pwr := pwr_of_part (feedFaults_part .pwr (by decide) s)

/-- Where nothing holds the device the boot starts at t0, with PROFILE_SEL sampled (R537). -/
theorem bootStart_free {s : State} (hlow : s.pwr.boot.lowSince = none) (hbrown : s.pwr.brown = false) (hever : s.pwr.everPresent = true) :
    (bootStart s).pwr = { s.pwr with profSampled := s.pwr.profPins, boot := { t0 := s.now } } ∧
    AgreeBut [.ctr, .flt, .rcd, .pwr] s (bootStart s) := by
  have hfree : mustHold s = false := by simp [mustHold, hlow, hbrown, hever]
  rw [bootStart, if_neg (by simp [hfree]), feedFaults_pwr]
  exact ⟨rfl, fun p hp => by simp at hp; simp [hp]⟩

end Sys2Proof.Machine
end

section
/-! The samples of power and temperature, and the brown-out reset (R516 to R531). -/

namespace Sys2Proof.Machine

/-! ## Temperature (R531) -/

/-- The instant since which the readings ask for a change of THERM_HI. -/
def hiAsked (s : State) (t : Int) : Option Nat :=
  if (if holds s 1 5 0 then decide (t ≤ hiC s - 48) else decide (hiC s < t)) then some (s.pwr.hiSince.getD s.now) else none

/-- The instant since which the readings have been critical. -/
def critAsked (s : State) (now : Nat) (t : Int) : Option Nat := if 2560 ≤ t then some (s.pwr.critSince.getD now) else none

def setHiSince (s : State) (x : Option Nat) : State := modPwr s (fun p => { p with hiSince := x })

def setCritSince (s : State) (x : Option Nat) : State := modPwr s (fun p => { p with critSince := x })

/-- THERM_HI changes once the readings have asked for it for 1 ms. -/
def hiChange (s : State) (since : Option Nat) : State :=
  match since with
  | some t0 => if t0 + 1000000 ≤ s.now then
      setHiSince (if holds s 1 5 0 then faultFall (setHiSince s since) 1 5 0 else condRise (setHiSince s since) 1 5 0 5 0) none
    else setHiSince s since
  | none => setHiSince s since

/-- THERM_CRIT rises once the readings have been critical for 100 µs. -/
def critChange (s : State) (now : Nat) (since : Option Nat) : State :=
  match since with
  | some t0 => if t0 + 100000 ≤ now then condRise (setCritSince s since) 1 6 0 6 0 else setCritSince s since
  | none => setCritSince s since

/-- THERM_HI judged. -/
def thermHi (s : State) (t : Int) : State := hiChange s (hiAsked s t)

/-- THERM_CRIT judged. -/
def thermCrit (s : State) (now : Nat) (t : Int) : State := critChange s now (critAsked s now t)

theorem thermJudge_eq (s : State) (t : Int) : thermJudge s t = thermCrit (thermHi s t) s.now t := rfl

theorem setHiSince_pwr (s : State) (x : Option Nat) : (setHiSince s x).pwr = { s.pwr with hiSince := x } := rfl

theorem setCritSince_pwr (s : State) (x : Option Nat) : (setCritSince s x).pwr = { s.pwr with critSince := x } := rfl

theorem setHiSince_frame (s : State) (x : Option Nat) : AgreeBut [.pwr] s (setHiSince s x) :=
  fun p hp => modPwr_part p (by simpa using hp) _ _

theorem setCritSince_frame (s : State) (x : Option Nat) : AgreeBut [.pwr] s (setCritSince s x) :=
  fun p hp => modPwr_part p (by simpa using hp) _ _

/-- HI_C is at most 150 °C. -/
theorem hiC_le (s : State) : hiC s ≤ 2400 := by
  have hclamp : clamp 80 150 (rf s .pwrThermCfg [] 7 0) ≤ 150 := by
    unfold clamp
    split
    · decide
    · split
      · decide
      · omega
  simp only [hiC]
  omega

theorem thermCrit_cool {s : State} {now : Nat} {t : Int} (h : t < 2560) : thermCrit s now t = setCritSince s none := by
  rw [thermCrit, critAsked, if_neg (Int.not_le.mpr h), critChange]

theorem thermCrit_due {s : State} {now h : Nat} {t : Int} (ht : 2560 ≤ t) (hcrit : s.pwr.critSince = some h) (hdue : h + 100000 ≤ now) :
    thermCrit s now t = condRise (setCritSince s (some h)) 1 6 0 6 0 := by
  rw [thermCrit, critAsked, if_pos ht, hcrit, critChange]
  exact if_pos hdue

/-- A reading that asks for no change of THERM_HI. -/
theorem thermHi_calm {s : State} {t : Int} (hhot : holds s 1 5 0 = false) (ht : t ≤ hiC s) : thermHi s t = setHiSince s none := by
  have hasked : hiAsked s t = none := by simp [hiAsked, hhot, ht]
  rw [thermHi, hasked, hiChange]

/-- One above HI_C, for less than 1 ms. -/
theorem thermHi_waits {s : State} {t : Int} (hhot : holds s 1 5 0 = false) (ht : hiC s < t)
    (hwait : s.now < s.pwr.hiSince.getD s.now + 1000000) : thermHi s t = setHiSince s (some (s.pwr.hiSince.getD s.now)) := by
  have hasked : hiAsked s t = some (s.pwr.hiSince.getD s.now) := by simp [hiAsked, hhot, ht]
  rw [thermHi, hasked, hiChange]
  exact if_neg (Nat.not_le.mpr hwait)

/-- One above HI_C for 1 ms raises THERM_HI. -/
theorem thermHi_rises {s : State} {t : Int} {h : Nat} (hhot : holds s 1 5 0 = false) (ht : hiC s < t) (hsince : s.pwr.hiSince = some h)
    (hdue : h + 1000000 ≤ s.now) : thermHi s t = setHiSince (faultRise (setHiSince s (some h)) 1 5 0 5 0) none := by
  have hasked : hiAsked s t = some h := by simp [hiAsked, hhot, ht, hsince]
  have hrise : condRise (setHiSince s (some h)) 1 5 0 5 0 = faultRise (setHiSince s (some h)) 1 5 0 5 0 := condRise_new _ _ hhot
  rw [thermHi, hasked, hiChange]
  rw [if_pos hdue, hhot, if_neg Bool.false_ne_true, hrise]

/-- One 3 °C below HI_C for 1 ms takes it back. -/
theorem thermHi_falls {s : State} {t : Int} {h : Nat} (hhot : holds s 1 5 0 = true) (ht : t ≤ hiC s - 48) (hsince : s.pwr.hiSince = some h)
    (hdue : h + 1000000 ≤ s.now) : thermHi s t = setHiSince (faultFall (setHiSince s (some h)) 1 5 0) none := by
  have hasked : hiAsked s t = some h := by simp [hiAsked, hhot, ht, hsince]
  rw [thermHi, hasked, hiChange]
  rw [if_pos hdue, if_pos hhot]

/-- THERM_HI's judgement leaves THERM_CRIT's own time and source. -/
theorem thermHi_frame (s : State) (t : Int) : (∃ x, (thermHi s t).pwr = { s.pwr with hiSince := x }) ∧
    holds (thermHi s t) 1 6 0 = holds s 1 6 0 ∧ AgreeBut [.ctr, .flt, .rcd, .pwr] s (thermHi s t) := by
  have hset : ∀ (u : State) (x : Option Nat), AgreeBut [.ctr, .flt, .rcd, .pwr] u (setHiSince u x) :=
    fun u x => (setHiSince_frame u x).mono (by simp)
  rw [thermHi]
  generalize hiAsked s t = x
  unfold hiChange
  split
  · split
    · split
      · refine ⟨⟨none, ?_⟩, ?_,
          (hset s _).trans (AgreeBut.trans (fun p hp => faultFall_part p (by simp at hp; simp [hp]) _ _ _ _) (hset _ none))⟩
        · rw [setHiSince_pwr, faultFall_pwr, setHiSince_pwr]
        · exact holds_faultFall_other (setHiSince s _) 1 5 0 (by decide)
      · refine ⟨⟨none, ?_⟩, ?_,
          (hset s _).trans (AgreeBut.trans (fun p hp => condRise_part p (by simp at hp; simp [hp]) _ _ _ _ _ _) (hset _ none))⟩
        · rw [setHiSince_pwr, condRise_pwr, setHiSince_pwr]
        · exact holds_condRise_other (s := setHiSince s _) (i := ⟨2, true, _⟩) 5 0 rfl rfl (by decide)
    · exact ⟨⟨_, rfl⟩, rfl, hset s _⟩
  · exact ⟨⟨none, rfl⟩, rfl, hset s none⟩

/-- The readings of a due sample are shown and gathered for the recorder, and then judged (R530, R531). -/
theorem thermSample_taken {s : State} {f q : List (BitVec 16)} {a b : Int × Nat} (hon : onIsland s = true) (ha : hottest f 0 none = some a)
    (hb : hottest q 0 none = some b) (hdue : s.pwr.thermDue ≤ s.now) :
    ∃ u, execThermSample f q s = ok (thermJudge u (max a.1 b.1)) ∧
      u.pwr = { s.pwr with thermDue := s.now + 100000, thermF := a, thermQ := b } ∧ AgreeBut [.rcd, .pwr] s u := by
  refine ⟨gather (gather (modPwr (modPwr s (fun p => { p with thermDue := s.now + 100000 })) (fun p => { p with thermF := a, thermQ := b })) 0
    a.1) 1 b.1, ?_, ?_, fun p hp => ?_⟩
  · rw [execThermSample, if_pos (by simp [hon, hdue]), thermSample, ha, hb]
  · rfl
  · simp at hp
    simp [hp]

/-! ## Power samples (R521) -/

/-- A maximum register holds the larger of its old value and the new one. -/
theorem rf_maxRF_same (s : State) (r : Reg) (idx : List Nat) {hi lo v : Nat} (hhi : hi < 32) (hv : v < 2 ^ (hi + 1 - lo)) :
    rf (maxRF s r idx hi lo v) r idx hi lo = max v (rf s r idx hi lo) := by
  unfold maxRF
  split
  · rw [rf_setRF_same _ _ _ _ _ _ hhi, Nat.mod_eq_of_lt hv]
    omega
  · omega

theorem maxRF_pwr (s : State) (r : Reg) (idx : List Nat) (hi lo v : Nat) : (maxRF s r idx hi lo v).pwr = s.pwr :=
  pwr_of_part (maxRF_part .pwr (by decide) ..)

theorem rf_gather (s : State) (q : Nat) (v : Int) (r : Reg) (idx : List Nat) (hi lo : Nat) :
    rf (gather s q v) r idx hi lo = rf s r idx hi lo := rfl

/-- The readings of a power sample, before CARRY is set by them. -/
def powerRead (s : State) (va vb ca cb w : Nat) : State :=
  modPwr s (fun p => { p with
    feedA := { p.feedA with volt := va, cur := ca }, feedB := { p.feedB with volt := vb, cur := cb }, power := w })

theorem powerSample_does (s : State) (va vb ca cb : Nat) {w : Nat} (hw : w < 65536) :
    (powerSample s va vb ca cb w).pwr = (carryNow (powerRead s va vb ca cb w)).pwr ∧
    rf (powerSample s va vb ca cb w) .pwrInputPeak [] 15 0 = max w (rf s .pwrInputPeak [] 15 0) ∧
    AgreeBut [.regs, .rcd, .pwr] s (powerSample s va vb ca cb w) := by
  have hread : ∀ r idx hi lo, rf (carryNow (powerRead s va vb ca cb w)) r idx hi lo = rf s r idx hi lo := fun _ _ _ _ => rfl
  have hrun : powerSample s va vb ca cb w =
      gather (gather (gather (maxRF (carryNow (powerRead s va vb ca cb w)) .pwrInputPeak [] 15 0 w) 3 w) 4 va) 5 vb := rfl
  rw [hrun]
  refine ⟨?_, ?_, fun p hp => ?_⟩
  · rw [pwr_of_part (gather_part .pwr (by decide) _ _ _), pwr_of_part (gather_part .pwr (by decide) _ _ _),
      pwr_of_part (gather_part .pwr (by decide) _ _ _), maxRF_pwr]
  · rw [rf_gather, rf_gather, rf_gather, rf_maxRF_same _ _ _ (by decide) hw, hread]
  · simp at hp
    simp [powerRead, hp]

/-! ## Brown-out reset (R519, R535) -/

/-- A cause that joins CLK_RST_CAUSE leaves the others. -/
theorem rstCause_bits (s : State) (bit : Nat) (h : bit < 32) :
    rb (rstCause s bit) .clkRstCause [] bit = true ∧
    ∀ k, k ≠ bit → rb (rstCause s bit) .clkRstCause [] k = rb s .clkRstCause [] k := by
  refine ⟨rb_setRB_same _ _ _ _ _ h, fun k hk => ?_⟩
  simp only [rb, rf, rstCause, setRB, setRF, regRaw_setReg_same]
  rw [fld_setFld_other _ _ _ _ _ _ (by omega)]

/-- A full reset keeps CLK_RST_CAUSE (R535). -/
theorem cause_fullReset (s : State) (b : BootSt) : regRaw (fullReset s b) .clkRstCause [] = regRaw s .clkRstCause [] :=
  regRaw_setReg_same ..

theorem causeBit_fullReset (s : State) (b : BootSt) (k : Nat) : rb (fullReset s b) .clkRstCause [] k = rb s .clkRstCause [] k := by
  rw [rb, rf, cause_fullReset, rb, rf]

end Sys2Proof.Machine
end

section
/-! The statement about feeds and temperature (R516 to R531). -/

namespace Sys2Proof.Machine

/-- The start of the 10 ms in range: kept, or now (Table 19.1). -/
theorem inRange_since {mv : Nat} (x : Option Nat) (now : Nat) (hlo : 6000 ≤ mv) :
    (if 6000 ≤ mv ∧ mv ≤ 40000 then (x.orElse fun _ => some now) else none) = (if mv ≤ 40000 then some (x.getD now) else none) := by
  refine if_congr (and_iff_right hlo) ?_ rfl
  cases x with
  | none => rfl
  | some a => rfl

theorem feedInRange_lost {s : State} {f mv : Nat} (hst : (feedOf s f).st = .lost) (hlo : 6000 ≤ mv) (hhi : mv ≤ 40800) :
    feedInRange s f mv = setFeed s f { feedOf s f with
      st := .qualifying, since := (if mv ≤ 40000 then some ((feedOf s f).since.getD s.now) else none) } := by
  rw [feedInRange, inRange_since _ _ hlo, hst]
  exact if_pos ⟨hlo, hhi⟩

theorem feedInRange_isolated {s : State} {f mv : Nat} (hst : (feedOf s f).st = .isolated) (hlo : 6000 ≤ mv) (hhi : mv ≤ 40000) :
    feedInRange s f mv = setFeed s f { feedOf s f with
      st := .qualifying, since := (if mv ≤ 40000 then some ((feedOf s f).since.getD s.now) else none) } := by
  rw [feedInRange, inRange_since _ _ hlo, hst]
  exact if_pos ⟨hlo, hhi⟩

/-- A qualifying feed outside the range starts its 10 ms again. -/
theorem feedInRange_breaks {s : State} {f mv : Nat} (hst : (feedOf s f).st = .qualifying) (hout : mv < 6000 ∨ 40000 < mv) :
    feedInRange s f mv = setFeed s f { feedOf s f with since := none } := by
  have hno : ¬ (6000 ≤ mv ∧ mv ≤ 40000) := by omega
  simp only [feedInRange, hst, if_neg hno]

/-- A feed that has been in range for 10 ms is PRESENT. -/
theorem feedQualified_due {s : State} {f a : Nat} (hst : (feedOf s f).st = .qualifying) (hsince : (feedOf s f).since = some a)
    (hdue : a + 10000000 ≤ s.now) : feedQualified s f = feedPresent s f := by
  rw [feedQualified, hst, hsince]
  exact if_pos hdue

theorem holds_of_flt {s t : State} (h : t.flt = s.flt) (b k u : Nat) : holds t b k u = holds s b k u := by
  rw [holds, h, holds]

theorem hiC_of_regs {s t : State} (h : t.regs = s.regs) : hiC t = hiC s := by
  rw [hiC, rf, regRaw, h, hiC, rf, regRaw]

theorem setFeed_frame (s : State) (f : Nat) (x : Feed) : AgreeBut [.pwr] s (setFeed s f x) :=
  fun p hp => setFeed_part p (by simpa using hp) _ _ _

/-- Settles O57: the feeds by the input stage of the feed named and of the other (`feedOf_carryNow`), the temperature by the judgement of
THERM_HI and then of THERM_CRIT (`thermJudge_eq`), where HI_C is at most 150 °C and so below THERM_CRIT's threshold. -/
theorem feedsAndTemperature : Obligations.FeedsAndTemperature := by
  unfold Obligations.FeedsAndTemperature
  refine ⟨fun f a s hst hsince hdue hever hbrown => ?qualified, fun f a s hst hsince hdue hever hbrown hback => ?qualifiedBrown,
    fun f a s hst hsince hdue hever hbrown hlow => ?first, fun f s hnot => ?notQualifying, fun f a s hsince hearly => ?tooEarly,
    fun f s hst hon hother => ?lost, fun f s hst hon hother => ?lostAlone, fun f s hst => ?breaks, fun f mv s hmv hst hon => ?isolated,
    fun f mv s hmv => ?noOvervolt, fun f mv s hst hlo hhi => ?lostBack, fun f mv s hst hlo hhi => ?isolatedBack,
    fun f mv s hst hout => ?outOfRange, fun f mv s hst => ?presentInRange, fun a s hno hever hbrown hdue => ?brownEnters,
    fun a s hno hearly => ?brownWaits, fun s hnot => ?brownNot, fun a s hback hbrown hdue hlow hever => ?brownExits,
    fun a s hback hbrown hdue hlow => ?brownPin, fun a s hback hearly => ?brownBackEarly,
    fun f q a b s hon ha hb hhot hcool hdue => ?calm, fun f q a b s hon ha hb hhot hhi hcrit hwait hdue => ?waits,
    fun f q a b h s hon ha hb hhot hhi hcrit hsince htime hdue => ?rises,
    fun f q a b h s hon ha hb hhot hlo hsince htime hdue => ?falls,
    fun f q a b h s hon ha hb hcrit hsince htime hnot hdue => ?critical, fun f q s hearly => ?thermEarly,
    fun va vb ca cb w s hearly => ?powerEarly, fun va vb ca cb w s hon ha hb hdue => ?power⟩
  case qualified =>
    obtain ⟨u, hpwr, hholds, hframe, hend⟩ := feedPresent_eq s f
    rw [hever, if_pos rfl] at hend
    obtain ⟨x, y, hrest⟩ := fed_rest f hpwr
    have hfed := feedOf_fed f s.now hpwr
    refine ⟨_, congrArg Host.Outcome.next ((feedQualified_due hst hsince hdue).trans hend), ?_, ?_, hholds, ?_, hframe.trans fun p hp => modPwr_part p (by simp at hp; simp [hp]) _ _⟩
    · rw [hfed]
      rfl
    · simp [pwrFed, hrest, hbrown]
    · simp [pwrFed, hrest]
  case qualifiedBrown =>
    obtain ⟨u, hpwr, -, hframe, hend⟩ := feedPresent_eq s f
    rw [hever, if_pos rfl] at hend
    obtain ⟨x, y, hrest⟩ := fed_rest f hpwr
    refine ⟨_, congrArg Host.Outcome.next ((feedQualified_due hst hsince hdue).trans hend), ?_, ?_, ?_, hframe.trans fun p hp => modPwr_part p (by simp at hp; simp [hp]) _ _⟩
    · rw [feedOf_fed f s.now hpwr]
      rfl
    · simp [pwrFed, hrest, hbrown, hback]
    · simp [pwrFed, hrest]
  case first =>
    obtain ⟨u, hpwr, -, hframe, hend⟩ := feedPresent_eq s f
    rw [hever, if_neg Bool.false_ne_true] at hend
    obtain ⟨x, y, hrest⟩ := fed_rest f hpwr
    have hmod : AgreeBut [.flt, .pwr] s (modPwr u (pwrFed s.now)) := hframe.trans fun p hp => modPwr_part p (by simp at hp; simp [hp]) _ _
    obtain ⟨hboot, hstart⟩ := bootStart_free (s := modPwr u (pwrFed s.now)) (by simp [pwrFed, hrest, hlow]) (by simp [pwrFed, hrest, hbrown])
      (by simp [pwrFed])
    refine ⟨_, congrArg Host.Outcome.next ((feedQualified_due hst hsince hdue).trans hend), ?_, ?_, ?_, ?_, (hmod.mono (by simp)).trans hstart⟩
    · have hsame : feedOf (bootStart (modPwr u (pwrFed s.now))) f.val = feedOf (modPwr u (pwrFed s.now)) f.val := by
        rw [feedOf, hboot, feedOf]
      rw [hsame, feedOf_fed f s.now hpwr]
      rfl
    · rw [hboot]
      rfl
    · rw [hboot, now_of_part (hmod .now (by decide))]
    · rw [hboot]
      simp [pwrFed, hrest]
  case notQualifying =>
    refine congrArg Host.Outcome.next ?_
    rw [feedQualified]
    split
    · rename_i hs ha
      rcases hnot with hne | hnone
      · exact absurd hs hne
      · exact absurd (hnone.symm.trans ha) (by simp)
    · rfl
  case tooEarly =>
    refine congrArg Host.Outcome.next ?_
    rw [feedQualified, hsince]
    split
    · rename_i ha
      obtain rfl := Option.some.inj ha
      exact if_neg (by omega)
    · rfl
  case lost =>
    obtain ⟨t, hend, hself, hpeer, hno, hcount, hholds, hframe⟩ := lost_does f hst hon
    refine ⟨t, congrArg Host.Outcome.next hend, by rw [hself], hcount, hholds, by rw [hno, if_pos hother], ?_, hframe⟩
    rw [hpeer, hother]
    rfl
  case lostAlone =>
    obtain ⟨t, hend, hself, -, hno, hcount, -, hframe⟩ := lost_does f hst hon
    exact ⟨t, congrArg Host.Outcome.next hend, by rw [hself], hcount, by rw [hno, if_neg hother], hframe⟩
  case breaks =>
    refine ⟨_, congrArg Host.Outcome.next (if_pos hst), feedOf_setFeed_same .., feedOf_setFeed_other _ _ (fin2_zero_ne f), setFeed_frame _ _ _⟩
  case isolated =>
    obtain ⟨hself, hisl, hcount, hframe⟩ := feedCut_does f hon
    have hend : (if 40800 < mv.val then feedIsolated s f.val else s) = carryNow (condRise (feedCut s f) 1 2 0 2 0) := by
      rw [if_pos hmv, feedIsolated_cut f hst hon]
    refine ⟨_, congrArg Host.Outcome.next hend, ?_, ?_, ?_, hframe.trans fun p hp => ?_⟩
    · rw [feedOf_carryNow, feedOf_of_pwr (condRise_pwr ..), hself]
      rfl
    · exact holds_condRise_same (i := ⟨1, true, _⟩) _ _ rfl rfl (by decide)
    · rw [ctrAt_carryNow, ctrAt_condRise_other _ _ _ _ _ _ (by simp only [cOff]; omega), hcount]
    · simp at hp
      simp [hp]
  case noOvervolt => exact congrArg Host.Outcome.next (if_neg (Nat.not_lt.mpr hmv))
  case lostBack =>
    exact ⟨_, congrArg Host.Outcome.next (feedInRange_lost hst hlo hhi), feedOf_setFeed_same .., feedOf_setFeed_other _ _ (fin2_zero_ne f),
      setFeed_frame _ _ _⟩
  case isolatedBack =>
    exact ⟨_, congrArg Host.Outcome.next (feedInRange_isolated hst hlo hhi), feedOf_setFeed_same .., setFeed_frame _ _ _⟩
  case outOfRange =>
    exact ⟨_, congrArg Host.Outcome.next (feedInRange_breaks hst hout), feedOf_setFeed_same .., setFeed_frame _ _ _⟩
  case presentInRange =>
    have hend : feedInRange s f.val mv.val = s := by rw [feedInRange, hst]
    exact congrArg Host.Outcome.next hend
  case brownEnters =>
    have hend : execBrownoutEnter s = ok (brownEnter s) := by
      rw [execBrownoutEnter, hno]
      exact congrArg Host.Outcome.next (if_pos (by simp [hever, hbrown, hdue]))
    obtain ⟨hset, hkeep⟩ := rstCause_bits (modPwr (fullReset s { held := true, lowSince := s.pwr.boot.lowSince })
      (fun p => { p with brown := true, feedBack := none })) 29 (by decide)
    have hcause : ∀ k, k ≠ 29 → rb (brownEnter s) .clkRstCause [] k = rb s .clkRstCause [] k := fun k hk =>
      (hkeep k hk).trans (causeBit_fullReset s _ k)
    refine ⟨_, hend, rfl, rfl, rfl, rfl, rfl, rfl, rfl, rfl, rfl, rfl, rfl, rfl, rfl, rfl, rfl, rfl, rfl, rfl, hset, hcause 31 (by decide),
      hcause 30 (by decide), fun p hp => ?_⟩
    exact brownEnter_part p (by simp at hp; simp [hp]) s
  case brownWaits =>
    refine congrArg Host.Outcome.next ?_
    rw [hno]
    exact if_neg (by simp; omega)
  case brownNot =>
    refine congrArg Host.Outcome.next ?_
    split
    · rename_i hsome
      refine if_neg ?_
      rcases hnot with hnone | hever | hbrown
      · exact absurd (hnone.symm.trans hsome) (by simp)
      · simp [hever]
      · simp [hbrown]
    · rfl
  case brownExits =>
    have hend : execBrownoutExit s = ok (bootStart (modPwr s (fun p => { p with brown := false, feedBack := none }))) := by
      rw [execBrownoutExit, hback]
      exact congrArg Host.Outcome.next (if_pos (by simp [hbrown, hdue]))
    obtain ⟨hboot, hstart⟩ := bootStart_free (s := modPwr s (fun p => { p with brown := false, feedBack := none })) hlow rfl hever
    refine ⟨_, hend, by rw [hboot]; rfl, by rw [hboot]; rfl, by rw [hboot]; rfl, AgreeBut.trans (fun p hp => ?_) hstart⟩
    exact modPwr_part p (by simp at hp; simp [hp]) _ _
  case brownPin =>
    have hend : execBrownoutExit s = ok (modPwr s (fun p => { p with brown := false, feedBack := none })) := by
      rw [execBrownoutExit, hback]
      refine congrArg Host.Outcome.next ((if_pos (by simp [hbrown, hdue])).trans (if_pos ?_))
      simp [mustHold, Option.isSome_iff_ne_none.mpr hlow]
    exact ⟨_, hend, rfl, rfl, fun p hp => modPwr_part p (by simpa using hp) _ _⟩
  case brownBackEarly =>
    refine congrArg Host.Outcome.next ?_
    rw [hback]
    exact if_neg (by simp; omega)
  case calm =>
    obtain ⟨u, hend, hpwr, hframe⟩ := thermSample_taken hon ha hb hdue
    have hhot' := (holds_of_flt (flt_of_part (hframe .flt (by decide))) 1 5 0).trans hhot
    have hcool' : max a.1 b.1 ≤ hiC u := (hiC_of_regs (regs_of_part (hframe .regs (by decide)))).symm ▸ hcool
    have hbelow : max a.1 b.1 < 2560 := by have := hiC_le s; omega
    rw [thermJudge_eq, thermHi_calm hhot' hcool', thermCrit_cool hbelow] at hend
    refine ⟨_, hend, ?_, ?_, flt_of_part (hframe .flt (by decide)), hframe.trans fun p hp => ?_⟩
    · rw [setCritSince_pwr, setHiSince_pwr, hpwr]
    · rw [setCritSince_pwr]
      rfl
    · exact ((setCritSince_frame _ none).mono (by simp) p hp).trans ((setHiSince_frame u none).mono (by simp) p hp)
  case waits =>
    obtain ⟨u, hend, hpwr, hframe⟩ := thermSample_taken hon ha hb hdue
    have hnow : u.now = s.now := now_of_part (hframe .now (by decide))
    have hhot' := (holds_of_flt (flt_of_part (hframe .flt (by decide))) 1 5 0).trans hhot
    have hhi' : hiC u < max a.1 b.1 := (hiC_of_regs (regs_of_part (hframe .regs (by decide)))).symm ▸ hhi
    have hwait' : u.now < u.pwr.hiSince.getD u.now + 1000000 := by
      rw [hpwr, hnow]
      exact hwait
    rw [thermJudge_eq, thermHi_waits hhot' hhi' hwait', thermCrit_cool hcrit] at hend
    refine ⟨_, hend, ?_, ?_, flt_of_part (hframe .flt (by decide)), hframe.trans fun p hp => ?_⟩
    · rw [setCritSince_pwr, setHiSince_pwr, hpwr]
    · rw [setCritSince_pwr, setHiSince_pwr, hpwr, hnow]
    · exact ((setCritSince_frame _ none).mono (by simp) p hp).trans ((setHiSince_frame u _).mono (by simp) p hp)
  case rises =>
    obtain ⟨u, hend, hpwr, hframe⟩ := thermSample_taken hon ha hb hdue
    have hhot' := (holds_of_flt (flt_of_part (hframe .flt (by decide))) 1 5 0).trans hhot
    have hhi' : hiC u < max a.1 b.1 := (hiC_of_regs (regs_of_part (hframe .regs (by decide)))).symm ▸ hhi
    have hsince' : u.pwr.hiSince = some h := by
      rw [hpwr]
      exact hsince
    have htime' : h + 1000000 ≤ u.now := (now_of_part (hframe .now (by decide))).symm ▸ htime
    rw [thermJudge_eq, thermHi_rises hhot' hhi' hsince' htime', thermCrit_cool hcrit] at hend
    obtain ⟨v, hv⟩ : ∃ v, faultRise (setHiSince u (some h)) 1 5 0 5 0 = v := ⟨_, rfl⟩
    have hholds : holds v 1 5 0 = true := by
      rw [← hv, holds, held_faultRise (i := ⟨2, true, _⟩) _ _ _ rfl rfl]
      exact SMap.get_set_same ..
    have hlive : tbit (fltOf v 1).live 5 = true := by
      rw [← hv, fltOf_faultRise_same (i := ⟨2, true, _⟩) _ _ _ rfl, rise_live]
      exact tbit_setBit_same _ _ _ (by decide)
    have hvpwr : v.pwr = { u.pwr with hiSince := some h } := by
      rw [← hv, pwr_of_part (faultRise_part .pwr (by decide) _ _ _ _ _ _), setHiSince_pwr]
    have hvframe : AgreeBut [.ctr, .flt, .rcd, .pwr] u v := by
      refine ((setHiSince_frame u (some h)).mono (by simp)).trans fun p hp => ?_
      rw [← hv]
      exact faultRise_part p (by simp at hp; simp [hp]) _ _ _ _ _ _
    rw [hv] at hend
    refine ⟨_, hend, ?_, hholds, hlive, ?_, ((hframe.mono (by simp)).trans hvframe).trans fun p hp => ?_⟩
    · rw [setCritSince_pwr, setHiSince_pwr, hvpwr, hpwr]
    · rw [setCritSince_pwr, setHiSince_pwr]
    · exact ((setCritSince_frame _ none).mono (by simp) p hp).trans ((setHiSince_frame v _).mono (by simp) p hp)
  case falls =>
    obtain ⟨u, hend, hpwr, hframe⟩ := thermSample_taken hon ha hb hdue
    have hhot' := (holds_of_flt (flt_of_part (hframe .flt (by decide))) 1 5 0).trans hhot
    have hlo' : max a.1 b.1 ≤ hiC u - 48 := (hiC_of_regs (regs_of_part (hframe .regs (by decide)))).symm ▸ hlo
    have hbelow : max a.1 b.1 < 2560 := by have := hiC_le s; omega
    have hsince' : u.pwr.hiSince = some h := by
      rw [hpwr]
      exact hsince
    have htime' : h + 1000000 ≤ u.now := (now_of_part (hframe .now (by decide))).symm ▸ htime
    rw [thermJudge_eq, thermHi_falls hhot' hlo' hsince' htime', thermCrit_cool hbelow] at hend
    obtain ⟨v, hv⟩ : ∃ v, faultFall (setHiSince u (some h)) 1 5 0 = v := ⟨_, rfl⟩
    have hholds : holds v 1 5 0 = false := hv ▸ holds_faultFall_same ..
    have hvpwr : v.pwr = { u.pwr with hiSince := some h } := by
      rw [← hv, faultFall_pwr, setHiSince_pwr]
    have hvframe : AgreeBut [.flt, .rcd, .pwr] u v := by
      refine ((setHiSince_frame u (some h)).mono (by simp)).trans fun p hp => ?_
      rw [← hv]
      exact faultFall_part p (by simp at hp; simp [hp]) _ _ _ _
    rw [hv] at hend
    refine ⟨_, hend, ?_, hholds, ?_, ((hframe.mono (by simp)).trans hvframe).trans fun p hp => ?_⟩
    · rw [setCritSince_pwr, setHiSince_pwr, hvpwr, hpwr]
    · rw [setCritSince_pwr, setHiSince_pwr]
    · exact ((setCritSince_frame _ none).mono (by simp) p hp).trans ((setHiSince_frame v _).mono (by simp) p hp)
  case critical =>
    obtain ⟨u, hend, hpwr, hframe⟩ := thermSample_taken hon ha hb hdue
    obtain ⟨⟨x, hjpwr⟩, hjholds, hjframe⟩ := thermHi_frame u (max a.1 b.1)
    have hsince' : (thermHi u (max a.1 b.1)).pwr.critSince = some h := by
      rw [hjpwr, hpwr]
      exact hsince
    have htime' : h + 100000 ≤ u.now := (now_of_part (hframe .now (by decide))).symm ▸ htime
    rw [thermJudge_eq, thermCrit_due hcrit hsince' htime'] at hend
    obtain ⟨v, hv⟩ : ∃ v, setCritSince (thermHi u (max a.1 b.1)) (some h) = v := ⟨_, rfl⟩
    have hvnot : holds v 1 6 0 = false := by
      rw [← hv]
      exact hjholds.trans ((holds_of_flt (flt_of_part (hframe .flt (by decide))) 1 6 0).trans hnot)
    have hvframe : AgreeBut [.ctr, .flt, .rcd, .pwr] s v :=
      ((hframe.mono (by simp)).trans hjframe).trans (hv ▸ (setCritSince_frame _ (some h)).mono (by simp))
    have hvpwr : v.pwr = { (thermHi u (max a.1 b.1)).pwr with critSince := some h } := by rw [← hv, setCritSince_pwr]
    rw [hv] at hend
    refine ⟨_, hend, ?_, ?_, holds_condRise_same (i := ⟨3, true, _⟩) _ _ rfl rfl (by decide), hvframe.trans fun p hp => ?_⟩
    · rw [condRise_pwr, hvpwr, hjpwr, hpwr]
    · rw [condRise_new _ _ hvnot]
      exact fatal_faultRise (i := ⟨3, true, _⟩) _ _ _ rfl rfl
    · exact condRise_part p (by simp at hp; simp [hp]) _ _ _ _ _ _
  case thermEarly => exact congrArg Host.Outcome.next (if_neg (by simp; omega))
  case powerEarly => exact congrArg Host.Outcome.next (if_neg (by simp; omega))
  case power =>
    obtain ⟨v, hv⟩ : ∃ v, modPwr s (fun p => { p with powerDue := s.now + 100000 }) = v := ⟨_, rfl⟩
    have hvpwr : v.pwr = { s.pwr with powerDue := s.now + 100000 } := by rw [← hv, modPwr_pwr]
    have hvframe : AgreeBut [.pwr] s v := hv ▸ fun p hp => modPwr_part p (by simpa using hp) _ _
    have hend : execPowerSample va vb ca cb w s = ok (powerSample v va.val vb.val ca.val cb.val w.val) := by
      rw [← hv]
      exact congrArg Host.Outcome.next (if_pos (by simp [hon, hdue]))
    obtain ⟨hpwr, hpeak, hframe⟩ := powerSample_does v va.val vb.val ca.val cb.val w.isLt
    have hread : (carryNow (powerRead v va.val vb.val ca.val cb.val w.val)).pwr = { s.pwr with
        powerDue := s.now + 100000, power := w.val
        feedA := { s.pwr.feedA with volt := va.val, cur := ca.val, carry := decide (vb.val ≤ va.val + 300) }
        feedB := { s.pwr.feedB with volt := vb.val, cur := cb.val, carry := decide (va.val ≤ vb.val + 300) } } := by
      simp [carryNow, powerRead, hvpwr, ha, hb]
    rw [hread] at hpwr
    generalize powerSample v va.val vb.val ca.val cb.val w.val = t at hend hpwr hpeak hframe
    refine ⟨t, hend, ?_, ?_, ?_, ?_, ?_, (hvframe.mono (by simp)).trans hframe⟩
    · rw [hpwr]
    · rw [hpwr]
    · rw [hpwr]
    · rw [hpwr]
    · rw [hpwr, hpeak, rf, regRaw, regs_of_part (hvframe .regs (by decide)), rf, regRaw]

end Sys2Proof.Machine
end

section
/-! The statement about domains, references and resets: a switch on of a domain that is OFF. -/

namespace Sys2Proof.Machine

/-- A write of PWR_DOM_CMD with GO is a switch of its DOMAIN (R523). -/
theorem pwrDomCmd_write (s : State) (d : Fin 128) : writeReg s .pwrDomCmd [] (mkF 31 30 3 ||| mkF 6 0 d.val) = (domCmd s d.val true, false) := by
  have hfields : tbit (mkF 31 30 3 ||| mkF 6 0 d.val) 31 = true ∧ tbit (mkF 31 30 3 ||| mkF 6 0 d.val) 30 = true ∧
      fld (mkF 31 30 3 ||| mkF 6 0 d.val) 6 0 = d.val := by
    revert d
    decide
  obtain ⟨hgo, hon, hdom⟩ := hfields
  show ((if tbit (mkF 31 30 3 ||| mkF 6 0 d.val) 31 then domCmd s (fld (mkF 31 30 3 ||| mkF 6 0 d.val) 6 0)
    (tbit (mkF 31 30 3 ||| mkF 6 0 d.val) 30) else s), false) = _
  rw [if_pos hgo, hdom, hon]

/-- A domain that is off, and for which no request waits, is not where a switch on takes it. -/
theorem domThere_off {s : State} {d : Nat} (hst : domSt s d = .off ∨ domSt s d = .tripped) (hq : s.pwr.rampq = []) :
    domThere s d true = false := by
  unfold domThere
  rcases hst with h | h
  · rw [domSt] at h
    simp [hq, h]
  · rw [domSt] at h
    simp [hq, h]

/-- With room to ramp, a switch on of a domain that is off begins at once, and DOMAIN_OC falls (R527, R529). -/
theorem domStart_on {s : State} {d : Nat} (hst : domSt s d = .off ∨ domSt s d = .tripped) (hq : s.pwr.rampq = []) (hroom : ramping s < 32) :
    ∃ t, domStart s d true = t ∧ t.pwr.doms.get {} d = { st := .switching, toOn := true } ∧ holds t 1 3 d = false ∧ AgreeBut [.flt, .pwr] s t := by
  have hends : domEnds s d = s := by
    rw [domEnds, if_neg]
    rcases hst with h | h
    · exact fun hs => absurd (h.symm.trans hs) (by decide)
    · exact fun hs => absurd (h.symm.trans hs) (by decide)
  obtain ⟨u, hu⟩ : ∃ u : State, { s with pwr := { s.pwr with rampq := [(d, true)] } } = u := ⟨_, rfl⟩
  obtain ⟨v, hv⟩ : ∃ v, rampStart u d true = v := ⟨_, rfl⟩
  have hstart : domStart s d true = { v with pwr := { v.pwr with rampq := [] } } := by
    have hfree : (decide (32 ≤ ramping u) || domSt u d == .switching) = false := by
      have hramp : ramping u = ramping s := hu ▸ rfl
      have hsame : domSt u d = domSt s d := hu ▸ rfl
      rw [hramp, hsame]
      rcases hst with h | h
      · simp [h, hroom]
      · simp [h, hroom]
    have hdiff : (domSt u d == .on) = false := by
      have hsame : domSt u d = domSt s d := hu ▸ rfl
      rw [hsame]
      rcases hst with h | h
      · rw [h]
        rfl
      · rw [h]
        rfl
    have hgo : rampGo u [(d, true)] = { v with pwr := { v.pwr with rampq := [] } } := by
      simp only [rampGo, hfree, hdiff, Bool.false_eq_true, if_false, if_true, hv]
    have hask : rampAsk s d true = rampGo u [(d, true)] := by
      rw [rampAsk, hq, ← hu]
      rfl
    rw [domStart, hends, hask, hgo]
  obtain ⟨w, hw⟩ : ∃ w : State, { u with pwr := { u.pwr with doms := u.pwr.doms.set {} d { st := .switching, toOn := true } } } = w := ⟨_, rfl⟩
  have hrun : v = if holds w 1 3 d then faultFall w 1 3 d else w := by
    rw [← hv, ← hw]
    rfl
  have hdom : w.pwr.doms.get {} d = { st := .switching, toOn := true } := by
    rw [← hw]
    exact SMap.get_set_same ..
  have hframe : AgreeBut [.flt, .pwr] s w := fun p hp => by
    simp at hp
    simp [← hw, ← hu, hp]
  have hfall : v.pwr = w.pwr ∧ holds v 1 3 d = false ∧ AgreeBut [.flt] w v := by
    rw [hrun]
    split
    · exact ⟨faultFall_pwr .., holds_faultFall_same .., fun p hp => faultFall_part p (by simpa using hp) _ _ _ _⟩
    · exact ⟨rfl, Bool.eq_false_iff.mpr ‹_›, .refl _ _⟩
  obtain ⟨hpwr, hholds, hvframe⟩ := hfall
  refine ⟨_, hstart, ?_, hholds, fun p hp => ?_⟩
  · exact (congrArg (fun x : PwrSt => x.doms.get {} d) hpwr).trans hdom
  · have hpart : ({ v with pwr := { v.pwr with rampq := [] } } : State).part p = v.part p := by
      simp at hp
      simp [hp]
    exact hpart.trans ((hvframe.mono (by simp) p hp).trans (hframe p hp))

/-- What a switch on by the host does to a domain that is OFF or tripped and has no switch off of its own waiting (R523, R527, R529). -/
theorem domSwitchOn_begins {s : State} {slot : Fin 4} {d : Fin 128} (hmay : ownerMay s slot .pwrDomCmd [] = true) (hd : d.val < 96)
    (hhost : hostDom d.val = true ∨ domSt s d.val = .tripped) (hst : domSt s d.val = .off ∨ domSt s d.val = .tripped)
    (hwait : (s.pwr.doms.get {} d.val).waitSet = false) (hq : s.pwr.rampq = []) (hroom : ramping s < 32) :
    ∃ t, exec (.domSwitchOn slot d) s = .next t ∧ t.acc = (stOk, 0) ∧ t.pwr.doms.get {} d.val = { st := .switching, toOn := true } ∧
      holds t 1 3 d.val = false ∧ AgreeBut [.acc, .flt, .pwr] s t := by
  obtain ⟨t, hend, hdom, hholds, hframe⟩ := domStart_on hst hq hroom
  have hallowed : (!hostDom d.val && !(true && domSt s d.val == .tripped)) = false := by
    rcases hhost with h | h
    · simp [h]
    · simp [h]
  have hcmd : domCmd s d.val true = t := by
    rw [domCmd, if_neg (by omega), if_neg (by rw [hallowed]; exact Bool.false_ne_true), domThere_off hst hq, if_neg Bool.false_ne_true, if_pos rfl, hwait,
      if_neg Bool.false_ne_true, hend]
  have hwrite := ownWrite_of_writeReg hmay (hcmd ▸ pwrDomCmd_write s d) rfl rfl (by decide) (by decide)
  exact ⟨_, congrArg Host.Outcome.next hwrite, rfl, hdom, hholds, AgreeBut.acc (by simp) _ (hframe.mono (by simp))⟩

/-- Domain 0 is OFF, and a switch off of it still waits for an armed set. -/
def waitingOffState : State := { ownedState with
  pwr := { ownedState.pwr with doms := ownedState.pwr.doms.set {} 0 { st := .off, waitSet := true } } }

/-- Refutes O58: the clause on a switch on of a domain that is OFF does not exclude a domain for which a switch off still waits (R528).
There the command only takes that wait back, and the domain stays OFF. What fails is the clause's range, and not R523 or R527:
domSwitchOn_begins proves the clause where no switch off waits, and no run to the state that refutes it is claimed. -/
theorem not_domainsReferencesReset : ¬ Obligations.DomainsReferencesReset := by
  unfold Obligations.DomainsReferencesReset
  rintro ⟨-, -, hbegins, -⟩
  obtain ⟨t, hexec, -, hdom, -⟩ := hbegins 0 0 waitingOffState (by decide +kernel) (by decide) (Or.inl (by decide)) (Or.inl (by decide +kernel))
    rfl (by decide +kernel)
  have ht : ownWrite waitingOffState 0 .pwrDomCmd [] (mkF 31 30 3 ||| mkF 6 0 0) = t := Host.Outcome.next.inj hexec
  have hoff : (t.pwr.doms.get {} 0).st = .off := by
    rw [← ht]
    decide +kernel
  have hswitching : (t.pwr.doms.get {} 0).st = .switching := congrArg Dom.st hdom
  exact absurd (hoff.symm.trans hswitching) (by decide)

end Sys2Proof.Machine
end
